-- ==== Sys2Proof/Word.lean ====
section
/-!
DEFINITION. The machine's words and the plainest arithmetic on them: 32-bit registers (R99), bytes, and
the place of a field within a register.
-/

set_option Elab.async false

namespace Sys2Proof

/-- A register of any page: 32 bits wide (R99). -/
abbrev Word := BitVec 32

/-- A byte of a memory, a frame or a message. -/
abbrev Byte := BitVec 8

/-- A field of a register: its register's offset in the page, its lowest bit, its width. -/
structure Fld where
  off : Nat
  lo  : Nat
  w   : Nat
  deriving DecidableEq, Repr

/-- The access codes of Table SCP-4. -/
inductive Acc where
  | ro | rw | rws | rwl | rc | wo | w1c | sc
  deriving DecidableEq, Repr

/-- One field of a register table: lowest bit, width, access code, reset value. -/
structure FieldSpec where
  lo  : Nat
  w   : Nat
  acc : Acc
  rst : Nat
  deriving DecidableEq, Repr

/-- One row of a register table: the offset of its first register, the strides and counts of its indices
(outermost first), its fields. -/
structure RegRow where
  off    : Nat
  dims   : List (Nat × Nat)
  fields : List FieldSpec
  deriving DecidableEq, Repr

/-- The value of a field within a register's value. -/
def Word.field (v : Word) (lo w : Nat) : Nat := (v.toNat >>> lo) % 2 ^ w

/-- A register's value with a field replaced; the value is cut to the field's width. -/
def Word.withField (v : Word) (lo w x : Nat) : Word :=
  let mask : Word := BitVec.ofNat 32 ((2 ^ w - 1) <<< lo)
  (v &&& ~~~mask) ||| (BitVec.ofNat 32 ((x % 2 ^ w) <<< lo) &&& mask)

end Sys2Proof
end

