-- ==== Sys2Proof/Syntax.lean ====
section
/-!
DEFINITION. The commands of the TX964 block: the steps of the spec's operations table, each with the
operands that say where and on what it falls. A time within a turn is an offset in blk from the turn's
boundary (`off`); what the block's surroundings decide (a self-test's result, a measured level, a
received frame) is an operand.
-/

set_option Elab.async false

namespace Sys2Proof

/-- A line port, 0 to 7. -/
abbrev Port := Fin 8

/-- A port pair, 0 to 3: ports 2p and 2p + 1. -/
abbrev Pair := Fin 4

/-- A pipeline instance: 0 is P0, 1 is P1 (R23). -/
abbrev Pipe := Fin 2

/-- The loss indicators of R69, in the order of its list (codes 1 to 6 of LOSS_CAUSE). -/
inductive LossCause where
  | los | pcsAlign | fecAlign | rateRange | phaseGuard | admin
  deriving DecidableEq, Repr

/-- What the Windlass measures at a turn boundary: the rate recovered at each port that has one, in 0.001 ppm against nominal
(R65), the phase between the count and the block slots of the port that disciplines the flywheel, and, where a port is taken at
this boundary, the phase between the count and that port's block slots (R71), both in 1/256 blk; and the offset of the clock the
Ryuklin reference is taken from against LREF, in 0.001 ppm (R197). -/
structure TurnMeasure where
  rates : List (Port × Int)
  phase : Int
  taken : Int
  ref : Int
  deriving DecidableEq, Repr

/-- A lane by its LAN instance: 0 to 31 line, 32 to 159 Ryuklin, 160 and 161 management, 162 Priming in,
163 Priming out (R147, R148). -/
abbrev LaneIx := Fin 164

/-- An optical engine, 0 to 7 line, 8 to 15 link (Table OPE-1). -/
abbrev Engine := Fin 16

/-- A channel of an optical engine; line engines have channels 0 to 3. -/
abbrev Channel := Fin 8

/-- What an engine's own monitors find (R214): the current of laser `k` in 0.01 mA, a channel's tap without power while its laser's
current is above threshold, heater `h` open or shorted, a multiplexer's or demultiplexer's among them. -/
inductive OptFault where
  | laser (k : Fin 4) (current : Nat)
  | noLight (c : Channel)
  | heater (h : Fin 16)
  deriving DecidableEq, Repr

/-- The lock whose loss takes a port's link (R246): PCS block lock, PCS alignment, RS-FEC alignment. -/
inductive LinkPart where
  | block | align | fec
  deriving DecidableEq, Repr

/-- An item of a pipeline store (R280, R290): a frame-store cell, a reassembly cell, a window slot, a cache way. -/
inductive StoreItem where
  | cell (n : Fin 13312)
  | reasm (n : Fin 8192)
  | slot (n : Fin 256)
  | way (n : Fin 131072)
  deriving DecidableEq, Repr

/-- A score record (Table STG-18). -/
structure ScoreRec where
  inst : Fin 2
  port : Fin 8
  pseq : BitVec 32
  tier : Fin 4
  verdict : Fin 8
  copy : Bool
  void : Bool
  last : Bool
  score : BitVec 8
  tag : BitVec 16
  deriving DecidableEq, Repr

/-- A Ryuklin link, 0 to 63. -/
abbrev RykLink := Fin 64

/-- A frame received on a Ryuklin link: SOF fields, header block, payload bytes in whole blocks, the CRC of EOF
(Tables RYK-1, RYK-3). -/
structure RykRx where
  vc : Fin 4
  cls : Fin 2
  seq : BitVec 12
  header : BitVec 64
  payload : List (BitVec 8)
  crc : BitVec 32
  deriving DecidableEq, Repr

/-- What waits for a delivery ring: diverted primaries and EAPOL frames, host copies, captures. -/
inductive Deliver where
  | divert | copy | capture
  deriving DecidableEq, Repr

/-- A part of the pipeline whose uncorrectable error is a trigger (R277, R366): S8's join store, S11's queues, the GCM
engine of S1 or S10 of an instance, the Sump. -/
inductive PipeUnit where
  | join (i : Pipe) | spout (i : Pipe) | unsealer (i : Pipe) | sealer (i : Pipe) | sump
  deriving DecidableEq, Repr

/-- A word on a tap's return stream (R380): a score record, an FT2 annotation, an FT4 reply, an invalid kind. -/
inductive TapWord where
  | score (r : ScoreRec)
  | annotation (handle : BitVec 32) (b : List (BitVec 8)) (mask : BitVec 16)
  | reply (port : Port) (pseq : BitVec 32) (verdict : Fin 8) (copy : Bool)
  | invalid
  deriving DecidableEq, Repr


/-- A packet that a tile's program offers to its router (Table TNW-3): the head's fields, inline payload, data flits. -/
structure TilePacket where
  /-- The side at whose edge router the sender stands (Table TNW-2); none for the tile itself. -/
  side : Option (Fin 4)
  dest : BitVec 8
  type : Fin 16
  tag : BitVec 16
  addr : BitVec 40
  aux : BitVec 24
  inline : List (BitVec 8)
  data : List (List (BitVec 8))
  deriving DecidableEq, Repr


/-- What an access to DDR5 meets (R537, R538): a corrected error, one that a retry repairs, one that the last retry
leaves. -/
inductive ReadErr where
  | corrected | retried | failed
  deriving DecidableEq, Repr

/-- An error of a Cistern bank's SRAM (R561): corrected, or uncorrectable in the cached line of a tag, or in a staging
line. -/
inductive CstError where
  | corrected
  | line (tag : BitVec 32)
  | staging (n : Fin 4096)
  deriving DecidableEq, Repr


/-- A part of configuration space that a configuration read asks for (Table PCI-1). -/
inductive CfgReg where
  | vendor | device | subsystem | classCode | bar0Size | totalVfs | firstVf | vfStride | vfBar0Size | numVfs | vfEnable | busMaster
  | interruptPin | msixSize | maxPayload | ctoRanges | ctoValue
  deriving DecidableEq, Repr

/-- What a configuration write sets: Bus Master Enable, MSI-X Enable and Function Mask, ARI Capable Hierarchy, NumVFs,
Max Read Request Size, 10-Bit Tag Requester Enable and Extended Tag Field Enable. -/
inductive CfgWrite where
  | setBusMaster
  | msix (enable mask : Bool)
  | ari (on : Bool)
  | numVfs (n : BitVec 16)
  | readSize (k : Fin 8)
  | tags (ten ext : Bool)
  deriving DecidableEq, Repr

/-- A configuration request. -/
inductive CfgReq where
  | read (r : CfgReg)
  | write (w : CfgWrite)
  deriving DecidableEq, Repr

/-- What resets the endpoint (R605). -/
inductive EndReset where
  | perst | hot | linkDown
  deriving DecidableEq, Repr


/-- A matrix operation (R458 to R468): format bytes, reduction length and columns, addresses of inputs, weights, outputs
and MX scale arrays in local store, BIN1 readings, the requantisation (multiplier, shift, zero point) and FP32 scale of
each column, and the calibration epoch that the sample block names. Weights lie column by column, in weight bank 0 and in weight
bank 1 (R411, R412). `accRow` is the word of the columns' accumulators; `onto` adds to what it holds. -/
structure MatWork where
  inFmt : BitVec 8
  wFmt : BitVec 8
  outFmt : BitVec 8
  k : Nat
  n : Nat
  inAddr : BitVec 20
  wAddr : BitVec 20 × BitVec 20
  outAddr : BitVec 20
  inScale : BitVec 20
  wScale : BitVec 20 × BitVec 20
  outScale : BitVec 20
  inPm : Bool
  wPm : Bool
  requant : List (BitVec 16 × Fin 48 × BitVec 32)
  scales : List (BitVec 32)
  epoch : BitVec 8
  accRow : Fin 128
  onto : Bool
  deriving DecidableEq, Repr

/-- What a vector tile computes: in each lane a * b + c or a special function of a; across the lanes the sum, the largest or the
smallest of the elements of a, or its `k` largest in descending order (R409). -/
inductive VecFn where
  | fma | exp | log2 | recip | rsqrt | tanh
  | sum | max | min
  | top (k : Nat)
  deriving DecidableEq, Repr

/-- A vector operation, element by element in FP32 or INT32 lanes, with the calibration epoch of its samples (R461, R470, R485).
`pm` gives the BIN1 readings of a, b and c; `scaleAddr` the MX scale arrays of a, b, c and the result; requantisation and FP32
scale of each element where the operation names them. -/
structure VecWork where
  fn : VecFn
  lanesInt : Bool
  n : Nat
  aFmt : BitVec 8
  bFmt : BitVec 8
  cFmt : BitVec 8
  outFmt : BitVec 8
  aAddr : BitVec 20
  bAddr : BitVec 20
  cAddr : BitVec 20
  outAddr : BitVec 20
  pm : Bool × Bool × Bool
  scaleAddr : BitVec 20 × BitVec 20 × BitVec 20 × BitVec 20
  requant : List (BitVec 16 × Fin 48 × BitVec 32)
  scales : List (BitVec 32)
  epoch : BitVec 8
  deriving DecidableEq, Repr

/-- What an operation of a tile program does: a matrix or vector operation of the forms above, or what the program's
opaque code writes and counts (R411). -/
inductive TileWork where
  | matrix (w : MatWork)
  | vector (w : VecWork)
  | program (writes : List (BitVec 20 × List (BitVec 8))) (fmt : BitVec 8) (sat flush : Nat)
  deriving DecidableEq, Repr

/-- How an operation ends of its own (Table MTL-3). -/
inductive OpEnd where
  | ok | bound | nodeDown | poison
  deriving DecidableEq, Repr


/-- Whose drive words are recomputed: an optical engine's, with the targets its loops have changed and the wavelength errors its
etalons measure, in 0.001 nm, or the mesh's, with its temperature in 0.125 °C. -/
inductive HeaterJob where
  | engine (e : Engine) (targets : List (Fin 16 × BitVec 16)) (errs : List (Fin 4 × BitVec 16))
  | mesh (temp : BitVec 16)
  deriving DecidableEq, Repr

/-- A heater: of an optical engine, or of the Lightwell's mesh (R209, R498). -/
inductive HeaterRef where
  | engine (e : Engine) (h : Fin 16)
  | mesh (h : Fin 4032)
  deriving DecidableEq, Repr

/-- What a calibration step measures (R500 to R503): offsets and gains of the outputs in 2^-8 ADC codes, the residue in
codes, the movements of heater trims. -/
structure CalMeasure where
  offsets : List (BitVec 16)
  gains : List (BitVec 32)
  resid : BitVec 8
  trims : List (Fin 4032 × Int)
  deriving DecidableEq, Repr

/-- What the Lightwell finds of an item (Table LWL-5): a laser's current and whether it gives light, an input's DAC or
modulator self-check, an output's ADC self-check or offset, a cell's heater open or short. -/
inductive LwlFault where
  | laser (l : Fin 4) (current : BitVec 16) (light : Bool)
  | dac (c : Fin 64)
  | adc (c : Fin 64) (offset : Option (BitVec 8))
  | heater (n : Fin 2016)
  deriving DecidableEq, Repr

/-- An item of the Lightwell that a REINSTATE bit names. -/
inductive LwlItem where
  | input (c : Fin 64)
  | output (c : Fin 64)
  | cell (n : Fin 2016)
  deriving DecidableEq, Repr

/-- A requester of the cryptographic module (R769). -/
inductive Requester where
  | controller | firmware | pf0 | jtag
  deriving DecidableEq, Repr

/-- A continuous or conditional test of the module (Table SEC-8). -/
inductive HealthTest where
  | rct | apt | pct | drbg
  deriving DecidableEq, Repr

/-- What a firmware image is to the machine: its version, its interface major and minor, its feature bitmap, and which state
blocks of Table CPC-9 it adopts, bit b for block b + 1. -/
structure FwImage where
  version : Word
  major : BitVec 8
  minor : BitVec 8
  bitmap : BitVec 64
  adopts : BitVec 8
  deriving DecidableEq, Repr

/-- What a fabric image declares at a tap (R382): consumers (SCORE, ANNOT, REPLY) and their regions. -/
structure TapDecl where
  tap : Fin 4
  kinds : BitVec 3
  regions : Word
  deriving DecidableEq, Repr

/-- A routing entry the firmware rewrites after a change of membership (R699, R703): RT_GROUP or RT_MEMBER, index, value. -/
structure RouteWrite where
  group : Bool
  index : BitVec 8
  value : BitVec 16
  deriving DecidableEq, Repr

/-- A chunk that a collective's plan sends next: the chip it goes to, its step, its chunk index (R695 to R697). -/
structure PlanSend where
  dest  : BitVec 16
  step  : BitVec 16
  chunk : BitVec 32
  deriving DecidableEq, Repr

/-- The commands of the block: one constructor for each row of the operations table. -/
inductive Instr where
  /-- TURN_BOUNDARY (R85). The Windlass count crosses a turn boundary and applies holdover completion, anchor changes, every block's turn-boundary effects and the marks in order. -/
  | turnBoundary (meas : TurnMeasure)
  /-- WINDLASS_EXIT_STOPPED (R96). The main-domain reset is released with the line reference PLL locked, so the Windlass loads WDL_PRESET and enters FREE. -/
  | windlassExitStopped
  /-- ANCHOR_LOSS (R69). A loss indicator on the active anchor freezes discipline and enters HOLDOVER with LOSS_CAUSE recorded. -/
  | anchorLoss (off : Nat) (cause : LossCause)
  /-- PORT_QUALIFIED (R65). A port has been in lock for 16 uninterrupted turns and becomes qualified. -/
  | portQualified (off : Nat) (p : Port)
  /-- SLEW_LOCK (R71). The rate difference falls below 0.05 ppm with the phase held for one turn, so the Windlass enters LOCKED. -/
  | slewLock
  /-- LEARNED_SET (R70). After 16 uninterrupted turns in LOCKED, LEARNED is set. -/
  | learnedSet
  /-- WDL_PRESET_WRITE (R95). A write to WDL_PRESET is stored, and while the Windlass is STOPPED the held count follows it at once. -/
  | wdlPresetWrite (off : Nat) (high : Bool) (v : Word)
  /-- WDL_COUNT_LO_READ (R97). A full-width read of WDL_COUNT_LO returns the count and latches bits [63:32] into WDL_COUNT_HI. -/
  | wdlCountLoRead (off : Nat)
  /-- MARK_ARM (R74). A write of MARK_CTL.ARM copies the shadow count and period into the mark's comparator and clears FIRED_CNT. -/
  | markArm (off : Nat) (m : Fin 64) (ctl : Word)
  /-- MARK_FIRE (R77). The master count equals a mark's comparator, and the mark performs its IRQ, SNAP, PIN and CPC actions. -/
  | markFire (m : Fin 64)
  /-- FULL_COUNT_BROADCAST (R78). Every 4,096 blk the core sends the full count to every follower for resynchronisation. -/
  | fullCountBroadcast (off : Nat) (gray bad : List Nat)
  /-- LREF_LOSS (R196). Loss of LREF stops the line, management and Priming lanes and places a running Windlass in FAULT. -/
  | lrefLoss (off : Nat)
  /-- REGISTER_WRITE (R109). A write to a register without a row of its own is split, performed and checked under the access rules. -/
  | registerWrite (off : Nat) (fn : Fin 62) (addr : BitVec 26) (data : List (Option (BitVec 8)))
  /-- RC_COUNTER_READ (R113). A full-width read of a register holding an RC field returns it and clears the field. -/
  | rcCounterRead (off : Nat) (fn : Fin 62) (addr : BitVec 26) (be : List Bool)
  /-- COUNTER_LO_READ (R268). A full-width read of a 64-bit counter's _LO register latches _HI and clears the counter. -/
  | counterLoRead (off : Nat) (page : BitVec 14) (o : BitVec 12)
  /-- UNASSIGNED_PAGE_ACCESS (R103). An access to an unassigned page slot reads 0 or drops the write, and is recorded in GBL_UNMAPPED_ADDR. -/
  | unassignedPageAccess (off : Nat) (addr : BitVec 26) (write : Bool)
  /-- RESTARTING_PAGE_ACCESS (R143). An access to a non-answering PF0 page during a restart returns all ones or drops the write, and is recorded. -/
  | restartingPageAccess (off : Nat) (addr : BitVec 26) (write : Bool)
  /-- STATE_MISMATCH (R126). A request's target has not been reached by the fourth counted boundary, so MISMATCH and reason STATE_MISMATCH are raised. -/
  | stateMismatch (off : Nat) (page : BitVec 14)
  /-- UNIT_SELFTEST_DONE (R124). A unit's self-test from PRIMED completes and the unit enters READY, or RETIRED or FAULT on failure. -/
  | unitSelftestDone (off : Nat) (page : BitVec 14) (pass : Bool)
  /-- REINSTATE_SELFTEST_DONE (R123). A reinstate self-test ends, moving the unit to READY or leaving it RETIRED with REINSTATE_FAIL. -/
  | reinstateSelftestDone (off : Nat) (page : BitVec 14) (pass : Bool)
  /-- SNAPSHOT_TRIGGER (R128). A write of SNAP_CTL.TRIGGER copies the page's counter registers at one count. -/
  | snapshotTrigger (off : Nat) (page : BitVec 14) (ctl : Word)
  /-- SNAP_ALL (R128). GBL_CTL.SNAP_ALL takes a snapshot on every snapshot-capable page at one count. -/
  | snapAll (off : Nat)
  /-- PAGE_LOCK_SET (R132). Writing PAGE_LOCK.LOCK locks the page's RWL fields. -/
  | pageLockSet (off : Nat) (page : BitVec 14)
  /-- LOCK_ALL (R132). GBL_CTL.LOCK_ALL sets LOCK on every assigned PF0 page at one instant. -/
  | lockAll (off : Nat)
  /-- SIGNAL_DETECT_RISE (R178). A lane's signal detect rises, starting a training attempt or cycle. -/
  | signalDetectRise (off : Nat) (l : LaneIx)
  /-- LOSS_OF_SIGNAL (R179). Loss of signal ends a lane's training and places it in NO_PARTNER. -/
  | lossOfSignal (off : Nat) (l : LaneIx)
  /-- TRAINING_WORD_RX (R171). A valid training word is received, and any new request is applied to the transmitter and reported in the STS fields. -/
  | trainingWordRx (off : Nat) (l : LaneIx) (marker : BitVec 64) (word : BitVec 40) (rxDone : Bool) (ask : BitVec 9)
  /-- TRAINING_ATTEMPT_TIMEOUT (R177). A full attempt not UP within 32 ms fails, leading to BACKOFF or NO_PARTNER. -/
  | trainingAttemptTimeout (off : Nat) (l : LaneIx)
  /-- BACKOFF_EXPIRY (R177). A backoff gap elapses and the next attempt starts. -/
  | backoffExpiry (off : Nat) (l : LaneIx)
  /-- NO_PARTNER_RETRY (R178). The 1 s timer in NO_PARTNER starts a new cycle of attempts while signal is present. -/
  | noPartnerRetry (off : Nat) (l : LaneIx)
  /-- DATA_START (R175). Both directions have shown RX_READY and REF_OK for 8 frames, so the lane begins 64b/66b at a frame boundary. -/
  | dataStart (off : Nat) (l : LaneIx)
  /-- BLOCK_LOCK (R162). 64 consecutive valid sync headers give block lock and start the lane test. -/
  | blockLock (off : Nat) (l : LaneIx) (headers : List (Fin 4))
  /-- BLOCK_LOCK_TIMEOUT (R175). Block lock has not come 1 ms after DATA_START, so the attempt fails. -/
  | blockLockTimeout (off : Nat) (l : LaneIx)
  /-- BLOCK_LOCK_LOSS (R162). 16 invalid headers in 64 blocks lose block lock, and a lane in UP enters FAST_RETRAIN. -/
  | blockLockLoss (off : Nat) (l : LaneIx) (headers : List (Fin 4))
  /-- LANE_TEST_DONE (R176). The lane test over its block count ends, making the lane UP or failing the attempt. -/
  | laneTestDone (off : Nat) (l : LaneIx) (invalid : Nat)
  /-- FAST_RETRAIN_TIMEOUT (R180). A fast retrain not complete within 1.5 ms fails and begins full attempts. -/
  | fastRetrainTimeout (off : Nat) (l : LaneIx)
  /-- ERROR_INTERVAL (R185). A run of 2^20 blocks or code groups with more than 16 invalid ones counts as a transient event. -/
  | errorInterval (off : Nat) (l : LaneIx) (invalid : Nat)
  /-- LEAK_DECREMENT (R186). At a boundary whose turn number is a multiple of LEAK_PERIOD, WINDOW_CNT decreases by one. -/
  | leakDecrement (page : BitVec 14) (ch : Option Channel)
  /-- WANDER_SLIP (R158). A wander buffer passes ±16 blocks and recentres, losing or repeating one block. -/
  | wanderSlip (off : Nat) (l : LaneIx) (drift : Int)
  /-- CODE_GROUP_SYNC (R164). The Priming-in receiver acquires or loses 8b/10b code-group synchronisation. -/
  | codeGroupSync (off : Nat) (l : LaneIx) (groups : List (BitVec 10))
  /-- AN_RESTART (R163). A write of LAN_AN_CTL.AN_RESTART restarts Clause 37 autonegotiation on a management lane. -/
  | anRestart (off : Nat) (k : Fin 2) (ctl : Word)
  /-- LANE_SELFCHECK_FAIL (R199). The macro's self-check finds a transmitter or receiver failed, so the lane enters FAULT or retires. -/
  | laneSelfcheckFail (off : Nat) (l : LaneIx)
  /-- CANDIDATE_QUALIFIED (R156). A reference candidate's lane has held CDR lock for 1 ms and qualifies, and an acquiring follower takes it. -/
  | candidateQualified (off : Nat) (k : Fin 4)
  /-- CANDIDATE_LOSS (R156). The active reference candidate fails, and the follower takes the next qualified candidate within 100 µs. -/
  | candidateLoss (off : Nat) (k : Fin 4)
  /-- RREF_LOSS (R197). A ROOT loses RREF and its reference enters HOLDOVER. -/
  | rrefLoss (off : Nat)
  /-- LOS_ASSERT (R203). An optical channel's received power falls below ASSERT and LOS is asserted. -/
  | losAssert (off : Nat) (e : Engine) (c : Channel) (power : Nat)
  /-- LOS_DEASSERT (R203). Received power has stayed at or above DEASSERT for 100 µs, so LOS deasserts. -/
  | losDeassert (off : Nat) (e : Engine) (c : Channel) (power : Nat)
  /-- APR_ENTRY (R212). Every channel of an APR group has been in LOS for 500 µs, so the group darkens. -/
  | aprEntry (off : Nat) (e : Engine) (g : Fin 4)
  /-- APR_PULSE (R212). A periodic 500 ms timer starts a 2 ms restart pulse at normal power. -/
  | aprPulse (off : Nat) (e : Engine) (g : Fin 4)
  /-- APR_PULSE_END (R212). A restart pulse's 2 ms elapse and the group darkens again. -/
  | aprPulseEnd (off : Nat) (e : Engine) (g : Fin 4)
  /-- APR_RESTART (R212). A write of OPE_APR.RESTART emits one restart pulse at once. -/
  | aprRestart (off : Nat) (e : Engine) (v : Word)
  /-- LASER_WARM (R204). A warming laser reaches its target power, and its channel moves to LOCKING or LIT. -/
  | laserWarm (off : Nat) (e : Engine) (c : Channel)
  /-- WAVELENGTH_LOCKED (R207). A line laser has held its error within ±0.10 nm for 1 ms, so the channel reports LOCKED and lights. -/
  | wavelengthLocked (off : Nat) (e : Engine) (c : Channel) (err : BitVec 16)
  /-- WAVELENGTH_UNLOCK (R207). The wavelength error passes ±0.30 nm, raising UNLOCK and one transient event. -/
  | wavelengthUnlock (off : Nat) (e : Engine) (c : Channel) (err : BitVec 16)
  /-- OFFGRID (R207). The wavelength error passes ±0.90 nm and the channel darkens into OFFGRID. -/
  | offgrid (off : Nat) (e : Engine) (c : Channel) (err : BitVec 16)
  /-- LOCK_FAILURE (R208). A channel is 50 ms in LOCKING without lock and returns to WARMING, retiring on the third failure in a row. -/
  | lockFailure (off : Nat) (e : Engine) (c : Channel)
  /-- HEATER_DRIVE_UPDATE (R209). Every 1 µs the compensated heater drive words are recomputed. -/
  | heaterDriveUpdate (off : Nat) (j : HeaterJob)
  /-- CLAMP_HOLD (R210). A heater held at a clamp for 1 ms counts one transient event of its owners. -/
  | clampHold (off : Nat) (h : HeaterRef)
  /-- CHANNEL_FAULT_DETECT (R214). Laser end of life, no light, a heater fault or the threshold retires an optical channel. -/
  | channelFaultDetect (off : Nat) (e : Engine) (found : OptFault)
  /-- CH_REINSTATE (R215). A write of CH_CTL.REINSTATE starts a retired channel's self-test at the next boundary. -/
  | chReinstate (off : Nat) (e : Engine) (c : Channel) (v : Word)
  /-- CH_REINSTATE_DONE (R215). A channel's reinstate self-test ends and the channel returns to LIT or stays RETIRED. -/
  | chReinstateDone (off : Nat) (e : Engine) (c : Channel) (pass : Bool)
  /-- ENGINE_OVER_TEMP (R238). An engine passes 95 °C or falls below 90 °C, so its channels enter or leave THERMAL. -/
  | engineOverTemp (off : Nat) (e : Engine) (temp : BitVec 16)
  /-- ENGINE_CONTROLLER_FAIL (R237). An optical engine's controller fails, faulting a line engine or retiring every channel of a link engine. -/
  | engineControllerFail (off : Nat) (e : Engine)
  /-- ISLAND_POWER_ON (R239). Island power-good rises, the straps are latched into BYP_POLICY, every pair is engaged and the line engines start. -/
  | islandPowerOn (off : Nat) (straps : BitVec 8)
  /-- ISLAND_SUPPLY_FAIL (R235). The island supply fails, and every line transmitter goes dark or idle and the line path stops. -/
  | islandSupplyFail (off : Nat)
  /-- HEARTBEAT_LOSS (R222). The main domain's internal heartbeat has not toggled for 4 µs, which engages all pairs. -/
  | heartbeatLoss (off : Nat)
  /-- MAIN_PG_FALL (R804). MAIN_PG falls, engaging all pairs and triggering the safe state. -/
  | mainPgFall (off : Nat)
  /-- MAIN_UNDERVOLTAGE (R875). A main rail stays below 92 % of nominal for 5 µs and is treated as MAIN_PG low. -/
  | mainUndervoltage (off : Nat)
  /-- BYP_FORCE_N_LOW (R222). BYP_FORCE_N goes low and engages all pairs. -/
  | bypForceNLow (off : Nat)
  /-- BYP_FORCE_WRITE (R222). A write setting BYP_CTL.FORCE bit p engages that pair. -/
  | bypForceWrite (off : Nat) (v : Word)
  /-- RESET_N_FALL (R859). RESET_N goes low, engaging all pairs and returning the main domain to reset. -/
  | resetNFall (off : Nat) (withPg : Bool)
  /-- RESET_N_RISE (R847). RESET_N rises and the security island leaves reset. -/
  | resetNRise (off : Nat)
  /-- BYP_POLICY_WRITE (R225). A BYP_POLICY write takes effect at the next boundary, or at once while the Windlass is STOPPED. -/
  | bypPolicyWrite (off : Nat) (v : Word)
  /-- INTAKE (R243). S0 receives a frame whole, stamps it, latches the pair policies into its descriptor, stores its cells and checks it. -/
  | frameIntake (off dur : Nat) (p : Port) (b : List (BitVec 8)) (trunc code badFcs : Bool) (ti corr uncorr : Nat)
  /-- CAPTURE_DEADLINE (R351). A capture not accepted by its ring within CAP_DL is counted in CAP_LOST and its cells are released. -/
  | captureDeadline (off n : Nat)
  /-- LINK_LOSS (R246). A line port loses PCS or FEC lock, which counts a transient event and brings its transmit side down. -/
  | linkLoss (off : Nat) (p : Port) (part : LinkPart)
  /-- LINK_UP (R246). A line port regains block, alignment and FEC lock. -/
  | linkUp (off : Nat) (p : Port) (rate : Int)
  /-- PROPAGATION_REMOVE (R249). The partner has held link for LFP_HOLD turns, so propagation is removed. -/
  | propagationRemove (off : Nat) (p : Port)
  /-- RX_FAULT (R247). The RS receives Local or Remote Fault, which brings the transmit side down and sends the Clause 81 response. -/
  | rxFault (off : Nat) (p : Port) (remote : Bool)
  /-- UNSEAL (R256). S1 verifies and decrypts a frame with the receive SecY, or discards it under Table MSC-1. -/
  | unsealFrame (off : Nat) (i : Pipe)
  /-- SA_PN_WRITE (R261). A write of TX_SA_NPN or RX_SA_LPN is accepted only while the SA is out of use and clears EXHAUSTED or LPN_OVER. -/
  | saPnWrite (off : Nat) (p : Port) (tx : Bool) (c : Fin 8) (a : Fin 4) (high : Bool) (v : Word)
  /-- PARSE (R287). S2 parses the frame's first 256 B into a parse result and flags. -/
  | parseFrame (off : Nat) (i : Pipe)
  /-- FLOW_LOOKUP (R291). S3 looks a key up in the cache, the pending-miss table and then the DDR bucket. -/
  | flowLookup (off : Nat) (i : Pipe)
  /-- FLOW_MISS_RETURN (R291). A DDR bucket read returns and the frames waiting on that key are released in order. -/
  | flowMissReturn (off n : Nat) (bad : Bool)
  /-- MISS_LATE (R312). A pending miss passes MISS_LIMIT and its frames are released without a record. -/
  | missLate (off n : Nat)
  /-- RECORD_EXPIRY (R296). The sweeper finds a record idle beyond its timeout, clears VALID and increments the generation. -/
  | recordExpiry (off : Nat) (cached : Bool) (n : Nat)
  /-- ANNOTATION_RETURN (R311). An FT2 annotation is applied to the record when handle and generation match, or is counted stale. -/
  | annotationReturn (off : Nat) (i : Pipe) (handle : BitVec 32) (b : List (BitVec 8)) (mask : BitVec 16)
  /-- FT_INIT (R326). A write of FT_INIT starts clearing every record of the DDR flow table. -/
  | ftInit (off : Nat) (v : Word)
  /-- FT_INIT_DONE (R326). The table clear completes, INIT_DONE is raised and DDR lookups begin. -/
  | ftInitDone (off : Nat)
  /-- STREAM_ORDER (R298). S4 delivers in-sequence payload, holds out-of-order data or drops retransmissions. -/
  | streamOrder (off : Nat) (i : Pipe)
  /-- HOLE_HOLD_EXPIRY (R300). The oldest held data has waited HOLE_HOLD turns, so a gap is declared. -/
  | holeHoldExpiry (handle : BitVec 32) (dir : Fin 2)
  /-- FILE_CARVE (R303). S5 matches signatures, opens and closes objects and emits full windows. -/
  | fileCarve (off : Nat) (i : Pipe)
  /-- FEATURE_BUILD (R306). S6 builds the flow vector with the feature map in force and passes the windows on. -/
  | featureBuild (off : Nat) (i : Pipe)
  /-- STAGE_STALL (R285). A finished frame not accepted by its successor within ACCEPT_LIMIT goes to the Sump. -/
  | stageStall (off : Nat) (i : Pipe) (n : Fin 12)
  /-- STORE_ECC_ERROR (R321). An ECC error in a store or the cache is corrected and counted, or hands the frame to the Sump. -/
  | storeEccError (off : Nat) (i : Pipe) (it : StoreItem) (corrected : Bool) (frame : Option Nat)
  /-- SCORE_DISPATCH (R331). S7 dispatches a frame's vector and windows to the tiers and writes the required counts. -/
  | scoreDispatch (off : Nat) (i : Pipe)
  /-- SCORE_RECORD (R334). A score record reaches S8 and is joined to its frame or counted orphan. -/
  | scoreRecord (off : Nat) (r : ScoreRec)
  /-- JOIN_DEADLINE (R336). A frame's join deadline passes and it completes unscored under its policy. -/
  | joinDeadline (off : Nat) (p : Port) (pseq : BitVec 32)
  /-- ORDER_RELEASE (R339). S8 releases a joined frame to FT4 and S9 once its predecessors are released and S9 has space. -/
  | orderRelease (off : Nat) (i : Pipe)
  /-- FT4_REPLY (R340). An FT4 reply inside the window replaces the joined verdict and COPY. -/
  | ft4Reply (off : Nat) (p : Port) (pseq : BitVec 32) (verdict : Fin 8) (copy : Bool)
  /-- FT4_TIMEOUT (R32). No FT4 reply has arrived 64 blk after release, so S9 acts on the joined verdict. -/
  | ft4Timeout (off : Nat) (i : Pipe)
  /-- ACTION (R344). S9 forwards, marks, diverts or drops the primary and emits copies. -/
  | verdictAction (off : Nat) (i : Pipe)
  /-- DIVERT_DEADLINE (R343). The divert ring has not accepted a frame within DIVERT_DL, so it goes to the Sump. -/
  | divertDeadline (off n : Nat)
  /-- COPY_ACCEPT (R346). A copy's destination accepts it before its deadline and it counts as delivered. -/
  | copyAccept (off n : Nat) (buf : BitVec 64)
  /-- COPY_DEADLINE (R346). A copy not accepted before its deadline goes to the Sump with COPY_LATE. -/
  | copyDeadline (off n : Nat)
  /-- SEAL (R353). S10 corrects PTP residence, assigns a PN and seals the frame, or hands it to the Sump. -/
  | sealItem (off : Nat) (i : Pipe) (te : Nat)
  /-- SPOUT_TRANSMIT (R355). S11 begins transmitting the head of a queue, or hands it to the Sump as late or down. -/
  | spoutTransmit (off : Nat) (p : Port)
  /-- INJECTION_DESCRIPTOR (R620). An injection descriptor and its frame are read and queued, or refused. -/
  | injectionDescriptor (off : Nat) (index : BitVec 16) (port : BitVec 8) (len : BitVec 16) (cookie : Word) (b : List (BitVec 8))
  /-- TAP_RETURN_WORD (R380). The fabric returns a score, annotation or FT4 reply word, and bad words are discarded. -/
  | tapReturnWord (off : Nat) (tap : Fin 4) (i : Pipe) (w : TapWord)
  /-- CONFIG_SCRUB (R395). The scrubber reads a configuration frame, corrects single-bit errors or fences the region. -/
  | configScrub (off : Nat) (r : Fin 32) (corrected : Nat) (bad last : Bool)
  /-- BRAM_ERROR (R397). A block RAM ECC error is counted and may fence the region. -/
  | bramError (off : Nat) (r : Fin 32) (corrected : Bool)
  /-- FCG_LOCK_LOSS (R398). A fabric clock generator loses lock, enters FENCED and fences its regions. -/
  | fcgLockLoss (off : Nat) (k : Fin 16)
  /-- CLOCK_MONITOR_OUT (R399). A frequency monitor finds a domain OUT or STOPPED and applies the domain's consequence. -/
  | clockMonitorOut (off : Nat) (d : Fin 248) (khz : Option Word)
  /-- UREG_ACCESS (R384). An access to the user register window is forwarded to the fabric or dropped. -/
  | uregAccess (off : Nat) (o : Fin 8064) (data : Option Word) (answer : Word)
  /-- UREG_TIMEOUT (R384). A user-register read unanswered within 512 ns returns all ones and is counted. -/
  | uregTimeout (off : Nat) (o : Fin 8064)
  /-- PACKET_ROUTE (R420). A tile router grants a packet head on an output and forwards the packet by cut-through. -/
  | packetRoute (off : Nat) (r : Fin 128) (o : Fin 5) (offers : List TilePacket)
  /-- GTS_DROP (R424). A GTS head ungranted for 8,192 blk is discarded. -/
  | gtsDrop (off : Nat) (r : Fin 128) (o : Fin 5) (i : Fin 5)
  /-- PROG_START (R411). A write of PROG_CTL.START triggers a tile program slot. -/
  | progStart (off : Nat) (t : Fin 128) (k : Fin 4) (v : Word)
  /-- BATCH (R432). A BATCH packet triggers the named program slot on a tile. -/
  | batchPacket (off : Nat) (t : Fin 128)
  /-- TURN_TICK_TRIGGER (R411). A turn tick triggers a program slot with turn-tick trigger. -/
  | turnTickTrigger (t : Fin 128)
  /-- CPL (R413). A tile operation ends and its completion record is sent. -/
  | cpl (off : Nat) (t : Fin 128) (node : Word) (work : TileWork) (how : OpEnd) (more : Bool)
  /-- OPERATION_TIMEOUT (R411). An operation reaches its declared bound and ends with TIMEOUT. -/
  | operationTimeout (off : Nat) (t : Fin 128)
  /-- SCORE (R433). The score port forwards a SCORE record to S8. -/
  | scorePacket (off : Nat) (batch : Word) (r : ScoreRec) (poisoned remote : Bool)
  /-- SCORE_CLOSE (R433). The score port closes batch t SCORE_CLOSE blk before the boundary and sends VOID for missing items. -/
  | scoreClose (off : Nat)
  /-- KNOWN_ANSWER_CHECK (R446). Every CHECK_PERIOD turns a tile runs a known-answer operation. -/
  | knownAnswerCheck (off : Nat) (t : Fin 128) (ok : Bool)
  /-- LOCAL_STORE_ECC (R410). A local-store ECC error is corrected as a transient event or is uncorrectable. -/
  | localStoreEcc (off : Nat) (t : Fin 128) (corrected : Bool)
  /-- LINK_ECC_ERROR (R445). A tile-network link error is corrected, or the flit is poisoned. -/
  | linkEccError (off : Nat) (r : Fin 128) (i : Fin 5) (vc : Fin 4) (corrected : Bool)
  /-- ROUTER_FAULT (R447). An uncorrectable router error faults it and fences the whole network. -/
  | routerFault (off : Nat) (r : Fin 128)
  /-- PROBE_ARM (R436). Writing or clearing TNP_CTL.ARM opens or closes a probe window. -/
  | probeArm (off : Nat) (i : Fin 16) (v : Word)
  /-- WINDOW_PROJECT (R494). The Lightwell projects the head window of the ring to a consumer with a credit and writes the sample block. -/
  | windowProject (off : Nat)
  /-- CREDIT_RETURN (R494). A consumer returns a landing-slot credit with a CTL_WR. -/
  | creditReturn (off : Nat) (t : Fin 96)
  /-- CAL_STEP (R500). A gap calibration step of DARK or PROBE holds the mesh for 128 blk. -/
  | calStep (off : Nat) (m : CalMeasure)
  /-- CAL_FORCE (R501). At offset CAL_FORCE the steps still owed are forced. -/
  | calForce (off : Nat) (m : CalMeasure)
  /-- EPOCH_WRITE (R505). Once EPOCH_MIN boundaries have passed, the epoch table is written to every consumer. -/
  | epochWrite (off : Nat)
  /-- EPOCH_ACK (R505). All consumers have acknowledged, and blocks are tagged with the new epoch. -/
  | epochAck (off : Nat) (t : Fin 96)
  /-- CONSUMER_STALE (R506). A consumer answers an epoch write with NACK and becomes stale. -/
  | consumerStale (off : Nat) (t : Fin 96)
  /-- SETTLE_END (R497). LWL_SETTLE elapses and the first epoch of the new bank is done, so the Lightwell enters RUNNING. -/
  | settleEnd (off : Nat)
  /-- LWL_ITEM_FAULT (R515). A Lightwell laser, channel or cell retires under Table LWL-5. -/
  | lwlItemFault (off : Nat) (it : LwlFault)
  /-- LWL_REINSTATE (R516). A REINSTATE bit starts a Lightwell item's self-test. -/
  | lwlReinstate (off : Nat) (it : LwlItem)
  /-- LWL_CONTROLLER_FAIL (R517). The Lightwell controller or sample path fails and the core enters FAULT. -/
  | lwlControllerFail (off : Nat)
  /-- LWL_TABLE_ACCESS (R496). An access to LWL_TBL_DATA reads or writes the table word and may auto-increment. -/
  | lwlTableAccess (off : Nat) (v : Option Word)
  /-- CISTERN_READ_REQ (R527). A bank handles a RD_REQ as a hit, a merged miss or a new fill. -/
  | cisternReadReq (off : Nat) (b : Fin 16)
  /-- FILL_RETURN (R527). A DDR fill returns, the line is installed and every attached request is answered. -/
  | fillReturn (off : Nat) (b : Fin 16) (n : Fin 64)
  /-- OBJECT_TABLE_WRITE (R532). A write of the object table is refused for a live bank, or invalidates the cached lines. -/
  | objectTableWrite (off : Nat) (v : Word)
  /-- CISTERN_SRAM_ERROR (R561). A Cistern SRAM error is corrected, or the line is refetched or poisoned and retired to a spare. -/
  | cisternSramError (off : Nat) (b : Fin 16) (e : CstError)
  /-- DDR_READ_ERROR (R538). An uncorrectable DDR read is retried, returns poisoned after the final retry and retires the row unit. -/
  | ddrReadError (off : Nat) (c : Fin 8) (row : BitVec 24) (line : Fin 128) (e : ReadErr)
  /-- PATROL_SCRUB (R539). Every SCRUB_INTERVAL turns one row unit per channel is read and corrected. -/
  | patrolScrub (off : Nat) (c : Fin 8) (found : List (Fin 128 × ReadErr)) (ecs : Word)
  /-- SCRUB_LATE (R539). A patrol unit not complete within SCRUB_TMO is counted and left. -/
  | scrubLate (off : Nat) (c : Fin 8) (ecs : Word)
  /-- DMC_RETIRE_GO (R541). A write of DMC_RETIRE.GO retires the named row unit. -/
  | dmcRetireGo (off : Nat) (c : Fin 8) (v : Word)
  /-- ROW_COPY_DONE (R541). The row copy finishes and waiting requests proceed, followed by sPPR if enabled. -/
  | rowCopyDone (off : Nat) (c : Fin 8) (lost : List (Fin 128))
  /-- DMC_FAULT (R562). A channel faults on repeated parity error, training loss or spare exhaustion. -/
  | dmcFault (off : Nat) (c : Fin 8) (parity : Bool)
  /-- DIMM_THERMAL (R563). A DIMM above 95 °C halves its channel's command rate until below 90 °C. -/
  | dimmThermal (off : Nat) (c : Fin 8) (temp : BitVec 16)
  /-- RING_DOORBELL (R547). A write of RING_TAIL gives a Pump context new descriptors. -/
  | ringDoorbell (off : Nat) (p : Fin 32) (r : Fin 8) (tail : BitVec 16)
  /-- PUMP_CHUNK (R547). A Pump executes one chunk of up to 4 KiB of a descriptor in its round. -/
  | pumpChunk (off : Nat) (p : Fin 32) (host : List (BitVec 8))
  /-- DESCRIPTOR_COMPLETE (R547). A descriptor's last chunk completes and its completion record is written in ring order. -/
  | descriptorComplete (off : Nat) (p : Fin 32) (r : Fin 8)
  /-- PUMP_TIMEOUT (R551). A descriptor's oldest chunk waits PMP_TMO or DDR_TMO and completes with TIMEOUT. -/
  | pumpTimeout (off : Nat) (p : Fin 32) (r : Fin 8)
  /-- CONTEXT_HALT (R545). Clearing ENABLE halts a context, cancels its descriptors in progress and sets HALTED. -/
  | contextHalt (off : Nat) (p : Fin 32) (r : Fin 8)
  /-- BME_CLEAR (R554). An owner's Bus Master Enable clears and its contexts halt with ABORT_BME. -/
  | bmeClear (off : Nat) (fn : Fin 62)
  /-- PUMP_SELFCHECK_FAIL (R564). A Pump's self-check fails and it enters FAULT, cancelling descriptors. -/
  | pumpSelfcheckFail (off : Nat) (p : Fin 32)
  /-- NRG_CAP_WRITE (R568). An NRG_CAP write is clamped to range and to the floor, raising CAP_CLAMPED. -/
  | nrgCapWrite (off : Nat) (v : Word)
  /-- NRG_DEBT_ADD (R586). A write to NRG_DEBT_ADD adds to the debt, saturating with DEBT_SAT. -/
  | nrgDebtAdd (off : Nat) (v : Word)
  /-- PMBUS_POLL (R572). A READ_POUT transaction completes, is retried once, or marks the entry STALE after 3 cycles. -/
  | pmbusPoll (off : Nat) (r : Fin 8) (first retry : Option (BitVec 16))
  /-- POUT_MAX_READ (R571). Every 4,096 turns MFR_POUT_MAX is reread and P_AVAIL updated. -/
  | poutMaxRead (off : Nat) (maxes : List (Fin 8 × BitVec 16))
  /-- MEASUREMENT_WINDOW_CLOSE (R573). A boundary at a multiple of PM_PERIOD closes the window and latches PM_ENERGY and NRG_ACCT. -/
  | measurementWindowClose (off : Nat)
  /-- THERMAL_SAMPLE (R587). Die sensors are sampled every 1 µs, entering or leaving throttling at boundaries. -/
  | thermalSample (off : Nat) (temps : List (BitVec 16))
  /-- THERMAL_CRIT (R588). A sensor stays at or above CRIT for 10 µs and triggers the safe state. -/
  | thermalCrit (off : Nat)
  /-- LEDGER_FAULT (R598). An uncorrectable ledger error faults the NRG unit, voiding tier 2 and 3. -/
  | ledgerFault (off : Nat)
  /-- PWR_FAULT (R599). Loss of every sensor or a PWR error faults the unit and triggers the safe state. -/
  | pwrFault (off : Nat)
  /-- PERST_DEASSERT (R606). PERST# deasserts, the endpoint enters Detect and answers configuration with CRS until CFG_READY. -/
  | perstDeassert (off : Nat)
  /-- CFG_READY_WRITE (R852). A write of CFG_READY sets it once per PERST#, or holds it pending while PERST# is asserted. -/
  | cfgReadyWrite (off : Nat) (v : Word)
  /-- CFG_READY_TIMEOUT (R606). CFG_READY is still 0 at 950 ms after PERST#, so the boot ROM sets it. -/
  | cfgReadyTimeout (off : Nat)
  /-- CONFIG_REQUEST (R606). A configuration request is answered, with CRS while CFG_READY is 0. -/
  | configRequest (off : Nat) (fn : Fin 62) (req : CfgReq)
  /-- VF_ENABLE (R603). A VF Enable write creates or removes tenants, refused without ARI above 6. -/
  | vfEnable (off : Nat) (on : Bool)
  /-- CTX_BIND_WRITE (R611). A CTX_BIND write binds context slots, keeping halves whose context is enabled. -/
  | ctxBindWrite (off : Nat) (f : Fin 61) (j : Fin 4) (v : Word)
  /-- CONTEXT_SLOT_WRITE (R612). A write to a context slot passes through to the bound Pump context. -/
  | contextSlotWrite (off : Nat) (f : Fin 61) (slot : Fin 8) (reg : BitVec 12) (v : Word)
  /-- DELIVERY_FREE_POST (R616). A write of DS_FREE_TAIL posts free buffer entries. -/
  | deliveryFreePost (off : Nat) (f : Fin 61) (t : Fin 4) (tail : BitVec 16)
  /-- DELIVERY_ACCEPT (R617). A delivery ring accepts an item and writes its bytes, record, DS_DONE and vector. -/
  | deliveryAccept (off : Nat) (src : Deliver) (n : Nat) (buf : BitVec 64)
  /-- MSIX_UNMASK (R621). Unmasking a vector whose PBA bit is set sends the pending message. -/
  | msixUnmask (off : Nat) (fn : Fin 62) (v : Fin 64)
  /-- HOLDOFF_EXPIRY (R622). A slot's HOLDOFF interval ends and the combined message is sent. -/
  | holdoffExpiry (off : Nat) (fn : BitVec 6) (slot : Fin 12)
  /-- FUNCTION_LEVEL_RESET (R623). An FLR fences the function, flips its generation, orphans its tags and cancels its descriptors. -/
  | functionLevelReset (off : Nat) (fn : Fin 62)
  /-- FLR_COMPLETE (R634). The FLR completes and the function's local pages return to reset values. -/
  | flrComplete (off : Nat) (fn : Fin 62)
  /-- COMPLETION_ARRIVAL (R624). A PCIe completion is accepted by tag and generation, or dropped as stale. -/
  | completionArrival (off : Nat) (tag : BitVec 10) (b : List (BitVec 8))
  /-- COMPLETION_TIMEOUT (R625). A read times out and is reissued up to twice, after which the descriptor ends TIMEOUT. -/
  | completionTimeout (off : Nat) (tag : BitVec 10) (us : Nat)
  /-- CTO_VALUE_CHANGE (R626). A change of the Completion Timeout Value raises every PMP_TMO below the new floor. -/
  | ctoValueChange (off : Nat) (v : Fin 16)
  /-- ENDPOINT_RESET (R636). PERST#, hot reset or link down resets the endpoint and cancels function-owned descriptors. -/
  | endpointReset (off : Nat) (cause : EndReset)
  /-- HOST_INTERNAL_ERROR (R637). An uncorrectable host-interface error sends ERR_FATAL and answers every TLP UR. -/
  | hostInternalError (off : Nat)
  /-- POISONED_TLP (R638). A poisoned TLP or UR/CA completion ends the chunk's descriptor. -/
  | poisonedTlp (off : Nat) (tag : BitVec 10) (poisoned : Bool)
  /-- RYK_FRAME_RECEIVE (R646). A Ryuklin frame is accepted, discarded as duplicate or counted as an error. -/
  | rykFrameReceive (off : Nat) (n : RykLink) (k : Fin 2) (rx0 rx1 : List (BitVec 66)) (bufErr : Bool)
  /-- LLCTL (R648). A received LLCTL acknowledges frames, triggers replay on NAK and returns credits. -/
  | llctl (off : Nat) (n : RykLink) (nak : Bool) (cls : Fin 2) (ack : BitVec 12) (c0 c1 c2 c3 : BitVec 8)
  /-- REPLAY_TIMEOUT (R648). REPLAY_TMO passes without acknowledgement and unacknowledged frames are replayed. -/
  | replayTimeout (off : Nat) (n : RykLink) (since : Nat)
  /-- INIT (R649). A received INIT block completes alignment or retraining and resets the replay point. -/
  | linkInit (off : Nat) (n : RykLink) (fresh : Bool) (mask : Fin 4) (ack : BitVec 12) (chip : BitVec 16) (peer : RykLink)
  /-- RETRAINING_TIMEOUT (R650). RETRAINING has not reached UP within 2 ms and the link is dead. -/
  | retrainingTimeout (off : Nat) (n : RykLink)
  /-- ALIGN (R643). An ALIGN block deskews the lanes, or a mismatch starts realignment. -/
  | linkAlign (off : Nat) (n : RykLink) (seq0 seq1 : BitVec 8) (skew : Int) (depth : BitVec 8)
  /-- SECOND_LANE_WAIT (R654). The second lane is not UP 64 ms after the first, so the link starts at width 1. -/
  | secondLaneWait (off : Nat) (n : RykLink)
  /-- LINK_REWIDEN (R654). The second lane has been UP for 16 turns, so the link returns to width 2. -/
  | linkRewiden (off : Nat) (n : RykLink)
  /-- T3_RSP (R662). A matching T3_RSP or LOST completes a tier 3 request with a score or VOID record. -/
  | t3Rsp (off : Nat)
  /-- T3_TIMEOUT (R662). A request's transaction timer reaches RYK_T3_TMO and it completes TIMEOUT. -/
  | t3Timeout (off : Nat) (tag : BitVec 12)
  /-- T3_REQ (R665). An inbound T3_REQ is evaluated as T3_IN and refused, answered NO_GRAPH or queued. -/
  | t3Req (off : Nat)
  /-- COPY_FRAME_RX (R666). An inbound COPY is delivered to COPY_RING or dropped. -/
  | copyFrameRx (off : Nat) (buf : BitVec 64)
  /-- REF_DEPTH_ERR (R669). A follower's depth would exceed 16 or its partner advertised 0xFF for 1 ms, so the candidate is lost. -/
  | refDepthErr (off : Nat) (stale : Bool)
  /-- LINK_FAULT (R679). A link logic error faults the link, making it dead; an error in its replay buffer fails a frame. -/
  | linkFault (off : Nat) (n : RykLink) (frame : Option (BitVec 12))
  /-- GATEWAY_FAULT (R679). A gateway error faults it, voiding tier 3 and discarding inbound requests. -/
  | gatewayFault (off : Nat)
  /-- HEARTBEAT_KICK (R803). The firmware writes CPC_HB.KICK every 24 turns, toggling HB_OUT. -/
  | heartbeatKick (off : Nat)
  /-- FLOOR_DUTY (R569). Every 240 turns the firmware rewrites the floor from the hottest sensor. -/
  | floorDuty (off : Nat)
  /-- CROSSTALK_REFRESH (R211). The firmware rewrites crosstalk coefficients after a 4 °C move. -/
  | crosstalkRefresh (off : Nat)
  /-- RETIREMENT_RECORD_WRITE (R758). The firmware writes the retirement record to flash after a change. -/
  | retirementRecordWrite (off : Nat)
  /-- RECONCILIATION (R585). After a window close the firmware compares energies and writes the debt. -/
  | reconciliation (off : Nat)
  /-- MAILBOX_GO (R689). A GO written while a request is in progress is ignored and counted in MB_OVERRUN. -/
  | mailboxGo (off : Nat) (seq : BitVec 8)
  /-- NEGOTIATE (R691). NEGOTIATE sets FEAT_AGREED and RUNNING, or HELD with INCOMPATIBLE. -/
  | negotiate (off : Nat)
  /-- STATUS (R690). The mailbox STATUS request returns firmware state, version and duty records. -/
  | mbStatus (off : Nat)
  /-- UPDATE_STAGE (R708). UPDATE_STAGE copies an image into the staging region for authentication. -/
  | updateStage (off : Nat)
  /-- UPDATE_STAGED (R709). Authentication and compatibility checks end with STAGED or REFUSED. -/
  | updateStaged (off : Nat) (found : Option (List (BitVec 8) × FwImage))
  /-- UPDATE_COMMIT (R710). UPDATE_COMMIT sets the target turn B. -/
  | updateCommit (off : Nat)
  /-- UPDATE_ABORT (R716). UPDATE_ABORT withdraws a staging or commit if early enough. -/
  | updateAbort (off : Nat)
  /-- UPDATE_HANDOFF (R710). At B the running image stops duties, serialises blocks and transfers control. -/
  | updateHandoff (off : Nat)
  /-- UPDATE_ADOPTED (R711). The new image adopts the state blocks and resumes duties. -/
  | updateAdopted (off : Nat)
  /-- UPDATE_ROLLBACK (R715). No adoption by B + 2 turns, so the previous image restarts. -/
  | updateRollback (off : Nat) (complete : Bool)
  /-- COLL_START (R694). COLL_START plans and starts a collective in a slot. -/
  | collStart (off : Nat) (sends : List PlanSend)
  /-- COLL_CANCEL (R690). COLL_CANCEL ends a named collective. -/
  | collCancel (off : Nat)
  /-- COLL (R697). A COLL frame advances a collective's step or ends it MEMBER_LOST. -/
  | collFrame (off : Nat) (sends : List PlanSend)
  /-- COLL_TIMEOUT (R698). A collective without progress for COLL_TMO turns fails TIMEOUT. -/
  | collTimeout (off : Nat) (k : Fin 8)
  /-- CHIP_RETIRE (R700). CHIP_RETIRE declares a peer lost and floods the change. -/
  | chipRetire (off : Nat) (routes : List RouteWrite)
  /-- CHIP_REINSTATE (R704). CHIP_REINSTATE returns a retired chip and floods it. -/
  | chipReinstate (off : Nat) (routes : List RouteWrite)
  /-- T3_REMAP_SET (R690). T3_REMAP_SET replaces the host alternates table. -/
  | t3RemapSet (off : Nat)
  /-- GRAPH_POWER (R569). GRAPH_POWER rewrites T01 and returns the floor. -/
  | graphPower (off : Nat)
  /-- LOG_READ (R690). LOG_READ returns event log entries. -/
  | logRead (off : Nat)
  /-- HELLO_SEND (R701). Every 24 turns the firmware sends a HELLO on each UP link. -/
  | helloSend (off : Nat)
  /-- HELLO (R702). A received HELLO with a differing digest triggers a MEMBERS exchange. -/
  | ctlHello (off : Nat)
  /-- RETIRE (R701). A received RETIRE is applied and forwarded once. -/
  | ctlRetire (off : Nat) (routes : List RouteWrite)
  /-- MEMBERS (R702). Received MEMBERS frames complete a peer's set, which is then adopted or merged. -/
  | ctlMembers (off : Nat) (routes : List RouteWrite)
  /-- PEER_LOST (R700). A peer without route for PEER_LOST turns is declared lost. -/
  | peerLost (off : Nat) (chip : BitVec 16) (routes : List RouteWrite)
  /-- SELF_RETIRE (R704). A chip whose safe state recurs SELF_RETIRE times floods its own retirement and forces bypass. -/
  | selfRetire (off : Nat) (routes : List RouteWrite)
  /-- DUMP_NOW (R705). DUMP_CTL.DUMP_NOW or a fault makes the firmware write a crash dump. -/
  | dumpNow (off : Nat) (complete : Bool)
  /-- DUMP_DATA_READ (R707). A DUMP_DATA read returns a dump word and auto-increments DUMP_ADDR. -/
  | dumpDataRead (off : Nat)
  /-- FIRMWARE_CRASH (R724). A watchdog, trap or assertion dumps and restarts the firmware from its image. -/
  | firmwareCrash (off : Nat) (cause : Fin 3) (core : Fin 8) (complete : Bool)
  /-- FIRMWARE_INIT_DONE (R853). The load reaches DONE or FAILED and the firmware leaves INIT. -/
  | firmwareInitDone (off : Nat)
  /-- COLD_LOAD (R742). The controller selects a slot and executes its own sections and forwards the others. -/
  | coldLoad (off : Nat) (sfdp : Option (BitVec 16))
  /-- CHUNK_VERIFY (R732). A chunk's digest is checked before its commands execute. -/
  | chunkVerify (off : Nat) (fw : FwImage)
  /-- NOP (R733). NOP does nothing. -/
  | cfgNop (off : Nat)
  /-- WRITE_REG (R734). WRITE_REG performs a full-width register write. -/
  | writeReg (off : Nat)
  /-- WAIT_TURNS (R735). WAIT_TURNS starts a wait of the given turn boundaries. -/
  | waitTurns (off : Nat)
  /-- WAIT_TURNS_EXPIRY (R735). A WAIT_TURNS count ends and the stream continues. -/
  | waitTurnsExpiry (off : Nat)
  /-- POLL_STATE (R735). POLL_STATE waits for a unit state. -/
  | pollState (off : Nat)
  /-- POLL_TIMEOUT (R735). A poll's timeout passes first and the section fails. -/
  | pollTimeout (off : Nat)
  /-- SET_FAR (R737). SET_FAR sets the frame address. -/
  | setFar (off : Nat)
  /-- WRITE_FRAMES (R737). WRITE_FRAMES writes n CRC-checked frames with auto-advance. -/
  | writeFrames (off : Nat)
  /-- REPEAT_FRAME (R738). REPEAT_FRAME writes one frame at n addresses. -/
  | repeatFrame (off : Nat)
  /-- LOAD_MEM (R854). LOAD_MEM writes data into DDR, Cistern or a tile. -/
  | loadMem (off : Nat)
  /-- END (R732). END checks the GCM tag and completes the section. -/
  | loadEnd (off : Nat) (decls : List TapDecl) (ureg : Bool)
  /-- CFG_CONTINUE (R743). A write of CFG_CTL.CONTINUE lets the load proceed from HOLD_FW. -/
  | cfgContinue (off : Nat)
  /-- HOLD_FW_TIMEOUT (R743). No CONTINUE after 2,400 turns, so the load continues with FW_LATE. -/
  | holdFwTimeout (off : Nat)
  /-- PART_GO (R746). PART_GO starts a partial reload from DDR, or is refused BUSY. -/
  | partGo (off : Nat)
  /-- WARM_REPLAY (R745). At warm restart the REPLAY_WARM sections are executed again. -/
  | warmReplay (off : Nat)
  /-- CHAIN_FRAME (R749). A Priming chain frame is consumed, forwarded or both. -/
  | chainFrame (off : Nat) (type hop : BitVec 8) (stream : BitVec 16) (payload : List (BitVec 8)) (crcOk : Bool)
  /-- CHAIN_RESEND (R750). PRM_DONE has not risen within CHN_TMO, so the head resends the stream. -/
  | chainResend (off ms : Nat)
  /-- FLASH_READ (R757). FLS READ reads flash, suspending a running erase. -/
  | flashRead (off : Nat)
  /-- FLASH_PROGRAM (R751). FLS PROGRAM programs a 256 B page. -/
  | flashProgram (off : Nat)
  /-- FLASH_ERASE (R755). FLS ERASE journals BEGIN and erases a sector. -/
  | flashErase (off : Nat)
  /-- FLASH_OP_DONE (R755). A flash operation completes, with ERASE_DONE journalled or ERR set. -/
  | flashOpDone (off : Nat) (ok : Bool)
  /-- SEC_STATUS_SVC (R770). The STATUS service returns module status. -/
  | secStatusSvc (off : Nat) (who : Requester) (req : List (BitVec 8))
  /-- SELFTEST (R784). SELFTEST runs the power-up tests. -/
  | selftest (off : Nat) (who : Requester) (req : List (BitVec 8))
  /-- SEC_SELFTEST_DONE (R784). Module tests complete and MSTATE becomes OPERATIONAL, ERROR or CRITICAL. -/
  | secSelftestDone (off : Nat) (failed : List (Fin 4)) (micros : Word)
  /-- AUTH_CHALLENGE (R786). AUTH_CHALLENGE returns a nonce and the device ID. -/
  | authChallenge (off : Nat) (who : Requester) (req : List (BitVec 8))
  /-- AUTH_RESPONSE (R786). AUTH_RESPONSE opens a CO session or a debug level. -/
  | authResponse (off : Nat) (who : Requester) (req : List (BitVec 8))
  /-- LOGOUT (R768). LOGOUT ends the CO session. -/
  | logout (off : Nat) (who : Requester) (req : List (BitVec 8))
  /-- CO_SESSION_IDLE (R768). 600 s without a request ends the CO session. -/
  | coSessionIdle (off : Nat) (who : Requester)
  /-- NONCE_EXPIRY (R786). A challenge nonce's 30 s validity ends. -/
  | nonceExpiry (off : Nat) (who : Requester)
  /-- STK_ESTABLISH (R777). STK_ESTABLISH derives an STK by KAS-ECC. -/
  | stkEstablish (off : Nat) (who : Requester) (req : List (BitVec 8))
  /-- STK_CLEAR (R768). STK_CLEAR clears an STK slot. -/
  | stkClear (off : Nat) (who : Requester) (req : List (BitVec 8))
  /-- SAK_LOAD (R780). SAK_LOAD unwraps a SAK into an MSC key slot. -/
  | sakLoad (off : Nat) (who : Requester) (req : List (BitVec 8))
  /-- SAK_CLEAR (R780). SAK_CLEAR clears an idle SA's key. -/
  | sakClear (off : Nat) (who : Requester) (req : List (BitVec 8))
  /-- SAK_LOAD_PLAIN (R771). SAK_LOAD_PLAIN loads a plaintext SAK in non-approved mode. -/
  | sakLoadPlain (off : Nat) (who : Requester) (req : List (BitVec 8))
  /-- RANDOM (R770). RANDOM returns DRBG output. -/
  | secRandom (off : Nat) (who : Requester) (req : List (BitVec 8))
  /-- RANDOM_RAW (R771). RANDOM_RAW returns raw noise bits in non-approved mode. -/
  | randomRaw (off : Nat) (who : Requester) (req : List (BitVec 8))
  /-- SET_MODE (R771). SET_MODE zeroizes, changes mode and self-tests. -/
  | setMode (off : Nat) (who : Requester) (req : List (BitVec 8))
  /-- ZEROIZE (R782). ZEROIZE clears every CSP, optionally blowing KILL. -/
  | zeroize (off : Nat) (who : Requester) (req : List (BitVec 8))
  /-- ZEROIZE_N_LOW (R781). ZEROIZE_N low for 1 µs zeroizes the module. -/
  | zeroizeNLow (off : Nat)
  /-- DEBUG_LOCK (R788). DEBUG_LOCK returns debug to level 0. -/
  | debugLock (off : Nat) (who : Requester) (req : List (BitVec 8))
  /-- PROVISION_IK (R778). PROVISION_IK wraps an IK under DKEK and blows its fuses. -/
  | provisionIk (off : Nat) (who : Requester) (req : List (BitVec 8)) (readback : Bool)
  /-- REVOKE (R779). REVOKE blows a REVOKED bit. -/
  | revoke (off : Nat) (who : Requester) (req : List (BitVec 8)) (readback : Bool)
  /-- IMAGE_OPEN (R774). IMAGE_OPEN verifies both section signatures and opens GCM. -/
  | imageOpen (off : Nat) (who : Requester) (req : List (BitVec 8))
  /-- IMAGE_CHUNK (R775). IMAGE_CHUNK verifies and decrypts one chunk, checking the tag at the end. -/
  | imageChunk (off : Nat) (who : Requester) (req : List (BitVec 8)) (tag : List (BitVec 8))
  /-- HEALTH_TEST_FAIL (R785). A continuous or conditional test fails and the module enters ERROR. -/
  | healthTestFail (off : Nat) (t : HealthTest)
  /-- DRBG_RESEED (R772). After 2^20 generate requests the DRBG reseeds and checks health. -/
  | drbgReseed (off : Nat) (healthy : Bool)
  /-- TAP_INSTRUCTION (R894). A TAP instruction load selects its register, or BYPASS above the debug level. -/
  | tapInstruction (off : Nat) (opcode : BitVec 8)
  /-- SAFE_STATE_ENTRY (R805). A trigger takes the safe state: FAULT_N low, pairs engaged, Ryuklin idle, PNs saved. -/
  | safeStateEntry (off : Nat) (codes : List (Fin 12)) (src : Option (BitVec 14))
  /-- SAFE_CTL_ENTER (R813). A write of SAFE_CTL.ENTER triggers the safe state. -/
  | safeCtlEnter (off : Nat)
  /-- SAFE_RESET_ASSERT (R806). The dump completes or 16 turns pass and the main reset is asserted. -/
  | safeResetAssert (off : Nat) (dumped ddrKept : Bool)
  /-- MAIN_RESET_RELEASE (R848). The main reset is released once PLL lock and sensors allow. -/
  | mainResetRelease (off : Nat) (straps : BitVec 3) (cool : Bool) (waitUs holdUs islandUs : Word)
  /-- RESTART_COMPLETE (R809). The replay or load, firmware and units are back, and SSTATE returns NORMAL. -/
  | restartComplete (off : Nat) (micros : Word)
  /-- WARM_RESTART_TIMEOUT (R823). A warm restart past 40 ms escalates to cold. -/
  | warmRestartTimeout (off : Nat) (us : Nat)
  /-- SAFE_CTL_RESTART (R812). SAFE_CTL.RESTART starts a cold restart from HALTED. -/
  | safeCtlRestart (off : Nat)
  /-- LREF_RETURN (R236). LREF returns, BYP_STATUS.LREF_OK reads 1 again and pairs engaged in CLOSED stop transmitting as HOLD. -/
  | lrefReturn (off : Nat)
  /-- RREF_RESTORE (R197). RREF is restored on a ROOT, whose reference leaves HOLDOVER for LOCKED. -/
  | rrefRestore (off : Nat)
  /-- MAIN_PG_RISE (R848). The MAIN_PG contact rises, meeting one of the conditions for releasing the main-domain reset. -/
  | mainPgRise (off : Nat)
  /-- BYP_FORCE_N_HIGH (R822). BYP_FORCE_N rises, so cause FORCE_PIN stops holding and pairs may be released at a later boundary. -/
  | bypForceNHigh (off : Nat)
  /-- ZEROIZE_N_HIGH (R782). ZEROIZE_N returns high, so the module in ZEROIZED accepts SELFTEST again. -/
  | zeroizeNHigh (off : Nat)
  /-- RX_FAULT_END (R247). The RS stops receiving Local or Remote Fault sequences, so the port's transmit side comes up again. -/
  | rxFaultEnd (off : Nat) (p : Port)
  /-- CDR_LOCK (R152). A lane receiver gains or loses CDR lock, so a lane without training enters FIXED_UP or leaves it, and starts or stops delivering bits. -/
  | cdrLock (off : Nat) (l : LaneIx) (gain : Bool) (ppm : Int)
  /-- PRBS_LOCK (R183). The PRBS checker declares lock after 64 error-free bits, or loses it on 32 errors in 64 bits and reseeds. -/
  | prbsLock (off : Nat) (l : LaneIx) (bits : List Bool)
  /-- AN_COMPLETE (R163). Clause 37 autonegotiation completes on a management lane, setting AN_COMPLETE and raising AN_DONE. -/
  | anComplete (off : Nat) (k : Fin 2) (base : BitVec 16)
  /-- PCIE_LINK_UP (R618). The PCIe LTSSM reaches link-up, making the host reachable for delivery rings and R52. -/
  | pcieLinkUp (off : Nat) (speed width : Fin 5)
  /-- LTSSM_RECOVERY (R627). The LTSSM enters or leaves Recovery, pausing or resuming the PMP_TMO and completion timeout timers. -/
  | ltssmRecovery (off : Nat) (enter : Bool)
  /-- TAP_RECORD_DELIVERY (R379). The fabric takes a record's beats from a tap FIFO under its ready signal, freeing FIFO space. -/
  | tapRecordDelivery (off : Nat) (tap : Fin 4) (i : Pipe)
  /-- LWL_REINSTATE_DONE (R516). A Lightwell laser, channel or cell's reinstate self-test ends, making the item usable or leaving it RETIRED with REINSTATE_FAIL. -/
  | lwlReinstateDone (off : Nat) (it : LwlItem) (pass : Bool)
  /-- REINSTATE (R702). A CTL REINSTATE message is received, and the chip applies the reinstatement and forwards it once. -/
  | ctlReinstate (off : Nat) (routes : List RouteWrite)
  /-- FLT_ERR (R804). An uncorrectable error in the fault aggregator triggers the safe state with cause FLT_ERR and no dump window. -/
  | fltErr (off : Nat)
  /-- PIPELINE_UNCORR_ERROR (R366). An uncorrectable error in the S8 join store, the S11 queues, a GCM engine or the Sump places that unit in FAULT and the main domain takes the safe state. -/
  | pipelineUncorrError (off : Nat) (u : PipeUnit)
  deriving DecidableEq, Repr

end Sys2Proof
end

