-- ==== Sys2Proof/Decode.lean ====
section
/-!
DEFINITION. The commands that table words spell. No row of the operations table gives its command any bits
(the commands are events at the block's wires and registers), so no word spells one.
-/

set_option Elab.async false

namespace Sys2Proof

/-- The command a table word spells: none, since the table gives no row a bit pattern. -/
def decodeTableWord (_nbits _w : Nat) : Option Instr := none

end Sys2Proof
end

