-- ==== Sys2Proof/Config.lean ====
section
/-!
DEFINITION. What an implementation fixes and the spec leaves open: free values, none with a body, so that
no proof can rest on one; and the results of cryptographic standards the spec names and does not restate.
-/

set_option Elab.async false

namespace Sys2Proof.Config

open Sys2Proof

/-- A value the spec leaves open, one for each draw (DESIGN CHOICE, log entry 4). -/
opaque freeNat : Nat → Nat

/-- Core clocks by which a follower's count lies behind the master count: clock domain, count (R78, DESIGN CHOICE, log entry 15). -/
opaque followerLag : Nat → Nat → Nat

/-- What a follower adrift takes the count to be: clock domain, count (R92, DESIGN CHOICE, log entry 15). -/
opaque ownEstimate : Nat → Nat → Nat

/-- The vendor identifier of configuration space (Table PCI-1), which spec/23 does not give (DESIGN CHOICE, log entry 104). -/
opaque vendorId : Nat

/-- What a tile program declares (Table MTL-1): program identifier; the limit on outstanding requests less 1, landing space in
flits, and by operation of a run the bound in blk (DESIGN CHOICE, log entry 150). -/
opaque reqLimit : Nat → Nat

opaque landing : Nat → Nat

opaque opBound : Nat → Nat → Nat

/-- The value of a column scale that is infinite or not a number: signed mantissa and exponent (DESIGN CHOICE, log entry 142). -/
opaque oddScale : Nat → Int × Int

/-- What a NaN result of a vector lane becomes: format code, operands, the code stored (DESIGN CHOICE, log entry 142). -/
opaque nanBits : Nat → Nat → Nat

/-- In what order and grouping the cross-lane unit adds (R409): the rank of an element among `n`, and how many of `n` partial sums
its first half takes, less 1 (DESIGN CHOICE, log entry 142). -/
opaque reduceRank : Nat → Nat → Nat

opaque reduceSplit : Nat → Nat → Nat

/-- What a lane's transmit scrambler, and its pattern generator, hold before either has run (DESIGN CHOICE, log entry 4). -/
opaque scrambleSeed : Nat → Nat

opaque patternSeed : Nat → Nat

/-- GCM-AES-256 authenticated decryption (IEEE 802.1AE): key, initialisation vector, additional data, ciphertext,
ICV; the plaintext, or none where the ICV fails (DESIGN CHOICE, log entry 5). -/
opaque gcmOpen : Nat → Nat → List Nat → List Nat → List Nat → Option (List Nat)

/-- GCM-AES-256 authenticated encryption: key, initialisation vector, additional data, plaintext; the ciphertext
followed by its 16 B ICV (DESIGN CHOICE, log entry 5). -/
opaque gcmSeal : Nat → Nat → List Nat → List Nat → List Nat

/-- The AES-256 counter keystream of one GCM message applied to a run of its bytes (SP 800-38D): key, initialisation
vector, offset in the message, bytes (DESIGN CHOICE, log entry 5). -/
opaque gcmCtr : Nat → Nat → Nat → List Nat → List Nat

/-- The 16 B tag of a GCM message: key, initialisation vector, additional data, ciphertext (DESIGN CHOICE, log entry 5). -/
opaque gcmTag : Nat → Nat → List Nat → List Nat → List Nat

/-- SHA-384 (FIPS 180-4), 48 B (DESIGN CHOICE, log entry 5). -/
opaque sha384 : List Nat → List Nat

/-- ECDSA P-384 verification with SHA-384 (FIPS 186-5): public key, message, signature (DESIGN CHOICE, log entry 5). -/
opaque ecdsaVerify : List Nat → List Nat → List Nat → Bool

/-- ML-DSA-87 verification (FIPS 204): public key, message, signature (DESIGN CHOICE, log entry 5). -/
opaque mldsaVerify : List Nat → List Nat → List Nat → Bool

/-- AES-256 key wrap (SP 800-38F): key, data (DESIGN CHOICE, log entry 5). -/
opaque kwWrap : Nat → List Nat → List Nat

/-- AES-256 key unwrap: key, wrapped data; none where the integrity check fails (DESIGN CHOICE, log entry 5). -/
opaque kwUnwrap : Nat → List Nat → Option (List Nat)

/-- Public-key validation of SP 800-56A on P-384 (DESIGN CHOICE, log entry 5). -/
opaque p384Valid : List Nat → Bool

/-- The public key of a P-384 private key, 97 B (DESIGN CHOICE, log entry 5). -/
opaque p384Public : Nat → List Nat

/-- The shared secret of KAS-ECC on P-384, 48 B: private key, public key (DESIGN CHOICE, log entry 5). -/
opaque p384Shared : Nat → List Nat → List Nat

/-- PUFK, as the SRAM PUF of this device gives it for fused helper data (DESIGN CHOICE, log entry 5). -/
opaque pufKey : List Nat → Nat

/-- The fused power table (Table CPC-3): static power in W at a temperature of the hottest sensor, 0.125 °C per unit (DESIGN
CHOICE, log entry 4). -/
opaque staticPower : Int → Nat

/-- The spread period of the root that a follower's reference carries, as a number of turns that 64 of them take beyond 47; open
(R155, R197). Log: entry 126 (DEDUCED). -/
opaque rootSpread : Nat → Nat

/-- Crosstalk coefficients scaled by their fused temperature slopes (Table CPC-3): page, word, temperature in 0.125 °C (DESIGN
CHOICE, log entry 4). -/
opaque xtWord : Nat → Nat → Int → Nat

end Sys2Proof.Config
end

