-- ==== Sys2Proof/Machine/Fields.lean ====
section
/-!
DEFINITION. The named fields of every register of the spec: where in its page a field stands, how wide it
is. Each constant bears the register's name and the field's name as the register tables of spec/ spell
them (a field without a name is named by its lowest bit); an argument is the register's index.
-/

set_option Elab.async false

namespace Sys2Proof.Machine.F

open Sys2Proof

/-! ### Table WDL-7 of spec/02_windlass.md -/

abbrev WDL_CTL_ANCHOR_SEL : Fld := ⟨0x040, 0, 4⟩
abbrev WDL_CTL_AUTO_FALLBACK : Fld := ⟨0x040, 4, 1⟩
abbrev WDL_STATUS_TSTATE : Fld := ⟨0x044, 0, 3⟩
abbrev WDL_STATUS_ACTIVE_ANCHOR : Fld := ⟨0x044, 3, 4⟩
abbrev WDL_STATUS_LEARNED : Fld := ⟨0x044, 7, 1⟩
abbrev WDL_STATUS_WRAPPED : Fld := ⟨0x044, 8, 1⟩
abbrev WDL_STATUS_LOSS_CAUSE : Fld := ⟨0x044, 12, 4⟩
abbrev WDL_STATUS_QUALIFIED : Fld := ⟨0x044, 16, 8⟩
abbrev WDL_FALLBACK : Fld := ⟨0x048, 0, 28⟩
abbrev WDL_COUNT_LO : Fld := ⟨0x04C, 0, 32⟩
abbrev WDL_COUNT_HI : Fld := ⟨0x050, 0, 32⟩
abbrev WDL_PRESET_LO : Fld := ⟨0x054, 0, 32⟩
abbrev WDL_PRESET_HI : Fld := ⟨0x058, 0, 32⟩
abbrev WDL_RATE : Fld := ⟨0x05C, 0, 32⟩
abbrev WDL_LEARNED_RATE : Fld := ⟨0x060, 0, 32⟩
abbrev WDL_PHASE : Fld := ⟨0x064, 0, 16⟩
abbrev WDL_HOLDOVER_TURNS : Fld := ⟨0x068, 0, 32⟩
abbrev WDL_ANCHOR_LOSSES_b0 : Fld := ⟨0x06C, 0, 16⟩
abbrev WDL_ANCHOR_LOSSES_WDL_ANCHOR_CHANGES : Fld := ⟨0x06C, 16, 16⟩
abbrev WDL_FOLLOWER_ERRS_b0 : Fld := ⟨0x070, 0, 16⟩
abbrev WDL_FOLLOWER_ERRS_b16 : Fld := ⟨0x070, 16, 8⟩
abbrev WDL_MARK_FIRED_LO : Fld := ⟨0x074, 0, 32⟩
abbrev WDL_MARK_FIRED_HI : Fld := ⟨0x078, 0, 32⟩
abbrev WDL_MARK_LO (a : Nat) : Fld := ⟨0x400 + 16 * a, 0, 32⟩
abbrev WDL_MARK_HI (a : Nat) : Fld := ⟨0x404 + 16 * a, 0, 32⟩
abbrev WDL_MARK_PERIOD (a : Nat) : Fld := ⟨0x408 + 16 * a, 0, 32⟩
abbrev WDL_MARK_CTL_ARM (a : Nat) : Fld := ⟨0x40C + 16 * a, 0, 1⟩
abbrev WDL_MARK_CTL_IRQ (a : Nat) : Fld := ⟨0x40C + 16 * a, 1, 1⟩
abbrev WDL_MARK_CTL_SNAP (a : Nat) : Fld := ⟨0x40C + 16 * a, 2, 1⟩
abbrev WDL_MARK_CTL_PIN (a : Nat) : Fld := ⟨0x40C + 16 * a, 3, 1⟩
abbrev WDL_MARK_CTL_CPC (a : Nat) : Fld := ⟨0x40C + 16 * a, 4, 1⟩
abbrev WDL_MARK_CTL_PIN_SEL (a : Nat) : Fld := ⟨0x40C + 16 * a, 5, 2⟩
abbrev WDL_MARK_CTL_FIRED (a : Nat) : Fld := ⟨0x40C + 16 * a, 8, 1⟩
abbrev WDL_MARK_CTL_PAST (a : Nat) : Fld := ⟨0x40C + 16 * a, 9, 1⟩
abbrev WDL_MARK_CTL_FIRED_CNT (a : Nat) : Fld := ⟨0x40C + 16 * a, 16, 16⟩
/-! ### Table REG-9 of spec/03_register_pages.md -/

abbrev HDR_PAGE_ID_b0 : Fld := ⟨0x000, 0, 16⟩
abbrev HDR_PAGE_ID_b16 : Fld := ⟨0x000, 16, 16⟩
abbrev HDR_PAGE_REV_b0 : Fld := ⟨0x004, 0, 8⟩
abbrev HDR_PAGE_REV_b8 : Fld := ⟨0x004, 8, 8⟩
abbrev HDR_PAGE_CAP_UNIT : Fld := ⟨0x008, 0, 1⟩
abbrev HDR_PAGE_CAP_SNAP : Fld := ⟨0x008, 1, 1⟩
abbrev HDR_PAGE_CAP_LOCK : Fld := ⟨0x008, 2, 1⟩
abbrev HDR_PAGE_CAP_RETIRE : Fld := ⟨0x008, 3, 1⟩
abbrev HDR_PAGE_CAP_ABSENT : Fld := ⟨0x008, 4, 1⟩
abbrev HDR_PAGE_CAP_NCAUSE : Fld := ⟨0x008, 8, 8⟩
abbrev HDR_UNIT_STATE_STATE : Fld := ⟨0x00C, 0, 3⟩
abbrev HDR_UNIT_STATE_REASON : Fld := ⟨0x00C, 8, 8⟩
abbrev HDR_UNIT_STATE_SEQ_SEEN : Fld := ⟨0x00C, 16, 8⟩
abbrev HDR_UNIT_STATE_PENDING : Fld := ⟨0x00C, 24, 1⟩
abbrev HDR_UNIT_REQ_TARGET : Fld := ⟨0x010, 0, 3⟩
abbrev HDR_UNIT_REQ_REINSTATE : Fld := ⟨0x010, 4, 1⟩
abbrev HDR_UNIT_REQ_SEQ : Fld := ⟨0x010, 16, 8⟩
abbrev HDR_UNIT_REQ_ACK_OUTCOME : Fld := ⟨0x014, 0, 4⟩
abbrev HDR_UNIT_REQ_ACK_REASON : Fld := ⟨0x014, 8, 8⟩
abbrev HDR_UNIT_REQ_ACK_SEQ : Fld := ⟨0x014, 16, 8⟩
abbrev HDR_UNIT_REQ_ACK_TURN_LO : Fld := ⟨0x014, 24, 8⟩
abbrev HDR_FAULT_SUM_TRANSIENT : Fld := ⟨0x018, 0, 1⟩
abbrev HDR_FAULT_SUM_PERMANENT : Fld := ⟨0x018, 1, 1⟩
abbrev HDR_FAULT_SUM_MISMATCH : Fld := ⟨0x018, 2, 1⟩
abbrev HDR_FAULT_SUM_ACCESS : Fld := ⟨0x018, 3, 1⟩
abbrev HDR_FAULT_SUM_REFUSED : Fld := ⟨0x018, 4, 1⟩
abbrev HDR_FAULT_SUM_STATE_CHG : Fld := ⟨0x018, 5, 1⟩
abbrev HDR_FAULT_CLASS_WINDOW_CNT : Fld := ⟨0x01C, 0, 16⟩
abbrev HDR_FAULT_CLASS_TOTAL : Fld := ⟨0x01C, 16, 14⟩
abbrev HDR_FAULT_CLASS_SUB_RETIRED : Fld := ⟨0x01C, 30, 1⟩
abbrev HDR_FAULT_CLASS_PERMANENT : Fld := ⟨0x01C, 31, 1⟩
abbrev HDR_IRQ_STATUS : Fld := ⟨0x020, 0, 32⟩
abbrev HDR_IRQ_ENABLE : Fld := ⟨0x024, 0, 32⟩
abbrev HDR_IRQ_FORCE : Fld := ⟨0x028, 0, 32⟩
abbrev HDR_ACCESS_FAULT_OFFSET : Fld := ⟨0x02C, 0, 12⟩
abbrev HDR_ACCESS_FAULT_SIZE : Fld := ⟨0x02C, 12, 2⟩
abbrev HDR_ACCESS_FAULT_BE : Fld := ⟨0x02C, 16, 4⟩
abbrev HDR_ACCESS_FAULT_CAUSE : Fld := ⟨0x02C, 20, 4⟩
abbrev HDR_ACCESS_FAULT_COUNT : Fld := ⟨0x02C, 24, 6⟩
abbrev HDR_ACCESS_FAULT_VALID : Fld := ⟨0x02C, 31, 1⟩
abbrev HDR_SNAP_CTL_TRIGGER : Fld := ⟨0x030, 0, 1⟩
abbrev HDR_SNAP_CTL_ON_MARK : Fld := ⟨0x030, 1, 1⟩
abbrev HDR_SNAP_CTL_ON_TURN : Fld := ⟨0x030, 2, 1⟩
abbrev HDR_SNAP_CTL_CLR_ON_SNAP : Fld := ⟨0x030, 3, 1⟩
abbrev HDR_SNAP_CTL_VIEW : Fld := ⟨0x030, 4, 1⟩
abbrev HDR_SNAP_CTL_SNAP_SEQ : Fld := ⟨0x030, 8, 8⟩
abbrev HDR_SNAP_WDL_LO : Fld := ⟨0x034, 0, 32⟩
abbrev HDR_SNAP_WDL_HI : Fld := ⟨0x038, 0, 32⟩
abbrev HDR_PAGE_LOCK : Fld := ⟨0x03C, 0, 1⟩
/-! ### Table REG-10 of spec/03_register_pages.md -/

abbrev GBL_DEVICE_b0 : Fld := ⟨0x040, 0, 16⟩
abbrev GBL_DEVICE_b16 : Fld := ⟨0x040, 16, 4⟩
abbrev GBL_VARIANT : Fld := ⟨0x044, 0, 2⟩
abbrev GBL_STRAPS : Fld := ⟨0x048, 0, 16⟩
abbrev GBL_STATUS_RESTARTING : Fld := ⟨0x04C, 0, 1⟩
abbrev GBL_STATUS_FW_READY : Fld := ⟨0x04C, 1, 1⟩
abbrev GBL_STATUS_LAST_RESTART : Fld := ⟨0x04C, 2, 2⟩
abbrev GBL_CTL_LOCK_ALL : Fld := ⟨0x050, 0, 1⟩
abbrev GBL_CTL_SNAP_ALL : Fld := ⟨0x050, 1, 1⟩
abbrev GBL_UNMAPPED_ADDR_BAR : Fld := ⟨0x054, 0, 26⟩
abbrev GBL_UNMAPPED_ADDR_CAUSE : Fld := ⟨0x054, 26, 2⟩
abbrev GBL_UNMAPPED_ADDR_WRITE : Fld := ⟨0x054, 30, 1⟩
abbrev GBL_UNMAPPED_ADDR_VALID : Fld := ⟨0x054, 31, 1⟩
abbrev GBL_UNMAPPED_CNT : Fld := ⟨0x058, 0, 16⟩
abbrev GBL_SCRATCH : Fld := ⟨0x05C, 0, 32⟩
/-! ### Table REG-11 of spec/03_register_pages.md -/

abbrev GBL_PRESENT (a : Nat) : Fld := ⟨0x040 + 4 * a, 0, 32⟩
/-! ### Table REG-12 of spec/03_register_pages.md -/

abbrev FLT_MASK : Fld := ⟨0x040, 0, 6⟩
abbrev FLT_STATUS_ATT_PAGES : Fld := ⟨0x044, 0, 15⟩
abbrev FLT_STATUS_ANY : Fld := ⟨0x044, 31, 1⟩
abbrev FLT_FIRST_b0 : Fld := ⟨0x048, 0, 14⟩
abbrev FLT_FIRST_VALID : Fld := ⟨0x048, 31, 1⟩
abbrev FLT_FIRST_TURN : Fld := ⟨0x04C, 0, 32⟩
abbrev FLT_LAST_b0 : Fld := ⟨0x050, 0, 14⟩
abbrev FLT_LAST_VALID : Fld := ⟨0x050, 31, 1⟩
abbrev FLT_MISMATCHES_STATE_MISMATCH : Fld := ⟨0x054, 0, 16⟩
abbrev FLT_MISMATCHES_FLT_REFUSALS : Fld := ⟨0x054, 16, 16⟩
abbrev FLT_ACCESS_FAULTS : Fld := ⟨0x058, 0, 16⟩
/-! ### Table REG-13 of spec/03_register_pages.md -/

abbrev FLT_ATT (a : Nat) : Fld := ⟨0x040 + 4 * a, 0, 32⟩
abbrev FLT_ATT_GROUP (a : Nat) : Fld := ⟨0x900 + 4 * a, 0, 32⟩
/-! ### Table LAN-13 of spec/04_serial_lanes.md -/

abbrev LAN_CFG_TX_EN : Fld := ⟨0x040, 0, 1⟩
abbrev LAN_CFG_RX_EN : Fld := ⟨0x040, 1, 1⟩
abbrev LAN_CFG_TX_INVERT : Fld := ⟨0x040, 2, 1⟩
abbrev LAN_CFG_RX_INVERT : Fld := ⟨0x040, 3, 1⟩
abbrev LAN_CFG_TRAIN_EN : Fld := ⟨0x040, 4, 1⟩
abbrev LAN_CFG_INIT_PRESET : Fld := ⟨0x040, 8, 3⟩
abbrev LAN_STATUS_USE : Fld := ⟨0x044, 0, 3⟩
abbrev LAN_STATUS_SIG_DET : Fld := ⟨0x044, 3, 1⟩
abbrev LAN_STATUS_CDR_LOCK : Fld := ⟨0x044, 4, 1⟩
abbrev LAN_STATUS_CODE_LOCK : Fld := ⟨0x044, 5, 1⟩
abbrev LAN_STATUS_TSTATE : Fld := ⟨0x044, 6, 4⟩
abbrev LAN_STATUS_ATTEMPT : Fld := ⟨0x044, 10, 4⟩
abbrev LAN_STATUS_LAST_FAIL : Fld := ⟨0x044, 16, 4⟩
abbrev LAN_TX_FIXED_PRE : Fld := ⟨0x048, 0, 4⟩
abbrev LAN_TX_FIXED_MAIN : Fld := ⟨0x048, 8, 6⟩
abbrev LAN_TX_FIXED_POST : Fld := ⟨0x048, 16, 5⟩
abbrev LAN_TX_NOW : Fld := ⟨0x04C, 0, 21⟩
abbrev LAN_RX_EQ_CTLE : Fld := ⟨0x050, 0, 8⟩
abbrev LAN_RX_EQ_VGA : Fld := ⟨0x050, 8, 8⟩
abbrev LAN_RX_EQ_DFE : Fld := ⟨0x050, 16, 8⟩
abbrev LAN_RX_EQ_b24 : Fld := ⟨0x050, 24, 8⟩
abbrev LAN_TEST_GEN_PAT : Fld := ⟨0x054, 0, 3⟩
abbrev LAN_TEST_GEN_INV : Fld := ⟨0x054, 3, 1⟩
abbrev LAN_TEST_CHK_PAT : Fld := ⟨0x054, 4, 3⟩
abbrev LAN_TEST_CHK_INV : Fld := ⟨0x054, 7, 1⟩
abbrev LAN_TEST_LOOP : Fld := ⟨0x054, 8, 2⟩
abbrev LAN_TEST_NE_TX_QUIET : Fld := ⟨0x054, 10, 1⟩
abbrev LAN_PRBS_STATUS_CHK_LOCK : Fld := ⟨0x058, 0, 1⟩
abbrev LAN_PRBS_STATUS_LOCK_LOST : Fld := ⟨0x058, 1, 1⟩
abbrev LAN_PRBS_ERR : Fld := ⟨0x05C, 0, 32⟩
abbrev LAN_HDR_ERR : Fld := ⟨0x060, 0, 32⟩
abbrev LAN_EVENTS_b0 : Fld := ⟨0x064, 0, 16⟩
abbrev LAN_EVENTS_b16 : Fld := ⟨0x064, 16, 16⟩
abbrev LAN_ATTEMPTS_b0 : Fld := ⟨0x068, 0, 16⟩
abbrev LAN_ATTEMPTS_b16 : Fld := ⟨0x068, 16, 16⟩
abbrev LAN_LEAK_THRESH : Fld := ⟨0x06C, 0, 8⟩
abbrev LAN_LEAK_LEAK_PERIOD : Fld := ⟨0x06C, 8, 24⟩
abbrev LAN_TRAIN_BAD : Fld := ⟨0x070, 0, 16⟩
abbrev LAN_WANDER_b0 : Fld := ⟨0x074, 0, 8⟩
abbrev LAN_WANDER_SLIPS : Fld := ⟨0x074, 16, 16⟩
abbrev LAN_AN_CTL_AN_EN : Fld := ⟨0x080, 0, 1⟩
abbrev LAN_AN_CTL_AN_RESTART : Fld := ⟨0x080, 1, 1⟩
abbrev LAN_AN_CTL_b2 : Fld := ⟨0x080, 2, 2⟩
abbrev LAN_AN_CTL_b4 : Fld := ⟨0x080, 4, 2⟩
abbrev LAN_AN_STATUS_AN_COMPLETE : Fld := ⟨0x084, 0, 1⟩
abbrev LAN_AN_STATUS_b16 : Fld := ⟨0x084, 16, 16⟩
/-! ### Table LAN-14 of spec/04_serial_lanes.md -/

abbrev REF_CTL_ROLE : Fld := ⟨0x200, 0, 2⟩
abbrev REF_CTL_SSC_EN : Fld := ⟨0x200, 2, 1⟩
abbrev REF_CTL_SSC_AMP : Fld := ⟨0x200, 3, 4⟩
abbrev REF_CTL_SSC_FREQ : Fld := ⟨0x200, 7, 4⟩
abbrev REF_CAND_b0 (i : Nat) : Fld := ⟨0x204, 8 * i, 6⟩
abbrev REF_CAND_b7 (i : Nat) : Fld := ⟨0x204, 7 + 8 * i, 1⟩
abbrev REF_STATUS_RSTATE : Fld := ⟨0x208, 0, 2⟩
abbrev REF_STATUS_ACTIVE_CAND : Fld := ⟨0x208, 2, 3⟩
abbrev REF_STATUS_QUALIFIED : Fld := ⟨0x208, 8, 4⟩
abbrev REF_EVENTS_b0 : Fld := ⟨0x20C, 0, 16⟩
abbrev REF_EVENTS_HOLDOVER : Fld := ⟨0x20C, 16, 16⟩
abbrev REF_OFFSET : Fld := ⟨0x210, 0, 32⟩
/-! ### Table OPE-8 of spec/05_optics_and_bypass.md -/

abbrev OPE_CFG_TX_EN : Fld := ⟨0x040, 0, 1⟩
abbrev OPE_CFG_RX_EN : Fld := ⟨0x040, 1, 1⟩
abbrev OPE_CFG_ELEC : Fld := ⟨0x040, 2, 4⟩
abbrev OPE_STATUS_TYPE : Fld := ⟨0x044, 0, 1⟩
abbrev OPE_STATUS_LASER_OK : Fld := ⟨0x044, 1, 2⟩
abbrev OPE_STATUS_APR : Fld := ⟨0x044, 4, 4⟩
abbrev OPE_STATUS_PULSE : Fld := ⟨0x044, 8, 4⟩
abbrev OPE_TX_PWR : Fld := ⟨0x048, 0, 8⟩
abbrev OPE_LOS_THR_ASSERT : Fld := ⟨0x04C, 0, 16⟩
abbrev OPE_LOS_THR_DEASSERT : Fld := ⟨0x04C, 16, 16⟩
abbrev OPE_APR : Fld := ⟨0x050, 0, 4⟩
abbrev OPE_XT_CTL_BAND : Fld := ⟨0x054, 0, 2⟩
abbrev OPE_XT_CTL_XT_EN : Fld := ⟨0x054, 2, 1⟩
abbrev OPE_LEAK_THRESH : Fld := ⟨0x058, 0, 8⟩
abbrev OPE_LEAK_LEAK_PERIOD : Fld := ⟨0x058, 8, 24⟩
abbrev OPE_COUNTS_APR_ENTRIES : Fld := ⟨0x05C, 0, 16⟩
abbrev OPE_COUNTS_LOS_EVENTS : Fld := ⟨0x05C, 16, 16⟩
abbrev OPE_CLAMPS : Fld := ⟨0x060, 0, 16⟩
abbrev OPE_TEMP : Fld := ⟨0x064, 0, 16⟩
abbrev OPE_CH_CTL_REINSTATE (a : Nat) : Fld := ⟨0x100 + 32 * a, 0, 1⟩
abbrev OPE_CH_CTL_FORCE_DARK (a : Nat) : Fld := ⟨0x100 + 32 * a, 1, 1⟩
abbrev OPE_CH_STATUS_CH_STATE (a : Nat) : Fld := ⟨0x104 + 32 * a, 0, 3⟩
abbrev OPE_CH_STATUS_LOS (a : Nat) : Fld := ⟨0x104 + 32 * a, 3, 1⟩
abbrev OPE_CH_STATUS_LOCKED (a : Nat) : Fld := ⟨0x104 + 32 * a, 4, 1⟩
abbrev OPE_CH_STATUS_b8 (a : Nat) : Fld := ⟨0x104 + 32 * a, 8, 8⟩
abbrev OPE_CH_STATUS_b16 (a : Nat) : Fld := ⟨0x104 + 32 * a, 16, 16⟩
abbrev OPE_CH_PWR_b0 (a : Nat) : Fld := ⟨0x108 + 32 * a, 0, 16⟩
abbrev OPE_CH_PWR_b16 (a : Nat) : Fld := ⟨0x108 + 32 * a, 16, 16⟩
abbrev OPE_CH_LASER_b0 (a : Nat) : Fld := ⟨0x10C + 32 * a, 0, 16⟩
abbrev OPE_CH_LASER_b16 (a : Nat) : Fld := ⟨0x10C + 32 * a, 16, 16⟩
abbrev OPE_CH_EVENTS_b0 (a : Nat) : Fld := ⟨0x110 + 32 * a, 0, 16⟩
abbrev OPE_CH_EVENTS_LOS (a : Nat) : Fld := ⟨0x110 + 32 * a, 16, 16⟩
abbrev OPE_CH_LEAK (a : Nat) : Fld := ⟨0x114 + 32 * a, 0, 16⟩
abbrev OPE_HTR_b0 (a : Nat) : Fld := ⟨0x300 + 4 * a, 0, 16⟩
abbrev OPE_HTR_b16 (a : Nat) : Fld := ⟨0x300 + 4 * a, 16, 16⟩
/-! ### Table OPE-11 of spec/05_optics_and_bypass.md -/

abbrev OPE_XT_1_b0 (a : Nat) : Fld := ⟨0x400 + 16 * a, 0, 16⟩
abbrev OPE_XT_1_b16 (a : Nat) : Fld := ⟨0x400 + 16 * a, 16, 16⟩
abbrev OPE_XT_2_b0 (a : Nat) : Fld := ⟨0x404 + 16 * a, 0, 16⟩
abbrev OPE_XT_2_b16 (a : Nat) : Fld := ⟨0x404 + 16 * a, 16, 16⟩
abbrev OPE_XT_3_b0 (a : Nat) : Fld := ⟨0x408 + 16 * a, 0, 16⟩
abbrev OPE_XT_3_b16 (a : Nat) : Fld := ⟨0x408 + 16 * a, 16, 16⟩
/-! ### Table BYP-5 of spec/05_optics_and_bypass.md -/

abbrev BYP_POLICY (i : Nat) : Fld := ⟨0x040, 2 * i, 2⟩
abbrev BYP_TAP : Fld := ⟨0x044, 0, 4⟩
abbrev BYP_STATUS_ENGAGED : Fld := ⟨0x048, 0, 4⟩
abbrev BYP_STATUS_b4 : Fld := ⟨0x048, 4, 8⟩
abbrev BYP_STATUS_RAIL_OK : Fld := ⟨0x048, 12, 1⟩
abbrev BYP_STATUS_HB_OK : Fld := ⟨0x048, 13, 1⟩
abbrev BYP_STATUS_LREF_OK : Fld := ⟨0x048, 14, 1⟩
abbrev BYP_STATUS_LAST_CAUSE : Fld := ⟨0x048, 16, 4⟩
abbrev BYP_CTL : Fld := ⟨0x04C, 0, 4⟩
abbrev BYP_ENGAGES_b0 : Fld := ⟨0x050, 0, 16⟩
abbrev BYP_ENGAGES_b16 : Fld := ⟨0x050, 16, 16⟩
abbrev BYP_ENG_WDL_LO : Fld := ⟨0x054, 0, 32⟩
abbrev BYP_ENG_WDL_HI : Fld := ⟨0x058, 0, 32⟩
abbrev BYP_STRAPS : Fld := ⟨0x05C, 0, 8⟩
abbrev BYP_ENG_TIME : Fld := ⟨0x060, 0, 16⟩
abbrev BYP_PORT_FEC : Fld := ⟨0x064, 0, 8⟩
/-! ### Table LNP-6 of spec/06_line_ports.md -/

abbrev LNP_CFG : Fld := ⟨0x040, 0, 1⟩
abbrev LNP_MAX_LEN : Fld := ⟨0x044, 0, 14⟩
abbrev LNP_PAIR_MODE : Fld := ⟨0x048, 0, 1⟩
abbrev LNP_PAIR_LFP : Fld := ⟨0x048, 1, 2⟩
abbrev LNP_PAIR_LFP_HOLD : Fld := ⟨0x048, 8, 8⟩
abbrev LNP_STATUS_SIG : Fld := ⟨0x04C, 0, 1⟩
abbrev LNP_STATUS_BLOCK_LOCK : Fld := ⟨0x04C, 1, 1⟩
abbrev LNP_STATUS_ALIGN_LOCK : Fld := ⟨0x04C, 2, 1⟩
abbrev LNP_STATUS_FEC_LOCK : Fld := ⟨0x04C, 3, 1⟩
abbrev LNP_STATUS_LINK : Fld := ⟨0x04C, 4, 1⟩
abbrev LNP_STATUS_RX_LF : Fld := ⟨0x04C, 5, 1⟩
abbrev LNP_STATUS_RX_RF : Fld := ⟨0x04C, 6, 1⟩
abbrev LNP_STATUS_TX_DOWN : Fld := ⟨0x04C, 7, 1⟩
abbrev LNP_STATUS_TX_SEND : Fld := ⟨0x04C, 8, 2⟩
abbrev LNP_STATUS_IN_SERVICE : Fld := ⟨0x04C, 10, 1⟩
abbrev LNP_RX_FRAMES_LO : Fld := ⟨0x050, 0, 32⟩
abbrev LNP_RX_FRAMES_HI : Fld := ⟨0x054, 0, 32⟩
abbrev LNP_RX_OCTETS_LO : Fld := ⟨0x058, 0, 32⟩
abbrev LNP_RX_OCTETS_HI : Fld := ⟨0x05C, 0, 32⟩
abbrev LNP_TX_FRAMES_LO : Fld := ⟨0x060, 0, 32⟩
abbrev LNP_TX_FRAMES_HI : Fld := ⟨0x064, 0, 32⟩
abbrev LNP_TX_OCTETS_LO : Fld := ⟨0x068, 0, 32⟩
abbrev LNP_TX_OCTETS_HI : Fld := ⟨0x06C, 0, 32⟩
abbrev LNP_RX_FCS_ERR : Fld := ⟨0x070, 0, 32⟩
abbrev LNP_RX_LEN_ERR_RX_RUNT : Fld := ⟨0x074, 0, 16⟩
abbrev LNP_RX_LEN_ERR_RX_OVERSIZE : Fld := ⟨0x074, 16, 16⟩
abbrev LNP_RX_CODE_ERR_RX_CODE : Fld := ⟨0x078, 0, 16⟩
abbrev LNP_RX_CODE_ERR_RX_TRUNC : Fld := ⟨0x078, 16, 16⟩
abbrev LNP_RX_MAC_CTL_PAUSE : Fld := ⟨0x07C, 0, 16⟩
abbrev LNP_RX_MAC_CTL_PFC : Fld := ⟨0x07C, 16, 16⟩
abbrev LNP_EGRESS_DOWN : Fld := ⟨0x080, 0, 32⟩
abbrev LNP_EGRESS_LATE : Fld := ⟨0x084, 0, 32⟩
abbrev LNP_FEC_CORR : Fld := ⟨0x088, 0, 32⟩
abbrev LNP_FEC_UNCORR : Fld := ⟨0x08C, 0, 32⟩
abbrev LNP_TAP_TERM : Fld := ⟨0x090, 0, 32⟩
abbrev LNP_EAPOL_EAPOL : Fld := ⟨0x094, 0, 16⟩
abbrev LNP_EAPOL_b16 : Fld := ⟨0x094, 16, 16⟩
abbrev LNP_LINK_EVT_LINK_LOSSES : Fld := ⟨0x098, 0, 16⟩
abbrev LNP_LINK_EVT_b16 : Fld := ⟨0x098, 16, 16⟩
/-! ### Table MSC-3 of spec/06_line_ports.md -/

abbrev MSC_CTL_ENABLE : Fld := ⟨0x040, 0, 1⟩
abbrev MSC_CTL_XPN : Fld := ⟨0x040, 1, 1⟩
abbrev MSC_CTL_VALIDATE : Fld := ⟨0x040, 2, 2⟩
abbrev MSC_CTL_REPLAY_PROTECT : Fld := ⟨0x040, 4, 1⟩
abbrev MSC_CTL_PROTECT : Fld := ⟨0x040, 5, 1⟩
abbrev MSC_CTL_ENCRYPT : Fld := ⟨0x040, 6, 1⟩
abbrev MSC_CTL_CONF_OFFSET : Fld := ⟨0x040, 7, 2⟩
abbrev MSC_CTL_INCLUDE_SCI : Fld := ⟨0x040, 9, 1⟩
abbrev MSC_CTL_EAPOL_TERM : Fld := ⟨0x040, 10, 1⟩
abbrev MSC_REPLAY_WIN : Fld := ⟨0x044, 0, 32⟩
abbrev MSC_TX_SCI_LO : Fld := ⟨0x048, 0, 32⟩
abbrev MSC_TX_SCI_HI : Fld := ⟨0x04C, 0, 32⟩
abbrev MSC_TX_AN_ENC_AN : Fld := ⟨0x050, 0, 2⟩
abbrev MSC_TX_AN_ENC_AN_NOW : Fld := ⟨0x050, 8, 2⟩
abbrev MSC_PN_THR_LO : Fld := ⟨0x054, 0, 32⟩
abbrev MSC_PN_THR_HI : Fld := ⟨0x058, 0, 32⟩
abbrev MSC_TX_SA_CTL_IN_USE (a : Nat) : Fld := ⟨0x100 + 32 * a, 0, 1⟩
abbrev MSC_TX_SA_CTL_KEY_VALID (a : Nat) : Fld := ⟨0x100 + 32 * a, 1, 1⟩
abbrev MSC_TX_SA_CTL_EXHAUSTED (a : Nat) : Fld := ⟨0x100 + 32 * a, 2, 1⟩
abbrev MSC_TX_SA_CTL_KEY_TAG (a : Nat) : Fld := ⟨0x100 + 32 * a, 16, 16⟩
abbrev MSC_TX_SA_NPN_LO (a : Nat) : Fld := ⟨0x104 + 32 * a, 0, 32⟩
abbrev MSC_TX_SA_NPN_HI (a : Nat) : Fld := ⟨0x108 + 32 * a, 0, 32⟩
abbrev MSC_TX_SA_SSCI (a : Nat) : Fld := ⟨0x10C + 32 * a, 0, 32⟩
abbrev MSC_TX_SA_PKTS (a : Nat) : Fld := ⟨0x110 + 32 * a, 0, 32⟩
abbrev MSC_RX_SC_SCI_LO (a : Nat) : Fld := ⟨0x200 + 128 * a, 0, 32⟩
abbrev MSC_RX_SC_SCI_HI (a : Nat) : Fld := ⟨0x204 + 128 * a, 0, 32⟩
abbrev MSC_RX_SC_CTL (a : Nat) : Fld := ⟨0x208 + 128 * a, 0, 1⟩
abbrev MSC_RX_SA_CTL_IN_USE (a : Nat) (b : Nat) : Fld := ⟨0x210 + 128 * a + 16 * b, 0, 1⟩
abbrev MSC_RX_SA_CTL_KEY_VALID (a : Nat) (b : Nat) : Fld := ⟨0x210 + 128 * a + 16 * b, 1, 1⟩
abbrev MSC_RX_SA_CTL_LPN_OVER (a : Nat) (b : Nat) : Fld := ⟨0x210 + 128 * a + 16 * b, 2, 1⟩
abbrev MSC_RX_SA_CTL_KEY_TAG (a : Nat) (b : Nat) : Fld := ⟨0x210 + 128 * a + 16 * b, 16, 16⟩
abbrev MSC_RX_SA_LPN_LO (a : Nat) (b : Nat) : Fld := ⟨0x214 + 128 * a + 16 * b, 0, 32⟩
abbrev MSC_RX_SA_LPN_HI (a : Nat) (b : Nat) : Fld := ⟨0x218 + 128 * a + 16 * b, 0, 32⟩
abbrev MSC_RX_SA_SSCI (a : Nat) (b : Nat) : Fld := ⟨0x21C + 128 * a + 16 * b, 0, 32⟩
abbrev MSC_IN_OK : Fld := ⟨0x600, 0, 32⟩
abbrev MSC_IN_INVALID : Fld := ⟨0x604, 0, 32⟩
abbrev MSC_IN_NOT_VALID : Fld := ⟨0x608, 0, 32⟩
abbrev MSC_IN_LATE : Fld := ⟨0x60C, 0, 32⟩
abbrev MSC_IN_NO_SA : Fld := ⟨0x610, 0, 32⟩
abbrev MSC_IN_UNTAGGED : Fld := ⟨0x614, 0, 32⟩
abbrev MSC_IN_UNCHECKED : Fld := ⟨0x618, 0, 32⟩
abbrev MSC_OUT_TOO_LONG : Fld := ⟨0x61C, 0, 32⟩
abbrev MSC_OUT_PN_EXH : Fld := ⟨0x620, 0, 32⟩
abbrev MSC_OUT_NO_SA : Fld := ⟨0x624, 0, 32⟩
/-! ### Table PTP-1 of spec/06_line_ports.md -/

abbrev PTP_CTL_TC_EN : Fld := ⟨0x040, 0, 1⟩
abbrev PTP_CTL_L2_EN : Fld := ⟨0x040, 1, 1⟩
abbrev PTP_CTL_UDP4_EN : Fld := ⟨0x040, 2, 1⟩
abbrev PTP_CTL_UDP6_EN : Fld := ⟨0x040, 3, 1⟩
abbrev PTP_CTL_PORT_EN : Fld := ⟨0x040, 8, 8⟩
abbrev PTP_RATE_ADJ : Fld := ⟨0x044, 0, 32⟩
abbrev PTP_TIME_LO : Fld := ⟨0x048, 0, 32⟩
abbrev PTP_TIME_HI : Fld := ⟨0x04C, 0, 32⟩
abbrev PTP_RX_DLY_b0 (a : Nat) : Fld := ⟨0x080 + 8 * a, 0, 16⟩
abbrev PTP_RX_DLY_b16 (a : Nat) : Fld := ⟨0x080 + 8 * a, 16, 16⟩
abbrev PTP_TX_DLY_b0 (a : Nat) : Fld := ⟨0x084 + 8 * a, 0, 16⟩
abbrev PTP_TX_DLY_b16 (a : Nat) : Fld := ⟨0x084 + 8 * a, 16, 16⟩
abbrev PTP_CORRECTED : Fld := ⟨0x0C0, 0, 32⟩
abbrev PTP_UNSUPPORTED : Fld := ⟨0x0C4, 0, 32⟩
abbrev PTP_SATURATED : Fld := ⟨0x0C8, 0, 16⟩
abbrev PTP_MAX_RES : Fld := ⟨0x0CC, 0, 32⟩
/-! ### Table STG-10 of spec/07_ingress_pipeline.md -/

abbrev STG_ACCEPT : Fld := ⟨0x040, 0, 16⟩
abbrev STG_FLOAT_b0 : Fld := ⟨0x044, 0, 16⟩
abbrev STG_FLOAT_b16 : Fld := ⟨0x044, 16, 16⟩
abbrev STG_FLOAT_MAX : Fld := ⟨0x048, 0, 16⟩
abbrev STG_FLOAT_HI : Fld := ⟨0x04C, 0, 16⟩
abbrev STG_IN : Fld := ⟨0x050, 0, 32⟩
abbrev STG_OUT : Fld := ⟨0x054, 0, 32⟩
abbrev STG_SUMP : Fld := ⟨0x058, 0, 32⟩
abbrev STG_STALL : Fld := ⟨0x05C, 0, 32⟩
abbrev STG_ECC_b0 : Fld := ⟨0x060, 0, 16⟩
abbrev STG_ECC_b16 : Fld := ⟨0x060, 16, 16⟩
/-! ### Table STG-11 of spec/07_ingress_pipeline.md -/

abbrev STG_S0_CELLS : Fld := ⟨0x100, 0, 14⟩
abbrev STG_S0_CELLS_MIN : Fld := ⟨0x104, 0, 14⟩
abbrev STG_S0_FULL (a : Nat) : Fld := ⟨0x108 + 4 * a, 0, 32⟩
/-! ### Table STG-12 of spec/07_ingress_pipeline.md -/

abbrev STG_S2_TPID : Fld := ⟨0x100, 0, 16⟩
abbrev STG_S2_DEEP_b0 : Fld := ⟨0x104, 0, 16⟩
abbrev STG_S2_DEEP_b16 : Fld := ⟨0x104, 16, 16⟩
abbrev STG_S2_FRAG_FRAG_FIRST : Fld := ⟨0x108, 0, 16⟩
abbrev STG_S2_FRAG_FRAG_LATER : Fld := ⟨0x108, 16, 16⟩
abbrev STG_S2_L3CSUM : Fld := ⟨0x10C, 0, 32⟩
/-! ### Table STG-13 of spec/07_ingress_pipeline.md -/

abbrev STG_FT_BASE_LO : Fld := ⟨0x100, 0, 32⟩
abbrev STG_FT_BASE_HI : Fld := ⟨0x104, 0, 8⟩
abbrev STG_FT_CTL_FT_SIZE : Fld := ⟨0x108, 0, 5⟩
abbrev STG_FT_CTL_FT_INIT : Fld := ⟨0x108, 5, 1⟩
abbrev STG_FT_CTL_CREATE_TCP : Fld := ⟨0x108, 6, 1⟩
abbrev STG_FT_CTL_CREATE_UDP : Fld := ⟨0x108, 7, 1⟩
abbrev STG_FT_CTL_CREATE_OTHER : Fld := ⟨0x108, 8, 1⟩
abbrev STG_FT_STATUS : Fld := ⟨0x10C, 0, 1⟩
abbrev STG_FT_TIMEOUT_IDLE_TCP : Fld := ⟨0x110, 0, 16⟩
abbrev STG_FT_TIMEOUT_IDLE_UDP : Fld := ⟨0x110, 16, 16⟩
abbrev STG_FT_CLOSE_CLOSE_HOLD : Fld := ⟨0x114, 0, 16⟩
abbrev STG_FT_CLOSE_SWEEP_BKT : Fld := ⟨0x114, 16, 16⟩
abbrev STG_FT_MISS_LIMIT : Fld := ⟨0x118, 0, 16⟩
abbrev STG_FT_HITS : Fld := ⟨0x140, 0, 32⟩
abbrev STG_FT_MISSES : Fld := ⟨0x144, 0, 32⟩
abbrev STG_FT_CREATES : Fld := ⟨0x148, 0, 32⟩
abbrev STG_FT_NOREC_TABLE_FULL : Fld := ⟨0x14C, 0, 16⟩
abbrev STG_FT_NOREC_NOT_CREATED : Fld := ⟨0x14C, 16, 16⟩
abbrev STG_FT_LATE_MISS_LATE : Fld := ⟨0x150, 0, 16⟩
abbrev STG_FT_LATE_MISS_BUSY : Fld := ⟨0x150, 16, 16⟩
abbrev STG_FT_PIN_PIN_FULL : Fld := ⟨0x154, 0, 16⟩
abbrev STG_FT_PIN_ANNOT_STALE : Fld := ⟨0x154, 16, 16⟩
abbrev STG_FT_EXPIRED : Fld := ⟨0x158, 0, 32⟩
abbrev STG_FT_LOSS_EVICT_LOST : Fld := ⟨0x15C, 0, 16⟩
abbrev STG_FT_LOSS_FT_DDR_ERR : Fld := ⟨0x15C, 16, 16⟩
/-! ### Table STG-14 of spec/07_ingress_pipeline.md -/

abbrev STG_RA_CFG_POLICY : Fld := ⟨0x100, 0, 1⟩
abbrev STG_RA_CFG_MAX_HOLES : Fld := ⟨0x100, 1, 3⟩
abbrev STG_RA_CFG_HOLE_HOLD : Fld := ⟨0x100, 8, 8⟩
abbrev STG_RA_CFG_REASM_WIN : Fld := ⟨0x100, 16, 9⟩
abbrev STG_RA_CELLS : Fld := ⟨0x104, 0, 14⟩
abbrev STG_RA_HELD : Fld := ⟨0x108, 0, 32⟩
abbrev STG_RA_GAPS_GAPS : Fld := ⟨0x10C, 0, 16⟩
abbrev STG_RA_GAPS_OVERLAP_CONFLICT : Fld := ⟨0x10C, 16, 16⟩
abbrev STG_RA_RETRANS : Fld := ⟨0x110, 0, 32⟩
/-! ### Table STG-15 of spec/07_ingress_pipeline.md -/

abbrev STG_CV_CFG_WIN_SIZE : Fld := ⟨0x100, 0, 2⟩
abbrev STG_CV_CFG_OBJ_MAX_WIN : Fld := ⟨0x100, 16, 16⟩
abbrev STG_CV_OBJECTS : Fld := ⟨0x104, 0, 32⟩
abbrev STG_CV_WINDOWS : Fld := ⟨0x108, 0, 32⟩
abbrev STG_CV_WIN_DROP : Fld := ⟨0x10C, 0, 32⟩
abbrev STG_CV_CLOSE_b0 : Fld := ⟨0x110, 0, 8⟩
abbrev STG_CV_CLOSE_GAP : Fld := ⟨0x110, 8, 8⟩
abbrev STG_CV_CLOSE_MAX : Fld := ⟨0x110, 16, 8⟩
abbrev STG_CV_CLOSE_LEN : Fld := ⟨0x110, 24, 8⟩
abbrev STG_SIG_PAT0 (a : Nat) : Fld := ⟨0x400 + 32 * a, 0, 32⟩
abbrev STG_SIG_PAT1 (a : Nat) : Fld := ⟨0x404 + 32 * a, 0, 32⟩
abbrev STG_SIG_PAT2 (a : Nat) : Fld := ⟨0x408 + 32 * a, 0, 32⟩
abbrev STG_SIG_MASK0 (a : Nat) : Fld := ⟨0x40C + 32 * a, 0, 32⟩
abbrev STG_SIG_MASK1 (a : Nat) : Fld := ⟨0x410 + 32 * a, 0, 32⟩
abbrev STG_SIG_MASK2 (a : Nat) : Fld := ⟨0x414 + 32 * a, 0, 32⟩
abbrev STG_SIG_CTL_OFFSET (a : Nat) : Fld := ⟨0x418 + 32 * a, 0, 16⟩
abbrev STG_SIG_CTL_b16 (a : Nat) : Fld := ⟨0x418 + 32 * a, 16, 8⟩
abbrev STG_SIG_CTL_VALID (a : Nat) : Fld := ⟨0x418 + 32 * a, 24, 1⟩
abbrev STG_SIG_CTL_MODE (a : Nat) : Fld := ⟨0x418 + 32 * a, 25, 1⟩
abbrev STG_SIG_MAX (a : Nat) : Fld := ⟨0x41C + 32 * a, 0, 32⟩
/-! ### Table STG-16 of spec/07_ingress_pipeline.md -/

abbrev STG_FB_SEL_FMAP_SEL : Fld := ⟨0x100, 0, 1⟩
abbrev STG_FB_SEL_b1 : Fld := ⟨0x100, 1, 1⟩
abbrev STG_FB_VECTORS : Fld := ⟨0x104, 0, 32⟩
abbrev STG_FB_WINDOWS : Fld := ⟨0x108, 0, 32⟩
abbrev STG_FMAP_b0 (a : Nat) (b : Nat) (i : Nat) : Fld := ⟨0x400 + 128 * a + 4 * b, 8 * i, 5⟩
abbrev STG_FMAP_b5 (a : Nat) (b : Nat) (i : Nat) : Fld := ⟨0x400 + 128 * a + 4 * b, 5 + 8 * i, 3⟩
/-! ### Table STG-24 of spec/08_verdict_and_egress.md -/

abbrev STG_DISP_T1_MODE (a : Nat) : Fld := ⟨0x100 + 4 * a, 0, 2⟩
abbrev STG_DISP_T1_NOREC (a : Nat) : Fld := ⟨0x100 + 4 * a, 2, 1⟩
abbrev STG_DISP_T2_EN (a : Nat) : Fld := ⟨0x100 + 4 * a, 3, 1⟩
abbrev STG_DISP_T3_MODE (a : Nat) : Fld := ⟨0x100 + 4 * a, 4, 2⟩
abbrev STG_DISP_T1_FIRST (a : Nat) : Fld := ⟨0x100 + 4 * a, 8, 8⟩
abbrev STG_DISP_T3_CHIP (a : Nat) : Fld := ⟨0x100 + 4 * a, 16, 16⟩
abbrev STG_T1_CAP : Fld := ⟨0x110, 0, 32⟩
abbrev STG_T1_DISP : Fld := ⟨0x114, 0, 32⟩
abbrev STG_T2_DISP : Fld := ⟨0x118, 0, 32⟩
abbrev STG_T3_DISP : Fld := ⟨0x11C, 0, 32⟩
abbrev STG_VOIDS_T1_FULL : Fld := ⟨0x120, 0, 16⟩
abbrev STG_VOIDS_b16 : Fld := ⟨0x120, 16, 16⟩
/-! ### Table STG-25 of spec/08_verdict_and_egress.md -/

abbrev STG_PAIR_HOLD (a : Nat) : Fld := ⟨0x100 + 8 * a, 0, 24⟩
abbrev STG_PAIR_POL_UNSCORED (a : Nat) : Fld := ⟨0x104 + 8 * a, 0, 2⟩
abbrev STG_PAIR_POL_COPY_GROUP (a : Nat) : Fld := ⟨0x104 + 8 * a, 4, 4⟩
abbrev STG_PAIR_POL_COPY_WHEN (a : Nat) : Fld := ⟨0x104 + 8 * a, 8, 2⟩
abbrev STG_PAIR_POL_MARK_MODE (a : Nat) : Fld := ⟨0x104 + 8 * a, 10, 2⟩
abbrev STG_PAIR_POL_MARK_DSCP (a : Nat) : Fld := ⟨0x104 + 8 * a, 12, 6⟩
abbrev STG_PAIR_POL_MARK_PCP (a : Nat) : Fld := ⟨0x104 + 8 * a, 18, 3⟩
abbrev STG_PAIR_POL_WAIT (a : Nat) : Fld := ⟨0x104 + 8 * a, 24, 4⟩
abbrev STG_JOIN_SCORED : Fld := ⟨0x140, 0, 32⟩
abbrev STG_JOIN_UNSCORED : Fld := ⟨0x144, 0, 32⟩
abbrev STG_VERDICTS (a : Nat) : Fld := ⟨0x148 + 4 * a, 0, 32⟩
abbrev STG_ORDER_LATE : Fld := ⟨0x160, 0, 32⟩
abbrev STG_SCORES_SCORE_ORPHAN : Fld := ⟨0x164, 0, 16⟩
abbrev STG_SCORES_SCORE_BAD : Fld := ⟨0x164, 16, 16⟩
abbrev STG_FT4_FT4_REPLACED : Fld := ⟨0x168, 0, 16⟩
abbrev STG_FT4_FT4_TIMEOUT : Fld := ⟨0x168, 16, 16⟩
abbrev STG_JOIN_HELD : Fld := ⟨0x16C, 0, 15⟩
/-! ### Table STG-26 of spec/08_verdict_and_egress.md -/

abbrev STG_DIVERT_DL : Fld := ⟨0x100, 0, 16⟩
abbrev STG_ACT_MARK_MARK_NONE : Fld := ⟨0x104, 0, 16⟩
abbrev STG_ACT_MARK_NO_COPY : Fld := ⟨0x104, 16, 16⟩
abbrev STG_ACT_COPIES : Fld := ⟨0x108, 0, 32⟩
/-! ### Table STG-27 of spec/08_verdict_and_egress.md -/

abbrev STG_SP_QUEUE_b0 (a : Nat) : Fld := ⟨0x100 + 8 * a, 0, 11⟩
abbrev STG_SP_QUEUE_b16 (a : Nat) : Fld := ⟨0x100 + 8 * a, 16, 9⟩
abbrev STG_SP_COPY_TX (a : Nat) : Fld := ⟨0x104 + 8 * a, 0, 32⟩
/-! ### Table CPY-1 of spec/08_verdict_and_egress.md -/

abbrev CPY_LOG_PTR : Fld := ⟨0x0C0, 0, 8⟩
abbrev CPY_DEST_TYPE (a : Nat) (b : Nat) : Fld := ⟨0x100 + 32 * a + 8 * b, 0, 2⟩
abbrev CPY_DEST_TARGET (a : Nat) (b : Nat) : Fld := ⟨0x100 + 32 * a + 8 * b, 8, 16⟩
abbrev CPY_DEST_LIM_b0 (a : Nat) (b : Nat) : Fld := ⟨0x104 + 32 * a + 8 * b, 0, 16⟩
abbrev CPY_DEST_LIM_b16 (a : Nat) (b : Nat) : Fld := ⟨0x104 + 32 * a + 8 * b, 16, 14⟩
abbrev CPY_DELIVERED (a : Nat) : Fld := ⟨0x300 + 8 * a, 0, 32⟩
abbrev CPY_LATE_COPY_LATE (a : Nat) : Fld := ⟨0x304 + 8 * a, 0, 16⟩
abbrev CPY_LATE_COPY_REFUSED (a : Nat) : Fld := ⟨0x304 + 8 * a, 16, 16⟩
abbrev CPY_LOG (a : Nat) : Fld := ⟨0x800 + 8 * a, 0, 32⟩
abbrev CPY_LOG2_b0 (a : Nat) : Fld := ⟨0x804 + 8 * a, 0, 4⟩
abbrev CPY_LOG2_b4 (a : Nat) : Fld := ⟨0x804 + 8 * a, 4, 4⟩
abbrev CPY_LOG2_b8 (a : Nat) : Fld := ⟨0x804 + 8 * a, 8, 4⟩
/-! ### Table SMP-2 of spec/08_verdict_and_egress.md -/

abbrev SMP_CTL_CAP_EN : Fld := ⟨0x040, 0, 1⟩
abbrev SMP_CTL_b8 : Fld := ⟨0x040, 8, 8⟩
abbrev SMP_CTL_CAP_RATE : Fld := ⟨0x040, 16, 16⟩
abbrev SMP_CAP_LIM_CAP_SNAP : Fld := ⟨0x044, 0, 14⟩
abbrev SMP_CAP_LIM_CAP_DL : Fld := ⟨0x044, 16, 16⟩
abbrev SMP_CAP_MASK_LO : Fld := ⟨0x048, 0, 32⟩
abbrev SMP_CAP_MASK_HI : Fld := ⟨0x04C, 0, 32⟩
abbrev SMP_SAT_LO : Fld := ⟨0x050, 0, 32⟩
abbrev SMP_SAT_HI : Fld := ⟨0x054, 0, 32⟩
abbrev SMP_CAPTURED : Fld := ⟨0x058, 0, 32⟩
abbrev SMP_CAP_LOST : Fld := ⟨0x05C, 0, 32⟩
abbrev SMP_CNT (a : Nat) : Fld := ⟨0x100 + 4 * a, 0, 32⟩
/-! ### Table FAB-6 of spec/09_fabric_and_clocks.md -/

abbrev FAB_RGN_CLK : Fld := ⟨0x040, 0, 16⟩
abbrev FAB_RGN_CFG_CORR : Fld := ⟨0x044, 0, 32⟩
abbrev FAB_RGN_BRAM_b0 : Fld := ⟨0x048, 0, 16⟩
abbrev FAB_RGN_BRAM_b16 : Fld := ⟨0x048, 16, 16⟩
abbrev FAB_CFG : Fld := ⟨0x040, 0, 1⟩
abbrev FAB_CTL : Fld := ⟨0x044, 0, 4⟩
abbrev FAB_IMAGE_ID : Fld := ⟨0x048, 0, 32⟩
abbrev FAB_UREG_CNT_UREG_TIMEOUT : Fld := ⟨0x04C, 0, 16⟩
abbrev FAB_UREG_CNT_UREG_DROP : Fld := ⟨0x04C, 16, 16⟩
abbrev FAB_TAP_CTL_ENABLE : Fld := ⟨0x040, 0, 2⟩
abbrev FAB_TAP_CTL_FCG : Fld := ⟨0x040, 2, 4⟩
abbrev FAB_TAP_CTL_PORT_MASK : Fld := ⟨0x040, 8, 8⟩
abbrev FAB_TAP_CTL_SAMPLE : Fld := ⟨0x040, 16, 3⟩
abbrev FAB_TAP_DECL_SCORE : Fld := ⟨0x044, 0, 3⟩
abbrev FAB_TAP_DECL_b3 : Fld := ⟨0x044, 3, 1⟩
abbrev FAB_TAP_DECL_RGN : Fld := ⟨0x048, 0, 32⟩
abbrev FAB_TAP_OFFERED (a : Nat) : Fld := ⟨0x04C + 16 * a, 0, 32⟩
abbrev FAB_TAP_OVERFLOW (a : Nat) : Fld := ⟨0x050 + 16 * a, 0, 32⟩
abbrev FAB_TAP_SAMPLED (a : Nat) : Fld := ⟨0x054 + 16 * a, 0, 32⟩
abbrev FAB_TAP_RET_b0 (a : Nat) : Fld := ⟨0x058 + 16 * a, 0, 24⟩
abbrev FAB_TAP_RET_TAP_RET_BAD (a : Nat) : Fld := ⟨0x058 + 16 * a, 24, 8⟩
abbrev FAB_TNI_CTL : Fld := ⟨0x040, 0, 4⟩
abbrev FAB_TNI_FLITS_IN : Fld := ⟨0x044, 0, 32⟩
abbrev FAB_TNI_FLITS_OUT : Fld := ⟨0x048, 0, 32⟩
abbrev FAB_TNI_STALL : Fld := ⟨0x04C, 0, 32⟩
abbrev FAB_FCG_CTL_SRC : Fld := ⟨0x040, 0, 2⟩
abbrev FAB_FCG_CTL_FOLLOW : Fld := ⟨0x040, 2, 1⟩
abbrev FAB_FCG_CTL_b8 : Fld := ⟨0x040, 8, 8⟩
abbrev FAB_FCG_CTL_b16 : Fld := ⟨0x040, 16, 4⟩
abbrev FAB_FCG_CTL_b20 : Fld := ⟨0x040, 20, 6⟩
abbrev FAB_FCG_STATUS : Fld := ⟨0x044, 0, 1⟩
abbrev FAB_FCG_LOSSES : Fld := ⟨0x048, 0, 16⟩
abbrev FAB_SCR_CTL : Fld := ⟨0x040, 0, 16⟩
abbrev FAB_SCR_PASSES : Fld := ⟨0x044, 0, 32⟩
abbrev FAB_SCR_POS : Fld := ⟨0x048, 0, 5⟩
/-! ### Table CLK-3 of spec/09_fabric_and_clocks.md -/

abbrev CLK_TOL : Fld := ⟨0x040, 0, 16⟩
abbrev CLK_STATUS_b0 (a : Nat) : Fld := ⟨0x100 + 16 * a, 0, 2⟩
abbrev CLK_STATUS_FOLLOWER (a : Nat) : Fld := ⟨0x100 + 16 * a, 2, 1⟩
abbrev CLK_FREQ (a : Nat) : Fld := ⟨0x104 + 16 * a, 0, 32⟩
abbrev CLK_EVT_OUT (a : Nat) : Fld := ⟨0x108 + 16 * a, 0, 16⟩
abbrev CLK_EVT_STOPPED (a : Nat) : Fld := ⟨0x108 + 16 * a, 16, 16⟩
/-! ### Table MTL-5 of spec/10_tiles_and_tile_network.md -/

abbrev MTL_CFG_CPL_DEST : Fld := ⟨0x040, 0, 8⟩
abbrev MTL_CFG_CPL_EN : Fld := ⟨0x040, 8, 1⟩
abbrev MTL_STATUS_b0 : Fld := ⟨0x044, 0, 2⟩
abbrev MTL_STATUS_b2 : Fld := ⟨0x044, 2, 2⟩
abbrev MTL_STATUS_b4 : Fld := ⟨0x044, 4, 1⟩
abbrev MTL_BANK : Fld := ⟨0x048, 0, 1⟩
abbrev MTL_CHECK : Fld := ⟨0x04C, 0, 16⟩
abbrev MTL_LEAK_THRESH : Fld := ⟨0x050, 0, 8⟩
abbrev MTL_LEAK_LEAK_PERIOD : Fld := ⟨0x050, 8, 24⟩
abbrev MTL_OPS : Fld := ⟨0x054, 0, 32⟩
abbrev MTL_CPL_ERR_b0 : Fld := ⟨0x058, 0, 16⟩
abbrev MTL_CPL_ERR_CANCELLED : Fld := ⟨0x058, 16, 16⟩
abbrev MTL_ECC_b0 : Fld := ⟨0x05C, 0, 16⟩
abbrev MTL_ECC_b16 : Fld := ⟨0x05C, 16, 16⟩
abbrev MTL_CHECK_FAIL : Fld := ⟨0x060, 0, 16⟩
abbrev MTL_BUSY : Fld := ⟨0x064, 0, 32⟩
abbrev MTL_SAT : Fld := ⟨0x068, 0, 32⟩
abbrev MTL_FLUSH : Fld := ⟨0x06C, 0, 32⟩
abbrev MTL_PROG_BASE (a : Nat) : Fld := ⟨0x100 + 16 * a, 0, 20⟩
abbrev MTL_PROG_LEN (a : Nat) : Fld := ⟨0x104 + 16 * a, 0, 20⟩
abbrev MTL_PROG_ID (a : Nat) : Fld := ⟨0x108 + 16 * a, 0, 32⟩
abbrev MTL_PROG_CTL_VALID (a : Nat) : Fld := ⟨0x10C + 16 * a, 0, 1⟩
abbrev MTL_PROG_CTL_START (a : Nat) : Fld := ⟨0x10C + 16 * a, 1, 1⟩
abbrev MTL_PROG_CTL_TRIGGER (a : Nat) : Fld := ⟨0x10C + 16 * a, 2, 2⟩
/-! ### Table TNW-8 of spec/10_tiles_and_tile_network.md -/

abbrev TNW_GTS_SEL_b0 : Fld := ⟨0x040, 0, 1⟩
abbrev TNW_GTS_SEL_b1 : Fld := ⟨0x040, 1, 1⟩
abbrev TNW_STATUS : Fld := ⟨0x044, 0, 4⟩
abbrev TNW_FLITS (a : Nat) : Fld := ⟨0x100 + 16 * a, 0, 32⟩
abbrev TNW_STALL (a : Nat) : Fld := ⟨0x104 + 16 * a, 0, 32⟩
abbrev TNW_GTS_GTS_MISS (a : Nat) : Fld := ⟨0x108 + 16 * a, 0, 16⟩
abbrev TNW_GTS_GTS_DROP (a : Nat) : Fld := ⟨0x108 + 16 * a, 16, 16⟩
abbrev TNW_ECC_b0 (a : Nat) : Fld := ⟨0x10C + 16 * a, 0, 16⟩
abbrev TNW_ECC_b16 (a : Nat) : Fld := ⟨0x10C + 16 * a, 16, 16⟩
abbrev TNW_SINK_DOWN_SINK : Fld := ⟨0x180, 0, 16⟩
abbrev TNW_SINK_ROUTE_BAD : Fld := ⟨0x180, 16, 16⟩
abbrev TNW_NACK : Fld := ⟨0x184, 0, 32⟩
abbrev TNW_EDGE_IN (a : Nat) : Fld := ⟨0x200 + 16 * a, 0, 32⟩
abbrev TNW_EDGE_OUT (a : Nat) : Fld := ⟨0x204 + 16 * a, 0, 32⟩
abbrev TNW_EDGE_STALL (a : Nat) : Fld := ⟨0x208 + 16 * a, 0, 32⟩
abbrev TNW_BATCH_BASE_LO : Fld := ⟨0x300, 0, 32⟩
abbrev TNW_BATCH_BASE_HI : Fld := ⟨0x304, 0, 32⟩
abbrev TNW_BATCH_SLOTS : Fld := ⟨0x308, 0, 16⟩
abbrev TNW_PLACE_MASK (a : Nat) (b : Nat) : Fld := ⟨0x310 + 32 * a + 4 * b, 0, 32⟩
abbrev TNW_PLACE_CAP_b0 (a : Nat) : Fld := ⟨0x320 + 32 * a, 0, 16⟩
abbrev TNW_PLACE_CAP_VALID (a : Nat) : Fld := ⟨0x320 + 32 * a, 31, 1⟩
abbrev TNW_PLACE_SEL_b0 : Fld := ⟨0x390, 0, 2⟩
abbrev TNW_PLACE_SEL_NONE : Fld := ⟨0x390, 2, 1⟩
abbrev TNW_PLACE_SWITCH : Fld := ⟨0x394, 0, 32⟩
abbrev TNW_SCORE_CLOSE : Fld := ⟨0x3A0, 0, 16⟩
abbrev TNW_SCORE_VOIDS : Fld := ⟨0x3A4, 0, 32⟩
abbrev TNW_T1_LATE : Fld := ⟨0x3A8, 0, 32⟩
abbrev TNW_GTS (a : Nat) (b : Nat) (c : Nat) (i : Nat) : Fld := ⟨0x400 + 512 * a + 64 * b + 4 * c, 4 * i, 4⟩
/-! ### Table TNP-1 of spec/10_tiles_and_tile_network.md -/

abbrev TNP_ATTACH_b0 : Fld := ⟨0x040, 0, 7⟩
abbrev TNP_ATTACH_b8 : Fld := ⟨0x040, 8, 3⟩
abbrev TNP_CTL_ARM : Fld := ⟨0x044, 0, 1⟩
abbrev TNP_CTL_TRACE : Fld := ⟨0x044, 1, 1⟩
abbrev TNP_CTL_TRACE_STOP : Fld := ⟨0x044, 2, 1⟩
abbrev TNP_CTL_START_EN : Fld := ⟨0x044, 3, 1⟩
abbrev TNP_CTL_STOP_EN : Fld := ⟨0x044, 4, 1⟩
abbrev TNP_CTL_START_MARK : Fld := ⟨0x044, 8, 6⟩
abbrev TNP_CTL_STOP_MARK : Fld := ⟨0x044, 16, 6⟩
abbrev TNP_CTL_b31 : Fld := ⟨0x044, 31, 1⟩
abbrev TNP_FILT_VC_MASK : Fld := ⟨0x048, 0, 4⟩
abbrev TNP_FILT_TYPE_MASK : Fld := ⟨0x048, 16, 16⟩
abbrev TNP_NODE_SRC_VAL : Fld := ⟨0x04C, 0, 8⟩
abbrev TNP_NODE_SRC_MSK : Fld := ⟨0x04C, 8, 8⟩
abbrev TNP_NODE_DEST_VAL : Fld := ⟨0x04C, 16, 8⟩
abbrev TNP_NODE_DEST_MSK : Fld := ⟨0x04C, 24, 8⟩
abbrev TNP_TAG_TAG_VAL : Fld := ⟨0x050, 0, 16⟩
abbrev TNP_TAG_TAG_MSK : Fld := ⟨0x050, 16, 16⟩
abbrev TNP_LAT_THR : Fld := ⟨0x054, 0, 16⟩
abbrev TNP_PKTS : Fld := ⟨0x060, 0, 32⟩
abbrev TNP_FLITS : Fld := ⟨0x064, 0, 32⟩
abbrev TNP_STALL : Fld := ⟨0x068, 0, 32⟩
abbrev TNP_LAT_MAX : Fld := ⟨0x06C, 0, 16⟩
abbrev TNP_LAT_SUM_LO : Fld := ⟨0x070, 0, 32⟩
abbrev TNP_LAT_SUM_HI : Fld := ⟨0x074, 0, 32⟩
abbrev TNP_TRACE_PTR_b0 : Fld := ⟨0x078, 0, 7⟩
abbrev TNP_TRACE_PTR_b7 : Fld := ⟨0x078, 7, 1⟩
abbrev TNP_TRACE0 (a : Nat) : Fld := ⟨0x800 + 16 * a, 0, 32⟩
abbrev TNP_TRACE1 (a : Nat) : Fld := ⟨0x804 + 16 * a, 0, 32⟩
abbrev TNP_TRACE2 (a : Nat) : Fld := ⟨0x808 + 16 * a, 0, 32⟩
abbrev TNP_TRACE3 (a : Nat) : Fld := ⟨0x80C + 16 * a, 0, 32⟩
/-! ### Table LWL-8 of spec/12_lightwell.md -/

abbrev LWL_CTL_BYPASS : Fld := ⟨0x040, 0, 1⟩
abbrev LWL_CTL_AUTO_BYPASS : Fld := ⟨0x040, 1, 1⟩
abbrev LWL_CTL_BANK_SEL : Fld := ⟨0x040, 2, 1⟩
abbrev LWL_CTL_XT_EN : Fld := ⟨0x040, 3, 1⟩
abbrev LWL_CTL_BAND : Fld := ⟨0x040, 4, 2⟩
abbrev LWL_CTL_FALLBACK_OK : Fld := ⟨0x040, 6, 1⟩
abbrev LWL_STATUS_LSTATE : Fld := ⟨0x044, 0, 3⟩
abbrev LWL_STATUS_b3 : Fld := ⟨0x044, 3, 1⟩
abbrev LWL_STATUS_b4 : Fld := ⟨0x044, 4, 2⟩
abbrev LWL_STATUS_b8 : Fld := ⟨0x044, 8, 8⟩
abbrev LWL_RING : Fld := ⟨0x048, 0, 11⟩
abbrev LWL_RING_BASE_LO : Fld := ⟨0x04C, 0, 32⟩
abbrev LWL_RING_BASE_HI : Fld := ⟨0x050, 0, 32⟩
abbrev LWL_CAL_CAL_STEPS : Fld := ⟨0x054, 0, 4⟩
abbrev LWL_CAL_CAL_FORCE : Fld := ⟨0x054, 16, 16⟩
abbrev LWL_THR_DRIFT_THR : Fld := ⟨0x058, 0, 8⟩
abbrev LWL_THR_FAIL_THR : Fld := ⟨0x058, 8, 8⟩
abbrev LWL_THR_FAIL_CYCLES : Fld := ⟨0x058, 16, 8⟩
abbrev LWL_SETTLE_LWL_SETTLE : Fld := ⟨0x05C, 0, 16⟩
abbrev LWL_SETTLE_EPOCH_MIN : Fld := ⟨0x05C, 16, 8⟩
abbrev LWL_LAND_LAND_ADDR : Fld := ⟨0x060, 0, 20⟩
abbrev LWL_LAND_LAND_SLOTS : Fld := ⟨0x060, 20, 4⟩
abbrev LWL_EPOCH_ADDR : Fld := ⟨0x064, 0, 20⟩
abbrev LWL_CONSUMER (a : Nat) : Fld := ⟨0x068 + 4 * a, 0, 32⟩
abbrev LWL_TBL_ADDR_b0 : Fld := ⟨0x074, 0, 20⟩
abbrev LWL_TBL_ADDR_AUTO_INC : Fld := ⟨0x074, 31, 1⟩
abbrev LWL_TBL_DATA : Fld := ⟨0x078, 0, 32⟩
abbrev LWL_WINDOWS : Fld := ⟨0x080, 0, 32⟩
abbrev LWL_VOIDS_RING_FULL : Fld := ⟨0x084, 0, 16⟩
abbrev LWL_VOIDS_LATE_SKIP : Fld := ⟨0x084, 16, 16⟩
abbrev LWL_CAL_CNT_b0 : Fld := ⟨0x088, 0, 16⟩
abbrev LWL_CAL_CNT_b16 : Fld := ⟨0x088, 16, 16⟩
abbrev LWL_DRIFT_DRIFT : Fld := ⟨0x08C, 0, 16⟩
abbrev LWL_DRIFT_DEGRADED : Fld := ⟨0x08C, 16, 16⟩
abbrev LWL_RESID_b0 : Fld := ⟨0x090, 0, 8⟩
abbrev LWL_RESID_b8 : Fld := ⟨0x090, 8, 8⟩
abbrev LWL_EPOCHS_b0 : Fld := ⟨0x094, 0, 16⟩
abbrev LWL_EPOCHS_b16 : Fld := ⟨0x094, 16, 16⟩
abbrev LWL_CLAMPS : Fld := ⟨0x098, 0, 16⟩
abbrev LWL_TEMP : Fld := ⟨0x09C, 0, 16⟩
abbrev LWL_LAS_STATUS_b0 : Fld := ⟨0x040, 0, 16⟩
abbrev LWL_LAS_STATUS_b16 : Fld := ⟨0x040, 16, 16⟩
abbrev LWL_LAS_PWR : Fld := ⟨0x044, 0, 16⟩
abbrev LWL_MP_FLITS : Fld := ⟨0x040, 0, 32⟩
abbrev LWL_MP_STALL : Fld := ⟨0x044, 0, 32⟩
abbrev LWL_CG_REINSTATE_b0 : Fld := ⟨0x040, 0, 8⟩
abbrev LWL_CG_REINSTATE_b8 : Fld := ⟨0x040, 8, 8⟩
abbrev LWL_CG_RETIRED_b0 : Fld := ⟨0x044, 0, 8⟩
abbrev LWL_CG_RETIRED_b8 : Fld := ⟨0x044, 8, 8⟩
abbrev LWL_CG_OUT_b0 (a : Nat) : Fld := ⟨0x048 + 4 * a, 0, 8⟩
abbrev LWL_CG_OUT_b16 (a : Nat) : Fld := ⟨0x048 + 4 * a, 16, 16⟩
abbrev LWL_COL_LEAK_THRESH : Fld := ⟨0x040, 0, 8⟩
abbrev LWL_COL_LEAK_LEAK_PERIOD : Fld := ⟨0x040, 8, 24⟩
abbrev LWL_COL_REINSTATE_b0 : Fld := ⟨0x044, 0, 8⟩
abbrev LWL_COL_REINSTATE_GO : Fld := ⟨0x044, 8, 1⟩
abbrev LWL_COL_RETIRED (a : Nat) : Fld := ⟨0x080 + 4 * a, 0, 32⟩
/-! ### Table CST-5 of spec/13_memory_and_pumps.md -/

abbrev CST_SPLIT : Fld := ⟨0x040, 0, 5⟩
abbrev CST_LIVE : Fld := ⟨0x044, 0, 2⟩
abbrev CST_TBL_ADDR_b0 : Fld := ⟨0x048, 0, 13⟩
abbrev CST_TBL_ADDR_WORD : Fld := ⟨0x048, 13, 1⟩
abbrev CST_TBL_DATA : Fld := ⟨0x04C, 0, 32⟩
abbrev CST_HITS : Fld := ⟨0x050, 0, 32⟩
abbrev CST_FILLS : Fld := ⟨0x054, 0, 32⟩
abbrev CST_MERGES : Fld := ⟨0x058, 0, 32⟩
abbrev CST_DIRECT_b0 : Fld := ⟨0x05C, 0, 16⟩
abbrev CST_DIRECT_b16 : Fld := ⟨0x05C, 16, 16⟩
abbrev CST_NACK : Fld := ⟨0x060, 0, 32⟩
abbrev CST_ECC_b0 : Fld := ⟨0x064, 0, 16⟩
abbrev CST_ECC_b16 : Fld := ⟨0x064, 16, 16⟩
abbrev CST_FLOAT_b0 : Fld := ⟨0x068, 0, 7⟩
abbrev CST_FLOAT_b8 : Fld := ⟨0x068, 8, 6⟩
/-! ### Table PMP-4 of spec/13_memory_and_pumps.md -/

abbrev PMP_CFG : Fld := ⟨0x040, 0, 9⟩
abbrev PMP_TMO_PMP_TMO : Fld := ⟨0x044, 0, 16⟩
abbrev PMP_TMO_DDR_TMO : Fld := ⟨0x044, 16, 16⟩
abbrev PMP_DONE : Fld := ⟨0x048, 0, 32⟩
abbrev PMP_BYTES_LO : Fld := ⟨0x04C, 0, 32⟩
abbrev PMP_BYTES_HI : Fld := ⟨0x050, 0, 32⟩
abbrev PMP_ERR_b0 : Fld := ⟨0x054, 0, 16⟩
abbrev PMP_ERR_TIMEOUT : Fld := ⟨0x054, 16, 16⟩
abbrev PMP_RING_CTL_OWNER (a : Nat) : Fld := ⟨0x100 + 64 * a, 0, 8⟩
abbrev PMP_RING_CTL_ENABLE (a : Nat) : Fld := ⟨0x100 + 64 * a, 8, 1⟩
abbrev PMP_RING_CTL_PP (a : Nat) : Fld := ⟨0x100 + 64 * a, 9, 1⟩
abbrev PMP_RING_CTL_WEIGHT (a : Nat) : Fld := ⟨0x100 + 64 * a, 10, 3⟩
abbrev PMP_RING_CTL_RING_OUT (a : Nat) : Fld := ⟨0x100 + 64 * a, 13, 4⟩
abbrev PMP_RING_CTL_b17 (a : Nat) : Fld := ⟨0x100 + 64 * a, 17, 5⟩
abbrev PMP_RING_CTL_b22 (a : Nat) : Fld := ⟨0x100 + 64 * a, 22, 2⟩
abbrev PMP_RING_BASE_LO (a : Nat) : Fld := ⟨0x104 + 64 * a, 0, 32⟩
abbrev PMP_RING_BASE_HI (a : Nat) : Fld := ⟨0x108 + 64 * a, 0, 32⟩
abbrev PMP_CPL_BASE_LO (a : Nat) : Fld := ⟨0x10C + 64 * a, 0, 32⟩
abbrev PMP_CPL_BASE_HI (a : Nat) : Fld := ⟨0x110 + 64 * a, 0, 32⟩
abbrev PMP_RING_TAIL (a : Nat) : Fld := ⟨0x114 + 64 * a, 0, 16⟩
abbrev PMP_RING_HEAD_b0 (a : Nat) : Fld := ⟨0x118 + 64 * a, 0, 16⟩
abbrev PMP_RING_HEAD_HALTED (a : Nat) : Fld := ⟨0x118 + 64 * a, 31, 1⟩
abbrev PMP_PP_STRIDE (a : Nat) : Fld := ⟨0x11C + 64 * a, 0, 32⟩
abbrev PMP_PP_SKIP (a : Nat) : Fld := ⟨0x120 + 64 * a, 0, 32⟩
/-! ### Table DMC-3 of spec/13_memory_and_pumps.md -/

abbrev DMC_POP_b0 : Fld := ⟨0x040, 0, 4⟩
abbrev DMC_POP_b4 : Fld := ⟨0x040, 4, 2⟩
abbrev DMC_POP_b6 : Fld := ⟨0x040, 6, 2⟩
abbrev DMC_POP_b8 : Fld := ⟨0x040, 8, 8⟩
abbrev DMC_POP_b16 : Fld := ⟨0x040, 16, 1⟩
abbrev DMC_SIZE : Fld := ⟨0x044, 0, 32⟩
abbrev DMC_SCRUB_SCRUB_INTERVAL : Fld := ⟨0x048, 0, 16⟩
abbrev DMC_SCRUB_SCRUB_TMO : Fld := ⟨0x048, 16, 16⟩
abbrev DMC_ROW_CE_THR : Fld := ⟨0x04C, 0, 4⟩
abbrev DMC_ROW_CE_WINDOW : Fld := ⟨0x04C, 8, 24⟩
abbrev DMC_PPR : Fld := ⟨0x050, 0, 1⟩
abbrev DMC_RETIRE_b0 : Fld := ⟨0x054, 0, 24⟩
abbrev DMC_RETIRE_HPPR : Fld := ⟨0x054, 24, 1⟩
abbrev DMC_RETIRE_GO : Fld := ⟨0x054, 31, 1⟩
abbrev DMC_CE : Fld := ⟨0x058, 0, 32⟩
abbrev DMC_UE_b0 : Fld := ⟨0x05C, 0, 16⟩
abbrev DMC_UE_RETRY_OK : Fld := ⟨0x05C, 16, 16⟩
abbrev DMC_SPARES_b0 : Fld := ⟨0x060, 0, 14⟩
abbrev DMC_SPARES_b14 : Fld := ⟨0x060, 14, 16⟩
abbrev DMC_SCRUB_CNT_b0 : Fld := ⟨0x064, 0, 16⟩
abbrev DMC_SCRUB_CNT_SCRUB_LATE : Fld := ⟨0x064, 16, 16⟩
abbrev DMC_LAST_ERR_b0 : Fld := ⟨0x068, 0, 24⟩
abbrev DMC_LAST_ERR_b24 : Fld := ⟨0x068, 24, 2⟩
abbrev DMC_ECS : Fld := ⟨0x06C, 0, 32⟩
abbrev DMC_TEMP_b0 : Fld := ⟨0x070, 0, 16⟩
abbrev DMC_TEMP_CA : Fld := ⟨0x070, 16, 16⟩
/-! ### Table NRG-6 of spec/14_energy_ledger.md -/

abbrev NRG_CAP : Fld := ⟨0x040, 0, 10⟩
abbrev NRG_FLOOR_STATIC : Fld := ⟨0x044, 0, 10⟩
abbrev NRG_FLOOR_T01 : Fld := ⟨0x044, 16, 10⟩
abbrev NRG_CTL_COST_SEL : Fld := ⟨0x048, 0, 1⟩
abbrev NRG_CTL_b1 : Fld := ⟨0x048, 1, 1⟩
abbrev NRG_POLICY_T2_DG (i : Nat) : Fld := ⟨0x04C, 4 * i, 1⟩
abbrev NRG_POLICY_T3_DG (i : Nat) : Fld := ⟨0x04C, 1 + 4 * i, 1⟩
abbrev NRG_GUAR (i : Nat) : Fld := ⟨0x050, 8 * i, 8⟩
abbrev NRG_REPAY : Fld := ⟨0x054, 0, 16⟩
abbrev NRG_EFF_EFF : Fld := ⟨0x058, 0, 10⟩
abbrev NRG_EFF_FLOOR : Fld := ⟨0x058, 10, 10⟩
abbrev NRG_EFF_CAP_CLAMPED : Fld := ⟨0x058, 20, 1⟩
abbrev NRG_EFF_THROTTLED : Fld := ⟨0x058, 21, 1⟩
abbrev NRG_EFF_PMB_LIMITED : Fld := ⟨0x058, 22, 1⟩
abbrev NRG_TURN_UJ_b0 : Fld := ⟨0x05C, 0, 16⟩
abbrev NRG_TURN_UJ_b16 : Fld := ⟨0x05C, 16, 16⟩
abbrev NRG_POOL : Fld := ⟨0x060, 0, 32⟩
abbrev NRG_REMAIN : Fld := ⟨0x064, 0, 32⟩
abbrev NRG_DEBT : Fld := ⟨0x068, 0, 24⟩
abbrev NRG_DEBT_ADD : Fld := ⟨0x06C, 0, 24⟩
abbrev NRG_ACCT_LO : Fld := ⟨0x070, 0, 32⟩
abbrev NRG_ACCT_HI : Fld := ⟨0x074, 0, 32⟩
abbrev NRG_ACCT_TURN : Fld := ⟨0x078, 0, 32⟩
abbrev NRG_ADMIT (a : Nat) : Fld := ⟨0x080 + 4 * a, 0, 32⟩
abbrev NRG_DG_DG_T2 : Fld := ⟨0x0A0, 0, 16⟩
abbrev NRG_DG_DG_T3 : Fld := ⟨0x0A0, 16, 16⟩
abbrev NRG_VOID : Fld := ⟨0x0A4, 0, 32⟩
abbrev NRG_IN_REFUSED : Fld := ⟨0x0A8, 0, 32⟩
abbrev NRG_CLAMPS : Fld := ⟨0x0AC, 0, 16⟩
abbrev NRG_COST_FIXED (a : Nat) (b : Nat) : Fld := ⟨0x100 + 32 * a + 4 * b, 0, 16⟩
abbrev NRG_COST_PER_ROW (a : Nat) (b : Nat) : Fld := ⟨0x100 + 32 * a + 4 * b, 16, 15⟩
abbrev NRG_COST_VALID (a : Nat) (b : Nat) : Fld := ⟨0x100 + 32 * a + 4 * b, 31, 1⟩
/-! ### Table PWR-1 of spec/14_energy_ledger.md -/

abbrev PWR_PM_CTL_EN : Fld := ⟨0x040, 0, 1⟩
abbrev PWR_PM_CTL_SPEED : Fld := ⟨0x040, 1, 1⟩
abbrev PWR_PM_CTL_PEC_EN : Fld := ⟨0x040, 2, 1⟩
abbrev PWR_PM_CTL_PM_PERIOD : Fld := ⟨0x040, 8, 8⟩
abbrev PWR_PM_AVAIL : Fld := ⟨0x044, 0, 10⟩
abbrev PWR_PM_LIMIT : Fld := ⟨0x048, 0, 10⟩
abbrev PWR_PM_POWER : Fld := ⟨0x04C, 0, 16⟩
abbrev PWR_PM_ENERGY_LO : Fld := ⟨0x050, 0, 32⟩
abbrev PWR_PM_ENERGY_HI : Fld := ⟨0x054, 0, 32⟩
abbrev PWR_PM_WIN_TURN : Fld := ⟨0x058, 0, 32⟩
abbrev PWR_THERM_CTL_THROTTLE : Fld := ⟨0x060, 0, 8⟩
abbrev PWR_THERM_CTL_RELEASE : Fld := ⟨0x060, 8, 8⟩
abbrev PWR_THERM_CTL_CRIT : Fld := ⟨0x060, 16, 8⟩
abbrev PWR_THERM_CAP : Fld := ⟨0x064, 0, 10⟩
abbrev PWR_THERM_MAX_b0 : Fld := ⟨0x068, 0, 16⟩
abbrev PWR_THERM_MAX_b16 : Fld := ⟨0x068, 16, 4⟩
abbrev PWR_THERM_EVT : Fld := ⟨0x06C, 0, 16⟩
abbrev PWR_REG_CFG_b0 (a : Nat) : Fld := ⟨0x100 + 16 * a, 0, 7⟩
abbrev PWR_REG_CFG_VALID (a : Nat) : Fld := ⟨0x100 + 16 * a, 7, 1⟩
abbrev PWR_REG_CFG_PAGE (a : Nat) : Fld := ⟨0x100 + 16 * a, 8, 8⟩
abbrev PWR_REG_CFG_USE_PAGE (a : Nat) : Fld := ⟨0x100 + 16 * a, 16, 1⟩
abbrev PWR_REG_POUT (a : Nat) : Fld := ⟨0x104 + 16 * a, 0, 16⟩
abbrev PWR_REG_MAX (a : Nat) : Fld := ⟨0x108 + 16 * a, 0, 16⟩
abbrev PWR_REG_ERR_b0 (a : Nat) : Fld := ⟨0x10C + 16 * a, 0, 2⟩
abbrev PWR_REG_ERR_STALE (a : Nat) : Fld := ⟨0x10C + 16 * a, 2, 1⟩
abbrev PWR_REG_ERR_b16 (a : Nat) : Fld := ⟨0x10C + 16 * a, 16, 16⟩
abbrev PWR_TSENS (a : Nat) : Fld := ⟨0x200 + 4 * a, 0, 16⟩
/-! ### Table PCI-9 of spec/15_host_interface.md -/

abbrev PCI_READY_CFG_READY : Fld := ⟨0x040, 0, 1⟩
abbrev PCI_READY_CRS : Fld := ⟨0x040, 1, 1⟩
abbrev PCI_LINK_b0 : Fld := ⟨0x044, 0, 3⟩
abbrev PCI_LINK_b3 : Fld := ⟨0x044, 3, 5⟩
abbrev PCI_LINK_b8 : Fld := ⟨0x044, 8, 1⟩
abbrev PCI_TAGS_b0 : Fld := ⟨0x048, 0, 10⟩
abbrev PCI_TAGS_b16 : Fld := ⟨0x048, 16, 10⟩
abbrev PCI_CTO_b0 : Fld := ⟨0x04C, 0, 4⟩
abbrev PCI_CTO_b8 : Fld := ⟨0x04C, 8, 24⟩
abbrev PCI_STALE : Fld := ⟨0x050, 0, 32⟩
abbrev PCI_CTO_CNT_b0 : Fld := ⟨0x054, 0, 16⟩
abbrev PCI_CTO_CNT_b16 : Fld := ⟨0x054, 16, 16⟩
abbrev PCI_ERRS_UR : Fld := ⟨0x058, 0, 16⟩
abbrev PCI_ERRS_b16 : Fld := ⟨0x058, 16, 16⟩
abbrev PCI_LINK_EVT_b0 : Fld := ⟨0x05C, 0, 16⟩
abbrev PCI_LINK_EVT_b16 : Fld := ⟨0x05C, 16, 16⟩
abbrev PCI_FN_EVT_b0 : Fld := ⟨0x060, 0, 16⟩
abbrev PCI_FN_EVT_b16 : Fld := ⟨0x060, 16, 16⟩
abbrev PCI_FLR_LOG_b0 : Fld := ⟨0x064, 0, 8⟩
abbrev PCI_FLR_LOG_b8 : Fld := ⟨0x064, 8, 16⟩
abbrev PCI_FLR_LOG_b24 : Fld := ⟨0x064, 24, 8⟩
abbrev PCI_MSIX_ADDR_LO (a : Nat) : Fld := ⟨0x040 + 16 * a, 0, 32⟩
abbrev PCI_MSIX_ADDR_HI (a : Nat) : Fld := ⟨0x044 + 16 * a, 0, 32⟩
abbrev PCI_MSIX_DATA (a : Nat) : Fld := ⟨0x048 + 16 * a, 0, 32⟩
abbrev PCI_MSIX_CTL (a : Nat) : Fld := ⟨0x04C + 16 * a, 0, 1⟩
abbrev PCI_MSIX_PBA0 : Fld := ⟨0x240, 0, 32⟩
abbrev PCI_MSIX_PBA1 : Fld := ⟨0x244, 0, 32⟩
abbrev PCI_FN_CTL_LOCK (a : Nat) : Fld := ⟨0x040 + 8 * a, 0, 1⟩
abbrev PCI_FN_CTL_TILE_OK (a : Nat) : Fld := ⟨0x040 + 8 * a, 1, 1⟩
abbrev PCI_FN_STAT_b0 (a : Nat) : Fld := ⟨0x044 + 8 * a, 0, 1⟩
abbrev PCI_FN_STAT_IN_RESET (a : Nat) : Fld := ⟨0x044 + 8 * a, 1, 1⟩
abbrev PCI_FN_STAT_FENCED (a : Nat) : Fld := ⟨0x044 + 8 * a, 2, 1⟩
abbrev PCI_FN_STAT_b3 (a : Nat) : Fld := ⟨0x044 + 8 * a, 3, 1⟩
abbrev PCI_FN_STAT_b4 (a : Nat) : Fld := ⟨0x044 + 8 * a, 4, 1⟩
abbrev PCI_FN_DDR_BASE (a : Nat) : Fld := ⟨0x400 + 16 * a, 0, 24⟩
abbrev PCI_FN_DDR_SIZE (a : Nat) : Fld := ⟨0x404 + 16 * a, 0, 24⟩
abbrev PCI_FN_CST_BASE (a : Nat) : Fld := ⟨0x408 + 16 * a, 0, 12⟩
abbrev PCI_FN_CST_SIZE (a : Nat) : Fld := ⟨0x40C + 16 * a, 0, 12⟩
abbrev PCI_CTX_BIND_b0 (a : Nat) (b : Nat) : Fld := ⟨0x040 + 16 * a + 4 * b, 0, 5⟩
abbrev PCI_CTX_BIND_b5 (a : Nat) (b : Nat) : Fld := ⟨0x040 + 16 * a + 4 * b, 5, 3⟩
abbrev PCI_CTX_BIND_b15 (a : Nat) (b : Nat) : Fld := ⟨0x040 + 16 * a + 4 * b, 15, 1⟩
abbrev PCI_CTX_BIND_b16 (a : Nat) (b : Nat) : Fld := ⟨0x040 + 16 * a + 4 * b, 16, 5⟩
abbrev PCI_CTX_BIND_b21 (a : Nat) (b : Nat) : Fld := ⟨0x040 + 16 * a + 4 * b, 21, 3⟩
abbrev PCI_CTX_BIND_b31 (a : Nat) (b : Nat) : Fld := ⟨0x040 + 16 * a + 4 * b, 31, 1⟩
abbrev PCI_DR_BIND_b0 (a : Nat) : Fld := ⟨0x800 + 4 * a, 0, 6⟩
abbrev PCI_DR_BIND_b6 (a : Nat) : Fld := ⟨0x800 + 4 * a, 6, 2⟩
abbrev PCI_DR_BIND_VALID (a : Nat) : Fld := ⟨0x800 + 4 * a, 8, 1⟩
abbrev PCI_DR_ROLE0_DIVERT (i : Nat) : Fld := ⟨0x900, 8 * i, 6⟩
abbrev PCI_DR_ROLE0_b7 (i : Nat) : Fld := ⟨0x900, 7 + 8 * i, 1⟩
abbrev PCI_DR_ROLE1_EAPOL : Fld := ⟨0x904, 0, 6⟩
abbrev PCI_DR_ROLE1_b7 : Fld := ⟨0x904, 7, 1⟩
/-! ### Table PCI-10 of spec/15_host_interface.md -/

abbrev LOC_FN_STATE : Fld := ⟨0x040, 0, 5⟩
abbrev LOC_FN_WIN_DDR : Fld := ⟨0x044, 0, 32⟩
abbrev LOC_FN_WIN_CST : Fld := ⟨0x048, 0, 32⟩
abbrev LOC_CS_TAIL : Fld := ⟨0x040, 0, 16⟩
abbrev LOC_CS_HEAD : Fld := ⟨0x044, 0, 32⟩
abbrev LOC_CS_CFG_VEC : Fld := ⟨0x048, 0, 6⟩
abbrev LOC_CS_CFG_IRQ_EN : Fld := ⟨0x048, 6, 1⟩
abbrev LOC_CS_CFG_HOLDOFF : Fld := ⟨0x048, 8, 8⟩
abbrev LOC_CS_CTL_ENABLE : Fld := ⟨0x04C, 0, 1⟩
abbrev LOC_CS_CTL_b1 : Fld := ⟨0x04C, 1, 5⟩
abbrev LOC_CS_RING_LO : Fld := ⟨0x050, 0, 32⟩
abbrev LOC_CS_RING_HI : Fld := ⟨0x054, 0, 32⟩
abbrev LOC_CS_CPL_LO : Fld := ⟨0x058, 0, 32⟩
abbrev LOC_CS_CPL_HI : Fld := ⟨0x05C, 0, 32⟩
abbrev LOC_CS_WB_LO : Fld := ⟨0x060, 0, 32⟩
abbrev LOC_CS_WB_HI : Fld := ⟨0x064, 0, 32⟩
abbrev LOC_CS_BIND : Fld := ⟨0x068, 0, 1⟩
abbrev LOC_DS_CTL_ENABLE : Fld := ⟨0x040, 0, 1⟩
abbrev LOC_DS_CTL_SIZE : Fld := ⟨0x040, 1, 4⟩
abbrev LOC_DS_CTL_BUF : Fld := ⟨0x040, 5, 2⟩
abbrev LOC_DS_CTL_IRQ_EN : Fld := ⟨0x040, 7, 1⟩
abbrev LOC_DS_CTL_VEC : Fld := ⟨0x040, 8, 6⟩
abbrev LOC_DS_CTL_HOLDOFF : Fld := ⟨0x040, 16, 8⟩
abbrev LOC_DS_FREE_LO : Fld := ⟨0x044, 0, 32⟩
abbrev LOC_DS_FREE_HI : Fld := ⟨0x048, 0, 32⟩
abbrev LOC_DS_REC_LO : Fld := ⟨0x04C, 0, 32⟩
abbrev LOC_DS_REC_HI : Fld := ⟨0x050, 0, 32⟩
abbrev LOC_DS_WB_LO : Fld := ⟨0x054, 0, 32⟩
abbrev LOC_DS_WB_HI : Fld := ⟨0x058, 0, 32⟩
abbrev LOC_DS_FREE_TAIL : Fld := ⟨0x05C, 0, 16⟩
abbrev LOC_DS_DONE : Fld := ⟨0x060, 0, 16⟩
abbrev LOC_DS_CNT : Fld := ⟨0x064, 0, 32⟩
abbrev LOC_DS_NOBUF : Fld := ⟨0x068, 0, 32⟩
abbrev LOC_IJ_CTL_ENABLE : Fld := ⟨0x040, 0, 1⟩
abbrev LOC_IJ_CTL_b1 : Fld := ⟨0x040, 1, 4⟩
abbrev LOC_IJ_CTL_VEC : Fld := ⟨0x040, 5, 6⟩
abbrev LOC_IJ_RING_LO : Fld := ⟨0x044, 0, 32⟩
abbrev LOC_IJ_RING_HI : Fld := ⟨0x048, 0, 32⟩
abbrev LOC_IJ_TAIL : Fld := ⟨0x04C, 0, 16⟩
abbrev LOC_IJ_HEAD : Fld := ⟨0x050, 0, 16⟩
abbrev LOC_IJ_REFUSED : Fld := ⟨0x054, 0, 32⟩
abbrev LOC_IJ_LAST_ERR : Fld := ⟨0x058, 0, 32⟩
/-! ### Table RYK-8 of spec/16_ryuklin_and_scale.md -/

abbrev RYK_CFG_DATELINE : Fld := ⟨0x040, 0, 1⟩
abbrev RYK_CFG_DIM : Fld := ⟨0x040, 1, 2⟩
abbrev RYK_CFG_REPLAY_TMO : Fld := ⟨0x040, 8, 16⟩
abbrev RYK_STATUS_LSTATE : Fld := ⟨0x044, 0, 3⟩
abbrev RYK_STATUS_b3 : Fld := ⟨0x044, 3, 2⟩
abbrev RYK_STATUS_HOLD : Fld := ⟨0x044, 5, 1⟩
abbrev RYK_STATUS_b8 : Fld := ⟨0x044, 8, 8⟩
abbrev RYK_STATUS_b16 : Fld := ⟨0x044, 16, 16⟩
abbrev RYK_PEER : Fld := ⟨0x048, 0, 6⟩
abbrev RYK_SEQ_b0 : Fld := ⟨0x04C, 0, 12⟩
abbrev RYK_SEQ_b16 : Fld := ⟨0x04C, 16, 12⟩
abbrev RYK_CREDIT0_A_b0 : Fld := ⟨0x050, 0, 16⟩
abbrev RYK_CREDIT0_A_b16 : Fld := ⟨0x050, 16, 16⟩
abbrev RYK_LEAK_THRESH : Fld := ⟨0x054, 0, 8⟩
abbrev RYK_LEAK_LEAK_PERIOD : Fld := ⟨0x054, 8, 24⟩
abbrev RYK_TX_FRAMES : Fld := ⟨0x058, 0, 32⟩
abbrev RYK_RX_FRAMES : Fld := ⟨0x05C, 0, 32⟩
abbrev RYK_CRC_CRC : Fld := ⟨0x060, 0, 16⟩
abbrev RYK_CRC_b16 : Fld := ⟨0x060, 16, 16⟩
abbrev RYK_REPLAY_b0 : Fld := ⟨0x064, 0, 16⟩
abbrev RYK_REPLAY_b16 : Fld := ⟨0x064, 16, 16⟩
abbrev RYK_RETRAIN_RETRAINING : Fld := ⟨0x068, 0, 16⟩
abbrev RYK_RETRAIN_b16 : Fld := ⟨0x068, 16, 16⟩
abbrev RYK_RELAY : Fld := ⟨0x06C, 0, 32⟩
abbrev RYK_DROP_b0 : Fld := ⟨0x070, 0, 16⟩
abbrev RYK_DROP_LOST : Fld := ⟨0x070, 16, 16⟩
abbrev RYK_CREDIT0_B_b0 : Fld := ⟨0x074, 0, 16⟩
abbrev RYK_CREDIT0_B_b16 : Fld := ⟨0x074, 16, 16⟩
abbrev RYK_CREDIT1_A_b0 : Fld := ⟨0x078, 0, 16⟩
abbrev RYK_CREDIT1_A_b16 : Fld := ⟨0x078, 16, 16⟩
abbrev RYK_CREDIT1_B_b0 : Fld := ⟨0x07C, 0, 16⟩
abbrev RYK_CREDIT1_B_b16 : Fld := ⟨0x07C, 16, 16⟩
/-! ### Table RYK-9 of spec/16_ryuklin_and_scale.md -/

abbrev RYK_CHIP_b0 : Fld := ⟨0x800, 0, 16⟩
abbrev RYK_CHIP_VALID : Fld := ⟨0x800, 16, 1⟩
abbrev RYK_CLU_MAX_HOPS : Fld := ⟨0x804, 0, 5⟩
abbrev RYK_CLU_COPY_RING_b8 : Fld := ⟨0x804, 8, 6⟩
abbrev RYK_CLU_COPY_RING : Fld := ⟨0x804, 14, 1⟩
abbrev RYK_T3_TMO : Fld := ⟨0x808, 0, 16⟩
abbrev RYK_REF : Fld := ⟨0x80C, 0, 8⟩
abbrev RYK_T3_TAGS : Fld := ⟨0x810, 0, 13⟩
abbrev RYK_T3_SENT : Fld := ⟨0x814, 0, 32⟩
abbrev RYK_T3_OK : Fld := ⟨0x818, 0, 32⟩
abbrev RYK_T3_LOSS_LINK_LOST : Fld := ⟨0x81C, 0, 16⟩
abbrev RYK_T3_LOSS_TIMEOUT : Fld := ⟨0x81C, 16, 16⟩
abbrev RYK_T3_OTHER_REFUSED : Fld := ⟨0x820, 0, 16⟩
abbrev RYK_T3_OTHER_T3_STALE : Fld := ⟨0x820, 16, 16⟩
abbrev RYK_T3_ALT_CNT : Fld := ⟨0x824, 0, 32⟩
abbrev RYK_T3_IN : Fld := ⟨0x828, 0, 32⟩
abbrev RYK_RX_COPY_b0 : Fld := ⟨0x82C, 0, 16⟩
abbrev RYK_RX_COPY_RX_COPY_DROP : Fld := ⟨0x82C, 16, 16⟩
abbrev RYK_T3_ALT_b0 (a : Nat) : Fld := ⟨0x880 + 8 * a, 0, 16⟩
abbrev RYK_T3_ALT_b16 (a : Nat) : Fld := ⟨0x880 + 8 * a, 16, 16⟩
abbrev RYK_T3_ALT_CTL_VALID (a : Nat) : Fld := ⟨0x884 + 8 * a, 0, 1⟩
abbrev RYK_T3_ALT_CTL_FORCE (a : Nat) : Fld := ⟨0x884 + 8 * a, 1, 1⟩
abbrev RYK_RT_GROUP_b0 (a : Nat) : Fld := ⟨0xC00 + 4 * a, 0, 16⟩
abbrev RYK_RT_GROUP_b16 (a : Nat) : Fld := ⟨0xC00 + 4 * a, 16, 16⟩
abbrev RYK_RT_MEMBER_b0 (a : Nat) : Fld := ⟨0xE00 + 4 * a, 0, 16⟩
abbrev RYK_RT_MEMBER_b16 (a : Nat) : Fld := ⟨0xE00 + 4 * a, 16, 16⟩
/-! ### Table CPC-14 of spec/17_firmware.md -/

abbrev CPC_FW_STATE_STATE : Fld := ⟨0x040, 0, 3⟩
abbrev CPC_FW_STATE_RUN_REGION : Fld := ⟨0x040, 3, 1⟩
abbrev CPC_FW_STATE_b8 : Fld := ⟨0x040, 8, 8⟩
abbrev CPC_FW_VERSION : Fld := ⟨0x044, 0, 32⟩
abbrev CPC_FW_IF_b0 : Fld := ⟨0x048, 0, 8⟩
abbrev CPC_FW_IF_b8 : Fld := ⟨0x048, 8, 8⟩
abbrev CPC_FEAT_FW_LO : Fld := ⟨0x04C, 0, 32⟩
abbrev CPC_FEAT_FW_HI : Fld := ⟨0x050, 0, 32⟩
abbrev CPC_FEAT_AGREED_LO : Fld := ⟨0x054, 0, 32⟩
abbrev CPC_FEAT_AGREED_HI : Fld := ⟨0x058, 0, 32⟩
abbrev CPC_HB_KICK : Fld := ⟨0x05C, 0, 1⟩
abbrev CPC_HB_b16 : Fld := ⟨0x05C, 16, 16⟩
abbrev CPC_FW_RESTARTS_b0 : Fld := ⟨0x060, 0, 16⟩
abbrev CPC_FW_RESTARTS_DUTY_LATE : Fld := ⟨0x060, 16, 16⟩
abbrev CPC_CLUSTER_b0 : Fld := ⟨0x064, 0, 16⟩
abbrev CPC_CLUSTER_b16 : Fld := ⟨0x064, 16, 16⟩
abbrev CPC_CLU_CFG_PEER_LOST : Fld := ⟨0x068, 0, 16⟩
abbrev CPC_CLU_CFG_SELF_RETIRE : Fld := ⟨0x068, 16, 4⟩
abbrev CPC_COLL_CFG_RING_MIN : Fld := ⟨0x06C, 0, 16⟩
abbrev CPC_COLL_CFG_COLL_TMO : Fld := ⟨0x06C, 16, 16⟩
abbrev CPC_COLL_STATE_b0 (a : Nat) : Fld := ⟨0x080 + 8 * a, 0, 2⟩
abbrev CPC_COLL_STATE_b8 (a : Nat) : Fld := ⟨0x080 + 8 * a, 8, 8⟩
abbrev CPC_COLL_STATE_b16 (a : Nat) : Fld := ⟨0x080 + 8 * a, 16, 16⟩
abbrev CPC_COLL_PLAN_b0 (a : Nat) : Fld := ⟨0x084 + 8 * a, 0, 16⟩
abbrev CPC_COLL_PLAN_b16 (a : Nat) : Fld := ⟨0x084 + 8 * a, 16, 2⟩
abbrev CPC_CORE_STATUS : Fld := ⟨0x040, 0, 2⟩
abbrev CPC_CORE_PC_LO : Fld := ⟨0x044, 0, 32⟩
abbrev CPC_CORE_PC_HI : Fld := ⟨0x048, 0, 32⟩
abbrev CPC_CORE_TRAPS : Fld := ⟨0x04C, 0, 32⟩
abbrev CPC_MB_CTL_SEQ : Fld := ⟨0x040, 0, 8⟩
abbrev CPC_MB_CTL_GO : Fld := ⟨0x040, 8, 1⟩
abbrev CPC_MB_STATUS_SEQ : Fld := ⟨0x044, 0, 8⟩
abbrev CPC_MB_STATUS_b8 : Fld := ⟨0x044, 8, 8⟩
abbrev CPC_MB_STATUS_BUSY : Fld := ⟨0x044, 16, 1⟩
abbrev CPC_MB_OVERRUN : Fld := ⟨0x048, 0, 16⟩
abbrev CPC_MB_REQ (a : Nat) : Fld := ⟨0x100 + 4 * a, 0, 32⟩
abbrev CPC_MB_RSP (a : Nat) : Fld := ⟨0x200 + 4 * a, 0, 32⟩
abbrev CPC_DUMP_STATUS_VALID : Fld := ⟨0x040, 0, 1⟩
abbrev CPC_DUMP_STATUS_WRITING : Fld := ⟨0x040, 1, 1⟩
abbrev CPC_DUMP_STATUS_CAUSE : Fld := ⟨0x040, 8, 8⟩
abbrev CPC_DUMP_ADDR_b0 : Fld := ⟨0x044, 0, 18⟩
abbrev CPC_DUMP_ADDR_AUTO_INC : Fld := ⟨0x044, 31, 1⟩
abbrev CPC_DUMP_DATA : Fld := ⟨0x048, 0, 32⟩
abbrev CPC_DUMP_CTL : Fld := ⟨0x04C, 0, 1⟩
abbrev CPC_DUMPS_LOST : Fld := ⟨0x050, 0, 16⟩
abbrev CPC_UPD_STATUS_b0 : Fld := ⟨0x040, 0, 3⟩
abbrev CPC_UPD_STATUS_b8 : Fld := ⟨0x040, 8, 8⟩
abbrev CPC_UPD_TURN : Fld := ⟨0x044, 0, 32⟩
abbrev CPC_UPD_NEW_VER : Fld := ⟨0x048, 0, 32⟩
abbrev CPC_UPD_PAUSE : Fld := ⟨0x04C, 0, 32⟩
/-! ### Table CFG-10 of spec/18_configuration_loading.md -/

abbrev CFG_STATUS_LSTATE : Fld := ⟨0x040, 0, 3⟩
abbrev CFG_STATUS_CFG_SLOT : Fld := ⟨0x040, 3, 2⟩
abbrev CFG_STATUS_FALLBACK : Fld := ⟨0x040, 5, 1⟩
abbrev CFG_STATUS_FW_LATE : Fld := ⟨0x040, 6, 1⟩
abbrev CFG_STATUS_ERR : Fld := ⟨0x040, 8, 8⟩
abbrev CFG_STATUS_b16 : Fld := ⟨0x040, 16, 6⟩
abbrev CFG_CTL : Fld := ⟨0x044, 0, 1⟩
abbrev CFG_IMG_VER : Fld := ⟨0x048, 0, 32⟩
abbrev CFG_SECTIONS_b0 : Fld := ⟨0x04C, 0, 16⟩
abbrev CFG_SECTIONS_b16 : Fld := ⟨0x04C, 16, 16⟩
abbrev CFG_FRAMES : Fld := ⟨0x050, 0, 32⟩
abbrev CFG_REPEAT : Fld := ⟨0x054, 0, 32⟩
abbrev CFG_REG_FAULTS : Fld := ⟨0x058, 0, 16⟩
abbrev CFG_LOAD_US : Fld := ⟨0x05C, 0, 32⟩
abbrev CFG_CHN_CTL_CHN_TMO : Fld := ⟨0x040, 0, 16⟩
abbrev CFG_CHN_CTL_CHN_RESEND : Fld := ⟨0x040, 16, 3⟩
abbrev CFG_CHN_STATUS_ROLE : Fld := ⟨0x044, 0, 1⟩
abbrev CFG_CHN_STATUS_PRM_DONE : Fld := ⟨0x044, 1, 1⟩
abbrev CFG_CHN_STATUS_b2 : Fld := ⟨0x044, 2, 1⟩
abbrev CFG_CHN_STATUS_b16 : Fld := ⟨0x044, 16, 16⟩
abbrev CFG_CHN_RX : Fld := ⟨0x048, 0, 32⟩
abbrev CFG_CHN_FWD : Fld := ⟨0x04C, 0, 32⟩
abbrev CFG_CHN_ERR_CRC : Fld := ⟨0x050, 0, 16⟩
abbrev CFG_CHN_ERR_b16 : Fld := ⟨0x050, 16, 16⟩
abbrev CFG_PART_ADDR_LO : Fld := ⟨0x040, 0, 32⟩
abbrev CFG_PART_ADDR_HI : Fld := ⟨0x044, 0, 32⟩
abbrev CFG_PART_LEN : Fld := ⟨0x048, 0, 32⟩
abbrev CFG_PART_CTL : Fld := ⟨0x04C, 0, 1⟩
abbrev CFG_PART_STATUS_b0 : Fld := ⟨0x050, 0, 2⟩
abbrev CFG_PART_STATUS_ERR : Fld := ⟨0x050, 8, 8⟩
abbrev CFG_PART_FRESH : Fld := ⟨0x054, 0, 32⟩
abbrev CFG_DIAG_OFFSET : Fld := ⟨0x040, 0, 32⟩
abbrev CFG_DIAG_FAR : Fld := ⟨0x044, 0, 32⟩
abbrev CFG_DIAG_OPCODE : Fld := ⟨0x048, 0, 8⟩
/-! ### Table FLS-3 of spec/18_configuration_loading.md -/

abbrev FLS_SIZE : Fld := ⟨0x040, 0, 16⟩
abbrev FLS_CMD_OP : Fld := ⟨0x044, 0, 3⟩
abbrev FLS_CMD_GO : Fld := ⟨0x044, 3, 1⟩
abbrev FLS_ADDR : Fld := ⟨0x048, 0, 32⟩
abbrev FLS_LEN : Fld := ⟨0x04C, 0, 9⟩
abbrev FLS_STATUS_BUSY : Fld := ⟨0x050, 0, 1⟩
abbrev FLS_STATUS_SUSPENDED : Fld := ⟨0x050, 1, 1⟩
abbrev FLS_STATUS_ERR : Fld := ⟨0x050, 2, 1⟩
abbrev FLS_STATUS_REFUSED : Fld := ⟨0x050, 3, 1⟩
abbrev FLS_STATUS_b16 : Fld := ⟨0x050, 16, 16⟩
abbrev FLS_JOURNAL_b0 : Fld := ⟨0x054, 0, 1⟩
abbrev FLS_JOURNAL_b16 : Fld := ⟨0x054, 16, 16⟩
abbrev FLS_INDET_CNT : Fld := ⟨0x058, 0, 5⟩
abbrev FLS_FAILS_b0 : Fld := ⟨0x05C, 0, 16⟩
abbrev FLS_FAILS_b16 : Fld := ⟨0x05C, 16, 16⟩
abbrev FLS_DIR : Fld := ⟨0x060, 0, 1⟩
abbrev FLS_DIR_GEN : Fld := ⟨0x064, 0, 32⟩
abbrev FLS_INDET (a : Nat) : Fld := ⟨0x080 + 4 * a, 0, 16⟩
abbrev FLS_BUF (a : Nat) : Fld := ⟨0x100 + 4 * a, 0, 32⟩
/-! ### Table SEC-12 of spec/19_security_module.md -/

abbrev SEC_STATUS_MSTATE : Fld := ⟨0x040, 0, 3⟩
abbrev SEC_STATUS_APPROVED : Fld := ⟨0x040, 3, 1⟩
abbrev SEC_STATUS_MODE : Fld := ⟨0x040, 4, 1⟩
abbrev SEC_STATUS_CO : Fld := ⟨0x040, 5, 1⟩
abbrev SEC_STATUS_b6 : Fld := ⟨0x040, 6, 2⟩
abbrev SEC_STATUS_KILLED : Fld := ⟨0x040, 8, 1⟩
abbrev SEC_STATUS_MODE_LOCK : Fld := ⟨0x040, 9, 1⟩
abbrev SEC_STATUS_ERR_CODE : Fld := ⟨0x040, 16, 8⟩
abbrev SEC_CTL_SEQ : Fld := ⟨0x044, 0, 8⟩
abbrev SEC_CTL_GO : Fld := ⟨0x044, 8, 1⟩
abbrev SEC_RSP_SEQ : Fld := ⟨0x048, 0, 8⟩
abbrev SEC_RSP_b8 : Fld := ⟨0x048, 8, 8⟩
abbrev SEC_RSP_BUSY : Fld := ⟨0x048, 16, 1⟩
abbrev SEC_RSP_APPROVED : Fld := ⟨0x048, 17, 1⟩
abbrev SEC_ID_LO : Fld := ⟨0x04C, 0, 32⟩
abbrev SEC_ID_HI : Fld := ⟨0x050, 0, 32⟩
abbrev SEC_SERVICES_b0 : Fld := ⟨0x054, 0, 16⟩
abbrev SEC_SERVICES_b16 : Fld := ⟨0x054, 16, 16⟩
abbrev SEC_EVENTS_b0 : Fld := ⟨0x058, 0, 16⟩
abbrev SEC_EVENTS_b16 : Fld := ⟨0x058, 16, 16⟩
abbrev SEC_ROM_VER : Fld := ⟨0x05C, 0, 16⟩
abbrev SEC_REQ (a : Nat) : Fld := ⟨0x040 + 4 * a, 0, 32⟩
abbrev SEC_RSP_DATA (a : Nat) : Fld := ⟨0x040 + 4 * a, 0, 32⟩
abbrev SEC_ST_RESULT_b0 : Fld := ⟨0x040, 0, 16⟩
abbrev SEC_ST_RESULT_b16 : Fld := ⟨0x040, 16, 16⟩
abbrev SEC_ST_TIME : Fld := ⟨0x044, 0, 32⟩
abbrev SEC_HEALTH_CNT_RCT : Fld := ⟨0x048, 0, 16⟩
abbrev SEC_HEALTH_CNT_APT : Fld := ⟨0x048, 16, 16⟩
abbrev SEC_DRBG_CNT : Fld := ⟨0x04C, 0, 32⟩
abbrev SEC_ST_RUNS : Fld := ⟨0x050, 0, 16⟩
abbrev SEC_KEY_STK : Fld := ⟨0x040, 0, 4⟩
abbrev SEC_KEY_IK_IK_b0 : Fld := ⟨0x044, 0, 8⟩
abbrev SEC_KEY_IK_IK : Fld := ⟨0x044, 8, 8⟩
abbrev SEC_KEY_PUB_b0 : Fld := ⟨0x048, 0, 4⟩
abbrev SEC_KEY_PUB_b4 : Fld := ⟨0x048, 4, 4⟩
abbrev SEC_KEY_PUB_CO_b8 : Fld := ⟨0x048, 8, 2⟩
abbrev SEC_KEY_PUB_CO : Fld := ⟨0x048, 10, 2⟩
abbrev SEC_KEY_PUB_b12 : Fld := ⟨0x048, 12, 2⟩
abbrev SEC_KEY_PUB_b14 : Fld := ⟨0x048, 14, 2⟩
abbrev SEC_SAK_LOADS_b0 : Fld := ⟨0x04C, 0, 16⟩
abbrev SEC_SAK_LOADS_b16 : Fld := ⟨0x04C, 16, 16⟩
abbrev SEC_DBG_STATUS_b0 : Fld := ⟨0x040, 0, 2⟩
abbrev SEC_DBG_STATUS_b2 : Fld := ⟨0x040, 2, 1⟩
abbrev SEC_DBG_STATUS_b3 : Fld := ⟨0x040, 3, 1⟩
abbrev SEC_DBG_STATUS_b8 : Fld := ⟨0x040, 8, 8⟩
abbrev SEC_DBG_UNLOCKS_b0 : Fld := ⟨0x044, 0, 16⟩
abbrev SEC_DBG_UNLOCKS_b16 : Fld := ⟨0x044, 16, 16⟩
/-! ### Table FLT-11 of spec/20_faults_and_safe_state.md -/

abbrev FLT_SAFE_CTL_PREF : Fld := ⟨0x080, 0, 1⟩
abbrev FLT_SAFE_CTL_ENTER : Fld := ⟨0x080, 1, 1⟩
abbrev FLT_SAFE_CTL_RESTART : Fld := ⟨0x080, 2, 1⟩
abbrev FLT_SAFE_CTL_SAFE_LIMIT : Fld := ⟨0x080, 8, 4⟩
abbrev FLT_SAFE_STATUS_SSTATE : Fld := ⟨0x084, 0, 3⟩
abbrev FLT_SAFE_STATUS_CAUSE : Fld := ⟨0x084, 8, 8⟩
abbrev FLT_SAFE_STATUS_WINDOW : Fld := ⟨0x084, 16, 4⟩
abbrev FLT_SAFE_TRIGS : Fld := ⟨0x088, 0, 16⟩
abbrev FLT_SAFE_SRC_b0 : Fld := ⟨0x08C, 0, 14⟩
abbrev FLT_SAFE_SRC_VALID : Fld := ⟨0x08C, 31, 1⟩
abbrev FLT_SAFE_WDL_LO : Fld := ⟨0x090, 0, 32⟩
abbrev FLT_SAFE_WDL_HI : Fld := ⟨0x094, 0, 32⟩
abbrev FLT_SAFE_RESTART_US : Fld := ⟨0x098, 0, 32⟩
abbrev FLT_SAFE_HOLD_US : Fld := ⟨0x09C, 0, 32⟩
abbrev FLT_SAFE_EVT_b0 : Fld := ⟨0x0A0, 0, 16⟩
abbrev FLT_SAFE_EVT_b16 : Fld := ⟨0x0A0, 16, 16⟩
abbrev FLT_FN_MASK_PERM : Fld := ⟨0x0A4, 0, 1⟩
abbrev FLT_FN_MASK_ATT : Fld := ⟨0x0A4, 1, 1⟩
abbrev FLT_FN_MASK_SEC : Fld := ⟨0x0A4, 2, 1⟩
abbrev FLT_FN_MASK_FW : Fld := ⟨0x0A4, 3, 1⟩
abbrev FLT_PIN_STATUS_FAULT_N : Fld := ⟨0x0A8, 0, 1⟩
abbrev FLT_PIN_STATUS_HB_OUT : Fld := ⟨0x0A8, 1, 1⟩
abbrev FLT_PIN_STATUS_MAIN_PG : Fld := ⟨0x0A8, 2, 1⟩
abbrev FLT_PIN_STATUS_BYP_FORCE_N : Fld := ⟨0x0A8, 3, 1⟩
/-! ### Table STU-6 of spec/22_startup.md -/

abbrev GBL_BOOT_b0 : Fld := ⟨0x060, 0, 16⟩
abbrev GBL_BOOT_FAILED : Fld := ⟨0x060, 31, 1⟩
abbrev GBL_BOOT_HOLD : Fld := ⟨0x064, 0, 32⟩
abbrev GBL_BOOT_ISLAND : Fld := ⟨0x068, 0, 32⟩
abbrev GBL_BOOT_T (a : Nat) : Fld := ⟨0x080 + 4 * a, 0, 32⟩
/-! ### Table PCI-10 of spec/15_host_interface.md -/

abbrev LOC_MSIX_ADDR_LO (a : Nat) : Fld := ⟨0x040 + 16 * a, 0, 32⟩
abbrev LOC_MSIX_ADDR_HI (a : Nat) : Fld := ⟨0x044 + 16 * a, 0, 32⟩
abbrev LOC_MSIX_DATA (a : Nat) : Fld := ⟨0x048 + 16 * a, 0, 32⟩
abbrev LOC_MSIX_CTL (a : Nat) : Fld := ⟨0x04C + 16 * a, 0, 1⟩
abbrev LOC_MSIX_PBA (a : Nat) : Fld := ⟨0x040 + 4 * a, 0, 32⟩

end Sys2Proof.Machine.F
end

