-- ==== Sys2Proof/Machine/FMap.lean ====
section
/-!
DEFINITION. Finite maps from numbers to data, kept as a list sorted by key: the register file, the tables
of units, frames and requests. A map is plain data, so two states can be compared.
-/

set_option Elab.async false

namespace Sys2Proof.Machine

/-- A finite map: pairs of a key and a value, keys strictly rising in the canonical form. -/
abbrev FMap (α : Type) := List (Nat × α)

/-- The value at a key, where the map has one. -/
def FMap.get? {α : Type} (m : FMap α) (k : Nat) : Option α :=
  match m with
  | [] => none
  | (a, x) :: t => if a = k then some x else FMap.get? t k

/-- The value at a key, or the given one where the map has none. -/
def FMap.getD {α : Type} (m : FMap α) (k : Nat) (d : α) : α := (FMap.get? m k).getD d

/-- The map without a key. -/
def FMap.erase {α : Type} (m : FMap α) (k : Nat) : FMap α := m.filter (fun e => e.1 ≠ k)

/-- An entry put before the first greater key. -/
def FMap.put {α : Type} (m : FMap α) (k : Nat) (v : α) : FMap α :=
  match m with
  | [] => [(k, v)]
  | (a, x) :: t => if k < a then (k, v) :: (a, x) :: t else (a, x) :: FMap.put t k v

/-- The map with a key's value set. -/
def FMap.set {α : Type} (m : FMap α) (k : Nat) (v : α) : FMap α := FMap.put (FMap.erase m k) k v

/-- The map with a key's value set, where a key at the default `d` is not listed. -/
def FMap.setC {α : Type} [DecidableEq α] (m : FMap α) (k : Nat) (v d : α) : FMap α :=
  if v = d then FMap.erase m k else FMap.set m k v

/-- The canonical form: keys strictly rising. -/
def FMap.sorted {α : Type} (m : FMap α) : Bool := (m.map Prod.fst).Pairwise (· < ·)

/-- The keys listed. -/
def FMap.keys {α : Type} (m : FMap α) : List Nat := m.map Prod.fst

/-- Every listed value changed by a function of its key and itself. -/
def FMap.mapKV {α : Type} (m : FMap α) (f : Nat → α → α) : FMap α := m.map (fun e => (e.1, f e.1 e.2))

end Sys2Proof.Machine
end

