-- ==== Sys2Proof/Machine/RegTable.lean ====
section
/-!
DEFINITION. The register tables of spec/ as data: for each page the rows of its table (offset, index
strides, and of each field its place, access code of Table SCP-4 and reset value), in the tables' order.
Bits no field covers are reserved.
-/

set_option Elab.async false

namespace Sys2Proof.Machine

open Sys2Proof

/-- Rows of Table WDL-7 (P pages 0x0010–0x0010), spec/02_windlass.md. -/
def rowsWdl1 : List RegRow :=
  [⟨0x040, [], [⟨0, 4, .rws, 8⟩, ⟨4, 1, .rws, 0⟩]⟩,
   ⟨0x044, [], [⟨0, 3, .ro, 0⟩, ⟨3, 4, .ro, 8⟩, ⟨7, 1, .ro, 0⟩, ⟨8, 1, .ro, 0⟩, ⟨12, 4, .ro, 0⟩, ⟨16, 8, .ro, 0⟩]⟩,
   ⟨0x048, [], [⟨0, 28, .rws, 0xfffffff⟩]⟩,
   ⟨0x04C, [], [⟨0, 32, .ro, 0⟩]⟩,
   ⟨0x050, [], [⟨0, 32, .ro, 0⟩]⟩,
   ⟨0x054, [], [⟨0, 32, .rws, 0⟩]⟩,
   ⟨0x058, [], [⟨0, 32, .rws, 0⟩]⟩,
   ⟨0x05C, [], [⟨0, 32, .ro, 0⟩]⟩,
   ⟨0x060, [], [⟨0, 32, .ro, 0⟩]⟩,
   ⟨0x064, [], [⟨0, 16, .ro, 0⟩]⟩,
   ⟨0x068, [], [⟨0, 32, .ro, 0⟩]⟩,
   ⟨0x06C, [], [⟨0, 16, .rc, 0⟩, ⟨16, 16, .rc, 0⟩]⟩] ++
  [⟨0x070, [], [⟨0, 16, .rc, 0⟩, ⟨16, 8, .ro, 0⟩]⟩,
   ⟨0x074, [], [⟨0, 32, .w1c, 0⟩]⟩,
   ⟨0x078, [], [⟨0, 32, .w1c, 0⟩]⟩,
   ⟨0x400, [(16, 64)], [⟨0, 32, .rws, 0⟩]⟩,
   ⟨0x404, [(16, 64)], [⟨0, 32, .rws, 0⟩]⟩,
   ⟨0x408, [(16, 64)], [⟨0, 32, .rws, 0⟩]⟩,
   ⟨0x40C, [(16, 64)], [⟨0, 1, .rws, 0⟩, ⟨1, 1, .rws, 0⟩, ⟨2, 1, .rws, 0⟩, ⟨3, 1, .rws, 0⟩, ⟨4, 1, .rws, 0⟩, ⟨5, 2, .rws, 0⟩, ⟨8, 1, .w1c, 0⟩, ⟨9, 1, .w1c, 0⟩, ⟨16, 16, .ro, 0⟩]⟩]

/-- Rows of Table REG-9 (HDR), spec/03_register_pages.md. -/
def rowsHeader : List RegRow :=
  [⟨0x000, [], [⟨0, 16, .ro, 0⟩, ⟨16, 16, .ro, 0⟩]⟩,
   ⟨0x004, [], [⟨0, 8, .ro, 0⟩, ⟨8, 8, .ro, 0⟩]⟩,
   ⟨0x008, [], [⟨0, 1, .ro, 0⟩, ⟨1, 1, .ro, 0⟩, ⟨2, 1, .ro, 0⟩, ⟨3, 1, .ro, 0⟩, ⟨4, 1, .ro, 0⟩, ⟨8, 8, .ro, 0⟩]⟩,
   ⟨0x00C, [], [⟨0, 3, .ro, 0⟩, ⟨8, 8, .ro, 0⟩, ⟨16, 8, .ro, 0⟩, ⟨24, 1, .ro, 0⟩]⟩,
   ⟨0x010, [], [⟨0, 3, .rw, 0⟩, ⟨4, 1, .rw, 0⟩, ⟨16, 8, .rw, 0⟩]⟩,
   ⟨0x014, [], [⟨0, 4, .ro, 0⟩, ⟨8, 8, .ro, 0⟩, ⟨16, 8, .ro, 0⟩, ⟨24, 8, .ro, 0⟩]⟩,
   ⟨0x018, [], [⟨0, 1, .w1c, 0⟩, ⟨1, 1, .ro, 0⟩, ⟨2, 1, .w1c, 0⟩, ⟨3, 1, .ro, 0⟩, ⟨4, 1, .w1c, 0⟩, ⟨5, 1, .w1c, 0⟩]⟩,
   ⟨0x01C, [], [⟨0, 16, .ro, 0⟩, ⟨16, 14, .rc, 0⟩, ⟨30, 1, .ro, 0⟩, ⟨31, 1, .ro, 0⟩]⟩,
   ⟨0x020, [], [⟨0, 32, .w1c, 0⟩]⟩,
   ⟨0x024, [], [⟨0, 32, .rw, 0⟩]⟩,
   ⟨0x028, [], [⟨0, 32, .wo, 0⟩]⟩,
   ⟨0x02C, [], [⟨0, 12, .ro, 0⟩, ⟨12, 2, .ro, 0⟩, ⟨16, 4, .ro, 0⟩, ⟨20, 4, .ro, 0⟩, ⟨24, 6, .ro, 0⟩, ⟨31, 1, .w1c, 0⟩]⟩] ++
  [⟨0x030, [], [⟨0, 1, .sc, 0⟩, ⟨1, 1, .rw, 0⟩, ⟨2, 1, .rw, 0⟩, ⟨3, 1, .rw, 0⟩, ⟨4, 1, .rw, 0⟩, ⟨8, 8, .ro, 0⟩]⟩,
   ⟨0x034, [], [⟨0, 32, .ro, 0⟩]⟩,
   ⟨0x038, [], [⟨0, 32, .ro, 0⟩]⟩,
   ⟨0x03C, [], [⟨0, 1, .rws, 0⟩]⟩]

/-- Rows of Table REG-10, STU-6 (P pages 0x0000–0x0000), spec/03_register_pages.md. -/
def rowsReg1 : List RegRow :=
  [⟨0x040, [], [⟨0, 16, .ro, 2404⟩, ⟨16, 4, .ro, 0⟩]⟩,
   ⟨0x044, [], [⟨0, 2, .ro, 0⟩]⟩,
   ⟨0x048, [], [⟨0, 16, .ro, 0⟩]⟩,
   ⟨0x04C, [], [⟨0, 1, .ro, 0⟩, ⟨1, 1, .ro, 0⟩, ⟨2, 2, .ro, 0⟩]⟩,
   ⟨0x050, [], [⟨0, 1, .sc, 0⟩, ⟨1, 1, .sc, 0⟩]⟩,
   ⟨0x054, [], [⟨0, 26, .ro, 0⟩, ⟨26, 2, .ro, 0⟩, ⟨30, 1, .ro, 0⟩, ⟨31, 1, .w1c, 0⟩]⟩,
   ⟨0x058, [], [⟨0, 16, .rc, 0⟩]⟩,
   ⟨0x05C, [], [⟨0, 32, .rw, 0⟩]⟩,
   ⟨0x060, [], [⟨0, 16, .ro, 0⟩, ⟨31, 1, .ro, 0⟩]⟩,
   ⟨0x064, [], [⟨0, 32, .ro, 0⟩]⟩,
   ⟨0x068, [], [⟨0, 32, .ro, 0⟩]⟩,
   ⟨0x080, [(4, 16)], [⟨0, 32, .ro, 0⟩]⟩]

/-- Rows of Table REG-11 (P pages 0x0001–0x0001), spec/03_register_pages.md. -/
def rowsReg2 : List RegRow :=
  [⟨0x040, [(4, 512)], [⟨0, 32, .ro, 0⟩]⟩]

/-- Rows of Table FLT-11, REG-12 (P pages 0x0012–0x0012), spec/03_register_pages.md. -/
def rowsReg3 : List RegRow :=
  [⟨0x040, [], [⟨0, 6, .rw, 63⟩]⟩,
   ⟨0x044, [], [⟨0, 15, .ro, 0⟩, ⟨31, 1, .ro, 0⟩]⟩,
   ⟨0x048, [], [⟨0, 14, .ro, 0⟩, ⟨31, 1, .w1c, 0⟩]⟩,
   ⟨0x04C, [], [⟨0, 32, .ro, 0⟩]⟩,
   ⟨0x050, [], [⟨0, 14, .ro, 0⟩, ⟨31, 1, .ro, 0⟩]⟩,
   ⟨0x054, [], [⟨0, 16, .rc, 0⟩, ⟨16, 16, .rc, 0⟩]⟩,
   ⟨0x058, [], [⟨0, 16, .rc, 0⟩]⟩,
   ⟨0x080, [], [⟨0, 1, .rws, 0⟩, ⟨1, 1, .sc, 0⟩, ⟨2, 1, .sc, 0⟩, ⟨8, 4, .rws, 8⟩]⟩,
   ⟨0x084, [], [⟨0, 3, .ro, 0⟩, ⟨8, 8, .ro, 0⟩, ⟨16, 4, .ro, 0⟩]⟩,
   ⟨0x088, [], [⟨0, 16, .ro, 0⟩]⟩,
   ⟨0x08C, [], [⟨0, 14, .ro, 0⟩, ⟨31, 1, .ro, 0⟩]⟩,
   ⟨0x090, [], [⟨0, 32, .ro, 0⟩]⟩] ++
  [⟨0x094, [], [⟨0, 32, .ro, 0⟩]⟩,
   ⟨0x098, [], [⟨0, 32, .ro, 0⟩]⟩,
   ⟨0x09C, [], [⟨0, 32, .ro, 0⟩]⟩,
   ⟨0x0A0, [], [⟨0, 16, .rc, 0⟩, ⟨16, 16, .rc, 0⟩]⟩,
   ⟨0x0A4, [], [⟨0, 1, .rws, 1⟩, ⟨1, 1, .rws, 0⟩, ⟨2, 1, .rws, 1⟩, ⟨3, 1, .rws, 1⟩]⟩,
   ⟨0x0A8, [], [⟨0, 1, .ro, 0⟩, ⟨1, 1, .ro, 0⟩, ⟨2, 1, .ro, 0⟩, ⟨3, 1, .ro, 0⟩]⟩]

/-- Rows of Table REG-13 (P pages 0x0013–0x0013), spec/03_register_pages.md. -/
def rowsReg4 : List RegRow :=
  [⟨0x040, [(4, 512)], [⟨0, 32, .ro, 0⟩]⟩,
   ⟨0x900, [(4, 16)], [⟨0, 32, .ro, 0⟩]⟩]

/-- Rows of Table LAN-13 (P pages 0x0100–0x01A3), spec/04_serial_lanes.md. -/
def rowsLan1 : List RegRow :=
  [⟨0x040, [], [⟨0, 1, .rw, 1⟩, ⟨1, 1, .rw, 1⟩, ⟨2, 1, .rw, 0⟩, ⟨3, 1, .rw, 0⟩, ⟨4, 1, .rw, 1⟩, ⟨8, 3, .rw, 2⟩]⟩,
   ⟨0x044, [], [⟨0, 3, .ro, 0⟩, ⟨3, 1, .ro, 0⟩, ⟨4, 1, .ro, 0⟩, ⟨5, 1, .ro, 0⟩, ⟨6, 4, .ro, 0⟩, ⟨10, 4, .ro, 0⟩, ⟨16, 4, .ro, 0⟩]⟩,
   ⟨0x048, [], [⟨0, 4, .rw, 0⟩, ⟨8, 6, .rw, 55⟩, ⟨16, 5, .rw, 8⟩]⟩,
   ⟨0x04C, [], [⟨0, 21, .ro, 0x83700⟩]⟩,
   ⟨0x050, [], [⟨0, 8, .ro, 0⟩, ⟨8, 8, .ro, 0⟩, ⟨16, 8, .ro, 0⟩, ⟨24, 8, .ro, 0⟩]⟩,
   ⟨0x054, [], [⟨0, 3, .rw, 0⟩, ⟨3, 1, .rw, 0⟩, ⟨4, 3, .rw, 0⟩, ⟨7, 1, .rw, 0⟩, ⟨8, 2, .rw, 0⟩, ⟨10, 1, .rw, 0⟩]⟩,
   ⟨0x058, [], [⟨0, 1, .ro, 0⟩, ⟨1, 1, .w1c, 0⟩]⟩,
   ⟨0x05C, [], [⟨0, 32, .rc, 0⟩]⟩,
   ⟨0x060, [], [⟨0, 32, .rc, 0⟩]⟩,
   ⟨0x064, [], [⟨0, 16, .rc, 0⟩, ⟨16, 16, .rc, 0⟩]⟩,
   ⟨0x068, [], [⟨0, 16, .rc, 0⟩, ⟨16, 16, .rc, 0⟩]⟩,
   ⟨0x06C, [], [⟨0, 8, .rw, 16⟩, ⟨8, 24, .rw, 24000⟩]⟩] ++
  [⟨0x070, [], [⟨0, 16, .rc, 0⟩]⟩,
   ⟨0x074, [], [⟨0, 8, .ro, 0⟩, ⟨16, 16, .rc, 0⟩]⟩,
   ⟨0x080, [], [⟨0, 1, .rw, 1⟩, ⟨1, 1, .sc, 0⟩, ⟨2, 2, .rw, 0⟩, ⟨4, 2, .rw, 0⟩]⟩,
   ⟨0x084, [], [⟨0, 1, .ro, 0⟩, ⟨16, 16, .ro, 0⟩]⟩]

/-- Rows of Table LAN-14 (P pages 0x0120–0x0120), spec/04_serial_lanes.md. -/
def rowsLan2 : List RegRow :=
  [⟨0x200, [], [⟨0, 2, .rw, 0⟩, ⟨2, 1, .rw, 0⟩, ⟨3, 4, .rw, 0⟩, ⟨7, 4, .rw, 0⟩]⟩,
   ⟨0x204, [], [⟨0, 6, .rw, 0⟩, ⟨8, 6, .rw, 0⟩, ⟨16, 6, .rw, 0⟩, ⟨24, 6, .rw, 0⟩, ⟨7, 1, .rw, 0⟩, ⟨15, 1, .rw, 0⟩, ⟨23, 1, .rw, 0⟩, ⟨31, 1, .rw, 0⟩]⟩,
   ⟨0x208, [], [⟨0, 2, .ro, 3⟩, ⟨2, 3, .ro, 7⟩, ⟨8, 4, .ro, 0⟩]⟩,
   ⟨0x20C, [], [⟨0, 16, .rc, 0⟩, ⟨16, 16, .rc, 0⟩]⟩,
   ⟨0x210, [], [⟨0, 32, .ro, 0⟩]⟩]

/-- Rows of Table OPE-11, OPE-8 (P pages 0x0200–0x020F), spec/05_optics_and_bypass.md. -/
def rowsOpe1 : List RegRow :=
  [⟨0x040, [], [⟨0, 1, .rws, 1⟩, ⟨1, 1, .rws, 1⟩, ⟨2, 4, .rws, 0⟩]⟩,
   ⟨0x044, [], [⟨0, 1, .ro, 0⟩, ⟨1, 2, .ro, 0⟩, ⟨4, 4, .ro, 0⟩, ⟨8, 4, .ro, 0⟩]⟩,
   ⟨0x048, [], [⟨0, 8, .rws, 0⟩]⟩,
   ⟨0x04C, [], [⟨0, 16, .rws, 0⟩, ⟨16, 16, .rws, 0⟩]⟩,
   ⟨0x050, [], [⟨0, 4, .sc, 0⟩]⟩,
   ⟨0x054, [], [⟨0, 2, .rws, 1⟩, ⟨2, 1, .rws, 1⟩]⟩,
   ⟨0x058, [], [⟨0, 8, .rws, 8⟩, ⟨8, 24, .rws, 24000⟩]⟩,
   ⟨0x05C, [], [⟨0, 16, .rc, 0⟩, ⟨16, 16, .rc, 0⟩]⟩,
   ⟨0x060, [], [⟨0, 16, .rc, 0⟩]⟩,
   ⟨0x064, [], [⟨0, 16, .ro, 0⟩]⟩,
   ⟨0x100, [(32, 8)], [⟨0, 1, .sc, 0⟩, ⟨1, 1, .rws, 0⟩]⟩,
   ⟨0x104, [(32, 8)], [⟨0, 3, .ro, 0⟩, ⟨3, 1, .ro, 0⟩, ⟨4, 1, .ro, 0⟩, ⟨8, 8, .ro, 0⟩, ⟨16, 16, .ro, 0⟩]⟩] ++
  [⟨0x108, [(32, 8)], [⟨0, 16, .ro, 0⟩, ⟨16, 16, .ro, 0⟩]⟩,
   ⟨0x10C, [(32, 8)], [⟨0, 16, .ro, 0⟩, ⟨16, 16, .ro, 0⟩]⟩,
   ⟨0x110, [(32, 8)], [⟨0, 16, .rc, 0⟩, ⟨16, 16, .rc, 0⟩]⟩,
   ⟨0x114, [(32, 8)], [⟨0, 16, .ro, 0⟩]⟩,
   ⟨0x300, [(4, 16)], [⟨0, 16, .ro, 0⟩, ⟨16, 16, .ro, 0⟩]⟩,
   ⟨0x400, [(16, 16)], [⟨0, 16, .rws, 0⟩, ⟨16, 16, .rws, 0⟩]⟩,
   ⟨0x404, [(16, 16)], [⟨0, 16, .rws, 0⟩, ⟨16, 16, .rws, 0⟩]⟩,
   ⟨0x408, [(16, 16)], [⟨0, 16, .rws, 0⟩, ⟨16, 16, .rws, 0⟩]⟩]

/-- Rows of Table BYP-5 (P pages 0x0210–0x0210), spec/05_optics_and_bypass.md. -/
def rowsByp1 : List RegRow :=
  [⟨0x040, [], [⟨0, 2, .rwl, 0⟩, ⟨2, 2, .rwl, 0⟩, ⟨4, 2, .rwl, 0⟩, ⟨6, 2, .rwl, 0⟩]⟩,
   ⟨0x044, [], [⟨0, 4, .ro, 0⟩]⟩,
   ⟨0x048, [], [⟨0, 4, .ro, 15⟩, ⟨4, 8, .ro, 0⟩, ⟨12, 1, .ro, 1⟩, ⟨13, 1, .ro, 0⟩, ⟨14, 1, .ro, 0⟩, ⟨16, 4, .ro, 1⟩]⟩,
   ⟨0x04C, [], [⟨0, 4, .rw, 0⟩]⟩,
   ⟨0x050, [], [⟨0, 16, .rc, 0⟩, ⟨16, 16, .rc, 0⟩]⟩,
   ⟨0x054, [], [⟨0, 32, .ro, 0⟩]⟩,
   ⟨0x058, [], [⟨0, 32, .ro, 0⟩]⟩,
   ⟨0x05C, [], [⟨0, 8, .ro, 0⟩]⟩,
   ⟨0x060, [], [⟨0, 16, .ro, 0⟩]⟩,
   ⟨0x064, [], [⟨0, 8, .ro, 0⟩]⟩]

/-- Rows of Table LNP-6 (P pages 0x0300–0x0307), spec/06_line_ports.md. -/
def rowsLnp1 : List RegRow :=
  [⟨0x040, [], [⟨0, 1, .rw, 1⟩]⟩,
   ⟨0x044, [], [⟨0, 14, .rw, 9600⟩]⟩,
   ⟨0x048, [], [⟨0, 1, .rw, 0⟩, ⟨1, 2, .rw, 0⟩, ⟨8, 8, .rw, 24⟩]⟩,
   ⟨0x04C, [], [⟨0, 1, .ro, 0⟩, ⟨1, 1, .ro, 0⟩, ⟨2, 1, .ro, 0⟩, ⟨3, 1, .ro, 0⟩, ⟨4, 1, .ro, 0⟩, ⟨5, 1, .ro, 0⟩, ⟨6, 1, .ro, 0⟩, ⟨7, 1, .ro, 0⟩, ⟨8, 2, .ro, 0⟩, ⟨10, 1, .ro, 0⟩]⟩,
   ⟨0x050, [], [⟨0, 32, .rc, 0⟩]⟩,
   ⟨0x054, [], [⟨0, 32, .ro, 0⟩]⟩,
   ⟨0x058, [], [⟨0, 32, .rc, 0⟩]⟩,
   ⟨0x05C, [], [⟨0, 32, .ro, 0⟩]⟩,
   ⟨0x060, [], [⟨0, 32, .rc, 0⟩]⟩,
   ⟨0x064, [], [⟨0, 32, .ro, 0⟩]⟩,
   ⟨0x068, [], [⟨0, 32, .rc, 0⟩]⟩,
   ⟨0x06C, [], [⟨0, 32, .ro, 0⟩]⟩] ++
  [⟨0x070, [], [⟨0, 32, .rc, 0⟩]⟩,
   ⟨0x074, [], [⟨0, 16, .rc, 0⟩, ⟨16, 16, .rc, 0⟩]⟩,
   ⟨0x078, [], [⟨0, 16, .rc, 0⟩, ⟨16, 16, .rc, 0⟩]⟩,
   ⟨0x07C, [], [⟨0, 16, .rc, 0⟩, ⟨16, 16, .rc, 0⟩]⟩,
   ⟨0x080, [], [⟨0, 32, .rc, 0⟩]⟩,
   ⟨0x084, [], [⟨0, 32, .rc, 0⟩]⟩,
   ⟨0x088, [], [⟨0, 32, .rc, 0⟩]⟩,
   ⟨0x08C, [], [⟨0, 32, .rc, 0⟩]⟩,
   ⟨0x090, [], [⟨0, 32, .rc, 0⟩]⟩,
   ⟨0x094, [], [⟨0, 16, .rc, 0⟩, ⟨16, 16, .rc, 0⟩]⟩,
   ⟨0x098, [], [⟨0, 16, .rc, 0⟩, ⟨16, 16, .rc, 0⟩]⟩]

/-- Rows of Table MSC-3 (P pages 0x0308–0x030F), spec/06_line_ports.md. -/
def rowsMsc1 : List RegRow :=
  [⟨0x040, [], [⟨0, 1, .rw, 0⟩, ⟨1, 1, .rw, 0⟩, ⟨2, 2, .rw, 2⟩, ⟨4, 1, .rw, 1⟩, ⟨5, 1, .rw, 1⟩, ⟨6, 1, .rw, 1⟩, ⟨7, 2, .rw, 0⟩, ⟨9, 1, .rw, 1⟩, ⟨10, 1, .rw, 1⟩]⟩,
   ⟨0x044, [], [⟨0, 32, .rw, 0⟩]⟩,
   ⟨0x048, [], [⟨0, 32, .rw, 0⟩]⟩,
   ⟨0x04C, [], [⟨0, 32, .rw, 0⟩]⟩,
   ⟨0x050, [], [⟨0, 2, .rws, 0⟩, ⟨8, 2, .ro, 0⟩]⟩,
   ⟨0x054, [], [⟨0, 32, .rw, 0xc0000000⟩]⟩,
   ⟨0x058, [], [⟨0, 32, .rw, 0⟩]⟩,
   ⟨0x100, [(32, 4)], [⟨0, 1, .rws, 0⟩, ⟨1, 1, .ro, 0⟩, ⟨2, 1, .ro, 0⟩, ⟨16, 16, .ro, 0⟩]⟩,
   ⟨0x104, [(32, 4)], [⟨0, 32, .rws, 1⟩]⟩,
   ⟨0x108, [(32, 4)], [⟨0, 32, .rws, 0⟩]⟩,
   ⟨0x10C, [(32, 4)], [⟨0, 32, .rws, 0⟩]⟩,
   ⟨0x110, [(32, 4)], [⟨0, 32, .rc, 0⟩]⟩] ++
  [⟨0x200, [(128, 8)], [⟨0, 32, .rws, 0⟩]⟩,
   ⟨0x204, [(128, 8)], [⟨0, 32, .rws, 0⟩]⟩,
   ⟨0x208, [(128, 8)], [⟨0, 1, .rws, 0⟩]⟩,
   ⟨0x210, [(128, 8), (16, 4)], [⟨0, 1, .rws, 0⟩, ⟨1, 1, .ro, 0⟩, ⟨2, 1, .ro, 0⟩, ⟨16, 16, .ro, 0⟩]⟩,
   ⟨0x214, [(128, 8), (16, 4)], [⟨0, 32, .rws, 1⟩]⟩,
   ⟨0x218, [(128, 8), (16, 4)], [⟨0, 32, .rws, 0⟩]⟩,
   ⟨0x21C, [(128, 8), (16, 4)], [⟨0, 32, .rws, 0⟩]⟩,
   ⟨0x600, [], [⟨0, 32, .rc, 0⟩]⟩,
   ⟨0x604, [], [⟨0, 32, .rc, 0⟩]⟩,
   ⟨0x608, [], [⟨0, 32, .rc, 0⟩]⟩,
   ⟨0x60C, [], [⟨0, 32, .rc, 0⟩]⟩,
   ⟨0x610, [], [⟨0, 32, .rc, 0⟩]⟩] ++
  [⟨0x614, [], [⟨0, 32, .rc, 0⟩]⟩,
   ⟨0x618, [], [⟨0, 32, .rc, 0⟩]⟩,
   ⟨0x61C, [], [⟨0, 32, .rc, 0⟩]⟩,
   ⟨0x620, [], [⟨0, 32, .rc, 0⟩]⟩,
   ⟨0x624, [], [⟨0, 32, .rc, 0⟩]⟩]

/-- Rows of Table PTP-1 (P pages 0x0310–0x0310), spec/06_line_ports.md. -/
def rowsPtp1 : List RegRow :=
  [⟨0x040, [], [⟨0, 1, .rw, 0⟩, ⟨1, 1, .rw, 1⟩, ⟨2, 1, .rw, 1⟩, ⟨3, 1, .rw, 1⟩, ⟨8, 8, .rw, 255⟩]⟩,
   ⟨0x044, [], [⟨0, 32, .rw, 0⟩]⟩,
   ⟨0x048, [], [⟨0, 32, .ro, 0⟩]⟩,
   ⟨0x04C, [], [⟨0, 32, .ro, 0⟩]⟩,
   ⟨0x080, [(8, 8)], [⟨0, 16, .ro, 0⟩, ⟨16, 16, .rw, 0⟩]⟩,
   ⟨0x084, [(8, 8)], [⟨0, 16, .ro, 0⟩, ⟨16, 16, .rw, 0⟩]⟩,
   ⟨0x0C0, [], [⟨0, 32, .rc, 0⟩]⟩,
   ⟨0x0C4, [], [⟨0, 32, .rc, 0⟩]⟩,
   ⟨0x0C8, [], [⟨0, 16, .rc, 0⟩]⟩,
   ⟨0x0CC, [], [⟨0, 32, .rc, 0⟩]⟩]

/-- Rows of Table STG-10 (P pages 0x0400–0x040B, 0x0410–0x041B), spec/07_ingress_pipeline.md. -/
def rowsStg1 : List RegRow :=
  [⟨0x040, [], [⟨0, 16, .rw, 1024⟩]⟩,
   ⟨0x044, [], [⟨0, 16, .ro, 0⟩, ⟨16, 16, .ro, 0⟩]⟩,
   ⟨0x048, [], [⟨0, 16, .rc, 0⟩]⟩,
   ⟨0x04C, [], [⟨0, 16, .rw, 0⟩]⟩,
   ⟨0x050, [], [⟨0, 32, .rc, 0⟩]⟩,
   ⟨0x054, [], [⟨0, 32, .rc, 0⟩]⟩,
   ⟨0x058, [], [⟨0, 32, .rc, 0⟩]⟩,
   ⟨0x05C, [], [⟨0, 32, .rc, 0⟩]⟩,
   ⟨0x060, [], [⟨0, 16, .rc, 0⟩, ⟨16, 16, .rc, 0⟩]⟩]

/-- Rows of Table STG-11 (P pages 0x0400–0x0400, 0x0410–0x0410), spec/07_ingress_pipeline.md. -/
def rowsStg2 : List RegRow :=
  [⟨0x100, [], [⟨0, 14, .ro, 13312⟩]⟩,
   ⟨0x104, [], [⟨0, 14, .rc, 13312⟩]⟩,
   ⟨0x108, [(4, 4)], [⟨0, 32, .rc, 0⟩]⟩]

/-- Rows of Table STG-12 (P pages 0x0402–0x0402, 0x0412–0x0412), spec/07_ingress_pipeline.md. -/
def rowsStg3 : List RegRow :=
  [⟨0x100, [], [⟨0, 16, .rw, 37120⟩]⟩,
   ⟨0x104, [], [⟨0, 16, .rc, 0⟩, ⟨16, 16, .rc, 0⟩]⟩,
   ⟨0x108, [], [⟨0, 16, .rc, 0⟩, ⟨16, 16, .rc, 0⟩]⟩,
   ⟨0x10C, [], [⟨0, 32, .rc, 0⟩]⟩]

/-- Rows of Table STG-13 (P pages 0x0403–0x0403, 0x0413–0x0413), spec/07_ingress_pipeline.md. -/
def rowsStg4 : List RegRow :=
  [⟨0x100, [], [⟨0, 32, .rw, 0⟩]⟩,
   ⟨0x104, [], [⟨0, 8, .rw, 0⟩]⟩,
   ⟨0x108, [], [⟨0, 5, .rw, 20⟩, ⟨5, 1, .sc, 0⟩, ⟨6, 1, .rw, 1⟩, ⟨7, 1, .rw, 1⟩, ⟨8, 1, .rw, 0⟩]⟩,
   ⟨0x10C, [], [⟨0, 1, .ro, 1⟩]⟩,
   ⟨0x110, [], [⟨0, 16, .rw, 27940⟩, ⟨16, 16, .rw, 2794⟩]⟩,
   ⟨0x114, [], [⟨0, 16, .rw, 186⟩, ⟨16, 16, .rw, 512⟩]⟩,
   ⟨0x118, [], [⟨0, 16, .rw, 8192⟩]⟩,
   ⟨0x140, [], [⟨0, 32, .rc, 0⟩]⟩,
   ⟨0x144, [], [⟨0, 32, .rc, 0⟩]⟩,
   ⟨0x148, [], [⟨0, 32, .rc, 0⟩]⟩,
   ⟨0x14C, [], [⟨0, 16, .rc, 0⟩, ⟨16, 16, .rc, 0⟩]⟩,
   ⟨0x150, [], [⟨0, 16, .rc, 0⟩, ⟨16, 16, .rc, 0⟩]⟩] ++
  [⟨0x154, [], [⟨0, 16, .rc, 0⟩, ⟨16, 16, .rc, 0⟩]⟩,
   ⟨0x158, [], [⟨0, 32, .rc, 0⟩]⟩,
   ⟨0x15C, [], [⟨0, 16, .rc, 0⟩, ⟨16, 16, .rc, 0⟩]⟩]

/-- Rows of Table STG-14 (P pages 0x0404–0x0404, 0x0414–0x0414), spec/07_ingress_pipeline.md. -/
def rowsStg5 : List RegRow :=
  [⟨0x100, [], [⟨0, 1, .rw, 0⟩, ⟨1, 3, .rw, 3⟩, ⟨8, 8, .rw, 24⟩, ⟨16, 9, .rw, 64⟩]⟩,
   ⟨0x104, [], [⟨0, 14, .ro, 8192⟩]⟩,
   ⟨0x108, [], [⟨0, 32, .rc, 0⟩]⟩,
   ⟨0x10C, [], [⟨0, 16, .rc, 0⟩, ⟨16, 16, .rc, 0⟩]⟩,
   ⟨0x110, [], [⟨0, 32, .rc, 0⟩]⟩]

/-- Rows of Table STG-15 (P pages 0x0405–0x0405, 0x0415–0x0415), spec/07_ingress_pipeline.md. -/
def rowsStg6 : List RegRow :=
  [⟨0x100, [], [⟨0, 2, .rw, 2⟩, ⟨16, 16, .rw, 256⟩]⟩,
   ⟨0x104, [], [⟨0, 32, .rc, 0⟩]⟩,
   ⟨0x108, [], [⟨0, 32, .rc, 0⟩]⟩,
   ⟨0x10C, [], [⟨0, 32, .rc, 0⟩]⟩,
   ⟨0x110, [], [⟨0, 8, .rc, 0⟩, ⟨8, 8, .rc, 0⟩, ⟨16, 8, .rc, 0⟩, ⟨24, 8, .rc, 0⟩]⟩,
   ⟨0x400, [(32, 64)], [⟨0, 32, .rw, 0⟩]⟩,
   ⟨0x404, [(32, 64)], [⟨0, 32, .rw, 0⟩]⟩,
   ⟨0x408, [(32, 64)], [⟨0, 32, .rw, 0⟩]⟩,
   ⟨0x40C, [(32, 64)], [⟨0, 32, .rw, 0⟩]⟩,
   ⟨0x410, [(32, 64)], [⟨0, 32, .rw, 0⟩]⟩,
   ⟨0x414, [(32, 64)], [⟨0, 32, .rw, 0⟩]⟩,
   ⟨0x418, [(32, 64)], [⟨0, 16, .rw, 0⟩, ⟨16, 8, .rw, 0⟩, ⟨24, 1, .rw, 0⟩, ⟨25, 1, .rw, 0⟩]⟩] ++
  [⟨0x41C, [(32, 64)], [⟨0, 32, .rw, 0⟩]⟩]

/-- Rows of Table STG-16 (P pages 0x0406–0x0406, 0x0416–0x0416), spec/07_ingress_pipeline.md. -/
def rowsStg7 : List RegRow :=
  [⟨0x100, [], [⟨0, 1, .rw, 0⟩, ⟨1, 1, .ro, 0⟩]⟩,
   ⟨0x104, [], [⟨0, 32, .rc, 0⟩]⟩,
   ⟨0x108, [], [⟨0, 32, .rc, 0⟩]⟩,
   ⟨0x400, [(128, 2), (4, 32)], [⟨0, 5, .rw, 0⟩, ⟨8, 5, .rw, 0⟩, ⟨16, 5, .rw, 0⟩, ⟨24, 5, .rw, 0⟩, ⟨5, 3, .rw, 0⟩, ⟨13, 3, .rw, 0⟩, ⟨21, 3, .rw, 0⟩, ⟨29, 3, .rw, 0⟩]⟩]

/-- Rows of Table STG-24 (P pages 0x0407–0x0407, 0x0417–0x0417), spec/08_verdict_and_egress.md. -/
def rowsStg8 : List RegRow :=
  [⟨0x100, [(4, 4)], [⟨0, 2, .rw, 2⟩, ⟨2, 1, .rw, 0⟩, ⟨3, 1, .rw, 1⟩, ⟨4, 2, .rw, 0⟩, ⟨8, 8, .rw, 8⟩, ⟨16, 16, .rw, 0⟩]⟩,
   ⟨0x110, [], [⟨0, 32, .ro, 0⟩]⟩,
   ⟨0x114, [], [⟨0, 32, .rc, 0⟩]⟩,
   ⟨0x118, [], [⟨0, 32, .rc, 0⟩]⟩,
   ⟨0x11C, [], [⟨0, 32, .rc, 0⟩]⟩,
   ⟨0x120, [], [⟨0, 16, .rc, 0⟩, ⟨16, 16, .rc, 0⟩]⟩]

/-- Rows of Table STG-25 (P pages 0x0408–0x0408, 0x0418–0x0418), spec/08_verdict_and_egress.md. -/
def rowsStg9 : List RegRow :=
  [⟨0x100, [(8, 4)], [⟨0, 24, .rw, 0x40000⟩]⟩,
   ⟨0x104, [(8, 4)], [⟨0, 2, .rw, 1⟩, ⟨4, 4, .rw, 0⟩, ⟨8, 2, .rw, 0⟩, ⟨10, 2, .rw, 0⟩, ⟨12, 6, .rw, 0⟩, ⟨18, 3, .rw, 0⟩, ⟨24, 4, .rw, 15⟩]⟩,
   ⟨0x140, [], [⟨0, 32, .rc, 0⟩]⟩,
   ⟨0x144, [], [⟨0, 32, .rc, 0⟩]⟩,
   ⟨0x14C, [(4, 5)], [⟨0, 32, .rc, 0⟩]⟩,
   ⟨0x160, [], [⟨0, 32, .rc, 0⟩]⟩,
   ⟨0x164, [], [⟨0, 16, .rc, 0⟩, ⟨16, 16, .rc, 0⟩]⟩,
   ⟨0x168, [], [⟨0, 16, .rc, 0⟩, ⟨16, 16, .rc, 0⟩]⟩,
   ⟨0x16C, [], [⟨0, 15, .ro, 0⟩]⟩]

/-- Rows of Table STG-26 (P pages 0x0409–0x0409, 0x0419–0x0419), spec/08_verdict_and_egress.md. -/
def rowsStg10 : List RegRow :=
  [⟨0x100, [], [⟨0, 16, .rw, 4096⟩]⟩,
   ⟨0x104, [], [⟨0, 16, .rc, 0⟩, ⟨16, 16, .rc, 0⟩]⟩,
   ⟨0x108, [], [⟨0, 32, .rc, 0⟩]⟩]

/-- Rows of Table STG-27 (P pages 0x040B–0x040B, 0x041B–0x041B), spec/08_verdict_and_egress.md. -/
def rowsStg11 : List RegRow :=
  [⟨0x100, [(8, 4)], [⟨0, 11, .ro, 0⟩, ⟨16, 9, .ro, 0⟩]⟩,
   ⟨0x104, [(8, 4)], [⟨0, 32, .rc, 0⟩]⟩]

/-- Rows of Table CPY-1 (P pages 0x0420–0x0420), spec/08_verdict_and_egress.md. -/
def rowsCpy1 : List RegRow :=
  [⟨0x0C0, [], [⟨0, 8, .ro, 0⟩]⟩,
   ⟨0x100, [(32, 16), (8, 4)], [⟨0, 2, .rw, 0⟩, ⟨8, 16, .rw, 0⟩]⟩,
   ⟨0x104, [(32, 16), (8, 4)], [⟨0, 16, .rw, 4096⟩, ⟨16, 14, .rw, 0⟩]⟩,
   ⟨0x300, [(8, 64)], [⟨0, 32, .rc, 0⟩]⟩,
   ⟨0x304, [(8, 64)], [⟨0, 16, .rc, 0⟩, ⟨16, 16, .rc, 0⟩]⟩,
   ⟨0x800, [(8, 256)], [⟨0, 32, .ro, 0⟩]⟩,
   ⟨0x804, [(8, 256)], [⟨0, 4, .ro, 0⟩, ⟨4, 4, .ro, 0⟩, ⟨8, 4, .ro, 0⟩]⟩]

/-- Rows of Table SMP-2 (P pages 0x0421–0x0421), spec/08_verdict_and_egress.md. -/
def rowsSmp1 : List RegRow :=
  [⟨0x040, [], [⟨0, 1, .rw, 0⟩, ⟨8, 8, .rw, 0⟩, ⟨16, 16, .rw, 1024⟩]⟩,
   ⟨0x044, [], [⟨0, 14, .rw, 128⟩, ⟨16, 16, .rw, 4096⟩]⟩,
   ⟨0x048, [], [⟨0, 32, .rw, 0⟩]⟩,
   ⟨0x04C, [], [⟨0, 32, .rw, 0⟩]⟩,
   ⟨0x050, [], [⟨0, 32, .w1c, 0⟩]⟩,
   ⟨0x054, [], [⟨0, 32, .w1c, 0⟩]⟩,
   ⟨0x058, [], [⟨0, 32, .rc, 0⟩]⟩,
   ⟨0x05C, [], [⟨0, 32, .rc, 0⟩]⟩,
   ⟨0x100, [(4, 64)], [⟨0, 32, .rc, 0⟩]⟩]

/-- Rows of Table FAB-6 (P pages 0x0500–0x051F), spec/09_fabric_and_clocks.md. -/
def rowsFab1 : List RegRow :=
  [⟨0x040, [], [⟨0, 16, .rw, 0⟩]⟩,
   ⟨0x044, [], [⟨0, 32, .rc, 0⟩]⟩,
   ⟨0x048, [], [⟨0, 16, .rc, 0⟩, ⟨16, 16, .rc, 0⟩]⟩]

/-- Rows of Table FAB-6 (P pages 0x0520–0x0520), spec/09_fabric_and_clocks.md. -/
def rowsFab2 : List RegRow :=
  [⟨0x040, [], [⟨0, 1, .rws, 0⟩]⟩,
   ⟨0x044, [], [⟨0, 4, .rws, 0⟩]⟩,
   ⟨0x048, [], [⟨0, 32, .ro, 0⟩]⟩,
   ⟨0x04C, [], [⟨0, 16, .rc, 0⟩, ⟨16, 16, .rc, 0⟩]⟩]

/-- Rows of Table FAB-6 (P pages 0x0521–0x0524), spec/09_fabric_and_clocks.md. -/
def rowsFab3 : List RegRow :=
  [⟨0x040, [], [⟨0, 2, .rw, 0⟩, ⟨2, 4, .rw, 0⟩, ⟨8, 8, .rw, 255⟩, ⟨16, 3, .rw, 0⟩]⟩,
   ⟨0x044, [], [⟨0, 3, .ro, 0⟩, ⟨3, 1, .ro, 0⟩]⟩,
   ⟨0x048, [], [⟨0, 32, .ro, 0⟩]⟩,
   ⟨0x04C, [(16, 2)], [⟨0, 32, .rc, 0⟩]⟩,
   ⟨0x050, [(16, 2)], [⟨0, 32, .rc, 0⟩]⟩,
   ⟨0x054, [(16, 2)], [⟨0, 32, .rc, 0⟩]⟩,
   ⟨0x058, [(16, 2)], [⟨0, 24, .rc, 0⟩, ⟨24, 8, .rc, 0⟩]⟩]

/-- Rows of Table FAB-6 (P pages 0x0525–0x052C), spec/09_fabric_and_clocks.md. -/
def rowsFab4 : List RegRow :=
  [⟨0x040, [], [⟨0, 4, .rw, 0⟩]⟩,
   ⟨0x044, [], [⟨0, 32, .rc, 0⟩]⟩,
   ⟨0x048, [], [⟨0, 32, .rc, 0⟩]⟩,
   ⟨0x04C, [], [⟨0, 32, .rc, 0⟩]⟩]

/-- Rows of Table FAB-6 (P pages 0x052D–0x053C), spec/09_fabric_and_clocks.md. -/
def rowsFab5 : List RegRow :=
  [⟨0x040, [], [⟨0, 2, .rw, 0⟩, ⟨2, 1, .rw, 0⟩, ⟨8, 8, .rw, 64⟩, ⟨16, 4, .rw, 5⟩, ⟨20, 6, .rw, 10⟩]⟩,
   ⟨0x044, [], [⟨0, 1, .ro, 0⟩]⟩,
   ⟨0x048, [], [⟨0, 16, .rc, 0⟩]⟩]

/-- Rows of Table FAB-6 (P pages 0x053D–0x053D), spec/09_fabric_and_clocks.md. -/
def rowsFab6 : List RegRow :=
  [⟨0x040, [], [⟨0, 16, .rws, 2400⟩]⟩,
   ⟨0x044, [], [⟨0, 32, .rc, 0⟩]⟩,
   ⟨0x048, [], [⟨0, 5, .ro, 0⟩]⟩]

/-- Rows of Table CLK-3 (P pages 0x0C00–0x0C0F), spec/09_fabric_and_clocks.md. -/
def rowsClk1 : List RegRow :=
  [⟨0x040, [], [⟨0, 16, .rw, 6000⟩]⟩,
   ⟨0x100, [(16, 16)], [⟨0, 2, .ro, 0⟩, ⟨2, 1, .ro, 0⟩]⟩,
   ⟨0x104, [(16, 16)], [⟨0, 32, .ro, 0⟩]⟩,
   ⟨0x108, [(16, 16)], [⟨0, 16, .rc, 0⟩, ⟨16, 16, .rc, 0⟩]⟩]

/-- Rows of Table MTL-5 (P pages 0x0600–0x067F), spec/10_tiles_and_tile_network.md. -/
def rowsMtl1 : List RegRow :=
  [⟨0x040, [], [⟨0, 8, .rws, 130⟩, ⟨8, 1, .rws, 1⟩]⟩,
   ⟨0x044, [], [⟨0, 2, .ro, 0⟩, ⟨2, 2, .ro, 0⟩, ⟨4, 1, .ro, 0⟩]⟩,
   ⟨0x048, [], [⟨0, 1, .rw, 0⟩]⟩,
   ⟨0x04C, [], [⟨0, 16, .rws, 240⟩]⟩,
   ⟨0x050, [], [⟨0, 8, .rws, 8⟩, ⟨8, 24, .rws, 24000⟩]⟩,
   ⟨0x054, [], [⟨0, 32, .rc, 0⟩]⟩,
   ⟨0x058, [], [⟨0, 16, .rc, 0⟩, ⟨16, 16, .rc, 0⟩]⟩,
   ⟨0x05C, [], [⟨0, 16, .rc, 0⟩, ⟨16, 16, .rc, 0⟩]⟩,
   ⟨0x060, [], [⟨0, 16, .rc, 0⟩]⟩,
   ⟨0x064, [], [⟨0, 32, .rc, 0⟩]⟩,
   ⟨0x068, [], [⟨0, 32, .rc, 0⟩]⟩,
   ⟨0x06C, [], [⟨0, 32, .rc, 0⟩]⟩] ++
  [⟨0x100, [(16, 4)], [⟨0, 20, .rw, 0⟩]⟩,
   ⟨0x104, [(16, 4)], [⟨0, 20, .rw, 0⟩]⟩,
   ⟨0x108, [(16, 4)], [⟨0, 32, .rw, 0⟩]⟩,
   ⟨0x10C, [(16, 4)], [⟨0, 1, .rw, 0⟩, ⟨1, 1, .sc, 0⟩, ⟨2, 2, .rw, 0⟩]⟩]

/-- Rows of Table TNW-8 (P pages 0x0700–0x077F), spec/10_tiles_and_tile_network.md. -/
def rowsTnw1 : List RegRow :=
  [⟨0x040, [], [⟨0, 1, .rws, 0⟩, ⟨1, 1, .ro, 0⟩]⟩,
   ⟨0x044, [], [⟨0, 4, .ro, 0⟩]⟩,
   ⟨0x100, [(16, 5)], [⟨0, 32, .rc, 0⟩]⟩,
   ⟨0x104, [(16, 5)], [⟨0, 32, .rc, 0⟩]⟩,
   ⟨0x108, [(16, 5)], [⟨0, 16, .rc, 0⟩, ⟨16, 16, .rc, 0⟩]⟩,
   ⟨0x10C, [(16, 5)], [⟨0, 16, .rc, 0⟩, ⟨16, 16, .rc, 0⟩]⟩,
   ⟨0x180, [], [⟨0, 16, .rc, 0⟩, ⟨16, 16, .rc, 0⟩]⟩,
   ⟨0x184, [], [⟨0, 32, .rc, 0⟩]⟩,
   ⟨0x200, [(16, 4)], [⟨0, 32, .rc, 0⟩]⟩,
   ⟨0x204, [(16, 4)], [⟨0, 32, .rc, 0⟩]⟩,
   ⟨0x208, [(16, 4)], [⟨0, 32, .rc, 0⟩]⟩,
   ⟨0x300, [], [⟨0, 32, .rws, 0⟩]⟩] ++
  [⟨0x304, [], [⟨0, 32, .rws, 0⟩]⟩,
   ⟨0x308, [], [⟨0, 16, .rws, 0⟩]⟩,
   ⟨0x310, [(32, 4), (4, 4)], [⟨0, 32, .rws, 0⟩]⟩,
   ⟨0x320, [(32, 4)], [⟨0, 16, .rws, 0⟩, ⟨31, 1, .rws, 0⟩]⟩,
   ⟨0x390, [], [⟨0, 2, .ro, 0⟩, ⟨2, 1, .ro, 1⟩]⟩,
   ⟨0x394, [], [⟨0, 32, .rc, 0⟩]⟩,
   ⟨0x3A0, [], [⟨0, 16, .rws, 512⟩]⟩,
   ⟨0x3A4, [], [⟨0, 32, .rc, 0⟩]⟩,
   ⟨0x3A8, [], [⟨0, 32, .rc, 0⟩]⟩,
   ⟨0x400, [(512, 2), (64, 5), (4, 16)], [⟨0, 4, .rws, 0⟩, ⟨4, 4, .rws, 0⟩, ⟨8, 4, .rws, 0⟩, ⟨12, 4, .rws, 0⟩, ⟨16, 4, .rws, 0⟩, ⟨20, 4, .rws, 0⟩, ⟨24, 4, .rws, 0⟩, ⟨28, 4, .rws, 0⟩]⟩]

/-- Rows of Table TNP-1 (P pages 0x0780–0x078F), spec/10_tiles_and_tile_network.md. -/
def rowsTnp1 : List RegRow :=
  [⟨0x040, [], [⟨0, 7, .rw, 0⟩, ⟨8, 3, .rw, 0⟩]⟩,
   ⟨0x044, [], [⟨0, 1, .rw, 0⟩, ⟨1, 1, .rw, 0⟩, ⟨2, 1, .rw, 0⟩, ⟨3, 1, .rw, 0⟩, ⟨4, 1, .rw, 0⟩, ⟨8, 6, .rw, 0⟩, ⟨16, 6, .rw, 0⟩, ⟨31, 1, .ro, 0⟩]⟩,
   ⟨0x048, [], [⟨0, 4, .rw, 15⟩, ⟨16, 16, .rw, 65535⟩]⟩,
   ⟨0x04C, [], [⟨0, 8, .rw, 0⟩, ⟨8, 8, .rw, 0⟩, ⟨16, 8, .rw, 0⟩, ⟨24, 8, .rw, 0⟩]⟩,
   ⟨0x050, [], [⟨0, 16, .rw, 0⟩, ⟨16, 16, .rw, 0⟩]⟩,
   ⟨0x054, [], [⟨0, 16, .rw, 65535⟩]⟩,
   ⟨0x060, [], [⟨0, 32, .rc, 0⟩]⟩,
   ⟨0x064, [], [⟨0, 32, .rc, 0⟩]⟩,
   ⟨0x068, [], [⟨0, 32, .rc, 0⟩]⟩,
   ⟨0x06C, [], [⟨0, 16, .rc, 0⟩]⟩,
   ⟨0x070, [], [⟨0, 32, .rc, 0⟩]⟩,
   ⟨0x074, [], [⟨0, 32, .ro, 0⟩]⟩] ++
  [⟨0x078, [], [⟨0, 7, .ro, 0⟩, ⟨7, 1, .ro, 0⟩]⟩,
   ⟨0x800, [(16, 128)], [⟨0, 32, .ro, 0⟩]⟩,
   ⟨0x804, [(16, 128)], [⟨0, 32, .ro, 0⟩]⟩,
   ⟨0x808, [(16, 128)], [⟨0, 32, .ro, 0⟩]⟩,
   ⟨0x80C, [(16, 128)], [⟨0, 32, .ro, 0⟩]⟩]

/-- Rows of Table LWL-8 (P pages 0x0220–0x0220), spec/12_lightwell.md. -/
def rowsLwl1 : List RegRow :=
  [⟨0x040, [], [⟨0, 1, .rw, 0⟩, ⟨1, 1, .rws, 1⟩, ⟨2, 1, .rws, 0⟩, ⟨3, 1, .rws, 1⟩, ⟨4, 2, .rws, 1⟩, ⟨6, 1, .rws, 0⟩]⟩,
   ⟨0x044, [], [⟨0, 3, .ro, 0⟩, ⟨3, 1, .ro, 0⟩, ⟨4, 2, .ro, 0⟩, ⟨8, 8, .ro, 0⟩]⟩,
   ⟨0x048, [], [⟨0, 11, .rws, 256⟩]⟩,
   ⟨0x04C, [], [⟨0, 32, .rws, 0⟩]⟩,
   ⟨0x050, [], [⟨0, 32, .rws, 0⟩]⟩,
   ⟨0x054, [], [⟨0, 4, .rws, 9⟩, ⟨16, 16, .rws, 61440⟩]⟩,
   ⟨0x058, [], [⟨0, 8, .rws, 4⟩, ⟨8, 8, .rws, 16⟩, ⟨16, 8, .rws, 4⟩]⟩,
   ⟨0x05C, [], [⟨0, 16, .rws, 32768⟩, ⟨16, 8, .rws, 8⟩]⟩,
   ⟨0x060, [], [⟨0, 20, .rws, 0⟩, ⟨20, 4, .rws, 4⟩]⟩,
   ⟨0x064, [], [⟨0, 20, .rws, 0⟩]⟩,
   ⟨0x068, [(4, 3)], [⟨0, 32, .rws, 0⟩]⟩,
   ⟨0x074, [], [⟨0, 20, .rw, 0⟩, ⟨31, 1, .rw, 0⟩]⟩] ++
  [⟨0x078, [], [⟨0, 32, .rw, 0⟩]⟩,
   ⟨0x080, [], [⟨0, 32, .rc, 0⟩]⟩,
   ⟨0x084, [], [⟨0, 16, .rc, 0⟩, ⟨16, 16, .rc, 0⟩]⟩,
   ⟨0x088, [], [⟨0, 16, .rc, 0⟩, ⟨16, 16, .rc, 0⟩]⟩,
   ⟨0x08C, [], [⟨0, 16, .rc, 0⟩, ⟨16, 16, .rc, 0⟩]⟩,
   ⟨0x090, [], [⟨0, 8, .ro, 0⟩, ⟨8, 8, .ro, 0⟩]⟩,
   ⟨0x094, [], [⟨0, 16, .rc, 0⟩, ⟨16, 16, .rc, 0⟩]⟩,
   ⟨0x098, [], [⟨0, 16, .rc, 0⟩]⟩,
   ⟨0x09C, [], [⟨0, 16, .ro, 0⟩]⟩]

/-- Rows of Table LWL-8 (P pages 0x0221–0x0224), spec/12_lightwell.md. -/
def rowsLwl2 : List RegRow :=
  [⟨0x040, [], [⟨0, 16, .ro, 0⟩, ⟨16, 16, .ro, 0⟩]⟩,
   ⟨0x044, [], [⟨0, 16, .ro, 0⟩]⟩]

/-- Rows of Table LWL-8 (P pages 0x0225–0x0228), spec/12_lightwell.md. -/
def rowsLwl3 : List RegRow :=
  [⟨0x040, [], [⟨0, 32, .rc, 0⟩]⟩,
   ⟨0x044, [], [⟨0, 32, .rc, 0⟩]⟩]

/-- Rows of Table LWL-8 (P pages 0x0229–0x0230), spec/12_lightwell.md. -/
def rowsLwl4 : List RegRow :=
  [⟨0x040, [], [⟨0, 8, .sc, 0⟩, ⟨8, 8, .sc, 0⟩]⟩,
   ⟨0x044, [], [⟨0, 8, .ro, 0⟩, ⟨8, 8, .ro, 0⟩]⟩,
   ⟨0x048, [(4, 8)], [⟨0, 8, .ro, 0⟩, ⟨16, 16, .ro, 0⟩]⟩]

/-- Rows of Table LWL-8 (P pages 0x0231–0x0238), spec/12_lightwell.md. -/
def rowsLwl5 : List RegRow :=
  [⟨0x040, [], [⟨0, 8, .rws, 8⟩, ⟨8, 24, .rws, 24000⟩]⟩,
   ⟨0x044, [], [⟨0, 8, .rw, 0⟩, ⟨8, 1, .sc, 0⟩]⟩,
   ⟨0x080, [(4, 8)], [⟨0, 32, .ro, 0⟩]⟩]

/-- Rows of Table CST-5 (P pages 0x0800–0x080F), spec/13_memory_and_pumps.md. -/
def rowsCst1 : List RegRow :=
  [⟨0x040, [], [⟨0, 5, .rws, 0⟩]⟩,
   ⟨0x044, [], [⟨0, 2, .ro, 0⟩]⟩,
   ⟨0x048, [], [⟨0, 13, .rw, 0⟩, ⟨13, 1, .rw, 0⟩]⟩,
   ⟨0x04C, [], [⟨0, 32, .rws, 0⟩]⟩,
   ⟨0x050, [], [⟨0, 32, .rc, 0⟩]⟩,
   ⟨0x054, [], [⟨0, 32, .rc, 0⟩]⟩,
   ⟨0x058, [], [⟨0, 32, .rc, 0⟩]⟩,
   ⟨0x05C, [], [⟨0, 16, .rc, 0⟩, ⟨16, 16, .rc, 0⟩]⟩,
   ⟨0x060, [], [⟨0, 32, .rc, 0⟩]⟩,
   ⟨0x064, [], [⟨0, 16, .rc, 0⟩, ⟨16, 16, .rc, 0⟩]⟩,
   ⟨0x068, [], [⟨0, 7, .ro, 0⟩, ⟨8, 6, .ro, 32⟩]⟩]

/-- Rows of Table PMP-4 (P pages 0x0900–0x091F), spec/13_memory_and_pumps.md. -/
def rowsPmp1 : List RegRow :=
  [⟨0x040, [], [⟨0, 9, .rws, 64⟩]⟩,
   ⟨0x044, [], [⟨0, 16, .rws, 4800⟩, ⟨16, 16, .rws, 8192⟩]⟩,
   ⟨0x048, [], [⟨0, 32, .rc, 0⟩]⟩,
   ⟨0x04C, [], [⟨0, 32, .rc, 0⟩]⟩,
   ⟨0x050, [], [⟨0, 32, .ro, 0⟩]⟩,
   ⟨0x054, [], [⟨0, 16, .rc, 0⟩, ⟨16, 16, .rc, 0⟩]⟩,
   ⟨0x100, [(64, 8)], [⟨0, 8, .rws, 255⟩, ⟨8, 1, .rw, 0⟩, ⟨9, 1, .rws, 0⟩, ⟨10, 3, .rws, 0⟩, ⟨13, 4, .rws, 3⟩, ⟨17, 5, .rws, 4⟩, ⟨22, 2, .rws, 0⟩]⟩,
   ⟨0x104, [(64, 8)], [⟨0, 32, .rws, 0⟩]⟩,
   ⟨0x108, [(64, 8)], [⟨0, 32, .rws, 0⟩]⟩,
   ⟨0x10C, [(64, 8)], [⟨0, 32, .rws, 0⟩]⟩,
   ⟨0x110, [(64, 8)], [⟨0, 32, .rws, 0⟩]⟩,
   ⟨0x114, [(64, 8)], [⟨0, 16, .rw, 0⟩]⟩] ++
  [⟨0x118, [(64, 8)], [⟨0, 16, .ro, 0⟩, ⟨31, 1, .ro, 0⟩]⟩,
   ⟨0x11C, [(64, 8)], [⟨0, 32, .rws, 0⟩]⟩,
   ⟨0x120, [(64, 8)], [⟨0, 32, .rc, 0⟩]⟩]

/-- Rows of Table DMC-3 (P pages 0x0A00–0x0A07), spec/13_memory_and_pumps.md. -/
def rowsDmc1 : List RegRow :=
  [⟨0x040, [], [⟨0, 4, .ro, 0⟩, ⟨4, 2, .ro, 0⟩, ⟨6, 2, .ro, 0⟩, ⟨8, 8, .ro, 0⟩, ⟨16, 1, .ro, 0⟩]⟩,
   ⟨0x044, [], [⟨0, 32, .ro, 0⟩]⟩,
   ⟨0x048, [], [⟨0, 16, .rws, 128⟩, ⟨16, 16, .rws, 8192⟩]⟩,
   ⟨0x04C, [], [⟨0, 4, .rws, 4⟩, ⟨8, 24, .rws, 24000⟩]⟩,
   ⟨0x050, [], [⟨0, 1, .rws, 0⟩]⟩,
   ⟨0x054, [], [⟨0, 24, .rw, 0⟩, ⟨24, 1, .rw, 0⟩, ⟨31, 1, .sc, 0⟩]⟩,
   ⟨0x058, [], [⟨0, 32, .rc, 0⟩]⟩,
   ⟨0x05C, [], [⟨0, 16, .rc, 0⟩, ⟨16, 16, .rc, 0⟩]⟩,
   ⟨0x060, [], [⟨0, 14, .ro, 8192⟩, ⟨14, 16, .rc, 0⟩]⟩,
   ⟨0x064, [], [⟨0, 16, .rc, 0⟩, ⟨16, 16, .rc, 0⟩]⟩,
   ⟨0x068, [], [⟨0, 24, .ro, 0⟩, ⟨24, 2, .ro, 0⟩]⟩,
   ⟨0x06C, [], [⟨0, 32, .ro, 0⟩]⟩] ++
  [⟨0x070, [], [⟨0, 16, .ro, 0⟩, ⟨16, 16, .rc, 0⟩]⟩]

/-- Rows of Table NRG-6 (P pages 0x0011–0x0011), spec/14_energy_ledger.md. -/
def rowsNrg1 : List RegRow :=
  [⟨0x040, [], [⟨0, 10, .rws, 650⟩]⟩,
   ⟨0x044, [], [⟨0, 10, .rws, 150⟩, ⟨16, 10, .rws, 0⟩]⟩,
   ⟨0x048, [], [⟨0, 1, .rws, 0⟩, ⟨1, 1, .ro, 0⟩]⟩,
   ⟨0x04C, [], [⟨0, 1, .rws, 1⟩, ⟨4, 1, .rws, 1⟩, ⟨8, 1, .rws, 1⟩, ⟨12, 1, .rws, 1⟩, ⟨1, 1, .rws, 1⟩, ⟨5, 1, .rws, 1⟩, ⟨9, 1, .rws, 1⟩, ⟨13, 1, .rws, 1⟩]⟩,
   ⟨0x050, [], [⟨0, 8, .rws, 0⟩, ⟨8, 8, .rws, 0⟩, ⟨16, 8, .rws, 0⟩, ⟨24, 8, .rws, 0⟩]⟩,
   ⟨0x054, [], [⟨0, 16, .rws, 100⟩]⟩,
   ⟨0x058, [], [⟨0, 10, .ro, 0⟩, ⟨10, 10, .ro, 0⟩, ⟨20, 1, .ro, 0⟩, ⟨21, 1, .ro, 0⟩, ⟨22, 1, .ro, 0⟩]⟩,
   ⟨0x05C, [], [⟨0, 16, .ro, 0⟩, ⟨16, 16, .ro, 0⟩]⟩,
   ⟨0x060, [], [⟨0, 32, .ro, 0⟩]⟩,
   ⟨0x064, [], [⟨0, 32, .ro, 0⟩]⟩,
   ⟨0x068, [], [⟨0, 24, .ro, 0⟩]⟩,
   ⟨0x06C, [], [⟨0, 24, .wo, 0⟩]⟩] ++
  [⟨0x070, [], [⟨0, 32, .ro, 0⟩]⟩,
   ⟨0x074, [], [⟨0, 32, .ro, 0⟩]⟩,
   ⟨0x078, [], [⟨0, 32, .ro, 0⟩]⟩,
   ⟨0x080, [(4, 5)], [⟨0, 32, .rc, 0⟩]⟩,
   ⟨0x0A0, [], [⟨0, 16, .rc, 0⟩, ⟨16, 16, .rc, 0⟩]⟩,
   ⟨0x0A4, [], [⟨0, 32, .rc, 0⟩]⟩,
   ⟨0x0A8, [], [⟨0, 32, .rc, 0⟩]⟩,
   ⟨0x0AC, [], [⟨0, 16, .rc, 0⟩]⟩,
   ⟨0x100, [(32, 2), (4, 5)], [⟨0, 16, .rws, 0⟩, ⟨16, 15, .rws, 0⟩, ⟨31, 1, .rws, 0⟩]⟩]

/-- Rows of Table PWR-1 (P pages 0x0D00–0x0D00), spec/14_energy_ledger.md. -/
def rowsPwr1 : List RegRow :=
  [⟨0x040, [], [⟨0, 1, .rws, 1⟩, ⟨1, 1, .rws, 0⟩, ⟨2, 1, .rws, 1⟩, ⟨8, 8, .rws, 240⟩]⟩,
   ⟨0x044, [], [⟨0, 10, .ro, 650⟩]⟩,
   ⟨0x048, [], [⟨0, 10, .rws, 0⟩]⟩,
   ⟨0x04C, [], [⟨0, 16, .ro, 0⟩]⟩,
   ⟨0x050, [], [⟨0, 32, .ro, 0⟩]⟩,
   ⟨0x054, [], [⟨0, 32, .ro, 0⟩]⟩,
   ⟨0x058, [], [⟨0, 32, .ro, 0⟩]⟩,
   ⟨0x060, [], [⟨0, 8, .rwl, 100⟩, ⟨8, 8, .rwl, 95⟩, ⟨16, 8, .rwl, 110⟩]⟩,
   ⟨0x064, [], [⟨0, 10, .rws, 300⟩]⟩,
   ⟨0x068, [], [⟨0, 16, .ro, 0⟩, ⟨16, 4, .ro, 0⟩]⟩,
   ⟨0x06C, [], [⟨0, 16, .rc, 0⟩]⟩,
   ⟨0x100, [(16, 8)], [⟨0, 7, .rws, 0⟩, ⟨7, 1, .rws, 0⟩, ⟨8, 8, .rws, 0⟩, ⟨16, 1, .rws, 0⟩]⟩] ++
  [⟨0x104, [(16, 8)], [⟨0, 16, .ro, 0⟩]⟩,
   ⟨0x108, [(16, 8)], [⟨0, 16, .ro, 0⟩]⟩,
   ⟨0x10C, [(16, 8)], [⟨0, 2, .ro, 0⟩, ⟨2, 1, .ro, 0⟩, ⟨16, 16, .rc, 0⟩]⟩,
   ⟨0x200, [(4, 16)], [⟨0, 16, .ro, 0⟩]⟩]

/-- Rows of Table PCI-9 (P pages 0x0050–0x0050), spec/15_host_interface.md. -/
def rowsPci1 : List RegRow :=
  [⟨0x040, [], [⟨0, 1, .rw, 0⟩, ⟨1, 1, .ro, 1⟩]⟩,
   ⟨0x044, [], [⟨0, 3, .ro, 0⟩, ⟨3, 5, .ro, 0⟩, ⟨8, 1, .ro, 0⟩]⟩,
   ⟨0x048, [], [⟨0, 10, .ro, 32⟩, ⟨16, 10, .ro, 0⟩]⟩,
   ⟨0x04C, [], [⟨0, 4, .ro, 0⟩, ⟨8, 24, .ro, 40000⟩]⟩,
   ⟨0x050, [], [⟨0, 32, .rc, 0⟩]⟩,
   ⟨0x054, [], [⟨0, 16, .rc, 0⟩, ⟨16, 16, .rc, 0⟩]⟩,
   ⟨0x058, [], [⟨0, 16, .rc, 0⟩, ⟨16, 16, .rc, 0⟩]⟩,
   ⟨0x05C, [], [⟨0, 16, .rc, 0⟩, ⟨16, 16, .rc, 0⟩]⟩,
   ⟨0x060, [], [⟨0, 16, .rc, 0⟩, ⟨16, 16, .rc, 0⟩]⟩,
   ⟨0x064, [], [⟨0, 8, .ro, 0⟩, ⟨8, 16, .ro, 0⟩, ⟨24, 8, .ro, 0⟩]⟩]

/-- Rows of Table PCI-9 (P pages 0x0051–0x0051), spec/15_host_interface.md. -/
def rowsPci2 : List RegRow :=
  [⟨0x040, [(16, 32)], [⟨0, 32, .rw, 0⟩]⟩,
   ⟨0x044, [(16, 32)], [⟨0, 32, .rw, 0⟩]⟩,
   ⟨0x048, [(16, 32)], [⟨0, 32, .rw, 0⟩]⟩,
   ⟨0x04C, [(16, 32)], [⟨0, 1, .rw, 1⟩]⟩,
   ⟨0x240, [], [⟨0, 32, .ro, 0⟩]⟩,
   ⟨0x244, [], [⟨0, 32, .ro, 0⟩]⟩]

/-- Rows of Table PCI-9 (P pages 0x0052–0x0052), spec/15_host_interface.md. -/
def rowsPci3 : List RegRow :=
  [⟨0x040, [(8, 62)], [⟨0, 1, .rw, 0⟩, ⟨1, 1, .rw, 0⟩]⟩,
   ⟨0x044, [(8, 62)], [⟨0, 1, .ro, 0⟩, ⟨1, 1, .ro, 0⟩, ⟨2, 1, .ro, 0⟩, ⟨3, 1, .ro, 0⟩, ⟨4, 1, .ro, 0⟩]⟩,
   ⟨0x400, [(16, 62)], [⟨0, 24, .rw, 0⟩]⟩,
   ⟨0x404, [(16, 62)], [⟨0, 24, .rw, 0⟩]⟩,
   ⟨0x408, [(16, 62)], [⟨0, 12, .rw, 0⟩]⟩,
   ⟨0x40C, [(16, 62)], [⟨0, 12, .rw, 0⟩]⟩]

/-- Rows of Table PCI-9 (P pages 0x0053–0x0053), spec/15_host_interface.md. -/
def rowsPci4 : List RegRow :=
  [⟨0x040, [(16, 62), (4, 4)], [⟨0, 5, .rw, 0⟩, ⟨5, 3, .rw, 0⟩, ⟨15, 1, .rw, 0⟩, ⟨16, 5, .rw, 0⟩, ⟨21, 3, .rw, 0⟩, ⟨31, 1, .rw, 0⟩]⟩,
   ⟨0x800, [(4, 512)], [⟨0, 6, .rw, 0⟩, ⟨6, 2, .rw, 0⟩, ⟨8, 1, .rw, 0⟩]⟩,
   ⟨0x900, [], [⟨0, 6, .rw, 0⟩, ⟨8, 6, .rw, 0⟩, ⟨16, 6, .rw, 0⟩, ⟨24, 6, .rw, 0⟩, ⟨7, 1, .rw, 0⟩, ⟨15, 1, .rw, 0⟩, ⟨23, 1, .rw, 0⟩, ⟨31, 1, .rw, 0⟩]⟩,
   ⟨0x904, [], [⟨0, 6, .rw, 0⟩, ⟨7, 1, .rw, 0⟩]⟩]

/-- Rows of Table PCI-10 (LOC pages 0x0000–0x0000), spec/15_host_interface.md. -/
def rowsPci5 : List RegRow :=
  [⟨0x040, [], [⟨0, 5, .ro, 0⟩]⟩,
   ⟨0x044, [], [⟨0, 32, .ro, 0⟩]⟩,
   ⟨0x048, [], [⟨0, 32, .ro, 0⟩]⟩]

/-- Rows of Table PCI-10 (LOC pages 0x0001–0x0008), spec/15_host_interface.md. -/
def rowsPci6 : List RegRow :=
  [⟨0x040, [], [⟨0, 16, .rw, 0⟩]⟩,
   ⟨0x044, [], [⟨0, 32, .ro, 0⟩]⟩,
   ⟨0x048, [], [⟨0, 6, .rw, 0⟩, ⟨6, 1, .rw, 0⟩, ⟨8, 8, .rw, 0⟩]⟩,
   ⟨0x04C, [], [⟨0, 1, .rw, 0⟩, ⟨1, 5, .rwl, 4⟩]⟩,
   ⟨0x050, [], [⟨0, 32, .rwl, 0⟩]⟩,
   ⟨0x054, [], [⟨0, 32, .rwl, 0⟩]⟩,
   ⟨0x058, [], [⟨0, 32, .rwl, 0⟩]⟩,
   ⟨0x05C, [], [⟨0, 32, .rwl, 0⟩]⟩,
   ⟨0x060, [], [⟨0, 32, .rwl, 0⟩]⟩,
   ⟨0x064, [], [⟨0, 32, .rwl, 0⟩]⟩,
   ⟨0x068, [], [⟨0, 1, .ro, 0⟩]⟩]

/-- Rows of Table PCI-10 (LOC pages 0x0009–0x000C), spec/15_host_interface.md. -/
def rowsPci7 : List RegRow :=
  [⟨0x040, [], [⟨0, 1, .rw, 0⟩, ⟨1, 4, .rwl, 8⟩, ⟨5, 2, .rwl, 0⟩, ⟨7, 1, .rw, 0⟩, ⟨8, 6, .rw, 0⟩, ⟨16, 8, .rw, 0⟩]⟩,
   ⟨0x044, [], [⟨0, 32, .rwl, 0⟩]⟩,
   ⟨0x048, [], [⟨0, 32, .rwl, 0⟩]⟩,
   ⟨0x04C, [], [⟨0, 32, .rwl, 0⟩]⟩,
   ⟨0x050, [], [⟨0, 32, .rwl, 0⟩]⟩,
   ⟨0x054, [], [⟨0, 32, .rwl, 0⟩]⟩,
   ⟨0x058, [], [⟨0, 32, .rwl, 0⟩]⟩,
   ⟨0x05C, [], [⟨0, 16, .rw, 0⟩]⟩,
   ⟨0x060, [], [⟨0, 16, .ro, 0⟩]⟩,
   ⟨0x064, [], [⟨0, 32, .rc, 0⟩]⟩,
   ⟨0x068, [], [⟨0, 32, .rc, 0⟩]⟩]

/-- Rows of Table PCI-10 (LOC pages 0x000D–0x000D), spec/15_host_interface.md. -/
def rowsPci8 : List RegRow :=
  [⟨0x040, [], [⟨0, 1, .rw, 0⟩, ⟨1, 4, .rwl, 6⟩, ⟨5, 6, .rw, 0⟩]⟩,
   ⟨0x044, [], [⟨0, 32, .rwl, 0⟩]⟩,
   ⟨0x048, [], [⟨0, 32, .rwl, 0⟩]⟩,
   ⟨0x04C, [], [⟨0, 16, .rw, 0⟩]⟩,
   ⟨0x050, [], [⟨0, 16, .ro, 0⟩]⟩,
   ⟨0x054, [], [⟨0, 32, .rc, 0⟩]⟩,
   ⟨0x058, [], [⟨0, 32, .ro, 0⟩]⟩]

/-- Rows of Table RYK-8 (P pages 0x0B00–0x0B3F), spec/16_ryuklin_and_scale.md. -/
def rowsRyk1 : List RegRow :=
  [⟨0x040, [], [⟨0, 1, .rws, 0⟩, ⟨1, 2, .rws, 0⟩, ⟨8, 16, .rws, 800⟩]⟩,
   ⟨0x044, [], [⟨0, 3, .ro, 0⟩, ⟨3, 2, .ro, 0⟩, ⟨5, 1, .ro, 0⟩, ⟨8, 8, .ro, 255⟩, ⟨16, 16, .ro, 0⟩]⟩,
   ⟨0x048, [], [⟨0, 6, .ro, 0⟩]⟩,
   ⟨0x04C, [], [⟨0, 12, .ro, 0⟩, ⟨16, 12, .ro, 4095⟩]⟩,
   ⟨0x050, [], [⟨0, 16, .ro, 0⟩, ⟨16, 16, .ro, 0⟩]⟩,
   ⟨0x054, [], [⟨0, 8, .rws, 8⟩, ⟨8, 24, .rws, 24000⟩]⟩,
   ⟨0x058, [], [⟨0, 32, .rc, 0⟩]⟩,
   ⟨0x05C, [], [⟨0, 32, .rc, 0⟩]⟩,
   ⟨0x060, [], [⟨0, 16, .rc, 0⟩, ⟨16, 16, .rc, 0⟩]⟩,
   ⟨0x064, [], [⟨0, 16, .rc, 0⟩, ⟨16, 16, .rc, 0⟩]⟩,
   ⟨0x068, [], [⟨0, 16, .rc, 0⟩, ⟨16, 16, .rc, 0⟩]⟩,
   ⟨0x06C, [], [⟨0, 32, .rc, 0⟩]⟩] ++
  [⟨0x070, [], [⟨0, 16, .rc, 0⟩, ⟨16, 16, .rc, 0⟩]⟩,
   ⟨0x074, [], [⟨0, 16, .ro, 0⟩, ⟨16, 16, .ro, 0⟩]⟩,
   ⟨0x078, [], [⟨0, 16, .ro, 0⟩, ⟨16, 16, .ro, 0⟩]⟩,
   ⟨0x07C, [], [⟨0, 16, .ro, 0⟩, ⟨16, 16, .ro, 0⟩]⟩]

/-- Rows of Table RYK-9 (P pages 0x0B00–0x0B00), spec/16_ryuklin_and_scale.md. -/
def rowsRyk2 : List RegRow :=
  [⟨0x800, [], [⟨0, 16, .rws, 0⟩, ⟨16, 1, .rws, 0⟩]⟩,
   ⟨0x804, [], [⟨0, 5, .rws, 16⟩, ⟨8, 6, .rws, 0⟩, ⟨14, 1, .rws, 0⟩]⟩,
   ⟨0x808, [], [⟨0, 16, .rws, 240⟩]⟩,
   ⟨0x80C, [], [⟨0, 8, .ro, 255⟩]⟩,
   ⟨0x810, [], [⟨0, 13, .ro, 0⟩]⟩,
   ⟨0x814, [], [⟨0, 32, .rc, 0⟩]⟩,
   ⟨0x818, [], [⟨0, 32, .rc, 0⟩]⟩,
   ⟨0x81C, [], [⟨0, 16, .rc, 0⟩, ⟨16, 16, .rc, 0⟩]⟩,
   ⟨0x820, [], [⟨0, 16, .rc, 0⟩, ⟨16, 16, .rc, 0⟩]⟩,
   ⟨0x824, [], [⟨0, 32, .rc, 0⟩]⟩,
   ⟨0x828, [], [⟨0, 32, .rc, 0⟩]⟩,
   ⟨0x82C, [], [⟨0, 16, .rc, 0⟩, ⟨16, 16, .rc, 0⟩]⟩] ++
  [⟨0x880, [(8, 16)], [⟨0, 16, .rws, 0⟩, ⟨16, 16, .rws, 0⟩]⟩,
   ⟨0x884, [(8, 16)], [⟨0, 1, .rws, 0⟩, ⟨1, 1, .rws, 0⟩]⟩,
   ⟨0xC00, [(4, 128)], [⟨0, 16, .rws, 0⟩, ⟨16, 16, .rws, 0⟩]⟩,
   ⟨0xE00, [(4, 128)], [⟨0, 16, .rws, 0⟩, ⟨16, 16, .rws, 0⟩]⟩]

/-- Rows of Table CPC-14 (P pages 0x0040–0x0040), spec/17_firmware.md. -/
def rowsCpc1 : List RegRow :=
  [⟨0x040, [], [⟨0, 3, .ro, 0⟩, ⟨3, 1, .ro, 0⟩, ⟨8, 8, .ro, 0⟩]⟩,
   ⟨0x044, [], [⟨0, 32, .ro, 0⟩]⟩,
   ⟨0x048, [], [⟨0, 8, .ro, 0⟩, ⟨8, 8, .ro, 0⟩]⟩,
   ⟨0x04C, [], [⟨0, 32, .ro, 0⟩]⟩,
   ⟨0x050, [], [⟨0, 32, .ro, 0⟩]⟩,
   ⟨0x054, [], [⟨0, 32, .ro, 0⟩]⟩,
   ⟨0x058, [], [⟨0, 32, .ro, 0⟩]⟩,
   ⟨0x05C, [], [⟨0, 1, .sc, 0⟩, ⟨16, 16, .ro, 0⟩]⟩,
   ⟨0x060, [], [⟨0, 16, .rc, 0⟩, ⟨16, 16, .rc, 0⟩]⟩,
   ⟨0x064, [], [⟨0, 16, .ro, 0⟩, ⟨16, 16, .ro, 0⟩]⟩,
   ⟨0x068, [], [⟨0, 16, .rws, 96⟩, ⟨16, 4, .rws, 3⟩]⟩,
   ⟨0x06C, [], [⟨0, 16, .rws, 64⟩, ⟨16, 16, .rws, 480⟩]⟩] ++
  [⟨0x080, [(8, 8)], [⟨0, 2, .ro, 0⟩, ⟨8, 8, .ro, 0⟩, ⟨16, 16, .ro, 0⟩]⟩,
   ⟨0x084, [(8, 8)], [⟨0, 16, .ro, 0⟩, ⟨16, 2, .ro, 0⟩]⟩]

/-- Rows of Table CPC-14 (P pages 0x0041–0x0048), spec/17_firmware.md. -/
def rowsCpc2 : List RegRow :=
  [⟨0x040, [], [⟨0, 2, .ro, 3⟩]⟩,
   ⟨0x044, [], [⟨0, 32, .ro, 0⟩]⟩,
   ⟨0x048, [], [⟨0, 32, .ro, 0⟩]⟩,
   ⟨0x04C, [], [⟨0, 32, .rc, 0⟩]⟩]

/-- Rows of Table CPC-14 (P pages 0x0049–0x0049), spec/17_firmware.md. -/
def rowsCpc3 : List RegRow :=
  [⟨0x040, [], [⟨0, 8, .rw, 0⟩, ⟨8, 1, .sc, 0⟩]⟩,
   ⟨0x044, [], [⟨0, 8, .ro, 0⟩, ⟨8, 8, .ro, 0⟩, ⟨16, 1, .ro, 0⟩]⟩,
   ⟨0x048, [], [⟨0, 16, .rc, 0⟩]⟩,
   ⟨0x100, [(4, 64)], [⟨0, 32, .rw, 0⟩]⟩,
   ⟨0x200, [(4, 64)], [⟨0, 32, .ro, 0⟩]⟩]

/-- Rows of Table CPC-14 (P pages 0x004A–0x004A), spec/17_firmware.md. -/
def rowsCpc4 : List RegRow :=
  [⟨0x040, [], [⟨0, 1, .w1c, 0⟩, ⟨1, 1, .ro, 0⟩, ⟨8, 8, .ro, 0⟩]⟩,
   ⟨0x044, [], [⟨0, 18, .rw, 0⟩, ⟨31, 1, .rw, 1⟩]⟩,
   ⟨0x048, [], [⟨0, 32, .ro, 0⟩]⟩,
   ⟨0x04C, [], [⟨0, 1, .sc, 0⟩]⟩,
   ⟨0x050, [], [⟨0, 16, .rc, 0⟩]⟩]

/-- Rows of Table CPC-14 (P pages 0x004B–0x004B), spec/17_firmware.md. -/
def rowsCpc5 : List RegRow :=
  [⟨0x040, [], [⟨0, 3, .ro, 0⟩, ⟨8, 8, .ro, 0⟩]⟩,
   ⟨0x044, [], [⟨0, 32, .ro, 0⟩]⟩,
   ⟨0x048, [], [⟨0, 32, .ro, 0⟩]⟩,
   ⟨0x04C, [], [⟨0, 32, .ro, 0⟩]⟩]

/-- Rows of Table CFG-10 (P pages 0x0030–0x0030), spec/18_configuration_loading.md. -/
def rowsCfg1 : List RegRow :=
  [⟨0x040, [], [⟨0, 3, .ro, 0⟩, ⟨3, 2, .ro, 3⟩, ⟨5, 1, .ro, 0⟩, ⟨6, 1, .ro, 0⟩, ⟨8, 8, .ro, 0⟩, ⟨16, 6, .ro, 0⟩]⟩,
   ⟨0x044, [], [⟨0, 1, .sc, 0⟩]⟩,
   ⟨0x048, [], [⟨0, 32, .ro, 0⟩]⟩,
   ⟨0x04C, [], [⟨0, 16, .rc, 0⟩, ⟨16, 16, .rc, 0⟩]⟩,
   ⟨0x050, [], [⟨0, 32, .rc, 0⟩]⟩,
   ⟨0x054, [], [⟨0, 32, .rc, 0⟩]⟩,
   ⟨0x058, [], [⟨0, 16, .rc, 0⟩]⟩,
   ⟨0x05C, [], [⟨0, 32, .ro, 0⟩]⟩]

/-- Rows of Table CFG-10 (P pages 0x0031–0x0031), spec/18_configuration_loading.md. -/
def rowsCfg2 : List RegRow :=
  [⟨0x040, [], [⟨0, 16, .rws, 500⟩, ⟨16, 3, .rws, 2⟩]⟩,
   ⟨0x044, [], [⟨0, 1, .ro, 0⟩, ⟨1, 1, .ro, 0⟩, ⟨2, 1, .ro, 0⟩, ⟨16, 16, .ro, 0⟩]⟩,
   ⟨0x048, [], [⟨0, 32, .rc, 0⟩]⟩,
   ⟨0x04C, [], [⟨0, 32, .rc, 0⟩]⟩,
   ⟨0x050, [], [⟨0, 16, .rc, 0⟩, ⟨16, 16, .rc, 0⟩]⟩]

/-- Rows of Table CFG-10 (P pages 0x0032–0x0032), spec/18_configuration_loading.md. -/
def rowsCfg3 : List RegRow :=
  [⟨0x040, [], [⟨0, 32, .rw, 0⟩]⟩,
   ⟨0x044, [], [⟨0, 32, .rw, 0⟩]⟩,
   ⟨0x048, [], [⟨0, 32, .rw, 0⟩]⟩,
   ⟨0x04C, [], [⟨0, 1, .sc, 0⟩]⟩,
   ⟨0x050, [], [⟨0, 2, .ro, 0⟩, ⟨8, 8, .ro, 0⟩]⟩,
   ⟨0x054, [], [⟨0, 32, .ro, 0⟩]⟩]

/-- Rows of Table CFG-10 (P pages 0x0033–0x0033), spec/18_configuration_loading.md. -/
def rowsCfg4 : List RegRow :=
  [⟨0x040, [], [⟨0, 32, .ro, 0⟩]⟩,
   ⟨0x044, [], [⟨0, 32, .ro, 0⟩]⟩,
   ⟨0x048, [], [⟨0, 8, .ro, 0⟩]⟩]

/-- Rows of Table FLS-3 (P pages 0x0034–0x0034), spec/18_configuration_loading.md. -/
def rowsFls1 : List RegRow :=
  [⟨0x040, [], [⟨0, 16, .ro, 0⟩]⟩,
   ⟨0x044, [], [⟨0, 3, .rw, 0⟩, ⟨3, 1, .sc, 0⟩]⟩,
   ⟨0x048, [], [⟨0, 32, .rw, 0⟩]⟩,
   ⟨0x04C, [], [⟨0, 9, .rw, 0⟩]⟩,
   ⟨0x050, [], [⟨0, 1, .ro, 0⟩, ⟨1, 1, .ro, 0⟩, ⟨2, 1, .w1c, 0⟩, ⟨3, 1, .w1c, 0⟩, ⟨16, 16, .ro, 0⟩]⟩,
   ⟨0x054, [], [⟨0, 1, .ro, 0⟩, ⟨16, 16, .ro, 0⟩]⟩,
   ⟨0x058, [], [⟨0, 5, .ro, 0⟩]⟩,
   ⟨0x05C, [], [⟨0, 16, .rc, 0⟩, ⟨16, 16, .rc, 0⟩]⟩,
   ⟨0x060, [], [⟨0, 1, .ro, 0⟩]⟩,
   ⟨0x064, [], [⟨0, 32, .ro, 0⟩]⟩,
   ⟨0x080, [(4, 16)], [⟨0, 16, .ro, 0⟩]⟩,
   ⟨0x100, [(4, 64)], [⟨0, 32, .rw, 0⟩]⟩]

/-- Rows of Table SEC-12 (P pages 0x0020–0x0020), spec/19_security_module.md. -/
def rowsSec1 : List RegRow :=
  [⟨0x040, [], [⟨0, 3, .ro, 0⟩, ⟨3, 1, .ro, 0⟩, ⟨4, 1, .ro, 0⟩, ⟨5, 1, .ro, 0⟩, ⟨6, 2, .ro, 0⟩, ⟨8, 1, .ro, 0⟩, ⟨9, 1, .ro, 0⟩, ⟨16, 8, .ro, 0⟩]⟩,
   ⟨0x044, [], [⟨0, 8, .rw, 0⟩, ⟨8, 1, .sc, 0⟩]⟩,
   ⟨0x048, [], [⟨0, 8, .ro, 0⟩, ⟨8, 8, .ro, 0⟩, ⟨16, 1, .ro, 0⟩, ⟨17, 1, .ro, 0⟩]⟩,
   ⟨0x04C, [], [⟨0, 32, .ro, 0⟩]⟩,
   ⟨0x050, [], [⟨0, 32, .ro, 0⟩]⟩,
   ⟨0x054, [], [⟨0, 16, .rc, 0⟩, ⟨16, 16, .rc, 0⟩]⟩,
   ⟨0x058, [], [⟨0, 16, .rc, 0⟩, ⟨16, 16, .rc, 0⟩]⟩,
   ⟨0x05C, [], [⟨0, 16, .ro, 0⟩]⟩]

/-- Rows of Table SEC-12 (P pages 0x0021–0x0022), spec/19_security_module.md. -/
def rowsSec2 : List RegRow :=
  [⟨0x040, [(4, 1008)], [⟨0, 32, .rw, 0⟩]⟩]

/-- Rows of Table SEC-12 (P pages 0x0023–0x0023), spec/19_security_module.md. -/
def rowsSec3 : List RegRow :=
  [⟨0x040, [(4, 1008)], [⟨0, 32, .ro, 0⟩]⟩]

/-- Rows of Table SEC-12 (P pages 0x0024–0x0024), spec/19_security_module.md. -/
def rowsSec4 : List RegRow :=
  [⟨0x040, [], [⟨0, 16, .ro, 0⟩, ⟨16, 16, .ro, 0⟩]⟩,
   ⟨0x044, [], [⟨0, 32, .ro, 0⟩]⟩,
   ⟨0x048, [], [⟨0, 16, .rc, 0⟩, ⟨16, 16, .rc, 0⟩]⟩,
   ⟨0x04C, [], [⟨0, 32, .ro, 0⟩]⟩,
   ⟨0x050, [], [⟨0, 16, .rc, 0⟩]⟩]

/-- Rows of Table SEC-12 (P pages 0x0025–0x0025), spec/19_security_module.md. -/
def rowsSec5 : List RegRow :=
  [⟨0x040, [], [⟨0, 4, .ro, 0⟩]⟩,
   ⟨0x044, [], [⟨0, 8, .ro, 0⟩, ⟨8, 8, .ro, 0⟩]⟩,
   ⟨0x048, [], [⟨0, 4, .ro, 0⟩, ⟨4, 4, .ro, 0⟩, ⟨8, 2, .ro, 0⟩, ⟨10, 2, .ro, 0⟩, ⟨12, 2, .ro, 0⟩, ⟨14, 2, .ro, 0⟩]⟩,
   ⟨0x04C, [], [⟨0, 16, .rc, 0⟩, ⟨16, 16, .rc, 0⟩]⟩]

/-- Rows of Table SEC-12 (P pages 0x0026–0x0026), spec/19_security_module.md. -/
def rowsSec6 : List RegRow :=
  [⟨0x040, [], [⟨0, 2, .ro, 0⟩, ⟨2, 1, .ro, 0⟩, ⟨3, 1, .ro, 0⟩, ⟨8, 8, .ro, 0⟩]⟩,
   ⟨0x044, [], [⟨0, 16, .rc, 0⟩, ⟨16, 16, .rc, 0⟩]⟩]

/-- Rows of Table PCI-10 (LOC pages 0x000E–0x000E), spec/15_host_interface.md. -/
def rowsPci9 : List RegRow :=
  [⟨0x040, [(16, 64)], [⟨0, 32, .rw, 0⟩]⟩,
   ⟨0x044, [(16, 64)], [⟨0, 32, .rw, 0⟩]⟩,
   ⟨0x048, [(16, 64)], [⟨0, 32, .rw, 0⟩]⟩,
   ⟨0x04C, [(16, 64)], [⟨0, 1, .rw, 1⟩]⟩]

/-- Rows of Table PCI-10 (LOC pages 0x000F–0x000F), spec/15_host_interface.md. -/
def rowsPci10 : List RegRow :=
  [⟨0x040, [(4, 2)], [⟨0, 32, .ro, 0⟩]⟩]

/-- Which pages of PF0 BAR0 (first and last index) hold which rows; a page may hold several tables. -/
def pageSections : List (Nat × Nat × List RegRow) :=
  [(0x0010, 0x0010, rowsWdl1),
   (0x0000, 0x0000, rowsReg1),
   (0x0001, 0x0001, rowsReg2),
   (0x0012, 0x0012, rowsReg3),
   (0x0013, 0x0013, rowsReg4),
   (0x0100, 0x01A3, rowsLan1),
   (0x0120, 0x0120, rowsLan2),
   (0x0200, 0x020F, rowsOpe1),
   (0x0210, 0x0210, rowsByp1),
   (0x0300, 0x0307, rowsLnp1),
   (0x0308, 0x030F, rowsMsc1),
   (0x0310, 0x0310, rowsPtp1),
   (0x0400, 0x040B, rowsStg1),
   (0x0410, 0x041B, rowsStg1),
   (0x0400, 0x0400, rowsStg2),
   (0x0410, 0x0410, rowsStg2),
   (0x0402, 0x0402, rowsStg3),
   (0x0412, 0x0412, rowsStg3),
   (0x0403, 0x0403, rowsStg4),
   (0x0413, 0x0413, rowsStg4)] ++
  [(0x0404, 0x0404, rowsStg5),
   (0x0414, 0x0414, rowsStg5),
   (0x0405, 0x0405, rowsStg6),
   (0x0415, 0x0415, rowsStg6),
   (0x0406, 0x0406, rowsStg7),
   (0x0416, 0x0416, rowsStg7),
   (0x0407, 0x0407, rowsStg8),
   (0x0417, 0x0417, rowsStg8),
   (0x0408, 0x0408, rowsStg9),
   (0x0418, 0x0418, rowsStg9),
   (0x0409, 0x0409, rowsStg10),
   (0x0419, 0x0419, rowsStg10),
   (0x040B, 0x040B, rowsStg11),
   (0x041B, 0x041B, rowsStg11),
   (0x0420, 0x0420, rowsCpy1),
   (0x0421, 0x0421, rowsSmp1),
   (0x0500, 0x051F, rowsFab1),
   (0x0520, 0x0520, rowsFab2),
   (0x0521, 0x0524, rowsFab3),
   (0x0525, 0x052C, rowsFab4)] ++
  [(0x052D, 0x053C, rowsFab5),
   (0x053D, 0x053D, rowsFab6),
   (0x0C00, 0x0C0F, rowsClk1),
   (0x0600, 0x067F, rowsMtl1),
   (0x0700, 0x077F, rowsTnw1),
   (0x0780, 0x078F, rowsTnp1),
   (0x0220, 0x0220, rowsLwl1),
   (0x0221, 0x0224, rowsLwl2),
   (0x0225, 0x0228, rowsLwl3),
   (0x0229, 0x0230, rowsLwl4),
   (0x0231, 0x0238, rowsLwl5),
   (0x0800, 0x080F, rowsCst1),
   (0x0900, 0x091F, rowsPmp1),
   (0x0A00, 0x0A07, rowsDmc1),
   (0x0011, 0x0011, rowsNrg1),
   (0x0D00, 0x0D00, rowsPwr1),
   (0x0050, 0x0050, rowsPci1),
   (0x0051, 0x0051, rowsPci2),
   (0x0052, 0x0052, rowsPci3),
   (0x0053, 0x0053, rowsPci4)] ++
  [(0x0B00, 0x0B3F, rowsRyk1),
   (0x0B00, 0x0B00, rowsRyk2),
   (0x0040, 0x0040, rowsCpc1),
   (0x0041, 0x0048, rowsCpc2),
   (0x0049, 0x0049, rowsCpc3),
   (0x004A, 0x004A, rowsCpc4),
   (0x004B, 0x004B, rowsCpc5),
   (0x0030, 0x0030, rowsCfg1),
   (0x0031, 0x0031, rowsCfg2),
   (0x0032, 0x0032, rowsCfg3),
   (0x0033, 0x0033, rowsCfg4),
   (0x0034, 0x0034, rowsFls1),
   (0x0020, 0x0020, rowsSec1),
   (0x0021, 0x0022, rowsSec2),
   (0x0023, 0x0023, rowsSec3),
   (0x0024, 0x0024, rowsSec4),
   (0x0025, 0x0025, rowsSec5),
   (0x0026, 0x0026, rowsSec6)]

/-- Which local pages (0 to 15) of PF1 and of a tenant hold which rows (Table PCI-10). -/
def localSections : List (Nat × Nat × List RegRow) :=
  [(0x0000, 0x0000, rowsPci5),
   (0x0001, 0x0008, rowsPci6),
   (0x0009, 0x000C, rowsPci7),
   (0x000D, 0x000D, rowsPci8),
   (0x000E, 0x000E, rowsPci9),
   (0x000F, 0x000F, rowsPci10)]

end Sys2Proof.Machine
end

