-- ==== Sys2Proof/Machine/Regs.lean ====
section
/-!
DEFINITION. The register space: which pages exist and what each is (R99 to R105, Table REG-2), the fields
and reset value of the register at an address, and the page constants of R909.

A register's key is `page * 4096 + offset`. The pages of PF0 BAR0 keep their page index; local page `n` of
function `f` (1 is PF1, `t + 1` is tenant `t`) has page number `0x4000 + 16 * f + n`.
-/

set_option Elab.async false

namespace Sys2Proof.Machine

open Sys2Proof

/-- A register's key in the register file: its page and its 12-bit offset within the page.
Log: entry 9 (DEDUCED). -/
abbrev regKey (page off : Nat) : Nat := page * 4096 + off % 4096

/-- The page number of local page `n` of function `f` (R101). -/
abbrev localPage (f n : Nat) : Nat := 0x4000 + 16 * f + n

/-- Pages of PF0 by name (Table REG-2). An index past the end of a family, which no unit of the block has, folds back into
the family: a page of one family is never taken for another's. -/
def Pg.gbl : Nat := 0x0000
def Pg.wdl : Nat := 0x0010
def Pg.nrg : Nat := 0x0011
def Pg.flt : Nat := 0x0012
def Pg.fltAtt : Nat := 0x0013
def Pg.sec (i : Nat) : Nat := 0x0020 + i % 16
def Pg.cfg (i : Nat) : Nat := 0x0030 + i % 4
def Pg.fls : Nat := 0x0034
def Pg.cpc (i : Nat) : Nat := 0x0040 + i % 16
def Pg.pci (i : Nat) : Nat := 0x0050 + i % 16
/-- Page of LAN instance `i`. Log: entry 9 (DEDUCED). -/
def Pg.lan (i : Nat) : Nat := 0x0100 + i % 256
/-- Page of optical engine `i`. Log: entry 9 (DEDUCED). -/
def Pg.ope (i : Nat) : Nat := 0x0200 + i % 16
def Pg.byp : Nat := 0x0210
def Pg.lwl (i : Nat) : Nat := 0x0220 + i % 32
def Pg.lnp (i : Nat) : Nat := 0x0300 + i % 8
def Pg.msc (i : Nat) : Nat := 0x0308 + i % 8
def Pg.ptp : Nat := 0x0310
/-- Stage Sn of instance `i` (R26). -/
def Pg.stg (i n : Nat) : Nat := 0x0400 + (16 * i + n) % 32
def Pg.cpy : Nat := 0x0420
def Pg.smp : Nat := 0x0421
def Pg.fab (i : Nat) : Nat := 0x0500 + i % 256
/-- Tile pages: matrix tiles 0 to 95, then vector tiles 96 to 127. -/
def Pg.tile (i : Nat) : Nat := 0x0600 + i % 256
def Pg.tnw (i : Nat) : Nat := 0x0700 + i % 128
def Pg.tnp (i : Nat) : Nat := 0x0780 + i % 128
def Pg.cst (i : Nat) : Nat := 0x0800 + i % 256
def Pg.pmp (i : Nat) : Nat := 0x0900 + i % 256
def Pg.dmc (i : Nat) : Nat := 0x0A00 + i % 256
def Pg.ryk (i : Nat) : Nat := 0x0B00 + i % 256
def Pg.clk (i : Nat) : Nat := 0x0C00 + i % 256
def Pg.pwr : Nat := 0x0D00

/-- Table REG-2: first and last page index, class. -/
def pageMap : List (Nat × Nat × Nat) :=
  [(0x0000, 0x0001, 0x0001), (0x0010, 0x0010, 0x0002), (0x0011, 0x0011, 0x0003), (0x0012, 0x0013, 0x0004),
   (0x0020, 0x002F, 0x0005), (0x0030, 0x0033, 0x0006), (0x0034, 0x0034, 0x0007), (0x0040, 0x004F, 0x0008),
   (0x0050, 0x005F, 0x0009), (0x0100, 0x01A3, 0x000A), (0x0200, 0x020F, 0x000B), (0x0210, 0x0210, 0x000C),
   (0x0220, 0x023F, 0x000D), (0x0300, 0x0307, 0x000E), (0x0308, 0x030F, 0x000F), (0x0310, 0x0310, 0x0010)] ++
  [(0x0400, 0x040B, 0x0011), (0x0410, 0x041B, 0x0011), (0x0420, 0x0420, 0x0012), (0x0421, 0x0421, 0x0013),
   (0x0500, 0x053F, 0x0014), (0x0600, 0x065F, 0x0015), (0x0660, 0x067F, 0x0016), (0x0700, 0x077F, 0x0017),
   (0x0780, 0x078F, 0x0018), (0x0800, 0x080F, 0x0019), (0x0900, 0x091F, 0x001A), (0x0A00, 0x0A07, 0x001B),
   (0x0B00, 0x0B3F, 0x001C), (0x0C00, 0x0C0F, 0x001D), (0x0D00, 0x0D00, 0x001E)]

/-- A page of a local BAR, of a function 1 to 61. -/
def isLocal (page : Nat) : Bool := 0x4010 ≤ page && page < 0x4000 + 16 * 62

/-- The function a local page belongs to. -/
def localFn (page : Nat) : Nat := (page - 0x4000) / 16

/-- An assigned page (R103): in Table REG-2 and not one of its reserved slots, or a local page. -/
def assigned (page : Nat) : Bool :=
  pageMap.any (fun r => r.1 ≤ page && page ≤ r.2.1) || isLocal page

/-- The class code of a page (R102). -/
def pageClass (page : Nat) : Nat :=
  if isLocal page then 0x0020
  else match pageMap.find? (fun r => r.1 ≤ page && page ≤ r.2.1) with
    | some r => r.2.2
    | none => 0

/-- The instance of a page (R102; R101 for a local page: 0 is PF1, t is tenant t). -/
def pageInstance (page : Nat) : Nat :=
  if isLocal page then localFn page - 1
  else if pageClass page = 0x0011 then page - 0x0400
  else match pageMap.find? (fun r => r.1 ≤ page && page ≤ r.2.1) with
    | some r => page - r.1
    | none => 0

/-- PAGE_CAP.UNIT: the page governs a unit (R909). -/
def hasUnit (page : Nat) : Bool :=
  assigned page && !isLocal page &&
  !((0x0239 ≤ page && page ≤ 0x023F) || (0x004C ≤ page && page ≤ 0x004F) ||
    (0x0027 ≤ page && page ≤ 0x002F) || (0x0054 ≤ page && page ≤ 0x005F))

/-- The interrupt causes a page implements, as a mask of IRQ_STATUS (each owning chapter's cause table). -/
def causeMask (page : Nat) : Nat :=
  match pageClass page with
  | 0x0002 => 0xFF
  | 0x0003 => 0xF
  | 0x0004 => if page = 0x0012 then 0x3F else 0
  | 0x0005 => if page = 0x0020 then 0x1F else if page = 0x0024 then 1 else 0
  | 0x0006 => if page = 0x0030 then 0xF else if page = 0x0031 then 3 else if page = 0x0032 then 1 else 0
  | 0x0007 => 7
  | 0x0008 => if page = 0x0040 then 0x1F else if 0x0049 ≤ page && page ≤ 0x004B then 1 else 0
  | 0x0009 => if page = 0x0050 then 0x1F else 0
  | 0x000A => if page = 0x0120 then 0x3FF else 0xFF
  | 0x000B => 0xFF
  | 0x000C => 0xF
  | 0x000D => if page = 0x0220 then 0x3F else if page ≤ 0x0238 then 1 else 0
  | 0x000E => 0x3F
  | 0x000F => 0x7F
  | 0x0010 => 3
  | 0x0011 =>
    match page % 16 with
    | 0 => 0x11F | 3 => 0xF1F | 4 => 0x71F | 5 => 0x11F | 6 => 0x11F | 7 => 0x31F
    | 8 => 0xF1F | 9 => 0x71F | 10 => 0x11F | 11 => 0x31F | _ => 0x1F
  | 0x0012 => 7
  | 0x0013 => 7
  | 0x0014 =>
    if page ≤ 0x051F then 0xF else if page = 0x0520 then 1 else if page ≤ 0x0524 then 3
    else if page ≤ 0x053C then 1 else 0
  | 0x0015 => 0x1F
  | 0x0016 => 0x1F
  | 0x0017 => if page = 0x0700 then 0x3F else if page = 0x0701 then 0x5F else 0x1F
  | 0x0018 => 7
  | 0x0019 => 0xF
  | 0x001A => 0xF
  | 0x001B => 0x7F
  | 0x001C => if page = 0x0B00 then 0x7FF else 0xFF
  | 0x001D => 0xFFFF
  | 0x001E => 0x3F
  | _ => 0

/-- PAGE_CAP.RETIRE: Ryuklin lanes (R188), link optical engines (chapter 05), tiles (R446), Ryuklin links
(R678), the Lightwell's lasers (Table LWL-5). -/
def canRetire (page : Nat) : Bool :=
  (0x0221 ≤ page && page ≤ 0x0224) ||
  (0x0120 ≤ page && page ≤ 0x019F) || (0x0208 ≤ page && page ≤ 0x020F) ||
  (0x0600 ≤ page && page ≤ 0x067F) || (0x0B00 ≤ page && page ≤ 0x0B3F)

/-- Does a row hold the offset? One index per stride, outermost first. -/
def dimsHit (d : Nat) : List (Nat × Nat) → Bool
  | [] => d = 0
  | (s, n) :: t => d / s < n && dimsHit (d % s) t

/-- The row of a list that holds an offset. -/
def findRow (rows : List RegRow) (off : Nat) : Option RegRow :=
  rows.find? (fun r => r.off ≤ off && dimsHit (off - r.off) r.dims)

/-- The rows of a page beyond the common header. -/
def blockRows (page : Nat) : List RegRow :=
  if isLocal page then
    let n := (page - 0x4000) % 16
    (localSections.filter (fun e => e.1 ≤ n && n ≤ e.2.1 && (n ≠ 13 || localFn page = 1))).flatMap (fun e => e.2.2)
  else (pageSections.filter (fun e => e.1 ≤ page && page ≤ e.2.1)).flatMap (fun e => e.2.2)

/-- PAGE_CAP.SNAP (R909): a unit's page, or one whose block registers hold an RC field. -/
def hasSnap (page : Nat) : Bool :=
  hasUnit page || (blockRows page).any (fun r => r.fields.any (fun f => f.acc = .rc))

/-- PAGE_CAP.LOCK (R909): the page holds an RWL field. -/
def hasLock (page : Nat) : Bool :=
  (blockRows page).any (fun r => r.fields.any (fun f => f.acc = .rwl))

/-- A header offset that R909 makes reserved on the page. -/
def headerReserved (page off : Nat) : Bool :=
  (!hasUnit page && (off = 0x00C || off = 0x010 || off = 0x014)) ||
  (!hasSnap page && (off = 0x030 || off = 0x034 || off = 0x038))

/-- The fields of the interrupt registers, whose unimplemented bits are reserved (R909). -/
def causeFields (page : Nat) (acc : Acc) : List FieldSpec :=
  ((List.range 16).filter (fun b => (causeMask page >>> b) % 2 = 1)).map (fun b => ⟨b, 1, acc, 0⟩)

/-- A register that exists in part of its class only: CLK pages end at domain 247 (Table CLK-1); a line
engine has no channel blocks 4 to 7 (chapter 05); offsets of one lane use are reserved on pages of the
others (chapter 04); the MSI-X tables of tenants hold 16 vectors (R609). `false` makes the offset reserved. -/
def existsHere (page off : Nat) : Bool :=
  !(isLocal page && page % 16 = 14 && localFn page ≠ 1 && 0x140 ≤ off) &&
  !(pageClass page = 0x001D && 0x100 ≤ off && 247 < 16 * (page - 0x0C00) + (off - 0x100) / 16) &&
  !(pageClass page = 0x000B && page ≤ 0x0207 && 0x180 ≤ off && off < 0x200) &&
  !(pageClass page = 0x000A && (off = 0x068 || off = 0x074) && !(0x0120 ≤ page && page ≤ 0x019F)) &&
  !(pageClass page = 0x000A && (off = 0x080 || off = 0x084) && !(0x01A0 ≤ page && page ≤ 0x01A1))

/-- The page that holds a register of which `page` shows a read-only mirror: the flow table and dispatch
settings and the pair policies of P1 mirror P0's, an odd port's LNP_PAIR its pair's even port's, CST_SPLIT
and the DMC-wide settings those of the first page. -/
def mirrorOf (page off : Nat) : Nat :=
  if page = 0x0413 && 0x100 ≤ off && off ≤ 0x118 then 0x0403
  else if page = 0x0417 && 0x100 ≤ off && off < 0x110 then 0x0407
  else if page = 0x0418 && 0x100 ≤ off && off < 0x120 then 0x0408
  else if pageClass page = 0x000E && off = 0x048 then page - page % 2
  else if pageClass page = 0x0019 && off = 0x040 then 0x0800
  else if pageClass page = 0x001B && (off = 0x048 || off = 0x04C || off = 0x050) then 0x0A00
  else page

/-- Fields of the direction that a Priming macro lacks: they read 0 and ignore writes, and no fault is
recorded (R148). -/
def absentDirection (page off lo : Nat) : Bool :=
  if page = 0x01A2 then
    (off = 0x040 && (lo = 0 || lo = 2)) || off = 0x048 || off = 0x04C || (off = 0x054 && (lo ≤ 3 || lo = 10))
  else if page = 0x01A3 then
    (off = 0x040 && (lo = 1 || lo = 3)) || off = 0x050 || (off = 0x054 && 4 ≤ lo && lo ≤ 7) ||
    off = 0x058 || off = 0x05C || off = 0x060
  else false

/-- A field of a mirror: read-only. -/
def asMirror (fs : List FieldSpec) : List FieldSpec := fs.map (fun f => { f with acc := .ro })

/-- The fields of the register at an offset of a page; `none` where the offset is reserved (R111). -/
def regFields? (page off : Nat) : Option (List FieldSpec) :=
  if !assigned page || off % 4 ≠ 0 then none
  else if off < 0x040 then
    if headerReserved page off then none
    else if off = 0x020 then some (causeFields page .w1c)
    else if off = 0x024 then some (causeFields page .rw)
    else if off = 0x028 then some (causeFields page .wo)
    else (findRow rowsHeader off).map (fun r => r.fields)
  else if !existsHere page off then none
  else
    let fs := (findRow (blockRows page) off).map (fun r => r.fields)
    if mirrorOf page off ≠ page then fs.map asMirror
    else if pageClass page = 0x000B && page ≤ 0x0207 && off = 0x040 then
      fs.map (fun l => l.filter (fun f => f.lo ≠ 2))
    else if page = 0x01A2 || page = 0x01A3 then
      fs.map (fun l => l.map (fun f => if absentDirection page off f.lo then { f with acc := .wo, rst := 0 } else f))
    else fs

/-- The fields of the register at an offset of a page, none where the offset is reserved. -/
def regFields (page off : Nat) : List FieldSpec := (regFields? page off).getD []

/-- PAGE_CAP of a page without its ABSENT bit, which depends on the variant. -/
def pageCap (page : Nat) : Nat :=
  (if hasUnit page then 1 else 0) + (if hasSnap page then 2 else 0) + (if hasLock page then 4 else 0) +
  (if canRetire page then 8 else 0) +
  256 * ((List.range 16).filter (fun b => (causeMask page >>> b) % 2 = 1)).length

/-- The presence word of page indices 32w to 32w + 31 (R105). -/
def presentWord (w : Nat) : Nat :=
  ((List.range 32).filter (fun b => pageMap.any (fun r => r.1 ≤ 32 * w + b && 32 * w + b ≤ r.2.1))).foldl
    (fun a b => a + 2 ^ b) 0

/-- Which edge sides of a router's position face an edge of the 16 x 8 mesh: bit 0 N, 1 E, 2 S, 3 W. -/
def edgeSides (i : Nat) : Nat :=
  (if i / 16 = 0 then 1 else 0) + (if i % 16 = 15 then 2 else 0) + (if i / 16 = 7 then 4 else 0) +
  (if i % 16 = 0 then 8 else 0)

/-- Register values at reset that a register table gives by the page's kind and not as one number. -/
def resetByKind (page off : Nat) : Option Nat :=
  match pageClass page with
  | 0 => none
  | c =>
    if off = 0x000 then some (c * 65536 + pageInstance page)
    else if off = 0x004 then some 0x0100
    else if off = 0x008 then some (pageCap page)
    else match c with
      | 0x0001 => if page = 1 && 0x040 ≤ off && off < 0x840 then some (presentWord ((off - 0x040) / 4)) else none
      | 0x000A =>
        if off = 0x044 then
          some (if page ≤ 0x011F then 0 else if page ≤ 0x019F then 1 else if page ≤ 0x01A1 then 2
                else if page = 0x01A2 then 3 else 4)
        else none
      | 0x000B =>
        if off = 0x044 then some (if page ≤ 0x0207 then 0 else 1)
        else if off = 0x048 then some (if page ≤ 0x0207 then 0x0A else 0xF6)
        else if off = 0x04C then some (if page ≤ 0x0207 then 100 + 65536 * 200 else 158 + 65536 * 316)
        else none
      | 0x0010 =>
        if 0x080 ≤ off && off < 0x0C0 then some (if off % 8 = 0 then 1824 else 384) else none
      | 0x0011 =>
        let n := page % 16
        let cap := if n = 8 then 16384 else if n = 11 then 5120 else 2048
        if off = 0x044 then some (cap * 65536)
        else if off = 0x04C then some (cap * 3 / 4)
        else none
      | 0x0002 => if off = 0x00C then some 1 else none
      | 0x0017 => if off = 0x044 then some (edgeSides (page - 0x0700)) else none
      | _ => none

/-- The reset value of a register: its fields' reset values of the tables, or its page kind's.
Log: entry 2 (DESIGN CHOICE). -/
def regReset (k : Nat) : Word :=
  let page := k / 4096
  let off := k % 4096
  match resetByKind page off with
  | some v => BitVec.ofNat 32 v
  | none => BitVec.ofNat 32 ((regFields page off).foldl (fun a f => a ||| (f.rst <<< f.lo)) 0)

end Sys2Proof.Machine
end

