-- ==== Sys2Proof/Machine/State.lean ====
section
/-!
DEFINITION. The state of the TX964 block as plain data: the registers of every page, the values in force,
and what the chapters of spec/ name beside the registers; the reasons a step can stop; the state after
reset.

Every register stands in one sparse file, `regs`, keyed by page and offset; a register not listed holds
its reset value (`regReset`), so an empty file is the register file of reset.
-/

set_option Elab.async false

namespace Sys2Proof.Machine

open Sys2Proof

/-- Why the block stops with a fault. -/
inductive Fault where
  deriving DecidableEq, Repr

/-- Why a command is refused. -/
inductive Refusal where
  /-- Raised by the dispatch for a command without a meaning. Safe: the machine stops. -/
  | notModelled (mnemonic : String)
  deriving DecidableEq, Repr

/-- The comparator of a mark (R74): loaded count and period, armed or not. -/
structure MarkCmp where
  armed  : Bool
  count  : Nat
  period : Nat
  deriving DecidableEq, Repr

/-- What the Windlass holds beside its page. -/
structure Windlass where
  /-- The line reference clock runs and its PLL is locked (R93, R881). -/
  lrefOk : Bool
  /-- The port whose failure as anchor was recorded last, and the count of its first indicator (R69). -/
  lossAt : Option (Nat × Nat)
  /-- HOLDOVER was entered because the active anchor failed (R67). -/
  anchorFailed : Bool
  /-- A boundary since that failure has found no listed port qualified (R67). -/
  noneListed : Bool
  /-- The count stands still: STOPPED, or FAULT after the loss of the line reference (R62, R93). -/
  stopped : Bool
  /-- Ports in lock: port, count since which it is in lock (R65). -/
  lockSince : FMap Nat
  /-- Recovered rate of a port, 0.001 ppm against nominal, as it was measured last. -/
  portRate : FMap Int
  /-- While slewing: the count since which the rate difference is below 0.05 ppm (R71). -/
  steadySince : Option Nat
  /-- The count at which LOCKED was entered (R70). -/
  lockedAt : Nat
  /-- The anchor's rates at the boundaries of this LOCKED, the last first, 16 at most (R70). -/
  hist : List Int
  /-- The phase absorbed as the reference phase when the anchor was taken (R71), in 1/256 blk. -/
  phaseRef : Int
  /-- Where the anchor's block slots stand, measured from that reference, in 1/256 blk (R61). -/
  slots : Int
  /-- Mark comparators by mark (R74). -/
  marks : FMap MarkCmp
  /-- The count that the last full-count broadcast sent, from which every follower that is not adrift advances (R78). -/
  lastFull : Nat
  /-- Follower domains adrift: they advance on their own estimate until the next good broadcast (R92); with each the full count it
  loaded last. -/
  adrift : FMap Nat
  /-- Follower domains whose last full-count broadcast failed (R92). -/
  badFollowers : List Nat
  deriving DecidableEq, Repr

/-- The Windlass after a cold reset (R95): STOPPED, no port in lock, no mark armed. -/
def Windlass.cold (lref : Bool) : Windlass :=
  ⟨lref, none, false, false, true, [], [], none, 0, [], 0, 0, [], 0, [], []⟩

/-- What has happened to a register in the present clock (R129, R137, R138): its value before, with bits [63:32] of a 64-bit
counter; what this clock's events alone count in it; the bits the hardware has set; a read or a snapshot has cleared it. -/
structure RegAt where
  old     : Nat
  fresh   : Nat
  set     : Word
  cleared : Bool
  deriving DecidableEq, Repr

/-- The registers touched by events in the clock at a count, and the leaky windows that have leaked at it (R186). -/
structure Clock where
  count : Nat
  regs  : FMap RegAt
  leaks : List Nat
  deriving DecidableEq, Repr

/-- Which self-test of a unit runs (R120, R123). -/
inductive TestRun where
  | none | primed | primedPassed | reinstate | reinstatePassed
  deriving DecidableEq, Repr

/-- The bookkeeping of a unit's request beside its header (R120, R126). -/
structure UnitAux where
  target   : Nat
  seq      : Nat
  waited   : Nat
  mismatch : Bool
  test     : TestRun
  deriving DecidableEq, Repr

/-- The configuration space of a PCIe function, as far as the block acts on it (R603, R621, R623). -/
structure FnCfg where
  msixEnable : Bool
  msixMask   : Bool
  deriving DecidableEq, Repr

/-- What a lane's coding holds: the transmit scrambler's last 58 bits (R161) and the generator's last 31 (R168, R183), none before
either has run; valid headers, or commas, in a row while the receiver searches (R162, R164); a bit for each of the last 64 headers
or 16 code groups, 1 where invalid; invalid ones counted in the running error interval (R185); the running disparity (R164). -/
structure Coder where
  scr : Option Nat
  gen : Option Nat
  run : Nat
  win : Nat
  bad : Nat
  disp : Bool
  /-- The PRBS checker: its last 31 bits, error-free bits in a row, its last 64 bits, 1 for an error, and whether it has met an
  error since it locked (R183). -/
  chk : Nat
  good : Nat
  errs : Nat
  hit : Bool
  deriving DecidableEq, Repr

/-- What a serial lane holds beside its page (spec/04). -/
structure Lane where
  /-- REQ_SEQ last applied to the transmitter (R171). -/
  lastSeq : Nat
  /-- STS fields sent for PRE, MAIN and POST, and STS_SEQ (R171, R172). -/
  sts : Nat × Nat × Nat
  stsSeq : Nat
  /-- Own receiver has finished training: RX_READY sent (Table LAN-6). -/
  rxReady : Bool
  /-- RX_READY and REF_OK of the last valid word received (R169). -/
  partnerReady : Bool
  partnerRef : Bool
  /-- Consecutive frames sent, and valid words received, with RX_READY and REF_OK both 1 (R175). -/
  sentReady : Nat
  gotReady : Nat
  /-- Consecutive markers at intervals of 4,096 UI, consecutive markers missing, frame lock (R170). -/
  markers : Nat
  missed : Nat
  frameLock : Bool
  /-- Own requester: REQ_SEQ of its last request, and whether it is outstanding (R173). -/
  reqSeq : Nat
  reqOut : Bool
  /-- Part of a fast retrain reached: 0 training frames, 1 data, 2 test. -/
  phase : Nat
  /-- A wander slip or a loss of block lock fell in the running lane test, and the invalid headers it has met (R176). -/
  testBad : Bool
  testErrs : Nat
  /-- Lane tests after FAST_RETRAIN failed in a row (R187). -/
  fastFails : Nat
  /-- LAN_TEST as applied while READY (R182). -/
  testMode : Nat
  /-- The request of the own requester, bits [35:27] of the word it sends (R173). -/
  req : Nat
  /-- The count at which the lane was last handed to its link (R176, R190). -/
  upAt : Option Nat
  /-- The base page has gone out since a management lane last came FIXED_UP, or since its autonegotiation was turned on (R163). -/
  anSent : Bool
  code : Coder
  deriving DecidableEq, Repr

/-- What an optical channel holds beside its page (R208, R215): lock failures in a row, and its reinstatement,
0 none, 1 written and due at the next boundary, 2 self-test running. -/
structure Chan where
  lockFails : Nat
  reinstate : Nat
  deriving DecidableEq, Repr

/-- The levels at the block's contacts and the conditions of its power and reset. -/
structure Pins where
  /-- Island power-good. -/
  island : Bool
  /-- MAIN_PG is high. -/
  mainPg : Bool
  /-- RESET_N is high. -/
  resetN : Bool
  /-- BYP_FORCE_N is high. -/
  forceN : Bool
  /-- ZEROIZE_N is high. -/
  zeroizeN : Bool
  /-- PERST# is high (deasserted). -/
  perstN : Bool
  /-- Level the firmware's kicks give HB_OUT (R803). -/
  hbOut : Bool
  /-- The internal heartbeat is lost (Table BYP-2). -/
  hbLost : Bool
  /-- The main-domain reset is asserted. -/
  mainReset : Bool
  deriving DecidableEq, Repr

/-- What the safe state holds beside the SAFE registers. -/
structure Safe where
  /-- Turn boundaries counted since power-on; unlike the count it never jumps. -/
  ticks : Nat
  /-- `ticks` of the entries within the last 24,000 turns (R812). -/
  entries : List Nat
  /-- `ticks` of the last trigger (R806). -/
  trigTick : Nat
  /-- The restart must be cold whatever the cause (R807, R860). -/
  cold : Bool
  /-- The first cold load since the release of the reset has reached DONE (R860). -/
  loaded : Bool
  /-- STG, LNP and MSC units that were ACTIVE at the trigger (R809). -/
  resume : List Nat
  /-- Microseconds from M as the reset's own reference last showed them (R856). -/
  sinceM : Nat
  deriving DecidableEq, Repr

/-- What S2 finds in a frame (R287, R288, R910, R263). -/
structure Parse where
  /-- The nine flags of R910. -/
  flags : Nat
  /-- Outer VLAN tag control word, where the frame has one. -/
  vlan : Option Nat
  /-- IP version of the header recognised, 0 none, and where it starts. -/
  l3 : Nat
  l3off : Nat
  src : Nat
  dst : Nat
  proto : Nat
  ttl : Nat
  dscp : Nat
  /-- An L4 result exists: a TCP, UDP, ICMP or ICMPv6 header. -/
  l4 : Bool
  sport : Nat
  dport : Nat
  tcpFlags : Nat
  seq : Nat
  window : Nat
  /-- Offset and length of the L4 payload. -/
  pay : Nat
  payLen : Nat
  /-- Offset of an event message's PTP header, and of its UDP header where it has one (R263). -/
  ptp : Option Nat
  udp : Option Nat
  deriving DecidableEq, Repr

/-- A flow record (Table STG-3). -/
structure FlowRec where
  key : Nat
  valid : Bool
  creator : Nat
  closed : Bool
  /-- TCP state, A→B and B→A. -/
  tcp : Nat × Nat
  gen : Nat
  frames : Nat × Nat
  octets : Nat × Nat
  first : Nat
  last : Nat
  counts : Nat × Nat
  next : Nat × Nat
  isn : Nat
  /-- The reassembly handle (S4). -/
  reasm : Nat
  /-- Bytes 0x64 to 0x6F, S5's carve state as a number. -/
  carve : Nat
  /-- The 16 annotation bytes. -/
  annot : List Nat
  deriving DecidableEq, Repr

/-- A record in the flow-state cache; `slot` is its place in the DDR table, none for a cache-only record (R323). -/
structure CacheEntry where
  body : FlowRec
  slot : Option Nat
  dirty : Bool
  used : Nat
  deriving DecidableEq, Repr

/-- A pending miss (R291): the key, the frames that wait in order, when the read was issued. -/
structure Miss where
  key : Nat
  hash : Nat
  frames : List Nat
  since : Nat
  deriving DecidableEq, Repr

/-- A content window with its header (R303, R304, R309). `reason` is that of the close in the order of R304. -/
structure Window where
  handle : Nat
  dir : Nat
  obj : Nat
  type : Nat
  index : Nat
  len : Nat
  bytes : List Nat
  last : Bool
  reason : Nat
  conflict : Bool
  gapBefore : Bool
  midstream : Bool
  /-- Size of the window slot it holds, 0 where it holds none. -/
  slot : Nat
  deriving DecidableEq, Repr

/-- An open object (R303), with W, OBJ_MAX_WIN and MAX_KB as it opened (R320). -/
structure Obj where
  id : Nat
  type : Nat
  sig : Nat
  start : Nat
  w : Nat
  maxWin : Nat
  maxKb : Nat
  index : Nat
  fill : Nat
  buf : List Nat
  dropping : Bool
  deriving DecidableEq, Repr

/-- One direction of a TCP stream (R297 to R301) with its carving (R302 to R304). Offsets are counted without
wrap; `held` maps an offset to its byte and the turn in which it arrived. -/
structure Strm where
  inst : Nat
  isn : Nat
  next : Nat
  mid : Bool
  ended : Bool
  fin : Option Nat
  held : FMap (Nat × Nat)
  conflict : Bool
  gapBefore : Bool
  /-- The last delivered bytes, at most 11, not yet a whole pattern. -/
  tail : List Nat
  obj : Option Obj
  deriving DecidableEq, Repr

/-- What S4 delivers to S5. -/
inductive Delivery where
  | data (off : Nat) (bytes : List Nat)
  | gap
  | finish
  deriving DecidableEq, Repr

/-- A frame's descriptor and bytes (Table STG-1), and what S7 to S9 add to it. -/
structure Frame where
  inst : Nat
  port : Nat
  pseq : Nat
  stamp : Nat
  /-- Transparent-clock ingress timestamp, 2^-16 ns. -/
  ti : Nat
  /-- The frame from its destination address to the byte before its FCS. -/
  bytes : List Nat
  len : Nat
  /-- Cells taken from the port's reserve and from the pool (R282). -/
  cells : Nat × Nat
  /-- Primary, copies and captures that still hold the cells (R344). -/
  holds : Nat
  /-- The stage that has the frame; 12 the Sump. -/
  stage : Nat
  holdBudget : Nat
  unscoredPol : Nat
  group : Nat
  copyWhen : Nat
  tap : Bool
  /-- An EAPOL frame of R257. -/
  uncontrolled : Bool
  parse : Parse
  handle : Option Nat
  snap : FlowRec
  iat : Nat × Nat
  /-- STREAM, set by S4: the stream offset of the payload's first byte, the gap and the midstream flag. -/
  stream : Option (Nat × Bool × Bool)
  /-- What S4 delivers with it, and for data delivered before a change of S5's settings those of then (R320). -/
  deliv : List (Delivery × Option (FMap Word))
  /-- Bytes S4 held in the frame's direction as it left S4; the type of the object open as it left S5 (R308). -/
  held : Nat
  objType : Nat
  windows : List Window
  /-- Feature bank of the frame (R307) and the flow vector of S6. -/
  bank : Nat
  vec : List Int
  /-- A tap with a scoring consumer accepted an offer of the frame (R331). -/
  offered : Bool
  /-- Required counts and arrivals by tier (R331, R335). -/
  need : List Nat
  got : List Nat
  /-- The joined verdict, with the score and tag of the record that set it; `any` once a record has joined. -/
  verdict : Nat
  score : Nat
  tag : Nat
  any : Bool
  copy : Bool
  void : Bool
  joined : Bool
  unscored : Bool
  /-- The policy's DROP is the highest (R337). -/
  policyDrop : Bool
  /-- The count and the tap of the fabric's record that set the verdict (R381). -/
  setter : Option (Nat × Nat)
  /-- Where records have completed the join: the count, with verdict, score and tag as those records left them (R358). -/
  base : Option (Nat × Nat × Nat × Nat)
  /-- The count at which S8 released the frame (R339). -/
  released : Option Nat
  /-- S9 waits for an FT4 reply (R340). -/
  waitFt4 : Bool
  /-- Masks of the copies asked for, delivered and still open (R348). -/
  asked : Nat
  delivered : Nat
  opened : Nat
  deriving DecidableEq, Repr

/-- What an item in S10, S11 or on its way to a destination is. -/
inductive ItemKind where
  | primary
  | copy (d : Nat)
  | injected (index cookie : Nat)
  deriving DecidableEq, Repr

/-- A frame or copy on its way out. `deadline` is the hold deadline of a primary, the copy's own of a copy. -/
structure Item where
  frame : Nat
  kind : ItemKind
  port : Nat
  bytes : List Nat
  len : Nat
  deadline : Nat
  /-- The PTP correction of S10 has fixed the instant (R265). -/
  fixed : Bool
  deriving DecidableEq, Repr

/-- A copy for a host ring or a Ryuklin peer that its destination has not accepted yet (R346). -/
structure OutCopy where
  frame : Nat
  dest : Nat
  host : Bool
  target : Nat
  bytes : List Nat
  deadline : Nat
  deriving DecidableEq, Repr

/-- A diverted primary waiting for its ring (R343, R257). -/
structure Divert where
  frame : Nat
  ring : Nat
  eapol : Bool
  deadline : Nat
  deriving DecidableEq, Repr

/-- A Sump capture waiting for its ring (R351). -/
structure Capture where
  frame : Option Nat
  reason : Nat
  stamp : Nat
  inst : Nat
  port : Nat
  pseq : Nat
  bytes : List Nat
  deadline : Nat
  deriving DecidableEq, Repr

/-- A tap record of 1 to 6 beats of 512 bits (R379). -/
structure TapRecord where
  beats : List Nat
  deriving DecidableEq, Repr

/-- What S0 latches for the frames of a pair (R28, R250): HOLD_BUDGET, UNSCORED, COPY_GROUP, COPY_WHEN, TAP mode. -/
structure Latched where
  hold : Nat
  unscored : Nat
  group : Nat
  copyWhen : Nat
  tap : Bool
  deriving DecidableEq, Repr

/-- The pipeline P0 and P1 beside its pages. -/
structure Pipeline where
  frames : FMap Frame
  /-- Name of the next frame. -/
  nextId : Nat
  /-- Next arrival sequence by port. -/
  pseq : FMap Nat
  /-- Input queues of S1 to S10 by 16 * instance + stage; S0 and S8 hold what waits in them. -/
  queues : FMap (List Nat)
  /-- Frames a stage has finished and its successor has not accepted, with the count since which (R285). -/
  ready : FMap (List (Nat × Nat))
  /-- Items in S10's queue by instance. -/
  sealQs : FMap (List Item)
  /-- Items S9 or S10 has finished and its successor has not accepted, by 16 * instance + stage. -/
  itemWait : FMap (List (Item × Nat))
  /-- S11's primary and copy queues by port (R354). -/
  primaries : FMap (List Item)
  copies : FMap (List Item)
  outCopies : List OutCopy
  diverts : List Divert
  captures : List Capture
  /-- Captures taken in this turn (R351). -/
  captured : Nat
  cache : FMap CacheEntry
  /-- Rises at each use of the cache, for the least recently used way. -/
  useSeq : Nat
  misses : List Miss
  /-- First bucket of this turn's sweep (R296). -/
  sweep : Nat
  /-- Streams by 2 * handle + direction. -/
  streams : FMap Strm
  /-- Next object identifier by instance, and windows no frame has taken on yet. -/
  objId : FMap Nat
  spill : FMap (List Window)
  /-- Window-store bytes in use by instance. -/
  winUsed : FMap Nat
  /-- Corrected errors of a store item, by item key: the ticks of the last 24,000 turns (R322). -/
  eccTicks : FMap (List Nat)
  /-- Retired store items. -/
  dead : List Nat
  /-- Tap FIFOs by 2 * tap + instance (R378). -/
  taps : FMap (List TapRecord)
  /-- The values to be latched that were in force until the last turn boundary, by pair (R46). -/
  ended : FMap Latched
  /-- Counts at which P1 last sent items to the tiers, and last looked a flow up (R35, R43). -/
  sentP1 : Option Nat
  lookedP1 : Option Nat
  /-- The count at which the sweeper or an annotation last reached a record (R314, R316). -/
  reachedAt : Option Nat
  deriving DecidableEq, Repr

/-- A pipeline without frames. -/
def Pipeline.empty : Pipeline :=
  ⟨[], 0, [], [], [], [], [], [], [], [], [], [], 0, [], 0, [], 0, [], [], [], [], [], [], [], [], none, none, none⟩

/-- What a line port and its SecY hold beside their pages. -/
structure PortAux where
  /-- Held by propagation (R249), and the count since which. -/
  held : Bool
  heldAt : Nat
  /-- The count at which the port last gained link. -/
  linkAt : Nat
  /-- XPN in force (R260). -/
  xpn : Bool
  /-- Transmit ANs whose next PN has reached MSC_PN_THR, with PN_THR raised (R261). -/
  thr : List Nat
  deriving DecidableEq, Repr

/-- A frame of the transaction layer (Table RYK-3) with its payload bytes. -/
structure RFrame where
  dest : Nat
  src : Nat
  type : Nat
  gen : Nat
  tag : Nat
  status : Nat
  hops : Nat
  payload : List Nat
  deriving DecidableEq, Repr

/-- A frame that waits for a link: its class so far, the link it arrived on, how many other frames have started
on its link since it waits (R652); `via` is the link of a message meant for one neighbour (R701). -/
structure ROut where
  frame : RFrame
  cls : Nat
  src : Option Nat
  passed : Nat
  via : Option Nat
  deriving DecidableEq, Repr

/-- What a Ryuklin link holds beside its page (spec/16). -/
structure RLink where
  /-- Chip and link of the partner last accepted (R649). -/
  seen : Option (Nat × Nat)
  /-- Expected receive SEQ (R646). -/
  expSeq : Nat
  /-- The link's reference, in 10 ns, as last read (R15). -/
  time : Nat
  /-- Its reading at the last NAK, none once a frame has been accepted since (R647). -/
  nakAt : Option Nat
  /-- Unacknowledged frames with SEQ, VC and class, oldest first. -/
  replay : List (Nat × Nat × Nat × RFrame)
  /-- The count of the last acknowledgement, replay start or first unacknowledged frame (R648). -/
  ackAt : Nat
  /-- The reference's readings at the replay starts of the last 50 µs (R649). -/
  starts : List Nat
  /-- The INIT to be sent carries FRESH (R650). -/
  fresh : Bool
  /-- Discarding blocks until the next matching ALIGN pair (R643), and a replay due after it (R673). -/
  realign : Bool
  replayDue : Bool
  /-- Matching ALIGN pairs met in ALIGNING or RETRAINING. -/
  pairs : Nat
  /-- A re-widening pass (R654). -/
  widening : Bool
  /-- The count at which a first lane came UP, and at which the second lane of a narrow link did (R654). -/
  firstUp : Option Nat
  secondUp : Option Nat
  /-- The count at entry to RETRAINING. -/
  since : Nat
  /-- The lane of a wide link that carries the next block of its stream (R641), and the ALIGN_SEQ last sent (R643). -/
  next : Nat
  alignSeq : Nat
  deriving DecidableEq, Repr

/-- An outstanding tier 3 request (R660 to R664): the item it answers for, the chip it went to, its first-hop link,
and the blocks its timer has run, to `since` while it runs. -/
structure T3Req where
  inst : Nat
  port : Nat
  pseq : Nat
  dest : Nat
  gen : Nat
  /-- The item's join deadline, from which the budget is taken at sending. -/
  deadline : Nat
  hop : Option Nat
  ran : Nat
  since : Nat
  deriving DecidableEq, Repr

/-- The Ryuklin network of the chip. -/
structure Ryk where
  links : FMap RLink
  /-- Frames not yet granted a link, in arrival order. -/
  outq : List ROut
  /-- Frames for this chip, with count of arrival and the link they came on, not yet consumed. -/
  inbox : List (Nat × Option Nat × RFrame)
  tags : FMap T3Req
  /-- GEN of the next use of a tag, where it is not 0. -/
  gens : FMap Nat
  /-- Requests of other chips this chip serves, by serving number: the chip that asks, GEN and TAG (R665). -/
  served : FMap (Nat × Nat × Nat)
  /-- Offsets of the Ryuklin reference against LREF measured at the boundaries while LOCKED, newest first, as far back as R197
learns, in 0.001 ppm. -/
  offsets : List Int
  deriving DecidableEq, Repr

/-- What the host interface holds beside its pages (spec/15). -/
structure HostSide where
  /-- Last message of a slot, and whether one waits for its HOLDOFF, by 16 * function + slot; context slots 0 to 7,
  delivery slots 8 to 11 (R622). -/
  slotIrq : FMap (Nat × Bool)
  /-- Injection descriptors taken and not complete, and those complete ahead of IJ_HEAD (R620). -/
  injTaken : List Nat
  injDone : List Nat
  /-- Count of the last injection of a port. -/
  injAt : FMap Nat
  /-- The count at which a delivery ring last took an item (R631). -/
  acceptAt : Option Nat
  deriving DecidableEq, Repr

/-- A window in the Lightwell's input ring (R490): the frame it belongs to, its join deadline, a T2_LITE window
(R578), a remote window (R665), whose `pseq` is then its serving number. -/
structure RingSlot where
  index : Nat
  inst : Nat
  port : Nat
  pseq : Nat
  deadline : Nat
  lite : Bool
  remote : Bool
  window : Window
  deriving DecidableEq, Repr

/-- An epoch's table (R504): number, gains, offsets, IN_RES, OUT_RES, bank. -/
structure Epoch where
  num : Nat
  gains : List Nat
  offsets : List Nat
  inRes : Nat
  outRes : Nat
  bank : Nat
  deriving DecidableEq, Repr

/-- What the Lightwell holds beside its pages (spec/12). -/
structure Lwl where
  /-- Table space by word address: bank tables and crosstalk coefficients (Table LWL-9). -/
  table : FMap Word
  /-- Which draw gave the heaters' measured zero phases and slopes, and the first offsets and gains (R519). -/
  measured : Option Nat
  ring : List RingSlot
  /-- Next ring slot. -/
  nextSlot : Nat
  /-- The mesh is held until this count: a projection, with its window, or a calibration step. -/
  until' : Nat
  projecting : Option RingSlot
  /-- Next step of the cycle, 0 DARK, 1 to 8 PROBE 0 to 7; steps run in this turn (R500, R501). -/
  step : Nat
  steps : Nat
  /-- Offsets of the cycle's DARK step, in 2^-8 codes; largest RESID so far; PROBE steps above FAIL_THR in a row; the last
  full cycle stayed at or below DRIFT_THR. -/
  dark : List Nat
  /-- Gains of the last full cycle, in 2^-8 codes per unit (R503). -/
  gains : List Nat
  worst : Nat
  bad : Nat
  good : Bool
  trims : FMap Int
  /-- Count of the last move of a heater's trim (R502). -/
  trimmed : FMap Nat
  drives : FMap Nat
  /-- Blocks a consumer holds, and the landing slot it takes next (R494). -/
  held : FMap Nat
  landing : FMap Nat
  lastTile : Nat
  stale : List Nat
  /-- WR_ACKs a stale consumer owes for its rewritten slots (R506). -/
  rewriting : FMap Nat
  /-- The epoch in force, that being written with the consumers yet to acknowledge, the one due. -/
  epoch : Option Epoch
  writing : Option (Epoch × List Nat)
  due : Option Epoch
  /-- Live tables by slot, and the turn of the last block tagged with a slot's epoch (R505). -/
  slots : FMap Epoch
  tagged : FMap Nat
  /-- Count at which LWL_SETTLE has elapsed; the new bank's first epoch is published (R497). -/
  settle : Nat
  first : Bool
  /-- Items being reinstated, by key, and whether the self-test has begun (R516). -/
  tests : FMap Bool
  /-- Items usable from the next boundary. -/
  passed : List Nat
  /-- Crosstalk coefficients in force, by word address, and those written past the commit cut-off with the value before (R499). -/
  xtForce : FMap Word
  xtLate : FMap Word
  /-- Steps still to run of a cycle that a new master forces (Table LWL-5). -/
  owed : Nat
  deriving DecidableEq, Repr

/-- The PCIe endpoint beside its pages (R602 to R607, R623 to R627, R637). -/
structure Pcie where
  /-- The LTSSM is in Recovery. -/
  recovery : Bool
  /-- Every TLP is answered Unsupported Request (R637). -/
  dead : Bool
  /-- A CFG_READY write waits for PERST# to deassert (R852). -/
  cfgPending : Bool
  /-- ARI Capable Hierarchy, VF Enable, NumVFs, TotalVFs of PF1 (R603, R606). -/
  ari : Bool
  vfEnable : Bool
  numVfs : Nat
  totalVfs : Nat
  /-- Completion Timeout Value, Max Read Request Size in B. -/
  ctoValue : Nat
  readSize : Nat
  /-- CS_HEAD as last passed through, by local page (R906). -/
  heads : FMap Word
  /-- The function whose Bus Master Enable cleared last, and the count then (R629). -/
  bmeAt : Option (Nat × Nat)
  deriving DecidableEq, Repr

/-- What the energy ledger and the PWR unit hold beside their pages (spec/14). -/
structure Energy where
  /-- Remainders of the guaranteed shares of pairs 0 to 3 and of the common pool, in lu (R580). -/
  shares : List Nat
  common : Nat
  /-- Charges of this turn, in lu. -/
  charged : Nat
  /-- Accounted energy of the open window, in lu, its turns so far, and the totals of its poll cycles (R573). -/
  accLu : Nat
  winTurns : Nat
  cycles : List Nat
  /-- PM_PERIOD as last in force; the turn of the last window close. -/
  period : Nat
  closed : Nat
  /-- A poll cycle has completed since reset (R600). -/
  polled : Bool
  /-- NRG_ACCT and PM_ENERGY as latched (R573). -/
  acct : Nat
  energy : Nat
  /-- The last write of NRG_CAP was clamped to the floor (R568). -/
  clampWr : Bool
  /-- A sensor has read at or above THROTTLE; the count since which every sensor reads at or below RELEASE (R587). -/
  hot : Bool
  coolSince : Option Nat
  /-- Class of a tier 2 item this turn (R578). -/
  t2Class : Option Nat
  /-- The regulator entries below it have been polled in the open cycle (R572). -/
  pollAt : Nat
  /-- The turn of the last reading of MFR_POUT_MAX (R571). -/
  maxTurn : Option Nat
  /-- The count at which an inbound item was last evaluated (R579). -/
  inAt : Option Nat
  /-- An entry was STALE in the open window, and in the one last closed (R585). -/
  staleOpen : Bool
  staleClosed : Bool
  deriving DecidableEq, Repr

/-- A packet of the tile network (Table TNW-3): header fields, the head flit's inline payload and the data flits as
bytes. `poison` is the sideband bit of any flit, `missed` says that GTS_MISS has counted it at this router, `since`
is the count at which it became the head of its queue. -/
structure Packet where
  dest : Nat
  src : Nat
  type : Nat
  len : Nat
  tag : Nat
  inj : Nat
  addr : Nat
  aux : Nat
  inline : List Nat
  data : List Nat
  poison : Bool
  missed : Bool
  since : Nat
  deriving DecidableEq, Repr

/-- The tile network beside its pages. -/
structure Net where
  /-- Input queues by (router * 5 + input) * 4 + VC; inputs 0 N, 1 E, 2 S, 3 W, 4 L (R416). -/
  queues : FMap (List Packet)
  /-- Packets a client or tile has yet to inject, by (router * 5 + input) * 4 + VC. -/
  client : FMap (List Packet)
  /-- What the bridge before an input holds, by (router * 5 + input) * 4 + VC (R427). -/
  bridge : FMap (List Packet)
  /-- Packets delivered to an edge node's client and not yet consumed, by node. -/
  edge : FMap (List Packet)
  /-- Input served last, by (router * 5 + output) * 4 + VC (R420). -/
  last : FMap Nat
  /-- RSP and CTL packets that passed an output while a REQ head waits, by router * 5 + output (R420). -/
  passed : FMap Nat
  deriving DecidableEq, Repr

/-- An operation of a tile: its program slot, the batch turn it belongs to, its start count, the weight bank in force
when it began; what its program declares (Table MTL-1). -/
structure TileOp where
  slot : Nat
  batch : Option Nat
  start : Nat
  bank : Nat
  /-- Its number in the program's run, and its bound in blk. -/
  index : Nat
  bound : Nat
  /-- Limit on outstanding requests, and landing space in flits. -/
  limit : Nat
  landing : Nat
  /-- Status the operation must end with: POISON or NODE_DOWN of a packet it consumed (R445, R524). -/
  spoiled : Option Nat
  deriving DecidableEq, Repr

/-- What a tile holds beside its page (R408 to R412). -/
structure Tile where
  store : FMap (BitVec 8)
  /-- Weight buffers and accumulator file of a matrix tile, as bytes; the buffers stand 8 KiB apart. -/
  weights : FMap (BitVec 8)
  acc : FMap (BitVec 8)
  op : Option TileOp
  /-- Triggers that wait for the sequencer: slot and batch turn. -/
  queue : List (Nat × Option Nat)
  /-- Known-answer mismatches in a row, and the turn of the last check (R446). -/
  streak : Nat
  checked : Nat
  /-- Requests without their response: destination, TAG, landing space reserved in flits (R419). -/
  reqs : List (Nat × Nat × Nat)
  deriving DecidableEq, Repr

/-- A tile at rest: nothing in its store, no operation. -/
def Tile.none : Tile := ⟨[], [], [], Option.none, [], 0, 0, []⟩

/-- The batch controller and the score port (R429 to R434). -/
structure Batches where
  /-- Items of this turn in arrival order: instance, port, PSEQ. -/
  items : List (Nat × Nat × Nat)
  /-- Layout in force: BATCH_BASE and BATCH_SLOTS (R431). -/
  base : Nat
  slots : Nat
  /-- The batch that runs: its turn, its placement, its items not yet scored. -/
  run : Option (Nat × Nat × List (Nat × Nat × Nat))
  deriving DecidableEq, Repr

/-- A cached object line (R526): tag, bytes, poison, use. -/
structure CLine where
  tag : Nat
  bytes : List Nat
  poison : Bool
  used : Nat
  deriving DecidableEq, Repr

/-- A pending fill (R527): tag, requests attached in order, and whether its line is still to be installed (R557). -/
structure Fill where
  tag : Nat
  reqs : List Packet
  keep : Bool
  /-- The DDR address of the line as the object table gave it (R557). -/
  addr : Nat
  deriving DecidableEq, Repr

/-- What a Cistern bank holds beside its page. -/
structure Bank where
  lines : List CLine
  fills : List Fill
  /-- Direct reads and writes not yet counted as a thousand lines. -/
  reads : Nat
  writes : Nat
  deriving DecidableEq, Repr

/-- What a DDR5 channel holds beside its page (R539 to R542). -/
structure Chan5 where
  /-- Tracking table: row unit and its leaky count of corrected errors, most recently hit first (R186, R541). -/
  track : FMap Nat
  /-- Write-backs of the present turn: count, row unit, line, and whether the patrol made it (R558). -/
  mended : List (Nat × Nat × Nat × Bool)
  /-- Row units being copied or waiting for the copy, oldest first (R559). -/
  copying : List Nat
  /-- Row units mapped to a spare. -/
  mapped : List Nat
  /-- Bank groups whose soft repair is used. -/
  softUsed : List Nat
  /-- Row units named for hPPR while PRIMED (R542). -/
  hard : List Nat
  /-- Next row unit of the patrol, and the turn whose patrol read is done (R539). -/
  patrol : Nat
  scrubbed : Option Nat
  /-- Count of the last command or address parity error (R562). -/
  parityAt : Option Nat
  /-- Commands issue at half rate (R563). -/
  half : Bool
  deriving DecidableEq, Repr

/-- The Cistern and the DDR5 subsystem. -/
structure Memory where
  /-- STAGE in force (R565). -/
  stage : Nat
  /-- Direct space by byte address; what is not listed reads 0. -/
  direct : FMap (BitVec 8)
  /-- 64 B lines of direct space and of DDR5 that read poison. -/
  badDirect : List Nat
  badDdr : List Nat
  /-- Object table: words 0 and 1 by 4096 * WB + object (R525). -/
  objects : FMap (Nat × Nat)
  banks : FMap Bank
  /-- Rises at each use of a cached line. -/
  useSeq : Nat
  chans : FMap Chan5
  deriving DecidableEq, Repr

/-- A descriptor in progress (R546 to R549). -/
structure Desc where
  index : Nat
  src : Nat
  dst : Nat
  len : Nat
  op : Nat
  irq : Bool
  srcSpace : Nat
  dstSpace : Nat
  cookie : Nat
  /-- Bytes whose reads have been issued, and bytes moved. -/
  issued : Nat
  moved : Nat
  /-- Reads outstanding on PCIe. -/
  reads : Nat
  /-- Blocks its oldest chunk has waited, to `since` while the timer runs (R551, R627). -/
  ran : Nat
  since : Nat
  /-- Status it ends with, once an error has set it. -/
  ended : Option Nat
  /-- A ping-pong execution (R552). -/
  pp : Bool
  deriving DecidableEq, Repr

/-- A ring context beside its registers: next index to start, descriptors in progress in ring order, a ping-pong
execution due since a boundary with its turn, the round's count of chunks taken. -/
structure Ctx where
  next : Nat
  work : List Desc
  due : Option Nat
  took : Nat
  deriving DecidableEq, Repr

/-- An entry of the read tag pool (R623): owner function and its generation at issue, ORPHAN, the Pump context and
descriptor that asked, destination offset within the descriptor and length, reissues so far. -/
structure TagEntry where
  fn : Nat
  gen : Nat
  orphan : Bool
  pump : Nat
  ctx : Nat
  index : Nat
  off : Nat
  len : Nat
  retries : Nat
  deriving DecidableEq, Repr

/-- The Pumps and the read tag pool. -/
structure Pumps where
  /-- Ring contexts by 8 * pump + r. -/
  ctxs : FMap Ctx
  /-- Context whose round it is, by pump. -/
  round : FMap Nat
  tags : FMap TagEntry
  deriving DecidableEq, Repr

/-- A challenge nonce (R786): its 48 bytes, purpose, key index. -/
structure Nonce where
  bytes : List Nat
  purpose : Nat
  index : Nat
  deriving DecidableEq, Repr

/-- A section the module has opened (R775): key, IV, header, chunks left, the digest held, ciphertext so far. -/
structure OpenSection where
  key : Nat
  iv : Nat
  header : List Nat
  left : Nat
  digest : List Nat
  cipher : List Nat
  deriving DecidableEq, Repr

/-- A request of the module held while its tests run (R784): its opcode, its bytes, and the further operand of its command:
whether the fuses read back (PROVISION_IK, REVOKE) as one byte or none, the GCM tag (IMAGE_CHUNK). -/
structure HeldReq where
  opcode : Nat
  who    : Requester
  req    : List (BitVec 8)
  extra  : List (BitVec 8)
  deriving DecidableEq, Repr

/-- What the cryptographic module holds beside its pages (Tables SEC-5 and SEC-6). Requesters are numbered 0 controller,
1 firmware, 2 PF0, 3 JTAG. -/
structure Sec where
  /-- Fuses: PUF helper data, DKEK wrapped under PUFK, the IKs wrapped under DKEK, public-key hashes by 2 * index +
  algorithm, where indexes 0 to 3 are image signing, 4 and 5 CO, 6 and 7 debug, and algorithm 0 is ECDSA; ROM digest. -/
  helper : List Nat
  dkekFuse : List Nat
  ikFuse : FMap (List Nat)
  hashes : FMap (List Nat)
  romDigest : List Nat
  /-- Keys in the island. -/
  pufk : Option Nat
  dkek : Option Nat
  stks : FMap Nat
  /-- The DRBG is instantiated. -/
  drbg : Bool
  /-- Nonces outstanding by requester, and nonces a newer challenge has replaced (R792). -/
  nonces : FMap Nonce
  stale : FMap Nonce
  /-- Requesters with a CO session. -/
  sessions : List Nat
  /-- Debug has been at level 2 since the last island reset (R772). -/
  wasLevel2 : Bool
  /-- The requester and opcode whose service ends with the tests that run. -/
  testFor : Option (Nat × Nat)
  /-- Sections open, by requester. -/
  sections : FMap OpenSection
  /-- The queue of requests held while the module's tests run, by requester (R784, R797). -/
  held : FMap HeldReq
  deriving DecidableEq, Repr

/-- A flash command taken (Table FLS-3): 1 READ, 2 PROGRAM, 3 ERASE; address, length, page buffer at its start. -/
structure FlashOp where
  op : Nat
  addr : Nat
  len : Nat
  data : List Nat
  deriving DecidableEq, Repr

/-- The flash and its controller beside the FLS page. -/
structure Flash where
  /-- Flash by byte address; what is not listed reads 0xFF. -/
  mem : FMap (BitVec 8)
  /-- Sectors whose BEGIN has no later DONE (R756), in journal order. -/
  begun : List Nat
  /-- Sequence number of the next journal entry. -/
  seq : Nat
  /-- Sector whose erase runs or is suspended; the access that runs; commands that wait, oldest first. -/
  erase : Option Nat
  op : Option FlashOp
  waiting : List FlashOp
  deriving DecidableEq, Repr

/-- The section the configuration controller executes (R729 to R741). -/
structure LoadSection where
  index : Nat
  kind : Nat
  /-- Where its bytes start in its source, and where the next chunk does within it. -/
  addr : Nat
  next : Nat
  len : Nat
  header : List Nat
  /-- Verified plaintext not yet executed, and the offset of its first byte. -/
  plain : List Nat
  off : Nat
  /-- PF0 pages its WRITE_REG commands have written, and whether it has written frames. -/
  pages : List Nat
  frames : Bool
  deriving DecidableEq, Repr

/-- The configuration controller beside the CFG pages. -/
structure Load where
  /-- Source: 0 none, 1 flash slot, 2 warm replay, 3 partial reload, 4 Priming chain. -/
  src : Nat
  /-- Slots tried since the restart. -/
  tried : List Nat
  /-- Sections still to execute: index, address, length. -/
  todo : List (Nat × Nat × Nat)
  sect : Option LoadSection
  far : Nat
  /-- Boundaries a WAIT_TURNS still waits; page, state and boundaries of a POLL_STATE (R735). -/
  wait : Option Nat
  poll : Option (Nat × Nat × Nat)
  /-- Turns that HOLD_FW still waits (R743). -/
  holdFor : Nat
  /-- Configuration frames by frame address, and addresses written since a region last left ACTIVE (R740). -/
  frames : FMap (List Nat)
  fresh : FMap (List Nat)
  /-- Pages whose configuration has been loaded. -/
  configured : List Nat
  /-- Sections to be sent down the chain: tag, address, length. -/
  others : List (Nat × Nat × Nat)
  /-- STREAM of the last pass sent, resends made (R750). -/
  stream : Nat
  resends : Nat
  /-- A member's section byte stream, from its first section not yet complete, and whether END has come. -/
  buf : List Nat
  ended : Bool
  /-- Sections of this load completed. -/
  done : Nat
  deriving DecidableEq, Repr

/-- What the fabric holds beside its pages: FCG_CTL as applied, by FCG (R375); the image declares a consumer at the
user register port (R384). Cells and block RAM stand as the frames of `Load` configure them, 512 of them a region's block RAM
(R737); what the customer's circuit makes of them is the circuit's. Log: entry 146 (DEDUCED). -/
structure Fabric where
  fcg : FMap Nat
  ureg : Bool
  /-- The scrub period in which a region's frames were last read to the end, counted from 1, by region (R395). -/
  scrubs : FMap Nat
  deriving DecidableEq, Repr

/-- A driver's negotiation (R691, R692): supported and required bitmaps, interface major and minor. -/
structure Negotiation where
  supported : Nat
  required : Nat
  major : Nat
  minor : Nat
  deriving DecidableEq, Repr

/-- A collective in progress (R694 to R698). `members` is the 256-bit bitmap, `steps` what its plan takes, `ran` the turns
since its last step, timer pauses left out. -/
structure Collective where
  id : Nat
  kind : Nat
  op : Nat
  format : Nat
  source : Nat
  len : Nat
  src : Nat
  dst : Nat
  first : Nat
  last : Nat
  members : Nat
  epoch : Nat
  step : Nat
  steps : Nat
  ran : Nat
  deriving DecidableEq, Repr

/-- A staged image (R708 to R716): its bytes once authenticated, what it is, FORCE_MAJOR; where and how long in DDR; the
state the firmware returns to; the count at which duties paused. -/
structure Update where
  addr : Nat
  len : Nat
  force : Bool
  image : List Nat
  info : FwImage
  back : Nat
  backReason : Nat
  pausedAt : Nat
  deriving DecidableEq, Repr

/-- What the control processors hold: their SRAM regions and the firmware's state (spec/17). -/
structure Cpc where
  /-- Image regions 0 and 1, and what their images are. -/
  img : FMap (List Nat)
  info : FMap FwImage
  neg : Option Negotiation
  /-- Retired chip addresses, ascending (R699). -/
  retired : List Nat
  /-- Last-run and next-due turn of the duties of Table CPC-3. -/
  duties : FMap (Nat × Nat)
  /-- Turn of the last reconciled window. -/
  recon : Option Nat
  colls : FMap Collective
  /-- Event log, entries of 16 B, oldest first, and the index of the oldest held. -/
  log : List (List Nat)
  logBase : Nat
  /-- Host alternates (T3_REMAP_SET): target and alternate. -/
  alts : List (Nat × Nat)
  /-- Tier 1 graph power and fabric power in W (GRAPH_POWER). -/
  power : Nat × Nat
  /-- Tick since which a peer has had no route. -/
  noRoute : FMap Nat
  /-- Sets being received by link: sender's epoch, size, addresses so far (R702). -/
  sets : FMap (Nat × Nat × List Nat)
  /-- The crash-dump region and its sequence number. -/
  dump : List Nat
  dumpSeq : Nat
  /-- Ticks of firmware restarts within 24,000 turns (R725). -/
  restarts : List Nat
  update : Option Update
  /-- Temperatures at the last crosstalk refresh, by engine page, in the register's units. -/
  temps : FMap Nat
  /-- SEQ of the mailbox request in progress. -/
  mbSeq : Nat
  deriving DecidableEq, Repr

/-- What the block drives out: on its wires, to the host, to the firmware. -/
inductive Emit where
  /-- A mark pulse of 64 blk on output WDL_MK[pin] (R77). -/
  | markPulse (pin : Nat)
  /-- An event to the control processors carrying a mark and its count (R77). -/
  | cpcMark (mark count : Nat)
  /-- An MSI-X message of a function's vector (R621). -/
  | msix (fn vector : Nat)
  /-- A frame sent by a line port, from its preamble to its FCS (R244). -/
  | frame (port : Nat) (bytes : List Nat)
  /-- What a port of a pair engaged in OPEN receives, sent on by the other one bit for bit: a frame's bytes up to its FCS, and how it
came in: truncated, with a code error, with a bad FCS (R219). -/
  | retimed (port : Nat) (bytes : List Nat) (trunc code badFcs : Bool)
  /-- One record given to the fabric at a tap port (R379). -/
  | tapRecord (tap inst : Nat) (beats : List Nat)
  /-- The 66 bits of a block on a Ryuklin lane (R159, R641). -/
  | block (lane : Nat) (bits : BitVec 66)
  /-- A training frame on a Ryuklin lane (R168). -/
  | trainFrame (lane : Nat) (bits : BitVec 4096)
  /-- Bits of a looped back stream on a lane's transmitter (R184). -/
  | bits (lane : Nat) (stream : List Nat)
  /-- The base page a management lane advertises (R163). -/
  | anPage (lane : Nat) (page : BitVec 16)
  /-- A frame put on a Ryuklin link, first or replayed (R644, R648). -/
  | rykFrame (link seq vc cls : Nat) (frame : RFrame)
  /-- An LLCTL block: NAK and ACK_SEQ, or returned credits of a VC and class (R647, R651). -/
  | rykAck (link : Nat) (nak : Bool) (ack : Nat)
  | rykCredit (link vc cls credits : Nat)
  /-- An INIT block, with FRESH and the receive ACK_SEQ (R649). -/
  | rykInit (link : Nat) (fresh : Bool) (ack : Nat)
  /-- The turn tick given to customer logic in an FCG's domain, with the count its port shows where it has a follower (R376). -/
  | turnTick (fcg : Nat) (count : Option Nat)
  /-- The error output of a region's block RAM (R397). -/
  | bramError (region : Nat)
  /-- A posted write to host memory by a function. -/
  | hostWrite (fn addr : Nat) (bytes : List Nat)
  /-- A read of host memory by a function, with its tag. -/
  | hostRead (fn addr len tag : Nat)
  /-- A fetch of a ring's entry, or of an injected frame, from host memory by a function (R546, R616, R620). -/
  | hostFetch (fn addr len : Nat)
  /-- The answer to a configuration request: Configuration Request Retry Status, or Unsupported Request, or the data of
  a read. -/
  | cfgCrs (fn : Nat)
  | cfgUr (fn : Nat)
  | cfgDone (fn data : Nat)
  /-- An error message to the root: ERR_FATAL (R637), or an advisory or AER-logged error. -/
  | errFatal
  | errLogged
  /-- A packet of the tile network sunk by the client of an edge node. -/
  | netSunk (node : Nat) (packet : Packet)
  /-- The module's response to a requester other than PF0 (R770). -/
  | secResponse (who : Nat) (bytes : List Nat)
  /-- An access forwarded to the fabric's user register port: byte offset within the window, data of a write (R384). -/
  | userReg (off : Nat) (data : Option Nat)
  /-- A frame sent down the Priming chain (Table CFG-5): type, HOP, STREAM, payload. -/
  | chainFrame (type hop stream : Nat) (payload : List Nat)
  /-- The 8b/10b code groups of a frame on the Priming-out lane, with the idle pair after it (R164, R747). -/
  | groups (groups : List (BitVec 10))
  /-- A PMBus read of two bytes: the address, the value PAGE is written with before it, the command's code, whether a packet
error code follows, whether at 400 kHz (R571). -/
  | pmbus (addr : Nat) (page : Option Nat) (code : Nat) (pec fast : Bool)
  deriving DecidableEq, Repr

/-- The state of the block. -/
structure State where
  /-- Commands waiting, first in, first out. -/
  pending : List Instr
  /-- Registers that differ from their reset value, by `regKey`. -/
  regs : FMap Word
  /-- Registers as they stood at the commit cut-off of the turn's boundary: the values in force (R81, R117). -/
  force : FMap Word
  /-- Registers written in the last 64 blk of the turn, with the value before the first such write (R81). -/
  late : FMap Word
  /-- Registers of units OFF, RETIRED or in FAULT that were written since, with the value in force before the first write
(R142). -/
  held : FMap Word
  /-- Registers written since the last commit cut-off. -/
  written : List Nat
  /-- Snapshot copies of counter registers (R127). -/
  snaps : FMap Word
  /-- Count of each page's last snapshot (R139). -/
  snapAt : FMap Nat
  /-- Bits [63:32] of the live 64-bit counters, by the key of their _LO register (R268). -/
  wideHi : FMap Nat
  /-- What the events of the present clock have done to counters and W1C registers (R137, R138). -/
  clk : Clock
  /-- Data of the last read access: one word per part, in ascending address order (R109). -/
  rdata : List Word
  /-- What the block has driven out, newest first. -/
  out : List Emit
  /-- How many free values have been drawn (a field of the model's own). -/
  draws : Nat
  /-- The Windlass count (R59). -/
  count : Nat
  wdl : Windlass
  pins : Pins
  safe : Safe
  /-- Serial lanes by LAN instance. -/
  lanes : FMap Lane
  /-- Optical channels by 8 * engine + channel. -/
  chans : FMap Chan
  /-- The RREF contacts carry their clock (R154). -/
  rref : Bool
  units : FMap UnitAux
  /-- Configuration space by function index: 0 PF0, 1 PF1, t + 1 tenant t. -/
  fns : FMap FnCfg
  /-- Line ports and their SecYs, by port. -/
  ports : FMap PortAux
  /-- Keys and salts of the SA slots, by 64 * port + slot: transmit AN a is slot a, receive SC s AN a is 4 + 4s + a. -/
  saks : FMap (Nat × Nat)
  pipe : Pipeline
  /-- DDR5 memory by byte address; what is not listed reads 0. -/
  ddr : FMap (BitVec 8)
  ryk : Ryk
  host : HostSide
  energy : Energy
  net : Net
  /-- Tiles by number, 0 to 95 matrix, 96 to 127 vector. -/
  tiles : FMap Tile
  batches : Batches
  memory : Memory
  pumps : Pumps
  pcie : Pcie
  lwl : Lwl
  sec : Sec
  flash : Flash
  load : Load
  fabric : Fabric
  cpc : Cpc
  /-- The test access port's instruction in force, and what its instruction register captured last (R893, R894). -/
  tap : Nat × Nat
  deriving DecidableEq, Repr

/-- The state right after reset: power-on reset, RESET_N low, no island power-good yet.
Log: entry 2 (DESIGN CHOICE), entry 3 (DESIGN CHOICE), entry 111 (PRESUMED). -/
def State.reset : State where
  pending := []
  regs := []
  force := []
  late := []
  held := []
  written := []
  snaps := []
  snapAt := []
  wideHi := []
  clk := ⟨0, [], []⟩
  rdata := []
  out := []
  draws := 0
  count := 0
  wdl := Windlass.cold false
  pins := ⟨false, false, false, true, true, false, false, false, true⟩
  safe := ⟨0, [], 0, true, false, [], 0⟩
  lanes := []
  chans := []
  rref := false
  units := []
  fns := []
  ports := []
  saks := []
  pipe := Pipeline.empty
  ddr := []
  ryk := ⟨[], [], [], [], [], [], []⟩
  host := ⟨[], [], [], [], none⟩
  energy := ⟨[0, 0, 0, 0], 0, 0, 0, 0, [], 240, 0, false, 0, 0, false, false, none, none, 0, none, none, false, false⟩
  net := ⟨[], [], [], [], [], []⟩
  tiles := []
  batches := ⟨[], 0, 0, none⟩
  memory := ⟨0, [], [], [], [], [], 0, []⟩
  pumps := ⟨[], [], []⟩
  pcie := ⟨false, false, false, false, false, 0, 0, 0, 512, [], none⟩
  lwl := ⟨[], none, [], 0, 0, none, 0, 0, [], [], 0, 0, false, [], [], [], [], [], 95, [], [], none, none, none, [], [], 0, false, [], [], [], [], 0⟩
  sec := ⟨[], [], [], [], [], none, none, [], false, [], [], [], false, none, [], []⟩
  flash := ⟨[], [], 0, none, none, []⟩
  load := ⟨0, [], [], none, 0, none, none, 0, [], [], [], [], 0, 0, [], false, 0⟩
  fabric := ⟨[], false, []⟩
  cpc := ⟨[], [], none, [], [], none, [], [], 0, [], (0, 0), [], [], [], 0, [], none, [], 0⟩
  tap := (1, 1)

end Sys2Proof.Machine
end

