-- ==== Sys2Proof/Machine/Ops.lean ====
section
/-!
DEFINITION. The shared operations: reading and writing registers and their fields, the count, interrupt
causes, attention, unit states, snapshots.
-/

set_option Elab.async false

namespace Sys2Proof.Machine

open Sys2Proof

/-- How a command's meaning ends: always in a next state. -/
abbrev Result := Host.Outcome State Fault Refusal

/-! ### Registers -/

/-- The value of a register (R99). -/
def State.reg (s : State) (k : Nat) : Word := FMap.getD s.regs k (regReset k)

/-- The value of a register that is in force (R117). -/
def State.regInForce (s : State) (k : Nat) : Word := FMap.getD s.force k (regReset k)

/-- One component beside the register file, changed. -/
def State.setCount (s : State) (n : Nat) : State := { s with count := n }

def State.wdlMap (s : State) (f : Windlass → Windlass) : State := { s with wdl := f s.wdl }

def State.pinsMap (s : State) (f : Pins → Pins) : State := { s with pins := f s.pins }

def State.safeMap (s : State) (f : Safe → Safe) : State := { s with safe := f s.safe }

def State.chansMap (s : State) (f : FMap Chan → FMap Chan) : State := { s with chans := f s.chans }

def State.pcieMap (s : State) (f : Pcie → Pcie) : State := { s with pcie := f s.pcie }

def State.setDdr (s : State) (m : FMap (BitVec 8)) : State := { s with ddr := m }

/-- The state with a register set. -/
def State.setReg (s : State) (k : Nat) (v : Word) : State :=
  { s with regs := FMap.setC s.regs k v (regReset k) }

/-- A field of a page's register. -/
def State.fld (s : State) (page : Nat) (f : Fld) : Nat := (s.reg (regKey page f.off)).field f.lo f.w

/-- A field as it is in force (R117). Log: entry 8 (DESIGN CHOICE), entry 15 (DESIGN CHOICE). -/
def State.inForce (s : State) (page : Nat) (f : Fld) : Nat :=
  (s.regInForce (regKey page f.off)).field f.lo f.w

/-- The state with a field set; the value is cut to the field's width. -/
def State.setFld (s : State) (page : Nat) (f : Fld) (x : Nat) : State :=
  s.setReg (regKey page f.off) ((s.reg (regKey page f.off)).withField f.lo f.w x)

/-- A bit field read as a truth value. -/
def State.bit (s : State) (page : Nat) (f : Fld) : Bool := s.fld page f ≠ 0

/-- A truth value as a bit. -/
def bitOf (b : Bool) : Nat := if b then 1 else 0

/-- A register with bits [63:32] of the 64-bit counter whose _LO it is. -/
def State.wide (s : State) (k : Nat) : Nat := (s.reg k).toNat + 2 ^ 32 * FMap.getD s.wideHi k 0

/-- What the present clock has done to a register (R137). Log: entry 114 (DEDUCED). -/
def State.regAt (s : State) (k : Nat) : RegAt :=
  if s.clk.count = s.count then FMap.getD s.clk.regs k ⟨s.wide k, 0, 0, false⟩ else ⟨s.wide k, 0, 0, false⟩

/-- An event of the present clock noted on a register; with the count at a stand no two commands share a clock.
Log: entry 114 (DEDUCED). -/
def State.noteAt (s : State) (k : Nat) (f : RegAt → RegAt) : State :=
  { s with clk := if s.wdl.stopped then s.clk
      else if s.clk.count = s.count then { s.clk with regs := FMap.set s.clk.regs k (f (s.regAt k)) }
      else ⟨s.count, [(k, f (s.regAt k))], []⟩ }

/-- Has the leaky window `k` leaked at the present count? -/
def State.leaked (s : State) (k : Nat) : Bool := s.clk.count = s.count && decide (k ∈ s.clk.leaks)

/-- The leaky window `k` leaks at the present count. -/
def State.noteLeak (s : State) (k : Nat) : State :=
  { s with clk := if s.clk.count = s.count then { s.clk with leaks := k :: s.clk.leaks } else ⟨s.count, [], [k]⟩ }

/-- A number's field of width `w` at `lo` replaced by a function of it. -/
def onField (lo w : Nat) (f : Nat → Nat) (n : Nat) : Nat :=
  let x := n / 2 ^ lo % 2 ^ w
  n - x * 2 ^ lo + f x % 2 ^ w * 2 ^ lo

/-- A counter field that an event of the present clock raises by `n`. -/
def State.noteCount (s : State) (page : Nat) (f : Fld) (n : Nat) : State :=
  s.noteAt (regKey page f.off) (fun e => { e with fresh := onField f.lo f.w (fun x => min (x + n) (2 ^ f.w - 1)) e.fresh })

/-- A bit that the hardware sets in the present clock. -/
def State.noteSet (s : State) (page : Nat) (f : Fld) : State :=
  s.noteAt (regKey page f.off) (fun e => { e with set := e.set.withField f.lo f.w (2 ^ f.w - 1) })

/-- A W1C bit set by the hardware (R137). -/
def State.hwSet (s : State) (page : Nat) (f : Fld) : State := (s.noteSet page f).setFld page f (2 ^ f.w - 1)

/-- The state with a counter field raised by `n`, stopping at all ones (R135). -/
def State.incFld (s : State) (page : Nat) (f : Fld) (n : Nat := 1) : State :=
  (s.noteCount page f n).setFld page f (min (s.fld page f + n) (2 ^ f.w - 1))

/-- An event of the present clock is counted no more. -/
def State.uncount (s : State) (page : Nat) (f : Fld) : State :=
  (s.noteAt (regKey page f.off) (fun e => { e with fresh := onField f.lo f.w (fun x => x - 1) e.fresh })).setFld page f
    (s.fld page f - 1)

/-- The state with a counter field lowered by one, not below zero. -/
def State.decFld (s : State) (page : Nat) (f : Fld) : State := s.setFld page f (s.fld page f - 1)

/-- The state with the number a field holds replaced by the larger of it and `x`. -/
def State.maxFld (s : State) (page : Nat) (f : Fld) (x : Nat) : State :=
  (s.noteAt (regKey page f.off) (fun e => { e with fresh := onField f.lo f.w (max x) e.fresh })).setFld page f (max (s.fld page f) x)

/-- A 64-bit counter raised by `n`: its low word is the _LO register, its high word is kept aside until a
read latches it (R268). It stops at its all-ones value. -/
def State.incWide (s : State) (page : Nat) (f : Fld) (n : Nat) : State :=
  let k := regKey page f.off
  let v := min (s.fld page f + 2 ^ 32 * FMap.getD s.wideHi k 0 + n) (2 ^ 64 - 1)
  let s0 := s.noteAt k (fun e => { e with fresh := min (e.fresh + n) (2 ^ 64 - 1) })
  { (s0.setFld page f v) with wideHi := FMap.setC s.wideHi k ((v / 2 ^ 32) % 2 ^ 32) 0 }

/-- Two's complement reading of a field of width `w`. -/
def signed (w v : Nat) : Int := if v < 2 ^ (w - 1) then (v : Int) else (v : Int) - 2 ^ w

/-- A number as a two's complement field of width `w`. -/
def unsigned (w : Nat) (v : Int) : Nat := (v % 2 ^ w).toNat

/-! ### The count -/

/-- The turn number (R12). -/
def State.turn (s : State) : Nat := s.count / 65536

/-- The count moved to an offset of the present turn; it never moves back and never leaves the turn. A
count that stands still stays (R62). Log: entry 7 (DESIGN CHOICE). -/
def State.at (s : State) (off : Nat) : State :=
  if s.wdl.stopped then s
  else { s with count := max s.count (s.turn * 65536 + min off 65535) }

/-- Of two requests in one pipeline clock P0's is taken first (R35, R43): one of P0 that follows P1's at the same count is of
the next clock. Log: entry 117 (DEDUCED). -/
def State.afterP1 (s : State) (inst : Nat) (last : Option Nat) : State :=
  if inst = 0 && last = some s.count then s.at (s.count % 65536 + 1) else s

/-- Of two events in one clock on one thing one goes first by rule: what follows the other at the same count is of the next clock.
Log: entry 117 (DEDUCED). -/
def State.afterLast (s : State) (last : Option Nat) : State := s.afterP1 0 last

/-- An event that must follow another at the last count of a turn finds no clock left in it: its command leaves it to a later one.
Log: entry 117 (DEDUCED). -/
def State.noClock (s : State) (last : Option Nat) : Bool :=
  !s.wdl.stopped && last = some s.count && s.count % 65536 = 65535

/-- A register write falls in the last 64 blk of the turn: it misses the coming boundary (R81).
Log: entry 8 (DESIGN CHOICE). -/
def State.pastCutoff (s : State) : Bool := !s.wdl.stopped && 65536 - 64 < s.count % 65536

/-- A block register of a unit that is OFF, RETIRED or in FAULT: a value written takes effect when the unit next leaves OFF or
PRIMED (R142). -/
def State.asleep (s : State) (k : Nat) : Bool :=
  let u := s.fld (k / 4096) F.HDR_UNIT_STATE_STATE
  0x040 ≤ k % 4096 && hasUnit (k / 4096) && (u = 0 || 6 ≤ u)

/-- The state noting a management write: that the register was written, or, past the cut-off, its value before
the first such write (R81), or, while its unit sleeps, the value in force before (R142); a write once the unit wakes ends the wait
of an earlier one. Log: entry 8 (DESIGN CHOICE). -/
def State.noteLate (s : State) (k : Nat) : State :=
  if s.asleep k then
    match FMap.get? s.held k with
    | some _ => s
    | none => { s with held := FMap.set s.held k (s.regInForce k) }
  else if s.pastCutoff then
    match FMap.get? s.late k with
    | some _ => s
    | none => { s with late := FMap.set s.late k (FMap.getD s.held k (s.reg k)), held := FMap.erase s.held k }
  else { s with written := if k ∈ s.written then s.written else k :: s.written, held := FMap.erase s.held k }

/-- The values in force after a boundary: the registers, but for those written past the cut-off (R81) or while their unit slept
(R142). Log: entry 8 (DESIGN CHOICE). -/
def State.commit (s : State) : State :=
  { s with force := (s.late ++ s.held).foldl (fun m e => FMap.setC m e.1 e.2 (regReset e.1)) s.regs, late := [],
           written := FMap.keys s.late }

/-- A write that takes effect at once, in the value in force too. -/
def State.forceNow (s : State) (k : Nat) : State :=
  { s with force := FMap.setC s.force k (s.reg k) (regReset k), late := FMap.erase s.late k }

/-! ### Output and free values -/

/-- The state having driven something out. Log: entry 13 (DESIGN CHOICE). -/
def State.emit (s : State) (e : Emit) : State := { s with out := e :: s.out }

/-- The next free value (a value the spec leaves open). Log: entry 4 (DESIGN CHOICE). -/
def State.free (s : State) : Nat := Config.freeNat s.draws

/-- The state with one free value used up. Log: entry 4 (DESIGN CHOICE). -/
def State.drawn (s : State) : State := { s with draws := s.draws + 1 }

/-! ### Interrupts -/

/-- The key of the MSI-X vector control word of a function's vector (R609; local page 14). -/
def msixCtlKey (fn v : Nat) : Nat :=
  if fn = 0 then regKey (Pg.pci 1) (F.PCI_MSIX_CTL v).off else regKey (localPage fn 14) (F.LOC_MSIX_CTL v).off

/-- The key of the PBA word that holds a function's vector (R609; local page 15). -/
def pbaKey (fn v : Nat) : Nat :=
  if fn = 0 then regKey (Pg.pci 1) (0x240 + 4 * (v / 32)) else regKey (localPage fn 15) (0x040 + 4 * (v / 32))

/-- A function's configuration; at reset MSI-X is disabled. -/
def State.fnCfg (s : State) (fn : Nat) : FnCfg := FMap.getD s.fns fn ⟨false, false⟩

/-- Bus Master Enable of a function. -/
def State.bme (s : State) (fn : Nat) : Bool := s.bit (Pg.pci 2) (F.PCI_FN_STAT_b0 fn)

/-- May a function's vector send its message now (R621)? -/
def State.vectorOpen (s : State) (fn v : Nat) : Bool :=
  s.bme fn && (s.fnCfg fn).msixEnable && !(s.fnCfg fn).msixMask && (s.reg (msixCtlKey fn v)).field 0 1 = 0

/-- A vector raised: its message, or its PBA bit where the message is barred (R621). Log: entry 14 (DEDUCED). -/
def State.raiseVector (s : State) (fn v : Nat) : State :=
  if s.vectorOpen fn v then s.emit (.msix fn v)
  else s.setReg (pbaKey fn v) ((s.reg (pbaKey fn v)).withField (v % 32) 1 1)

/-- An interrupt cause of a page set. The WDL page and PCI page 0 raise their PF0 vectors when an enabled
cause is newly set (Table PCI-4). Log: entry 14 (DEDUCED). -/
def State.raiseIrq (s : State) (page b : Nat) : State :=
  let f : Fld := ⟨0x020, b, 1⟩
  let was := s.fld page f
  let s' := s.hwSet page f
  if was = 0 && s.fld page ⟨0x024, b, 1⟩ = 1 then
    if page = Pg.wdl then s'.raiseVector 0 1
    else if page = Pg.pci 0 then s'.raiseVector 0 4
    else s'
  else s'

/-! ### Attention (R134, R801) -/

/-- A page has attention while a cause of its FAULT_SUM is in FLT_MASK (R134). -/
def State.attention (s : State) (page : Nat) : Bool :=
  ((s.reg (regKey page 0x018)).toNat &&& s.fld Pg.flt F.FLT_MASK) ≠ 0

/-- The attention mirror of one page brought up to date (R134): FLT_ATT and its group bit, the number of
pages, and on a gain FLT_FIRST, FLT_LAST, the ATTENTION cause and, where no page had attention, vector 0. -/
def State.syncAttention (s : State) (page : Nat) : State :=
  let f : Fld := ⟨0x040 + 4 * (page / 32), page % 32, 1⟩
  let g : Fld := ⟨0x900 + 4 * (page / 1024), page / 32 % 32, 1⟩
  let was := s.bit Pg.fltAtt f
  let now := s.attention page
  if was = now || 0x4000 ≤ page then s
  else if now then
    let n := s.fld Pg.flt F.FLT_STATUS_ATT_PAGES
    let s1 := ((s.setFld Pg.fltAtt f 1).setFld Pg.fltAtt g 1).setFld Pg.flt F.FLT_STATUS_ATT_PAGES (n + 1)
    let s2 := if s1.bit Pg.flt F.FLT_FIRST_VALID then s1
      else ((s1.setFld Pg.flt F.FLT_FIRST_b0 page).hwSet Pg.flt F.FLT_FIRST_VALID).setFld
        Pg.flt F.FLT_FIRST_TURN s1.turn
    let s3 := ((s2.setFld Pg.flt F.FLT_LAST_b0 page).setFld Pg.flt F.FLT_LAST_VALID 1).raiseIrq Pg.flt 0
    if s3.bit Pg.flt F.FLT_STATUS_ANY then s3
    else (s3.setFld Pg.flt F.FLT_STATUS_ANY 1).raiseVector 0 0
  else
    let n := s.fld Pg.flt F.FLT_STATUS_ATT_PAGES
    let s1 := s.setFld Pg.fltAtt f 0
    let s2 := if s1.fld Pg.fltAtt ⟨0x040 + 4 * (page / 32), 0, 32⟩ = 0 then s1.setFld Pg.fltAtt g 0 else s1
    let s3 := s2.setFld Pg.flt F.FLT_STATUS_ATT_PAGES (n - 1)
    if n ≤ 1 then s3.setFld Pg.flt F.FLT_STATUS_ANY 0 else s3

/-- Every page's attention brought up to date, after a write of FLT_MASK (R134). -/
def State.syncAllAttention (s : State) : State :=
  (((FMap.keys s.regs).filter (fun k => k % 4096 = 0x018)).map (· / 4096)).foldl State.syncAttention s

/-- A bit of a page's FAULT_SUM set, with what attention follows. -/
def State.setFault (s : State) (page b : Nat) : State :=
  (s.hwSet page ⟨0x018, b, 1⟩).syncAttention page

/-- A bit of a page's FAULT_SUM put to a value, with what attention follows. -/
def State.putFault (s : State) (page b v : Nat) : State :=
  (s.setFld page ⟨0x018, b, 1⟩ v).syncAttention page

/-! ### Units (R118 to R126) -/

/-- The unit states of Table REG-3. -/
def uOff : Nat := 0
def uPrimed : Nat := 1
def uReady : Nat := 2
def uActive : Nat := 3
def uDraining : Nat := 4
def uFenced : Nat := 5
def uRetired : Nat := 6
def uFault : Nat := 7

/-- The reason codes of Table REG-5. -/
def Reason.none : Nat := 0x00
def Reason.requested : Nat := 0x01
def Reason.config : Nat := 0x02
def Reason.absent : Nat := 0x03
def Reason.selftestFail : Nat := 0x04
def Reason.threshold : Nat := 0x05
def Reason.retrainTest : Nat := 0x06
def Reason.reinstateFail : Nat := 0x07
def Reason.selftestRun : Nat := 0x08
def Reason.parent : Nat := 0x09
def Reason.fenceRule : Nat := 0x0A
def Reason.safeState : Nat := 0x0B
def Reason.hwError : Nat := 0x0C
def Reason.drained : Nat := 0x0D
def Reason.reqRefused : Nat := 0x10
def Reason.reqIllegal : Nat := 0x11
def Reason.stateMismatch : Nat := 0x13

/-- The state of a page's unit. -/
def State.unit (s : State) (page : Nat) : Nat := s.fld page F.HDR_UNIT_STATE_STATE

/-- The copy of a unit's state that the data path holds: it follows at the turn boundaries only (R39, R125). -/
def State.unitCopy (s : State) (page : Nat) : Nat := s.inForce page F.HDR_UNIT_STATE_STATE

/-- FAULT_CLASS.PERMANENT and FAULT_SUM.PERMANENT brought up to date (R799): the unit is RETIRED or in
FAULT, or one of its sub-items is RETIRED. -/
def State.syncPermanent (s : State) (page : Nat) : State :=
  let p := s.unit page = uRetired || s.unit page = uFault
  let s1 := s.setFld page F.HDR_FAULT_CLASS_PERMANENT (bitOf p)
  s1.putFault page 1 (bitOf (p || s1.bit page F.HDR_FAULT_CLASS_SUB_RETIRED))

/-- A unit put into a state with a reason; `byReq` says that it is a step of an accepted request's path, so
that FAULT_SUM.STATE_CHG is not set (R907). -/
def State.setUnit (s : State) (page st reason : Nat) (byReq : Bool := false) : State :=
  let changed := s.unit page ≠ st
  let s1 := (s.setFld page F.HDR_UNIT_STATE_STATE st).setFld page F.HDR_UNIT_STATE_REASON reason
  let s2 := s1.syncPermanent page
  if changed && !byReq then s2.setFault page 5 else s2

/-- Values written while a unit was OFF, RETIRED or in FAULT take effect as it leaves OFF or PRIMED (R142). -/
def State.releaseHeld (s : State) (page : Nat) : State :=
  let ks := (FMap.keys s.held).filter (fun k => k / 4096 = page)
  { s with
    force := ks.foldl (fun (m : FMap Word) k => FMap.setC m k (s.reg k) (regReset k)) s.force,
    held := s.held.filter (fun e => e.1 / 4096 ≠ page) }

/-- The same as a load configures the unit of a line port or SecY: its values come into force at the next boundary, which judges
them (R249, R259, R260). Log: entry 152 (DEDUCED). -/
def State.releaseLater (s : State) (page : Nat) : State :=
  let ks := (FMap.keys s.held).filter (fun k => k / 4096 = page)
  { s with written := ks ++ s.written, held := s.held.filter (fun e => e.1 / 4096 ≠ page) }

/-- Is the page that of an optical engine absent on this variant (R8)? -/
def State.absent (s : State) (page : Nat) : Bool :=
  pageClass page = 0x000B &&
  ((page ≤ 0x0207 && s.fld Pg.gbl F.GBL_VARIANT ≠ 0) || s.fld Pg.gbl F.GBL_VARIANT = 2)

/-- A port's internal delays, by the variant and by its FEC in force (Table LNP-2, I17 and I19 of Table MOD-3). -/
def State.syncDelay (s : State) (q : Nat) : State :=
  let ol := s.fld Pg.gbl F.GBL_VARIANT = 0
  let fec := s.inForce (Pg.lnp q) F.LNP_CFG = 1
  (s.setFld Pg.ptp (F.PTP_RX_DLY_b0 q) (if ol then (if fec then 1824 else 416) else if fec then 1702 else 294)).setFld Pg.ptp
    (F.PTP_TX_DLY_b0 q) (if ol then 384 else 262)

/-- UNIT_STATE as a page shows it: OFF on the page of an engine absent on this variant (R8). -/
def State.unitShown (s : State) (page : Nat) : Nat := if s.absent page then uOff else s.unit page

/-- The configuration of a unit has been loaded: OFF to PRIMED (Table REG-4, R907). A unit absent on this variant stays OFF
(R8), the Sump's starts of itself (R369). -/
def State.configured (s : State) (page : Nat) : State :=
  if s.unit page = uOff && !s.absent page && page ≠ Pg.smp then
    let s1 := s.setUnit page uPrimed Reason.config
    if pageClass page = 0x000E || pageClass page = 0x000F then s1.releaseLater page else s1.releaseHeld page
  else s

/-- The bookkeeping of a unit's request. -/
def State.unitAux (s : State) (page : Nat) : UnitAux := FMap.getD s.units page ⟨0, 0, 0, false, .none⟩

/-- The bookkeeping of a unit's request set. -/
def State.setAux (s : State) (page : Nat) (a : UnitAux) : State :=
  { s with units := FMap.setC s.units page a ⟨0, 0, 0, false, .none⟩ }

/-- The outcomes of Table REG-6. -/
def Out.accepted : Nat := 1
def Out.done : Nat := 2
def Out.refused : Nat := 3
def Out.illegal : Nat := 4

/-- An outcome recorded in UNIT_REQ_ACK. -/
def State.ackReq (s : State) (page outcome reason : Nat) : State :=
  let v := outcome + 256 * reason + 65536 * (s.unitAux page).seq + 2 ^ 24 * (s.turn % 256)
  s.setReg (regKey page 0x014) (BitVec.ofNat 32 v)

/-- UNIT_STATE.PENDING put to a value. -/
def State.setPending (s : State) (page : Nat) (b : Bool) : State := s.setFld page F.HDR_UNIT_STATE_PENDING (bitOf b)

/-- A request ended (R121, R122): a refusal is counted and shown in FAULT_SUM. -/
def State.endReq (s : State) (page outcome reason : Nat) : State :=
  let s1 := (s.ackReq page outcome reason).setPending page false
  if outcome = Out.done then s1 else (s1.setFault page 4).incFld Pg.flt F.FLT_MISMATCHES_FLT_REFUSALS

/-- The request's target is reached (R120). -/
def State.checkReached (s : State) (page : Nat) : State :=
  if s.bit page F.HDR_UNIT_STATE_PENDING && s.unit page = (s.unitAux page).target then s.endReq page Out.done Reason.none else s

/-- A unit fenced by a block rule, at once (Table REG-4, R125); a request for FENCED has reached its target (R141). -/
def State.fence (s : State) (page reason : Nat) : State :=
  if s.unit page = uReady || s.unit page = uActive || s.unit page = uDraining then
    (s.setUnit page uFenced reason).checkReached page
  else s

/-- The user register port is clocked: the FCG named in FAB_CTL.UREG_FCG is ACTIVE (R384). -/
def State.userClocked (s : State) : Bool := s.unit (Pg.fab (45 + s.inForce (Pg.fab 32) F.FAB_CTL)) = uActive

/-- A write posted to the user register port, which takes it while it is clocked (R384). Log: entry 146 (DEDUCED). -/
def State.userWrite (s : State) (o v : Nat) : State := if s.userClocked then s.emit (.userReg o (some v)) else s

/-- A read that the fabric does not answer in time (R384). -/
def State.userTimeout (s : State) : State :=
  (s.incFld (Pg.fab 32) F.FAB_UREG_CNT_UREG_TIMEOUT).raiseIrq (Pg.fab 32) 0

/-- A unit retired by its own decision (Table REG-4). -/
def State.retire (s : State) (page reason : Nat) : State :=
  if canRetire page && 2 ≤ s.unit page && s.unit page ≤ 5 then s.setUnit page uRetired reason else s

/-- A unit failed: any state except OFF to FAULT (Table REG-4). -/
def State.fail (s : State) (page reason : Nat) : State :=
  if s.unit page = uOff || s.unit page = uFault then s else s.setUnit page uFault reason

/-- One transient event of a page (R798, R186): WINDOW_CNT, TOTAL, FAULT_SUM.TRANSIENT. -/
def State.transient (s : State) (page : Nat) : State :=
  ((s.incFld page F.HDR_FAULT_CLASS_WINDOW_CNT).incFld page F.HDR_FAULT_CLASS_TOTAL).setFault page 0

/-- SUB_RETIRED of a page put to a value (R799). -/
def State.setSubRetired (s : State) (page : Nat) (b : Bool) : State :=
  (s.setFld page F.HDR_FAULT_CLASS_SUB_RETIRED (bitOf b)).syncPermanent page

/-! ### Snapshots (R127 to R131) -/

/-- The _LO registers of the 64-bit counters, by page and offset. -/
def isWideLo (page off : Nat) : Bool :=
  (pageClass page = 0x000E && (off = 0x050 || off = 0x058 || off = 0x060 || off = 0x068)) ||
  (pageClass page = 0x001A && off = 0x04C) || (pageClass page = 0x0018 && off = 0x070)

/-- A counter register (R127): it holds an RC field, or is FAULT_CLASS, or the _HI of such a pair. -/
def isCounter (page off : Nat) : Bool :=
  off = 0x01C || (regFields page off).any (fun f => f.acc = .rc) || (4 ≤ off && isWideLo page (off - 4))

/-- Registers of a page that count clocks in which a requester stalled or a unit was busy: no rule states them in terms of the
commands, so a read answers a free value (TNI_STALL, MTL_BUSY, TNW_STALL, EDGE_STALL, TNP_STALL, MP_STALL, DS_NOBUF).
Log: entry 40 (DESIGN CHOICE). -/
def clockCounters (page : Nat) : List Nat :=
  if 0x0525 ≤ page && page ≤ 0x052C then [0x04C]
  else if 0x0600 ≤ page && page ≤ 0x067F then [0x064]
  else if 0x0700 ≤ page && page ≤ 0x077F then [0x104, 0x114, 0x124, 0x134, 0x144, 0x208, 0x218, 0x228, 0x238]
  else if 0x0780 ≤ page && page ≤ 0x078F then [0x068]
  else if 0x0225 ≤ page && page ≤ 0x0228 then [0x044]
  else if isLocal page && 9 ≤ page % 16 && page % 16 ≤ 12 then [0x068]
  else []

/-- Registers of a page that the present clock has noted. -/
def State.notedOn (s : State) (page : Nat) : List Nat :=
  if s.clk.count = s.count then (FMap.keys s.clk.regs).filter (fun k => k / 4096 = page) else []

/-- The copies a snapshot of a page makes: every listed counter register as it stood before the present clock (R129, R138); the
_HI register of a 64-bit counter copies the live high word, a counter of clocks a free value. -/
def State.counterCopies (s : State) (page : Nat) : FMap Word :=
  let isHi := fun (k : Nat) => 4 ≤ k % 4096 && isWideLo page (k % 4096 - 4)
  let own := s.regs.filter (fun e => e.1 / 4096 = page && isCounter page (e.1 % 4096) && !isHi e.1)
  let his := (s.wideHi.filter (fun e => e.1 / 4096 = page)).map (fun e => (e.1 + 4, BitVec.ofNat 32 e.2))
  let live := his.foldl (fun m e => FMap.set m e.1 e.2) own
  ((s.notedOn page).filter (fun k => isCounter page (k % 4096))).foldl (fun (m : FMap Word) k =>
    let m1 := FMap.set m k (BitVec.ofNat 32 (s.regAt k).old)
    if isWideLo page (k % 4096) then FMap.set m1 (k + 4) (BitVec.ofNat 32 ((s.regAt k).old / 2 ^ 32)) else m1)
    ((List.range (clockCounters page).length).foldl (fun (m : FMap Word) j =>
      FMap.set m (regKey page ((clockCounters page).getD j 0)) (BitVec.ofNat 32 (Config.freeNat (s.draws + j)))) live)

/-- The RC fields of a register replaced by those of another value. -/
def withRc (fs : List FieldSpec) (v x : Word) : Word :=
  fs.foldl (fun w f => if f.acc = .rc then w.withField f.lo f.w (x.field f.lo f.w) else w) v

/-- The RC fields of a counter cleared (R113, R129, R137): an event of the present clock counts after the clear. -/
def State.clearCounter (s : State) (k : Nat) : State :=
  let e := s.regAt k
  let fs := regFields (k / 4096) (k % 4096)
  let s1 := (s.noteAt k (fun x => { x with cleared := true })).setReg k (withRc fs (s.reg k) (BitVec.ofNat 32 e.fresh))
  if isWideLo (k / 4096) (k % 4096) then { s1 with wideHi := FMap.setC s1.wideHi k (e.fresh / 2 ^ 32) 0 } else s1

/-- The RC fields of a page's counters cleared (R129). -/
def State.clearCounters (s : State) (page : Nat) : State :=
  let ks := (FMap.keys s.regs ++ FMap.keys s.wideHi).eraseDups
  (ks.filter (fun k => k / 4096 = page && isCounter page (k % 4096))).foldl State.clearCounter s

/-- A register as a read in the present clock shows it (R137): its RC fields stand as before the clock's events, and read 0 once
cleared in it. -/
def State.readAt (s : State) (k : Nat) : Word :=
  let e := s.regAt k
  withRc (regFields (k / 4096) (k % 4096)) (s.reg k) (if e.cleared then 0 else BitVec.ofNat 32 e.old)

/-- The copies of a page's counters taken afresh, at the clock count (R128). -/
def State.copyOut (s : State) (page : Nat) : State :=
  { s with
    snaps := (s.counterCopies page).foldl (fun (m : FMap Word) (e : Nat × Word) => FMap.set m e.1 e.2)
      (s.snaps.filter (fun e => e.1 / 4096 ≠ page)),
    snapAt := FMap.set s.snapAt page s.count,
    draws := s.draws + (clockCounters page).length }

/-- A snapshot that follows at one count a read that has cleared a counter of one of its pages falls in the next clock: in one
clock the copy is made first (R138). Log: entry 117 (DEDUCED). -/
def State.afterRead (s : State) (pages : List Nat) : State :=
  if pages.any (fun p => (s.notedOn p).any (fun k => (s.regAt k).cleared) && FMap.get? s.snapAt p ≠ some s.count) then
    s.at (s.count % 65536 + 1)
  else s

/-- A snapshot of a page at the present count, at most one at one count (R128, R129, R131, R139). -/
def State.snapshot (s : State) (page : Nat) : State :=
  if !hasSnap page || FMap.get? s.snapAt page = some s.count then s
  else
    let s1 := s.copyOut page
    let s2 := if s.bit page F.HDR_SNAP_CTL_CLR_ON_SNAP then s1.clearCounters page else s1
    let s3 := (s2.setFld page F.HDR_SNAP_WDL_LO (s.count % 2 ^ 32)).setFld page F.HDR_SNAP_WDL_HI (s.count / 2 ^ 32)
    s3.setFld page F.HDR_SNAP_CTL_SNAP_SEQ (s.fld page F.HDR_SNAP_CTL_SNAP_SEQ + 1)

/-- Pages whose SNAP_CTL is listed: only these can have a bit of it set. -/
def State.snapPages (s : State) : List Nat :=
  ((FMap.keys s.regs).filter (fun k => k % 4096 = 0x030)).map (· / 4096)

/-- A snapshot on every page armed by the given bit of SNAP_CTL (R128). -/
def State.snapshotArmed (s : State) (f : Fld) : State :=
  (s.snapPages.filter (fun p => s.bit p f)).foldl State.snapshot s

end Sys2Proof.Machine
end

