-- ==== Sys2Proof/Machine/Access.lean ====
section
/-!
DEFINITION. The access rules for a write that has reached its page (R106 to R117, R132, R133, R905): which
fields change, which fault is recorded, which codes are unassigned. What a special register does besides
holding its value is in RegAccess.lean.
-/

set_option Elab.async false

namespace Sys2Proof.Machine

open Sys2Proof

/-- The causes of Table REG-7. -/
def Cause.narrowWr : Nat := 1
def Cause.rsvdSet : Nat := 2
def Cause.roWr : Nat := 3
def Cause.lockedWr : Nat := 4
def Cause.rsvdOffset : Nat := 5

/-- One part of an access: its register, its byte enables within it, the SIZE code of the access. -/
structure Part where
  page : Nat
  off  : Nat
  be   : Nat
  size : Nat
  deriving DecidableEq, Repr

/-- Codes of a field that its register table leaves unassigned, or values out of its range: those outside
`okLo` to `okHi`. `clamp` says that the register then holds the nearest value in range; elsewhere it holds
what was written and its block treats the code as the table says. -/
structure CodeRule where
  first : Nat
  last  : Nat
  off   : Nat
  dims  : List (Nat × Nat)
  lo    : Nat
  w     : Nat
  okLo  : Nat
  okHi  : Nat
  clamp : Bool
  deriving DecidableEq, Repr

/-- Every range that the register tables give a writable field. -/
def codeRules : List CodeRule :=
  [⟨0x010, 0x010, 0x040, [], 0, 4, 0, 8, false⟩,
   ⟨0x100, 0x1A3, 0x040, [], 8, 3, 1, 7, false⟩,
   ⟨0x100, 0x1A3, 0x054, [], 0, 3, 0, 3, false⟩,
   ⟨0x100, 0x1A3, 0x054, [], 4, 3, 0, 3, false⟩,
   ⟨0x100, 0x1A3, 0x054, [], 8, 2, 0, 2, false⟩,
   ⟨0x100, 0x1A3, 0x06C, [], 8, 24, 1, 0xFFFFFF, false⟩,
   ⟨0x120, 0x120, 0x200, [], 0, 2, 0, 2, false⟩,
   ⟨0x120, 0x120, 0x200, [], 3, 4, 0, 10, false⟩,
   ⟨0x120, 0x120, 0x200, [], 7, 4, 0, 6, false⟩,
   ⟨0x200, 0x20F, 0x058, [], 8, 24, 1, 0xFFFFFF, false⟩,
   ⟨0x210, 0x210, 0x040, [], 0, 2, 0, 2, false⟩,
   ⟨0x210, 0x210, 0x040, [], 2, 2, 0, 2, false⟩,
   ⟨0x210, 0x210, 0x040, [], 4, 2, 0, 2, false⟩,
   ⟨0x210, 0x210, 0x040, [], 6, 2, 0, 2, false⟩] ++
  [⟨0x300, 0x307, 0x044, [], 0, 14, 1518, 9600, true⟩,
   ⟨0x300, 0x307, 0x048, [], 1, 2, 0, 2, false⟩,
   ⟨0x300, 0x307, 0x048, [], 8, 8, 1, 255, false⟩,
   ⟨0x308, 0x30F, 0x040, [], 2, 2, 0, 2, false⟩,
   ⟨0x308, 0x30F, 0x040, [], 7, 2, 0, 2, false⟩,
   ⟨0x400, 0x41B, 0x040, [], 0, 16, 1, 0xFFFF, false⟩,
   ⟨0x403, 0x403, 0x108, [], 0, 5, 20, 28, true⟩,
   ⟨0x404, 0x404, 0x100, [], 8, 8, 1, 255, false⟩,
   ⟨0x404, 0x404, 0x100, [], 16, 9, 1, 256, true⟩,
   ⟨0x414, 0x414, 0x100, [], 8, 8, 1, 255, false⟩,
   ⟨0x414, 0x414, 0x100, [], 16, 9, 1, 256, true⟩,
   ⟨0x405, 0x405, 0x100, [], 0, 2, 0, 2, false⟩,
   ⟨0x405, 0x405, 0x100, [], 16, 16, 1, 0xFFFF, false⟩,
   ⟨0x415, 0x415, 0x100, [], 0, 2, 0, 2, false⟩,
   ⟨0x415, 0x415, 0x100, [], 16, 16, 1, 0xFFFF, false⟩] ++
  [⟨0x407, 0x407, 0x100, [(4, 4)], 0, 2, 0, 2, false⟩,
   ⟨0x407, 0x407, 0x100, [(4, 4)], 4, 2, 0, 2, false⟩,
   ⟨0x407, 0x407, 0x100, [(4, 4)], 8, 8, 1, 255, false⟩,
   ⟨0x408, 0x408, 0x100, [(8, 4)], 0, 24, 4096, 0xFFFFFF, false⟩,
   ⟨0x408, 0x408, 0x104, [(8, 4)], 10, 2, 0, 2, false⟩,
   ⟨0x409, 0x409, 0x100, [], 0, 16, 1, 0xFFFF, false⟩,
   ⟨0x419, 0x419, 0x100, [], 0, 16, 1, 0xFFFF, false⟩,
   ⟨0x420, 0x420, 0x104, [(32, 16), (8, 4)], 0, 16, 1, 0xFFFF, false⟩,
   ⟨0x421, 0x421, 0x044, [], 0, 14, 64, 9600, true⟩,
   ⟨0x421, 0x421, 0x044, [], 16, 16, 1, 0xFFFF, false⟩,
   ⟨0x53D, 0x53D, 0x040, [], 0, 16, 240, 0xFFFF, false⟩,
   ⟨0x600, 0x67F, 0x04C, [], 0, 16, 16, 0xFFFF, false⟩,
   ⟨0x600, 0x67F, 0x10C, [(16, 4)], 2, 2, 0, 2, false⟩,
   ⟨0x701, 0x701, 0x3A0, [], 0, 16, 64, 32768, true⟩,
   ⟨0x780, 0x78F, 0x040, [], 8, 3, 0, 4, false⟩] ++
  (List.range 8).map (fun n => ⟨0x700, 0x77F, 0x400, [(512, 2), (64, 5), (4, 16)], 4 * n, 4, 0, 5, false⟩) ++
  [⟨0x220, 0x220, 0x048, [], 0, 11, 16, 1024, true⟩,
   ⟨0x220, 0x220, 0x054, [], 0, 4, 1, 15, false⟩,
   ⟨0x220, 0x220, 0x054, [], 16, 16, 0, 63488, true⟩,
   ⟨0x220, 0x220, 0x05C, [], 0, 16, 1024, 0xFFFF, true⟩,
   ⟨0x220, 0x220, 0x05C, [], 16, 8, 1, 255, false⟩,
   ⟨0x220, 0x220, 0x060, [], 20, 4, 1, 15, false⟩,
   ⟨0x800, 0x800, 0x040, [], 0, 5, 0, 16, true⟩,
   ⟨0x900, 0x91F, 0x040, [], 0, 9, 1, 511, false⟩,
   ⟨0x900, 0x91F, 0x044, [], 16, 16, 2048, 0xFFFF, true⟩,
   ⟨0x900, 0x91F, 0x100, [(64, 8)], 17, 5, 4, 16, false⟩,
   ⟨0xA00, 0xA00, 0x048, [], 0, 16, 1, 0xFFFF, false⟩,
   ⟨0xA00, 0xA00, 0x048, [], 16, 16, 2048, 0xFFFF, true⟩,
   ⟨0xA00, 0xA00, 0x04C, [], 0, 4, 2, 15, false⟩] ++
  [⟨0x011, 0x011, 0x040, [], 0, 10, 150, 650, true⟩,
   ⟨0x011, 0x011, 0x054, [], 0, 16, 1, 0xFFFF, false⟩,
   ⟨0xD00, 0xD00, 0x040, [], 8, 8, 1, 255, false⟩,
   ⟨0xD00, 0xD00, 0x060, [], 16, 8, 0, 110, false⟩,
   ⟨0xB00, 0xB3F, 0x040, [], 8, 16, 1, 0xFFFF, false⟩,
   ⟨0xB00, 0xB00, 0x804, [], 0, 5, 1, 31, false⟩,
   ⟨0xB00, 0xB00, 0x808, [], 0, 16, 196, 0xFFFF, true⟩,
   ⟨0x040, 0x040, 0x06C, [], 16, 16, 196, 0xFFFF, true⟩,
   ⟨0x053, 0x053, 0x800, [(4, 64)], 0, 6, 1, 61, false⟩,
   ⟨0x031, 0x031, 0x040, [], 0, 16, 1, 0xFFFF, false⟩,
   ⟨0x034, 0x034, 0x044, [], 0, 3, 1, 3, false⟩,
   ⟨0x012, 0x012, 0x080, [], 8, 4, 1, 15, false⟩]

/-- The ranges of the register at an offset of a page. -/
def rulesAt (page off : Nat) : List CodeRule :=
  codeRules.filter (fun r => r.first ≤ page && page ≤ r.last && r.off ≤ off && dimsHit (off - r.off) r.dims) ++
  (if isLocal page && 9 ≤ page % 16 && page % 16 ≤ 13 && off = 0x040 then [⟨page, page, 0x040, [], 1, 4, 4, 12, true⟩]
   else if isLocal page && 1 ≤ page % 16 && page % 16 ≤ 8 && off = 0x04C then
     [⟨page, page, 0x04C, [], 1, 5, 4, 16, false⟩]
   else [])

/-- The code of a two's complement field, clamped to a range. -/
def clampSigned (w lo hi : Nat) (x : Nat) : Nat :=
  let v := signed w x
  unsigned w (if v < -(lo : Int) then -(lo : Int) else if (hi : Int) < v then (hi : Int) else v)

/-- A written value after the clamps of its register's table. Log: entry 17 (DESIGN CHOICE). -/
def clampCodes (page off : Nat) (v : Word) : Word :=
  let v1 := (rulesAt page off).foldl (fun (a : Word) r =>
    if r.clamp then a.withField r.lo r.w (max r.okLo (min r.okHi (a.field r.lo r.w))) else a) v
  if pageClass page = 0x000B && off = 0x048 then
    v1.withField 0 8 (clampSigned 8 40 (if page ≤ 0x0207 then 40 else 10) (v1.field 0 8))
  else if page = Pg.ptp && off = 0x044 then BitVec.ofNat 32 (clampSigned 32 200000 200000 v1.toNat)
  else v1

/-- How many bits of a number are 1. -/
def popCount (w v : Nat) : Nat := ((List.range w).filter (fun b => (v >>> b) % 2 = 1)).length

/-- A written value carries an unassigned code or an out-of-range value (R112). The rules that look at two
fields together, or at other registers, stand beside the ranges. -/
def State.badCode (s : State) (page off : Nat) (v : Word) : Bool :=
  (rulesAt page off).any (fun r => !absentDirection page off r.lo && (v.field r.lo r.w < r.okLo || r.okHi < v.field r.lo r.w)) ||
  clampCodes page off v ≠ v ||
  (pageClass page = 0x000A && off = 0x048 && page ≠ 0x01A2 &&
    (63 < v.field 0 4 + v.field 8 6 + v.field 16 5 || v.field 8 6 < v.field 0 4 + v.field 16 5 + 8)) ||
  (pageClass page = 0x000B && off = 0x04C && v.field 16 16 < v.field 0 16) ||
  (0x0500 ≤ page && page ≤ 0x051F && off = 0x040 && 8 < popCount 16 (v.field 0 16)) ||
  (pageClass page = 0x0012 && 0x100 ≤ off && off < 0x300 && off % 8 = 4 && 1 ≤ v.field 16 14 && v.field 16 14 < 64) ||
  (page = Pg.nrg && off = 0x050 && 256 < v.field 0 8 + v.field 8 8 + v.field 16 8 + v.field 24 8) ||
  (page = Pg.pwr && off = 0x060 && v.field 0 8 ≤ v.field 8 8) ||
  (page = 0x0403 && off = 0x100 && v.toNat % 2 ^ (max 20 (min 28 (s.fld page ⟨0x108, 0, 5⟩)) + 7) ≠ 0) ||
  (page = 0x0403 && off = 0x104 && v.toNat % 2 ^ (max 20 (min 28 (s.fld page ⟨0x108, 0, 5⟩)) - 25) ≠ 0) ||
  (pageClass page = 0x001A && 0x100 ≤ off && off % 64 = 0 && off < 0x300 &&
    ((61 < v.field 0 8 && v.field 0 8 < 0xFE) || v.field 22 2 % 2 = 1))

/-- The bits of a page's register that hold nothing but zero (R111, R112). -/
def reservedMask (fs : List FieldSpec) : Word :=
  ~~~(fs.foldl (fun (m : Word) f => m.withField f.lo f.w (2 ^ f.w - 1)) 0)

/-- A field's value after a full-width write, by its access code (Table SCP-4); a W1C bit that the hardware sets in the same
clock, `set`, stays (R137). -/
def writeField (locked : Bool) (set old v : Word) (f : FieldSpec) : Word :=
  let o := old.field f.lo f.w
  let n := v.field f.lo f.w
  match f.acc with
  | .rw | .rws => old.withField f.lo f.w n
  | .rwl => if locked then old else old.withField f.lo f.w n
  | .w1c => old.withField f.lo f.w (o &&& ((2 ^ f.w - 1 - n) ||| set.field f.lo f.w))
  | .sc => old.withField f.lo f.w (o ||| n)
  | .ro | .rc | .wo => old

/-- A page's LOCK (R132). -/
def State.locked (s : State) (page : Nat) : Bool := s.bit page F.HDR_PAGE_LOCK

/-- A fault recorded in a page's ACCESS_FAULT (R116, R905), with its mirror in FAULT_SUM and FLT's count. -/
def State.recordFault (s : State) (p : Part) (cause : Nat) : State :=
  let n := min (s.fld p.page F.HDR_ACCESS_FAULT_COUNT + 1) 63
  let v := p.off + 4096 * p.size + 65536 * p.be + 2 ^ 20 * cause + 2 ^ 24 * n + 2 ^ 31
  let s1 := (s.noteSet p.page F.HDR_ACCESS_FAULT_VALID).setReg (regKey p.page 0x02C) (BitVec.ofNat 32 v)
  ((s1.putFault p.page 3 1).incFld Pg.flt F.FLT_ACCESS_FAULTS).raiseIrq Pg.flt 2

/-- The cause, if any, of a write: the first of R905's list; `extra` adds a block's own RSVD_SET. -/
def State.writeCause (s : State) (p : Part) (v : Word) (own extra : Bool) : Option Nat :=
  match regFields? p.page p.off with
  | none => some Cause.rsvdOffset
  | some fs =>
    if p.be ≠ 0xF then some Cause.narrowWr
    else if s.locked p.page && fs.any (fun f => f.acc = .rwl) then some Cause.lockedWr
    else if (fs ≠ [] && fs.all (fun f => f.acc = .ro || f.acc = .rc)) || (own && isLocal p.page && p.off = 0x03C) then
      some Cause.roWr
    else if v &&& reservedMask fs ≠ 0 || s.badCode p.page p.off v || extra then some Cause.rsvdSet
    else none

/-- The value of a register after an admitted full-width write; `keep` are bits a block's rule holds.
Log: entry 17 (DESIGN CHOICE). -/
def State.writtenValue (s : State) (p : Part) (v keep : Word) : Word :=
  let old := s.reg (regKey p.page p.off)
  let locked := s.locked p.page
  let new := (regFields p.page p.off).foldl (fun w f => writeField locked (s.regAt (regKey p.page p.off)).set w (clampCodes p.page p.off v) f) old
  if p.off = 0x02C then
    (if v.field 31 1 = 1 && (s.regAt (regKey p.page p.off)).set.field 31 1 = 0 then 0 else old)
  else if p.off = 0x03C then old ||| (v &&& 1)
  else (new &&& ~~~keep) ||| (old &&& keep)

/-- A write part performed on its page (R108 to R116, R905): the value stored, the fault recorded. `own` says
that the access came through the function's own BAR; `extra` and `keep` are a block's own refusal. -/
def State.applyWrite (s : State) (p : Part) (v : Word) (own : Bool := false) (extra : Bool := false)
    (keep : Word := 0) : State :=
  if s.absent p.page && p.off = 0x010 then s
  else
    let cause := s.writeCause p v own extra
    let stored := p.be = 0xF && (regFields? p.page p.off).isSome && !(own && isLocal p.page && p.off = 0x03C)
    let s1 := if stored then
        (s.noteLate (regKey p.page p.off)).setReg (regKey p.page p.off) (s.writtenValue p v keep)
      else s
    let s2 := match cause with
      | some c => s1.recordFault p c
      | none => s1
    if p.off = 0x02C && stored && cause.isNone && !s2.bit p.page F.HDR_ACCESS_FAULT_VALID then s2.putFault p.page 3 0
    else if p.off = 0x018 && stored then s2.syncAttention p.page
    else s2

/-- A full-width write part, of an access with a SIZE code. -/
def fullPart (page off : Nat) (size : Nat := 2) : Part := ⟨page, off, 0xF, size⟩

/-- A register written full-width from within, or by a command that names its register. -/
def State.write (s : State) (page off : Nat) (v : Word) : State := s.applyWrite (fullPart page off) v

/-! ### Accesses that no page answers (R103, R143) -/

/-- An access recorded in GBL_UNMAPPED_ADDR: its BAR offset, cause 1 UNASSIGNED or 2 RESTARTING; dropped writes are
counted. Log: entry 98 (DEDUCED). -/
def State.unmapped (s : State) (bar cause : Nat) (wr : Bool) : State :=
  let v := bar % 2 ^ 26 + 2 ^ 26 * cause + 2 ^ 30 * bitOf wr + 2 ^ 31
  let s1 := (s.noteSet Pg.gbl F.GBL_UNMAPPED_ADDR_VALID).setReg (regKey Pg.gbl F.GBL_UNMAPPED_ADDR_BAR.off) (BitVec.ofNat 32 v)
  if wr then s1.incFld Pg.gbl F.GBL_UNMAPPED_CNT else s1

/-- The page answers while GBL_STATUS.RESTARTING is 1: GBL, WDL, FLT, SEC, PCI, BYP, PWR and the local pages (R143, R906). -/
def answersRestart (page : Nat) : Bool :=
  decide (pageClass page ∈ [0x0001, 0x0002, 0x0004, 0x0005, 0x0009, 0x000C, 0x001E, 0x0020])

/-- The cause for which no page answers an access; none where the page answers. An unassigned slot of PF0 is UNASSIGNED while
the main domain restarts too. Log: entry 115 (DESIGN CHOICE). -/
def State.dropCause (s : State) (page : Nat) : Option Nat :=
  if !assigned page then some 1
  else if s.bit Pg.gbl F.GBL_STATUS_RESTARTING && !answersRestart page then some 2
  else none

/-- A write that a command makes of a register of PF0: dropped and recorded where no page answers (R103, R143). -/
def State.onPage (s : State) (page off : Nat) (f : State → State) : State :=
  match s.dropCause page with
  | some c => s.unmapped (page * 4096 + off) c true
  | none => f s

/-- A read that a command makes of a register of PF0: 0 or all ones, recorded, where no page answers (R103, R143). -/
def State.readPage (s : State) (page off : Nat) (f : State → State) : State :=
  match s.dropCause page with
  | some c => { (s.unmapped (page * 4096 + off) c false) with rdata := [if c = 1 then 0 else 0xFFFFFFFF] }
  | none => f s

end Sys2Proof.Machine
end

