-- ==== Sys2Proof/Machine/Mem.lean ====
section
/-!
DEFINITION. Byte memories: sparse lists of address and byte in one canonical form, addresses strictly rising
and no byte equal to what an unlisted address reads as.
-/

set_option Elab.async false

namespace Sys2Proof.Machine

/-- A byte memory; an address not listed reads `d`. -/
abbrev Mem := FMap (BitVec 8)

/-- The canonical form. -/
def Mem.wf (d : BitVec 8) (m : Mem) : Bool := FMap.sorted m && m.all (fun e => e.2 ≠ d)

/-- The byte at an address. Log: entry 19 (PRESUMED). -/
def Mem.byte (d : BitVec 8) (m : Mem) (a : Nat) : Nat := (FMap.getD m a d).toNat

/-- The byte at an address set. -/
def Mem.setByte (d : BitVec 8) (m : Mem) (a v : Nat) : Mem := FMap.setC m a (BitVec.ofNat 8 v) d

/-- `n` bytes from an address on. -/
def Mem.bytes (d : BitVec 8) (m : Mem) (a n : Nat) : List Nat := (List.range n).map (fun i => Mem.byte d m (a + i))

/-- A list of bytes stored from an address on. -/
def Mem.store (d : BitVec 8) (m : Mem) (a : Nat) : List Nat → Mem
  | [] => m
  | v :: t => Mem.store d (Mem.setByte d m a v) (a + 1) t

/-- A run of addresses put back to the unlisted value. -/
def Mem.clear (m : Mem) (a n : Nat) : Mem := m.filter (fun e => !(a ≤ e.1 && e.1 < a + n))

/-- Bytes, most significant first, as a number. -/
def beNat (l : List Nat) : Nat := l.foldl (fun a b => a * 256 + b % 256) 0

/-- Bytes, least significant first, as a number. -/
def leNat (l : List Nat) : Nat := l.foldr (fun b a => a * 256 + b % 256) 0

/-- A number as `n` bytes, most significant first. -/
def beBytes (n v : Nat) : List Nat := (List.range n).map (fun i => v / 256 ^ (n - 1 - i) % 256)

/-- A number as `n` bytes, least significant first. -/
def leBytes (n v : Nat) : List Nat := (List.range n).map (fun i => v / 256 ^ i % 256)

/-- `n` bytes of a list from an offset on. -/
def sliceOf (l : List Nat) (o n : Nat) : List Nat := (l.drop o).take n

/-- A number read from `n` bytes of a list, most significant first. -/
def beAt (l : List Nat) (o n : Nat) : Nat := beNat (sliceOf l o n)

/-- A list with bytes written over it from an offset on. -/
def patch (l : List Nat) (o : Nat) (v : List Nat) : List Nat := l.take o ++ v ++ l.drop (o + v.length)

/-- One byte of a reflected CRC-32C. -/
def crc32cByte (c b : Nat) : Nat :=
  (List.range 8).foldl (fun a _ => if a % 2 = 1 then (a / 2) ^^^ 0x82F63B78 else a / 2) (c ^^^ b)

/-- The CRC-32 of IEEE 802.3: polynomial 0x04C11DB7 reflected, initial value all ones, final inversion. -/
def crc32 (l : List Nat) : Nat :=
  (l.foldl (fun c b => (List.range 8).foldl (fun a _ => if a % 2 = 1 then (a / 2) ^^^ 0xEDB88320 else a / 2) (c ^^^ b))
    0xFFFFFFFF) ^^^ 0xFFFFFFFF

/-- CRC-32C (R290): polynomial 0x1EDC6F41 reflected, initial value all ones, final inversion. -/
def crc32c (l : List Nat) : Nat := (l.foldl crc32cByte 0xFFFFFFFF) ^^^ 0xFFFFFFFF

end Sys2Proof.Machine
end

