-- ==== Sys2Proof/Machine/FlowTable.lean ====
section
/-!
DEFINITION. DDR5 as it is addressed, read and written (R534, R541); flow records as bytes (Table STG-3), and the DDR flow table:
its place, its slots (R290, R326).
-/

set_option Elab.async false

namespace Sys2Proof.Machine

open Sys2Proof

/-! ### DDR5 as it is addressed -/

/-- The memories' own part changed. -/
def State.memMap (s : State) (f : Memory → Memory) : State := { s with memory := f s.memory }

/-- Populated channels (Table DMC-3). -/
def State.ddrChannels (s : State) : Nat := s.fld (Pg.dmc 0) F.DMC_POP_b0

/-- Channel and channel-local address of a DDR address (R534). -/
def State.ddrLocal (s : State) (a : Nat) : Nat × Nat :=
  let n := max 1 s.ddrChannels
  (a / 1024 % n, a / 1024 / n * 1024 + a % 1024)

/-- The 64 B lines a run of bytes touches. -/
def linesOf (a n : Nat) : List Nat := if n = 0 then [] else (List.range ((a + n - 1) / 64 - a / 64 + 1)).map (a / 64 + ·)

/-- Does a run of DDR bytes read poison? Log: entry 87 (DEDUCED). -/
def State.ddrPoison (s : State) (a n : Nat) : Bool := (linesOf a n).any (fun l => decide (l ∈ s.memory.badDdr))

/-- DDR bytes read. Log: entry 19 (PRESUMED), entry 87 (DEDUCED). -/
def State.ddrRead (s : State) (a n : Nat) : List Nat := Mem.bytes 0 s.ddr a n

/-- DDR bytes written; a line written whole reads poison no longer (R541). Log: entry 108 (DEDUCED). -/
def State.ddrWrite (s : State) (a : Nat) (b : List Nat) : State :=
  { s with ddr := Mem.store 0 s.ddr a b }.memMap (fun m => { m with
    badDdr := m.badDdr.filter (fun l => !(a ≤ 64 * l && 64 * l + 64 ≤ a + b.length)) })

/-- A run of DDR bytes touches a row unit whose copy to a spare is not done: requests to it wait (R541, R559). -/
def State.ddrBusy (s : State) (a n : Nat) : Bool :=
  s.memory.chans.any (fun e => e.2.copying.any (fun row => (linesOf a n).any (fun l =>
    s.ddrLocal (64 * l) = (e.1, (s.ddrLocal (64 * l)).2) && (s.ddrLocal (64 * l)).2 / 8192 = row)))

/-! ### Flow records -/

/-- A record's bytes (Table STG-3), most significant byte first. -/
def FlowRec.toBytes (r : FlowRec) : List Nat :=
  beBytes 40 r.key ++ [bitOf r.valid + 2 * r.creator + 4 * bitOf r.closed, r.tcp.1 + 16 * r.tcp.2, r.gen, 0] ++
  beBytes 4 r.reasm ++   beBytes 4 r.frames.1 ++ beBytes 4 r.frames.2 ++ beBytes 8 r.octets.1 ++ beBytes 8 r.octets.2 ++
  beBytes 4 r.first ++ beBytes 4 r.last ++ beBytes 4 r.counts.1 ++ beBytes 4 r.counts.2 ++
  beBytes 4 r.next.1 ++ beBytes 4 r.next.2 ++ beBytes 4 r.isn ++ beBytes 12 r.carve ++
  (r.annot ++ List.replicate 16 0).take 16

/-- A record read from its 128 bytes. -/
def FlowRec.ofBytes (l : List Nat) : FlowRec where
  key := beAt l 0 40
  valid := beAt l 0x28 1 % 2 = 1
  creator := beAt l 0x28 1 / 2 % 2
  closed := beAt l 0x28 1 / 4 % 2 = 1
  tcp := (beAt l 0x29 1 % 16, beAt l 0x29 1 / 16)
  gen := beAt l 0x2A 1 % 8
  frames := (beAt l 0x30 4, beAt l 0x34 4)
  octets := (beAt l 0x38 8, beAt l 0x40 8)
  first := beAt l 0x48 4
  last := beAt l 0x4C 4
  counts := (beAt l 0x50 4, beAt l 0x54 4)
  next := (beAt l 0x58 4, beAt l 0x5C 4)
  isn := beAt l 0x60 4
  reasm := beAt l 0x2C 4
  carve := beAt l 0x64 12
  annot := sliceOf l 0x70 16

/-- The page that governs the flow table, S3 of P0 (R326). -/
def ftPage : Nat := Pg.stg 0 3

/-- FT_SIZE, clamped. -/
def State.ftSize (s : State) : Nat := max 20 (min 28 (s.inForce ftPage F.STG_FT_CTL_FT_SIZE))

/-- FT_BASE; the bits below the table's size are treated as 0. -/
def State.ftBase (s : State) : Nat :=
  let a := 2 ^ (s.ftSize + 7)
  (s.inForce ftPage F.STG_FT_BASE_LO + 2 ^ 32 * s.inForce ftPage F.STG_FT_BASE_HI) / a * a

/-- The DDR address of a record's slot (R290). -/
def State.slotAddr (s : State) (slot : Nat) : Nat := s.ftBase + 128 * slot

/-- The record in a slot of the DDR table. -/
def State.slotRec (s : State) (slot : Nat) : FlowRec := FlowRec.ofBytes (Mem.bytes 0 s.ddr (s.slotAddr slot) 128)

/-- A record written to its slot. -/
def State.writeSlot (s : State) (slot : Nat) (r : FlowRec) : State :=
  s.ddrWrite (s.slotAddr slot) r.toBytes

end Sys2Proof.Machine
end

