-- ==== Sys2Proof/Machine/ResetOps.lean ====
section
/-!
DEFINITION. The reset of the main domain, warm or cold, as one operation: what each page and each part of the state keeps
(Table FLT-5, R94, R132, R144, R145, R278, R402, R450, R519, R566, R601, R826).
-/

set_option Elab.async false

namespace Sys2Proof.Machine

open Sys2Proof

/-- Pages that no reset of the main domain touches: the security island, the bypass island with line engines 0 to 7, the
endpoint with the local pages (Table FLT-5, R605, R906). -/
def islandPage (page : Nat) : Bool :=
  isLocal page || pageClass page = 0x0005 || pageClass page = 0x0009 || pageClass page = 0x000C || (0x0200 ≤ page && page ≤ 0x0207)

/-- A word of ones. -/
def allOnes : Nat := 0xFFFFFFFF

/-- UNIT_STATE of a unit whose state a warm restart keeps: all but PENDING, since its request is not kept. -/
def keptState : Nat := 0xFEFFFFFF

/-- Bits kept by a cold restart too: GBL's identity and start-up registers, the FLT registers of R826 with the mirrors of
attention, WDL_PRESET, the crash dump's registers. `full` is a power-on or RESET_N, which resets the FLT registers and the
preset as well. Log: entry 73 (DEDUCED). -/
def coldKeep (full : Bool) (page off : Nat) : Nat :=
  if page = Pg.gbl then (if off = 0x044 || off = 0x048 || off = 0x04C || (0x060 ≤ off && off < 0x0C0) then allOnes else 0)
  else if page = Pg.flt then
    (if off = 0x044 then allOnes else if full then 0 else if (0x040 ≤ off && off ≤ 0x058) || (0x080 ≤ off && off ≤ 0x0A8) then allOnes else 0)
  else if page = Pg.fltAtt then (if 0x040 ≤ off then allOnes else 0)
  else if page = Pg.wdl then (if !full && (off = 0x054 || off = 0x058) then allOnes else 0)
  else if page = Pg.cpc 10 then (if off = 0x040 || off = 0x050 then allOnes else 0)
  else 0

/-- Bits kept by a warm restart beside RWS fields, PAGE_LOCK and the counts of R144. Log: entry 73 (DEDUCED). -/
def warmKeep (page off : Nat) (v : Word) : Nat :=
  if off = 0x03C then 1
  else if off = 0x01C then 0x7FFFFFFF
  else if off = 0x00C && v.field 0 3 = 6 then keptState
  else match pageClass page with
    | 0x0002 => allOnes
    | 0x0003 => if off = 0x068 then allOnes else 0
    | 0x0006 =>
      if page = 0x0030 then (if off = 0x040 then 0x38 else if off = 0x048 then allOnes else 0)
      else if page = 0x0031 then (if off = 0x044 then 0xFFFF0001 else 0)
      else if page = 0x0032 && off = 0x054 then allOnes else 0
    | 0x0007 => if off = 0x040 || off = 0x054 || off = 0x058 || off = 0x060 || off = 0x064 || (0x080 ≤ off && off < 0x0C0) then allOnes else 0
    | 0x0008 =>
      if page = 0x0040 then (if off = 0x040 then 8 else if off = 0x064 then allOnes else 0)
      else if page = 0x004B && off = 0x040 && v.field 0 3 = 6 then allOnes else 0
    | 0x000B => if 0x104 ≤ off && off % 32 = 4 && v.field 0 3 = 6 then allOnes else 0
    | 0x000D =>
      if page = 0x0220 then (if off = 0x044 then 0x38 else 0)
      else if page ≤ 0x0224 then (if off = 0x040 then allOnes else 0)
      else if page ≤ 0x0228 then 0
      else if page ≤ 0x0230 then (if off = 0x044 then 0xFFFF else 0)
      else if 0x080 ≤ off && off < 0x0C0 then allOnes else 0
    | 0x000F =>
      if off = 0x050 then allOnes
      else if 0x100 ≤ off && off < 0x180 then (if off % 32 < 16 then allOnes else 0)
      else if 0x200 ≤ off && off < 0x600 then allOnes else 0
    | 0x0011 => if page % 16 = 3 && off = 0x10C then allOnes else 0
    | 0x0014 =>
      if page ≤ 0x051F then (if off = 0x00C then keptState else if off = 0x040 then allOnes else 0)
      else if page = 0x0520 then (if off = 0x048 then allOnes else 0)
      else if page ≤ 0x0524 then (if off = 0x044 || off = 0x048 then allOnes else 0)
      else if 0x052D ≤ page && page ≤ 0x053C then (if off = 0x00C then keptState else if off = 0x040 || off = 0x044 then allOnes else 0) else 0
    | 0x001B => if off = 0x040 || off = 0x044 || off = 0x060 then allOnes else 0
    | _ => 0

/-- The bits of RWS fields of a register. -/
def rwsMask (page off : Nat) : Nat :=
  (regFields page off).foldl (fun m f => if f.acc = .rws then m ||| ((2 ^ f.w - 1) <<< f.lo) else m) 0

/-- A register's value after a reset of the main domain. A cold reset returns the header of the SEC and PCI pages to its reset
values too, but for the unit's state and, except at power-on and RESET_N, its reason (R132, R145).
Log: entry 2 (DESIGN CHOICE). -/
def resetReg (warm full : Bool) (k : Nat) (v : Word) : Word :=
  let page := k / 4096
  let off := k % 4096
  if islandPage page then
    if warm || 0x040 ≤ off || isLocal page || pageClass page = 0x000B || pageClass page = 0x000C then v
    else if off = 0x00C then v &&& (if full then 0x7 else 0xFF07)
    else regReset k
  else
    let m := coldKeep full page off ||| (if warm then rwsMask page off ||| warmKeep page off v else 0)
    let mask : Word := BitVec.ofNat 32 m
    (regReset k &&& ~~~mask) ||| (v &&& mask)

/-- A register file after a reset of the main domain. Log: entry 2 (DESIGN CHOICE), entry 73 (DEDUCED). -/
def resetFile (warm full : Bool) (m : FMap Word) : FMap Word :=
  m.foldl (fun (a : FMap Word) e => FMap.setC a e.1 (resetReg warm full e.1 e.2) (regReset e.1)) []

/-- The registers a warm restart starts from: where a value was written and is not in force yet, RWS fields hold the one in force
(R831). -/
def State.inForceFile (s : State) : FMap Word :=
  ((s.written ++ FMap.keys s.late ++ FMap.keys s.held).filter (fun k => !islandPage (k / 4096) && k / 4096 ≠ Pg.wdl)).foldl
    (fun (m : FMap Word) k =>
      let mask : Word := BitVec.ofNat 32 (rwsMask (k / 4096) (k % 4096))
      FMap.setC m k ((s.reg k &&& ~~~mask) ||| (s.regInForce k &&& mask)) (regReset k)) s.regs

/-- Pages that a reset keeps whole: those it does not touch, and the WDL page at a warm restart (R94). -/
def keptPage (warm : Bool) (page : Nat) : Bool := islandPage page || (warm && page = Pg.wdl)

/-- The entries of a map whose page a reset keeps. -/
def keepPages {α : Type} (warm : Bool) (page : Nat → Nat) (m : FMap α) : FMap α := m.filter (fun e => keptPage warm (page e.1))

/-- The pipeline after a reset: a warm restart keeps what R144 keeps of its stores' retirement.
Log: entry 3 (DESIGN CHOICE). -/
def resetPipe (warm : Bool) (p : Pipeline) : Pipeline :=
  if warm then { Pipeline.empty with eccTicks := p.eccTicks, dead := p.dead, pseq := p.pseq } else Pipeline.empty

/-- The memories after a reset (R566). Log: entry 3 (DESIGN CHOICE). -/
def resetMemory (warm : Bool) (m : Memory) : Memory :=
  if warm then { m with direct := [], badDirect := [], banks := [] } else ⟨0, [], [], [], [], [], 0, []⟩

/-- The Lightwell after a reset (R519): a warm restart keeps bank tables, calibration, trims, lit lasers and the epoch in
force, which is due again to every consumer. Log: entry 3 (DESIGN CHOICE). -/
def resetLwl (warm : Bool) (l : Lwl) : Lwl :=
  let z : Lwl := ⟨[], none, [], 0, 0, none, 0, 0, [], [], 0, 0, false, [], [], [], [], [], 95, [], [], none, none, none, [], [], 0, false, [], [], [], [], 0⟩
  if warm then
    { z with
      table := l.table
      measured := l.measured
      trims := l.trims
      drives := l.drives
      dark := l.dark
      gains := l.gains
      epoch := l.epoch
      due := l.epoch
      xtForce := l.xtForce }
  else z

/-- The energy part after a reset (R601). Log: entry 3 (DESIGN CHOICE). -/
def resetEnergy : Energy := ⟨[0, 0, 0, 0], 0, 0, 0, 0, [], 240, 0, false, 0, 0, false, false, none, none, 0, none, none, false, false⟩

/-- The configuration controller after a reset: a warm restart keeps the frames and the pass sent last (R402, R748).
Log: entry 3 (DESIGN CHOICE). -/
def resetLoad (warm : Bool) (l : Load) : Load :=
  let z : Load := ⟨0, [], [], none, 0, none, none, 0, [], [], [], [], 0, 0, [], false, 0⟩
  if warm then { z with frames := l.frames, fresh := l.fresh, others := l.others, stream := l.stream } else z

/-- The control processors after a reset (Table CPC-1, R685): a warm restart keeps the images and the checkpoints of the
mandatory state blocks; the crash dump stays. Log: entry 3 (DESIGN CHOICE). -/
def resetCpc (warm : Bool) (c : Cpc) : Cpc :=
  let z : Cpc := ⟨[], [], none, [], [], none, [], [], 0, [], (0, 0), [], [], c.dump, c.dumpSeq, [], none, [], 0⟩
  if warm then { z with img := c.img, info := c.info, neg := c.neg, retired := c.retired } else z

/-- Outstanding reads of the Pumps lose their owner. Log: entry 3 (DESIGN CHOICE). -/
def resetPumps (p : Pumps) : Pumps := ⟨[], [], p.tags.map (fun e => (e.1, { e.2 with orphan := true }))⟩

/-- Units whose state a warm restart keeps, whatever it is: the Windlass, regions and FCGs (R94, R402). -/
def keepsUnit (page : Nat) : Bool := page = Pg.wdl || (0x0500 ≤ page && page ≤ 0x051F) || (0x052D ≤ page && page ≤ 0x053C)

/-- Units whose state the restart set read REASON SAFE_STATE; those whose state it keeps keep their reason (R145). -/
def State.safeReasons (s : State) (warm : Bool) : State :=
  ((List.range 0x0D01).filter (fun p => hasUnit p && !islandPage p && !(warm && keepsUnit p))).foldl (fun (t : State) p =>
    if t.unit p = uOff || p = Pg.wdl && t.unit p = uPrimed then t.setFld p F.HDR_UNIT_STATE_REASON Reason.safeState else t) s

/-- PERMANENT and attention brought up to date on the pages that were listed. -/
def State.syncPages (s : State) (pages : List Nat) : State :=
  pages.foldl (fun (t : State) p => if hasUnit p then t.syncPermanent p else t.syncAttention p) s

/-- The flow-state cache written back to the DDR table, where every S3 unit was DRAINING as a warm restart began (R327). -/
def State.flushCache (s : State) (warm : Bool) : State :=
  if warm && s.unit (Pg.stg 0 3) = uDraining && s.unit (Pg.stg 1 3) = uDraining then
    s.pipe.cache.foldl (fun (t : State) e => match e.2.slot with
      | some n => if e.2.dirty then t.writeSlot n e.2.body else t
      | none => t) s
  else s

/-- What the main domain holds, at its reset values; only the attention summary, the reasons and a count are still to be
brought up to date. -/
def State.resetHeld (s : State) (warm : Bool) (full : Bool) : State :=
  let s1 := { s with
    regs := resetFile warm full (if warm then s.inForceFile else s.regs), force := resetFile warm full s.force, late := keepPages warm (· / 4096) s.late,
    held := keepPages warm (· / 4096) s.held,
    written := s.written.filter (fun k => keptPage warm (k / 4096)), snaps := keepPages warm (· / 4096) s.snaps,
    snapAt := keepPages warm id s.snapAt, wideHi := keepPages warm (· / 4096) s.wideHi,
    units := s.units.filter (fun e => islandPage e.1 || (warm && e.1 = Pg.wdl)) }
  let s2 := { s1 with
    wdl := if warm then s.wdl else Windlass.cold s.wdl.lrefOk,
    lanes := [], chans := s.chans.filter (fun e => e.1 < 64),
    ports := if warm then s.ports.map (fun (e : Nat × PortAux) => (e.1, ⟨false, 0, 0, e.2.xpn, e.2.thr⟩)) else [],
    saks := if warm then s.saks else [], pipe := resetPipe warm s.pipe, ddr := if warm then s.ddr else [],
    ryk := ⟨[], [], [], [], [], [], []⟩, host := { s.host with injTaken := [], injDone := [] }, energy := resetEnergy,
    net := ⟨[], [], [], [], [], []⟩, tiles := [], batches := if warm then ⟨[], s.batches.base, s.batches.slots, none⟩ else ⟨[], 0, 0, none⟩ }
  { s2 with
    memory := resetMemory warm s.memory, pumps := resetPumps s.pumps, lwl := resetLwl warm s.lwl,
    load := resetLoad warm s.load, fabric := if warm then s.fabric else ⟨[], false, []⟩, cpc := resetCpc warm s.cpc,
    pins := { s.pins with mainReset := true, hbOut := false } }

/-- The records that a warm restart finds in the tap FIFOs are lost and counted on their taps' pages (R402). -/
def State.tapsLost (before s : State) : State :=
  before.pipe.taps.foldl (fun (a : State) e => a.incFld (Pg.fab (0x21 + e.1 / 2)) (F.FAB_TAP_OVERFLOW (e.1 % 2)) e.2.length) s

/-- The main domain reset: the registers, then all it holds beside them. `full` says power-on or RESET_N.
Log: entry 73 (DEDUCED), entry 88 (DEDUCED). -/
def State.resetMain (s : State) (warm full : Bool) : State :=
  let pages := ((FMap.keys s.regs).map (· / 4096)).eraseDups
  let s3 := (s.flushCache warm).resetHeld warm full
  let s4 := if full then s3 else s3.safeReasons warm
  let s5 := ((List.range 8).foldl State.syncDelay (if warm then State.tapsLost s s4 else s4)).syncPages pages
  if warm then s5
  else
    let p := s5.fld Pg.wdl F.WDL_PRESET_LO + 2 ^ 32 * s5.fld Pg.wdl F.WDL_PRESET_HI
    { s5 with count := p, safe := { s5.safe with loaded := false } }

end Sys2Proof.Machine
end

