-- ==== Sys2Proof/Machine/SafeOps.lean ====
section
/-!
DEFINITION. The bypass engagement (R222), the start-up milestones (R856), and taking the safe state as one
shared operation (R804 to R807, R816 to R818), which every trigger of Table FLT-4 calls.
-/

set_option Elab.async false

namespace Sys2Proof.Machine

open Sys2Proof

/-! ### Milestones (Table STU-3) -/

/-- Microseconds from M as the reset's own reference shows them now (R15, R856). Log: entry 20 (DESIGN CHOICE). -/
def State.usNow (s : State) : Nat := if s.pins.mainReset then 0 else min (s.safe.sinceM + s.free) (2 ^ 32 - 1)

/-- The time since M read. -/
def State.clockM (s : State) : State := s.drawn.safeMap (fun x => { x with sinceM := s.usNow })

/-- A milestone recorded with the time read last, unless it has occurred (R856). -/
def State.stampBoot (s : State) (k : Nat) : State :=
  if s.bit Pg.gbl ⟨0x060, k, 1⟩ then s
  else (s.setFld Pg.gbl ⟨0x060, k, 1⟩ 1).setFld Pg.gbl (F.GBL_BOOT_T k) s.safe.sinceM

/-- A milestone reached: recorded once, with its time (R856). Log: entry 20 (DESIGN CHOICE). -/
def State.milestone (s : State) (k : Nat) : State := if s.bit Pg.gbl ⟨0x060, k, 1⟩ then s else s.clockM.stampBoot k

/-! ### The bypass (Table BYP-2) -/

def Engage.notInService : Nat := 1
def Engage.safeState : Nat := 2
def Engage.hbLoss : Nat := 3
def Engage.mainPg : Nat := 4
def Engage.forcePin : Nat := 5
def Engage.forceReg : Nat := 6
def Engage.resetPin : Nat := 7

/-- Is a pair engaged? -/
def State.engaged (s : State) (p : Nat) : Bool := s.bit Pg.byp ⟨0x048, p, 1⟩

/-- Is a pair in service (R56)? Both ports enter and leave together. -/
def State.inService (s : State) (p : Nat) : Bool := s.bit (Pg.lnp (2 * p)) F.LNP_STATUS_IN_SERVICE

/-- A pair's two ports put in or out of service. -/
def State.setService (s : State) (p : Nat) (b : Bool) : State :=
  (s.setFld (Pg.lnp (2 * p)) F.LNP_STATUS_IN_SERVICE (bitOf b)).setFld (Pg.lnp (2 * p + 1))
    F.LNP_STATUS_IN_SERVICE (bitOf b)

/-- A pair engaged with a cause (R222): the pair is out of service; a pair engaged already stays as it is.
The time from the trigger to the output is a measurement of at most 25 µs, in 10 ns units.
Log: entry 89 (DEDUCED). -/
def State.engagePair (s : State) (cause p : Nat) : State :=
  let s1 := s.setService p false
  if s1.engaged p then s1
  else
    let at64 := if s1.wdl.stopped then 0 else s1.count
    let s2 := (s1.setFld Pg.byp ⟨0x048, p, 1⟩ 1).incFld Pg.byp F.BYP_ENGAGES_b0
    let s3 := (s2.setFld Pg.byp F.BYP_STATUS_LAST_CAUSE cause).setFld Pg.byp F.BYP_ENG_WDL_LO (at64 % 2 ^ 32)
    let s4 := (s3.setFld Pg.byp F.BYP_ENG_WDL_HI (at64 / 2 ^ 32)).setFld Pg.byp F.BYP_ENG_TIME (s3.free % 2501)
    s4.drawn.raiseIrq Pg.byp 0

/-- Every pair engaged with a cause. -/
def State.engageAll (s : State) (cause : Nat) : State := [0, 1, 2, 3].foldl (State.engagePair · cause) s

/-! ### The safe state -/

def SState.normal : Nat := 0
def SState.entering : Nat := 1
def SState.warm : Nat := 2
def SState.cold : Nat := 3
def SState.halted : Nat := 4

/-- The trigger codes of Table FLT-4. -/
def Trig.stageFault : Nat := 1
def Trig.sumpFault : Nat := 2
def Trig.windlass : Nat := 3
def Trig.clock : Nat := 4
def Trig.thermalCrit : Nat := 5
def Trig.pwrFault : Nat := 6
def Trig.fltErr : Nat := 7
def Trig.host : Nat := 8
def Trig.hbLoss : Nat := 9
def Trig.mainPg : Nat := 10
def Trig.resetN : Nat := 11

/-- SAFE_STATUS.SSTATE. -/
def State.sstate (s : State) : Nat := s.fld Pg.flt F.FLT_SAFE_STATUS_SSTATE

/-- SSTATE set, with GBL_STATUS.RESTARTING: 1 in WARM, COLD and HALTED (R143, R806). -/
def State.setSState (s : State) (v : Nat) : State :=
  (s.setFld Pg.flt F.FLT_SAFE_STATUS_SSTATE v).setFld Pg.gbl F.GBL_STATUS_RESTARTING (bitOf (2 ≤ v))

/-- SAFE_LIMIT; 0 is treated as 1. -/
def State.safeLimit (s : State) : Nat := max 1 (s.fld Pg.flt F.FLT_SAFE_CTL_SAFE_LIMIT)

/-- WINDOW brought up to date: the entries within the last 24,000 turns, stopping at SAFE_LIMIT (R812, R815). -/
def State.updateWindow (s : State) : State :=
  let es := s.safe.entries.filter (fun t => s.safe.ticks < t + 24000)
  ({ s with safe := { s.safe with entries := es } }).setFld Pg.flt F.FLT_SAFE_STATUS_WINDOW (min es.length s.safeLimit)

/-- One more entry counted in WINDOW. -/
def State.countEntry (s : State) : State :=
  ({ s with safe := { s.safe with entries := s.safe.ticks :: s.safe.entries } }).updateWindow

/-- WINDOW stands at SAFE_LIMIT (R812). Log: entry 75 (DEDUCED). -/
def State.windowFull (s : State) : Bool := s.safeLimit ≤ s.fld Pg.flt F.FLT_SAFE_STATUS_WINDOW

/-- Does a set of triggers demand a cold restart (Table FLT-4)? -/
def trigsCold (codes : List Nat) : Bool := codes.any (fun c => c = 3 || c = 7 || c = 10 || c = 11)

/-- Triggers added to SAFE_TRIGS. -/
def State.addTrigs (s : State) (codes : List Nat) : State :=
  codes.foldl (fun t c => t.setFld Pg.flt ⟨0x088, c, 1⟩ 1) s

/-- STG, LNP and MSC units that are ACTIVE. -/
def State.activeLine (s : State) : List Nat :=
  ((List.range 16).map (0x0300 + ·) ++ (List.range 12).map (0x0400 + ·) ++ (List.range 12).map (0x0410 + ·)).filter
    (fun p => s.unit p = uActive)

/-- What an entry records: CAUSE, the codes present, the unit concerned, the count; it counts in WINDOW (R804, R816,
R818). Log: entry 74 (DEDUCED). -/
def State.recordEntry (s : State) (codes : List Nat) (src : Option Nat) : State :=
  let c := codes.foldl min 15
  let s1 := ((s.setFld Pg.flt F.FLT_SAFE_STATUS_CAUSE c).setFld Pg.flt F.FLT_SAFE_TRIGS 0).addTrigs codes
  let s2 := (s1.setFld Pg.flt F.FLT_SAFE_SRC_b0 (src.getD 0)).setFld Pg.flt F.FLT_SAFE_SRC_VALID (bitOf src.isSome)
  let s3 := (s2.setFld Pg.flt F.FLT_SAFE_WDL_LO (s.count % 2 ^ 32)).setFld Pg.flt F.FLT_SAFE_WDL_HI (s.count / 2 ^ 32)
  s3.countEntry

/-- Frames in the pipeline, lost and not counted (R805). -/
def Pipeline.lose (p : Pipeline) : Pipeline := { p with
  frames := [], queues := [], ready := [], sealQs := [], itemWait := [], primaries := [], copies := [], outCopies := [],
  diverts := [], captures := [], misses := [] }

/-- An update that was committed is abandoned (R718). -/
def State.abandonUpdate (s : State) : State :=
  if s.fld (Pg.cpc 11) F.CPC_UPD_STATUS_b0 = 3 then
    (({ s with cpc := { s.cpc with update := none } }).setFld (Pg.cpc 11) F.CPC_UPD_STATUS_b0 6).setFld (Pg.cpc 11)
      F.CPC_UPD_STATUS_b8 3
  else s

/-- Triggers with a dump window (Table FLT-4). -/
def dumpWindow (codes : List Nat) : Bool := codes.all (fun c => c ≠ 7 && c ≠ 9 && c ≠ 10 && c ≠ 11)

/-- The firmware begins the crash dump of a safe-state entry, or counts it lost (R705, R806). -/
def State.dumpBegins (s : State) (codes : List Nat) : State :=
  let st := s.fld (Pg.cpc 0) F.CPC_FW_STATE_STATE
  if !dumpWindow codes || st = 0 || 6 ≤ st then s
  else if s.bit (Pg.cpc 10) F.CPC_DUMP_STATUS_VALID then s.incFld (Pg.cpc 10) F.CPC_DUMPS_LOST
  else s.setFld (Pg.cpc 10) F.CPC_DUMP_STATUS_WRITING 1

/-- The first entry into the safe state (R804, R805): the record, FAULT_N through SSTATE, the pairs, the frames in the
pipeline. The Ryuklin transmitters are idle while SSTATE is not NORMAL (R680). SAFE_CTL.PREF counts as it stands at the trigger (R807,
Table MOD-1), and TX_SA_NPN stands at the next packet
number already (R278). Log: entry 74 (DEDUCED). -/
def State.enterSafe (s : State) (codes : List Nat) (src : Option Nat) : State :=
  let s3 := s.recordEntry codes src
  let s4 := { s3 with safe := { s3.safe with
    trigTick := s.safe.ticks
    cold := !s.safe.loaded || trigsCold codes || s.bit Pg.flt F.FLT_SAFE_CTL_PREF
    resume := s.activeLine } }
  let s5 := (s4.setSState SState.entering).raiseIrq Pg.flt 3
  let s6 := { s5 with pipe := s5.pipe.lose }
  (s6.abandonUpdate.dumpBegins codes).engageAll Engage.safeState

/-- A restart starts, cold from its first step: the main-domain reset asserted, or HALTED where WINDOW is full (R806, R812). -/
def State.startRestart (s : State) (cold : Bool) : State :=
  let s1 := s.resetMain (!cold) false
  if s1.windowFull then (s1.setSState SState.halted).raiseIrq Pg.flt 5
  else s1.setSState (if cold then SState.cold else SState.warm)

/-- The count of the entry recorded last (SAFE_WDL). -/
def State.entryCount (s : State) : Nat := s.fld Pg.flt F.FLT_SAFE_WDL_LO + 2 ^ 32 * s.fld Pg.flt F.FLT_SAFE_WDL_HI

/-- Triggers added to the entry that has been taken (R817); those of the entry's own clock give it the lowest code (R816). -/
def State.joinEntry (s : State) (codes : List Nat) (src : Option Nat) : State :=
  let s1 := s.addTrigs codes
  let s2 := { s1 with safe := { s1.safe with cold := s1.safe.cold || trigsCold codes || s.bit Pg.flt F.FLT_SAFE_CTL_PREF } }
  let c := codes.foldl min 15
  if s.wdl.stopped || s.count ≠ s.entryCount || s.fld Pg.flt F.FLT_SAFE_STATUS_CAUSE ≤ c then s2
  else ((s2.setFld Pg.flt F.FLT_SAFE_STATUS_CAUSE c).setFld Pg.flt F.FLT_SAFE_SRC_b0 (src.getD 0)).setFld Pg.flt
    F.FLT_SAFE_SRC_VALID (bitOf src.isSome)

/-- A trigger, or several in one clock, reaches the device (R804, R816, R817, R818): the entry while NORMAL; one more
trigger while ENTERING; while restarting the reset again at once, cold; nothing while HALTED. Triggers of one clock are one
entry, whichever command brings them. -/
def State.safeEnter (s : State) (codes : List Nat) (src : Option Nat) : State :=
  if s.sstate = SState.normal then s.enterSafe codes src
  else if s.sstate = SState.entering then s.joinEntry codes src
  else if s.sstate = SState.halted then s
  else
    let s1 := s.recordEntry codes src
    ({ s1 with safe := { s1.safe with cold := true, trigTick := s.safe.ticks } }).startRestart true

/-- The trigger code of a unit whose fault takes the safe state (Table FLT-4). -/
def faultTrig (page : Nat) : Option Nat :=
  match pageClass page with
  | 0x0011 => some Trig.stageFault
  | 0x0013 => some Trig.sumpFault
  | 0x0002 => some Trig.windlass
  | 0x001E => some Trig.pwrFault
  | _ => none

/-- A unit failed, with the safe state where its fault is a trigger. -/
def State.failUnit (s : State) (page reason : Nat) : State :=
  if s.unit page = uOff || s.unit page = uFault then s
  else
    match faultTrig page with
    | some c => (s.fail page reason).safeEnter [c] (some page)
    | none => s.fail page reason

/-! ### FAULT_N and HB_OUT -/

/-- A condition of Table FLT-3 holds: FAULT_N is low (R802, R826). SEC MSTATE and FW_STATE are read from
their pages. -/
def State.faultNLow (s : State) : Bool :=
  s.sstate ≠ SState.normal || !s.pins.mainPg || !s.pins.resetN || s.pins.mainReset ||
  (s.bit Pg.flt F.FLT_FN_MASK_PERM && s.regs.any (fun e => e.1 % 4096 = 0x01C && e.2.field 31 1 = 1)) ||
  (s.bit Pg.flt F.FLT_FN_MASK_ATT && s.bit Pg.flt F.FLT_STATUS_ANY) ||
  (s.bit Pg.flt F.FLT_FN_MASK_SEC && s.fld (Pg.sec 0) F.SEC_STATUS_MSTATE = 3) ||
  (s.bit Pg.flt F.FLT_FN_MASK_FW && s.fld (Pg.cpc 0) F.CPC_FW_STATE_STATE = 7)

/-- The level of HB_OUT: what the kicks give it, held low while the main domain is in reset or unpowered
(R803). -/
def State.hbOut (s : State) : Bool := s.pins.hbOut && !s.pins.mainReset && s.pins.mainPg

end Sys2Proof.Machine
end

