-- ==== Sys2Proof/Machine/Energy.lean ====
section
/-!
DEFINITION. The energy ledger and the PWR unit (spec/14): the cap and pool of a turn, prices, admission and downgrade,
debt, PMBus polling, measurement windows, thermal throttling.
-/

set_option Elab.async false

namespace Sys2Proof.Machine

open Sys2Proof

/-- The energy part changed. -/
def State.nrgMap (s : State) (f : Energy → Energy) : State := { s with energy := f s.energy }

/-! ### Prices and admission (R577 to R583) -/

/-- The cost of an item of class `k` with `r` rows in the bank in force; none where the class is not offered. -/
def State.cost (s : State) (k r : Nat) : Option Nat :=
  let b := s.fld Pg.nrg F.NRG_CTL_b1
  if s.bit Pg.nrg (F.NRG_COST_VALID b k) then
    some (s.fld Pg.nrg (F.NRG_COST_FIXED b k) + s.fld Pg.nrg (F.NRG_COST_PER_ROW b k) * r)
  else none

/-- NRG_REMAIN brought up to date. -/
def State.syncRemain (s : State) : State :=
  s.setFld Pg.nrg F.NRG_REMAIN (s.energy.common + s.energy.shares.foldl (· + ·) 0)

/-- An item evaluated (R580, R591): charged to its pair's share, else to the common pool; none where refused. -/
def State.admits (s : State) (pair : Option Nat) (k rows : Nat) : Option State :=
  match s.cost k rows with
  | none => none
  | some c =>
    let share := match pair with
      | some p => s.energy.shares.getD p 0
      | none => 0
    let done := fun (f : Energy → Energy) =>
      some (((s.nrgMap (fun e => { f e with charged := e.charged + c })).syncRemain).incFld Pg.nrg (F.NRG_ADMIT k))
    if s.unitCopy Pg.nrg ≠ uActive then none
    else if pair.isSome && c ≤ share then done (fun e => { e with shares := e.shares.set (pair.getD 0) (share - c) })
    else if c ≤ s.energy.common then done (fun e => { e with common := e.common - c })
    else none

/-- An item ends void (R582). Log: entry 55 (DEDUCED). -/
def State.ledgerVoid (s : State) : State := (s.incFld Pg.nrg F.NRG_VOID).raiseIrq Pg.nrg 2

/-- T2_LITE may take a refused tier 2 item's place (Table NRG-2). -/
def State.liteNext (s : State) (pair rows : Nat) : Bool :=
  s.inForce Pg.nrg (F.NRG_POLICY_T2_DG pair) = 1 && (s.cost 1 rows).isSome

/-- A tier 2 window of a pair evaluated with its chain (R578, R581, R582): the class admitted, none where void. `sub` says that
it takes a tier 3 item's place: a class that is not offered is then skipped and not counted as refused. -/
def State.admitT2 (s : State) (pair rows : Nat) (sub : Bool := false) : Option Nat × State :=
  match s.energy.t2Class with
  | none => (none, s)
  | some k =>
    if s.unitCopy Pg.nrg ≠ uActive then (none, s)
    else match s.admits (some pair) k rows with
      | some t => (some k, t)
      | none =>
        if s.liteNext pair rows then
          let s1 := if sub && (s.cost k rows).isNone then s else (s.incFld Pg.nrg F.NRG_DG_DG_T2).raiseIrq Pg.nrg 1
          match s1.admits (some pair) 1 rows with
          | some t => (some 1, t)
          | none => (none, s1.ledgerVoid)
        else (none, s.ledgerVoid)

/-- A tier 2 item may take a refused tier 3 item's place (R578, R581). -/
def State.t2Next (s : State) (pair rows : Nat) : Bool :=
  match s.energy.t2Class with
  | none => false
  | some k => (s.cost k rows).isSome || s.liteNext pair rows

/-- A tier 3 window of a pair evaluated with its chain: 3 where T3_OUT is admitted, else the tier 2 class of the
substitute, none where void; `alone` says T3_MODE is WINDOWS. -/
def State.admitT3 (s : State) (pair rows : Nat) (alone : Bool) : Option Nat × State :=
  if s.unitCopy Pg.nrg ≠ uActive then (none, s)
  else match s.admits (some pair) 3 rows with
    | some t => (some 3, t)
    | none =>
      if alone && s.inForce Pg.nrg (F.NRG_POLICY_T3_DG pair) = 1 && s.t2Next pair rows then
        ((s.incFld Pg.nrg F.NRG_DG_DG_T3).raiseIrq Pg.nrg 1).admitT2 pair rows true
      else (none, s.ledgerVoid)

/-- An inbound tier 3 window evaluated: it draws only on the common pool (R580 to R582). -/
def State.admitIn (s : State) (rows : Nat) : Option State :=
  (s.nrgMap (fun e => { e with inAt := some s.count })).admits none 4 rows

/-! ### The cap (R567 to R570) -/

/-- FLOOR in force. -/
def State.nrgFloor (s : State) : Nat := s.inForce Pg.nrg F.NRG_FLOOR_STATIC + s.inForce Pg.nrg F.NRG_FLOOR_T01

/-- A written NRG_CAP below the floor stores the floor (R568). Log: entry 44 (DEDUCED). -/
def State.capWritten (s : State) : State :=
  let v := s.fld Pg.nrg F.NRG_CAP
  if v < s.nrgFloor then
    let s1 := (s.setFld Pg.nrg F.NRG_CAP s.nrgFloor).setFld Pg.nrg F.NRG_EFF_CAP_CLAMPED 1
    ((s1.incFld Pg.nrg F.NRG_CLAMPS).raiseIrq Pg.nrg 0).nrgMap (fun e => { e with clampWr := true })
  else s.nrgMap (fun e => { e with clampWr := false })

/-- NRG_CAP_WRITE. -/
def execNrgCapWrite (off : Nat) (v : Word) (s : State) : Result :=
  .next ((s.at off).onPage Pg.nrg 0x040 (fun t => (t.write Pg.nrg 0x040 v).capWritten))

/-- A value added to the debt (R586, R595). -/
def State.debtAdd (s : State) (v : Nat) : State :=
  let d := s.fld Pg.nrg F.NRG_DEBT + v
  if 2 ^ 24 - 1 < d then (s.setFld Pg.nrg F.NRG_DEBT (2 ^ 24 - 1)).raiseIrq Pg.nrg 3 else s.setFld Pg.nrg F.NRG_DEBT d

/-- NRG_DEBT_ADD. -/
def execNrgDebtAdd (off : Nat) (v : Word) (s : State) : Result :=
  .next ((s.at off).onPage Pg.nrg 0x06C (fun t => (t.write Pg.nrg 0x06C v).debtAdd (v.field 0 24)))

/-- Valid regulator entries. -/
def State.regulators (s : State) : List Nat := (List.range 8).filter (fun r => decide (s.inForce Pg.pwr (F.PWR_REG_CFG_VALID r) = 1))

/-- P_AVAIL in W (R570, R596). Log: entry 44 (DEDUCED). -/
def State.pAvail (s : State) : Nat :=
  let limit := s.inForce Pg.pwr F.PWR_PM_LIMIT
  let sum := (s.regulators.map (fun r => s.fld Pg.pwr (F.PWR_REG_MAX r))).foldl (· + ·) 0 / 10
  if s.regulators.isEmpty then (if limit = 0 then 650 else limit)
  else if limit = 0 then min sum 1023 else min sum limit

/-- PM_AVAIL brought up to date, with AVAIL_CHANGE. -/
def State.syncAvail (s : State) : State :=
  let v := s.pAvail
  if s.fld Pg.pwr F.PWR_PM_AVAIL = v then s else (s.setFld Pg.pwr F.PWR_PM_AVAIL v).raiseIrq Pg.pwr 5

/-- The ledger's part of a turn boundary: throttling is settled before it (R567, R569, R574, R590).
Log: entry 44 (DEDUCED). -/
def State.ledgerBoundary (s : State) : State :=
  let s0 := s.syncAvail
  let e := s0.energy
  let floor := s0.nrgFloor
  let cap := s0.inForce Pg.nrg F.NRG_CAP
  let avail := s0.fld Pg.pwr F.PWR_PM_AVAIL
  let thr := s0.bit Pg.nrg F.NRG_EFF_THROTTLED
  let low := min cap (min avail (if thr then s0.inForce Pg.pwr F.PWR_THERM_CAP else avail))
  let eff := max floor low
  let clamped := cap < floor
  let newly := clamped && !s0.bit Pg.nrg F.NRG_EFF_CAP_CLAMPED
  let turnUj := eff * 4194304 / 100000
  let floorUj := (floor * 4194304 + 99999) / 100000
  let active := s0.unit Pg.nrg = uActive
  let debt := s0.fld Pg.nrg F.NRG_DEBT
  let repay := if active then min debt (max 1 (s0.inForce Pg.nrg F.NRG_REPAY)) else 0
  let pool := if active then (turnUj - floorUj - repay) * 256 else 0
  let g := fun p => s0.inForce Pg.nrg (F.NRG_GUAR p)
  let share := fun p => if 256 < g 0 + g 1 + g 2 + g 3 then 0 else pool * g p / 256
  let shares := [share 0, share 1, share 2, share 3]
  let old := 256 * s0.fld Pg.nrg F.NRG_TURN_UJ_b16 + e.charged
  let period := max 1 (s0.inForce Pg.pwr F.PWR_PM_CTL_PM_PERIOD)
  let fresh := period ≠ e.period
  let s1 := s0.nrgMap (fun e => { e with
    shares := shares, common := pool - shares.foldl (· + ·) 0, charged := 0, period := period,
    accLu := if fresh then 0 else e.accLu + old, winTurns := if fresh then 0 else e.winTurns + 1,
    cycles := if fresh then [] else e.cycles })
  let s2 := (((s1.setFld Pg.nrg F.NRG_EFF_EFF eff).setFld Pg.nrg F.NRG_EFF_FLOOR floor).setFld Pg.nrg
    F.NRG_EFF_CAP_CLAMPED (bitOf (clamped || e.clampWr))).setFld Pg.nrg F.NRG_EFF_PMB_LIMITED (bitOf (eff = avail && avail = low && avail < cap))
  let s3 := if newly then (s2.incFld Pg.nrg F.NRG_CLAMPS).raiseIrq Pg.nrg 0 else s2
  let s4 := (((s3.setFld Pg.nrg F.NRG_TURN_UJ_b0 turnUj).setFld Pg.nrg F.NRG_TURN_UJ_b16 floorUj).setFld Pg.nrg F.NRG_POOL
    pool).setFld Pg.nrg F.NRG_DEBT (debt - repay)
  (s4.setFld Pg.nrg F.NRG_CTL_b1 (s4.inForce Pg.nrg F.NRG_CTL_COST_SEL)).syncRemain

/-! ### PMBus (R571 to R573) -/

/-- A Linear11 number of watts, in 0.1 W (R571). -/
def linear11 (w : BitVec 16) : Nat :=
  let y := signed 11 (w.toNat % 2048)
  let n := signed 5 (w.toNat / 2048)
  let v := if 0 ≤ n then 10 * y * 2 ^ n.toNat else 10 * y / 2 ^ (-n).toNat
  min v.toNat 65535

/-- A PMBus read of an entry sent (R571). -/
def State.pmbusRead (s : State) (r code : Nat) : State :=
  let g := Pg.pwr
  s.emit (.pmbus (s.inForce g (F.PWR_REG_CFG_b0 r))
    (if s.inForce g (F.PWR_REG_CFG_USE_PAGE r) = 1 then some (s.inForce g (F.PWR_REG_CFG_PAGE r)) else none) code
    (s.inForce g F.PWR_PM_CTL_PEC_EN = 1) (s.inForce g F.PWR_PM_CTL_SPEED = 1))

/-- The entry whose turn to be polled it is: the lowest not yet polled in the open cycle (R572). -/
def State.pollNext (s : State) : Option Nat :=
  match s.regulators.find? (fun r => decide (s.energy.pollAt ≤ r)) with
  | some r => some r
  | none => s.regulators.head?

/-- A poll cycle ends: its total, in 0.1 W, with the last good value of an entry that failed. -/
def State.cycleEnd (s : State) : State :=
  let t := (s.regulators.map (fun r => s.fld Pg.pwr (F.PWR_REG_POUT r))).foldl (· + ·) 0
  (s.setFld Pg.pwr F.PWR_PM_POWER (min t 65535)).nrgMap (fun e => { e with cycles := t :: e.cycles, polled := true, pollAt := 0 })

/-- PMBUS_POLL: a READ_POUT of the valid entry whose turn it is, and its one retry where the first transaction failed (R572). -/
def execPmbusPoll (off : Nat) (r : Fin 8) (first retry : Option (BitVec 16)) (s : State) : Result :=
  let s0 := s.at off
  let g := Pg.pwr
  if s0.inForce g F.PWR_PM_CTL_EN = 0 || s0.pollNext ≠ some r.val then .next s0
  else
    let sa := (s0.pmbusRead r 0x96).nrgMap (fun e => { e with pollAt := r.val + 1 })
    let s1 := if first.isNone then ((sa.pmbusRead r 0x96).incFld g (F.PWR_REG_ERR_b16 r)).raiseIrq g 0 else sa
    let s2 := match (match first with
        | some v => some v
        | none => retry) with
      | some v => ((s1.setFld g (F.PWR_REG_POUT r) (linear11 v)).setFld g (F.PWR_REG_ERR_b0 r) 0).setFld g
          (F.PWR_REG_ERR_STALE r) 0
      | none =>
        let s3 := s1.incFld g (F.PWR_REG_ERR_b16 r)
        let n := min 3 (s3.fld g (F.PWR_REG_ERR_b0 r) + 1)
        let s4 := s3.setFld g (F.PWR_REG_ERR_b0 r) n
        if n = 3 && !s4.bit g (F.PWR_REG_ERR_STALE r) then
          ((s4.setFld g (F.PWR_REG_ERR_STALE r) 1).raiseIrq g 1).nrgMap (fun e => { e with staleOpen := true })
        else s4
    .next (if s2.regulators.getLast? = some r.val then s2.cycleEnd else s2)

/-- MFR_POUT_MAX of an entry is due: it was never read, or 4,096 turns have passed (R571). Log: entry 44 (DEDUCED). -/
def State.maxDue (s : State) (r : Nat) : Bool :=
  (s.fld Pg.pwr (F.PWR_REG_MAX r) = 0 || s.energy.maxTurn.all (fun t => decide (t + 4096 ≤ s.turn))) &&
    r ∈ s.regulators

/-- POUT_MAX_READ: MFR_POUT_MAX of entries read (R571). -/
def execPoutMaxRead (off : Nat) (maxes : List (Fin 8 × BitVec 16)) (s : State) : Result :=
  let s0 := s.at off
  if s0.inForce Pg.pwr F.PWR_PM_CTL_EN = 0 then .next s0
  else
    let due := maxes.filter (fun e => s0.maxDue e.1.val)
    let s1 := due.foldl (fun t e => (t.pmbusRead e.1 0xA7).setFld Pg.pwr (F.PWR_REG_MAX e.1) (linear11 e.2)) s0
    .next ((if due.isEmpty then s1 else s1.nrgMap (fun e => { e with maxTurn := some s0.turn })).syncAvail)

/-- A valid entry is STALE now. -/
def State.anyStale (s : State) : Bool := s.regulators.any (fun r => s.bit Pg.pwr (F.PWR_REG_ERR_STALE r))

/-- MEASUREMENT_WINDOW_CLOSE: at the boundary of a turn whose number is a multiple of PM_PERIOD (R573). NRG_ACCT is cut
to whole µJ. Log: entry 44 (DEDUCED). -/
def execMeasurementWindowClose (off : Nat) (s : State) : Result :=
  let s0 := s.at off
  let e := s0.energy
  if s0.turn % e.period ≠ 0 || s0.count % 65536 ≠ 0 || e.closed = s0.turn || s0.unit Pg.pwr ≠ uActive then .next s0
  else
    let tot := e.cycles.foldl (· + ·) 0
    let n := e.cycles.length
    let uj := if n = 0 then s0.fld Pg.pwr F.PWR_PM_POWER * e.winTurns * 4194304 / 1000000
      else tot * e.winTurns * 4194304 / (n * 1000000)
    let s1 := s0.nrgMap (fun e => { e with accLu := 0, winTurns := 0, cycles := [], closed := s0.turn, acct := e.accLu / 256,
                                           energy := uj, staleClosed := e.staleOpen || s0.anyStale, staleOpen := s0.anyStale })
    let s2 := (s1.setFld Pg.nrg F.NRG_ACCT_LO (e.accLu / 256 % 2 ^ 32)).setFld Pg.nrg F.NRG_ACCT_TURN (s0.turn % 2 ^ 32)
    .next ((s2.setFld Pg.pwr F.PWR_PM_ENERGY_LO (uj % 2 ^ 32)).setFld Pg.pwr F.PWR_PM_WIN_TURN (s0.turn % 2 ^ 32))

/-! ### Temperature (R587, R588) -/

/-- RELEASE in °C; at or above THROTTLE it is treated as THROTTLE - 5. -/
def State.thermRelease (s : State) : Nat :=
  let t := s.inForce Pg.pwr F.PWR_THERM_CTL_THROTTLE
  let r := s.inForce Pg.pwr F.PWR_THERM_CTL_RELEASE
  if t ≤ r then t - 5 else r

/-- A sensor's reading, 0.125 °C. -/
def State.tsens (s : State) (k : Nat) : Int := signed 16 (s.fld Pg.pwr (F.PWR_TSENS k))

/-- THERMAL_SAMPLE: the die sensors, from sensor 0 on, are sampled. Log: entry 11 (DESIGN CHOICE). -/
def execThermalSample (off : Nat) (temps : List (BitVec 16)) (s : State) : Result :=
  let s0 := s.at off
  let s1 := ((temps.take 16).zipIdx).foldl (fun t e => t.setFld Pg.pwr (F.PWR_TSENS e.2) e.1.toNat) s0
  let hotter := (List.range 16).foldl (fun b k => if s1.tsens b < s1.tsens k then k else b) 0
  let m := s1.tsens hotter
  let s2 := (s1.setFld Pg.pwr F.PWR_THERM_MAX_b0 (unsigned 16 m)).setFld Pg.pwr F.PWR_THERM_MAX_b16 hotter
  let cool := decide (m ≤ 8 * (s2.thermRelease : Int))
  .next (s2.nrgMap (fun e => { e with
    hot := e.hot || decide (8 * (s2.inForce Pg.pwr F.PWR_THERM_CTL_THROTTLE : Int) ≤ m),
    coolSince := if cool then some (e.coolSince.getD s2.count) else none }))

/-- Throttling at a turn boundary, before the ledger's part of it. -/
def State.thermBoundary (s : State) : State :=
  let e := s.energy
  if s.bit Pg.nrg F.NRG_EFF_THROTTLED then
    if !e.hot && e.coolSince.any (fun t => t + 24 * 65536 ≤ s.count) then
      (s.setFld Pg.nrg F.NRG_EFF_THROTTLED 0).raiseIrq Pg.pwr 3
    else s.nrgMap (fun e => { e with hot := false })
  else if e.hot then
    let s1 := ((s.setFld Pg.nrg F.NRG_EFF_THROTTLED 1).incFld Pg.pwr F.PWR_THERM_EVT).raiseIrq Pg.pwr 2
    s1.nrgMap (fun e => { e with hot := false })
  else s

/-- THERMAL_CRIT: a sensor has been at or above CRIT for 10 µs (R588). -/
def execThermalCrit (off : Nat) (s : State) : Result :=
  let s0 := s.at off
  .next (if (List.range 16).any (fun k => decide (8 * (s0.inForce Pg.pwr F.PWR_THERM_CTL_CRIT : Int) ≤ s0.tsens k)) then
    (s0.raiseIrq Pg.pwr 4).safeEnter [Trig.thermalCrit] (some Pg.pwr) else s0)

/-- LEDGER_FAULT (R598). -/
def execLedgerFault (off : Nat) (s : State) : Result := .next ((s.at off).fail Pg.nrg Reason.hwError)

/-- PWR_FAULT (R599). -/
def execPwrFault (off : Nat) (s : State) : Result := .next ((s.at off).failUnit Pg.pwr Reason.hwError)

end Sys2Proof.Machine
end

