-- ==== Sys2Proof/Machine/HostOps.lean ====
section
/-!
DEFINITION. What the pipeline asks of the host interface: whether a delivery ring is bound and its host
reachable (R615, R618).
-/

set_option Elab.async false

namespace Sys2Proof.Machine

open Sys2Proof

/-- The PCIe link is up. -/
def State.linkUp (s : State) : Bool := s.bit (Pg.pci 0) F.PCI_LINK_b8

/-- A delivery ring's function and slot, where it is bound to PF1 or a tenant (R615). -/
def State.ringBind (s : State) (n : Nat) : Option (Nat × Nat) :=
  let fn := s.fld (Pg.pci 3) (F.PCI_DR_BIND_b0 n)
  if n < 64 && s.bit (Pg.pci 3) (F.PCI_DR_BIND_VALID n) && 1 ≤ fn && fn ≤ 61 then
    some (fn, s.fld (Pg.pci 3) (F.PCI_DR_BIND_b6 n))
  else none

/-- The host is unreachable through a function (R618, R52). -/
def State.fnUnreachable (s : State) (fn : Nat) : Bool :=
  !s.linkUp || !s.bme fn || s.bit (Pg.pci 2) (F.PCI_FN_STAT_IN_RESET fn) || s.bit (Pg.pci 2) (F.PCI_FN_STAT_IN_RESET 1) ||
  (2 ≤ fn && !s.bit (Pg.pci 2) (F.PCI_FN_STAT_b3 fn))

/-- A ring can be handed an item: bound, and its host reachable. -/
def State.ringOpen (s : State) (n : Nat) : Bool :=
  match s.ringBind n with
  | some (fn, _) => !s.fnUnreachable fn
  | none => false

/-- The ring of a role byte of DR_ROLE, where the entry is valid. -/
def State.roleRing (s : State) (ring valid : Fld) : Option Nat :=
  if s.bit (Pg.pci 3) valid then some (s.fld (Pg.pci 3) ring) else none

/-- The divert ring of a pair. -/
def State.divertRing (s : State) (p : Nat) : Option Nat := s.roleRing (F.PCI_DR_ROLE0_DIVERT p) (F.PCI_DR_ROLE0_b7 p)

/-- The EAPOL ring. -/
def State.eapolRing (s : State) : Option Nat := s.roleRing F.PCI_DR_ROLE1_EAPOL F.PCI_DR_ROLE1_b7

/-- A tag for a new read, none while the pool is empty (R549, R623). -/
def State.freeTag (s : State) : Option Nat :=
  (List.range (s.fld (Pg.pci 0) F.PCI_TAGS_b0)).find? (fun t => (FMap.get? s.pumps.tags t).isNone)

end Sys2Proof.Machine
end

