-- ==== Sys2Proof/Machine/Delivery.lean ====
section
/-!
DEFINITION. Delivery rings (R615 to R619, Table PCI-3), the injection ring's completion (R620), and slot messages
with their HOLDOFF (R622).
-/

set_option Elab.async false

namespace Sys2Proof.Machine

open Sys2Proof

/-- The host side's own part changed. -/
def State.hostMap (s : State) (f : HostSide → HostSide) : State := { s with host := f s.host }

/-- A slot raises its vector: at once, or combined with others at the end of its HOLDOFF, in 64 blk (R622). -/
def State.slotRaise (s : State) (fn slot vec hold : Nat) : State :=
  let k := 16 * fn + slot
  let send := (s.raiseVector fn vec).hostMap (fun h => { h with slotIrq := FMap.set h.slotIrq k (s.count, false) })
  match FMap.get? s.host.slotIrq k with
  | some (t, _) =>
    if hold = 0 || t + 64 * hold ≤ s.count then send
    else s.hostMap (fun h => { h with slotIrq := FMap.set h.slotIrq k (t, true) })
  | none => send

/-- The page of a slot and its VEC and HOLDOFF fields: context slots 0 to 7 on pages 1 to 8, delivery slots 8 to 11 on
pages 9 to 12 (Table PCI-2). -/
def slotPage (fn slot : Nat) : Nat := localPage fn (slot + 1)

/-- HOLDOFF_EXPIRY: the interval of a slot with a waiting message ends (R622). -/
def execHoldoffExpiry (off : Nat) (fn : BitVec 6) (slot : Fin 12) (s : State) : Result :=
  let s0 := s.at off
  let p := slotPage fn.toNat slot
  let vec := if slot.val < 8 then s0.fld p F.LOC_CS_CFG_VEC else s0.fld p F.LOC_DS_CTL_VEC
  let hold := if slot.val < 8 then s0.fld p F.LOC_CS_CFG_HOLDOFF else s0.fld p F.LOC_DS_CTL_HOLDOFF
  match FMap.get? s0.host.slotIrq (16 * fn.toNat + slot) with
  | some (t, true) =>
    if t + 64 * hold ≤ s0.count then
      .next ((s0.raiseVector fn.toNat vec).hostMap (fun h =>
        { h with slotIrq := FMap.set h.slotIrq (16 * fn.toNat + slot) (s0.count, false) }))
    else .next s0
  | _ => .next s0

/-- An item for a delivery ring, as Table PCI-3 describes it. -/
structure DItem where
  bytes    : List Nat
  source   : Nat
  unscored : Bool
  inst     : Nat
  stamp    : Nat
  verdict  : Nat
  aux      : Nat
  score    : Nat
  port     : Nat
  tag      : Nat
  pseq     : Nat
  deriving DecidableEq, Repr

/-- The delivery record of an item of which `n` bytes are written, accepted at a count (Table PCI-3). -/
def DItem.record (d : DItem) (n count : Nat) : List Nat :=
  leBytes 4 d.bytes.length ++ leBytes 2 n ++
  [d.source, bitOf (n < d.bytes.length) + 2 * bitOf d.unscored + 4 * d.inst] ++ leBytes 8 d.stamp ++
  [d.verdict, d.aux, d.score, d.port] ++ leBytes 2 d.tag ++ [0, 0] ++ leBytes 4 d.pseq ++ leBytes 4 (count % 2 ^ 32)

/-- A delivery ring accepts an item now (R617, R906): a posted free entry is unassigned. The staging buffer is never
full here, since an item is written as it is accepted. Log: entry 40 (DESIGN CHOICE). -/
def State.ringAccepts (s : State) (n : Nat) : Bool :=
  match s.ringBind n with
  | some (fn, t) =>
    let p := localPage fn (9 + t)
    !s.fnUnreachable fn && !s.pins.mainReset && !s.bit Pg.gbl F.GBL_STATUS_RESTARTING &&
    s.bit p F.LOC_DS_CTL_ENABLE && s.fld p F.LOC_DS_FREE_TAIL ≠ s.fld p F.LOC_DS_DONE
  | none => false

/-- An item written to a ring: the free entry read (R616), its bytes to the buffer that entry names, its record, DS_DONE, the
vector (R617). Log: entry 40 (DESIGN CHOICE). -/
def State.deliverRaw (s : State) (n buf : Nat) (bytes record : List Nat) : State :=
  match s.ringBind n with
  | some (fn, t) =>
    let p := localPage fn (9 + t)
    let done := s.fld p F.LOC_DS_DONE
    let size := 2 ^ max 4 (min 12 (s.fld p F.LOC_DS_CTL_SIZE))
    let rec' := s.fld p F.LOC_DS_REC_LO + 2 ^ 32 * s.fld p F.LOC_DS_REC_HI + 32 * (done % size)
    let wb := s.fld p F.LOC_DS_WB_LO + 2 ^ 32 * s.fld p F.LOC_DS_WB_HI
    let entry := s.fld p F.LOC_DS_FREE_LO + 2 ^ 32 * s.fld p F.LOC_DS_FREE_HI + 16 * (done % size)
    let s0 := (s.hostMap (fun h => { h with acceptAt := some s.count })).emit (.hostFetch fn entry 16)
    let s1 := (s0.emit (.hostWrite fn buf bytes)).emit (.hostWrite fn rec' record)
    let s2 := (s1.setFld p F.LOC_DS_DONE (done + 1)).incFld p F.LOC_DS_CNT
    let s3 := if wb = 0 then s2 else s2.emit (.hostWrite fn wb (leBytes 4 ((done + 1) % 2 ^ 16)))
    if s.bit p F.LOC_DS_CTL_IRQ_EN then s3.slotRaise fn (8 + t) (s.fld p F.LOC_DS_CTL_VEC) (s.fld p F.LOC_DS_CTL_HOLDOFF)
    else s3
  | none => s

/-- The buffer size of a ring's slot. -/
def State.ringBuf (s : State) (n : Nat) : Nat :=
  match s.ringBind n with
  | some (fn, t) => 2048 * 2 ^ s.fld (localPage fn (9 + t)) F.LOC_DS_CTL_BUF
  | none => 0

/-- An item delivered with its record, cut to the buffer (R617). Log: entry 40 (DESIGN CHOICE). -/
def State.deliver (s : State) (n buf : Nat) (d : DItem) : State :=
  let m := min d.bytes.length (s.ringBuf n)
  s.deliverRaw n buf (d.bytes.take m) (d.record m s.count)

/-! ### Injection -/

/-- The page of the injection ring. -/
def injPage : Nat := localPage 1 13

/-- The ring size of the injection ring. -/
def State.injSize (s : State) : Nat := 2 ^ max 4 (min 12 (s.fld injPage F.LOC_IJ_CTL_b1))

/-- IJ_HEAD moved over the descriptors that are complete. -/
def State.injAdvance (s : State) : Nat → State
  | 0 => s
  | k + 1 =>
    let h := s.fld injPage F.LOC_IJ_HEAD
    if h ∈ s.host.injDone then
      ((s.hostMap (fun x => { x with injDone := x.injDone.erase h })).setFld injPage F.LOC_IJ_HEAD (h + 1)).injAdvance k
    else s

/-- An injection descriptor completes: sent, or refused with its cookie latched and the vector raised (R620, Table
PCI-4). -/
def State.injComplete (s : State) (index cookie : Nat) (sent : Bool) : State :=
  let s1 := s.hostMap (fun x => { x with injTaken := x.injTaken.erase index, injDone := index :: x.injDone })
  let s2 := if sent then s1
    else ((s1.incFld injPage F.LOC_IJ_REFUSED).setFld injPage F.LOC_IJ_LAST_ERR cookie).raiseVector 1
      (s1.fld injPage F.LOC_IJ_CTL_VEC)
  s2.injAdvance s2.host.injDone.length

end Sys2Proof.Machine
end

