-- ==== Sys2Proof/Machine/Pipe.lean ====
section
/-!
DEFINITION. What the stages of P0 and P1 share: frames and their cells (R280 to R282), hand-off and Float
gauges (R283 to R285), the Sump (R349 to R351), S11's queues (R354).
-/

set_option Elab.async false

namespace Sys2Proof.Machine

open Sys2Proof

/-- The reason codes of Table SMP-1. -/
def Why.rxRunt : Nat := 0x01
def Why.rxOversize : Nat := 0x02
def Why.rxFcs : Nat := 0x03
def Why.rxCode : Nat := 0x04
def Why.rxTrunc : Nat := 0x05
def Why.intakeFull : Nat := 0x06
def Why.untagged : Nat := 0x08
def Why.noSa : Nat := 0x09
def Why.late : Nat := 0x0A
def Why.invalid : Nat := 0x0B
def Why.stall : Nat := 0x10
def Why.bufEcc : Nat := 0x11
def Why.verdictDrop : Nat := 0x18
def Why.quarantine : Nat := 0x19
def Why.unscoredDrop : Nat := 0x1A
def Why.orderLate : Nat := 0x1B
def Why.hostDown : Nat := 0x1C
def Why.divertLate : Nat := 0x1D
def Why.copyLate : Nat := 0x20
def Why.copyRefused : Nat := 0x21
def Why.tooLong : Nat := 0x28
def Why.pnExhausted : Nat := 0x29
def Why.noTxSa : Nat := 0x2A
def Why.egressDown : Nat := 0x30
def Why.egressLate : Nat := 0x31

/-- A parse result of nothing. -/
def Parse.none : Parse := ⟨0, Option.none, 0, 0, 0, 0, 0, 0, 0, false, 0, 0, 0, 0, 0, 0, 0, Option.none, Option.none⟩

/-- A flow record of zeros. -/
def FlowRec.zero : FlowRec :=
  ⟨0, false, 0, false, (0, 0), 0, (0, 0), (0, 0), 0, 0, (0, 0), (0, 0), 0, 0, 0, List.replicate 16 0⟩

/-- A descriptor before S0 has filled it. -/
def Frame.blank : Frame where
  inst := 0
  port := 0
  pseq := 0
  stamp := 0
  ti := 0
  bytes := []
  len := 0
  cells := (0, 0)
  holds := 1
  stage := 0
  holdBudget := 0
  unscoredPol := 0
  group := 0
  copyWhen := 0
  tap := false
  uncontrolled := false
  parse := Parse.none
  handle := none
  snap := FlowRec.zero
  iat := (0, 0)
  stream := none
  deliv := []
  held := 0
  objType := 0
  windows := []
  bank := 0
  vec := []
  offered := false
  need := [0, 0, 0, 0]
  got := [0, 0, 0, 0]
  verdict := 0
  score := 0
  tag := 0
  any := false
  copy := false
  void := false
  joined := false
  unscored := false
  policyDrop := false
  setter := none
  base := none
  released := none
  waitFt4 := false
  asked := 0
  delivered := 0
  opened := 0

/-- The state with the pipeline's own part changed. -/
def State.pipeMap (s : State) (f : Pipeline → Pipeline) : State := { s with pipe := f s.pipe }

/-- A frame by name. -/
def State.frame? (s : State) (id : Nat) : Option Frame := FMap.get? s.pipe.frames id

/-- A frame by name, blank where there is none. -/
def State.frame (s : State) (id : Nat) : Frame := FMap.getD s.pipe.frames id Frame.blank

/-- A frame's descriptor set. -/
def State.setFrame (s : State) (id : Nat) (f : Frame) : State :=
  s.pipeMap (fun p => { p with frames := FMap.set p.frames id f })

/-- The pair a port belongs to. -/
def pairOf (port : Nat) : Nat := port / 2

/-- The transmit port of a frame: the pair's other port (Table ARC-1). -/
def otherPort (port : Nat) : Nat := if port % 2 = 0 then port + 1 else port - 1

/-- A transmit port's instance: the one that receives on the pair's other port (Table ARC-1). -/
def txInst (port : Nat) : Nat := 1 - port % 2

/-! ### Cells -/

/-- Store items by key: cells, reassembly cells, window slots of an instance, cache ways. -/
def cellKey (inst n : Nat) : Nat := 100000 * inst + n
def reasmKey (inst n : Nat) : Nat := 20000 + 100000 * inst + n
def slotKey (inst n : Nat) : Nat := 40000 + 100000 * inst + n
def wayKey (n : Nat) : Nat := 1000000 + n

/-- Retired items of one kind: those with a key in a range. -/
def State.deadIn (s : State) (lo n : Nat) : Nat := (s.pipe.dead.filter (fun k => lo ≤ k && k < lo + n)).length

/-- Cells frames hold of a port's reserve. -/
def State.reserveUsed (s : State) (port : Nat) : Nat :=
  (s.pipe.frames.map (fun e => if e.2.port = port then e.2.cells.1 else 0)).foldl (· + ·) 0

/-- Cells frames hold of an instance's pool. -/
def State.poolUsed (s : State) (inst : Nat) : Nat :=
  (s.pipe.frames.map (fun e => if e.2.inst = inst then e.2.cells.2 else 0)).foldl (· + ·) 0

/-- The cells a frame of `n` cells takes: its port's reserve first, then the pool (R282). -/
def State.takeCells (s : State) (inst port n : Nat) : Option (Nat × Nat) :=
  let r := min n (512 - s.reserveUsed port)
  if n - r ≤ 11264 - s.deadIn (cellKey inst 0) 13312 - s.poolUsed inst then some (r, n - r) else none

/-- S0_CELLS and its low-water mark brought up to date. -/
def State.syncCells (s : State) (inst : Nat) : State :=
  let used := (s.pipe.frames.map (fun e => if e.2.inst = inst then e.2.cells.1 + e.2.cells.2 else 0)).foldl (· + ·) 0
  let free := 13312 - used - s.deadIn (cellKey inst 0) 13312
  let p := Pg.stg inst 0
  let s1 := s.setFld p F.STG_S0_CELLS free
  s1.setFld p F.STG_S0_CELLS_MIN (min (s1.fld p F.STG_S0_CELLS_MIN) free)

/-- Window-store bytes given back (R305). -/
def State.freeSlots (s : State) (i n : Nat) : State :=
  s.pipeMap (fun p => { p with winUsed := FMap.setC p.winUsed i (FMap.getD p.winUsed i 0 - n) 0 })

/-- Window-store bytes that a frame's windows hold. -/
def Frame.slots (f : Frame) : Nat := (f.windows.map (fun w => w.slot)).foldl (· + ·) 0

/-- One holder of a frame's cells is done (R281, R344): with the last, the cells are free, and window slots that the
frame still holds because it never reached S7. -/
def State.release (s : State) (id : Nat) : State :=
  match s.frame? id with
  | some f =>
    if f.holds ≤ 1 then
      ((s.pipeMap (fun p => { p with frames := FMap.erase p.frames id })).freeSlots f.inst f.slots).syncCells f.inst
    else s.setFrame id { f with holds := f.holds - 1 }
  | none => s

/-! ### The Sump -/

/-- A reason counter raised (R350): on reaching all ones it stops, sets its SMP_SAT bit and raises SAT. -/
def State.countReason (s : State) (why : Nat) : State :=
  let f := F.SMP_CNT why
  if s.fld Pg.smp f = 2 ^ 32 - 1 then s
  else
    let s1 := s.incFld Pg.smp f
    if s1.fld Pg.smp f = 2 ^ 32 - 1 then
      (s1.hwSet Pg.smp ⟨0x050 + 4 * (why / 32), why % 32, 1⟩).raiseIrq Pg.smp 0
    else s1

/-- A capture lost (R351). -/
def State.captureLost (s : State) : State := (s.incFld Pg.smp F.SMP_CAP_LOST).raiseIrq Pg.smp 1

/-- CAP_DL; 0 is treated as 1. -/
def State.capDl (s : State) : Nat := max 1 (s.inForce Pg.smp F.SMP_CAP_LIM_CAP_DL)

/-- An item handed to the Sump (R349 to R351): counted, captured where required, its hold on its cells
released, with a capture when its ring has it. -/
def State.sumpItem (s : State) (why : Nat) (id : Option Nat) (f : Frame) (bytes : List Nat) : State :=
  let s0 := s.countReason why
  let s1 := if why = Why.quarantine then s0.raiseIrq Pg.smp 2 else s0
  let wanted := why = Why.quarantine || s1.inForce Pg.smp ⟨0x048 + 4 * (why / 32), why % 32, 1⟩ = 1
  let drop := fun (t : State) => match id with
    | some n => t.release n
    | none => t
  if s1.inForce Pg.smp F.SMP_CTL_CAP_EN = 0 then
    drop (if why = Why.quarantine then s1.captureLost else s1)
  else if !wanted then drop s1
  else if s1.inForce Pg.smp F.SMP_CTL_CAP_RATE ≤ s1.pipe.captured || !s1.ringOpen (s1.inForce Pg.smp F.SMP_CTL_b8) then
    drop s1.captureLost
  else
    let c : Capture := ⟨id, why, f.stamp, f.inst, f.port, f.pseq,
      bytes.take (max 64 (min 9600 (s1.inForce Pg.smp F.SMP_CAP_LIM_CAP_SNAP))), s1.count + s1.capDl⟩
    s1.pipeMap (fun p => { p with captures := p.captures ++ [c], captured := p.captured + 1 })

/-- A frame that the Sump has is in no stage (R295). -/
def State.leaveStages (s : State) (id : Nat) : State :=
  match s.frame? id with
  | some f => s.setFrame id { f with stage := 12 }
  | none => s

/-- A stage hands an item to the Sump: its page counts it and raises SUMP (Table STG-9). -/
def State.sump (s : State) (inst n why : Nat) (id : Nat) (bytes : List Nat) : State :=
  (((s.incFld (Pg.stg inst n) F.STG_SUMP).raiseIrq (Pg.stg inst n) 0).leaveStages id).sumpItem why (some id) (s.frame id) bytes

/-- A stage hands a frame to the Sump. -/
def State.sumpFrame (s : State) (inst n why id : Nat) : State := s.sump inst n why id (s.frame id).bytes

/-! ### Hand-off and Float gauges -/

/-- The queue of a stage: S0's frames not yet taken by S1, S8's join store, or an input queue. -/
def State.queue (s : State) (inst n : Nat) : List Nat := FMap.getD s.pipe.queues (16 * inst + n) []

/-- The queue of a stage set. -/
def State.setQueue (s : State) (inst n : Nat) (q : List Nat) : State :=
  s.pipeMap (fun p => { p with queues := FMap.setC p.queues (16 * inst + n) q [] })

/-- The frames a stage has finished and cannot hand on yet. -/
def State.waiting (s : State) (inst n : Nat) : List (Nat × Nat) := FMap.getD s.pipe.ready (16 * inst + n) []

/-- The frames a stage has finished set. -/
def State.setWaiting (s : State) (inst n : Nat) (q : List (Nat × Nat)) : State :=
  s.pipeMap (fun p => { p with ready := FMap.setC p.ready (16 * inst + n) q [] })

/-- S10's queue. -/
def State.sealQ (s : State) (inst : Nat) : List Item := FMap.getD s.pipe.sealQs inst []

/-- S10's queue set. -/
def State.setSealQ (s : State) (inst : Nat) (q : List Item) : State :=
  s.pipeMap (fun p => { p with sealQs := FMap.setC p.sealQs inst q [] })

/-- The queue an output port keeps for primaries and injected frames, and that for copies. -/
def State.primaries (s : State) (port : Nat) : List Item := FMap.getD s.pipe.primaries port []
def State.copies (s : State) (port : Nat) : List Item := FMap.getD s.pipe.copies port []

/-- The fill that STG_FLOAT shows of a stage (R283). -/
def State.fill (s : State) (inst n : Nat) : Nat :=
  if n = 0 then (s.waiting inst 0).length
  else if n = 10 then (s.sealQ inst).length
  else if n = 11 then
    (((List.range 8).filter (fun q => txInst q = inst)).map (fun q =>
      (s.primaries q).length + (s.copies q).length)).foldl (· + ·) 0
  else (s.queue inst n).length

/-- STG_FLOAT, STG_FLOAT_MAX and FLOAT_HI of a stage brought up to date (R283). -/
def State.syncFloat (s : State) (inst n : Nat) : State :=
  let p := Pg.stg inst n
  let v := s.fill inst n
  let was := s.fld p F.STG_FLOAT_b0
  let s1 := (s.setFld p F.STG_FLOAT_b0 v).maxFld p F.STG_FLOAT_MAX v
  let hi := s1.inForce p F.STG_FLOAT_HI
  let s2 := if n = 8 then s1.setFld p F.STG_JOIN_HELD v else s1
  if was < hi && hi ≤ v then s2.raiseIrq p 1 else s2

/-- The capacity of a stage's input queue. -/
def queueCap (n : Nat) : Nat := if n = 8 then 16384 else 2048

/-- A stage's successor takes a frame: counters, the bank of S6 (R307). -/
def State.enter (s : State) (inst n id : Nat) : State :=
  let f := s.frame id
  let bank := if n = 6 then s.fld (Pg.stg inst 6) F.STG_FB_SEL_b1 else f.bank
  let s1 := (s.setFrame id { f with stage := n, bank := bank }).setQueue inst n (s.queue inst n ++ [id])
  ((s1.incFld (Pg.stg inst n) F.STG_IN).syncFloat inst n).incFld (Pg.stg inst (n - 1)) F.STG_OUT

/-- A stage has finished a frame: its successor takes it, or it waits to be accepted (R284, R285). -/
def State.handOn (s : State) (inst n id : Nat) : State :=
  if (s.waiting inst n).isEmpty && (s.queue inst (n + 1)).length < queueCap (n + 1) then s.enter inst (n + 1) id
  else (s.setWaiting inst n (s.waiting inst n ++ [(id, s.count)])).syncFloat inst n

/-- A place has come free in a stage's input queue: the oldest finished frame of the stage before takes it. -/
def State.pull (s : State) (inst n : Nat) : State :=
  match s.waiting inst (n - 1) with
  | (id, _) :: rest =>
    if (s.queue inst n).length < queueCap n then
      ((s.setWaiting inst (n - 1) rest).syncFloat inst (n - 1)).enter inst n id
    else s
  | [] => s

/-- A stage takes the head of its input queue. -/
def State.takeHead (s : State) (inst n : Nat) : State :=
  ((s.setQueue inst n (s.queue inst n).tail).syncFloat inst n).pull inst n

/-- STG_ACCEPT.LIMIT in force (R39); 0 is treated as 1. -/
def State.acceptLimit (s : State) (inst n : Nat) : Nat := max 1 (s.inForce (Pg.stg inst n) F.STG_ACCEPT)

/-! ### S11's queues and the fate of copies -/

/-- S11's queues of a port set, with SP_QUEUE and the gauge. -/
def State.setOut (s : State) (port : Nat) (ps cs : List Item) : State :=
  let i := txInst port
  let s1 := s.pipeMap (fun p => { p with primaries := FMap.setC p.primaries port ps [],
                                         copies := FMap.setC p.copies port cs [] })
  (((s1.setFld (Pg.stg i 11) (F.STG_SP_QUEUE_b0 (port / 2)) ps.length).setFld (Pg.stg i 11)
    (F.STG_SP_QUEUE_b16 (port / 2)) cs.length)).syncFloat i 11

/-- One entry of CPY_LOG, when a frame's last copy has its fate (R348). -/
def State.copyLog (s : State) (f : Frame) : State :=
  let n := s.fld Pg.cpy F.CPY_LOG_PTR
  let past := s.fld Pg.cpy (F.CPY_LOG2_b4 n) ≠ 0
  let s1 := (s.setFld Pg.cpy (F.CPY_LOG n) f.stamp).setReg (regKey Pg.cpy (0x804 + 8 * n))
    (BitVec.ofNat 32 (f.group + 16 * f.asked + 256 * f.delivered))
  let s2 := s1.setFld Pg.cpy F.CPY_LOG_PTR ((n + 1) % 256)
  if past then s2.raiseIrq Pg.cpy 2 else s2

/-- A copy reaches its fate (R346, R348): its bit is no longer open, and the last closes the log entry; the hold
on the cells stays with the caller. -/
def State.copyFate (s : State) (id d : Nat) (ok : Bool) : State :=
  match s.frame? id with
  | some f =>
    let g : Frame := { f with opened := f.opened &&& (15 - 2 ^ d), delivered := if ok then f.delivered ||| 2 ^ d else f.delivered }
    let s1 := s.setFrame id g
    if g.opened = 0 then s1.copyLog g else s1
  | none => s

/-- A copy delivered (R346). -/
def State.copyDone (s : State) (id d : Nat) : State :=
  let i := 4 * (s.frame id).group + d
  ((s.incFld Pg.cpy (F.CPY_DELIVERED i)).copyFate id d true).release id

/-- A copy lost: to the Sump, COPY_LATE or COPY_REFUSED, counted for its destination. -/
def State.copyLost (s : State) (why id d : Nat) (bytes : List Nat) : State :=
  let f := s.frame id
  let i := 4 * f.group + d
  let s1 := if why = Why.copyLate then (s.incFld Pg.cpy (F.CPY_LATE_COPY_LATE i)).raiseIrq Pg.cpy 0
    else (s.incFld Pg.cpy (F.CPY_LATE_COPY_REFUSED i)).raiseIrq Pg.cpy 1
  let s2 := if why = Why.copyLate then s1.raiseIrq (Pg.stg f.inst 9) 9 else s1
  (s2.copyFate id d false).sumpItem why (some id) f bytes

/-! ### Items between S9, S10 and S11 -/

/-- The items S9 or S10 has finished and cannot hand on yet. -/
def State.itemsWaiting (s : State) (inst n : Nat) : List (Item × Nat) := FMap.getD s.pipe.itemWait (16 * inst + n) []

/-- Those items set. -/
def State.setItemsWaiting (s : State) (inst n : Nat) (q : List (Item × Nat)) : State :=
  s.pipeMap (fun p => { p with itemWait := FMap.setC p.itemWait (16 * inst + n) q [] })

/-- The successor of S9 or S10 has room for an item. -/
def State.itemFits (s : State) (n : Nat) (it : Item) : Bool :=
  if n = 9 then (s.sealQ (txInst it.port)).length < 2048
  else match it.kind with
    | .copy _ => (s.copies it.port).length < 256
    | _ => (s.primaries it.port).length < 1024

/-- The instance whose S9 or S10 has an item: S9 of the frame's instance, S10 of the port's. -/
def State.itemInst (s : State) (n : Nat) (it : Item) : Nat :=
  if n = 9 then (s.frame it.frame).inst else txInst it.port

/-- The successor takes an item: S10's queue, or the port's queue in S11. -/
def State.enterItem (s : State) (n : Nat) (it : Item) : State :=
  let i := txInst it.port
  let s1 := (s.incFld (Pg.stg i (n + 1)) F.STG_IN).incFld (Pg.stg (s.itemInst n it) n) F.STG_OUT
  if n = 9 then (s1.setSealQ i (s1.sealQ i ++ [it])).syncFloat i 10
  else match it.kind with
    | .copy _ => s1.setOut it.port (s1.primaries it.port) (s1.copies it.port ++ [it])
    | _ => s1.setOut it.port (s1.primaries it.port ++ [it]) (s1.copies it.port)

/-- S9 or S10 has finished an item: its successor takes it, or it waits to be accepted (R285, R352). -/
def State.handItem (s : State) (n : Nat) (it : Item) : State :=
  let i := s.itemInst n it
  if (s.itemsWaiting i n).isEmpty && s.itemFits n it then s.enterItem n it
  else s.setItemsWaiting i n (s.itemsWaiting i n ++ [(it, s.count)])

/-- A place has come free behind S9 or S10: the oldest finished item takes it. -/
def State.pullItem (s : State) (inst n : Nat) : State :=
  match s.itemsWaiting inst n with
  | (it, _) :: rest => if s.itemFits n it then (s.setItemsWaiting inst n rest).enterItem n it else s
  | [] => s

/-- As many of them as fit. -/
def State.pullItems (s : State) (inst n : Nat) : Nat → State
  | 0 => s
  | k + 1 => (s.pullItem inst n).pullItems inst n k

/-- Every finished item of S9 or S10 that fits behind it now. -/
def State.pullAll (s : State) (inst n : Nat) : State := s.pullItems inst n (s.itemsWaiting inst n).length

/-- An item goes to the Sump from a stage: a copy with its fate, a primary as its frame. -/
def State.sumpItemOf (s : State) (inst n why : Nat) (it : Item) : State :=
  match it.kind with
  | .copy d =>
    let s1 := (s.incFld (Pg.stg inst n) F.STG_SUMP).raiseIrq (Pg.stg inst n) 0
    if why = Why.copyLate || why = Why.copyRefused then s1.copyLost why it.frame d it.bytes
    else (s1.copyFate it.frame d false).sumpItem why (some it.frame) (s1.frame it.frame) it.bytes
  | _ => s.sump inst n why it.frame it.bytes

/-- A capture has waited CAP_DL for its ring (R351). -/
def execCaptureDeadline (off : Nat) (n : Nat) (s : State) : Result :=
  let s0 := s.at off
  match s0.pipe.captures[n]? with
  | some c =>
    if c.deadline ≤ s0.count then
      let s1 := (s0.pipeMap (fun p => { p with captures := p.captures.eraseIdx n })).captureLost
      .next (match c.frame with
        | some id => s1.release id
        | none => s1)
    else .next s0
  | none => .next s0

end Sys2Proof.Machine
end

