-- ==== Sys2Proof/Machine/Taps.lean ====
section
/-!
DEFINITION. The fabric taps FT1 to FT4 (R310, R378, R379, R382): offering a frame, and handing its record to
the fabric.
-/

set_option Elab.async false

namespace Sys2Proof.Machine

open Sys2Proof

/-- The page of tap FT1 to FT4, by 0 to 3 (Table FAB-1). -/
def tapPage (k : Nat) : Nat := Pg.fab (0x21 + k)

/-- The declared consumers of a tap in force (R382): bit 0 SCORE, bit 1 ANNOT, bit 2 REPLY.
Log: entry 95 (DEDUCED). -/
def State.declared (s : State) (k b : Nat) : Bool :=
  s.bit (tapPage k) F.FAB_TAP_DECL_b3 && s.bit (tapPage k) ⟨0x044, b, 1⟩

/-- A number written into bits from `lo` on. -/
def bitsAt (lo v : Nat) : Nat := v * 2 ^ lo

/-- Beat 0 of a tap record (Table FAB-2), with its tap-specific bits. -/
def beat0 (f : Frame) (tap n special : Nat) : Nat :=
  f.stamp + bitsAt 64 (f.pseq % 2 ^ 32) + bitsAt 96 f.port + bitsAt 99 f.inst + bitsAt 100 n + bitsAt 103 tap + special

/-- 64 bytes as a beat, byte 0 in bits [511:504]. -/
def beatOf (l : List Nat) : Nat := beNat ((l ++ List.replicate 64 0).take 64)

/-- The 16 bytes of a window header at FT3 (R309): handle, object, then index, length, type, direction and flags.
Their places in the 16 bytes are the model's choice. Log: entry 23 (DESIGN CHOICE). -/
def Window.header (w : Window) : List Nat :=
  beBytes 4 w.handle ++ beBytes 4 w.obj ++ beBytes 2 w.index ++ beBytes 2 w.len ++
  [w.type, w.dir + 2 * bitOf w.last + 4 * bitOf w.conflict + 8 * bitOf w.gapBefore + 16 * bitOf w.midstream, w.reason, 0]

/-- The record of a frame at a tap (Table FAB-3). The bits of the PARSE result beyond its flags are open: `free`; LEN counts the FCS,
whose bytes are none of the record's. Log: entry 30 (DESIGN CHOICE), entry 143 (DESIGN CHOICE). -/
def tapRecord (f : Frame) (tap free : Nat) : TapRecord :=
  match tap with
  | 0 =>
    let head := bitsAt 128 (f.parse.flags % 512 + 512 * (free % 2 ^ 247)) + bitsAt 384 f.len
    let bytes := (f.bytes ++ List.replicate 256 0).take 256
    ⟨beat0 f 0 5 head :: (List.range 4).map (fun i => beatOf (sliceOf bytes (64 * i) 64))⟩
  | 1 =>
    let head := bitsAt 128 (f.handle.getD 0) + bitsAt 160 f.iat.1 + bitsAt 192 f.iat.2
    ⟨[beat0 f 1 3 head, beatOf (f.snap.toBytes.take 64), beatOf (f.snap.toBytes.drop 64)]⟩
  | 2 =>
    let head := bitsAt 128 f.windows.length + bitsAt 131 (bitOf f.handle.isNone)
    let v := f.vec.map (unsigned 8)
    let two := [beatOf (v.take 64), beatOf (v.drop 64)]
    if f.windows.isEmpty then ⟨beat0 f 2 3 head :: two⟩
    else ⟨beat0 f 2 4 head :: (two ++ [beatOf (f.windows.flatMap Window.header)])⟩
  | _ => ⟨[beat0 f 3 1 (bitsAt 128 f.verdict + bitsAt 131 (bitOf f.copy) + bitsAt 132 (bitOf f.unscored))]⟩

/-- A tap port's FIFO (R378). -/
def State.tapFifo (s : State) (k inst : Nat) : List TapRecord := FMap.getD s.pipe.taps (2 * k + inst) []

/-- A tap port's FIFO set. -/
def State.setTapFifo (s : State) (k inst : Nat) (l : List TapRecord) : State :=
  s.pipeMap (fun p => { p with taps := FMap.setC p.taps (2 * k + inst) l [] })

/-- A frame offered at a tap as it leaves the stage (R310, R378); a score is awaited where a scoring consumer's tap
accepted it (R331). An uncontrolled frame passes without any tier (R257). -/
def State.offer (s : State) (k id : Nat) : State :=
  let f := s.frame id
  let p := tapPage k
  let n := s.inForce p F.FAB_TAP_CTL_SAMPLE
  if f.uncontrolled || s.unitCopy p ≠ uActive || (s.inForce p F.FAB_TAP_CTL_ENABLE >>> f.inst) % 2 = 0 ||
      (s.inForce p F.FAB_TAP_CTL_PORT_MASK >>> f.port) % 2 = 0 then s
  else if f.pseq % 2 ^ n ≠ 0 then s.incFld p (F.FAB_TAP_SAMPLED f.inst)
  else
    let r := tapRecord f k s.free
    let q := s.tapFifo k f.inst
    let s1 := if k = 0 then s.drawn else s
    if 512 < (q.map (fun x => x.beats.length)).foldl (· + ·) 0 + r.beats.length then
      (s1.incFld p (F.FAB_TAP_OVERFLOW f.inst)).raiseIrq p 0
    else
      let s2 := (s1.setTapFifo k f.inst (q ++ [r])).incFld p (F.FAB_TAP_OFFERED f.inst)
      if k < 3 && s2.declared k 0 then s2.setFrame id { f with offered := true } else s2

/-- The boundary outputs toward a tap are idle: every region declared for its consumers is FENCED (R377, R382).
Log: entry 146 (DEDUCED). -/
def State.tapIdle (s : State) (k : Nat) : Bool :=
  let rgn := (List.range 32).filter (fun r => (s.fld (tapPage k) F.FAB_TAP_DECL_RGN >>> r) % 2 = 1)
  !rgn.isEmpty && rgn.all (fun r => s.unit (Pg.fab r) = uFenced)

/-- TAP_RECORD_DELIVERY: the fabric takes the head record's beats under its ready signal, which FENCED regions hold at 0 (R379,
R377). -/
def execTapRecordDelivery (off : Nat) (tap : Fin 4) (i : Pipe) (s : State) : Result :=
  let s0 := s.at off
  match s0.tapFifo tap i with
  | r :: rest => .next (if s0.tapIdle tap then s0 else (s0.setTapFifo tap i rest).emit (.tapRecord tap i r.beats))
  | [] => .next s0

end Sys2Proof.Machine
end

