-- ==== Sys2Proof/Machine/Join.lean ====
section
/-!
DEFINITION. Stage S8: joining score records to frames, join deadlines and the release in order (R30, R334 to R340,
R358 to R361).
-/

set_option Elab.async false

namespace Sys2Proof.Machine

open Sys2Proof

/-- A frame's join deadline (R30). -/
def Frame.joinDeadline (f : Frame) : Nat := f.stamp + f.holdBudget - 2048

/-- The policy's verdict for an unscored frame (R337). -/
def policyVerdict (p : Nat) : Nat := if p = 0 then 1 else if p = 1 then 2 else if p = 2 then 4 else 3

/-- A list's `k`-th count raised by one. -/
def bump (l : List Nat) (k : Nat) : List Nat := l.set k (l.getD k 0 + 1)

/-- A record sets the verdict of a frame: the highest, of equal ones the first to arrive; of the fabric's in one clock that of the
lowest tap, `src` being count and tap (R335, R381). -/
def Frame.outranked (f : Frame) (v : Nat) (src : Option (Nat × Nat)) : Bool :=
  !f.any || f.verdict < v || (f.verdict = v && (match f.setter, src with
    | some (c, k), some (n, t) => decide (c = n) && decide (t < k)
    | _, _ => false))

/-- A record joined to a frame (R334, R335, R337, R338); codes 6 and 7 join as NONE. -/
def Frame.join (f : Frame) (r : ScoreRec) (src : Option (Nat × Nat) := none) : Frame :=
  let v := if 6 ≤ r.verdict.val then 0 else r.verdict.val
  let counts := r.void || r.tier.val ≠ 0 || r.last
  let g := if f.outranked v src then { f with verdict := v, score := r.score.toNat, tag := r.tag.toNat, setter := src } else f
  { g with any := true, copy := f.copy || r.copy, void := f.void || r.void,
           got := if counts then bump f.got r.tier.val else f.got }

/-- Every tier's arrivals have reached its required count (R336). Log: entry 30 (DESIGN CHOICE). -/
def Frame.complete (f : Frame) : Bool := (List.range 4).all (fun k => f.need.getD k 0 ≤ f.got.getD k 0)

/-- The join of a frame completes, `late` at its deadline (R336, R337). A frame whose verdict no record set has open
SCORE and TAG values. -/
def State.completeJoin (s : State) (id : Nat) (late : Bool) : State :=
  let f := s.frame id
  let p := Pg.stg f.inst 8
  let uns := late || f.void
  let pv := if uns then policyVerdict f.unscoredPol else 0
  let v := max f.verdict pv
  let open' := !f.any || f.verdict < pv
  let g := { f with joined := true, unscored := uns, verdict := if v = 0 then 1 else v,
                    policyDrop := pv = 4 && f.verdict < 4,
                    base := if late then none else some (s.count, f.verdict, f.score, f.tag),
                    score := if open' then s.free % 256 else f.score, tag := if open' then s.free / 256 % 65536 else f.tag }
  let s1 := (if open' then s.drawn else s).setFrame id g
  let s2 := if uns then (s1.incFld p F.STG_JOIN_UNSCORED).raiseIrq p 8 else s1.incFld p F.STG_JOIN_SCORED
  s2.incFld p (F.STG_VERDICTS g.verdict)

/-- A frame's join completes where its counts are met: on entry, or with a record (R336). -/
def State.joinCheck (s : State) (id : Nat) : State :=
  let f := s.frame id
  if !f.joined && f.complete then s.completeJoin id false else s

/-- The frame of S8 a record names (R334). -/
def State.heldFrame (s : State) (inst port pseq : Nat) : Option Nat :=
  (s.queue inst 8).find? (fun id => (s.frame id).port = port && (s.frame id).pseq = pseq)

/-- The join of a frame has been completed by records of the present clock (R358). -/
def State.justJoined (s : State) (f : Frame) : Bool := !s.wdl.stopped && (f.base.map Prod.fst) = some s.count

/-- Such a join taken back: another record of that clock is joined with those that completed it (R358). -/
def State.reopen (s : State) (id : Nat) : State :=
  let f := s.frame id
  let p := Pg.stg f.inst 8
  match f.base with
  | some (_, v, sc, tg) =>
    let s1 := (s.uncount p (if f.unscored then F.STG_JOIN_UNSCORED else F.STG_JOIN_SCORED)).uncount p (F.STG_VERDICTS f.verdict)
    s1.setFrame id { f with joined := false, unscored := false, policyDrop := false, verdict := v, score := sc, tag := tg, base := none }
  | none => s

/-- A score record reaches S8 (R334 to R338, R358, R359, R44), from the fabric by a tap. -/
def State.scoreRecord (s : State) (r : ScoreRec) (tap : Option Nat := none) : State :=
  let i := r.inst.val
  let p := Pg.stg i 8
  let s1 := if 6 ≤ r.verdict.val then s.incFld p F.STG_SCORES_SCORE_BAD else s
  match s1.heldFrame i r.port r.pseq.toNat with
  | some id =>
    let s2 := if s1.justJoined (s1.frame id) then s1.reopen id else s1
    let f := s2.frame id
    if f.joined || f.joinDeadline ≤ s1.count then (s1.incFld p F.STG_SCORES_SCORE_ORPHAN).raiseIrq p 11
    else (s2.setFrame id (f.join r (tap.map (fun t => (s.count, t))))).joinCheck id
  | none => (s1.incFld p F.STG_SCORES_SCORE_ORPHAN).raiseIrq p 11

/-- SCORE_RECORD. -/
def execScoreRecord (off : Nat) (r : ScoreRec) (s : State) : Result := .next ((s.at off).scoreRecord r)

/-- A VOID record for an item of a frame. -/
def voidRec (tier : Fin 4) (inst : Fin 2) (port : Fin 8) (pseq : BitVec 32) : ScoreRec :=
  ⟨inst, port, pseq, tier, 0, false, true, false, 0, 0⟩

/-- A VOID record for a frame named by numbers. Log: entry 55 (DEDUCED). -/
def voidFor (tier : Fin 4) (inst port pseq : Nat) : ScoreRec :=
  voidRec tier (Fin.ofNat 2 inst) (Fin.ofNat 8 port) (BitVec.ofNat 32 pseq)

/-- The oldest frame S7 has finished enters S8 where there is room; its join completes at once where nothing is awaited
(R336). -/
def State.pullJoin (s : State) (i : Nat) : State :=
  match s.waiting i 7 with
  | (id, _) :: _ =>
    let t := s.pull i 8
    if id ∈ t.queue i 8 then t.joinCheck id else t
  | [] => s

/-- A frame leaves S8. -/
def State.leaveJoin (s : State) (i id : Nat) : State :=
  ((s.setQueue i 8 ((s.queue i 8).filter (· ≠ id))).syncFloat i 8).pullJoin i

/-- Frames of an instance that S3 holds on a miss or has handed on, up to S8. -/
def State.ahead (s : State) (i : Nat) : List Nat :=
  (s.pipe.misses.flatMap (fun m => m.frames)).filter (fun id => (s.frame id).inst = i) ++
  (List.range 5).flatMap (fun k => (s.waiting i (k + 3)).map Prod.fst ++ s.queue i (k + 4))

/-- A frame received earlier on its port, of its ordering class, is still on its way to its release (R42, R294). A frame that
waits on a miss has no handle yet: should it be handed on without one, its class must not have gone ahead of it. Names rise in
the order of arrival. -/
def State.heldBack (s : State) (i id : Nat) : Bool :=
  (s.ahead i).any (fun e => e < id && (s.frame e).port = (s.frame id).port && (s.frame e).handle = (s.frame id).handle)

/-- A frame held back by one that cannot be released at this count: a predecessor in S8 that has joined, or joins now at its own
deadline, is released first at the same count (R360). Log: entry 144 (DEDUCED). -/
def State.heldFast (s : State) (i id : Nat) : Bool :=
  (s.ahead i).any (fun e => e < id && (s.frame e).port = (s.frame id).port && (s.frame e).handle = (s.frame id).handle &&
    !(e ∈ s.queue i 8 && ((s.frame e).joined || (s.frame e).joinDeadline ≤ s.count)))

/-- A joined frame that has not been released at its join deadline goes to the Sump (R32, R339). -/
def State.orderLate (s : State) (i id : Nat) : State :=
  (((s.leaveJoin i id).incFld (Pg.stg i 8) F.STG_ORDER_LATE).raiseIrq (Pg.stg i 8) 9).sumpFrame i 8 Why.orderLate id

/-- JOIN_DEADLINE: the count has reached a frame's join deadline: it completes unscored (R336), or, joined and still
held for order, goes to the Sump (R339); one released by a predecessor at that very count is not (R360). -/
def execJoinDeadline (off : Nat) (p : Port) (pseq : BitVec 32) (s : State) : Result :=
  let s0 := s.at off
  let i := p.val % 2
  match s0.heldFrame i p pseq.toNat with
  | some id =>
    let f := s0.frame id
    if s0.count < f.joinDeadline then .next s0
    else if !f.joined then .next (s0.completeJoin id true)
    else if s0.count = f.joinDeadline && !s0.heldFast i id then .next s0
    else .next (s0.orderLate i id)
  | none => .next s0

/-- The frame S8 may release now: joined, none earlier of its class still held, the lowest stamp first (R42, R294,
R339). -/
def State.releasable (s : State) (i : Nat) : Option Nat :=
  let free := (s.queue i 8).filter (fun id => (s.frame id).joined && !s.heldBack i id)
  free.foldl (fun (best : Option Nat) id => match best with
    | none => some id
    | some b => if (s.frame id).stamp < (s.frame b).stamp then some id else some b) none

/-- ORDER_RELEASE: S8 releases a frame to FT4 and S9 while S9 has space (R339, R340), no later than its join deadline (R32). An
uncontrolled frame is not offered (R257). -/
def execOrderRelease (off : Nat) (i : Pipe) (s : State) : Result :=
  let s0 := s.at off
  match s0.releasable i with
  | some id =>
    let f := s0.frame id
    if f.joinDeadline < s0.count then .next (s0.orderLate i id)
    else if (s0.queue i 9).length < 2048 then
      let waits := s0.declared 3 2 && !f.uncontrolled
      let s1 := (s0.leaveJoin i id).setFrame id { f with released := some s0.count, waitFt4 := waits }
      let s2 := if waits then s1.offer 3 id else s1
      .next (s2.enter i 9 id)
    else .next s0
  | none => .next s0

/-- A released frame that waits for its FT4 reply. -/
def State.awaiting (s : State) (inst port pseq : Nat) : Option Nat :=
  (s.queue inst 9).find? (fun id =>
    (s.frame id).port = port && (s.frame id).pseq = pseq && (s.frame id).waitFt4)

/-- An FT4 reply (R340, R361): inside the window it replaces verdict and COPY; later it is counted and ignored. -/
def State.ft4Reply (s : State) (inst port pseq verdict : Nat) (copy : Bool) : State :=
  let p := Pg.stg inst 8
  match s.awaiting inst port pseq with
  | some id =>
    let f := s.frame id
    if s.count < f.released.getD 0 + 64 then
      (s.setFrame id { f with verdict := verdict, copy := copy, waitFt4 := false }).incFld p F.STG_FT4_FT4_REPLACED
    else (s.incFld p F.STG_FT4_FT4_TIMEOUT).raiseIrq p 10
  | none => (s.incFld p F.STG_FT4_FT4_TIMEOUT).raiseIrq p 10

/-- FT4_REPLY. Log: entry 26 (DEDUCED). -/
def execFt4Reply (off : Nat) (p : Port) (pseq : BitVec 32) (verdict : Fin 8) (copy : Bool) (s : State) : Result :=
  .next ((s.at off).ft4Reply (p.val % 2) p pseq.toNat verdict copy)

/-- FT4_TIMEOUT: 64 blk have passed since a frame's release without a reply: S9 acts on the joined verdict (R32).
Log: entry 29 (DEDUCED). -/
def execFt4Timeout (off : Nat) (i : Pipe) (s : State) : Result :=
  let s0 := s.at off
  match (s0.queue i 9).find? (fun id => (s0.frame id).waitFt4 && (s0.frame id).released.getD 0 + 64 ≤ s0.count) with
  | some id => .next (s0.setFrame id { s0.frame id with waitFt4 := false })
  | none => .next s0

end Sys2Proof.Machine
end

