-- ==== Sys2Proof/Machine/Coding.lean ====
section
/-!
DEFINITION. Line coding of serial lanes (spec/04): blocks and their scrambling, training words and frames, test patterns,
8b/10b code groups. Pure functions over bits; what a lane holds of them stands in LaneOps.lean.
-/

set_option Elab.async false

namespace Sys2Proof.Machine

/-! ### CRC-8 -/

/-- CRC-8 of R169 over bytes, most significant bit first: polynomial x^8 + x^2 + x + 1, initial value 0xFF. -/
def crc8Bytes (l : List Nat) : Nat :=
  l.foldl (fun c b => (List.range 8).foldl (fun c i =>
    if (c >>> 7) % 2 = (b >>> (7 - i)) % 2 then c * 2 % 256 else (c * 2 % 256) ^^^ 7) c) 0xFF

/-- CRC-8 of the 32 bits [39:8] of a training word (R169). -/
def crc8 (v : Nat) : Nat := crc8Bytes (beBytes 4 v)

/-! ### Blocks (R159 to R161) -/

/-- A block before scrambling: is it a control block, and its payload bytes 0 to 7. -/
structure Block where
  ctl : Bool
  bytes : List Nat
  deriving DecidableEq, Repr

/-- 64 payload bits scrambled in transmission order (R161), `st` holding the last 58 scrambled bits, the newest in bit 0: the
state after them and the scrambled bits. -/
def scramble (st v : Nat) : Nat × Nat :=
  (List.range 64).foldl (fun (a : Nat × Nat) i =>
    let x := ((v >>> (63 - i)) + (a.1 >>> 38) + (a.1 >>> 57)) % 2
    ((2 * a.1 + x) % 2 ^ 58, 2 * a.2 + x)) (st % 2 ^ 58, 0)

/-- 64 received payload bits descrambled, `prev` being the 64 received before them (R161). -/
def descramble (prev cur : Nat) : Nat :=
  let w := 2 ^ 64 * prev + cur
  (cur ^^^ (w >>> 39) ^^^ (w >>> 58)) % 2 ^ 64

/-- A block's 66 bits as sent, h0 first (R159, R160), and the scrambler's state after it. -/
def blockBits (st : Nat) (b : Block) : Nat × BitVec 66 :=
  let r := scramble st (beNat b.bytes)
  (r.1, BitVec.ofNat 66 ((if b.ctl then 2 else 1) * 2 ^ 64 + r.2))

/-- The sync header of received bits: a data block, a control block, or invalid (R160). -/
def headerOf (w : BitVec 66) : Option Bool :=
  if w.toNat / 2 ^ 64 = 1 then some false else if w.toNat / 2 ^ 64 = 2 then some true else none

/-- The blocks received on a lane after the first of the list, which the descrambler synchronises on; none where the header is
invalid. -/
def openBlocks : List (BitVec 66) → List (Option Block)
  | a :: b :: t =>
    ((headerOf b).map (fun c => ⟨c, beBytes 8 (descramble (a.toNat % 2 ^ 64) (b.toNat % 2 ^ 64))⟩)) :: openBlocks (b :: t)
  | _ => []

/-! ### Link blocks and frames (R642, R644, R645) -/

/-- A control block: its type, bytes 1 to 6, and the CRC-8 (Table RYK-1). -/
def ctlBlock (type : Nat) (b : List Nat) : Block :=
  let x := type :: (b ++ List.replicate 6 0).take 6
  ⟨true, x ++ [crc8Bytes x]⟩

/-- The IDLE block: byte 7 is zero. -/
def idleBlock : Block := ⟨true, [0x1E, 0, 0, 0, 0, 0, 0, 0]⟩

/-- The SOF block of a frame. -/
def sofBlock (vc cls seq len : Nat) : Block :=
  ctlBlock 0x78 [64 * vc + 32 * cls + seq / 256, seq % 256, len / 256, len % 256]

/-- The LLCTL block, its credits in units of 8 blocks. -/
def llctlBlock (nak : Bool) (cls ack : Nat) (credits : List Nat) : Block :=
  ctlBlock 0x2D ([128 * bitOf nak + 64 * cls + ack / 256, ack % 256] ++ credits)

/-- The INIT block. -/
def initBlock (fresh : Bool) (mask ack chip link : Nat) : Block :=
  ctlBlock 0x33 ([bitOf fresh + 2 * mask] ++ beBytes 2 ack ++ beBytes 2 chip ++ [link])

/-- The ALIGN block. -/
def alignBlock (lane seq depth : Nat) : Block := ctlBlock 0x4B [lane, seq, depth]

/-- Payload bytes as data blocks. -/
def dataBlocks (n : Nat) (b : List Nat) : List Block :=
  (List.range n).map (fun i => ⟨false, (sliceOf b (8 * i) 8 ++ List.replicate 8 0).take 8⟩)

/-- The CRC-32 of a frame's EOF: SOF bytes 1 to 7, the header block, the payload blocks (R645). -/
def frameCrc (sof : Block) (header : Nat) (payload : List Nat) : Nat := crc32c (sof.bytes.tail ++ beBytes 8 header ++ payload)

/-- The blocks of a frame whose header block is `header` (R644). -/
def frameBlocks (vc cls seq header : Nat) (payload : List Nat) : List Block :=
  let n := (payload.length + 7) / 8
  let sof := sofBlock vc cls seq n
  let body := dataBlocks n payload
  let c := frameCrc sof header (body.flatMap (fun b => b.bytes))
  [sof, ⟨false, beBytes 8 header⟩] ++ body ++ [ctlBlock 0xE1 (beBytes 4 c)]

/-- The reading of a received frame: the part reached (0 no SOF yet, 1 header due, 2 payload, 3 over), the SOF bytes, the blocks
of header and payload, the CRC of EOF, and the block errors met. -/
structure RxScan where
  part : Nat
  sof : List Nat
  data : List (List Nat)
  crc : Nat
  errors : Nat
  deriving DecidableEq, Repr

/-- LEN of the SOF read. -/
def RxScan.len (a : RxScan) : Nat := beAt a.sof 3 2 % 1024

/-- A block error met. -/
def RxScan.bad (a : RxScan) : RxScan := { a with errors := a.errors + 1 }

/-- One block of a frame read (R642, R644); LLCTL, INIT and ALIGN blocks come as commands of their own.
Log: entry 32 (DEDUCED). -/
def RxScan.take (a : RxScan) (b : Option Block) : RxScan :=
  match b with
  | none => a.bad
  | some b =>
    if !b.ctl then
      if a.part = 1 then { a with part := 2, data := [b.bytes] }
      else if a.part = 2 then { a with data := a.data ++ [b.bytes] }
      else a.bad
    else
      let ok := b.bytes.getD 7 0 = crc8Bytes (b.bytes.take 7)
      match b.bytes.getD 0 0 with
      | 0x1E => if a.part = 1 || a.part = 2 then a.bad else a
      | 0x2D => if ok then a else a.bad
      | 0x33 => if ok then a else a.bad
      | 0x4B => if ok then a else a.bad
      | 0x78 => if ok && a.part = 0 then { a with part := 1, sof := b.bytes } else a.bad
      | 0xE1 => if ok && a.part = 2 && a.data.length = a.len + 1 then { a with part := 3, crc := beAt b.bytes 1 4 } else a.bad
      | _ => a.bad

/-- A frame read from its blocks; one that does not end is a block error. -/
def scanFrame (l : List (Option Block)) : RxScan :=
  let a := l.foldl RxScan.take ⟨0, [], [], 0, 0⟩
  if a.part = 3 then a else a.bad

/-- The blocks of a link's stream from those of its two lanes, the first of them standing on lane `k` (R641). -/
def weave {α : Type} (k : Nat) : List α → List α → List α
  | a :: s, b :: t => if k = 0 then a :: b :: weave k s t else b :: a :: weave k s t
  | s, t => s ++ t

/-! ### Training words and frames (R168, R169) -/

/-- The marker: 32 ones, then 32 zeros. -/
def trainMarker : BitVec 64 := 0xFFFFFFFF00000000

/-- A field of a training word. -/
def wordField (w : BitVec 40) (lo n : Nat) : Nat := (w.toNat >>> lo) % 2 ^ n

/-- A word is valid (R169): CRC, TYPE, no request field 0b11. -/
def wordValid (w : BitVec 40) : Bool :=
  crc8 (wordField w 8 32) = wordField w 0 8 && wordField w 36 4 = 5 &&
  wordField w 34 2 ≠ 3 && wordField w 32 2 ≠ 3 && wordField w 30 2 ≠ 3

/-- A training word from its request (bits [35:27]), REQ_SEQ, STS fields, STS_SEQ, RX_READY and REF_OK (Table LAN-6). -/
def trainWord (req seq : Nat) (sts : Nat × Nat × Nat) (stsSeq : Nat) (ready refOk : Bool) : BitVec 40 :=
  let v := 5 * 2 ^ 28 + req % 2 ^ 9 * 2 ^ 19 + seq % 8 * 2 ^ 16 + sts.1 % 4 * 2 ^ 14 + sts.2.1 % 4 * 2 ^ 12 +
    sts.2.2 % 4 * 2 ^ 10 + stsSeq % 8 * 2 ^ 7 + bitOf ready * 2 ^ 6 + bitOf refOk * 2 ^ 5
  BitVec.ofNat 40 (256 * v + crc8 v)

/-- The taps of a PRBS polynomial (Table LAN-8), none for a code that names no pattern. -/
def prbsTaps (code : Nat) : Option (Nat × Nat) :=
  if code = 1 then some (7, 6) else if code = 2 then some (15, 14) else if code = 3 then some (31, 28) else none

/-- The next bit of a pattern, `h` holding the bits before it, the newest in bit 0. -/
def prbsNext (t : Nat × Nat) (h : Nat) : Nat := ((h >>> (t.1 - 1)) + (h >>> (t.2 - 1))) % 2

/-- `n` bits of a pattern, and the generator's state after them. -/
def prbsRun (t : Nat × Nat) : Nat → Nat → List Nat × Nat
  | 0, h => ([], h)
  | n + 1, h =>
    let b := prbsNext t h
    let r := prbsRun t n ((2 * h + b) % 2 ^ 31)
    (b :: r.1, r.2)

/-- Bits in transmission order as a number. -/
def bitsNat (l : List Nat) : Nat := l.foldl (fun a b => 2 * a + b) 0

/-- The 4,096 UI of a training frame (Table LAN-5), and the PRBS15 generator's state after it. -/
def trainFrame (w : BitVec 40) (gen : Nat) : BitVec 4096 × Nat :=
  let r := prbsRun (15, 14) 3712 gen
  let word := (List.range 40).foldl (fun a i => 256 * a + (if w.toNat >>> (39 - i) % 2 = 1 then 0xF0 else 0x0F)) 0
  (BitVec.ofNat 4096 (trainMarker.toNat * 2 ^ 4032 + word * 2 ^ 3712 + bitsNat r.1), r.2)

/-! ### 8b/10b code groups (R164) -/

/-- The 6-bit sub-blocks abcdei of D.x at running disparity −. -/
def sub6 : List Nat :=
  [0b100111, 0b011101, 0b101101, 0b110001, 0b110101, 0b101001, 0b011001, 0b111000,
   0b111001, 0b100101, 0b010101, 0b110100, 0b001101, 0b101100, 0b011100, 0b010111,
   0b011011, 0b100011, 0b010011, 0b110010, 0b001011, 0b101010, 0b011010, 0b111010,
   0b110011, 0b100110, 0b010110, 0b110110, 0b001110, 0b101110, 0b011110, 0b101011]

/-- The 4-bit sub-blocks fghj of D.x.y at running disparity −, the last one being the alternate of y = 7. -/
def sub4 : List Nat := [0b1011, 0b1001, 0b0101, 0b1100, 0b1101, 0b1010, 0b0110, 0b1110, 0b0111]

/-- The special code groups at running disparity −: K28.0 to K28.7, K23.7, K27.7, K29.7, K30.7. -/
def kGroups : List Nat :=
  [0b0011110100, 0b0011111001, 0b0011110101, 0b0011110011, 0b0011110010, 0b0011111010, 0b0011110110, 0b0011111000,
   0b1110101000, 0b1101101000, 0b1011101000, 0b0111101000]

/-- The ones among the low `n` bits. -/
def onesIn (n v : Nat) : Nat := ((List.range n).map (fun i => v >>> i % 2)).foldl (· + ·) 0

/-- A sub-block of `n` bits at a running disparity: complemented at + where it is unbalanced, or is the one balanced pair that
alternates. -/
def subAt (n v : Nat) (pos : Bool) : Nat :=
  if pos && (2 * onesIn n v ≠ n || v = 0b111000 || (n = 4 && v = 0b1100)) then 2 ^ n - 1 - v else v

/-- The running disparity after a sub-block. -/
def disparity (n v : Nat) (pos : Bool) : Bool :=
  if n < 2 * onesIn n v || v = 0b000111 || (n = 4 && v = 0b0011) then true
  else if 2 * onesIn n v < n || v = 0b111000 || (n = 4 && v = 0b1100) then false
  else pos

/-- The code group of D.x.y at a running disparity. -/
def dGroup (pos : Bool) (x y : Nat) : Nat :=
  let a := subAt 6 (sub6.getD x 0) pos
  let p := disparity 6 a pos
  let alt := y = 7 && (if p then x = 11 || x = 13 || x = 14 else x = 17 || x = 18 || x = 20)
  a * 16 + subAt 4 (sub4.getD (if alt then 8 else y) 0) p

/-- Is a group of 10 bits valid at a running disparity? -/
def groupValid (pos : Bool) (g : Nat) : Bool :=
  kGroups.any (fun k => g = (if pos then 1023 - k else k)) ||
  (List.range 256).any (fun i => g = dGroup pos (i % 32) (i / 32))

/-- The running disparity after a group. -/
def disparityAfter (pos : Bool) (g : Nat) : Bool := disparity 4 (g % 16) (disparity 6 (g / 16) pos)

/-- A symbol of an 8b/10b stream: a data byte, or one of `kGroups` by its place there. -/
inductive Symbol where
  | d (byte : Nat)
  | k (i : Nat)
  deriving DecidableEq, Repr

/-- The code group of a symbol at a running disparity. -/
def Symbol.group (pos : Bool) : Symbol → Nat
  | .d b => dGroup pos (b % 32) (b / 32 % 8)
  | .k i => if pos then 1023 - kGroups.getD i 0 else kGroups.getD i 0

/-- Symbols as code groups from a running disparity on, and the disparity after them (R164). -/
def encodeGroups (pos : Bool) (l : List Symbol) : List (BitVec 10) × Bool :=
  l.foldl (fun (a : List (BitVec 10) × Bool) x =>
    let g := x.group a.2
    (a.1 ++ [BitVec.ofNat 10 g], disparityAfter a.2 g)) ([], pos)

/-- The symbols of a chain frame (Table CFG-5), K27.7 to K29.7, and one idle pair of K28.5 and D16.2. -/
def chainSymbols (type hop stream : Nat) (payload : List Nat) : List Symbol :=
  let body := [type % 256, hop % 256] ++ beBytes 2 payload.length ++ beBytes 2 stream ++ payload
  [.k 9] ++ (body ++ beBytes 4 (crc32c body)).map Symbol.d ++ [.k 10, .k 5, .d 0x50]

/-- The comma in K28.5, of either disparity. -/
def isComma (g : Nat) : Bool := g = 0b0011111010 || g = 0b1100000101

end Sys2Proof.Machine
end

