-- ==== Sys2Proof/Machine/Clocks.lean ====
section
/-!
DEFINITION. The settings of the fabric's clock generators and the clock domains that hold a count follower (R78, R374 to R376).
-/

set_option Elab.async false

namespace Sys2Proof.Machine

open Sys2Proof

/-- Source frequency of an FCG, in kHz. -/
def fcgSource (v : Nat) : Nat := if v % 4 = 2 then 100000 else 156250

/-- VCO frequency of a setting, in kHz; 0 for a setting without a divider. -/
def fcgVco (v : Nat) : Nat := if v / 2 ^ 16 % 16 = 0 then 0 else fcgSource v * (v / 2 ^ 8 % 256) / (v / 2 ^ 16 % 16)

/-- Output frequency of a setting, in kHz. -/
def fcgOut (v : Nat) : Nat := if v / 2 ^ 20 % 64 = 0 then 0 else fcgVco v / (v / 2 ^ 20 % 64)

/-- Does a setting keep the VCO and output ranges? -/
def fcgGood (v : Nat) : Bool :=
  8 ≤ v / 2 ^ 8 % 256 && 1 ≤ v / 2 ^ 16 % 16 && 2 ≤ v / 2 ^ 20 % 64 && 1600000 ≤ fcgVco v && fcgVco v ≤ 3200000 &&
  10000 ≤ fcgOut v && fcgOut v ≤ 800000

/-- The setting an FCG runs with: FCG_CTL as last applied (R375). -/
def State.fcgSetting (s : State) (k : Nat) : Nat := FMap.getD s.fabric.fcg k 0

/-- Output frequency of a setting, in Hz. -/
def fcgHz (v : Nat) : Nat :=
  1000 * fcgSource v * (v / 2 ^ 8 % 256) / max 1 ((v / 2 ^ 16 % 16) * (v / 2 ^ 20 % 64))

/-- The nominal frequency of a clock domain, in Hz (Table CLK-1). -/
def State.nominalHz (s : State) (d : Nat) : Nat :=
  let fast := s.fld (Pg.dmc 0) F.DMC_POP_b16 = 1
  if d < 32 then 644531250
  else if d < 48 then 390625000
  else if d < 184 then 830078125
  else if d < 187 then 125000000
  else if d < 189 then 312500000
  else if d < 191 then 1000000000
  else if d < 193 then 1250000000
  else if d < 202 then 1500000000
  else if d < 203 then 1000000000
  else if d < 211 then (if fast then 2800000000 else 2400000000)
  else if d < 219 then (if fast then 1400000000 else 1200000000)
  else if d < 235 then fcgHz (s.fcgSetting (d - 219))
  else if d = 236 then 1562500000
  else if d = 237 then 1200000000
  else if d = 238 then 300000000
  else if d = 239 then 2000000000
  else if d = 240 then 250000000
  else if d = 244 then 156250000
  else if d = 245 then 781250000
  else if d = 246 then 50000000
  else if d = 247 then 100000000
  else 200000000

/-- A measurement in kHz lies more than CLK_TOL from nominal (R388); JTAG's clock has an upper bound only. -/
def State.outOfRange (s : State) (d khz : Nat) : Bool :=
  let n := s.nominalHz d
  let tol := n * s.fld (Pg.clk (d / 16)) F.CLK_TOL
  let f := 1000 * khz
  (n < f && tol < (f - n) * 1000000) || (d ≠ 246 && f < n && tol < (n - f) * 1000000)

/-- A domain is monitored: always, but a recovered one only while its source claims lock, an FCG's only while it is ACTIVE
(R388). The PCS of a line port takes its clock from the port's four lanes. Log: entry 141 (DEDUCED). -/
def State.monitored (s : State) (d : Nat) : Bool :=
  let locked := fun (l : Nat) => s.bit (Pg.lan l) F.LAN_STATUS_CDR_LOCK
  if d < 32 then locked d
  else if d < 40 then (List.range 4).all (fun j => locked (4 * (d - 32) + j))
  else if 48 ≤ d && d < 176 then locked (d - 16)
  else if d = 184 || d = 185 then locked (d - 24)
  else if d = 187 then locked 162
  else if 219 ≤ d && d < 235 then s.unit (Pg.fab (45 + (d - 219))) = uActive
  else true

/-- The lane whose received clock a domain is. -/
def laneOfDomain (d : Nat) : Option Nat :=
  if d < 32 then some d
  else if 48 ≤ d && d < 176 then some (d - 16)
  else if d = 184 || d = 185 then some (d - 24)
  else if d = 187 then some 162
  else none

/-- Does a domain hold a Windlass follower (Table CLK-1)? -/
def State.hasFollower (s : State) (d : Nat) : Bool :=
  (176 ≤ d && d ≤ 183) || (191 ≤ d && d ≤ 202) || d = 237 || d = 239 || d = 240 ||
  (219 ≤ d && d ≤ 234 && s.fcgSetting (d - 219) / 4 % 2 = 1 && 156250 ≤ fcgOut (s.fcgSetting (d - 219)))

end Sys2Proof.Machine
end

