-- ==== Sys2Proof/Machine/Probe.lean ====
section
/-!
DEFINITION. The probes of the tile network (R435 to R437, R443).
-/

set_option Elab.async false

namespace Sys2Proof.Machine

open Sys2Proof

/-- Header bits [63:0] of a packet with INJ given (Table TNW-3). -/
def Packet.header (p : Packet) (inj : Nat) : Nat :=
  p.dest + p.src * 2 ^ 8 + p.type * 2 ^ 16 + p.len * 2 ^ 20 + p.tag % 2 ^ 16 * 2 ^ 25 + inj % 2 ^ 16 * 2 ^ 41

/-- The channel of a packet type (Table TNW-4). -/
def vcOfType (t : Nat) : Nat :=
  if t < 2 then 3 else if t < 6 then 0 else if t = 6 then 1 else 2

/-- A probe's window opened or closed (R436). -/
def State.probeWindow (s : State) (i : Nat) (openIt : Bool) : State :=
  let p := Pg.tnp i
  let s1 := s.setFld p F.TNP_CTL_b31 (bitOf openIt)
  if s.bit p F.TNP_CTL_b31 && !openIt then s1.raiseIrq p 1 else s1

/-- A period below 64 blk is treated as 64 blk (R76). -/
def markPeriod (p : Nat) : Nat := max 64 p

/-- The comparator of a mark. -/
def State.mark (s : State) (m : Nat) : MarkCmp := FMap.getD s.wdl.marks m ⟨false, 0, 0⟩

/-- A mark fires at the present count: it is due, or has fired just now, once or as often as its period says. -/
def State.markFalls (s : State) (m : Nat) : Bool :=
  let c := s.mark m
  let done := s.fld Pg.wdl (F.WDL_MARK_CTL_FIRED_CNT m) ≠ 0
  (c.count = s.count && (c.armed || (done && c.period = 0))) || (c.armed && done && c.period ≠ 0 && c.count = (s.count + markPeriod c.period) % 2 ^ 64)

/-- Mark `m` fires: windows open and close (R436); a probe whose start and stop mark are the same keeps its window
closed (R443). -/
def State.probeMark (m : Nat) (s : State) (i : Nat) : State :=
  let p := Pg.tnp i
  let other := s.fld p F.TNP_CTL_STOP_MARK
  let start := s.bit p F.TNP_CTL_START_EN && s.fld p F.TNP_CTL_START_MARK = m &&
    !(s.bit p F.TNP_CTL_STOP_EN && other ≠ m && s.markFalls other)
  let stop := s.bit p F.TNP_CTL_STOP_EN && other = m
  if stop then s.probeWindow i false
  else if start then s.probeWindow i true
  else s

/-- A mark as every probe sees it. -/
def State.probeMarks (s : State) (m : Nat) : State := (List.range 16).foldl (State.probeMark m) s

/-- Does a packet match a probe (R435)? -/
def State.probeMatch (s : State) (i : Nat) (p : Packet) : Bool :=
  let g := Pg.tnp i
  let near := fun (v a m : Nat) => (v ^^^ a) &&& m = 0
  (s.fld g F.TNP_FILT_VC_MASK >>> vcOfType p.type) % 2 = 1 && (s.fld g F.TNP_FILT_TYPE_MASK >>> p.type) % 2 = 1 &&
  near p.src (s.fld g F.TNP_NODE_SRC_VAL) (s.fld g F.TNP_NODE_SRC_MSK) &&
  near p.dest (s.fld g F.TNP_NODE_DEST_VAL) (s.fld g F.TNP_NODE_DEST_MSK) &&
  near p.tag (s.fld g F.TNP_TAG_TAG_VAL) (s.fld g F.TNP_TAG_TAG_MSK)

/-- A head written into a probe's trace buffer (R437). -/
def State.probeTrace (s : State) (i lat : Nat) (p : Packet) : State :=
  let g := Pg.tnp i
  let n := s.fld g F.TNP_TRACE_PTR_b0
  let full := s.bit g F.TNP_TRACE_PTR_b7
  if full && s.bit g F.TNP_CTL_TRACE_STOP then s
  else
    let h := p.header lat
    let s1 := ((s.setFld g (F.TNP_TRACE0 n) (s.count % 2 ^ 32)).setFld g (F.TNP_TRACE1 n) (h % 2 ^ 32)).setFld g
      (F.TNP_TRACE2 n) (h / 2 ^ 32)
    let s2 := (s1.setFld g (F.TNP_TRACE3 n) (p.addr % 2 ^ 32)).setFld g F.TNP_TRACE_PTR_b0 (n + 1)
    if n = 127 && !full then (s2.setFld g F.TNP_TRACE_PTR_b7 1).raiseIrq g 0 else s2

/-- A packet passes an output watched by a probe (R437). -/
def State.probeSee (r o : Nat) (p : Packet) (s : State) (i : Nat) : State :=
  let g := Pg.tnp i
  let out := min 4 (s.fld g F.TNP_ATTACH_b8)
  if s.unit g = uActive && s.bit g F.TNP_CTL_b31 && s.fld g F.TNP_ATTACH_b0 = r && out = o && s.probeMatch i p then
    let lat := (s.count % 65536 + 65536 - p.inj % 65536) % 65536
    let s1 := ((s.incFld g F.TNP_PKTS).incFld g F.TNP_FLITS (p.len + 1)).maxFld g F.TNP_LAT_MAX lat
    let s2 := s1.incWide g F.TNP_LAT_SUM_LO lat
    let s3 := if s.fld g F.TNP_LAT_THR < lat then s2.raiseIrq g 2 else s2
    if s.bit g F.TNP_CTL_TRACE then s3.probeTrace i lat p else s3
  else s

/-- A packet as every probe sees it. -/
def State.probesSee (s : State) (r o : Nat) (p : Packet) : State := (List.range 16).foldl (State.probeSee r o p) s

/-- A write of a probe's control register: ARM opens or closes the window (R436). -/
def State.armProbe (s : State) (i : Nat) (was : Bool) : State :=
  let now := s.bit (Pg.tnp i) F.TNP_CTL_ARM
  if now then s.probeWindow i true
  else if was && !now then s.probeWindow i false
  else s

/-- PROBE_ARM: TNP_CTL written (R436). -/
def execProbeArm (off : Nat) (i : Fin 16) (v : Word) (s : State) : Result :=
  .next ((s.at off).onPage (Pg.tnp i.val) 0x044 (fun t =>
    (t.write (Pg.tnp i.val) 0x044 v).armProbe i.val (t.bit (Pg.tnp i.val) F.TNP_CTL_ARM)))

end Sys2Proof.Machine
end

