-- ==== Sys2Proof/Machine/Windlass.lean ====
section
/-!
DEFINITION. The Windlass (spec/02): the count, the anchor, the marks, the full-count broadcast.
-/

set_option Elab.async false

namespace Sys2Proof.Machine

open Sys2Proof

def T.stopped : Nat := 0
def T.free : Nat := 1
def T.slewing : Nat := 2
def T.locked : Nat := 3
def T.holdover : Nat := 4
def T.fault : Nat := 7

/-- WDL_STATUS.TSTATE. -/
def State.tstate (s : State) : Nat := s.fld Pg.wdl F.WDL_STATUS_TSTATE

/-- WDL_STATUS.ACTIVE_ANCHOR. -/
def State.anchor (s : State) : Nat := s.fld Pg.wdl F.WDL_STATUS_ACTIVE_ANCHOR

/-- The Windlass runs: neither STOPPED nor in FAULT. -/
def State.wdlRuns (s : State) : Bool := 1 ≤ s.tstate && s.tstate ≤ 4

/-- The 64-bit value of WDL_PRESET. -/
def State.preset (s : State) : Nat :=
  s.fld Pg.wdl F.WDL_PRESET_LO + 2 ^ 32 * s.fld Pg.wdl F.WDL_PRESET_HI

/-- The signed rate word in force, 0.001 ppm per unit. -/
def State.rate (s : State) : Int := signed 32 (s.fld Pg.wdl F.WDL_RATE)

/-- The Windlass in FAULT (R92, R93), which is trigger 3 of the safe state. -/
def State.windlassFault (s : State) : State :=
  if s.wdlRuns then
    ((s.setFld Pg.wdl F.WDL_STATUS_TSTATE T.fault).setFld Pg.wdl F.WDL_STATUS_ACTIVE_ANCHOR 8).failUnit Pg.wdl
      Reason.hwError
  else s

/-! ### Leaving STOPPED -/

/-- The exit from STOPPED (R96, R98): the count starts from WDL_PRESET, in FREE at the nominal rate. -/
def execWindlassExitStopped (s : State) : Result :=
  if s.tstate = T.stopped && s.wdl.lrefOk && !s.pins.mainReset then
    let s1 := (s.setCount s.preset).wdlMap (fun w => { w with stopped := false })
    let s2 := (s1.setFld Pg.wdl F.WDL_STATUS_TSTATE T.free).setFld Pg.wdl F.WDL_RATE 0
    let s3 := (s2.setFld Pg.wdl F.HDR_UNIT_STATE_STATE uActive).syncPermanent Pg.wdl
    .next s3
  else .next s

/-- A write of WDL_PRESET_LO or WDL_PRESET_HI (R95): stored, and while STOPPED the held count follows. -/
def execWdlPresetWrite (off : Nat) (high : Bool) (v : Word) (s : State) : Result :=
  let s1 := (s.at off).write Pg.wdl (if high then 0x058 else 0x054) v
  .next (if s1.tstate = T.stopped then { s1 with count := s1.preset } else s1)

/-- A full-width read of WDL_COUNT_LO (R97): the count, with bits [63:32] latched. -/
def execWdlCountLoRead (off : Nat) (s : State) : Result :=
  let s1 := (s.at off).setFld Pg.wdl F.WDL_COUNT_HI ((s.at off).count / 2 ^ 32)
  .next { s1 with rdata := [BitVec.ofNat 32 s1.count] }

/-! ### The anchor -/

/-- LOSS_CAUSE codes (Table WDL-7). -/
def lossCode : LossCause → Nat
  | .los => 1
  | .pcsAlign => 2
  | .fecAlign => 3
  | .rateRange => 4
  | .phaseGuard => 5
  | .admin => 6

/-- A port enters lock with a recovered rate (R65). -/
def State.beginLock (s : State) (p : Nat) (rate : Int) : State :=
  { s with wdl := { s.wdl with
      lockSince := FMap.set s.wdl.lockSince p s.count, portRate := FMap.set s.wdl.portRate p rate } }

/-- The lock of a port ends: it must qualify again (R65). -/
def State.endLock (s : State) (p : Nat) : State :=
  ({ s with wdl := { s.wdl with lockSince := FMap.erase s.wdl.lockSince p } }).setFld Pg.wdl ⟨0x044, 16 + p, 1⟩ 0

/-- Blk gone by since a count, over the wrap of R63 too. -/
def State.since (s : State) (t : Nat) : Nat := (s.count + 2 ^ 64 - t % 2 ^ 64) % 2 ^ 64

/-- The rate of a port lies within ±250 ppm of nominal (R65). -/
def rateGood (r : Int) : Bool := r.natAbs ≤ 250000

/-- HOLDOVER entered (R70): the flywheel stays at its rate word. -/
def State.enterHoldover (s : State) : State :=
  ((s.setFld Pg.wdl F.WDL_STATUS_TSTATE T.holdover).setFld Pg.wdl F.WDL_STATUS_ACTIVE_ANCHOR 8).raiseIrq Pg.wdl 1

/-- The Windlass follows an anchor: SLEWING toward it or LOCKED to it. -/
def State.anchored (s : State) : Bool := (s.tstate = T.slewing || s.tstate = T.locked) && s.anchor < 8

/-- The active anchor fails (R69, R91): discipline freezes at the first indicator, with HOLDOVER.
Log: entry 12 (DEDUCED). -/
def State.failAnchor (s : State) (c : LossCause) : State :=
  let s1 := (s.setFld Pg.wdl F.WDL_STATUS_LOSS_CAUSE (lossCode c)).incFld Pg.wdl F.WDL_ANCHOR_LOSSES_b0
  let s2 := ((if c = .phaseGuard then s1.raiseIrq Pg.wdl 7 else s1).raiseIrq Pg.wdl 0).enterHoldover
  { s2 with wdl := { s2.wdl with lossAt := some (s.anchor, s.count), anchorFailed := true, noneListed := false, steadySince := none } }

/-- What lock a port is in after an indicator: none; after the phase guard or ADMIN, which leave signal, locks and rate as they
are, it is in lock again at once, so its 16 turns start anew (R65); a rate out of range is no rate to lock at.
Log: entry 12 (DEDUCED). -/
def State.relock (s : State) (p : Nat) (c : LossCause) : State :=
  match FMap.get? s.wdl.portRate p with
  | some r =>
    if (c = .phaseGuard || c = .admin) && s.bit (Pg.lnp p) F.LNP_STATUS_LINK && rateGood r then s.beginLock p r
    else if c = .rateRange then { s with wdl := { s.wdl with portRate := FMap.erase s.wdl.portRate p } }
    else s
  | none => s

/-- A loss indicator of a port (R65, R69): its lock is interrupted, and it fails where it is the active anchor; of several
indicators in one clock LOSS_CAUSE records the lowest. -/
def State.interruptLock (s : State) (p : Nat) (c : LossCause) : State :=
  let s1 := (s.endLock p).relock p c
  if s.anchored && s.anchor = p then s1.failAnchor c
  else if s.wdl.lossAt = some (p, s.count) && lossCode c < s.fld Pg.wdl F.WDL_STATUS_LOSS_CAUSE then
    s1.setFld Pg.wdl F.WDL_STATUS_LOSS_CAUSE (lossCode c)
  else s1

/-- A loss indicator on the active anchor; with none, on the port that failed at this very count (R69). -/
def State.loseAnchor (s : State) (c : LossCause) : State :=
  if s.anchored then s.interruptLock s.anchor c
  else match s.wdl.lossAt with
    | some (p, t) => if t = s.count then s.interruptLock p c else s
    | none => s

/-- ANCHOR_LOSS: a loss indicator on the active anchor (R69). -/
def execAnchorLoss (off : Nat) (cause : LossCause) (s : State) : Result := .next ((s.at off).loseAnchor cause)

/-- A port in lock for 16 uninterrupted turns is qualified (R65). -/
def State.qualify (s : State) (p : Nat) : State :=
  match FMap.get? s.wdl.lockSince p with
  | some t => if 16 * 65536 ≤ s.since t then s.setFld Pg.wdl ⟨0x044, 16 + p, 1⟩ 1 else s
  | none => s

/-- PORT_QUALIFIED at an instant of the turn. -/
def execPortQualified (off : Nat) (p : Port) (s : State) : Result := .next ((s.at off).qualify p.val)

/-- Is a port qualified? -/
def State.qualified (s : State) (p : Nat) : Bool := s.bit Pg.wdl ⟨0x044, 16 + p, 1⟩

/-- The rate of the port that disciplines the flywheel. -/
def State.anchorRate (s : State) : Int := FMap.getD s.wdl.portRate s.anchor s.rate

/-- While slewing: the instant since which the rate difference is below 0.05 ppm with the phase within ±1 blk (R71). -/
def State.noteSteady (s : State) (phase : Int) : State :=
  if (s.anchorRate - s.rate).natAbs < 50 && phase.natAbs ≤ 256 then
    match s.wdl.steadySince with
    | some _ => s
    | none => { s with wdl := { s.wdl with steadySince := some s.count } }
  else { s with wdl := { s.wdl with steadySince := none } }

/-- A qualified port taken as anchor (R66, R71): the phase measured at the boundary is absorbed as the new reference phase, so
the block slots stand where the count does. -/
def State.takeAnchor (s : State) (p : Nat) (phase : Int) : State :=
  let s1 := (s.setFld Pg.wdl F.WDL_STATUS_TSTATE T.slewing).setFld Pg.wdl F.WDL_STATUS_ACTIVE_ANCHOR p
  let s2 := ((s1.setFld Pg.wdl F.WDL_STATUS_LEARNED 0).setFld Pg.wdl F.WDL_PHASE 0).incFld Pg.wdl
    F.WDL_ANCHOR_LOSSES_WDL_ANCHOR_CHANGES
  let s3 := s2.raiseIrq Pg.wdl 3
  ({ s3 with wdl := { s3.wdl with
      anchorFailed := false, noneListed := false, steadySince := none, hist := [], phaseRef := phase, slots := 256 * s3.count } }).noteSteady 0

/-- WDL_FALLBACK as a list of ports: 0xF ends it, 8 to 14 are ignored. -/
def fallbackList (v : Nat) : List Nat :=
  ((((List.range 7).map (fun i => v / 16 ^ i % 16)).takeWhile (fun e => e ≠ 15)).filter (fun e => e < 8))

/-- The fallback port due: the first of the list that is qualified; once a boundary since the failure has found none, the first
of the listed ports to qualify (R67). -/
def State.fallbackDue (s : State) : Option Nat :=
  let ports := (fallbackList (s.inForce Pg.wdl F.WDL_FALLBACK)).filter s.qualified
  let age := fun (p : Nat) => match FMap.get? s.wdl.lockSince p with
    | some t => s.since t
    | none => 0
  if s.wdl.noneListed then ports.find? (fun p => ports.all (fun r => age r ≤ age p)) else ports.head?

/-- The port due at a boundary (R66 to R68), from the settings in force. With ANCHOR_SEL at 8 no port is due, after an anchor
failure too. Log: entry 112 (DESIGN CHOICE). -/
def State.anchorDue (s : State) : Option Nat :=
  let sel := s.inForce Pg.wdl F.WDL_CTL_ANCHOR_SEL
  if 8 ≤ sel then none
  else if s.qualified sel then (if s.anchor = sel then none else some sel)
  else if s.tstate = T.holdover && s.wdl.anchorFailed && s.inForce Pg.wdl F.WDL_CTL_AUTO_FALLBACK ≠ 0 then
    s.fallbackDue
  else none

/-- One turn's slew: the rate word moves toward the anchor's rate by at most 2 ppm (R71). -/
def State.slew (s : State) (phase : Int) : State :=
  let d := s.anchorRate - s.rate
  let step := if d < -2000 then -2000 else if 2000 < d then 2000 else d
  (s.setFld Pg.wdl F.WDL_RATE (unsigned 32 (s.rate + step))).noteSteady phase

/-- A port's rate as a boundary measures it (R65): out of ±250 ppm it interrupts the lock, of the anchor as of any other port;
within it, a port with link that is out of lock is in lock from here on. -/
def State.measure (s : State) (m : Port × Int) : State :=
  let p := m.1.val
  if !rateGood m.2 then s.interruptLock p .rateRange
  else if (FMap.get? s.wdl.lockSince p).isNone && s.bit (Pg.lnp p) F.LNP_STATUS_LINK then s.beginLock p m.2
  else { s with wdl := { s.wdl with portRate := FMap.set s.wdl.portRate p m.2 } }

/-- A phase within the ±1 blk that LOCKED keeps (R61), in 1/256 blk. -/
def clampPhase (x : Int) : Int := max (-256) (min 256 x)

/-- The mean of rates, rounded down; none of none. -/
def meanRate (l : List Int) : Int := l.foldl (· + ·) 0 / l.length

/-- WDL_PHASE shows a phase error, and the anchor's block slots stand that far from the count (R61). -/
def State.showPhase (s : State) (x : Int) : State :=
  let t := s.setFld Pg.wdl F.WDL_PHASE (unsigned 16 x)
  { t with wdl := { t.wdl with slots := 256 * t.count - x } }

/-- One turn in LOCKED (R61, R70): the rate word is the anchor's mean rate over the turns in LOCKED, the last 16 at most, and the
phase error stays within ±1 blk. Log: entry 113 (DESIGN CHOICE). -/
def State.discipline (s : State) (phase : Int) : State :=
  let h := (s.anchorRate :: s.wdl.hist).take 16
  let s1 := { s with wdl := { s.wdl with hist := h } }
  let s2 := (s1.setFld Pg.wdl F.WDL_RATE (unsigned 32 (meanRate h))).showPhase (clampPhase phase)
  if s2.bit Pg.wdl F.WDL_STATUS_LEARNED then s2.setFld Pg.wdl F.WDL_LEARNED_RATE (unsigned 32 (meanRate h)) else s2

/-- LOCKED entered from SLEWING (R71). -/
def State.enterLocked (s : State) : State :=
  let s1 := ((s.setFld Pg.wdl F.WDL_STATUS_TSTATE T.locked).setFld Pg.wdl F.WDL_HOLDOVER_TURNS 0).raiseIrq Pg.wdl 2
  ({ s1 with wdl := { s1.wdl with lockedAt := s.count, steadySince := none, hist := [s.rate] } }).milestone 8

/-- The criteria of R71 have held for `n` turns. -/
def State.steadyFor (s : State) (n : Nat) : Bool :=
  match s.wdl.steadySince with
  | some t => s.tstate = T.slewing && n * 65536 ≤ s.since t
  | none => false

/-- What the flywheel does of the turn that ends: the slew, which ends in LOCKED within the bound of R71; the discipline; a turn
of HOLDOVER counted: WDL_HOLDOVER_TURNS counts the boundaries that find the Windlass in HOLDOVER, before an anchor is taken
there. Log: entry 113 (DESIGN CHOICE). -/
def State.flywheelTurn (s : State) (phase : Int) : State :=
  if s.steadyFor 2 then s.enterLocked.discipline phase
  else if s.tstate = T.slewing then s.slew phase
  else if s.tstate = T.locked then s.discipline phase
  else if s.tstate = T.holdover then s.incFld Pg.wdl F.WDL_HOLDOVER_TURNS
  else s

/-- A boundary that finds a failed anchor and no listed port qualified is noted (R67). -/
def State.noteNone (s : State) : State :=
  if s.tstate = T.holdover && s.wdl.anchorFailed && s.fallbackDue.isNone then
    { s with wdl := { s.wdl with noneListed := true } }
  else s

/-- The Windlass's part of a turn boundary, at the boundary's count and with the settings in force: the rates measured, the phase
guard of ±4 blk (R69), the flywheel's turn, qualifications, the anchor change due (R85, first and second). The HOLDOVER of a loss indicator was entered
with the indicator. Log: entry 112 (DESIGN CHOICE), entry 113 (DESIGN CHOICE). -/
def State.windlassBoundary (s : State) (m : TurnMeasure) : State :=
  let s0 := m.rates.foldl State.measure s
  let s1 := if s0.anchored && 1024 < m.phase.natAbs then s0.loseAnchor .phaseGuard else s0
  let s2 := (List.range 8).foldl State.qualify (s1.flywheelTurn m.phase)
  if !s2.wdlRuns then s2
  else if 8 ≤ s2.inForce Pg.wdl F.WDL_CTL_ANCHOR_SEL then
    (if s2.tstate = T.slewing || s2.tstate = T.locked then s2.enterHoldover else s2)
  else
    match s2.anchorDue with
    | some p => s2.takeAnchor p m.taken
    | none => s2.noteNone

/-- SLEW_LOCK: LOCKED entered from SLEWING once the criteria of R71 have held for one turn. -/
def execSlewLock (s : State) : Result := .next (if s.steadyFor 1 then s.enterLocked else s)

/-- LEARNED set after 16 uninterrupted turns in LOCKED (R70). -/
def execLearnedSet (s : State) : Result :=
  if s.tstate = T.locked && 16 * 65536 ≤ s.since s.wdl.lockedAt then
    .next (((s.setFld Pg.wdl F.WDL_STATUS_LEARNED 1).setFld Pg.wdl F.WDL_LEARNED_RATE (unsigned 32 (meanRate s.wdl.hist))).milestone 9)
  else .next s

/-! ### Marks -/

/-- A mark's comparator set, with ARM as it reads. -/
def State.setMark (s : State) (m : Nat) (c : MarkCmp) : State :=
  ({ s with wdl := { s.wdl with marks := FMap.setC s.wdl.marks m c ⟨false, 0, 0⟩ } }).setFld Pg.wdl
    (F.WDL_MARK_CTL_ARM m) (bitOf c.armed)

/-- What a write of MARK_CTL does once stored (R74, R75): ARM = 1 loads the comparator from the shadows
within 16 blk of the write and clears FIRED_CNT; a mark loaded with a count not above the master count is past. -/
def State.armMark (s : State) (m : Nat) : State :=
  if s.bit Pg.wdl (F.WDL_MARK_CTL_ARM m) then
    let c := s.fld Pg.wdl (F.WDL_MARK_LO m) + 2 ^ 32 * s.fld Pg.wdl (F.WDL_MARK_HI m)
    let p := s.fld Pg.wdl (F.WDL_MARK_PERIOD m)
    let load := s.count + s.free % 17
    let s1 := s.drawn.setFld Pg.wdl (F.WDL_MARK_CTL_FIRED_CNT m) 0
    if c ≤ load then
      ((s1.setMark m ⟨false, c, p⟩).hwSet Pg.wdl (F.WDL_MARK_CTL_PAST m)).raiseIrq Pg.wdl 5
    else s1.setMark m ⟨true, c, p⟩
  else s.setMark m ⟨false, (s.mark m).count, (s.mark m).period⟩

/-- A mark fires at the present count (R76, R77): its record, its actions, and the next count of a periodic
mark. -/
def State.fireMark (s : State) (m : Nat) : State :=
  let c := s.mark m
  let s1 := (s.hwSet Pg.wdl (F.WDL_MARK_CTL_FIRED m)).incFld Pg.wdl (F.WDL_MARK_CTL_FIRED_CNT m)
  let s2 := if c.period = 0 then s1.setMark m ⟨false, c.count, 0⟩
    else s1.setMark m ⟨true, (c.count + markPeriod c.period) % 2 ^ 64, c.period⟩
  let s3 := if s.bit Pg.wdl (F.WDL_MARK_CTL_IRQ m) then
      (s2.hwSet Pg.wdl ⟨if m < 32 then 0x074 else 0x078, m % 32, 1⟩).raiseIrq Pg.wdl 4 else s2
  let s4 := if s.bit Pg.wdl (F.WDL_MARK_CTL_SNAP m) then s3.snapshotArmed F.HDR_SNAP_CTL_ON_MARK else s3
  let s5 := if s.bit Pg.wdl (F.WDL_MARK_CTL_PIN m) then s4.emit (.markPulse (s.fld Pg.wdl (F.WDL_MARK_CTL_PIN_SEL m)))
    else s4
  let s6 := s5.probeMarks m
  if s.bit Pg.wdl (F.WDL_MARK_CTL_CPC m) then s6.emit (.cpcMark m s.count) else s6

/-- The marks set at the present count fire, in ascending order (R75, R85, R86). -/
def State.fireMarks (s : State) : State :=
  ((List.range 64).filter (fun m => (s.mark m).armed && (s.mark m).count = s.count)).foldl State.fireMark s

/-- Marks set at the present count fire before a read at that count clears what they copy (R138). -/
def State.dueMarks (s : State) : State := if s.wdl.stopped then s else s.fireMarks

/-- MARK_FIRE: the master count reaches an armed mark's comparator within the turn (R75, R77); every mark set at that count
fires with it, in ascending order (R86). -/
def execMarkFire (m : Fin 64) (s : State) : Result :=
  let c := s.mark m.val
  if c.armed && !s.wdl.stopped && c.count / 65536 = s.turn && s.count ≤ c.count then
    .next ({ s with count := c.count } : State).fireMarks
  else .next s

/-- What falls at the present count before a mark's control is written: a mark re-armed at the count at which it is firing fires
first, and once (R90). -/
def State.fireFirst (s : State) (m : Nat) : State :=
  if (s.mark m).armed && !s.wdl.stopped && (s.mark m).count = s.count then s.fireMarks else s

/-- MARK_ARM: a write of MARK_CTL(m). -/
def execMarkArm (off : Nat) (m : Fin 64) (ctl : Word) (s : State) : Result :=
  .next ((((s.at off).fireFirst m.val).write Pg.wdl (F.WDL_MARK_CTL_ARM m.val).off ctl).armMark m.val)

/-! ### Followers -/

/-- The Gray code of the low count that a follower receives on every core clock (R78). -/
def grayLow (n : Nat) : Nat := (n % 4096) ^^^ (n % 4096 / 2)

/-- The 12 bits a Gray code stands for. -/
def ungray (g : Nat) : Nat := (List.range 12).foldl (fun a i => a ^^^ (g / 2 ^ i)) 0

/-- The count that the follower of a domain shows (R78): the full count it loaded last, moved on to the Gray-coded low count it
receives, at most 3 blk behind the master count; adrift, its own estimate (R92). Log: entry 15 (DESIGN CHOICE). -/
def State.followerCount (s : State) (d : Nat) : Nat :=
  match FMap.get? s.wdl.adrift d with
  | some _ => Config.ownEstimate d s.count % 2 ^ 64
  | none =>
    let low := ungray (grayLow (s.count + 2 ^ 64 - Config.followerLag d s.count % 4))
    (s.wdl.lastFull + (low + 4104 - s.wdl.lastFull % 4096) % 4096 + 2 ^ 64 - 8) % 2 ^ 64

/-- A follower advances on its own estimate until the next good broadcast (R92). -/
def State.setAdrift (s : State) (d : Nat) : State :=
  s.wdlMap (fun w => { w with adrift := FMap.set w.adrift d (FMap.getD w.adrift d w.lastFull) })

/-- A follower's error (R92): counted with its clock domain; the follower is adrift. -/
def State.followerError (s : State) (d : Nat) : State :=
  (((s.incFld Pg.wdl F.WDL_FOLLOWER_ERRS_b0).setFld Pg.wdl F.WDL_FOLLOWER_ERRS_b16 d).raiseIrq Pg.wdl 6).setAdrift d

/-- A full-count broadcast fails in a follower; the second in a row in one follower puts the Windlass in FAULT (R92). -/
def State.broadcastError (s : State) (d : Nat) : State :=
  if d ∈ s.wdl.badFollowers then (s.followerError d).windlassFault else s.followerError d

/-- A full-count broadcast (R78, R92): the followers `bad` in which it fails stay adrift, with the full count they had; every other
one loads the count. -/
def State.broadcast (s : State) (bad : List Nat) : State :=
  (bad.foldl State.broadcastError s).wdlMap (fun w => { w with
    adrift := w.adrift.filter (fun e => e.1 ∈ bad), badFollowers := bad, lastFull := s.count })

/-- FULL_COUNT_BROADCAST of a count that runs: `gray` are followers that find a parity error or a Gray-code step of more than one at
this count; at a multiple of 4,096 blk the full count is sent too, and `bad` are those in which it fails (R78, R92). Only domains
with a follower have either (R82). -/
def execFullCountBroadcast (off : Nat) (gray bad : List Nat) (s : State) : Result :=
  if s.wdl.stopped then .next s
  else
    let s1 := (gray.filter s.hasFollower).foldl State.followerError (s.at off)
    .next (if s1.count % 4096 = 0 then s1.broadcast (bad.filter s.hasFollower) else s1)

end Sys2Proof.Machine
end

