-- ==== Sys2Proof/Machine/LaneOps.lean ====
section
/-!
DEFINITION. What serial lanes do (spec/04): training, fast retrain, retirement, test patterns, and the Ryuklin
reference. The commands stand in Lanes.lean.
-/

set_option Elab.async false

namespace Sys2Proof.Machine

open Sys2Proof

/-- The training states of Table LAN-7. -/
def L.disabled : Nat := 0
def L.waitSignal : Nat := 1
def L.frameLock : Nat := 2
def L.train : Nat := 3
def L.localReady : Nat := 4
def L.dataStart : Nat := 5
def L.test : Nat := 6
def L.up : Nat := 7
def L.backoff : Nat := 8
def L.noPartner : Nat := 9
def L.fastRetrain : Nat := 10
def L.fixedUp : Nat := 11

/-- Is a LAN instance a Ryuklin lane (R148)? -/
def isRyk (l : Nat) : Bool := 32 ≤ l && l < 160

/-- LAN_STATUS.TSTATE of a lane. -/
def State.lstate (s : State) (l : Nat) : Nat := s.fld (Pg.lan l) F.LAN_STATUS_TSTATE

def R.acquire : Nat := 0
def R.locked : Nat := 1
def R.holdover : Nat := 2
def R.none : Nat := 3

/-- The page of the reference registers. -/
def refPage : Nat := 0x0120

/-- REF_CTL.ROLE; 3 is treated as 0. -/
def State.refRole (s : State) : Nat :=
  if s.fld refPage F.REF_CTL_ROLE = 3 then 0 else s.fld refPage F.REF_CTL_ROLE

/-- REF_STATUS.RSTATE. -/
def State.rstate (s : State) : Nat := s.fld refPage F.REF_STATUS_RSTATE

/-- A lane before anything has happened to it. -/
def Lane.fresh : Lane :=
  ⟨0, (0, 0, 0), 0, false, false, false, 0, 0, 0, 0, false, 0, false, 0, false, 0, 0, 0, 0, none, false,
   ⟨none, none, 0, 0, 0, false, 0, 0, 0, false⟩⟩

/-- A lane whose training starts again: what outlasts an attempt stays, the count of failed tests after FAST_RETRAIN and the
coding's state among it, but for the search for block lock. Log: entry 125 (DESIGN CHOICE). -/
def Lane.restart (x : Lane) : Lane :=
  { Lane.fresh with fastFails := x.fastFails, testMode := x.testMode, code := { x.code with run := 0, win := 0 } }

/-- A lane's own state. -/
def State.lane (s : State) (l : Nat) : Lane := FMap.getD s.lanes l Lane.fresh

/-- A lane's own state set. -/
def State.setLane (s : State) (l : Nat) (x : Lane) : State := { s with lanes := FMap.setC s.lanes l x Lane.fresh }

/-- TSTATE set. -/
def State.setLstate (s : State) (l v : Nat) : State := s.setFld (Pg.lan l) F.LAN_STATUS_TSTATE v

/-- Signal detect of a lane. -/
def State.sig (s : State) (l : Nat) : Bool := s.bit (Pg.lan l) F.LAN_STATUS_SIG_DET

/-! ### The Ryuklin reference (R153 to R157) -/

/-- What the chip sends as REF_OK (Table LAN-6): it is ROOT, or its reference is LOCKED. -/
def State.refOk (s : State) : Bool := s.refRole = 1 || s.rstate = R.locked

/-- RYK_REF brought up to date (R668): 0 at a ROOT, one more than the partner of the active candidate at a LOCKED
follower, else 0xFF. Log: entry 36 (DEDUCED). -/
def State.syncDepth (s : State) : State :=
  let d := if s.refRole = 1 then 0
    else if s.refRole = 2 && s.rstate = R.locked then
      min 0xFF (s.fld (Pg.ryk (s.fld refPage (F.REF_CAND_b0 (s.fld refPage F.REF_STATUS_ACTIVE_CAND)))) F.RYK_STATUS_b8 + 1)
    else 0xFF
  s.setFld (Pg.ryk 0) F.RYK_REF d

/-- The spread a ROOT applies to its reference (R154): the amplitude in units of 0.05 % and the frequency in Hz; a FOLLOWER never
adds spread. The codes RSVD_SET records are treated as the table says (Table LAN-14). -/
def State.spread (s : State) : Option (Nat × Nat) :=
  if s.refRole = 1 && s.bit refPage F.REF_CTL_SSC_EN then
    let f := s.fld refPage F.REF_CTL_SSC_FREQ
    some (min 10 (s.fld refPage F.REF_CTL_SSC_AMP), 30000 + 500 * (if 7 ≤ f then 3 else f))
  else none

/-- The mean offset of the reference whose source has an offset `v`: triangular down-spread lowers it by half its amplitude,
250 ppm for each 0.05 % (R154). -/
def State.spreadMean (s : State) (v : Int) : Int :=
  match s.spread with
  | some (a, _) => v - 250000 * a
  | none => v

/-- The turns that hold 64 spread periods, or 2 ms without spread (R197). A follower's reference carries the root's spread, which it
does not know: 30.0 kHz to 33.0 kHz, or none, are 47 to 51 turns. Log: entry 126 (DEDUCED). -/
def State.learnTurns (s : State) : Nat :=
  if s.refRole = 2 then 47 + Config.rootSpread s.draws % 5
  else match s.spread with
    | some (_, f) => 64 * 10 ^ 12 / f / 41943040 + 1
    | none => 48

/-- REF_OFFSET set. -/
def State.setOffset (s : State) (v : Int) : State := s.setFld refPage F.REF_OFFSET (unsigned 32 v)

/-- The reference LOCKED on a candidate, or on RREF (7); its offset against LREF is a measurement, and what it learns begins anew
(R197). -/
def State.refLock (s : State) (cand : Nat) : State :=
  ((((({ s with ryk := { s.ryk with offsets := [] } } : State).setFld refPage F.REF_STATUS_RSTATE R.locked).setFld refPage F.REF_STATUS_ACTIVE_CAND cand).setOffset
    (s.spreadMean (signed 32 (s.free % 2 ^ 32)))).drawn.milestone 10).syncDepth

/-- The mean of the offsets learned, or the present offset before a boundary has given one. -/
def State.refMean (s : State) : Int :=
  let l := s.ryk.offsets.take s.learnTurns
  if l.isEmpty then signed 32 (s.fld refPage F.REF_OFFSET) else l.foldl (· + ·) 0 / (l.length : Int)

/-- The reference in HOLDOVER: it holds the mean it has learned within 1 ppm (R197). -/
def State.refHoldover (s : State) : State :=
  ((((s.setFld refPage F.REF_STATUS_RSTATE R.holdover).setFld refPage F.REF_STATUS_ACTIVE_CAND 7).setOffset
    (s.refMean + (s.free % 2001 : Nat) - 1000)).drawn.incFld refPage F.REF_EVENTS_HOLDOVER |>.raiseIrq refPage 9).syncDepth

/-- The reference's part of a turn boundary: while LOCKED its offset is measured and learned (R197, Table LAN-14). -/
def State.refBoundary (s : State) (v : Int) : State :=
  if s.rstate = R.locked then
    let o := s.spreadMean v
    let t := s.setOffset o
    { t with ryk := { t.ryk with offsets := (o :: t.ryk.offsets).take 64 } }
  else s

/-- Is candidate `k` listed and qualified? -/
def State.candOk (s : State) (k : Nat) : Bool :=
  s.bit refPage (F.REF_CAND_b7 k) && s.bit refPage ⟨0x208, 8 + k, 1⟩

/-- A follower without a candidate takes the highest-priority qualified one (R156). -/
def State.refAcquire (s : State) : State :=
  if s.refRole = 2 && (s.rstate = R.acquire || s.rstate = R.holdover) then
    match [0, 1, 2, 3].find? s.candOk with
    | some k => s.refLock k
    | none => s
  else s

/-- What a write of REF_CTL does (Table LAN-3): the role decides the reference's state, at the write.
Log: entry 148 (DESIGN CHOICE). -/
def State.refRoleWritten (s : State) (oldRole : Nat) : State :=
  if s.refRole = oldRole then s
  else if s.refRole = 0 then
    ((s.setFld refPage F.REF_STATUS_RSTATE R.none).setFld refPage F.REF_STATUS_ACTIVE_CAND 7).syncDepth
  else if s.refRole = 1 then (if s.rref then s.refLock 7 else s.refHoldover)
  else ((s.setFld refPage F.REF_STATUS_RSTATE R.acquire).setFld refPage F.REF_STATUS_ACTIVE_CAND 7).syncDepth.refAcquire

/-- A candidate lost (R156): the follower on it takes the next qualified one in list order, wrapping, or
enters HOLDOVER. -/
def State.candLost (s : State) (k : Nat) : State :=
  let s1 := s.setFld refPage ⟨0x208, 8 + k, 1⟩ 0
  if s1.refRole = 2 && s1.rstate = R.locked && s1.fld refPage F.REF_STATUS_ACTIVE_CAND = k then
    match [(k + 1) % 4, (k + 2) % 4, (k + 3) % 4].find? s1.candOk with
    | some j => ((s1.refLock j).incFld refPage F.REF_EVENTS_b0).raiseIrq refPage 8
    | none => s1.refHoldover
  else s1

/-- What a write of REF_CAND does, at the write: a candidate no longer listed, or listed on another link, is lost (R156, R197).
Log: entry 148 (DESIGN CHOICE). -/
def State.refCandWritten (s : State) (old : Nat) : State :=
  [0, 1, 2, 3].foldl (fun t k =>
    if old / 2 ^ (8 * k) % 256 = t.fld refPage ⟨0x204, 8 * k, 8⟩ then t else t.candLost k) s

/-- The lane that gives a link's reference (R155): lane 0, or lane 1 when lane 0 lacks CDR lock or is RETIRED. -/
def State.refLane (s : State) (n : Nat) : Nat :=
  if s.bit (Pg.lan (32 + 2 * n)) F.LAN_STATUS_CDR_LOCK && s.unit (Pg.lan (32 + 2 * n)) ≠ uRetired then 32 + 2 * n
  else 33 + 2 * n

/-! ### Taking a lane down, retiring it -/

/-- A Ryuklin lane that gives up its blocks has no block lock (R162). -/
def State.unlock (s : State) (l : Nat) : State := if isRyk l then s.setFld (Pg.lan l) F.LAN_STATUS_CODE_LOCK 0 else s

/-- A lane stops: its training ends and no attempt is counted as failed (R191, R193). Log: entry 125 (DESIGN CHOICE). -/
def State.laneStop (s : State) (l : Nat) : State :=
  let x := s.lane l
  ((s.setLstate l L.disabled).unlock l).setLane l x.restart

/-- The candidates on a link lost (R155, R156, R195). -/
def State.linkCandLost (s : State) (n : Nat) : State :=
  [0, 1, 2, 3].foldl (fun t k =>
    if t.bit refPage (F.REF_CAND_b7 k) && t.fld refPage (F.REF_CAND_b0 k) = n then t.candLost k else t) s

/-- A link's reference lane has CDR lock and is not RETIRED (R155, R156). -/
def State.refLaneGood (s : State) (n : Nat) : Bool :=
  s.bit (Pg.lan (s.refLane n)) F.LAN_STATUS_CDR_LOCK && s.unit (Pg.lan (s.refLane n)) ≠ uRetired

/-- A Ryuklin lane retires (R187); a candidate whose reference lane it is counts as lost (R195). -/
def State.laneRetire (s : State) (l reason : Nat) : State :=
  let n := (l - 32) / 2
  let s1 := (s.retire (Pg.lan l) reason).laneStop l
  if s.refLane n = l then s1.linkCandLost n else s1

/-- One transient event of a lane (R185, R186), with the retirement at the threshold in force (R187, R193).
Log: entry 148 (DESIGN CHOICE). -/
def State.laneEvent (s : State) (l : Nat) : State :=
  let s1 := s.transient (Pg.lan l)
  if isRyk l && s1.inForce (Pg.lan l) F.LAN_LEAK_THRESH ≤ s1.fld (Pg.lan l) F.HDR_FAULT_CLASS_WINDOW_CNT then
    s1.laneRetire l Reason.threshold
  else s1

/-! ### Attempts (R174, R177, R178) -/

/-- Presets of Table LAN-4 as a LAN_TX_NOW value: PRE, MAIN, POST. -/
def txPreset (n : Nat) : Nat :=
  let t : Nat × Nat × Nat := match n with
    | 1 => (0, 63, 0)
    | 2 => (0, 55, 8)
    | 3 => (0, 50, 13)
    | 4 => (4, 51, 8)
    | 5 => (6, 45, 12)
    | 6 => (8, 43, 12)
    | 7 => (4, 59, 0)
    | _ => (0, 55, 8)
  t.1 + 256 * t.2.1 + 65536 * t.2.2

/-- NO_PARTNER entered (R177 to R179). -/
def State.laneNoPartner (s : State) (l : Nat) : State := (s.setLstate l L.noPartner).raiseIrq (Pg.lan l) 4

/-- A full attempt starts, or, without signal, NO_PARTNER is entered (R174, R178). Log: entry 127 (DESIGN CHOICE). -/
def State.laneAttempt (s : State) (l : Nat) : State :=
  if s.sig l then
    let s1 := (s.incFld (Pg.lan l) F.LAN_STATUS_ATTEMPT).incFld (Pg.lan l) F.LAN_ATTEMPTS_b0
    let s2 := (s1.setLstate l L.frameLock).setFld (Pg.lan l) F.LAN_TX_NOW (txPreset (s.inForce (Pg.lan l) F.LAN_CFG_INIT_PRESET))
    (s2.unlock l).setLane l (s.lane l).restart
  else s.laneNoPartner l

/-- A new cycle of attempts (R177, R178). -/
def State.laneCycle (s : State) (l : Nat) : State := (s.setFld (Pg.lan l) F.LAN_STATUS_ATTEMPT 0).laneAttempt l

/-- A full attempt failed: BACKOFF, or NO_PARTNER after the eighth (R177). -/
def State.laneFail (s : State) (l cause : Nat) : State :=
  let s1 := ((s.setFld (Pg.lan l) F.LAN_STATUS_LAST_FAIL cause).incFld (Pg.lan l) F.LAN_ATTEMPTS_b16).raiseIrq (Pg.lan l) 3
  if 8 ≤ s1.fld (Pg.lan l) F.LAN_STATUS_ATTEMPT then s1.laneNoPartner l else s1.setLstate l L.backoff

/-- What a Ryuklin lane's transmitter sends: training bits or a block, inverted where TX_INVERT is in force (R151). -/
def State.txInverted (s : State) (l : Nat) : Bool := s.inForce (Pg.lan l) F.LAN_CFG_TX_INVERT = 1

/-- Is the received stream inverted (R151)? -/
def State.rxInverted (s : State) (l : Nat) : Bool := s.inForce (Pg.lan l) F.LAN_CFG_RX_INVERT = 1

/-- A training frame sent (R168): the request outstanding, the results of the requests applied, RX_READY and REF_OK
(R171, R173, R192). -/
def State.sendTraining (s : State) (l : Nat) : State :=
  let x := s.lane l
  let w := trainWord x.req x.reqSeq x.sts x.stsSeq x.rxReady s.refOk
  let f := trainFrame w (x.code.gen.getD (Config.patternSeed l))
  let t := s.setLane l { x with code := { x.code with gen := some f.2 },
                                sentReady := if x.rxReady && s.refOk then x.sentReady + 1 else 0 }
  t.emit (.trainFrame l (if s.txInverted l then ~~~f.1 else f.1))

/-- A block sent on a lane, scrambled (R159, R161), its polarity as TX_INVERT in force has it (R151).
Log: entry 128 (DESIGN CHOICE). -/
def State.sendBits (s : State) (l : Nat) (b : Block) : State :=
  let x := s.lane l
  let r := blockBits (x.code.scr.getD (Config.scrambleSeed l)) b
  (s.setLane l { x with code := { x.code with scr := some r.1 } }).emit (.block l (if s.txInverted l then ~~~r.2 else r.2))

/-- FAST_RETRAIN entered (R180): training frames at once, from the taps last in force, asking for no preset; a frame lock already
had stays (R170). A lane whose signal is lost goes on to NO_PARTNER (R190). Log: entry 124 (DESIGN CHOICE). -/
def State.laneFast (s : State) (l : Nat) : State :=
  let s1 := (s.setLstate l L.fastRetrain).incFld (Pg.lan l) F.LAN_EVENTS_b16
  let x := s.lane l
  let s2 := ((s1.unlock l).setLane l { x.restart with markers := x.markers, missed := x.missed, frameLock := x.frameLock }).laneEvent l
  if s2.lstate l ≠ L.fastRetrain then s2
  else if s2.sig l then s2.sendTraining l
  else (s2.setFld (Pg.lan l) F.LAN_STATUS_LAST_FAIL 7).laneNoPartner l

/-- The lane is enabled: ACTIVE, and a Ryuklin lane with TRAIN_EN in force (Table LAN-7). -/
def State.laneEnabled (s : State) (l : Nat) : Bool :=
  s.unit (Pg.lan l) = uActive && (!isRyk l || s.inForce (Pg.lan l) F.LAN_CFG_TRAIN_EN ≠ 0)

/-- May a lane without training be FIXED_UP: signal, CDR lock, and on Priming in code-group synchronisation? The Priming-out macro
has no receiver to lack them (R148), and needs its clock (R196). Log: entry 149 (DEDUCED). -/
def State.fixedReady (s : State) (l : Nat) : Bool :=
  if l = 163 then s.wdl.lrefOk else
  s.sig l && s.bit (Pg.lan l) F.LAN_STATUS_CDR_LOCK && (l ≠ 162 || s.bit (Pg.lan l) F.LAN_STATUS_CODE_LOCK)

/-- The base page a management lane advertises (R163): full duplex, no half duplex, pause ability and remote fault of LAN_AN_CTL, at
their places in the page of IEEE 802.3 Clause 37. Log: entry 129 (PRESUMED). -/
def State.anBasePage (s : State) (l : Nat) : BitVec 16 :=
  BitVec.ofNat 16 (2 ^ 5 + 2 ^ 7 * s.fld (Pg.lan l) ⟨0x080, 2, 2⟩ + 2 ^ 12 * s.fld (Pg.lan l) ⟨0x080, 4, 2⟩)

/-- Clause 37 autonegotiation starts on a management lane that is FIXED_UP with AN_EN at 1: its base page is sent (R163).
Log: entry 149 (DEDUCED). -/
def State.anStart (s : State) (l : Nat) : State :=
  if (l = 160 || l = 161) && s.lstate l = L.fixedUp && s.bit (Pg.lan l) F.LAN_AN_CTL_AN_EN then
    ((s.setFld (Pg.lan l) F.LAN_AN_STATUS_AN_COMPLETE 0).setLane l { s.lane l with anSent := true }).emit
      (.anPage l (s.anBasePage l))
  else s

/-- A lane without training enters or leaves FIXED_UP (Table LAN-7). -/
def State.laneFixed (s : State) (l : Nat) : State :=
  if isRyk l then s
  else if s.lstate l = L.waitSignal && s.fixedReady l then ((s.setLstate l L.fixedUp).raiseIrq (Pg.lan l) 2).anStart l
  else if s.lstate l = L.fixedUp && !s.fixedReady l then
    (s.setLstate l L.waitSignal).setLane l { s.lane l with anSent := false }
  else s

/-- A receiver has lost CDR lock; a candidate whose reference lane loses it is lost (R156). -/
def State.cdrLost (s : State) (l : Nat) : State :=
  let n := (l - 32) / 2
  let s1 := (s.setFld (Pg.lan l) F.LAN_STATUS_CDR_LOCK 0).laneFixed l
  if isRyk l && !s1.refLaneGood n then s1.linkCandLost n else s1

/-! ### Signal -/

/-- LNP_STATUS.SIG of a line port: signal on any of its four lanes (R148, R242). Losing it interrupts the port's lock (R65). -/
def State.portSignal (s : State) (q : Nat) : State :=
  let ok := [0, 1, 2, 3].any (fun c => s.sig (4 * q + c))
  if s.bit (Pg.lnp q) F.LNP_STATUS_SIG && !ok then
    (s.setFld (Pg.lnp q) F.LNP_STATUS_SIG 0).interruptLock q .los
  else s.setFld (Pg.lnp q) F.LNP_STATUS_SIG (bitOf ok)

/-- Signal detect of a lane rises (R178). -/
def State.signalRise (s : State) (l : Nat) : State :=
  let s1 := s.setFld (Pg.lan l) F.LAN_STATUS_SIG_DET 1
  let s2 := if isRyk l && (s1.lstate l = L.waitSignal || s1.lstate l = L.noPartner) then s1.laneCycle l
    else s1.laneFixed l
  if l < 32 then s2.portSignal (l / 4) else s2

/-- Signal detect of a lane falls (R179, R190): training ends in NO_PARTNER; an attempt in progress has failed; a lane handed to
its link within the same 4,096 UI, 120.5 blk, goes too. Log: entry 16 (DEDUCED). -/
def State.signalLoss (s : State) (l : Nat) : State :=
  let s1 := (s.setFld (Pg.lan l) F.LAN_STATUS_SIG_DET 0).raiseIrq (Pg.lan l) 0
  let t := s1.lstate l
  let s2 := if isRyk l then
      if (2 ≤ t && t ≤ 6) || t = L.backoff || t = L.fastRetrain then
        let s3 := s1.setFld (Pg.lan l) F.LAN_STATUS_LAST_FAIL 7
        let s4 := if 2 ≤ t && t ≤ 6 then (s3.incFld (Pg.lan l) F.LAN_ATTEMPTS_b16).raiseIrq (Pg.lan l) 3 else s3
        s4.laneNoPartner l
      else if t = L.up && ((s1.lane l).upAt.map (fun c => decide (s1.count ≤ c + 120))).getD false then
        (s1.setFld (Pg.lan l) F.LAN_STATUS_LAST_FAIL 7).laneNoPartner l
      else s1
    else s1.laneFixed l
  if l < 32 then s2.portSignal (l / 4) else s2

/-! ### Training words (R167 to R175) -/

/-- Do taps keep their ranges and R165? -/
def tapsOk (pre main post : Int) : Bool :=
  0 ≤ pre && pre ≤ 15 && 0 ≤ main && main ≤ 63 && 0 ≤ post && post ≤ 31 &&
  pre + main + post ≤ 63 && 8 ≤ main - pre - post

/-- The taps of a LAN_TX_NOW or LAN_TX_FIXED value. -/
def tapsOf (v : Nat) : Int × Int × Int := ((v % 16 : Nat), ((v / 256) % 64 : Nat), ((v / 65536) % 32 : Nat))

/-- Taps as a LAN_TX_NOW value. -/
def tapsVal (t : Int × Int × Int) : Nat := t.1.toNat + 256 * t.2.1.toNat + 65536 * t.2.2.toNat

/-- A move of one tap: INC is 1, DEC is 2. -/
def tapMove (r : Nat) : Int := if r = 1 then 1 else if r = 2 then -1 else 0

/-- A request applied to a transmitter's taps (R172): the taps after it and the STS fields, UPDATED 1, MIN 2,
MAX 3, NOT_UPDATED 0. -/
def applyRequest (now : Nat) (presetReq pre main post : Nat) : Nat × (Nat × Nat × Nat) :=
  if presetReq ≠ 0 then (txPreset presetReq, (1, 1, 1))
  else
    let moving := ([pre, main, post].filter (fun r => r ≠ 0)).length
    if moving ≠ 1 then (now, (0, 0, 0))
    else
      let t := tapsOf now
      let t' := (t.1 + tapMove pre, t.2.1 + tapMove main, t.2.2 + tapMove post)
      let ok := tapsOk t'.1 t'.2.1 t'.2.2
      let st := fun r => if r = 0 then 0 else if ok then 1 else if r = 1 then 3 else 2
      (if ok then tapsVal t' else now, (st pre, st main, st post))

/-- The responder's part of a valid word (R171): a REQ_SEQ not yet applied is applied once. Log: entry 124 (DESIGN CHOICE). -/
def State.laneRespond (s : State) (l : Nat) (w : BitVec 40) : State :=
  let x := s.lane l
  let q := wordField w 24 3
  if q = x.lastSeq then s
  else
    let r := applyRequest (s.fld (Pg.lan l) F.LAN_TX_NOW) (wordField w 27 3) (wordField w 34 2) (wordField w 32 2)
      (wordField w 30 2)
    (s.setFld (Pg.lan l) F.LAN_TX_NOW r.1).setLane l { x with lastSeq := q, sts := r.2, stsSeq := q }

/-- The counts of R175 and the requester's part (R173) of a valid word: `ask` is what the adaptation asks for next, bits [35:27]
of the word that will carry it, 0 for nothing; a request is repeated until its echo; a fast retrain asks for no preset (R180). -/
def State.laneCount (s : State) (l : Nat) (w : BitVec 40) (ask : BitVec 9) : State :=
  let x := s.lane l
  let rdy := wordField w 14 1 = 1
  let ref := wordField w 13 1 = 1
  let echoed := x.reqOut && wordField w 15 3 = x.reqSeq
  let out := x.reqOut && !echoed
  let x1 := { x with partnerReady := rdy, partnerRef := ref, gotReady := if rdy && ref then x.gotReady + 1 else 0 }
  let want := if s.lstate l = L.fastRetrain then ask.toNat / 8 * 8 else ask.toNat
  let x2 := if !out && want ≠ 0 && !x.rxReady then { x1 with reqSeq := (x.reqSeq + 1) % 8, reqOut := true, req := want }
    else { x1 with reqOut := out, req := if out then x.req else 0 }
  s.setLane l x2

/-- The marker of a frame (R170): three in a row give frame lock, four missing lose it. -/
def Lane.marker (x : Lane) (seen : Bool) : Lane :=
  if seen then
    { x with markers := x.markers + 1, missed := 0, frameLock := x.frameLock || 3 ≤ x.markers + 1 }
  else { x with markers := 0, missed := x.missed + 1, frameLock := x.frameLock && x.missed + 1 < 4 }

/-- Frame lock moves the training state (Table LAN-7), and in UP it starts a fast retrain (R180). A lane in TRAIN or LOCAL_READY
that loses it goes back to FRAME_LOCK. Log: entry 123 (DESIGN CHOICE). -/
def State.laneFrame (s : State) (l : Nat) (seen : Bool) : State :=
  let s1 := s.setLane l ((s.lane l).marker seen)
  let t := s1.lstate l
  if (s1.lane l).frameLock then
    if t = L.frameLock then s1.setLstate l L.train else if t = L.up then s1.laneFast l else s1
  else if t = L.train || t = L.localReady then s1.setLstate l L.frameLock else s1

/-- Own receiver finished: RX_READY is sent (Table LAN-7); the equaliser's settings are measurements. -/
def State.laneOwnReady (s : State) (l : Nat) : State :=
  let t := s.lstate l
  if (t = L.train || (t = L.fastRetrain && (s.lane l).phase = 0)) && (s.lane l).frameLock then
    let s1 := (s.setFld (Pg.lan l) ⟨0x050, 0, 32⟩ s.free).drawn.setLane l { s.lane l with rxReady := true }
    if t = L.train then s1.setLstate l L.localReady else s1
  else s

/-- A lane is UP (R176). -/
def State.laneUp (s : State) (l : Nat) : State :=
  ((s.setLstate l L.up).setLane l { s.lane l with markers := 0, missed := 0, frameLock := false, upAt := some s.count }).raiseIrq
    (Pg.lan l) 2

/-- LAST_FAIL of an attempt that timed out in a state. -/
def State.lateCause (s : State) (l : Nat) : Nat :=
  let t := s.lstate l
  if t = L.frameLock then 1
  else if t = L.train then 2
  else if t = L.localReady then (if !(s.lane l).partnerReady then 3 else 4)
  else if t = L.dataStart then 5
  else 6

/-! ### Events of a lane that carries -/

/-- Does a lane carry traffic (R181)? -/
def State.carries (s : State) (l : Nat) : Bool := s.lstate l = L.up || s.lstate l = L.fixedUp

/-- Received items of a lane's code, each valid or not (R160, R164): valid ones in a row, the window of the last 64, invalid ones
counted in the running error interval (R185). -/
def Coder.saw (c : Coder) (valid : Bool) : Coder :=
  { c with run := if valid then c.run + 1 else 0, win := (2 * c.win + bitOf (!valid)) % 2 ^ 64, bad := c.bad + bitOf (!valid) }

/-- What a lane's coding holds, changed. -/
def State.codeMap (s : State) (l : Nat) (f : Coder → Coder) : State :=
  s.setLane l { s.lane l with code := f (s.lane l).code }

/-- Sync headers received on a lane, h0 h1 as numbers (R160): each invalid one is counted. -/
def State.headersIn (s : State) (l : Nat) (hs : List (Fin 4)) : State :=
  let ok := fun (h : Fin 4) => h.val = 1 || h.val = 2
  (s.incFld (Pg.lan l) F.LAN_HDR_ERR (hs.countP (fun h => !ok h))).codeMap l (fun c => hs.foldl (fun a h => a.saw (ok h)) c)

/-- Block lock is lost somewhere in a list of headers: 16 invalid ones within 64 (R162). -/
def Coder.loses (c : Coder) (hs : List (Fin 4)) : Bool :=
  (hs.foldl (fun (a : Coder × Bool) h =>
    let x := a.1.saw (h.val = 1 || h.val = 2)
    (x, a.2 || 16 ≤ onesIn 64 x.win)) (c, false)).2

/-- The invalid headers of a list (R160). -/
def badHeaders (hs : List (Fin 4)) : Nat := hs.countP (fun h => !(h.val = 1 || h.val = 2))

/-- Sync headers received on a lane in block lock: each invalid one is counted, in a running lane test too (R160, R176), and 16 within
64 blocks lose the lock: in UP a transient event and a fast retrain (R162, R180, R185). -/
def State.headersJudged (s : State) (l : Nat) (hs : List (Fin 4)) : State :=
  let s1 := (s.headersIn l hs)
  let s2 := s1.setLane l { s1.lane l with testErrs := (s1.lane l).testErrs + badHeaders hs }
  if !(s.bit (Pg.lan l) F.LAN_STATUS_CODE_LOCK && isRyk l && (s.lane l).code.loses hs) then s2
  else
    let s3 := ((s2.setFld (Pg.lan l) F.LAN_STATUS_CODE_LOCK 0).incFld (Pg.lan l) F.LAN_EVENTS_b0).raiseIrq (Pg.lan l) 1
    let s4 := s3.codeMap l (fun c => { c with run := 0, win := 0 })
    if s.lstate l = L.up then
      let s5 := s4.laneEvent l
      if s5.lstate l = L.up then s5.laneFast l else s5
    else s4.setLane l { s4.lane l with testBad := true }

/-- The longest run of valid headers in a list, one before it going on (R162). -/
def bestRun (start : Nat) (hs : List (Fin 4)) : Nat :=
  (hs.foldl (fun (a : Nat × Nat) h =>
    let r := if h.val = 1 || h.val = 2 then a.1 + 1 else 0
    (r, max a.2 r)) (start, start)).2

/-- A code group received on an 8b/10b lane (R164): commas in a row with no invalid group between them while the receiver searches,
or the window of the last 16 groups; an invalid one is counted. The first comma fixes the running disparity. -/
def Coder.group (c : Coder) (locked : Bool) (g : Nat) : Coder :=
  let start := !locked && c.run = 0 && isComma g
  let pos := if start then g = 0b1100000101 else c.disp
  let ok := groupValid pos g
  { c with
    run := if locked then 0 else if !ok then 0 else if isComma g then c.run + 1 else c.run,
    win := (2 * c.win + bitOf (!ok)) % 2 ^ 16, bad := c.bad + bitOf (!ok), disp := disparityAfter pos g }

/-- Received code groups: synchronisation after 3 commas, lost after 4 invalid groups within 16 (R164, R185). -/
def State.codeSync (s : State) (l : Nat) (groups : List (BitVec 10)) : State :=
  groups.foldl (fun (t : State) g =>
    let locked := t.bit (Pg.lan l) F.LAN_STATUS_CODE_LOCK
    let w := if t.rxInverted l then ~~~g else g
    let was := (t.lane l).code.bad
    let t1 := t.codeMap l (fun c => c.group locked w.toNat)
    let c := (t1.lane l).code
    let t2 := t1.incFld (Pg.lan l) F.LAN_HDR_ERR (c.bad - was)
    if !locked && 3 ≤ c.run then
      ((t2.setFld (Pg.lan l) F.LAN_STATUS_CODE_LOCK 1).codeMap l (fun c => { c with run := 0, win := 0 })).laneFixed l
    else if locked && 4 ≤ onesIn 16 c.win then
      let t3 := ((t2.setFld (Pg.lan l) F.LAN_STATUS_CODE_LOCK 0).incFld (Pg.lan l) F.LAN_EVENTS_b0).raiseIrq (Pg.lan l) 1
      let t4 := if t3.lstate l = L.fixedUp then t3.laneEvent l else t3
      (t4.codeMap l (fun c => { c with run := 0, win := 0 })).laneFixed l
    else t2) s

/-- A write of LAN_AN_CTL restarts Clause 37 autonegotiation when its AN_RESTART is 1 (R163). -/
def State.anRestart (s : State) (l : Nat) : State :=
  if s.bit (Pg.lan l) F.LAN_AN_CTL_AN_RESTART then (s.setFld (Pg.lan l) F.LAN_AN_CTL_AN_RESTART 0).anStart l else s

/-- A management lane's autonegotiation at a boundary: it starts where AN_EN has been turned on, and is forgotten where AN_EN is
off (R163). Log: entry 149 (DEDUCED). -/
def State.anBoundary (s : State) (l : Nat) : State :=
  if !s.bit (Pg.lan l) F.LAN_AN_CTL_AN_EN then s.setLane l { s.lane l with anSent := false }
  else if (s.lane l).anSent then s else s.anStart l

/-! ### The optical channel of a lane (R201 to R203) -/

/-- The channel states of Table OPE-2. -/
def C.off : Nat := 0
def C.warming : Nat := 1
def C.locking : Nat := 2
def C.lit : Nat := 3
def C.offgrid : Nat := 4
def C.thermal : Nat := 5
def C.retired : Nat := 6

/-- A line engine serves a line port, a link engine four Ryuklin links (Table OPE-1). -/
def isLineEngine (e : Nat) : Bool := e < 8

/-- The channels an engine has. -/
def channelsOf (e : Nat) : List Nat := List.range (if isLineEngine e then 4 else 8)

/-- The LAN instance a channel serves (Table OPE-1). -/
def laneOf (e c : Nat) : Nat := if isLineEngine e then 4 * e + c else 32 + 8 * (e - 8) + c

/-- The APR group of a channel. -/
def groupOf (e c : Nat) : Nat := if isLineEngine e then 0 else c / 2

/-- CH_STATUS.CH_STATE. -/
def State.chState (s : State) (e c : Nat) : Nat := s.fld (Pg.ope e) (F.OPE_CH_STATUS_CH_STATE c)

/-- CH_STATE set. -/
def State.setCh (s : State) (e c v : Nat) : State := s.setFld (Pg.ope e) (F.OPE_CH_STATUS_CH_STATE c) v

/-- A channel's own state. -/
def State.chan (s : State) (e c : Nat) : Chan := FMap.getD s.chans (8 * e + c) ⟨0, 0⟩

/-- A channel's own state set. -/
def State.setChan (s : State) (e c : Nat) (x : Chan) : State :=
  { s with chans := FMap.setC s.chans (8 * e + c) x ⟨0, 0⟩ }

/-- The channel exists on this variant and its lane uses it: an electrical link's channels are unused (R202). -/
def State.chUsed (s : State) (e c : Nat) : Bool :=
  !s.absent (Pg.ope e) && c ∈ channelsOf e &&
  (isLineEngine e || ((s.inForce (Pg.ope e) F.OPE_CFG_ELEC) >>> (c / 2)) % 2 = 0)

/-- The channel of an optical engine that a lane may be served by: the line lanes and links 0 to 31 (Table OPE-1). -/
def channelOf (l : Nat) : Option (Nat × Nat) :=
  if l < 32 then some (l / 4, l % 4) else if l < 96 then some (8 + (l - 32) / 8, (l - 32) % 8) else none

/-- The channel is present, enabled and not retired: its LOS taken inverted is its lane's signal detect (R203, R217).
Log: entry 134 (DEDUCED). -/
def State.chServes (s : State) (e c : Nat) : Bool :=
  s.chUsed e c && s.bit (Pg.ope e) F.OPE_CFG_RX_EN && s.chState e c ≠ C.off && s.chState e c ≠ C.retired

/-- A lane takes its signal detect from an optical channel (R203). -/
def State.opticalLane (s : State) (l : Nat) : Bool :=
  match channelOf l with
  | some (e, c) => s.chServes e c
  | none => false

/-! ### What a lane's transmitter sends -/

/-- A lane's output: electrical idle, training frames, coded data, a test pattern, the received bits; each with the polarity it goes
out with (R151). -/
inductive LaneOut where
  | idle
  | training (inverted : Bool)
  | data (inverted : Bool)
  | pattern (code : Nat) (inverted : Bool)
  | echo (inverted : Bool)
  deriving DecidableEq, Repr

/-- The lanes clocked by LREF (Table LAN-1). -/
def lrefLanes : List Nat := List.range 32 ++ [160, 161, 162, 163]

/-- A lane without its clock stands still: a line, management or Priming lane without LREF (R196). -/
def State.clocked (s : State) (l : Nat) : Bool := s.wdl.lrefOk || !decide (l ∈ lrefLanes)

/-- A lane has a transmitter that may drive: not the Priming-in macro (R148), nor a lane without its clock (R196), nor a Ryuklin lane in
the safe state or of a RETIRED link (R680, R678). -/
def State.mayDrive (s : State) (l : Nat) : Bool :=
  l ≠ 162 && s.clocked l && !(isRyk l && (s.sstate ≠ SState.normal || s.unit (Pg.ryk ((l - 32) / 2)) = uRetired))

/-- The output of a lane's transmitter (R151, R166, R180 to R184, R187). Log: entry 130 (DEDUCED). -/
def State.laneSends (s : State) (l : Nat) : LaneOut :=
  let u := s.unit (Pg.lan l)
  let m := (s.lane l).testMode
  let t := s.lstate l
  let inv := s.txInverted l
  if !s.mayDrive l then .idle
  else if u = uReady then
    if m / 256 % 4 = 2 then .echo (inv != s.rxInverted l)
    else if (prbsTaps (m % 8)).isNone || (m / 256 % 4 = 1 && m / 1024 % 2 = 1) then .idle
    else .pattern (m % 8) (inv != (m / 8 % 2 = 1))
  else if u ≠ uActive || s.inForce (Pg.lan l) F.LAN_CFG_TX_EN = 0 then .idle
  else if !isRyk l then .data inv
  else if s.inForce (Pg.lan l) F.LAN_CFG_TRAIN_EN = 0 then .idle
  else if t = L.dataStart || t = L.test || t = L.up || (t = L.fastRetrain && 1 ≤ (s.lane l).phase) then .data inv
  else .training inv

/-- The bits a test mode sends: `n` of the generator's pattern, and the lane after them (R183). -/
def State.patternBits (s : State) (l n : Nat) : Option (List Nat × State) :=
  let m := (s.lane l).testMode
  (prbsTaps (m % 8)).map (fun t =>
    let r := prbsRun t n ((s.lane l).code.gen.getD (Config.patternSeed l))
    (r.1.map (fun b => (b + m / 8) % 2), s.codeMap l (fun c => { c with gen := some r.2 })))

/-- One bit at the PRBS checker (R183): before lock it seeds the checker and 64 in a row without an error lock it; in lock each error
is counted, and 32 within 64 bits lose it. `b` is the bit with the inversions taken off. -/
def Coder.check (c : Coder) (t : Nat × Nat) (locked : Bool) (b : Nat) : Coder :=
  let e := prbsNext t c.chk
  if locked then
    { c with chk := (2 * c.chk + e) % 2 ^ 31, errs := (2 * c.errs + (e + b) % 2) % 2 ^ 64, hit := c.hit || e ≠ b }
  else { c with chk := (2 * c.chk + b) % 2 ^ 31, good := if e = b then c.good + 1 else 0 }

/-- One received bit at a lane's PRBS checker, with the registers that follow it (R183, Table LAN-12). -/
def State.checkBit (s : State) (l : Nat) (t : Nat × Nat) (b : Nat) : State :=
  let locked := s.bit (Pg.lan l) F.LAN_PRBS_STATUS_CHK_LOCK
  let c0 := (s.lane l).code
  let c := c0.check t locked b
  let s1 := s.codeMap l (fun _ => c)
  if locked then
    let s2 := if c.errs % 2 = 1 then s1.incFld (Pg.lan l) F.LAN_PRBS_ERR else s1
    let s3 := if c.hit && !c0.hit then s2.raiseIrq (Pg.lan l) 5 else s2
    if 32 ≤ onesIn 64 c.errs then
      ((s3.setFld (Pg.lan l) F.LAN_PRBS_STATUS_CHK_LOCK 0).hwSet (Pg.lan l) F.LAN_PRBS_STATUS_LOCK_LOST).codeMap l
        (fun x => { x with good := 0, errs := 0, hit := false })
    else s3
  else if 64 ≤ c.good then
    (s1.setFld (Pg.lan l) F.LAN_PRBS_STATUS_CHK_LOCK 1).codeMap l (fun x => { x with good := 0, errs := 0, hit := false })
  else s1

/-! ### A turn boundary on a lane -/

/-- The taps in force after a boundary (R166): those of LAN_TX_FIXED where it keeps R165, but not on a line
lane of the TX964-OL; a training lane keeps its taps. -/
def State.laneTaps (s : State) (l : Nat) : State :=
  let v := s.inForce (Pg.lan l) ⟨0x048, 0, 21⟩
  let t := tapsOf v
  if (isRyk l && s.inForce (Pg.lan l) F.LAN_CFG_TRAIN_EN ≠ 0) || (l < 32 && s.fld Pg.gbl F.GBL_VARIANT = 0) then s
  else if tapsOk t.1 t.2.1 t.2.2 then s.setFld (Pg.lan l) F.LAN_TX_NOW v
  else s

/-- A lane's part of a turn boundary: taps, test modes (R182), enabling and disabling (Table LAN-7, R191). An enabled lane that found
no signal has its attempt due at the next boundary, and without signal then too is in NO_PARTNER (R178). A checker turned off, or given
another pattern, loses its lock only. Log: entry 127 (DESIGN CHOICE), entry 148 (DESIGN CHOICE). -/
def State.laneBoundary (s : State) (l : Nat) : State :=
  let s1 := s.laneTaps l
  let mode := if s.unit (Pg.lan l) = uReady then s.inForce (Pg.lan l) ⟨0x054, 0, 11⟩ else 0
  let s2 := s1.setLane l { s1.lane l with testMode := mode }
  let s3 := if (mode / 16) % 8 = 0 then s2.setFld (Pg.lan l) F.LAN_PRBS_STATUS_CHK_LOCK 0 else s2
  if s3.laneEnabled l then
    if s3.lstate l = L.disabled then
      let s4 := s3.setLstate l L.waitSignal
      if isRyk l then (if s4.sig l then s4.laneCycle l else s4) else s4.laneFixed l
    else if isRyk l then (if s3.lstate l = L.waitSignal then s3.laneCycle l else s3)
    else (s3.laneFixed l).anBoundary l
  else if s3.lstate l ≠ L.disabled then s3.laneStop l
  else s3

/-- Lanes with anything listed on their page. -/
def State.listedLanes (s : State) : List Nat :=
  (((FMap.keys s.regs).map (· / 4096)).filter (fun p => 0x0100 ≤ p && p ≤ 0x01A3)).eraseDups.map (· - 0x0100)

end Sys2Proof.Machine
end

