-- ==== Sys2Proof/Machine/RykLink.lean ====
section
/-!
DEFINITION. What Ryuklin links do (spec/16): link states, dead declarations, credits and arbitration, routing, the
tags of tier 3 requests. The commands stand in Ryuklin.lean.
-/

set_option Elab.async false

namespace Sys2Proof.Machine

open Sys2Proof

/-- The link states of Table RYK-4. -/
def K.down : Nat := 0
def K.training : Nat := 1
def K.aligning : Nat := 2
def K.init : Nat := 3
def K.up : Nat := 4
def K.replaying : Nat := 5
def K.retraining : Nat := 6
def K.noPartner : Nat := 7

/-- The statuses of Table RYK-3. -/
def T3.ok : Nat := 0
def T3.refused : Nat := 1
def T3.noGraph : Nat := 2
def T3.late : Nat := 3
def T3.linkLost : Nat := 4
def T3.noRoute : Nat := 5
def T3.hopExpired : Nat := 6
def T3.bufErr : Nat := 7

/-- A link before anything has happened on it: its next INIT carries FRESH. Log: entry 31 (DESIGN CHOICE). -/
def RLink.start : RLink := ⟨none, 0, 0, none, [], 0, [], true, false, false, 0, false, none, none, 0, 0, 0⟩

/-- A link's own state. -/
def State.rlink (s : State) (n : Nat) : RLink := FMap.getD s.ryk.links n RLink.start

/-- The network's own part changed. -/
def State.rykMap (s : State) (f : Ryk → Ryk) : State := { s with ryk := f s.ryk }

/-- A link's own state set. -/
def State.setRlink (s : State) (n : Nat) (x : RLink) : State :=
  s.rykMap (fun r => { r with links := FMap.setC r.links n x RLink.start })

/-- LSTATE of a link. -/
def State.kstate (s : State) (n : Nat) : Nat := s.fld (Pg.ryk n) F.RYK_STATUS_LSTATE

/-- The timer of a request started or stopped (R664). -/
def T3Req.timer (q : T3Req) (on : Bool) (count : Nat) : T3Req :=
  if on then { q with since := count } else { q with ran := q.ran + (count - q.since) }

/-- LSTATE set, with HOLD; the timers of requests run only while their first-hop link is UP (R664). -/
def State.setKstate (s : State) (n v : Nat) : State :=
  let was := s.kstate n = K.up
  let now := v = K.up
  let s1 := (s.setFld (Pg.ryk n) F.RYK_STATUS_LSTATE v).setFld (Pg.ryk n) F.RYK_STATUS_HOLD
    (bitOf (v = K.replaying || v = K.retraining))
  if was = now then s1
  else s1.rykMap (fun r => { r with tags := r.tags.map (fun e => if e.2.hop = some n then (e.1, e.2.timer now s.count) else e) })

/-! ### Frames, routes -/

/-- The VC of a frame type (Table RYK-2). -/
def vcOf (type : Nat) : Nat := if type = 0 || type = 2 then 1 else if type = 3 then 2 else if type = 4 then 3 else 0

/-- The largest LEN of a VC. -/
def vcLen (vc : Nat) : Nat := if vc = 0 then 16 else if vc = 3 then 64 else 520

/-- LEN, in blocks of 8 bytes. -/
def RFrame.len (f : RFrame) : Nat := (f.payload.length + 7) / 8

/-- The credits a frame needs (R651). -/
def RFrame.credits (f : RFrame) : Nat := (f.len + 8) / 8

/-- The register field that shows the credits held for a class and VC. -/
def creditFld (cls vc : Nat) : Fld :=
  match cls, vc with
  | 0, 0 => F.RYK_CREDIT0_A_b0
  | 0, 1 => F.RYK_CREDIT0_A_b16
  | 0, 2 => F.RYK_CREDIT0_B_b0
  | 0, _ => F.RYK_CREDIT0_B_b16
  | _, 0 => F.RYK_CREDIT1_A_b0
  | _, 1 => F.RYK_CREDIT1_A_b16
  | _, 2 => F.RYK_CREDIT1_B_b0
  | _, _ => F.RYK_CREDIT1_B_b16

/-- RYK_CHIP. -/
def State.ownChip (s : State) : Nat := s.fld (Pg.ryk 0) F.RYK_CHIP_b0

/-- MAX_HOPS; 0 is treated as 1. -/
def State.maxHops (s : State) : Nat := max 1 (s.inForce (Pg.ryk 0) F.RYK_CLU_MAX_HOPS)

/-- The routing entry of a chip (R657). -/
def State.routeEntry (s : State) (dest : Nat) : Nat :=
  if dest / 256 = s.ownChip / 256 then s.fld (Pg.ryk 0) ⟨0xE00 + 4 * (dest % 256 / 2), 16 * (dest % 2), 16⟩
  else s.fld (Pg.ryk 0) ⟨0xC00 + 4 * (dest / 256 / 2), 16 * (dest / 256 % 2), 16⟩

/-- A link that a route may use. -/
def State.linkUsable (s : State) (n : Nat) : Bool := K.up ≤ s.kstate n && s.kstate n ≤ K.retraining

/-- The link a frame for a chip leaves on, if any (R657). -/
def State.route (s : State) (dest : Nat) : Option Nat :=
  let e := s.routeEntry dest
  if e / 64 % 2 = 1 && s.linkUsable (e % 64) then some (e % 64)
  else if e / 16384 % 2 = 1 && s.linkUsable (e / 256 % 64) then some (e / 256 % 64)
  else none

/-- The link a waiting frame leaves on, if any. -/
def State.routeOf (s : State) (e : ROut) : Option Nat :=
  match e.via with
  | some n => if s.linkUsable n then some n else none
  | none => s.route e.frame.dest

/-- A frame's class on an output link (R658). -/
def State.outClass (s : State) (e : ROut) (n : Nat) : Nat :=
  let c := match e.src with
    | some m => if s.inForce (Pg.ryk m) F.RYK_CFG_DIM = s.inForce (Pg.ryk n) F.RYK_CFG_DIM then e.cls else 0
    | none => 0
  if s.inForce (Pg.ryk n) F.RYK_CFG_DATELINE ≠ 0 then 1 else c

/-- A frame taken on: delivered locally, or queued for a link. Log: entry 33 (DESIGN CHOICE). -/
def State.post (s : State) (f : RFrame) (cls : Nat) (src : Option Nat) : State :=
  if f.dest = s.ownChip then s.rykMap (fun r => { r with inbox := r.inbox ++ [(s.count, src, f)] })
  else s.rykMap (fun r => { r with outq := r.outq ++ [⟨f, cls, src, 0, none⟩] })

/-- A frame of a local source. -/
def State.send (s : State) (dest type gen tag status : Nat) (payload : List Nat) : State :=
  s.post ⟨dest, s.ownChip, type, gen, tag, status, s.maxHops, payload⟩ 0 none

/-- A frame discarded at a link, with the LOST frame of a request or response (R663). The LOST frame's SRC is the chip
whose answer it stands for, so that R662 can match it. -/
def State.discard (s : State) (n : Nat) (f : RFrame) (cause : Nat) : State :=
  let s1 := (s.incFld (Pg.ryk n) F.RYK_DROP_b0).raiseIrq (Pg.ryk n) 6
  if f.type = 0 then
    (s1.incFld (Pg.ryk n) F.RYK_DROP_LOST).post ⟨f.src, f.dest, 5, f.gen, f.tag, cause, s.maxHops, []⟩ 0 none
  else if f.type = 1 then
    (s1.incFld (Pg.ryk n) F.RYK_DROP_LOST).post ⟨f.dest, f.src, 5, f.gen, f.tag, cause, s.maxHops, []⟩ 0 none
  else s1

/-! ### Sending blocks (R641, R643, R644) -/

/-- Lane `k` of a link (R148). -/
def rykLane (n k : Nat) : Nat := 32 + 2 * n + k

/-- Every lane in use of a link carries (R181): the link sends blocks. -/
def State.rykOpen (s : State) (n : Nat) : Bool :=
  let used := s.fld (Pg.ryk n) F.RYK_STATUS_b3
  [0, 1].all (fun k => used / 2 ^ k % 2 = 0 || s.carries (rykLane n k))

/-- A block of a link's stream sent: block k on lane k mod 2 of a wide link, every one on the lane in use of a narrow link (R641). -/
def State.rykSend (s : State) (n : Nat) (b : Block) : State :=
  let used := s.fld (Pg.ryk n) F.RYK_STATUS_b3
  let r := s.rlink n
  if used = 3 then (s.setRlink n { r with next := 1 - r.next }).sendBits (rykLane n r.next) b
  else s.sendBits (rykLane n (if used = 2 then 1 else 0)) b

/-- Blocks sent one after another. -/
def State.rykSends (s : State) (n : Nat) (l : List Block) : State := l.foldl (fun t b => t.rykSend n b) s

/-- The header block of a frame (Table RYK-3). -/
def RFrame.header (f : RFrame) : Nat :=
  f.dest % 65536 * 2 ^ 48 + f.src % 65536 * 2 ^ 32 + f.type % 16 * 2 ^ 28 + f.gen % 16 * 2 ^ 24 + f.tag % 4096 * 2 ^ 12 +
  f.status % 16 * 2 ^ 8 + f.hops % 256

/-- A frame sent, first or again (R644, R645). -/
def State.sendFrame (s : State) (n seq vc cls : Nat) (f : RFrame) : State :=
  if !s.rykOpen n then s else (s.rykSends n (frameBlocks vc cls seq f.header f.payload)).emit (.rykFrame n seq vc cls f)

/-- An LLCTL block sent with an acknowledgement (R647). -/
def State.sendAck (s : State) (n : Nat) (nak : Bool) (ack : Nat) : State :=
  if !s.rykOpen n then s else (s.rykSend n (llctlBlock nak 0 ack [])).emit (.rykAck n nak ack)

/-- Credits of a VC and class given back in an LLCTL block, with the last SEQ accepted (R651). -/
def State.sendCredit (s : State) (n vc cls credits : Nat) : State :=
  let ack := ((s.rlink n).expSeq + 4095) % 4096
  if !s.rykOpen n then s else (s.rykSend n (llctlBlock false cls ack (patch [0, 0, 0, 0] vc [credits]))).emit (.rykCredit n vc cls credits)

/-- Each lane in use sends an ALIGN block, with one ALIGN_SEQ (R643, R668); it is no part of the stream's numbering (R641). -/
def State.sendAlign (s : State) (n : Nat) : State :=
  let q := ((s.rlink n).alignSeq + 1) % 256
  let s1 := s.setRlink n { s.rlink n with alignSeq := q }
  [0, 1].foldl (fun t k =>
    if t.fld (Pg.ryk n) F.RYK_STATUS_b3 / 2 ^ k % 2 = 1 && t.carries (rykLane n k) then t.sendBits (rykLane n k) (alignBlock k q (t.fld (Pg.ryk 0) F.RYK_REF))
    else t) s1

/-- REPLAY_TMO, in 10 ns; 0 is treated as 1. -/
def State.replayTmo (s : State) (n : Nat) : Nat := max 1 (s.inForce (Pg.ryk n) F.RYK_CFG_REPLAY_TMO)

/-- The link's reference read: it has moved on since the last reading, by how much nothing here tells (R15).
Log: entry 10 (DESIGN CHOICE). -/
def State.rykClock (s : State) (n : Nat) : State :=
  (s.setRlink n { s.rlink n with time := (s.rlink n).time + s.free }).drawn

/-- The last SEQ a link has accepted. -/
def State.lastAccepted (s : State) (n : Nat) : Nat := ((s.rlink n).expSeq + 4095) % 4096

/-- An LLCTL sent after an error: with NAK unless one is still good (R647). -/
def State.sendNak (s : State) (n : Nat) : State :=
  let s0 := s.rykClock n
  let r := s0.rlink n
  let go := match r.nakAt with
    | some t => decide (s0.replayTmo n ≤ r.time - t)
    | none => true
  if go then
    ((s0.setRlink n { r with nakAt := some r.time }).incFld (Pg.ryk n) F.RYK_REPLAY_b0).sendAck n true (s.lastAccepted n)
  else s0.sendAck n false (s.lastAccepted n)

/-! ### Starting frames (R646, R651, R652) -/

/-- Bytes a frame takes in the replay buffer: SOF, header, payload and EOF blocks. -/
def RFrame.bytes (f : RFrame) : Nat := 8 * (f.len + 3)

/-- May a frame start on a link now? -/
def State.canStart (s : State) (e : ROut) (n : Nat) : Bool :=
  let r := s.rlink n
  s.kstate n = K.up && !r.realign && s.sstate = SState.normal &&
  e.frame.credits ≤ s.fld (Pg.ryk n) (creditFld (s.outClass e n) (vcOf e.frame.type)) &&
  r.replay.length < 2047 && (r.replay.map (fun x => x.2.2.2.bytes)).foldl (· + ·) 0 + e.frame.bytes ≤ 262144

/-- A frame put on a link: its SEQ, its place in the replay buffer, its credits. -/
def State.start (s : State) (n : Nat) (e : ROut) : State :=
  let c := s.outClass e n
  let vc := vcOf e.frame.type
  let seq := s.fld (Pg.ryk n) F.RYK_SEQ_b0
  let r := s.rlink n
  let own := e.frame.type = 0 && e.src.isNone
  let f := if own then
      match FMap.get? s.ryk.tags e.frame.tag with
      | some q => { e.frame with payload := patch e.frame.payload 32 (beBytes 4 (q.deadline - s.count)) }
      | none => e.frame
    else e.frame
  let s1 := s.setRlink n { r with replay := r.replay ++ [(seq, vc, c, f)], ackAt := if r.replay.isEmpty then s.count else r.ackAt }
  let s2 := (s1.setFld (Pg.ryk n) F.RYK_SEQ_b0 ((seq + 1) % 4096)).incFld (Pg.ryk n) F.RYK_TX_FRAMES
  let s3 := s2.setFld (Pg.ryk n) (creditFld c vc) (s2.fld (Pg.ryk n) (creditFld c vc) - f.credits)
  let s4 := match e.src with
    | some m => (s3.incFld (Pg.ryk n) F.RYK_RELAY).sendCredit m vc e.cls f.credits
    | none => s3
  let s5 := if own then
      s4.rykMap (fun k => { k with tags := k.tags.map (fun x =>
        if x.1 = f.tag then (x.1, { (if x.2.hop = some n then x.2 else { x.2 with since := s.count }) with hop := some n }) else x) })
    else s4
  s5.sendFrame n seq vc c f

/-- The heads of the queues of waiting frames: none earlier of the same source, VC and class waits. -/
def heads (q : List ROut) : List ROut :=
  (q.foldl (fun (acc : List ROut × List (Option Nat × Option Nat × Nat × Nat)) e =>
    let k := (e.src, e.via, vcOf e.frame.type, e.cls)
    if k ∈ acc.2 then acc else (acc.1 ++ [e], acc.2 ++ [k])) ([], [])).1

/-- The rank of a frame on a link: RSP, CTL, COLL, REQ, class 1 first (R652). -/
def State.rank (s : State) (n : Nat) (e : ROut) : Nat :=
  let v := match vcOf e.frame.type with
    | 0 => 0
    | 3 => 1
    | 2 => 2
    | _ => 3
  2 * v + (1 - s.outClass e n)

/-- The frame a link starts next, among those that may start on it (R652). -/
def State.choose (s : State) (n : Nat) (l : List ROut) : Option ROut :=
  match l.find? (fun e => vcOf e.frame.type = 1 && 8 ≤ e.passed) with
  | some e => some e
  | none => l.foldl (fun (b : Option ROut) e => match b with
    | none => some e
    | some x => if s.rank n e < s.rank n x then some e else some x) none

/-- One grant: a frame without a route is discarded; otherwise some link starts a frame. None where nothing moves. -/
def State.grant (s : State) : Option State :=
  let hs := heads s.ryk.outq
  match hs.find? (fun e => (s.routeOf e).isNone) with
  | some e => some ((s.rykMap (fun r => { r with outq := r.outq.erase e })).discard (e.src.getD 0) e.frame T3.noRoute)
  | none =>
    let able := hs.filter (fun e => match s.routeOf e with
      | some n => s.canStart e n
      | none => false)
    match able with
    | [] => none
    | a :: _ =>
      let n := (s.routeOf a).getD 0
      let mine := able.filter (fun e => s.routeOf e = some n)
      match s.choose n mine with
      | some e =>
        let q := (s.ryk.outq.erase e).map (fun x =>
          if vcOf x.frame.type = 1 && x ∈ mine then { x with passed := x.passed + 1 } else x)
        some ((s.rykMap (fun r => { r with outq := q })).start n e)
      | none => none

/-- Grants as long as something moves. -/
def State.grants (s : State) : Nat → State
  | 0 => s
  | k + 1 => match s.grant with
    | some t => t.grants k
    | none => s

/-- Every frame that can move now moves. A discarded request adds at most one LOST frame. -/
def State.rykPump (s : State) : State := s.grants (2 * s.ryk.outq.length)

/-! ### Tier 3 requests (R660 to R664) -/

/-- T3_TAGS brought up to date. -/
def State.syncTags (s : State) : State := s.setFld (Pg.ryk 0) F.RYK_T3_TAGS s.ryk.tags.length

/-- A request completed (R662): its tag is free, its item has a score record, or a VOID record. -/
def State.t3Done (s : State) (tag : Nat) (q : T3Req) (ok : Option (List Nat)) : State :=
  let s1 := (s.rykMap (fun r => { r with tags := FMap.erase r.tags tag })).syncTags
  let r := voidFor 3 q.inst q.port q.pseq
  match ok with
  | some b => s1.scoreRecord { r with
      verdict := Fin.ofNat 8 (b.getD 0 0), copy := b.getD 0 0 / 8 % 2 = 1, void := b.getD 0 0 / 16 % 2 = 1,
      score := BitVec.ofNat 8 (b.getD 1 0), tag := BitVec.ofNat 16 (beAt b 2 2) }
  | none => s1.scoreRecord r

/-- A request completed as LINK_LOST. Log: entry 33 (DESIGN CHOICE). -/
def State.t3LinkLost (s : State) (tag : Nat) (q : T3Req) : State :=
  ((s.incFld (Pg.ryk 0) F.RYK_T3_LOSS_LINK_LOST).raiseIrq (Pg.ryk 0) 8).t3Done tag q none

/-- The gateway has failed (R679). Log: entry 37 (DESIGN CHOICE). -/
def State.gwFault (s : State) : Bool := s.unit (Pg.ryk 0) = uFault && s.fld (Pg.ryk 0) F.HDR_UNIT_STATE_REASON = 0x81

/-- The chip a request goes to, by RYK_T3_ALT (R660), and whether an alternate was used. -/
def State.t3Target (s : State) (dest : Nat) : Nat × Bool :=
  match (List.range 16).find? (fun i => s.bit (Pg.ryk 0) (F.RYK_T3_ALT_CTL_VALID i) &&
      s.fld (Pg.ryk 0) (F.RYK_T3_ALT_b0 i) = dest &&
      (s.bit (Pg.ryk 0) (F.RYK_T3_ALT_CTL_FORCE i) || (dest ≠ s.ownChip && (s.route dest).isNone))) with
  | some i => (s.fld (Pg.ryk 0) (F.RYK_T3_ALT_b16 i), true)
  | none => (dest, false)

/-- A tier 3 window sent (R660, R661): the state, and whether it is void at dispatch instead. The descriptor is the
window header and the remaining budget. A chip that is retired in its cluster voids its own dispatches (I29 of Table MOD-3).
Log: entry 36 (DEDUCED), entry 38 (DEDUCED). -/
def State.t3Send (s : State) (f : Frame) (dest : Nat) (header rows : List Nat) : State × Bool :=
  let t := s.t3Target dest
  let s0 := if t.2 then (s.incFld (Pg.ryk 0) F.RYK_T3_ALT_CNT).raiseIrq (Pg.ryk 0) 10 else s
  let own := t.1 = s.ownChip
  if s.ownChip ∈ s.cpc.retired then (s, true) else
  match (List.range 4096).find? (fun k => (FMap.get? s.ryk.tags k).isNone) with
  | none => (s0, true)
  | some tag =>
    if s.gwFault || (!own && (s.route t.1).isNone) then (s0, true)
    else
      let gen := FMap.getD s.ryk.gens tag 0
      let q : T3Req := ⟨f.inst, f.port, f.pseq, t.1, gen, f.joinDeadline, if own then none else s.route t.1, 0, s.count⟩
      let desc := (header ++ List.replicate 32 0).take 32 ++ beBytes 4 (f.joinDeadline - s.count) ++ List.replicate 28 0
      let s1 := (s0.rykMap (fun r => { r with tags := FMap.set r.tags tag q,
                                              gens := FMap.setC r.gens tag ((gen + 1) % 16) 0 })).syncTags
      (((s1.incFld (Pg.ryk 0) F.RYK_T3_SENT).send t.1 0 gen tag 0 (desc ++ rows)).rykPump, false)

/-! ### Link states -/

/-- A lane of a link is UP. -/
def State.laneIsUp (s : State) (l : Nat) : Bool := s.lstate l = L.up

/-- A lane is out: NO_PARTNER, RETIRED or disabled. -/
def State.laneOut (s : State) (l : Nat) : Bool :=
  s.lstate l = L.noPartner || s.lstate l = L.disabled || s.unit (Pg.lan l) = uRetired

/-- Both lanes of a link are out. -/
def State.lanesOut (s : State) (n : Nat) : Bool := s.laneOut (rykLane n 0) && s.laneOut (rykLane n 1)

/-- The mask of a link's lanes that are UP. -/
def State.upMask (s : State) (n : Nat) : Nat :=
  bitOf (s.laneIsUp (rykLane n 0)) + 2 * bitOf (s.laneIsUp (rykLane n 1))

/-- Lanes in use set, with WIDTH on a change of the width while the link is in use (R654). -/
def State.setLanes (s : State) (n m : Nat) : State :=
  let was := s.fld (Pg.ryk n) F.RYK_STATUS_b3
  let s1 := s.setFld (Pg.ryk n) F.RYK_STATUS_b3 m
  if was = 0 || was = m || m = 0 then s1 else s1.raiseIrq (Pg.ryk n) 3

/-- One transient event of a link, with its retirement at the threshold in force (R678). Log: entry 148 (DESIGN CHOICE). -/
def State.linkEvent (s : State) (n : Nat) : State :=
  let s1 := s.transient (Pg.ryk n)
  if s1.inForce (Pg.ryk n) F.RYK_LEAK_THRESH ≤ s1.fld (Pg.ryk n) F.HDR_FAULT_CLASS_WINDOW_CNT then
    s1.retire (Pg.ryk n) Reason.threshold
  else s1

/-- What a dead link leaves (R650): its requests complete, its buffers are discarded under R663, both directions
restart with FRESH. -/
def State.linkDown (s : State) (n : Nat) : State :=
  let lost := (s.rlink n).replay.map (fun x => x.2.2.2) ++ (s.ryk.outq.filter (fun e => e.src = some n)).map (fun e => e.frame)
  let s1 := s.rykMap (fun r => { r with outq := r.outq.filter (fun e => e.src ≠ some n) })
  let s2 := (s1.ryk.tags.filter (fun e => e.2.hop = some n)).foldl (fun t e => t.t3LinkLost e.1 e.2) s1
  let s3 := ((s2.setRlink n { RLink.start with seen := (s.rlink n).seen, time := (s.rlink n).time }).setFld (Pg.ryk n) F.RYK_SEQ_b0 0).setFld
    (Pg.ryk n) F.RYK_SEQ_b16 0xFFF
  let s4 := (((s3.setFld (Pg.ryk n) ⟨0x050, 0, 32⟩ 0).setFld (Pg.ryk n) ⟨0x074, 0, 32⟩ 0).setFld (Pg.ryk n) ⟨0x078, 0, 32⟩ 0).setFld
    (Pg.ryk n) ⟨0x07C, 0, 32⟩ 0
  lost.foldl (fun t f => t.discard n f T3.linkLost) (s4.setFld (Pg.ryk n) F.RYK_STATUS_b3 0)

/-- The state a link's lanes give it (R650). -/
def State.linkSettle (s : State) (n : Nat) : State :=
  if s.unit (Pg.ryk n) ≠ uActive then s.setKstate n K.down
  else if s.lanesOut n then s.setKstate n K.noPartner
  else s.setKstate n K.training

/-- A link declared dead (R650, R678). Log: entry 93 (DEDUCED). -/
def State.linkDead (s : State) (n : Nat) : State :=
  let s1 := (((s.setKstate n K.down).linkDown n).incFld (Pg.ryk n) F.RYK_RETRAIN_b16).raiseIrq (Pg.ryk n) 1
  ((s1.linkEvent n).linkSettle n).rykPump

/-- A link enters RETRAINING (R649): its lanes that are UP are fast retrained. -/
def State.linkRetrain (s : State) (n : Nat) : State :=
  let s1 := (s.setKstate n K.retraining).setRlink n { s.rlink n with realign := true, pairs := 0, widening := false, since := s.count }
  let s2 := ((s1.incFld (Pg.ryk n) F.RYK_RETRAIN_RETRAINING).raiseIrq (Pg.ryk n) 2).linkEvent n
  [rykLane n 0, rykLane n 1].foldl (fun t l => if t.laneIsUp l then t.laneFast l else t) s2

/-- Alignment begins on the lanes that are UP (Table RYK-6). -/
def State.linkAligning (s : State) (n : Nat) : State :=
  ((s.setKstate n K.aligning).setRlink n { s.rlink n with pairs := 0, firstUp := none }).setLanes n (s.upMask n)

/-- A link in use follows its lanes: a lane in fast retrain takes it to RETRAINING, a lane lost narrows it, a second
lane back is timed (R654). -/
def State.linkInUse (s : State) (n : Nat) : State :=
  let used := s.fld (Pg.ryk n) F.RYK_STATUS_b3
  let m := s.upMask n
  if [0, 1].any (fun k => used / 2 ^ k % 2 = 1 && s.lstate (rykLane n k) = L.fastRetrain) then s.linkRetrain n
  else if m ≠ 0 && used &&& m = 0 then s.linkRetrain n
  else
    let s1 := if m ≠ 0 && used &&& m ≠ used then s.setLanes n (used &&& m) else s
    let r := s1.rlink n
    if m = 3 && s1.fld (Pg.ryk n) F.RYK_STATUS_b3 ≠ 3 then
      s1.setRlink n { r with secondUp := if r.secondUp.isNone then some s1.count else r.secondUp }
    else s1.setRlink n { r with secondUp := none }

/-- One move of a link after its unit or its lanes (Table RYK-4). -/
def State.linkStep (s : State) (n : Nat) : State :=
  let k := s.kstate n
  if s.unit (Pg.ryk n) ≠ uActive then
    if K.aligning ≤ k && k ≤ K.retraining then s.linkDead n else s.setKstate n K.down
  else if k = K.down then s.setKstate n K.training
  else if s.lanesOut n then
    if k = K.training || k = K.noPartner then s.setKstate n K.noPartner else s.linkDead n
  else if k = K.noPartner then s.setKstate n K.training
  else if k = K.training then
    let m := s.upMask n
    if m = 3 || (m ≠ 0 && (s.laneOut (rykLane n 0) || s.laneOut (rykLane n 1))) then s.linkAligning n
    else s.setRlink n { s.rlink n with firstUp := if m = 0 then none else some ((s.rlink n).firstUp.getD s.count) }
  else if k = K.aligning || k = K.init then (if s.upMask n = 0 then s.setKstate n K.training else s)
  else if k = K.retraining then s
  else s.linkInUse n

/-- A link follows its unit and lanes; both lanes RETIRED retire it (R678). Log: entry 35 (DEDUCED). -/
def State.linkFollow (s : State) (n : Nat) : State :=
  let s1 := if s.unit (Pg.lan (rykLane n 0)) = uRetired && s.unit (Pg.lan (rykLane n 1)) = uRetired then
    s.retire (Pg.ryk n) 0x80 else s
  (((s1.linkStep n).linkStep n).linkStep n).linkStep n

/-- The link of a lane follows it. Log: entry 35 (DEDUCED). -/
def State.lanesFollow (s : State) (l : Nat) : State := if isRyk l then s.linkFollow ((l - 32) / 2) else s

/-- A lane's command, and its link after it. -/
def thenLinked (l : Nat) (r : Result) : Result :=
  match r with
  | .next s => .next (s.lanesFollow l)
  | .fault f => .fault f
  | .refused x => .refused x

/-- The link takes blocks from its lanes: ALIGNING, INIT, UP, REPLAYING or RETRAINING (Table RYK-4). -/
def State.linkTakes (s : State) (n : Nat) : Bool := K.aligning ≤ s.kstate n && s.kstate n ≤ K.retraining

/-- A wander slip of a lane in use: a block error, and realignment, in ALIGNING from the first pair again (R198, R643).
Log: entry 149 (DEDUCED). -/
def State.linkSlip (s : State) (n : Nat) : State :=
  if !s.linkTakes n then s
  else if s.kstate n = K.aligning then (s.incFld (Pg.ryk n) F.RYK_CRC_b16).setRlink n { s.rlink n with pairs := 0 }
  else (s.incFld (Pg.ryk n) F.RYK_CRC_b16).setRlink n { s.rlink n with realign := true }

/-- Blocks marked invalid reach the link from a lane handed to it: block errors, and in UP an LLCTL with NAK (R160, R645, R647). -/
def State.linkErrors (s : State) (l k : Nat) : State :=
  let n := (l - 32) / 2
  if k = 0 || !isRyk l || s.lstate l ≠ L.up || !s.linkTakes n then s
  else
    let s1 := s.incFld (Pg.ryk n) F.RYK_CRC_b16 k
    if s1.kstate n = K.up && !(s1.rlink n).realign then (s1.raiseIrq (Pg.ryk n) 5).sendNak n else s1

end Sys2Proof.Machine
end

