-- ==== Sys2Proof/Machine/Lanes.lean ====
section
/-!
DEFINITION. The commands of serial lanes (spec/04): signal, training, lane test, fast retrain, test patterns,
autonegotiation; the Ryuklin reference; the line reference.
-/

set_option Elab.async false

namespace Sys2Proof.Machine

open Sys2Proof

/-- A candidate's reference lane has held CDR lock for 1 ms (R155, R156): one without CDR lock does not qualify. -/
def execCandidateQualified (off : Nat) (k : Fin 4) (s : State) : Result :=
  let s0 := s.at off
  .next (if s0.bit refPage (F.REF_CAND_b7 k.val) && s0.refLaneGood (s0.fld refPage (F.REF_CAND_b0 k.val)) then
      (s0.setFld refPage ⟨0x208, 8 + k.val, 1⟩ 1).refAcquire
    else s0)

/-- A reference candidate fails (R156). -/
def execCandidateLoss (off : Nat) (k : Fin 4) (s : State) : Result := .next ((s.at off).candLost k.val)

/-- The RREF contacts lose their clock: a ROOT enters HOLDOVER (R197). -/
def execRrefLoss (off : Nat) (s : State) : Result :=
  let s1 := { s.at off with rref := false }
  .next (if s1.refRole = 1 && s1.rstate = R.locked then s1.refHoldover else s1)

/-- RREF restored: a ROOT in HOLDOVER returns to LOCKED (Table LAN-3). -/
def execRrefRestore (off : Nat) (s : State) : Result :=
  let s1 := { s.at off with rref := true }
  .next (if s1.refRole = 1 && s1.rstate = R.holdover then s1.refLock 7 else s1)

/-- SIGNAL_DETECT_RISE of a lane whose signal detect is no optical channel's (R203); the Priming-out macro has no receiver
(R148). -/
def execSignalDetectRise (off : Nat) (l : LaneIx) (s : State) : Result := thenLinked l.val <|
  .next (if s.sig l.val || l.val = 163 || s.opticalLane l.val then s.at off else (s.at off).signalRise l.val)

/-- LOSS_OF_SIGNAL, of such a lane. -/
def execLossOfSignal (off : Nat) (l : LaneIx) (s : State) : Result := thenLinked l.val <|
  .next (if s.sig l.val && !s.opticalLane l.val then (s.at off).signalLoss l.val else s.at off)

/-- Does a lane send training frames (Table LAN-7)? -/
def State.inTraining (s : State) (l : Nat) : Bool :=
  (2 ≤ s.lstate l && s.lstate l ≤ 4) || (s.lstate l = L.fastRetrain && (s.lane l).phase = 0)

/-- One training frame received: the first 64 UI and the word's bits as they reach the macro, RX_INVERT not yet taken off (R151),
whether the own receiver has now finished, and what its adaptation asks for, bits [35:27] of a word. One frame is sent for each one
received. Log: entry 16 (DEDUCED). -/
def execTrainingWordRx (off : Nat) (l : LaneIx) (marker : BitVec 64) (word : BitVec 40) (rxDone : Bool) (ask : BitVec 9)
    (s : State) : Result := thenLinked l.val <|
  let l := l.val
  let t := s.lstate l
  let inv := s.rxInverted l
  let word := if inv then ~~~word else word
  if isRyk l && (s.inTraining l || t = L.up) then
    let s1 := (s.at off).laneFrame l ((if inv then ~~~marker else marker) = trainMarker)
    if t = L.up then .next s1
    else
      let s2 := if !(s1.lane l).frameLock then s1.setLane l { s1.lane l with gotReady := 0 }
        else if wordValid word then ((s1.laneRespond l word).laneCount l word ask)
        else (s1.incFld (Pg.lan l) F.LAN_TRAIN_BAD).setLane l { s1.lane l with gotReady := 0 }
      let s3 := if rxDone then s2.laneOwnReady l else s2
      .next (s3.sendTraining l)
  else .next (s.at off)

/-- A frame boundary at which R175 holds: the lane begins 64b/66b with the link's idle content, and its wander buffer is centred
(R158). A disabled reference keeps every lane in training (R153). -/
def execDataStart (off : Nat) (l : LaneIx) (s : State) : Result := thenLinked l.val <|
  let l := l.val
  let x := s.lane l
  let s0 := s.at off
  if 8 ≤ x.sentReady && 8 ≤ x.gotReady && s.refRole ≠ 0 then
    let begin' := fun (t : State) =>
      (((t.setFld (Pg.lan l) F.LAN_WANDER_b0 0).unlock l).codeMap l (fun c => { c with run := 0, win := 0 })).sendBits l idleBlock
    if s.lstate l = L.localReady then .next (begin' (s0.setLstate l L.dataStart))
    else if s.lstate l = L.fastRetrain && x.phase = 0 then .next (begin' (s0.setLane l { x with phase := 1 }))
    else .next s0
  else .next s0

/-- Sync headers received at one candidate position while block lock is sought (R160, R162): 64 valid ones in a row give it, and the
lane test begins. -/
def execBlockLock (off : Nat) (l : LaneIx) (headers : List (Fin 4)) (s : State) : Result := thenLinked l.val <|
  let l := l.val
  let x := s.lane l
  let s0 := s.at off
  let seeks := s.lstate l = L.dataStart || (s.lstate l = L.fastRetrain && x.phase = 1)
  if !seeks then .next s0
  else
    let s1 := s0.headersIn l headers
    if bestRun x.code.run headers < 64 then .next s1
    else
      let s2 := (s1.setFld (Pg.lan l) F.LAN_STATUS_CODE_LOCK 1).codeMap l (fun c => { c with run := 0, win := 0, bad := 0 })
      if s.lstate l = L.dataStart then .next ((s2.setLstate l L.test).setLane l { s2.lane l with testBad := false, testErrs := 0 })
      else .next (s2.setLane l { s2.lane l with phase := 2, testBad := false, testErrs := 0 })

/-- Block lock has not come within 1 ms of the start of data (R175): the attempt fails, and a fast retrain begins full attempts
(R180). -/
def execBlockLockTimeout (off : Nat) (l : LaneIx) (s : State) : Result := thenLinked l.val <|
  .next (if s.lstate l.val = L.dataStart then (s.at off).laneFail l.val 5
    else if s.lstate l.val = L.fastRetrain && (s.lane l.val).phase = 1 then (s.at off).laneCycle l.val
    else s.at off)

/-- Sync headers received in block lock, 16 invalid ones within 64 blocks losing it (R162): in UP that is a transient event and a
fast retrain (R180, R185), and each invalid one is a block error of the link (R160). -/
def execBlockLockLoss (off : Nat) (l : LaneIx) (headers : List (Fin 4)) (s : State) : Result := thenLinked l.val <|
  let l := l.val
  let s0 := s.at off
  if s.bit (Pg.lan l) F.LAN_STATUS_CODE_LOCK && isRyk l then .next ((s0.linkErrors l (badHeaders headers)).headersJudged l headers)
  else .next s0

/-- The lane test ends with a number of invalid sync headers that no other command has given (R176, R187). -/
def execLaneTestDone (off : Nat) (l : LaneIx) (invalid : Nat) (s : State) : Result := thenLinked l.val <|
  let l := l.val
  let x := s.lane l
  let s0 := s.at off
  let all := x.testErrs + invalid
  if s.lstate l = L.test then
    let s1 := s0.incFld (Pg.lan l) F.LAN_HDR_ERR invalid
    .next (if all ≤ 1 && !x.testBad then s1.laneUp l else s1.laneFail l 6)
  else if s.lstate l = L.fastRetrain && x.phase = 2 then
    let s1 := s0.incFld (Pg.lan l) F.LAN_HDR_ERR invalid
    if all = 0 && !x.testBad then .next ((s1.setLane l { x with fastFails := 0 }).laneUp l)
    else
      let s2 := (s1.setFld (Pg.lan l) F.LAN_STATUS_LAST_FAIL 6).setLane l { x with fastFails := x.fastFails + 1 }
      .next (if 2 ≤ x.fastFails + 1 then s2.laneRetire l Reason.retrainTest else s2.laneCycle l)
  else .next s0

/-- A fast retrain not complete within 1.5 ms (R180). -/
def execFastRetrainTimeout (off : Nat) (l : LaneIx) (s : State) : Result := thenLinked l.val <|
  .next (if s.lstate l.val = L.fastRetrain then (s.at off).laneCycle l.val else s.at off)

/-- An attempt not UP within 32 ms (R177). Log: entry 10 (DESIGN CHOICE). -/
def execTrainingAttemptTimeout (off : Nat) (l : LaneIx) (s : State) : Result := thenLinked l.val <|
  .next (if 2 ≤ s.lstate l.val && s.lstate l.val ≤ 6 then (s.at off).laneFail l.val (s.lateCause l.val) else s.at off)

/-- A backoff gap has elapsed (R177). Log: entry 10 (DESIGN CHOICE). -/
def execBackoffExpiry (off : Nat) (l : LaneIx) (s : State) : Result := thenLinked l.val <|
  .next (if s.lstate l.val = L.backoff then (s.at off).laneAttempt l.val else s.at off)

/-- The 1 s timer of NO_PARTNER (R178). -/
def execNoPartnerRetry (off : Nat) (l : LaneIx) (s : State) : Result := thenLinked l.val <|
  .next (if s.lstate l.val = L.noPartner && s.sig l.val then (s.at off).laneCycle l.val else s.at off)

/-- A run of 2^20 blocks or code groups ends, with the number of its invalid ones that no other command has given (R185): they are
counted, by a running lane test too, and are block errors of the link (R160, R176). The Priming-out macro receives none (R148). -/
def execErrorInterval (off : Nat) (l : LaneIx) (invalid : Nat) (s : State) : Result := thenLinked l.val <|
  if l.val = 163 then .next (s.at off) else
  let s0 := (((s.at off).linkErrors l.val invalid).incFld (Pg.lan l.val) F.LAN_HDR_ERR invalid).codeMap l.val (fun c => { c with bad := 0 })
  let s1 := if s.bit (Pg.lan l.val) F.LAN_STATUS_CODE_LOCK && isRyk l.val then
    s0.setLane l.val { s0.lane l.val with testErrs := (s0.lane l.val).testErrs + invalid } else s0
  .next (if 16 < (s.lane l.val).code.bad + invalid then s1.laneEvent l.val else s1)

/-- The fill of a lane's wander buffer moves by a number of blocks (R158): each time it would pass ±16 it recentres, which loses or
repeats one block. A slip fails a running lane test (R176) and is a block error to the link, which realigns (R198, R643). -/
def execWanderSlip (off : Nat) (l : LaneIx) (drift : Int) (s : State) : Result :=
  let l := l.val
  let s0 := s.at off
  if isRyk l then
    let fill := signed 8 (s0.fld (Pg.lan l) F.LAN_WANDER_b0) + drift
    let slips := fill.natAbs / 17
    let s1 := s0.setFld (Pg.lan l) F.LAN_WANDER_b0 (unsigned 8 (fill.tmod 17))
    if slips = 0 then .next s1
    else
      let s2 := (s1.incFld (Pg.lan l) F.LAN_WANDER_SLIPS slips).raiseIrq (Pg.lan l) 6
      .next ((List.range slips).foldl (fun (t : State) _ => t.linkSlip ((l - 32) / 2)) (s2.setLane l { s2.lane l with testBad := true }))
  else .next s0

/-- A receiver gains CDR lock on a rate `ppm` from nominal, or loses it (R152, Table LAN-7). A lane clocked by LREF locks within
±300 ppm and with LREF present (R196), a Ryuklin lane within ±6,000 ppm (Table LAN-9); the Priming-out macro has no receiver (R148).
A candidate whose reference lane loses its lock is lost (R156). -/
def execCdrLock (off : Nat) (l : LaneIx) (gain : Bool) (ppm : Int) (s : State) : Result :=
  let l := l.val
  let s0 := s.at off
  if gain then
    let range := if isRyk l then 6000 else 300
    if range < ppm.natAbs || l = 163 || (l ∈ lrefLanes && !s0.wdl.lrefOk) then .next s0
    else .next ((s0.setFld (Pg.lan l) F.LAN_STATUS_CDR_LOCK 1).laneFixed l)
  else .next (s0.cdrLost l)

/-- Bits received while a test mode is applied (R183, R184): far-end loopback sends them back, near-end loopback takes as many of
the lane's own in their place, and the PRBS checker takes them where a checker pattern is applied. The Priming-in macro has nothing to
loop to or from and the Priming-out macro receives nothing (R148), nor does a lane without LREF (R196). -/
def execPrbsLock (off : Nat) (l : LaneIx) (bits : List Bool) (s : State) : Result :=
  let l := l.val
  let s0 := s.at off
  if l = 163 || !s0.clocked l then .next s0 else
  let m := if l = 162 then (s.lane l).testMode % 256 else (s.lane l).testMode
  let txi := bitOf (s0.txInverted l)
  let line := bits.map bitOf
  let own : List Nat × State := if m / 256 % 4 = 1 then
      match s0.patternBits l bits.length with
      | some (b, t) =>
        let sent := b.map (fun x => (x + txi) % 2)
        (sent, if m / 1024 % 2 = 1 then t else t.emit (.bits l sent))
      | none => ([], s0)
    else (line, s0)
  let got := own.1.map (fun x => (x + bitOf (s0.rxInverted l)) % 2)
  let s1 := if m / 256 % 4 = 2 then own.2.emit (.bits l (got.map (fun x => (x + txi) % 2))) else own.2
  match prbsTaps (m / 16 % 8) with
  | none => .next s1
  | some t => .next (got.foldl (fun u b => u.checkBit l t ((b + m / 128) % 2)) s1)

/-- AN_RESTART on a management lane. -/
def execAnRestart (off : Nat) (k : Fin 2) (ctl : Word) (s : State) : Result :=
  .next ((s.at off).onPage (Pg.lan (160 + k.val)) 0x080 (fun t =>
    (t.write (Pg.lan (160 + k.val)) 0x080 ctl).anRestart (160 + k.val)))

/-- Clause 37 autonegotiation completes with the partner's base page, the own having gone out on a FIXED_UP lane (R163). -/
def execAnComplete (off : Nat) (k : Fin 2) (base : BitVec 16) (s : State) : Result :=
  let p := Pg.lan (160 + k.val)
  if s.bit p F.LAN_AN_CTL_AN_EN && s.lstate (160 + k.val) = L.fixedUp && (s.lane (160 + k.val)).anSent then
    .next ((((s.at off).setFld p F.LAN_AN_STATUS_AN_COMPLETE 1).setFld p F.LAN_AN_STATUS_b16 base.toNat).raiseIrq p 7)
  else .next (s.at off)

/-- The macro's self-check fails a lane (R199): a Ryuklin lane retires, a PRIMED one as by its self-test (Table REG-4); another enters
FAULT. Log: entry 133 (DEDUCED). -/
def execLaneSelfcheckFail (off : Nat) (l : LaneIx) (s : State) : Result := thenLinked l.val <|
  let s0 := s.at off
  .next (if isRyk l.val then
      (if s0.unit (Pg.lan l.val) = uPrimed then s0.setUnit (Pg.lan l.val) uRetired Reason.hwError else s0).laneRetire l.val Reason.hwError
    else if s0.unit (Pg.lan l.val) = uOff then s0
    else (s0.fail (Pg.lan l.val) Reason.hwError).laneStop l.val)

/-- LREF returns (R236): the Priming-out lane has its clock again. -/
def execLrefReturn (off : Nat) (s : State) : Result :=
  let s1 := (s.at off).setFld Pg.byp F.BYP_STATUS_LREF_OK 1
  .next (({ s1 with wdl := { s1.wdl with lrefOk := true } } : State).laneFixed 163)

end Sys2Proof.Machine
end

