-- ==== Sys2Proof/Machine/Optics.lean ====
section
/-!
DEFINITION. Optical engines and the bypass island's own commands (spec/05).
-/

set_option Elab.async false

namespace Sys2Proof.Machine

open Sys2Proof

/-- The reason codes of Table OPE-6. -/
def Reason.laserEol : Nat := 0x80
def Reason.heaterFail : Nat := 0x81
def Reason.lockFail : Nat := 0x82
def Reason.noLight : Nat := 0x83
def Reason.island : Nat := 0x84

/-- LASER_OK from the channels' states (Table OPE-8): a laser is taken to be right while a channel it feeds is in a state past
WARMING and not RETIRED. Log: entry 132 (DESIGN CHOICE). -/
def State.syncLaserOk (s : State) (e : Nat) : State :=
  let on := fun c => s.chState e c ≠ C.off && s.chState e c ≠ C.warming && s.chState e c ≠ C.retired
  let v := if isLineEngine e then bitOf ((channelsOf e).all on)
    else bitOf ([0, 2, 4, 6].any on) + 2 * bitOf ([1, 3, 5, 7].any on)
  s.setFld (Pg.ope e) F.OPE_STATUS_LASER_OK v

/-! ### Signal and automatic power reduction -/

/-- A group leaves APR (R213, R228). -/
def State.aprLeave (s : State) (e g : Nat) : State :=
  if s.bit (Pg.ope e) ⟨0x044, 4 + g, 1⟩ then
    (((s.setFld (Pg.ope e) ⟨0x044, 4 + g, 1⟩ 0).setFld (Pg.ope e) ⟨0x044, 8 + g, 1⟩ 0).setFld (Pg.ope e)
      ⟨0x050, g, 1⟩ 0).raiseIrq (Pg.ope e) 2
  else s

/-- OPE_LOS_THR.DEASSERT; below ASSERT it is treated as ASSERT + 1. -/
def State.deassertLevel (s : State) (e : Nat) : Nat :=
  let a := s.inForce (Pg.ope e) F.OPE_LOS_THR_ASSERT
  let d := s.inForce (Pg.ope e) F.OPE_LOS_THR_DEASSERT
  if d < a then a + 1 else d

/-- A channel's received power has stayed at or above DEASSERT for 100 µs (R203); its group leaves APR (R213). A RETIRED channel
gives no signal (R217). -/
def execLosDeassert (off : Nat) (e : Engine) (c : Channel) (power : Nat) (s : State) : Result :=
  let s0 := s.at off
  let p := Pg.ope e.val
  if s0.chServes e c && s0.deassertLevel e ≤ power then
    let s1 := (s0.setFld p (F.OPE_CH_STATUS_LOS c) 0).setFld p (F.OPE_CH_PWR_b0 c) power
    let s2 := s1.aprLeave e (groupOf e c)
    .next (if s2.sig (laneOf e c) then s2 else (s2.signalRise (laneOf e c)).lanesFollow (laneOf e c))
  else .next s0

/-- The channels of an APR group that are in use and not RETIRED (R212, R228). -/
def State.groupChannels (s : State) (e g : Nat) : List Nat :=
  (channelsOf e).filter (fun c => groupOf e c = g && s.chUsed e c && s.chState e c ≠ C.retired)

/-- Every channel of a group in LOS for 500 µs: APR is entered (R212). -/
def execAprEntry (off : Nat) (e : Engine) (g : Fin 4) (s : State) : Result :=
  let s0 := s.at off
  let p := Pg.ope e.val
  if s0.groupChannels e g ≠ [] && (s0.groupChannels e g).all (fun c => s0.bit p (F.OPE_CH_STATUS_LOS c)) &&
      !s0.bit p ⟨0x044, 4 + g.val, 1⟩ then
    .next (((s0.setFld p ⟨0x044, 4 + g.val, 1⟩ 1).incFld p F.OPE_COUNTS_APR_ENTRIES).raiseIrq p 1)
  else .next s0

/-- The periodic timer starts a restart pulse (R212). -/
def execAprPulse (off : Nat) (e : Engine) (g : Fin 4) (s : State) : Result :=
  let s0 := s.at off
  .next (if s0.bit (Pg.ope e) ⟨0x044, 4 + g.val, 1⟩ then s0.setFld (Pg.ope e) ⟨0x044, 8 + g.val, 1⟩ 1 else s0)

/-- A restart pulse ends (R212); a RESTART that asked for it is complete. -/
def execAprPulseEnd (off : Nat) (e : Engine) (g : Fin 4) (s : State) : Result :=
  .next (((s.at off).setFld (Pg.ope e) ⟨0x044, 8 + g.val, 1⟩ 0).setFld (Pg.ope e) ⟨0x050, g.val, 1⟩ 0)

/-- RESTART bits of OPE_APR: one pulse at once for a group in APR (R212); for a group that is not, the bit clears with no pulse.
Log: entry 148 (DESIGN CHOICE). -/
def State.aprRestart (s : State) (e : Nat) : State :=
  [0, 1, 2, 3].foldl (fun t g =>
    if t.bit (Pg.ope e) ⟨0x050, g, 1⟩ then
      if t.bit (Pg.ope e) ⟨0x044, 4 + g, 1⟩ then t.setFld (Pg.ope e) ⟨0x044, 8 + g, 1⟩ 1
      else t.setFld (Pg.ope e) ⟨0x050, g, 1⟩ 0
    else t) s

/-- A write of OPE_APR. -/
def execAprRestart (off : Nat) (e : Engine) (v : Word) (s : State) : Result :=
  .next ((s.at off).onPage (Pg.ope e) 0x050 (fun t => (t.write (Pg.ope e) 0x050 v).aprRestart e))

/-- What a pair's ports transmit (R218, R235, R236): the main domain's signals, what the other port receives, bit for bit, the
idle generator's stream, RS-FEC coded or not for each port (R220), or nothing. -/
inductive PairOutput where
  | main | open | closed (fecA fecB : Bool) | hold
  deriving DecidableEq, Repr

/-- What the island puts on a pair: the main domain's signals when released; the policy in force when engaged,
CLOSED as HOLD without LREF; nothing without the island's supply. -/
def State.pairOutput (s : State) (p : Nat) : PairOutput :=
  if !s.pins.island then .hold
  else if !s.engaged p then .main
  else match s.fld Pg.byp ⟨0x048, 4 + 2 * p, 2⟩ with
    | 0 => .open
    | 1 => if s.bit Pg.byp F.BYP_STATUS_LREF_OK then .closed (s.bit Pg.byp ⟨0x064, 2 * p, 1⟩) (s.bit Pg.byp ⟨0x064, 2 * p + 1, 1⟩)
      else .hold
    | _ => .hold

/-- A group may launch: it is not in APR, or in a restart pulse (R206, R212). -/
def State.groupOpen (s : State) (e g : Nat) : Bool :=
  !s.bit (Pg.ope e) ⟨0x044, 4 + g, 1⟩ || s.bit (Pg.ope e) ⟨0x044, 8 + g, 1⟩

/-- A port's lane is driven (R206, R218): by the island while its pair is engaged, and, released, by the lane, but for the
darkness that propagation asks for (R249). -/
def State.lineDriven (s : State) (q l : Nat) : Bool :=
  match s.pairOutput (q / 2) with
  | .main => s.fld (Pg.lnp q) F.LNP_STATUS_TX_SEND ≠ 3 && s.laneSends l ≠ .idle
  | .hold => false
  | _ => true

/-- Does a channel launch light now (R206, R229)? Log: entry 105 (DEDUCED). -/
def State.chLight (s : State) (e c : Nat) : Bool :=
  s.chUsed e c && s.chState e c = C.lit && !s.bit (Pg.ope e) (F.OPE_CH_CTL_FORCE_DARK c) && s.bit (Pg.ope e) F.OPE_CFG_TX_EN &&
  s.groupOpen e (groupOf e c) &&
  (if isLineEngine e then s.lineDriven e (laneOf e c) else s.laneSends (laneOf e c) ≠ .idle)

/-- Does a port pass on what its partner receives (R219, R232)? Its pair is engaged in OPEN; on the TX964-OL its group is in no
APR, or in a pulse. -/
def State.retimes (s : State) (q : Nat) : Bool :=
  s.pairOutput (q / 2) = .open && (s.absent (Pg.ope q) || s.groupOpen q 0)

/-- A launch level of 0.1 dBm per unit in 0.1 µW (R204). -/
def launchLevel (v : Int) : Nat :=
  let up := fun (n : Nat) => (List.range n).foldl (fun x _ => x * 1023293 / 1000000) (10000 * 10 ^ 6)
  let down := fun (n : Nat) => (List.range n).foldl (fun x _ => x * 1000000 / 1023293) (10000 * 10 ^ 6)
  (if 0 ≤ v then up v.toNat else down (-v).toNat) / 10 ^ 6

/-- A channel's launched power as its tap measures it, in 0.1 µW: within 0.5 dB of OPE_TX_PWR (R204), or, dark, at most −30 dBm
(R206). Log: entry 135 (DESIGN CHOICE). -/
def State.tapPower (s : State) (e c : Nat) : Nat :=
  if s.chLight e c then
    let v := signed 8 (s.inForce (Pg.ope e) F.OPE_TX_PWR)
    let lo := launchLevel (v - 5)
    lo + s.free % (launchLevel (v + 5) - lo + 1)
  else s.free % 11

/-! ### Retirement of channels (R214 to R217) -/

/-- SUB_RETIRED of an engine follows its channels. -/
def State.syncSubRetired (s : State) (e : Nat) : State :=
  s.setSubRetired (Pg.ope e) ((channelsOf e).any (fun c => s.chState e c = C.retired))

/-- A channel retires (R214): its lane with it on a link engine (R216), the engine when all eight are gone
(R217); a line lane is left without signal. -/
def State.chRetire (s : State) (reason e c : Nat) : State :=
  if s.chState e c = C.retired then s
  else
    let p := Pg.ope e
    let s1 := ((s.setCh e c C.retired).setFld p (F.OPE_CH_STATUS_b8 c) reason).setFld p (F.OPE_CH_STATUS_LOCKED c) 0
    let s2 := ((s1.raiseIrq p 5).syncSubRetired e).syncLaserOk e
    let s3 := if (s2.groupChannels e (groupOf e c)).isEmpty then s2.aprLeave e (groupOf e c) else s2
    if isLineEngine e then (if s3.sig (laneOf e c) then s3.signalLoss (laneOf e c) else s3)
    else
      let s4 := (s3.laneRetire (laneOf e c) Reason.parent).lanesFollow (laneOf e c)
      if (channelsOf e).all (fun d => s4.chState e d = C.retired) then s4.retire p Reason.threshold else s4

/-- One transient event of a channel (R214), with its retirement at the threshold; an electrical link's channel
counts none (R202), nor one over temperature (R238). -/
def State.chEvent (s : State) (e c : Nat) : State :=
  if !s.chUsed e c || s.chState e c = C.thermal || s.chState e c = C.retired then s
  else
    let p := Pg.ope e
    let s1 := ((s.incFld p (F.OPE_CH_EVENTS_b0 c)).incFld p (F.OPE_CH_LEAK c)).setFault p 0
    if s1.inForce p F.OPE_LEAK_THRESH ≤ s1.fld p (F.OPE_CH_LEAK c) then s1.chRetire Reason.threshold e c else s1

/-- The channels that own a heater (R210, Table OPE-3). -/
def heaterOwners (e h : Nat) : List Nat :=
  if isLineEngine e then (if h < 8 then [h / 2] else [0, 1, 2, 3])
  else if h < 8 then [h] else if h = 8 then [0, 2, 4, 6] else if h = 9 then [1, 3, 5, 7] else []

/-- The channels a laser feeds (Table OPE-1): a line engine's laser one, a link engine's bonded laser four. -/
def laserFeeds (e k : Nat) : List Nat :=
  if isLineEngine e then [k] else if k = 0 then [0, 2, 4, 6] else if k = 1 then [1, 3, 5, 7] else []

/-- The engine's monitors find a part failed (R214): every channel it feeds retires. A laser above 1.3 times
its beginning-of-life current warns, above 1.5 times it retires. -/
def execChannelFaultDetect (off : Nat) (e : Engine) (found : OptFault) (s : State) : Result :=
  let s0 := s.at off
  let p := Pg.ope e.val
  match found with
  | .laser k cur =>
    let ds := laserFeeds e k
    let s1 := ds.foldl (fun t c => t.setFld p (F.OPE_CH_LASER_b0 c) cur) s0
    let bol := fun (c : Nat) => s1.fld p (F.OPE_CH_LASER_b16 c)
    let s2 := if ds.any (fun c => 13 * bol c < 10 * cur) then s1.raiseIrq p 7 else s1
    .next ((ds.filter (fun c => 3 * bol c < 2 * cur)).foldl (State.chRetire · Reason.laserEol e) s2)
  | .noLight c => .next (if c.val ∈ channelsOf e then s0.chRetire Reason.noLight e c else s0)
  | .heater h => .next ((heaterOwners e h).foldl (State.chRetire · Reason.heaterFail e) s0)

/-- CH_CTL.REINSTATE of a RETIRED channel: its self-test starts at the next turn boundary (R215). -/
def State.chReinstate (s : State) (e c : Nat) : State :=
  if s.bit (Pg.ope e) (F.OPE_CH_CTL_REINSTATE c) then
    if s.chState e c = C.retired then
      if (s.chan e c).reinstate = 0 then s.setChan e c { s.chan e c with reinstate := 1 } else s
    else s.setFld (Pg.ope e) (F.OPE_CH_CTL_REINSTATE c) 0
  else s

/-- A write of CH_CTL(c). -/
def execChReinstate (off : Nat) (e : Engine) (c : Channel) (v : Word) (s : State) : Result :=
  .next ((s.at off).onPage (Pg.ope e) (F.OPE_CH_CTL_REINSTATE c).off (fun t =>
    (t.write (Pg.ope e) (F.OPE_CH_CTL_REINSTATE c).off v).chReinstate e c))

/-- A channel's reinstate self-test ends (R215). -/
def execChReinstateDone (off : Nat) (e : Engine) (c : Channel) (pass : Bool) (s : State) : Result :=
  let s0 := s.at off
  let p := Pg.ope e.val
  if (s0.chan e c).reinstate = 2 then
    let s1 := (s0.setChan e c ⟨0, 0⟩).setFld p (F.OPE_CH_CTL_REINSTATE c) 0
    if pass then
      let s2 := ((s1.setCh e c C.lit).setFld p (F.OPE_CH_LEAK c) 0).setFld p (F.OPE_CH_STATUS_b8 c) 0
      .next (((s2.setFld p (F.OPE_CH_STATUS_LOCKED c) (bitOf (isLineEngine e))).syncSubRetired e).syncLaserOk e)
    else .next (s1.setFld p (F.OPE_CH_STATUS_b8 c) Reason.reinstateFail)
  else .next s0

/-! ### Lasers -/

/-- A warming laser reaches its target power (Table OPE-2). -/
def execLaserWarm (off : Nat) (e : Engine) (c : Channel) (s : State) : Result :=
  let s0 := s.at off
  .next (if s0.chState e c = C.warming then
      (s0.setCh e c (if isLineEngine e then C.locking else C.lit)).syncLaserOk e else s0)

/-- A line laser's error has stayed within ±0.10 nm for 1 ms (R207). -/
def execWavelengthLocked (off : Nat) (e : Engine) (c : Channel) (err : BitVec 16) (s : State) : Result :=
  let s0 := s.at off
  let p := Pg.ope e.val
  let st := s0.chState e c
  if isLineEngine e && (st = C.locking || st = C.lit) && (signed 16 err.toNat).natAbs ≤ 100 then
    let s1 := ((s0.setCh e c C.lit).setFld p (F.OPE_CH_STATUS_LOCKED c) 1).setFld p (F.OPE_CH_STATUS_b16 c) err.toNat
    .next ((s1.setChan e c { s1.chan e c with lockFails := 0 }).syncLaserOk e)
  else .next s0

/-- The error passes ±0.30 nm (R207). -/
def execWavelengthUnlock (off : Nat) (e : Engine) (c : Channel) (err : BitVec 16) (s : State) : Result :=
  let s0 := s.at off
  let p := Pg.ope e.val
  if isLineEngine e && s0.chState e c = C.lit then
    let s1 := ((s0.setFld p (F.OPE_CH_STATUS_LOCKED c) 0).setFld p (F.OPE_CH_STATUS_b16 c) err.toNat).raiseIrq p 3
    .next (s1.chEvent e c)
  else .next s0

/-- The error passes ±0.90 nm: the channel darkens into OFFGRID (R207), one transient event (R214). -/
def execOffgrid (off : Nat) (e : Engine) (c : Channel) (err : BitVec 16) (s : State) : Result :=
  let s0 := s.at off
  let p := Pg.ope e.val
  if isLineEngine e && s0.chState e c = C.lit then
    let s1 := ((s0.setCh e c C.offgrid).setFld p (F.OPE_CH_STATUS_LOCKED c) 0).setFld p (F.OPE_CH_STATUS_b16 c) err.toNat
    .next ((s1.raiseIrq p 4).chEvent e c)
  else .next s0

/-- A channel is 50 ms in LOCKING without lock (R208). -/
def execLockFailure (off : Nat) (e : Engine) (c : Channel) (s : State) : Result :=
  let s0 := s.at off
  if s0.chState e c = C.locking then
    let n := (s0.chan e c).lockFails + 1
    if 3 ≤ n then .next ((s0.setChan e c { s0.chan e c with lockFails := 0 }).chRetire Reason.lockFail e c)
    else .next ((s0.setChan e c { s0.chan e c with lockFails := n }).setCh e c C.warming)
  else .next s0

/-! ### Heaters (R209 to R211) -/

/-- The heaters an engine has (Table OPE-3). -/
def heatersOf (e : Nat) : List Nat := List.range (if isLineEngine e then 16 else 10)

/-- Nearest integer to n / d, ties away from zero (R209). -/
def roundAway (n d : Int) : Int := if 0 ≤ n then (2 * n + d) / (2 * d) else -((2 * (-n) + d) / (2 * d))

/-- The coefficient c[h][d] of Table OPE-11 in force, signed; `up` is the sign of d. -/
def State.xtCoeff (s : State) (e h d : Nat) (up : Bool) : Int :=
  signed 16 (s.inForce (Pg.ope e) ⟨0x400 + 16 * h + 4 * (d - 1), if up then 16 else 0, 16⟩)

/-- The target of a heater; a heater the engine lacks gives zero. -/
def State.target (s : State) (e : Nat) (h : Int) : Int :=
  if 0 ≤ h && h < (heatersOf e).length then (s.fld (Pg.ope e) (F.OPE_HTR_b0 h.toNat) : Int) else 0

/-- The drive word of a heater before its clamp (R209), with the compensation settings in force (R211). -/
def State.drive (s : State) (e h : Nat) : Int :=
  let w := if s.inForce (Pg.ope e) F.OPE_XT_CTL_XT_EN = 0 then 0 else s.inForce (Pg.ope e) F.OPE_XT_CTL_BAND
  let sum := ((List.range w).map (fun i =>
    s.xtCoeff e h (i + 1) false * s.target e ((h : Int) - (i + 1)) +
    s.xtCoeff e h (i + 1) true * s.target e ((h : Int) + (i + 1)))).foldl (· + ·) 0
  s.target e h - roundAway sum 32768

/-- A heater's drive word stored, with its clamp counted (R210). -/
def State.driveHeater (e : Nat) (before : State) (s : State) (h : Nat) : State :=
  let v := before.drive e h
  let s1 := s.setFld (Pg.ope e) (F.OPE_HTR_b16 h) (if v < 0 then 0 else if 65535 < v then 65535 else v.toNat)
  if v < 0 || 65535 < v then (s1.incFld (Pg.ope e) F.OPE_CLAMPS).raiseIrq (Pg.ope e) 6 else s1

/-- The recomputation of an engine's drive words, with the targets the loops have changed (R211).
Log: entry 110 (DEDUCED). -/
def State.engineDrives (s : State) (e : Nat) (targets : List (Fin 16 × BitVec 16)) : State :=
  let s0 := targets.foldl (fun t x => if x.1.val ∈ heatersOf e then
    t.setFld (Pg.ope e) (F.OPE_HTR_b0 x.1) x.2.toNat else t) s
  (heatersOf e).foldl (State.driveHeater e s0) s0

/-- A heater of an engine held at a clamp for 1 ms (R210): the word computed for it lies beyond the clamp at which it stands. -/
def State.clampHold (s : State) (e h : Nat) : State :=
  let v := s.fld (Pg.ope e) (F.OPE_HTR_b16 h)
  let p := s.drive e h
  if (p < 0 && v = 0) || (65535 < p && v = 65535) then (heaterOwners e h).foldl (fun t c => t.chEvent e c) s else s

/-- The wavelength errors an engine's etalons measure: an OFFGRID channel back within ±0.30 nm is LOCKING again (Table OPE-2).
Log: entry 18 (DESIGN CHOICE). -/
def State.measured (s : State) (e : Nat) (errs : List (Fin 4 × BitVec 16)) : State :=
  if isLineEngine e then
    errs.foldl (fun (t : State) x =>
      let c := x.1.val
      let t1 := t.setFld (Pg.ope e) (F.OPE_CH_STATUS_b16 c) x.2.toNat
      if t.chState e c = C.offgrid && (signed 16 x.2.toNat).natAbs ≤ 300 then t1.setCh e c C.locking else t1) s
  else s

/-! ### The engine as a whole -/

/-- The engine's temperature is reported (R238): above 95 °C its channels go THERMAL, below 90 °C they return. LOCKED stays as it
was. Log: entry 148 (DESIGN CHOICE). -/
def execEngineOverTemp (off : Nat) (e : Engine) (temp : BitVec 16) (s : State) : Result :=
  let s0 := (s.at off).setFld (Pg.ope e) F.OPE_TEMP temp.toNat
  let t := signed 16 temp.toNat
  .next (if 760 < t then
      (channelsOf e).foldl (fun u c => if u.chState e c = C.off || u.chState e c = C.retired then u
        else u.setCh e c C.thermal) s0
    else if t < 720 then
      (channelsOf e).foldl (fun u c => if u.chState e c = C.thermal then
        u.setCh e c (if isLineEngine e then C.locking else C.lit) else u) s0
    else s0)

/-- The engine's controller fails (R237): a line engine's channels are dark, those not RETIRED with CH_STATE OFF.
LOCKED stays as it was. Log: entry 131 (DESIGN CHOICE), entry 148 (DESIGN CHOICE). -/
def execEngineControllerFail (off : Nat) (e : Engine) (s : State) : Result :=
  let s0 := s.at off
  if s0.absent (Pg.ope e) || s0.unit (Pg.ope e) = uOff then .next s0
  else if isLineEngine e then
    let s1 := s0.fail (Pg.ope e) Reason.hwError
    .next (((channelsOf e).foldl (fun t c =>
      let t1 := if t.chState e c = C.retired then t else t.setCh e c C.off
      if t1.sig (laneOf e c) then t1.signalLoss (laneOf e c) else t1) s1).syncLaserOk e)
  else .next ((channelsOf e).foldl (State.chRetire · Reason.hwError e) s0)

/-- The channels follow their engine's unit (Table OPE-2): READY or ACTIVE starts those in use, OFF or PRIMED stops
them, and an unused one is OFF. -/
def State.opeUnit (s : State) (e : Nat) : State :=
  let u := s.unit (Pg.ope e)
  ((channelsOf e).foldl (fun t c =>
    if t.chState e c = C.retired then t
    else if u ≤ uPrimed || !t.chUsed e c then t.setCh e c C.off
    else if (u = uReady || u = uActive) && t.chState e c = C.off then t.setCh e c C.warming
    else t) s).syncLaserOk e

/-- An engine's part of a turn boundary: reinstate self-tests start (R215), links change path (R202). `old` is
OPE_CFG.ELEC as it was in force. -/
def State.opeBoundary (s : State) (e old : Nat) : State :=
  let s1 := (channelsOf e).foldl (fun t c =>
    if (t.chan e c).reinstate = 1 then t.setChan e c { t.chan e c with reinstate := 2 } else t) s
  if isLineEngine e then s1
  else
    let now := s1.inForce (Pg.ope e) F.OPE_CFG_ELEC
    ([0, 1, 2, 3].foldl (fun (t : State) g =>
      if (old >>> g) % 2 = (now >>> g) % 2 then t
      else
        let t1 := if (now >>> g) % 2 = 1 then t.aprLeave e g else t
        [2 * g, 2 * g + 1].foldl (fun u c =>
          let l := laneOf e c
          if u.lstate l = L.disabled then u else (u.laneStop l).laneCycle l) t1) s1).opeUnit e

/-! ### The bypass island -/

/-- The policy of a pair after R221, from the values in force: 3 is treated as HOLD, OPEN is CLOSED in TAP. -/
def State.policyOf (s : State) (p : Nat) : Nat :=
  let v := min 2 (s.inForce Pg.byp (F.BYP_POLICY p))
  if v = 0 && s.bit Pg.byp ⟨0x044, p, 1⟩ then 1 else v

/-- BYP_STATUS shows the policies in force. -/
def State.syncPolicies (s : State) : State :=
  [0, 1, 2, 3].foldl (fun t p => t.setFld Pg.byp ⟨0x048, 4 + 2 * p, 2⟩ (s.policyOf p)) s

/-- A write of BYP_POLICY (R225): at the next boundary, or at once while the Windlass is STOPPED. -/
def State.policyWritten (s : State) : State :=
  if s.tstate = T.stopped then (s.forceNow (regKey Pg.byp 0x040)).syncPolicies else s

/-- BYP_POLICY_WRITE. -/
def execBypPolicyWrite (off : Nat) (v : Word) (s : State) : Result :=
  .next (((s.at off).write Pg.byp 0x040 v).policyWritten)

/-- A FORCE bit set engages its pair (Table BYP-2). -/
def State.forceWritten (s : State) : State :=
  [0, 1, 2, 3].foldl (fun t p => if t.bit Pg.byp ⟨0x04C, p, 1⟩ then t.engagePair Engage.forceReg p else t) s

/-- A write of BYP_CTL. -/
def execBypForceWrite (off : Nat) (v : Word) (s : State) : Result :=
  .next (((s.at off).write Pg.byp 0x04C v).forceWritten)

/-- BYP_FORCE_N goes low (Table BYP-2). -/
def execBypForceNLow (off : Nat) (s : State) : Result :=
  let s0 := s.at off
  .next (({ s0 with pins := { s0.pins with forceN := false } }).engageAll Engage.forcePin)

/-- BYP_FORCE_N rises: cause FORCE_PIN no longer holds (R822). -/
def execBypForceNHigh (off : Nat) (s : State) : Result :=
  let s0 := s.at off
  .next { s0 with pins := { s0.pins with forceN := true } }

/-- The main domain's heartbeat is lost (Table BYP-2), trigger 9 of the safe state. -/
def execHeartbeatLoss (off : Nat) (s : State) : Result :=
  let s0 := s.at off
  if s0.pins.mainReset then .next s0
  else
    let s1 := { s0 with pins := { s0.pins with hbLost := true } }
    let s2 := ((s1.setFld Pg.byp F.BYP_STATUS_HB_OK 0).incFld Pg.byp F.BYP_ENGAGES_b16).raiseIrq Pg.byp 2
    .next ((s2.engageAll Engage.hbLoss).safeEnter [Trig.hbLoss] none)

/-- Does a trigger of Table BYP-2 other than service hold for a pair (R223)? -/
def State.engageHolds (s : State) (p : Nat) : Bool :=
  s.sstate ≠ SState.normal || s.pins.hbLost || !s.pins.mainPg || !s.pins.forceN || !s.pins.resetN ||
  s.bit Pg.byp ⟨0x04C, p, 1⟩

end Sys2Proof.Machine
end

