-- ==== Sys2Proof/Machine/LinePorts.lean ====
section
/-!
DEFINITION. Line ports and the management side of their SecYs (spec/06): link, link faults and their
propagation, pairs entering and leaving service, security associations coming into use.
-/

set_option Elab.async false

namespace Sys2Proof.Machine

open Sys2Proof

/-- A port's own state. -/
def State.portAux (s : State) (q : Nat) : PortAux := FMap.getD s.ports q ⟨false, 0, 0, false, []⟩

/-- A port's own state set. -/
def State.setPortAux (s : State) (q : Nat) (x : PortAux) : State :=
  { s with ports := FMap.setC s.ports q x ⟨false, 0, 0, false, []⟩ }

/-- A port has link (R246). -/
def State.link (s : State) (q : Nat) : Bool := s.bit (Pg.lnp q) F.LNP_STATUS_LINK

/-- A port's transmit side is down (R247). -/
def State.txDown (s : State) (q : Nat) : Bool := s.bit (Pg.lnp q) F.LNP_STATUS_TX_DOWN

/-- A pair is in TAP mode, in force (R250). -/
def State.tapMode (s : State) (p : Nat) : Bool := s.inForce (Pg.lnp (2 * p)) F.LNP_PAIR_MODE ≠ 0

/-- LFP of a port's pair in force; 3 is treated as 0. -/
def State.lfp (s : State) (q : Nat) : Nat :=
  let v := s.inForce (Pg.lnp (2 * pairOf q)) F.LNP_PAIR_LFP
  if v = 3 then 0 else v

/-- LFP_HOLD of a port's pair in force; 0 is treated as 1. -/
def State.lfpHold (s : State) (q : Nat) : Nat := max 1 (s.inForce (Pg.lnp (2 * pairOf q)) F.LNP_PAIR_LFP_HOLD)

/-- What a port's RS sends in place of frames, or with them (R247, R249, R272): frames and Idle, Idle, Remote Fault, Local Fault
of propagation, or nothing. -/
inductive PortOutput where
  | data | idle | remoteFault | localFault | dark
  deriving DecidableEq, Repr

/-- What a port sends: propagation first (R272), then Clause 81's answer to its receive side. -/
def State.portOutput (s : State) (q : Nat) : PortOutput :=
  let p := Pg.lnp q
  if (s.portAux q).held then (if s.lfp q = 2 then .dark else .localFault)
  else if !s.link q || s.bit p F.LNP_STATUS_RX_LF then .remoteFault
  else if s.bit p F.LNP_STATUS_RX_RF then .idle
  else .data

/-- A port can send no frame: its transmit side is down, or propagation has taken the place of its content (R249).
Log: entry 118 (DESIGN CHOICE). -/
def State.txShut (s : State) (q : Nat) : Bool := s.txDown q || (s.portAux q).held

/-- An item that S11 would send on a port that can send none (R247, R252, R262, R364): a primary to the Sump, counted for the
port, or terminated in TAP mode; a copy refused; an injected frame not sent. -/
def State.spoutDown (s : State) (q : Nat) (it : Item) : State :=
  let i := txInst q
  match it.kind with
  | .primary =>
    if (s.frame it.frame).tap then (s.incFld (Pg.lnp q) F.LNP_TAP_TERM).release it.frame
    else (((s.incFld (Pg.lnp q) F.LNP_EGRESS_DOWN).raiseIrq (Pg.lnp q) 4).raiseIrq (Pg.stg i 11) 9).sumpItemOf i 11 Why.egressDown it
  | .copy _ => s.sumpItemOf i 11 Why.copyRefused it
  | .injected index cookie => s.injComplete index cookie false

/-- Everything S11 holds for a port, and the items with a fixed instant that wait for it (R271), as the transmit side goes down:
R247 empties the queues (R356, R364). Log: entry 42 (DEDUCED). -/
def State.emptyPort (s : State) (q : Nat) : State :=
  let i := txInst q
  let late := (s.itemsWaiting i 10).filter (fun e => e.1.port = q && e.1.fixed)
  let s1 := s.setItemsWaiting i 10 ((s.itemsWaiting i 10).filter (fun e => !(e.1.port = q && e.1.fixed)))
  let all := s1.primaries q ++ s1.copies q ++ late.map Prod.fst
  all.foldl (fun (t : State) it => t.spoutDown q it) (s1.setOut q [] [])

/-- TX_DOWN and TX_SEND of a port brought up to date (R247, R249); a port whose transmit side goes down is emptied. -/
def State.syncTx (s : State) (q : Nat) : State :=
  let p := Pg.lnp q
  let down := !s.link q || s.bit p F.LNP_STATUS_RX_LF || s.bit p F.LNP_STATUS_RX_RF
  let was := s.txDown q
  let s1 := s.setFld p F.LNP_STATUS_TX_DOWN (bitOf down)
  let send := if (s1.portAux q).held then (if s1.lfp q = 2 then 3 else 2) else if down then 1 else 0
  let s2 := s1.setFld p F.LNP_STATUS_TX_SEND send
  if down && !was then s2.emptyPort q else s2

/-- Propagation applied on a port (R249). -/
def State.holdPort (s : State) (q : Nat) : State :=
  if (s.portAux q).held then s
  else
    let s1 := s.setPortAux q { s.portAux q with held := true, heldAt := s.count }
    (((s1.incFld (Pg.lnp q) F.LNP_LINK_EVT_b16).raiseIrq (Pg.lnp q) 5).syncTx q).emptyPort q

/-- A port without link makes its partner show it (R249, R272): unless propagation is off, or propagation held the
port itself before this count. -/
def State.propagate (s : State) (q : Nat) : State :=
  let x := s.portAux q
  if s.lfp q = 0 || s.link q || (x.held && x.heldAt < s.count) then s else s.holdPort (otherPort q)

/-- Propagation removed from a port; held no longer, it shows a loss of its own to its partner (R249). -/
def State.unholdPort (s : State) (q : Nat) : State :=
  ((s.setPortAux q { s.portAux q with held := false }).syncTx q).propagate q

/-- A port's LINK falls (R275), with what its transmit side and its partner make of it. -/
def State.dropLink (s : State) (q : Nat) : State :=
  let p := Pg.lnp q
  if s.link q then
    let s1 := ((s.setFld p F.LNP_STATUS_LINK 0).transient p).incFld p F.LNP_LINK_EVT_LINK_LOSSES
    ((s1.raiseIrq p 0).syncTx q).propagate q
  else s

/-- A port loses a lock and with it its link (R246, R275): `part` is the lock lost, 1 block, 2 alignment, 3 RS-FEC. -/
def State.loseLink (s : State) (q part : Nat) (c : LossCause) : State :=
  ((s.setFld (Pg.lnp q) ⟨0x04C, part, 1⟩ 0).dropLink q).interruptLock q c

/-- LOS_ASSERT: a channel's received power falls below ASSERT (R203): its lane has lost its signal, and a line port its link.
A line port's lock is lost by LOS (R69, R234). -/
def execLosAssert (off : Nat) (e : Engine) (c : Channel) (power : Nat) (s : State) : Result :=
  let s0 := s.at off
  let p := Pg.ope e.val
  if s0.chServes e c && !s0.bit p (F.OPE_CH_STATUS_LOS c) && power < s0.inForce p F.OPE_LOS_THR_ASSERT then
    let s1 := (s0.setFld p (F.OPE_CH_STATUS_LOS c) 1).setFld p (F.OPE_CH_PWR_b0 c) power
    let s2 := ((s1.incFld p (F.OPE_CH_EVENTS_LOS c)).incFld p F.OPE_COUNTS_LOS_EVENTS).raiseIrq p 0
    let s3 := if s2.sig (laneOf e c) then s2.signalLoss (laneOf e c) else s2
    .next (if isLineEngine e then (s3.dropLink e).interruptLock e .los else s3.lanesFollow (laneOf e c))
  else .next s0

/-- LINK_LOSS: the PCS loses block or alignment lock, or the RS-FEC its lock, which counts with FEC enabled only (R246). -/
def execLinkLoss (off : Nat) (p : Port) (part : LinkPart) (s : State) : Result :=
  .next (match part with
    | .block => (s.at off).loseLink p.val 1 .pcsAlign
    | .align => (s.at off).loseLink p.val 2 .pcsAlign
    | .fec => if s.inForce (Pg.lnp p.val) F.LNP_CFG = 0 then s.at off else (s.at off).loseLink p.val 3 .fecAlign)

/-- LINK_UP: a port whose four lanes deliver bits (R150, R181) regains its locks (R246), with the rate it recovers, in 0.001 ppm
(R65). -/
def execLinkUp (off : Nat) (p : Port) (rate : Int) (s : State) : Result :=
  let s0 := s.at off
  let g := Pg.lnp p.val
  let q := p.val
  if s0.link q || !([0, 1, 2, 3].all (fun c => s0.carries (4 * q + c))) then .next s0
  else
    let s1 := ((s0.setFld g F.LNP_STATUS_BLOCK_LOCK 1).setFld g F.LNP_STATUS_ALIGN_LOCK 1).setFld g
      F.LNP_STATUS_FEC_LOCK (s0.inForce g F.LNP_CFG)
    let s2 := (s1.setFld g F.LNP_STATUS_LINK 1).setPortAux q { s1.portAux q with linkAt := s1.count }
    let s3 := (s2.raiseIrq g 1).syncTx q
    .next (if rate.natAbs ≤ 250000 then s3.beginLock q rate else s3)

/-- PROPAGATION_REMOVE: the partner has held link for LFP_HOLD turns at the last boundary (R249). -/
def execPropagationRemove (off : Nat) (p : Port) (s : State) : Result :=
  let s0 := s.at off
  let o := otherPort p.val
  .next (if (s0.portAux p.val).held && s0.link o && (s0.portAux o).linkAt + 65536 * s0.lfpHold p.val ≤ s0.turn * 65536 then
    s0.unholdPort p.val else s0)

/-- RX_FAULT: the RS receives Local Fault or Remote Fault (R247). -/
def execRxFault (off : Nat) (p : Port) (remote : Bool) (s : State) : Result :=
  let g := Pg.lnp p.val
  let s1 := (s.at off).setFld g (if remote then F.LNP_STATUS_RX_RF else F.LNP_STATUS_RX_LF) 1
  .next ((s1.raiseIrq g 2).syncTx p.val)

/-- RX_FAULT_END: neither sequence is received any more (R247). -/
def execRxFaultEnd (off : Nat) (p : Port) (s : State) : Result :=
  let g := Pg.lnp p.val
  .next ((((s.at off).setFld g F.LNP_STATUS_RX_LF 0).setFld g F.LNP_STATUS_RX_RF 0).syncTx p.val)

/-- A pair's LFP as it was in force: what a change of LNP_PAIR starts, changes or ends at its boundary (R249). -/
def State.lfpBoundary (s : State) (q old : Nat) : State :=
  if s.lfp q = old then s
  else if s.lfp q = 0 then s.unholdPort q
  else if old = 0 then (if s.link (otherPort q) then s else s.holdPort q)
  else s.syncTx q

/-- A FEC_EN change in force (R273): the port loses link, as an ADMIN loss, and its receive delay changes
(R264, Table MOD-3 I19). -/
def State.fecBoundary (s : State) (q old : Nat) : State :=
  let now := s.inForce (Pg.lnp q) F.LNP_CFG
  let s1 := s.syncDelay q
  if now = old then s1 else (s1.setFld (Pg.lnp q) ⟨0x04C, 1, 3⟩ 0).loseLink q 3 .admin

/-! ### Service (R56, R58, R223, R248) -/

/-- The units a pair's service asks for: both ports, the SecYs configured on them, every stage, the Windlass. -/
def State.serviceUnits (s : State) (p : Nat) : List Nat :=
  [Pg.lnp (2 * p), Pg.lnp (2 * p + 1), Pg.wdl] ++
  ([Pg.msc (2 * p), Pg.msc (2 * p + 1)].filter (fun g => s.inForce g F.MSC_CTL_ENABLE ≠ 0)) ++
  (List.range 12).map (Pg.stg 0) ++ (List.range 12).map (Pg.stg 1)

/-- A pair meets R56. -/
def State.serviceReady (s : State) (p : Nat) : Bool :=
  s.link (2 * p) && s.link (2 * p + 1) && !s.wdl.stopped && !s.pins.mainReset &&
  (s.serviceUnits p).all (fun g => s.unit g = uActive)

/-- A pair at a turn boundary: it enters service, with its release where nothing holds it (R56, R223); or a unit it
needs has left ACTIVE since the last boundary, `before`, and it leaves (Table BYP-2, cause 1). -/
def State.pairBoundary (before s : State) (p : Nat) : State :=
  if s.inService p then
    if (s.serviceUnits p).any (fun g => before.unitCopy g = uActive && s.unit g ≠ uActive) then
      s.engagePair Engage.notInService p
    else s
  else if s.serviceReady p && s.pins.island then
    if s.engaged p && s.engageHolds p then s
    else
      let s1 := s.setService p true
      let s2 := if s1.engaged p then (s1.setFld Pg.byp ⟨0x048, p, 1⟩ 0).raiseIrq Pg.byp 1 else s1
      let s2 := s2.milestone 6
      if [0, 1, 2, 3].all s2.inService then s2.milestone 7 else s2
  else s

/-! ### Security associations -/

/-- The SA slots of a SecY: the offset of each SA_CTL, transmit first (Table MSC-3). -/
def saCtlOffsets : List Nat :=
  (List.range 4).map (fun a => 0x100 + 32 * a) ++
  (List.range 8).flatMap (fun c => (List.range 4).map (fun a => 0x210 + 128 * c + 16 * a))

/-- The largest PN of the suite in force (R261). -/
def State.maxPn (s : State) (q : Nat) : Nat := if (s.portAux q).xpn then 2 ^ 64 - 1 else 2 ^ 32 - 1

/-- A PN register pair: its _LO half, with the _HI half where XPN is in force (R261). -/
def State.pn (s : State) (q off : Nat) : Nat :=
  let lo := s.fld (Pg.msc q) ⟨off, 0, 32⟩
  if (s.portAux q).xpn then lo + 2 ^ 32 * s.fld (Pg.msc q) ⟨off + 4, 0, 32⟩ else lo

/-- A PN register pair set; without XPN the _HI half keeps its value. -/
def State.setPn (s : State) (q off v : Nat) : State :=
  let s1 := s.setFld (Pg.msc q) ⟨off, 0, 32⟩ v
  if (s.portAux q).xpn then s1.setFld (Pg.msc q) ⟨off + 4, 0, 32⟩ (v / 2 ^ 32) else s1

/-- An SA is out of use, in force and as written (R261, R117). -/
def State.saIdle (s : State) (q ctl : Nat) : Bool :=
  s.fld (Pg.msc q) ⟨ctl, 0, 1⟩ = 0 && s.inForce (Pg.msc q) ⟨ctl, 0, 1⟩ = 0

/-- The SA_CTL whose packet number stands at an offset, for TX_SA_NPN and RX_SA_LPN. -/
def pnCtl (off : Nat) : Option Nat :=
  if 0x100 ≤ off && off < 0x180 && (off % 32 = 4 || off % 32 = 8) then some (off / 32 * 32)
  else if 0x200 ≤ off && off < 0x600 && 0x10 ≤ off % 128 && off % 128 < 0x50 && (off % 16 = 4 || off % 16 = 8) then
    some (off / 16 * 16)
  else none

/-- A write of TX_SA_NPN or RX_SA_LPN (R261): ignored with SA_BUSY while the SA is in use; accepted, it clears
EXHAUSTED or LPN_OVER. -/
def State.writePn (s : State) (q off ctl : Nat) (w : State → State) : State :=
  if s.saIdle q ctl then
    let s0 := if ctl < 0x200 then s.setPortAux q { s.portAux q with thr := (s.portAux q).thr.filter (· ≠ (ctl - 0x100) / 32) } else s
    let s1 := (w s0).setFld (Pg.msc q) ⟨ctl, 2, 1⟩ 0
    if FMap.get? s1.force (regKey (Pg.msc q) off) = none then s1 else s1.forceNow (regKey (Pg.msc q) off)
  else s.raiseIrq (Pg.msc q) 3

/-- SA_PN_WRITE: `tx` chooses TX_SA_NPN(a) or RX_SA_LPN(c, a), `high` its _HI half. -/
def execSaPnWrite (off : Nat) (p : Port) (tx : Bool) (c : Fin 8) (a : Fin 4) (high : Bool) (v : Word) (s : State) : Result :=
  let ctl := if tx then 0x100 + 32 * a.val else 0x210 + 128 * c.val + 16 * a.val
  let o := ctl + (if high then 8 else 4)
  .next ((s.at off).onPage (Pg.msc p.val) o (fun u => u.writePn p.val o ctl (fun t => t.write (Pg.msc p.val) o v)))

/-- A field of an SA's control put to a value at once, in force too, and in what a late write keeps for the next boundary. -/
def State.setSaFld (s : State) (q : Nat) (f : Fld) (v : Nat) : State :=
  let k := regKey (Pg.msc q) f.off
  let put := fun (m : FMap Word) => FMap.mapKV m (fun j x => if j = k then x.withField f.lo f.w v else x)
  let w := (s.regInForce k).withField f.lo f.w v
  { (s.setFld (Pg.msc q) f v) with force := FMap.setC s.force k w (regReset k), late := put s.late, held := put s.held }

/-- A written IN_USE is taken only with a valid key (R259, R269). -/
def State.takeSa (s : State) (q ctl : Nat) : State :=
  if s.inForce (Pg.msc q) ⟨ctl, 0, 1⟩ = 1 && s.inForce (Pg.msc q) ⟨ctl, 1, 1⟩ = 0 then
    (s.setSaFld q ⟨ctl, 0, 1⟩ 0).raiseIrq (Pg.msc q) 2
  else s

/-- A key slot of a SecY cleared, with its tag (R260, R276). -/
def State.clearSlot (s : State) (q ctl : Nat) : State :=
  let n := if ctl < 0x200 then (ctl - 0x100) / 32 else 4 + 4 * ((ctl - 0x200) / 128) + (ctl % 128 - 0x10) / 16
  let s1 := (s.setSaFld q ⟨ctl, 1, 1⟩ 0).setSaFld q ⟨ctl, 16, 16⟩ 0
  { s1 with saks := FMap.erase s1.saks (64 * q + n) }

/-- A change of XPN taken (R260): every slot cleared, every packet number back to 1. Log: entry 27 (DEDUCED). -/
def State.changeXpn (s : State) (q : Nat) (v : Bool) : State :=
  let s1 := saCtlOffsets.foldl (fun t c =>
    (((t.clearSlot q c).setSaFld q ⟨c, 2, 1⟩ 0).setFld (Pg.msc q) ⟨c + 4, 0, 32⟩ 1).setFld (Pg.msc q) ⟨c + 8, 0, 32⟩ 0) s
  s1.setPortAux q { s1.portAux q with xpn := v, thr := [] }

/-- The XPN write committed at this boundary is judged (R260). Log: entry 27 (DEDUCED). -/
def State.judgeXpn (s : State) (q : Nat) : State :=
  let want := s.inForce (Pg.msc q) F.MSC_CTL_XPN = 1
  if want = (s.portAux q).xpn then s
  else if saCtlOffsets.all (s.saIdle q) then s.changeXpn q want
  else (s.recordFault (fullPart (Pg.msc q) 0x040) Cause.rsvdSet).raiseIrq (Pg.msc q) 3

/-- ENC_AN_NOW follows a written ENC_AN whose SA is in use; another keeps the AN in force, with TX_AN_REFUSED (R259).
Log: entry 27 (DEDUCED). -/
def State.takeEncAn (s : State) (q : Nat) : State :=
  let an := s.inForce (Pg.msc q) F.MSC_TX_AN_ENC_AN
  if s.inForce (Pg.msc q) ⟨0x100 + 32 * an, 0, 1⟩ = 1 then s.setFld (Pg.msc q) F.MSC_TX_AN_ENC_AN_NOW an
  else s.raiseIrq (Pg.msc q) 4

/-- A SecY's part of a turn boundary, `due` being the registers whose writes it commits. -/
def State.mscBoundary (s : State) (due : List Nat) (q : Nat) : State :=
  let s1 := saCtlOffsets.foldl (fun t c => if regKey (Pg.msc q) c ∈ due then t.takeSa q c else t) s
  let s2 := if regKey (Pg.msc q) 0x050 ∈ due then s1.takeEncAn q else s1
  if regKey (Pg.msc q) 0x040 ∈ due then s2.judgeXpn q else s2

/-- Zeroization of the SecYs (R276). -/
def State.zeroizeKeys (s : State) : State :=
  let s1 := (List.range 8).foldl (fun t q =>
    (saCtlOffsets.foldl (fun u c => (u.clearSlot q c).setSaFld q ⟨c, 0, 1⟩ 0) t).raiseIrq (Pg.msc q) 6) s
  { s1 with saks := [] }

end Sys2Proof.Machine
end

