-- ==== Sys2Proof/Machine/Intake.lean ====
section
/-!
DEFINITION. Stages S0 to S2: intake (R243, R280 to R282), unseal (R253 to R257), parse (R287 to R289, R910,
R263).
-/

set_option Elab.async false

namespace Sys2Proof.Machine

open Sys2Proof

/-! ### S0 -/

/-- The error reason of a received frame, the first of R243's list; `len` counts the FCS. -/
def rxError (maxLen len : Nat) (trunc code badFcs : Bool) : Option Nat :=
  if trunc then some Why.rxTrunc
  else if code then some Why.rxCode
  else if len < 64 then some Why.rxRunt
  else if maxLen < len then some Why.rxOversize
  else if badFcs then some Why.rxFcs
  else none

/-- The LNP counter of a receive error. -/
def rxErrorField (why : Nat) : Fld :=
  if why = Why.rxTrunc then F.LNP_RX_CODE_ERR_RX_TRUNC
  else if why = Why.rxCode then F.LNP_RX_CODE_ERR_RX_CODE
  else if why = Why.rxRunt then F.LNP_RX_LEN_ERR_RX_RUNT
  else if why = Why.rxOversize then F.LNP_RX_LEN_ERR_RX_OVERSIZE
  else F.LNP_RX_FCS_ERR

/-- HOLD_BUDGET of a pair in force; below 4,096 it is treated as 4,096. -/
def State.holdBudget (s : State) (p : Nat) : Nat := max 4096 (s.inForce (Pg.stg 0 8) (F.STG_PAIR_HOLD p))

/-- LNP_MAX_LEN of a port in force (R39), clamped. -/
def State.maxLen (s : State) (q : Nat) : Nat := max 1518 (min 9600 (s.inForce (Pg.lnp q) F.LNP_MAX_LEN))

/-- PAUSE and PFC frames are counted as S0 takes them, also one dropped later (R245). Log: entry 119 (DESIGN CHOICE). -/
def State.countMacControl (s : State) (port : Nat) (b : List Nat) : State :=
  if beAt b 12 4 = 0x88080001 then s.incFld (Pg.lnp port) F.LNP_RX_MAC_CTL_PAUSE
  else if beAt b 12 4 = 0x88080101 then s.incFld (Pg.lnp port) F.LNP_RX_MAC_CTL_PFC
  else s

/-- What S0 latches for a pair's frames, as it is in force (R28, R250). -/
def State.latched (s : State) (p : Nat) : Latched :=
  ⟨s.holdBudget p, s.inForce (Pg.stg 0 8) (F.STG_PAIR_POL_UNSCORED p), s.inForce (Pg.stg 0 8) (F.STG_PAIR_POL_COPY_GROUP p),
   s.inForce (Pg.stg 0 8) (F.STG_PAIR_POL_COPY_WHEN p), s.tapMode p⟩

/-- What a frame with a stamp latches: a frame stamped before the last turn boundary takes the values in force until then
(R46, R250). -/
def State.latchedAt (s : State) (p stamp : Nat) : Latched :=
  if stamp < s.turn * 65536 then FMap.getD s.pipe.ended p (s.latched p) else s.latched p

/-- The descriptor S0 fills (Table STG-1): stamp, sequence, latched policies (R28, R46, R250), timestamp. -/
def State.descriptor (s : State) (port stamp ti : Nat) (b : List Nat) (cells : Nat × Nat) : Frame :=
  let x := s.latchedAt (pairOf port) stamp
  { Frame.blank with
    inst := port % 2, port := port, pseq := FMap.getD s.pipe.pseq port 0, stamp := stamp, ti := ti, bytes := b,
    len := b.length + 4, cells := cells, holdBudget := x.hold, unscoredPol := x.unscored, group := x.group,
    copyWhen := x.copyWhen, tap := x.tap }

/-- RS-FEC codewords counted (R241, Table LNP-6): those corrected, and the uncorrectable, whose blocks are marked. -/
def State.countFec (s : State) (q corr uncorr : Nat) : State :=
  if s.inForce (Pg.lnp q) F.LNP_CFG = 0 then s
  else
    let s1 := (s.incFld (Pg.lnp q) F.LNP_FEC_CORR corr).incFld (Pg.lnp q) F.LNP_FEC_UNCORR uncorr
    if uncorr = 0 then s1 else s1.raiseIrq (Pg.lnp q) 3

/-- A port's intake queue has room: 512 descriptors (R283). -/
def State.intakeOpen (s : State) (q : Nat) : Bool :=
  ((s.waiting (q % 2) 0).filter (fun e => (s.frame e.1).port = q)).length < 512

/-- The transparent clock has reached an instant (R264). -/
def State.ptpReach (s : State) (t : Nat) : State :=
  let k := regKey Pg.ptp 0x048
  if s.wide k < t then
    { (s.setReg k (BitVec.ofNat 32 t)) with wideHi := FMap.setC s.wideHi k (t / 2 ^ 32 % 2 ^ 32) 0 }
  else s

/-- INTAKE: a frame's last bytes have arrived on a port in service, `dur` blk after its start control block. `b` are
its bytes from the destination address to the byte before the FCS; `corr` and `uncorr` are the codewords that the RS-FEC has
corrected and could not correct since the port's last frame, this one included, and `code` says that the frame holds an errored
block, by its code or marked by the RS-FEC (R241, R243). A port takes frames from lanes that carry (R181). On a pair engaged in
OPEN the island passes the frame on (R219).
Log: entry 11 (DESIGN CHOICE), entry 24 (DEDUCED), entry 120 (DESIGN CHOICE). -/
def execFrameIntake (off dur : Nat) (p : Port) (b : List (BitVec 8)) (trunc code badFcs : Bool) (ti corr uncorr : Nat)
    (s : State) : Result :=
  let q := p.val
  let i := q % 2
  if !(s.at off).inService (pairOf q) || !(s.at off).link q || (s.at off).pins.mainReset ||
      !([0, 1, 2, 3].all (fun c => s.carries (4 * q + c))) then
    .next (if (s.at off).retimes (otherPort q) then
        (s.at off).emit (.retimed (otherPort q) (b.map (fun x => x.toNat)) trunc code badFcs)
      else s.at off)
  else
    let s0 := ((s.at off).countFec q corr uncorr).ptpReach ti
    let bytes := b.map (fun x => x.toNat)
    let len := bytes.length + 4
    let stamp := s0.count - dur
    let f0 := s0.descriptor q stamp ti bytes (0, 0)
    let s1 := (s0.incWide (Pg.lnp q) F.LNP_RX_FRAMES_LO 1).incWide (Pg.lnp q) F.LNP_RX_OCTETS_LO len
    let s2 := (s1.pipeMap (fun x => { x with pseq := FMap.set x.pseq q ((f0.pseq + 1) % 2 ^ 32) })).incFld (Pg.stg i 0) F.STG_IN
    match s2.takeCells i q ((len + 255) / 256), s2.intakeOpen q with
    | some cells, true =>
      let id := s2.pipe.nextId
      let s3 := ((s2.pipeMap (fun x => { x with nextId := id + 1 })).setFrame id { f0 with cells := cells }).syncCells i
      match rxError (s3.maxLen q) len trunc code badFcs with
      | some why => .next ((s3.incFld (Pg.lnp q) (rxErrorField why)).sumpFrame i 0 why id)
      | none => .next ((s3.countMacControl q bytes).handOn i 0 id)
    | _, _ =>
      let s3 := (s2.incFld (Pg.stg i 0) (F.STG_S0_FULL (q / 2))).raiseIrq (Pg.stg i 0) 8
      .next (((s3.incFld (Pg.stg i 0) F.STG_SUMP).raiseIrq (Pg.stg i 0) 0).sumpItem Why.intakeFull none f0 bytes)

/-! ### S1 -/

/-- The SecTAG of a frame: TCI and AN, short length, PN, SCI where it has one, length. -/
structure SecTag where
  tci : Nat
  an  : Nat
  sl  : Nat
  pn  : Nat
  sci : Option Nat
  len : Nat
  deriving DecidableEq, Repr

/-- Bits of the TCI: V, ES, SC, SCB, E, C from bit 5 down. -/
def SecTag.v (t : SecTag) : Bool := t.tci / 32 % 2 = 1
def SecTag.es (t : SecTag) : Bool := t.tci / 16 % 2 = 1
def SecTag.sc (t : SecTag) : Bool := t.tci / 8 % 2 = 1
def SecTag.scb (t : SecTag) : Bool := t.tci / 4 % 2 = 1
def SecTag.e (t : SecTag) : Bool := t.tci / 2 % 2 = 1

/-- The SecTAG of a frame, where its EtherType is that of MACsec. -/
def secTag (b : List Nat) : Option SecTag :=
  if beAt b 12 2 = 0x88E5 then
    let x := beAt b 14 1
    let sc := x / 32 % 2 = 1
    some ⟨x / 4, x % 4, beAt b 15 1, beAt b 16 4, if sc then some (beAt b 20 8) else none, if sc then 16 else 8⟩
  else none

/-- Bytes of secure data between the SecTAG and the ICV, padding included. Log: entry 28 (PRESUMED). -/
def secData (b : List Nat) (t : SecTag) : Nat := b.length - 12 - t.len - 16

/-- Bytes of user data a SecTAG announces: its short length, or, at 0, all the secure data. -/
def SecTag.data (b : List Nat) (t : SecTag) : Nat := if t.sl = 0 then secData b t else t.sl

/-- A SecTAG that passes the IEEE 802.1AE tag validation (Table MSC-1): the short length agrees with the frame, which
may be padded to 64 B. Log: entry 28 (PRESUMED). -/
def tagValid (b : List Nat) (t : SecTag) : Bool :=
  !t.v && !(t.es && t.sc) && !(t.sc && t.scb) && 12 + t.len + 16 ≤ b.length &&
  (if t.sl = 0 then 48 ≤ secData b t
   else t.sl < 48 && (secData b t = t.sl || (b.length = 60 && t.sl ≤ secData b t)))

/-- The SCI of a receive SC in force. -/
def State.rxSci (s : State) (q c : Nat) : Nat :=
  s.inForce (Pg.msc q) (F.MSC_RX_SC_SCI_LO c) + 2 ^ 32 * s.inForce (Pg.msc q) (F.MSC_RX_SC_SCI_HI c)

/-- The receive SC a SecTAG selects (R254), by the values in force (R39). -/
def State.selectSc (s : State) (q : Nat) (b : List Nat) (t : SecTag) : Option Nat :=
  let valid := (List.range 8).filter (fun c => s.inForce (Pg.msc q) (F.MSC_RX_SC_CTL c) = 1)
  match t.sci with
  | some x => valid.find? (fun c => s.rxSci q c = x)
  | none =>
    if t.es then valid.find? (fun c => s.rxSci q c = beAt b 6 6 * 65536 + 1)
    else match valid with
      | [c] => some c
      | _ => none

/-- The packet number of a frame: with XPN its upper half is recovered from the lowest acceptable PN.
Log: entry 28 (PRESUMED). -/
def recoverPn (xpn : Bool) (lpn pn : Nat) : Nat :=
  if xpn then
    let hi := lpn / 2 ^ 32
    (if 2 ^ 31 ≤ lpn % 2 ^ 32 && pn < 2 ^ 31 then hi + 1 else hi) * 2 ^ 32 + pn
  else pn

/-- CONF_OFFSET in bytes; 3 is treated as 0. -/
def State.confOffset (s : State) (q : Nat) : Nat :=
  match s.inForce (Pg.msc q) F.MSC_CTL_CONF_OFFSET with
  | 1 => 30
  | 2 => 50
  | _ => 0

/-- The initialisation vector of a frame: SCI and PN, or SSCI and 64-bit PN against the salt (IEEE 802.1AE). -/
def gcmIv (xpn : Bool) (sci ssci salt pn : Nat) : Nat :=
  if xpn then (ssci * 2 ^ 64 + pn) ^^^ salt else sci * 2 ^ 32 + pn % 2 ^ 32

/-- The key and salt of an SA slot. -/
def State.sak (s : State) (q n : Nat) : Nat × Nat := FMap.getD s.saks (64 * q + n) (0, 0)

/-- The frame as it stands after its ICV passes, SecTAG and ICV removed; none where the ICV fails. -/
def State.openFrame (s : State) (q c : Nat) (b : List Nat) (t : SecTag) (pn : Nat) : Option (List Nat) :=
  let n := t.data b
  let body := sliceOf b (12 + t.len) n
  let icv := sliceOf b (12 + t.len + n) 16
  let clear := if t.e then min n (s.confOffset q) else n
  let k := s.sak q (4 + 4 * c + t.an)
  let iv := gcmIv (s.portAux q).xpn (s.rxSci q c) (s.inForce (Pg.msc q) (F.MSC_RX_SA_SSCI c t.an)) k.2 pn
  (Config.gcmOpen k.1 iv (b.take (12 + t.len) ++ body.take clear) (body.drop clear) icv).map (fun x =>
    b.take 12 ++ body.take clear ++ x)

/-- The frame with its SecTAG and ICV, and the padding behind them, removed and its content as it stands (R256). -/
def stripTag (b : List Nat) (t : SecTag) : List Nat := b.take 12 ++ sliceOf b (12 + t.len) (t.data b)

/-- What S1 does with a frame: delivers these bytes, or hands it to the Sump. -/
inductive Unsealed where
  | pass (bytes : List Nat)
  | discard (why : Nat)
  deriving DecidableEq, Repr

/-- The lowest acceptable PN moved on after a frame that passed (R256). -/
def State.advanceLpn (s : State) (q c an pn : Nat) : State :=
  let o := 0x214 + 128 * c + 16 * an
  let want := max (s.pn q o) (pn + 1 - s.inForce (Pg.msc q) F.MSC_REPLAY_WIN)
  if s.maxPn q < want then (s.setPn q o (s.maxPn q)).setFld (Pg.msc q) (F.MSC_RX_SA_CTL_LPN_OVER c an) 1
  else s.setPn q o want

/-- Table MSC-1 for a frame on a port whose SecY has ENABLE at 1. -/
def State.unsealBy (s : State) (q : Nat) (b : List Nat) : Unsealed × State :=
  let g := Pg.msc q
  let mode := s.inForce g F.MSC_CTL_VALIDATE
  let strict := 2 ≤ mode
  if mode = 0 then (.pass b, s.incFld g F.MSC_IN_UNCHECKED)
  else match secTag b with
    | none =>
      let s1 := s.incFld g F.MSC_IN_UNTAGGED
      (if strict then .discard Why.untagged else .pass b, s1)
    | some t =>
      if !tagValid b t then (.discard Why.invalid, (s.incFld g F.MSC_IN_NOT_VALID).raiseIrq g 5)
      else
        match (s.selectSc q b t).filter (fun c => s.inForce g (F.MSC_RX_SA_CTL_IN_USE c t.an) = 1) with
        | none =>
          (if strict || t.e then .discard Why.noSa else .pass (stripTag b t), s.incFld g F.MSC_IN_NO_SA)
        | some c =>
          let lpn := s.pn q (0x214 + 128 * c + 16 * t.an)
          let pn := recoverPn (s.portAux q).xpn lpn t.pn
          if s.inForce g F.MSC_CTL_REPLAY_PROTECT = 1 &&
              (pn < lpn || s.bit g (F.MSC_RX_SA_CTL_LPN_OVER c t.an)) then
            (.discard Why.late, s.incFld g F.MSC_IN_LATE)
          else match s.openFrame q c b t pn with
            | some x => (.pass x, (s.incFld g F.MSC_IN_OK).advanceLpn q c t.an pn)
            | none =>
              if strict || t.e then (.discard Why.invalid, (s.incFld g F.MSC_IN_NOT_VALID).raiseIrq g 5)
              else (.pass (stripTag b t), (s.incFld g F.MSC_IN_INVALID).raiseIrq g 5)

/-- UNSEAL: S1 takes the head of its queue (R256, R257). -/
def execUnsealFrame (off : Nat) (i : Pipe) (s : State) : Result :=
  let s0 := s.at off
  match s0.queue i 1 with
  | [] => .next s0
  | id :: _ =>
    let f := s0.frame id
    let q := f.port
    let s1 := s0.takeHead i 1
    if s0.inForce (Pg.msc q) F.MSC_CTL_ENABLE = 0 then .next (s1.handOn i 1 id)
    else if s0.inForce (Pg.msc q) F.MSC_CTL_EAPOL_TERM = 1 && !f.tap && beAt f.bytes 12 2 = 0x888E then
      .next ((s1.setFrame id { f with uncontrolled := true }).handOn i 1 id)
    else match s1.unsealBy q f.bytes with
      | (.discard why, s2) => .next (s2.sumpFrame i 1 why id)
      | (.pass b, s2) => .next ((s2.setFrame id { f with bytes := b, len := b.length + 4 }).handOn i 1 id)

/-! ### S2 -/

/-- The flags of R910. -/
def Flag.trunc : Nat := 1
def Flag.deep : Nat := 2
def Flag.fragFirst : Nat := 4
def Flag.fragLater : Nat := 8
def Flag.ipOpt : Nat := 16
def Flag.badCsum : Nat := 32
def Flag.vlan3 : Nat := 64
def Flag.ext5 : Nat := 128
def Flag.nonIp : Nat := 256

/-- A parse with a flag set. -/
def Parse.flag (p : Parse) (f : Nat) : Parse := { p with flags := p.flags ||| f }

/-- A header of `n` bytes at `o` lies in the frame and in its first 256 B. -/
def headerFits (b : List Nat) (o n : Nat) : Bool := o + n ≤ b.length && o + n ≤ 256

/-- The flag of a header that does not fit (Table STG-2). -/
def shortFlag (b : List Nat) : Nat := if b.length ≤ 256 then Flag.trunc else Flag.deep

/-- The ones' complement sum of 16-bit words. -/
def onesSum (l : List Nat) : Nat :=
  let s := (List.range ((l.length + 1) / 2)).foldl (fun a i => a + beNat ((sliceOf l (2 * i) 2 ++ [0]).take 2)) 0
  let t := s % 65536 + s / 65536
  t % 65536 + t / 65536

/-- The L4 header at `o` (R287): `ipLeft` is the payload the IP header gives. -/
def parseL4 (b : List Nat) (p : Parse) (o ipLeft : Nat) : Parse :=
  let fin := fun (x : Parse) (h : Nat) =>
    { x with l4 := true, pay := o + h, payLen := min (ipLeft - h) (b.length - (o + h)) }
  if p.proto = 6 then
    let h := 4 * (beAt b (o + 12) 1 / 16)
    if headerFits b o 13 && h < 20 then p
    else if !headerFits b o 20 then p.flag (shortFlag b)
    else
      if !headerFits b o h then p.flag (shortFlag b)
      else fin { p with sport := beAt b o 2, dport := beAt b (o + 2) 2, seq := beAt b (o + 4) 4,
                        tcpFlags := beAt b (o + 13) 1, window := beAt b (o + 14) 2 } h
  else if p.proto = 17 then
    if !headerFits b o 8 then p.flag (shortFlag b)
    else fin { p with sport := beAt b o 2, dport := beAt b (o + 2) 2, udp := some o } 8
  else if p.proto = 1 || p.proto = 58 then
    if !headerFits b o 8 then p.flag (shortFlag b) else fin p 8
  else p

/-- An IPv6 extension header of Table STG-2. -/
def isExt (n : Nat) : Bool := n = 0 || n = 43 || n = 44 || n = 60

/-- The extension headers of an IPv6 frame from `o` on, at most `n` more (R287, R288). -/
def parseExt (b : List Nat) (p : Parse) (o ipLeft : Nat) : Nat → Parse
  | 0 => if isExt p.proto then p.flag Flag.ext5 else parseL4 b p o ipLeft
  | n + 1 =>
    if !isExt p.proto then parseL4 b p o ipLeft
    else if !headerFits b o 8 then p.flag (shortFlag b)
    else
      let h := if p.proto = 44 then 8 else 8 * (beAt b (o + 1) 1 + 1)
      if !headerFits b o h then p.flag (shortFlag b)
      else
        let q := { p.flag Flag.ipOpt with proto := beAt b o 1 }
        let fo := beAt b (o + 2) 2
        if p.proto = 44 && fo / 8 ≠ 0 then q.flag Flag.fragLater
        else parseExt b (if p.proto = 44 && fo % 2 = 1 then q.flag Flag.fragFirst else q) (o + h) (ipLeft - h) n

/-- The L3 header at `o`. -/
def parseL3 (b : List Nat) (p : Parse) (type o : Nat) : Parse :=
  if type = 0x0800 then
    let h := 4 * (beAt b o 1 % 16)
    if headerFits b o 1 && (beAt b o 1 / 16 ≠ 4 || h < 20) then p.flag Flag.nonIp
    else if !headerFits b o 20 then p.flag (shortFlag b)
    else
      if !headerFits b o h then p.flag (shortFlag b)
      else
        let fo := beAt b (o + 6) 2
        let q : Parse := { p with
          l3 := 4, l3off := o, src := 0xFFFF * 2 ^ 32 + beAt b (o + 12) 4, dst := 0xFFFF * 2 ^ 32 + beAt b (o + 16) 4,
          proto := beAt b (o + 9) 1, ttl := beAt b (o + 8) 1, dscp := beAt b (o + 1) 1 / 4 }
        let q1 := if 20 < h then q.flag Flag.ipOpt else q
        let q2 := if onesSum (sliceOf b o h) ≠ 0xFFFF then q1.flag Flag.badCsum else q1
        if fo % 8192 ≠ 0 then q2.flag Flag.fragLater
        else
          let q3 := if fo / 8192 % 2 = 1 then q2.flag Flag.fragFirst else q2
          parseL4 b q3 (o + h) (beAt b (o + 2) 2 - h)
  else if type = 0x86DD then
    if !headerFits b o 40 then
      (if headerFits b o 1 && beAt b o 1 / 16 ≠ 6 then p.flag Flag.nonIp else p.flag (shortFlag b))
    else if beAt b o 1 / 16 ≠ 6 then p.flag Flag.nonIp
    else
      parseExt b { p with
        l3 := 6, l3off := o, src := beAt b (o + 8) 16, dst := beAt b (o + 24) 16, proto := beAt b (o + 6) 1,
        ttl := beAt b (o + 7) 1, dscp := beAt b o 2 / 64 % 64 } (o + 40) (beAt b (o + 4) 2) 4
  else p.flag Flag.nonIp

/-- A VLAN tag protocol identifier (Table STG-2). -/
def isTpid (tpid t : Nat) : Bool := t = 0x8100 || t = 0x88A8 || t = tpid

/-- The L2 headers from the EtherType at `o` on, with at most `n` more VLAN tags. -/
def parseL2 (tpid : Nat) (b : List Nat) : Nat → Parse → Nat → Parse
  | 0, p, o =>
    if !headerFits b o 2 then p.flag (Flag.nonIp ||| shortFlag b)
    else if isTpid tpid (beAt b o 2) then p.flag (Flag.nonIp ||| Flag.vlan3)
    else parseL3 b p (beAt b o 2) (o + 2)
  | n + 1, p, o =>
    if !headerFits b o 2 then p.flag (Flag.nonIp ||| shortFlag b)
    else if isTpid tpid (beAt b o 2) then
      if !headerFits b o 4 then p.flag (Flag.nonIp ||| shortFlag b)
      else parseL2 tpid b n { p with vlan := some (p.vlan.getD (beAt b (o + 2) 2)) } (o + 4)
    else parseL3 b p (beAt b o 2) (o + 2)

/-- S2's parse of a frame. -/
def parseBytes (tpid : Nat) (b : List Nat) : Parse := parseL2 tpid b 2 Parse.none 12

/-- Where the EtherType after the VLAN tags stands. -/
def typeOffset (tpid : Nat) (b : List Nat) : Nat :=
  if isTpid tpid (beAt b 12 2) then (if isTpid tpid (beAt b 16 2) then 20 else 16) else 12

/-- Where a PTP message starts, for the transports enabled (R263). -/
def State.ptpOffset (s : State) (b : List Nat) (p : Parse) (tpid : Nat) : Option Nat :=
  let o := typeOffset tpid b
  if beAt b o 2 = 0x88F7 then (if s.inForce Pg.ptp F.PTP_CTL_L2_EN = 1 then some (o + 2) else none)
  else if p.udp.isSome && p.l4 && p.dport = 319 then
    (if (p.l3 = 4 && s.inForce Pg.ptp F.PTP_CTL_UDP4_EN = 1) || (p.l3 = 6 && s.inForce Pg.ptp F.PTP_CTL_UDP6_EN = 1) then
      some p.pay else none)
  else none

/-- The transparent clock's recognition (R263): the offset of an event message, or a message counted unsupported. -/
def State.ptpParse (s : State) (f : Frame) (p : Parse) (tpid : Nat) : Option Nat × State :=
  if s.inForce Pg.ptp F.PTP_CTL_TC_EN = 0 || (s.inForce Pg.ptp F.PTP_CTL_PORT_EN >>> f.port) % 2 = 0 then (none, s)
  else match s.ptpOffset f.bytes p tpid with
    | none => (none, s)
    | some o =>
      if !headerFits f.bytes o 34 then (none, s)
      else if beAt f.bytes (o + 1) 1 % 16 ≠ 2 then (none, (s.incFld Pg.ptp F.PTP_UNSUPPORTED).raiseIrq Pg.ptp 1)
      else if beAt f.bytes o 1 % 16 < 4 then (some o, s)
      else (none, s)

/-- The counters of S2 for a frame's flags (Table STG-12). -/
def State.countFlags (s : State) (i flags : Nat) : State :=
  let p := Pg.stg i 2
  let on := fun (t : State) (m : Nat) (f : Fld) => if flags &&& m ≠ 0 then t.incFld p f else t
  on (on (on (on (on s Flag.deep F.STG_S2_DEEP_b0) Flag.trunc F.STG_S2_DEEP_b16) Flag.fragFirst F.STG_S2_FRAG_FRAG_FIRST)
    Flag.fragLater F.STG_S2_FRAG_FRAG_LATER) Flag.badCsum F.STG_S2_L3CSUM

/-- PARSE: S2 takes the head of its queue; the frame is offered at FT1 as it leaves (R310). -/
def execParseFrame (off : Nat) (i : Pipe) (s : State) : Result :=
  let s0 := s.at off
  match s0.queue i 2 with
  | [] => .next s0
  | id :: _ =>
    let f := s0.frame id
    let tpid := s0.inForce (Pg.stg i 2) F.STG_S2_TPID
    let p := parseBytes tpid f.bytes
    match (s0.takeHead i 2).ptpParse f p tpid with
    | (o, s1) =>
      let s2 := (s1.setFrame id { f with parse := { p with ptp := o } }).countFlags i p.flags
      .next ((s2.offer 0 id).handOn i 2 id)

/-! ### The flow key (R289, R290) -/

/-- The canonical key of a frame, 40 B as a number; none for a frame without a recognised L3 header. -/
def flowKey (f : Frame) : Option Nat :=
  let p := f.parse
  if p.l3 = 0 then none
  else
    let a := p.src * 65536 + (if p.l4 then p.sport else 0)
    let b := p.dst * 65536 + (if p.l4 then p.dport else 0)
    let lo := min a b
    let hi := max a b
    let vid := match p.vlan with
      | some v => v % 4096
      | none => 0
    some (beNat (beBytes 16 (lo / 65536) ++ beBytes 16 (hi / 65536) ++ beBytes 2 (lo % 65536) ++ beBytes 2 (hi % 65536) ++
      [p.proto, pairOf f.port + 4 * bitOf p.vlan.isSome] ++ beBytes 2 vid))

/-- The hash of a key. -/
def keyHash (key : Nat) : Nat := crc32c (beBytes 40 key)

end Sys2Proof.Machine
end

