-- ==== Sys2Proof/Machine/StreamOps.lean ====
section
/-!
DEFINITION. TCP streams as S3 to S5 share them: their reassembly cells (R298), the windows and the close of an object (R303, R304),
the end of a record's streams.
-/

set_option Elab.async false

namespace Sys2Proof.Machine

open Sys2Proof

/-- The handle of a cached record (R290, R323). -/
def handleOf (idx : Nat) (e : CacheEntry) : Nat :=
  match e.slot with
  | some slot => slot + 2 ^ 28 * e.body.gen
  | none => 2 ^ 31 + idx

/-- A stream's direction, by handle. -/
def strmKey (h d : Nat) : Nat := 2 * h + d

/-- A stream. -/
def State.strm? (s : State) (h d : Nat) : Option Strm := FMap.get? s.pipe.streams (strmKey h d)

/-- A stream set. -/
def State.setStrm (s : State) (h d : Nat) (x : Strm) : State :=
  s.pipeMap (fun p => { p with streams := FMap.set p.streams (strmKey h d) x })

/-- A stream that starts at an ISN + 1. -/
def Strm.start (inst isn : Nat) (mid : Bool) : Strm :=
  ⟨inst, isn, 0, mid, false, none, [], false, false, [], none⟩

/-- The reassembly cells a stream holds: one for each 64-byte block of offsets with a held byte.
Log: entry 25 (DEDUCED). -/
def Strm.cells (x : Strm) : Nat := ((x.held.map (fun e => e.1 / 64)).eraseDups).length

/-- The holes below held data: each run of held offsets follows one. -/
def Strm.holes (x : Strm) : Nat := (x.held.filter (fun e => (FMap.get? x.held (e.1 - 1)).isNone || e.1 = 0)).length

/-- Free reassembly cells of an instance. -/
def State.freeReasm (s : State) (i : Nat) : Nat :=
  8192 - s.deadIn (reasmKey i 0) 8192 -
    ((s.pipe.streams.filter (fun e => e.2.inst = i)).map (fun e => e.2.cells)).foldl (· + ·) 0

/-- RA_CELLS brought up to date. -/
def State.syncReasm (s : State) (i : Nat) : State := s.setFld (Pg.stg i 4) F.STG_RA_CELLS (s.freeReasm i)

/-- A window leaves S5 for the frames that pass (R303). -/
def State.emitWindow (s : State) (i : Nat) (w : Window) : State :=
  (s.incFld (Pg.stg i 5) F.STG_CV_WINDOWS).pipeMap (fun p => { p with
    spill := FMap.set p.spill i (FMap.getD p.spill i [] ++ [w]) })

/-- The close reasons in R304's order. -/
def Close.finish : Nat := 0
def Close.gap : Nat := 1
def Close.max : Nat := 2
def Close.len : Nat := 3
def Close.idle : Nat := 4

/-- The counter of a close reason; LEN and IDLE share one. Log: entry 23 (DESIGN CHOICE). -/
def closeField (r : Nat) : Fld :=
  if r = 0 then F.STG_CV_CLOSE_b0 else if r = 1 then F.STG_CV_CLOSE_GAP else if r = 2 then F.STG_CV_CLOSE_MAX
  else F.STG_CV_CLOSE_LEN

/-- The window an object has filled so far, padded to its size; one without bytes has no slot (R304). -/
def Obj.window (o : Obj) (h d : Nat) (x : Strm) (last : Bool) (reason : Nat) : Window where
  handle := h
  dir := d
  obj := o.id
  type := o.type
  index := o.index
  len := o.buf.length
  bytes := if o.buf.isEmpty then [] else o.buf ++ List.replicate (o.w - o.buf.length) 0
  last := last
  reason := if last then reason else 0
  conflict := x.conflict
  gapBefore := x.gapBefore
  midstream := x.mid
  slot := if o.buf.isEmpty then 0 else o.w

/-- An object closes (R304): its partly filled window, or an empty one, is emitted with LAST. -/
def State.closeObj (s : State) (h d : Nat) (x : Strm) (o : Obj) (reason : Nat) : State × Strm :=
  let s1 := s.emitWindow x.inst (o.window h d x true reason)
  (s1.incFld (Pg.stg x.inst 5) (closeField reason), { x with obj := none, conflict := false, gapBefore := false, tail := [] })

/-- The streams of a handle end with their record: objects close with IDLE (R304). -/
def State.endStreams (s : State) (h : Nat) : State :=
  let s1 := [0, 1].foldl (fun t d => match t.strm? h d with
    | some x =>
      let t1 := match x.obj with
        | some o => (t.closeObj h d x o Close.idle).1
        | none => t
      (t1.pipeMap (fun p => { p with streams := FMap.erase p.streams (strmKey h d) })).syncReasm x.inst
    | none => t) s
  s1

end Sys2Proof.Machine
end

