-- ==== Sys2Proof/Machine/Flow.lean ====
section
/-!
DEFINITION. Stage S3: the flow-state cache, pending misses, the DDR flow table, expiry and annotations (R289 to
R296, R311, R312, R314 to R316, R323, R324, R326), and the errors of the stores (R321, R322).
-/

set_option Elab.async false

namespace Sys2Proof.Machine

open Sys2Proof

/-- S3 runs cache-only (R323). -/
def State.cacheOnly (s : State) : Bool := s.bit ftPage F.STG_FT_STATUS

/-- The bucket of a hash (R290). -/
def State.bucketOf (s : State) (h : Nat) : Nat := h % 2 ^ (s.ftSize - 3)

/-! ### The cache -/

/-- A record is pinned while a frame with its handle is between S3 and S6 (R295). -/
def State.pinned (s : State) (h : Nat) : Bool :=
  s.pipe.frames.any (fun e => e.2.handle = some h && 3 ≤ e.2.stage && e.2.stage ≤ 6)

/-- The cached record of a key. -/
def State.cacheFind (s : State) (key hash : Nat) : Option (Nat × CacheEntry) :=
  s.pipe.cache.find? (fun e => e.1 / 16 = hash % 8192 && e.2.body.valid && e.2.body.key = key)

/-- The cached record of a handle. -/
def State.cacheOf (s : State) (h : Nat) : Option (Nat × CacheEntry) :=
  s.pipe.cache.find? (fun e => handleOf e.1 e.2 = h)

/-- A cached record set, with its use. -/
def State.setCache (s : State) (idx : Nat) (e : CacheEntry) : State :=
  s.pipeMap (fun p => { p with cache := FMap.set p.cache idx { e with used := p.useSeq }, useSeq := p.useSeq + 1 })

/-- The way a new record of a set can take: a free one that is not retired, else the least recently used one not
pinned (R295). -/
def State.freeWay (s : State) (hash : Nat) : Option (Nat × Option CacheEntry) :=
  let base := 16 * (hash % 8192)
  let ways := ((List.range 16).map (base + ·)).filter (fun w => wayKey w ∉ s.pipe.dead)
  match ways.find? (fun w => FMap.get? s.pipe.cache w = none) with
  | some w => some (w, none)
  | none =>
    let held := ways.filterMap (fun w => (FMap.get? s.pipe.cache w).map (fun e => (w, e)))
    let free := held.filter (fun e => !s.pinned (handleOf e.1 e.2))
    (free.foldl (fun (best : Option (Nat × CacheEntry)) e => match best with
      | none => some e
      | some b => if e.2.used < b.2.used then some e else some b) none).map (fun e => (e.1, some e.2))

/-- An evicted record goes back to its slot if dirty; a cache-only one is lost, and its streams end with it (R295, R304, R323). -/
def State.evict (s : State) (w : Nat) (e : CacheEntry) : State :=
  match e.slot with
  | some slot => if e.dirty then s.writeSlot slot e.body else s
  | none => (s.endStreams (handleOf w e)).incFld ftPage F.STG_FT_LOSS_EVICT_LOST

/-- A way's record leaves the cache: evicted, or, its content lost, without being written back. -/
def State.dropWay (s : State) (w : Nat) (save : Bool) : State :=
  match FMap.get? s.pipe.cache w with
  | some e =>
    let s1 := if save then s.evict w e else if e.slot.isNone then s.endStreams (handleOf w e) else s
    s1.pipeMap (fun p => { p with cache := FMap.erase p.cache w })
  | none => s

/-- A record put into the cache; none where every way of the set is pinned. -/
def State.install (s : State) (hash : Nat) (r : FlowRec) (slot : Option Nat) (dirty : Bool) : Option (Nat × State) :=
  match s.freeWay hash with
  | none => none
  | some (w, old) =>
    let s1 := match old with
      | some e => s.evict w e
      | none => s
    some (w, s1.setCache w ⟨r, slot, dirty, 0⟩)

/-! ### Updating a record -/

/-- The TCP state of a direction after a segment's flags. Log: entry 21 (DEDUCED). -/
def tcpNext (st flags : Nat) : Nat :=
  if flags / 4 % 2 = 1 then 5
  else if flags % 2 = 1 then (if st = 5 then 5 else 4)
  else if flags / 2 % 2 = 1 then (if flags / 16 % 2 = 1 then 2 else 1)
  else if flags / 16 % 2 = 1 && st < 3 then 3
  else st

/-- One of a pair by direction, 0 A→B. -/
def sel {α : Type} (d : Nat) (p : α × α) : α := if d = 0 then p.1 else p.2

/-- One of a pair set by direction. -/
def setSel {α : Type} (d : Nat) (p : α × α) (v : α) : α × α := if d = 0 then (v, p.2) else (p.1, v)

/-- IAT_FWD and IAT_REV of a frame against a record not yet updated (R292). -/
def iatOf (r : FlowRec) (f : Frame) (turn : Nat) : Nat × Nat :=
  let old := 65535 < (turn + 2 ^ 32 - r.last) % 2 ^ 32
  let one := fun d => if old || sel d r.frames = 0 then 2 ^ 32 - 1 else (f.stamp + 2 ^ 32 - sel d r.counts) % 2 ^ 32
  (one f.inst, one (1 - f.inst))

/-- A record updated for a frame (R292). Log: entry 21 (DEDUCED), entry 22 (DEDUCED). -/
def updateRec (r : FlowRec) (f : Frame) (turn : Nat) : FlowRec :=
  let d := f.inst
  let tcp := if f.parse.l4 && f.parse.proto = 6 then setSel d r.tcp (tcpNext (sel d r.tcp) f.parse.tcpFlags) else r.tcp
  { r with
    frames := setSel d r.frames (min (sel d r.frames + 1) (2 ^ 32 - 1)),
    octets := setSel d r.octets (min (sel d r.octets + f.len) (2 ^ 64 - 1)),
    last := turn % 2 ^ 32, counts := setSel d r.counts (f.stamp % 2 ^ 32), tcp := tcp,
    closed := r.closed || (tcp.1 = 4 && tcp.2 = 4) || tcp.1 = 5 || tcp.2 = 5 }

/-- A frame meets its record in the cache: IAT, update, SNAP, handle (R292). -/
def State.hit (s : State) (id idx : Nat) (e : CacheEntry) : State :=
  let f := s.frame id
  let r := updateRec e.body f s.turn
  (s.setFrame id { f with iat := iatOf e.body f s.turn, snap := r, handle := some (handleOf idx e) }).setCache idx
    { e with body := r, dirty := true }

/-- A frame leaves S3, offered at FT2 (R310). -/
def State.leaveFlow (s : State) (id : Nat) : State := (s.offer 1 id).handOn (s.frame id).inst 3 id

/-- The creation policy for a frame (R293). -/
def State.mayCreate (s : State) (f : Frame) : Bool :=
  let on := fun (x : Fld) => s.inForce ftPage x = 1
  if f.parse.l4 && f.parse.proto = 6 then
    on F.STG_FT_CTL_CREATE_TCP || (f.parse.tcpFlags / 2 % 2 = 1 && f.parse.tcpFlags / 16 % 2 = 0)
  else if f.parse.l4 && f.parse.proto = 17 then on F.STG_FT_CTL_CREATE_UDP
  else on F.STG_FT_CTL_CREATE_OTHER

/-- A new record for a frame's key. -/
def newRec (key gen : Nat) (f : Frame) (turn : Nat) : FlowRec :=
  { FlowRec.zero with key := key, valid := true, creator := f.inst, gen := gen, first := turn % 2 ^ 32 }

/-- The generation a record for a slot starts from. -/
def State.slotGen (s : State) (slot : Option Nat) : Nat :=
  match slot with
  | some n => (s.slotRec n).gen
  | none => 0

/-- The table slot that a new record claims: VALID with the record's key. -/
def State.claimSlot (s : State) (slot : Option Nat) (key gen : Nat) : State :=
  match slot with
  | some n => s.writeSlot n { FlowRec.zero with key := key, valid := true, gen := gen }
  | none => s

/-- A frame creates its record: with the slot, its key and valid bit in DDR at once (R293), or in the cache alone. -/
def State.create (s : State) (id key hash : Nat) (slot : Option Nat) : State :=
  let f := s.frame id
  let p := Pg.stg f.inst 3
  let r := newRec key (s.slotGen slot) f s.turn
  match s.install hash r slot true with
  | none => s.incFld p F.STG_FT_PIN_PIN_FULL
  | some (w, s1) =>
    let s2 := s1.claimSlot slot key r.gen
    match FMap.get? s2.pipe.cache w with
    | some e => (s2.incFld p F.STG_FT_CREATES).hit id w e
    | none => s2

/-- A frame's record created where the policy allows it, else counted (R293). -/
def State.tryCreate (s : State) (id key hash : Nat) (slot : Option Nat) : State :=
  let f := s.frame id
  if s.mayCreate f then s.create id key hash slot else s.incFld (Pg.stg f.inst 3) F.STG_FT_NOREC_NOT_CREATED

/-- A frame's update, of P0 or of P1 alone, that would follow in one clock an update of P1 (R43, R315), the sweeper or an annotation
(R314, R316) falls in the next clock. Log: entry 117 (DEDUCED). -/
def State.updateClock (s : State) (p0 : Bool) : State :=
  (if p0 then s.afterP1 0 s.pipe.lookedP1 else s).afterLast s.pipe.reachedAt

/-- No clock is left in the turn for such an update: it waits. Log: entry 117 (DEDUCED). -/
def State.updateWaits (s : State) (p0 : Bool) : Bool := (p0 && s.noClock s.pipe.lookedP1) || s.noClock s.pipe.reachedAt

/-- An update of P1 at the present count. -/
def State.noteP1 (s : State) : State := s.pipeMap (fun p => { p with lookedP1 := some s.count })

/-- FLOW_LOOKUP: S3 takes the head of its queue (R291); in one clock P0 is first (R43, R315), and a frame's update is before the
sweeper and an annotation (R314, R316). Where every way of the set is pinned PIN_FULL counts the key, whether or not a pending-miss
entry is free. Log: entry 117 (DEDUCED), entry 143 (DESIGN CHOICE). -/
def execFlowLookup (off : Nat) (i : Pipe) (s : State) : Result :=
  let a := s.at off
  let s0 := a.updateClock (i.val = 0)
  match s0.queue i 3 with
  | [] => .next s0
  | id :: _ =>
    if a.updateWaits (i.val = 0) then .next a
    else
    let s1 := (if i.val = 1 then s0.noteP1 else s0).takeHead i 3
    let p := Pg.stg i 3
    match flowKey (s1.frame id) with
    | none => .next (s1.leaveFlow id)
    | some key =>
      let h := keyHash key
      match s1.cacheFind key h with
      | some (w, e) => .next (((s1.incFld p F.STG_FT_HITS).hit id w e).leaveFlow id)
      | none =>
        if s1.pipe.misses.any (fun m => m.key = key) then
          .next (s1.pipeMap (fun x => { x with
            misses := x.misses.map (fun m => if m.key = key then { m with frames := m.frames ++ [id] } else m) }))
        else if s1.cacheOnly then .next ((s1.tryCreate id key h none).leaveFlow id)
        else if (s1.freeWay h).isNone then .next ((s1.incFld p F.STG_FT_PIN_PIN_FULL).leaveFlow id)
        else if 512 ≤ s1.pipe.misses.length then .next ((s1.incFld p F.STG_FT_LATE_MISS_BUSY).leaveFlow id)
        else .next ((s1.incFld p F.STG_FT_MISSES).pipeMap (fun x => { x with
          misses := x.misses ++ [⟨key, h, [id], s1.count⟩] }))

/-- The slots of a bucket. -/
def State.slotsOf (s : State) (h : Nat) : List Nat := (List.range 8).map (s.bucketOf h * 8 + ·)

/-- One frame of a returned miss: its record from the cache, where the read or an earlier frame put it, or a new one, in the cache
alone while S3 runs cache-only (R291, R293, R323). A frame that meets a full bucket is counted in TABLE_FULL whatever the creation policy.
Log: entry 140 (DEDUCED). -/
def State.serveMiss (m : Miss) (s : State) (id : Nat) : State :=
  let p := Pg.stg (s.frame id).inst 3
  let s1 := match s.cacheFind m.key m.hash with
    | some (w, e) => s.hit id w e
    | none =>
      if s.cacheOnly then s.tryCreate id m.key m.hash none
      else match (s.slotsOf m.hash).find? (fun n => !(s.slotRec n).valid) with
      | some n => s.tryCreate id m.key m.hash (some n)
      | none => (s.incFld p F.STG_FT_NOREC_TABLE_FULL).raiseIrq p 8
  s1.leaveFlow id

/-- A miss's frames leave S3 without a record, counted in a counter of their own instance's page. -/
def State.dropMiss (s : State) (ids : List Nat) (f : Fld) (irq : Option Nat) : State :=
  ids.foldl (fun t id =>
    let p := Pg.stg (t.frame id).inst 3
    let t1 := t.incFld p f
    (match irq with
      | some b => t1.raiseIrq p b
      | none => t1).leaveFlow id) s

/-- The waiting frames of a miss hold one of an instance. -/
def State.missOf (s : State) (m : Miss) (i : Nat) : Bool := m.frames.any (fun id => (s.frame id).inst = i)

/-- FLOW_MISS_RETURN: the bucket read of pending miss `n` returns, `bad` with a DDR error (R291, R293, R324); a read of a row unit
being copied waits (R541). What it read is of no use while S3 runs cache-only (R323), and its updates keep R43's and R316's order.
Log: entry 117 (DEDUCED), entry 144 (DEDUCED). -/
def execFlowMissReturn (off n : Nat) (bad : Bool) (s : State) : Result :=
  let t := s.at off
  match t.pipe.misses[n]? with
  | none => .next t
  | some m =>
    let a := t.slotAddr (8 * t.bucketOf m.hash)
    let s0 := (t.updateClock (t.missOf m 0))
    let s1 := (if t.missOf m 1 then s0.noteP1 else s0).pipeMap (fun p => { p with misses := p.misses.eraseIdx n })
    if t.ddrBusy a 1024 || t.updateWaits (t.missOf m 0) then .next t
    else if bad || t.ddrPoison a 1024 then .next (s1.dropMiss m.frames F.STG_FT_LOSS_FT_DDR_ERR none)
    else if s1.cacheOnly then .next (m.frames.foldl (State.serveMiss m) s1)
    else
      match (s1.slotsOf m.hash).find? (fun k => (s1.slotRec k).valid && (s1.slotRec k).key = m.key) with
      | none => .next (m.frames.foldl (State.serveMiss m) s1)
      | some k =>
        match s1.install m.hash (s1.slotRec k) (some k) false with
        | some (_, s2) => .next (m.frames.foldl (State.serveMiss m) s2)
        | none => .next (s1.dropMiss m.frames F.STG_FT_PIN_PIN_FULL none)

/-- MISS_LATE: a pending miss passes MISS_LIMIT; its read still counts when it returns (R312). -/
def execMissLate (off n : Nat) (s : State) : Result :=
  let s0 := s.at off
  match s0.pipe.misses[n]? with
  | none => .next s0
  | some m =>
    if m.since + s0.inForce ftPage F.STG_FT_MISS_LIMIT ≤ s0.count then
      let s1 := s0.pipeMap (fun p => { p with misses := p.misses.set n { m with frames := [] } })
      .next (s1.dropMiss m.frames F.STG_FT_LATE_MISS_LATE (some 9))
    else .next s0

/-! ### Annotations (R311, R316) -/

/-- Annotation bytes taken by a byte-enable mask. -/
def maskBytes (old new : List Nat) (mask : Nat) : List Nat :=
  (List.range 16).map (fun i => if (mask >>> i) % 2 = 1 then new.getD i 0 % 256 else old.getD i 0)

/-- An FT2 annotation returned on a port of instance `i`: applied where slot and generation match the handle. -/
def State.annotate (s : State) (i handle : Nat) (b : List Nat) (mask : Nat) : State :=
  match s.cacheOf handle with
  | some (w, e) =>
    if e.body.valid then
      s.setCache w { e with body := { e.body with annot := maskBytes e.body.annot b mask }, dirty := true }
    else s.incFld (Pg.stg i 3) F.STG_FT_PIN_ANNOT_STALE
  | none =>
    let slot := handle % 2 ^ 28
    let r := s.slotRec slot
    if handle < 2 ^ 31 && slot < 2 ^ s.ftSize && r.valid && r.gen = handle / 2 ^ 28 && !s.cacheOnly then
      s.writeSlot slot { r with annot := maskBytes r.annot b mask }
    else s.incFld (Pg.stg i 3) F.STG_FT_PIN_ANNOT_STALE

/-- The sweeper or an annotation reaches a record at this count (R314, R316). -/
def State.reached (s : State) : State := s.pipeMap (fun p => { p with reachedAt := some s.count })

/-- ANNOTATION_RETURN. -/
def execAnnotationReturn (off : Nat) (i : Pipe) (handle : BitVec 32) (b : List (BitVec 8)) (mask : BitVec 16) (s : State) :
    Result :=
  .next ((s.at off).reached.annotate i handle.toNat (b.map (fun x => x.toNat)) mask.toNat)

/-! ### Clearing the table (R326) -/

/-- A write of FT_INIT starts the clear; S3 runs cache-only meanwhile (R323). -/
def State.ftInitWritten (s : State) : State :=
  if s.bit ftPage F.STG_FT_CTL_FT_INIT && !s.cacheOnly then (s.setFld ftPage F.STG_FT_STATUS 1).raiseIrq ftPage 10 else s

/-- FT_INIT: a write of FT_CTL. -/
def execFtInit (off : Nat) (v : Word) (s : State) : Result :=
  .next ((s.at off).onPage ftPage 0x108 (fun t => (t.write ftPage 0x108 v).ftInitWritten))

/-- The records of the table end, with the streams and the cached copies of them (R326). Log: entry 144 (DEDUCED). -/
def State.dropTable (s : State) : State :=
  let hs := ((FMap.keys s.pipe.streams).map (· / 2)).eraseDups.filter (· < 2 ^ 31)
  (hs.foldl State.endStreams s).pipeMap (fun p => { p with cache := p.cache.filter (fun e => e.2.slot.isNone) })

/-- FT_INIT_DONE: VALID and the generation of every record of the table are 0. -/
def execFtInitDone (off : Nat) (s : State) : Result :=
  let s0 := s.at off
  if s0.bit ftPage F.STG_FT_CTL_FT_INIT then
    let base := s0.ftBase
    let inTable := fun a => base ≤ a && a < base + 128 * 2 ^ s0.ftSize
    let clear := s0.ddr.filterMap (fun (e : Nat × BitVec 8) =>
      if inTable e.1 && (e.1 - base) % 128 = 0x28 then (if e.2 &&& 0xFE = 0 then none else some (e.1, e.2 &&& 0xFE))
      else if inTable e.1 && (e.1 - base) % 128 = 0x2A then none
      else some e)
    .next ((((s0.dropTable).setDdr clear).setFld ftPage F.STG_FT_CTL_FT_INIT 0).raiseIrq ftPage 11)
  else .next s0

/-- Whether S3 may use the DDR table, judged at a turn boundary: every populated channel, over which the table spans, ACTIVE and no
FT_INIT (R323, R534). -/
def State.flowBoundary (s : State) : State :=
  let only := s.bit ftPage F.STG_FT_CTL_FT_INIT || !(List.range (max 1 s.ddrChannels)).all (fun c => s.unit (Pg.dmc c) = uActive)
  let was := s.cacheOnly
  let s1 := s.setFld ftPage F.STG_FT_STATUS (bitOf only)
  let s2 := if only && !was then s1.raiseIrq ftPage 10 else s1
  let n := 2 ^ (s2.ftSize - 3)
  s2.pipeMap (fun p => { p with sweep := (p.sweep + s2.inForce ftPage F.STG_FT_CLOSE_SWEEP_BKT) % n, captured := 0 })

/-! ### Errors of the stores (R321, R322) -/

/-- The store items of STORE_ECC_ERROR: their key, the stage that owns the store, and the limit of retired items. -/
def storeKey (i : Nat) : StoreItem → Nat × Nat × Nat × Nat
  | .cell n => (cellKey i n, 0, cellKey i 0, 13312)
  | .reasm n => (reasmKey i n, 4, reasmKey i 0, 8192)
  | .slot n => (slotKey i n, 5, slotKey i 0, 256)
  | .way n => (wayKey n, 3, wayKey 0, 131072)

/-- How many retired items put a stage into FAULT; window slots have no such limit. -/
def deadLimit : StoreItem → Option Nat
  | .cell _ => some 1024
  | .reasm _ => some 512
  | .slot _ => none
  | .way _ => some 1024

/-- A store item retired (R322); a way's record leaves the cache with it. Log: entry 144 (DEDUCED). -/
def State.retireItem (s : State) (i : Nat) (it : StoreItem) : State :=
  match storeKey i it with
  | (k, n, lo, len) =>
    if k ∈ s.pipe.dead then s
    else
      let s1 := (s.pipeMap (fun p => { p with dead := k :: p.dead })).setSubRetired (Pg.stg i n) true
      let s2 := match it with
        | .way w => s1.dropWay w true
        | .reasm _ => s1.syncReasm i
        | _ => s1.syncCells i
      match deadLimit it with
      | some m => if m < s2.deadIn lo len then s2.failUnit (Pg.stg i n) Reason.hwError else s2
      | none => s2

end Sys2Proof.Machine
end

