-- ==== Sys2Proof/Machine/Ryuklin.lean ====
section
/-!
DEFINITION. The commands of Ryuklin links and of tier 3 on the originating chip (spec/16).
-/

set_option Elab.async false

namespace Sys2Proof.Machine

open Sys2Proof

/-! ### Acknowledgement and replay (R646 to R649) -/

/-- The frames up to an ACK_SEQ released (R648). -/
def State.ackTo (s : State) (n ack : Nat) : State :=
  let r := s.rlink n
  let s1 := s.setFld (Pg.ryk n) F.RYK_SEQ_b16 ack
  if r.replay.any (fun x => x.1 = ack) then
    s1.setRlink n { r with replay := (r.replay.dropWhile (fun x => x.1 ≠ ack)).tail, ackAt := s.count }
  else s1

/-- The unacknowledged frames sent again. Log: entry 34 (DESIGN CHOICE). -/
def State.resend (s : State) (n : Nat) : State :=
  (s.rlink n).replay.foldl (fun t x => t.sendFrame n x.1 x.2.1 x.2.2.1 x.2.2.2) s

/-- A replay starts (R648); the eighth within 50 µs is RETRAINING instead (R649); while realigning it is due after
(R673). The replay is over within the command. Log: entry 10 (DESIGN CHOICE), entry 34 (DESIGN CHOICE). -/
def State.replayStart (s : State) (n : Nat) : State :=
  let r := s.rlink n
  if r.replay.isEmpty || s.kstate n ≠ K.up then s
  else if r.realign then s.setRlink n { r with replayDue := true }
  else
    let s0 := s.rykClock n
    let now := (s0.rlink n).time
    let starts := now :: r.starts.filter (fun t => now < t + 5000)
    let s1 := (s0.incFld (Pg.ryk n) F.RYK_REPLAY_b16).setRlink n { s0.rlink n with starts := starts, ackAt := s.count }
    if 8 ≤ starts.length then ((s1.linkRetrain n).linkFollow n).rykPump
    else ((s1.setKstate n K.replaying).resend n).setKstate n K.up

/-- LLCTL: a received control block (R648, R651). -/
def execLlctl (off : Nat) (n : RykLink) (nak : Bool) (cls : Fin 2) (ack : BitVec 12) (c0 c1 c2 c3 : BitVec 8)
    (s : State) : Result :=
  let s0 := s.at off
  let n := n.val
  if s0.kstate n = K.up || s0.kstate n = K.retraining then
    let add := fun (t : State) (vc : Nat) (c : BitVec 8) => t.incFld (Pg.ryk n) (creditFld cls.val vc) c.toNat
    let s1 := add (add (add (add (s0.ackTo n ack.toNat) 0 c0) 1 c1) 2 c2) 3 c3
    .next ((if nak then s1.replayStart n else s1).rykPump)
  else .next s0

/-- REPLAY_TIMEOUT: `since` is the time since the last new acknowledgement, in 10 ns (R648). Log: entry 10 (DESIGN CHOICE). -/
def execReplayTimeout (off : Nat) (n : RykLink) (since : Nat) (s : State) : Result :=
  let s0 := s.at off
  .next (if s0.replayTmo n ≤ since then (s0.replayStart n).rykPump else s0)

/-! ### Received frames -/

/-- The CRC-32 a frame's EOF should carry (R645). -/
def rxCrc (f : RykRx) : Nat :=
  frameCrc (sofBlock f.vc.val f.cls.val f.seq.toNat ((f.payload.length + 7) / 8)) f.header.toNat (f.payload.map BitVec.toNat)

/-- The fields of a frame read from its blocks (Table RYK-1). -/
def RxScan.frame (a : RxScan) : RykRx where
  vc := Fin.ofNat 4 (a.sof.getD 1 0 / 64)
  cls := Fin.ofNat 2 (a.sof.getD 1 0 / 32)
  seq := BitVec.ofNat 12 (a.sof.getD 1 0 % 16 * 256 + a.sof.getD 2 0)
  header := BitVec.ofNat 64 (beNat (a.data.getD 0 []))
  payload := (a.data.tail.flatMap id).map (BitVec.ofNat 8)
  crc := BitVec.ofNat 32 a.crc

/-- What reaches a link of the bits its lanes give it: RX_INVERT is taken off (R151), the blocks are descrambled (R161) and put in
the stream's order (R641). The first block of each lane's list stands before those of the command: the descrambler synchronises
on it. -/
def State.linkBlocks (s : State) (n k : Nat) (rx0 rx1 : List (BitVec 66)) : List (Option Block) :=
  let lane := fun (i : Nat) (l : List (BitVec 66)) =>
    openBlocks (if s.rxInverted (rykLane n i) then l.map (fun w => ~~~w) else l)
  let used := s.fld (Pg.ryk n) F.RYK_STATUS_b3
  if used = 3 then weave k (lane 0 rx0) (lane 1 rx1) else if used = 2 then lane 1 rx1 else lane 0 rx0

/-- The frame a link reads from its lanes' bits, with the block errors met (R644, R645). -/
def State.linkFrame (s : State) (n k : Nat) (rx0 rx1 : List (BitVec 66)) : RykRx × Nat :=
  let a := scanFrame (s.linkBlocks n k rx0 rx1)
  (a.frame, a.errors)

/-- The sync headers of received blocks, the first left out, judged on their lane, and the link after it (R160, R162). -/
def State.linkHeaders (s : State) (n : Nat) (rx0 rx1 : List (BitVec 66)) : State :=
  let hs := fun (l : List (BitVec 66)) => l.tail.map (fun w => (Fin.ofNat 4 (w.toNat / 2 ^ 64) : Fin 4))
  ((s.headersJudged (rykLane n 0) (hs rx0)).headersJudged (rykLane n 1) (hs rx1)).linkFollow n

/-- A received frame as the transaction layer has it. -/
def rxFrame (f : RykRx) : RFrame :=
  let b := fun lo w => (f.header.toNat / 2 ^ lo) % 2 ^ w
  ⟨b 48 16, b 32 16, b 28 4, b 24 4, b 12 12, b 8 4, b 0 8, f.payload.map BitVec.toNat⟩

/-- An accepted frame goes on: delivered, relayed, or discarded (R653, R657 to R659). Log: entry 33 (DESIGN CHOICE). -/
def State.accepted (s : State) (n : Nat) (rx : RykRx) (bufErr : Bool) : State :=
  let f := rxFrame rx
  let local' := f.dest = s.ownChip
  let credit := fun (t : State) => t.sendCredit n rx.vc rx.cls f.credits
  if bufErr then credit ((s.discard n f T3.bufErr).linkEvent n)
  else if 6 ≤ f.type || vcOf f.type ≠ rx.vc.val || vcLen rx.vc < f.len then credit (s.discard n f T3.linkLost)
  else if local' then credit (s.post f rx.cls (some n))
  else if f.hops ≤ 1 then credit (s.discard n f T3.hopExpired)
  else s.post { f with hops := f.hops - 1 } rx.cls (some n)

/-- RYK_FRAME_RECEIVE: the blocks of a frame as the link's two lanes receive them, the first of the frame standing on lane `k` of
a wide link, each lane's list led by the block before them; and whether the receive buffer then failed the frame (R641 to R647,
R653, R679). Log: entry 32 (DEDUCED). -/
def execRykFrameReceive (off : Nat) (n : RykLink) (k : Fin 2) (rx0 rx1 : List (BitVec 66)) (bufErr : Bool) (s : State) : Result :=
  let n := n.val
  let s0 := (s.at off).linkHeaders n rx0 rx1
  let p := Pg.ryk n
  let r := s0.rlink n
  let f := (s0.linkFrame n k.val rx0 rx1).1
  let blockErrors := (s0.linkFrame n k.val rx0 rx1).2
  if s0.kstate n ≠ K.up || r.realign then .next s0
  else
    let s1 := s0.incFld p F.RYK_CRC_b16 blockErrors
    let badCrc := rxCrc f ≠ f.crc.toNat
    let s2 := if blockErrors = 0 && badCrc then s1.incFld p F.RYK_CRC_CRC else s1
    let below := (r.expSeq + 4096 - f.seq.toNat) % 4096
    if 0 < blockErrors || badCrc then .next ((s2.raiseIrq p 5).sendNak n)
    else if f.seq.toNat = r.expSeq then
      let s3 := (s2.setRlink n { r with expSeq := (r.expSeq + 1) % 4096, nakAt := none }).incFld p F.RYK_RX_FRAMES
      let s4 := s3.sendAck n false f.seq.toNat
      .next (((s4.accepted n f bufErr).linkFollow n).rykPump)
    else if below ≤ 2048 then .next s2
    else .next (s2.sendNak n)

/-! ### Alignment, INIT, RETRAINING -/

/-- An INIT block sent: FRESH, the lane mask, the receive ACK_SEQ, the own chip and link (Table RYK-1). -/
def State.sendInit (s : State) (n : Nat) : State :=
  if !s.rykOpen n then s else
  let b := initBlock (s.rlink n).fresh (s.fld (Pg.ryk n) F.RYK_STATUS_b3) (s.lastAccepted n) s.ownChip n
  (s.rykSend n b).emit (.rykInit n (s.rlink n).fresh (s.lastAccepted n))

/-- ALIGN: ALIGN blocks received on the lanes in use, with the skew between the lanes and the partner's REF_DEPTH
(R643, R654, R668); at width 1 only one of the numbers counts. Both ends send theirs after as many blocks, so that the own go out
beside them. Log: entry 128 (DESIGN CHOICE). -/
def execLinkAlign (off : Nat) (n : RykLink) (seq0 seq1 : BitVec 8) (skew : Int) (depth : BitVec 8) (s : State) : Result :=
  let n := n.val
  let k := (s.at off).kstate n
  if k < K.aligning || k = K.noPartner then .next (s.at off)
  else
    let s0 := (s.at off).sendAlign n
    let s1 := (s0.setFld (Pg.ryk n) F.RYK_STATUS_b8 depth.toNat).syncDepth
    let wide := s1.fld (Pg.ryk n) F.RYK_STATUS_b3 = 3
    let s2 := if wide && 32 < skew.natAbs then (s1.raiseIrq (Pg.ryk n) 4).setLanes n 1 else s1
    let fits := !wide || 32 < skew.natAbs || seq0 = seq1
    let r := s2.rlink n
    if k = K.aligning then
      if !fits then .next (s2.setRlink n { r with pairs := 0 })
      else if 2 ≤ r.pairs + 1 then .next (((s2.setRlink n { r with pairs := 0 }).setKstate n K.init).sendInit n)
      else .next (s2.setRlink n { r with pairs := r.pairs + 1 })
    else if k = K.init then
      if r.realign && fits then .next ((s2.setRlink n { r with realign := false }).sendInit n) else .next s2
    else if k = K.retraining then
      let ready := s2.lstate (rykLane n 0) ≠ L.fastRetrain && s2.lstate (rykLane n 1) ≠ L.fastRetrain && s2.upMask n ≠ 0
      if r.realign && fits && ready then
        .next (((s2.setRlink n { r with realign := false }).setLanes n (s2.upMask n)).sendInit n)
      else .next s2
    else if k = K.up then
      if !fits then .next (s2.setRlink n { r with realign := true })
      else if r.realign then
        let s3 := (s2.setRlink n { r with realign := false, replayDue := false }).sendNak n
        .next ((if r.replayDue then s3.replayStart n else s3).rykPump)
      else .next s2
    else .next s2

/-- Both directions restart at SEQ 0 (R650). -/
def State.restartSeq (s : State) (n : Nat) : State :=
  let lost := (s.rlink n).replay.map (fun x => x.2.2.2)
  let s1 := s.setRlink n { s.rlink n with expSeq := 0, nakAt := none, replay := [] }
  let s2 := (s1.setFld (Pg.ryk n) F.RYK_SEQ_b0 0).setFld (Pg.ryk n) F.RYK_SEQ_b16 0xFFF
  lost.foldl (fun t f => t.discard n f T3.linkLost) s2

/-- Credits the empty receive buffer of a VC is worth (Table RYK-2). -/
def vcCredits (vc : Nat) : Nat := if vc = 0 then 256 else if vc = 1 then 1024 else if vc = 2 then 512 else 128

/-- The credits of a VC and class whose buffer space holds no frame. -/
def State.freeCredits (s : State) (n vc cls : Nat) : Nat :=
  vcCredits vc - ((s.ryk.outq.filter (fun e => e.src = some n && e.cls = cls && vcOf e.frame.type = vc)).map
    (fun e => e.frame.credits)).foldl (· + ·) 0

/-- All credits returned afresh after an INIT, in LLCTL blocks of at most 255 credits (R651). -/
def State.returnCredits (s : State) (n : Nat) : State :=
  (List.range 8).foldl (fun t k =>
    let c := t.freeCredits n (k % 4) (k / 4)
    (List.replicate (c / 255) 255 ++ (if c % 255 = 0 then [] else [c % 255])).foldl (fun u m => u.sendCredit n (k % 4) (k / 4) m) t) s

/-- INIT received (R649, R650, R656): a link in INIT comes UP; a link in RETRAINING comes back with the partner it had,
and replays from the partner's ACK_SEQ + 1. Credits start at none and return in LLCTL blocks (R651).
Log: entry 31 (DESIGN CHOICE). -/
def execLinkInit (off : Nat) (n : RykLink) (fresh : Bool) (mask : Fin 4) (ack : BitVec 12) (chip : BitVec 16)
    (peer : RykLink) (s : State) : Result :=
  let s0 := s.at off
  let n := n.val
  let p := Pg.ryk n
  let r := s0.rlink n
  let known := match r.seen with
    | some x => x = (chip.toNat, peer.val)
    | none => true
  if s0.bit (Pg.ryk 0) F.RYK_CHIP_VALID &&
      ((s0.kstate n = K.init && !r.realign) || (s0.kstate n = K.retraining && !r.realign && known)) then
    let s1 := if fresh || r.fresh then s0.restartSeq n else s0.ackTo n ack.toNat
    let s2 := s1.setRlink n { s1.rlink n with seen := some (chip.toNat, peer.val), fresh := false, widening := false,
                                              replayDue := false, secondUp := none, ackAt := s1.count }
    let s3 := ((s2.setFld p F.RYK_STATUS_b16 chip.toNat).setFld p F.RYK_PEER peer.val)
    let s4 := (((s3.setFld p ⟨0x050, 0, 32⟩ 0).setFld p ⟨0x074, 0, 32⟩ 0).setFld p ⟨0x078, 0, 32⟩ 0).setFld p ⟨0x07C, 0, 32⟩ 0
    let m := s4.fld p F.RYK_STATUS_b3 &&& mask.val
    let s5 := if m = 0 then s4 else s4.setLanes n m
    .next (((((s5.setKstate n K.up).raiseIrq p 0).returnCredits n).resend n).rykPump)
  else .next s0

/-- RETRAINING_TIMEOUT: not UP 2 ms after entry: the link is dead (R650). -/
def execRetrainingTimeout (off : Nat) (n : RykLink) (s : State) : Result :=
  let s0 := s.at off
  .next (if s0.kstate n = K.retraining then (s0.linkDead n).linkFollow n else s0)

/-- SECOND_LANE_WAIT: the second lane is not UP 64 ms after the first (R654). -/
def execSecondLaneWait (off : Nat) (n : RykLink) (s : State) : Result :=
  let s0 := s.at off
  .next (if s0.kstate n = K.training && s0.upMask n ≠ 0 then s0.linkAligning n else s0)

/-- LINK_REWIDEN: at a turn boundary the second lane has been UP for 16 turns: a pass of realignment and INIT (R654).
Log: entry 35 (DEDUCED). -/
def execLinkRewiden (off : Nat) (n : RykLink) (s : State) : Result :=
  let s0 := s.at off
  let r := s0.rlink n
  match r.secondUp with
  | some t =>
    if s0.kstate n = K.up && t + 16 * 65536 ≤ s0.count && s0.count % 65536 = 0 then
      .next ((s0.setKstate n K.retraining).setRlink n { r with realign := true, pairs := 0, widening := true, since := s0.count })
    else .next s0
  | none => .next s0

/-- A frame of a link's replay buffer fails: it is discarded, one transient event of the link (R679). -/
def State.replayBad (s : State) (n seq : Nat) : State :=
  match (s.rlink n).replay.find? (fun x => x.1 = seq) with
  | some x =>
    let s1 := s.setRlink n { s.rlink n with replay := (s.rlink n).replay.filter (fun y => y.1 ≠ seq) }
    (((s1.discard n x.2.2.2 T3.bufErr).linkEvent n).linkFollow n).rykPump
  | none => s

/-- LINK_FAULT: an uncorrectable error in the link logic, or in the replay buffer of the frame with a SEQ (R679). -/
def execLinkFault (off : Nat) (n : RykLink) (frame : Option (BitVec 12)) (s : State) : Result :=
  match frame with
  | none => .next (((s.at off).fail (Pg.ryk n) Reason.hwError).linkFollow n)
  | some q => .next ((s.at off).replayBad n q.toNat)

/-- GATEWAY_FAULT: an uncorrectable error in a gateway (R679). Log: entry 37 (DESIGN CHOICE). -/
def execGatewayFault (off : Nat) (s : State) : Result :=
  .next (((s.at off).fail (Pg.ryk 0) 0x81).linkFollow 0)

/-! ### Tier 3 on the originating chip -/

/-- The first frame of the inbox that meets a condition, taken from it. -/
def State.takeInbox (s : State) (p : RFrame → Bool) : Option ((Nat × Option Nat × RFrame) × State) :=
  match s.ryk.inbox.find? (fun e => p e.2.2) with
  | some e => some (e, s.rykMap (fun r => { r with inbox := r.inbox.erase e }))
  | none => none

/-- The blocks a request's timer has run (R664, R661). -/
def State.t3Ran (s : State) (q : T3Req) : Nat :=
  match q.hop with
  | some n => if s.kstate n = K.up then q.ran + (s.count - q.since) else q.ran
  | none => s.count - q.since

/-- A request's timer has reached RYK_T3_TMO turns. -/
def State.t3Expired (s : State) (q : T3Req) : Bool := 65536 * s.inForce (Pg.ryk 0) F.RYK_T3_TMO ≤ s.t3Ran q

/-- A request completed as TIMEOUT (R662). -/
def State.t3TimedOut (s : State) (tag : Nat) (q : T3Req) : State :=
  ((s.incFld (Pg.ryk 0) F.RYK_T3_LOSS_TIMEOUT).raiseIrq (Pg.ryk 0) 9).t3Done tag q none

/-- T3_RSP: a T3_RSP or LOST frame completes the request whose SRC, TAG and GEN match it (R662); one that comes as the timer
expires is stale, and the expiry stands (R671). Log: entry 38 (DEDUCED). -/
def execT3Rsp (off : Nat) (s : State) : Result :=
  let s0 := s.at off
  match s0.takeInbox (fun f => f.type = 1 || f.type = 5) with
  | some ((_, _, f), s1) =>
    match FMap.get? s1.ryk.tags f.tag with
    | some q =>
      if q.dest = f.src && q.gen = f.gen then
        if s1.t3Expired q then .next ((s1.t3TimedOut f.tag q).incFld (Pg.ryk 0) F.RYK_T3_OTHER_T3_STALE)
        else if f.type = 5 || (4 ≤ f.status && f.status ≤ 7) then .next (s1.t3LinkLost f.tag q)
        else if f.status = T3.ok then .next ((s1.incFld (Pg.ryk 0) F.RYK_T3_OK).t3Done f.tag q (some f.payload))
        else if f.status ≤ 3 then .next ((s1.incFld (Pg.ryk 0) F.RYK_T3_OTHER_REFUSED).t3Done f.tag q none)
        else .next (s1.t3Done f.tag q none)
      else .next (s1.incFld (Pg.ryk 0) F.RYK_T3_OTHER_T3_STALE)
    | none => .next (s1.incFld (Pg.ryk 0) F.RYK_T3_OTHER_T3_STALE)
  | none => .next s0

/-- T3_TIMEOUT: a request's transaction timer reaches RYK_T3_TMO turns (R662). -/
def execT3Timeout (off : Nat) (tag : BitVec 12) (s : State) : Result :=
  let s0 := s.at off
  match FMap.get? s0.ryk.tags tag.toNat with
  | some q =>
    if s0.t3Expired q then .next (s0.t3TimedOut tag.toNat q) else .next s0
  | none => .next s0

/-! ### The reference tree -/

/-- REF_DEPTH_ERR: the follower's own depth would exceed 16, or, `stale`, its partner has advertised 0xFF for 1 ms: the
active candidate is lost (R669). -/
def execRefDepthErr (off : Nat) (stale : Bool) (s : State) : Result :=
  let s0 := s.at off
  let k := s0.fld refPage F.REF_STATUS_ACTIVE_CAND
  let n := s0.fld refPage (F.REF_CAND_b0 k)
  let d := s0.fld (Pg.ryk n) F.RYK_STATUS_b8
  if s0.refRole = 2 && s0.rstate = R.locked && k < 4 && ((16 ≤ d && d ≠ 0xFF) || (stale && d = 0xFF)) then
    .next ((s0.candLost k).raiseIrq (Pg.ryk n) 7)
  else .next s0

end Sys2Proof.Machine
end

