-- ==== Sys2Proof/Machine/Egress.lean ====
section
/-!
DEFINITION. Stages S9 to S11 (R342 to R348, R353 to R356), copies, the PTP correction (R264 to R267), sealing (R255,
R261), delivery to the host, injected frames, words returned by the fabric.
-/

set_option Elab.async false

namespace Sys2Proof.Machine

open Sys2Proof

/-! ### S9: marks and copies -/

/-- A ones' complement checksum after one of its words changes (incremental update). -/
def csumUpdate (c old new : Nat) : Nat :=
  let x := (0xFFFF - c) + (0xFFFF - old) + new
  let y := x % 65536 + x / 65536
  0xFFFF - (y % 65536 + y / 65536)

/-- DSCP written into an IP header (R342). -/
def markDscp (f : Frame) (dscp : Nat) : Option (List Nat) :=
  let b := f.bytes
  let o := f.parse.l3off
  if f.parse.l3 = 4 then
    let old := beAt b o 2
    let new := old / 256 * 256 + dscp * 4 + old % 4
    let b1 := patch b o (beBytes 2 new)
    some (patch b1 (o + 10) (beBytes 2 (csumUpdate (beAt b (o + 10) 2) old new)))
  else if f.parse.l3 = 6 then
    let old := beAt b o 2
    some (patch b o (beBytes 2 (old / 4096 * 4096 + dscp * 64 + old % 64)))
  else none

/-- The frame's bytes after a mark, none where no field is changed (R342). MARK_MODE 3 is treated as 2. -/
def markBytes (f : Frame) (mode dscp pcp : Nat) : Option (List Nat) :=
  if mode = 0 then markDscp f dscp
  else if mode = 1 then
    match f.parse.vlan with
    | some _ => some (patch f.bytes 14 [beAt f.bytes 14 1 % 32 + 32 * pcp])
    | none => markDscp f dscp
  else none

/-- The destinations of a group that are set, by index (R345). Log: entry 42 (DEDUCED). -/
def State.copyDests (s : State) (g : Nat) : List Nat :=
  (List.range 4).filter (fun d => s.inForce Pg.cpy (F.CPY_DEST_TYPE g d) ≠ 0)

/-- Does a verdict ask for copies (Table STG-20)? -/
def wantsCopies (when' verdict : Nat) (joined : Bool) : Bool :=
  when' = 2 || (when' = 1 && joined) || (when' = 3 && 3 ≤ verdict)

/-- A copy's bytes, cut to the snap length in force; lengths 1 to 63 are treated as 64. -/
def State.snapCopy (s : State) (g d : Nat) (b : List Nat) : List Nat :=
  let n := s.inForce Pg.cpy (F.CPY_DEST_LIM_b16 g d)
  if n = 0 then b else b.take (max 64 n)

/-- One copy emitted (R345 to R347): `k` is its place after the primary, one packet slot of 2.5 blk each. -/
def State.emitCopy (s : State) (id k d : Nat) : State :=
  let f := s.frame id
  let g := f.group
  let target := s.inForce Pg.cpy (F.CPY_DEST_TARGET g d)
  let type := s.inForce Pg.cpy (F.CPY_DEST_TYPE g d)
  let b := s.snapCopy g d f.bytes
  let dl := s.count + 5 * k / 2 + max 1 (s.inForce Pg.cpy (F.CPY_DEST_LIM_b0 g d))
  let s1 := s.incFld (Pg.stg f.inst 9) F.STG_ACT_COPIES
  if type = 1 then
    if 8 ≤ target || s1.tapMode (pairOf target) || s1.txShut target then s1.copyLost Why.copyRefused id d b
    else s1.handItem 9 ⟨id, .copy d, target, b, b.length + 4, dl, false⟩
  else if type = 2 then
    if s1.ringOpen target then
      s1.pipeMap (fun p => { p with outCopies := p.outCopies ++ [⟨id, d, true, target, b, dl⟩] })
    else s1.copyLost Why.copyRefused id d b
  else if (s1.route target).isSome then
    s1.pipeMap (fun p => { p with outCopies := p.outCopies ++ [⟨id, d, false, target, b, dl⟩] })
  else s1.copyLost Why.copyRefused id d b

/-- Copies emitted in ascending destination index. Log: entry 39 (DEDUCED). -/
def State.emitCopies (s : State) (id k : Nat) : List Nat → State
  | [] => s
  | d :: t => (s.emitCopy id (k + 1) d).emitCopies id (k + 1) t

/-- A mask of destination indices. -/
def maskOf (l : List Nat) : Nat := (l.map (2 ^ ·)).foldl (· + ·) 0

/-- DIVERT (R343, R257): the primary waits for its ring, or goes to the Sump where the host cannot take it (R52). -/
def State.divert (s : State) (id : Nat) : State :=
  let f := s.frame id
  let p := Pg.stg f.inst 9
  let ring := if f.uncontrolled then s.eapolRing else s.divertRing (pairOf f.port)
  let s0 := if f.uncontrolled then s.incFld (Pg.lnp f.port) F.LNP_EAPOL_EAPOL else s
  match ring.filter s0.ringOpen with
  | some n =>
    let dl := s0.count + max 1 (s0.inForce p F.STG_DIVERT_DL)
    (s0.incFld p F.STG_OUT).pipeMap (fun x => { x with diverts := x.diverts ++ [⟨id, n, f.uncontrolled, dl⟩] })
  | none => (s0.raiseIrq p 10).sumpFrame f.inst 9 Why.hostDown id

/-- The verdict that S9 acts on: one without an action (0, 6 and 7, from an FT4 reply) forwards. Log: entry 26 (DEDUCED). -/
def actOn (v : Nat) : Nat := if v = 0 || 5 < v then 1 else v

/-- S9 acts on a frame's verdict (Table STG-20). -/
def State.act (s : State) (id : Nat) : State :=
  let f0 := s.frame id
  let i := f0.inst
  let v := if f0.uncontrolled then 3 else actOn f0.verdict
  let pol := Pg.stg 0 8
  let pr := pairOf f0.port
  let m := if v = 2 then markBytes f0 (s.inForce pol (F.STG_PAIR_POL_MARK_MODE pr)) (s.inForce pol (F.STG_PAIR_POL_MARK_DSCP pr))
    (s.inForce pol (F.STG_PAIR_POL_MARK_PCP pr)) else none
  let s1 := if v = 2 && m.isNone then s.incFld (Pg.stg i 9) F.STG_ACT_MARK_MARK_NONE else s
  let ds := if wantsCopies f0.copyWhen v f0.copy then s1.copyDests f0.group else []
  let made := if s1.unitCopy Pg.cpy = uActive then ds else []
  let s2 := if made.length = ds.length then s1 else s1.incFld (Pg.stg i 9) F.STG_ACT_MARK_NO_COPY ds.length
  let f := { f0 with bytes := m.getD f0.bytes, verdict := v, holds := 1 + made.length, asked := maskOf made, opened := maskOf made }
  let s3 := s2.setFrame id f
  let s4 :=
    if v ≤ 2 then s3.handItem 9 ⟨id, .primary, otherPort f.port, f.bytes, f.bytes.length + 4, f.stamp + f.holdBudget, false⟩
    else if v = 3 then s3.divert id
    else if v = 4 then s3.sumpFrame i 9 (if f.policyDrop then Why.unscoredDrop else Why.verdictDrop) id
    else s3.sumpFrame i 9 Why.quarantine id
  s4.emitCopies id 0 made

/-- ACTION: S9 takes the head of its queue, unless it waits for its FT4 reply. -/
def execVerdictAction (off : Nat) (i : Pipe) (s : State) : Result :=
  let s0 := s.at off
  match s0.queue i 9 with
  | id :: _ => .next (if (s0.frame id).waitFt4 then s0 else (s0.takeHead i 9).act id)
  | [] => .next s0

/-! ### Delivery to the host and to Ryuklin peers -/

/-- The delivery record of a frame or copy (Table PCI-3). -/
def Frame.item (f : Frame) (source aux : Nat) (bytes : List Nat) : DItem :=
  ⟨bytes, source, f.unscored, f.inst, f.stamp, f.verdict, aux, f.score, f.port, f.tag, f.pseq⟩

/-- A diverted primary accepted by its ring. -/
def State.acceptDivert (s : State) (n buf : Nat) : State :=
  match s.pipe.diverts[n]? with
  | some d =>
    if s.ringAccepts d.ring && s.count < d.deadline then
      let f := s.frame d.frame
      let s1 := s.pipeMap (fun p => { p with diverts := p.diverts.eraseIdx n })
      (s1.deliver d.ring buf (f.item (if d.eapol then 3 else 0) 0 f.bytes)).release d.frame
    else s
  | none => s

/-- A capture accepted by its ring. -/
def State.acceptCapture (s : State) (n buf : Nat) : State :=
  match s.pipe.captures[n]? with
  | some c =>
    let ring := s.inForce Pg.smp F.SMP_CTL_b8
    if s.ringAccepts ring && s.count < c.deadline then
      let f := match c.frame with
        | some id => s.frame id
        | none => { Frame.blank with stamp := c.stamp, inst := c.inst, port := c.port, pseq := c.pseq }
      let s1 := (s.pipeMap (fun p => { p with captures := p.captures.eraseIdx n })).incFld Pg.smp F.SMP_CAPTURED
      let s2 := s1.deliver ring buf (f.item 2 c.reason c.bytes)
      match c.frame with
      | some id => s2.release id
      | none => s2
    else s
  | none => s

/-- A copy accepted by its destination (R346, R666): the delivery ring, or the link layer's transmit buffer. -/
def State.acceptCopy (s : State) (n buf : Nat) : State :=
  match s.pipe.outCopies[n]? with
  | some c =>
    let f := s.frame c.frame
    let s1 := s.pipeMap (fun p => { p with outCopies := p.outCopies.eraseIdx n })
    let d := f.item 1 f.group c.bytes
    if c.deadline ≤ s.count then s
    else if c.host then
      if s.ringAccepts c.target then (s1.deliver c.target buf d).copyDone c.frame c.dest else s
    else
      let r : RFrame := ⟨c.target, s.ownChip, 2, 0, 0, 0, s.maxHops, d.record c.bytes.length s.count ++ c.bytes⟩
      let e : ROut := ⟨r, 0, none, 0, none⟩
      match s.route c.target with
      | some m => if s.canStart e m then (s1.start m e).copyDone c.frame c.dest else s
      | none => s
  | none => s

/-- DELIVERY_ACCEPT: an item is accepted by its delivery ring into the buffer its free entry names (R617). -/
def execDeliveryAccept (off : Nat) (src : Deliver) (n : Nat) (buf : BitVec 64) (s : State) : Result :=
  .next (match src with
    | .divert => (s.at off).acceptDivert n buf.toNat
    | .copy => (s.at off).acceptCopy n buf.toNat
    | .capture => (s.at off).acceptCapture n buf.toNat)

/-- COPY_ACCEPT: a copy is accepted by its destination. -/
def execCopyAccept (off n : Nat) (buf : BitVec 64) (s : State) : Result := .next ((s.at off).acceptCopy n buf.toNat)

/-- Copies at the head of a port's copy queue whose deadline has passed go to the Sump (R355), `k` at most. -/
def State.lateCopies (s : State) (q : Nat) : Nat → State
  | 0 => s
  | k + 1 =>
    match s.copies q with
    | it :: rest =>
      if it.deadline ≤ s.count then
        ((s.setOut q (s.primaries q) rest).sumpItemOf (txInst q) 11 Why.copyLate it).lateCopies q k
      else s
    | [] => s

/-- Every such copy of a port, and the places they leave taken. -/
def State.dropLate (s : State) (q : Nat) : State :=
  if (s.copies q).isEmpty then s else (s.lateCopies q (s.copies q).length).pullAll (txInst q) 10

/-- COPY_DEADLINE: a copy not accepted before its deadline (R346), or late at the head of a port's copy queue (R355). -/
def execCopyDeadline (off n : Nat) (s : State) : Result :=
  let s0 := (List.range 8).foldl State.dropLate (s.at off)
  match s0.pipe.outCopies[n]? with
  | some c =>
    .next (if c.deadline ≤ s0.count then
      (s0.pipeMap (fun p => { p with outCopies := p.outCopies.eraseIdx n })).copyLost Why.copyLate c.frame c.dest c.bytes
    else s0)
  | none => .next s0

/-- DIVERT_DEADLINE: the divert ring has not accepted a frame within DIVERT_DL (R343). -/
def execDivertDeadline (off n : Nat) (s : State) : Result :=
  let s0 := s.at off
  match s0.pipe.diverts[n]? with
  | some d =>
    let i := (s0.frame d.frame).inst
    .next (if d.deadline ≤ s0.count then
      ((s0.pipeMap (fun p => { p with diverts := p.diverts.eraseIdx n })).raiseIrq (Pg.stg i 9) 8).sumpFrame i 9 Why.divertLate
        d.frame
    else s0)
  | none => .next s0

/-! ### S10: the transparent clock -/

/-- PTP_RATE_ADJ in force, clamped to ±200,000. -/
def State.rateAdj (s : State) : Int := max (-200000) (min 200000 (signed 32 (s.inForce Pg.ptp F.PTP_RATE_ADJ)))

/-- The residence of a message, in 2^-16 ns, rounded to the nearest unit (R264): timestamps in that unit, delays and
trims in force in 0.1 ns, the rate in 0.001 ppm. -/
def State.residence (s : State) (rx tx ti te : Nat) : Int :=
  let dly := fun (a b : Fld) => (s.fld Pg.ptp a : Int) + signed 16 (s.inForce Pg.ptp b)
  let d := dly (F.PTP_RX_DLY_b0 rx) (F.PTP_RX_DLY_b16 rx) + dly (F.PTP_TX_DLY_b0 tx) (F.PTP_TX_DLY_b16 tx)
  let adj := s.rateAdj
  let x := (10 * ((te : Int) - ti) + 65536 * d) * (1000000000 - adj)
  (2 * x + 10000000000) / 20000000000

/-- Bytes of a message with its UDP checksum brought up to date for a change of 8 of its bytes.
Log: entry 43 (PRESUMED). -/
def udpUpdate (b : List Nat) (u : Nat) (old new : List Nat) : List Nat :=
  let c := beAt b (u + 6) 2
  if c = 0 then b
  else
    let c' := (List.range 4).foldl (fun x i => csumUpdate x (beAt old (2 * i) 2) (beAt new (2 * i) 2)) c
    patch b (u + 6) (beBytes 2 (if c' = 0 then 0xFFFF else c'))

/-- The PTP correction of an item (R264 to R267). One that leaves a saturated correctionField as it is counts as corrected.
Log: entry 143 (DESIGN CHOICE). -/
def State.correct (s : State) (it : Item) (te : Nat) : State × Item :=
  let f := s.frame it.frame
  match f.parse.ptp with
  | some o =>
    if it.bytes.length < o + 16 || (it.kind = .primary && f.tap) || s.inForce Pg.ptp F.PTP_CTL_TC_EN = 0 then (s, it)
    else
      let res := s.residence f.port it.port f.ti te
      let was := sliceOf it.bytes (o + 8) 8
      let c := signed 64 (beNat was)
      let s1 := (s.incFld Pg.ptp F.PTP_CORRECTED).maxFld Pg.ptp F.PTP_MAX_RES (min (res.toNat / 65536) (2 ^ 32 - 1))
      if beNat was = 2 ^ 63 - 1 then (s1, { it with fixed := true })
      else
        let past := decide ((2 : Int) ^ 63 ≤ c + res) || decide (c + res < -(2 : Int) ^ 63)
        let new := beBytes 8 (if past then 2 ^ 63 - 1 else unsigned 64 (c + res))
        let s2 := if past then (s1.incFld Pg.ptp F.PTP_SATURATED).raiseIrq Pg.ptp 0 else s1
        let b := patch it.bytes (o + 8) new
        let b' := match f.parse.udp with
          | some u => udpUpdate b u was new
          | none => b
        (s2, { it with bytes := b', fixed := true })
  | none => (s, it)

/-! ### S10: sealing -/

/-- The length of the SecTAG and ICV a transmit SecY adds. -/
def State.sealLen (s : State) (q : Nat) : Nat := if s.inForce (Pg.msc q) F.MSC_CTL_INCLUDE_SCI = 1 then 32 else 24

/-- Does the transmit SecY of a port protect frames (R255, R260)? -/
def State.protects (s : State) (q : Nat) : Bool :=
  s.inForce (Pg.msc q) F.MSC_CTL_ENABLE = 1 && s.inForce (Pg.msc q) F.MSC_CTL_PROTECT = 1

/-- A frame sealed by the transmit SecY with an AN and a PN (R255). -/
def State.sealed (s : State) (q an pn : Nat) (b : List Nat) : List Nat :=
  let g := Pg.msc q
  let enc := s.inForce g F.MSC_CTL_ENCRYPT
  let inc := s.inForce g F.MSC_CTL_INCLUDE_SCI
  let sci := s.inForce g F.MSC_TX_SCI_LO + 2 ^ 32 * s.inForce g F.MSC_TX_SCI_HI
  let data := b.drop 12
  let sl := if data.length < 48 then data.length else 0
  let tag := [0x88, 0xE5, 32 * inc + 12 * enc + an, sl] ++ beBytes 4 pn ++ (if inc = 1 then beBytes 8 sci else [])
  let clear := if enc = 1 then min data.length (s.confOffset q) else data.length
  let k := s.sak q an
  let iv := gcmIv (s.portAux q).xpn sci (s.inForce g (F.MSC_TX_SA_SSCI an)) k.2 pn
  let aad := b.take 12 ++ tag ++ data.take clear
  aad ++ Config.gcmSeal k.1 iv aad (data.drop clear)

/-- PN_THR raised once when the next PN of a transmit SA has reached MSC_PN_THR (R261). -/
def State.checkThr (s : State) (q an : Nat) : State :=
  let g := Pg.msc q
  let thr := s.inForce g F.MSC_PN_THR_LO + (if (s.portAux q).xpn then 2 ^ 32 * s.inForce g F.MSC_PN_THR_HI else 0)
  let x := s.portAux q
  if s.pn q (0x104 + 32 * an) < thr then s.setPortAux q { x with thr := x.thr.filter (· ≠ an) }
  else if an ∈ x.thr then s
  else (s.setPortAux q { x with thr := an :: x.thr }).raiseIrq g 0

/-- The next PN of a transmit SA used up; PN_THR and PN_EXH can fall in one frame (R261, R274). -/
def State.usePn (s : State) (q an : Nat) : State :=
  let g := Pg.msc q
  let o := 0x104 + 32 * an
  let pn := s.pn q o
  let s1 := s.incFld g (F.MSC_TX_SA_PKTS an)
  (if pn = s.maxPn q then (s1.setFld g (F.MSC_TX_SA_CTL_EXHAUSTED an) 1).raiseIrq g 1
    else s1.setPn q o (pn + 1)).checkThr q an

/-- S10 seals an item, or hands it to the Sump (R353). -/
def State.sealItem (s : State) (i : Nat) (it : Item) (te : Nat) : State :=
  let c := s.correct it te
  let s1 := c.1
  let it1 := c.2
  let q := it1.port
  let g := Pg.msc q
  let tapPrimary := it1.kind = .primary && (s1.frame it1.frame).tap
  let an := s1.fld g F.MSC_TX_AN_ENC_AN_NOW
  let prot := s1.protects q && !tapPrimary
  let len := if prot then it1.len + s1.sealLen q else it1.len
  if prot && s1.inForce g (F.MSC_TX_SA_CTL_IN_USE an) = 0 then
    (s1.incFld g F.MSC_OUT_NO_SA).sumpItemOf i 10 Why.noTxSa it1
  else if !tapPrimary && s1.maxLen q + 32 < len then
    ((s1.incFld g F.MSC_OUT_TOO_LONG).raiseIrq (Pg.stg i 10) 8).sumpItemOf i 10 Why.tooLong it1
  else if prot && s1.bit g (F.MSC_TX_SA_CTL_EXHAUSTED an) then
    (s1.incFld g F.MSC_OUT_PN_EXH).sumpItemOf i 10 Why.pnExhausted it1
  else if prot then
    let b := s1.sealed q an (s1.pn q (0x104 + 32 * an)) it1.bytes
    (s1.usePn q an).handItem 10 { it1 with bytes := b, len := len }
  else s1.handItem 10 it1

/-- SEAL: S10 takes the head of its queue; `te` is the instant S11 fixes for the item, in 2^-16 ns (R265), not before
the transparent clock's present (R264). -/
def execSealItem (off : Nat) (i : Pipe) (te : Nat) (s : State) : Result :=
  let s0 := s.at off
  match s0.sealQ i with
  | it :: rest =>
    let s1 := (s0.setSealQ i rest).syncFloat i 10
    .next ((((s1.sealItem i it (max te (s1.wide (regKey Pg.ptp 0x048))))).pullAll 0 9).pullAll 1 9)
  | [] => .next s0

/-! ### S11 -/

/-- A frame as S11 sends it (R244): preamble, start-of-frame delimiter, the frame, its FCS, low byte first. -/
def wireFrame (b : List Nat) : List Nat := List.replicate 7 0x55 ++ [0xD5] ++ b ++ leBytes 4 (crc32 b)

/-- A frame on the wire: counted and sent (R244). -/
def State.transmit (s : State) (q : Nat) (it : Item) : State :=
  (((s.incWide (Pg.lnp q) F.LNP_TX_FRAMES_LO 1).incWide (Pg.lnp q) F.LNP_TX_OCTETS_LO it.len).incFld
    (Pg.stg (txInst q) 11) F.STG_OUT).emit (.frame q (wireFrame it.bytes))

/-- S11 takes an item from the head of a queue (R247, R252, R262, R354, R355). Log: entry 39 (DEDUCED). -/
def State.spout (s : State) (q : Nat) (it : Item) : State :=
  let i := txInst q
  let p := Pg.stg i 11
  match it.kind with
  | .primary =>
    if (s.frame it.frame).tap || s.txShut q then s.spoutDown q it
    else if it.deadline ≤ s.count then
      ((s.incFld (Pg.lnp q) F.LNP_EGRESS_LATE).raiseIrq p 8).sumpItemOf i 11 Why.egressLate it
    else (s.transmit q it).release it.frame
  | .copy d =>
    if s.txShut q then s.spoutDown q it
    else if it.deadline ≤ s.count then s.sumpItemOf i 11 Why.copyLate it
    else ((s.transmit q it).incFld p (F.STG_SP_COPY_TX (q / 2))).copyDone it.frame d
  | .injected index cookie =>
    if s.txShut q || s.engaged (pairOf q) then s.injComplete index cookie false
    else ((s.transmit q it).incFld (Pg.lnp q) F.LNP_EAPOL_b16).injComplete index cookie true

/-- SPOUT_TRANSMIT: a port's next item: its primary queue, and its copy queue only where that is empty (R354), once the late copies
at its head are gone (R355). -/
def execSpoutTransmit (off : Nat) (p : Port) (s : State) : Result :=
  let q := p.val
  let s0 := (s.at off).dropLate q
  let i := txInst q
  match s0.primaries q, s0.copies q with
  | it :: rest, cs => .next (((s0.setOut q rest cs).spout q it).pullAll i 10)
  | [], it :: rest => .next (((s0.setOut q [] rest).spout q it).pullAll i 10)
  | [], [] => .next s0

/-- A descriptor of the injection ring read (R620). -/
def State.injFetch (s : State) (x : Nat) : State :=
  let a := s.fld injPage F.LOC_IJ_RING_LO + 2 ^ 32 * s.fld injPage F.LOC_IJ_RING_HI + 16 * (x % s.injSize)
  s.emit (.hostFetch 1 a 16)

/-- INJECTION_DESCRIPTOR: a descriptor of the injection ring and its frame have been read (R262, R620): queued behind
every frame of its port, refused, or left waiting where its port's rate or the pool of read tags is used up. Log: entry 41 (DEDUCED). -/
def execInjectionDescriptor (off : Nat) (index : BitVec 16) (port : BitVec 8) (len : BitVec 16) (cookie : Word)
    (b : List (BitVec 8)) (s : State) : Result :=
  let s0 := s.at off
  let x := index.toNat
  let head := s0.fld injPage F.LOC_IJ_HEAD
  let open' := (x + 65536 - head) % 65536 < (s0.fld injPage F.LOC_IJ_TAIL + 65536 - head) % 65536
  let q := port.toNat
  if !s0.bit injPage F.LOC_IJ_CTL_ENABLE || !open' || x ∈ s0.host.injTaken || x ∈ s0.host.injDone || s0.fnUnreachable 1 ||
      s0.pins.mainReset || s0.bit Pg.gbl F.GBL_STATUS_RESTARTING then .next s0
  else if 8 ≤ q || len.toNat < 64 || 1518 < len.toNat || s0.txShut q || s0.engaged (pairOf q) then
    .next ((s0.injFetch x).injComplete x cookie.toNat false)
  else if (FMap.get? s0.host.injAt q).any (fun t => s0.count < t + 1024) || s0.freeTag.isNone then .next s0
  else if (s0.primaries q).length < 1024 then
    let it : Item := ⟨0, .injected x cookie.toNat, q, b.map BitVec.toNat, len.toNat, 0, false⟩
    let s1 := (s0.injFetch x).hostMap (fun h => { h with injTaken := x :: h.injTaken, injAt := FMap.set h.injAt q s0.count })
    .next (s1.setOut q (s1.primaries q ++ [it]) (s1.copies q))
  else .next s0

/-! ### Words returned by the fabric, errors -/

/-- TAP_RETURN_WORD (R380, R381): logic in FENCED regions returns nothing (R377). The return FIFO passes a word on as it arrives.
Log: entry 145 (DESIGN CHOICE), entry 146 (DEDUCED). -/
def execTapReturnWord (off : Nat) (tap : Fin 4) (i : Pipe) (w : TapWord) (s : State) : Result :=
  let p := tapPage tap
  if s.tapIdle tap then .next (s.at off) else
  let s0 := (s.at off).incFld p (F.FAB_TAP_RET_b0 i)
  let bad := (s0.incFld p (F.FAB_TAP_RET_TAP_RET_BAD i)).raiseIrq p 1
  .next (match w with
    | .score r => s0.scoreRecord { r with tier := 0 } (some tap.val)
    | .annotation h b m => if tap.val = 1 then s0.reached.annotate i h.toNat (b.map BitVec.toNat) m.toNat else bad
    | .reply q n v c => if tap.val = 3 then s0.ft4Reply i q n.toNat v c else bad
    | .invalid => bad)

/-- The page of a pipeline unit. -/
def pipeUnitPage : PipeUnit → Nat
  | .join i => Pg.stg i 8
  | .spout i => Pg.stg i 11
  | .unsealer i => Pg.stg i 1
  | .sealer i => Pg.stg i 10
  | .sump => Pg.smp

/-- PIPELINE_UNCORR_ERROR (R277, R366, R49): the unit is in FAULT and the main domain takes the safe state. -/
def execPipelineUncorrError (off : Nat) (u : PipeUnit) (s : State) : Result :=
  .next ((s.at off).failUnit (pipeUnitPage u) Reason.hwError)

end Sys2Proof.Machine
end

