-- ==== Sys2Proof/Machine/Net.lean ====
section
/-!
DEFINITION. The tile network (R404 to R407, R414 to R428, R442, R445): nodes, injection, the grant at an output, what a
tile's L port does with a packet.
-/

set_option Elab.async false

namespace Sys2Proof.Machine

open Sys2Proof

/-! ### Nodes -/

/-- The tile number of a position's tile: 0 to 95 matrix, 96 to 127 vector (Table TNW-1). -/
def tileAt (r : Nat) : Nat :=
  let x := r % 16
  let y := r / 16
  if y % 2 = 1 then 24 * (y / 2) + 8 + x
  else if x % 2 = 0 then 24 * (y / 2) + x / 2
  else 96 + 8 * (y / 2) + (x - 1) / 2

/-- The position, and so the node and router, of a tile number (Table TNW-1). -/
def posOf (t : Nat) : Nat :=
  if 96 ≤ t then 32 * ((t - 96) / 8) + 2 * ((t - 96) % 8) + 1
  else if t % 24 < 8 then 32 * (t / 24) + 2 * (t % 24)
  else 32 * (t / 24) + 16 + (t % 24 - 8)

/-- An edge node (Table TNW-3). Log: entry 45 (DESIGN CHOICE). -/
def edgeNode (side pos : Nat) : Nat := 128 + 32 * side + pos

/-- The router and port at which a node stands (Tables TNW-2, TNW-3), none where DEST names no node. -/
def nodePort (n : Nat) : Option (Nat × Nat) :=
  let pos := n % 32
  if n < 128 then some (n, 4)
  else match n / 32 % 4 with
    | 0 => if pos < 16 then some (pos, 0) else none
    | 1 => if pos < 8 then some (16 * pos + 15, 1) else none
    | 2 => if pos < 16 then some (112 + pos, 2) else none
    | _ => if pos < 8 then some (16 * pos, 3) else none

/-- The output a router gives a packet: along x, then along y, then the node's own port (R418). -/
def routeOut (r dest : Nat) : Option Nat :=
  (nodePort dest).map (fun e =>
    if r % 16 < e.1 % 16 then 1
    else if e.1 % 16 < r % 16 then 3
    else if r / 16 < e.1 / 16 then 2
    else if e.1 / 16 < r / 16 then 0
    else e.2)

/-- What an output leads to: a neighbour's input, or a client's node. -/
inductive Beyond where
  | router (r input : Nat)
  | client (node : Nat)
  deriving DecidableEq, Repr

/-- What stands beyond output `o` of router `r`. -/
def beyond (r o : Nat) : Beyond :=
  let x := r % 16
  let y := r / 16
  match o with
  | 0 => if y = 0 then .client (edgeNode 0 x) else .router (r - 16) 2
  | 1 => if x = 15 then .client (edgeNode 1 y) else .router (r + 1) 3
  | 2 => if y = 7 then .client (edgeNode 2 x) else .router (r + 16) 0
  | 3 => if x = 0 then .client (edgeNode 3 y) else .router (r - 1) 1
  | _ => .client r

/-- An east–west link between columns 2r + 1 and 2r + 2 has a bridge (R427). -/
def hasBridge (r o : Nat) : Bool := (o = 1 && r % 2 = 1) || (o = 3 && r % 2 = 0)

/-- A router's side of a boundary, none for a port that leads to a router or the tile. -/
def edgeSide (r o : Nat) : Option Nat :=
  match beyond r o with
  | .client _ => if o < 4 then some o else none
  | .router _ _ => none

/-! ### Queues -/

/-- The network's own part changed. -/
def State.netMap (s : State) (f : Net → Net) : State := { s with net := f s.net }

/-- Key of a router's input, and of its queue of a channel. -/
def inKey (r i : Nat) : Nat := 5 * r + i
def queueKey (r i vc : Nat) : Nat := 4 * inKey r i + vc

/-- An input queue. -/
def State.netQueue (s : State) (r i vc : Nat) : List Packet := FMap.getD s.net.queues (queueKey r i vc) []

/-- Packets of a channel that the client or tile at an input has yet to inject. -/
def State.offered (s : State) (r i vc : Nat) : List Packet := FMap.getD s.net.client (queueKey r i vc) []

/-- The packets yet to inject set. -/
def State.setOffered (s : State) (r i vc : Nat) (l : List Packet) : State :=
  s.netMap (fun n => { n with client := FMap.setC n.client (queueKey r i vc) l [] })

/-- What the bridge before an input holds of a channel (R427). -/
def State.bridgeOf (s : State) (r i vc : Nat) : List Packet := FMap.getD s.net.bridge (queueKey r i vc) []

/-- What a bridge holds set. -/
def State.setBridge (s : State) (r i vc : Nat) (l : List Packet) : State :=
  s.netMap (fun n => { n with bridge := FMap.setC n.bridge (queueKey r i vc) l [] })

/-- An input queue set. -/
def State.setNetQueue (s : State) (r i vc : Nat) (l : List Packet) : State :=
  s.netMap (fun n => { n with queues := FMap.setC n.queues (queueKey r i vc) l [] })

/-- Packets delivered to a node and not consumed. -/
def State.edgeIn (s : State) (node : Nat) : List Packet := FMap.getD s.net.edge node []

/-- A queue of delivered packets set. -/
def State.setEdge (s : State) (node : Nat) (l : List Packet) : State :=
  s.netMap (fun n => { n with edge := FMap.setC n.edge node l [] })

/-- Flits of a list of packets. -/
def flitsOf (l : List Packet) : Nat := (l.map (fun p => p.len + 1)).foldl (· + ·) 0

/-- The nodes of the fabric's mesh ports on the west edge, and the port's number (R383). -/
def isMesh (node : Nat) : Bool := 224 ≤ node && node < 232
def meshPort (node : Nat) : Nat := 37 + (node - 224)

/-- Flits a mesh port takes. -/
def State.meshIn (s : State) (node : Nat) (p : Packet) : State :=
  if isMesh node then s.incFld (Pg.fab (meshPort node)) F.FAB_TNI_FLITS_IN (p.len + 1) else s

/-- The client of an edge node takes flits: a mesh port only while it is ACTIVE. Log: entry 45 (DESIGN CHOICE). -/
def State.clientOpen (s : State) (node : Nat) : Bool :=
  !isMesh node || s.unit (Pg.fab (meshPort node)) = uActive

/-- A tile's own part. -/
def State.tile (s : State) (t : Nat) : Tile := FMap.getD s.tiles t Tile.none

/-- A tile's own part set. -/
def State.setTile (s : State) (t : Nat) (x : Tile) : State :=
  { s with tiles := FMap.setC s.tiles t x Tile.none }

/-- Places of an input's queue of a channel, in flits (R416). -/
def queueSize (vc : Nat) : Nat := if vc = 2 then 4 else 17

/-- A router's input that stands behind a bridge of 32 flits for each channel: that of an east–west link between columns 2r + 1
and 2r + 2, and that of an edge client (R427). -/
def behindBridge (r i : Nat) : Bool := i < 4 && ((edgeSide r i).isSome || hasBridge r i)

/-- A packet at the end of an input's queue. -/
def State.pushQueue (s : State) (r i vc : Nat) (p : Packet) : State :=
  s.setNetQueue r i vc (s.netQueue r i vc ++ [{ p with missed := false, since := s.count }])

/-- The head of a bridge crosses into the queue where its flits have room. -/
def State.crossOne (r i vc : Nat) (s : State) : State :=
  match s.bridgeOf r i vc with
  | p :: rest =>
    if p.len + 1 + flitsOf (s.netQueue r i vc) ≤ queueSize vc then (s.setBridge r i vc rest).pushQueue r i vc p else s
  | [] => s

/-- The bridge before an input, drained as far as the queue takes it. -/
def State.cross (s : State) (r i vc : Nat) : State :=
  (s.bridgeOf r i vc).foldl (fun (a : State) _ => a.crossOne r i vc) s

/-- The input the slot in force grants on an output, as a GTS nibble: 0 none, 1 to 5 inputs N to L (R422, R423). -/
def State.slotGrant (s : State) (r o : Nat) : Nat :=
  let slot := s.count / 64 % 128
  let b := s.fld (Pg.tnw r) F.TNW_GTS_SEL_b1
  let v := s.fld (Pg.tnw r) (F.TNW_GTS b o (slot / 8) (slot % 8))
  if 6 ≤ v then 0 else v

/-- A tile injects a GTS head only at offsets 4 to 31 of a slot that grants L on the first output of its path (R425). -/
def State.gtsOpen (s : State) (r : Nat) (p : Packet) : Bool :=
  4 ≤ s.count % 64 && s.count % 64 ≤ 31 && (routeOut r p.dest).map (s.slotGrant r) = some 5

/-- A request's response, in flits of landing space: 0 for a packet that is no RD_REQ, WR_REQ or CTL_RD (R419). -/
def responseFlits (p : Packet) : Nat :=
  if p.type = 0 then 1 + min 16 (p.aux % 32) else if p.type = 1 || p.type = 8 then 1 else 0

/-- A tile issues a request while its program runs, below its limit and with landing space for the whole response (Table MTL-1,
R419). Log: entry 150 (DESIGN CHOICE). -/
def State.mayRequest (s : State) (t : Nat) (p : Packet) : Bool :=
  responseFlits p = 0 ||
  (match (s.tile t).op with
    | some o => (s.tile t).reqs.length < o.limit &&
        ((s.tile t).reqs.map (fun e => e.2.2)).foldl (· + ·) 0 + responseFlits p ≤ o.landing
    | none => false)

/-- A packet injected by a tile (R419) or passed by an edge client, with its flits counted (Tables FAB-2, TNW-2). -/
def State.entryCounted (s : State) (r i : Nat) (p : Packet) : State :=
  match edgeSide r i with
  | some e =>
    let s1 := s.incFld (Pg.tnw r) (F.TNW_EDGE_IN e) (p.len + 1)
    if isMesh p.src then s1.incFld (Pg.fab (meshPort p.src)) F.FAB_TNI_FLITS_OUT (p.len + 1) else s1
  | none =>
    let x := s.tile (tileAt r)
    if responseFlits p = 0 then s else s.setTile (tileAt r) { x with reqs := x.reqs ++ [(p.dest, p.tag, responseFlits p)] }

/-- The first packet that waits to be injected enters: a client's its bridge, a tile's the L queue, INJ being the count then
(R414). -/
def State.enterOne (r i vc : Nat) (s : State) : State :=
  match s.offered r i vc with
  | p :: rest =>
    let q := { p with inj := s.count % 65536 }
    if behindBridge r i then
      if p.len + 1 + flitsOf (s.bridgeOf r i vc) ≤ 32 then
        ((s.setOffered r i vc rest).entryCounted r i p).setBridge r i vc (s.bridgeOf r i vc ++ [q])
      else s
    else if (vc ≠ 1 || s.gtsOpen r p) && s.mayRequest (tileAt r) p && p.len + 1 + flitsOf (s.netQueue r i vc) ≤ queueSize vc then
      ((s.setOffered r i vc rest).entryCounted r i p).pushQueue r i vc q
    else s
  | [] => s

/-- What waits to be injected at an input enters as far as there is room. -/
def State.enterAll (s : State) (r i vc : Nat) : State :=
  (s.offered r i vc).foldl (fun (a : State) _ => a.enterOne r i vc) s

/-- Flits move into an input's queue from its bridge and its client. -/
def State.settle (s : State) (r i vc : Nat) : State := (((s.cross r i vc).enterAll r i vc).cross r i vc).enterAll r i vc

/-- Flits move into every queue of a router. -/
def State.settleAll (s : State) (r : Nat) : State :=
  (List.range 5).foldl (fun (a : State) i => (List.range 4).foldl (fun (b : State) vc => b.settle r i vc) a) s

/-- A packet of a mesh port that its bridge's 32 places do not take raises CREDIT_STALL (Tables FAB-2, CLK-2). -/
def State.meshStall (s : State) (r i : Nat) (p : Packet) : State :=
  let vc := vcOfType p.type
  if isMesh p.src && 32 < flitsOf (s.bridgeOf r i vc ++ s.offered r i vc) + p.len + 1 then s.raiseIrq (Pg.fab (meshPort p.src)) 0
  else s

/-- A packet handed over by the client of its source node, to be injected when there is room; one of a reserved type, or to no
node, is discarded at the source router (R418, Table TNW-4). Log: entry 45 (DESIGN CHOICE). -/
def State.inject (s : State) (p : Packet) : State :=
  match nodePort p.src with
  | some (r, i) =>
    if 12 ≤ p.type || (nodePort p.dest).isNone then
      ((if (edgeSide r i).isSome then s.entryCounted r i p else s).incFld (Pg.tnw r) F.TNW_SINK_ROUTE_BAD).raiseIrq (Pg.tnw r) 4
    else
      let vc := vcOfType p.type
      ((s.meshStall r i p).setOffered r i vc (s.offered r i vc ++ [p])).settle r i vc
  | none => s

/-- A packet without data. -/
def plainPacket (dest src type tag addr aux : Nat) : Packet where
  dest := dest
  src := src
  type := type
  len := 0
  tag := tag
  inj := 0
  addr := addr
  aux := aux
  inline := []
  data := []
  poison := false
  missed := false
  since := 0

/-- The response to a request (R414, Table TNW-4). -/
def Packet.reply (p : Packet) (type aux : Nat) : Packet := plainPacket p.src p.dest type p.tag p.addr aux

/-- A response carrying data flits. -/
def Packet.replyData (p : Packet) (data : List Nat) (poison : Bool) : Packet :=
  { (p.reply 2 0) with data := data, len := (data.length + 63) / 64, poison := poison }

/-! ### The grant (R420, R423) -/

/-- The head of an input's queue of a channel, where it waits for output `o`. -/
def State.headAt (s : State) (r o i vc : Nat) : Option Packet :=
  match (s.netQueue r i vc).head? with
  | some p => if routeOut r p.dest = some o then some p else none
  | none => none

/-- Credit in flits for a channel beyond an output: the bridge's 32 places where one stands there, the queue's otherwise; a tile
sinks all it gets (R416, R419, R427). -/
def State.roomAt (s : State) (r o vc : Nat) : Nat :=
  match beyond r o with
  | .router r' i => if hasBridge r o then 32 - flitsOf (s.bridgeOf r' i vc) else queueSize vc - flitsOf (s.netQueue r' i vc)
  | .client n =>
    if n < 128 then 17 else if !s.clientOpen n then 0 else 32 - flitsOf ((s.edgeIn n).filter (fun p => vcOfType p.type = vc))

/-- A head that the downstream queue has credit for (R417). -/
def State.ripe (s : State) (r o i vc : Nat) : Option Packet :=
  match s.headAt r o i vc with
  | some p => if p.len + 1 ≤ s.roomAt r o vc then some p else none
  | none => none

/-- The input whose turn it is among those with a ripe head of a channel, after the one served last (R420). -/
def State.turnOf (s : State) (r o vc : Nat) : Option (Nat × Packet) :=
  let last := FMap.getD s.net.last (4 * inKey r o + vc) 4
  (List.range 5).findSome? (fun k =>
    let i := (last + 1 + k) % 5
    (s.ripe r o i vc).map (fun p => (i, p)))

/-- The head an output grants (R420): a starved REQ head, the slot's GTS head, RSP, CTL, REQ.
Log: entry 45 (DESIGN CHOICE). -/
def State.granted (s : State) (r o : Nat) : Option (Nat × Nat × Packet) :=
  let chan := fun (vc : Nat) => (s.turnOf r o vc).map (fun e => (vc, e.1, e.2))
  let gts := match s.slotGrant r o with
    | 0 => none
    | g + 1 => (s.ripe r o g 1).map (fun p => (1, g, p))
  let starved := 8 ≤ FMap.getD s.net.passed (inKey r o) 0
  ((if starved then chan 3 else none).orElse fun _ => gts).orElse fun _ =>
    ((chan 0).orElse fun _ => chan 2).orElse fun _ => chan 3

/-- The head of a list changed. -/
def onHead (f : Packet → Packet) : List Packet → List Packet
  | [] => []
  | p :: t => f p :: t

/-- GTS heads that the slot's entry does not grant counted once each (R424). -/
def State.countMiss (r o : Nat) (s : State) (i : Nat) : State :=
  match s.headAt r o i 1 with
  | some p =>
    if p.missed || s.slotGrant r o = i + 1 then s
    else ((s.incFld (Pg.tnw r) (F.TNW_GTS_GTS_MISS o)).raiseIrq (Pg.tnw r) 0).setNetQueue r i 1
      (onHead (fun h => { h with missed := true }) (s.netQueue r i 1))
  | none => s

/-- The head taken from an input's queue: the next becomes the head, and the place is free. -/
def State.takePacket (s : State) (r i vc : Nat) : State :=
  (s.setNetQueue r i vc (onHead (fun h => { h with since := s.count }) (s.netQueue r i vc).tail)).settle r i vc

/-! ### The L port of a tile -/

/-- Size of a tile's local store (R408, R409). -/
def storeSize (t : Nat) : Nat := if t < 96 then 2 ^ 20 else 2 ^ 19

/-- Bytes written into a tile's store. -/
def State.storeTile (s : State) (t addr : Nat) (b : List Nat) : State :=
  let x := s.tile t
  s.setTile t { x with store := Mem.store 0 x.store (addr % storeSize t) b }

/-- The tile's operation ends with a status because of a packet it consumed (R445, R524). -/
def State.spoil (s : State) (t status : Nat) : State :=
  let x := s.tile t
  s.setTile t { x with op := x.op.map (fun o => { o with spoiled := some (o.spoiled.getD status) }) }

/-- A response reaches its tile: its request is answered and the landing space free. Log: entry 150 (DESIGN CHOICE). -/
def State.answered (s : State) (t : Nat) (p : Packet) : State :=
  let x := s.tile t
  match x.reqs.find? (fun e => e.1 = p.src && e.2.1 = p.tag) with
  | some e => if vcOfType p.type = 0 then s.setTile t { x with reqs := x.reqs.erase e } else s
  | none => s

/-- A packet at the L port of a router whose tile is READY or ACTIVE (Table TNW-4). Register accesses, types 7 and 8, are
PACKET_ROUTE's. -/
def State.tileTakes (s : State) (r : Nat) (p : Packet) : State :=
  let t := tileAt r
  let s1 := if p.poison then s.spoil t 4 else s
  match p.type with
  | 0 =>
    let a := p.addr % storeSize t
    s1.inject (p.replyData (Mem.bytes 0 (s.tile t).store a (64 * min 16 (p.aux % 32))) false)
  | 1 => (s1.storeTile t p.addr p.data).inject (p.reply 3 0)
  | 2 => s1.storeTile t p.addr p.data
  | 4 => s1.spoil t 6
  | 6 => s1.storeTile t p.addr p.data
  | 10 => s1.setEdge r (s1.edgeIn r ++ [p])
  | _ => s1

/-- A packet at the L port of a router whose tile is down (R442). Log: entry 93 (DEDUCED). -/
def State.tileDown (s : State) (r : Nat) (p : Packet) : State :=
  if vcOfType p.type = 3 || p.type = 8 then (s.incFld (Pg.tnw r) F.TNW_NACK).inject (p.reply 4 6)
  else s.incFld (Pg.tnw r) F.TNW_SINK_DOWN_SINK

/-- A packet delivered to a node's client. Requests wait at the Cistern's banks; other edge clients sink theirs. -/
def State.deliverPacket (s : State) (node : Nat) (p : Packet) : State :=
  if node < 128 then
    let u := s.unit (Pg.tile (tileAt node))
    let s1 := s.answered (tileAt node) p
    if u = uReady || u = uActive then s1.tileTakes node p else s1.tileDown node p
  else
    let waits := node / 32 % 4 = 2 && p.type < 2
    if waits then s.setEdge node (s.edgeIn node ++ [p]) else s.emit (.netSunk node p)

/-- A granted packet passes the output (R417, R420, R437). Log: entry 45 (DESIGN CHOICE). -/
def State.forward (s : State) (r o vc i : Nat) (p : Packet) : State :=
  let reqWaits := (s.turnOf r o 3).isSome
  let n := FMap.getD s.net.passed (inKey r o) 0
  let n' := if vc = 3 then 0 else if reqWaits && (vc = 0 || vc = 2) then n + 1 else n
  let s1 := ((s.takePacket r i vc).incFld (Pg.tnw r) (F.TNW_FLITS o) (p.len + 1)).netMap (fun x =>
    { x with last := FMap.set x.last (4 * inKey r o + vc) i, passed := FMap.setC x.passed (inKey r o) n' 0 })
  let s2 := s1.probesSee r o p
  match beyond r o with
  | .router r' i' =>
    if hasBridge r o then (s2.setBridge r' i' vc (s2.bridgeOf r' i' vc ++ [p])).settle r' i' vc else s2.pushQueue r' i' vc p
  | .client node =>
    let s3 := match edgeSide r o with
      | some e => s2.incFld (Pg.tnw r) (F.TNW_EDGE_OUT e) (p.len + 1)
      | none => s2
    (s3.meshIn node p).deliverPacket node p

/-- A router is in FAULT: the network carries nothing until a restart (R447). -/
def State.netFault (s : State) : Bool := (List.range 128).any (fun r => s.unit (Pg.tnw r) = uFault)

/-- A router forwards packets while it is ACTIVE. -/
def State.routes (s : State) (r : Nat) : Bool := s.unit (Pg.tnw r) = uActive

/-- GTS_DROP: a GTS head that has waited at its router 8,192 blk without a grant is discarded (R424). -/
def execGtsDrop (off : Nat) (r : Fin 128) (o : Fin 5) (i : Fin 5) (s : State) : Result :=
  let s0 := s.at off
  match s0.headAt r.val o.val i.val 1 with
  | some p =>
    if p.since + 8192 ≤ s0.count then
      .next (((s0.takePacket r.val i.val 1).incFld (Pg.tnw r.val) (F.TNW_GTS_GTS_DROP o.val)).raiseIrq
        (Pg.tnw r.val) 1)
    else .next s0
  | none => .next s0

/-- LINK_ECC_ERROR: a link error at a router's input is corrected, or the flit goes on poisoned (R445). -/
def execLinkEccError (off : Nat) (r : Fin 128) (i : Fin 5) (vc : Fin 4) (corrected : Bool) (s : State) : Result :=
  let s0 := s.at off
  let p := Pg.tnw r.val
  if corrected then .next (((s0.incFld p (F.TNW_ECC_b0 i.val)).raiseIrq p 2).transient p)
  else
    let q := s0.netQueue r.val i.val vc.val
    let s1 := s0.setNetQueue r.val i.val vc.val (onHead (fun h => { h with poison := true }) q)
    .next ((s1.incFld p (F.TNW_ECC_b16 i.val)).raiseIrq p 3)

end Sys2Proof.Machine
end

