-- ==== Sys2Proof/Machine/Memory.lean ====
section
/-!
DEFINITION. The DDR5 subsystem (R533 to R543, R558, R559, R562, R563) and the Cistern (R520 to R532, R556, R557, R561).
-/

set_option Elab.async false

namespace Sys2Proof.Machine

open Sys2Proof

/-! ### DDR5 -/

/-- A DDR5 channel with nothing recorded. -/
def Chan5.zero : Chan5 := ⟨[], [], [], [], [], [], 0, none, none, false⟩

/-- A channel's own part. -/
def State.chan5 (s : State) (c : Nat) : Chan5 := FMap.getD s.memory.chans c Chan5.zero

/-- A channel's own part set. -/
def State.setChan5 (s : State) (c : Nat) (x : Chan5) : State :=
  s.memMap (fun m => { m with chans := FMap.setC m.chans c x Chan5.zero })

/-- Every populated channel is ACTIVE (R562). -/
def State.ddrUp (s : State) : Bool :=
  0 < s.ddrChannels && (List.range s.ddrChannels).all (fun c => s.unit (Pg.dmc c) = uActive)

/-- Usable DDR bytes (R535). -/
def State.ddrBytes (s : State) : Nat := s.fld (Pg.dmc 0) F.DMC_SIZE * 2 ^ 20

/-- The DDR address of a channel-local address (R534). -/
def State.ddrGlobal (s : State) (c l : Nat) : Nat := (l / 1024 * max 1 s.ddrChannels + c) * 1024 + l % 1024

/-- The error of the last entry of DMC_LAST_ERR: 1 corrected, 2 uncorrectable, 3 CA parity. -/
def State.lastErr (s : State) (c row kind : Nat) : State :=
  (s.setFld (Pg.dmc c) F.DMC_LAST_ERR_b0 row).setFld (Pg.dmc c) F.DMC_LAST_ERR_b24 kind

/-- A row unit starts its retirement (R541, R559): it takes a free spare, and its copy runs or waits. With no spare
left the channel faults (R562). Log: entry 49 (DEDUCED). -/
def State.retireRow (s : State) (c row : Nat) : State :=
  let p := Pg.dmc c
  let x := s.chan5 c
  if row ∈ x.copying then s
  else if s.fld p F.DMC_SPARES_b0 = 0 then s.fail p 0x80
  else
    let s1 := ((s.decFld p F.DMC_SPARES_b0).incFld p F.DMC_SPARES_b14).raiseIrq p 2
    let s2 := if s1.fld p F.DMC_SPARES_b0 < 256 then s1.raiseIrq p 3 else s1
    (s2.setChan5 c { x with copying := x.copying ++ [row], mapped := row :: x.mapped.erase row,
                            track := x.track.filter (fun e => e.1 ≠ row) }).setSubRetired p true

/-- A corrected error of a row unit (R537, R541): counted, and the unit retires at CE_THR in its leaky window.
Log: entry 136 (DEDUCED). -/
def State.rowCorrected (s : State) (c row : Nat) : State :=
  let p := Pg.dmc c
  let s1 := (((s.incFld p F.DMC_CE).raiseIrq p 0).transient p).lastErr c row 1
  let x := s1.chan5 c
  let n := FMap.getD x.track row 0 + 1
  let s2 := s1.setChan5 c { x with track := ((row, n) :: x.track.filter (fun e => e.1 ≠ row)).take 256 }
  if max 2 (s1.inForce (Pg.dmc 0) F.DMC_ROW_CE_THR) ≤ n then s2.retireRow c row else s2

/-- The row units of a channel leak: each count falls by 1 (R186, R541). Log: entry 136 (DEDUCED). -/
def State.rowsLeak (s : State) (c : Nat) : State :=
  let x := s.chan5 c
  s.setChan5 c { x with track := (x.track.map (fun e => (e.1, e.2 - 1))).filter (fun e => e.2 ≠ 0) }

/-- The write-back of a correction was made by the other reader of the row unit: a patrol read of a line that a demand read has
mended in its turn, a demand read in the clock in which the patrol mended the line (R558). Log: entry 138 (DEDUCED). -/
def State.mendedBy (s : State) (c row line : Nat) (patrol : Bool) : Bool :=
  (s.chan5 c).mended.any (fun e => e.2.1 = row && e.2.2.1 = line &&
    (if patrol then !e.2.2.2 && e.1 / 65536 = s.turn else e.2.2.2 && e.1 = s.count))

/-- A corrected error and its write-back, which is made once (R537, R558). -/
def State.ddrMend (s : State) (c row line : Nat) (patrol : Bool) : State :=
  if s.mendedBy c row line patrol then s
  else
    let x := s.chan5 c
    (s.setChan5 c { x with mended := (s.count, row, line, patrol) :: x.mended.filter (fun e => e.1 / 65536 = s.turn) }).rowCorrected c row

/-- A DDR access meets an error (R537, R538). `line` is the 64 B line of the row unit. -/
def State.ddrError (s : State) (c row line : Nat) (patrol : Bool) (e : ReadErr) : State :=
  let p := Pg.dmc c
  match e with
  | .corrected => s.ddrMend c row line patrol
  | .retried => s.incFld p F.DMC_UE_RETRY_OK
  | .failed =>
    let bad := s.ddrGlobal c (8192 * row + 64 * line) / 64
    let s1 := (((s.incFld p F.DMC_UE_b0).raiseIrq p 1).lastErr c row 2).memMap (fun m =>
      { m with badDdr := if bad ∈ m.badDdr then m.badDdr else bad :: m.badDdr })
    s1.retireRow c row

/-- DDR_READ_ERROR: a demand read is corrected, or retried and repaired, or fails its last retry (R537, R538).
Log: entry 11 (DESIGN CHOICE). -/
def execDdrReadError (off : Nat) (c : Fin 8) (row : BitVec 24) (line : Fin 128) (e : ReadErr) (s : State) : Result :=
  .next ((s.at off).ddrError c.val row.toNat line.val false e)

/-- A channel's row units in its mapped space (R535): capacity less the 64 MiB spare pool, in 8 KiB. -/
def State.rowUnits (s : State) : Nat := s.fld (Pg.dmc 0) F.DMC_POP_b8 * 131072 - 8192

/-- A patrol read is due on a channel this turn (R539). -/
def State.patrolDue (s : State) (c : Nat) : Bool :=
  s.unit (Pg.dmc c) = uActive && s.turn % max 1 (s.inForce (Pg.dmc 0) F.DMC_SCRUB_SCRUB_INTERVAL) = 0 &&
  (s.chan5 c).scrubbed ≠ some s.turn

/-- The patrol moves to the next row unit; at the end of the channel a pass is complete, and each device's
error-check-scrub count is read (R533, R539). -/
def State.patrolNext (s : State) (c ecs : Nat) : State :=
  let x := s.chan5 c
  let wraps := s.rowUnits ≤ x.patrol + 1
  let s1 := s.setChan5 c { x with patrol := if wraps then 0 else x.patrol + 1, scrubbed := some s.turn }
  if wraps then (s1.incFld (Pg.dmc c) F.DMC_SCRUB_CNT_b0).setFld (Pg.dmc c) F.DMC_ECS ecs else s1

/-- PATROL_SCRUB: the turn's patrol read of a channel completes within SCRUB_TMO, with the errors it met and, at the
end of a pass, the largest device count (R539). Log: entry 49 (DEDUCED). -/
def execPatrolScrub (off : Nat) (c : Fin 8) (found : List (Fin 128 × ReadErr)) (ecs : Word) (s : State) : Result :=
  let s0 := s.at off
  if s0.patrolDue c.val && s0.count % 65536 ≤ s0.inForce (Pg.dmc 0) F.DMC_SCRUB_SCRUB_TMO then
    let row := (s0.chan5 c.val).patrol
    let s1 := found.foldl (fun (a : State) (e : Fin 128 × ReadErr) => a.ddrError c.val row e.1.val true e.2) s0
    .next (s1.patrolNext c.val ecs.toNat)
  else .next s0

/-- SCRUB_LATE: the patrol unit is not complete within SCRUB_TMO; it is counted and left (R539). -/
def execScrubLate (off : Nat) (c : Fin 8) (ecs : Word) (s : State) : Result :=
  let s0 := s.at off
  if s0.patrolDue c.val && s0.inForce (Pg.dmc 0) F.DMC_SCRUB_SCRUB_TMO ≤ s0.count % 65536 then
    .next (((s0.incFld (Pg.dmc c.val) F.DMC_SCRUB_CNT_SCRUB_LATE).raiseIrq (Pg.dmc c.val) 4).patrolNext c.val ecs.toNat)
  else .next s0

/-- A write of DMC_RETIRE: GO retires the row unit, or with HPPR on a PRIMED channel names it for the self-test's
hPPR (R541, R542). -/
def State.retireWritten (s : State) (c : Nat) : State :=
  let p := Pg.dmc c
  if s.bit p F.DMC_RETIRE_GO then
    let row := s.fld p F.DMC_RETIRE_b0
    let s1 := s.setFld p F.DMC_RETIRE_GO 0
    if s.bit p F.DMC_RETIRE_HPPR && s.unit p = uPrimed then
      s1.setChan5 c { (s1.chan5 c) with hard := (s1.chan5 c).hard ++ [row] }
    else s1.retireRow c row
  else s

/-- DMC_RETIRE_GO: DMC_RETIRE written (R541). -/
def execDmcRetireGo (off : Nat) (c : Fin 8) (v : Word) (s : State) : Result :=
  .next ((s.at off).onPage (Pg.dmc c.val) 0x054 (fun t => (t.write (Pg.dmc c.val) 0x054 v).retireWritten c.val))

/-- The bank group and rank of a row unit (R535). -/
def State.groupOf (s : State) (row : Nat) : Nat := row / 4 % (8 * 2 ^ s.fld (Pg.dmc 0) F.DMC_POP_b6)

/-- ROW_COPY_DONE: the oldest copy of a channel ends; `lost` are the lines it could not correct. With SPPR_EN and a
free soft repair the row is repaired, the spare copied back and freed (R541, R542). -/
def execRowCopyDone (off : Nat) (c : Fin 8) (lost : List (Fin 128)) (s : State) : Result :=
  let s0 := s.at off
  let x := s0.chan5 c.val
  match x.copying with
  | [] => .next s0
  | row :: rest =>
    let bad := lost.map (fun l => s0.ddrGlobal c.val (8192 * row + 64 * l.val) / 64)
    let s1 := s0.memMap (fun m => { m with badDdr := (bad.filter (fun l => !decide (l ∈ m.badDdr))) ++ m.badDdr })
    let g := s0.groupOf row
    if s0.inForce (Pg.dmc 0) F.DMC_PPR ≠ 0 && !decide (g ∈ x.softUsed) then
      let left := x.mapped.erase row
      .next (((s1.setChan5 c.val { x with copying := rest, mapped := left, softUsed := g :: x.softUsed }).setFld
        (Pg.dmc c.val) F.DMC_SPARES_b0 (s0.fld (Pg.dmc c.val) F.DMC_SPARES_b0 + 1)).setSubRetired (Pg.dmc c.val)
        (!left.isEmpty))
    else .next (s1.setChan5 c.val { x with copying := rest })

/-- DMC_FAULT: a command or address parity error, which faults the channel when repeated within a turn after its
retry; or a loss of training (R562). -/
def execDmcFault (off : Nat) (c : Fin 8) (parity : Bool) (s : State) : Result :=
  let s0 := s.at off
  let p := Pg.dmc c.val
  if parity then
    let s1 := ((s0.incFld p F.DMC_TEMP_CA).raiseIrq p 5).setFld p F.DMC_LAST_ERR_b24 3
    let x := s1.chan5 c.val
    let again : Bool := match x.parityAt with
      | some t => decide (s0.count ≤ t + 65536)
      | none => false
    let s2 := s1.setChan5 c.val { x with parityAt := some s0.count }
    .next (if again then s2.fail p Reason.hwError else s2)
  else .next (s0.fail p Reason.hwError)

/-- DIMM_THERMAL: the hottest DIMM of a channel reads a temperature; above 95 °C the channel runs at half rate until it
falls below 90 °C (R563). -/
def execDimmThermal (off : Nat) (c : Fin 8) (temp : BitVec 16) (s : State) : Result :=
  let s0 := s.at off
  let p := Pg.dmc c.val
  let x := s0.chan5 c.val
  let s1 := s0.setFld p F.DMC_TEMP_b0 temp.toNat
  if 95 * 8 < temp.toInt && !x.half then .next ((s1.raiseIrq p 6).setChan5 c.val { x with half := true })
  else if temp.toInt < 90 * 8 && x.half then .next (s1.setChan5 c.val { x with half := false })
  else .next s1

/-- The population read from the SPD hubs (R533, R565): channels, DIMMs per channel, log2 ranks, GiB per channel,
speed. A population that breaks Table DMC-1 faults every DMC unit with reason POPULATION. -/
def State.readSpd (s : State) (n dimms ranks gib : Nat) (fast : Bool) : State :=
  let v := n + 16 * dimms + 64 * ranks + 256 * gib + 65536 * bitOf fast
  let ok := decide (n ∈ [1, 2, 4, 8]) && 1 ≤ dimms && dimms ≤ 2 && ranks ≤ 2 && dimms ≤ ranks + 1 && ranks ≤ dimms && 16 ≤ gib && gib ≤ 128 && (fast == (dimms == 1))
  let s1 := (List.range 8).foldl (fun (a : State) c => a.setReg (regKey (Pg.dmc c) 0x040) (BitVec.ofNat 32 v)) s
  if ok then
    (List.range 8).foldl (fun (a : State) c => a.setFld (Pg.dmc c) F.DMC_SIZE (n * (1024 * gib - 64))) s1
  else (List.range 8).foldl (fun (a : State) c => (a.configured (Pg.dmc c)).fail (Pg.dmc c) 0x81) s1

/-! ### Cistern -/

/-- A bank's own part. -/
def State.bank (s : State) (b : Nat) : Bank := FMap.getD s.memory.banks b ⟨[], [], 0, 0⟩

/-- A bank's own part set, with its Float gauge. -/
def State.setBank (s : State) (b : Nat) (x : Bank) : State :=
  (s.memMap (fun m => { m with banks := FMap.setC m.banks b x ⟨[], [], 0, 0⟩ })).setFld (Pg.cst b) F.CST_FLOAT_b0
    x.fills.length

/-- Staging lines of a bank in force (R521). -/
def State.staging (s : State) : Nat := 256 * s.memory.stage

/-- Sets of a bank's cache (R521). -/
def State.cacheSets (s : State) : Nat := (4096 - s.staging) / 16

/-- Bytes of direct space (R523). -/
def State.directBytes (s : State) : Nat := 16 * s.staging * 1024

/-- An object entry: VALID, DDR base, length in B (R525). -/
def State.object (s : State) (wb o : Nat) : Bool × Nat × Nat :=
  let e := FMap.getD s.memory.objects (4096 * wb + o) (0, 0)
  (e.1 / 2 ^ 31 % 2 = 1, e.1 % 2 ^ 30 * 1024, e.2 % 2 ^ 17 * 1024)

/-- The cache tag of an object address (R526). -/
def objTag (addr : Nat) : Nat := addr / 2 ^ 38 % 2 * 2 ^ 28 + addr / 2 ^ 26 % 2 ^ 12 * 2 ^ 16 + addr / 2 ^ 10 % 2 ^ 16

/-- The bank of a Cistern address (Table CST-1). -/
def bankOf (addr : Nat) : Nat :=
  if addr / 2 ^ 39 % 2 = 0 then addr / 1024 % 16 else (addr / 2 ^ 26 % 4096 + addr / 1024 % 16) % 16

/-- The set of a tag (R526). -/
def State.setOf (s : State) (tag : Nat) : Nat := crc32c (beBytes 4 tag) % max 1 s.cacheSets

/-- The DDR address of a tag's line (R525). -/
def State.tagDdr (s : State) (tag : Nat) : Nat :=
  (s.object (tag / 2 ^ 28 % 2) (tag / 2 ^ 16 % 4096)).2.1 + tag % 2 ^ 16 * 1024

/-- The NACK causes of Table CST-2. -/
def Nack.range : Nat := 0x10
def Nack.noObject : Nat := 0x11
def Nack.readOnly : Nat := 0x12
def Nack.ddrDown : Nat := 0x13

/-- Why a bank refuses a request of `n` bytes at an address (R524), before the DDR is asked. -/
def State.cstCause (s : State) (b addr n : Nat) (write : Bool) : Option Nat :=
  let malformed := n = 0 || 1024 < n || addr % 64 ≠ 0 || 1024 < addr % 1024 + n || bankOf addr ≠ b
  if addr / 2 ^ 39 % 2 = 0 then
    if malformed || s.directBytes < addr + n || 2 ^ 26 ≤ addr then some Nack.range else none
  else if write then some Nack.readOnly
  else
    let e := s.object (addr / 2 ^ 38 % 2) (addr / 2 ^ 26 % 4096)
    if !e.1 then some Nack.noObject
    else if malformed || e.2.2 < addr % 2 ^ 26 + n then some Nack.range
    else none

/-- Direct bytes read poison? -/
def State.directPoison (s : State) (a n : Nat) : Bool :=
  (linesOf a n).any (fun l => decide (l ∈ s.memory.badDirect))

/-- Direct bytes written; a line written whole reads poison no longer. Log: entry 108 (DEDUCED). -/
def State.directWrite (s : State) (a : Nat) (b : List Nat) : State :=
  s.memMap (fun m => { m with
    direct := Mem.store 0 m.direct a b
    badDirect := m.badDirect.filter (fun l => !(a ≤ 64 * l && 64 * l + 64 ≤ a + b.length)) })

/-- A direct access counted; the register counts thousands of lines (Table CST-5). Log: entry 50 (DEDUCED). -/
def State.countDirect (s : State) (b : Nat) (write : Bool) : State :=
  let x := s.bank b
  if write then
    if x.writes + 1 = 1000 then (s.setBank b { x with writes := 0 }).incFld (Pg.cst b) F.CST_DIRECT_b16
    else s.setBank b { x with writes := x.writes + 1 }
  else if x.reads + 1 = 1000 then (s.setBank b { x with reads := 0 }).incFld (Pg.cst b) F.CST_DIRECT_b0
  else s.setBank b { x with reads := x.reads + 1 }

/-- A tag's line in a bank's cache. -/
def State.cached (s : State) (b tag : Nat) : Option CLine := (s.bank b).lines.find? (fun l => l.tag = tag)

/-- A cached line used now. -/
def State.touch (s : State) (b tag : Nat) : State :=
  let n := s.memory.useSeq
  let x := s.bank b
  (s.memMap (fun m => { m with useSeq := n + 1 })).setBank b
    { x with lines := x.lines.map (fun l => if l.tag = tag then { l with used := n } else l) }

/-- What a bank answers from a line. -/
def answerFrom (l : CLine) (p : Packet) : Packet :=
  p.replyData (sliceOf l.bytes (p.addr % 1024) (64 * (p.aux % 32))) l.poison

/-- A request answered with a NACK (R524). -/
def State.cstNack (s : State) (b : Nat) (p : Packet) (cause : Nat) : State :=
  (s.incFld (Pg.cst b) F.CST_NACK).inject (p.reply 4 cause)

/-- A tag met by a bank for a read: hit, merge, new fill (R527); none where no fill entry is free (R528). `p` is the
request to answer, none for a prefetch (R530). -/
def State.objectRead (s : State) (b tag : Nat) (p : Option Packet) : Option State :=
  let pg := Pg.cst b
  match s.cached b tag with
  | some l =>
    let s1 := (s.touch b tag).incFld pg F.CST_HITS
    some (match p with
      | some q => s1.inject (answerFrom l q)
      | none => s1)
  | none =>
    let x := s.bank b
    if x.fills.any (fun f => f.tag = tag) then
      let s1 := s.setBank b { x with fills := x.fills.map (fun f =>
        if f.tag = tag then { f with reqs := f.reqs ++ p.toList } else f) }
      some (if p.isSome then s1.incFld pg F.CST_MERGES else s1)
    else if !s.ddrUp then
      some (match p with
        | some q => s.cstNack b q Nack.ddrDown
        | none => s)
    else if 64 ≤ x.fills.length then none
    else some ((s.setBank b { x with fills := x.fills ++ [⟨tag, p.toList, true, s.tagDdr tag⟩] }).incFld pg F.CST_FILLS)

/-- CISTERN_READ_REQ: a bank handles the request at its head (R524, R527); with no fill entry free it accepts none (R528). -/
def execCisternReadReq (off : Nat) (b : Fin 16) (s : State) : Result :=
  let s0 := s.at off
  let node := edgeNode 2 b.val
  match s0.edgeIn node with
  | [] => .next s0
  | p :: rest =>
    if s0.unit (Pg.cst b.val) ≠ uActive || 64 ≤ (s0.bank b.val).fills.length then .next s0
    else
      let s1 := s0.setEdge node rest
      let n := if p.type = 0 then 64 * (p.aux % 32) else p.data.length
      match s0.cstCause b.val p.addr n (p.type = 1) with
      | some cause => .next (s1.cstNack b.val p cause)
      | none =>
        if p.addr / 2 ^ 39 % 2 = 1 then
          match s1.objectRead b.val (objTag p.addr) (some p) with
          | some s2 => .next s2
          | none => .next s0
        else if p.type = 0 then
          .next ((s1.countDirect b.val false).inject (p.replyData (Mem.bytes 0 s1.memory.direct p.addr n)
            (s1.directPoison p.addr n)))
        else .next (((s1.countDirect b.val true).directWrite p.addr p.data).inject (p.reply 3 0))

/-- A line installed, over the least recently used way of its set where the set is full (R529). -/
def State.installLine (s : State) (b : Nat) (l : CLine) : State :=
  let x := s.bank b
  let inSet := x.lines.filter (fun m => s.setOf m.tag = s.setOf l.tag)
  let victim := if inSet.length < 16 then none
    else (inSet.foldl (fun (v : Option CLine) m => match v with
      | some w => if m.used < w.used then some m else some w
      | none => some m) none)
  let kept := match victim with
    | some v => x.lines.filter (fun m => m.tag ≠ v.tag)
    | none => x.lines
  let n := s.memory.useSeq
  (s.memMap (fun m => { m with useSeq := n + 1 })).setBank b { x with lines := { l with used := n } :: kept }

/-- FILL_RETURN: the DDR read of a pending fill returns; the line is installed and every attached request answered in
order (R527, R557). A read of a row unit being copied waits (R541); with a channel out the requests are refused (R562). -/
def execFillReturn (off : Nat) (b : Fin 16) (n : Fin 64) (s : State) : Result :=
  let s0 := s.at off
  let x := s0.bank b.val
  match x.fills[n.val]? with
  | none => .next s0
  | some f =>
    let l : CLine := ⟨f.tag, s0.ddrRead f.addr 1024, s0.ddrPoison f.addr 1024, 0⟩
    let s1 := s0.setBank b.val { x with fills := x.fills.eraseIdx n.val }
    if s0.ddrBusy f.addr 1024 then .next s0
    else if !s0.ddrUp then .next (f.reqs.foldl (fun (a : State) (p : Packet) => a.cstNack b.val p Nack.ddrDown) s1)
    else
    let s2 := if f.keep && 0 < s0.cacheSets then s1.installLine b.val l else s1
    .next (f.reqs.foldl (fun (a : State) (p : Packet) => a.inject (answerFrom l p)) s2)

/-- The cached and pending lines of a weight bank's object invalidated in every bank (R532, R557). -/
def State.invalidate (s : State) (wb o : Nat) : State :=
  let hit := fun (tag : Nat) => tag / 2 ^ 28 % 2 = wb && tag / 2 ^ 16 % 4096 = o
  (FMap.keys s.memory.banks).foldl (fun (a : State) b =>
    let x := a.bank b
    a.setBank b { x with lines := x.lines.filter (fun l => !hit l.tag),
                         fills := x.fills.map (fun f => if hit f.tag then { f with keep := false } else f) }) s

/-- A write of CST_TBL_DATA (R525, R532): ignored, recorded and flagged for a live weight bank. -/
def State.tableWrite (s : State) (v : Word) (size : Nat := 2) : State :=
  let pg := Pg.cst 0
  let k := s.fld pg F.CST_TBL_ADDR_b0
  let wb := k / 4096
  if (s.fld pg F.CST_LIVE >>> wb) % 2 = 1 then
    (s.recordFault (fullPart pg 0x04C size) Cause.rsvdSet).raiseIrq pg 3
  else
    let e := FMap.getD s.memory.objects k (0, 0)
    let e' := if s.bit pg F.CST_TBL_ADDR_WORD then (e.1, v.toNat % 2 ^ 17) else (v.toNat, e.2)
    (s.memMap (fun m => { m with objects := FMap.setC m.objects k e' (0, 0) })).invalidate wb (k % 4096)

/-- OBJECT_TABLE_WRITE: a write of CST_TBL_DATA (R532). -/
def execObjectTableWrite (off : Nat) (v : Word) (s : State) : Result :=
  .next ((s.at off).onPage (Pg.cst 0) 0x04C (fun t => t.tableWrite v))

/-- The word of the object table that CST_TBL_ADDR names (R525). -/
def State.tableRead (s : State) : Word :=
  let e := FMap.getD s.memory.objects (s.fld (Pg.cst 0) F.CST_TBL_ADDR_b0) (0, 0)
  BitVec.ofNat 32 (if s.bit (Pg.cst 0) F.CST_TBL_ADDR_WORD then e.2 else e.1)

/-- A line of a bank retired to a spare; without one the bank faults and every bank is fenced (R561). -/
def State.retireLine (s : State) (b : Nat) : State :=
  let pg := Pg.cst b
  if s.fld pg F.CST_FLOAT_b8 = 0 then
    (List.range 16).foldl (fun (a : State) k => a.fence (Pg.cst k) Reason.parent) (s.fail pg 0x80)
  else ((s.decFld pg F.CST_FLOAT_b8).raiseIrq pg 2).setSubRetired pg true

/-- CISTERN_SRAM_ERROR: a corrected error; or an uncorrectable one in a cached line, which is invalidated and refetched,
or in a staging line, which returns poison (R561). -/
def execCisternSramError (off : Nat) (b : Fin 16) (e : CstError) (s : State) : Result :=
  let s0 := s.at off
  let pg := Pg.cst b.val
  match e with
  | .corrected => .next (((s0.incFld pg F.CST_ECC_b0).raiseIrq pg 0).transient pg)
  | .line tag =>
    let s1 := (s0.incFld pg F.CST_ECC_b16).raiseIrq pg 1
    let x := s1.bank b.val
    let s2 := s1.setBank b.val { x with lines := x.lines.filter (fun l => l.tag ≠ tag.toNat) }
    let s3 := ((s0.cached b.val tag.toNat).bind (fun _ => s2.objectRead b.val tag.toNat none)).getD s2
    .next (s3.retireLine b.val)
  | .staging n =>
    let s1 := (s0.incFld pg F.CST_ECC_b16).raiseIrq pg 1
    let bad := (List.range 16).map (fun k => (16 * n.val + b.val) * 16 + k)
    .next ((s1.memMap (fun m => { m with badDirect := bad.filter (fun l => !decide (l ∈ m.badDirect)) ++ m.badDirect })).retireLine
      b.val)

/-- CST_LIVE at a boundary: the weight banks that ACTIVE tiles have in force (R532). -/
def State.liveBoundary (s : State) : State :=
  let live := fun (wb : Nat) => (List.range 128).any (fun t =>
    s.unit (Pg.tile t) = uActive && s.fld (Pg.tile t) F.MTL_STATUS_b4 = wb)
  s.setFld (Pg.cst 0) F.CST_LIVE (bitOf (live 0) + 2 * bitOf (live 1))

end Sys2Proof.Machine
end

