-- ==== Sys2Proof/Machine/Pumps.lean ====
section
/-!
DEFINITION. The Pumps (R544 to R552, R554, R555, R560, R564): ring contexts, descriptors, chunks, completions, and the
function limits of R614.
-/

set_option Elab.async false

namespace Sys2Proof.Machine

open Sys2Proof

/-- The Pumps' own part changed. -/
def State.pumpMap (s : State) (f : Pumps → Pumps) : State := { s with pumps := f s.pumps }

/-- A ring context. -/
def State.ctx (s : State) (p r : Nat) : Ctx := FMap.getD s.pumps.ctxs (8 * p + r) ⟨0, [], none, 0⟩

/-- A ring context set. -/
def State.setCtx (s : State) (p r : Nat) (c : Ctx) : State :=
  s.pumpMap (fun x => { x with ctxs := FMap.setC x.ctxs (8 * p + r) c ⟨0, [], none, 0⟩ })

/-- A context's owner: a function index, 0xFE the firmware, 0xFF none (Table PMP-4). -/
def State.owner (s : State) (p r : Nat) : Nat := s.fld (Pg.pmp p) (F.PMP_RING_CTL_OWNER r)

/-- The function whose requester ID a context's HOST accesses carry (R546). -/
def State.ownerFn (s : State) (p r : Nat) : Nat := if s.owner p r < 62 then s.owner p r else 0

/-- The limits of R614 apply to PF1 and the tenants. -/
def State.limited (s : State) (p r : Nat) : Bool := 1 ≤ s.owner p r && s.owner p r ≤ 61

/-- Ring entries: 2^4 to 2^16; other sizes are treated as 4 (Table PMP-4). -/
def State.ringSize (s : State) (p r : Nat) : Nat :=
  let n := s.fld (Pg.pmp p) (F.PMP_RING_CTL_b17 r)
  2 ^ (if 4 ≤ n && n ≤ 16 then n else 4)

/-- A context runs: its Pump is ACTIVE, it is enabled and has an owner. -/
def State.ctxRuns (s : State) (p r : Nat) : Bool :=
  s.unit (Pg.pmp p) = uActive && s.bit (Pg.pmp p) (F.PMP_RING_CTL_ENABLE r) &&
  !s.bit (Pg.pmp p) (F.PMP_RING_HEAD_HALTED r) && s.owner p r ≠ 0xFF

/-! ### Spaces (Table PMP-1, R614) -/

def Space.host : Nat := 0
def Space.ddr : Nat := 1
def Space.cistern : Nat := 2
def Space.tile : Nat := 3

/-- The Pump statuses of Table PMP-3. -/
def PStat.ok : Nat := 0
def PStat.abortBme : Nat := 1
def PStat.cancelledReset : Nat := 2
def PStat.timeout : Nat := 3
def PStat.poison : Nat := 4
def PStat.addrFault : Nat := 5
def PStat.pcieErr : Nat := 6
def PStat.cancelled : Nat := 7

/-- A run of `n` bytes lies in a window. -/
def inWindow (a n base size : Nat) : Bool := base ≤ a && a + n ≤ base + size

/-- The Cistern banks of a run of bytes are ACTIVE. -/
def State.banksUp (s : State) (a n : Nat) : Bool :=
  (List.range ((a % 1024 + n + 1023) / 1024)).all (fun k => s.unit (Pg.cst (bankOf (a / 1024 * 1024 + 1024 * k))) = uActive)

/-- May a context use `n` bytes of a space at an address (R614, R562, R524)? -/
def State.spaceOk (s : State) (p r space a n : Nat) (write : Bool) : Bool :=
  let f := s.owner p r
  let lim := s.limited p r
  let g := Pg.pci 2
  if space = Space.host then true
  else if space = Space.ddr then
    s.ddrUp && a + n ≤ s.ddrBytes &&
    (!lim || inWindow a n (s.fld g (F.PCI_FN_DDR_BASE f) * 2 ^ 20) (s.fld g (F.PCI_FN_DDR_SIZE f) * 2 ^ 20))
  else if space = Space.cistern then
    if a / 2 ^ 39 % 2 = 0 then
      a + n ≤ s.directBytes && s.banksUp a n &&
      (!lim || inWindow a n (s.fld g (F.PCI_FN_CST_BASE f) * 2 ^ 14) (s.fld g (F.PCI_FN_CST_SIZE f) * 2 ^ 14))
    else
      let e := s.object (a / 2 ^ 38 % 2) (a / 2 ^ 26 % 4096)
      !write && !lim && e.1 && a % 2 ^ 26 + n ≤ e.2.2 && s.ddrUp && s.banksUp a n
  else if space = Space.tile then
    let node := a / 2 ^ 40 % 256
    let t := tileAt node
    node < 128 && a % 2 ^ 20 + n ≤ storeSize t && (s.unit (Pg.tile t) = uReady || s.unit (Pg.tile t) = uActive) &&
    (!lim || s.bit g (F.PCI_FN_CTL_TILE_OK f))
  else false

/-- Bytes of an object read through its bank's cache, line by line (R527). Log: entry 46 (DESIGN CHOICE). -/
def State.objectBytes (s : State) (a : Nat) : Nat → List Nat × Bool × State
  | 0 => ([], false, s)
  | k + 1 =>
    let tag := objTag a
    let b := bankOf a
    let d := s.tagDdr tag
    let l := (s.cached b tag).getD ⟨tag, s.ddrRead d 1024, s.ddrPoison d 1024, 0⟩
    let s1 := if (s.cached b tag).isSome then (s.touch b tag).incFld (Pg.cst b) F.CST_HITS
      else (s.installLine b l).incFld (Pg.cst b) F.CST_FILLS
    let rest := s1.objectBytes ((a / 1024 + 1) * 1024) k
    (l.bytes.drop (a % 1024) ++ rest.1, l.poison || rest.2.1, rest.2.2)

/-- `n` bytes read from a space other than HOST, and whether any is poisoned. -/
def State.readSpace (s : State) (space a n : Nat) : List Nat × Bool × State :=
  if space = Space.ddr then (s.ddrRead a n, s.ddrPoison a n, s)
  else if space = Space.cistern then
    if a / 2 ^ 39 % 2 = 0 then (Mem.bytes 0 s.memory.direct a n, s.directPoison a n, s.countDirect (bankOf a) false)
    else
      let x := s.objectBytes a ((a % 1024 + n + 1023) / 1024)
      (x.1.take n, x.2.1, x.2.2)
  else (Mem.bytes 0 (s.tile (tileAt (a / 2 ^ 40 % 256))).store (a % 2 ^ 20) n, false, s)

/-- Bytes written to a space; a HOST write is posted with the function's requester ID (R546, R550).
Log: entry 46 (DESIGN CHOICE). -/
def State.writeSpace (s : State) (fn space a : Nat) (b : List Nat) : State :=
  if space = Space.host then s.emit (.hostWrite fn a b)
  else if space = Space.ddr then s.ddrWrite a b
  else if space = Space.cistern then (s.directWrite a b).countDirect (bankOf a) true
  else s.storeTile (tileAt (a / 2 ^ 40 % 256)) (a % 2 ^ 20) b

/-! ### Completion (R547, R552, R613) -/

/-- The context slot of function `f` bound to a Pump context (R611). -/
def State.boundSlot (s : State) (f p r : Nat) : Option Nat :=
  let g := Pg.pci 3
  (List.range 8).find? (fun k =>
    let j := k / 2
    if k % 2 = 0 then
      s.bit g (F.PCI_CTX_BIND_b15 f j) && s.fld g (F.PCI_CTX_BIND_b0 f j) = p && s.fld g (F.PCI_CTX_BIND_b5 f j) = r
    else s.bit g (F.PCI_CTX_BIND_b31 f j) && s.fld g (F.PCI_CTX_BIND_b16 f j) = p && s.fld g (F.PCI_CTX_BIND_b21 f j) = r)

/-- The completion record of Table PMP-2. -/
def Desc.record (d : Desc) (r status count : Nat) : List Nat :=
  leBytes 4 d.cookie ++ [status, r, 0, 0] ++ leBytes 4 d.moved ++ leBytes 4 (count % 2 ^ 32)

/-- The record written, then the head index, then the vector, in that order (R613). -/
def State.postRecord (s : State) (p r status : Nat) (d : Desc) : State :=
  let g := Pg.pmp p
  let fn := s.ownerFn p r
  let a := s.fld g (F.PMP_CPL_BASE_LO r) + 2 ^ 32 * s.fld g (F.PMP_CPL_BASE_HI r) + 16 * (d.index % s.ringSize p r)
  let space := if s.fld g (F.PMP_RING_CTL_b22 r) = 2 then Space.cistern else Space.host
  let s1 := s.writeSpace fn space a (d.record r status s.count)
  if s.owner p r = 0 then s1.raiseVector 0 3
  else if !s.limited p r then s1
  else match s.boundSlot fn p r with
    | none => s1
    | some k =>
      let l := localPage fn (1 + k)
      let wb := s.fld l F.LOC_CS_WB_LO + 2 ^ 32 * s.fld l F.LOC_CS_WB_HI
      let s2 := if wb = 0 then s1 else s1.emit (.hostWrite fn wb (leBytes 4 (s.fld g (F.PMP_RING_HEAD_b0 r))))
      if s.bit l F.LOC_CS_CFG_IRQ_EN then s2.slotRaise fn k (s.fld l F.LOC_CS_CFG_VEC) (s.fld l F.LOC_CS_CFG_HOLDOFF)
      else s2

/-- A descriptor completes with a status: the head index, the counters, its record where one is due. `record` is off
for a function whose FLR has begun (R633). -/
def State.complete (s : State) (p r : Nat) (d : Desc) (status : Nat) (record : Bool) : State :=
  let g := Pg.pmp p
  let s1 := if d.pp then s else s.setFld g (F.PMP_RING_HEAD_b0 r) (d.index + 1)
  let s2 := (s1.incFld g F.PMP_DONE).incWide g F.PMP_BYTES_LO d.moved
  let s3 := if status = PStat.ok then s2 else (s2.incFld g F.PMP_ERR_b0).raiseIrq g 0
  let s4 := if status = PStat.timeout then (s3.incFld g F.PMP_ERR_TIMEOUT).raiseIrq g 1 else s3
  let s5 := if d.pp && status = PStat.ok then s4.writeSpace (s.ownerFn p r) d.dstSpace (d.dst + d.len) [1, 0, 0, 0]
    else s4
  if record && (status ≠ PStat.ok || (d.irq && !d.pp)) then s5.postRecord p r status d else s5

/-- A context halts: its descriptors in progress complete, what stands behind them stays in the ring (R545, R554,
R555). Log: entry 47 (DESIGN CHOICE). -/
def State.haltCtx (s : State) (p r status : Nat) (record : Bool) : State :=
  let g := Pg.pmp p
  let c := s.ctx p r
  let s1 := c.work.foldl (fun (a : State) (d : Desc) => a.complete p r d status record) s
  let s2 := s1.setCtx p r { c with work := [], due := none, next := s1.fld g (F.PMP_RING_HEAD_b0 r) }
  ((s2.setFld g (F.PMP_RING_CTL_ENABLE r) 0).setFld g (F.PMP_RING_HEAD_HALTED r) 1).raiseIrq g 3

/-- Every context of a function halts. -/
def State.haltOwner (s : State) (fn status : Nat) (record : Bool) : State :=
  (List.range 256).foldl (fun (a : State) k =>
    if a.owner (k / 8) (k % 8) = fn && (a.bit (Pg.pmp (k / 8)) (F.PMP_RING_CTL_ENABLE (k % 8)) ||
      !(a.ctx (k / 8) (k % 8)).work.isEmpty) then a.haltCtx (k / 8) (k % 8) status record else a) s

/-- A Pump leaves ACTIVE: its contexts complete their descriptors in progress with CANCELLED (Table PMP-3). -/
def State.pumpLeaves (s : State) (p : Nat) : State :=
  (List.range 8).foldl (fun (a : State) r =>
    if (a.ctx p r).work.isEmpty then a else a.haltCtx p r PStat.cancelled true) s

/-! ### Chunks (R547 to R549) -/

/-- Reads a Pump has outstanding. -/
def State.readsOut (s : State) (p : Nat) : Nat :=
  (s.pumps.tags.filter (fun e => e.2.pump = p && !e.2.orphan)).length

/-- Bytes a Pump's outstanding reads will return (R548). -/
def State.bufferOut (s : State) (p : Nat) : Nat :=
  ((s.pumps.tags.filter (fun e => e.2.pump = p && !e.2.orphan)).map (fun e => e.2.len)).foldl (· + ·) 0

/-- The tag pool's gauge brought up to date (Table PCI-9). -/
def State.syncTagGauge (s : State) : State := s.setFld (Pg.pci 0) F.PCI_TAGS_b16 s.pumps.tags.length

/-- One HOST read of a descriptor issued under a tag (R548, R549), none where a limit holds it back. -/
def State.issueRead (s : State) (p r : Nat) (d : Desc) (n retries : Nat) (off : Nat) : Option State :=
  let limit := max 1 (s.fld (Pg.pmp p) F.PMP_CFG)
  if limit ≤ s.readsOut p || 65536 < s.bufferOut p + n then none
  else s.freeTag.map (fun t =>
    let fn := s.ownerFn p r
    let gen := s.fld (Pg.pci 2) (F.PCI_FN_STAT_b4 fn)
    ((s.pumpMap (fun x => { x with tags := FMap.set x.tags t ⟨fn, gen, false, p, r, d.index, off, n, retries⟩ })).emit
      (.hostRead fn (d.src + off) n t)).syncTagGauge)

/-- The HOST reads of a chunk: up to `n` bytes from `issued` on, each at most Max Read Request Size. -/
def State.issueReads (s : State) (p r n : Nat) : Nat → Desc → State × Desc
  | 0, d => (s, d)
  | k + 1, d =>
    let m := min n (max 128 s.pcie.readSize)
    if m = 0 then (s, d)
    else match s.issueRead p r d m 0 d.issued with
      | none => (s, d)
      | some s1 => s1.issueReads p r (n - m) k { d with issued := d.issued + m, reads := d.reads + 1 }

/-- A pattern of 8 bytes repeated from an offset (Table PMP-1, FILL). -/
def fillBytes (pattern off n : Nat) : List Nat := (List.range n).map (fun i => pattern / 256 ^ ((off + i) % 8) % 256)

/-- A prefetch's lines: each a hit or a miss of its bank (R530), up to where a bank has no fill entry. -/
def State.prefetch (s : State) (d : Desc) : Nat → Nat → State × Nat
  | 0, done => (s, done)
  | k + 1, done =>
    if d.len ≤ d.issued + done then (s, done)
    else
      let a := d.dst + d.issued + done
      let step := min (1024 - a % 1024) (d.len - d.issued - done)
      match s.objectRead (bankOf a) (objTag a) none with
      | none => (s, done)
      | some s1 => s1.prefetch d k (done + step)

/-- A run of bytes in DDR lies in a row unit being copied: its chunk waits (R541). -/
def State.rowWaits (s : State) (space a n : Nat) : Bool := space = Space.ddr && s.ddrBusy a n

/-- The next chunk of a descriptor, at most 4 KiB (R547). Log: entry 46 (DESIGN CHOICE). -/
def State.chunk (s : State) (p r : Nat) (d : Desc) : State × Desc :=
  let n := min 4096 (d.len - d.issued)
  let dst := d.dst + d.issued
  let src := d.src + d.issued
  let fn := s.ownerFn p r
  let bad := (s, { d with ended := some PStat.addrFault })
  if d.op = 3 then (s, { d with issued := d.len, moved := 0 })
  else if 3 < d.op || 3 < d.srcSpace || 3 < d.dstSpace || d.len = 0 || 2 ^ 24 < d.len then bad
  else if d.op = 2 then
    if d.dstSpace = Space.cistern && dst / 2 ^ 39 % 2 = 1 && s.spaceOk p r Space.cistern dst n false then
      let x := s.prefetch d 5 0
      (x.1, { d with issued := d.issued + x.2, moved := d.moved + x.2, since := if x.2 = 0 then d.since else s.count })
    else bad
  else if s.rowWaits d.dstSpace dst n || (d.op = 0 && s.rowWaits d.srcSpace src n) then (s, d)
  else if !s.spaceOk p r d.dstSpace dst n true then bad
  else if d.op = 1 then
    (s.writeSpace fn d.dstSpace dst (fillBytes d.src d.issued n),
      { d with issued := d.issued + n, moved := d.moved + n, since := s.count })
  else if d.srcSpace = Space.host then s.issueReads p r n 32 d
  else if !s.spaceOk p r d.srcSpace src n false then bad
  else
    let x := s.readSpace d.srcSpace src n
    if x.2.1 then (x.2.2, { d with ended := some PStat.poison })
    else (x.2.2.writeSpace fn d.dstSpace dst x.1,
      { d with issued := d.issued + n, moved := d.moved + n, since := s.count })

/-- A descriptor read from its 32 bytes (Table PMP-1). -/
def Desc.ofBytes (b : List Nat) (index now : Nat) : Desc :=
  let n := fun (o k : Nat) => leNat (sliceOf b o k)
  ⟨index, n 0 8, n 8 8, n 16 4, n 20 1, n 21 1 % 2 = 1, n 22 1 % 16, n 22 1 / 16, n 24 4, 0, 0, 0, 0, now, none, false⟩

/-- A descriptor is ordered after every earlier one (Table PMP-1). -/
def orderBit (b : List Nat) : Bool := leNat (sliceOf b 21 1) / 2 % 2 = 1

/-- The bytes of ring entry `i`: from the Cistern, or the host bytes given. Log: entry 47 (DESIGN CHOICE). -/
def State.ringEntry (s : State) (p r i : Nat) (host : List Nat) : List Nat :=
  let g := Pg.pmp p
  let a := s.fld g (F.PMP_RING_BASE_LO r) + 2 ^ 32 * s.fld g (F.PMP_RING_BASE_HI r) + 32 * (i % s.ringSize p r)
  if s.fld g (F.PMP_RING_CTL_b22 r) = 2 then Mem.bytes 0 s.memory.direct a 32
  else (host ++ List.replicate 32 0).take 32

/-- A ring's entry fetched from the host where the ring lies there (R546). -/
def State.fetchEntry (s : State) (p r i : Nat) : State :=
  let g := Pg.pmp p
  if s.fld g (F.PMP_RING_CTL_b22 r) = 2 then s
  else s.emit (.hostFetch (s.ownerFn p r)
    (s.fld g (F.PMP_RING_BASE_LO r) + 2 ^ 32 * s.fld g (F.PMP_RING_BASE_HI r) + 32 * (i % s.ringSize p r)) 32)

/-- Work of a context: an unissued part of a descriptor in progress, a due ping-pong execution, or a descriptor that
RING_OUT lets it start (R549); a draining Pump takes nothing new. -/
def State.hasWork (s : State) (p r : Nat) : Bool :=
  let c := s.ctx p r
  let g := Pg.pmp p
  let left := c.work.any (fun d => d.ended.isNone && d.issued < d.len)
  (s.unit g = uDraining && left) ||
  (s.ctxRuns p r && (left || (c.due.isSome && c.work.isEmpty) ||
    (!s.bit g (F.PMP_RING_CTL_PP r) && c.work.length ≤ s.fld g (F.PMP_RING_CTL_RING_OUT r) &&
     c.next ≠ s.fld g (F.PMP_RING_TAIL r))))

/-- The context whose chunk is next: ascending, WEIGHT chunks each per round (R547). -/
def State.nextCtx (s : State) (p : Nat) : Option Nat :=
  let cur := FMap.getD s.pumps.round p 0
  let stay := s.hasWork p cur && (s.ctx p cur).took ≤ s.fld (Pg.pmp p) (F.PMP_RING_CTL_WEIGHT cur)
  if stay then some cur else ((List.range 8).map (fun k => (cur + 1 + k) % 8)).find? (fun r => s.hasWork p r)

/-- A context's turn in the round noted. -/
def State.noteRound (s : State) (p r : Nat) : State :=
  let cur := FMap.getD s.pumps.round p 0
  let s1 := if cur = r then s else s.setCtx p cur { (s.ctx p cur) with took := 0 }
  let c := s1.ctx p r
  (s1.setCtx p r { c with took := c.took + 1 }).pumpMap (fun x => { x with round := FMap.set x.round p r })

/-- The owner word of a ping-pong buffer, where its space is not HOST. -/
def State.ownerWord (s : State) (space a : Nat) (host : List Nat) : Nat :=
  if space = Space.host then leNat (host.take 4) else leNat (s.readSpace space a 4).1

/-- A descriptor's work replaced in its context. -/
def State.putDesc (s : State) (p r : Nat) (d : Desc) : State :=
  let c := s.ctx p r
  s.setCtx p r { c with work := c.work.map (fun e => if e.index = d.index then d else e) }

/-- A due ping-pong execution starts, or is skipped because the consumer owns the buffer (R552). -/
def State.startPingPong (s : State) (p r turn : Nat) (host : List Nat) : State :=
  let g := Pg.pmp p
  let b := s.ringEntry p r 0 host
  let d0 := Desc.ofBytes b 0 s.count
  let d : Desc := { d0 with pp := true, dst := d0.dst + (if turn % 2 = 1 then s.fld g (F.PMP_PP_STRIDE r) else 0) }
  let c := s.ctx p r
  let rest := if s.fld g (F.PMP_RING_CTL_b22 r) = 2 then host else host.drop 32
  let s1 := (s.fetchEntry p r 0).setCtx p r { c with due := none }
  if s.ownerWord d.dstSpace (d.dst + d.len) rest ≠ 0 then (s1.incFld g (F.PMP_PP_SKIP r)).raiseIrq g 2
  else
    let x := s1.chunk p r d
    x.1.setCtx p r { (x.1.ctx p r) with work := [x.2] }

/-- PUMP_CHUNK: a Pump takes one chunk from the context whose round it is, starting a descriptor where none in progress
is unissued. `host` is what the host's memory gives where the ring, or a ping-pong owner word, lies there (R546 to R549,
R552). Log: entry 47 (DESIGN CHOICE). -/
def execPumpChunk (off : Nat) (p : Fin 32) (host : List (BitVec 8)) (s : State) : Result :=
  let s0 := s.at off
  let h := host.map BitVec.toNat
  match s0.nextCtx p.val with
  | none => .next s0
  | some r =>
    let s1 := s0.noteRound p.val r
    let c := s1.ctx p.val r
    match c.work.find? (fun d => d.ended.isNone && d.issued < d.len) with
    | some d =>
      let x := s1.chunk p.val r d
      .next (x.1.putDesc p.val r x.2)
    | none =>
      match c.due with
      | some t => .next (s1.startPingPong p.val r t h)
      | none =>
        let b := s1.ringEntry p.val r c.next h
        if (orderBit b && !c.work.isEmpty) || (s1.fld (Pg.pmp p.val) (F.PMP_RING_CTL_b22 r) ≠ 2 && s1.freeTag.isNone) then .next s1
        else
          let x := (s1.fetchEntry p.val r c.next).chunk p.val r (Desc.ofBytes b c.next s1.count)
          let c1 := x.1.ctx p.val r
          .next (x.1.setCtx p.val r { c1 with work := c1.work ++ [x.2], next := (c.next + 1) % 65536 })

/-- A descriptor has nothing more to do: an error ended it, or all its bytes have moved (a FENCE moves none). -/
def Desc.done (d : Desc) : Bool := d.ended.isSome || (d.issued = d.len && d.reads = 0)

/-- DESCRIPTOR_COMPLETE: the oldest descriptor of a context completes and its record is written (R547, R613). -/
def execDescriptorComplete (off : Nat) (p : Fin 32) (r : Fin 8) (s : State) : Result :=
  let s0 := s.at off
  let c := s0.ctx p.val r.val
  match c.work with
  | [] => .next s0
  | d :: rest =>
    if d.done then
      .next ((s0.setCtx p.val r.val { c with work := rest }).complete p.val r.val d (d.ended.getD PStat.ok) true)
    else .next s0

/-- RING_DOORBELL: RING_TAIL written (R547). -/
def execRingDoorbell (off : Nat) (p : Fin 32) (r : Fin 8) (tail : BitVec 16) (s : State) : Result :=
  .next ((s.at off).onPage (Pg.pmp p.val) (0x114 + 64 * r.val) (fun t =>
    t.write (Pg.pmp p.val) (0x114 + 64 * r.val) (BitVec.ofNat 32 tail.toNat)))

/-- Blocks a descriptor's oldest chunk has waited; the timer of one that uses HOST pauses in Recovery (R551, R627). -/
def State.waited (s : State) (d : Desc) : Nat :=
  if (d.srcSpace = Space.host || d.dstSpace = Space.host) && s.pcie.recovery then d.ran else d.ran + (s.count - d.since)

/-- PUMP_TIMEOUT: the oldest chunk of a context's oldest descriptor has waited its limit (R551). -/
def execPumpTimeout (off : Nat) (p : Fin 32) (r : Fin 8) (s : State) : Result :=
  let s0 := s.at off
  let g := Pg.pmp p.val
  let c := s0.ctx p.val r.val
  match c.work with
  | [] => .next s0
  | d :: rest =>
    let host := d.op ≤ 1 && ((d.op = 0 && d.srcSpace = Space.host) || d.dstSpace = Space.host)
    let limit := if host then 65536 * s0.fld g F.PMP_TMO_PMP_TMO else s0.fld g F.PMP_TMO_DDR_TMO
    if !d.done && limit ≤ s0.waited d then
      .next ((s0.setCtx p.val r.val { c with work := rest }).complete p.val r.val d PStat.timeout true)
    else .next s0

/-- CONTEXT_HALT: ENABLE of a context is cleared (R545). -/
def execContextHalt (off : Nat) (p : Fin 32) (r : Fin 8) (s : State) : Result :=
  .next ((s.at off).onPage (Pg.pmp p.val) (0x100 + 64 * r.val) (fun t =>
    if t.bit (Pg.pmp p.val) (F.PMP_RING_CTL_ENABLE r.val) then t.haltCtx p.val r.val PStat.cancelled true else t))

/-- ENABLE set again ends the halt (R545). -/
def State.ctxEnabled (s : State) (p r : Nat) : State :=
  (s.setFld (Pg.pmp p) (F.PMP_RING_HEAD_HALTED r) 0)

/-- A write of RING_CTL (R545): OWNER is kept while the context is not halted; clearing ENABLE halts. -/
def State.ringCtlWrite (s : State) (p r : Nat) (v : Word) (size : Nat := 2) : State :=
  let g := Pg.pmp p
  let o := 0x100 + 64 * r
  let was := s.bit g (F.PMP_RING_CTL_ENABLE r)
  let held := was || (!s.bit g (F.PMP_RING_HEAD_HALTED r) && !(s.ctx p r).work.isEmpty)
  let refuse := held && v.field 0 8 ≠ s.owner p r
  let s1 := s.applyWrite (fullPart g o size) v false refuse (if refuse then 0xFF else 0)
  let now := s1.bit g (F.PMP_RING_CTL_ENABLE r)
  if was && !now then s1.haltCtx p r PStat.cancelled true
  else if now && !was then s1.ctxEnabled p r
  else s1

/-- PUMP_SELFCHECK_FAIL: a Pump's self-check fails (R564). -/
def execPumpSelfcheckFail (off : Nat) (p : Fin 32) (s : State) : Result :=
  .next (((s.at off).pumpLeaves p.val).fail (Pg.pmp p.val) Reason.hwError)

/-- The ping-pong contexts at a boundary: an execution becomes due, or is a skip while one still runs (R552, R560). -/
def State.pumpBoundary (s : State) : State :=
  ((FMap.keys s.regs).filter (fun k => 0x0900 ≤ k / 4096 && k / 4096 ≤ 0x091F && 0x100 ≤ k % 4096 &&
      k % 4096 < 0x300 && k % 64 = 0)).foldl (fun (a : State) k =>
    let p := k / 4096 - 0x0900
    let r := (k % 4096 - 0x100) / 64
    let c := a.ctx p r
    if a.ctxRuns p r && a.bit (Pg.pmp p) (F.PMP_RING_CTL_PP r) then
      if c.work.isEmpty && c.due.isNone then a.setCtx p r { c with due := some a.turn }
      else (a.incFld (Pg.pmp p) (F.PMP_PP_SKIP r)).raiseIrq (Pg.pmp p) 2
    else a) s

end Sys2Proof.Machine
end

