-- ==== Sys2Proof/Machine/Host.lean ====
section
/-!
DEFINITION. The PCIe endpoint (R602 to R608, R635 to R639), functions and tenants (R603, R623, R629 to R634), context
slots (R611, R612), tags and completions (R623 to R627, R638), MSI-X (R621).
-/

set_option Elab.async false

namespace Sys2Proof.Machine

open Sys2Proof

/-- CFG_READY becomes 1 (R606): CRS ends. -/
def State.setCfgReady (s : State) : State :=
  ((s.setFld (Pg.pci 0) F.PCI_READY_CFG_READY 1).setFld (Pg.pci 0) F.PCI_READY_CRS 0).milestone 5

/-- A write of PCI_READY (R607, R852): CFG_READY is set once per PERST#, or waits while PERST# is asserted.
Log: entry 48 (DEDUCED). -/
def State.cfgReadyWrite (s : State) (v : Word) : State :=
  if v.field 0 1 = 0 || s.bit (Pg.pci 0) F.PCI_READY_CFG_READY then s
  else if !s.pins.perstN then s.pcieMap (fun x => { x with cfgPending := true })
  else (s.pcieMap (fun x => { x with totalVfs := 60 })).setCfgReady

/-- CFG_READY_WRITE: the firmware writes PCI_READY. -/
def execCfgReadyWrite (off : Nat) (v : Word) (s : State) : Result := .next ((s.at off).cfgReadyWrite v)

/-- CFG_READY_TIMEOUT: 950 ms after PERST# the boot ROM sets CFG_READY; TotalVFs stays 0 (R606, R635). -/
def execCfgReadyTimeout (off : Nat) (s : State) : Result :=
  let s0 := s.at off
  .next (if s0.bit (Pg.pci 0) F.PCI_READY_CFG_READY || !s0.pins.perstN then s0 else s0.setCfgReady)

/-- PERST_DEASSERT: the endpoint leaves reset; a pending CFG_READY is applied (R606, R852). -/
def execPerstDeassert (off : Nat) (s : State) : Result :=
  let s0 := s.at off
  if s0.pins.perstN then .next s0
  else
    let s1 := { s0 with pins := { s0.pins with perstN := true } }
    .next (if s0.pcie.cfgPending then
      (s1.pcieMap (fun x => { x with cfgPending := false, totalVfs := 60 })).setCfgReady else s1)

/-- PCIE_LINK_UP: the link is up at a speed and a width (R602, R618). -/
def execPcieLinkUp (off : Nat) (speed : Fin 5) (width : Fin 5) (s : State) : Result :=
  let s0 := s.at off
  let p := Pg.pci 0
  if !s0.pins.perstN then .next s0
  else .next (((s0.setFld p F.PCI_LINK_b0 (speed.val + 1)).setFld p F.PCI_LINK_b3 (2 ^ width.val)).setFld p F.PCI_LINK_b8 1)

/-- Every timer that Recovery stops takes what it has run, or starts again (R627). -/
def State.holdTimers (s : State) (stop : Bool) : State :=
  let t := s.count
  let desc := fun (d : Desc) => if d.srcSpace = Space.host || d.dstSpace = Space.host then
      (if stop then { d with ran := d.ran + (t - d.since) } else { d with since := t }) else d
  s.pumpMap (fun x => { x with ctxs := FMap.mapKV x.ctxs (fun _ c => { c with work := c.work.map desc }) })

/-- LTSSM_RECOVERY: the LTSSM enters or leaves Recovery (R627). -/
def execLtssmRecovery (off : Nat) (enter : Bool) (s : State) : Result :=
  let s0 := s.at off
  if s0.pcie.recovery = enter || !s0.bit (Pg.pci 0) F.PCI_LINK_b8 then .next s0
  else if enter then
    .next (((s0.holdTimers true).pcieMap (fun x => { x with recovery := true })).incFld (Pg.pci 0) F.PCI_LINK_EVT_b16)
  else .next ((s0.holdTimers false).pcieMap (fun x => { x with recovery := false }))

/-! ### MSI-X -/

/-- A function's vectors: 32, 64 or 16 (R609). -/
def vectorsOf (fn : Nat) : Nat := if fn = 0 then 32 else if fn = 1 then 64 else 16

/-- The pending message of a vector sent where nothing bars it (R621). -/
def State.sendPending (fn : Nat) (s : State) (v : Nat) : State :=
  if (s.reg (pbaKey fn v)).field (v % 32) 1 = 1 && s.vectorOpen fn v then
    (s.setReg (pbaKey fn v) ((s.reg (pbaKey fn v)).withField (v % 32) 1 0)).emit (.msix fn v)
  else s

/-- Every pending message of a function that nothing bars. -/
def State.sendAllPending (s : State) (fn : Nat) : State := (List.range (vectorsOf fn)).foldl (State.sendPending fn) s

/-- MSIX_UNMASK: a vector's mask bit is cleared, and its pending message sent (R621). -/
def execMsixUnmask (off : Nat) (fn : Fin 62) (v : Fin 64) (s : State) : Result :=
  let s0 := s.at off
  if vectorsOf fn.val ≤ v.val then .next s0
  else
    let k := msixCtlKey fn.val v.val
    .next (State.sendPending fn.val (s0.setReg k ((s0.reg k).withField 0 1 0)) v.val)

/-! ### Refusals when a ring's host becomes unreachable -/

/-- Captures of the Sump's ring refused. -/
def State.refuseCapture (s : State) (c : Capture) : State :=
  match c.frame with
  | some id => s.captureLost.release id
  | none => s.captureLost

/-- Items waiting for a ring that cannot take them are refused with their source's reason (R615, R631); answers how
many. -/
def State.refuseUnreachable (s : State) : Nat × State :=
  let ds := s.pipe.diverts.filter (fun d => !s.ringOpen d.ring)
  let cs := s.pipe.outCopies.filter (fun c => c.host && !s.ringOpen c.target)
  let smp := s.ringOpen (s.inForce Pg.smp F.SMP_CTL_b8)
  let ks := if smp then [] else s.pipe.captures
  let s1 := s.pipeMap (fun p => { p with
    diverts := p.diverts.filter (fun d => s.ringOpen d.ring)
    outCopies := p.outCopies.filter (fun c => !(c.host && !s.ringOpen c.target))
    captures := if smp then p.captures else [] })
  let s2 := ds.foldl (fun (a : State) d =>
    let i := (a.frame d.frame).inst
    (a.raiseIrq (Pg.stg i 9) 10).sumpFrame i 9 Why.hostDown d.frame) s1
  let s3 := cs.foldl (fun (a : State) c => a.copyLost Why.copyRefused c.frame c.dest c.bytes) s2
  (ds.length + cs.length + ks.length, ks.foldl State.refuseCapture s3)

/-! ### Functions -/

/-- Every tag of a function marked ORPHAN (R623). -/
def State.orphanTags (s : State) (fn : Nat) : State :=
  s.pumpMap (fun x => { x with tags := FMap.mapKV x.tags (fun _ e => if e.fn = fn then { e with orphan := true } else e) })

/-- Registers of a page put back to their reset values, but for the offsets kept. -/
def State.resetPage (s : State) (page : Nat) (keep : List Nat) : State :=
  let stay := fun (e : Nat × Word) => e.1 / 4096 ≠ page || decide (e.1 % 4096 ∈ keep)
  { s with regs := s.regs.filter stay, force := s.force.filter stay, late := s.late.filter stay }

/-- A function's local pages back at reset; LOCK is kept where asked (R639). -/
def State.resetLocal (s : State) (fn : Nat) (keepLock : Bool) : State :=
  (List.range 16).foldl (fun (a : State) n => a.resetPage (localPage fn n) (if keepLock then [0x03C] else [])) s

/-- Descriptors in progress in the contexts of a function. -/
def State.ownedWork (s : State) (fn : Nat) : Nat :=
  ((List.range 256).map (fun k => if s.owner (k / 8) (k % 8) = fn then (s.ctx (k / 8) (k % 8)).work.length else 0)).foldl
    (· + ·) 0

/-- A function reset from outside: its command state cleared, its tags orphaned, its contexts cancelled without records
(R555, R623, R633). -/
def State.resetFunction (s : State) (fn : Nat) : State :=
  let g := Pg.pci 2
  let s1 := (s.setFld g (F.PCI_FN_STAT_b0 fn) 0).orphanTags fn
  let s2 := { s1 with fns := FMap.erase s1.fns fn }
  s2.haltOwner fn PStat.cancelledReset false

/-- The instant at which rings may become unreachable: after an item that a ring took at the same count (R631).
Log: entry 117 (DEDUCED). -/
def State.atHostEvent (s : State) (off : Nat) : State := (s.at off).afterLast s.host.acceptAt

/-- FUNCTION_LEVEL_RESET: the function is fenced, its generation flips, its tags are orphaned, its descriptors cancelled
(R623, R629, R633). -/
def execFunctionLevelReset (off : Nat) (fn : Fin 62) (s : State) : Result :=
  let s0 := (s.atHostEvent off).afterLast ((s.pcie.bmeAt.filter (fun e => e.1 = fn.val)).map Prod.snd)
  let g := Pg.pci 2
  let n := s0.ownedWork fn.val
  if s0.bit g (F.PCI_FN_STAT_IN_RESET fn.val) || (2 ≤ fn.val && !s0.bit g (F.PCI_FN_STAT_b3 fn.val)) then .next s0
  else
    let s1 := ((s0.setFld g (F.PCI_FN_STAT_IN_RESET fn.val) 1).setFld g (F.PCI_FN_STAT_FENCED fn.val) 1).setFld g
      (F.PCI_FN_STAT_b4 fn.val) (1 - s0.fld g (F.PCI_FN_STAT_b4 fn.val))
    let s2 := ((s1.resetFunction fn.val).incFld (Pg.pci 0) F.PCI_FN_EVT_b0).raiseIrq (Pg.pci 0) 3
    let (k, s3) := s2.refuseUnreachable
    .next (((s3.setFld (Pg.pci 0) F.PCI_FLR_LOG_b0 fn.val).setFld (Pg.pci 0) F.PCI_FLR_LOG_b8 n).setFld (Pg.pci 0)
      F.PCI_FLR_LOG_b24 (min k 255))

/-- A tenant ceases to exist (R603, R639). -/
def State.removeTenant (s : State) (fn : Nat) : State :=
  let g := Pg.pci 2
  ((((s.setFld g (F.PCI_FN_STAT_b3 fn) 0).setFld g (F.PCI_FN_STAT_IN_RESET fn) 0).setFld g (F.PCI_FN_STAT_FENCED fn) 0).setFld
    g (F.PCI_FN_CTL_LOCK fn) 0).resetLocal fn false

/-- FLR_COMPLETE: local pages return to reset values, LOCK kept; a tenant whose VF Enable was cleared meanwhile ceases to
exist (R634, R639). -/
def execFlrComplete (off : Nat) (fn : Fin 62) (s : State) : Result :=
  let s0 := s.at off
  let g := Pg.pci 2
  if !s0.bit g (F.PCI_FN_STAT_IN_RESET fn.val) then .next s0
  else if 2 ≤ fn.val && !s0.pcie.vfEnable then .next (s0.removeTenant fn.val)
  else .next (((if fn.val = 0 then s0 else s0.resetLocal fn.val true).setFld g (F.PCI_FN_STAT_IN_RESET fn.val) 0).setFld g
    (F.PCI_FN_STAT_FENCED fn.val) 0)

/-- VF Enable written (R603, R634). Log: entry 48 (DEDUCED). -/
def State.vfEnableWrite (s : State) (on : Bool) : State :=
  let g := Pg.pci 2
  if on && !s.pcie.vfEnable then
    if 6 < s.pcie.numVfs && !s.pcie.ari then s.raiseIrq (Pg.pci 0) 0
    else
      let n := min s.pcie.numVfs s.pcie.totalVfs
      (List.range n).foldl (fun (a : State) k => a.setFld g (F.PCI_FN_STAT_b3 (k + 2)) 1)
        (s.pcieMap (fun x => { x with vfEnable := true }))
  else if !on && s.pcie.vfEnable then
    let fns := ((List.range 60).map (· + 2)).filter (fun f => s.bit g (F.PCI_FN_STAT_b3 f))
    let s1 := fns.foldl (fun (a : State) f =>
      let b := a.resetFunction f
      if a.bit g (F.PCI_FN_STAT_IN_RESET f) then b.setFld g (F.PCI_FN_STAT_b3 f) 0 else b.removeTenant f)
      (s.pcieMap (fun x => { x with vfEnable := false }))
    s1.refuseUnreachable.2
  else s

/-- VF_ENABLE: a write of VF Enable. -/
def execVfEnable (off : Nat) (on : Bool) (s : State) : Result := .next ((s.atHostEvent off).vfEnableWrite on)

/-- BME_CLEAR: a function's Bus Master Enable clears; its contexts halt, unless its FLR governs (R554, R629). -/
def execBmeClear (off : Nat) (fn : Fin 62) (s : State) : Result :=
  let s0 := s.atHostEvent off
  if !s0.bme fn.val then .next s0
  else
    let s1 := (s0.setFld (Pg.pci 2) (F.PCI_FN_STAT_b0 fn.val) 0).incFld (Pg.pci 0) F.PCI_FN_EVT_b16
    let s2 := if s0.bit (Pg.pci 2) (F.PCI_FN_STAT_IN_RESET fn.val) then s1
      else (s1.haltOwner fn.val PStat.abortBme true).pcieMap (fun x => { x with bmeAt := some (fn.val, s0.count) })
    .next s2.refuseUnreachable.2

/-! ### Completion timeout (R625, R626) -/

/-- The device's timeout in µs and the floor of PMP_TMO in turns (Table PCI-5). -/
def ctoRow (v : Nat) : Nat × Nat × Nat :=
  if v = 1 then (1, 90, 9)
  else if v = 2 then (2, 9000, 859)
  else if v = 5 then (5, 50000, 4769)
  else if v = 6 then (6, 200000, 19074)
  else (0, 40000, 3815)

/-- The floor of PMP_TMO in force (R551). -/
def State.pmpFloor (s : State) : Nat := (ctoRow s.pcie.ctoValue).2.2

/-- The Completion Timeout Value written (R626): PMP_TMO below the new floor is raised at once. -/
def State.ctoWrite (s : State) (v : Nat) : State :=
  let r := ctoRow v
  let p := Pg.pci 0
  let s1 := ((s.pcieMap (fun x => { x with ctoValue := v })).setFld p F.PCI_CTO_b0 r.1).setFld p F.PCI_CTO_b8 r.2.1
  let low := (List.range 32).filter (fun k => s.fld (Pg.pmp k) F.PMP_TMO_PMP_TMO < r.2.2)
  if low.isEmpty then s1
  else (low.foldl (fun (a : State) k => (a.setFld (Pg.pmp k) F.PMP_TMO_PMP_TMO r.2.2).forceNow (regKey (Pg.pmp k) 0x044))
    s1).raiseIrq p 1

/-- CTO_VALUE_CHANGE: PF0's Completion Timeout Value changes. -/
def execCtoValueChange (off : Nat) (v : Fin 16) (s : State) : Result :=
  let s0 := s.at off
  if v.val = s0.pcie.ctoValue then .next s0 else .next (s0.ctoWrite v.val)

/-! ### Configuration requests -/

/-- The data of a configuration read (Table PCI-1, Table REG-1): sizes in B. Log: entry 104 (DESIGN CHOICE). -/
def State.cfgData (s : State) (fn : Nat) : CfgReg → Nat
  | .vendor => Config.vendorId
  | .bar0Size => if fn = 0 then 2 ^ 26 else if fn = 1 then 2 ^ 16 else 0
  | .firstVf => if fn = 1 then 1 else 0
  | .vfStride => if fn = 1 then 1 else 0
  | .vfBar0Size => if fn = 1 then 2 ^ 16 else 0
  | .maxPayload => 512
  | .ctoRanges => 3
  | .device => if fn ≤ 1 then 0x0964 else 0x0965
  | .subsystem => 1 + s.fld Pg.gbl F.GBL_VARIANT
  | .classCode => if fn = 0 then 0x120000 else 0x028000
  | .totalVfs => if fn = 1 then s.pcie.totalVfs else 0
  | .numVfs => if fn = 1 then s.pcie.numVfs else 0
  | .vfEnable => bitOf (fn = 1 && s.pcie.vfEnable)
  | .busMaster => bitOf (s.bme fn)
  | .interruptPin => 0
  | .msixSize => vectorsOf fn - 1
  | .ctoValue => s.pcie.ctoValue

/-- A configuration write takes effect. -/
def State.cfgWrite (s : State) (fn : Nat) : CfgWrite → State
  | .setBusMaster => (s.setFld (Pg.pci 2) (F.PCI_FN_STAT_b0 fn) 1).sendAllPending fn
  | .msix enable mask => ({ s with fns := FMap.set s.fns fn ⟨enable, mask⟩ } : State).sendAllPending fn
  | .ari on => if fn ≤ 1 then s.pcieMap (fun x => { x with ari := on }) else s
  | .numVfs n => if fn = 1 && !s.pcie.vfEnable then s.pcieMap (fun x => { x with numVfs := n.toNat }) else s
  | .readSize k => if fn = 0 then s.pcieMap (fun x => { x with readSize := min 4096 (128 * 2 ^ k.val) }) else s
  | .tags ten ext =>
    if fn = 0 then s.setFld (Pg.pci 0) F.PCI_TAGS_b0 (if ten then 768 else if ext then 256 else 32) else s

/-- CONFIG_REQUEST: a configuration request is answered: with CRS on PF0 and PF1 while CFG_READY is 0, and never with CRS
on a tenant (R604, R606); with Unsupported Request after an internal error (R637) or where there is no function. -/
def execConfigRequest (off : Nat) (fn : Fin 62) (req : CfgReq) (s : State) : Result :=
  let s0 := s.at off
  if !s0.linkUp then .next s0
  else if s0.pcie.dead || (2 ≤ fn.val && !s0.bit (Pg.pci 2) (F.PCI_FN_STAT_b3 fn.val)) then .next (s0.emit (.cfgUr fn.val))
  else if fn.val ≤ 1 && !s0.bit (Pg.pci 0) F.PCI_READY_CFG_READY then .next (s0.emit (.cfgCrs fn.val))
  else match req with
    | .read r => .next (s0.emit (.cfgDone fn.val (s0.cfgData fn.val r)))
    | .write w => .next ((s0.cfgWrite fn.val w).emit (.cfgDone fn.val 0))

/-! ### Context slots (R611, R612, R906) -/

/-- A context bound to a half of a CTX_BIND register's value, where VALID. -/
def bindHalf (v : Word) (hi : Bool) : Option (Nat × Nat) :=
  let o := if hi then 16 else 0
  if v.field (o + 15) 1 = 1 then some (v.field o 5, v.field (o + 5) 3) else none

/-- A write of CTX_BIND(f, j) (R611): a half that would change while its bound context is enabled stays. -/
def State.ctxBindWrite (s : State) (f j : Nat) (v : Word) (size : Nat := 2) : State :=
  let o := 0x040 + 16 * f + 4 * j
  let old := s.reg (regKey (Pg.pci 3) o)
  let stuck := fun (hi : Bool) =>
    let lo := if hi then 16 else 0
    v.field lo 16 ≠ old.field lo 16 && (match bindHalf old hi with
      | some (p, r) => s.bit (Pg.pmp p) (F.PMP_RING_CTL_ENABLE r)
      | none => false)
  let keep : Word := BitVec.ofNat 32 ((if stuck false then 0xFFFF else 0) + (if stuck true then 0xFFFF0000 else 0))
  s.applyWrite (fullPart (Pg.pci 3) o size) v false (stuck false || stuck true) keep

/-- CTX_BIND_WRITE: context slots 2j and 2j + 1 of a function are bound (R611). -/
def execCtxBindWrite (off : Nat) (f : Fin 61) (j : Fin 4) (v : Word) (s : State) : Result :=
  .next ((s.at off).ctxBindWrite (f.val + 1) j.val v)

/-- The Pump context a slot of a function reaches: bound, and owned by the function (R611). -/
def State.slotCtx (s : State) (fn slot : Nat) : Option (Nat × Nat) :=
  match bindHalf (s.reg (regKey (Pg.pci 3) (0x040 + 16 * fn + 4 * (slot / 2)))) (slot % 2 = 1) with
  | some (p, r) => if s.owner p r = fn then some (p, r) else none
  | none => none

/-- The Pump page answers: the main domain is not in reset or restarting (R143, R906). -/
def State.pumpsAnswer (s : State) : Bool := !s.pins.mainReset && !s.bit Pg.gbl F.GBL_STATUS_RESTARTING

/-- What a written slot register passes through to its context (R612). -/
def State.passThrough (s : State) (fn slot off p r : Nat) : State :=
  let l := localPage fn (1 + slot)
  let v := s.reg (regKey l off)
  let g := Pg.pmp p
  let copy := fun (o : Nat) => s.setReg (regKey g (o + 64 * r)) v
  if off = 0x040 then s.setFld g (F.PMP_RING_TAIL r) v.toNat
  else if off = 0x04C then
    let was := s.bit g (F.PMP_RING_CTL_ENABLE r)
    let on := v.field 0 1 = 1
    let s1 := (s.setFld g (F.PMP_RING_CTL_b17 r) (v.field 1 5)).setFld g (F.PMP_RING_CTL_ENABLE r) (v.field 0 1)
    if was && !on then s1.haltCtx p r PStat.cancelled true
    else if on && !was then s1.ctxEnabled p r
    else s1
  else if off = 0x050 then copy 0x104
  else if off = 0x054 then copy 0x108
  else if off = 0x058 then copy 0x10C
  else if off = 0x05C then copy 0x110
  else s

/-- A slot is bound and its owner matches (R611); during a restart, was so before it (R906). -/
def State.slotBound (s : State) (fn slot : Nat) : Bool :=
  if s.pumpsAnswer then (s.slotCtx fn slot).isSome else (FMap.get? s.pcie.heads (localPage fn (1 + slot))).isSome

/-- A full-width write to a context slot's page (R611, R612, R630, R906). -/
def State.slotWrite (s : State) (fn slot off : Nat) (v : Word) (size : Nat := 2) : State :=
  let page := localPage fn (1 + slot)
  let part := fullPart page off size
  let passes := decide (off ∈ [0x040, 0x04C, 0x050, 0x054, 0x058, 0x05C])
  if off < 0x040 then s.applyWrite part v true
  else if !s.slotBound fn slot then s.recordFault part Cause.rsvdOffset
  else if (passes && !s.pumpsAnswer) || (off = 0x040 && s.bit (Pg.pci 2) (F.PCI_FN_STAT_FENCED fn)) then s
  else
    let s1 := s.applyWrite part v true
    match s.slotCtx fn slot with
    | some (p, r) =>
      if passes && !(s.locked page && off ≠ 0x040 && off ≠ 0x04C) then s1.passThrough fn slot off p r else s1
    | none => s1

/-- CONTEXT_SLOT_WRITE: the function writes a register of one of its context slots (R612). -/
def execContextSlotWrite (off : Nat) (f : Fin 61) (slot : Fin 8) (reg : BitVec 12) (v : Word) (s : State) : Result :=
  .next ((s.at off).slotWrite (f.val + 1) slot.val (reg.toNat / 4 * 4) v)

/-- A write of DS_FREE_TAIL; ignored while the function is fenced (R616, R630). -/
def State.freePost (s : State) (fn t : Nat) (v : Word) (size : Nat := 2) : State :=
  if s.bit (Pg.pci 2) (F.PCI_FN_STAT_FENCED fn) then s
  else s.applyWrite (fullPart (localPage fn (9 + t)) 0x05C size) v true

/-- DELIVERY_FREE_POST: free entries are posted. -/
def execDeliveryFreePost (off : Nat) (f : Fin 61) (t : Fin 4) (tail : BitVec 16) (s : State) : Result :=
  .next ((s.at off).freePost (f.val + 1) t.val (BitVec.ofNat 32 tail.toNat))

/-! ### Completions (R624, R625, R638) -/

/-- A tag entry back in the pool. -/
def State.freeEntry (s : State) (tag : Nat) : State :=
  (s.pumpMap (fun x => { x with tags := FMap.erase x.tags tag })).syncTagGauge

/-- Is a tag's entry current: not ORPHAN, and of its owner's generation (R624)? -/
def State.tagCurrent (s : State) (e : TagEntry) : Bool :=
  !e.orphan && e.gen = s.fld (Pg.pci 2) (F.PCI_FN_STAT_b4 e.fn)

/-- The descriptor a tag's read belongs to. -/
def State.tagDesc (s : State) (e : TagEntry) : Option Desc :=
  (s.ctx e.pump e.ctx).work.find? (fun d => d.index = e.index)

/-- The descriptor of a read ends with a status (R625, R638); it keeps an earlier one. -/
def State.endDesc (s : State) (e : TagEntry) (status : Nat) : State :=
  match s.tagDesc e with
  | some d => s.putDesc e.pump e.ctx { d with ended := some (d.ended.getD status), reads := d.reads - 1 }
  | none => s

/-- The data of a read, written to its destination. -/
def State.landData (s : State) (e : TagEntry) (b : List Nat) : State :=
  match s.tagDesc e with
  | none => s
  | some d =>
    if d.ended.isSome then s
    else
      let data := (b ++ List.replicate e.len 0).take e.len
      let s1 := s.writeSpace e.fn d.dstSpace (d.dst + e.off) data
      s1.putDesc e.pump e.ctx { d with moved := d.moved + e.len, reads := d.reads - 1, since := s.count }

/-- COMPLETION_ARRIVAL: a completion is accepted by tag and generation, or dropped as stale (R624). -/
def execCompletionArrival (off : Nat) (tag : BitVec 10) (b : List (BitVec 8)) (s : State) : Result :=
  let s0 := s.at off
  match FMap.get? s0.pumps.tags tag.toNat with
  | none => .next (s0.incFld (Pg.pci 0) F.PCI_STALE)
  | some e =>
    let s1 := s0.freeEntry tag.toNat
    .next (if s0.tagCurrent e then s1.landData e (b.map BitVec.toNat) else s1.incFld (Pg.pci 0) F.PCI_STALE)

/-- POISONED_TLP: a poisoned completion, or one with UR or CA status, ends the chunk's descriptor (R638). -/
def execPoisonedTlp (off : Nat) (tag : BitVec 10) (poisoned : Bool) (s : State) : Result :=
  let s0 := s.at off
  match FMap.get? s0.pumps.tags tag.toNat with
  | none => .next (s0.incFld (Pg.pci 0) F.PCI_STALE)
  | some e =>
    let s1 := s0.freeEntry tag.toNat
    if s0.tagCurrent e then
      let s2 := s1.incFld (Pg.pci 0) (if poisoned then F.PCI_ERRS_b16 else F.PCI_ERRS_UR)
      .next (((s2.raiseIrq (Pg.pci 0) 4).emit .errLogged).endDesc e (if poisoned then PStat.poison else PStat.pcieErr))
    else .next (s1.incFld (Pg.pci 0) F.PCI_STALE)

/-- The device's completion timeout in µs (Table PCI-5). -/
def State.ctoMicros (s : State) : Nat := (ctoRow s.pcie.ctoValue).2.1

/-- COMPLETION_TIMEOUT: a read's timer has run for `us` µs, Recovery left out, and stands at the timeout; the read is reissued under
a new tag up to twice (its own where no other is free), and then ends its descriptor (R15, R623, R625, R627).
Log: entry 10 (DESIGN CHOICE), entry 48 (DEDUCED). -/
def execCompletionTimeout (off : Nat) (tag : BitVec 10) (us : Nat) (s : State) : Result :=
  let s0 := s.at off
  match FMap.get? s0.pumps.tags tag.toNat with
  | none => .next s0
  | some e =>
    if s0.pcie.recovery || us < s0.ctoMicros then .next s0
    else if e.orphan then .next (s0.freeEntry tag.toNat)
    else
      let p := Pg.pci 0
      let new := (s0.freeTag).getD tag.toNat
      let s1 := s0.freeEntry tag.toNat
      match s0.tagDesc e with
      | none => .next s1
      | some d =>
        if e.retries < 2 then
          let e2 := { e with retries := e.retries + 1 }
          let s2 := (s1.pumpMap (fun x => { x with tags := FMap.set x.tags new e2 })).syncTagGauge
          .next ((((s2.emit (.hostRead e.fn (d.src + e.off) e.len new)).incFld p F.PCI_CTO_CNT_b0).emit .errLogged).raiseIrq p 4)
        else .next ((((s1.endDesc e PStat.timeout).incFld p F.PCI_CTO_CNT_b16).emit .errLogged).raiseIrq p 4)

/-! ### Endpoint reset and internal errors -/

/-- Configuration space and link as an endpoint reset leaves them. -/
def State.freshLink (s : State) : State :=
  ({ s with fns := [] } : State).pcieMap (fun _ => ⟨false, false, false, false, false, 0, 0, 0, 512, [], none⟩)

/-- PERST#, a hot reset or link down resets the interface and every function's state, and nothing of the main domain (R605, R607,
R636, R639). Log: entry 48 (DEDUCED). -/
def State.endpointReset (s0 : State) (cause : EndReset) : State :=
  let p := Pg.pci 0
  let was := s0.linkUp
  let s1 := if cause = .perst then s0.pinsMap (fun x => { x with perstN := false }) else s0
  let s2 := (List.range 62).foldl (fun (a : State) f => (a.orphanTags f).haltOwner f PStat.cancelledReset false) s1
  let s3 := (List.range 61).foldl (fun (a : State) f => a.resetLocal (f + 1) false) s2
  let s4 := ((s3.resetPage (Pg.pci 1) (List.range 0x40)).resetPage (Pg.pci 2) (List.range 0x40)).resetPage (Pg.pci 3)
    (List.range 0x40)
  let s5 := ((((s4.setFld p F.PCI_READY_CFG_READY 0).setFld p F.PCI_READY_CRS 1).setReg (regKey p 0x044) 0).setFld p
    F.PCI_TAGS_b0 32)
  let s6 := (s5.freshLink).ctoWrite 0
  let s7 := s6.hostMap (fun _ => ⟨[], [], [], [], none⟩)
  let s8 := (if s7.unit p = uFault then s7.setUnit p uActive Reason.none else s7).refuseUnreachable.2
  if was then (s8.incFld p F.PCI_LINK_EVT_b0).raiseIrq p 2 else s8

/-- ENDPOINT_RESET (R605, R607, R636, R639). -/
def execEndpointReset (off : Nat) (cause : EndReset) (s : State) : Result := .next ((s.atHostEvent off).endpointReset cause)

/-- HOST_INTERNAL_ERROR: page 0 faults, ERR_FATAL is sent, every TLP is answered Unsupported Request (R637). -/
def execHostInternalError (off : Nat) (s : State) : Result :=
  .next ((((s.at off).fail (Pg.pci 0) Reason.hwError).emit .errFatal).pcieMap (fun x => { x with dead := true }))

end Sys2Proof.Machine
end

