-- ==== Sys2Proof/Machine/FlashCtl.lean ====
section
/-!
DEFINITION. The flash and its controller (R751 to R758, R763): commands of the FLS page, the erase journal, the
directory, the retirement record's sectors.
-/

set_option Elab.async false

namespace Sys2Proof.Machine

open Sys2Proof

/-- The flash's part of the state changed. -/
def State.flashMap (s : State) (f : Flash → Flash) : State := { s with flash := f s.flash }

/-- `n` bytes of flash. Log: entry 19 (PRESUMED). -/
def State.flashBytes (s : State) (a n : Nat) : List Nat := Mem.bytes 0xFF s.flash.mem a n

/-- Flash size in bytes (SFDP). -/
def State.flashSize (s : State) : Nat := s.fld Pg.fls F.FLS_SIZE * 2 ^ 20

/-- Bytes programmed: a bit can only fall from 1 to 0. Log: entry 60 (PRESUMED). -/
def programBytes (m : FMap (BitVec 8)) (a : Nat) : List Nat → FMap (BitVec 8)
  | [] => m
  | v :: t => programBytes (Mem.setByte 0xFF m a (Mem.byte 0xFF m a &&& v)) (a + 1) t

/-- A sector erased. Log: entry 60 (PRESUMED). -/
def State.eraseSector (s : State) (k : Nat) : State := s.flashMap (fun f => { f with mem := Mem.clear f.mem (65536 * k) 65536 })

/-- A CRC-32C as 4 bytes after what it covers (R290). -/
def withCrc (b : List Nat) : List Nat := b ++ beBytes 4 (crc32c b)

/-! ### The erase journal (R755, R756) -/

/-- The address of a journal sector. -/
def journalBase (j : Nat) : Nat := 0x20000 + 0x10000 * j

/-- A journal entry: sector, 0xB1 BEGIN or 0xD0 DONE, sequence number. -/
def journalEntry (sector op seq : Nat) : List Nat := withCrc (beBytes 4 sector ++ [op, 0, 0, 0] ++ beBytes 4 seq)

/-- The entries of a journal sector that pass their CRC: place, sector, op, sequence number. Places without a programmed
byte hold none. -/
def State.journalScan (s : State) (j : Nat) : List (Nat × Nat × Nat × Nat) :=
  let places := (((FMap.keys s.flash.mem).filter (fun a => journalBase j ≤ a && a < journalBase j + 65536)).map
    (fun a => (a - journalBase j) / 16)).eraseDups
  places.filterMap (fun i =>
    let b := s.flashBytes (journalBase j + 16 * i) 16
    if beAt b 12 4 = crc32c (b.take 12) then some (i, beAt b 0 4, b.getD 4 0, beAt b 8 4) else none)

/-- One entry written at the active sector's next place. -/
def State.journalPut (s : State) (sector op : Nat) : State :=
  let a := s.fld Pg.fls F.FLS_JOURNAL_b0
  let used := s.fld Pg.fls F.FLS_JOURNAL_b16
  let e := journalEntry sector op s.flash.seq
  (s.flashMap (fun f => { f with mem := programBytes f.mem (journalBase a + 16 * used) e, seq := f.seq + 1 })).setFld
    Pg.fls F.FLS_JOURNAL_b16 (used + 1)

/-- The active sector is full: the other is erased and takes every BEGIN without a DONE (R755).
Log: entry 62 (DEDUCED). -/
def State.journalTurn (s : State) : State :=
  let a := 1 - s.fld Pg.fls F.FLS_JOURNAL_b0
  let s1 := ((s.eraseSector (2 + a)).setFld Pg.fls F.FLS_JOURNAL_b0 a).setFld Pg.fls F.FLS_JOURNAL_b16 0
  s.flash.begun.foldl (fun t k => t.journalPut k 0xB1) s1

/-- FLS_INDET and its count follow the sectors whose BEGIN has no DONE, except one whose erase now runs. -/
def State.syncIndet (s : State) : State :=
  let l := s.flash.begun.filter (fun k => s.flash.erase ≠ some k)
  let s1 := (List.range 16).foldl (fun (t : State) i => t.setFld Pg.fls (F.FLS_INDET i) (l.getD i 0)) s
  s1.setFld Pg.fls F.FLS_INDET_CNT (min l.length 16)

/-- An entry appended. Log: entry 62 (DEDUCED). -/
def State.journal (s : State) (sector op : Nat) : State :=
  let s1 := if 4096 ≤ s.fld Pg.fls F.FLS_JOURNAL_b16 then s.journalTurn else s
  let s2 := s1.journalPut sector op
  s2.flashMap (fun f => { f with begun := if op = 0xB1 then f.begun.filter (· ≠ sector) ++ [sector]
                                          else f.begun.filter (· ≠ sector) })

/-- The journal scanned at start (R755, R756): the active sector, its entries used, the indeterminate sectors. -/
def State.journalStart (s : State) : State :=
  let first := fun (j : Nat) => (s.journalScan j).find? (fun e => e.1 = 0)
  let a := match first 0, first 1 with
    | some x, some y => if x.2.2.2 < y.2.2.2 then 1 else 0
    | none, some _ => 1
    | _, _ => 0
  let es := s.journalScan a
  let begun := es.foldl (fun (l : List Nat) e =>
    if e.2.2.1 = 0xB1 then l.filter (· ≠ e.2.1) ++ [e.2.1] else l.filter (· ≠ e.2.1)) []
  let used := es.foldl (fun n e => max n (e.1 + 1)) 0
  let seq := es.foldl (fun n e => max n (e.2.2.2 + 1)) 0
  let s1 := (s.flashMap (fun f => { f with begun := begun, seq := seq, erase := none, op := none, waiting := [] }))
  let s2 := ((s1.setFld Pg.fls F.FLS_JOURNAL_b0 a).setFld Pg.fls F.FLS_JOURNAL_b16 used).syncIndet
  if begun.isEmpty then s2 else s2.raiseIrq Pg.fls 1

/-! ### Commands (R757, R760, R763) -/

/-- BUSY, SUSPENDED and the sector being erased. -/
def State.syncFlash (s : State) : State :=
  let f := s.flash
  let s1 := s.setFld Pg.fls F.FLS_STATUS_BUSY (bitOf (f.op.isSome || f.erase.isSome))
  (s1.setFld Pg.fls F.FLS_STATUS_SUSPENDED (bitOf (f.op.isSome && f.erase.isSome))).setFld Pg.fls F.FLS_STATUS_b16 (f.erase.getD 0)

/-- The load or the warm replay reads flash (R760). -/
def State.loadReads (s : State) : Bool :=
  let l := s.fld (Pg.cfg 0) F.CFG_STATUS_LSTATE
  l = 1 || l = 2 || l = 6

/-- May a command start now? A read or program suspends a running erase of another sector; one given while an erase is
suspended waits. -/
def Flash.mayStart (f : Flash) (o : FlashOp) : Bool :=
  match f.op, f.erase with
  | none, none => true
  | none, some k => o.op ≠ 3 && o.addr / 65536 ≠ k
  | some _, _ => false

/-- A command started: an erase journals BEGIN first. -/
def State.startFlash (s : State) (o : FlashOp) : State :=
  if o.op = 3 then
    let k := o.addr / 65536
    let s1 := if k = 2 || k = 3 then s else s.journal k 0xB1
    ((s1.flashMap (fun f => { f with erase := some k })).syncIndet).syncFlash
  else
    let s1 := if s.flash.erase.isSome then s.incFld Pg.fls F.FLS_FAILS_b16 else s
    (s1.flashMap (fun f => { f with op := some o })).syncFlash

/-- A command taken or put behind those that wait; a read passes a program or an erase that waits for the erase (R757, R760). -/
def State.giveFlash (s : State) (o : FlashOp) : State :=
  if (s.flash.waiting.isEmpty || o.op = 1) && s.flash.mayStart o then s.startFlash o
  else s.flashMap (fun f => { f with waiting := f.waiting ++ [o] })

/-- The page buffer's first bytes, byte 0 in [31:24]. -/
def State.flashBuf (s : State) (n : Nat) : List Nat :=
  (List.range n).map (fun b => s.fld Pg.fls ⟨0x100 + b / 4 * 4, 24 - 8 * (b % 4), 8⟩)

/-- FLS_CMD's GO once written: refused while the load reads flash; otherwise the command is taken. Codes other than 1 to 3
are ignored. Log: entry 61 (DEDUCED). -/
def State.flashGo (s : State) : State :=
  let o := s.fld Pg.fls F.FLS_CMD_OP
  let s1 := s.setFld Pg.fls F.FLS_CMD_GO 0
  if o = 0 || 3 < o then s1
  else if s.loadReads then s1.hwSet Pg.fls F.FLS_STATUS_REFUSED
  else
    let len := max 1 (min 256 (s.fld Pg.fls F.FLS_LEN))
    s1.giveFlash ⟨o, s.fld Pg.fls F.FLS_ADDR, len, if o = 2 then s.flashBuf len else []⟩

/-- A write of FLS_CMD with an operation and GO. -/
def State.flashCmd (s : State) (o : Nat) : State := 
  s.onPage Pg.fls 0x044 (fun t => (t.write Pg.fls 0x044 (BitVec.ofNat 32 (o + 8))).flashGo)

/-- FLASH_READ (R757). -/
def execFlashRead (off : Nat) (s : State) : Result := .next ((s.at off).flashCmd 1)

/-- FLASH_PROGRAM (R751). -/
def execFlashProgram (off : Nat) (s : State) : Result := .next ((s.at off).flashCmd 2)

/-- FLASH_ERASE (R755). -/
def execFlashErase (off : Nat) (s : State) : Result := .next ((s.at off).flashCmd 3)

/-- A program or erase reported as failed (R763). -/
def State.flashFail (s : State) : State :=
  ((s.incFld Pg.fls F.FLS_FAILS_b0).hwSet Pg.fls F.FLS_STATUS_ERR).raiseIrq Pg.fls 0

/-- The oldest waiting command that may start now is started; while an erase runs only a read may. -/
def State.nextFlash (s : State) : State :=
  match s.flash.waiting.find? (fun o => s.flash.mayStart o && (s.flash.erase.isNone || o.op = 1)) with
  | some o => (s.flashMap (fun f => { f with waiting := f.waiting.erase o })).startFlash o
  | none => s

/-- FLASH_OP_DONE: the access that runs, or else the erase, completes or is reported as failed (R755, R763). -/
def execFlashOpDone (off : Nat) (ok : Bool) (s : State) : Result :=
  let s0 := s.at off
  match s0.flash.op, s0.flash.erase with
  | some o, _ =>
    let s1 := s0.flashMap (fun f => { f with op := none })
    let s2 := if o.op = 1 then
        (List.range o.len).foldl (fun (t : State) b =>
          t.setFld Pg.fls ⟨0x100 + b / 4 * 4, 24 - 8 * (b % 4), 8⟩ (Mem.byte 0xFF s0.flash.mem (o.addr + b))) s1
      else if ok then s1.flashMap (fun f => { f with mem := programBytes f.mem o.addr o.data })
      else s1.flashFail
    .next (((s2.raiseIrq Pg.fls 2).nextFlash).syncFlash)
  | none, some k =>
    let s1 := s0.flashMap (fun f => { f with erase := none })
    let s2 := if !ok then s1.flashFail
      else if k = 2 || k = 3 then s1.eraseSector k
      else (s1.eraseSector k).journal k 0xD0
    .next ((((s2.syncIndet).raiseIrq Pg.fls 2).nextFlash).syncFlash)
  | none, none => .next s0

/-- The reset sequence at a release of the main-domain reset: an erase, running or suspended, is abandoned (R757). -/
def State.flashReset (s : State) : State :=
  ((s.flashMap (fun f => { f with erase := none, op := none, waiting := [] })).syncIndet).syncFlash

/-! ### The directory (R752, R753) -/

/-- A directory copy: generation, active slot, states, image lengths; none where it is not valid. -/
def State.dirCopy (s : State) (c : Nat) : Option (Nat × Nat × Nat × Nat) :=
  let b := s.flashBytes (0x10000 * c) 64
  if beAt b 0 4 = 0x474C4444 && beAt b 60 4 = crc32c (b.take 60) then
    some (beAt b 4 4, b.getD 8 0, b.getD 9 0, b.getD 10 0)
  else none

/-- The copy in use: the valid one of the higher generation. -/
def State.directory (s : State) : Option (Nat × Nat × Nat × Nat) :=
  match s.dirCopy 0, s.dirCopy 1 with
  | some x, some y => if x.1 < y.1 then some y else some x
  | some x, none => some x
  | none, y => y

/-- Size and start of a slot (Table FLS-1). -/
def State.slotSize (s : State) : Nat := (s.flashSize - 2 ^ 20) / 2
def State.slotBase (s : State) (k : Nat) : Nat := 0x100000 + k * s.slotSize

/-- A slot contains an indeterminate sector. -/
def State.slotIndet (s : State) (k : Nat) : Bool :=
  s.flash.begun.any (fun x => s.slotBase k / 65536 ≤ x && 65536 * x < s.slotBase k + s.slotSize)

/-! ### The retirement record (R758) -/

/-- The record a sector holds: its sequence number and entries (page, sub-item, reason); none where it is not valid. -/
def State.recordIn (s : State) (k : Nat) : Option (Nat × List (Nat × Nat × Nat)) :=
  let a := 0x40000 + 0x10000 * k
  let h := s.flashBytes a 12
  let n := beAt h 8 4
  if beAt h 0 4 ≠ 0x474C4452 || 8000 < n then none
  else
    let b := s.flashBytes a (12 + 8 * n)
    if beNat (s.flashBytes (a + 12 + 8 * n) 4) ≠ crc32c b then none
    else some (beAt h 4 4, (List.range n).map (fun i => (beAt b (12 + 8 * i) 2, beAt b (14 + 8 * i) 4, b.getD (18 + 8 * i) 0)))

/-- The record in force, and its sector. -/
def State.record (s : State) : Option (Nat × Nat × List (Nat × Nat × Nat)) :=
  match s.recordIn 0, s.recordIn 1 with
  | some x, some y => if x.1 < y.1 then some (1, y) else some (0, x)
  | some x, none => some (0, x)
  | none, some y => some (1, y)
  | none, none => none

/-- A record written into the sector that does not hold the newest: the sector is erased and programmed. -/
def State.writeRecord (s : State) (es : List (Nat × Nat × Nat)) : State :=
  let old := s.record
  let k := match old with
    | some (k, _) => 1 - k
    | none => 0
  let seq := match old with
    | some (_, q, _) => q + 1
    | none => 0
  let l := es.take 8000
  let b := withCrc (beBytes 4 0x474C4452 ++ beBytes 4 seq ++ beBytes 4 l.length ++
    l.flatMap (fun e => beBytes 2 e.1 ++ beBytes 4 e.2.1 ++ [e.2.2, 0]))
  let s1 := (s.journal (4 + k) 0xB1).eraseSector (4 + k)
  ((s1.journal (4 + k) 0xD0).flashMap (fun f => { f with mem := programBytes f.mem (0x40000 + 0x10000 * k) b })).syncIndet

end Sys2Proof.Machine
end

