-- ==== Sys2Proof/Machine/FwOps.lean ====
section
/-!
DEFINITION. The firmware's states and its event log (R683 to R686, Table CPC-2, Table CPC-9a).
-/

set_option Elab.async false

namespace Sys2Proof.Machine

open Sys2Proof

/-- The firmware's part of the state changed. -/
def State.cpcMap (s : State) (f : Cpc → Cpc) : State := { s with cpc := f s.cpc }

/-- The states of Table CPC-2. -/
def FW.boot : Nat := 0
def FW.init : Nat := 1
def FW.waitDriver : Nat := 2
def FW.running : Nat := 3
def FW.held : Nat := 4
def FW.updating : Nat := 5
def FW.restarting : Nat := 6
def FW.failed : Nat := 7

/-- FW_STATE.STATE. -/
def State.fwState (s : State) : Nat := s.fld (Pg.cpc 0) F.CPC_FW_STATE_STATE

/-- The duties of Table CPC-3 run. -/
def State.dutiesRun (s : State) : Bool := s.fwState = FW.waitDriver || s.fwState = FW.running || s.fwState = FW.held

/-- GBL_STATUS.FW_READY put to a value. -/
def State.setFwReady (s : State) (b : Bool) : State :=
  let s1 := s.setFld Pg.gbl F.GBL_STATUS_FW_READY (bitOf b)
  if b then s1.milestone 12 else s1

/-- FW_STATE put to a state with a reason; a change of state is the cause FW_STATE_CHG, and FW_READY follows Table
CPC-2 (unchanged in UPDATING). -/
def State.setFw (s : State) (st reason : Nat) : State :=
  let s1 := (s.setFld (Pg.cpc 0) F.CPC_FW_STATE_STATE st).setFld (Pg.cpc 0) F.CPC_FW_STATE_b8 reason
  let s2 := if st = FW.updating then s1 else s1.setFwReady (st = FW.running)
  if s.fwState = st then s2 else s2.raiseIrq (Pg.cpc 0) 0

/-- The image a region holds. -/
def State.fwInfo (s : State) (r : Nat) : FwImage := FMap.getD s.cpc.info r ⟨0, 0, 0, 0, 0⟩

/-- The region that runs. -/
def State.runRegion (s : State) : Nat := s.fld (Pg.cpc 0) F.CPC_FW_STATE_RUN_REGION

/-- The registers that show the running image: version, interface, bitmap. -/
def State.showImage (s : State) (r : Nat) : State :=
  let i := s.fwInfo r
  let p := Pg.cpc 0
  let s1 := ((s.setFld p F.CPC_FW_STATE_RUN_REGION r).setFld p F.CPC_FW_VERSION i.version.toNat).setFld p F.CPC_FW_IF_b0 i.minor.toNat
  ((s1.setFld p F.CPC_FW_IF_b8 i.major.toNat).setFld p F.CPC_FEAT_FW_LO (i.bitmap.toNat % 2 ^ 32)).setFld p F.CPC_FEAT_FW_HI
    (i.bitmap.toNat / 2 ^ 32)

/-- CORE_STATUS of every core: 0 RUN, 2 HALTED, 3 RESET. -/
def State.setCores (s : State) (v : Nat) : State :=
  (List.range 8).foldl (fun (t : State) c => t.setFld (Pg.cpc (1 + c)) F.CPC_CORE_STATUS v) s

/-- The image of a region started: INIT. -/
def State.startImage (s : State) (r : Nat) : State := ((s.showImage r).setCores 0).setFw FW.init 0

/-- An entry of the event log (Table CPC-9a): count [31:0], event, core, severity, 8 B of arguments. The log holds the
newest 64 KiB. Log: entry 80 (DESIGN CHOICE). -/
def State.logEvent (s : State) (event severity : Nat) (args : List Nat) : State :=
  let e := leBytes 4 s.count ++ leBytes 2 event ++ [0, severity] ++ (args ++ List.replicate 8 0).take 8
  s.cpcMap (fun c => if 4096 ≤ c.log.length then { c with log := c.log.drop 1 ++ [e], logBase := c.logBase + 1 }
                     else { c with log := c.log ++ [e] })

/-- The handoff region cleared (R684): what the firmware would resume from. -/
def State.clearHandoff (s : State) : State :=
  let s1 := s.cpcMap (fun c => { c with
    neg := none, retired := [], duties := [], recon := none, colls := [], alts := [], log := [], logBase := 0, noRoute := [],
    sets := [], update := none, temps := [], power := (0, 0) })
  (s1.setFld (Pg.cpc 0) F.CPC_CLUSTER_b0 0).setFld (Pg.cpc 0) F.CPC_CLUSTER_b16 0

end Sys2Proof.Machine
end

