-- ==== Sys2Proof/Machine/Formats.lean ====
section
/-!
DEFINITION. Number formats of tile data (spec/11): decoding and storing elements (R451 to R457), what a matrix tile may
pair (R458 to R460), accumulation (R462 to R464), output conversion (R466 to R468), special values (R469 to R471), the
counts of saturated and flushed elements (R472).
-/

set_option Elab.async false

namespace Sys2Proof.Machine

open Sys2Proof

/-! ### Exact values -/

/-- A finite value: sign, magnitude m * 2^e. The sign of a zero is kept (R463, R467). -/
structure Fl where
  neg : Bool
  m   : Nat
  e   : Int
  deriving DecidableEq, Repr

/-- A decoded element. -/
inductive Elem where
  | fin (x : Fl)
  | inf (neg : Bool)
  | nan
  deriving DecidableEq, Repr

/-- The signed mantissa. -/
def Fl.int (x : Fl) : Int := if x.neg then -(x.m : Int) else x.m

/-- A value from a signed mantissa. -/
def Fl.ofInt (v e : Int) : Fl := ⟨decide (v < 0), v.natAbs, e⟩

/-- Zero. -/
def Fl.zero : Fl := ⟨false, 0, 0⟩

/-- The mantissa of a value at a lower exponent. -/
def Fl.shifted (x : Fl) (e : Int) : Int := x.int * 2 ^ (x.e - e).toNat

/-- The exact sum; a zero keeps the other's value. -/
def Fl.add (x y : Fl) : Fl :=
  if x.m = 0 then (if y.m = 0 then ⟨x.neg && y.neg, 0, 0⟩ else y)
  else if y.m = 0 then x
  else
    let e := min x.e y.e
    Fl.ofInt (x.shifted e + y.shifted e) e

/-- The exact product. -/
def Fl.mul (x y : Fl) : Fl := ⟨x.neg != y.neg, x.m * y.m, x.e + y.e⟩

/-- The exact sum of a list. -/
def Fl.sum (l : List Fl) : Fl := l.foldl Fl.add Fl.zero

/-- Is the magnitude of `x` above that of `y`? -/
def Fl.above (x y : Fl) : Bool :=
  let e := min x.e y.e
  decide (y.m * 2 ^ (y.e - e).toNat < x.m * 2 ^ (x.e - e).toNat)

/-- Round to nearest, ties to even, to `p` significant bits, with no bit below that of an exponent `emin` (R465). -/
def Fl.round (p : Nat) (emin : Int) (x : Fl) : Fl :=
  if x.m = 0 then x
  else
    let q := max ((Nat.log2 x.m : Int) + x.e) emin - (p - 1)
    if q ≤ x.e then x
    else
      let k := (q - x.e).toNat
      let base := x.m / 2 ^ k
      let rem := x.m % 2 ^ k
      let up := 2 ^ (k - 1) < rem || (rem = 2 ^ (k - 1) && base % 2 = 1)
      ⟨x.neg, base + (if up then 1 else 0), q⟩

/-- Round to nearest, ties to even, to an integer (R465). -/
def Fl.rne (x : Fl) : Int :=
  if 0 ≤ x.e then x.int * 2 ^ x.e.toNat
  else
    let k := (-x.e).toNat
    let base := x.m / 2 ^ k
    let rem := x.m % 2 ^ k
    let up := 2 ^ (k - 1) < rem || (rem = 2 ^ (k - 1) && base % 2 = 1)
    let r : Int := base + (if up then 1 else 0)
    if x.neg then -r else r

/-! ### Formats (Tables NUM-1, NUM-2) -/

/-- Width of a format's element in bits, 0 for a reserved code. -/
def fmtWidth (c : Nat) : Nat := [4, 8, 16, 32, 8, 8, 16, 16, 32, 4, 6, 6, 8, 1, 8].getD c 0

def isInt (c : Nat) : Bool := c ≤ 3
def isFloat (c : Nat) : Bool := 4 ≤ c && c ≤ 8
def isMx (c : Nat) : Bool := 9 ≤ c && c ≤ 12
def isFp8 (c : Nat) : Bool := c = 4 || c = 5

/-- Significant bits, exponent of the smallest normal value, largest finite value, exponent bits and bias of a float
format or MX element (Table NUM-2). -/
structure FpFmt where
  p    : Nat
  emin : Int
  top  : Fl
  eb   : Nat
  bias : Int
  deriving DecidableEq, Repr

/-- The float formats by code. -/
def fpFmt (c : Nat) : FpFmt :=
  match c with
  | 4 => ⟨4, -6, ⟨false, 7, 6⟩, 4, 7⟩
  | 5 => ⟨3, -14, ⟨false, 7, 13⟩, 5, 15⟩
  | 6 => ⟨11, -14, ⟨false, 2047, 5⟩, 5, 15⟩
  | 7 => ⟨8, -126, ⟨false, 255, 120⟩, 8, 127⟩
  | 9 => ⟨2, 0, ⟨false, 3, 1⟩, 2, 1⟩
  | 10 => ⟨3, -2, ⟨false, 7, 2⟩, 3, 3⟩
  | 11 => ⟨4, 0, ⟨false, 15, -1⟩, 2, 1⟩
  | _ => ⟨24, -126, ⟨false, 2 ^ 24 - 1, 104⟩, 8, 127⟩

/-- A float element decoded (R455). -/
def decodeFp (c v : Nat) : Elem :=
  let f := fpFmt c
  let mb := f.p - 1
  let neg := v / 2 ^ (f.eb + mb) % 2 = 1
  let e := v / 2 ^ mb % 2 ^ f.eb
  let m := v % 2 ^ mb
  let ones := e = 2 ^ f.eb - 1
  if ones && c = 4 && m = 7 then .nan
  else if ones && 5 ≤ c && c ≤ 8 then (if m = 0 then .inf neg else .nan)
  else if e = 0 then .fin ⟨neg, m, f.emin - mb⟩
  else .fin ⟨neg, 2 ^ mb + m, (e : Int) - f.bias - mb⟩

/-- A value that a float format holds, encoded. -/
def encodeFp (c : Nat) (x : Fl) : Nat :=
  let f := fpFmt c
  let mb := f.p - 1
  let s := if x.neg then 2 ^ (f.eb + mb) else 0
  if x.m = 0 then s
  else
    let t : Int := (Nat.log2 x.m : Int) + x.e
    let q := max t f.emin - mb
    let m := (x.int.natAbs * 2 ^ (x.e - q).toNat) / 2 ^ (q - x.e).toNat
    if t < f.emin then s + m else s + (t + f.bias).toNat * 2 ^ mb + (m - 2 ^ mb)

/-- Two's complement or plain integer of a width (R453). -/
def decodeInt (w : Nat) (uns : Bool) (v : Nat) : Int :=
  if uns || v < 2 ^ (w - 1) then (v : Int) else (v : Int) - 2 ^ w

/-- An integer clamped to a width's range, and whether the clamp changed it. -/
def satInt (w : Nat) (uns : Bool) (v : Int) : Int × Bool :=
  let lo : Int := if uns then 0 else -(2 ^ (w - 1) : Int)
  let hi : Int := if uns then 2 ^ w - 1 else 2 ^ (w - 1) - 1
  let r := max lo (min hi v)
  (r, decide (r ≠ v))

/-- An element of a packed array (R452). -/
def readElem (mem : Mem) (base w i : Nat) : Nat :=
  leNat (Mem.bytes 0 mem (base + i * w / 8) ((i * w % 8 + w + 7) / 8)) / 2 ^ (i * w % 8) % 2 ^ w

/-- An element written into a packed array (R452). -/
def writeElem (mem : Mem) (base w i v : Nat) : Mem :=
  let n := (i * w % 8 + w + 7) / 8
  let a := base + i * w / 8
  let old := leNat (Mem.bytes 0 mem a n)
  let sh := 2 ^ (i * w % 8)
  Mem.store 0 mem a (leBytes n (old - old / sh % 2 ^ w * sh + v % 2 ^ w * sh))

/-! ### Roles and pairs (Tables NUM-3, NUM-4) -/

/-- May the two operands of a product stand together on a matrix tile (R460)? -/
def pairOk (a b : Nat) : Bool :=
  let small := fun (c : Nat) => c = 0 || c = 13
  let upTo8 := fun (c : Nat) => small c || c = 1
  (small a && small b) || (a = 1 && upTo8 b) || (b = 1 && upTo8 a) ||
  (a = 2 && (upTo8 b || b = 2)) || (b = 2 && upTo8 a) ||
  (a = 14 && upTo8 b) || (isFp8 a && isFp8 b) ||
  ((a = 6 || a = 7) && 4 ≤ b && b ≤ 7) || ((b = 6 || b = 7) && 4 ≤ a && a ≤ 7) || (isMx a && isMx b)

/-- May a format be a matrix output of an accumulator kind? -/
def outputOk (c : Nat) : Bool := c ≤ 13

/-- An operation's format bytes stand where they may (R451, R456, R458, R460). -/
def matOk (w : MatWork) : Bool :=
  let a := w.inFmt.toNat % 16
  let b := w.wFmt.toNat % 16
  let o := w.outFmt.toNat % 16
  pairOk a b && outputOk o && w.inFmt.toNat / 16 % 8 = 0 && w.wFmt.toNat / 16 % 8 = 0 && w.outFmt.toNat / 16 % 8 = 0 &&
  (!isMx a || w.k % 32 = 0) && (!isMx o || w.n % 32 = 0)

/-- The products of a pair are integer products (R462, R471). -/
def intPair (a b : Nat) : Bool := (isInt a || a = 13 || a = 14) && (isInt b || b = 13)

/-! ### A matrix operand's element (R454, R457, R469, R471) -/

/-- What replacing an element counts as. -/
structure Count where
  sat   : Nat
  flush : Nat
  deriving DecidableEq, Repr

/-- Counts added. -/
def Count.add (x y : Count) : Count := ⟨x.sat + y.sat, x.flush + y.flush⟩

/-- Where the table of an epoch stands in a tile whose LAND_EPOCH is `land` (R504). -/
def calBase (land e : Nat) : Nat := land + 256 * (e % 4)

/-- The table of an epoch has reached the tile: the slot names it, with an output resolution of R493 (R485, R504).
Log: entry 139 (DEDUCED). -/
def calReady (mem : Mem) (land e : Nat) : Bool :=
  let b := calBase land e
  Mem.byte 0 mem (b + 195) = e && 4 ≤ Mem.byte 0 mem (b + 193) && Mem.byte 0 mem (b + 193) ≤ 8

/-- Resolution, offset and gain that an epoch gives an output channel (R457, R504). -/
def calAt (mem : Mem) (land e ch : Nat) : Nat × Nat × Nat :=
  let b := calBase land e
  (Mem.byte 0 mem (b + 193), Mem.byte 0 mem (b + 128 + ch % 64),
   Mem.byte 0 mem (b + 2 * (ch % 64)) + 256 * Mem.byte 0 mem (b + 2 * (ch % 64) + 1))

/-- A Lightwell sample's value (R457). -/
def lwsValue (code off gain : Nat) : Fl := Fl.mul (Fl.ofInt ((code : Int) - off) 0) ⟨false, gain, -12⟩

/-- A float or MX element as a matrix tile uses it (R469). -/
def matElem (c v scale : Nat) : Fl × Count :=
  if isMx c && scale = 255 then (Fl.zero, ⟨0, 1⟩)
  else if c = 12 then (Fl.ofInt (decodeInt 8 false v) (-6), ⟨0, 0⟩)
  else match decodeFp c v with
    | .fin x => (x, ⟨0, 0⟩)
    | .inf n => ({ (fpFmt c).top with neg := n }, ⟨1, 0⟩)
    | .nan => (Fl.zero, ⟨0, 1⟩)

/-- An integer, binary or Lightwell element as a matrix tile uses it. -/
def intElem (fmt : Nat) (pm : Bool) (lws : Nat → Nat × Nat × Nat) (i v : Nat) : Int × Count :=
  let c := fmt % 16
  if c = 13 then ((if v = 1 then 1 else if pm then -1 else 0), ⟨0, 0⟩)
  else if c = 14 then
    let t := lws (i % 64)
    let x := satInt 8 false (lwsValue (v % 2 ^ t.1) t.2.1 t.2.2).rne
    (x.1, ⟨if x.2 then 1 else 0, 0⟩)
  else (decodeInt (fmtWidth c) (128 ≤ fmt) v, ⟨0, 0⟩)

/-! ### Accumulation -/

/-- The row sums of a reduction: 128 products each, in ascending order (R462 to R464). -/
def rowsOf {α : Type} (l : List α) : Nat → List (List α)
  | 0 => []
  | n + 1 => if l.isEmpty then [] else l.take 128 :: rowsOf (l.drop 128) n

/-- Row sums added to the INT32 accumulator with saturation (R462), and whether a clamp occurred. -/
def accInt (start : Int) (rows : List (List Int)) : Int × Bool :=
  rows.foldl (fun a r =>
    let x := satInt 32 false (a.1 + r.foldl (· + ·) 0)
    (x.1, a.2 || x.2)) (start, false)

/-- A rounding to FP32 on a matrix tile (R463): clamped above, flushed below 2^-126. -/
def roundAcc (x : Fl) : Fl × Bool × Bool :=
  let r := x.round 24 (-200)
  let f := fpFmt 8
  if r.above f.top then ({ f.top with neg := x.neg }, true, false)
  else if x.m ≠ 0 && (Fl.above ⟨false, 1, -126⟩ r) then (⟨x.neg, 0, 0⟩, false, true)
  else (r, false, false)

/-- Row sums added to the FP32 accumulator, each rounded first (R463). -/
def accFp (start : Fl) (rows : List Fl) : Fl × Bool × Bool :=
  rows.foldl (fun a r =>
    let x := roundAcc r
    let y := roundAcc (a.1.add x.1)
    (y.1, a.2.1 || x.2.1 || y.2.1, a.2.2 || x.2.2 || y.2.2)) (start, false, false)

/-! ### Output conversion -/

/-- An element's stored code with its clamp and flush. -/
structure OutElem where
  code  : Nat
  sat   : Bool
  flush : Bool
  deriving DecidableEq, Repr

/-- A value converted to a float format (R467); `nz` says that it was nonzero before its scale (R472). -/
def toFp (c : Nat) (nz : Bool) (x : Fl) : OutElem :=
  let f := fpFmt c
  let r := x.round f.p f.emin
  if r.above f.top then ⟨encodeFp c { f.top with neg := x.neg }, true, false⟩
  else ⟨encodeFp c r, false, nz && decide (r.m = 0)⟩

/-- A value converted to an integer format with a zero point (R466), `nz` as above; BIN1 takes the sign (R454). -/
def toInt (fmt : Nat) (nz : Bool) (x : Fl) (z : Int) : OutElem :=
  let c := fmt % 16
  let r := x.rne + z
  if c = 13 then ⟨if 0 < r then 1 else 0, false, false⟩
  else
    let w := fmtWidth c
    let y := satInt w (128 ≤ fmt) r
    ⟨(y.1 % 2 ^ w).toNat, y.2, nz && decide (y.1 = 0)⟩

/-- The scale byte of an MX output block (R468). -/
def mxScale (c : Nat) (vs : List Fl) : Nat :=
  let emax : Int := [2, 4, 2, 0].getD (c - 9) 0
  let tops := (vs.filter (fun v => v.m ≠ 0)).map (fun v => (Nat.log2 v.m : Int) + v.e)
  match tops with
  | [] => 0
  | t :: ts => (max 0 (min 254 (ts.foldl max t - emax + 127))).toNat

/-- An element of an MX output block (R468), `nz` as above. -/
def toMx (c scale : Nat) (nz : Bool) (v : Fl) : OutElem :=
  let x : Fl := { v with e := v.e + 127 - scale }
  if c = 12 then
    let r := ({ x with e := x.e + 6 } : Fl).rne
    let y := max (-127) (min 127 r)
    ⟨(y % 256).toNat, decide (y ≠ r), nz && decide (y = 0)⟩
  else toFp c nz x

/-! ### A matrix operation -/

/-- What an operation writes and counts: the store, the words of the accumulators used. -/
structure Worked where
  store : Mem
  acc   : List Nat
  count : Count
  deriving DecidableEq, Repr

/-- The lists of an operation's column parameters, with their values where none is named (R466, R470). -/
def colAt {α : Type} (l : List α) (j : Nat) (d : α) : α := l.getD j d

/-- A column scale, FP32; one where none is named. Log: entry 142 (DESIGN CHOICE). -/
def scaleAt (l : List (BitVec 32)) (j : Nat) : Fl :=
  let v := (colAt l j 0x3F800000#32).toNat
  match decodeFp 8 v with
  | .fin x => x
  | _ => Fl.ofInt (Config.oddScale v).1 (Config.oddScale v).2

/-- A zero point in the output's format (R466). -/
def zeroPoint (fmt : Nat) (z : BitVec 32) : Int :=
  if fmt % 16 = 13 then z.toInt
  else decodeInt (fmtWidth (fmt % 16)) (128 ≤ fmt) (z.toNat % 2 ^ fmtWidth (fmt % 16))

/-- Which accumulator of a tile a column uses: four bytes of column and word (R408). -/
def accKey (j row : Nat) : Nat := 4 * (128 * (j % 64) + row)

/-- What a column's accumulator holds before an operation (R462, R463). -/
def accInit (w : MatWork) (acc : Mem) (j : Nat) : Nat :=
  if w.onto then leNat (Mem.bytes 0 acc (accKey j w.accRow.val) 4) else 0

/-- The finite value of an FP32 code. -/
def finiteFp (v : Nat) : Fl :=
  match decodeFp 8 v with
  | .fin x => x
  | .inf n => { (fpFmt 8).top with neg := n }
  | .nan => Fl.zero

/-- The weight bank an operation runs on (R412). -/
def banked (bank : Nat) (a : BitVec 20 × BitVec 20) : Nat := if bank = 1 then a.2.toNat else a.1.toNat

/-- A column's accumulator as the output converts it: exact value, clamp and flush of the accumulation. `wt` holds the weights
loaded, from 0. -/
def matColumn (land bank : Nat) (w : MatWork) (mem wt acc : Mem) (j : Nat) : Fl × Bool × Bool × Count :=
  let a := w.inFmt.toNat % 16
  let b := w.wFmt.toNat % 16
  let at' := fun (m : Mem) (base c i : Nat) => readElem m base (fmtWidth c) i
  let lws := calAt mem land w.epoch.toNat
  if intPair a b then
    let ps := (List.range w.k).map (fun i =>
      let x := intElem w.inFmt.toNat w.inPm lws i (at' mem w.inAddr.toNat a i)
      let y := intElem w.wFmt.toNat w.wPm lws i (at' wt 0 b (j * w.k + i))
      (x.1 * y.1, y.2))
    let r := accInt (decodeInt 32 false (accInit w acc j)) (rowsOf (ps.map (fun p => p.1)) (w.k / 128 + 1))
    (Fl.ofInt r.1 0, r.2, false, (ps.map (fun p => p.2)).foldl Count.add ⟨0, 0⟩)
  else
    let scale := fun (base i : Nat) => Mem.byte 0 mem (base + i / 32)
    let ps := (List.range w.k).map (fun i =>
      let sa := if isMx a then scale w.inScale.toNat i else 127
      let sb := if isMx b then scale (banked bank w.wScale) (j * w.k + i) else 127
      let x := matElem a (at' mem w.inAddr.toNat a i) sa
      let y := matElem b (at' wt 0 b (j * w.k + i)) sb
      let p := x.1.mul y.1
      (({ p with e := p.e + sa + sb - 254 } : Fl), y.2))
    let r := accFp (finiteFp (accInit w acc j)) ((rowsOf (ps.map (fun p => p.1)) (w.k / 128 + 1)).map Fl.sum)
    (r.1, r.2.1, r.2.2, (ps.map (fun p => p.2)).foldl Count.add ⟨0, 0⟩)

/-- The counts of an operation's input elements, each once (R472). -/
def matInputs (land : Nat) (w : MatWork) (mem : Mem) : Count :=
  let a := w.inFmt.toNat % 16
  ((List.range w.k).map (fun i =>
    let v := readElem mem w.inAddr.toNat (fmtWidth a) i
    if a = 14 then (intElem 14 false (calAt mem land w.epoch.toNat) i v).2
    else if isFloat a || isMx a then
      (matElem a v (if isMx a then Mem.byte 0 mem (w.inScale.toNat + i / 32) else 127)).2
    else ⟨0, 0⟩)).foldl Count.add ⟨0, 0⟩

/-- The columns of an operation. -/
def matColumns (land bank : Nat) (w : MatWork) (mem wt acc : Mem) : List (Fl × Bool × Bool × Count) :=
  (List.range w.n).map (matColumn land bank w mem wt acc)

/-- The words an operation leaves in its accumulators. -/
def matAcc (w : MatWork) (cols : List (Fl × Bool × Bool × Count)) : List Nat :=
  cols.map (fun c => if intPair (w.inFmt.toNat % 16) (w.wFmt.toNat % 16) then (c.1.rne % 2 ^ 32).toNat else encodeFp 8 c.1)

/-- An operation's output elements from its columns (R466 to R468). -/
def matOutputs (w : MatWork) (columns : List (Fl × Bool × Bool × Count)) : List OutElem × List Nat × Count :=
  let a := w.inFmt.toNat % 16
  let b := w.wFmt.toNat % 16
  let o := w.outFmt.toNat % 16
  let cols := columns.zipIdx
  let scaled := cols.map (fun c =>
    let acc := c.1.1
    let requant := intPair a b && (isInt o || o = 13)
    let t := colAt w.requant c.2 (1#16, 0, 0#32)
    if requant then ({ (acc.mul (Fl.ofInt t.1.toInt 0)) with e := acc.e - t.2.1.val } : Fl) else acc.mul (scaleAt w.scales c.2))
  let zs := cols.map (fun c => zeroPoint w.outFmt.toNat (colAt w.requant c.2 (1#16, 0, 0#32)).2.2)
  let blocks := if isMx o then (List.range (w.n / 32)).map (fun k => mxScale o ((scaled.drop (32 * k)).take 32)) else []
  let outs := (List.range w.n).map (fun j =>
    let v := scaled.getD j Fl.zero
    let c := (cols.getD j ((Fl.zero, false, false, ⟨0, 0⟩), 0)).1
    let nz := decide (c.1.m ≠ 0)
    let e := if isMx o then toMx o (blocks.getD (j / 32) 0) nz v
      else if isFloat o then toFp o nz v
      else toInt w.outFmt.toNat nz v (zs.getD j 0)
    if o = 13 then e else { e with sat := e.sat || c.2.1, flush := e.flush || c.2.2.1 })
  (outs, blocks, (cols.map (fun c => c.1.2.2.2)).foldl Count.add ⟨0, 0⟩)

/-- A matrix operation on the store, the weights loaded and the accumulators of a tile whose LAND_EPOCH is `land`: its outputs
written, its elements counted (R472). Log: entry 51 (DESIGN CHOICE). -/
def matRun (land bank : Nat) (w : MatWork) (mem wt acc : Mem) : Worked :=
  let o := w.outFmt.toNat % 16
  let cols := matColumns land bank w mem wt acc
  let x := matOutputs w cols
  let m1 := (x.1.zipIdx).foldl (fun (m : Mem) (e : OutElem × Nat) => writeElem m w.outAddr.toNat (fmtWidth o) e.2 e.1.code) mem
  let m2 := Mem.store 0 m1 w.outScale.toNat x.2.1
  let n : Count := ⟨(x.1.filter (fun e => e.sat)).length, (x.1.filter (fun e => e.flush)).length⟩
  ⟨m2, matAcc w cols, ((matInputs land w mem).add x.2.2).add n⟩

/-! ### A vector operation (R461, R469, R470) -/

/-- A stored element loaded into an FP32 lane (R458): `scale` is its MX scale byte, `t` its channel's calibration. -/
def loadFp (fmt v scale : Nat) (t : Nat × Nat × Nat) : Elem :=
  let c := fmt % 16
  if c = 14 then .fin ((lwsValue (v % 2 ^ t.1) t.2.1 t.2.2).round 24 (-126))
  else if isMx c && scale = 255 then .nan
  else
    let x := if c = 12 then Elem.fin (Fl.ofInt (decodeInt 8 false v) (-6)) else decodeFp c v
    match x with
    | .fin y => if isMx c then .fin { y with e := y.e + scale - 127 } else .fin y
    | z => z

/-- An FP32 result rounded as IEEE 754 requires (R465). -/
def roundFp (x : Fl) : Elem :=
  let r := x.round 24 (-126)
  if r.above (fpFmt 8).top then .inf r.neg else .fin r

/-- An FP32 fused multiply-add as IEEE 754 requires; NaN where an operand is NaN or the operation invalid. -/
def fmaFp (a b c : Elem) : Elem :=
  match a, b, c with
  | .nan, _, _ => .nan
  | _, .nan, _ => .nan
  | _, _, .nan => .nan
  | .fin x, .fin y, .fin z => roundFp ((x.mul y).add z)
  | .fin _, .fin _, .inf n => .inf n
  | .inf n, .fin y, z => if y.m = 0 then .nan else addInf (n != y.neg) z
  | .fin x, .inf n, z => if x.m = 0 then .nan else addInf (n != x.neg) z
  | .inf n, .inf k, z => addInf (n != k) z
where
  /-- An infinity plus an element. -/
  addInf (n : Bool) : Elem → Elem
    | .inf k => if n = k then .inf n else .nan
    | _ => .inf n

/-- A fused multiply-add of finite operands whose exact result is nonzero and rounds to zero (R472). -/
def fmaFlush : Elem → Elem → Elem → Bool
  | .fin x, .fin y, .fin z =>
    let v := (x.mul y).add z
    decide (v.m ≠ 0 && (v.round 24 (-126)).m = 0)
  | _, _, _ => false

/-- The integer square root of a number whose root has at most `b` bits. -/
def isqrt (n b : Nat) : Nat :=
  (List.range b).foldl (fun a k =>
    let c := a + 2 ^ (b - 1 - k)
    if c * c ≤ n then c else a) 0

/-- 1 / x, rounded once. -/
def recipFp : Elem → Elem
  | .nan => .nan
  | .inf n => .fin ⟨n, 0, 0⟩
  | .fin x =>
    if x.m = 0 then .inf x.neg
    else
      let k := Nat.log2 x.m + 64
      let q := 2 ^ k / x.m
      roundFp ⟨x.neg, 2 * q + (if q * x.m = 2 ^ k then 0 else 1), -(k : Int) - 1 - x.e⟩

/-- 1 / √x, rounded once. -/
def rsqrtFp : Elem → Elem
  | .nan => .nan
  | .inf n => if n then .nan else .fin Fl.zero
  | .fin x =>
    if x.m = 0 then .inf x.neg
    else if x.neg then .nan
    else
      let odd := x.e % 2 ≠ 0
      let m := if odd then 2 * x.m else x.m
      let e := if odd then x.e - 1 else x.e
      let k := Nat.log2 m + 64
      let q := isqrt (2 ^ (2 * k) / m) (k + 1)
      roundFp ⟨false, 2 * q + (if q * q * m = 2 ^ (2 * k) then 0 else 1), -(k : Int) - 1 - e / 2⟩

/-! ### exp, log2 and tanh (R409), correctly rounded (R465)

Each is computed in fixed point with 400 fraction bits, or by 300 bits of its value, and rounded once; the bit below the last says
that the exact value lies above what is held. Log: entry 142 (DESIGN CHOICE). -/

/-- One in fixed point. -/
def fixOne : Nat := 2 ^ 400

/-- A magnitude in fixed point, at most `top`. -/
def fixOf (top : Nat) (x : Fl) : Nat := min (top * fixOne) (x.m * 2 ^ (x.e + 400).toNat)

/-- e to the power of a fixed-point number: the series of its 1024th part, squared ten times. -/
def expFix (x : Nat) : Nat :=
  let y := x / 1024
  let series := (List.range 80).foldl (fun (a : Nat × Nat) k =>
    let term := a.1 * y / fixOne / (k + 1)
    (term, a.2 + term)) (fixOne, fixOne)
  (List.range 10).foldl (fun a _ => a * a / fixOne) series.2

/-- A positive fixed-point number that its exact value exceeds, rounded to FP32. -/
def roundFix (neg : Bool) (v : Nat) : Elem := roundFp ⟨neg, 2 * v + 1, -401⟩

/-- e to the power of x. -/
def expFp : Elem → Elem
  | .nan => .nan
  | .inf n => if n then .fin Fl.zero else .inf false
  | .fin x =>
    if x.m = 0 then .fin (Fl.ofInt 1 0)
    else
      let v := expFix (fixOf 128 x)
      roundFix false (if x.neg then fixOne * fixOne / v else v)

/-- The base-2 logarithm of x: its exponent, and 300 bits of the mantissa's logarithm by squaring. -/
def log2Fp : Elem → Elem
  | .nan => .nan
  | .inf n => if n then .nan else .inf false
  | .fin x =>
    if x.m = 0 then .inf true
    else if x.neg then .nan
    else
      let k := Nat.log2 x.m
      let frac := ((List.range 300).foldl (fun (a : Nat × Nat) _ =>
        let y := a.1 * a.1 / 2 ^ 700
        if 2 ^ 701 ≤ y then (y / 2, 2 * a.2 + 1) else (y, 2 * a.2)) (x.m * 2 ^ 700 / 2 ^ k, 0)).2
      let n : Int := ((k : Int) + x.e) * 2 ^ 300 + frac
      roundFp (Fl.ofInt (2 * n + (if x.m = 2 ^ k then 0 else 1)) (-301))

/-- The hyperbolic tangent of x. -/
def tanhFp : Elem → Elem
  | .nan => .nan
  | .inf n => .fin ⟨n, 1, 0⟩
  | .fin x =>
    if x.m = 0 then .fin x
    else
      let v := expFix (2 * fixOf 64 x)
      roundFix x.neg ((v - fixOne) * fixOne / (v + fixOne))

/-- What an FP32 lane computes, with whether a nonzero sum became zero in it (R472). -/
def laneFp : VecFn → Elem → Elem → Elem → Elem × Bool
  | .fma, a, b, c => (fmaFp a b c, fmaFlush a b c)
  | .recip, a, _, _ => (recipFp a, false)
  | .rsqrt, a, _, _ => (rsqrtFp a, false)
  | .exp, a, _, _ => (expFp a, false)
  | .log2, a, _, _ => (log2Fp a, false)
  | .tanh, a, _, _ => (tanhFp a, false)
  | .sum, a, _, _ => (a, false)
  | .max, a, _, _ => (a, false)
  | .min, a, _, _ => (a, false)
  | .top _, a, _, _ => (a, false)

/-! ### Across the lanes (R409) -/

/-- Elements that the cross-lane unit takes. -/
def crossLane : VecFn → Bool
  | .sum => true
  | .max => true
  | .min => true
  | .top _ => true
  | _ => false

/-- An element put before the first one it comes before. -/
def insertBy {α : Type} (before : α → α → Bool) (x : α) : List α → List α
  | [] => [x]
  | y :: t => if before x y then x :: y :: t else y :: insertBy before x t

/-- A list sorted. -/
def sortBy {α : Type} (before : α → α → Bool) (l : List α) : List α := l.foldr (insertBy before) []

/-- The elements joined two by two in a grouping that the spec leaves open. Log: entry 142 (DESIGN CHOICE). -/
def joinTree {α : Type} (f : α → α → α) : Nat → List α → Option α
  | 0, _ => none
  | _ + 1, [] => none
  | _ + 1, [x] => some x
  | n + 1, l =>
    let k := 1 + Config.reduceSplit n l.length % (l.length - 1)
    match joinTree f n (l.take k), joinTree f n (l.drop k) with
    | some a, some b => some (f a b)
    | a, none => a
    | none, b => b

/-- The sum across the lanes, in an order and grouping that the spec leaves open. Log: entry 142 (DESIGN CHOICE). -/
def sumOf {α : Type} (f : α → α → α) (l : List α) : List α :=
  let rank := Config.reduceRank l.length
  let order := sortBy (fun (a b : α × Nat) => rank a.2 < rank b.2) l.zipIdx
  (joinTree f l.length (order.map Prod.fst)).toList

/-- Does an FP32 element come before another in descending order? A NaN comes first. Log: entry 142 (DESIGN CHOICE). -/
def Elem.before : Elem → Elem → Bool
  | .nan, _ => true
  | _, .nan => false
  | .inf n, .inf k => !n || k
  | .inf n, .fin _ => !n
  | .fin _, .inf k => k
  | .fin x, .fin y =>
    let e := min x.e y.e
    decide (y.shifted e ≤ x.shifted e)

/-- The smallest of a descending list; a NaN stands for every result it enters. -/
def lowest : List Elem → List Elem
  | .nan :: _ => [.nan]
  | l => l.getLast?.toList

/-- What the cross-lane unit makes of FP32 elements. -/
def crossFp (fn : VecFn) (l : List Elem) : List Elem :=
  let down := sortBy Elem.before l
  match fn with
  | .sum => sumOf (fun a b => fmaFp a (.fin (Fl.ofInt 1 0)) b) l
  | .max => down.take 1
  | .min => lowest down
  | .top k => down.take k
  | _ => l

/-- What the cross-lane unit makes of INT32 elements, each with whether it has been clamped (R470). -/
def crossInt (fn : VecFn) (l : List (Int × Bool)) : List (Int × Bool) :=
  let down := sortBy (fun (a b : Int × Bool) => decide (b.1 ≤ a.1)) l
  match fn with
  | .sum => sumOf (fun (a b : Int × Bool) =>
      let r := satInt 32 false (a.1 + b.1)
      (r.1, a.2 || b.2 || r.2)) l
  | .max => down.take 1
  | .min => down.getLast?.toList
  | .top k => down.take k
  | _ => l

/-- An FP32 result as a finite value: an infinity as the largest one (R467). -/
def Elem.finite : Elem → Fl
  | .fin x => x
  | .inf n => { (fpFmt 8).top with neg := n }
  | .nan => Fl.zero

/-- A code of a format that is neither an infinity nor a NaN, which nothing tells: what a NaN becomes in a narrower format (R467).
Log: entry 142 (DESIGN CHOICE). -/
def freeFinite (fmt src : Nat) : Nat :=
  let v := Config.nanBits fmt src % 2 ^ fmtWidth fmt
  if isMx fmt then v
  else match decodeFp fmt v with
    | .fin _ => v
    | _ => 0

/-- A finite value stored in a format through a scale (R467, R468). -/
def storeFin (fmt scale : Nat) (nz : Bool) (v : Fl) : OutElem := if isMx fmt then toMx fmt scale nz v else toFp fmt nz v

/-- A NaN stored: a quiet NaN in FP32. -/
def storeNan (fmt src : Nat) : OutElem :=
  if fmt = 8 then ⟨0x7FC00000 + Config.nanBits 8 src % 2 ^ 22 + Config.nanBits 8 src / 2 ^ 22 % 2 * 2 ^ 31, true, false⟩
  else ⟨freeFinite fmt src, true, false⟩

/-- An FP32 result stored in a format through a column scale `f` (R467, R468, R470); `scale` is the scale byte of its MX block,
`src` stands for its operands. An infinity keeps the sign the scale gives it, and times zero is invalid. -/
def storeFp (fmt scale src : Nat) (f : Fl) : Elem → OutElem
  | .nan => storeNan (fmt % 16) src
  | .inf n =>
    if f.m = 0 then storeNan (fmt % 16) src
    else if fmt % 16 = 8 then ⟨0x7F800000 + (if n != f.neg then 2 ^ 31 else 0), true, false⟩
    else { storeFin (fmt % 16) scale true ({ (fpFmt 8).top with neg := n != f.neg } : Fl) with sat := true }
  | .fin x => storeFin (fmt % 16) scale (decide (x.m ≠ 0)) (x.mul f)

/-- An element of an operand of a vector operation, as stored. -/
def vecElem (mem : Mem) (fmt base i : Nat) : Nat := readElem mem base (fmtWidth (fmt % 16)) i

/-- How many elements an operation gives. -/
def vecCount (w : VecWork) : Nat :=
  match w.fn with
  | .sum => min 1 w.n
  | .max => min 1 w.n
  | .min => min 1 w.n
  | .top k => min k w.n
  | _ => w.n

/-- The INT32 result of a lane: a * b + c with saturation (R470), or its element for the cross-lane unit. -/
def vecInt (w : VecWork) (mem : Mem) (i : Nat) : Int × Bool :=
  let v := fun (fmt : BitVec 8) (base : BitVec 20) (pm : Bool) =>
    (intElem fmt.toNat pm (fun _ => (8, 0, 0)) i (vecElem mem fmt.toNat base.toNat i)).1
  let a := v w.aFmt w.aAddr w.pm.1
  if crossLane w.fn then (a, false)
  else satInt 32 false (a * v w.bFmt w.bAddr w.pm.2.1 + v w.cFmt w.cAddr w.pm.2.2)

/-- The FP32 result of a lane, with whether it was flushed. -/
def vecFp (land : Nat) (w : VecWork) (mem : Mem) (i : Nat) : Elem × Bool :=
  let v := fun (fmt : BitVec 8) (base scale : BitVec 20) =>
    loadFp fmt.toNat (vecElem mem fmt.toNat base.toNat i) (Mem.byte 0 mem (scale.toNat + i / 32)) (calAt mem land w.epoch.toNat i)
  laneFp w.fn (v w.aFmt w.aAddr w.scaleAddr.1) (v w.bFmt w.bAddr w.scaleAddr.2.1) (v w.cFmt w.cAddr w.scaleAddr.2.2.1)

/-- The results of an operation in INT32 lanes. -/
def vecInts (w : VecWork) (mem : Mem) : List (Int × Bool) := crossInt w.fn ((List.range w.n).map (vecInt w mem))

/-- The results of an operation in FP32 lanes, with whether each was flushed. -/
def vecFps (land : Nat) (w : VecWork) (mem : Mem) : List (Elem × Bool) :=
  let rs := (List.range w.n).map (vecFp land w mem)
  if crossLane w.fn then (crossFp w.fn (rs.map Prod.fst)).map (fun e => (e, false)) else rs

/-- The scale bytes of a vector operation's MX result (R468). -/
def vecScales (w : VecWork) (rs : List Elem) : List Nat :=
  let o := w.outFmt.toNat % 16
  if isMx o then
    let vs := rs.zipIdx.map (fun e => e.1.finite.mul (scaleAt w.scales e.2))
    (List.range ((rs.length + 31) / 32)).map (fun k => mxScale o ((vs.drop (32 * k)).take 32))
  else []

/-- The stored elements of a vector operation with its scale bytes. -/
def vecOutputs (land : Nat) (w : VecWork) (mem : Mem) : List OutElem × List Nat :=
  let fmt := w.outFmt.toNat
  if w.lanesInt then
    ((vecInts w mem).zipIdx.map (fun e =>
      let t := colAt w.requant e.2 (1#16, 0, 0#32)
      let x : Fl := Fl.ofInt (e.1.1 * t.1.toInt) 0
      let o := toInt fmt (decide (e.1.1 ≠ 0)) { x with e := -(t.2.1.val : Int) } (zeroPoint fmt t.2.2)
      if fmt % 16 = 13 then o else { o with sat := o.sat || e.1.2 }), [])
  else
    let rs := vecFps land w mem
    let scales := vecScales w (rs.map Prod.fst)
    (rs.zipIdx.map (fun e =>
      let src := vecElem mem w.aFmt.toNat w.aAddr.toNat e.2 + 2 ^ 32 * vecElem mem w.bFmt.toNat w.bAddr.toNat e.2 +
        2 ^ 64 * vecElem mem w.cFmt.toNat w.cAddr.toNat e.2
      let o := storeFp fmt (scales.getD (e.2 / 32) 0) src (scaleAt w.scales e.2) e.1.1
      { o with flush := o.flush || e.1.2 }), scales)

/-- A vector operation on a tile's store, in FP32 lanes or in INT32 lanes with saturation, and across them (R409, R461, R470).
Log: entry 51 (DESIGN CHOICE). -/
def vecRun (land : Nat) (w : VecWork) (mem : Mem) : Worked :=
  let x := vecOutputs land w mem
  let ow := fmtWidth (w.outFmt.toNat % 16)
  let m1 := (x.1.zipIdx).foldl (fun (m : Mem) (e : OutElem × Nat) => writeElem m w.outAddr.toNat ow e.2 e.1.code) mem
  let m2 := Mem.store 0 m1 w.scaleAddr.2.2.2.toNat x.2
  ⟨m2, [], ⟨(x.1.filter (fun e => e.sat)).length, (x.1.filter (fun e => e.flush)).length⟩⟩

/-- A vector operation loads Lightwell samples. -/
def vecSamples (w : VecWork) : Bool := w.aFmt.toNat % 16 = 14 || w.bFmt.toNat % 16 = 14 || w.cFmt.toNat % 16 = 14

/-- A vector operation's formats stand where they may (Table NUM-3): format bytes without reserved bits or code (R451, R483),
integer and binary formats in INT32 lanes, the others in FP32 lanes, whole MX blocks (R456), no LWS store, no special function in
INT32 lanes. -/
def vecOk (w : VecWork) : Bool :=
  let fit := fun (f : BitVec 8) (n : Nat) =>
    let c := f.toNat % 16
    f.toNat / 16 % 8 = 0 && (if w.lanesInt then isInt c || c = 13 else isFloat c || isMx c || c = 14) &&
      (!isMx c || n % 32 = 0)
  fit w.aFmt w.n && fit w.bFmt w.n && fit w.cFmt w.n && fit w.outFmt (vecCount w) && w.outFmt.toNat % 16 ≠ 14 &&
    (!w.lanesInt || w.fn = .fma || crossLane w.fn)

end Sys2Proof.Machine
end

