-- ==== Sys2Proof/Machine/Tiles.lean ====
section
/-!
DEFINITION. Tiles (R408 to R413, R444, R446, R448), tier 1 batches and the score port (R429 to R434, R439, R441), router
faults (R447).
-/

set_option Elab.async false

namespace Sys2Proof.Machine

open Sys2Proof

/-- The completion statuses of Table MTL-3. -/
def TStat.ok : Nat := 0
def TStat.cancelled : Nat := 1
def TStat.timeout : Nat := 2
def TStat.storeUncorr : Nat := 3
def TStat.poison : Nat := 4
def TStat.bound : Nat := 5
def TStat.nodeDown : Nat := 6
def TStat.format : Nat := 7

/-- The sequencer's state and slot (Table MTL-5). -/
def State.sequencer (s : State) (t st slot : Nat) : State :=
  (s.setFld (Pg.tile t) F.MTL_STATUS_b0 st).setFld (Pg.tile t) F.MTL_STATUS_b2 slot

/-- An operation of a slot begins, `index` of its program's run, on the bank in force and within what the program declares (R411,
R412). Log: entry 150 (DESIGN CHOICE). -/
def State.startOp (s : State) (t slot : Nat) (batch : Option Nat) (index : Nat) : State :=
  let x := s.tile t
  let id := s.fld (Pg.tile t) (F.MTL_PROG_ID slot)
  (s.setTile t { x with op := some ⟨slot, batch, s.count, s.fld (Pg.tile t) F.MTL_STATUS_b4, index, Config.opBound id index,
    Config.reqLimit id % 64 + 1, Config.landing id, none⟩ }).sequencer t 1 slot

/-- A slot is triggered (R411): its operation begins, or waits for the sequencer. -/
def State.trigger (s : State) (t slot : Nat) (batch : Option Nat) : State :=
  let pg := Pg.tile t
  if s.unit pg ≠ uActive || !s.bit pg (F.MTL_PROG_CTL_VALID slot) then s
  else
    let x := s.tile t
    if x.op.isNone then s.startOp t slot batch 0 else s.setTile t { x with queue := x.queue ++ [(slot, batch)] }

/-- The trigger of a slot; code 3 is treated as 0 (Table MTL-5). -/
def State.trigMode (s : State) (t slot : Nat) : Nat := s.fld (Pg.tile t) (F.MTL_PROG_CTL_TRIGGER slot) % 3

/-- PROG_CTL of a slot written: START triggers it (R411). -/
def State.progWritten (s : State) (t slot : Nat) : State :=
  let pg := Pg.tile t
  if s.bit pg (F.MTL_PROG_CTL_START slot) then
    let s1 := s.setFld pg (F.MTL_PROG_CTL_START slot) 0
    if s1.trigMode t slot = 0 then s1.trigger t slot none else s1
  else s

/-- PROG_START: a write of PROG_CTL. -/
def execProgStart (off : Nat) (t : Fin 128) (k : Fin 4) (v : Word) (s : State) : Result :=
  .next ((s.at off).onPage (Pg.tile t.val) (0x10C + 16 * k.val) (fun a =>
    (a.write (Pg.tile t.val) (0x10C + 16 * k.val) v).progWritten t.val k.val))

/-- Every slot of a tile with a trigger mode. -/
def State.triggerMode (s : State) (t mode : Nat) (batch : Option Nat) : State :=
  ((List.range 4).filter (fun k => s.trigMode t k = mode)).foldl (fun (a : State) k => a.trigger t k batch) s

/-- BATCH: a tile takes the BATCH packet that has reached it, which triggers the slot it names, TAG's (R411, R432).
Log: entry 52 (DEDUCED). -/
def execBatchPacket (off : Nat) (t : Fin 128) (s : State) : Result :=
  let s0 := s.at off
  let node := posOf t.val
  match s0.edgeIn node with
  | [] => .next s0
  | p :: rest =>
    let turn := s0.turn - (s0.turn + 256 - p.aux % 256) % 256
    let s1 := s0.setEdge node rest
    .next (if s1.trigMode t.val (p.tag % 4) = 1 then s1.trigger t.val (p.tag % 4) (some turn) else s1)

/-- TURN_TICK_TRIGGER: the turn tick of a tile's domain triggers its turn-tick slots (R411). -/
def execTurnTickTrigger (t : Fin 128) (s : State) : Result :=
  if s.count % 65536 = 0 then .next (s.triggerMode t.val 2 none) else .next s

/-! ### Completion records -/

/-- A 16-bit count of a record. -/
def cap16 (n : Nat) : Nat := min n 0xFFFF

/-- The completion record of Table MTL-2. -/
def State.tileRecord (s : State) (t node fmt status sat flush : Nat) (o : TileOp) : List Nat :=
  leBytes 2 (if 96 ≤ t then 32768 + (t - 96) else t) ++ leBytes 2 o.slot ++
  leBytes 4 (s.fld (Pg.tile t) (F.MTL_PROG_ID o.slot)) ++ leBytes 4 node ++
  leBytes 4 (match o.batch with
    | some b => b % 2 ^ 32
    | none => 0xFFFFFFFF) ++
  [status, fmt, 0, 0] ++ leBytes 4 (o.start % 2 ^ 32) ++ leBytes 4 (s.count % 2 ^ 32) ++ leBytes 2 (cap16 sat) ++
  leBytes 2 (cap16 flush)

/-- An operation ends of itself or with a status of its work, with its record (R413, R473). Log: entry 52 (DEDUCED). -/
def State.recordOp (s : State) (t node fmt status sat flush : Nat) (o : TileOp) : State :=
  let pg := Pg.tile t
  let s1 := (s.incFld pg F.MTL_SAT sat).incFld pg F.MTL_FLUSH flush
  let s2 := if status = TStat.ok then s1.incFld pg F.MTL_OPS
    else if status = TStat.cancelled then s1.incFld pg F.MTL_CPL_ERR_CANCELLED
    else s1.incFld pg F.MTL_CPL_ERR_b0
  let s3 := if status = TStat.ok then s2 else s2.raiseIrq pg 0
  let s4 := if status = TStat.timeout then s3.raiseIrq pg 4 else s3
  if s.inForce pg F.MTL_CFG_CPL_EN ≠ 0 then
    s4.inject { plainPacket (s.inForce pg F.MTL_CFG_CPL_DEST) (posOf t) 9 0 0 0 with
      inline := s.tileRecord t node fmt status sat flush o }
  else s4

/-- A format byte of a result (R451, Table NUM-3): a code that may stand as a result, bits [6:4] at 0. -/
def resultFmt (b : Nat) : Bool := b % 16 < 14 && b / 16 % 8 = 0

/-- A result format byte that nothing tells. -/
def freeFmt (u : Nat) : Nat := u % 14 + (if u % 14 < 4 then 128 * (u / 14 % 2) else 0)

/-- An operation is cut short with a status. Its program's node and result format nothing tells; it has written no element, so
its SAT and FLUSH are 0 (R478). Log: entry 51 (DESIGN CHOICE). -/
def State.cutOp (s : State) (t status : Nat) (o : TileOp) : State :=
  let u := Config.freeNat s.draws
  s.drawn.recordOp t (u % 2 ^ 32) (freeFmt (u / 2 ^ 32)) status 0 0 o

/-- The sequencer goes on: to the program's next operation, to a waiting trigger, or to IDLE. -/
def State.nextOp (s : State) (t : Nat) (more : Option TileOp) : State :=
  let x := s.tile t
  match more with
  | some o => s.startOp t o.slot o.batch (o.index + 1)
  | none =>
    match x.queue with
    | (k, b) :: rest => (s.setTile t { x with op := none, queue := rest }).startOp t k b 0
    | [] => (s.setTile t { x with op := none }).sequencer t 0 0

/-- The weights of a matrix operation as the tile loads them from the bank it runs on, 8 KiB at a time into its two weight buffers
by turns, while the array computes from the other (R408, R412). -/
def loadWeights (bank : Nat) (w : MatWork) (store : Mem) : List (List Nat) :=
  let bytes := (w.k * w.n * fmtWidth (w.wFmt.toNat % 16) + 7) / 8
  (List.range ((bytes + 8191) / 8192)).map (fun c =>
    Mem.bytes 0 store (banked bank w.wAddr + 8192 * c) (min 8192 (bytes - 8192 * c)))

/-- The result format byte of an operation. -/
def workFmt : TileWork → Nat
  | .matrix w => w.outFmt.toNat
  | .vector w => w.outFmt.toNat
  | .program _ f _ _ => f.toNat

/-- What an operation does to its tile, with its result format, SAT and FLUSH; none where its formats may not stand
(R460, R483), or where the epoch of its samples has not reached the tile (R485). `land` is LAND_EPOCH, `bank` the weight bank it
runs on (R412). A matrix operation computes from the weights it has loaded, and leaves the last of them in the buffers and its sums
in the accumulators (R408). -/
def tileWork (t land bank : Nat) (x : Tile) : TileWork → Option (Tile × Nat × Nat × Nat)
  | .matrix w =>
    if t < 96 && matOk w && (w.inFmt.toNat % 16 ≠ 14 || calReady x.store land w.epoch.toNat) then
      let loads := loadWeights bank w x.store
      let r := matRun land bank w x.store (loads.zipIdx.foldl (fun (m : Mem) e => Mem.store 0 m (8192 * e.2) e.1) []) x.acc
      some ({ x with
        store := r.store,
        weights := loads.zipIdx.foldl (fun (m : Mem) e => Mem.store 0 m (8192 * (e.2 % 2)) e.1) x.weights,
        acc := r.acc.zipIdx.foldl (fun (m : Mem) (e : Nat × Nat) => Mem.store 0 m (accKey e.2 w.accRow.val) (leBytes 4 e.1)) x.acc }, w.outFmt.toNat, r.count.sat, r.count.flush)
    else none
  | .vector w =>
    if 96 ≤ t && vecOk w && (!vecSamples w || calReady x.store land w.epoch.toNat) then
      let r := vecRun land w x.store
      some ({ x with store := r.store }, w.outFmt.toNat, r.count.sat, r.count.flush)
    else none
  | .program ws f sat flush => if !resultFmt f.toNat then none else
    some ({ x with store := ws.foldl (fun (m : Mem) (e : BitVec 20 × List (BitVec 8)) =>
      Mem.store 0 m (e.1.toNat % storeSize t) (e.2.map BitVec.toNat)) x.store }, f.toNat, sat, flush)

/-- The status an operation's own end gives. -/
def endStatus : OpEnd → Nat
  | .ok => TStat.ok
  | .bound => TStat.bound
  | .nodeDown => TStat.nodeDown
  | .poison => TStat.poison

/-- CPL: an operation of a tile ends (R413, R472). `work` is the descriptor the operation began with (R482), and where it ends
BOUND, POISON or NODE_DOWN the part of it that was done (R478); `more` says that its program goes on with another operation. One
that may not stand ends FORMAT, its record naming the format it asked for where that is one. Log: entry 51 (DESIGN CHOICE). -/
def execCpl (off : Nat) (t : Fin 128) (node : Word) (work : TileWork) (how : OpEnd) (more : Bool) (s : State) : Result :=
  let s0 := s.at off
  match (s0.tile t.val).op with
  | none => .next s0
  | some o =>
    let next := if more then some o else none
    match tileWork t.val (s0.inForce (Pg.lwl 0) F.LWL_EPOCH_ADDR) o.bank (s0.tile t.val) work with
    | none =>
      let f := if resultFmt (workFmt work) then workFmt work else freeFmt (Config.freeNat s0.draws)
      .next ((s0.drawn.recordOp t.val node.toNat f TStat.format 0 0 o).nextOp t.val next)
    | some (x, f, sat, flush) =>
      .next (((s0.setTile t.val x).recordOp t.val node.toNat f (o.spoiled.getD (endStatus how)) sat flush o).nextOp t.val next)

/-- OPERATION_TIMEOUT: an operation still runs at its declared bound (Table MTL-1). -/
def execOperationTimeout (off : Nat) (t : Fin 128) (s : State) : Result :=
  let s0 := s.at off
  match (s0.tile t.val).op with
  | some o =>
    if o.start + o.bound ≤ s0.count then
      .next ((s0.cutOp t.val TStat.timeout o).nextOp t.val none)
    else .next s0
  | none => .next s0

/-! ### Voids and cancellations -/

/-- VOID records for tier 1 items (R432 to R434). -/
def State.voidItems (s : State) (items : List (Nat × Nat × Nat)) : State :=
  items.foldl (fun (a : State) e =>
    (a.scoreRecord (voidFor 1 e.1 e.2.1 e.2.2)).incFld (Pg.tnw 1) F.TNW_SCORE_VOIDS) s

/-- Is a tile in a placement's mask (R429)? -/
def State.placed (s : State) (k t : Nat) : Bool := (s.inForce (Pg.tnw 0) (F.TNW_PLACE_MASK k (t / 32)) >>> (t % 32)) % 2 = 1

/-- A tile's operation, or those of one batch, cancelled, with what waits (R434, R444). -/
def State.cancelTile (s : State) (t : Nat) (batch : Option Nat) (stop : Bool) : State :=
  let x := s.tile t
  let hit := fun (b : Option Nat) => batch.isNone || b = batch
  let s1 := match x.op with
    | some o => if hit o.batch then s.cutOp t TStat.cancelled o else s
    | none => s
  let y := s1.tile t
  let s2 := s1.setTile t { y with op := x.op.filter (fun o => !hit o.batch), queue := x.queue.filter (fun e => !hit e.2) }
  if stop then s2.sequencer t 3 0
  else if (s2.tile t).op.isNone && x.op.isSome then s2.nextOp t none else s2

/-- A tile of the placement that runs a batch leaves ACTIVE (R434): the unscored items are void, the other tiles cancel. -/
def State.placementLoss (s : State) (t : Nat) : State :=
  match s.batches.run with
  | some (b, k, items) =>
    if s.placed k t then
      let s2 := { s with batches := { s.batches with run := some (b, k, []) } }.voidItems items
      ((List.range 128).filter (fun u => u ≠ t && s.placed k u)).foldl (fun (a : State) u => a.cancelTile u (some b) false) s2
    else s
  | none => s

/-- A tile has moved from state `old`: fenced, retired or failed it sends its CANCELLED records and stops its sequencer (R444);
out of ACTIVE its placement is lost (R434). -/
def State.tileMoved (s : State) (t old : Nat) : State :=
  let now := s.unit (Pg.tile t)
  let ran := old = uReady || old = uActive || old = uDraining
  let s1 := if ran && (now = uFenced || now = uRetired || now = uFault) then s.cancelTile t none true else s
  if old = uActive && now ≠ uActive then s1.placementLoss t else s1

/-- A tile retires by its own decision (R446). -/
def State.retireTile (s : State) (t reason : Nat) : State :=
  (s.retire (Pg.tile t) reason).tileMoved t (s.unit (Pg.tile t))

/-- A tile fenced. -/
def State.fenceTile (s : State) (reason t : Nat) : State :=
  (s.fence (Pg.tile t) reason).tileMoved t (s.unit (Pg.tile t))

/-- A tile retires when its window count reaches THRESH (R446). -/
def State.tileThreshold (s : State) (t : Nat) : State :=
  let pg := Pg.tile t
  if max 1 (s.inForce pg F.MTL_LEAK_THRESH) ≤ s.fld pg F.HDR_FAULT_CLASS_WINDOW_CNT then s.retireTile t Reason.threshold else s

/-- LOCAL_STORE_ECC: a corrected local-store error, or an uncorrectable one, which ends the operation and retires the
tile (R410, R446). -/
def execLocalStoreEcc (off : Nat) (t : Fin 128) (corrected : Bool) (s : State) : Result :=
  let s0 := s.at off
  let pg := Pg.tile t.val
  if corrected then .next ((((s0.incFld pg F.MTL_ECC_b0).raiseIrq pg 1).transient pg).tileThreshold t.val)
  else
    let s1 := (s0.incFld pg F.MTL_ECC_b16).raiseIrq pg 2
    let s2 := match (s1.tile t.val).op with
      | some o =>
        let a := s1.cutOp t.val TStat.storeUncorr o
        a.setTile t.val { a.tile t.val with op := none }
      | none => s1
    .next (s2.retireTile t.val 0x81)

/-- KNOWN_ANSWER_CHECK: the known-answer operation of a tile that is READY, ACTIVE or DRAINING matches or not (R446). -/
def execKnownAnswerCheck (off : Nat) (t : Fin 128) (ok : Bool) (s : State) : Result :=
  let s0 := s.at off
  let pg := Pg.tile t.val
  let x := s0.tile t.val
  let period := max 16 (s0.inForce pg F.MTL_CHECK)
  let runs := s0.unit pg = uReady || s0.unit pg = uActive || s0.unit pg = uDraining
  if !runs || s0.turn < x.checked + period then .next s0
  else if ok then .next (s0.setTile t.val { x with streak := 0, checked := s0.turn })
  else
    let s1 := (((s0.setTile t.val { x with streak := x.streak + 1, checked := s0.turn }).incFld pg F.MTL_CHECK_FAIL).raiseIrq pg
      3).transient pg
    .next (if 2 ≤ x.streak + 1 then s1.retireTile t.val 0x80 else s1.tileThreshold t.val)

/-- ROUTER_FAULT: an uncorrectable error in a router faults it; every tile and every other router is fenced (R447). -/
def execRouterFault (off : Nat) (r : Fin 128) (s : State) : Result :=
  let s0 := (s.at off).fail (Pg.tnw r.val) Reason.hwError
  let s1 := (List.range 128).foldl (fun (a : State) t => a.fenceTile Reason.parent t) s0
  .next ((List.range 128).foldl (fun (a : State) k => if k = r.val then a else a.fence (Pg.tnw k) Reason.parent) s1)

/-! ### Batches -/

/-- The routers a packet passes from one position to another, along x and then along y (R418).
Log: entry 52 (DEDUCED). -/
def pathOf (a b : Nat) : List Nat :=
  let span := fun (u v : Nat) => if u ≤ v then (List.range (v - u + 1)).map (u + ·) else (List.range (u - v + 1)).map (v + ·)
  (span (a % 16) (b % 16)).map (fun x => a / 16 * 16 + x) ++ (span (a / 16) (b / 16)).map (fun y => 16 * y + b % 16)

/-- A placement qualifies (R430): VALID, its tiles ACTIVE, and the routers between them, the batch controller and the
score port. -/
def State.qualifies (s : State) (k : Nat) : Bool :=
  s.inForce (Pg.tnw 0) (F.TNW_PLACE_CAP_VALID k) = 1 &&
  ((List.range 128).filter (fun t => s.placed k t)).all (fun t =>
    s.unit (Pg.tile t) = uActive &&
    (pathOf 0 (posOf t) ++ pathOf (posOf t) 1).all (fun r => s.unit (Pg.tnw r) = uActive))

/-- The placement in force, where one is. Log: entry 52 (DEDUCED). -/
def State.placement (s : State) : Option Nat :=
  if s.bit (Pg.tnw 0) F.TNW_PLACE_SEL_NONE then none else some (s.fld (Pg.tnw 0) F.TNW_PLACE_SEL_b0)

/-- The slot that a BATCH packet names: the tile's lowest valid one that batches trigger (R411). Log: entry 52 (DEDUCED). -/
def State.batchSlot (s : State) (t : Nat) : Nat :=
  ((List.range 4).find? (fun k => s.bit (Pg.tile t) (F.MTL_PROG_CTL_VALID k) && s.trigMode t k = 1)).getD 0

/-- The BATCH packet for a tile: the slot in TAG, turn and item count in AUX, the buffer's address in ADDR (R432).
Log: entry 52 (DEDUCED). -/
def batchPacketTo (t slot turn n addr : Nat) : Packet :=
  plainPacket (posOf t) (edgeNode 0 0) 10 slot addr (turn % 256 + 256 * (n % 65536))

/-- The batch controller at the boundary that begins the present turn (R430 to R432, R439): what the last turn's batch
left open is void, a placement is selected, T1_CAP follows, the ended turn's batch is launched.
Log: entry 53 (DESIGN CHOICE). -/
def State.batchBoundary (s : State) : State :=
  let p := Pg.tnw 0
  let b := s.batches
  let s0 := match b.run with
    | some (_, _, items) => s.voidItems items
    | none => s
  let anyValid := (List.range 4).any (fun k => s.inForce p (F.TNW_PLACE_CAP_VALID k) = 1)
  let sel := (List.range 4).find? s.qualifies
  let slots := if anyValid then b.slots else s.inForce p F.TNW_BATCH_SLOTS
  let base := if anyValid then b.base else s.inForce p F.TNW_BATCH_BASE_LO + 2 ^ 32 * s.inForce p F.TNW_BATCH_BASE_HI
  let cap := match sel with
    | some k => min (s.inForce p (F.TNW_PLACE_CAP_b0 k)) slots
    | none => 0
  let s1 := if sel = s.placement then s0 else s0.incFld p F.TNW_PLACE_SWITCH
  let s2 := (s1.setFld p F.TNW_PLACE_SEL_b0 (sel.getD 0)).setFld p F.TNW_PLACE_SEL_NONE (bitOf sel.isNone)
  let s3 := if sel.isNone then s2.raiseIrq p 5 else s2
  let s4 := (s3.setFld (Pg.stg 0 7) F.STG_T1_CAP cap).setFld (Pg.stg 1 7) F.STG_T1_CAP cap
  let ended := s.turn - 1
  let go := b.items.take cap
  let s5 := (s4.voidItems (b.items.drop cap))
  match sel with
  | some k =>
    let addr := b.base + ended % 2 * b.slots * 144
    let s6 := { s5 with batches := ⟨[], base, slots, some (ended, k, go)⟩ }
    ((List.range 128).filter (fun t => s.placed k t)).foldl (fun (a : State) t =>
      a.inject (batchPacketTo t (s.batchSlot t) ended go.length addr)) s6
  | none => { s5 with batches := ⟨[], base, slots, none⟩ }

/-- A flow vector given to tier 1 (R431): written into the turn's batch buffer, or refused where T1_CAP is reached. -/
def State.t1Dispatch (s : State) (f : Frame) : Option State :=
  let b := s.batches
  let n := b.items.length
  if s.fld (Pg.stg 0 7) F.STG_T1_CAP ≤ n then none
  else
    let addr := b.base + s.turn % 2 * b.slots * 144 + 144 * n
    let item := (f.vec.map (fun v => unsigned 8 v) ++ List.replicate 128 0).take 128 ++ [f.inst, f.port] ++ leBytes 4 f.pseq ++
      [bitOf f.handle.isNone] ++ List.replicate 9 0
    some ({ s with batches := { b with items := b.items ++ [(f.inst, f.port, f.pseq)] } }.directWrite addr item)

/-- The count of the close of the batch that runs (R433). -/
def State.closeAt (s : State) : Nat :=
  (s.turn + 1) * 65536 - max 64 (min 32768 (s.inForce (Pg.tnw 1) F.TNW_SCORE_CLOSE))

/-- A tier 1 record reaches the score port; at or after the close it is late (R433, R441, R445). -/
def State.tier1Score (s : State) (batch : Word) (r : ScoreRec) (poisoned : Bool) : State :=
  let late := (s.incFld (Pg.tnw 1) F.TNW_T1_LATE).raiseIrq (Pg.tnw 1) 6
  match s.batches.run with
  | none => late
  | some (b, k, items) =>
    if b % 2 ^ 32 ≠ batch.toNat || s.closeAt ≤ s.count then late
    else
      let rest := items.erase (r.inst.val, r.port.val, r.pseq.toNat)
      let s1 := { s with batches := { s.batches with run := some (b, k, rest) } }
      if poisoned then
        (s1.scoreRecord (voidRec 1 r.inst r.port r.pseq)).incFld (Pg.tnw 1) F.TNW_SCORE_VOIDS
      else s1.scoreRecord { r with tier := 1 }

/-- SCORE_CLOSE: the batch closes, and every item without a record is void (R433). -/
def execScoreClose (off : Nat) (s : State) : Result :=
  let s0 := s.at off
  match s0.batches.run with
  | some (_, _, items) =>
    if s0.closeAt ≤ s0.count then .next ({ s0 with batches := { s0.batches with run := none } }.voidItems items) else .next s0
  | none => .next s0

/-- A tile at a turn tick samples its bank selection (R412). -/
def State.tileBoundary (s : State) (t : Nat) : State :=
  s.setFld (Pg.tile t) F.MTL_STATUS_b4 (s.inForce (Pg.tile t) F.MTL_BANK)

end Sys2Proof.Machine
end

