-- ==== Sys2Proof/Machine/Lightwell.lean ====
section
/-!
DEFINITION. The Lightwell (spec/12): its ring, projection and sample blocks, banks, heater drive, calibration, epochs,
bypass and degradation, retirement of its items.
-/

set_option Elab.async false

namespace Sys2Proof.Machine

open Sys2Proof

/-- The core page. -/
def lwlPage : Nat := Pg.lwl 0

/-- LSTATE codes (Table LWL-3). -/
def LS.off : Nat := 0
def LS.warming : Nat := 1
def LS.calibrating : Nat := 2
def LS.running : Nat := 3
def LS.settling : Nat := 4
def LS.bypassed : Nat := 5
def LS.degraded : Nat := 6
def LS.noBank : Nat := 7

/-- The Lightwell's own part changed. -/
def State.lwlMap (s : State) (f : Lwl → Lwl) : State := { s with lwl := f s.lwl }

/-- LSTATE. -/
def State.lwState (s : State) : Nat := s.fld lwlPage F.LWL_STATUS_LSTATE

/-- LSTATE set. -/
def State.setLw (s : State) (v : Nat) : State := s.setFld lwlPage F.LWL_STATUS_LSTATE v

/-- The bank in force. -/
def State.lwBank (s : State) : Nat := s.fld lwlPage F.LWL_STATUS_b3

/-- A word of the writable table space. -/
def State.lwWord (s : State) (a : Nat) : Nat := (FMap.getD s.lwl.table a 0).toNat

/-- Is an address one of a crosstalk coefficient word (Table LWL-9)? -/
def isXtWord (a : Nat) : Bool := 0x8000 ≤ a && a < 0x8800

/-- A word of the writable table space set; coefficients come into force at the boundary (R499, R211, R81). -/
def State.setLwWord (s : State) (a : Nat) (v : Word) : State :=
  let fresh := isXtWord a && s.pastCutoff && (FMap.get? s.lwl.xtLate a).isNone
  s.lwlMap (fun l => { l with
    table := FMap.setC l.table a v 0
    xtLate := if fresh then FMap.set l.xtLate a (FMap.getD l.table a 0) else l.xtLate })

/-- The coefficients in force at a boundary: as they stood at its commit cut-off. -/
def State.xtCommit (s : State) : State :=
  s.lwlMap (fun l => { l with
    xtForce := l.xtLate.foldl (fun (m : FMap Word) e => FMap.setC m e.1 e.2 0) (l.table.filter (fun e => isXtWord e.1))
    xtLate := [] })

/-- IN_RES, OUT_RES and V_SCALE of a bank; resolutions outside 4 to 8 are taken as the nearest. -/
def State.inRes (s : State) (b : Nat) : Nat := max 4 (min 8 (s.lwWord (0x4000 * b) % 16))
def State.outRes (s : State) (b : Nat) : Nat := max 4 (min 8 (s.lwWord (0x4000 * b) / 16 % 16))
def State.vScale (s : State) (b : Nat) : Nat := s.lwWord (0x4000 * b) / 256 % 256

/-- Is an input, or an output, in a bank's mask? -/
def State.inUsed (s : State) (b c : Nat) : Bool := (s.lwWord (0x4000 * b + 1 + c / 32) >>> (c % 32)) % 2 = 1
def State.outUsed (s : State) (b c : Nat) : Bool := (s.lwWord (0x4000 * b + 3 + c / 32) >>> (c % 32)) % 2 = 1

/-! ### Mesh and items (R488, Table LWL-5) -/

/-- First cell of a mesh column, and how many it has. -/
def cellBase (k : Nat) : Nat := 32 * ((k + 1) / 2) + 31 * (k / 2)
def cellsIn (k : Nat) : Nat := if k % 2 = 0 then 32 else 31

/-- The mesh column of a cell. -/
def columnOf (n : Nat) : Nat := 2 * (n / 63) + (if n % 63 < 32 then 0 else 1)

/-- Retired inputs, outputs and cells. -/
def State.inRetired (s : State) (c : Nat) : Bool := (s.fld (Pg.lwl (9 + c / 8)) F.LWL_CG_RETIRED_b0 >>> (c % 8)) % 2 = 1
def State.outRetired (s : State) (c : Nat) : Bool := (s.fld (Pg.lwl (9 + c / 8)) F.LWL_CG_RETIRED_b8 >>> (c % 8)) % 2 = 1

/-- Page and index within its group of a cell. -/
def cellPlace (n : Nat) : Nat × Nat := (Pg.lwl (17 + columnOf n / 8), n - cellBase (columnOf n / 8 * 8))

/-- Is a cell retired? -/
def State.cellRetired (s : State) (n : Nat) : Bool :=
  let p := cellPlace n
  (s.fld p.1 (F.LWL_COL_RETIRED (p.2 / 32)) >>> (p.2 % 32)) % 2 = 1

/-- The measured zero phase of a heater, in phase units, and its slope, in 2^-8 phase units per drive unit (R498): what
the self-test measured, a value the spec does not state. -/
def State.heaterCal (s : State) (h : Nat) : Nat × Nat :=
  match s.lwl.measured with
  | some d => (Config.freeNat (d + h) % 65536, Config.freeNat (d + h) / 65536 % 65536)
  | none => (0, 0)

/-- The phase target of a heater in a bank: θ of cell n for h = 2n, φ for h = 2n + 1 (R498). -/
def State.phaseOf (s : State) (b h : Nat) : Nat := s.lwWord (0x4000 * b + 0x100 + h / 2) / 65536 ^ (h % 2) % 65536

/-- Is a bank valid (R497)? -/
def State.bankValid (s : State) (b : Nat) : Bool :=
  let near := fun (h : Nat) =>
    let d := (s.phaseOf b h + 65536 - (s.heaterCal h).1) % 65536
    d ≤ 256 || 65536 - 256 ≤ d
  (List.range 64).all (fun c => !(s.inUsed b c && s.inRetired c) && !(s.outUsed b c && s.outRetired c)) &&
  (List.range 2016).all (fun n => !s.cellRetired n || (near (2 * n) && near (2 * n + 1)))

/-! ### Voids -/

/-- The answer to an inbound request (R665): a T3_RSP with a status, and the record's four bytes where it is OK. -/
def State.answer (s : State) (n status : Nat) (bytes : List Nat) : State :=
  match FMap.get? s.ryk.served n with
  | some (chip, gen, tag) =>
    ((s.rykMap (fun r => { r with served := FMap.erase r.served n })).send chip 1 gen tag status bytes).rykPump
  | none => s

/-- A VOID record of tier 2 sent through the score port (R495); that of a remote window goes to its gateway (R665), as
LATE where R492 made it. -/
def State.lwVoid (s : State) (w : RingSlot) (late : Bool := false) : State :=
  let s1 := s.incFld (Pg.tnw 1) F.TNW_SCORE_VOIDS
  if w.remote then s1.answer w.pseq (if late then T3.late else T3.ok) (if late then [] else [16, 0, 0, 0])
  else s1.scoreRecord (voidFor 2 w.inst w.port w.pseq)

/-- Every window of the ring void (R517, R518). -/
def State.voidRing (s : State) : State := s.lwl.ring.foldl (fun t w => t.lwVoid w) (s.lwlMap (fun l => { l with ring := [] }))

/-- LSTATE enters DEGRADED; the window in projection is voided (R514). -/
def State.degrade (s : State) : State :=
  if s.unit lwlPage = uActive && s.lwState ≠ LS.degraded && s.lwState ≠ LS.noBank then
    let s1 := (((s.setLw LS.degraded).incFld lwlPage F.LWL_DRIFT_DEGRADED).raiseIrq lwlPage 1).lwlMap
      (fun l => { l with projecting := none, good := false, bad := 0 })
    match s.lwl.projecting with
    | some w => if s.count < s.lwl.until' then s1.lwVoid w else s1
    | none => s1
  else s

/-! ### The ring (R490) -/

/-- Ring slots. -/
def State.ringSlots (s : State) : Nat := max 16 (min 1024 (s.inForce lwlPage F.LWL_RING))

/-- A window copied into the next ring slot, none where the ring is full (R490). Log: entry 56 (DEDUCED). -/
def State.toRing (s : State) (inst port pseq deadline : Nat) (lite remote : Bool) (w : Window) : Option State :=
  if s.ringSlots ≤ s.lwl.ring.length then none
  else
    let k := s.lwl.nextSlot % s.ringSlots
    let a := s.inForce lwlPage F.LWL_RING_BASE_LO + 2 ^ 32 * s.inForce lwlPage F.LWL_RING_BASE_HI + 4160 * k
    let desc := (w.header ++ List.replicate 32 0).take 32 ++ [inst, port] ++ leBytes 4 pseq ++ leBytes 8 deadline
    let s1 := s.directWrite a ((desc ++ List.replicate 64 0).take 64 ++ w.bytes)
    some (s1.lwlMap (fun l => { l with nextSlot := (k + 1) % s.ringSlots,
                                       ring := l.ring ++ [⟨k, inst, port, pseq, deadline, lite, remote, w⟩] }))

/-! ### Consumers (R494, R506) -/

/-- The consumer tiles, ascending. -/
def State.consumers (s : State) : List Nat :=
  (List.range 96).filter (fun t => (s.inForce lwlPage (F.LWL_CONSUMER (t / 32)) >>> (t % 32)) % 2 = 1)

/-- Landing slots of a consumer. -/
def State.landSlots (s : State) : Nat := s.inForce lwlPage F.LWL_LAND_LAND_SLOTS

/-- The next consumer after the last that is not stale and holds a credit (R494). -/
def State.nextConsumer (s : State) : Option Nat :=
  let l := s.consumers
  let after := l.filter (fun t => s.lwl.lastTile < t) ++ l.filter (fun t => t ≤ s.lwl.lastTile)
  after.find? (fun t => !decide (t ∈ s.lwl.stale) && FMap.getD s.lwl.held t 0 < s.landSlots)

/-- Bytes written to a tile by WR_REQ packets of at most 16 data flits through a mesh port (R494). -/
def State.meshWrite (s : State) (port t addr : Nat) : Nat → List Nat → State
  | 0, _ => s
  | k + 1, b =>
    if b.isEmpty then s
    else
      let c := b.take 1024
      let n := (c.length + 63) / 64
      let p := { plainPacket (posOf t) (edgeNode 0 (4 + port)) 1 0 addr 0 with data := c, len := n }
      ((s.inject p).incFld (Pg.lwl (5 + port)) F.LWL_MP_FLITS (n + 1)).meshWrite port t (addr + 1024) k (b.drop 1024)

/-- CREDIT_RETURN: a consumer returns the credit of a landing slot (R494, R513). -/
def execCreditReturn (off : Nat) (t : Fin 96) (s : State) : Result :=
  let s0 := s.at off
  .next (s0.lwlMap (fun l => { l with held := FMap.setC l.held t.val (FMap.getD l.held t.val 0 - 1) 0 }))

/-! ### Projection (R491 to R494, R507, R512) -/

/-- Rows of a window: 64 B each, none of a window of length 0 (R491). -/
def rowCount (w : Window) : Nat := min 64 ((w.bytes.length + 63) / 64)

/-- Blocks a projection takes: 1 or 2 sample clocks of 2 GHz per row (Table LWL-1). -/
def projectTime (inRes rows : Nat) : Nat := if inRes ≤ 6 then (rows * 25 + 31) / 32 else (rows * 25 + 15) / 16

/-- The elements of a row (R493): the top OUT_RES bits of each ADC code; a retired output gives its last offset, with bits [7:R]
written as 0 (R457). -/
def State.rowElems (s : State) (r : Nat) (codes : List Nat) : List Nat :=
  (List.range 64).map (fun j =>
    if s.outRetired j then s.fld (Pg.lwl (9 + j / 8)) (F.LWL_CG_OUT_b0 (j % 8)) % 2 ^ r else codes.getD j 0 % 256 / 2 ^ (8 - r))

/-- A sample block's header (Table LWL-2). -/
def State.blockHeader (s : State) (w : RingSlot) (bypassed : Bool) (rows : Nat) : List Nat :=
  let b := s.lwBank
  leBytes 4 w.pseq ++ [w.inst + 2 * w.port + 16 * bitOf bypassed + 32 * bitOf w.window.last,
    if bypassed then 0xFF else s.fld lwlPage F.LWL_STATUS_b8, s.inRes b + 16 * s.outRes b, rows] ++
  leBytes 4 w.window.obj ++ leBytes 2 w.window.index ++ leBytes 2 b

/-- A block sent to a consumer (R494). -/
def State.sendBlock (s : State) (w : RingSlot) (t : Nat) (block : List Nat) : State :=
  let slot := FMap.getD s.lwl.landing t 0
  let addr := s.inForce lwlPage F.LWL_LAND_LAND_ADDR + 4112 * slot
  ((s.lwlMap (fun l => { l with
    held := FMap.set l.held t (FMap.getD l.held t 0 + 1)
    landing := FMap.setC l.landing t ((slot + 1) % max 1 s.landSlots) 0
    lastTile := t })).meshWrite (w.index % 4) t addr 5 block).incFld lwlPage F.LWL_WINDOWS

/-- Calibration steps allowed in a turn. -/
def State.calSteps (s : State) : Nat := max 1 (s.inForce lwlPage F.LWL_CAL_CAL_STEPS)

/-- Steps still owed are forced now (R501): past CAL_FORCE, for a new master (Table LWL-5), or in SETTLING once LWL_SETTLE has
elapsed (R497). -/
def State.stepsForced (s : State) : Bool :=
  s.lwl.steps < s.calSteps &&
  (s.lwl.owed ≠ 0 || min 63488 (s.inForce lwlPage F.LWL_CAL_CAL_FORCE) ≤ s.count % 65536 ||
   (s.lwState = LS.settling && s.lwl.settle ≤ s.count && !s.lwl.first))

/-- The head window is handled as bypassed: BYPASSED, DEGRADED with AUTO_BYPASS, or a T2_LITE window (R507, R578). -/
def State.bypasses (s : State) (w : RingSlot) : Bool :=
  w.lite || s.lwState = LS.bypassed || (s.lwState = LS.degraded && s.inForce lwlPage F.LWL_CTL_AUTO_BYPASS ≠ 0)

/-- What a row drives into each input channel (R489, R491): the code of the byte's top IN_RES bits times d_in; a retired input is
driven at zero (Table LWL-5). -/
def State.rowInputs (s : State) (b : Nat) (row : List Nat) : List Nat :=
  (List.range 64).map (fun c =>
    if s.inRetired c then 0
    else row.getD c 0 % 256 / 2 ^ (8 - s.inRes b) * (s.lwWord (0x4000 * b + 0x10 + c / 4) / 256 ^ (c % 4) % 256))

/-! ### The mesh transfer (R488, R489), in fixed point with 60 fraction bits -/

/-- Sine and cosine of a fixed-point angle below π / 2, by their series. -/
def quarter (x : Nat) : Int × Int :=
  let r := (List.range 32).foldl (fun (a : Nat × Int × Int) k =>
    let t : Int := a.1
    let next := a.1 * x / 2 ^ 60 / (k + 1)
    if k % 4 = 0 then (next, a.2.1, a.2.2 + t)
    else if k % 4 = 1 then (next, a.2.1 + t, a.2.2)
    else if k % 4 = 2 then (next, a.2.1, a.2.2 - t)
    else (next, a.2.1 - t, a.2.2)) (2 ^ 60, 0, 0)
  r.2

/-- Sine and cosine of n units of 2π / 131,072. -/
def circle (n : Nat) : Int × Int :=
  let q := quarter (n % 32768 * 7244019458077122842 / 131072)
  match n / 32768 % 4 with
  | 0 => q
  | 1 => (q.2, -q.1)
  | 2 => (-q.1, -q.2)
  | _ => (-q.2, q.1)

/-- A complex amplitude. -/
structure Cx where
  re : Int
  im : Int
  deriving DecidableEq, Repr

/-- A real combination u * x + v * y of two amplitudes. -/
def Cx.mix (u v : Int) (x y : Cx) : Cx := ⟨(u * x.re + v * y.re) / 2 ^ 60, (u * x.im + v * y.im) / 2 ^ 60⟩

/-- An amplitude turned by a phase, given its sine and cosine. -/
def Cx.turn (p : Int × Int) (x : Cx) : Cx := ⟨(p.2 * x.re - p.1 * x.im) / 2 ^ 60, (p.2 * x.im + p.1 * x.re) / 2 ^ 60⟩

/-- What a cell with phases θ and φ makes of its upper and lower inputs (R488). -/
def cellActs (theta phi : Nat) (a b : Cx) : Cx × Cx :=
  let t := circle theta
  let x := a.turn (circle (2 * phi))
  (Cx.mix t.1 t.2 x b, Cx.mix t.2 (-t.1) x b)

/-- The phase a heater gives its cell: the target, or the measured zero phase where the cell is unpowered (Table LWL-5). -/
def State.realPhase (s : State) (b h : Nat) : Nat := if s.cellRetired (h / 2) then (s.heaterCal h).1 else s.phaseOf b h

/-- The cells from number `n` on act on waveguides two by two; one left over passes. -/
def State.cellsAct (s : State) (b : Nat) : Nat → List Cx → List Cx
  | n, x :: y :: rest =>
    let r := cellActs (s.realPhase b (2 * n)) (s.realPhase b (2 * n + 1)) x y
    r.1 :: r.2 :: s.cellsAct b (n + 1) rest
  | _, l => l

/-- A mesh column (R488): an even one joins waveguides 2i and 2i + 1, an odd one 2i + 1 and 2i + 2. -/
def State.columnActs (s : State) (b : Nat) (v : List Cx) (k : Nat) : List Cx :=
  if k % 2 = 0 then s.cellsAct b (cellBase k) v
  else match v with
    | x :: rest => x :: s.cellsAct b (cellBase k) rest
    | [] => []

/-- The real parts of the mesh's outputs for a row: the product of the columns applied to the inputs (R489). -/
def State.meshOut (s : State) (b : Nat) (row : List Nat) : List Int :=
  let full := (2 ^ s.inRes b - 1) * 255
  let ins := (s.rowInputs b row).map (fun x => (⟨((x * 2 ^ 60 / full : Nat) : Int), 0⟩ : Cx))
  ((List.range 64).foldl (s.columnActs b) ins).map Cx.re

/-- The ADC codes of a projected row (R489): o_j + g_j × Re(y_j), with the offset and gain last measured, kept in 8 bits; whether
the ADC gives the code below or above nothing tells. Log: entry 54 (DESIGN CHOICE). -/
def State.adcCodes (s : State) (b i : Nat) (row : List Nat) : List Nat :=
  (s.meshOut b row).zipIdx.map (fun e =>
    let o : Int := s.lwl.dark.getD e.2 0
    let g : Int := s.lwl.gains.getD e.2 0
    let v := (o + g * e.1 / 2 ^ 60) / 256 + Config.freeNat s.draws / 2 ^ (64 * i + e.2) % 2
    if v < 0 then 0 else if 255 < v then 255 else v.toNat)

/-- WINDOW_PROJECT: the head window of the ring is voided, waits, or goes to a consumer as a sample block.
Log: entry 54 (DESIGN CHOICE). -/
def execWindowProject (off : Nat) (s : State) : Result :=
  let s0 := s.at off
  match s0.lwl.ring with
  | [] => .next s0
  | w :: rest =>
    let s1 := s0.lwlMap (fun l => { l with ring := rest })
    let st := s0.lwState
    let rows := rowCount w.window
    if s0.unit lwlPage ≠ uActive || s0.count < s0.lwl.until' then .next s0
    else if w.deadline ≤ s0.count then .next ((s1.incFld lwlPage F.LWL_VOIDS_LATE_SKIP).lwVoid w true)
    else if s0.netFault then .next (s1.lwVoid w)
    else if s0.stepsForced || (st = LS.settling && !w.lite) then .next s0
    else if s0.bypasses w then
      if s0.inForce lwlPage F.LWL_CTL_FALLBACK_OK = 0 && !w.lite then .next (s1.lwVoid w)
      else match s0.nextConsumer with
        | none => .next s0
        | some t => .next (s1.sendBlock w t (s0.blockHeader w true rows ++
            (w.window.bytes ++ List.replicate (64 * rows) 0).take (64 * rows)))
    else if st ≠ LS.running then .next (s1.lwVoid w)
    else if s0.lwl.epoch.isNone then .next s0
    else match s0.nextConsumer with
      | none => .next s0
      | some t =>
        let r := s0.outRes s0.lwBank
        let body := (List.range rows).flatMap (fun i =>
          s0.rowElems r (s0.adcCodes s0.lwBank i ((w.window.bytes.drop (64 * i)).take 64)))
        let e := s0.fld lwlPage F.LWL_STATUS_b8
        .next ((s1.drawn.sendBlock w t (s0.blockHeader w false rows ++ body)).lwlMap (fun l =>
          { l with until' := s0.count + projectTime (s0.inRes s0.lwBank) rows, projecting := some w,
                   tagged := FMap.set l.tagged (e % 4) s0.turn }))

/-! ### Heater drive (R498, R499) -/

/-- A heater's target word before its clamp (R498); an unpowered heater's is 0. -/
def State.heaterTarget (s : State) (h : Nat) : Nat :=
  if s.cellRetired (h / 2) then 0
  else
    let cal := s.heaterCal h
    let d := (((s.phaseOf s.lwBank h : Int) + FMap.getD s.lwl.trims h 0 - cal.1) % 65536).toNat
    if cal.2 = 0 then 65536 else (roundAway ((d * 256 : Nat) : Int) cal.2).toNat

/-- The heater at heater column `j`, row `i`, where the mesh has one (R498). -/
def heaterAt (j i : Int) : Option Nat :=
  if j < 0 || 128 ≤ j || i < 0 then none
  else
    let k := j.toNat / 2
    if i.toNat < cellsIn k then some (2 * (cellBase k + i.toNat) + j.toNat % 2) else none

/-- The crosstalk coefficient c[j][dc][dr] (Table LWL-9). Log: entry 54 (DESIGN CHOICE). -/
def State.meshCoeff (s : State) (j : Nat) (dc dr : Int) : Int :=
  let i := if dc = -1 then dr + 3 else if dc = 1 then 13 + dr + 3 else if dr < 0 then 7 + dr + 3 else 7 + dr + 2
  signed 16 ((FMap.getD s.lwl.xtForce (0x8000 + 16 * j + i.toNat / 2) 0).toNat / 65536 ^ (i.toNat % 2) % 65536)

/-- A heater's drive word before its clamp (R499), from the clamped target words; a retired cell's heaters are unpowered (Table
LWL-5). -/
def State.meshDrive (s : State) (t : Nat → Nat) (h : Nat) : Int :=
  if s.cellRetired (h / 2) then 0 else
  let k := columnOf (h / 2)
  let j : Int := 2 * k + h % 2
  let i : Int := h / 2 - cellBase k
  let w : Int := if s.inForce lwlPage F.LWL_CTL_XT_EN = 0 then 0 else s.inForce lwlPage F.LWL_CTL_BAND
  let ds := (List.range 7).map (fun (n : Nat) => (n : Int) - 3)
  let terms := [(-1 : Int), 0, 1].flatMap (fun dc => (ds.filter (fun dr => -w ≤ dr && dr ≤ w && !(dc = 0 && dr = 0))).map (fun dr =>
    match heaterAt (j + dc) (i + dr) with
    | some g => s.meshCoeff j.toNat dc dr * t g
    | none => 0))
  let sum := if s.inForce lwlPage F.LWL_CTL_XT_EN = 0 then 0 else terms.foldl (· + ·) 0
  (t h : Int) - roundAway sum 32768

/-- A cell's heaters, a retirement by threshold, and what uses the cell. -/
def State.retireCell (s : State) (n reason : Nat) : State :=
  let p := cellPlace n
  if s.cellRetired n then s
  else
    let f := F.LWL_COL_RETIRED (p.2 / 32)
    let s1 := (s.setFld p.1 f (s.fld p.1 f ||| 2 ^ (p.2 % 32))).setSubRetired p.1 true
    let s2 := (s1.setFld p.1 F.HDR_UNIT_STATE_REASON reason).raiseIrq p.1 0
    if reason = Reason.parent then s2 else s2.degrade

/-- One transient event of a heater's column group; at THRESH the heater's cell retires (Table LWL-5). -/
def State.cellEvent (s : State) (h : Nat) : State :=
  let p := (cellPlace (h / 2)).1
  let s1 := s.transient p
  if max 1 (s1.inForce p F.LWL_COL_LEAK_THRESH) ≤ s1.fld p F.HDR_FAULT_CLASS_WINDOW_CNT then
    s1.retireCell (h / 2) Reason.threshold else s1

/-- A clamp of a heater's target: counted, one transient event of its column group (R498). -/
def State.heaterClamp (s : State) (h : Nat) : State :=
  ((s.incFld lwlPage F.LWL_CLAMPS).raiseIrq lwlPage 5).cellEvent h

/-- Every drive word of the mesh recomputed. Log: entry 110 (DEDUCED). -/
def State.meshDrives (s : State) : State :=
  let raw := fun (h : Nat) => s.heaterTarget h
  let t := fun (h : Nat) => min 65535 (raw h)
  let beyond := (List.range 4032).filter (fun h => decide (s.meshDrive t h < 0) || decide (65535 < s.meshDrive t h))
  let s0 := beyond.foldl (fun (a : State) _ => (a.incFld lwlPage F.LWL_CLAMPS).raiseIrq lwlPage 5) s
  let s1 := ((List.range 4032).filter (fun h => 65535 < raw h)).foldl State.heaterClamp s0
  s1.lwlMap (fun l => { l with drives := (List.range 4032).filterMap (fun h =>
    let v := s.meshDrive t h
    let p := if v < 0 then 0 else if 65535 < v then 65535 else v.toNat
    if p = 0 then none else some (h, p)) })

/-- HEATER_DRIVE_UPDATE: the drive words of an optical engine, or of the mesh, are recomputed (R209 to R211, R498, R499).
Log: entry 110 (DEDUCED). -/
def execHeaterDriveUpdate (off : Nat) (j : HeaterJob) (s : State) : Result :=
  match j with
  | .engine e targets errs => .next (((s.at off).engineDrives e targets).measured e errs)
  | .mesh temp =>
    let s0 := (s.at off).setFld lwlPage F.LWL_TEMP temp.toNat
    .next (if s0.lwl.measured.isSome then s0.meshDrives else s0)

/-- CLAMP_HOLD: a heater held at a clamp for 1 ms is one transient event of its owners (R210, R499): the word computed for it lies
beyond the clamp at which it stands. -/
def execClampHold (off : Nat) (h : HeaterRef) (s : State) : Result :=
  match h with
  | .engine e k => .next ((s.at off).clampHold e k)
  | .mesh k =>
    let s0 := s.at off
    let p := s0.meshDrive (fun g => min 65535 (s0.heaterTarget g)) k.val
    let v := FMap.getD s0.lwl.drives k.val 0
    .next (if s0.lwl.measured.isSome && ((p < 0 && v = 0) || (65535 < p && v = 65535)) then
      s0.cellEvent k.val else s0)

/-! ### Calibration (R500 to R503, R514) -/

/-- Nearest integer to n / d, ties to even (R465). -/
def rneDiv (n d : Nat) : Nat :=
  let q := n / d
  let r := n % d
  if d < 2 * r || (d = 2 * r && q % 2 = 1) then q + 1 else q

/-- The offset and gain of an output (R503), from measurements in 2^-8 codes, clamped into their fields. -/
def State.calOf (s : State) (o g : Nat) : Nat × Nat :=
  let b := s.lwBank
  let k := 2 ^ (8 - s.outRes b)
  (min 255 (rneDiv o (256 * k)), if g = 0 then 65535 else min 65535 (rneDiv (4096 * s.vScale b * k * 256) g))

/-- Is a computed table an epoch that is due: any gain more than 1/512 off, any offset a code off (R503)? -/
def epochDiffers (old : Epoch) (gains offsets : List Nat) : Bool :=
  (List.range 64).any (fun j =>
    let a := old.gains.getD j 0
    let b := gains.getD j 0
    a < 512 * (max a b - min a b) || old.offsets.getD j 0 ≠ offsets.getD j 0)

/-- The end of a cycle (R503): offsets and gains computed, a new epoch due where they differ, or for a new bank. -/
def State.cycleDone (s : State) (gains : List Nat) : State :=
  let b := s.lwBank
  let c := (List.range 64).map (fun j => s.calOf (s.lwl.dark.getD j 0) (gains.getD j 0))
  let os := c.map Prod.fst
  let gs := c.map Prod.snd
  let due := match s.lwl.epoch with
    | some e => epochDiffers e gs os || e.bank ≠ b || !s.lwl.first
    | none => true
  let num := match s.lwl.epoch with
    | some e => (e.num + 1) % 256
    | none => 0
  let s1 := s.lwlMap (fun l => { l with
    due := if due then some ⟨num, gs, os, s.inRes b, s.outRes b, b⟩ else l.due
    gains := gains
    good := l.worst ≤ s.inForce lwlPage F.LWL_THR_DRIFT_THR, worst := 0 })
  s1.setFld lwlPage F.LWL_RESID_b8 s.lwl.worst

/-- An input or output channel retires (Table LWL-5); one in the bank in force degrades the core. -/
def State.retireChannel (s : State) (c : Nat) (output : Bool) (reason : Nat) : State :=
  let p := Pg.lwl (9 + c / 8)
  let f := if output then F.LWL_CG_RETIRED_b8 else F.LWL_CG_RETIRED_b0
  let used := if output then s.outUsed s.lwBank c else s.inUsed s.lwBank c
  if (s.fld p f >>> (c % 8)) % 2 = 1 then s
  else
    let s1 := ((s.setFld p f (s.fld p f + 2 ^ (c % 8))).setSubRetired p true).setFld p F.HDR_UNIT_STATE_REASON reason
    let s2 := s1.raiseIrq p 0
    if used then s2.degrade else s2

/-- Outputs whose measured offset lies outside codes 8 to 247 retire (Table LWL-5). -/
def State.judgeOffsets (s : State) (os : List Nat) : State :=
  os.zipIdx.foldl (fun (a : State) e =>
    if e.2 < 64 && (e.1 < 8 * 256 || 247 * 256 < e.1) then a.retireChannel e.2 true 0x83 else a) s

/-- A heater's trim moved by at most 16 phase units, at most once in 10 µs, which is 15,625 blk (R502). -/
def moveTrim (now : Nat) (l : Lwl) (e : Fin 4032 × Int) : Lwl :=
  let free := match FMap.get? l.trimmed e.1.val with
    | some t => decide (t + 15625 ≤ now)
    | none => true
  if free then
    { l with
      trims := FMap.setC l.trims e.1.val (FMap.getD l.trims e.1.val 0 + max (-16) (min 16 e.2)) 0
      trimmed := FMap.set l.trimmed e.1.val now }
  else l

/-- A calibration step (R500, R502): DARK measures the offsets, PROBE a residue; trims move as drift asks.
Log: entry 54 (DESIGN CHOICE). -/
def State.calStep (s : State) (m : CalMeasure) : State :=
  let step := s.lwl.step
  let s1 := s.lwlMap (fun l => { l with
    step := (step + 1) % 9
    steps := l.steps + 1
    until' := s.count + 128
    projecting := none
    owed := l.owed - 1 })
  if step = 0 then
    (s1.lwlMap (fun l => { l with dark := m.offsets.map BitVec.toNat, worst := 0 })).judgeOffsets (m.offsets.map BitVec.toNat)
  else
    let r := m.resid.toNat
    let drift := s.inForce lwlPage F.LWL_THR_DRIFT_THR < r
    let s2 := (s1.setFld lwlPage F.LWL_RESID_b0 r).lwlMap (fun l => { l with worst := max l.worst r })
    let s3 := if drift then
        (((s2.incFld lwlPage F.LWL_DRIFT_DRIFT).raiseIrq lwlPage 0).transient lwlPage).lwlMap (fun l =>
          m.trims.foldl (moveTrim s.count) l)
      else s2
    let bad := if s.inForce lwlPage F.LWL_THR_FAIL_THR < r then s.lwl.bad + 1 else 0
    let s4 := s3.lwlMap (fun l => { l with bad := bad })
    let s5 := if max 1 (s.inForce lwlPage F.LWL_THR_FAIL_CYCLES) ≤ bad then s4.degrade else s4
    if step = 8 then s5.cycleDone (m.gains.map BitVec.toNat) else s5

/-- Calibration may run: the core is ACTIVE, a laser lights the mesh, and a bank just taken has settled (R497). -/
def State.calOpen (s : State) : Bool :=
  s.unit lwlPage = uActive && !(s.lwState = LS.settling && s.count < s.lwl.settle) && s.lwl.until' ≤ s.count && s.lwl.steps < s.calSteps &&
  [1, 2, 3, 4].any (fun l => s.unit (Pg.lwl l) ≠ uRetired)

/-- CAL_STEP: a gap step (R501). -/
def execCalStep (off : Nat) (m : CalMeasure) (s : State) : Result :=
  let s0 := s.at off
  if s0.calOpen && s0.lwl.ring.isEmpty && s0.count % 65536 ≤ 65408 then
    .next ((s0.incFld lwlPage F.LWL_CAL_CNT_b0).calStep m)
  else .next s0

/-- CAL_FORCE: a step still owed at CAL_FORCE, or owed by settling, is forced (R501, R497). -/
def execCalForce (off : Nat) (m : CalMeasure) (s : State) : Result :=
  let s0 := s.at off
  if s0.calOpen && s0.stepsForced then .next ((s0.incFld lwlPage F.LWL_CAL_CNT_b16).calStep m) else .next s0

/-! ### Epochs (R504 to R506) -/

/-- The 256 bytes of an epoch's table (R504). -/
def Epoch.bytes (e : Epoch) : List Nat :=
  (((List.range 64).flatMap (fun j => leBytes 2 (e.gains.getD j 0)) ++ (List.range 64).map (fun j => e.offsets.getD j 0) ++
    [e.inRes, e.outRes, e.bank, e.num]) ++ List.replicate 256 0).take 256

/-- An epoch's table written to a consumer. -/
def State.writeEpoch (s : State) (e : Epoch) (t : Nat) : State :=
  s.meshWrite 0 t (s.inForce lwlPage F.LWL_EPOCH_ADDR + 256 * (e.num % 4)) 1 e.bytes

/-- The consumers an epoch is written to: READY or ACTIVE, and not stale (R504, R506). -/
def State.epochTargets (s : State) : List Nat :=
  s.consumers.filter (fun t => (s.unit (Pg.tile t) = uReady || s.unit (Pg.tile t) = uActive) && !decide (t ∈ s.lwl.stale))

/-- An epoch written everywhere comes into force (R505). -/
def State.epochInForce (s : State) (e : Epoch) : State :=
  let s1 := (((s.setFld lwlPage F.LWL_STATUS_b8 e.num).incFld lwlPage F.LWL_EPOCHS_b0).raiseIrq lwlPage 3).lwlMap (fun l =>
    { l with epoch := some e, writing := none, first := true })
  (List.range 64).foldl (fun (a : State) j =>
    (a.setFld (Pg.lwl (9 + j / 8)) (F.LWL_CG_OUT_b0 (j % 8)) (e.offsets.getD j 0)).setFld (Pg.lwl (9 + j / 8))
      (F.LWL_CG_OUT_b16 (j % 8)) (e.gains.getD j 0)) s1

/-- EPOCH_WRITE: an epoch that is due is written to every consumer, once EPOCH_MIN boundaries have passed since its slot
was last tagged (R505). -/
def execEpochWrite (off : Nat) (s : State) : Result :=
  let s0 := s.at off
  match s0.lwl.due, s0.lwl.writing with
  | some d, none =>
    let e : Epoch := { d with num := match s0.lwl.epoch with
      | some f => (f.num + 1) % 256
      | none => d.num }
    let min' := max 1 (s0.inForce lwlPage F.LWL_SETTLE_EPOCH_MIN)
    let free := match FMap.get? s0.lwl.tagged (e.num % 4) with
      | some t => decide (t + min' ≤ s0.turn)
      | none => true
    if s0.unit lwlPage ≠ uActive || !free then .next s0
    else
      let ts := s0.epochTargets
      let s1 := ts.foldl (fun (a : State) t => a.writeEpoch e t) s0
      let s2 := s1.lwlMap (fun l => { l with due := none, writing := some (e, ts), slots := FMap.set l.slots (e.num % 4) e })
      .next (if ts.isEmpty then s2.epochInForce e else s2)
  | _, _ => .next s0

/-- A consumer is done with the epoch being written: it has acknowledged, or is stale. -/
def State.epochSettles (s : State) (t : Nat) : State :=
  match s.lwl.writing with
  | some (e, ts) =>
    if t ∈ ts then
      let rest := ts.erase t
      if rest.isEmpty then s.epochInForce e else s.lwlMap (fun l => { l with writing := some (e, rest) })
    else s
  | none => s

/-- EPOCH_ACK: a consumer acknowledges an epoch write; a stale one leaves that state with its last (R505, R506). -/
def execEpochAck (off : Nat) (t : Fin 96) (s : State) : Result :=
  let s0 := s.at off
  if t.val ∈ s0.lwl.stale then
    match FMap.get? s0.lwl.rewriting t.val with
    | some n =>
      .next (s0.lwlMap (fun l => if n ≤ 1 then { l with rewriting := FMap.erase l.rewriting t.val, stale := l.stale.erase t.val }
        else { l with rewriting := FMap.set l.rewriting t.val (n - 1) }))
    | none => .next s0
  else .next (s0.epochSettles t.val)

/-- CONSUMER_STALE: a consumer answers an epoch write with NACK (R506). -/
def execConsumerStale (off : Nat) (t : Fin 96) (s : State) : Result :=
  let s0 := s.at off
  if t.val ∈ s0.lwl.stale then .next (s0.lwlMap (fun l => { l with rewriting := FMap.erase l.rewriting t.val }))
  else
    let s1 := ((s0.lwlMap (fun l => { l with stale := t.val :: l.stale })).incFld lwlPage F.LWL_EPOCHS_b16).raiseIrq lwlPage 4
    .next (s1.epochSettles t.val)

/-- The live slots rewritten to a stale consumer that is ACTIVE (R506). -/
def State.rewriteStale (s : State) (t : Nat) : State :=
  if s.unit (Pg.tile t) = uActive && (FMap.get? s.lwl.rewriting t).isNone && !s.lwl.slots.isEmpty then
    (s.lwl.slots.foldl (fun (a : State) e => a.writeEpoch e.2 t) s).lwlMap (fun l =>
      { l with rewriting := FMap.set l.rewriting t s.lwl.slots.length })
  else s

/-! ### Boundary: retirement, swap, bypass (R497, R506, R507, R509 to R511) -/

/-- A bank taken: LSTATE settles, the trims clear, an epoch of the old bank is discarded (R497, R502, R511). -/
def State.takeBank (s : State) (b : Nat) : State :=
  ((s.setFld lwlPage F.LWL_STATUS_b3 b).setLw LS.settling).lwlMap (fun l => { l with
    settle := s.count + max 1024 (s.inForce lwlPage F.LWL_SETTLE_LWL_SETTLE), first := false, due := none, writing := none,
    trims := [], step := 0, bad := 0, worst := 0 })

/-- Items whose self-test has passed become usable (R516). -/
def State.usableItems (s : State) : State :=
  let s1 := s.lwl.passed.foldl (fun (a : State) k =>
    let clear := fun (b : State) (p : Nat) (f : Fld) (bit : Nat) =>
      if (b.fld p f >>> bit) % 2 = 1 then b.setFld p f (b.fld p f - 2 ^ bit) else b
    if k < 64 then clear a (Pg.lwl (9 + k / 8)) F.LWL_CG_RETIRED_b0 (k % 8)
    else if k < 128 then clear a (Pg.lwl (9 + (k - 64) / 8)) F.LWL_CG_RETIRED_b8 (k % 8)
    else
      let p := cellPlace (k - 128)
      clear a p.1 (F.LWL_COL_RETIRED (p.2 / 32)) (p.2 % 32)) s
  let pages := s.lwl.passed.map (fun k => if k < 64 then Pg.lwl (9 + k / 8) else if k < 128 then Pg.lwl (9 + (k - 64) / 8)
    else (cellPlace (k - 128)).1)
  let left := fun (a : State) (p : Nat) => if p < Pg.lwl 17 then a.fld p ⟨0x044, 0, 16⟩ ≠ 0
    else (List.range 8).any (fun m => a.fld p (F.LWL_COL_RETIRED m) ≠ 0)
  (pages.foldl (fun (a : State) p => a.setSubRetired p (left a p)) s1).lwlMap (fun l =>
    { l with passed := [], tests := FMap.mapKV l.tests (fun _ _ => true) })

/-- The Lightwell at a turn boundary, after the retirements that fall on it; and the class of a tier 2 item this turn
(R578). -/
def State.lwlBoundary (s : State) : State :=
  let s0 := (s.usableItems.lwlMap (fun l => { l with steps := 0 })).xtCommit
  let s1 :=
    if s0.unit lwlPage ≠ uActive then s0
    else
      let want := s0.inForce lwlPage F.LWL_CTL_BANK_SEL
      let a := if want ≠ s0.lwBank || s0.lwState = LS.noBank then
          (if s0.bankValid want then s0.takeBank want else s0.raiseIrq lwlPage 2)
        else s0
      let byp := a.inForce lwlPage F.LWL_CTL_BYPASS = 1
      let b := if byp && a.lwState = LS.running then a.setLw LS.bypassed
        else if !byp && a.lwState = LS.bypassed then a.setLw LS.running
        else if a.lwState = LS.degraded && a.bankValid a.lwBank && a.lwl.good then a.setLw LS.running
        else a
      b.lwl.stale.foldl State.rewriteStale b
  let st := s1.lwState
  let k := if s1.unit lwlPage ≠ uActive then none
    else if st = LS.running || st = LS.settling then some 0
    else if st = LS.bypassed || (st = LS.degraded && s1.inForce lwlPage F.LWL_CTL_AUTO_BYPASS ≠ 0) then some 2
    else none
  { s1 with energy := { s1.energy with t2Class := k } }

/-- SETTLE_END: LWL_SETTLE has elapsed and the new bank's first epoch is published (R497). -/
def execSettleEnd (off : Nat) (s : State) : Result :=
  let s0 := s.at off
  if s0.lwState = LS.settling && s0.lwl.settle ≤ s0.count && s0.lwl.first then .next (s0.setLw LS.running) else .next s0

/-! ### Items (R514 to R518) -/

/-- The lowest laser that is not RETIRED is the master (R487); a new one forces a cycle (Table LWL-5). -/
def State.takeMaster (s : State) : State :=
  let m := ([0, 1, 2, 3].find? (fun k => s.unit (Pg.lwl (1 + k)) ≠ uRetired)).getD 0
  if s.fld lwlPage F.LWL_STATUS_b4 = m then s
  else (s.setFld lwlPage F.LWL_STATUS_b4 m).lwlMap (fun l => { l with step := 0, owed := 9 })

/-- A laser retires: its inputs with it; if it was the master the next one takes over (R487, Table LWL-5). -/
def State.retireLaser (s : State) (l reason : Nat) : State :=
  let p := Pg.lwl (1 + l)
  if s.unit p = uRetired then s
  else
    let s1 := (s.setUnit p uRetired reason).raiseIrq p 0
    ((List.range 16).foldl (fun (a : State) k => a.retireChannel (16 * l + k) false Reason.parent) s1).takeMaster

/-- LWL_ITEM_FAULT: what the Lightwell's monitors find of an item (Table LWL-5). -/
def execLwlItemFault (off : Nat) (it : LwlFault) (s : State) : Result :=
  let s0 := s.at off
  match it with
  | .laser l current light =>
    let p := Pg.lwl (1 + l.val)
    let s1 := s0.setFld p F.LWL_LAS_STATUS_b0 current.toNat
    if !light then .next (s1.retireLaser l.val 0x82)
    else if 3 * s1.fld p F.LWL_LAS_STATUS_b16 < 2 * current.toNat then .next (s1.retireLaser l.val 0x80)
    else .next s1
  | .dac c => .next (s0.retireChannel c.val false 0x84)
  | .adc c offset =>
    match offset with
    | none => .next (s0.retireChannel c.val true 0x83)
    | some o => .next (if o.toNat < 8 || 247 < o.toNat then s0.retireChannel c.val true 0x83 else s0)
  | .heater n => .next (s0.retireCell n.val 0x81)

/-- The key of an item for reinstatement: inputs 0 to 63, outputs 64 to 127, cells from 128. -/
def lwlKey : LwlItem → Nat
  | .input c => c.val
  | .output c => 64 + c.val
  | .cell n => 128 + n.val

/-- Is an item retired? -/
def State.itemRetired (s : State) : LwlItem → Bool
  | .input c => s.inRetired c.val
  | .output c => s.outRetired c.val
  | .cell n => s.cellRetired n.val

/-- The page of an item. -/
def itemPage : LwlItem → Nat
  | .input c => Pg.lwl (9 + c.val / 8)
  | .output c => Pg.lwl (9 + c.val / 8)
  | .cell n => (cellPlace n.val).1

/-- The bit that asks for an item's reinstatement: of CG_REINSTATE, or COL_REINSTATE.GO. -/
def reinstateBit : LwlItem → Fld
  | .input c => ⟨0x040, c.val % 8, 1⟩
  | .output c => ⟨0x040, 8 + c.val % 8, 1⟩
  | .cell _ => F.LWL_COL_REINSTATE_GO

/-- An item's REINSTATE bit has been written: the self-test runs at the next boundary (R516), and the bit reads 1 until it
ends; for an item that is not RETIRED the bit clears at once. Log: entry 101 (DEDUCED). -/
def State.reinstateItem (s : State) (it : LwlItem) : State :=
  if (FMap.get? s.lwl.tests (lwlKey it)).isSome then s
  else if s.itemRetired it then
    (s.lwlMap (fun l => { l with tests := FMap.set l.tests (lwlKey it) false })).setFld (itemPage it) (reinstateBit it) 1
  else s.setFld (itemPage it) (reinstateBit it) 0

/-- A cell's index within its column group. -/
def State.putCellIndex (s : State) : LwlItem → State
  | .cell n => s.setFld (cellPlace n.val).1 F.LWL_COL_REINSTATE_b0 (cellPlace n.val).2
  | _ => s

/-- LWL_REINSTATE: an item's REINSTATE bit is written (R516); one that still reads 1 is ignored (R115). -/
def execLwlReinstate (off : Nat) (it : LwlItem) (s : State) : Result :=
  let s0 := s.at off
  .next (s0.onPage (itemPage it) (reinstateBit it).off (fun t =>
    if t.bit (itemPage it) (reinstateBit it) then t else (t.putCellIndex it).reinstateItem it))

/-- LWL_REINSTATE_DONE: an item's self-test ends: usable from the next boundary, or left RETIRED (R516). -/
def execLwlReinstateDone (off : Nat) (it : LwlItem) (pass : Bool) (s : State) : Result :=
  let s0 := s.at off
  match FMap.get? s0.lwl.tests (lwlKey it) with
  | some true =>
    let s1 := (s0.lwlMap (fun l => { l with tests := FMap.erase l.tests (lwlKey it) })).setFld (itemPage it) (reinstateBit it) 0
    .next (if pass then s1.lwlMap (fun l => { l with passed := l.passed ++ [lwlKey it] })
      else s1.setFld (itemPage it) F.HDR_UNIT_STATE_REASON Reason.reinstateFail)
  | _ => .next s0

/-- The core's self-test begins: the lasers warm (R519). -/
def State.coreTesting (s : State) : State := s.setLw LS.warming

/-- The core leaves ACTIVE: every window in the ring is void (R518). -/
def State.coreLeaves (s : State) : State := (s.voidRing.setLw LS.off).lwlMap (fun l => { l with projecting := none, writing := none })

/-- The core becomes ACTIVE (R519): the first epoch is due, or there is no bank. -/
def State.coreEnters (s : State) : State :=
  let b := s.lwBank
  if s.bankValid b then
    let c := (List.range 64).map (fun j => s.calOf (s.lwl.dark.getD j 0) (s.lwl.gains.getD j 0))
    let e : Epoch := s.lwl.epoch.getD ⟨0, c.map Prod.snd, c.map Prod.fst, s.inRes b, s.outRes b, b⟩
    (s.setLw LS.running).lwlMap (fun l => { l with due := some e, epoch := none, held := [], landing := [], tagged := [] })
  else s.setLw LS.noBank

/-- The core's self-test has measured its heaters and calibrated bank 0 (R519). -/
def State.coreTested (s : State) : State :=
  let s1 : State := { s with draws := s.draws + 4160 }
  (s1.lwlMap (fun l => { l with
    measured := some s.draws
    dark := (List.range 64).map (fun j => Config.freeNat (s.draws + 4032 + j) % 65536)
    gains := (List.range 64).map (fun j => Config.freeNat (s.draws + 4096 + j) % 2 ^ 20) })).setLw (if s.bankValid 0 then LS.calibrating else LS.noBank)

/-- LWL_CONTROLLER_FAIL: the controller or sample path fails (R517). -/
def execLwlControllerFail (off : Nat) (s : State) : Result :=
  let s0 := s.at off
  .next ((s0.fail lwlPage Reason.hwError).coreLeaves)

/-! ### Table space (Table LWL-9) -/

/-- A table word, as a read gives it. -/
def State.lwRead (s : State) (a : Nat) : Nat :=
  if 0x9000 ≤ a && a < 0x9000 + 4032 then (s.heaterCal (a - 0x9000)).1 + 65536 * (s.heaterCal (a - 0x9000)).2
  else if 0xA000 ≤ a && a < 0xA040 then
    match s.lwl.epoch with
    | some e => e.gains.getD (a - 0xA000) 0 + 65536 * e.offsets.getD (a - 0xA000) 0
    | none => 0
  else s.lwWord a

/-- The bits a writable table word holds; 0 where the space has no writable word. -/
def lwMask (a : Nat) : Nat :=
  let w := a % 0x4000
  if a < 0x8000 then
    (if w = 0 then 0xFFFF else if w ≤ 4 then 0xFFFFFFFF else if 0x10 ≤ w && w ≤ 0x1F then 0xFFFFFFFF
     else if 0x100 ≤ w && w < 0x100 + 2016 then 0xFFFFFFFF else 0)
  else if a < 0x8800 then (if a % 16 < 10 then 0xFFFFFFFF else 0)
  else 0

/-- The table address moves on after an access where AUTO_INC is 1. -/
def State.lwStep (s : State) : State :=
  if s.bit lwlPage F.LWL_TBL_ADDR_AUTO_INC then
    s.setFld lwlPage F.LWL_TBL_ADDR_b0 (s.fld lwlPage F.LWL_TBL_ADDR_b0 + 1) else s

/-- A write of LWL_TBL_DATA (R496): ignored and recorded for the bank in force, or where no writable word stands. -/
def State.lwTableWrite (s : State) (v : Word) (size : Nat := 2) : State :=
  let a := s.fld lwlPage F.LWL_TBL_ADDR_b0
  let live := a < 0x8000 && a / 0x4000 = s.lwBank && s.unit lwlPage = uActive && s.lwState ≠ LS.noBank
  if live || lwMask a = 0 then (s.recordFault (fullPart lwlPage 0x078 size) Cause.rsvdSet).lwStep
  else (s.setLwWord a (v &&& BitVec.ofNat 32 (lwMask a))).lwStep

/-- A read of LWL_TBL_DATA. -/
def State.lwTableRead (s : State) : State :=
  { s with rdata := [BitVec.ofNat 32 (s.lwRead (s.fld lwlPage F.LWL_TBL_ADDR_b0))] }.lwStep

/-- LWL_TABLE_ACCESS: a full-width access to LWL_TBL_DATA (R496). -/
def execLwlTableAccess (off : Nat) (v : Option Word) (s : State) : Result :=
  match v with
  | some w => .next ((s.at off).onPage lwlPage 0x078 (fun t => t.lwTableWrite w))
  | none => .next ((s.at off).readPage lwlPage 0x078 State.lwTableRead)

end Sys2Proof.Machine
end

