-- ==== Sys2Proof/Machine/Security.lean ====
section
/-!
DEFINITION. The cryptographic module (spec/19): its states, requests and services, zeroization, self-tests, debug
levels, image sections.
-/

set_option Elab.async false

namespace Sys2Proof.Machine

open Sys2Proof

/-! ### States (Table SEC-1) -/

def MS.selftest : Nat := 0
def MS.operational : Nat := 1
def MS.error : Nat := 2
def MS.critical : Nat := 3
def MS.zeroized : Nat := 4

/-- The statuses of Table SEC-3. -/
def SS.ok : Nat := 0x00
def SS.badArg : Nat := 0x01
def SS.notAuthorised : Nat := 0x02
def SS.notOperational : Nat := 0x03
def SS.notApproved : Nat := 0x04
def SS.slotInUse : Nat := 0x05
def SS.unwrapFail : Nat := 0x06
def SS.noKey : Nat := 0x07
def SS.sigFail : Nat := 0x08
def SS.revoked : Nat := 0x09
def SS.challengeStale : Nat := 0x0A
def SS.fuseFail : Nat := 0x0B
def SS.unsupported : Nat := 0x0C

/-- The module's part of the state changed. -/
def State.secMap (s : State) (f : Sec → Sec) : State := { s with sec := f s.sec }

/-- MSTATE. -/
def State.mstate (s : State) : Nat := s.fld (Pg.sec 0) F.SEC_STATUS_MSTATE

/-- The module is in approved mode. -/
def State.approvedMode (s : State) : Bool := s.fld (Pg.sec 0) F.SEC_STATUS_MODE = 0

/-- APPROVED brought up to date (R772). -/
def State.syncApproved (s : State) : State :=
  let v := s.approvedMode && s.mstate = MS.operational && !s.sec.wasLevel2
  let was := s.bit (Pg.sec 0) F.SEC_STATUS_APPROVED
  let s1 := s.setFld (Pg.sec 0) F.SEC_STATUS_APPROVED (bitOf v)
  if was && !v then s1.raiseIrq (Pg.sec 0) 3 else s1

/-- MSTATE set (Table SEC-1). -/
def State.setMstate (s : State) (v : Nat) : State :=
  if s.mstate = v then s.syncApproved
  else ((s.setFld (Pg.sec 0) F.SEC_STATUS_MSTATE v).raiseIrq (Pg.sec 0) 1).syncApproved

/-- The debug level set (R787, R788). -/
def State.setDebug (s : State) (n : Nat) : State :=
  let was := s.fld (Pg.sec 6) F.SEC_DBG_STATUS_b0
  let s1 := (s.setFld (Pg.sec 6) F.SEC_DBG_STATUS_b0 n).setFld (Pg.sec 0) F.SEC_STATUS_b6 n
  let s2 := if n = 2 then (s1.secMap (fun x => { x with wasLevel2 := true })).syncApproved else s1
  if was = n then s2 else s2.raiseIrq (Pg.sec 0) 4

/-- The STK slots that hold a key, as KEY_STK shows them. -/
def State.syncStk (s : State) : State :=
  s.setFld (Pg.sec 5) F.SEC_KEY_STK (((List.range 4).map (fun k => bitOf (FMap.get? s.sec.stks k).isSome * 2 ^ k)).foldl (· + ·) 0)

/-- The challenge bit of DBG_STATUS: PF0 or JTAG waits for a response. -/
def State.syncNonce (s : State) : State :=
  let s1 := s.setFld (Pg.sec 6) F.SEC_DBG_STATUS_b3 (bitOf (!s.sec.nonces.isEmpty))
  if s.sec.nonces.isEmpty then s1.setFld (Pg.sec 6) F.SEC_DBG_STATUS_b8 0 else s1

/-! ### Requests and responses (R769, R770) -/

/-- A requester's number. -/
def requester : Requester → Nat
  | .controller => 0
  | .firmware => 1
  | .pf0 => 2
  | .jtag => 3

/-- Byte `b` of PF0's request window. -/
def State.secReqByte (s : State) (b : Nat) : Nat :=
  let w := b / 4
  s.fld (Pg.sec (1 + w / 1008)) ⟨0x040 + 4 * (w % 1008), 8 * (b % 4), 8⟩

/-- The bytes of a request: PF0's stand in its window. -/
def State.secReq (s : State) (who : Requester) (req : List (BitVec 8)) : List Nat :=
  if who = .pf0 then
    (List.range (min 8064 (max 8 (s.secReqByte 2 + 256 * s.secReqByte 3)))).map s.secReqByte
  else req.map BitVec.toNat

/-- Bytes written to the response window. -/
def State.rspBytes (s : State) : Nat → List Nat → State
  | 0, _ => s
  | n + 1, b =>
    if b.isEmpty then s
    else
      let k := 1007 - n
      (s.setFld (Pg.sec 3) (F.SEC_RSP_DATA k) (leNat (b.take 4))).rspBytes n (b.drop 4)

/-- A service ends with a status and results (R770). -/
def State.secAnswer (s : State) (who opcode : Nat) (status : Nat) (approved : Bool) (res : List Nat) : State :=
  let len := 8 + res.length
  let rsp := leBytes 2 opcode ++ leBytes 2 len ++ [status, bitOf approved, 0, 0] ++ res
  let s1 := if status = SS.ok then s.incFld (Pg.sec 0) F.SEC_SERVICES_b0 else s.incFld (Pg.sec 0) F.SEC_SERVICES_b16
  if who = 2 then
    let s2 := (s1.rspBytes 1008 rsp).setFld (Pg.sec 0) F.SEC_RSP_SEQ (s1.fld (Pg.sec 0) F.SEC_CTL_SEQ)
    let s3 := (s2.setFld (Pg.sec 0) F.SEC_RSP_b8 status).setFld (Pg.sec 0) F.SEC_RSP_BUSY 0
    (s3.setFld (Pg.sec 0) F.SEC_RSP_APPROVED (bitOf approved)).raiseIrq (Pg.sec 0) 0
  else s1.emit (.secResponse who rsp)

/-- What a service leaves: the state, its status, its results; none where its answer comes later. -/
abbrev Served := Option (State × Nat × List Nat)

/-- A request put in the queue of R784: a requester has at most one request in progress (R769). -/
def State.holdRequest (s : State) (who : Requester) (h : HeldReq) : State :=
  let w := requester who
  if (FMap.get? s.sec.held w).isSome || s.sec.testFor.map Prod.fst = some w then s
  else s.secMap (fun x => { x with held := FMap.set x.held w h })

/-- A service of Table SEC-2: `extra` is its command's further operand, `states` are those that run it, `co` asks for a CO
session, `plain` says it exists in non-approved mode only. A request that arrives in SELFTEST is held (R784); only STATUS
is answered then (R797). Log: entry 57 (DEDUCED). -/
def runService (extra : List (BitVec 8)) (off : Nat) (who : Requester) (req : List (BitVec 8)) (opcode : Nat)
    (states : List Nat) (co plain : Bool) (run : State → Nat → List Nat → Served) (s : State) : Result :=
  let s0 := s.at off
  let w := requester who
  let b := s0.secReq who req
  if who = .pf0 && (!s0.bit (Pg.sec 0) F.SEC_RSP_BUSY || leNat (b.take 2) ≠ opcode) then .next s0
  else if s0.mstate = MS.selftest && opcode ≠ 1 then .next (s0.holdRequest who ⟨opcode, who, req, extra⟩)
  else
    let ok := s0.approvedMode && !plain
    let no := fun (st : Nat) => Host.Outcome.next (s0.secAnswer w opcode st ok [])
    if !states.contains s0.mstate then no SS.notOperational
    else if 0x0080 ≤ opcode && 2 ≤ w then no SS.unsupported
    else if co && !s0.sec.sessions.contains w then no SS.notAuthorised
    else if plain && s0.approvedMode then no SS.notApproved
    else match run s0 w b with
      | some (t, st, res) => .next (t.secAnswer w opcode st ok res)
      | none =>
        .next s0

/-- The device ID, 8 B, most significant byte first. -/
def State.deviceId (s : State) : List Nat :=
  beBytes 8 (s.fld (Pg.sec 0) F.SEC_ID_LO + 2 ^ 32 * s.fld (Pg.sec 0) F.SEC_ID_HI)

/-- `n` bytes of DRBG output: free values, one generate request (Table SEC-4). -/
def State.drbgBytes (s : State) (n : Nat) : List Nat × State :=
  ((List.range n).map (fun i => s.free / 256 ^ i % 256), (s.drawn.incFld (Pg.sec 4) F.SEC_DRBG_CNT))

/-! ### Zeroization and error states (R767, R782, R785) -/

/-- CO sessions ended. -/
def State.endSessions (s : State) : State :=
  (s.secMap (fun x => { x with sessions := [] })).setFld (Pg.sec 0) F.SEC_STATUS_CO 0

/-- A service that waits for the running tests ends with a status. -/
def State.endTest (s : State) (status : Nat) : State :=
  match s.sec.testFor with
  | some (w, opcode) => (s.secMap (fun x => { x with testFor := none })).secAnswer w opcode status s.approvedMode []
  | none => s

/-- Every CSP cleared (R782), but for MSTATE. -/
def State.zeroizeCsps (s : State) : State :=
  let s1 := s.secMap (fun x => { x with pufk := none, dkek := none, stks := [], drbg := false, nonces := [], stale := [], sections := [] })
  let s2 := (((s1.syncStk).syncNonce).endSessions).setDebug 0
  ((s2.zeroizeKeys).incFld (Pg.sec 0) F.SEC_EVENTS_b0).raiseIrq (Pg.sec 0) 2

/-- Zeroization (R782, R790). -/
def State.zeroize (s : State) : State := ((s.zeroizeCsps).setMstate MS.zeroized).endTest SS.notOperational

/-- Entry to ERROR or CRITICAL with a code (R785, R795). -/
def State.secFail (s : State) (v code : Nat) : State :=
  let s1 := (s.setMstate v).setFld (Pg.sec 0) F.SEC_STATUS_ERR_CODE code
  let s2 := s1.secMap (fun x => { x with stks := [], sections := [] })
  ((((s2.syncStk).endSessions).setDebug 0).zeroizeKeys).endTest SS.notOperational

/-- ST_RESULT's pass or fail bit of a test, in the order of Table SEC-8. -/
def State.testBit (s : State) (k : Nat) (pass : Bool) : State :=
  (s.setFld (Pg.sec 4) ⟨0x040, k, 1⟩ (bitOf pass)).setFld (Pg.sec 4) ⟨0x040, 16 + k, 1⟩ (bitOf (!pass))

/-- The module starts its tests; MSTATE leaves OPERATIONAL, and with it every CO session ends (R768). -/
def State.startTests (s : State) (by' : Option (Nat × Nat)) : State :=
  ((s.setMstate MS.selftest).endSessions).secMap (fun x => { x with testFor := by' })

/-- A failure of a continuous test counted (HEALTH_CNT). -/
def State.countHealth (s : State) (t : HealthTest) : State :=
  match t with
  | .rct => s.incFld (Pg.sec 4) F.SEC_HEALTH_CNT_RCT
  | .apt => s.incFld (Pg.sec 4) F.SEC_HEALTH_CNT_APT
  | _ => s

/-- A continuous or conditional test has failed: its count, its bit, the cause, ERROR (R785, Table SEC-8). -/
def State.healthFail (s : State) (t : HealthTest) : State :=
  let code := match t with
    | .rct => 5
    | .apt => 6
    | .pct => 7
    | .drbg => 8
  let bit := match t with
    | .rct | .apt => 4
    | .pct => 5
    | .drbg => 6
  (((s.countHealth t).testBit bit false).raiseIrq (Pg.sec 4) 0).secFail MS.error code

/-- DRBG_RESEED: after 2^20 generate requests the DRBG reseeds and checks its health (Table SEC-8). -/
def execDrbgReseed (off : Nat) (healthy : Bool) (s : State) : Result :=
  let s0 := s.at off
  if s0.mstate ≠ MS.operational || s0.fld (Pg.sec 4) F.SEC_DRBG_CNT < 2 ^ 20 then .next s0
  else if healthy then .next ((s0.setFld (Pg.sec 4) F.SEC_DRBG_CNT 0).testBit 6 true)
  else .next (s0.healthFail .drbg)

/-- ZEROIZE_N_HIGH (R782). -/
def execZeroizeNHigh (off : Nat) (s : State) : Result :=
  let s0 := s.at off
  .next { s0 with pins := { s0.pins with zeroizeN := true } }

/-! ### Status, tests, mode -/

/-- SEC_STATUS_SVC: the STATUS service, whose results are SEC_STATUS. -/
def execSecStatusSvc (off : Nat) (who : Requester) (req : List (BitVec 8)) (s : State) : Result :=
  runService [] off who req 0x0001 [0, 1, 2, 3, 4] false false
    (fun t _ _ => some (t, SS.ok, leBytes 4 (t.reg (regKey (Pg.sec 0) 0x040)).toNat)) s

/-- SELFTEST (R784): its answer comes with the end of the tests. -/
def execSelftest (off : Nat) (who : Requester) (req : List (BitVec 8)) (s : State) : Result :=
  let s0 := s.at off
  let b := s0.secReq who req
  let mine := who ≠ .pf0 || (s0.bit (Pg.sec 0) F.SEC_RSP_BUSY && leNat (b.take 2) = 0x0002)
  let free := s0.mstate = MS.operational || s0.mstate = MS.error || s0.mstate = MS.zeroized
  if mine && free && s0.pins.zeroizeN then .next (s0.startTests (some (requester who, 0x0002)))
  else runService [] off who req 0x0002 [] false false (fun _ _ _ => none) s

/-- SET_MODE (R771): zeroization, the change of mode, the tests. -/
def execSetMode (off : Nat) (who : Requester) (req : List (BitVec 8)) (s : State) : Result :=
  let s0 := s.at off
  let w := requester who
  let b := s0.secReq who req
  let mine := who ≠ .pf0 || (s0.bit (Pg.sec 0) F.SEC_RSP_BUSY && leNat (b.take 2) = 0x0050)
  let mode := b.getD 8 2
  if mine && s0.mstate = MS.operational && s0.sec.sessions.contains w && mode < 2 &&
      !(mode = 1 && s0.bit (Pg.sec 0) F.SEC_STATUS_MODE_LOCK) then
    .next (((s0.zeroize).setFld (Pg.sec 0) F.SEC_STATUS_MODE mode).startTests (some (w, 0x0050)))
  else
    runService [] off who req 0x0050 [1] true false
      (fun t _ r => some (t, if 2 ≤ r.getD 8 2 then SS.badArg else SS.notApproved, [])) s

/-- ZEROIZE (R782, R783). -/
def execZeroize (off : Nat) (who : Requester) (req : List (BitVec 8)) (s : State) : Result :=
  runService [] off who req 0x0051 [1] true false (fun t _ r =>
    if 2 ≤ r.getD 8 2 then some (t, SS.badArg, [])
    else
      let t1 := t.zeroize
      some (if r.getD 8 0 = 1 then t1.setFld (Pg.sec 0) F.SEC_STATUS_KILLED 1 else t1, SS.ok, [])) s

/-- DEBUG_LOCK (R788). -/
def execDebugLock (off : Nat) (who : Requester) (req : List (BitVec 8)) (s : State) : Result :=
  runService [] off who req 0x0060 [1, 2, 4] false false (fun t _ _ => some (t.setDebug 0, SS.ok, [])) s

/-- RANDOM. -/
def execSecRandom (off : Nat) (who : Requester) (req : List (BitVec 8)) (s : State) : Result :=
  runService [] off who req 0x0040 [1] false false (fun t _ r =>
    let n := leNat (sliceOf r 8 2)
    if n < 1 || 256 < n then some (t, SS.badArg, [])
    else
      let x := t.drbgBytes n
      some (x.2, SS.ok, x.1)) s

/-- RANDOM_RAW: raw noise-source bits, free values. -/
def execRandomRaw (off : Nat) (who : Requester) (req : List (BitVec 8)) (s : State) : Result :=
  runService [] off who req 0x0041 [1] false true (fun t _ r =>
    let n := leNat (sliceOf r 8 2)
    if n < 1 || 256 < n then some (t, SS.badArg, [])
    else some (t.drawn, SS.ok, (List.range n).map (fun i => t.free / 256 ^ i % 256))) s

/-! ### Roles and debug (R768, R786, R788) -/

/-- A signature block (R730). -/
structure SigBlock where
  alg   : Nat
  index : Nat
  pub   : List Nat
  sig   : List Nat
  deriving DecidableEq, Repr

/-- One signature block read from bytes, with what follows its padding to 8 B. -/
def sigBlock (b : List Nat) : Option (SigBlock × List Nat) :=
  let p := beAt b 4 2
  let g := beAt b 6 2
  let n := (8 + p + g + 7) / 8 * 8
  if b.length < 8 + p + g then none
  else some (⟨beAt b 0 2, beAt b 2 2, sliceOf b 8 p, sliceOf b (8 + p) g⟩, b.drop n)

/-- The two blocks of a request, ECDSA first: none unless there is exactly one of each algorithm. -/
def sigPair (b : List Nat) : Option (SigBlock × SigBlock) :=
  match sigBlock b with
  | some (x, rest) =>
    match sigBlock rest with
    | some (y, _) =>
      if x.alg = 1 && y.alg = 2 then some (x, y) else if x.alg = 2 && y.alg = 1 then some (y, x) else none
    | none => none
  | none => none

/-- The bit of KEY_PUB that a public-key index stands at: indexes 0 to 3 image signing, 4 and 5 CO, 6 and 7 debug. -/
def pubBit (index : Nat) (revoked : Bool) : Nat :=
  if index < 4 then index + 4 * bitOf revoked else if index < 6 then index + 4 + 2 * bitOf revoked else index + 6 + 2 * bitOf revoked

/-- A bit of KEY_PUB. -/
def State.pubIs (s : State) (index : Nat) (revoked : Bool) : Bool := s.bit (Pg.sec 5) ⟨0x048, pubBit index revoked, 1⟩

/-- A block's key checked against the fuses (R774). Log: entry 57 (DEDUCED). -/
def State.keyStatus (s : State) (base limit : Nat) (x : SigBlock) : Nat :=
  if limit ≤ x.index then SS.badArg
  else if !s.pubIs (base + x.index) false then SS.noKey
  else if s.pubIs (base + x.index) true then SS.revoked
  else if FMap.get? s.sec.hashes (2 * (base + x.index) + (x.alg - 1)) ≠ some (Config.sha384 x.pub) then SS.sigFail
  else SS.ok

/-- Both blocks checked over a message. -/
def State.verifyPair (s : State) (base limit : Nat) (p : SigBlock × SigBlock) (msg : List Nat) : Nat :=
  let a := s.keyStatus base limit p.1
  let b := s.keyStatus base limit p.2
  if a ≠ SS.ok then a
  else if b ≠ SS.ok then b
  else if Config.ecdsaVerify p.1.pub msg p.1.sig && Config.mldsaVerify p.2.pub msg p.2.sig then SS.ok
  else SS.sigFail

/-- AUTH_CHALLENGE (R786, R792). -/
def execAuthChallenge (off : Nat) (who : Requester) (req : List (BitVec 8)) (s : State) : Result :=
  runService [] off who req 0x0010 [1] false false (fun t w r =>
    if 2 < r.getD 8 3 || 1 < r.getD 9 2 then some (t, SS.badArg, [])
    else
      let x := t.drbgBytes 48
      let n : Nonce := ⟨x.1, r.getD 8 0, r.getD 9 0⟩
      let t1 := x.2.secMap (fun y => { y with
        stale := match FMap.get? y.nonces w with
          | some old => FMap.set y.stale w old
          | none => FMap.erase y.stale w
        nonces := FMap.set y.nonces w n })
      some ((t1.syncNonce).setFld (Pg.sec 6) F.SEC_DBG_STATUS_b8 30, SS.ok, x.1 ++ t.deviceId)) s

/-- The index base of a purpose. -/
def purposeBase (p : Nat) : Nat := if p = 0 then 4 else 6

/-- A response checked against a nonce. -/
def State.authStatus (s : State) (n : Nonce) (p : SigBlock × SigBlock) : Nat :=
  if p.1.index ≠ n.index || p.2.index ≠ n.index then SS.badArg
  else s.verifyPair (purposeBase n.purpose) 2 p (n.bytes ++ s.deviceId ++ [n.purpose])

/-- What a successful AUTH_RESPONSE grants (R786, R788). -/
def State.grantAuth (s : State) (w : Nat) (n : Nonce) : State :=
  if n.purpose = 0 then
    let s1 := s.secMap (fun x => { x with sessions := w :: x.sessions.filter (· ≠ w) })
    if w = 2 then s1.setFld (Pg.sec 0) F.SEC_STATUS_CO 1 else s1
  else
    let s1 := if n.purpose = 2 && s.approvedMode then s.zeroizeCsps else s
    let s2 := (s1.setDebug n.purpose).setFld (Pg.sec 6) F.SEC_DBG_STATUS_b2 n.index
    s2.incFld (Pg.sec 6) F.SEC_DBG_UNLOCKS_b0

/-- The nonce an interface waits for a response to; NONCE_EXPIRY ends it 30 s after its challenge (R786).
Log: entry 59 (DESIGN CHOICE). -/
def State.nonceOf (s : State) (w : Nat) : Option Nonce := FMap.get? s.sec.nonces w

/-- AUTH_RESPONSE (R786, R792): a response to the nonce that a newer challenge replaced is stale. -/
def execAuthResponse (off : Nat) (who : Requester) (req : List (BitVec 8)) (s : State) : Result :=
  runService [] off who req 0x0011 [1] false false (fun t w r =>
    let bad := fun (u : State) (st : Nat) => some (u.incFld (Pg.sec 6) F.SEC_DBG_UNLOCKS_b16, st, [])
    match t.nonceOf w with
    | none => bad t SS.challengeStale
    | some n =>
      let used := (t.secMap (fun y => { y with nonces := FMap.erase y.nonces w, stale := FMap.erase y.stale w })).syncNonce
      match sigPair (r.drop 8) with
      | none => bad used SS.badArg
      | some p =>
        let st := t.authStatus n p
        if st = SS.ok then some (used.grantAuth w n, SS.ok, [])
        else match FMap.get? t.sec.stale w with
          | some old => if t.authStatus old p = SS.ok then bad t SS.challengeStale else bad used st
          | none => bad used st) s

/-- A CO session ended. -/
def State.endSession (s : State) (w : Nat) : State :=
  let s1 := s.secMap (fun x => { x with sessions := x.sessions.filter (· ≠ w) })
  if w = 2 then s1.setFld (Pg.sec 0) F.SEC_STATUS_CO 0 else s1

/-- LOGOUT. -/
def execLogout (off : Nat) (who : Requester) (req : List (BitVec 8)) (s : State) : Result :=
  runService [] off who req 0x0012 [1] true false (fun t w _ => some (t.endSession w, SS.ok, [])) s

/-- CO_SESSION_IDLE: 600 s of the island oscillator without a request on the interface (R768). -/
def execCoSessionIdle (off : Nat) (who : Requester) (s : State) : Result := .next ((s.at off).endSession (requester who))

/-- NONCE_EXPIRY: 30 s after a challenge (R786). Log: entry 59 (DESIGN CHOICE). -/
def execNonceExpiry (off : Nat) (who : Requester) (s : State) : Result :=
  .next (((s.at off).secMap (fun y => { y with nonces := FMap.erase y.nonces (requester who), stale := FMap.erase y.stale (requester who) })).syncNonce)

/-! ### Keys (R777 to R780) -/

/-- STK_ESTABLISH (R777); the pair passes its consistency test (a failed one is HEALTH_TEST_FAIL's), which ST_RESULT shows. -/
def execStkEstablish (off : Nat) (who : Requester) (req : List (BitVec 8)) (s : State) : Result :=
  runService [] off who req 0x0020 [1] true false (fun t _ r =>
    let slot := r.getD 8 4
    let pub := sliceOf r 16 97
    if 4 ≤ slot || r.length < 113 || !Config.p384Valid pub then some (t, SS.badArg, [])
    else
      let x := t.drbgBytes 48
      let priv := beNat x.1
      let z := Config.p384Shared priv pub
      let stk := beNat ((Config.sha384 ([0, 0, 0, 1] ++ z ++ [0x54, 0x58, 0x39, 0x36, 0x34, 0x2D, 0x53, 0x54, 0x4B, slot] ++ t.deviceId)).take 32)
      let t1 := (x.2.secMap (fun y => { y with stks := FMap.set y.stks slot stk })).syncStk
      some (t1.testBit 5 true, SS.ok, Config.p384Public priv)) s

/-- STK_CLEAR. -/
def execStkClear (off : Nat) (who : Requester) (req : List (BitVec 8)) (s : State) : Result :=
  runService [] off who req 0x0021 [1] true false (fun t _ r =>
    let slot := r.getD 8 4
    if 4 ≤ slot then some (t, SS.badArg, [])
    else some ((t.secMap (fun y => { y with stks := FMap.erase y.stks slot })).syncStk, SS.ok, [])) s

/-- The SA_CTL that bytes 8 to 11 of a request name, and its slot number, where they are in range (Table SEC-7).
Log: entry 109 (DEDUCED). -/
def saOperand (r : List Nat) : Option (Nat × Nat × Nat) :=
  let q := r.getD 8 8
  let dir := r.getD 9 2
  let c := r.getD 10 8
  let a := r.getD 11 4
  if 8 ≤ q || 2 ≤ dir || 8 ≤ c || 4 ≤ a || (dir = 1 && c ≠ 0) then none
  else if dir = 1 then some (q, 0x100 + 32 * a, a)
  else some (q, 0x210 + 128 * c + 16 * a, 4 + 4 * c + a)

/-- A key and its tag put into an SA slot (R780, R258): in force like a write, from the next boundary when the load ends
before its commit cut-off, and from the one after otherwise (R269). Log: entry 109 (DEDUCED). -/
def State.loadSak (s : State) (q ctl n key salt tag : Nat) : State :=
  let t := s.noteLate (regKey (Pg.msc q) ctl)
  let s1 := (t.setFld (Pg.msc q) ⟨ctl, 1, 1⟩ 1).setFld (Pg.msc q) ⟨ctl, 16, 16⟩ tag
  { s1 with saks := FMap.set s1.saks (64 * q + n) (key, salt) }

/-- A SAK load that gives a key, counted (R780). -/
def State.sakLoad (s : State) (r : List Nat) (key : State → Except Nat Nat) : State × Nat × List Nat :=
  let no := fun (st : Nat) => (s.incFld (Pg.sec 5) F.SEC_SAK_LOADS_b16, st, ([] : List Nat))
  match saOperand r with
  | none => no SS.badArg
  | some (q, ctl, n) =>
    if r.length < 72 || 2 ≤ r.getD 15 2 then no SS.badArg
    else if (r.getD 15 0 = 1) ≠ ((s.portAux q).xpn = true) then no SS.badArg
    else match key s with
      | .error st => no st
      | .ok k =>
        if !s.saIdle q ctl then no SS.slotInUse
        else
          let salt := if r.getD 15 0 = 1 then beNat (sliceOf r 56 12) else 0
          let tag := leNat (sliceOf r 12 2)
          ((s.loadSak q ctl n k salt tag).incFld (Pg.sec 5) F.SEC_SAK_LOADS_b0, SS.ok, leBytes 2 tag ++ [r.getD 11 0, 0])

/-- SAK_LOAD (R780). -/
def execSakLoad (off : Nat) (who : Requester) (req : List (BitVec 8)) (s : State) : Result :=
  runService [] off who req 0x0030 [1] false false (fun t _ r =>
    some (t.sakLoad r (fun u =>
      if 4 ≤ r.getD 14 4 then .error SS.badArg
      else match FMap.get? u.sec.stks (r.getD 14 4) with
        | none => .error SS.noKey
        | some k => match Config.kwUnwrap k (sliceOf r 16 40) with
          | none => .error SS.unwrapFail
          | some b => .ok (beNat b)))) s

/-- SAK_LOAD_PLAIN: the key stands in bytes 16 to 47. -/
def execSakLoadPlain (off : Nat) (who : Requester) (req : List (BitVec 8)) (s : State) : Result :=
  runService [] off who req 0x0032 [1] false true
    (fun t _ r => some (t.sakLoad r (fun _ => .ok (beNat (sliceOf r 16 32))))) s

/-- SAK_CLEAR (R780). -/
def execSakClear (off : Nat) (who : Requester) (req : List (BitVec 8)) (s : State) : Result :=
  runService [] off who req 0x0031 [1] false false (fun t _ r =>
    match saOperand r with
    | none => some (t, SS.badArg, [])
    | some (q, ctl, _) => if t.saIdle q ctl then some (t.clearSlot q ctl, SS.ok, []) else some (t, SS.slotInUse, [])) s

/-- A fuse readback's result: a failed one revokes the item and is recorded (Table SEC-8, R795). -/
def State.fuseRead (s : State) (ok : Bool) (revoke : State → State) : State × Nat × List Nat :=
  if ok then (s.testBit 7 true, SS.ok, [])
  else ((((revoke s).testBit 7 false).setFld (Pg.sec 0) F.SEC_STATUS_ERR_CODE 9).raiseIrq (Pg.sec 4) 0, SS.fuseFail, [])

/-- PROVISION_IK (R778, R783); `readback` says that the fuses read back as blown. -/
def execProvisionIk (off : Nat) (who : Requester) (req : List (BitVec 8)) (readback : Bool) (s : State) : Result :=
  runService (if readback then [1] else []) off who req 0x0070 [1] true false (fun t _ r =>
    let k := r.getD 8 8
    let slot := r.getD 9 4
    if 8 ≤ k || 4 ≤ slot || r.length < 56 then some (t, SS.badArg, [])
    else match t.sec.dkek, FMap.get? t.sec.stks slot with
      | some d, some stk =>
        if t.bit (Pg.sec 5) ⟨0x044, k, 1⟩ then some (t, SS.slotInUse, [])
        else match Config.kwUnwrap stk (sliceOf r 16 40) with
          | none => some (t, SS.unwrapFail, [])
          | some ik =>
            let t1 := (t.secMap (fun y => { y with ikFuse := FMap.set y.ikFuse k (Config.kwWrap d ik) })).setFld (Pg.sec 5) ⟨0x044, k, 1⟩ 1
            some (t1.fuseRead readback (fun u => u.setFld (Pg.sec 5) ⟨0x044, 8 + k, 1⟩ 1))
      | _, _ => some (t, SS.noKey, [])) s

/-- Would a revocation leave an index of its kind that is programmed and not revoked (R779)? -/
def State.leavesIndex (s : State) (base limit index : Nat) : Bool :=
  (List.range limit).any (fun i => i ≠ index && s.pubIs (base + i) false && !s.pubIs (base + i) true)

/-- REVOKE (R779). -/
def execRevoke (off : Nat) (who : Requester) (req : List (BitVec 8)) (readback : Bool) (s : State) : Result :=
  runService (if readback then [1] else []) off who req 0x0071 [1] true false (fun t _ r =>
    let kind := r.getD 8 4
    let i := r.getD 9 8
    let base := if kind = 1 then 0 else if kind = 2 then 4 else 6
    let limit := if kind = 0 then 8 else if kind = 1 then 4 else 2
    if 4 ≤ kind || limit ≤ i || r.length < 10 then some (t, SS.badArg, [])
    else if (kind = 1 || kind = 2) && !t.leavesIndex base limit i then some (t, SS.badArg, [])
    else
      let bit := if kind = 0 then ⟨0x044, 8 + i, 1⟩ else ⟨0x048, pubBit (base + i) true, 1⟩
      let t1 := t.setFld (Pg.sec 5) bit 1
      some (t1.fuseRead readback id)) s

/-! ### Sections (R774, R775) -/

/-- A section authenticated and opened for a requester, from its header and signature blocks. -/
def State.openImage (s : State) (w : Nat) (b : List Nat) : State × Nat :=
  let h := b.take 256
  let key := beAt h 14 2
  if b.length < 256 || beAt h 0 4 ≠ 0x474C4453 || beAt h 4 2 ≠ 1 || beAt h 26 2 ≠ 2 then (s, SS.badArg)
  else match sigPair (b.drop 256) with
    | none => (s, SS.badArg)
    | some p =>
      let st := s.verifyPair 0 4 p h
      if st ≠ SS.ok then (s, st)
      else if 8 ≤ key then (s, SS.badArg)
      else if !s.bit (Pg.sec 5) ⟨0x044, key, 1⟩ then (s, SS.noKey)
      else if s.bit (Pg.sec 5) ⟨0x044, 8 + key, 1⟩ then (s, SS.revoked)
      else match s.sec.dkek.bind (fun d => Config.kwUnwrap d (FMap.getD s.sec.ikFuse key [])) with
        | none => (s, SS.noKey)
        | some ik =>
          let o : OpenSection := ⟨beNat ik, beAt h 32 12, h, beAt h 44 4, sliceOf h 48 48, []⟩
          (s.secMap (fun x => { x with sections := FMap.set x.sections w o }), SS.ok)

/-- A section ended, its image key cleared. -/
def State.closeImage (s : State) (w : Nat) : State := s.secMap (fun x => { x with sections := FMap.erase x.sections w })

/-- A chunk with its trailing digest verified and decrypted: none where the digest fails, which ends the section.
Log: entry 57 (DEDUCED). -/
def State.openChunk (s : State) (w : Nat) (b : List Nat) : State × Option (List Nat) :=
  match FMap.get? s.sec.sections w with
  | none => (s, none)
  | some o =>
    let n := b.length - 48
    if o.left = 0 || b.length < 48 || Config.sha384 b ≠ o.digest then (s.closeImage w, none)
    else
      let o1 := { o with left := o.left - 1, digest := b.drop n, cipher := o.cipher ++ b.take n }
      (s.secMap (fun x => { x with sections := FMap.set x.sections w o1 }),
       some (Config.gcmCtr o.key o.iv o.cipher.length (b.take n)))

/-- The GCM tag checked after the last chunk; the section ends. -/
def State.checkTag (s : State) (w : Nat) (tag : List Nat) : State × Bool :=
  match FMap.get? s.sec.sections w with
  | none => (s, false)
  | some o => (s.closeImage w, o.left = 0 && Config.gcmTag o.key o.iv o.header o.cipher = tag)

/-- IMAGE_OPEN as a service of the module (R774). -/
def State.serveOpen (t : State) (w : Nat) (r : List Nat) : State × Nat × List Nat :=
  let x := t.openImage w (r.drop 8)
  (x.1, x.2, [])

/-- IMAGE_CHUNK: one chunk and its trailing digest for the firmware; `tag` is the GCM tag that follows the last chunk. A
chunk or tag that fails is answered SIG_FAIL. -/
def execImageChunk (off : Nat) (who : Requester) (req : List (BitVec 8)) (tag : List (BitVec 8)) (s : State) : Result :=
  runService tag off who req 0x0081 [1] false false (fun t w r =>
    match FMap.get? t.sec.sections w with
    | none => some (t, SS.badArg, [])
    | some _ => match t.openChunk w (r.drop 8) with
      | (t1, none) => some (t1, SS.sigFail, [])
      | (t1, some plain) =>
        let last := ((FMap.get? t1.sec.sections w).map (fun o => o.left)).getD 1 = 0
        if last then
          let x := t1.checkTag w (tag.map BitVec.toNat)
          some (x.1, if x.2 then SS.ok else SS.sigFail, if x.2 then plain else [])
        else some (t1, SS.ok, plain)) s

end Sys2Proof.Machine
end

