-- ==== Sys2Proof/Machine/Loading.lean ====
section
/-!
DEFINITION. The configuration controller (R728 to R750, R760 to R762): slots, sections, the command stream, frames,
partial reloads, the Priming chain. WRITE_REG stands with the register accesses.
-/

set_option Elab.async false

namespace Sys2Proof.Machine

open Sys2Proof

/-- The load states of CFG_STATUS. -/
def LS'.idle : Nat := 0
def LS'.scan : Nat := 1
def LS'.loading : Nat := 2
def LS'.holdFw : Nat := 3
def LS'.done : Nat := 4
def LS'.failed : Nat := 5
def LS'.replay : Nat := 6

/-- The error codes of Table CFG-7. -/
def LE.noImage : Nat := 0x01
def LE.hdrCrc : Nat := 0x02
def LE.authFail : Nat := 0x03
def LE.chunkDigest : Nat := 0x04
def LE.gcmTag : Nat := 0x05
def LE.badOpcode : Nat := 0x06
def LE.frameCrc : Nat := 0x07
def LE.regionBusy : Nat := 0x08
def LE.pollTimeout : Nat := 0x09
def LE.variant : Nat := 0x0A
def LE.farRange : Nat := 0x0B
def LE.memRange : Nat := 0x0C
def LE.flashErr : Nat := 0x0D
def LE.chainFail : Nat := 0x0E
def LE.fwMissing : Nat := 0x0F
def LE.partialScope : Nat := 0x10
def LE.chainFrame : Nat := 0x11
def LE.busy : Nat := 0x12

/-- Kinds of section (Table CFG-2). -/
def Kind.firmware : Nat := 0
def Kind.full : Nat := 1
def Kind.part : Nat := 2
def Kind.data : Nat := 3

/-- The controller's part of the state changed. -/
def State.loadMap (s : State) (f : Load → Load) : State := { s with load := f s.load }

/-- CFG_STATUS.LSTATE. -/
def State.loadState (s : State) : Nat := s.fld (Pg.cfg 0) F.CFG_STATUS_LSTATE

/-- LSTATE set. -/
def State.setLoad (s : State) (v : Nat) : State := s.setFld (Pg.cfg 0) F.CFG_STATUS_LSTATE v

/-- A partial reload runs. -/
def State.partRuns (s : State) : Bool := s.fld (Pg.cfg 2) F.CFG_PART_STATUS_b0 = 1

/-- The device is the head of its chain: its BOOT_SRC strap selects FLASH. -/
def State.chainHead (s : State) : Bool := s.fld Pg.gbl F.GBL_STRAPS % 2 = 0

/-- Does the controller execute commands now? -/
def State.executing (s : State) : Bool := s.loadState = LS'.loading || s.loadState = LS'.replay || s.partRuns

/-- `n` bytes of the load's source from an address on, where they are there. -/
def State.loadSource (s : State) (a n : Nat) : Option (List Nat) :=
  match s.load.src with
  | 3 => some (s.ddrRead a n)
  | 4 => if a + n ≤ s.load.buf.length then some (sliceOf s.load.buf a n) else none
  | _ => some (s.flashBytes a n)

/-! ### The end of a load -/

/-- CFG_LOAD_US, milestone, cause, PRM_DONE: the load is DONE (R744, R750). -/
def State.loadDone (s : State) : State :=
  let s0 := s.clockM
  let s1 := (s0.setLoad LS'.done).setFld (Pg.cfg 0) F.CFG_LOAD_US s0.safe.sinceM
  let s2 := ((s1.setFld (Pg.cfg 1) F.CFG_CHN_STATUS_PRM_DONE 1).stampBoot 3).raiseIrq (Pg.cfg 0) 0
  { (s2.loadMap (fun l => { l with src := 0, sect := none, todo := [], wait := none, poll := none })) with
    safe := { s2.safe with loaded := true } }

/-- The load is FAILED with an error of a section (R744, R753). A cold load from flash leaves SSTATE at HALTED (R824). -/
def State.loadFailed (s : State) (err idx : Nat) : State :=
  let cold := s.load.src ≠ 2
  let s1 := ((s.setLoad LS'.failed).setFld (Pg.cfg 0) F.CFG_STATUS_ERR err).setFld (Pg.cfg 0) F.CFG_STATUS_b16 idx
  let s2 := if cold then s1.setFld Pg.gbl ⟨0x060, 31, 1⟩ 1 else s1
  let s3 := if cold && s.load.src ≠ 4 then s2.setSState SState.halted else s2
  (s3.raiseIrq (Pg.cfg 0) 1).loadMap (fun l => { l with src := 0, sect := none, todo := [], wait := none, poll := none, buf := [] })

/-! ### Slots (R742, R753) -/

/-- An entry of an image directory. -/
structure DirEntry where
  addr : Nat
  len : Nat
  tag : Nat
  kind : Nat
  deriving DecidableEq, Repr

/-- The version and the directory of the image at an address; none where its CRC does not pass. -/
def State.imageAt (s : State) (a : Nat) : Option (Nat × List DirEntry) :=
  let h := s.flashBytes a 64
  let n := beAt h 16 2
  let d := s.flashBytes (a + 64) (16 * n)
  if beAt h 0 4 ≠ 0x474C4431 || beAt h 4 2 ≠ 1 || beAt h 6 2 ≠ 64 || n = 0 || 64 < n || beAt h 60 4 ≠ crc32c (h.take 60 ++ d) then none
  else
    some (beAt h 12 4, (List.range n).map (fun i =>
      ⟨a + beAt d (16 * i) 4, beAt d (16 * i + 4) 4, d.getD (16 * i + 8) 0, d.getD (16 * i + 9) 0⟩))

/-- Sections with their index. -/
def numbered (l : List DirEntry) : List (Nat × DirEntry) := (List.range l.length).zip l

/-- A slot chosen: its version, its own sections to execute, its other sections to forward. -/
def State.takeSlot (s : State) (k ver : Nat) (l : List DirEntry) : State :=
  let own := ((numbered l).filter (fun e => e.2.tag = 0 || e.2.tag = 0xFF)).map (fun e => (e.1, e.2.addr, e.2.len))
  let others := (l.filter (fun e => e.tag ≠ 0)).map (fun e => (e.tag, e.addr, e.len))
  let s1 := ((s.setFld (Pg.cfg 0) F.CFG_STATUS_CFG_SLOT k).setFld (Pg.cfg 0) F.CFG_IMG_VER ver).setLoad LS'.loading
  let s2 := if s.fld Pg.fls F.FLS_DIR = k then s1
    else if s1.bit (Pg.cfg 0) F.CFG_STATUS_FALLBACK then s1 else (s1.setFld (Pg.cfg 0) F.CFG_STATUS_FALLBACK 1).raiseIrq (Pg.cfg 0) 2
  (s2.milestone 1).loadMap (fun x => { x with src := 1, tried := k :: x.tried, todo := own, others := others, sect := none, done := 0 })

/-- Slots tried in order: one that is VALID, holds no indeterminate sector, and whose header passes; each is tried once in
a cold restart. With none left the load is FAILED with the error of the last attempt. -/
def State.trySlots (dir : Nat × Nat × Nat × Nat) (err idx : Nat) : List Nat → State → State
  | [], s => s.loadFailed err idx
  | k :: rest, s =>
    let st := if k = 0 then dir.2.2.1 else dir.2.2.2
    if st ≠ 0x5A || s.slotIndet k || s.load.tried.contains k then State.trySlots dir err idx rest s
    else
      let s1 := s.loadMap (fun x => { x with tried := k :: x.tried })
      match s1.imageAt (s1.slotBase k) with
      | none => State.trySlots dir LE.hdrCrc 0 rest s1
      | some (ver, l) =>
        match (numbered l).find? (fun e => e.2.tag = 0) with
        | some (i, e) => if e.kind = Kind.firmware then s1.takeSlot k ver l else State.trySlots dir LE.fwMissing i rest s1
        | none => State.trySlots dir LE.fwMissing 0 rest s1

/-- The next slot after an error, active slot first. -/
def State.nextSlot (s : State) (err idx : Nat) : State :=
  match s.directory with
  | none => s.loadFailed err idx
  | some d => s.trySlots d err idx [d.2.1 % 2, 1 - d.2.1 % 2]

/-- COLD_LOAD: after a cold release the boot ROM resets the flash, reads SFDP, scans the journal and chooses the slot; a
member waits for its stream (R742, R751 to R757). -/
def execColdLoad (off : Nat) (sfdp : Option (BitVec 16)) (s : State) : Result :=
  let s0 := s.at off
  if s0.pins.mainReset || s0.loadState ≠ LS'.idle || s0.sstate = SState.warm then .next s0
  else
    let s1 := s0.loadMap (fun l => { l with tried := [], ended := false, buf := [], resends := 0 })
    if s1.chainHead then
      match sfdp with
      | none => .next ((s1.flashReset).loadFailed LE.flashErr 0)
      | some n =>
        let s2 := (((s1.flashReset).setFld Pg.fls F.FLS_SIZE n.toNat).setLoad LS'.scan).journalStart
        match s2.directory with
        | none => .next (s2.loadFailed LE.noImage 0)
        | some d =>
          .next (((s2.setFld Pg.fls F.FLS_DIR d.2.1).setFld Pg.fls F.FLS_DIR_GEN d.1).nextSlot LE.noImage 0)
    else .next ((s1.setLoad LS'.scan).setFld (Pg.cfg 0) F.CFG_STATUS_CFG_SLOT 2)

/-! ### Sections -/

/-- The section that executes, set. -/
def State.setSect (s : State) (x : LoadSection) : State := s.loadMap (fun l => { l with sect := some x })

/-- A section fails (R761): a partial reload ends FAILED, a slot is abandoned for the other, a replay or a member's load is
FAILED. -/
def State.sectionFail (s : State) (err : Nat) : State :=
  let idx := (s.load.sect.map (fun x => x.index)).getD 0
  let s1 := ((s.closeImage 0).incFld (Pg.cfg 0) F.CFG_SECTIONS_b16).loadMap (fun l => { l with sect := none, wait := none, poll := none })
  match s.load.src with
  | 3 =>
    let s2 := (s1.setFld (Pg.cfg 2) F.CFG_PART_STATUS_b0 3).setFld (Pg.cfg 2) F.CFG_PART_STATUS_ERR err
    (s2.loadMap (fun l => { l with src := 0, todo := [] })).raiseIrq (Pg.cfg 2) 0
  | 1 => s1.nextSlot err idx
  | _ => s1.loadFailed err idx

/-- The Priming-out lane carries (R181, R196). -/
def State.chainOpen (s : State) : Bool := s.carries 163 && s.clocked 163

/-- A frame sent on the Priming-out lane, its code groups among idle pairs, while that lane carries (R164, R181, R747).
Log: entry 149 (DEDUCED). -/
def State.sendGroups (s : State) (type hop stream : Nat) (payload : List Nat) : State :=
  if !s.chainOpen then s
  else
    let g := encodeGroups (s.lane 163).code.disp (chainSymbols type hop stream payload)
    let bits := if s.txInverted 163 then g.1.map (fun w => ~~~w) else g.1
    ((s.codeMap 163 (fun c => { c with disp := g.2 })).emit (.groups bits)).emit (.chainFrame type hop stream payload)

/-- The bytes of a section as DATA frames of up to 4,096 B. -/
def State.sendData (tag stream : Nat) : Nat → List Nat → State → State
  | 0, _, s => s
  | n + 1, b, s =>
    if b.isEmpty then s else State.sendData tag stream n (b.drop 4096) (s.sendGroups 2 tag stream (b.take 4096))

/-- One pass down the chain: START, the sections of other positions, END, with the next STREAM (R748).
Log: entry 65 (DEDUCED). -/
def State.sendChain (s : State) : State :=
  let q := (s.load.stream + 1) % 65536
  let s1 := s.sendGroups 1 0xFF q []
  let s2 := s.load.others.foldl (fun (t : State) e =>
    let b := t.flashBytes e.2.1 e.2.2
    t.sendData e.1 q (b.length / 4096 + 1) b) s1
  ((s2.sendGroups 3 0xFF q []).setFld (Pg.cfg 1) F.CFG_CHN_STATUS_b16 q).loadMap (fun l =>
    { l with stream := q })

/-- A section completes: counted; a load whose last section it was ends. Log: entry 65 (DEDUCED). -/
def State.sectionDone (s : State) : State :=
  let n := (s.load.sect.map (fun x => x.len)).getD 0
  let s1 := (s.incFld (Pg.cfg 0) F.CFG_SECTIONS_b0).loadMap (fun l => { l with
    sect := none, done := l.done + 1, buf := if l.src = 4 then l.buf.drop n else l.buf })
  match s1.load.src with
  | 1 => if s1.load.todo.isEmpty then s1.sendChain.loadDone else s1
  | 2 => if s1.load.todo.isEmpty then s1.loadDone else s1
  | 3 =>
    let s2 := (s1.setFld (Pg.cfg 2) F.CFG_PART_STATUS_b0 2).setFld (Pg.cfg 2) F.CFG_PART_STATUS_ERR 0
    (s2.loadMap (fun l => { l with src := 0 })).raiseIrq (Pg.cfg 2) 0
  | _ => if s1.load.ended && s1.load.buf.isEmpty then s1.loadDone else s1

/-- Length of the signature block at an address, from its first 8 bytes. -/
def blockLen (h : List Nat) : Nat := (8 + beAt h 4 2 + beAt h 6 2 + 7) / 8 * 8

/-- The header and signature blocks of the section at an address, where they are there. -/
def State.sectHead (s : State) (a : Nat) : Option (List Nat) :=
  (s.loadSource (a + 256) 8).bind (fun h1 =>
    (s.loadSource (a + 256 + blockLen h1) 8).bind (fun h2 => s.loadSource a (256 + blockLen h1 + blockLen h2)))

/-- A region's bit in a mask. -/
def maskHas (m r : Nat) : Bool := (m >>> r) % 2 = 1

/-- Regions a section's mask names. -/
def maskRegions (m : Nat) : List Nat := (List.range 32).filter (maskHas m)

/-- May a PARTIAL section start (R739, R760)? -/
def State.partStarts (s : State) (m : Nat) : Bool :=
  (maskRegions m).all (fun r => s.unit (Pg.fab r) = uFenced || s.unit (Pg.fab r) = uOff)

/-- The header checks after the signatures: kind, variant, scope of a partial section (R739, R741, R746, R760).
Log: entry 68 (DEDUCED). -/
def State.headCheck (s : State) (h : List Nat) : Option Nat :=
  let kind := h.getD 13 0
  if s.load.src = 3 && kind ≠ Kind.part && kind ≠ Kind.data then some LE.partialScope
  else if 3 < kind then some LE.badOpcode
  else if !maskHas (h.getD 24 0) (s.fld Pg.gbl F.GBL_VARIANT) then some LE.variant
  else if kind = Kind.part && !s.partStarts (beAt h 16 4) then some LE.partialScope
  else none

/-- A member's next section stands at the head of its byte stream. -/
def State.memberTodo (s : State) : State :=
  if s.load.src = 4 && s.load.sect.isNone && 256 ≤ s.load.buf.length then
    s.loadMap (fun l => { l with todo := [(l.done, 0, beAt l.buf 8 4)] })
  else s

/-- The controller opens its next section: signatures, image key, the header's checks (R732, R774). -/
def State.openNext (s : State) : State :=
  let s0 := s.memberTodo
  match s0.load.todo, s0.load.sect with
  | (i, a, len) :: rest, none =>
    if !s0.executing || s0.mstate = MS.selftest then s
    else match s0.sectHead a with
      | none => s
      | some b =>
        let x := if s0.mstate = MS.operational then s0.openImage 0 b else (s0, SS.notOperational)
        let s1 := x.1.secAnswer 0 0x0080 x.2 s0.approvedMode []
        let s2 := (s1.loadMap (fun l => { l with todo := rest })).setSect
          ⟨i, b.getD 13 0, a, b.length, len, b.take 256, [], 0, [], false⟩
        if x.2 ≠ SS.ok then s2.sectionFail LE.authFail
        else match s2.headCheck b with
          | some e => s2.sectionFail e
          | none => s2
  | _, _ => s

/-- IMAGE_OPEN: the controller's for its next section, which waits while the module's tests run (R797), or a service of
the module for another requester (R774). -/
def execImageOpen (off : Nat) (who : Requester) (req : List (BitVec 8)) (s : State) : Result :=
  if who = .controller then
    let s0 := s.at off
    .next (if s0.mstate = MS.selftest && s0.executing then s0.holdRequest who ⟨0x0080, who, req, []⟩ else s0.openNext)
  else runService [] off who req 0x0080 [1] false false (fun t w r => some (t.serveOpen w r)) s

/-- The firmware image is in IMG0: HOLD_FW, the firmware starts in INIT (R684, R741, R743). -/
def State.firmwareLoaded (s : State) (x : LoadSection) (fw : FwImage) : State :=
  match s.loadSource (x.addr + x.next) 16 with
  | none => s
  | some tag =>
    let c := (s.setSect x).checkTag 0 tag
    if !c.2 then c.1.sectionFail LE.gcmTag
    else if 2 ^ 20 < x.plain.length then c.1.sectionFail LE.memRange
    else
      let s1 := c.1.cpcMap (fun p => { p with img := FMap.set p.img 0 x.plain, info := FMap.set p.info 0 fw })
      let s2 := ((s1.clearHandoff).setFw FW.boot 0).startImage 0
      ((s2.sectionDone.setLoad LS'.holdFw).loadMap (fun l => { l with holdFor := 2400 })).milestone 2

/-- CHUNK_VERIFY: the next chunk's digest is checked, and its commands become executable (R732). `fw` is what the image is
where the chunk ends a FIRMWARE section. A section that the module has dropped (R785, R790) fails like one it does not open.
Log: entry 67 (DESIGN CHOICE), entry 68 (DEDUCED). -/
def execChunkVerify (off : Nat) (fw : FwImage) (s : State) : Result :=
  let s0 := s.at off
  match s0.load.sect, FMap.get? s0.sec.sections 0 with
  | some x, some o =>
    let n := min 65536 (beAt x.header 28 4 - o.cipher.length)
    let last := x.kind = Kind.firmware && o.left = 1
    match s0.loadSource (x.addr + x.next) (n + 48 + (if last then 16 else 0)) with
    | none => .next s0
    | some b =>
      if o.left = 0 || !s0.executing then .next s0
      else match s0.openChunk 0 (b.take (n + 48)) with
        | (t, none) => .next (t.sectionFail LE.chunkDigest)
        | (t, some p) =>
          let x1 := { x with next := x.next + n + 48, plain := x.plain ++ p }
          .next (if last then t.firmwareLoaded x1 fw else t.setSect x1)
  | some _, none => .next (if s0.executing then s0.sectionFail LE.authFail else s0)
  | none, _ => .next s0

/-! ### Commands (Table CFG-3) -/

/-- What stands next in the verified stream. -/
inductive Fetched where
  | short
  | bad (op : Nat)
  | cmd (op : Nat) (b : List Nat)
  deriving DecidableEq, Repr

/-- The length of a command: none where the opcode is unassigned. -/
def cmdLen (p : List Nat) : Option Nat :=
  match p.getD 0 0 with
  | 0x00 => some 4
  | 0x01 => some 12
  | 0x02 => some 4
  | 0x03 => some 8
  | 0x10 => some 8
  | 0x11 => some (8 + 516 * beAt p 4 4)
  | 0x12 => some (524 + 4 * beAt p 4 4)
  | 0x20 => some (16 + (beAt p 4 4 + 3) / 4 * 4)
  | 0x3F => some 4
  | _ => none

/-- Commands a section of a kind may hold (R741). -/
def kindAllows (kind op : Nat) : Bool :=
  kind ≠ Kind.data || op = 0x00 || op = 0x02 || op = 0x03 || op = 0x20 || op = 0x3F

/-- The next command of a section. -/
def fetchCmd (x : LoadSection) : Fetched :=
  let op := x.plain.getD 0 0
  if x.plain.length < 4 then .short
  else match cmdLen x.plain with
    | none => .bad op
    | some n =>
      if !kindAllows x.kind op then .bad op
      else if x.plain.length < 8 && 4 < n then .short
      else if x.plain.length < n then .short
      else .cmd op (x.plain.take n)

/-- The diagnostics of the command that executes or fails. -/
def State.diag (s : State) (x : LoadSection) (op : Nat) : State :=
  (s.setFld (Pg.cfg 3) F.CFG_DIAG_OFFSET x.off).setFld (Pg.cfg 3) F.CFG_DIAG_OPCODE op

/-- The stream's next command executed, where it is `op`; an unassigned one fails the section (R733). -/
def State.runCmd (op : Nat) (f : State → LoadSection → List Nat → State) (s : State) : State :=
  if !s.executing || s.load.wait.isSome || s.load.poll.isSome then s
  else match s.load.sect with
    | none => s
    | some x =>
      if x.kind = Kind.firmware then s
      else match fetchCmd x with
        | .short => s
        | .bad o => (s.diag x o).sectionFail LE.badOpcode
        | .cmd o b =>
          if o ≠ op then s
          else
            let x1 := { x with plain := x.plain.drop b.length, off := x.off + b.length }
            f ((s.diag x o).setSect x1) x1 b

/-- NOP (R733). -/
def execCfgNop (off : Nat) (s : State) : Result := .next ((s.at off).runCmd 0x00 (fun t _ _ => t))

/-- WAIT_TURNS (R735). -/
def execWaitTurns (off : Nat) (s : State) : Result :=
  .next ((s.at off).runCmd 0x02 (fun t _ b => if beAt b 2 2 = 0 then t else t.loadMap (fun l => { l with wait := some (beAt b 2 2) })))

/-- WAIT_TURNS_EXPIRY: the boundaries have passed, or, before the Windlass counts, the nominal turns of the housekeeping
oscillator (R735). -/
def execWaitTurnsExpiry (off : Nat) (s : State) : Result :=
  let s0 := s.at off
  .next (if s0.load.wait = some 0 then s0.loadMap (fun l => { l with wait := none }) else s0)

/-- POLL_STATE: waits until the named unit is in the target state (R735). -/
def execPollState (off : Nat) (s : State) : Result :=
  let s0 := s.at off
  match s0.load.poll with
  | some (p, t, _) => .next (if s0.unitShown p = t then s0.loadMap (fun l => { l with poll := none }) else s0)
  | none =>
    .next (s0.runCmd 0x03 (fun t _ b =>
      if t.unitShown (beAt b 2 2) = b.getD 1 0 then t
      else t.loadMap (fun l => { l with poll := some (beAt b 2 2, b.getD 1 0, beAt b 4 2) })))

/-- POLL_TIMEOUT: the timeout passes first, in boundaries or, before the Windlass counts, in nominal turns of the housekeeping
oscillator (R735). -/
def execPollTimeout (off : Nat) (s : State) : Result :=
  let s0 := s.at off
  match s0.load.poll with
  | some (p, t, n) =>
    .next (if s0.unitShown p = t || n ≠ 0 then s0 else s0.sectionFail LE.pollTimeout)
  | none => .next s0

/-! ### Frames (R736 to R740) -/

/-- Minors of a block kind. -/
def minors (far : Nat) : Nat := if far / 2 ^ 28 = 0 then 96 else 16

/-- Is a frame address one of Table CFG-4? Log: entry 64 (DEDUCED). -/
def farValid (far : Nat) : Bool :=
  far / 2 ^ 28 < 2 && far / 2 ^ 24 % 4 = 0 && far / 2 ^ 8 % 256 = 0 && far % 256 < minors far

/-- The region of a frame address. -/
def farRegion (far : Nat) : Nat := 8 * (far / 2 ^ 26 % 4) + far / 2 ^ 21 % 8

/-- The next address: MINOR, then COLUMN, then ROW; none past ROW 3. Log: entry 64 (DEDUCED). -/
def farNext (far : Nat) : Option Nat :=
  let m := far % 256
  let c := far / 2 ^ 16 % 256
  let r := far / 2 ^ 26 % 4
  let b := far / 2 ^ 28 * 2 ^ 28
  if m + 1 < minors far then some (far + 1)
  else if c < 255 then some (b + r * 2 ^ 26 + (c + 1) * 2 ^ 16)
  else if r < 3 then some (b + (r + 1) * 2 ^ 26)
  else none

/-- SET_FAR (R737). -/
def execSetFar (off : Nat) (s : State) : Result :=
  .next ((s.at off).runCmd 0x10 (fun t _ b =>
    let far := beAt b 4 4
    if t.load.src = 2 then t
    else
      let t1 := t.setFld (Pg.cfg 3) F.CFG_DIAG_FAR far
      if farValid far then t1.loadMap (fun l => { l with far := far }) else t1.sectionFail LE.farRange))

/-- Why a frame of a section may not be written: address, region, CRC. -/
def State.frameError (s : State) (x : LoadSection) (far : Nat) (b : List Nat) : Option Nat :=
  let r := farRegion far
  let u := s.unit (Pg.fab r)
  if !farValid far then some LE.farRange
  else if x.kind = Kind.part && !maskHas (beAt x.header 16 4) r then some LE.partialScope
  else if x.kind = Kind.full && u ≠ uOff && u ≠ uPrimed then some LE.regionBusy
  else if beAt b 512 4 ≠ crc32c (b.take 512) then some LE.frameCrc
  else none

/-- A frame written, and its region fresh once all 3,584 have been (R740). -/
def State.putFrame (s : State) (x : LoadSection) (far : Nat) (b : List Nat) : State :=
  let r := farRegion far
  let old := FMap.getD s.load.fresh r []
  let now := if old.contains far then old else far :: old
  let s1 := (s.loadMap (fun l => { l with frames := FMap.set l.frames far (b.take 512), fresh := FMap.set l.fresh r now })).incFld
    (Pg.cfg 0) F.CFG_FRAMES
  let s2 := (s1.setFld (Pg.cfg 3) F.CFG_DIAG_FAR far).setSect { x with frames := true }
  if now.length = 3584 then s2.setFld (Pg.cfg 2) ⟨0x054, r, 1⟩ 1 else s2

/-- Frames written from FAR on, advancing after each. Log: entry 64 (DEDUCED). -/
def State.putFrames (x : LoadSection) : Nat → List Nat → State → State
  | 0, _, s => s
  | n + 1, b, s =>
    let far := s.load.far
    match s.frameError x far (b.take 516) with
    | some e => (s.setFld (Pg.cfg 3) F.CFG_DIAG_FAR far).sectionFail e
    | none =>
      let s1 := s.putFrame x far (b.take 516)
      match farNext far with
      | none => s1.sectionFail LE.farRange
      | some next => State.putFrames x n (b.drop 516) (s1.loadMap (fun l => { l with far := next }))

/-- WRITE_FRAMES (R736, R737). A warm replay skips frame commands (R745). -/
def execWriteFrames (off : Nat) (s : State) : Result :=
  .next ((s.at off).runCmd 0x11 (fun t x b => if t.load.src = 2 then t else t.putFrames x (beAt b 4 4) (b.drop 8)))

/-- One frame written at each address of a list. -/
def State.repeatFrame (x : LoadSection) (frame : List Nat) : List Nat → State → State
  | [], s => s
  | far :: rest, s =>
    match s.frameError x far frame with
    | some e => (s.setFld (Pg.cfg 3) F.CFG_DIAG_FAR far).sectionFail e
    | none => State.repeatFrame x frame rest ((s.putFrame x far frame).incFld (Pg.cfg 0) F.CFG_REPEAT)

/-- REPEAT_FRAME (R738). -/
def execRepeatFrame (off : Nat) (s : State) : Result :=
  .next ((s.at off).runCmd 0x12 (fun t x b =>
    if t.load.src = 2 then t
    else t.repeatFrame x (sliceOf b 8 516) ((List.range (beAt b 4 4)).map (fun i => beAt b (524 + 4 * i) 4))))

/-! ### Memory and the end of a section -/

/-- Data loaded into a space: none where the range or the unit does not allow it (R854). Log: entry 68 (DEDUCED). -/
def State.loadMem (s : State) (space node a : Nat) (b : List Nat) : Option State :=
  match space with
  | 1 => if s.ddrUp && a + b.length ≤ s.ddrBytes then some (s.ddrWrite a b) else none
  | 2 => if a + b.length ≤ s.directBytes then some (s.directWrite a b) else none
  | 3 =>
    let t := tileAt node
    let u := s.unit (Pg.tile t)
    if node < 128 && (u = uReady || u = uActive) && a + b.length ≤ storeSize t then some (s.storeTile t a b) else none
  | _ => none

/-- LOAD_MEM (R733, R854). -/
def execLoadMem (off : Nat) (s : State) : Result :=
  .next ((s.at off).runCmd 0x20 (fun t _ b =>
    match t.loadMem (b.getD 1 0) (b.getD 2 0) (beAt b 8 8) (sliceOf b 16 (beAt b 4 4)) with
    | some t1 => t1
    | none => t.sectionFail LE.memRange))

/-- The FAB units a section's frames configure: regions, clock generators, taps, mesh ports, scrubber (R401). -/
def fabUnits (x : LoadSection) : List Nat :=
  if !x.frames then []
  else if x.kind = Kind.part then (maskRegions (beAt x.header 16 4)).map Pg.fab
  else (List.range 62).map Pg.fab

/-- A tap's declaration as the loaded image gives it (R382). Log: entry 67 (DESIGN CHOICE). -/
def State.declareTap (s : State) (d : TapDecl) : State :=
  let p := Pg.fab (0x21 + d.tap.val)
  ((s.setFld p F.FAB_TAP_DECL_SCORE d.kinds.toNat).setFld p F.FAB_TAP_DECL_RGN d.regions.toNat)

/-- What a completed section configures: its units pass from OFF to PRIMED; the fabric's identifier and declarations.
Log: entry 63 (DEDUCED). -/
def State.applySection (s : State) (x : LoadSection) (decls : List TapDecl) (ureg : Bool) : State :=
  let pages := (x.pages ++ fabUnits x).eraseDups
  let s1 := pages.foldl (fun (t : State) p => if hasUnit p then t.configured p else t) s
  let s2 := s1.loadMap (fun l => { l with configured := l.configured ++ pages.filter (fun p => !l.configured.contains p) })
  if x.frames then
    let s3 := s2.setFld (Pg.fab 32) F.FAB_IMAGE_ID (beAt x.header 20 4)
    decls.foldl State.declareTap { s3 with fabric := { s3.fabric with ureg := ureg } }
  else s2

/-- END: the GCM tag is checked and the section completes (R732). `decls` and `ureg` are what the loaded frames declare at
the taps and at the user register port. Log: entry 67 (DESIGN CHOICE). -/
def execLoadEnd (off : Nat) (decls : List TapDecl) (ureg : Bool) (s : State) : Result :=
  let s0 := s.at off
  match s0.load.sect.bind (fun x => s0.loadSource (x.addr + x.next) 16) with
  | none => .next s0
  | some tag =>
    .next (s0.runCmd 0x3F (fun t x _ =>
      let c := t.checkTag 0 tag
      if c.2 then (c.1.applySection x decls ureg).sectionDone else c.1.sectionFail LE.gcmTag))

/-! ### The retirement record (R758, R543) -/

/-- Units that are RETIRED. -/
def State.retiredUnits (s : State) : List Nat :=
  (((FMap.keys s.regs).filter (fun k => k % 4096 = 0x00C)).map (· / 4096)).filter (fun p => s.unit p = uRetired && p < 0x4000)

/-- The sub-item that stands for the unit itself. Log: entry 70 (DEDUCED). -/
def wholeUnit : Nat := 0xFFFFFFFF

/-- The entries of the record: units; channels of optical engines; channels and cells of the Lightwell; row units of the
DMC. Log: entry 70 (DEDUCED). -/
def State.retiredItems (s : State) : List (Nat × Nat × Nat) :=
  (s.retiredUnits.map (fun p => (p, wholeUnit, s.fld p F.HDR_UNIT_STATE_REASON))) ++
  ((List.range 16).flatMap (fun e => ((channelsOf e).filter (fun c => s.chState e c = C.retired)).map (fun c =>
    (Pg.ope e, c, s.fld (Pg.ope e) (F.OPE_CH_STATUS_b8 c))))) ++
  ((List.range 64).filter s.inRetired).map (fun c => (Pg.lwl (9 + c / 8), c % 8, 0)) ++
  ((List.range 64).filter s.outRetired).map (fun c => (Pg.lwl (9 + c / 8), 8 + c % 8, 0)) ++
  ((List.range 2016).filter s.cellRetired).map (fun n => ((cellPlace n).1, (cellPlace n).2, 0)) ++
  ((List.range 8).flatMap (fun c => (s.chan5 c).mapped.map (fun r => (Pg.dmc c, r, 0))))

/-- RETIREMENT_RECORD_WRITE: the firmware writes the record to flash. -/
def execRetirementRecordWrite (off : Nat) (s : State) : Result :=
  let s0 := s.at off
  .next (if s0.fwState = FW.boot || s0.fwState = FW.restarting || s0.fwState = FW.failed || s0.pins.mainReset || s0.loadReads then s0
         else s0.writeRecord s0.retiredItems)

/-- One entry of the record reapplied. -/
def State.reapply (s : State) (e : Nat × Nat × Nat) : State :=
  let p := e.1
  let i := e.2.1
  if i = wholeUnit then (if canRetire p && s.unit p ≠ uRetired then s.setUnit p uRetired e.2.2 else s)
  else if pageClass p = 0x000B then s.chRetire e.2.2 (p - 0x0200) (i % 8)
  else if pageClass p = 0x001B then s.retireRow (p - 0x0A00) i
  else if 0x0229 ≤ p && p ≤ 0x0230 then s.retireChannel (8 * (p - 0x0229) + i % 8) (8 ≤ i) e.2.2
  else if 0x0231 ≤ p && p ≤ 0x0238 then s.retireCell (cellBase ((p - 0x0231) * 8) + i) e.2.2
  else s

/-- The record in force reapplied (R727). -/
def State.reapplyRecord (s : State) : State :=
  match s.record with
  | some (_, _, es) => es.foldl State.reapply s
  | none => s

/-- The load leaves HOLD_FW; a load whose only section was the firmware ends. Log: entry 66 (DEDUCED). -/
def State.leaveHold (s : State) : State :=
  let s1 := s.setLoad LS'.loading
  match s1.load.src with
  | 1 => if s1.load.todo.isEmpty then s1.sendChain.loadDone else s1
  | 4 => if s1.load.ended && s1.load.buf.isEmpty then s1.loadDone else s1
  | _ => s1

/-- What a write of CFG_CTL.CONTINUE does: the firmware has reapplied the record, and the load continues (R743). -/
def State.cfgContinue (s : State) : State :=
  if s.loadState = LS'.holdFw then (s.reapplyRecord).leaveHold else s

/-- CFG_CONTINUE. -/
def execCfgContinue (off : Nat) (s : State) : Result :=
  .next ((s.at off).onPage (Pg.cfg 0) 0x044 State.cfgContinue)

/-- HOLD_FW_TIMEOUT: 2,400 turns have passed since HOLD_FW was entered (R743, R870); while the count stands still they are those
of the housekeeping oscillator. -/
def execHoldFwTimeout (off : Nat) (s : State) : Result :=
  let s0 := s.at off
  if s0.loadState = LS'.holdFw && s0.load.holdFor = 0 then
    .next (((s0.leaveHold).setFld (Pg.cfg 0) F.CFG_STATUS_FW_LATE 1).raiseIrq (Pg.cfg 0) 3)
  else .next s0

/-! ### Partial reload, warm replay -/

/-- What a write of PART_GO does (R746, R760). -/
def State.partGo (s : State) : State :=
  let l := s.loadState
  if s.partRuns then s.setFld (Pg.cfg 2) F.CFG_PART_STATUS_ERR LE.busy
  else if l = LS'.scan || l = LS'.loading || l = LS'.holdFw || l = LS'.replay then
    (s.setFld (Pg.cfg 2) F.CFG_PART_STATUS_b0 3).setFld (Pg.cfg 2) F.CFG_PART_STATUS_ERR LE.busy
  else
    let a := s.fld (Pg.cfg 2) F.CFG_PART_ADDR_LO + 2 ^ 32 * s.fld (Pg.cfg 2) F.CFG_PART_ADDR_HI
    let s1 := (s.setFld (Pg.cfg 2) F.CFG_PART_STATUS_b0 1).setFld (Pg.cfg 2) F.CFG_PART_STATUS_ERR 0
    s1.loadMap (fun x => { x with src := 3, todo := [(0, a, s.fld (Pg.cfg 2) F.CFG_PART_LEN)], sect := none, done := 0 })

/-- PART_GO. -/
def execPartGo (off : Nat) (s : State) : Result :=
  .next ((s.at off).onPage (Pg.cfg 2) 0x04C State.partGo)

/-- WARM_REPLAY: at a warm restart the sections of the loaded slot with REPLAY_WARM are executed again (R745). A slot's
section header tells whether it has the flag. Log: entry 69 (DEDUCED). -/
def execWarmReplay (off : Nat) (s : State) : Result :=
  let s0 := s.at off
  if s0.pins.mainReset || s0.sstate ≠ SState.warm || s0.loadState ≠ LS'.idle then .next s0
  else
    let k := s0.fld (Pg.cfg 0) F.CFG_STATUS_CFG_SLOT
    let l := if k < 2 then ((s0.imageAt (s0.slotBase k)).map (fun x => x.2)).getD [] else []
    let own := (numbered l).filter (fun e => (e.2.tag = 0 || e.2.tag = 0xFF) && e.2.kind ≠ Kind.firmware &&
      (s0.flashBytes (e.2.addr + 25) 1).getD 0 0 % 2 = 1)
    let s1 := (s0.setLoad LS'.replay).loadMap (fun x => { x with
      src := 2, todo := own.map (fun e => (e.1, e.2.addr, e.2.len)), sect := none, done := 0 })
    .next (if own.isEmpty then s1.loadDone else s1)

/-! ### The Priming chain (R747 to R750, R762) -/

/-- A member's load fails because of the chain (R762). -/
def State.chainBroken (s : State) : State :=
  if s.chainHead || s.loadState = LS'.done || s.load.src ≠ 4 then s else (s.closeImage 0).loadFailed LE.chainFrame s.load.done

/-- A frame a member consumes. Log: entry 69 (DEDUCED). -/
def State.chainConsume (s : State) (type : Nat) (payload : List Nat) : State :=
  if s.loadState = LS'.done then s
  else match type with
    | 1 =>
      let s1 := (((s.closeImage 0).setLoad LS'.loading).setFld (Pg.cfg 0) F.CFG_STATUS_CFG_SLOT 2).milestone 1
      s1.loadMap (fun l => { l with src := 4, buf := [], ended := false, sect := none, todo := [], done := 0, wait := none, poll := none })
    | 2 => if s.load.src = 4 then s.loadMap (fun l => { l with buf := l.buf ++ payload }) else s
    | 3 =>
      if s.load.src ≠ 4 then s
      else
        let s1 := s.loadMap (fun l => { l with ended := true })
        if s1.load.sect.isNone && s1.load.buf.isEmpty && s1.loadState = LS'.loading then s1.loadDone else s1
    | _ => s

/-- CHAIN_FRAME: a member consumes a frame, forwards it, or both (R749), the Priming-in lane being FIXED_UP (R181). -/
def execChainFrame (off : Nat) (type hop : BitVec 8) (stream : BitVec 16) (payload : List (BitVec 8)) (crcOk : Bool)
    (s : State) : Result :=
  let s0 := s.at off
  if s0.chainHead || s0.pins.mainReset || !s0.carries 162 then .next s0
  else if !crcOk || 4096 < payload.length then
    .next (((s0.incFld (Pg.cfg 1) F.CFG_CHN_ERR_CRC).raiseIrq (Pg.cfg 1) 1).chainBroken)
  else
    let t := type.toNat
    let h := hop.toNat
    let b := payload.map BitVec.toNat
    let mark := t = 1 || t = 3
    let s1 := (s0.incFld (Pg.cfg 1) F.CFG_CHN_RX).setFld (Pg.cfg 1) F.CFG_CHN_STATUS_b16 stream.toNat
    let s2 := if mark || h = 0 || h = 0xFF then s1.chainConsume t b else s1
    .next (if (!mark && h = 0) || !s2.chainOpen then s2
           else (s2.sendGroups t (if mark || h = 0xFF then h else h - 1) stream.toNat b).incFld (Pg.cfg 1) F.CFG_CHN_FWD)

/-- CHAIN_RESEND: PRM_DONE has not risen `ms` milliseconds after END, CHN_TMO or later (R15, R750, R762).
Log: entry 10 (DESIGN CHOICE), entry 66 (DEDUCED). -/
def execChainResend (off ms : Nat) (s : State) : Result :=
  let s0 := s.at off
  let tmo := max 1 (s0.fld (Pg.cfg 1) F.CFG_CHN_CTL_CHN_TMO)
  if !s0.chainHead || s0.loadState ≠ LS'.done || ms < tmo then .next s0
  else if s0.load.resends < s0.fld (Pg.cfg 1) F.CFG_CHN_CTL_CHN_RESEND then
    let s1 := (s0.sendChain).incFld (Pg.cfg 1) F.CFG_CHN_ERR_b16
    .next ((s1.setFld (Pg.cfg 1) F.CFG_CHN_STATUS_PRM_DONE 0).loadMap (fun l => { l with resends := l.resends + 1 }))
  else if s0.fld (Pg.cfg 0) F.CFG_STATUS_ERR = LE.chainFail then .next s0
  else .next (((s0.setFld (Pg.cfg 0) F.CFG_STATUS_ERR LE.chainFail).setFld (Pg.cfg 1) F.CFG_CHN_STATUS_PRM_DONE 0).raiseIrq (Pg.cfg 1) 0)

/-- CODE_GROUP_SYNC: code groups an 8b/10b receiver takes, with which it gains or loses synchronisation; the Priming-in receiver's
loss fails a member's load (R164, R762). -/
def execCodeGroupSync (off : Nat) (l : LaneIx) (groups : List (BitVec 10)) (s : State) : Result :=
  let s0 := s.at off
  if l.val < 160 || 163 ≤ l.val || !s0.clocked l.val then .next s0
  else
    let s1 := s0.codeSync l.val groups
    if l.val ≠ 162 then .next s1
    else
      let was := s0.bit (Pg.lan 162) F.LAN_STATUS_CODE_LOCK
      let now := s1.bit (Pg.lan 162) F.LAN_STATUS_CODE_LOCK
      let s2 := s1.setFld (Pg.cfg 1) F.CFG_CHN_STATUS_b2 (bitOf now)
      .next (if was && !now then s2.chainBroken else s2)

/-- A lane loses code-group synchronisation; on one FIXED_UP that is a transient event (R185). -/
def State.syncLost (s : State) (l : Nat) : State :=
  if !s.bit (Pg.lan l) F.LAN_STATUS_CODE_LOCK then s
  else
    let s1 := ((s.setFld (Pg.lan l) F.LAN_STATUS_CODE_LOCK 0).incFld (Pg.lan l) F.LAN_EVENTS_b0).raiseIrq (Pg.lan l) 1
    if s1.lstate l = L.fixedUp then s1.laneEvent l else s1

/-- Loss of LREF (R93, R196, R236): its lanes stop, the Priming-in receiver with them (R762); a running Windlass enters FAULT and
its count stops. -/
def execLrefLoss (off : Nat) (s : State) : Result :=
  let s0 := s.at off
  let was := s0.bit (Pg.lan 162) F.LAN_STATUS_CODE_LOCK
  let s1 := ((s0.setFld Pg.byp F.BYP_STATUS_LREF_OK 0).raiseIrq Pg.byp 3)
  let s2 := lrefLanes.foldl (fun (t : State) l =>
    ((t.setFld (Pg.lan l) F.LAN_STATUS_CDR_LOCK 0).syncLost l).laneFixed l) { s1 with wdl := { s1.wdl with lrefOk := false } }
  let s3 := s2.setFld (Pg.cfg 1) F.CFG_CHN_STATUS_b2 0
  let s4 := (if was then s3.chainBroken else s3).windlassFault
  .next { s4 with wdl := { s4.wdl with lrefOk := false, stopped := true } }

end Sys2Proof.Machine
end

