-- ==== Sys2Proof/Machine/Firmware.lean ====
section
/-!
DEFINITION. The firmware's duties, its mailbox and negotiation, crash dumps and restarts (spec/17).
-/

set_option Elab.async false

namespace Sys2Proof.Machine

open Sys2Proof

/-! ### The event log and vector 2 -/

/-- Something the firmware logs: the spec gives no event codes, so event, severity and arguments are free.
Log: entry 80 (DESIGN CHOICE). -/
def State.logFree (s : State) : State :=
  let v := s.free
  s.drawn.logEvent (v % 65536) (v / 65536 % 256) (leBytes 8 (v / 2 ^ 24))

/-- A cause of a CPC page with MSI-X vector 2 of PF0 (R688, R689). Log: entry 14 (DEDUCED). -/
def State.tellHost (s : State) (page b : Nat) : State := (s.raiseIrq page b).raiseVector 0 2

/-! ### Duties (Table CPC-3, R687) -/

/-- The numbers of the duties, in the order of Table CPC-3. -/
def Duty.heartbeat : Nat := 0
def Duty.reconcile : Nat := 1
def Duty.floor : Nat := 2
def Duty.crosstalk : Nat := 3
def Duty.hello : Nat := 6

/-- A duty ran in this turn: its record, and DUTY_LATE where it is later than 2 turns after its instant (R687). -/
def State.dutyDone (s : State) (i period : Nat) : State :=
  let due := (FMap.getD s.cpc.duties i (0, 0)).2
  let next := due + period * ((s.turn - due) / period + 1)
  let s1 := if due + 2 < s.turn then s.incFld (Pg.cpc 0) F.CPC_FW_RESTARTS_DUTY_LATE else s
  s1.cpcMap (fun c => { c with duties := FMap.set c.duties i (s.turn, next) })

/-- A periodic duty whose instant has come; none where the firmware's duties do not run or it is not due.
Log: entry 82 (DEDUCED). -/
def State.dutyDue (s : State) (i period : Nat) : Option State :=
  if s.dutiesRun && (FMap.getD s.cpc.duties i (0, 0)).2 ≤ s.turn then some (s.dutyDone i period) else none

/-- Every duty is due at once. -/
def State.dutiesNow (s : State) : State :=
  s.cpcMap (fun c => { c with duties := (List.range 9).map (fun i => (i, (FMap.getD c.duties i (0, 0)).1, s.turn)) })

/-- CPC_HB.KICK written (R803): HB_OUT toggles. -/
def State.kick (s : State) : State :=
  let p := Pg.cpc 0
  let s1 := (s.setFld p F.CPC_HB_b16 (s.fld p F.CPC_HB_b16 + 1)).setFld p F.CPC_HB_KICK 0
  { s1 with pins := { s1.pins with hbOut := !s1.pins.hbOut } }

/-- HEARTBEAT_KICK: every 24 turns (R803). -/
def execHeartbeatKick (off : Nat) (s : State) : Result :=
  let s0 := s.at off
  match s0.dutyDue Duty.heartbeat 24 with
  | some t => .next t.kick
  | none => .next s0

/-- NRG_FLOOR.STATIC rewritten from the hottest PWR sensor (Table CPC-3). Log: entry 82 (DEDUCED). -/
def State.floorStatic (s : State) : State :=
  let t := signed 16 (s.fld Pg.pwr F.PWR_THERM_MAX_b0)
  s.setFld Pg.nrg F.NRG_FLOOR_STATIC (min (Config.staticPower t) 1023)

/-- FLOOR_DUTY: every 240 turns the floor is rewritten (R569). Log: entry 82 (DEDUCED). -/
def execFloorDuty (off : Nat) (s : State) : Result :=
  let s0 := s.at off
  match s0.dutyDue Duty.floor 240 with
  | some t => .next t.floorStatic
  | none => .next s0

/-- The temperature of a page moved 4 °C since its coefficients were last written; so it has where they never were. -/
def State.tempMoved (s : State) (page : Nat) (f : Fld) : Bool :=
  match FMap.get? s.cpc.temps page with
  | some t => decide (32 ≤ (signed 16 (s.fld page f) - signed 16 t).natAbs)
  | none => true

/-- An engine's crosstalk coefficients rewritten (Table OPE-11). Log: entry 82 (DEDUCED). -/
def State.xtEngine (s : State) (e : Nat) : State :=
  let p := Pg.ope e
  let t := signed 16 (s.fld p F.OPE_TEMP)
  let s1 := (List.range 16).foldl (fun (a : State) h => [0, 4, 8].foldl (fun (b : State) o =>
    b.setReg (regKey p (0x400 + 16 * h + o)) (BitVec.ofNat 32 (Config.xtWord p (0x400 + 16 * h + o) t))) a) s
  s1.cpcMap (fun c => { c with temps := FMap.set c.temps p (s.fld p F.OPE_TEMP) })

/-- The Lightwell's heater-column coefficients rewritten (Table LWL-9). -/
def State.xtMesh (s : State) : State :=
  let t := signed 16 (s.fld (Pg.lwl 0) F.LWL_TEMP)
  let words := (List.range 1280).map (fun k => 0x8000 + 16 * (k / 10) + k % 10)
  let s1 := words.foldl (fun (a : State) w => a.setLwWord w (BitVec.ofNat 32 (Config.xtWord (Pg.lwl 0) w t))) s
  s1.cpcMap (fun c => { c with temps := FMap.set c.temps (Pg.lwl 0) (s.fld (Pg.lwl 0) F.LWL_TEMP) })

/-- CROSSTALK_REFRESH: every 2,400 turns, where a temperature has moved 4 °C since the last write (R211, R499). -/
def execCrosstalkRefresh (off : Nat) (s : State) : Result :=
  let s0 := s.at off
  match s0.dutyDue Duty.crosstalk 2400 with
  | some t =>
    let t1 := (List.range 16).foldl (fun (a : State) e =>
      if !a.absent (Pg.ope e) && a.tempMoved (Pg.ope e) F.OPE_TEMP then a.xtEngine e else a) t
    .next (if t1.tempMoved (Pg.lwl 0) F.LWL_TEMP then t1.xtMesh else t1)
  | none => .next s0

/-- RECONCILIATION: the closed window in which no entry was STALE is compared, once, and a shortfall written to the debt
(R585, R723); later than 2 turns after the close it counts in DUTY_LATE (R687). -/
def execReconciliation (off : Nat) (s : State) : Result :=
  let s0 := s.at off
  let e := s0.energy
  let later := match s0.cpc.recon with
    | some t => t < e.closed
    | none => 0 < e.closed
  if !s0.dutiesRun || e.staleClosed || !later then .next s0
  else
    let s1 := (if e.closed + 2 < s0.turn then s0.incFld (Pg.cpc 0) F.CPC_FW_RESTARTS_DUTY_LATE else s0).cpcMap (fun c =>
      { c with recon := some e.closed, duties := FMap.set c.duties Duty.reconcile (s0.turn, 0) })
    .next (if e.acct < e.energy then s1.debtAdd (min (e.energy - e.acct) (2 ^ 24 - 1)) else s1)

/-! ### Mailbox (R688 to R690) -/

/-- The mailbox statuses of Table CPC-5. -/
def MB.ok : Nat := 0
def MB.accepted : Nat := 1
def MB.unsupported : Nat := 2
def MB.notReady : Nat := 3
def MB.badArg : Nat := 4
def MB.busy : Nat := 5
def MB.incompatible : Nat := 7

/-- The opcodes of Table CPC-4. -/
def mbOpcodes : List Nat := [0x01, 0x02, 0x10, 0x11, 0x12, 0x20, 0x21, 0x30, 0x31, 0x32, 0x40, 0x50]

/-- The 256 bytes of MB_REQ. -/
def State.mbReq (s : State) : List Nat := (List.range 64).flatMap (fun i => leBytes 4 (s.reg (regKey (Pg.cpc 9) (0x100 + 4 * i))).toNat)

/-- The request's opcode and length. -/
def State.mbOp (s : State) : Nat := leNat (s.mbReq.take 2)

/-- A number of `n` bytes of a request. -/
def reqAt (r : List Nat) (o n : Nat) : Nat := leNat (sliceOf r o n)

/-- The firmware takes requests: it runs and is not paused (R719). -/
def State.mbAwake (s : State) : Bool := s.dutiesRun || s.fwState = FW.init

/-- A request waits. -/
def State.mbBusy (s : State) : Bool := s.bit (Pg.cpc 9) F.CPC_MB_STATUS_BUSY

/-- The response written, then MB_STATUS and vector 2 (R688, R690). Log: entry 77 (DEDUCED). -/
def State.mbAnswer (s : State) (status : Nat) (res : List Nat) : State :=
  let op := s.mbOp
  let body := if status ≤ 1 || (status = MB.incompatible && op = 1) then res else []
  let b := leBytes 2 op ++ leBytes 2 (8 + body.length) ++ [status, 0, 0, 0] ++ body
  let p := Pg.cpc 9
  let s1 := (List.range 64).foldl (fun (t : State) i =>
    t.setReg (regKey p (0x200 + 4 * i)) (BitVec.ofNat 32 (leNat (sliceOf b (4 * i) 4)))) s
  let s2 := (s1.setFld p F.CPC_MB_STATUS_SEQ s1.cpc.mbSeq).setFld p F.CPC_MB_STATUS_b8 status
  (s2.setFld p F.CPC_MB_STATUS_BUSY 0).tellHost p 0

/-- A request with an unknown opcode is answered UNSUPPORTED as soon as the firmware can; in INIT NOT_READY, as every
request is (R853). Log: entry 76 (DEDUCED). -/
def State.mbUnknown (s : State) : State :=
  if s.mbBusy && s.mbAwake && s.mbOp ∉ mbOpcodes then
    s.mbAnswer (if s.fwState = FW.init then MB.notReady else MB.unsupported) []
  else s

/-- A write of GO: one request at a time (R689). Log: entry 77 (DEDUCED). -/
def State.mbGo (s : State) (seq : Nat) : State :=
  let p := Pg.cpc 9
  let s0 := s.setFld p F.CPC_MB_CTL_GO 0
  if s0.mbBusy then s0.incFld p F.CPC_MB_OVERRUN
  else (((s0.setFld p F.CPC_MB_STATUS_BUSY 1).cpcMap (fun c => { c with mbSeq := seq }))).mbUnknown

/-- MAILBOX_GO: MB_CTL written with GO at 1 (R689). -/
def execMailboxGo (off : Nat) (seq : BitVec 8) (s : State) : Result :=
  .next ((s.at off).onPage (Pg.cpc 9) 0x040 (fun t =>
    (t.write (Pg.cpc 9) 0x040 (BitVec.ofNat 32 (seq.toNat + 256))).mbGo seq.toNat))

/-- FEAT_AGREED. -/
def State.agreed (s : State) : Nat := s.fld (Pg.cpc 0) F.CPC_FEAT_AGREED_LO + 2 ^ 32 * s.fld (Pg.cpc 0) F.CPC_FEAT_AGREED_HI

/-- FEAT_AGREED set. -/
def State.setAgreed (s : State) (v : Nat) : State :=
  (s.setFld (Pg.cpc 0) F.CPC_FEAT_AGREED_LO (v % 2 ^ 32)).setFld (Pg.cpc 0) F.CPC_FEAT_AGREED_HI (v / 2 ^ 32 % 2 ^ 32)

/-- What a request must look like (Table CPC-15): the bytes from 8 on that it names, as offset and length.
Log: entry 77 (DEDUCED). -/
def layoutOk (r : List Nat) (fields : List (Nat × Nat)) : Bool :=
  let len := reqAt r 2 2
  let need := fields.foldl (fun m f => max m (f.1 + f.2)) 8
  need ≤ len && len ≤ 256 && (List.range 256).all (fun i =>
    i < 8 || len ≤ i || r.getD i 0 = 0 || fields.any (fun f => f.1 ≤ i && i < f.1 + f.2))

/-- One mailbox opcode served (R689, R690, Table CPC-4): the feature it needs, waived in HELD where `any`; the states that
accept it; its layout; its work, which answers status and result. Log: entry 76 (DEDUCED). -/
def State.serve (s : State) (op : Nat) (feature : Option Nat) (any : Bool) (states : List Nat) (fields : List (Nat × Nat))
    (work : List Nat → State → State × Nat × List Nat) : State :=
  if !s.mbBusy || !s.mbAwake || s.mbOp ≠ op then s
  else
    let r := s.mbReq
    let have' := match feature with
      | some k => s.agreed / 2 ^ k % 2 = 1 || (any && s.fwState = FW.held)
      | none => true
    if s.fwState ∉ states then s.mbAnswer MB.notReady []
    else if !have' then s.mbAnswer MB.unsupported []
    else if !layoutOk r fields then s.mbAnswer MB.badArg []
    else
      let a := work r s
      a.1.mbAnswer a.2.1 a.2.2

/-- The firmware's own bitmap. -/
def State.fwBitmap (s : State) : Nat := (s.fwInfo s.runRegion).bitmap.toNat

/-- NEGOTIATE (R691 to R693). -/
def execNegotiate (off : Nat) (s : State) : Result :=
  .next ((s.at off).serve 0x01 none false [FW.waitDriver, FW.running, FW.held] [(8, 1), (9, 1), (16, 8), (24, 8)] (fun r t =>
    let i := t.fwInfo t.runRegion
    let fw := t.fwBitmap
    let sup := reqAt r 16 8
    let req := reqAt r 24 8
    let head := [i.major.toNat, i.minor.toNat, 0, 0] ++ leBytes 4 i.version.toNat ++ leBytes 8 fw
    let major := reqAt r 8 1
    if major = i.major.toNat && req &&& fw = req then
      let t1 := (t.cpcMap (fun c => { c with neg := some ⟨sup, req, major, reqAt r 9 1⟩ })).setAgreed (sup &&& fw)
      (t1.setFw FW.running 0, MB.ok, head ++ leBytes 8 (sup &&& fw))
    else
      let t1 := (t.cpcMap (fun c => { c with neg := none })).setAgreed 0
      (t1.setFw FW.held (if major = i.major.toNat then 2 else 1), MB.incompatible, head ++ leBytes 8 0)))

/-- The duty records of STATUS and of the dump. -/
def State.dutyRecords (s : State) : List Nat :=
  (List.range 9).flatMap (fun i =>
    let d := FMap.getD s.cpc.duties i (0, 0)
    leBytes 2 i ++ [0, 0] ++ leBytes 4 d.1 ++ leBytes 4 d.2)

/-- STATUS (Table CPC-15); in INIT it is answered NOT_READY as every request is (R853). -/
def execMbStatus (off : Nat) (s : State) : Result :=
  .next ((s.at off).serve 0x02 none false [FW.waitDriver, FW.running, FW.held] [] (fun _ t =>
    let w := fun (p o : Nat) => leBytes 4 (t.reg (regKey p o)).toNat
    let c := Pg.cpc 0
    let b := w c 0x040 ++ w c 0x044 ++ leBytes 8 t.agreed ++ leBytes 2 (t.fld c F.CPC_CLUSTER_b0) ++
      leBytes 2 (t.fld c F.CPC_CLUSTER_b16) ++ w (Pg.cpc 11) 0x040 ++ leBytes 4 (t.fld c F.CPC_FW_RESTARTS_DUTY_LATE)
    (t, MB.ok, if t.agreed / 32 % 2 = 1 then b ++ leBytes 4 0 ++ t.dutyRecords else b)))

/-- GRAPH_POWER: T01 rewritten, the floor brought up to date, and its new value answered (R569). -/
def execGraphPower (off : Nat) (s : State) : Result :=
  .next ((s.at off).serve 0x40 none false [FW.waitDriver, FW.running] [(8, 2), (10, 2)] (fun r t =>
    let w := (reqAt r 8 2, reqAt r 10 2)
    let t1 := (t.cpcMap (fun c => { c with power := w })).setFld Pg.nrg F.NRG_FLOOR_T01 (min (w.1 + w.2) 1023)
    let t2 := t1.floorStatic
    (t2, MB.ok, leBytes 2 (t2.fld Pg.nrg F.NRG_FLOOR_STATIC + t2.fld Pg.nrg F.NRG_FLOOR_T01))))

/-- LOG_READ (Table CPC-15). -/
def execLogRead (off : Nat) (s : State) : Result :=
  .next ((s.at off).serve 0x50 (some 6) false [FW.running] [(8, 4), (12, 1)] (fun r t =>
    let n := reqAt r 12 1
    if n = 0 || 15 < n then (t, MB.badArg, [])
    else
      let first := max (reqAt r 8 4) t.cpc.logBase
      let es := (t.cpc.log.drop (first - t.cpc.logBase)).take n
      (t, MB.ok, leBytes 4 first ++ [es.length, 0, 0, 0] ++ es.flatten)))

/-! ### Crash dumps (R705 to R707) -/

/-- A record of a dump: type, core, payload; its header is 8 B, and the next begins on 8 B. -/
def dumpRecord (type core : Nat) (trunc : Bool) (payload : List Nat) : List Nat :=
  let b := leBytes 2 type ++ [core, bitOf trunc] ++ leBytes 4 payload.length ++ payload
  b ++ List.replicate ((8 - b.length % 8) % 8) 0

/-- Records put one after another while they fit with END in 256 KiB; the one that does not is cut, and END follows it
(R706). Answers the bytes and their number. -/
def dumpPack (room : Nat) : List (Nat × Nat × List Nat) → List Nat × Nat
  | [] => (dumpRecord 0xFFFF 0xFF false [], 1)
  | (type, core, payload) :: t =>
    let b := dumpRecord type core false payload
    if b.length + 8 ≤ room then
      let q := dumpPack (room - b.length) t
      (b ++ q.1, q.2 + 1)
    else
      let cut := (room - 16) / 8 * 8
      (dumpRecord type core true (payload.take cut) ++ dumpRecord 0xFFFF 0xFF false [], 2)

/-- A state block (R712); its payload's layout is the firmware's own. -/
def stateBlock (id : Nat) (payload : List Nat) : List Nat :=
  leBytes 2 id ++ leBytes 2 1 ++ leBytes 4 payload.length ++ leBytes 4 (crc32c payload) ++ leBytes 4 1 ++ payload

/-- The header of a page as bytes. -/
def State.pageHeader (s : State) (page : Nat) : List Nat :=
  (List.range 16).flatMap (fun i => leBytes 4 (s.reg (regKey page (4 * i))).toNat)

/-- The records of a dump in the order of Table CPC-9a; register contents, stacks and the blocks' payloads are free.
Log: entry 81 (DESIGN CHOICE). -/
def State.dumpRecords (s : State) : List (Nat × Nat × List Nat) :=
  let v := fun (k n : Nat) => leBytes n (Config.freeNat (s.draws + k))
  let pages := ((FMap.keys s.regs).map (· / 4096)).eraseDups.filter (fun p => p < 0x4000 && s.attention p)
  let rsp := (List.range 64).flatMap (fun i => leBytes 4 (s.reg (regKey (Pg.cpc 9) (0x200 + 4 * i))).toNat)
  (List.range 8).map (fun c => (1, c, v c 296)) ++
  [(6, 0xFF, s.mbReq ++ rsp)] ++
  [(4, 0xFF, pages.flatMap (fun p => leBytes 4 p ++ s.pageHeader p))] ++
  [(5, 0xFF, s.dutyRecords)] ++
  [(7, 0xFF, [1, 2, 3].flatMap (fun b => stateBlock b (v (8 + b) (Config.freeNat (s.draws + 11 + b) % 4096))))] ++
  (List.range 8).map (fun c => (2, c, v (15 + c) (Config.freeNat (s.draws + 23 + c) % 4097))) ++
  [(3, 0xFF, s.cpc.log.flatten)]

/-- The causes of Table CPC-8. -/
def DC.trap : Nat := 1
def DC.watchdog : Nat := 2
def DC.assert : Nat := 3
def DC.host : Nat := 4
def DC.safeState : Nat := 5
def DC.updateFail : Nat := 6

/-- The bytes of a dump (Table CPC-8). -/
def State.dumpBytes (s : State) (cause core : Nat) : List Nat :=
  let q := dumpPack (262144 - 64) s.dumpRecords
  let p := Pg.cpc 0
  let w := fun o => leBytes 4 (s.reg (regKey p o)).toNat
  let h := leBytes 4 0x58444D50 ++ leBytes 2 1 ++ leBytes 2 64 ++ leBytes 4 (64 + q.1.length) ++ leBytes 4 q.2 ++
    leBytes 8 (if s.tstate = T.stopped then 0 else s.count) ++ w 0x044 ++
    [s.fld p F.CPC_FW_IF_b0, s.fld p F.CPC_FW_IF_b8, cause, core] ++ leBytes 4 s.cpc.dumpSeq ++ w 0x040 ++
    List.replicate 16 0 ++ leBytes 4 (crc32c q.1)
  h ++ leBytes 4 (crc32c h) ++ q.1

/-- A dump written (R705, R726): dropped and counted while VALID is 1; one that cannot be completed leaves VALID at 0 and no
header whose CRC holds. Log: entry 81 (DESIGN CHOICE). -/
def State.writeDump (s : State) (cause core : Nat) (complete : Bool) : State :=
  let p := Pg.cpc 10
  let s0 := s.setFld p F.CPC_DUMP_STATUS_WRITING 0
  if s0.bit p F.CPC_DUMP_STATUS_VALID then s0.incFld p F.CPC_DUMPS_LOST
  else if !complete then s0.cpcMap (fun c => { c with dump := [] })
  else
    let b := s0.dumpBytes cause core
    let s1 := { s0 with draws := s0.draws + 31 }
    let s2 := s1.cpcMap (fun c => { c with dump := b, dumpSeq := c.dumpSeq + 1 })
    ((s2.setFld p F.CPC_DUMP_STATUS_CAUSE cause).hwSet p F.CPC_DUMP_STATUS_VALID).raiseIrq p 0

/-- The firmware runs, paused or not. -/
def State.fwRuns (s : State) : Bool := 1 ≤ s.fwState && s.fwState ≤ 5

/-- DUMP_NOW (R705): a write of DUMP_CTL.DUMP_NOW. -/
def State.dumpNow (s : State) (complete : Bool) : State :=
  let s0 := s.setFld (Pg.cpc 10) F.CPC_DUMP_CTL 0
  if s0.fwRuns then s0.writeDump DC.host 0xFF complete else s0

/-- DUMP_NOW, and whether the firmware can complete the dump. -/
def execDumpNow (off : Nat) (complete : Bool) (s : State) : Result :=
  .next ((s.at off).onPage (Pg.cpc 10) 0x04C (fun t => (t.write (Pg.cpc 10) 0x04C 1).dumpNow complete))

/-- A read of DUMP_DATA (R707); a byte that no dump has written reads 0. Log: entry 81 (DESIGN CHOICE). -/
def State.dumpRead (s : State) : State :=
  let p := Pg.cpc 10
  let a := s.fld p F.CPC_DUMP_ADDR_b0 / 4 * 4
  let w := leNat ((List.range 4).map (fun i => s.cpc.dump.getD (a + i) 0))
  let s1 := { s with rdata := [BitVec.ofNat 32 w] }
  if s.bit p F.CPC_DUMP_ADDR_AUTO_INC then s1.setFld p F.CPC_DUMP_ADDR_b0 (a + 4) else s1

/-- DUMP_DATA_READ. -/
def execDumpDataRead (off : Nat) (s : State) : Result :=
  .next ((s.at off).readPage (Pg.cpc 10) 0x048 State.dumpRead)

/-! ### Collectives' ends, restarts -/

/-- The ends of Table CPC-14's COLL_STATE. -/
def CE.ok : Nat := 0
def CE.memberLost : Nat := 1
def CE.timeout : Nat := 2
def CE.replanned : Nat := 3
def CE.cancelled : Nat := 4

/-- A collective ends, with COLL_DONE. -/
def State.endColl (s : State) (k status : Nat) : State :=
  let p := Pg.cpc 0
  let s1 := (s.setFld p (F.CPC_COLL_STATE_b0 k) (if status = CE.ok then 2 else 3)).setFld p (F.CPC_COLL_STATE_b8 k) status
  (s1.cpcMap (fun c => { c with colls := FMap.erase c.colls k })).tellHost p 3

/-- Every collective ends. -/
def State.endColls (s : State) (status : Nat) : State := (FMap.keys s.cpc.colls).foldl (fun (t : State) k => t.endColl k status) s

/-- An update that the firmware's restart finds under way is given up, as one that a safe state meets (R718). -/
def State.updateLost (s : State) : State :=
  let st := s.fld (Pg.cpc 11) F.CPC_UPD_STATUS_b0
  if 1 ≤ st && st ≤ 3 then
    (((s.cpcMap (fun c => { c with update := none })).setFld (Pg.cpc 11) F.CPC_UPD_STATUS_b0 6).setFld (Pg.cpc 11)
      F.CPC_UPD_STATUS_b8 3).tellHost (Pg.cpc 11) 0
  else s

/-- The firmware restarts (R724): only the mandatory blocks are checkpoints; the others are dropped as R713 says; the windows it
missed are not charged (R597).
Log: entry 79 (DEDUCED). -/
def State.fwRestart (s : State) : State :=
  let s1 := (s.endColls CE.replanned).updateLost
  let s2 := s1.cpcMap (fun c => { c with recon := some s.energy.closed, log := [], logBase := 0, sets := [], noRoute := [], duties := [] })
  ((s2.setFw FW.restarting 0).incFld (Pg.cpc 0) F.CPC_FW_RESTARTS_b0).cpcMap
    (fun c => { c with restarts := s.safe.ticks :: c.restarts.filter (fun t => s.safe.ticks < t + 24000) })

/-- The third restart within 24,000 turns (R725): FAILED, the cores halted, attention. Log: entry 79 (DEDUCED). -/
def State.fwFail (s : State) : State :=
  ((s.setFw FW.failed 0).setCores 2).setUnit (Pg.cpc 0) uFault Reason.hwError

/-- FIRMWARE_CRASH: a trap, a watchdog expiry or a failed assertion (R724, R725). While a new image has control the previous
one comes back by R715. Log: entry 79 (DEDUCED). -/
def execFirmwareCrash (off : Nat) (cause : Fin 3) (core : Fin 8) (complete : Bool) (s : State) : Result :=
  let s0 := s.at off
  if !s0.fwRuns then .next s0
  else
    let s1 := if cause.val = 0 then s0.incFld (Pg.cpc (1 + core)) F.CPC_CORE_TRAPS else s0
    let s2 := s1.writeDump (cause.val + 1) core.val complete
    if s2.fwState = FW.updating then .next s2
    else
      let s3 := s2.fwRestart
      .next (if 3 ≤ s3.cpc.restarts.length then s3.fwFail else s3)

/-- The firmware leaves INIT (R853, Table CPC-2): CFG_READY, then WAIT_DRIVER, or RUNNING on the negotiation it has
adopted. -/
def State.initDone (s : State) : State :=
  let s1 := s.cfgReadyWrite 1
  let s2 := match s1.cpc.neg with
    | some n => (s1.setAgreed (n.supported &&& s1.fwBitmap)).setFw FW.running 0
    | none => s1.setFw FW.waitDriver 0
  (s2.dutiesNow.milestone 4).mbUnknown

/-- FIRMWARE_INIT_DONE: a restart reaches INIT (R724); in INIT, with the load DONE or FAILED, the firmware leaves it.
Log: entry 79 (DEDUCED). -/
def execFirmwareInitDone (off : Nat) (s : State) : Result :=
  let s0 := s.at off
  if s0.fwState = FW.restarting then .next ((s0.startImage s0.runRegion).raiseIrq (Pg.cpc 0) 1)
  else if s0.fwState = FW.init && (s0.loadState = LS'.done || s0.loadState = LS'.failed) then .next s0.initDone
  else .next s0

end Sys2Proof.Machine
end

