-- ==== Sys2Proof/Machine/Cluster.lean ====
section
/-!
DEFINITION. The firmware's cluster: membership and its messages (R699 to R704, Table CPC-16), collectives (R694 to R698).
-/

set_option Elab.async false

namespace Sys2Proof.Machine

open Sys2Proof

/-! ### Messages -/

/-- The plan epoch. -/
def State.epoch (s : State) : Nat := s.fld (Pg.cpc 0) F.CPC_CLUSTER_b0

/-- The membership digest (R702). -/
def State.digest (s : State) : Nat := crc32c (s.cpc.retired.flatMap (beBytes 2))

/-- Links that are UP. -/
def State.upLinks (s : State) : List Nat := (List.range 64).filter (fun n => s.kstate n = K.up)

/-- The chip at the other end of a link. -/
def State.partner (s : State) (n : Nat) : Nat := s.fld (Pg.ryk n) F.RYK_STATUS_b16

/-- A message sent to the neighbour on a link, in whole blocks (R702). -/
def State.sendCtl (s : State) (n type : Nat) (body : List Nat) : State :=
  let m := beBytes 2 type ++ beBytes 2 (8 + body.length) ++ beBytes 2 s.epoch ++ [0, 0] ++ body
  let f : RFrame := ⟨s.partner n, s.ownChip, 4, 0, 0, 0, s.maxHops, m ++ List.replicate ((8 - m.length % 8) % 8) 0⟩
  s.rykMap (fun r => { r with outq := r.outq ++ [⟨f, 0, none, 0, some n⟩] })

/-- A message to every UP neighbour, on the lowest of its links (R701). Log: entry 83 (DESIGN CHOICE). -/
def State.flood (s : State) (type : Nat) (body : List Nat) : State :=
  let ls := s.upLinks.filter (fun n => s.upLinks.all (fun m => n ≤ m || s.partner m ≠ s.partner n))
  (ls.foldl (fun (t : State) n => t.sendCtl n type body) s).rykPump

/-- A HELLO on a link (Table CPC-16). -/
def State.sendHello (s : State) (n : Nat) : State :=
  let i := s.fwInfo s.runRegion
  s.sendCtl n 1 (beBytes 2 s.ownChip ++ [n, i.major.toNat, i.minor.toNat, 0, 0, 0] ++ beBytes 4 s.digest ++ [0, 0, 0, 0])

/-- HELLO_SEND: every 24 turns, a HELLO on each UP link (R701). -/
def execHelloSend (off : Nat) (s : State) : Result :=
  let s0 := s.at off
  match s0.dutyDue Duty.hello 24 with
  | some t => .next ((t.upLinks.foldl State.sendHello t).rykPump)
  | none => .next s0

/-- The set sent in MEMBERS frames on a link, 248 addresses to a frame (R702). -/
def State.sendMembers (s : State) (n : Nat) : State :=
  let all := s.cpc.retired
  ((List.range (max 1 ((all.length + 247) / 248))).foldl (fun (t : State) k =>
    let part := (all.drop (248 * k)).take 248
    t.sendCtl n 4 (beBytes 2 all.length ++ beBytes 2 (248 * k) ++ beBytes 2 part.length ++ [0, 0] ++ part.flatMap (beBytes 2))) s).rykPump

/-! ### Applying a change (R703) -/

/-- Routing entries as the firmware rewrites them; the algorithm is its own. Log: entry 83 (DESIGN CHOICE). -/
def State.writeRoutes (s : State) (l : List RouteWrite) : State :=
  l.foldl (fun (t : State) r =>
    t.setFld (Pg.ryk 0) ⟨(if r.group then 0xC00 else 0xE00) + 4 * (r.index.toNat / 2), 16 * (r.index.toNat % 2), 16⟩ r.value.toNat) s

/-- A chip of the cluster that is not retired: this one, or one whose routing entry has a valid link.
Log: entry 84 (DEDUCED). -/
def State.surviving (s : State) (a : Nat) : Bool :=
  let e := s.routeEntry a
  a ∉ s.cpc.retired && (a = s.ownChip || e / 64 % 2 = 1 || e / 16384 % 2 = 1)

/-- The alternate of a lost chip: the host's, or else the lowest surviving address above it, wrapping (R703). -/
def State.altOf (s : State) (lost : Nat) : Option Nat :=
  match s.cpc.alts.find? (fun e => e.1 = lost) with
  | some e => some e.2
  | none => match (List.range (65535 - lost)).find? (fun k => s.surviving (lost + 1 + k)) with
    | some k => some (lost + 1 + k)
    | none => (List.range lost).find? s.surviving

/-- RYK_T3_ALT's entry for a target: the one it has, or the first free one. Log: entry 84 (DEDUCED). -/
def State.altSlot (s : State) (c : Nat) : Option Nat :=
  let p := Pg.ryk 0
  match (List.range 16).find? (fun i => s.bit p (F.RYK_T3_ALT_CTL_VALID i) && s.fld p (F.RYK_T3_ALT_b0 i) = c) with
  | some i => some i
  | none => (List.range 16).find? (fun i => !s.bit p (F.RYK_T3_ALT_CTL_VALID i))

/-- RYK_T3_ALT set for a lost chip, with FORCE (R703). -/
def State.forceAlt (s : State) (c : Nat) : State :=
  let p := Pg.ryk 0
  match s.altSlot c, s.altOf c with
  | some i, some a =>
    (((s.setFld p (F.RYK_T3_ALT_b0 i) c).setFld p (F.RYK_T3_ALT_b16 i) a).setFld p (F.RYK_T3_ALT_CTL_VALID i) 1).setFld p
      (F.RYK_T3_ALT_CTL_FORCE i) 1
  | _, _ => s

/-- The entry of a chip that is back. -/
def State.dropAlt (s : State) (c : Nat) : State :=
  let p := Pg.ryk 0
  (List.range 16).foldl (fun (t : State) i =>
    if t.bit p (F.RYK_T3_ALT_CTL_VALID i) && t.bit p (F.RYK_T3_ALT_CTL_FORCE i) && t.fld p (F.RYK_T3_ALT_b0 i) = c then
      (t.setFld p (F.RYK_T3_ALT_CTL_VALID i) 0).setFld p (F.RYK_T3_ALT_CTL_FORCE i) 0 else t) s

/-- The chips a collective's set names, ascending. -/
def Collective.set (c : Collective) : List Nat :=
  (List.range (c.last + 1 - c.first)).flatMap (fun g =>
    ((List.range 256).filter (fun m => c.members / 2 ^ m % 2 = 1)).map (fun m => 256 * (c.first + g) + m))

/-- Collectives whose set holds a lost chip end with MEMBER_LOST (R703). -/
def State.endCollsOf (s : State) (lost : Nat) : State :=
  (s.cpc.colls.filter (fun e => lost ∈ e.2.set)).foldl (fun (t : State) e => t.endColl e.1 CE.memberLost) s

/-- Addresses in ascending order, each once. -/
def ascending (l : List Nat) : List Nat := FMap.keys (l.foldl (fun (m : FMap Unit) a => FMap.set m a ()) [])

/-- The membership changed to a set and an epoch: what R703 does for the chips lost and for those back.
Log: entry 84 (DEDUCED). -/
def State.setMembers (s : State) (set : List Nat) (epoch : Nat) (routes : List RouteWrite) : State :=
  let was := s.cpc.retired
  let p := Pg.cpc 0
  let s1 := s.cpcMap (fun c => { c with retired := set })
  let s2 := (((s1.setFld p F.CPC_CLUSTER_b0 epoch).setFld p F.CPC_CLUSTER_b16 set.length).writeRoutes routes).raiseIrq p 4
  let s3 := (set.filter (fun a => a ∉ was)).foldl (fun (t : State) a => (t.forceAlt a).endCollsOf a) s2
  ((was.filter (fun a => a ∉ set)).foldl State.dropAlt s3).logFree

/-- One chip retired, and the change flooded (R701). -/
def State.declare (s : State) (chip cause from' : Nat) (routes : List RouteWrite) : State :=
  (s.setMembers (ascending (chip :: s.cpc.retired)) (s.epoch + 1) routes).flood 2
    (beBytes 2 chip ++ [cause, 0] ++ beBytes 2 from' ++ [0, 0])

/-- One chip reinstated, and the change flooded (R704). -/
def State.takeBack (s : State) (chip from' : Nat) (routes : List RouteWrite) : State :=
  (s.setMembers (s.cpc.retired.erase chip) (s.epoch + 1) routes).flood 3 (beBytes 2 chip ++ [0, 0] ++ beBytes 2 from' ++ [0, 0])

/-- UNIT_REQ OFF on a page, with the next SEQ. -/
def State.requestOff (s : State) (page : Nat) : State :=
  s.write page 0x010 (BitVec.ofNat 32 (65536 * ((s.fld page F.HDR_UNIT_REQ_SEQ + 1) % 256)))

/-- A chip that declares itself lost: its retirement flooded, every Ryuklin link requested OFF, all pairs forced (R704).
Log: entry 83 (DESIGN CHOICE). -/
def State.selfRetire (s : State) (cause : Nat) (routes : List RouteWrite) : State :=
  let s1 := s.declare s.ownChip cause s.ownChip routes
  let s2 := ((List.range 64).filter (fun n => s1.unit (Pg.ryk n) ≠ uOff)).foldl (fun (t : State) n => t.requestOff (Pg.ryk n)) s1
  (s2.write Pg.byp 0x04C 15).forceWritten

/-! ### Mailbox commands -/

/-- CHIP_RETIRE (R700, R722). -/
def execChipRetire (off : Nat) (routes : List RouteWrite) (s : State) : Result :=
  .next ((s.at off).serve 0x30 (some 2) false [FW.running] [(8, 2)] (fun r t =>
    let c := reqAt r 8 2
    let t1 := if c ∈ t.cpc.retired then t
      else if c = t.ownChip then t.selfRetire 2 routes else t.declare c 2 t.ownChip routes
    (t1, MB.ok, leBytes 2 t1.epoch)))

/-- CHIP_REINSTATE (R704). -/
def execChipReinstate (off : Nat) (routes : List RouteWrite) (s : State) : Result :=
  .next ((s.at off).serve 0x31 (some 2) false [FW.running] [(8, 2)] (fun r t =>
    let c := reqAt r 8 2
    let t1 := if c ∈ t.cpc.retired then t.takeBack c t.ownChip routes else t
    (t1, MB.ok, leBytes 2 t1.epoch)))

/-- T3_REMAP_SET: the host's table of alternates replaced (Table CPC-15). -/
def execT3RemapSet (off : Nat) (s : State) : Result :=
  .next ((s.at off).serve 0x32 (some 3) false [FW.running]
    ((8, 1) :: (List.range (reqAt s.mbReq 8 1)).map (fun i => (16 + 4 * i, 4))) (fun r t =>
    let n := reqAt r 8 1
    if 16 < n then (t, MB.badArg, [])
    else (t.cpcMap (fun c => { c with alts := (List.range n).map (fun i => (reqAt r (16 + 4 * i) 2, reqAt r (18 + 4 * i) 2)) }), MB.ok, [])))

/-! ### CTL frames -/

/-- The first CTL frame that waits, where its message has a type: its link and bytes. One of unknown type, or longer than its
frame, is discarded and counted in RYK_DROP (R702). -/
def State.takeCtl (s : State) (type : Nat) : State ⊕ (State × Nat × List Nat) :=
  match s.ryk.inbox.find? (fun e => e.2.2.type = 4) with
  | none => .inl s
  | some e =>
    let m := e.2.2.payload
    let link := e.2.1.getD 0
    let t := s.rykMap (fun r => { r with inbox := r.inbox.erase e })
    let k := beAt m 0 2
    if !s.dutiesRun then .inl s
    else if k = 0 || 4 < k || 8 * e.2.2.len < beAt m 2 2 || beAt m 2 2 < 8 || 512 < beAt m 2 2 then .inl (t.discard link e.2.2 0)
    else if k = type then .inr (t, link, m.take (beAt m 2 2))
    else .inl s

/-- HELLO received (R702). -/
def execCtlHello (off : Nat) (s : State) : Result :=
  match (s.at off).takeCtl 1 with
  | .inl t => .next t
  | .inr (t, link, m) =>
    .next (if beAt m 16 4 = t.digest then t
      else if t.epoch < beAt m 4 2 then t
      else t.sendMembers link)

/-- RETIRE received: applied and forwarded once (R701). -/
def execCtlRetire (off : Nat) (routes : List RouteWrite) (s : State) : Result :=
  match (s.at off).takeCtl 2 with
  | .inl t => .next t
  | .inr (t, _, m) =>
    .next (if beAt m 8 2 ∈ t.cpc.retired then t else t.declare (beAt m 8 2) (m.getD 10 0) (beAt m 12 2) routes)

/-- REINSTATE received: applied and forwarded once (R702, R704). -/
def execCtlReinstate (off : Nat) (routes : List RouteWrite) (s : State) : Result :=
  match (s.at off).takeCtl 3 with
  | .inl t => .next t
  | .inr (t, _, m) =>
    .next (if beAt m 8 2 ∈ t.cpc.retired then t.takeBack (beAt m 8 2) (beAt m 12 2) routes else t)

/-- A peer's complete set, with its epoch (R702): adopted where the peer is ahead, merged where the epochs are equal. -/
def State.peerSet (s : State) (epoch : Nat) (set : List Nat) (routes : List RouteWrite) : State :=
  if s.epoch < epoch then s.setMembers (ascending set) epoch routes
  else if s.epoch = epoch && ascending set ≠ s.cpc.retired then
    s.setMembers (ascending (set ++ s.cpc.retired)) (s.epoch + 1) routes
  else s

/-- MEMBERS received (R702). -/
def execCtlMembers (off : Nat) (routes : List RouteWrite) (s : State) : Result :=
  match (s.at off).takeCtl 4 with
  | .inl t => .next t
  | .inr (t, link, m) =>
    let size := beAt m 8 2
    let ad := (List.range (min (beAt m 12 2) 248)).map (fun i => beAt m (16 + 2 * i) 2)
    let old := match FMap.get? t.cpc.sets link with
      | some x => if x.1 = beAt m 4 2 && x.2.1 = size && beAt m 10 2 ≠ 0 then x.2.2 else []
      | none => []
    let got := ascending (old ++ ad)
    if size ≤ got.length then
      .next ((t.cpcMap (fun c => { c with sets := FMap.erase c.sets link })).peerSet (beAt m 4 2) got routes)
    else .next (t.cpcMap (fun c => { c with sets := FMap.set c.sets link (beAt m 4 2, size, got) }))

/-! ### Loss of peers -/

/-- The key under which a peer's missing route is timed: a member of this group, or another group. -/
def State.routeKey (s : State) (chip : Nat) : Nat := if chip / 256 = s.ownChip / 256 then chip % 256 else 256 + chip / 256

/-- The peer watch of a turn (R700, R703): since when each entry with a valid link has had no usable one.
Log: entry 84 (DEDUCED). -/
def State.watchPeers (s : State) : State :=
  if !s.dutiesRun then s
  else
    let keys := ((FMap.keys s.regs).filter (fun k => k / 4096 = Pg.ryk 0 && 0xC00 ≤ k % 4096)).flatMap (fun k =>
      let o := k % 4096
      let base := if o < 0xE00 then 256 + (o - 0xC00) / 2 else (o - 0xE00) / 2
      [base, base + 1])
    let chipOf := fun k => if k < 256 then s.ownChip / 256 * 256 + k else 256 * (k - 256)
    let lost := keys.filter (fun k =>
      let e := s.routeEntry (chipOf k)
      s.routeKey (chipOf k) = k && chipOf k ≠ s.ownChip && (e / 64 % 2 = 1 || e / 16384 % 2 = 1) && (s.route (chipOf k)).isNone)
    s.cpcMap (fun c => { c with noRoute := lost.foldl (fun (m : FMap Nat) k =>
      FMap.set m k (FMap.getD c.noRoute k s.safe.ticks)) [] })

/-- PEER_LOST: a peer without route for PEER_LOST turns is declared lost (R700, R717). -/
def execPeerLost (off : Nat) (chip : BitVec 16) (routes : List RouteWrite) (s : State) : Result :=
  let s0 := s.at off
  let c := chip.toNat
  let long := match FMap.get? s0.cpc.noRoute (s0.routeKey c) with
    | some t => t + max 48 (s0.fld (Pg.cpc 0) F.CPC_CLU_CFG_PEER_LOST) ≤ s0.safe.ticks
    | none => false
  .next (if s0.dutiesRun && long && c ≠ s0.ownChip && c ∉ s0.cpc.retired then s0.declare c 1 s0.ownChip routes else s0)

/-- SELF_RETIRE: the safe state has recurred SELF_RETIRE times within 24,000 turns (R700, R704). -/
def execSelfRetire (off : Nat) (routes : List RouteWrite) (s : State) : Result :=
  let s0 := s.at off
  let n := (s0.safe.entries.filter (fun t => s0.safe.ticks < t + 24000)).length
  .next (if s0.dutiesRun && max 1 (s0.fld (Pg.cpc 0) F.CPC_CLU_CFG_SELF_RETIRE) ≤ n && s0.ownChip ∉ s0.cpc.retired then
    s0.selfRetire 3 routes else s0)

/-! ### Collectives (R694 to R698) -/

/-- The least n with 2^n at least k. -/
def log2Up (k : Nat) : Nat := if k ≤ 1 then 0 else Nat.log2 (k - 1) + 1

/-- The one-group rule of Table CPC-7: 0 ring or 1 tree. -/
def collAlgo (kind len ringMin : Nat) : Nat := if kind = 3 then 1 else if kind = 0 then (if ringMin ≤ len then 0 else 1) else 0

/-- Steps of an algorithm over `n` chips (R696). Log: entry 85 (DESIGN CHOICE). -/
def collSteps (algo kind n : Nat) : Nat :=
  if algo = 0 then (if kind = 0 then 2 * (n - 1) else n - 1)
  else if kind = 0 then 2 * log2Up n else log2Up n

/-- The plan of a collective over the surviving chips of its set (Table CPC-7): algorithm and steps. A hierarchical plan runs
inside the groups, across their leaders, and, for an all-reduce, a broadcast inside the groups. -/
def collPlan (kind len ringMin : Nat) (chips : List Nat) : Nat × Nat :=
  let groups := (chips.map (· / 256)).eraseDups
  let a := collAlgo kind len ringMin
  if groups.length ≤ 1 then (a, collSteps a kind chips.length)
  else
    let widest := (groups.map (fun g => (chips.filter (fun c => c / 256 = g)).length)).foldl max 0
    (2, collSteps a kind widest + collSteps a kind groups.length + (if kind = 0 then log2Up widest else 0))

/-- The chip a ring's member sends to: the next of its chips, wrapping (R696). -/
def ringPeers (chips : List Nat) (own : Nat) : List Nat :=
  if own ∈ chips then [chips.getD ((chips.idxOf own + 1) % chips.length) own] else []

/-- The parent of a rank of a binomial tree: its lowest set bit cleared. Log: entry 85 (DESIGN CHOICE). -/
def treeParent (i : Nat) : Nat := i - (i &&& (2 ^ 16 - i % 2 ^ 16))

/-- The chips a member of a binomial tree exchanges with: its parent and its children, ranks counted from the root (R696). -/
def treePeers (chips : List Nat) (root own : Nat) : List Nat :=
  let n := chips.length
  let rank := fun c => (chips.idxOf c + n - chips.idxOf root % n) % n
  if own ∈ chips then chips.filter (fun c => c ≠ own &&
    ((rank c ≠ 0 && treeParent (rank c) = rank own) || (rank own ≠ 0 && treeParent (rank own) = rank c)))
  else []

/-- The root of a tree over some chips: the broadcast source where it is one of them, else the lowest (R696). -/
def treeRoot (kind source : Nat) (chips : List Nat) : Nat := if kind = 3 && source ∈ chips then source else chips.headD 0

/-- The chips that a chip sends to under the one-group rule. -/
def rulePeers (algo kind source : Nat) (chips : List Nat) (own : Nat) : List Nat :=
  if algo = 0 then ringPeers chips own else treePeers chips (treeRoot kind source chips) own

/-- The chips that a collective's plan may have a chip send to (Table CPC-7, R696); a group's leader is its lowest address, or the
broadcast source in its group. Log: entry 85 (DESIGN CHOICE). -/
def collPeers (kind source len ringMin : Nat) (chips : List Nat) (own : Nat) : List Nat :=
  let groups := (chips.map (· / 256)).eraseDups
  let a := collAlgo kind len ringMin
  if groups.length ≤ 1 then rulePeers a kind source chips own
  else
    let mine := chips.filter (fun c => c / 256 = own / 256)
    let leaders := groups.map (fun g => treeRoot kind source (chips.filter (fun c => c / 256 = g)))
    rulePeers a kind source mine own ++ rulePeers a kind source leaders own ++
      (if kind = 0 then treePeers mine (mine.headD 0) own else [])

/-- FP32 of a number that comes of two operands. -/
def fp32 (src : Nat) (x : Elem) : Nat := (storeFp 8 0 src ⟨false, 1, 0⟩ x).code

/-- Is an FP32 element below another? Log: entry 86 (PRESUMED). -/
def elemBelow : Elem → Elem → Bool
  | .fin x, .fin y => decide ((y.shifted (min x.e y.e)) > x.shifted (min x.e y.e))
  | .inf n, .inf k => n && !k
  | .inf n, .fin _ => n
  | .fin _, .inf k => !k
  | _, _ => false

/-- Two 4 B elements reduced (R694): INT32 with saturation (R462), FP32 rounded (R465). Log: entry 86 (PRESUMED). -/
def reduce4 (op format a b : Nat) : Nat :=
  if format = 3 then
    let x := signed 32 a
    let y := signed 32 b
    unsigned 32 (if op = 0 then (satInt 32 false (x + y)).1 else if op = 1 then max x y else min x y)
  else
    let x := decodeFp 8 a
    let y := decodeFp 8 b
    if op = 0 then fp32 (a + 2 ^ 32 * b) (fmaFp (.fin ⟨false, 1, 0⟩) x y)
    else if x = .nan || y = .nan then fp32 (a + 2 ^ 32 * b) .nan
    else if op = 1 then (if elemBelow x y then b else a)
    else if elemBelow y x then b else a

/-- Two runs of elements reduced. -/
def reduceBytes (op format : Nat) (a b : List Nat) : List Nat :=
  (List.range (b.length / 4)).flatMap (fun i => leBytes 4 (reduce4 op format (leNat (sliceOf a (4 * i) 4)) (leNat (sliceOf b (4 * i) 4))))

/-- The bytes a collective moves in all: its result. -/
def Collective.total (c : Collective) (n : Nat) : Nat := if c.kind = 1 then n * c.len else c.len

/-- The chips of a collective's set that are not retired (R694). -/
def State.collChips (s : State) (c : Collective) : List Nat := c.set.filter (fun a => a ∉ s.cpc.retired)

/-- RING_MIN in B. -/
def State.ringMin (s : State) : Nat := 1024 * max 4 (s.fld (Pg.cpc 0) F.CPC_COLL_CFG_RING_MIN)

/-- The chunks a plan sends now to the chips that it has this chip send to (R696), from the source before the first step and from the
destination after it (R697). Log: entry 85 (DESIGN CHOICE). -/
def State.sendChunks (s : State) (c : Collective) (sends : List PlanSend) : State :=
  let n := c.set.length
  let peers := collPeers c.kind c.source c.len s.ringMin (s.collChips c) s.ownChip
  ((sends.filter (fun p => p.dest.toNat ∈ peers)).foldl (fun (t : State) p =>
    let at' := 4096 * p.chunk.toNat
    let data := Mem.bytes 0 t.ddr ((if c.step = 0 then c.src else c.dst) + at') (min 4096 (c.total n - at'))
    let h := beBytes 2 c.id ++ beBytes 2 c.epoch ++ beBytes 2 p.step.toNat ++ beBytes 4 p.chunk.toNat ++ [c.kind, c.op, c.format] ++
      List.replicate 51 0
    t.send p.dest.toNat 3 0 0 0 (h ++ data)) s).rykPump

/-- COLL_START (R694 to R696). -/
def execCollStart (off : Nat) (sends : List PlanSend) (s : State) : Result :=
  .next ((s.at off).serve 0x20 (some 0) false [FW.running]
    [(8, 2), (10, 1), (11, 1), (12, 1), (14, 2), (16, 4), (24, 8), (32, 8), (40, 1), (41, 1), (48, 32)] (fun r t =>
    let id := reqAt r 8 2
    let kind := reqAt r 10 1
    let fmt := reqAt r 12 1
    let len := reqAt r 16 4
    let free := (List.range 8).find? (fun k => (FMap.get? t.cpc.colls k).isNone)
    match free with
    | none => (t, MB.badArg, [])
    | some k =>
      if 3 < kind || 2 < reqAt r 11 1 || (fmt ≠ 3 && fmt ≠ 8) || len % 4 ≠ 0 || reqAt r 41 1 < reqAt r 40 1 ||
          t.cpc.colls.any (fun e => e.2.id = id) then (t, MB.badArg, [])
      else
        let c0 : Collective := ⟨id, kind, reqAt r 11 1, fmt, reqAt r 14 2, len, reqAt r 24 8, reqAt r 32 8, reqAt r 40 1,
          reqAt r 41 1, reqAt r 48 32, t.epoch, 0, 0, 0⟩
        let plan := collPlan kind len t.ringMin (t.collChips c0)
        let c : Collective := { c0 with steps := plan.2 }
        let p := Pg.cpc 0
        let t1 := t.cpcMap (fun x => { x with colls := FMap.set x.colls k c })
        let t2 := (((t1.setFld p (F.CPC_COLL_STATE_b0 k) 1).setFld p (F.CPC_COLL_STATE_b8 k) 0).setFld p (F.CPC_COLL_STATE_b16 k) id)
        let t3 := ((t2.setFld p (F.CPC_COLL_PLAN_b0 k) t.epoch).setFld p (F.CPC_COLL_PLAN_b16 k) plan.1).sendChunks c sends
        let t4 := if plan.2 = 0 then
            (t3.setDdr (Mem.store 0 t3.ddr c.dst (Mem.bytes 0 t3.ddr c.src len))).endColl k CE.ok else t3
        (t4, MB.accepted, [k])))

/-- COLL_CANCEL (Table CPC-15). -/
def execCollCancel (off : Nat) (s : State) : Result :=
  .next ((s.at off).serve 0x21 (some 0) false [FW.running] [(8, 2)] (fun r t =>
    match t.cpc.colls.find? (fun e => e.2.id = reqAt r 8 2) with
    | some e => (t.endColl e.1 CE.cancelled, MB.ok, [])
    | none => (t, MB.badArg, [])))

/-- Does a frame's data take part in a reduction? It does in a reducing kind, but for the second half of an all-reduce, which
hands results round. -/
def Collective.reduces (c : Collective) (step : Nat) : Bool := c.kind = 2 || (c.kind = 0 && 2 * step < c.steps)

/-- A frame's chunk taken (R694, R697): reduced with this chip's own into the destination, or stored there.
Log: entry 85 (DESIGN CHOICE). -/
def State.takeChunk (s : State) (c : Collective) (step chunk : Nat) (data : List Nat) : State :=
  let o := 4096 * chunk
  let v := if c.reduces step then reduceBytes c.op c.format (Mem.bytes 0 s.ddr (c.src + o) data.length) data else data
  { s with ddr := Mem.store 0 s.ddr (c.dst + o) v }

/-- COLL: a frame of a collective in progress (R697): its step, or MEMBER_LOST where its epoch differs. `sends` is what the
plan sends then. A frame of a collective not yet started waits. Log: entry 85 (DESIGN CHOICE). -/
def execCollFrame (off : Nat) (sends : List PlanSend) (s : State) : Result :=
  let s0 := s.at off
  let mine := fun (f : RFrame) => s0.cpc.colls.find? (fun e => e.2.id = beAt f.payload 0 2)
  match s0.takeInbox (fun f => s0.dutiesRun && f.type = 3 && (mine f).isSome) with
  | none => .next s0
  | some ((_, _, f), s1) =>
    match mine f with
    | none => .next s0
    | some (k, c) =>
      if beAt f.payload 2 2 ≠ c.epoch then .next (s1.endColl k CE.memberLost)
      else
        let step := beAt f.payload 4 2
        let s2 := s1.takeChunk c step (beAt f.payload 6 4) ((f.payload.drop 64).take 4096)
        let c1 := { c with step := max c.step (step + 1), ran := 0 }
        let s3 := (s2.cpcMap (fun x => { x with colls := FMap.set x.colls k c1 })).sendChunks c1 sends
        .next (if c.steps ≤ c1.step then s3.endColl k CE.ok else s3)

/-- COLL_TMO, at least 196 (R717). -/
def State.collTmo (s : State) : Nat := max 196 (s.fld (Pg.cpc 0) F.CPC_COLL_CFG_COLL_TMO)

/-- A turn of the collectives' timers: they pause while a link in use shows HOLD, and while duties are paused (R698). -/
def State.collTick (s : State) : State :=
  if !s.dutiesRun then s
  else s.cpcMap (fun x => { x with colls := FMap.mapKV x.colls (fun _ c =>
    if c.set.any (fun a => match s.route a with
      | some n => s.bit (Pg.ryk n) F.RYK_STATUS_HOLD
      | none => false) then c else { c with ran := c.ran + 1 }) })

/-- COLL_TIMEOUT (R698). -/
def execCollTimeout (off : Nat) (k : Fin 8) (s : State) : Result :=
  let s0 := s.at off
  match FMap.get? s0.cpc.colls k.val with
  | some c => .next (if s0.collTmo ≤ c.ran then s0.endColl k.val CE.timeout else s0)
  | none => .next s0

end Sys2Proof.Machine
end

