-- ==== Sys2Proof/Machine/Fabric.lean ====
section
/-!
DEFINITION. The logic fabric's regions, clock generators and user registers, the configuration scrubber, and the frequency
monitors of the clock domains (R372 to R403).
-/

set_option Elab.async false

namespace Sys2Proof.Machine

open Sys2Proof

/-! ### Clock generators (R374 to R376) -/

/-- FCG_CTL applied as the FCG passes from PRIMED to READY, its PLL in lock. -/
def State.fcgApply (s : State) (k : Nat) : State :=
  let p := Pg.fab (45 + k)
  { (s.setFld p F.FAB_FCG_STATUS 1) with fabric := { s.fabric with fcg := FMap.set s.fabric.fcg k (s.inForce p ⟨0x040, 0, 32⟩) } }

/-- A mesh port whose FCG runs below 400 MHz may not become ACTIVE (R383). Log: entry 92 (DEDUCED). -/
def State.meshPortSlow (s : State) (page : Nat) : Bool :=
  Pg.fab 37 ≤ page && page ≤ Pg.fab 44 && fcgOut (s.fcgSetting (s.inForce page F.FAB_TNI_CTL)) < 400000

/-- Is every FCG that a region names ACTIVE (R377)? -/
def State.clocksUp (s : State) (page : Nat) : Bool :=
  (List.range 16).all (fun k => !maskHas (s.inForce page F.FAB_RGN_CLK) k || s.unit (Pg.fab (45 + k)) = uActive)

/-! ### Regions -/

/-- A region left ACTIVE: its frames are fresh no longer (R740). -/
def State.regionLeaves (s : State) (r : Nat) : State :=
  (s.loadMap (fun l => { l with fresh := FMap.erase l.fresh r })).setFld (Pg.cfg 2) ⟨0x054, r, 1⟩ 0

/-- A region entered FENCED: a record on its way to a consumer declared in it is lost (R391). Log: entry 72 (DEDUCED). -/
def State.regionFenced (s : State) (r : Nat) : State :=
  (List.range 8).foldl (fun (a : State) k =>
    let p := tapPage (k / 2)
    match FMap.getD a.pipe.taps k [] with
    | _ :: rest =>
      if maskHas (a.fld p F.FAB_TAP_DECL_RGN) r then
        ({ a with pipe := { a.pipe with taps := FMap.set a.pipe.taps k rest } }).incFld p (F.FAB_TAP_OVERFLOW (k % 2))
      else a
    | [] => a) s

/-- What a region's unit gone from one state to another means for the fabric. -/
def State.regionMoved (s : State) (r old : Nat) : State :=
  let now := s.unit (Pg.fab r)
  let s1 := if old = uActive && now ≠ uActive then s.regionLeaves r else s
  if old ≠ uFenced && now = uFenced then s1.regionFenced r else s1

/-- A region fenced at once, whether READY, ACTIVE or DRAINING. Log: entry 72 (DEDUCED). -/
def State.fenceRegion (s : State) (r reason : Nat) : State :=
  (s.fence (Pg.fab r) reason).regionMoved r (s.unit (Pg.fab r))

/-- An FCG left ACTIVE: the regions it feeds are fenced (R377). -/
def State.fcgLeaves (s : State) (k : Nat) : State :=
  (List.range 32).foldl (fun (a : State) r =>
    if maskHas (a.inForce (Pg.fab r) F.FAB_RGN_CLK) k then a.fenceRegion r Reason.parent else a) s

/-- An FCG whose unit left FENCED for READY has its PLL in lock again (R375); FCG_CTL as applied stays.
Log: entry 72 (DEDUCED). -/
def State.fcgMoved (s : State) (k old : Nat) : State :=
  let p := Pg.fab (45 + k)
  let s1 := if old = uFenced && s.unit p = uReady then s.setFld p F.FAB_FCG_STATUS 1 else s
  if old = uActive && s.unit p ≠ uActive then s1.fcgLeaves k else s1

/-- A region may be ACTIVE only while every FCG it names is: one that a setting coming into force leaves without a clock is
fenced at that boundary (R377). -/
def State.regionsBoundary (s : State) : State :=
  (List.range 32).foldl (fun (a : State) r =>
    if a.unit (Pg.fab r) = uActive && !a.clocksUp (Pg.fab r) then a.fenceRegion r Reason.parent else a) s

/-- An FCG in lock loses it: fenced, its output stopped (R398). -/
def State.fcgLost (s : State) (k : Nat) : State :=
  let p := Pg.fab (45 + k)
  if !s.bit p F.FAB_FCG_STATUS then s
  else ((((s.setFld p F.FAB_FCG_STATUS 0).incFld p F.FAB_FCG_LOSSES).raiseIrq p 0).fence p Reason.hwError).fcgLeaves k

/-- FCG_LOCK_LOSS: an FCG loses lock (R398). -/
def execFcgLockLoss (off : Nat) (k : Fin 16) (s : State) : Result := .next ((s.at off).fcgLost k.val)

/-- A partial reload rewrites the region now. -/
def State.reloading (s : State) (r : Nat) : Bool :=
  s.partRuns && (match s.load.sect with
    | some x => x.kind = Kind.part && maskHas (beAt x.header 16 4) r
    | none => false)

/-- The scrub period that runs, counted from 1: SCRUB_PERIOD in force, below 240 taken as 240 (R395, Table FAB-6). -/
def State.scrubPass (s : State) : Nat := s.turn / max 240 (s.inForce (Pg.fab 61) F.FAB_SCR_CTL) + 1

/-- CONFIG_SCRUB: the scrubber has read a region's frames, with the words it corrected and whether one could not be; `last`
ends the region, which it reads once a period (R395, R393). Log: entry 146 (DEDUCED). -/
def execConfigScrub (off : Nat) (r : Fin 32) (corrected : Nat) (bad last : Bool) (s : State) : Result :=
  let s0 := s.at off
  let p := Pg.fab r.val
  if s0.unit (Pg.fab 61) ≠ uActive || FMap.get? s0.fabric.scrubs r.val = some s0.scrubPass then .next s0
  else
    let s1 := (if last then { s0 with fabric := { s0.fabric with scrubs := FMap.set s0.fabric.scrubs r.val s0.scrubPass } }
      else s0).setFld (Pg.fab 61) F.FAB_SCR_POS r.val
    let s2 := if s1.reloading r.val || corrected = 0 then s1
      else
        let t := (s1.incFld p F.FAB_RGN_CFG_CORR corrected).raiseIrq p 0
        (List.range corrected).foldl (fun (a : State) _ => a.transient p) t
    let s3 := if bad && !s2.reloading r.val then (s2.raiseIrq p 1).fenceRegion r.val 0x80 else s2
    .next (if last && r.val = 31 then s3.incFld (Pg.fab 61) F.FAB_SCR_PASSES else s3)

/-- BRAM_ERROR: an uncorrectable one appears on the block's error output (R397). -/
def execBramError (off : Nat) (r : Fin 32) (corrected : Bool) (s : State) : Result :=
  let s0 := s.at off
  let p := Pg.fab r.val
  if corrected then .next ((s0.incFld p F.FAB_RGN_BRAM_b0).raiseIrq p 2)
  else
    let s1 := ((s0.incFld p F.FAB_RGN_BRAM_b16).raiseIrq p 3).emit (.bramError r.val)
    .next (if s1.bit (Pg.fab 32) F.FAB_CFG then s1.fenceRegion r.val 0x81 else s1)

/-! ### User registers (R384) -/

/-- UREG_ACCESS: an access to byte `o` of the user register window: a posted write, or a read with the fabric's answer. -/
def execUregAccess (off : Nat) (o : Fin 8064) (data : Option Word) (answer : Word) (s : State) : Result :=
  let page := 0x053E + o.val / 4032
  let at' := 0x040 + o.val % 4032
  let drop := fun (t : State) => t.incFld (Pg.fab 32) F.FAB_UREG_CNT_UREG_DROP
  .next (match data with
    | some v => (s.at off).onPage page at' (fun t => if t.fabric.ureg then t.userWrite o.val v.toNat else drop t)
    | none => (s.at off).readPage page at' (fun t =>
      if !t.fabric.ureg then { (drop t) with rdata := [0] }
      else if t.userClocked then { t with rdata := [answer] }.emit (.userReg o.val none)
      else { t.userTimeout with rdata := [0xFFFFFFFF] }))

/-- UREG_TIMEOUT: a read that the fabric has not answered within 512 ns. -/
def execUregTimeout (off : Nat) (o : Fin 8064) (s : State) : Result :=
  let s0 := s.at off
  if !s0.fabric.ureg then .next s0
  else .next { (if s0.userClocked then s0.emit (.userReg o.val none) else s0).userTimeout with rdata := [0xFFFFFFFF] }

/-! ### Clock domains (R388, R399) -/

/-- Pages that fail, with HW_ERROR, when a domain is OUT or STOPPED, and that fail without taking the safe state by
themselves. -/
def domainUnits (d : Nat) : List Nat :=
  if d = 191 || d = 192 then (List.range 12).map (Pg.stg (d - 191))
  else if d = 236 then [Pg.wdl]
  else if d = 201 then (List.range 16).map Pg.cst
  else if d = 202 then (List.range 32).map Pg.pmp
  else if d = 239 then [Pg.lwl 0]
  else []

/-- A tile region's clock fails: its tiles and routers fault, and the network is fenced (R399, R447, R448). -/
def State.tileClockFails (s : State) (g : Nat) : State :=
  let mine := (List.range 128).filter (fun r => r % 16 / 2 = g)
  let s1 := mine.foldl (fun (a : State) r =>
    let t := tileAt r
    ((a.fail (Pg.tile t) Reason.hwError).tileMoved t (a.unit (Pg.tile t))).fail (Pg.tnw r) Reason.hwError) s
  let s2 := (List.range 128).foldl (fun (a : State) t => a.fenceTile Reason.parent t) s1
  (List.range 128).foldl (fun (a : State) k => if mine.contains k then a else a.fence (Pg.tnw k) Reason.parent) s2

/-- What a domain found OUT or STOPPED does (R399): a port's receive PCS loses its alignment, and the endpoint its link.
Log: entry 71 (DEDUCED), entry 147 (DESIGN CHOICE). -/
def State.domainLost (s : State) (d : Nat) : State :=
  if 193 ≤ d && d ≤ 200 then s.tileClockFails (d - 193)
  else if 32 ≤ d && d ≤ 39 then s.loseLink (d - 32) 2 .pcsAlign
  else if d = 189 || d = 190 then s.endpointReset .linkDown
  else if 219 ≤ d && d ≤ 234 then s.fcgLost (d - 219)
  else if (laneOfDomain d).isSome then s.cdrLost ((laneOfDomain d).getD 0)
  else
    let pumps := if d = 202 then (List.range 32).filter (fun p => s.unit (Pg.pmp p) = uActive) else []
    let s1 := (domainUnits d).foldl (fun (a : State) p => a.fail p Reason.hwError) s
    let s2 := pumps.foldl State.pumpLeaves s1
    let s3 := if d = 239 then s2.coreLeaves
      else if d = 236 then (s2.setFld Pg.wdl F.WDL_STATUS_TSTATE T.fault).setFld Pg.wdl F.WDL_STATUS_ACTIVE_ANCHOR 8
      else s2
    if d = 191 || d = 192 || d = 236 then s3.safeEnter [Trig.clock] (domainUnits d).head? else s3

/-- What a monitor shows of a domain (Table CLK-3): 0 not monitored, 1 OK, 2 OUT, 3 STOPPED. -/
def State.clockShows (s : State) (d : Nat) (khz : Option Word) : Nat :=
  if !s.monitored d then 0
  else match khz with
    | none => 3
    | some f => if s.outOfRange d f.toNat then 2 else 1

/-- CLOCK_MONITOR_OUT: a monitor's measurement of its domain, in kHz, none where no edge has arrived for 1 µs (R388).
Log: entry 71 (DEDUCED), entry 141 (DEDUCED). -/
def execClockMonitorOut (off : Nat) (d : Fin 248) (khz : Option Word) (s : State) : Result :=
  let s0 := s.at off
  let p := Pg.clk (d.val / 16)
  let j := d.val % 16
  if s0.pins.mainReset then .next s0
  else
    let st := s0.clockShows d.val khz
    let was := s0.fld p (F.CLK_STATUS_b0 j)
    let s1 := (s0.setFld p (F.CLK_STATUS_b0 j) st).setFld p (F.CLK_STATUS_FOLLOWER j) (bitOf (s0.hasFollower d.val))
    let s2 := match khz with
      | some f => if st = 0 then s1 else s1.setFld p (F.CLK_FREQ j) f.toNat
      | none => s1
    if st ≤ 1 || st = was then .next s2
    else
      let s3 := (s2.incFld p (if st = 2 then ⟨0x108 + 16 * j, 0, 16⟩ else ⟨0x108 + 16 * j, 16, 16⟩)).raiseIrq p j
      .next (s3.domainLost d.val)

end Sys2Proof.Machine
end

