-- ==== Sys2Proof/Machine/Power.lean ====
section
/-!
DEFINITION. Power, resets and the safe state from its entry to its end (spec/20, spec/22, spec/23, R235, R239); the test
access port's instructions (R893, R894).
-/

set_option Elab.async false

namespace Sys2Proof.Machine

open Sys2Proof

/-! ### The islands -/

/-- Bits of the security pages that fuses and ROM give, which no reset changes (Table SEC-6). -/
def secFused (page off : Nat) : Nat :=
  if page = Pg.sec 0 then (if off = 0x040 then 0x300 else if off = 0x04C || off = 0x050 || off = 0x05C then allOnes else 0)
  else if page = Pg.sec 5 && (off = 0x044 || off = 0x048) then allOnes else 0

/-- The security island reset (R765): registers but for fuses, keys, sessions, nonces, debug level. -/
def State.resetSec (s : State) : State :=
  let keep := fun (e : Nat × Word) =>
    if pageClass (e.1 / 4096) = 0x0005 then
      let m : Word := BitVec.ofNat 32 (secFused (e.1 / 4096) (e.1 % 4096))
      (regReset e.1 &&& ~~~m) ||| (e.2 &&& m)
    else e.2
  let file := fun (r : FMap Word) => r.foldl (fun (a : FMap Word) e => FMap.setC a e.1 (keep e) (regReset e.1)) []
  let x := s.sec
  let s1 := { s with
    regs := file s.regs, force := file s.force, held := s.held.filter (fun e => pageClass (e.1 / 4096) ≠ 0x0005), units := s.units.filter (fun e => pageClass e.1 ≠ 0x0005),
    sec := { x with pufk := none, dkek := none, stks := [], drbg := false, nonces := [], stale := [], sessions := [],
                    wasLevel2 := false, testFor := none, sections := [], held := [] } }
  ((List.range 16).map Pg.sec).foldl State.syncAttention s1

/-- The SEC pages' units ACTIVE, with the module's power-up tests running (R145, R766, R797). -/
def State.startSec (s : State) : State :=
  ((((List.range 16).map Pg.sec).filter hasUnit).foldl (fun (t : State) p => t.setFld p F.HDR_UNIT_STATE_STATE uActive) s).startTests none

/-- A page's registers at their reset values. -/
def State.clearPage (s : State) (page : Nat) : State :=
  { s with regs := s.regs.filter (fun e => e.1 / 4096 ≠ page), force := s.force.filter (fun e => e.1 / 4096 ≠ page),
           late := s.late.filter (fun e => e.1 / 4096 ≠ page), held := s.held.filter (fun e => e.1 / 4096 ≠ page),
           wideHi := s.wideHi.filter (fun e => e.1 / 4096 ≠ page),
           units := s.units.filter (fun e => e.1 ≠ page) }

/-- The line engines start with the island on the TX964-OL, ACTIVE with reason ISLAND (R239). -/
def State.startEngines (s : State) : State :=
  if s.fld Pg.gbl F.GBL_VARIANT ≠ 0 then s
  else (List.range 8).foldl (fun (t : State) e =>
    ((t.setFld (Pg.ope e) F.HDR_UNIT_STATE_STATE uActive).setFld (Pg.ope e) F.HDR_UNIT_STATE_REASON 0x84).opeUnit e) s

/-- ISLAND_POWER_ON: instant I, with the levels of the fail-policy straps (R225, R239, R826, R847, R871). -/
def execIslandPowerOn (off : Nat) (straps : BitVec 8) (s : State) : Result :=
  let s0 := s.at off
  if s0.pins.island then .next s0
  else
    let s1 := if s0.pins.mainReset then s0.resetMain false true else s0
    let s2 := ((([0, 1, 2, 3, 4, 5, 6, 7].map Pg.ope).foldl State.clearPage (s1.clearPage Pg.byp)).pinsMap
      (fun x => { x with island := true })).chansMap (fun x => x.filter (fun e => 64 ≤ e.1))
    let s3 := ((s2.setFld Pg.byp ⟨0x040, 0, 8⟩ straps.toNat).setFld Pg.byp ⟨0x05C, 0, 8⟩ straps.toNat).setFld Pg.gbl
      ⟨F.GBL_STRAPS.off, 4, 8⟩ straps.toNat
    let s4 := (s3.forceNow (regKey Pg.byp 0x040)).setFld Pg.byp F.HDR_UNIT_STATE_STATE uActive
    let s5 := (((s4.setFld Pg.byp F.BYP_STATUS_LREF_OK (bitOf s4.wdl.lrefOk)).engageAll Engage.notInService).syncPolicies).startEngines
    .next (if s5.pins.resetN then (s5.resetSec).startSec else s5.resetSec)

/-- ISLAND_SUPPLY_FAIL: the line path stops; the security island loses its supply too (R235, R765).
Log: entry 75 (DEDUCED). -/
def execIslandSupplyFail (off : Nat) (s : State) : Result :=
  let s0 := s.at off
  if !s0.pins.island then .next s0
  else
    let s1 := ({ s0 with pins := { s0.pins with island := false } }).fail Pg.byp Reason.hwError
    let s2 := [0, 1, 2, 3].foldl (fun (t : State) p => t.setService p false) s1
    let s3 := (List.range 8).foldl (fun (t : State) e => (channelsOf e).foldl (fun (u : State) c => u.setCh e c C.off) t) s2
    let s4 := (List.range 32).foldl (fun (t : State) l => if t.sig l then t.signalLoss l else t) s3
    .next s4.resetSec

/-! ### MAIN_PG and RESET_N -/

/-- MAIN_PG low: every pair engaged, trigger 10 (Table BYP-2, Table FLT-4). The same event reported twice is one (R899). -/
def State.mainPgLow (s : State) : State :=
  if !s.pins.mainPg then s
  else
    let s1 := ({ s with pins := { s.pins with mainPg := false } }).engageAll Engage.mainPg
    if s1.pins.mainReset then s1 else s1.safeEnter [Trig.mainPg] none

/-- MAIN_PG_FALL. -/
def execMainPgFall (off : Nat) (s : State) : Result := .next (s.at off).mainPgLow

/-- MAIN_UNDERVOLTAGE: a main rail below 92 % for 5 µs is as MAIN_PG low (R875). -/
def execMainUndervoltage (off : Nat) (s : State) : Result := .next (s.at off).mainPgLow

/-- MAIN_PG_RISE (R848). -/
def execMainPgRise (off : Nat) (s : State) : Result :=
  let s0 := s.at off
  .next { s0 with pins := { s0.pins with mainPg := true } }

/-- RESET_N_FALL; `withPg` says that MAIN_PG falls in the same clock (R859, R896). During start-up it is no safe-state
entry; later it is trigger 11, whose reset falls within 1 µs. Log: entry 74 (DEDUCED). -/
def execResetNFall (off : Nat) (withPg : Bool) (s : State) : Result :=
  let s0 := s.at off
  if !s0.pins.resetN then .next s0
  else
    let pins := { s0.pins with resetN := false, mainPg := s0.pins.mainPg && !withPg }
    let codes := if withPg then [Trig.mainPg, Trig.resetN] else [Trig.resetN]
    let s1 := ({ s0 with pins := pins }).engageAll (if withPg then Engage.mainPg else Engage.resetPin)
    let entry := s1.safe.loaded || s1.sstate ≠ SState.normal
    let s2 := ((s1.abandonUpdate).resetSec).resetMain false true
    .next (if entry && s1.sstate ≠ SState.halted then (s2.recordEntry codes none).setSState SState.cold
      else s2.setSState SState.normal)

/-- RESET_N_RISE: the security island leaves reset (R847). -/
def execResetNRise (off : Nat) (s : State) : Result :=
  let s0 := s.at off
  if s0.pins.resetN then .next s0
  else
    let s1 := { s0 with pins := { s0.pins with resetN := true } }
    .next (if s1.pins.island then s1.startSec else s1)

/-! ### Entering the safe state -/

/-- SAFE_STATE_ENTRY: one or several triggers of Table FLT-4 in one clock, with the unit concerned (R804, R816). -/
def execSafeStateEntry (off : Nat) (codes : List (Fin 12)) (src : Option (BitVec 14)) (s : State) : Result :=
  let s0 := s.at off
  let cs := (codes.map Fin.val).filter (fun c => c ≠ 0)
  if cs.isEmpty || s0.pins.mainReset && s0.sstate = SState.normal then .next s0
  else .next (s0.safeEnter cs (src.map BitVec.toNat))

/-- What a write of SAFE_CTL.ENTER does: ignored while SSTATE is not NORMAL (R813). -/
def State.ctlEnter (s : State) : State :=
  let s1 := s.setFld Pg.flt F.FLT_SAFE_CTL_ENTER 0
  if s1.sstate = SState.normal then s1.safeEnter [Trig.host] none else s1

/-- SAFE_CTL_ENTER. -/
def execSafeCtlEnter (off : Nat) (s : State) : Result :=
  let s0 := s.at off
  .next (s0.write Pg.flt 0x080 ((s0.reg (regKey Pg.flt 0x080)).withField 1 2 1)).ctlEnter

/-- What a write of SAFE_CTL.RESTART does: a cold restart from HALTED (R812). -/
def State.ctlRestart (s : State) : State :=
  let s1 := s.setFld Pg.flt F.FLT_SAFE_CTL_RESTART 0
  if s1.sstate = SState.halted then (s1.resetMain false false).setSState SState.cold else s1

/-- SAFE_CTL_RESTART. -/
def execSafeCtlRestart (off : Nat) (s : State) : Result :=
  let s0 := s.at off
  .next (s0.write Pg.flt 0x080 ((s0.reg (regKey Pg.flt 0x080)).withField 1 2 2)).ctlRestart

/-- FLT_ERR: an uncorrectable error in the fault aggregator (Table FLT-4). -/
def execFltErr (off : Nat) (s : State) : Result :=
  let s0 := s.at off
  .next (if s0.pins.mainReset then s0 else s0.safeEnter [Trig.fltErr] (some Pg.flt))

/-- The causes present at the last entry. -/
def State.trigs (s : State) : List Nat := (List.range 16).filter (fun c => s.bit Pg.flt ⟨0x088, c, 1⟩)

/-- CS_HEAD of every bound context slot kept for the restart (R906). -/
def State.keepHeads (s : State) : State :=
  let slots := ((FMap.keys s.regs).filter (fun k => k / 4096 = Pg.pci 3 && 0x040 ≤ k % 4096)).flatMap (fun k =>
    let o := k % 4096 - 0x040
    [(o / 16, 2 * (o % 16 / 4)), (o / 16, 2 * (o % 16 / 4) + 1)])
  let heads := slots.foldl (fun (m : FMap Word) e =>
    match s.slotCtx e.1 e.2 with
    | some (p, r) => FMap.set m (localPage e.1 (1 + e.2)) (s.reg (regKey (Pg.pmp p) (F.PMP_RING_HEAD_b0 r).off))
    | none => m) []
  { s with pcie := { s.pcie with heads := heads } }

/-- The ports' locks end with the reset of the line PCS; the Windlass, which a warm restart keeps, goes to HOLDOVER with
LOSS_CAUSE PCS_ALIGN (Table MOD-2, I28). -/
def State.locksLost (s : State) : State := (List.range 8).foldl (fun (t : State) p => t.interruptLock p .pcsAlign) s

/-- SAFE_RESET_ASSERT: the dump is complete, or 16 turns have passed, or no dump window applies (R806, R807, R812); `ddrKept`
says that DDR's self-refresh completed before the reset. -/
def execSafeResetAssert (off : Nat) (dumped ddrKept : Bool) (s : State) : Result :=
  let s0 := s.at off
  let writing := s0.bit (Pg.cpc 10) F.CPC_DUMP_STATUS_WRITING
  let window := dumpWindow s0.trigs
  if s0.sstate ≠ SState.entering || (window && writing && !dumped && s0.safe.ticks < s0.safe.trigTick + 16) then .next s0
  else
    let s1 := if !writing then s0 else s0.writeDump DC.safeState 0xFF (window && dumped)
    let s2 := s1.keepHeads.secMap (fun x =>
      { x with sections := x.sections.filter (fun e => 2 ≤ e.1), held := x.held.filter (fun e => 2 ≤ e.1) })
    let cold := s2.safe.cold || s2.tstate = T.fault
    let s3 := (if cold then s2 else s2.locksLost).startRestart cold
    .next (if window || ddrKept then s3 else s3.setDdr [])

/-! ### Leaving reset -/

/-- Units that start without configuration or request (R145). -/
def startPages : List Nat :=
  ([0x0000, 0x0001, 0x0012, 0x0013, 0x0210, 0x0D00, 0x0034] ++ (List.range 16).map Pg.sec ++ (List.range 16).map Pg.pci ++
    (List.range 4).map Pg.cfg ++ (List.range 16).map Pg.clk).filter hasUnit

/-- Those units ACTIVE. -/
def State.startUnits (s : State) : State :=
  startPages.foldl (fun (t : State) p => if t.unit p = uActive then t else (t.setFld p F.HDR_UNIT_STATE_STATE uActive).syncPermanent p) s

/-- GBL_BOOT cleared, with the milestones reached before M (R856). -/
def State.bootCleared (s : State) : State :=
  let s1 := (List.range 17).foldl (fun (t : State) k => t.setReg (regKey Pg.gbl (if k = 16 then 0x060 else 0x080 + 4 * k)) 0) s
  let s2 := s1.safeMap (fun x => { x with sinceM := 0 })
  let s3 := if s2.mstate = MS.operational then s2.stampBoot 0 else s2
  if s3.bit (Pg.pci 0) F.PCI_READY_CFG_READY then s3.stampBoot 5 else s3

/-- MAIN_RESET_RELEASE: instant M (R808, R848, R849, R871, R884). `cool` says that every sensor reads at or below RELEASE;
the times are µs of waiting beyond 100 µs, from R to M, 100 or more, and from I to M.
Log: entry 10 (DESIGN CHOICE), entry 88 (DEDUCED). -/
def execMainResetRelease (off : Nat) (straps : BitVec 3) (cool : Bool) (waitUs holdUs islandUs : Word) (s : State) : Result :=
  let s0 := s.at off
  let ok := s0.pins.mainReset && s0.pins.island && s0.pins.mainPg && s0.pins.resetN && s0.wdl.lrefOk && cool &&
    straps.toNat / 4 % 2 = 0 && s0.sstate ≠ SState.halted && 100 ≤ holdUs.toNat
  if !ok then .next s0
  else
    let warm := s0.sstate = SState.warm
    let first := s0.sstate = SState.normal
    let s1 := { s0 with pins := { s0.pins with mainReset := false, hbLost := false } }
    let s2 := (s1.setFld Pg.byp F.BYP_STATUS_HB_OK 1).bootCleared
    let s3 := (s2.setFld Pg.gbl F.GBL_BOOT_HOLD holdUs.toNat)
    let s4 := if first then (s3.setFld Pg.gbl F.GBL_BOOT_ISLAND islandUs.toNat).setFld Pg.gbl ⟨F.GBL_STRAPS.off, 0, 3⟩ straps.toNat else s3
    let s5 := (s4.setFld (Pg.cfg 1) F.CFG_CHN_STATUS_ROLE (s4.fld Pg.gbl F.GBL_STRAPS)).setFld Pg.flt F.FLT_SAFE_HOLD_US waitUs.toNat
    let s6 := s5.startUnits.flashReset
    .next (if warm then s6.startImage s6.runRegion else s6)

/-- RESTART_COMPLETE (R809): the load or replay is DONE, the firmware has left INIT, and the line units that were ACTIVE are so
again. `micros` is the time from the trigger.
Log: entry 10 (DESIGN CHOICE), entry 74 (DEDUCED), entry 89 (DEDUCED). -/
def execRestartComplete (off : Nat) (micros : Word) (s : State) : Result :=
  let s0 := s.at off
  let warm := s0.sstate = SState.warm
  let fw := s0.fwState = FW.waitDriver || s0.fwState = FW.running || s0.fwState = FW.held
  if !(warm || s0.sstate = SState.cold) || s0.pins.mainReset || s0.loadState ≠ LS'.done || !fw ||
      s0.safe.resume.any (fun p => s0.unit p ≠ uActive) then .next s0
  else
    let s1 := (s0.setSState SState.normal).setFld Pg.gbl F.GBL_STATUS_LAST_RESTART (if warm then 2 else 1)
    let s2 := (s1.setFld Pg.flt F.FLT_SAFE_RESTART_US micros.toNat).incFld Pg.flt (if warm then F.FLT_SAFE_EVT_b0 else F.FLT_SAFE_EVT_b16)
    let s3 := ((s2.raiseIrq Pg.flt 4).pcieMap (fun x => { x with heads := [] })).safeMap (fun x => { x with resume := [] })
    .next (if s3.pins.forceN then s3 else s3.setFld Pg.byp F.BYP_STATUS_LAST_CAUSE Engage.forcePin)

/-- WARM_RESTART_TIMEOUT: a warm restart that has run for `us` µs, not complete within 40 ms and the time its release had to wait,
is made cold (R823). Log: entry 10 (DESIGN CHOICE). -/
def execWarmRestartTimeout (off : Nat) (us : Nat) (s : State) : Result :=
  let s0 := s.at off
  if s0.sstate = SState.warm && 40000 + s0.fld Pg.flt F.FLT_SAFE_HOLD_US ≤ us then
    .next ((s0.resetMain false false).setSState SState.cold)
  else .next s0

/-! ### The test access port -/

/-- The debug level an instruction needs (Table PKG-5). -/
def tapLevel (op : Nat) : Option Nat :=
  if op ≤ 4 || op = 0x10 || op = 0xFF then some 0
  else if op = 0x20 || op = 0x21 then some 1
  else if op = 0x30 || op = 0x31 then some 2
  else none

/-- TAP_INSTRUCTION: an instruction is loaded (R894): BYPASS where it is unlisted or above the debug level.
Log: entry 90 (DESIGN CHOICE). -/
def execTapInstruction (off : Nat) (opcode : BitVec 8) (s : State) : Result :=
  let s0 := s.at off
  let ok : Bool := match tapLevel opcode.toNat with
    | some l => decide (l ≤ s0.fld (Pg.sec 6) F.SEC_DBG_STATUS_b0)
    | none => false
  if ok then .next { s0 with tap := (opcode.toNat, s0.tap.2) }
  else .next (({ s0 with tap := (0xFF, 1) }).raiseIrq (Pg.sec 0) 4)

/-- IDCODE (R893), with the stepping of GBL_DEVICE. Log: entry 90 (DESIGN CHOICE). -/
def State.idcode (s : State) : Nat := 0x0096454F + 2 ^ 28 * s.fld Pg.gbl F.GBL_DEVICE_b16

end Sys2Proof.Machine
end

