-- ==== Sys2Proof/Machine/Stream.lean ====
section
/-!
DEFINITION. Stages S4 to S6: stream order (R297 to R301, R317), file carve (R302 to R305, R318 to R320), feature
build (R306 to R309); and the expiry of records (R296), which closes objects.
-/

set_option Elab.async false

namespace Sys2Proof.Machine

open Sys2Proof

/-! ### S4 -/

/-- The held bytes contiguous with an offset, at most `n` of them. -/
def takeHeld (held : FMap (Nat × Nat)) (o : Nat) : Nat → List Nat
  | 0 => []
  | n + 1 => match FMap.get? held o with
    | some (b, _) => b :: takeHeld held (o + 1) n
    | none => []

/-- Bytes at the next expected offset delivered, with the held data they make contiguous; held data beyond a FIN are
released (R298, R301). -/
def Strm.deliver (x : Strm) (bytes : List Nat) : List Delivery × Strm :=
  let more := takeHeld x.held (x.next + bytes.length) x.held.length
  let all := bytes ++ more
  let cut := match x.fin with
    | some n => all.take (n - x.next)
    | none => all
  let next := x.next + cut.length
  let done := match x.fin with
    | some n => decide (n ≤ next)
    | none => false
  let d := if cut.isEmpty then [] else [Delivery.data x.next cut]
  (if done then d ++ [.finish] else d,
   { x with next := next, ended := x.ended || done, held := if done then [] else x.held.filter (fun e => next ≤ e.1) })

/-- The gap of R300: on to the earliest held data, or past a payload that cannot be held, to `past`.
Log: entry 25 (DEDUCED). -/
def Strm.gap (x : Strm) (past : Nat) : List Delivery × Strm :=
  let goal := match x.held with
    | (o, _) :: _ => o
    | [] => past
  match ({ x with next := goal }).deliver [] with
  | (d, y) => (.gap :: d, y)

/-- Bytes put among the held ones under a policy, FIRST or LAST; the flag tells of an overlap that differs (R299). -/
def holdBytes (last : Bool) (tick : Nat) (held : FMap (Nat × Nat)) (o : Nat) : List Nat → Bool × FMap (Nat × Nat)
  | [] => (false, held)
  | b :: t =>
    match FMap.get? held o with
    | some (c, k) =>
      match holdBytes last tick (if last then FMap.set held o (b, k) else held) (o + 1) t with
      | (x, h) => (x || b ≠ c, h)
    | none => holdBytes last tick (FMap.set held o (b, tick)) (o + 1) t

/-- REASM_WIN in bytes and MAX_HOLES, in force. -/
def State.reasmWin (s : State) (i : Nat) : Nat := 1024 * max 1 (min 256 (s.inForce (Pg.stg i 4) F.STG_RA_CFG_REASM_WIN))
def State.maxHoles (s : State) (i : Nat) : Nat := s.inForce (Pg.stg i 4) F.STG_RA_CFG_MAX_HOLES + 1

/-- The boundary from which a byte held now waits whole turns (R300). -/
def State.heldFrom (s : State) : Nat := s.safe.ticks + (if s.count % 65536 = 0 then 0 else 1)

/-- A payload's bytes put among those a direction holds, by POLICY; the flag tells of an overlap that differs (R299). -/
def State.mergeHeld (s : State) (x : Strm) (o : Nat) (bytes : List Nat) : Bool × Strm :=
  match holdBytes (s.inForce (Pg.stg x.inst 4) F.STG_RA_CFG_POLICY = 1) s.heldFrom x.held o bytes with
  | (conflict, held) => (conflict, { x with held := held, conflict := x.conflict || conflict })

/-- OVERLAP_CONFLICT counted (R299). -/
def State.noteConflict (s : State) (i : Nat) (conflict : Bool) : State :=
  if conflict then (s.incFld (Pg.stg i 4) F.STG_RA_GAPS_OVERLAP_CONFLICT).raiseIrq (Pg.stg i 4) 9 else s

/-- A payload held beyond the next expected offset, where R298 lets it be; of one that reaches beyond REASM_WIN nothing is held.
Log: entry 25 (DEDUCED), entry 143 (DESIGN CHOICE). -/
def State.tryHold (s : State) (x : Strm) (o : Nat) (bytes : List Nat) : Option (Bool × Strm) :=
  match s.mergeHeld x o bytes with
  | (conflict, y) =>
    if o + bytes.length - x.next ≤ s.reasmWin x.inst && y.holes ≤ s.maxHoles x.inst &&
        y.cells - x.cells ≤ s.freeReasm x.inst then some (conflict, y) else none

/-- A payload at an unwrapped offset meets a stream (R298 to R300). Each gap moves on past some held data, so `n`
rounds suffice when `n` exceeds their number. -/
def State.meet (s : State) (h d o : Nat) (bytes : List Nat) : Nat → Strm → List Delivery → List Delivery × State
  | 0, x, out => (out, s.setStrm h d x)
  | n + 1, x, out =>
    let p := Pg.stg x.inst 4
    let old := min bytes.length (x.next - o)
    let rest := bytes.drop old
    let s1 := if old = 0 then s else s.incFld p F.STG_RA_RETRANS
    if rest.isEmpty then (out, s1.setStrm h d x)
    else if o + old = x.next then
      match s1.mergeHeld x x.next rest with
      | (conflict, y) => match y.deliver [] with
        | (ds, z) => (out ++ ds, (s1.setStrm h d z).noteConflict x.inst conflict)
    else match s1.tryHold x o bytes with
      | some (conflict, y) =>
        (out, ((s1.setStrm h d y).incFld p F.STG_RA_HELD).noteConflict x.inst conflict)
      | none =>
        let s2 := if s1.freeReasm x.inst = 0 then s1.raiseIrq p 10 else s1
        let s3 := (s2.incFld p F.STG_RA_GAPS_GAPS).raiseIrq p 8
        match x.gap (o + bytes.length) with
        | (ds, y) =>
          if x.held.isEmpty then (out ++ ds, s3.setStrm h d y) else State.meet s3 h d o bytes n y (out ++ ds)

/-- A record's new reassembly handle as its first stream starts: no rule gives its value. Log: entry 23 (DESIGN CHOICE). -/
def State.startStream (s : State) (h : Nat) : State :=
  match s.cacheOf h, s.strm? h 0, s.strm? h 1 with
  | some (w, e), none, none =>
    s.drawn.pipeMap (fun p => { p with
      cache := FMap.set p.cache w { e with body := { e.body with reasm := s.free % 2 ^ 32 }, dirty := true } })
  | _, _, _ => s

/-- The next expected sequence number and the ISN in the cached record (Table STG-3). -/
def State.noteStream (s : State) (h d : Nat) (x : Strm) : State :=
  match s.cacheOf h with
  | some (w, e) =>
    let r := { e.body with next := setSel d e.body.next ((x.isn + x.next) % 2 ^ 32), isn := if d = 1 then x.isn else e.body.isn }
    s.pipeMap (fun p => { p with cache := FMap.set p.cache w { e with body := r, dirty := true } })
  | none => s

/-- A byte of a direction has been held for HOLE_HOLD turns (R300). -/
def State.holeDue (s : State) (x : Strm) : Bool :=
  x.held.any (fun e => e.2.2 + max 1 (s.inForce (Pg.stg x.inst 4) F.STG_RA_CFG_HOLE_HOLD) ≤ s.safe.ticks)

/-- The gaps due in a direction declared, `n` at most: what they deliver, and the state after (R300, R317). -/
def State.dueGaps (s : State) (h d : Nat) : Nat → List Delivery → List Delivery × State
  | 0, out => (out, s)
  | n + 1, out =>
    match s.strm? h d with
    | none => (out, s)
    | some x =>
      if !s.holeDue x then (out, s)
      else
        let p := Pg.stg x.inst 4
        match x.gap x.next with
        | (ds, y) => State.dueGaps (((((s.setStrm h d y).noteStream h d y).incFld p F.STG_RA_GAPS_GAPS).raiseIrq p 8).syncReasm
            x.inst) h d n (out ++ ds)

/-- Every gap due in a direction. -/
def State.expireHoles (s : State) (h d : Nat) : List Delivery × State :=
  s.dueGaps h d (match s.strm? h d with
    | some x => x.held.length + 1
    | none => 0) []

/-- What a segment's flags make of its direction: the first sequence number of its payload, and whether it ends there. -/
def Parse.firstSeq (p : Parse) : Nat := if p.tcpFlags / 2 % 2 = 1 then (p.seq + 1) % 2 ^ 32 else p.seq
def Parse.stops (p : Parse) : Bool := p.tcpFlags % 2 = 1 || p.tcpFlags / 4 % 2 = 1

/-- What S4 leaves in a frame's descriptor (Table STG-1, R308). -/
def Frame.ordered (f : Frame) (place : Nat) (x : Strm) (ds : List Delivery) : Frame :=
  { f with deliv := ds.map (fun e => (e, none)), stream := some (place, decide (Delivery.gap ∈ ds), x.mid), held := x.held.length }

/-- A TCP frame's payload meets its stream (R297, R301), after the gaps due before it (R317), and S4 sets STREAM in its descriptor
(Table STG-1). Log: entry 25 (DEDUCED). -/
def State.order (s0 : State) (id h : Nat) : State :=
  let f := s0.frame id
  let p := f.parse
  let d := f.inst
  let first := p.firstSeq
  let due := s0.expireHoles h d
  let s := due.2
  let x := (s.strm? h d).getD (Strm.start f.inst first (p.tcpFlags / 2 % 2 = 0))
  let place := (first + 2 ^ 32 - x.isn) % 2 ^ 32
  let dist := (first + 2 ^ 33 - x.isn - x.next % 2 ^ 32) % 2 ^ 32
  -- an offset behind the next expected one is counted from it backwards
  let behind := if dist < 2 ^ 31 then 0 else 2 ^ 32 - dist
  let retrans := fun (t : State) => t.incFld (Pg.stg f.inst 4) F.STG_RA_RETRANS
  if x.ended then
    (if 0 < behind && 0 < p.payLen then retrans s else s).setFrame id (f.ordered place x due.1)
  else
    let o := x.next + (if dist < 2 ^ 31 then dist else 0) - behind
    let cut := behind - x.next
    let bytes := (sliceOf f.bytes p.pay p.payLen).drop cut
    let x1 := if p.stops then { x with fin := some (match x.fin with
      | some n => min n (o + bytes.length)
      | none => o + bytes.length) } else x
    let s1 := s.startStream h
    -- bytes before the stream's start are below the next expected offset too
    let s2 := if 0 < cut && 0 < p.payLen && (bytes.isEmpty || x.next = 0) then retrans s1 else s1
    let m := if bytes.isEmpty then ([], s2.setStrm h d x1) else s2.meet h d o bytes (x1.held.length + 1) x1 []
    let y := (m.2.strm? h d).getD x1
    let e := if p.stops && !y.ended then y.deliver [] else ([], y)
    (((m.2.setStrm h d e.2).setFrame id (f.ordered place e.2 (due.1 ++ m.1 ++ e.1))).noteStream h d e.2).syncReasm
      f.inst

/-- STREAM_ORDER: S4 takes the head of its queue. -/
def execStreamOrder (off : Nat) (i : Pipe) (s : State) : Result :=
  let s0 := s.at off
  match s0.queue i 4 with
  | [] => .next s0
  | id :: _ =>
    let s1 := s0.takeHead i 4
    let f := s1.frame id
    match f.handle with
    | some h => .next ((if f.parse.l4 && f.parse.proto = 6 then s1.order id h else s1).handOn i 4 id)
    | none => .next (s1.handOn i 4 id)

/-! ### S5 -/

/-- WIN_SIZE in bytes; 3 is treated as 2. -/
def winBytes (code : Nat) : Nat := if code = 0 then 1024 else if code = 1 then 2048 else 4096

/-- The three words of a pattern or mask as one number. -/
def State.sigWord (s : State) (i off : Nat) : Nat :=
  (s.inForce (Pg.stg i 5) ⟨off, 0, 32⟩ * 2 ^ 32 + s.inForce (Pg.stg i 5) ⟨off + 4, 0, 32⟩) * 2 ^ 32 +
    s.inForce (Pg.stg i 5) ⟨off + 8, 0, 32⟩

/-- Signature `k` matches 12 bytes at a stream offset (R302). -/
def State.sigMatch (s : State) (i k o : Nat) (w : Nat) : Bool :=
  let p := Pg.stg i 5
  let m := s.sigWord i (0x40C + 32 * k)
  s.inForce p (F.STG_SIG_CTL_VALID k) = 1 && (w &&& m) = (s.sigWord i (0x400 + 32 * k) &&& m) &&
  (s.inForce p (F.STG_SIG_CTL_MODE k) = 1 || o % 2 ^ 32 = s.inForce p (F.STG_SIG_CTL_OFFSET k))

/-- Window-store bytes still free; a retired slot is as large as the slots in force. -/
def State.freeWindow (s : State) (i w : Nat) : Bool :=
  FMap.getD s.pipe.winUsed i 0 + w + w * s.deadIn (slotKey i 0) 256 ≤ 262144

/-- Window-store bytes taken or given back. -/
def State.addWindow (s : State) (i : Nat) (v : Int) : State :=
  s.pipeMap (fun p => { p with winUsed := FMap.setC p.winUsed i (Int.toNat (Int.ofNat (FMap.getD p.winUsed i 0) + v)) 0 })

/-- The OBJ_LEN hint of a flow's record, 0 none (Table STG-3): of the cached record, or of its slot once it is evicted. -/
def State.objHint (s : State) (h : Nat) : Nat :=
  match s.cacheOf h with
  | some (_, e) => beAt e.body.annot 8 4
  | none =>
    let r := s.slotRec (h % 2 ^ 28)
    if h < 2 ^ 31 && r.valid && r.gen = h / 2 ^ 28 then beAt r.annot 8 4 else 0

/-- One delivered byte of an open object (R303, R305). At the end of a window the hint closes before the limits (R319). -/
def State.objByte (s : State) (h d : Nat) (x : Strm) (o : Obj) (b : Nat) : State × Strm :=
  let p := Pg.stg x.inst 5
  let start := o.fill = 0
  let room := s.freeWindow x.inst o.w
  let s1 := if start then (if room then s.addWindow x.inst o.w else (s.incFld p F.STG_CV_WIN_DROP).raiseIrq p 8) else s
  let drop := if start then !room else o.dropping
  let o1 := { o with fill := o.fill + 1, dropping := drop, buf := if drop then [] else o.buf ++ [b] }
  let total := o1.index * o1.w + o1.fill
  if s1.objHint h ≠ 0 && total = s1.objHint h && o1.fill = o1.w then s1.closeObj h d x o1 Close.len
  else if total = o1.maxWin * o1.w || (o1.maxKb ≠ 0 && total = 1024 * o1.maxKb) then s1.closeObj h d x o1 Close.max
  else if s1.objHint h ≠ 0 && total = s1.objHint h then s1.closeObj h d x o1 Close.len
  else if o1.fill = o1.w then
    let s2 := if drop then s1 else s1.emitWindow x.inst (o1.window h d x false 0)
    (s2, { x with obj := some { o1 with index := o1.index + 1, fill := 0, buf := [], dropping := false },
                  conflict := x.conflict && drop, gapBefore := x.gapBefore && drop })
  else (s1, { x with obj := some o1 })

/-- The object that a match of entry `k` at stream offset `pos` opens (R303, R320). -/
def State.newObj (s : State) (i k pos : Nat) : Obj :=
  let p := Pg.stg i 5
  ⟨FMap.getD s.pipe.objId i 0, s.inForce p (F.STG_SIG_CTL_b16 k), k, pos, winBytes (s.inForce p F.STG_CV_CFG_WIN_SIZE),
    max 1 (s.inForce p F.STG_CV_CFG_OBJ_MAX_WIN), s.inForce p (F.STG_SIG_MAX k), 0, 0, [], false⟩

/-- An object counted, its identifier used. -/
def State.useObjId (s : State) (i : Nat) : State :=
  (s.incFld (Pg.stg i 5) F.STG_CV_OBJECTS).pipeMap (fun q => { q with
    objId := FMap.set q.objId i ((FMap.getD q.objId i 0 + 1) % 2 ^ 32) })

/-- One delivered byte at stream offset `at` where no object is open: the last 12 bytes are held against the signatures (R302). A
match opens an object, whose bytes they are; what a close among them leaves may be part of a later match. -/
def State.seekByte (s : State) (h d : Nat) (x : Strm) (at' b : Nat) : State × Strm :=
  let t := x.tail ++ [b]
  if t.length < 12 then (s, { x with tail := t })
  else
    match (List.range 64).find? (fun k => s.sigMatch x.inst k (at' - 11) (beNat t)) with
    | none => (s, { x with tail := t.drop 1 })
    | some k =>
      t.foldl (fun (a : State × Strm) c => match a.2.obj with
        | some o => a.1.objByte h d a.2 o c
        | none => (a.1, { a.2 with tail := a.2.tail ++ [c] }))
        (s.useObjId x.inst, { x with tail := [], obj := some (s.newObj x.inst k (at' - 11)) })

/-- The hint of an open object's flow stands at or below the bytes already carved. -/
def State.hintPast (s : State) (h : Nat) (o : Obj) : Bool := s.objHint h ≠ 0 && s.objHint h ≤ o.index * o.w + o.fill

/-- One delivered byte at stream offset `at` (R302, R303). An object whose hint is reached without it is closed before it (R304).
Log: entry 144 (DEDUCED). -/
def State.carveByte (s : State) (h d : Nat) (x : Strm) (at' b : Nat) : State × Strm :=
  match x.obj with
  | some o =>
    if s.hintPast h o then
      match s.closeObj h d x o Close.len with
      | (t, y) => t.seekByte h d y at' b
    else s.objByte h d x o b
  | none => s.seekByte h d x at' b

/-- What S4 delivered reaches S5 (R303, R304, R318). -/
def State.carve (s : State) (h d : Nat) (x : Strm) : Delivery → State × Strm
  | .data o bytes =>
    let r := bytes.foldl (fun (a : State × Strm × Nat) b =>
      match a.1.carveByte h d a.2.1 a.2.2 b with
      | (t, y) => (t, y, a.2.2 + 1)) (s, x, o)
    (r.1, r.2.1)
  | .gap =>
    match x.obj with
    | some o =>
      match s.closeObj h d x o Close.gap with
      | (t, y) => (t, { y with gapBefore := true, tail := [] })
    | none => (s, { x with gapBefore := true, tail := [] })
  | .finish =>
    match x.obj with
    | some o => s.closeObj h d x o Close.finish
    | none => (s, { x with tail := [] })

/-- S5's carve state of a direction (Table STG-3): object identifier, start offset, window index, signature index, then the
direction with the flags, in that order; 0 without an open object. Log: entry 23 (DESIGN CHOICE). -/
def Strm.carveState (d : Nat) (x : Strm) : Nat :=
  match x.obj with
  | some o => beNat (beBytes 4 (o.id % 2 ^ 32) ++ beBytes 4 (o.start % 2 ^ 32) ++ beBytes 2 (o.index % 2 ^ 16) ++
      [o.sig, d + 2 * bitOf x.conflict + 4 * bitOf x.gapBefore + 8 * bitOf x.mid + 16 * bitOf o.dropping])
  | none => 0

/-- The carve state in the cached record, where the direction has or had an open object (R295). -/
def State.noteCarve (s : State) (h d : Nat) (was now : Strm) : State :=
  if was.obj.isNone && now.obj.isNone then s
  else match s.cacheOf h with
    | some (w, e) =>
      s.pipeMap (fun p => { p with
        cache := FMap.set p.cache w { e with body := { e.body with carve := now.carveState d }, dirty := true } })
    | none => s

/-- The values in force of a page's registers. -/
def State.pageForce (s : State) (page : Nat) : FMap Word := s.force.filter (fun e => e.1 / 4096 = page)

/-- One delivery carved, under the settings of S5 that stood when S4 delivered it (R320). -/
def State.carveOne (h d : Nat) (a : State × Strm) (e : Delivery × Option (FMap Word)) : State × Strm :=
  match e.2 with
  | none => a.1.carve h d a.2 e.1
  | some old =>
    let keep := a.1.force.filter (fun x => x.1 / 4096 ≠ Pg.stg a.2.inst 5)
    match ({ a.1 with force := old.foldl (fun m x => FMap.set m x.1 x.2) keep } : State).carve h d a.2 e.1 with
    | (t, y) => ({ t with force := a.1.force }, y)

/-- A list of deliveries carved. -/
def State.carveAll (s : State) (h d : Nat) (ds : List (Delivery × Option (FMap Word))) : State :=
  match s.strm? h d with
  | none => s
  | some x =>
    let r := ds.foldl (State.carveOne h d) (s, x)
    (r.1.setStrm h d r.2).noteCarve h d x r.2

/-- The type of the object open in a direction, 0 for none. -/
def State.openType (s : State) (h d : Nat) : Nat :=
  match (s.strm? h d).bind (fun y => y.obj) with
  | some o => o.type
  | none => 0

/-- FILE_CARVE: S5 takes the head of its queue; the frame takes at most four windows with it (Table STG-1). -/
def execFileCarve (off : Nat) (i : Pipe) (s : State) : Result :=
  let s0 := s.at off
  match s0.queue i 5 with
  | [] => .next s0
  | id :: _ =>
    let s1 := s0.takeHead i 5
    let f := s1.frame id
    let s2 := match f.handle with
      | some h => s1.carveAll h f.inst f.deliv
      | none => s1
    let ws := FMap.getD s2.pipe.spill i.val []
    let s3 := s2.pipeMap (fun p => { p with spill := FMap.setC p.spill i.val (ws.drop 4) [] })
    let type := match f.handle with
      | some h => s3.openType h f.inst
      | none => 0
    .next ((s3.setFrame id { s3.frame id with windows := ws.take 4, deliv := [], objType := type }).handOn i 5 id)

/-- The frames between S4 and S5, in order. -/
def State.toCarve (s : State) (i : Nat) : List Nat := s.queue i 5 ++ (s.waiting i 4).map Prod.fst

/-- What S4 delivers without a frame: behind the last of some frames that is of its stream, or straight to S5 (R284). -/
def State.deliverBehind (s : State) (h d : Nat) (ids : List Nat) (ds : List (Delivery × Option (FMap Word))) : State :=
  match (ids.filter (fun id => (s.frame id).handle = some h)).getLast? with
  | some id => s.setFrame id { s.frame id with deliv := (s.frame id).deliv ++ ds }
  | none => s.carveAll h d ds

/-- What S4 delivers at a boundary: behind the last frame of its stream that is on its way to S5. -/
def State.deliverLate (s : State) (i h d : Nat) (ds : List Delivery) : State :=
  s.deliverBehind h d (s.toCarve i) (ds.map (fun e => (e, none)))

/-- A frame that does not reach S5, or goes on without its record, leaves what S4 delivered with it to the frame before it in its
stream, or to S5 (R298). Log: entry 144 (DEDUCED). -/
def State.passOn (s : State) (i id : Nat) : State :=
  let f := s.frame id
  match f.handle with
  | some h =>
    if f.deliv.isEmpty then s
    else (s.setFrame id { f with deliv := [] }).deliverBehind h f.inst ((s.toCarve i).takeWhile (· ≠ id)) f.deliv
  | none => s

/-- A boundary changes settings of S5: what S4 has delivered before it is carved under those of then (R320). -/
def State.carveBoundary (before s : State) (i : Nat) : State :=
  let old := before.pageForce (Pg.stg i 5)
  if old = s.pageForce (Pg.stg i 5) then s
  else (s.toCarve i).foldl (fun (a : State) id =>
    let f := a.frame id
    a.setFrame id { f with deliv := f.deliv.map (fun e => (e.1, some (e.2.getD old))) }) s

/-- HOLE_HOLD_EXPIRY: at a boundary, the oldest held data of a stream has waited HOLE_HOLD turns (R300, R317). -/
def execHoleHoldExpiry (handle : BitVec 32) (dir : Fin 2) (s : State) : Result :=
  let h := handle.toNat
  match s.strm? h dir with
  | none => .next s
  | some x =>
    if s.count % 65536 = 0 && s.holeDue x then
      match s.expireHoles h dir with
      | (ds, t) => .next (t.deliverLate x.inst h dir ds)
    else .next s

/-! ### The sweeper (R296, R314) -/

/-- A record's timeout has passed (R296). -/
def State.idle (s : State) (r : FlowRec) : Bool :=
  let age := (s.turn + 2 ^ 32 - r.last) % 2 ^ 32
  let tcp := (beBytes 40 r.key).getD 36 0 = 6
  let limit := if r.closed then s.inForce ftPage F.STG_FT_CLOSE_CLOSE_HOLD
    else if tcp then s.inForce ftPage F.STG_FT_TIMEOUT_IDLE_TCP
    else s.inForce ftPage F.STG_FT_TIMEOUT_IDLE_UDP
  256 * limit < age

/-- RECORD_EXPIRY: the sweeper visits a record, in a slot of this turn's buckets or, cache-only, in a way; a cached
copy counts. -/
def execRecordExpiry (off : Nat) (cached : Bool) (n : Nat) (s : State) : Result :=
  let s0 := (s.at off).reached
  if cached then
    match FMap.get? s0.pipe.cache n with
    | some e =>
      let h := handleOf n e
      if e.slot.isNone && e.body.valid && s0.idle e.body && !s0.pinned h then
        let s1 := (s0.endStreams h).pipeMap (fun p => { p with cache := FMap.erase p.cache n })
        .next ((s1.incFld ftPage F.STG_FT_EXPIRED).incFld ftPage F.STG_FT_LOSS_EVICT_LOST)
      else .next s0
    | none => .next s0
  else
    let buckets := 2 ^ (s0.ftSize - 3)
    let due := (n / 8 + buckets - s0.pipe.sweep) % buckets < s0.inForce ftPage F.STG_FT_CLOSE_SWEEP_BKT
    let copy := s0.pipe.cache.find? (fun e => e.2.slot = some n)
    let r := match copy with
      | some e => e.2.body
      | none => s0.slotRec n
    let h := n + 2 ^ 28 * r.gen
    if n < 2 ^ s0.ftSize && due && !s0.cacheOnly && r.valid && s0.idle r && !s0.pinned h then
      let s1 := (s0.endStreams h).writeSlot n { r with valid := false, gen := (r.gen + 1) % 8 }
      let s2 := s1.pipeMap (fun p => { p with cache := p.cache.filter (fun e => e.2.slot ≠ some n) })
      .next (s2.incFld ftPage F.STG_FT_EXPIRED)
    else .next s0

/-! ### S6 -/

/-- ⌊log2 v⌋ of a positive number. -/
def log2 (v : Nat) : Nat := Nat.log2 v

/-- A transform of Table STG-5 on a source value; `ba` is direction B→A. LOG2_4 of a number with one bit below its leading 1 takes
that bit as m's upper one. Log: entry 143 (DESIGN CHOICE). -/
def transform (code v : Nat) (ba : Bool) : Int :=
  match code with
  | 1 => signed 8 (v % 256)
  | 2 => if v = 0 then 0 else log2 v + 1
  | 3 =>
    let e := log2 (v + 1)
    let m := if 2 ≤ e then (v + 1) / 2 ^ (e - 2) % 4 else if e = 1 then 2 * ((v + 1) % 2) else 0
    min (4 * e + m) 127
  | 4 => signed 8 (v / 256 % 256)
  | 5 => if ba then -(min v 127 : Nat) else min v 127
  | _ => min v 127

/-- A feature source of Table STG-4 for a frame (R306, R308). -/
def State.source (s : State) (f : Frame) (code : Nat) : Nat :=
  let p := f.parse
  let r := f.snap
  let d := f.inst
  let own := f.handle.isSome
  let rec' := fun (v : Nat) => if own then v else 0
  match code with
  | 1 => f.len
  | 2 => p.payLen
  | 3 => d
  | 4 => p.proto
  | 5 => p.tcpFlags
  | 6 => p.ttl
  | 7 => p.window
  | 8 => rec' (sel d r.frames)
  | 9 => rec' (sel (1 - d) r.frames)
  | 10 => rec' (sel d r.octets)
  | 11 => rec' (sel (1 - d) r.octets)
  | 12 => rec' f.iat.1
  | 13 => rec' f.iat.2
  | 14 => rec' ((s.turn + 2 ^ 32 - r.first) % 2 ^ 32)
  | 15 => p.dport
  | 16 => p.sport
  | 17 => p.flags % 256
  | 18 => rec' f.held
  | 19 => rec' f.objType
  | 28 => p.dscp
  | 29 => match p.vlan with
    | some v => v / 8192 % 8
    | none => 0
  | n => if 20 ≤ n && n ≤ 27 then rec' (r.annot.getD (n - 20) 0) else 0

/-- The flow vector of a frame, by the feature map of its bank (R306, R307). Log: entry 30 (DESIGN CHOICE). -/
def State.features (s : State) (f : Frame) : List Int :=
  (List.range 128).map (fun e =>
    let p := Pg.stg f.inst 6
    transform (s.inForce p (F.STG_FMAP_b5 f.bank (e / 4) (e % 4)))
      (s.source f (s.inForce p (F.STG_FMAP_b0 f.bank (e / 4) (e % 4)))) (f.inst = 1))

/-- FEATURE_BUILD: S6 takes the head of its queue; the frame is offered at FT3 as it leaves. -/
def execFeatureBuild (off : Nat) (i : Pipe) (s : State) : Result :=
  let s0 := s.at off
  match s0.queue i 6 with
  | [] => .next s0
  | id :: _ =>
    let s1 := s0.takeHead i 6
    let f := s1.frame id
    let s2 := (s1.setFrame id { f with vec := s1.features f }).incFld (Pg.stg i 6) F.STG_FB_VECTORS
    .next (((s2.incFld (Pg.stg i 6) F.STG_FB_WINDOWS f.windows.length).offer 2 id).handOn i 6 id)

/-- FMAP_SEL taken at a boundary (R307). -/
def State.fmapBoundary (s : State) (i : Nat) : State :=
  let p := Pg.stg i 6
  let v := s.inForce p F.STG_FB_SEL_FMAP_SEL
  if s.fld p F.STG_FB_SEL_b1 = v then s else (s.setFld p F.STG_FB_SEL_b1 v).raiseIrq p 8

/-! ### Frames that do not go on (R285, R321) -/

/-- A finished frame has not been accepted within ACCEPT_LIMIT: it goes to the Sump, and those behind
it that fit go on (R285, R352); what S4 delivered with it goes on too (R298). -/
def execStageStall (off : Nat) (i : Pipe) (n : Fin 12) (s : State) : Result :=
  let s0 := s.at off
  let p := Pg.stg i n
  if n.val = 9 || n.val = 10 then
    match s0.itemsWaiting i n with
    | (it, t) :: rest =>
      if t + s0.acceptLimit i n ≤ s0.count then
        let s1 := ((s0.setItemsWaiting i n rest).incFld p F.STG_STALL).raiseIrq p 2
        .next ((s1.sumpItemOf i n Why.stall it).pullAll i n)
      else .next s0
    | [] => .next s0
  else
    match s0.waiting i n with
    | (id, t) :: rest =>
      if t + s0.acceptLimit i n ≤ s0.count then
        let s1 := (((if n.val = 4 then s0.passOn i id else s0).setWaiting i n rest).incFld p F.STG_STALL).raiseIrq p 2
        .next ((s1.sumpFrame i n Why.stall id).syncFloat i n)
      else .next s0
    | [] => .next s0

/-- A frame leaves whatever queue of S1 to S9 it stands in. -/
def State.unqueue (s : State) (id : Nat) : State :=
  s.pipeMap (fun p => { p with
    queues := p.queues.map (fun e => (e.1, e.2.filter (· ≠ id))),
    ready := p.ready.map (fun e => (e.1, e.2.filter (fun x => x.1 ≠ id))),
    misses := p.misses.map (fun m => { m with frames := m.frames.filter (· ≠ id) }) })

/-- A frame stands in a queue of S0 to S9, or waits on a miss. -/
def State.upTo9 (s : State) (id : Nat) : Bool :=
  s.pipe.queues.any (fun e => id ∈ e.2) || s.pipe.ready.any (fun e => e.2.any (fun x => x.1 = id)) ||
  s.pipe.misses.any (fun m => id ∈ m.frames)

/-- The gauges and queues that a frame taken out of them leaves are brought up to date, and places freed are taken (R283, R285). -/
def State.refill (s : State) : State :=
  let floats := (List.range 22).foldl (fun (a : State) k => a.syncFloat (k / 11) (k % 11)) s
  let ports := (List.range 8).foldl (fun (a : State) q => a.setOut q (a.primaries q) (a.copies q)) floats
  let pulled := (List.range 14).foldl (fun (a : State) k => a.pull (k / 7) (k % 7 + 1)) ports
  [(0, 9), (1, 9), (0, 10), (1, 10)].foldl (fun (a : State) k => a.pullAll k.1 k.2) pulled

/-- The items of a frame from S9 to S11: instance, stage, item. -/
def State.itemsOf (s : State) (id : Nat) : List (Nat × Nat × Item) :=
  let own := fun (it : Item) => decide (it.frame = id) && (match it.kind with
    | .injected _ _ => false
    | _ => true)
  s.pipe.itemWait.flatMap (fun e => ((e.2.map Prod.fst).filter own).map (fun it => (e.1 / 16, e.1 % 16, it))) ++
  s.pipe.sealQs.flatMap (fun e => (e.2.filter own).map (fun it => (e.1, 10, it))) ++
  (s.pipe.primaries ++ s.pipe.copies).flatMap (fun e => (e.2.filter own).map (fun it => (txInst e.1, 11, it)))

/-- Those items out of their queues, with the diverted primary and the copies on their way to a ring or a link. -/
def State.dropItems (s : State) (id : Nat) (its : List Item) : State :=
  s.pipeMap (fun p => { p with
    itemWait := p.itemWait.map (fun e => (e.1, e.2.filter (fun x => decide (x.1 ∉ its))))
    sealQs := p.sealQs.map (fun e => (e.1, e.2.filter (fun x => decide (x ∉ its))))
    primaries := p.primaries.map (fun e => (e.1, e.2.filter (fun x => decide (x ∉ its))))
    copies := p.copies.map (fun e => (e.1, e.2.filter (fun x => decide (x ∉ its))))
    outCopies := p.outCopies.filter (fun c => c.frame ≠ id)
    diverts := p.diverts.filter (fun c => c.frame ≠ id) })

/-- A frame with an uncorrectable error in its cells is handed to the Sump wherever it stands, its copies too (R321).
Log: entry 144 (DEDUCED). -/
def State.pullOut (s : State) (i id : Nat) : State :=
  let f := s.frame id
  let items := s.itemsOf id
  let copies := s.pipe.outCopies.filter (fun c => c.frame = id)
  let diverted := s.pipe.diverts.any (fun c => c.frame = id)
  let s1 := if s.upTo9 id then (((s.passOn i id).unqueue id).sumpFrame i f.stage Why.bufEcc id) else s
  let s2 := s1.dropItems id (items.map (fun x => x.2.2))
  let s3 := if diverted then s2.sumpFrame i 9 Why.bufEcc id else s2
  let s4 := items.foldl (fun (a : State) x => a.sumpItemOf x.1 x.2.1 Why.bufEcc x.2.2) s3
  (copies.foldl (fun (a : State) c => (a.copyFate id c.dest false).sumpItem Why.bufEcc (some id) f c.bytes) s4).refill

/-- A frame whose cached record has shown an uncorrectable error goes on without a record, from S3 as from S4 and S5 (R321). -/
def State.noRecord (s : State) (i : Nat) (frame : Option Nat) : State :=
  match frame with
  | some id =>
    if (s.queue i 3).head? = some id then (s.takeHead i 3).leaveFlow id
    else if id ∈ s.queue i 4 ++ (s.waiting i 3).map Prod.fst ++ s.toCarve i then
      let t := s.passOn i id
      t.setFrame id { t.frame id with handle := none }
    else s
  | none => s

/-- STORE_ECC_ERROR: an item of a store of instance `i` shows a corrected or an uncorrectable error (R321, R322); `frame` is the
frame whose cell it is, or a frame of S3 to S5 that has met the cached record. -/
def execStoreEccError (off : Nat) (i : Pipe) (it : StoreItem) (corrected : Bool) (frame : Option Nat) (s : State) : Result :=
  let s0 := s.at off
  match storeKey i it with
  | (k, n, _, _) =>
    let p := Pg.stg i n
    if corrected then
      let now := s0.safe.ticks
      let ts := now :: (FMap.getD s0.pipe.eccTicks k []).filter (fun t => now < t + 24000)
      let s1 := (((s0.incFld p F.STG_ECC_b0).transient p).raiseIrq p 3).pipeMap (fun x => { x with
        eccTicks := FMap.set x.eccTicks k ts })
      .next (if 4 ≤ ts.length then s1.retireItem i it else s1)
    else
      let s1 := (s0.incFld p F.STG_ECC_b16).raiseIrq p 4
      match it, frame with
      | .way w, _ => .next (((s1.dropWay w false).retireItem i it).noRecord i frame)
      | .cell _, some id =>
        let s2 := s1.retireItem i it
        match s2.frame? id with
        | some f => .next (if f.inst = i.val then s2.pullOut i id else s2)
        | none => .next s2
      | _, _ => .next (s1.retireItem i it)

end Sys2Proof.Machine
end

