-- ==== Sys2Proof/Machine/Tiers.lean ====
section
/-!
DEFINITION. Stage S7 (R329 to R333): what each frame sends to tiers 1, 2 and 3. The score port, tier 3 on the serving chip
(R665), copies from other chips (R666).
-/

set_option Elab.async false

namespace Sys2Proof.Machine

open Sys2Proof

/-- A Cistern bank is out, as S7 has sampled it (R39): tiers 1 and 2 have nothing to work from (R561). -/
def State.cisternDown (s : State) : Bool :=
  (List.range 16).any (fun b => s.unitCopy (Pg.cst b) = uFault || s.unitCopy (Pg.cst b) = uFenced)

/-- What tiers 1 and 2 work over is out: a Cistern bank, or the tile network (R447). -/
def State.tiersDown (s : State) : Bool :=
  s.cisternDown || (List.range 128).any (fun r => s.unitCopy (Pg.tnw r) = uFault)

/-- An item of a tier counted: in the required count where WAIT asks for it, and as void for S8 where it could not be
sent (R331, R332). -/
def countItem (wait : Nat) (f : Frame) (tier : Fin 4) (ok : Bool) : Frame :=
  let g := if (wait >>> tier.val) % 2 = 1 then { f with need := bump f.need tier.val } else f
  if ok then g else g.join (voidFor tier f.inst f.port f.pseq)

/-- A void item counted on the page of S7: T1_FULL, or the other void items (Table STG-24). -/
def State.countVoid (s : State) (i : Nat) (full : Bool) : State :=
  let p := Pg.stg i 7
  if full then ((s.incFld p F.STG_VOIDS_T1_FULL).raiseIrq p 8).raiseIrq p 9
  else (s.incFld p F.STG_VOIDS_b16).raiseIrq p 8

/-- The flow vector of a frame goes to tier 1 (R329). -/
def State.wantsT1 (s : State) (f : Frame) : Bool :=
  let p := Pg.stg 0 7
  let k := pairOf f.port
  let m := s.inForce p (F.STG_DISP_T1_MODE k)
  let first := max 1 (s.inForce p (F.STG_DISP_T1_FIRST k))
  m ≠ 0 && (m ≠ 2 || sel f.inst f.snap.frames ≤ first) &&
    (f.handle.isSome || s.inForce p (F.STG_DISP_T1_NOREC k) = 1)

/-- The tier 1 item of a frame (R329, R332). -/
def State.sendT1 (s : State) (wait : Nat) (f : Frame) : State × Frame :=
  if !s.wantsT1 f then (s, f)
  else
    match if s.tiersDown then none else s.t1Dispatch f with
    | some t => (t.incFld (Pg.stg f.inst 7) F.STG_T1_DISP, countItem wait f 1 true)
    | none =>
      (s.countVoid f.inst (s.fld (Pg.stg 0 7) F.STG_T1_CAP ≠ 0 && !s.tiersDown), countItem wait f 1 false)

/-- An admitted window put into the Lightwell's ring: none where it cannot be (R490). -/
def State.ringWindow (s : State) (f : Frame) (lite : Bool) (w : Window) : State × Bool :=
  if s.unitCopy lwlPage ≠ uActive then (s, false)
  else match s.toRing f.inst f.port f.pseq f.joinDeadline lite false w with
    | some t => (t.incFld (Pg.stg f.inst 7) F.STG_T2_DISP, true)
    | none => (s.incFld lwlPage F.LWL_VOIDS_RING_FULL, false)

/-- The tier 2 item of a window: priced, then dispatched or void (R330, R578). -/
def State.sendT2 (s : State) (wait : Nat) (f : Frame) (w : Window) : State × Frame :=
  let r : Option Nat × State :=
    if s.tiersDown || s.unitCopy lwlPage ≠ uActive then (none, s) else s.admitT2 (pairOf f.port) (rowCount w)
  match r with
  | (some k, t) =>
    let d := t.ringWindow f (k = 1) w
    (if d.2 then d.1 else d.1.countVoid f.inst false, countItem wait f 2 d.2)
  | (none, t) => (t.countVoid f.inst false, countItem wait f 2 false)

/-- The tier 3 item of a window: a T3_REQ, the tier 2 item its chain substitutes, or void (R330, R581, R660). -/
def State.sendT3 (s : State) (wait : Nat) (f : Frame) (alone : Bool) (dest : Nat) (w : Window) : State × Frame :=
  match s.admitT3 (pairOf f.port) (rowCount w) alone with
  | (some 3, t) =>
    let d := t.t3Send f dest w.header w.bytes
    if d.2 then (d.1.countVoid f.inst false, countItem wait f 3 false)
    else (d.1.incFld (Pg.stg f.inst 7) F.STG_T3_DISP, countItem wait f 3 true)
  | (some k, t) =>
    let d := t.ringWindow f (k = 1) w
    (if d.2 then d.1 else d.1.countVoid f.inst false, countItem wait f 2 d.2)
  | (none, t) => (t.countVoid f.inst false, countItem wait f 3 false)

/-- One window of a frame handled (R330, R579): its tier 2 item before its tier 3 item. -/
def State.sendWindow (wait : Nat) (x : State × Frame) (w : Window) : State × Frame :=
  let s := x.1
  let p := Pg.stg 0 7
  let k := pairOf x.2.port
  let m := s.inForce p (F.STG_DISP_T3_MODE k) % 3
  let dest := s.inForce p (F.STG_DISP_T3_CHIP k)
  let y := if m ≠ 1 && s.inForce p (F.STG_DISP_T2_EN k) = 1 then s.sendT2 wait x.2 w else x
  let z := if m = 0 then y else y.1.sendT3 wait y.2 (m = 1) dest w
  (z.1.freeSlots x.2.inst w.slot, z.2)

/-- A frame that goes without any tier (R257): its windows give their slots back. -/
def State.noTier (s : State) (f : Frame) : State × Frame :=
  (s.freeSlots f.inst f.slots, { f with need := [0, 0, 0, 0], windows := f.windows.map (fun w => { w with slot := 0 }) })

/-- The items of a frame sent to the tiers (R331). -/
def State.sendAll (s : State) (f : Frame) : State × Frame :=
  let wait := s.inForce (Pg.stg 0 8) (F.STG_PAIR_POL_WAIT (pairOf f.port))
  let f0 := { f with need := [bitOf (wait % 2 = 1 && f.offered), 0, 0, 0], windows := f.windows.map (fun w => { w with slot := 0 }) }
  f.windows.foldl (State.sendWindow wait) (s.sendT1 wait f0)

/-- SCORE_DISPATCH: S7 takes the head of its queue, sends its items, and hands the frame to S8 (R331, R333); in one clock P0 is
first (R35), and local items are before inbound ones (R579); no clock left for that in the turn, it waits.
Log: entry 117 (DEDUCED). -/
def execScoreDispatch (off : Nat) (i : Pipe) (s : State) : Result :=
  let a := s.at off
  let s0 := (a.afterP1 i s.pipe.sentP1).afterLast s.energy.inAt
  match s0.queue i 7 with
  | [] => .next s0
  | id :: _ =>
    if (i.val = 0 && a.noClock s.pipe.sentP1) || a.noClock s.energy.inAt then .next a
    else
    let s1 := (if i.val = 1 then s0.pipeMap (fun p => { p with sentP1 := some s0.count }) else s0).takeHead i 7
    let f := s1.frame id
    let y := if f.uncontrolled then s1.noTier f else s1.sendAll f
    let s2 := (y.1.setFrame id y.2).handOn i 7 id
    .next (if id ∈ s2.queue i 8 then s2.joinCheck id else s2)

/-! ### The score port -/

/-- A record as the payload of a T3_RSP (R662). -/
def recordBytes (r : ScoreRec) : List Nat :=
  [r.verdict.val + 8 * bitOf r.copy + 16 * bitOf r.void, r.score.toNat] ++ beBytes 2 r.tag.toNat

/-- SCORE: the score port takes a record of tier 1 or tier 2; `remote` says that a tier 2 record answers an inbound window,
whose serving number is then its PSEQ (R433, R445, R495, R665). Log: entry 53 (DESIGN CHOICE). -/
def execScorePacket (off : Nat) (batch : Word) (r : ScoreRec) (poisoned remote : Bool) (s : State) : Result :=
  let s0 := s.at off
  if r.tier ≠ 2 then .next (s0.tier1Score batch r poisoned)
  else
    let rec' : ScoreRec := if poisoned then voidRec 2 r.inst r.port r.pseq else { r with tier := 2 }
    let s1 := if poisoned then s0.incFld (Pg.tnw 1) F.TNW_SCORE_VOIDS else s0
    .next (if remote then s1.answer r.pseq.toNat T3.ok (recordBytes rec') else s1.scoreRecord rec')

/-! ### Tier 3 on the serving chip -/

/-- A window header read back from its 16 bytes, with the rows of a T3_REQ. -/
def windowOf (h rows : List Nat) : Window where
  handle := beAt h 0 4
  dir := h.getD 13 0 % 2
  obj := beAt h 4 4
  type := h.getD 12 0
  index := beAt h 8 2
  len := beAt h 10 2
  bytes := rows
  last := h.getD 13 0 / 2 % 2 = 1
  reason := h.getD 14 0
  conflict := h.getD 13 0 / 4 % 2 = 1
  gapBefore := h.getD 13 0 / 8 % 2 = 1
  midstream := h.getD 13 0 / 16 % 2 = 1
  slot := 0

/-- A tier 2 graph is loaded: some tier 2 class has a valid cost in the bank in force (R577).
Log: entry 55 (DEDUCED). -/
def State.graphLoaded (s : State) : Bool := (s.cost 0 0).isSome || (s.cost 1 0).isSome || (s.cost 2 0).isSome

/-- The inbound request to be evaluated next: the earliest, and among those of one clock that of the lowest link (R579). -/
def State.nextRequest (s : State) : Option (Nat × Option Nat × RFrame) :=
  (s.ryk.inbox.filter (fun e => e.2.2.type = 0)).foldl (fun (b : Option (Nat × Option Nat × RFrame)) e =>
    let link := fun (x : Nat × Option Nat × RFrame) => (x.2.1.map (· + 1)).getD 0
    match b with
    | none => some e
    | some x => if e.1 < x.1 || (e.1 = x.1 && link e < link x) then some e else some x) none

/-- T3_REQ: an inbound request is evaluated as T3_IN and refused, answered NO_GRAPH, or queued in the Lightwell's ring as
a remote window (R665, R679). A remote window that meets a full ring is void, as R490 has it.
Log: entry 56 (DEDUCED). -/
def execT3Req (off : Nat) (s : State) : Result :=
  let s0 := s.at off
  match s0.nextRequest with
  | none => .next s0
  | some (t, link, f) =>
    let s1 := s0.rykMap (fun r => { r with inbox := r.inbox.erase (t, link, f) })
    if s0.gwFault then .next ((s1.discard (link.getD 0) f T3.linkLost).rykPump)
    else
      let s2 := s1.incFld (Pg.ryk 0) F.RYK_T3_IN
      let rows := f.payload.drop 64
      let reply := fun (a : State) (st : Nat) (b : List Nat) => (a.send f.src 1 f.gen f.tag st b).rykPump
      match s2.admitIn (min 64 ((rows.length + 63) / 64)) with
      | none => .next (reply s2 T3.refused [])
      | some s3 =>
        if !s3.graphLoaded || s3.unitCopy lwlPage ≠ uActive then .next (reply s3 T3.noGraph [])
        else
          let n := ((List.range (s3.ryk.served.length + 1)).find? (fun k => (FMap.get? s3.ryk.served k).isNone)).getD 0
          match s3.toRing 0 0 n (t + beAt f.payload 32 4) false true (windowOf (f.payload.take 16) rows) with
          | some s4 => .next (s4.rykMap (fun r => { r with served := FMap.set r.served n (f.src, f.gen, f.tag) }))
          | none => .next (reply (s3.incFld lwlPage F.LWL_VOIDS_RING_FULL) T3.ok [16, 0, 0, 0])

/-- COPY_FRAME_RX: an inbound COPY is delivered to COPY_RING with the record it carries, or dropped (R666). `buf` is the
buffer the ring's free entry names. -/
def execCopyFrameRx (off : Nat) (buf : BitVec 64) (s : State) : Result :=
  let s0 := s.at off
  match s0.takeInbox (fun f => f.type = 2) with
  | none => .next s0
  | some ((_, _, f), s1) =>
    let ring := s1.inForce (Pg.ryk 0) F.RYK_CLU_COPY_RING_b8
    if s1.inForce (Pg.ryk 0) F.RYK_CLU_COPY_RING ≠ 0 && s1.ringAccepts ring then
      let bytes := (f.payload.drop 32).take (min (leNat (sliceOf f.payload 4 2)) (s1.ringBuf ring))
      .next ((s1.deliverRaw ring buf.toNat bytes (f.payload.take 32)).incFld (Pg.ryk 0) F.RYK_RX_COPY_b0)
    else .next (s1.incFld (Pg.ryk 0) F.RYK_RX_COPY_RX_COPY_DROP)

end Sys2Proof.Machine
end

