-- ==== Sys2Proof/Machine/Units.lean ====
section
/-!
DEFINITION. The unit state machine (R118 to R126, R136, R141, R907, R908): requests taken at a turn boundary, the steps of
their paths, self-tests, STATE_MISMATCH; the leak of the transient counts (R186).
-/

set_option Elab.async false

namespace Sys2Proof.Machine

open Sys2Proof

/-- Units that accept UNIT_REQ for ACTIVE only (R73, R239, R369, R403, R764, R766). -/
def activeOnly (page : Nat) : Bool :=
  page = Pg.wdl || page = Pg.smp || page = Pg.byp || (0x0200 ≤ page && page ≤ 0x0207) || pageClass page = 0x0005 || pageClass page = 0x0006 ||
  pageClass page = 0x0007 || pageClass page = 0x001D

/-- Work in flight that a DRAINING unit finishes. -/
def State.busy (s : State) (page : Nat) : Bool :=
  match pageClass page with
  | 0x0011 => 0 < s.fill ((page - 0x0400) / 16) (page % 16)
  | 0x0012 => !s.pipe.outCopies.isEmpty
  | 0x000D => page = Pg.lwl 0 && (!s.lwl.ring.isEmpty || s.lwl.projecting.isSome)
  | 0x0015 => (s.tile (page - 0x0600)).op.isSome
  | 0x0016 => (s.tile (page - 0x0600)).op.isSome
  | 0x001A => (List.range 8).any (fun r => !(s.ctx (page - 0x0900) r).work.isEmpty)
  | 0x001B => !(s.chan5 (page - 0x0A00)).copying.isEmpty
  | _ => false

/-- The next state on the shortest legal path from a state to a target (R120, Table REG-4): none where no path leads there
or the target is reached. -/
def nextState (st target : Nat) : Option Nat :=
  match st, target with
  | 0, 1 | 0, 2 | 0, 3 | 0, 5 => some 1
  | 1, 0 => some 0
  | 1, 2 | 1, 3 | 1, 5 => some 2
  | 2, 0 | 2, 1 => some 1
  | 2, 3 => some 3
  | 2, 5 => some 5
  | 3, 0 | 3, 1 | 3, 2 => some 4
  | 3, 5 => some 5
  | 4, 0 | 4, 1 | 4, 2 | 4, 3 => some 2
  | 4, 5 => some 5
  | 5, 2 | 5, 3 => some 2
  | _, _ => none

/-- What a unit's block does as its unit goes from one state to another. -/
def State.afterUnit (s : State) (page old : Nat) : State :=
  let now := s.unit page
  let left := old = uActive && now ≠ uActive
  match pageClass page with
  | 0x000B => s.opeUnit (page - 0x0200)
  | 0x000E => if left then s.interruptLock (page - 0x0300) .admin else s
  | 0x000D =>
    if page ≠ Pg.lwl 0 then (if Pg.lwl 1 ≤ page && page ≤ Pg.lwl 4 then s.takeMaster else s)
    else if left then s.coreLeaves
    else if old ≠ uActive && now = uActive then s.coreEnters
    else s
  | 0x0014 =>
    if page < Pg.fab 32 then s.regionMoved (page - 0x0500) old
    else if Pg.fab 45 ≤ page && page ≤ Pg.fab 60 then s.fcgMoved (page - Pg.fab 45) old
    else s
  | 0x0015 => s.tileMoved (page - 0x0600) old
  | 0x0016 => s.tileMoved (page - 0x0600) old
  | 0x0017 =>
    if left then ((List.range 128).filter (fun t => posOf t = page - 0x0700)).foldl (fun (a : State) t => a.fenceTile Reason.parent t) s
    else s
  | 0x001A => if left && now ≠ uDraining then s.pumpLeaves (page - 0x0900) else s
  | 0x001C => s.linkFollow (page - 0x0B00)
  | _ => s

/-- One transition of a unit's path, with what its block does; leaving OFF or PRIMED, the values written while it slept take
effect (R142). -/
def State.moveUnit (s : State) (page st reason : Nat) : State :=
  let old := s.unit page
  let s1 := s.setUnit page st reason true
  let s2 := if old ≤ uPrimed then s1.releaseHeld page else s1
  (s2.afterUnit page old).checkReached page

/-- A self-test of the unit begins or ends. -/
def State.setTest (s : State) (page : Nat) (t : TestRun) : State := s.setAux page { s.unitAux page with test := t }

/-- A router is in FAULT: the tiles and routers it fenced stay so until a restart, and none comes up (R447). -/
def State.netLost (s : State) (page : Nat) : Bool :=
  0x0600 ≤ page && page ≤ 0x077F && s.netFault

/-- What a unit's chapter asks before it becomes ACTIVE: a region's clocks (R377), a tile's router (R448), a network without
a router in FAULT (R447). -/
def State.mayActivate (s : State) (page : Nat) : Bool :=
  if s.netLost page then false
  else if page < Pg.fab 32 && Pg.fab 0 ≤ page then s.clocksUp page
  else if 0x0600 ≤ page && page ≤ 0x067F then s.unit (Pg.tnw (posOf (page - 0x0600))) = uActive
  else true

/-- What a FENCED unit still cancels (Table REG-4): its operations, chunks and copies under way. -/
def State.cancelling (s : State) (page : Nat) : Bool := pageClass page ∈ [0x000D, 0x0015, 0x0016, 0x001A, 0x001B] && s.busy page

/-- A region's frames are fresh (R740); other pages have none. Log: entry 92 (DEDUCED). -/
def State.framesFresh (s : State) (page : Nat) : Bool :=
  !(Pg.fab 0 ≤ page && page < Pg.fab 32) || s.bit (Pg.cfg 2) ⟨0x054, page - Pg.fab 0, 1⟩

/-- The repairs of a channel's self-test (R542): one hPPR per bank group; a row named beyond that is mapped.
Log: entry 49 (DEDUCED). -/
def State.hardRepairs (s : State) (c : Nat) : State :=
  let x := s.chan5 c
  let r := x.hard.foldl (fun (a : List Nat × List Nat) row =>
    if (s.groupOf row) ∈ a.1 then (a.1, a.2 ++ [row]) else (s.groupOf row :: a.1, a.2)) ([], [])
  r.2.foldl (fun (a : State) row => a.retireRow c row) (s.setChan5 c { x with hard := [] })

/-- Whether a unit's self-test can pass: the NRG unit's waits for a poll cycle of PWR (R600). -/
def State.testReady (s : State) (page : Nat) : Bool := page ≠ Pg.nrg || s.energy.polled

/-- What the start of a self-test from PRIMED does besides. -/
def State.testBegins (s : State) (page : Nat) : State := if page = Pg.lwl 0 then s.coreTesting else s

/-- What a passed self-test of a block does besides. -/
def State.tested (s : State) (page : Nat) : State :=
  match pageClass page with
  | 0x000D => if page = Pg.lwl 0 then s.coreTested else s
  | 0x0014 => if Pg.fab 45 ≤ page && page ≤ Pg.fab 60 then s.fcgApply (page - Pg.fab 45) else s
  | 0x0019 => if page = Pg.cst 0 then s.memMap (fun m => { m with stage := min 16 (s.inForce page F.CST_SPLIT) }) else s
  | 0x001B => s.hardRepairs (page - 0x0A00)
  | _ => s

/-- One step toward a pending request's target at a boundary (R120): from PRIMED a self-test begins, and once it has passed
READY is entered at the next boundary; from FENCED the cancellations must be complete (Table REG-4), and a region's frames
fresh (R740). The Windlass moves by its own states (Table WDL-1). Log: entry 91 (DEDUCED). -/
def State.stepUnit (s : State) (page : Nat) : State :=
  let a := s.unitAux page
  let st := s.unit page
  if (a.test ≠ .none && a.test ≠ .primedPassed) || page = Pg.wdl then s
  else match nextState st a.target with
    | none => s
    | some n =>
      if st = uOff then (if s.load.configured.contains page then s.moveUnit page n Reason.requested else s)
      else if st = uPrimed && n = uReady then
        if a.test = .primedPassed then ((s.setTest page .none).tested page).moveUnit page uReady Reason.requested
        else (s.setTest page .primed).testBegins page
      else if st = uDraining && n = uReady then s
      else if st = uFenced && (s.cancelling page || s.netLost page) then s
      else if st = uFenced && !s.framesFresh page then s.endReq page Out.refused 0x82
      else if n = uActive && s.meshPortSlow page then s.endReq page Out.refused Reason.reqRefused
      else if n = uActive && !s.mayActivate page then s
      else s.moveUnit page n Reason.requested

/-- A new request judged in the order of R908; accepted, its path begins unless the unit has moved at this boundary. It discards a
PRIMED unit's self-test that runs or has passed where its path does not use it, a reinstatement's self-test goes on.
Log: entry 151 (DESIGN CHOICE). -/
def State.takeReq (s : State) (page : Nat) (moved : Bool) : State :=
  let seq := s.inForce page F.HDR_UNIT_REQ_SEQ
  let target := s.inForce page F.HDR_UNIT_REQ_TARGET
  let st := s.unit page
  let was := (s.unitAux page).test
  let test := if was = .primed || (was = .primedPassed && nextState st target ≠ some uReady) then TestRun.none else was
  let s1 := ((s.setFld page F.HDR_UNIT_STATE_SEQ_SEEN seq).setPending page false).setAux page ⟨target, seq, 0, false, test⟩
  let accepted := (s1.ackReq page Out.accepted Reason.none).setPending page true
  if st = uFault || target = uDraining || target = uRetired || target = uFault then s1.endReq page Out.illegal Reason.reqIllegal
  else if st = uRetired then
    if s.inForce page F.HDR_UNIT_REQ_REINSTATE = 0 then s1.endReq page Out.refused Reason.reqRefused
    else ((accepted.setFld page F.HDR_UNIT_STATE_REASON Reason.selftestRun).setTest page .reinstate)
  else if activeOnly page && target ≠ uActive then s1.endReq page Out.refused Reason.reqRefused
  else if st = target then s1.endReq page Out.done Reason.none
  else if (nextState st target).isNone then s1.endReq page Out.illegal Reason.reqIllegal
  else if st = uFenced && !s.framesFresh page then s1.endReq page Out.refused 0x82
  else if moved then accepted
  else accepted.stepUnit page

/-- The retirement at the threshold in force, judged at a boundary before its requests (R136, R187, R446, R678).
Log: entry 94 (DEDUCED). -/
def State.leakJudged (s : State) (page : Nat) : State :=
  let c := pageClass page
  let n := s.fld page F.HDR_FAULT_CLASS_WINDOW_CNT
  if c = 0x000A && isRyk (page - 0x0100) && s.inForce page F.LAN_LEAK_THRESH ≤ n then s.laneRetire (page - 0x0100) Reason.threshold
  else if c = 0x0015 || c = 0x0016 then s.tileThreshold (page - 0x0600)
  else if c = 0x001C && s.inForce page F.RYK_LEAK_THRESH ≤ n then (s.retire page Reason.threshold).linkFollow (page - 0x0B00)
  else s

/-- What happens of itself at a boundary, before any request (R136): the end of DRAINING, a passed reinstatement.
Log: entry 91 (DEDUCED), entry 93 (DEDUCED). -/
def State.autoUnit (s : State) (page : Nat) : State :=
  if (s.unitAux page).test = .reinstatePassed then
    let s1 := s.setTest page .none
    if s1.unit page = uRetired then s1.moveUnit page uReady Reason.requested else s1
  else if s.unit page = uDraining && !s.busy page then s.moveUnit page uReady Reason.drained
  else s

/-- A pending request of a unit that has retired or failed meanwhile ends (R121, R122). -/
def State.deadReq (s : State) (page : Nat) : State :=
  if !s.bit page F.HDR_UNIT_STATE_PENDING then s
  else if s.unit page = uFault then (s.setTest page .none).endReq page Out.illegal Reason.reqIllegal
  else if s.unit page = uRetired && (s.unitAux page).test ≠ .reinstate then
    (s.setTest page .none).endReq page Out.refused Reason.reqRefused
  else s

/-- A unit's part of a turn boundary. Log: entry 91 (DEDUCED). -/
def State.unitBoundary (s : State) (page : Nat) : State :=
  let s1 := (s.leakJudged page).autoUnit page
  let moved := s1.unit page ≠ s.unit page
  let seq := s1.inForce page F.HDR_UNIT_REQ_SEQ
  if seq ≠ 0 && seq ≠ s1.fld page F.HDR_UNIT_STATE_SEQ_SEEN then s1.takeReq page moved
  else
    let s2 := s1.deadReq page
    if s2.bit page F.HDR_UNIT_STATE_PENDING then
      let a := s2.unitAux page
      let s3 := if a.test = .none || a.test = .primedPassed then s2.setAux page { a with waited := a.waited + 1 } else s2
      if moved then s3 else s3.stepUnit page
    else s2

/-- The pages whose unit can have anything to do at a boundary: those whose UNIT_STATE or UNIT_REQ is listed, as it stands or
as it is in force. -/
def State.unitPages (s : State) : List Nat :=
  (((FMap.keys s.regs ++ FMap.keys s.force).filter (fun k => k % 4096 = 0x00C || k % 4096 = 0x010)).map (· / 4096)).eraseDups.filter
    (fun p => hasUnit p && !s.absent p)

/-! ### Self-tests -/

/-- The known-answer tests of the GCM engines are part of the self-tests of S1 and S10 (Table SEC-7). -/
def State.gcmTest (s : State) (page : Nat) (pass : Bool) : State :=
  if pageClass page = 0x0011 && (page % 16 = 1 || page % 16 = 10) then s.testBit 8 pass else s

/-- A PRIMED unit whose self-test has failed (Table REG-4): RETIRED where it can retire, otherwise in FAULT, which for a unit of
Table FLT-4 is a trigger (R49). -/
def State.testFailed (s : State) (page : Nat) : State :=
  (if canRetire page then s.setUnit page uRetired Reason.selftestFail
    else s.failUnit page Reason.selftestFail).afterUnit page uPrimed

/-- A region's self-test reads all its frames, each of which was written with its CRC (R401, R737); other units have none.
Log: entry 146 (DEDUCED). -/
def State.framesLoaded (s : State) (page : Nat) : Bool :=
  !(Pg.fab 0 ≤ page && page < Pg.fab 32) || (s.load.frames.filter (fun e => farRegion e.1 = page - Pg.fab 0)).length = 3584

/-- UNIT_SELFTEST_DONE: the self-test of a PRIMED unit ends (Table REG-4, R124). Passed, the unit enters READY at the next
boundary (R120). Log: entry 11 (DESIGN CHOICE), entry 91 (DEDUCED). -/
def execUnitSelftestDone (off : Nat) (page : BitVec 14) (pass : Bool) (s : State) : Result :=
  let s0 := s.at off
  let p := page.toNat
  if (s0.unitAux p).test ≠ .primed || s0.unit p ≠ uPrimed || !s0.testReady p then .next s0
  else
    let s1 := s0.gcmTest p pass
    .next (if pass && s0.framesLoaded p then s1.setTest p .primedPassed else (s1.setTest p .none).testFailed p)

/-- A Ryuklin lane whose optical channel is RETIRED fails its reinstatement (R216). -/
def State.channelGone (s : State) (page : Nat) : Bool :=
  Pg.lan 32 ≤ page && page < Pg.lan 96 && !s.absent (Pg.ope (8 + (page - Pg.lan 32) / 8)) &&
  s.chState (8 + (page - Pg.lan 32) / 8) ((page - Pg.lan 32) % 8) = C.retired

/-- REINSTATE_SELFTEST_DONE: passed, the unit enters READY at the next boundary; failed, it stays RETIRED and the request
ends REFUSED (R123). -/
def execReinstateSelftestDone (off : Nat) (page : BitVec 14) (pass : Bool) (s : State) : Result :=
  let s0 := s.at off
  let p := page.toNat
  if (s0.unitAux p).test ≠ .reinstate || s0.unit p ≠ uRetired then .next s0
  else if pass && !s0.channelGone p then .next (s0.setTest p .reinstatePassed)
  else
    let s1 := (s0.setTest p .none).setFld p F.HDR_UNIT_STATE_REASON Reason.reinstateFail
    .next (if s1.bit p F.HDR_UNIT_STATE_PENDING then s1.endReq p Out.refused Reason.reqRefused else s1)

/-! ### STATE_MISMATCH (R126) -/

/-- STATE_MISMATCH: a request has missed its target at four counted boundaries; once per request. -/
def execStateMismatch (off : Nat) (page : BitVec 14) (s : State) : Result :=
  let s0 := s.at off
  let p := page.toNat
  let a := s0.unitAux p
  if s0.bit p F.HDR_UNIT_STATE_PENDING && 4 ≤ a.waited && !a.mismatch then
    let s1 := (s0.setAux p { a with mismatch := true }).setFld p F.HDR_UNIT_REQ_ACK_REASON Reason.stateMismatch
    .next (((s1.setFault p 2).incFld Pg.flt F.FLT_MISMATCHES_STATE_MISMATCH).raiseIrq Pg.flt 1)
  else .next s0

/-! ### The leak (R186) -/

/-- LEAK_PERIOD of a page's leaky window, none where it has none (Table FLT-1); 0 is treated as 1. The DDR channels' is
CE_WINDOW. Log: entry 136 (DEDUCED). -/
def State.leakPeriod (s : State) (page : Nat) : Option Nat :=
  match pageClass page with
  | 0x000A => some (max 1 (s.inForce page F.LAN_LEAK_LEAK_PERIOD))
  | 0x000B => some (max 1 (s.inForce page F.OPE_LEAK_LEAK_PERIOD))
  | 0x000D => if Pg.lwl 17 ≤ page && page ≤ Pg.lwl 24 then some (max 1 (s.inForce page F.LWL_COL_LEAK_LEAK_PERIOD)) else none
  | 0x0015 => some (max 1 (s.inForce page F.MTL_LEAK_LEAK_PERIOD))
  | 0x0016 => some (max 1 (s.inForce page F.MTL_LEAK_LEAK_PERIOD))
  | 0x001B => some (max 1 (s.inForce (Pg.dmc 0) F.DMC_ROW_CE_WINDOW))
  | 0x001C => some (max 1 (s.inForce page F.RYK_LEAK_LEAK_PERIOD))
  | _ => none

/-- LEAK_DECREMENT: at a boundary whose turn number is a multiple of LEAK_PERIOD a page's WINDOW_CNT, or a channel's on an
optical engine, falls by 1, not below 0, once; the counts of a DDR channel's row units fall with it.
Log: entry 94 (DEDUCED), entry 136 (DEDUCED). -/
def execLeakDecrement (page : BitVec 14) (ch : Option Channel) (s : State) : Result :=
  let p := page.toNat
  match s.leakPeriod p with
  | none => .next s
  | some n =>
    let key := 16 * p + (match ch with
      | some c => c.val + 1
      | none => 0)
    if s.wdl.stopped || s.count % 65536 ≠ 0 || s.turn % n ≠ 0 || s.leaked key then .next s
    else
      let s1 := s.noteLeak key
      match ch with
      | some c => .next (if pageClass p = 0x000B then s1.decFld p (F.OPE_CH_LEAK c.val) else s1)
      | none =>
        if pageClass p = 0x000B then .next s1
        else
          let s2 := if pageClass p = 0x001B then s1.rowsLeak (p - Pg.dmc 0) else s1
          let had := s2.fld p F.HDR_FAULT_CLASS_WINDOW_CNT
          .next (if had = 0 then s2 else s2.decFld p F.HDR_FAULT_CLASS_WINDOW_CNT)

end Sys2Proof.Machine
end

