-- ==== Sys2Proof/Machine/Turn.lean ====
section
/-!
DEFINITION. TURN_BOUNDARY (R85): the count reaches the next multiple of 65,536, the writes of the turn take effect, and every
block performs what falls on a turn boundary.
-/

set_option Elab.async false

namespace Sys2Proof.Machine

open Sys2Proof

/-- The count at the next boundary; it wraps at 2^64 (R63). Log: entry 8 (DESIGN CHOICE). -/
def State.nextBoundary (s : State) : Nat := (s.turn + 1) * 65536 % 2 ^ 64

/-- The clock count at the next boundary; the safe state's turn timer moves on with it. -/
def State.nextTick (s : State) : State := { s with count := s.nextBoundary, safe := { s.safe with ticks := s.safe.ticks + 1 } }

/-- The count crosses the boundary, and the writes before the cut-off come into force (R12, R63, R81).
Log: entry 7 (DESIGN CHOICE). -/
def State.crossBoundary (s : State) : State :=
  let s1 := s.nextTick.commit
  (if s.nextBoundary = 0 then s1.setFld Pg.wdl F.WDL_STATUS_WRAPPED 1 else s1).updateWindow

/-- The states the units have taken at a boundary are those in force until the next (R39).
Log: entry 97 (DEDUCED). -/
def State.forceUnits (s : State) : State :=
  ((FMap.keys s.regs).filter (fun k => k % 4096 = 0x00C)).foldl (fun (a : State) k =>
    { a with force := FMap.setC a.force k (a.reg k) (regReset k) }) s

/-- The unit state machines at a boundary, but for those of the Ryuklin links; the Sump's unit starts of itself (R369), and
its REASON stays as it was. Log: entry 116 (DESIGN CHOICE). -/
def State.unitsBoundary (s : State) : State :=
  let s1 := if s.unit Pg.smp = uOff then (s.setFld Pg.smp F.HDR_UNIT_STATE_STATE uActive).releaseHeld Pg.smp else s
  (s1.unitPages.filter (fun p => pageClass p ≠ 0x001C)).foldl State.unitBoundary s1

/-- Units whose pages answer and that go on while the main domain is in reset take their requests too (R120, R143). -/
def State.islandUnits (s : State) : State :=
  ((s.unitPages.filter (fun p => islandPage p || p = Pg.wdl)).foldl State.unitBoundary s).forceUnits

/-- The units of the Ryuklin links at a boundary, once the links have followed their lanes: a link that retires of itself there
refuses (R136). -/
def State.rykUnitsBoundary (s : State) : State :=
  (s.unitPages.filter (fun p => pageClass p = 0x001C)).foldl State.unitBoundary s

/-- Serial lanes, optical engines and Ryuklin links at a boundary; `before` has the settings of the ended turn. -/
def State.linksBoundary (before s : State) : State :=
  let s1 := s.listedLanes.foldl State.laneBoundary s
  let s2 := ((List.range 16).filter (fun e => !s1.absent (Pg.ope e))).foldl
    (fun (a : State) e => a.opeBoundary e (before.inForce (Pg.ope e) F.OPE_CFG_ELEC)) s1
  (((List.range 64).foldl State.linkFollow s2).rykUnitsBoundary).rykPump

/-- What the bypass island mirrors from the line ports, and the policies in force (R221, R231). -/
def State.bypassBoundary (s : State) : State :=
  let s1 := [0, 1, 2, 3].foldl (fun (a : State) p => a.setFld Pg.byp ⟨0x044, p, 1⟩ (bitOf (a.tapMode p))) s
  ((List.range 8).foldl (fun (a : State) q => a.setFld Pg.byp ⟨0x064, q, 1⟩ (a.inForce (Pg.lnp q) F.LNP_CFG)) s1).syncPolicies

/-- What a frame stamped in the ended turn still latches (R46). -/
def State.keepLatched (before s : State) : State :=
  s.pipeMap (fun p => { p with ended := [0, 1, 2, 3].map (fun k => (k, before.latched k)) })

/-- Line ports, SecYs and pairs at a boundary. `due` are the registers whose writes it commits. -/
def State.portsBoundary (before : State) (due : List Nat) (s : State) : State :=
  let s0 := State.keepLatched before s
  let s1 := (List.range 8).foldl (fun (a : State) q => a.lfpBoundary q (before.lfp q)) s0
  let s2 := (List.range 8).foldl (fun (a : State) q => a.mscBoundary due q) s1.bypassBoundary
  [0, 1, 2, 3].foldl (State.pairBoundary before) s2

/-- A tap's declaration in force (R382). -/
def State.declBoundary (s : State) : State :=
  [0, 1, 2, 3].foldl (fun (a : State) k =>
    let p := tapPage k
    let all := (maskRegions (a.fld p F.FAB_TAP_DECL_RGN)).all (fun r => a.unit (Pg.fab r) = uActive)
    a.setFld p F.FAB_TAP_DECL_b3 (bitOf (all && a.fld p F.FAB_TAP_DECL_SCORE ≠ 0))) s

/-- Pages of a range with anything listed. -/
def State.listedIn (s : State) (first last : Nat) : List Nat :=
  (((FMap.keys s.regs).map (· / 4096)).filter (fun p => first ≤ p && p ≤ last)).eraseDups

/-- Tiles and routers at a boundary: weight banks (R412), slot tables (R423). -/
def State.netBoundary (s : State) : State :=
  let s1 := (s.listedIn 0x0600 0x067F).foldl (fun (a : State) p => a.tileBoundary (p - 0x0600)) s
  (s1.listedIn 0x0700 0x077F).foldl (fun (a : State) p => a.setFld p F.TNW_GTS_SEL_b1 (a.inForce p F.TNW_GTS_SEL_b0)) s1

/-- The waits of the configuration controller count a boundary (R735, R743). -/
def State.loadBoundary (s : State) : State :=
  s.loadMap (fun l => { l with
    wait := l.wait.map (fun n => n - 1)
    poll := l.poll.map (fun (p, t, n) => (p, t, n - 1))
    holdFor := l.holdFor - 1 })

/-! ### Tiers (Table STU-2) -/

/-- The conditions of tier 1. -/
def State.tier1Up (s : State) : Bool :=
  match s.placement with
  | some k => s.fld (Pg.stg 0 7) F.STG_T1_CAP ≠ 0 &&
      ((List.range 128).filter (fun t => s.placed k t)).all (fun t =>
        (List.range 4).any (fun j => s.bit (Pg.tile t) (F.MTL_PROG_CTL_VALID j) && s.trigMode t j = 1))
  | none => false

/-- The conditions of tier 2. Log: entry 96 (DEDUCED). -/
def State.tier2Up (s : State) : Bool :=
  s.unit Pg.nrg = uActive && s.graphLoaded &&
  (s.lwState = LS.running || (s.lwState = LS.bypassed && s.inForce lwlPage F.LWL_CTL_FALLBACK_OK ≠ 0)) &&
  !s.consumers.isEmpty && s.lwl.epoch.isSome &&
  s.consumers.all (fun t => s.unit (Pg.tile t) = uActive && !decide (t ∈ s.lwl.stale))

/-- The conditions of tier 3. Log: entry 96 (DEDUCED). -/
def State.tier3Up (s : State) : Bool :=
  s.unit Pg.nrg = uActive && (s.cost 3 0).isSome && s.bit (Pg.ryk 0) F.RYK_CHIP_VALID &&
  [0, 1, 2, 3].any (fun p => match s.route (s.inForce (Pg.stg 0 7) (F.STG_DISP_T3_CHIP p)) with
    | some n => s.kstate n = K.up
    | none => false)

/-- Milestones judged at a boundary (R855, Table STU-3). -/
def State.tiersBoundary (s : State) : State :=
  let s1 := if s.ddrUp then s.milestone 11 else s
  let s2 := if s1.tier1Up then s1.milestone 13 else s1
  let s3 := if s2.tier2Up then s2.milestone 14 else s2
  if s3.tier3Up then s3.milestone 15 else s3

/-! ### The boundary -/

/-- The main domain's blocks at a boundary, once the Windlass has taken its anchor; what a waking unit had waiting comes into force
with the writes of the turn (R142). Log: entry 97 (DEDUCED). -/
def State.blocksBoundary (before : State) (due : List Nat) (s : State) : State :=
  let s0 := s.regionsBoundary.unitsBoundary
  let woken := (FMap.keys s.held).filter (fun k => (FMap.get? s0.held k).isNone)
  let s1 := State.linksBoundary before s0
  let s2 := ((State.portsBoundary before (due ++ woken) (State.carveBoundary before (State.carveBoundary before s1 0) 1))).flowBoundary
  let s3 := ((s2.fmapBoundary 0).fmapBoundary 1).thermBoundary
  let s4 := (s3.lwlBoundary.ledgerBoundary).declBoundary
  let s5 := ((s4.netBoundary.batchBoundary).liveBoundary).pumpBoundary
  (((s5.loadBoundary).collTick).watchPeers).tiersBoundary

/-- The turn tick that the fabric gives to customer logic in the domain of each ACTIVE FCG, with the count that a domain with a
follower shows (R376). -/
def State.turnTicks (s : State) : State :=
  ((List.range 16).filter (fun k => s.unit (Pg.fab (45 + k)) = uActive)).foldl (fun (a : State) k =>
    a.emit (.turnTick k (if a.hasFollower (219 + k) then some (a.followerCount (219 + k)) else none))) s

/-- A turn boundary of a running count: the loss indicators and the FEC changes, the anchor, the blocks, the snapshots, the
marks (R85, R128, R842). While the main domain is in reset the Windlass and the island's policies
go on, with the snapshots (R94, R225). -/
def State.turnBoundary (s : State) (m : TurnMeasure) : State :=
  let s1 := s.crossBoundary
  if s.pins.mainReset then (((s1.windlassBoundary m).islandUnits.syncPolicies).snapshotArmed F.HDR_SNAP_CTL_ON_TURN).fireMarks
  else
    let s2 := (List.range 8).foldl (fun (a : State) q => a.fecBoundary q (s.inForce (Pg.lnp q) F.LNP_CFG)) s1
    let s3 := State.blocksBoundary s s.written ((s2.windlassBoundary m).refBoundary m.ref)
    (((s3.forceUnits).snapshotArmed F.HDR_SNAP_CTL_ON_TURN).fireMarks).turnTicks

/-- TURN_BOUNDARY: the count crosses the next turn boundary. A count that stands still crosses none (R62): it is then a nominal turn
of the housekeeping oscillator, which the configuration controller counts (R735). Log: entry 1 (DESIGN CHOICE),
entry 137 (DESIGN CHOICE). -/
def execTurnBoundary (m : TurnMeasure) (s : State) : Result :=
  .next (if !s.wdl.stopped then s.turnBoundary m else if s.pins.mainReset then s else s.loadBoundary)

end Sys2Proof.Machine
end

