-- ==== Sys2Proof/Machine/Update.lean ====
section
/-!
DEFINITION. The hitless update of the firmware (R708 to R716, R718 to R720).
-/

set_option Elab.async false

namespace Sys2Proof.Machine

open Sys2Proof

/-- The values of UPD_STATUS, and its reasons. -/
def UP.idle : Nat := 0
def UP.staging : Nat := 1
def UP.staged : Nat := 2
def UP.committed : Nat := 3
def UP.adopted : Nat := 4
def UP.rolledBack : Nat := 5
def UP.refused : Nat := 6

/-- UPD_STATUS. -/
def State.upd (s : State) : Nat := s.fld (Pg.cpc 11) F.CPC_UPD_STATUS_b0

/-- UPD_STATUS set with a reason. -/
def State.setUpd (s : State) (v reason : Nat) : State :=
  (s.setFld (Pg.cpc 11) F.CPC_UPD_STATUS_b0 v).setFld (Pg.cpc 11) F.CPC_UPD_STATUS_b8 reason

/-- The staged image discarded: the update ends with a status. -/
def State.updEnd (s : State) (v reason : Nat) : State :=
  ((s.cpcMap (fun c => { c with update := none })).setUpd v reason).tellHost (Pg.cpc 11) 0

/-- The low 32 bits of the turn number. -/
def State.turn32 (s : State) : Nat := s.turn % 2 ^ 32

/-- Turns from the present one to a turn given by its low 32 bits, as a signed difference. -/
def State.turnsTo (s : State) (b : Nat) : Int := signed 32 ((b + 2 ^ 32 - s.turn32) % 2 ^ 32)

/-- UPDATE_STAGE (R708). -/
def execUpdateStage (off : Nat) (s : State) : Result :=
  .next ((s.at off).serve 0x10 (some 1) true [FW.running, FW.held] [(8, 8), (16, 4), (20, 1)] (fun r t =>
    let len := reqAt r 16 4
    if len = 0 || 2 ^ 20 < len || 2 ≤ reqAt r 20 1 then (t, MB.badArg, [])
    else if 1 ≤ t.upd && t.upd ≤ 3 then (t, MB.busy, [])
    else
      let u : Update := ⟨reqAt r 8 8, len, reqAt r 20 1 = 1, [], ⟨0, 0, 0, 0, 0⟩, 0, 0, 0⟩
      ((t.cpcMap (fun c => { c with update := some u })).setUpd UP.staging 0, MB.accepted, [])))

/-- May an image take over (R709)? It adopts every mandatory block, and keeps the agreed interface major unless FORCE_MAJOR
was set. Log: entry 78 (DEDUCED). -/
def State.compatible (s : State) (u : Update) (i : FwImage) : Bool :=
  i.adopts.toNat % 8 = 7 && (u.force || s.cpc.neg.all (fun n => n.major = i.major.toNat))

/-- UPDATE_STAGED: the authentication ends; `found` is the image it gives, as bytes and as what it is (R708, R709). -/
def execUpdateStaged (off : Nat) (found : Option (List (BitVec 8) × FwImage)) (s : State) : Result :=
  let s0 := s.at off
  match s0.cpc.update with
  | some u =>
    if s0.upd ≠ UP.staging || !s0.dutiesRun then .next s0
    else match found with
      | none => .next (s0.updEnd UP.refused 1)
      | some (b, i) =>
        if !s0.compatible u i then .next (s0.updEnd UP.refused 2)
        else
          let s1 := s0.cpcMap (fun c => { c with update := some { u with image := b.map BitVec.toNat, info := i } })
          .next (((s1.setFld (Pg.cpc 11) F.CPC_UPD_NEW_VER i.version.toNat).setUpd UP.staged 0).tellHost (Pg.cpc 11) 0)
  | none => .next s0

/-- UPDATE_COMMIT (R710): the target lies at least 2 boundaries ahead; 0 names the earliest such turn.
Log: entry 78 (DEDUCED). -/
def execUpdateCommit (off : Nat) (s : State) : Result :=
  .next ((s.at off).serve 0x11 (some 1) true [FW.running, FW.held] [(8, 4)] (fun r t =>
    let x := reqAt r 8 4
    let b := if x = 0 then (t.turn + 2) % 2 ^ 32 else x
    if t.upd = UP.committed then (t, MB.busy, [])
    else if t.upd ≠ UP.staged || t.turnsTo b < 2 then (t, MB.badArg, [])
    else ((t.setFld (Pg.cpc 11) F.CPC_UPD_TURN b).setUpd UP.committed 0, MB.ok, leBytes 4 b)))

/-- The target turn B. -/
def State.updTurn (s : State) : Nat := s.fld (Pg.cpc 11) F.CPC_UPD_TURN

/-- UPDATE_ABORT (R716). -/
def execUpdateAbort (off : Nat) (s : State) : Result :=
  .next ((s.at off).serve 0x12 (some 1) true [FW.running, FW.held] [] (fun _ t =>
    if t.upd = UP.committed && t.turnsTo t.updTurn ≤ 1 then (t, MB.busy, [])
    else
      let t1 := if 1 ≤ t.upd && t.upd ≤ 3 then t.updEnd UP.refused 4 else t
      (t1, MB.ok, [t1.upd])))

/-- UPDATE_HANDOFF (R710): at B the running image stops its duties, and the other region takes control.
Log: entry 78 (DEDUCED). -/
def execUpdateHandoff (off : Nat) (s : State) : Result :=
  let s0 := s.at off
  match s0.cpc.update with
  | some u =>
    if s0.upd ≠ UP.committed || 0 < s0.turnsTo s0.updTurn || !(s0.fwState = FW.running || s0.fwState = FW.held) then .next s0
    else
      let other := 1 - s0.runRegion
      let u1 := { u with back := s0.fwState, backReason := s0.fld (Pg.cpc 0) F.CPC_FW_STATE_b8, pausedAt := s0.count }
      let s1 := s0.cpcMap (fun c => { c with
        update := some u1, img := FMap.set c.img other u.image, info := FMap.set c.info other u.info })
      .next ((s1.showImage other).setFw FW.updating 0)
  | none => .next s0

/-- What an image does not adopt is dropped (R713). Log: entry 78 (DEDUCED). -/
def State.dropBlocks (s : State) (adopts : Nat) : State :=
  let keep := fun b => adopts / 2 ^ (b - 1) % 2 = 1
  let s1 := if keep 4 then s else s.dutiesNow
  let s2 := if keep 5 then s1 else s1.cpcMap (fun c => { c with recon := some s.energy.closed })
  let s3 := if keep 6 then s2 else s2.endColls CE.replanned
  let s4 := if keep 8 then s3 else s3.cpcMap (fun c => { c with log := [], logBase := 0 })
  if keep 7 || !s4.mbBusy then s4 else s4.mbAnswer MB.busy []

/-- FEAT_AGREED recomputed from the kept bitmaps (R692, R714). -/
def State.reagree (s : State) : State :=
  match s.cpc.neg with
  | some n =>
    let v := n.supported &&& s.fwBitmap
    if v = s.agreed then s else (s.setAgreed v).tellHost (Pg.cpc 0) 2
  | none => s

/-- UPD_PAUSE and the firmware's state after a pause. -/
def State.resumeFw (s : State) (u : Update) : State :=
  (s.setFld (Pg.cpc 11) F.CPC_UPD_PAUSE (min (s.count - u.pausedAt) (2 ^ 32 - 1))).setFw u.back u.backReason

/-- UPDATE_ADOPTED (R711, R713, R714): before B + 2 the new image adopts the blocks and duties go on. -/
def execUpdateAdopted (off : Nat) (s : State) : Result :=
  let s0 := s.at off
  match s0.cpc.update with
  | some u =>
    if s0.fwState ≠ FW.updating || s0.turnsTo s0.updTurn ≤ -2 then .next s0
    else
      let s1 := ((s0.resumeFw u).updEnd UP.adopted 0).dropBlocks u.info.adopts.toNat
      let s2 := s1.reagree
      .next ((if u.force then s2.setFw FW.held 4 else s2).mbUnknown)
  | none => .next s0

/-- UPDATE_ROLLBACK (R715): nothing adopted by B + 2 turns, so the previous region is restarted and re-adopts its blocks; the
dump it writes may fail. -/
def execUpdateRollback (off : Nat) (complete : Bool) (s : State) : Result :=
  let s0 := s.at off
  match s0.cpc.update with
  | some u =>
    if s0.fwState ≠ FW.updating || -2 < s0.turnsTo s0.updTurn then .next s0
    else
      let s1 := (s0.writeDump DC.updateFail 0xFF complete).showImage (1 - s0.runRegion)
      .next (((s1.resumeFw u).updEnd UP.rolledBack 0).mbUnknown)
  | none => .next s0

end Sys2Proof.Machine
end

