-- ==== Sys2Proof/Machine/RegAccess.lean ====
section
/-!
DEFINITION. Accesses to the register space as a whole (R99 to R117, R127 to R133, R143, R906): how an access is split, what
a read of each special register returns and latches, what a write of each does besides being stored.
-/

set_option Elab.async false

namespace Sys2Proof.Machine

open Sys2Proof

/-! ### Splitting an access (R107 to R110) -/

/-- SIZE of ACCESS_FAULT for an access of `n` bytes. -/
def sizeCode (n : Nat) : Nat := if n ≤ 1 then 0 else if n = 2 then 1 else if n ≤ 4 then 2 else 3

/-- The byte enables an access gives the register at `base`: `en i` says whether byte `i` of the access is enabled. -/
def partBe (addr n base : Nat) (en : Nat → Bool) : Nat :=
  ((List.range 4).map (fun b => if addr ≤ base + b && base + b < addr + n && en (base + b - addr) then 2 ^ b else 0)).foldl
    (· + ·) 0

/-- The parts of an access: one per register with an enabled byte, ascending, as its address and byte enables (R109).
Log: entry 98 (DEDUCED). -/
def partsOf (addr n : Nat) (en : Nat → Bool) : List (Nat × Nat) :=
  (((List.range ((addr % 4 + n + 3) / 4)).map (fun i => (addr / 4 * 4 + 4 * i, partBe addr n (addr / 4 * 4 + 4 * i) en))).filter
    (fun e => e.2 ≠ 0))

/-- The data of a write as the register at `base` sees them. -/
def partData (addr base : Nat) (data : List (Option (BitVec 8))) : Word :=
  BitVec.ofNat 32 (((List.range 4).map (fun b =>
    if addr ≤ base + b then ((data.getD (base + b - addr) none).getD 0).toNat * 256 ^ b else 0)).foldl (· + ·) 0)

/-- The enabled byte lanes of a value (R107). -/
def lanesOf (be : Nat) (v : Word) : Word :=
  (List.range 4).foldl (fun (a : Word) b => if (be >>> b) % 2 = 1 then a.withField (8 * b) 8 (v.field (8 * b) 8) else a) 0

/-- UNASSIGNED_PAGE_ACCESS: an aligned access to an unassigned slot reads 0 or drops the write (R103). -/
def execUnassignedPageAccess (off : Nat) (addr : BitVec 26) (write : Bool) (s : State) : Result :=
  let s0 := s.at off
  if s0.dropCause (addr.toNat / 4096) = some 1 then
    let s1 := s0.unmapped addr.toNat 1 write
    .next (if write then s1 else { s1 with rdata := [0] })
  else .next s0

/-- RESTARTING_PAGE_ACCESS: an aligned access to a page that does not answer during a restart (R143). -/
def execRestartingPageAccess (off : Nat) (addr : BitVec 26) (write : Bool) (s : State) : Result :=
  let s0 := s.at off
  if s0.dropCause (addr.toNat / 4096) = some 2 then
    let s1 := s0.unmapped addr.toNat 2 write
    .next (if write then s1 else { s1 with rdata := [0xFFFFFFFF] })
  else .next s0

/-! ### Locks and snapshots -/

/-- LOCK set on a page (R132). -/
def State.lockPage (s : State) (page : Nat) : State := s.setFld page F.HDR_PAGE_LOCK 1

/-- Every assigned page of PF0, in ascending order. -/
def pf0Pages : List Nat := pageMap.flatMap (fun r => (List.range (r.2.1 - r.1 + 1)).map (fun i => r.1 + i))

/-- LOCK set on every assigned page of PF0 at one instant (R132). -/
def State.lockAll (s : State) : State := (pf0Pages.foldl State.lockPage s).setFld Pg.gbl F.GBL_CTL_LOCK_ALL 0

/-- The local pages of PF1 and of every tenant. -/
def localPages : List Nat := (List.range 61).flatMap (fun f => (List.range 16).map (localPage (f + 1)))

/-- A snapshot on every page with PAGE_CAP.SNAP, of PF0 and local, all at one count (R128). -/
def State.snapAll (s : State) : State :=
  let ps := (pf0Pages ++ localPages).filter hasSnap
  (ps.foldl State.snapshot (s.afterRead ps)).setFld Pg.gbl F.GBL_CTL_SNAP_ALL 0

/-- SNAP_CTL.TRIGGER: a snapshot of the page (R128). -/
def State.snapTrigger (s : State) (page : Nat) : State :=
  ((s.afterRead [page]).snapshot page).setFld page F.HDR_SNAP_CTL_TRIGGER 0

/-- SNAPSHOT_TRIGGER: SNAP_CTL written with TRIGGER at 1 (R128). -/
def execSnapshotTrigger (off : Nat) (page : BitVec 14) (ctl : Word) (s : State) : Result :=
  let s0 := s.at off
  match s0.dropCause page.toNat with
  | some c => .next (s0.unmapped (page.toNat * 4096 + 0x030) c true)
  | none =>
    let s1 := s0.write page.toNat 0x030 (ctl.withField 0 1 1)
    .next (if s1.bit page.toNat F.HDR_SNAP_CTL_TRIGGER then s1.snapTrigger page.toNat else s1)

/-- SNAP_ALL: GBL_CTL.SNAP_ALL written (R128). -/
def execSnapAll (off : Nat) (s : State) : Result := .next (s.at off).snapAll

/-- PAGE_LOCK_SET: PAGE_LOCK.LOCK of a PF0 page written with 1 (R132). -/
def execPageLockSet (off : Nat) (page : BitVec 14) (s : State) : Result :=
  let s0 := s.at off
  match s0.dropCause page.toNat with
  | some c => .next (s0.unmapped (page.toNat * 4096 + 0x03C) c true)
  | none => .next (s0.lockPage page.toNat)

/-- LOCK_ALL: GBL_CTL.LOCK_ALL written (R132). -/
def execLockAll (off : Nat) (s : State) : Result := .next (s.at off).lockAll

/-! ### What a read shows -/

/-- A page of the fabric's user register window, beyond the header (R384). Log: entry 99 (DEDUCED). -/
def userWindow (page off : Nat) : Bool := (page = 0x053E || page = 0x053F) && 0x040 ≤ off

/-- Byte offset of a user register within the window. -/
def userOffset (page off : Nat) : Nat := (page - 0x053E) * 4032 + off - 0x040

/-- Seconds left to answer an outstanding challenge of PF0 or JTAG (R786): at most 30, by the module's own reference (R15).
Log: entry 59 (DESIGN CHOICE). -/
def State.nonceLeft (s : State) : Nat := s.free % 31

/-- Registers of the local pages that show what other pages hold (R101, R611, R612, R906, Table PCI-10). -/
def State.localShown (s : State) (page off : Nat) : Word :=
  let fn := localFn page
  let n := page % 16
  let g := Pg.pci 2
  let raw := s.reg (regKey page off)
  if off < 0x040 then raw
  else if n = 0 then
    if off = 0x040 then BitVec.ofNat 32 (s.fld g ⟨0x044 + 8 * fn, 0, 5⟩)
    else if off = 0x044 then
      BitVec.ofNat 32 (s.fld g (F.PCI_FN_DDR_BASE fn) / 1024 % 65536 + 65536 * (s.fld g (F.PCI_FN_DDR_SIZE fn) / 1024 % 65536))
    else if off = 0x048 then BitVec.ofNat 32 (s.fld g (F.PCI_FN_CST_BASE fn) + 65536 * s.fld g (F.PCI_FN_CST_SIZE fn))
    else raw
  else if 1 ≤ n && n ≤ 8 then
    if !s.slotBound fn (n - 1) then 0
    else if off = 0x044 then
      if s.pumpsAnswer then
        match s.slotCtx fn (n - 1) with
        | some (p, r) => s.reg (regKey (Pg.pmp p) (F.PMP_RING_HEAD_b0 r).off)
        | none => 0
      else FMap.getD s.pcie.heads page 0
    else if off = 0x068 then 1
    else raw
  else raw

/-- The CH_PWR registers, whose launched power is measured as they are read (R204). -/
def isLaunch (page off : Nat) : Bool :=
  0x0200 ≤ page && page ≤ 0x020F && 0x108 ≤ off && off < 0x208 && off % 32 = 8 && (0x0208 ≤ page || off < 0x188)

/-- The output power registers of the Lightwell's lasers, measured as they are read. -/
def isLaserPower (page off : Nat) : Bool := 0x0221 ≤ page && page ≤ 0x0224 && off = 0x044

/-- The output power of a laser: none before the lasers are lit, or of a retired one (R519). Log: entry 54 (DESIGN CHOICE). -/
def State.laserPower (s : State) (page : Nat) : Nat :=
  if s.lwl.measured.isSome && s.unit page ≠ uRetired then s.free % 65536 else 0

/-- The transparent clock now (R264): it runs from LREF, on from where it was seen last, by how much nothing here tells.
Log: entry 122 (DESIGN CHOICE). -/
def State.ptpNow (s : State) : Nat :=
  (s.wide (regKey Pg.ptp 0x048) + (if s.wdl.lrefOk then s.free else 0)) % 2 ^ 64

/-- The transparent clock seen at a read. -/
def State.ptpRead (s : State) : State := s.drawn.ptpReach s.ptpNow

/-- The value a read of a register shows, before what a full-width read does: the snapshot copy of a counter register where
VIEW is 1 (R130), else the register itself or what it mirrors. Log: entry 40 (DESIGN CHOICE), entry 106 (DESIGN CHOICE). -/
def State.shown (s : State) (page off : Nat) : Word :=
  let k := regKey page off
  if isCounter page off && hasSnap page && s.bit page F.HDR_SNAP_CTL_VIEW then FMap.getD s.snaps k (regReset k)
  else if off ∈ clockCounters page then BitVec.ofNat 32 s.free
  else if isLocal page then s.localShown page off
  else if s.absent page && off = 0x008 then (s.reg k).withField 4 1 1
  else if s.absent page && off = 0x00C then BitVec.ofNat 32 (256 * Reason.absent)
  else if page = Pg.wdl && off = 0x04C then BitVec.ofNat 32 s.count
  else if page = Pg.ptp && off = 0x048 then BitVec.ofNat 32 s.ptpNow
  else if isLaunch page off then (s.reg k).withField 16 16 (s.tapPower (page - 0x0200) ((off - 0x108) / 32))
  else if isLaserPower page off then BitVec.ofNat 32 (s.laserPower page)
  else if page = Pg.cst 0 && off = 0x04C then s.tableRead
  else if page = Pg.lwl 0 && off = 0x078 then (s.lwTableRead.rdata).headD 0
  else if page = Pg.cpc 10 && off = 0x048 then (s.dumpRead.rdata).headD 0
  else if page = Pg.flt && off = 0x0A8 then
    BitVec.ofNat 32 (bitOf (!s.faultNLow) + 2 * bitOf s.hbOut + 4 * bitOf s.pins.mainPg + 8 * bitOf s.pins.forceN)
  else if page = Pg.sec 6 && off = 0x040 then
    if s.sec.nonces.isEmpty then s.reg k else (s.reg k).withField 8 8 s.nonceLeft
  else if (regFields page off).any (fun f => f.acc = .rc) then s.readAt k
  else s.reg (regKey (mirrorOf page off) off)

/-- A full-width read of a 64-bit counter's _LO register (R268): _HI latches the high word, and the counter is cleared. -/
def State.readWideLo (s : State) (page off : Nat) : State :=
  let k := regKey page off
  let e := s.regAt k
  (s.setReg (regKey page (off + 4)) (BitVec.ofNat 32 (if e.cleared then 0 else e.old / 2 ^ 32))).clearCounter k

/-- What a full-width read of a register does (R107, R113, R130): RC fields clear, latches are taken.
Log: entry 106 (DESIGN CHOICE). -/
def State.readEffect (s : State) (page off : Nat) : State :=
  let k := regKey page off
  if isCounter page off && hasSnap page && s.bit page F.HDR_SNAP_CTL_VIEW then s
  else if off ∈ clockCounters page || page = Pg.sec 6 && off = 0x040 then s.drawn
  else if isWideLo page off then s.readWideLo page off
  else if page = Pg.wdl && off = 0x04C then s.setFld Pg.wdl F.WDL_COUNT_HI (s.count / 2 ^ 32)
  else if page = Pg.ptp && off = 0x048 then s.ptpRead.setFld Pg.ptp F.PTP_TIME_HI (s.ptpNow / 2 ^ 32)
  else if isLaunch page off || isLaserPower page off then s.drawn
  else if page = Pg.nrg && off = 0x070 then s.setFld Pg.nrg F.NRG_ACCT_HI (s.energy.acct / 2 ^ 32)
  else if page = Pg.pwr && off = 0x050 then s.setFld Pg.pwr F.PWR_PM_ENERGY_HI (s.energy.energy / 2 ^ 32)
  else if page = Pg.lwl 0 && off = 0x078 then s.lwTableRead
  else if page = Pg.cpc 10 && off = 0x048 then s.dumpRead
  else if (regFields page off).any (fun f => f.acc = .rc) then s.clearCounter k
  else s

/-- A read of one register, full-width or not: the value and the state after it. A user register's value is the fabric's,
which nothing here states (R384). Log: entry 99 (DEDUCED). -/
def State.readReg (s : State) (page off be : Nat) : Word × State :=
  if userWindow page off then
    if s.fabric.ureg then
      if s.userClocked then (lanesOf be (BitVec.ofNat 32 s.free), s.drawn.emit (.userReg (userOffset page off) none))
      else (lanesOf be 0xFFFFFFFF, s.userTimeout)
    else (0, s.incFld (Pg.fab 32) F.FAB_UREG_CNT_UREG_DROP)
  else if be = 0xF then (s.shown page off, s.readEffect page off)
  else (lanesOf be (s.shown page off), if off ∈ clockCounters page && !(hasSnap page && s.bit page F.HDR_SNAP_CTL_VIEW) then s.drawn
    else if page = Pg.ptp && off = 0x048 || page = Pg.sec 6 && off = 0x040 || isLaunch page off || isLaserPower page off then s.drawn
    else s)

/-- One part of a read: no page answers, or the register does. -/
def State.readPart (s : State) (page off be : Nat) : Word × State :=
  match s.dropCause page with
  | some c => (lanesOf be (if c = 1 then 0 else 0xFFFFFFFF), s.unmapped (page * 4096 + off) c false)
  | none => s.readReg page off be

/-- The parts of a read, in order, with their data. Log: entry 13 (DESIGN CHOICE). -/
def State.readParts (s : State) (pageOf : Nat → Nat) : List (Nat × Nat) → State
  | [] => s
  | e :: t =>
    let r := s.readPart (pageOf (e.1 / 4096)) (e.1 % 4096) e.2
    (({ r.2 with rdata := s.rdata ++ [r.1] } : State)).readParts pageOf t

/-! ### What a write does -/

/-- Opcodes of Table SEC-2. -/
def secOpcodes : List Nat :=
  [0x01, 0x02, 0x10, 0x11, 0x12, 0x20, 0x21, 0x30, 0x31, 0x32, 0x40, 0x41, 0x50, 0x51, 0x60, 0x70, 0x71, 0x80, 0x81]

/-- SEC_CTL.GO written (R770): counted while a service runs; else the request is taken, and an unknown one is answered. -/
def State.secGo (s : State) : State :=
  let s0 := s.setFld (Pg.sec 0) F.SEC_CTL_GO 0
  if s0.bit (Pg.sec 0) F.SEC_RSP_BUSY then s0.incFld (Pg.sec 0) F.SEC_EVENTS_b16
  else
    let s1 := s0.setFld (Pg.sec 0) F.SEC_RSP_BUSY 1
    let op := s1.secReqByte 0 + 256 * s1.secReqByte 1
    if op ∈ secOpcodes then s1 else s1.secAnswer 2 op SS.unsupported s1.approvedMode []

/-- IRQ_FORCE: the causes written as 1 are set, where the page implements them. -/
def State.forceIrqs (s : State) (page : Nat) (v : Word) : State :=
  ((List.range 16).filter (fun b => (v.toNat &&& causeMask page) / 2 ^ b % 2 = 1)).foldl (fun (a : State) b => a.raiseIrq page b) s

/-- FN_CTL.LOCK: the function's local pages are locked (R133). -/
def State.lockFn (s : State) (f : Nat) : State :=
  if f ≠ 0 && s.bit (Pg.pci 2) (F.PCI_FN_CTL_LOCK f) then (List.range 16).foldl (fun (a : State) n => a.lockPage (localPage f n)) s
  else s

/-- Reinstatement bits of a channel group's page (R516). Log: entry 101 (DEDUCED). -/
def State.groupReinstate (s : State) (q : Nat) : State :=
  (List.range 8).foldl (fun (a : State) e =>
    let b := if a.bit (Pg.lwl (9 + q)) ⟨0x040, e, 1⟩ then a.reinstateItem (.input (Fin.ofNat 64 (8 * q + e))) else a
    if b.bit (Pg.lwl (9 + q)) ⟨0x040, 8 + e, 1⟩ then b.reinstateItem (.output (Fin.ofNat 64 (8 * q + e))) else b) s

/-- COL_REINSTATE.GO of a column group's page newly set (R516); no cell has an index above 251.
Log: entry 101 (DEDUCED). -/
def State.columnReinstate (s : State) (m : Nat) : State :=
  let i := s.fld (Pg.lwl (17 + m)) F.LWL_COL_REINSTATE_b0
  if i ≤ 251 then s.reinstateItem (.cell (Fin.ofNat 2016 (cellBase (8 * m) + i)))
  else s.setFld (Pg.lwl (17 + m)) F.LWL_COL_REINSTATE_GO 0

/-- EPOCH_MIN held at the floor of R505 while the firmware's duties run (Table CPC-3). Log: entry 103 (DEDUCED). -/
def State.epochFloor (s : State) : State :=
  if s.dutiesRun then
    let most := (List.range 4).foldl (fun m p => max m (max 4096 (s.fld (Pg.stg 0 8) ⟨0x100 + 8 * p, 0, 24⟩))) 0
    s.maxFld lwlPage F.LWL_SETTLE_EPOCH_MIN (min 255 ((most + 65535) / 65536 + 1))
  else s

/-- What the header's registers do besides being stored. -/
def State.headerWritten (s : State) (page off : Nat) (v : Word) : State :=
  if off = 0x028 then s.forceIrqs page v
  else if off = 0x030 && s.bit page F.HDR_SNAP_CTL_TRIGGER then s.snapTrigger page
  else s

/-- What a stored write of a block register does, by class: GBL to SEC, CFG, FLS, CPC, PCI. `s0` is the state before.
Log: entry 105 (DEDUCED). -/
def State.systemWritten (s0 s : State) (page off : Nat) (v : Word) : State :=
  match pageClass page with
  | 0x0001 =>
    if page = Pg.gbl && off = 0x050 then
      let s1 := if s.bit Pg.gbl F.GBL_CTL_LOCK_ALL then s.lockAll else s
      if s1.bit Pg.gbl F.GBL_CTL_SNAP_ALL then s1.snapAll else s1
    else s
  | 0x0002 =>
    if (off = 0x054 || off = 0x058) && s.tstate = T.stopped then { s with count := s.preset }
    else if 0x400 ≤ off && off < 0x800 && off % 16 = 0xC then s.armMark ((off - 0x400) / 16)
    else s
  | 0x0003 =>
    if off = 0x040 then s.capWritten
    else if off = 0x06C then s.debtAdd (v.field 0 24)
    else s
  | 0x0004 =>
    if page = Pg.flt && off = 0x040 then s.syncAllAttention
    else if page = Pg.flt && off = 0x080 then
      let s1 := if s.bit Pg.flt F.FLT_SAFE_CTL_ENTER then s.ctlEnter else s
      if s1.bit Pg.flt F.FLT_SAFE_CTL_RESTART then s1.ctlRestart else s1
    else s
  | 0x0005 => if page = Pg.sec 0 && off = 0x044 && s.bit page F.SEC_CTL_GO then s.secGo else s
  | 0x0006 =>
    if page = Pg.cfg 0 && off = 0x044 && s.bit page F.CFG_CTL then (s.setFld page F.CFG_CTL 0).cfgContinue
    else if page = Pg.cfg 2 && off = 0x04C && s.bit page F.CFG_PART_CTL then (s.setFld page F.CFG_PART_CTL 0).partGo
    else s
  | 0x0007 => if off = 0x044 && s.bit page F.FLS_CMD_GO then s.flashGo else s
  | 0x0008 =>
    if page = Pg.cpc 0 && off = 0x05C && s.bit page F.CPC_HB_KICK then s.kick
    else if page = Pg.cpc 0 && off = 0x068 then s.maxFld page F.CPC_CLU_CFG_PEER_LOST 48
    else if page = Pg.cpc 9 && off = 0x040 && s.bit page F.CPC_MB_CTL_GO then s.mbGo (s.fld page F.CPC_MB_CTL_SEQ)
    else if page = Pg.cpc 10 && off = 0x04C && s.bit page F.CPC_DUMP_CTL then s.dumpNow true
    else s
  | 0x0009 =>
    if page = Pg.pci 1 && 0x040 ≤ off && off < 0x240 && off % 16 = 0xC then State.sendPending 0 s ((off - 0x040) / 16)
    else if page = Pg.pci 2 && 0x040 ≤ off && off < 0x040 + 8 * 62 && off % 8 = 0 then
      let f := (off - 0x040) / 8
      let s1 := if s0.bit page (F.PCI_FN_CTL_LOCK f) then s.setFld page (F.PCI_FN_CTL_LOCK f) 1 else s
      s1.lockFn f
    else s
  | _ => s

/-- What a stored write of a block register does, by class: lanes, optics, the pipeline, memories, tiles, links. -/
def State.pathWritten (s0 s : State) (page off : Nat) : State :=
  match pageClass page with
  | 0x000A =>
    if page = refPage && off = 0x200 then s.refRoleWritten s0.refRole
    else if page = refPage && off = 0x204 then s.refCandWritten (s0.fld refPage ⟨0x204, 0, 32⟩)
    else if 0x01A0 ≤ page && off = 0x080 then s.anRestart (page - 0x0100)
    else s
  | 0x000B =>
    if off = 0x050 then s.aprRestart (page - 0x0200)
    else if 0x100 ≤ off && off < 0x200 && off % 32 = 0 then s.chReinstate (page - 0x0200) ((off - 0x100) / 32)
    else s
  | 0x000C =>
    if off = 0x040 then s.policyWritten
    else if off = 0x04C then s.forceWritten
    else s
  | 0x000D =>
    if page = lwlPage && off = 0x05C then s.epochFloor
    else if 0x0229 ≤ page && page ≤ 0x0230 && off = 0x040 then s.groupReinstate (page - 0x0229)
    else if 0x0231 ≤ page && page ≤ 0x0238 && off = 0x044 && !s0.bit page F.LWL_COL_REINSTATE_GO &&
        s.bit page F.LWL_COL_REINSTATE_GO then s.columnReinstate (page - 0x0231)
    else s
  | 0x0011 =>
    if page = 0x0403 && off = 0x108 then s.ftInitWritten
    else if page = 0x0408 && 0x100 ≤ off && off < 0x120 && off % 8 = 0 then s.epochFloor
    else s
  | 0x0015 | 0x0016 =>
    if 0x10C ≤ off && off < 0x14C && off % 16 = 0xC then s.progWritten (page - 0x0600) ((off - 0x10C) / 16) else s
  | 0x0018 => if off = 0x044 then s.armProbe (page - 0x0780) (s0.bit page F.TNP_CTL_ARM) else s
  | 0x001A => if off = 0x044 then s.maxFld page F.PMP_TMO_PMP_TMO s.pmpFloor else s
  | 0x001B => if off = 0x054 then s.retireWritten (page - 0x0A00) else s
  | 0x001C => if page = 0x0B00 then s.rykPump else s
  | _ => s

/-- A block's own refusal of a full-width write: RSVD_SET, and the bits that stay (R112, R375, R551, R577). -/
def State.blockRefusal (s : State) (page off : Nat) (v : Word) : Bool × Word :=
  if page = Pg.nrg && 0x100 ≤ off && off < 0x140 && (off - 0x100) / 32 = s.fld Pg.nrg F.NRG_CTL_b1 then (true, 0xFFFFFFFF)
  else if Pg.fab 45 ≤ page && page ≤ Pg.fab 60 && off = 0x040 && !fcgGood v.toNat then (true, 0xFFFFFFFF)
  else if pageClass page = 0x001A && off = 0x044 && v.field 0 16 < s.pmpFloor then (true, 0)
  else (false, 0)

/-- A full-width write stored under the access rules, with what its register does besides. -/
def State.storeWritten (s : State) (page off : Nat) (v : Word) (own : Bool) (size : Nat) : State :=
  let r := s.blockRefusal page off v
  let s1 := s.applyWrite (fullPart page off size) v own r.1 r.2
  if off < 0x040 then s1.headerWritten page off v
  else if isLocal page then
    if page % 16 = 14 && off % 16 = 0xC then State.sendPending (localFn page) s1 ((off - 0x040) / 16) else s1
  else State.pathWritten s (State.systemWritten s s1 page off v) page off

/-- A full-width write of a register of a page that answers. Log: entry 99 (DEDUCED). -/
def State.fullWrite (s : State) (page off : Nat) (v : Word) (own : Bool) (size : Nat) : State :=
  let n := page % 16
  let fenced := s.bit (Pg.pci 2) (F.PCI_FN_STAT_FENCED (localFn page))
  if userWindow page off then
    if s.fabric.ureg then s.userWrite (userOffset page off) v.toNat
    else s.incFld (Pg.fab 32) F.FAB_UREG_CNT_UREG_DROP
  else if isLocal page && 1 ≤ n && n ≤ 8 && 0x040 ≤ off then s.slotWrite (localFn page) (n - 1) off v size
  else if isLocal page && 9 ≤ n && n ≤ 12 && off = 0x05C then s.freePost (localFn page) (n - 9) v size
  else if isLocal page && n = 13 && off = 0x04C && fenced then s
  else if pageClass page = 0x001A && 0x100 ≤ off && off < 0x300 && off % 64 = 0 then
    s.ringCtlWrite (page - 0x0900) ((off - 0x100) / 64) v size
  else if page = Pg.pci 3 && 0x040 ≤ off && off < 0x040 + 16 * 62 then
    s.ctxBindWrite ((off - 0x040) / 16) (off % 16 / 4) v size
  else if page = Pg.wdl && 0x400 ≤ off && off < 0x800 && off % 16 = 0xC then
    (s.fireFirst ((off - 0x400) / 16)).storeWritten page off v own size
  else if page = Pg.pci 0 && off = 0x040 then
    (s.applyWrite (fullPart page off size) v own false 0xFFFFFFFF).cfgReadyWrite v
  else if page = Pg.cst 0 && off = 0x04C then s.tableWrite v size
  else if page = Pg.lwl 0 && off = 0x078 then s.lwTableWrite v size
  else if pageClass page = 0x000F then
    match pnCtl off with
    | some ctl => s.writePn (page - 0x0308) off ctl (fun t => t.applyWrite (fullPart page off size) v own)
    | none => s.storeWritten page off v own size
  else s.storeWritten page off v own size

/-- A narrow write: ignored and recorded (R108, R905), but for the user registers, an unbound slot's page, and a doorbell of
a fenced function (R384, R611, R630). Log: entry 99 (DEDUCED). -/
def State.narrowWrite (s : State) (p : Part) (own : Bool) : State :=
  let n := p.page % 16
  let doorbell := (1 ≤ n && n ≤ 8 && p.off = 0x040) || (9 ≤ n && n ≤ 12 && p.off = 0x05C) || (n = 13 && p.off = 0x04C)
  if userWindow p.page p.off then s
  else if isLocal p.page && doorbell && s.bit (Pg.pci 2) (F.PCI_FN_STAT_FENCED (localFn p.page)) then s
  else if isLocal p.page && 1 ≤ n && n ≤ 8 && 0x040 ≤ p.off && !s.slotBound (localFn p.page) (n - 1) then
    s.recordFault p Cause.rsvdOffset
  else s.applyWrite p 0 own

/-- One part of a write (R109). -/
def State.writePart (s : State) (p : Part) (v : Word) (own : Bool) : State :=
  match s.dropCause p.page with
  | some c => s.unmapped (p.page * 4096 + p.off) c true
  | none => if p.be = 0xF then s.fullWrite p.page p.off v own p.size else s.narrowWrite p own

/-- The parts of a write, in order (R109, R110). -/
def State.writeParts (s : State) (pageOf : Nat → Nat) (addr : Nat) (data : List (Option (BitVec 8))) (own : Bool) :
    List (Nat × Nat) → State
  | [] => s
  | e :: t =>
    (s.writePart ⟨pageOf (e.1 / 4096), e.1 % 4096, e.2, sizeCode data.length⟩ (partData addr e.1 data) own).writeParts
      pageOf addr data own t

/-! ### The commands -/

/-- A function's own BAR answers: the link is up, the endpoint works, the function exists (R603, R637).
Log: entry 100 (DESIGN CHOICE). -/
def State.barOpen (s : State) (fn : Nat) : Bool :=
  fn = 0 || (s.linkUp && !s.pcie.dead && (fn = 1 || s.bit (Pg.pci 2) (F.PCI_FN_STAT_b3 fn)))

/-- The page an address of a function's BAR lies on: PF0's pages keep their index, a local BAR has 16 pages. -/
def barPage (fn page : Nat) : Nat := if fn = 0 then page % 0x4000 else localPage fn (page % 16)

/-- REGISTER_WRITE: a write of up to a few registers by its bytes from `addr` on, `none` where a byte is not enabled.
Log: entry 100 (DESIGN CHOICE). -/
def execRegisterWrite (off : Nat) (fn : Fin 62) (addr : BitVec 26) (data : List (Option (BitVec 8))) (s : State) : Result :=
  let s0 := s.at off
  let parts := partsOf addr.toNat data.length (fun i => (data.getD i none).isSome)
  if s0.barOpen fn.val then
    .next (s0.writeParts (barPage fn.val) addr.toNat data (fn.val ≠ 0) parts)
  else .next s0

/-- RC_COUNTER_READ: a read of up to a few registers by its byte enables from `addr` on (R107, R110, R113). -/
def execRcCounterRead (off : Nat) (fn : Fin 62) (addr : BitVec 26) (be : List Bool) (s : State) : Result :=
  let s0 := (s.at off).dueMarks
  if s0.barOpen fn.val then
    .next (({ s0 with rdata := [] } : State).readParts (barPage fn.val) (partsOf addr.toNat be.length (fun i => be.getD i false)))
  else .next s0

/-- COUNTER_LO_READ: a full-width read of a 64-bit counter's _LO register (R268). -/
def execCounterLoRead (off : Nat) (page : BitVec 14) (o : BitVec 12) (s : State) : Result :=
  let s0 := (s.at off).dueMarks
  if isWideLo page.toNat o.toNat then
    let r := s0.readPart page.toNat o.toNat 0xF
    .next { r.2 with rdata := [r.1] }
  else .next s0

/-! ### Register accesses over the tile network -/

/-- A register access that has reached its tile (Table TNW-4): CTL_WR writes a register, CTL_RD answers with one. -/
def State.ctlPacket (s : State) (r : Nat) (p : Packet) : State :=
  let pg := Pg.tile (tileAt r)
  let o := p.addr % 4096 / 4 * 4
  if p.type = 7 then s.fullWrite pg o (BitVec.ofNat 32 (leNat (p.inline.take 4))) false 2
  else if p.type = 8 then
    let x := s.readReg pg o 0xF
    x.2.inject { (p.reply 5 0) with inline := leBytes 4 x.1.toNat }
  else s

/-- Where the sender of an offered packet stands: the router's own tile, or a client whose program the model does not hold: the
fabric behind an ACTIVE mesh port (R383), the control processors (Table TNW-2). None where no such client stands there. -/
def State.sourceNode (s : State) (r : Nat) : Option (Fin 4) → Option Nat
  | none => some r
  | some e =>
    let node := edgeNode e.val (if e.val % 2 = 0 then r % 16 else r / 16)
    let outside := node = edgeNode 0 2 || node = edgeNode 0 3 || isMesh node
    if (nodePort node).map Prod.fst = some r && outside && s.clientOpen node then some node else none

/-- The weight bank of a tile's operation, or of the tile where none runs (R412). -/
def State.tileBank (s : State) (t : Nat) : Nat :=
  match (s.tile t).op with
  | some o => o.bank
  | none => s.fld (Pg.tile t) F.MTL_STATUS_b4

/-- The address a packet carries: a tile's fetch of an object names the weight bank that the tile has in force (R531). -/
def State.offerAddr (s : State) (r : Nat) (x : TilePacket) : Nat :=
  let a := x.addr.toNat
  let south := x.dest.toNat / 32 = 6
  if x.side.isNone && x.type.val = 0 && south && a / 2 ^ 39 = 1 then
    2 ^ 39 + 2 ^ 38 * s.tileBank (tileAt r) + a % 2 ^ 38
  else a

/-- A packet as R414 and R416 form one: at most 16 data flits, 2 on CTL, and 48 B of inline payload. -/
def isPacket (x : TilePacket) : Bool :=
  x.data.length ≤ (if vcOfType x.type.val = 2 then 2 else 16) && x.inline.length ≤ 48

/-- A packet offered by the program of a client; what is no packet is not sent. Log: entry 150 (DESIGN CHOICE). -/
def State.offer' (r : Nat) (s : State) (x : TilePacket) : State :=
  match if isPacket x then s.sourceNode r x.side else none with
  | some src =>
    s.inject { plainPacket x.dest.toNat src x.type.val x.tag.toNat (s.offerAddr r x) x.aux.toNat with
      len := x.data.length, inline := x.inline.map BitVec.toNat,
      data := x.data.flatMap (fun f => (f.map BitVec.toNat ++ List.replicate 64 0).take 64) }
  | none => s

/-- PACKET_ROUTE: what the clients of a router offer, and one grant on one of its outputs (R420); a register
access that reaches its tile is performed. -/
def execPacketRoute (off : Nat) (r : Fin 128) (o : Fin 5) (offers : List TilePacket) (s : State) : Result :=
  let s0 := s.at off
  let s1 := (offers.foldl (State.offer' r.val) s0).settleAll r.val
  if s1.routes r.val then
    let s2 := (List.range 5).foldl (State.countMiss r.val o.val) s1
    match s2.granted r.val o.val with
    | some (vc, i, p) =>
      let u := s2.unit (Pg.tile (tileAt r.val))
      let s3 := s2.forward r.val o.val vc i p
      .next (if o.val = 4 && (u = uReady || u = uActive) then s3.ctlPacket r.val p else s3)
    | none => .next s2
  else .next s1

end Sys2Proof.Machine
end

