-- ==== Sys2Proof/Machine/LoadRegs.lean ====
section
/-!
DEFINITION. Register writes of the configuration load (R734).
-/

set_option Elab.async false

namespace Sys2Proof.Machine

open Sys2Proof

/-- Does a full-width write of a register record an access fault on its page? Told by the write on the same state with the
page's ACCESS_FAULT empty. Log: entry 102 (DEDUCED). -/
def State.writeFaults (s : State) (p : Part) (v : Word) : Bool :=
  ((s.setReg (regKey p.page 0x02C) 0).writePart p v false).fld p.page ⟨0x02C, 31, 1⟩ = 1

/-- A register write of a load: counted where it records a fault; a write of UNIT_REQ to a unit in OFF ends its
configuration, so that the unit is PRIMED when the request is taken (R119, R734, R907).
Log: entry 9 (DEDUCED), entry 63 (DEDUCED). -/
def State.loadWrite (s : State) (x : LoadSection) (page o : Nat) (v : Word) : State :=
  let p := fullPart page o
  let s1 := s.setSect { x with pages := if x.pages.contains page then x.pages else page :: x.pages }
  let s2 := s1.writePart p v false
  let s3 := if s1.writeFaults p v then s2.incFld (Pg.cfg 0) F.CFG_REG_FAULTS else s2
  if o = 0x010 && hasUnit page && s3.unit page = uOff && !s3.absent page then
    (s3.configured page).loadMap (fun l => { l with
      configured := if l.configured.contains page then l.configured else page :: l.configured })
  else s3

/-- WRITE_REG (R734); in a PARTIAL section it addresses only the FAB pages of the masked regions (R739). -/
def execWriteReg (off : Nat) (s : State) : Result :=
  .next ((s.at off).runCmd 0x01 (fun t x b =>
    let page := beAt b 2 2
    let o := beAt b 4 2
    let fab := decide (Pg.fab 0 ≤ page && page ≤ Pg.fab 31) && maskHas (beAt x.header 16 4) (page - Pg.fab 0)
    if x.kind = Kind.part && !fab then t.sectionFail LE.partialScope
    else t.loadWrite x page (o % 4096) (BitVec.ofNat 32 (beAt b 8 4))))

end Sys2Proof.Machine
end

