-- ==== Sys2Proof/Machine/SecTests.lean ====
section
/-!
DEFINITION. The end of the cryptographic module's tests (R784, R785, R797): the requests held while they ran are served
when the module becomes OPERATIONAL, and answered NOT_OPERATIONAL if it does not.
-/

set_option Elab.async false

namespace Sys2Proof.Machine

open Sys2Proof

/-- The service that a held request asks for. -/
def serviceOf (h : HeldReq) (s : State) : Result :=
  match h.opcode with
  | 0x0001 => execSecStatusSvc 0 h.who h.req s
  | 0x0002 => execSelftest 0 h.who h.req s
  | 0x0050 => execSetMode 0 h.who h.req s
  | 0x0051 => execZeroize 0 h.who h.req s
  | 0x0060 => execDebugLock 0 h.who h.req s
  | 0x0040 => execSecRandom 0 h.who h.req s
  | 0x0041 => execRandomRaw 0 h.who h.req s
  | 0x0010 => execAuthChallenge 0 h.who h.req s
  | 0x0011 => execAuthResponse 0 h.who h.req s
  | 0x0012 => execLogout 0 h.who h.req s
  | 0x0020 => execStkEstablish 0 h.who h.req s
  | 0x0021 => execStkClear 0 h.who h.req s
  | 0x0030 => execSakLoad 0 h.who h.req s
  | 0x0032 => execSakLoadPlain 0 h.who h.req s
  | 0x0031 => execSakClear 0 h.who h.req s
  | 0x0070 => execProvisionIk 0 h.who h.req (h.extra = [1]) s
  | 0x0071 => execRevoke 0 h.who h.req (h.extra = [1]) s
  | 0x0081 => execImageChunk 0 h.who h.req h.extra s
  | 0x0080 => execImageOpen 0 h.who h.req s
  | _ => .next s

/-- One held request served. -/
def State.serveOne (s : State) (h : HeldReq) : State :=
  match serviceOf h s with
  | .next t => t
  | _ => s

/-- Held requests served, one after another. -/
def State.serveAll (s : State) : List (Nat × HeldReq) → State
  | [] => s
  | e :: t => (s.serveOne e.2).serveAll t

/-- The queue served in the order controller, firmware, PF0, JTAG (R769, R784). A request that finds the tests running
again waits for their end. -/
def State.serveHeld (s : State) : State := (s.secMap (fun x => { x with held := [] })).serveAll s.sec.held

/-- One held request answered NOT_OPERATIONAL: the controller's opens no section and the load fails (R796). -/
def State.refuseOne (s : State) (w opcode : Nat) : State :=
  if w = 0 && opcode = 0x0080 then s.openNext else s.secAnswer w opcode SS.notOperational s.approvedMode []

/-- Every held request answered NOT_OPERATIONAL (R784). -/
def State.answerHeld (s : State) : State :=
  s.sec.held.foldl (fun (t : State) e => t.refuseOne e.1 e.2.opcode) (s.secMap (fun x => { x with held := [] }))

/-- SEC_SELFTEST_DONE: the tests end, with those that failed: 0 ROM integrity, 1 KATs, 2 entropy start-up, 3 PUF
(R784, R795). Log: entry 10 (DESIGN CHOICE). -/
def execSecSelftestDone (off : Nat) (failed : List (Fin 4)) (micros : Word) (s : State) : Result :=
  let s0 := s.at off
  if s0.mstate ≠ MS.selftest || !s0.pins.island || !s0.pins.resetN then .next s0
  else
    let bad := failed.map Fin.val
    let s1 := (List.range 4).foldl (fun (t : State) k => t.testBit k (!bad.contains k)) s0
    let s2 := (s1.setFld (Pg.sec 4) F.SEC_ST_TIME micros.toNat).incFld (Pg.sec 4) F.SEC_ST_RUNS
    if bad.contains 0 then .next (s2.secFail MS.critical 1).answerHeld
    else if bad.contains 1 then .next (s2.secFail MS.critical 2).answerHeld
    else if bad.contains 3 then .next (s2.secFail MS.critical 3).answerHeld
    else if bad.contains 2 then .next (s2.secFail MS.error 4).answerHeld
    else if !s2.pins.zeroizeN then .next s2.zeroize.answerHeld
    else
      let k := Config.pufKey s2.sec.helper
      let dkek := if s2.bit (Pg.sec 0) F.SEC_STATUS_KILLED then none else (Config.kwUnwrap k s2.sec.dkekFuse).map beNat
      let s3 := s2.secMap (fun x => { x with pufk := some k, dkek := dkek, drbg := true })
      let s4 := (s3.setFld (Pg.sec 4) F.SEC_DRBG_CNT 0).setFld (Pg.sec 0) F.SEC_STATUS_ERR_CODE 0
      .next (((s4.setMstate MS.operational).endTest SS.ok).milestone 0).serveHeld

/-- HEALTH_TEST_FAIL: a continuous or conditional test fails (R785, Table SEC-8); requests held get their answer. In ERROR,
CRITICAL and ZEROIZED the module stays (Table SEC-1), and the failure is counted. Log: entry 121 (DEDUCED). -/
def execHealthTestFail (off : Nat) (t : HealthTest) (s : State) : Result :=
  let s0 := s.at off
  if s0.mstate = MS.critical || s0.mstate = MS.error || s0.mstate = MS.zeroized then .next (s0.countHealth t)
  else if s0.mstate = MS.selftest then .next (s0.healthFail t).answerHeld
  else .next (s0.healthFail t)

/-- ZEROIZE_N_LOW: the contact has been low for 1 µs (R781, R782). In CRITICAL, which only an island reset leaves (Table SEC-1), the
CSPs are cleared and MSTATE stays. Log: entry 121 (DEDUCED). -/
def execZeroizeNLow (off : Nat) (s : State) : Result :=
  let s0 := s.at off
  let s1 := { s0 with pins := { s0.pins with zeroizeN := false } }
  if s1.pins.island && s1.pins.resetN then
    .next (if s1.mstate = MS.critical then s1.zeroizeCsps else if s1.mstate = MS.selftest then s1.zeroize.answerHeld else s1.zeroize)
  else .next s1

end Sys2Proof.Machine
end

