-- ==== Sys2Proof/Machine/Dispatch.lean ====
section
/-!
DEFINITION. The dispatch: one arm for each constructor of `Instr`, each one direct call of its meaning.
-/

namespace Sys2Proof.Machine

def exec (i : Instr) (s : State) : Host.Outcome State Fault Refusal :=
  match i with
  | .turnBoundary meas => Sys2Proof.Machine.execTurnBoundary meas s
  | .windlassExitStopped => Sys2Proof.Machine.execWindlassExitStopped s
  | .anchorLoss off cause => Sys2Proof.Machine.execAnchorLoss off cause s
  | .portQualified off p => Sys2Proof.Machine.execPortQualified off p s
  | .slewLock => Sys2Proof.Machine.execSlewLock s
  | .learnedSet => Sys2Proof.Machine.execLearnedSet s
  | .wdlPresetWrite off high v => Sys2Proof.Machine.execWdlPresetWrite off high v s
  | .wdlCountLoRead off => Sys2Proof.Machine.execWdlCountLoRead off s
  | .markArm off m ctl => Sys2Proof.Machine.execMarkArm off m ctl s
  | .markFire m => Sys2Proof.Machine.execMarkFire m s
  | .fullCountBroadcast off gray bad => Sys2Proof.Machine.execFullCountBroadcast off gray bad s
  | .lrefLoss off => Sys2Proof.Machine.execLrefLoss off s
  | .registerWrite off fn addr data => Sys2Proof.Machine.execRegisterWrite off fn addr data s
  | .rcCounterRead off fn addr be => Sys2Proof.Machine.execRcCounterRead off fn addr be s
  | .counterLoRead off page o => Sys2Proof.Machine.execCounterLoRead off page o s
  | .unassignedPageAccess off addr write => Sys2Proof.Machine.execUnassignedPageAccess off addr write s
  | .restartingPageAccess off addr write => Sys2Proof.Machine.execRestartingPageAccess off addr write s
  | .stateMismatch off page => Sys2Proof.Machine.execStateMismatch off page s
  | .unitSelftestDone off page pass => Sys2Proof.Machine.execUnitSelftestDone off page pass s
  | .reinstateSelftestDone off page pass => Sys2Proof.Machine.execReinstateSelftestDone off page pass s
  | .snapshotTrigger off page ctl => Sys2Proof.Machine.execSnapshotTrigger off page ctl s
  | .snapAll off => Sys2Proof.Machine.execSnapAll off s
  | .pageLockSet off page => Sys2Proof.Machine.execPageLockSet off page s
  | .lockAll off => Sys2Proof.Machine.execLockAll off s
  | .signalDetectRise off l => Sys2Proof.Machine.execSignalDetectRise off l s
  | .lossOfSignal off l => Sys2Proof.Machine.execLossOfSignal off l s
  | .trainingWordRx off l marker word rxDone ask => Sys2Proof.Machine.execTrainingWordRx off l marker word rxDone ask s
  | .trainingAttemptTimeout off l => Sys2Proof.Machine.execTrainingAttemptTimeout off l s
  | .backoffExpiry off l => Sys2Proof.Machine.execBackoffExpiry off l s
  | .noPartnerRetry off l => Sys2Proof.Machine.execNoPartnerRetry off l s
  | .dataStart off l => Sys2Proof.Machine.execDataStart off l s
  | .blockLock off l headers => Sys2Proof.Machine.execBlockLock off l headers s
  | .blockLockTimeout off l => Sys2Proof.Machine.execBlockLockTimeout off l s
  | .blockLockLoss off l headers => Sys2Proof.Machine.execBlockLockLoss off l headers s
  | .laneTestDone off l invalid => Sys2Proof.Machine.execLaneTestDone off l invalid s
  | .fastRetrainTimeout off l => Sys2Proof.Machine.execFastRetrainTimeout off l s
  | .errorInterval off l invalid => Sys2Proof.Machine.execErrorInterval off l invalid s
  | .leakDecrement page ch => Sys2Proof.Machine.execLeakDecrement page ch s
  | .wanderSlip off l drift => Sys2Proof.Machine.execWanderSlip off l drift s
  | .codeGroupSync off l groups => Sys2Proof.Machine.execCodeGroupSync off l groups s
  | .anRestart off k ctl => Sys2Proof.Machine.execAnRestart off k ctl s
  | .laneSelfcheckFail off l => Sys2Proof.Machine.execLaneSelfcheckFail off l s
  | .candidateQualified off k => Sys2Proof.Machine.execCandidateQualified off k s
  | .candidateLoss off k => Sys2Proof.Machine.execCandidateLoss off k s
  | .rrefLoss off => Sys2Proof.Machine.execRrefLoss off s
  | .losAssert off e c power => Sys2Proof.Machine.execLosAssert off e c power s
  | .losDeassert off e c power => Sys2Proof.Machine.execLosDeassert off e c power s
  | .aprEntry off e g => Sys2Proof.Machine.execAprEntry off e g s
  | .aprPulse off e g => Sys2Proof.Machine.execAprPulse off e g s
  | .aprPulseEnd off e g => Sys2Proof.Machine.execAprPulseEnd off e g s
  | .aprRestart off e v => Sys2Proof.Machine.execAprRestart off e v s
  | .laserWarm off e c => Sys2Proof.Machine.execLaserWarm off e c s
  | .wavelengthLocked off e c err => Sys2Proof.Machine.execWavelengthLocked off e c err s
  | .wavelengthUnlock off e c err => Sys2Proof.Machine.execWavelengthUnlock off e c err s
  | .offgrid off e c err => Sys2Proof.Machine.execOffgrid off e c err s
  | .lockFailure off e c => Sys2Proof.Machine.execLockFailure off e c s
  | .heaterDriveUpdate off j => Sys2Proof.Machine.execHeaterDriveUpdate off j s
  | .clampHold off h => Sys2Proof.Machine.execClampHold off h s
  | .channelFaultDetect off e found => Sys2Proof.Machine.execChannelFaultDetect off e found s
  | .chReinstate off e c v => Sys2Proof.Machine.execChReinstate off e c v s
  | .chReinstateDone off e c pass => Sys2Proof.Machine.execChReinstateDone off e c pass s
  | .engineOverTemp off e temp => Sys2Proof.Machine.execEngineOverTemp off e temp s
  | .engineControllerFail off e => Sys2Proof.Machine.execEngineControllerFail off e s
  | .islandPowerOn off straps => Sys2Proof.Machine.execIslandPowerOn off straps s
  | .islandSupplyFail off => Sys2Proof.Machine.execIslandSupplyFail off s
  | .heartbeatLoss off => Sys2Proof.Machine.execHeartbeatLoss off s
  | .mainPgFall off => Sys2Proof.Machine.execMainPgFall off s
  | .mainUndervoltage off => Sys2Proof.Machine.execMainUndervoltage off s
  | .bypForceNLow off => Sys2Proof.Machine.execBypForceNLow off s
  | .bypForceWrite off v => Sys2Proof.Machine.execBypForceWrite off v s
  | .resetNFall off withPg => Sys2Proof.Machine.execResetNFall off withPg s
  | .resetNRise off => Sys2Proof.Machine.execResetNRise off s
  | .bypPolicyWrite off v => Sys2Proof.Machine.execBypPolicyWrite off v s
  | .frameIntake off dur p b trunc code badFcs ti corr uncorr => Sys2Proof.Machine.execFrameIntake off dur p b trunc code badFcs ti corr uncorr s
  | .captureDeadline off n => Sys2Proof.Machine.execCaptureDeadline off n s
  | .linkLoss off p part => Sys2Proof.Machine.execLinkLoss off p part s
  | .linkUp off p rate => Sys2Proof.Machine.execLinkUp off p rate s
  | .propagationRemove off p => Sys2Proof.Machine.execPropagationRemove off p s
  | .rxFault off p remote => Sys2Proof.Machine.execRxFault off p remote s
  | .unsealFrame off inst => Sys2Proof.Machine.execUnsealFrame off inst s
  | .saPnWrite off p tx c a high v => Sys2Proof.Machine.execSaPnWrite off p tx c a high v s
  | .parseFrame off inst => Sys2Proof.Machine.execParseFrame off inst s
  | .flowLookup off inst => Sys2Proof.Machine.execFlowLookup off inst s
  | .flowMissReturn off n bad => Sys2Proof.Machine.execFlowMissReturn off n bad s
  | .missLate off n => Sys2Proof.Machine.execMissLate off n s
  | .recordExpiry off cached n => Sys2Proof.Machine.execRecordExpiry off cached n s
  | .annotationReturn off inst handle b mask => Sys2Proof.Machine.execAnnotationReturn off inst handle b mask s
  | .ftInit off v => Sys2Proof.Machine.execFtInit off v s
  | .ftInitDone off => Sys2Proof.Machine.execFtInitDone off s
  | .streamOrder off inst => Sys2Proof.Machine.execStreamOrder off inst s
  | .holeHoldExpiry handle dir => Sys2Proof.Machine.execHoleHoldExpiry handle dir s
  | .fileCarve off inst => Sys2Proof.Machine.execFileCarve off inst s
  | .featureBuild off inst => Sys2Proof.Machine.execFeatureBuild off inst s
  | .stageStall off inst n => Sys2Proof.Machine.execStageStall off inst n s
  | .storeEccError off inst it corrected frame => Sys2Proof.Machine.execStoreEccError off inst it corrected frame s
  | .scoreDispatch off inst => Sys2Proof.Machine.execScoreDispatch off inst s
  | .scoreRecord off r => Sys2Proof.Machine.execScoreRecord off r s
  | .joinDeadline off p pseq => Sys2Proof.Machine.execJoinDeadline off p pseq s
  | .orderRelease off inst => Sys2Proof.Machine.execOrderRelease off inst s
  | .ft4Reply off p pseq verdict copy => Sys2Proof.Machine.execFt4Reply off p pseq verdict copy s
  | .ft4Timeout off inst => Sys2Proof.Machine.execFt4Timeout off inst s
  | .verdictAction off inst => Sys2Proof.Machine.execVerdictAction off inst s
  | .divertDeadline off n => Sys2Proof.Machine.execDivertDeadline off n s
  | .copyAccept off n buf => Sys2Proof.Machine.execCopyAccept off n buf s
  | .copyDeadline off n => Sys2Proof.Machine.execCopyDeadline off n s
  | .sealItem off inst te => Sys2Proof.Machine.execSealItem off inst te s
  | .spoutTransmit off p => Sys2Proof.Machine.execSpoutTransmit off p s
  | .injectionDescriptor off index port len cookie b => Sys2Proof.Machine.execInjectionDescriptor off index port len cookie b s
  | .tapReturnWord off tap inst w => Sys2Proof.Machine.execTapReturnWord off tap inst w s
  | .configScrub off r corrected bad last => Sys2Proof.Machine.execConfigScrub off r corrected bad last s
  | .bramError off r corrected => Sys2Proof.Machine.execBramError off r corrected s
  | .fcgLockLoss off k => Sys2Proof.Machine.execFcgLockLoss off k s
  | .clockMonitorOut off d khz => Sys2Proof.Machine.execClockMonitorOut off d khz s
  | .uregAccess off o data answer => Sys2Proof.Machine.execUregAccess off o data answer s
  | .uregTimeout off o => Sys2Proof.Machine.execUregTimeout off o s
  | .packetRoute off r o offers => Sys2Proof.Machine.execPacketRoute off r o offers s
  | .gtsDrop off r o inst => Sys2Proof.Machine.execGtsDrop off r o inst s
  | .progStart off t k v => Sys2Proof.Machine.execProgStart off t k v s
  | .batchPacket off t => Sys2Proof.Machine.execBatchPacket off t s
  | .turnTickTrigger t => Sys2Proof.Machine.execTurnTickTrigger t s
  | .cpl off t node work how more => Sys2Proof.Machine.execCpl off t node work how more s
  | .operationTimeout off t => Sys2Proof.Machine.execOperationTimeout off t s
  | .scorePacket off batch r poisoned remote => Sys2Proof.Machine.execScorePacket off batch r poisoned remote s
  | .scoreClose off => Sys2Proof.Machine.execScoreClose off s
  | .knownAnswerCheck off t ok => Sys2Proof.Machine.execKnownAnswerCheck off t ok s
  | .localStoreEcc off t corrected => Sys2Proof.Machine.execLocalStoreEcc off t corrected s
  | .linkEccError off r inst vc corrected => Sys2Proof.Machine.execLinkEccError off r inst vc corrected s
  | .routerFault off r => Sys2Proof.Machine.execRouterFault off r s
  | .probeArm off inst v => Sys2Proof.Machine.execProbeArm off inst v s
  | .windowProject off => Sys2Proof.Machine.execWindowProject off s
  | .creditReturn off t => Sys2Proof.Machine.execCreditReturn off t s
  | .calStep off m => Sys2Proof.Machine.execCalStep off m s
  | .calForce off m => Sys2Proof.Machine.execCalForce off m s
  | .epochWrite off => Sys2Proof.Machine.execEpochWrite off s
  | .epochAck off t => Sys2Proof.Machine.execEpochAck off t s
  | .consumerStale off t => Sys2Proof.Machine.execConsumerStale off t s
  | .settleEnd off => Sys2Proof.Machine.execSettleEnd off s
  | .lwlItemFault off it => Sys2Proof.Machine.execLwlItemFault off it s
  | .lwlReinstate off it => Sys2Proof.Machine.execLwlReinstate off it s
  | .lwlControllerFail off => Sys2Proof.Machine.execLwlControllerFail off s
  | .lwlTableAccess off v => Sys2Proof.Machine.execLwlTableAccess off v s
  | .cisternReadReq off b => Sys2Proof.Machine.execCisternReadReq off b s
  | .fillReturn off b n => Sys2Proof.Machine.execFillReturn off b n s
  | .objectTableWrite off v => Sys2Proof.Machine.execObjectTableWrite off v s
  | .cisternSramError off b e => Sys2Proof.Machine.execCisternSramError off b e s
  | .ddrReadError off c row line e => Sys2Proof.Machine.execDdrReadError off c row line e s
  | .patrolScrub off c found ecs => Sys2Proof.Machine.execPatrolScrub off c found ecs s
  | .scrubLate off c ecs => Sys2Proof.Machine.execScrubLate off c ecs s
  | .dmcRetireGo off c v => Sys2Proof.Machine.execDmcRetireGo off c v s
  | .rowCopyDone off c lost => Sys2Proof.Machine.execRowCopyDone off c lost s
  | .dmcFault off c parity => Sys2Proof.Machine.execDmcFault off c parity s
  | .dimmThermal off c temp => Sys2Proof.Machine.execDimmThermal off c temp s
  | .ringDoorbell off p r tail => Sys2Proof.Machine.execRingDoorbell off p r tail s
  | .pumpChunk off p host => Sys2Proof.Machine.execPumpChunk off p host s
  | .descriptorComplete off p r => Sys2Proof.Machine.execDescriptorComplete off p r s
  | .pumpTimeout off p r => Sys2Proof.Machine.execPumpTimeout off p r s
  | .contextHalt off p r => Sys2Proof.Machine.execContextHalt off p r s
  | .bmeClear off fn => Sys2Proof.Machine.execBmeClear off fn s
  | .pumpSelfcheckFail off p => Sys2Proof.Machine.execPumpSelfcheckFail off p s
  | .nrgCapWrite off v => Sys2Proof.Machine.execNrgCapWrite off v s
  | .nrgDebtAdd off v => Sys2Proof.Machine.execNrgDebtAdd off v s
  | .pmbusPoll off r first retry => Sys2Proof.Machine.execPmbusPoll off r first retry s
  | .poutMaxRead off maxes => Sys2Proof.Machine.execPoutMaxRead off maxes s
  | .measurementWindowClose off => Sys2Proof.Machine.execMeasurementWindowClose off s
  | .thermalSample off temps => Sys2Proof.Machine.execThermalSample off temps s
  | .thermalCrit off => Sys2Proof.Machine.execThermalCrit off s
  | .ledgerFault off => Sys2Proof.Machine.execLedgerFault off s
  | .pwrFault off => Sys2Proof.Machine.execPwrFault off s
  | .perstDeassert off => Sys2Proof.Machine.execPerstDeassert off s
  | .cfgReadyWrite off v => Sys2Proof.Machine.execCfgReadyWrite off v s
  | .cfgReadyTimeout off => Sys2Proof.Machine.execCfgReadyTimeout off s
  | .configRequest off fn req => Sys2Proof.Machine.execConfigRequest off fn req s
  | .vfEnable off on => Sys2Proof.Machine.execVfEnable off on s
  | .ctxBindWrite off f j v => Sys2Proof.Machine.execCtxBindWrite off f j v s
  | .contextSlotWrite off f slot reg v => Sys2Proof.Machine.execContextSlotWrite off f slot reg v s
  | .deliveryFreePost off f t tail => Sys2Proof.Machine.execDeliveryFreePost off f t tail s
  | .deliveryAccept off src n buf => Sys2Proof.Machine.execDeliveryAccept off src n buf s
  | .msixUnmask off fn v => Sys2Proof.Machine.execMsixUnmask off fn v s
  | .holdoffExpiry off fn slot => Sys2Proof.Machine.execHoldoffExpiry off fn slot s
  | .functionLevelReset off fn => Sys2Proof.Machine.execFunctionLevelReset off fn s
  | .flrComplete off fn => Sys2Proof.Machine.execFlrComplete off fn s
  | .completionArrival off tag b => Sys2Proof.Machine.execCompletionArrival off tag b s
  | .completionTimeout off tag us => Sys2Proof.Machine.execCompletionTimeout off tag us s
  | .ctoValueChange off v => Sys2Proof.Machine.execCtoValueChange off v s
  | .endpointReset off cause => Sys2Proof.Machine.execEndpointReset off cause s
  | .hostInternalError off => Sys2Proof.Machine.execHostInternalError off s
  | .poisonedTlp off tag poisoned => Sys2Proof.Machine.execPoisonedTlp off tag poisoned s
  | .rykFrameReceive off n k rx0 rx1 bufErr => Sys2Proof.Machine.execRykFrameReceive off n k rx0 rx1 bufErr s
  | .llctl off n nak cls ack c0 c1 c2 c3 => Sys2Proof.Machine.execLlctl off n nak cls ack c0 c1 c2 c3 s
  | .replayTimeout off n since => Sys2Proof.Machine.execReplayTimeout off n since s
  | .linkInit off n fresh mask ack chip peer => Sys2Proof.Machine.execLinkInit off n fresh mask ack chip peer s
  | .retrainingTimeout off n => Sys2Proof.Machine.execRetrainingTimeout off n s
  | .linkAlign off n seq0 seq1 skew depth => Sys2Proof.Machine.execLinkAlign off n seq0 seq1 skew depth s
  | .secondLaneWait off n => Sys2Proof.Machine.execSecondLaneWait off n s
  | .linkRewiden off n => Sys2Proof.Machine.execLinkRewiden off n s
  | .t3Rsp off => Sys2Proof.Machine.execT3Rsp off s
  | .t3Timeout off tag => Sys2Proof.Machine.execT3Timeout off tag s
  | .t3Req off => Sys2Proof.Machine.execT3Req off s
  | .copyFrameRx off buf => Sys2Proof.Machine.execCopyFrameRx off buf s
  | .refDepthErr off stale => Sys2Proof.Machine.execRefDepthErr off stale s
  | .linkFault off n frame => Sys2Proof.Machine.execLinkFault off n frame s
  | .gatewayFault off => Sys2Proof.Machine.execGatewayFault off s
  | .heartbeatKick off => Sys2Proof.Machine.execHeartbeatKick off s
  | .floorDuty off => Sys2Proof.Machine.execFloorDuty off s
  | .crosstalkRefresh off => Sys2Proof.Machine.execCrosstalkRefresh off s
  | .retirementRecordWrite off => Sys2Proof.Machine.execRetirementRecordWrite off s
  | .reconciliation off => Sys2Proof.Machine.execReconciliation off s
  | .mailboxGo off seq => Sys2Proof.Machine.execMailboxGo off seq s
  | .negotiate off => Sys2Proof.Machine.execNegotiate off s
  | .mbStatus off => Sys2Proof.Machine.execMbStatus off s
  | .updateStage off => Sys2Proof.Machine.execUpdateStage off s
  | .updateStaged off found => Sys2Proof.Machine.execUpdateStaged off found s
  | .updateCommit off => Sys2Proof.Machine.execUpdateCommit off s
  | .updateAbort off => Sys2Proof.Machine.execUpdateAbort off s
  | .updateHandoff off => Sys2Proof.Machine.execUpdateHandoff off s
  | .updateAdopted off => Sys2Proof.Machine.execUpdateAdopted off s
  | .updateRollback off complete => Sys2Proof.Machine.execUpdateRollback off complete s
  | .collStart off sends => Sys2Proof.Machine.execCollStart off sends s
  | .collCancel off => Sys2Proof.Machine.execCollCancel off s
  | .collFrame off sends => Sys2Proof.Machine.execCollFrame off sends s
  | .collTimeout off k => Sys2Proof.Machine.execCollTimeout off k s
  | .chipRetire off routes => Sys2Proof.Machine.execChipRetire off routes s
  | .chipReinstate off routes => Sys2Proof.Machine.execChipReinstate off routes s
  | .t3RemapSet off => Sys2Proof.Machine.execT3RemapSet off s
  | .graphPower off => Sys2Proof.Machine.execGraphPower off s
  | .logRead off => Sys2Proof.Machine.execLogRead off s
  | .helloSend off => Sys2Proof.Machine.execHelloSend off s
  | .ctlHello off => Sys2Proof.Machine.execCtlHello off s
  | .ctlRetire off routes => Sys2Proof.Machine.execCtlRetire off routes s
  | .ctlMembers off routes => Sys2Proof.Machine.execCtlMembers off routes s
  | .peerLost off chip routes => Sys2Proof.Machine.execPeerLost off chip routes s
  | .selfRetire off routes => Sys2Proof.Machine.execSelfRetire off routes s
  | .dumpNow off complete => Sys2Proof.Machine.execDumpNow off complete s
  | .dumpDataRead off => Sys2Proof.Machine.execDumpDataRead off s
  | .firmwareCrash off cause core complete => Sys2Proof.Machine.execFirmwareCrash off cause core complete s
  | .firmwareInitDone off => Sys2Proof.Machine.execFirmwareInitDone off s
  | .coldLoad off sfdp => Sys2Proof.Machine.execColdLoad off sfdp s
  | .chunkVerify off fw => Sys2Proof.Machine.execChunkVerify off fw s
  | .cfgNop off => Sys2Proof.Machine.execCfgNop off s
  | .writeReg off => Sys2Proof.Machine.execWriteReg off s
  | .waitTurns off => Sys2Proof.Machine.execWaitTurns off s
  | .waitTurnsExpiry off => Sys2Proof.Machine.execWaitTurnsExpiry off s
  | .pollState off => Sys2Proof.Machine.execPollState off s
  | .pollTimeout off => Sys2Proof.Machine.execPollTimeout off s
  | .setFar off => Sys2Proof.Machine.execSetFar off s
  | .writeFrames off => Sys2Proof.Machine.execWriteFrames off s
  | .repeatFrame off => Sys2Proof.Machine.execRepeatFrame off s
  | .loadMem off => Sys2Proof.Machine.execLoadMem off s
  | .loadEnd off decls ureg => Sys2Proof.Machine.execLoadEnd off decls ureg s
  | .cfgContinue off => Sys2Proof.Machine.execCfgContinue off s
  | .holdFwTimeout off => Sys2Proof.Machine.execHoldFwTimeout off s
  | .partGo off => Sys2Proof.Machine.execPartGo off s
  | .warmReplay off => Sys2Proof.Machine.execWarmReplay off s
  | .chainFrame off type hop stream payload crcOk => Sys2Proof.Machine.execChainFrame off type hop stream payload crcOk s
  | .chainResend off ms => Sys2Proof.Machine.execChainResend off ms s
  | .flashRead off => Sys2Proof.Machine.execFlashRead off s
  | .flashProgram off => Sys2Proof.Machine.execFlashProgram off s
  | .flashErase off => Sys2Proof.Machine.execFlashErase off s
  | .flashOpDone off ok => Sys2Proof.Machine.execFlashOpDone off ok s
  | .secStatusSvc off who req => Sys2Proof.Machine.execSecStatusSvc off who req s
  | .selftest off who req => Sys2Proof.Machine.execSelftest off who req s
  | .secSelftestDone off failed micros => Sys2Proof.Machine.execSecSelftestDone off failed micros s
  | .authChallenge off who req => Sys2Proof.Machine.execAuthChallenge off who req s
  | .authResponse off who req => Sys2Proof.Machine.execAuthResponse off who req s
  | .logout off who req => Sys2Proof.Machine.execLogout off who req s
  | .coSessionIdle off who => Sys2Proof.Machine.execCoSessionIdle off who s
  | .nonceExpiry off who => Sys2Proof.Machine.execNonceExpiry off who s
  | .stkEstablish off who req => Sys2Proof.Machine.execStkEstablish off who req s
  | .stkClear off who req => Sys2Proof.Machine.execStkClear off who req s
  | .sakLoad off who req => Sys2Proof.Machine.execSakLoad off who req s
  | .sakClear off who req => Sys2Proof.Machine.execSakClear off who req s
  | .sakLoadPlain off who req => Sys2Proof.Machine.execSakLoadPlain off who req s
  | .secRandom off who req => Sys2Proof.Machine.execSecRandom off who req s
  | .randomRaw off who req => Sys2Proof.Machine.execRandomRaw off who req s
  | .setMode off who req => Sys2Proof.Machine.execSetMode off who req s
  | .zeroize off who req => Sys2Proof.Machine.execZeroize off who req s
  | .zeroizeNLow off => Sys2Proof.Machine.execZeroizeNLow off s
  | .debugLock off who req => Sys2Proof.Machine.execDebugLock off who req s
  | .provisionIk off who req readback => Sys2Proof.Machine.execProvisionIk off who req readback s
  | .revoke off who req readback => Sys2Proof.Machine.execRevoke off who req readback s
  | .imageOpen off who req => Sys2Proof.Machine.execImageOpen off who req s
  | .imageChunk off who req tag => Sys2Proof.Machine.execImageChunk off who req tag s
  | .healthTestFail off t => Sys2Proof.Machine.execHealthTestFail off t s
  | .drbgReseed off healthy => Sys2Proof.Machine.execDrbgReseed off healthy s
  | .tapInstruction off opcode => Sys2Proof.Machine.execTapInstruction off opcode s
  | .safeStateEntry off codes src => Sys2Proof.Machine.execSafeStateEntry off codes src s
  | .safeCtlEnter off => Sys2Proof.Machine.execSafeCtlEnter off s
  | .safeResetAssert off dumped ddrKept => Sys2Proof.Machine.execSafeResetAssert off dumped ddrKept s
  | .mainResetRelease off straps cool waitUs holdUs islandUs => Sys2Proof.Machine.execMainResetRelease off straps cool waitUs holdUs islandUs s
  | .restartComplete off micros => Sys2Proof.Machine.execRestartComplete off micros s
  | .warmRestartTimeout off us => Sys2Proof.Machine.execWarmRestartTimeout off us s
  | .safeCtlRestart off => Sys2Proof.Machine.execSafeCtlRestart off s
  | .lrefReturn off => Sys2Proof.Machine.execLrefReturn off s
  | .rrefRestore off => Sys2Proof.Machine.execRrefRestore off s
  | .mainPgRise off => Sys2Proof.Machine.execMainPgRise off s
  | .bypForceNHigh off => Sys2Proof.Machine.execBypForceNHigh off s
  | .zeroizeNHigh off => Sys2Proof.Machine.execZeroizeNHigh off s
  | .rxFaultEnd off p => Sys2Proof.Machine.execRxFaultEnd off p s
  | .cdrLock off l gain ppm => Sys2Proof.Machine.execCdrLock off l gain ppm s
  | .prbsLock off l bits => Sys2Proof.Machine.execPrbsLock off l bits s
  | .anComplete off k base => Sys2Proof.Machine.execAnComplete off k base s
  | .pcieLinkUp off speed width => Sys2Proof.Machine.execPcieLinkUp off speed width s
  | .ltssmRecovery off enter => Sys2Proof.Machine.execLtssmRecovery off enter s
  | .tapRecordDelivery off tap inst => Sys2Proof.Machine.execTapRecordDelivery off tap inst s
  | .lwlReinstateDone off it pass => Sys2Proof.Machine.execLwlReinstateDone off it pass s
  | .ctlReinstate off routes => Sys2Proof.Machine.execCtlReinstate off routes s
  | .fltErr off => Sys2Proof.Machine.execFltErr off s
  | .pipelineUncorrError off u => Sys2Proof.Machine.execPipelineUncorrError off u s

end Sys2Proof.Machine
end

