-- ==== Sys2Proof/WellFormed.lean ====
section
/-!
DEFINITION. Well-formed commands: the offset of a command lies within a turn, and its data are not longer than
what the spec lets arrive at once: a frame of 9,600 B with its tags, a request of 8,064 B, a section chunk of 64 KiB.
-/

set_option Elab.async false

namespace Sys2Proof

/-- The offset within the turn at which a command falls, where it has one. -/
def Instr.offset? : Instr → Option Nat
  | .anchorLoss off _ => some off
  | .portQualified off _ => some off
  | .wdlPresetWrite off _ _ => some off
  | .wdlCountLoRead off => some off
  | .markArm off _ _ => some off
  | .fullCountBroadcast off _ _ => some off
  | .lrefLoss off => some off
  | .registerWrite off _ _ _ => some off
  | .rcCounterRead off _ _ _ => some off
  | .counterLoRead off _ _ => some off
  | .unassignedPageAccess off _ _ => some off
  | .restartingPageAccess off _ _ => some off
  | .stateMismatch off _ => some off
  | .unitSelftestDone off _ _ => some off
  | .reinstateSelftestDone off _ _ => some off
  | .snapshotTrigger off _ _ => some off
  | .snapAll off => some off
  | .pageLockSet off _ => some off
  | .lockAll off => some off
  | .signalDetectRise off _ => some off
  | .lossOfSignal off _ => some off
  | .trainingWordRx off _ _ _ _ _ => some off
  | .trainingAttemptTimeout off _ => some off
  | .backoffExpiry off _ => some off
  | .noPartnerRetry off _ => some off
  | .dataStart off _ => some off
  | .blockLock off _ _ => some off
  | .blockLockTimeout off _ => some off
  | .blockLockLoss off _ _ => some off
  | .laneTestDone off _ _ => some off
  | .fastRetrainTimeout off _ => some off
  | .errorInterval off _ _ => some off
  | .wanderSlip off _ _ => some off
  | .codeGroupSync off _ _ => some off
  | .anRestart off _ _ => some off
  | .laneSelfcheckFail off _ => some off
  | .candidateQualified off _ => some off
  | .candidateLoss off _ => some off
  | .rrefLoss off => some off
  | .losAssert off _ _ _ => some off
  | .losDeassert off _ _ _ => some off
  | .aprEntry off _ _ => some off
  | .aprPulse off _ _ => some off
  | .aprPulseEnd off _ _ => some off
  | .aprRestart off _ _ => some off
  | .laserWarm off _ _ => some off
  | .wavelengthLocked off _ _ _ => some off
  | .wavelengthUnlock off _ _ _ => some off
  | .offgrid off _ _ _ => some off
  | .lockFailure off _ _ => some off
  | .heaterDriveUpdate off _ => some off
  | .clampHold off _ => some off
  | .channelFaultDetect off _ _ => some off
  | .chReinstate off _ _ _ => some off
  | .chReinstateDone off _ _ _ => some off
  | .engineOverTemp off _ _ => some off
  | .engineControllerFail off _ => some off
  | .islandPowerOn off _ => some off
  | .islandSupplyFail off => some off
  | .heartbeatLoss off => some off
  | .mainPgFall off => some off
  | .mainUndervoltage off => some off
  | .bypForceNLow off => some off
  | .bypForceWrite off _ => some off
  | .resetNFall off _ => some off
  | .resetNRise off => some off
  | .bypPolicyWrite off _ => some off
  | .frameIntake off _ _ _ _ _ _ _ _ _ => some off
  | .captureDeadline off _ => some off
  | .linkLoss off _ _ => some off
  | .linkUp off _ _ => some off
  | .propagationRemove off _ => some off
  | .rxFault off _ _ => some off
  | .unsealFrame off _ => some off
  | .saPnWrite off _ _ _ _ _ _ => some off
  | .parseFrame off _ => some off
  | .flowLookup off _ => some off
  | .flowMissReturn off _ _ => some off
  | .missLate off _ => some off
  | .recordExpiry off _ _ => some off
  | .annotationReturn off _ _ _ _ => some off
  | .ftInit off _ => some off
  | .ftInitDone off => some off
  | .streamOrder off _ => some off
  | .fileCarve off _ => some off
  | .featureBuild off _ => some off
  | .stageStall off _ _ => some off
  | .storeEccError off _ _ _ _ => some off
  | .scoreDispatch off _ => some off
  | .scoreRecord off _ => some off
  | .joinDeadline off _ _ => some off
  | .orderRelease off _ => some off
  | .ft4Reply off _ _ _ _ => some off
  | .ft4Timeout off _ => some off
  | .verdictAction off _ => some off
  | .divertDeadline off _ => some off
  | .copyAccept off _ _ => some off
  | .copyDeadline off _ => some off
  | .sealItem off _ _ => some off
  | .spoutTransmit off _ => some off
  | .injectionDescriptor off _ _ _ _ _ => some off
  | .tapReturnWord off _ _ _ => some off
  | .configScrub off _ _ _ _ => some off
  | .bramError off _ _ => some off
  | .fcgLockLoss off _ => some off
  | .clockMonitorOut off _ _ => some off
  | .uregAccess off _ _ _ => some off
  | .uregTimeout off _ => some off
  | .packetRoute off _ _ _ => some off
  | .gtsDrop off _ _ _ => some off
  | .progStart off _ _ _ => some off
  | .batchPacket off _ => some off
  | .cpl off _ _ _ _ _ => some off
  | .operationTimeout off _ => some off
  | .scorePacket off _ _ _ _ => some off
  | .scoreClose off => some off
  | .knownAnswerCheck off _ _ => some off
  | .localStoreEcc off _ _ => some off
  | .linkEccError off _ _ _ _ => some off
  | .routerFault off _ => some off
  | .probeArm off _ _ => some off
  | .windowProject off => some off
  | .creditReturn off _ => some off
  | .calStep off _ => some off
  | .calForce off _ => some off
  | .epochWrite off => some off
  | .epochAck off _ => some off
  | .consumerStale off _ => some off
  | .settleEnd off => some off
  | .lwlItemFault off _ => some off
  | .lwlReinstate off _ => some off
  | .lwlControllerFail off => some off
  | .lwlTableAccess off _ => some off
  | .cisternReadReq off _ => some off
  | .fillReturn off _ _ => some off
  | .objectTableWrite off _ => some off
  | .cisternSramError off _ _ => some off
  | .ddrReadError off _ _ _ _ => some off
  | .patrolScrub off _ _ _ => some off
  | .scrubLate off _ _ => some off
  | .dmcRetireGo off _ _ => some off
  | .rowCopyDone off _ _ => some off
  | .dmcFault off _ _ => some off
  | .dimmThermal off _ _ => some off
  | .ringDoorbell off _ _ _ => some off
  | .pumpChunk off _ _ => some off
  | .descriptorComplete off _ _ => some off
  | .pumpTimeout off _ _ => some off
  | .contextHalt off _ _ => some off
  | .bmeClear off _ => some off
  | .pumpSelfcheckFail off _ => some off
  | .nrgCapWrite off _ => some off
  | .nrgDebtAdd off _ => some off
  | .pmbusPoll off _ _ _ => some off
  | .poutMaxRead off _ => some off
  | .measurementWindowClose off => some off
  | .thermalSample off _ => some off
  | .thermalCrit off => some off
  | .ledgerFault off => some off
  | .pwrFault off => some off
  | .perstDeassert off => some off
  | .cfgReadyWrite off _ => some off
  | .cfgReadyTimeout off => some off
  | .configRequest off _ _ => some off
  | .vfEnable off _ => some off
  | .ctxBindWrite off _ _ _ => some off
  | .contextSlotWrite off _ _ _ _ => some off
  | .deliveryFreePost off _ _ _ => some off
  | .deliveryAccept off _ _ _ => some off
  | .msixUnmask off _ _ => some off
  | .holdoffExpiry off _ _ => some off
  | .functionLevelReset off _ => some off
  | .flrComplete off _ => some off
  | .completionArrival off _ _ => some off
  | .completionTimeout off _ _ => some off
  | .ctoValueChange off _ => some off
  | .endpointReset off _ => some off
  | .hostInternalError off => some off
  | .poisonedTlp off _ _ => some off
  | .rykFrameReceive off _ _ _ _ _ => some off
  | .llctl off _ _ _ _ _ _ _ _ => some off
  | .replayTimeout off _ _ => some off
  | .linkInit off _ _ _ _ _ _ => some off
  | .retrainingTimeout off _ => some off
  | .linkAlign off _ _ _ _ _ => some off
  | .secondLaneWait off _ => some off
  | .linkRewiden off _ => some off
  | .t3Rsp off => some off
  | .t3Timeout off _ => some off
  | .t3Req off => some off
  | .copyFrameRx off _ => some off
  | .refDepthErr off _ => some off
  | .linkFault off _ _ => some off
  | .gatewayFault off => some off
  | .heartbeatKick off => some off
  | .floorDuty off => some off
  | .crosstalkRefresh off => some off
  | .retirementRecordWrite off => some off
  | .reconciliation off => some off
  | .mailboxGo off _ => some off
  | .negotiate off => some off
  | .mbStatus off => some off
  | .updateStage off => some off
  | .updateStaged off _ => some off
  | .updateCommit off => some off
  | .updateAbort off => some off
  | .updateHandoff off => some off
  | .updateAdopted off => some off
  | .updateRollback off _ => some off
  | .collStart off _ => some off
  | .collCancel off => some off
  | .collFrame off _ => some off
  | .collTimeout off _ => some off
  | .chipRetire off _ => some off
  | .chipReinstate off _ => some off
  | .t3RemapSet off => some off
  | .graphPower off => some off
  | .logRead off => some off
  | .helloSend off => some off
  | .ctlHello off => some off
  | .ctlRetire off _ => some off
  | .ctlMembers off _ => some off
  | .peerLost off _ _ => some off
  | .selfRetire off _ => some off
  | .dumpNow off _ => some off
  | .dumpDataRead off => some off
  | .firmwareCrash off _ _ _ => some off
  | .firmwareInitDone off => some off
  | .coldLoad off _ => some off
  | .chunkVerify off _ => some off
  | .cfgNop off => some off
  | .writeReg off => some off
  | .waitTurns off => some off
  | .waitTurnsExpiry off => some off
  | .pollState off => some off
  | .pollTimeout off => some off
  | .setFar off => some off
  | .writeFrames off => some off
  | .repeatFrame off => some off
  | .loadMem off => some off
  | .loadEnd off _ _ => some off
  | .cfgContinue off => some off
  | .holdFwTimeout off => some off
  | .partGo off => some off
  | .warmReplay off => some off
  | .chainFrame off _ _ _ _ _ => some off
  | .chainResend off _ => some off
  | .flashRead off => some off
  | .flashProgram off => some off
  | .flashErase off => some off
  | .flashOpDone off _ => some off
  | .secStatusSvc off _ _ => some off
  | .selftest off _ _ => some off
  | .secSelftestDone off _ _ => some off
  | .authChallenge off _ _ => some off
  | .authResponse off _ _ => some off
  | .logout off _ _ => some off
  | .coSessionIdle off _ => some off
  | .nonceExpiry off _ => some off
  | .stkEstablish off _ _ => some off
  | .stkClear off _ _ => some off
  | .sakLoad off _ _ => some off
  | .sakClear off _ _ => some off
  | .sakLoadPlain off _ _ => some off
  | .secRandom off _ _ => some off
  | .randomRaw off _ _ => some off
  | .setMode off _ _ => some off
  | .zeroize off _ _ => some off
  | .zeroizeNLow off => some off
  | .debugLock off _ _ => some off
  | .provisionIk off _ _ _ => some off
  | .revoke off _ _ _ => some off
  | .imageOpen off _ _ => some off
  | .imageChunk off _ _ _ => some off
  | .healthTestFail off _ => some off
  | .drbgReseed off _ => some off
  | .tapInstruction off _ => some off
  | .safeStateEntry off _ _ => some off
  | .safeCtlEnter off => some off
  | .safeResetAssert off _ _ => some off
  | .mainResetRelease off _ _ _ _ _ => some off
  | .restartComplete off _ => some off
  | .warmRestartTimeout off _ => some off
  | .safeCtlRestart off => some off
  | .lrefReturn off => some off
  | .rrefRestore off => some off
  | .mainPgRise off => some off
  | .bypForceNHigh off => some off
  | .zeroizeNHigh off => some off
  | .rxFaultEnd off _ => some off
  | .cdrLock off _ _ _ => some off
  | .prbsLock off _ _ => some off
  | .anComplete off _ _ => some off
  | .pcieLinkUp off _ _ => some off
  | .ltssmRecovery off _ => some off
  | .tapRecordDelivery off _ _ => some off
  | .lwlReinstateDone off _ _ => some off
  | .ctlReinstate off _ => some off
  | .fltErr off => some off
  | .pipelineUncorrError off _ => some off
  | .turnBoundary _ => none
  | .windlassExitStopped => none
  | .slewLock => none
  | .learnedSet => none
  | .markFire _ => none
  | .leakDecrement _ _ => none
  | .holeHoldExpiry _ _ => none
  | .turnTickTrigger _ => none

/-- How many bytes of data a command carries. -/
def Instr.dataLen : Instr → Nat
  | .turnBoundary _ => 0
  | .windlassExitStopped => 0
  | .anchorLoss _ _ => 0
  | .portQualified _ _ => 0
  | .slewLock => 0
  | .learnedSet => 0
  | .wdlPresetWrite _ _ _ => 0
  | .wdlCountLoRead _ => 0
  | .markArm _ _ _ => 0
  | .markFire _ => 0
  | .fullCountBroadcast _ _ _ => 0
  | .lrefLoss _ => 0
  | .registerWrite _ _ _ data => data.length
  | .rcCounterRead _ _ _ be => be.length
  | .counterLoRead _ _ _ => 0
  | .unassignedPageAccess _ _ _ => 0
  | .restartingPageAccess _ _ _ => 0
  | .stateMismatch _ _ => 0
  | .unitSelftestDone _ _ _ => 0
  | .reinstateSelftestDone _ _ _ => 0
  | .snapshotTrigger _ _ _ => 0
  | .snapAll _ => 0
  | .pageLockSet _ _ => 0
  | .lockAll _ => 0
  | .signalDetectRise _ _ => 0
  | .lossOfSignal _ _ => 0
  | .trainingWordRx _ _ _ _ _ _ => 0
  | .trainingAttemptTimeout _ _ => 0
  | .backoffExpiry _ _ => 0
  | .noPartnerRetry _ _ => 0
  | .dataStart _ _ => 0
  | .blockLock _ _ _ => 0
  | .blockLockTimeout _ _ => 0
  | .blockLockLoss _ _ _ => 0
  | .laneTestDone _ _ _ => 0
  | .fastRetrainTimeout _ _ => 0
  | .errorInterval _ _ _ => 0
  | .leakDecrement _ _ => 0
  | .wanderSlip _ _ _ => 0
  | .codeGroupSync _ _ _ => 0
  | .anRestart _ _ _ => 0
  | .laneSelfcheckFail _ _ => 0
  | .candidateQualified _ _ => 0
  | .candidateLoss _ _ => 0
  | .rrefLoss _ => 0
  | .losAssert _ _ _ _ => 0
  | .losDeassert _ _ _ _ => 0
  | .aprEntry _ _ _ => 0
  | .aprPulse _ _ _ => 0
  | .aprPulseEnd _ _ _ => 0
  | .aprRestart _ _ _ => 0
  | .laserWarm _ _ _ => 0
  | .wavelengthLocked _ _ _ _ => 0
  | .wavelengthUnlock _ _ _ _ => 0
  | .offgrid _ _ _ _ => 0
  | .lockFailure _ _ _ => 0
  | .heaterDriveUpdate _ _ => 0
  | .clampHold _ _ => 0
  | .channelFaultDetect _ _ _ => 0
  | .chReinstate _ _ _ _ => 0
  | .chReinstateDone _ _ _ _ => 0
  | .engineOverTemp _ _ _ => 0
  | .engineControllerFail _ _ => 0
  | .islandPowerOn _ _ => 0
  | .islandSupplyFail _ => 0
  | .heartbeatLoss _ => 0
  | .mainPgFall _ => 0
  | .mainUndervoltage _ => 0
  | .bypForceNLow _ => 0
  | .bypForceWrite _ _ => 0
  | .resetNFall _ _ => 0
  | .resetNRise _ => 0
  | .bypPolicyWrite _ _ => 0
  | .frameIntake _ _ _ b _ _ _ _ _ _ => b.length
  | .captureDeadline _ _ => 0
  | .linkLoss _ _ _ => 0
  | .linkUp _ _ _ => 0
  | .propagationRemove _ _ => 0
  | .rxFault _ _ _ => 0
  | .unsealFrame _ _ => 0
  | .saPnWrite _ _ _ _ _ _ _ => 0
  | .parseFrame _ _ => 0
  | .flowLookup _ _ => 0
  | .flowMissReturn _ _ _ => 0
  | .missLate _ _ => 0
  | .recordExpiry _ _ _ => 0
  | .annotationReturn _ _ _ b _ => b.length
  | .ftInit _ _ => 0
  | .ftInitDone _ => 0
  | .streamOrder _ _ => 0
  | .holeHoldExpiry _ _ => 0
  | .fileCarve _ _ => 0
  | .featureBuild _ _ => 0
  | .stageStall _ _ _ => 0
  | .storeEccError _ _ _ _ _ => 0
  | .scoreDispatch _ _ => 0
  | .scoreRecord _ _ => 0
  | .joinDeadline _ _ _ => 0
  | .orderRelease _ _ => 0
  | .ft4Reply _ _ _ _ _ => 0
  | .ft4Timeout _ _ => 0
  | .verdictAction _ _ => 0
  | .divertDeadline _ _ => 0
  | .copyAccept _ _ _ => 0
  | .copyDeadline _ _ => 0
  | .sealItem _ _ _ => 0
  | .spoutTransmit _ _ => 0
  | .injectionDescriptor _ _ _ _ _ b => b.length
  | .tapReturnWord _ _ _ _ => 0
  | .configScrub _ _ _ _ _ => 0
  | .bramError _ _ _ => 0
  | .fcgLockLoss _ _ => 0
  | .clockMonitorOut _ _ _ => 0
  | .uregAccess _ _ _ _ => 0
  | .uregTimeout _ _ => 0
  | .packetRoute _ _ _ _ => 0
  | .gtsDrop _ _ _ _ => 0
  | .progStart _ _ _ _ => 0
  | .batchPacket _ _ => 0
  | .turnTickTrigger _ => 0
  | .cpl _ _ _ _ _ _ => 0
  | .operationTimeout _ _ => 0
  | .scorePacket _ _ _ _ _ => 0
  | .scoreClose _ => 0
  | .knownAnswerCheck _ _ _ => 0
  | .localStoreEcc _ _ _ => 0
  | .linkEccError _ _ _ _ _ => 0
  | .routerFault _ _ => 0
  | .probeArm _ _ _ => 0
  | .windowProject _ => 0
  | .creditReturn _ _ => 0
  | .calStep _ _ => 0
  | .calForce _ _ => 0
  | .epochWrite _ => 0
  | .epochAck _ _ => 0
  | .consumerStale _ _ => 0
  | .settleEnd _ => 0
  | .lwlItemFault _ _ => 0
  | .lwlReinstate _ _ => 0
  | .lwlControllerFail _ => 0
  | .lwlTableAccess _ _ => 0
  | .cisternReadReq _ _ => 0
  | .fillReturn _ _ _ => 0
  | .objectTableWrite _ _ => 0
  | .cisternSramError _ _ _ => 0
  | .ddrReadError _ _ _ _ _ => 0
  | .patrolScrub _ _ _ _ => 0
  | .scrubLate _ _ _ => 0
  | .dmcRetireGo _ _ _ => 0
  | .rowCopyDone _ _ _ => 0
  | .dmcFault _ _ _ => 0
  | .dimmThermal _ _ _ => 0
  | .ringDoorbell _ _ _ _ => 0
  | .pumpChunk _ _ host => host.length
  | .descriptorComplete _ _ _ => 0
  | .pumpTimeout _ _ _ => 0
  | .contextHalt _ _ _ => 0
  | .bmeClear _ _ => 0
  | .pumpSelfcheckFail _ _ => 0
  | .nrgCapWrite _ _ => 0
  | .nrgDebtAdd _ _ => 0
  | .pmbusPoll _ _ _ _ => 0
  | .poutMaxRead _ _ => 0
  | .measurementWindowClose _ => 0
  | .thermalSample _ _ => 0
  | .thermalCrit _ => 0
  | .ledgerFault _ => 0
  | .pwrFault _ => 0
  | .perstDeassert _ => 0
  | .cfgReadyWrite _ _ => 0
  | .cfgReadyTimeout _ => 0
  | .configRequest _ _ _ => 0
  | .vfEnable _ _ => 0
  | .ctxBindWrite _ _ _ _ => 0
  | .contextSlotWrite _ _ _ _ _ => 0
  | .deliveryFreePost _ _ _ _ => 0
  | .deliveryAccept _ _ _ _ => 0
  | .msixUnmask _ _ _ => 0
  | .holdoffExpiry _ _ _ => 0
  | .functionLevelReset _ _ => 0
  | .flrComplete _ _ => 0
  | .completionArrival _ _ b => b.length
  | .completionTimeout _ _ _ => 0
  | .ctoValueChange _ _ => 0
  | .endpointReset _ _ => 0
  | .hostInternalError _ => 0
  | .poisonedTlp _ _ _ => 0
  | .rykFrameReceive _ _ _ _ _ _ => 0
  | .llctl _ _ _ _ _ _ _ _ _ => 0
  | .replayTimeout _ _ _ => 0
  | .linkInit _ _ _ _ _ _ _ => 0
  | .retrainingTimeout _ _ => 0
  | .linkAlign _ _ _ _ _ _ => 0
  | .secondLaneWait _ _ => 0
  | .linkRewiden _ _ => 0
  | .t3Rsp _ => 0
  | .t3Timeout _ _ => 0
  | .t3Req _ => 0
  | .copyFrameRx _ _ => 0
  | .refDepthErr _ _ => 0
  | .linkFault _ _ _ => 0
  | .gatewayFault _ => 0
  | .heartbeatKick _ => 0
  | .floorDuty _ => 0
  | .crosstalkRefresh _ => 0
  | .retirementRecordWrite _ => 0
  | .reconciliation _ => 0
  | .mailboxGo _ _ => 0
  | .negotiate _ => 0
  | .mbStatus _ => 0
  | .updateStage _ => 0
  | .updateStaged _ _ => 0
  | .updateCommit _ => 0
  | .updateAbort _ => 0
  | .updateHandoff _ => 0
  | .updateAdopted _ => 0
  | .updateRollback _ _ => 0
  | .collStart _ _ => 0
  | .collCancel _ => 0
  | .collFrame _ _ => 0
  | .collTimeout _ _ => 0
  | .chipRetire _ _ => 0
  | .chipReinstate _ _ => 0
  | .t3RemapSet _ => 0
  | .graphPower _ => 0
  | .logRead _ => 0
  | .helloSend _ => 0
  | .ctlHello _ => 0
  | .ctlRetire _ _ => 0
  | .ctlMembers _ _ => 0
  | .peerLost _ _ _ => 0
  | .selfRetire _ _ => 0
  | .dumpNow _ _ => 0
  | .dumpDataRead _ => 0
  | .firmwareCrash _ _ _ _ => 0
  | .firmwareInitDone _ => 0
  | .coldLoad _ _ => 0
  | .chunkVerify _ _ => 0
  | .cfgNop _ => 0
  | .writeReg _ => 0
  | .waitTurns _ => 0
  | .waitTurnsExpiry _ => 0
  | .pollState _ => 0
  | .pollTimeout _ => 0
  | .setFar _ => 0
  | .writeFrames _ => 0
  | .repeatFrame _ => 0
  | .loadMem _ => 0
  | .loadEnd _ _ _ => 0
  | .cfgContinue _ => 0
  | .holdFwTimeout _ => 0
  | .partGo _ => 0
  | .warmReplay _ => 0
  | .chainFrame _ _ _ _ payload _ => payload.length
  | .chainResend _ _ => 0
  | .flashRead _ => 0
  | .flashProgram _ => 0
  | .flashErase _ => 0
  | .flashOpDone _ _ => 0
  | .secStatusSvc _ _ req => req.length
  | .selftest _ _ req => req.length
  | .secSelftestDone _ _ _ => 0
  | .authChallenge _ _ req => req.length
  | .authResponse _ _ req => req.length
  | .logout _ _ req => req.length
  | .coSessionIdle _ _ => 0
  | .nonceExpiry _ _ => 0
  | .stkEstablish _ _ req => req.length
  | .stkClear _ _ req => req.length
  | .sakLoad _ _ req => req.length
  | .sakClear _ _ req => req.length
  | .sakLoadPlain _ _ req => req.length
  | .secRandom _ _ req => req.length
  | .randomRaw _ _ req => req.length
  | .setMode _ _ req => req.length
  | .zeroize _ _ req => req.length
  | .zeroizeNLow _ => 0
  | .debugLock _ _ req => req.length
  | .provisionIk _ _ req _ => req.length
  | .revoke _ _ req _ => req.length
  | .imageOpen _ _ req => req.length
  | .imageChunk _ _ req tag => req.length + tag.length
  | .healthTestFail _ _ => 0
  | .drbgReseed _ _ => 0
  | .tapInstruction _ _ => 0
  | .safeStateEntry _ _ _ => 0
  | .safeCtlEnter _ => 0
  | .safeResetAssert _ _ _ => 0
  | .mainResetRelease _ _ _ _ _ _ => 0
  | .restartComplete _ _ => 0
  | .warmRestartTimeout _ _ => 0
  | .safeCtlRestart _ => 0
  | .lrefReturn _ => 0
  | .rrefRestore _ => 0
  | .mainPgRise _ => 0
  | .bypForceNHigh _ => 0
  | .zeroizeNHigh _ => 0
  | .rxFaultEnd _ _ => 0
  | .cdrLock _ _ _ _ => 0
  | .prbsLock _ _ _ => 0
  | .anComplete _ _ _ => 0
  | .pcieLinkUp _ _ _ => 0
  | .ltssmRecovery _ _ => 0
  | .tapRecordDelivery _ _ _ => 0
  | .lwlReinstateDone _ _ _ => 0
  | .ctlReinstate _ _ => 0
  | .fltErr _ => 0
  | .pipelineUncorrError _ _ => 0

/-- The offset lies within a turn of 65,536 blk (R12). -/
def Instr.offsetOk (i : Instr) : Bool :=
  match i.offset? with
  | some o => o < 65536
  | none => true

/-- The data are no longer than 64 KiB. -/
def Instr.dataOk (i : Instr) : Bool := i.dataLen ≤ 65536

/-- A well-formed command. -/
def Instr.wellFormed (i : Instr) : Bool := i.offsetOk && i.dataOk

end Sys2Proof
end

