-- ==== Sys2Proof/Safety.lean ====
section
/-!
DEFINITION. What statements about runs are made of: the canonical form of the state's maps, the queue, safe runs.
-/

set_option Elab.async false

namespace Sys2Proof.Machine

open Sys2Proof

/-- A map in canonical form: keys strictly rising, no key listed at the value an unlisted key has. -/
def FMap.canonical {α : Type} [DecidableEq α] (m : FMap α) (d : Nat → α) : Bool :=
  FMap.sorted m && m.all (fun e => e.2 ≠ d e.1)

/-- The register file and the byte memories of the block in canonical form, so that equal contents are equal data. -/
structure State.Canonical (s : State) : Prop where
  regs   : FMap.canonical s.regs regReset = true
  ddr    : Mem.wf 0 s.ddr = true
  flash  : Mem.wf 0xFF s.flash.mem = true
  direct : Mem.wf 0 s.memory.direct = true
  stores : ∀ e ∈ s.tiles, Mem.wf 0 e.2.store = true

/-- A page that the bookkeeping of interrupts, attention does not write beside its header. -/
abbrev Apart (p : Nat) : Prop := p ≠ Pg.flt ∧ p ≠ Pg.fltAtt ∧ p ≠ Pg.pci 1 ∧ p < 0x4000

/-- A register of a block's own: past the page header, on no page that bookkeeping writes. -/
abbrev Own (p o : Nat) : Prop := (0x040 ≤ o ∧ o < 4096) ∧ Apart p

/-- The next state of an outcome; none where the block stops. -/
def next? (o : Host.Outcome State Fault Refusal) : Option State :=
  match o with
  | .next t => some t
  | _ => none

/-- A run that does not stop: after any number of steps the block answers a next state. -/
def State.NeverStops (s : State) : Prop := ∀ n, ∃ t, core.run n s = .next t

/-! ### What a command may change -/

/-- The pieces of the state, for saying what a command may change: the registers of the pages of one class of Table REG-2, by
its code, or one field of the state. -/
inductive Piece where
  /-- The registers of every page of a class. -/
  | regs (cls : Nat)
  /-- The queue of commands. -/
  | pending
  /-- The registers as of the last boundary commit. -/
  | force
  /-- Writes past a cut-off, and writes to units asleep. -/
  | late
  /-- Registers with a write of the turn to come. -/
  | written
  /-- The snapshot copies. -/
  | snaps
  /-- The counts of the snapshots. -/
  | snapAt
  /-- High words of the 64-bit counters. -/
  | wideHi
  /-- The data of the last read. -/
  | rdata
  /-- What the block has sent out. -/
  | out
  /-- The counter of free values. -/
  | draws
  /-- The Windlass count. -/
  | count
  /-- The Windlass. -/
  | wdl
  /-- The pins and resets. -/
  | pins
  /-- The safe-state controller. -/
  | safe
  /-- The serial lanes. -/
  | lanes
  /-- The optical channels. -/
  | chans
  /-- The rack reference. -/
  | rref
  /-- The units' requests. -/
  | units
  /-- The functions' configuration. -/
  | fns
  /-- The line ports. -/
  | ports
  /-- The MACsec keys. -/
  | saks
  /-- The line pipeline. -/
  | pipe
  /-- DDR. -/
  | ddr
  /-- The Ryuklin links. -/
  | ryk
  /-- The host interface. -/
  | host
  /-- The energy accounting. -/
  | energy
  /-- The tile network. -/
  | net
  /-- The tiles. -/
  | tiles
  /-- The batches. -/
  | batches
  /-- The Cistern and the DDR controllers. -/
  | memory
  /-- The Pumps. -/
  | pumps
  /-- The PCIe endpoint. -/
  | pcie
  /-- The Lightwell. -/
  | lwl
  /-- The security island. -/
  | sec
  /-- The flash and its controller. -/
  | flash
  /-- The load engine. -/
  | load
  /-- The fabric. -/
  | fabric
  /-- The firmware. -/
  | cpc
  /-- The test access port. -/
  | tap
  /-- What the events of the present clock have done to registers. -/
  | clk
  deriving DecidableEq, Repr

/-- A piece reads the same in two states. -/
def Piece.same (x : Piece) (s t : State) : Prop :=
  match x with
  | .regs c => ∀ page off, pageClass page = c → c ≠ 0 → t.reg (regKey page off) = s.reg (regKey page off)
  | .pending => t.pending = s.pending
  | .force => t.force = s.force
  | .late => t.late = s.late ∧ t.held = s.held
  | .written => t.written = s.written
  | .snaps => t.snaps = s.snaps
  | .snapAt => t.snapAt = s.snapAt
  | .wideHi => t.wideHi = s.wideHi
  | .rdata => t.rdata = s.rdata
  | .out => t.out = s.out
  | .draws => t.draws = s.draws
  | .count => t.count = s.count
  | .wdl => t.wdl = s.wdl
  | .pins => t.pins = s.pins
  | .safe => t.safe = s.safe
  | .lanes => t.lanes = s.lanes
  | .chans => t.chans = s.chans
  | .rref => t.rref = s.rref
  | .units => t.units = s.units
  | .fns => t.fns = s.fns
  | .ports => t.ports = s.ports
  | .saks => t.saks = s.saks
  | .pipe => t.pipe = s.pipe
  | .ddr => t.ddr = s.ddr
  | .ryk => t.ryk = s.ryk
  | .host => t.host = s.host
  | .energy => t.energy = s.energy
  | .net => t.net = s.net
  | .tiles => t.tiles = s.tiles
  | .batches => t.batches = s.batches
  | .memory => t.memory = s.memory
  | .pumps => t.pumps = s.pumps
  | .pcie => t.pcie = s.pcie
  | .lwl => t.lwl = s.lwl
  | .sec => t.sec = s.sec
  | .flash => t.flash = s.flash
  | .load => t.load = s.load
  | .fabric => t.fabric = s.fabric
  | .cpc => t.cpc = s.cpc
  | .tap => t.tap = s.tap
  | .clk => t.clk = s.clk

/-- The registers of every class of Table REG-2. -/
def Piece.everyClass : List Piece :=
  ((List.range 31).map (fun c => Piece.regs (c + 1))) ++ [.regs 0x20]

/-- The pieces that a command may change, over all its operands; for a command with a page as its operand, also the registers
of that page's class. Class codes are those of Table REG-2. -/
def mayChange (i : Instr) : List Piece :=
  match i with
  | .turnBoundary _ =>
    Piece.everyClass ++ [.force, .late, .written, .snaps, .snapAt, .wideHi, .out, .draws, .count, .wdl,
     .safe, .lanes, .chans, .units, .ports, .saks, .pipe, .ddr, .ryk, .host, .energy, .net, .tiles, .batches,
     .memory, .pumps, .lwl, .load, .fabric, .cpc, .clk]
  | .windlassExitStopped => [.regs 2, .regs 4, .regs 9, .out, .count, .wdl, .safe, .clk]
  | .anchorLoss _ _ => [.regs 2, .regs 9, .out, .count, .wdl, .clk]
  | .portQualified _ _ => [.regs 2, .count, .clk]
  | .slewLock => [.regs 1, .regs 2, .regs 9, .out, .draws, .wdl, .safe, .clk]
  | .learnedSet => [.regs 1, .regs 2, .draws, .safe, .clk]
  | .wdlPresetWrite _ _ _ => [.regs 2, .regs 4, .regs 9, .late, .written, .out, .count, .clk]
  | .wdlCountLoRead _ => [.regs 2, .rdata, .count, .clk]
  | .markArm _ _ _ =>
    Piece.everyClass ++ [.late, .written, .snaps, .snapAt, .wideHi, .out, .draws, .count, .wdl, .clk]
  | .markFire _ => Piece.everyClass ++ [.snaps, .snapAt, .wideHi, .out, .draws, .count, .wdl, .clk]
  | .fullCountBroadcast _ _ _ =>
    Piece.everyClass ++ [.force, .late, .written, .snaps, .snapAt, .wideHi, .out, .draws, .count, .wdl,
     .pins, .safe, .lanes, .chans, .units, .ports, .saks, .pipe, .ddr, .ryk, .host, .energy, .net, .tiles,
     .batches, .memory, .pumps, .lwl, .load, .fabric, .cpc, .clk]
  | .lrefLoss _ =>
    Piece.everyClass ++ [.force, .late, .written, .snaps, .snapAt, .wideHi, .out, .draws, .count, .wdl,
     .pins, .safe, .lanes, .chans, .units, .ports, .saks, .pipe, .ddr, .ryk, .host, .energy, .net, .tiles,
     .batches, .memory, .pumps, .lwl, .sec, .load, .fabric, .cpc, .clk]
  | .registerWrite _ _ _ _ =>
    Piece.everyClass ++ [.force, .late, .written, .snaps, .snapAt, .wideHi, .out, .draws, .count, .wdl,
     .pins, .safe, .lanes, .chans, .units, .ports, .saks, .pipe, .ddr, .ryk, .host, .energy, .net, .tiles,
     .batches, .memory, .pumps, .pcie, .lwl, .flash, .load, .fabric, .cpc, .clk]
  | .rcCounterRead _ _ _ _ =>
    Piece.everyClass ++ [.snaps, .snapAt, .wideHi, .rdata, .out, .draws, .count, .wdl, .clk]
  | .counterLoRead _ page _ =>
    Piece.everyClass ++ [.snaps, .snapAt, .wideHi, .rdata, .out, .draws, .count, .wdl, .clk]
  | .unassignedPageAccess _ _ _ => [.regs 1, .rdata, .count, .clk]
  | .restartingPageAccess _ _ _ => [.regs 1, .rdata, .count, .clk]
  | .stateMismatch _ page => [.regs 4, .regs 9, .regs (pageClass page.toNat), .out, .count, .units, .clk]
  | .unitSelftestDone _ page _ =>
    Piece.everyClass ++ [.force, .late, .written, .snaps, .snapAt, .wideHi, .out, .draws, .count, .wdl,
     .pins, .safe, .lanes, .chans, .units, .ports, .saks, .pipe, .ddr, .ryk, .host, .energy, .net, .tiles,
     .batches, .memory, .pumps, .lwl, .load, .fabric, .cpc, .clk]
  | .reinstateSelftestDone _ page _ =>
    [.regs 4, .regs 9, .regs (pageClass page.toNat), .out, .count, .units, .clk]
  | .snapshotTrigger _ page _ =>
    [.regs 1, .regs 4, .regs 9, .regs (pageClass page.toNat), .late, .written, .snaps, .snapAt, .wideHi,
     .out, .draws, .count, .clk]
  | .snapAll _ => Piece.everyClass ++ [.snaps, .snapAt, .wideHi, .draws, .count, .clk]
  | .pageLockSet _ page => [.regs 1, .regs (pageClass page.toNat), .count, .clk]
  | .lockAll _ => Piece.everyClass ++ [.count, .clk]
  | .signalDetectRise _ _ =>
    [.regs 1, .regs 2, .regs 4, .regs 9, .regs 0xa, .regs 0xe, .regs 0x11, .regs 0x1c, .out, .draws, .count,
     .wdl, .safe, .lanes, .pipe, .ryk, .clk]
  | .lossOfSignal _ _ =>
    [.regs 1, .regs 2, .regs 4, .regs 9, .regs 0xa, .regs 0xe, .regs 0x11, .regs 0x1c, .out, .draws, .count,
     .wdl, .safe, .lanes, .pipe, .ryk, .clk]
  | .trainingWordRx _ _ _ _ _ _ =>
    [.regs 1, .regs 4, .regs 9, .regs 0xa, .regs 0x11, .regs 0x1c, .out, .draws, .count, .safe, .lanes,
     .pipe, .ryk, .clk]
  | .trainingAttemptTimeout _ _ =>
    [.regs 1, .regs 4, .regs 9, .regs 0xa, .regs 0x11, .regs 0x1c, .out, .draws, .count, .safe, .lanes,
     .pipe, .ryk, .clk]
  | .backoffExpiry _ _ =>
    [.regs 1, .regs 4, .regs 9, .regs 0xa, .regs 0x11, .regs 0x1c, .out, .draws, .count, .safe, .lanes,
     .pipe, .ryk, .clk]
  | .noPartnerRetry _ _ =>
    [.regs 1, .regs 4, .regs 9, .regs 0xa, .regs 0x11, .regs 0x1c, .out, .draws, .count, .safe, .lanes,
     .pipe, .ryk, .clk]
  | .dataStart _ _ =>
    [.regs 1, .regs 4, .regs 9, .regs 0xa, .regs 0x11, .regs 0x1c, .out, .draws, .count, .safe, .lanes,
     .pipe, .ryk, .clk]
  | .blockLock _ _ _ =>
    [.regs 1, .regs 4, .regs 9, .regs 0xa, .regs 0x11, .regs 0x1c, .out, .draws, .count, .safe, .lanes,
     .pipe, .ryk, .clk]
  | .blockLockTimeout _ _ =>
    [.regs 1, .regs 4, .regs 9, .regs 0xa, .regs 0x11, .regs 0x1c, .out, .draws, .count, .safe, .lanes,
     .pipe, .ryk, .clk]
  | .blockLockLoss _ _ _ =>
    [.regs 1, .regs 4, .regs 9, .regs 0xa, .regs 0x11, .regs 0x1c, .out, .draws, .count, .safe, .lanes,
     .pipe, .ryk, .clk]
  | .laneTestDone _ _ _ =>
    [.regs 1, .regs 4, .regs 9, .regs 0xa, .regs 0x11, .regs 0x1c, .out, .draws, .count, .safe, .lanes,
     .pipe, .ryk, .clk]
  | .fastRetrainTimeout _ _ =>
    [.regs 1, .regs 4, .regs 9, .regs 0xa, .regs 0x11, .regs 0x1c, .out, .draws, .count, .safe, .lanes,
     .pipe, .ryk, .clk]
  | .errorInterval _ _ _ =>
    [.regs 1, .regs 4, .regs 9, .regs 0xa, .regs 0x11, .regs 0x1c, .out, .draws, .count, .safe, .lanes,
     .pipe, .ryk, .clk]
  | .leakDecrement page _ =>
    [.regs 1, .regs 4, .regs 9, .regs 0xa, .regs 0x11, .regs 0x14, .regs 0x15, .regs 0x16, .regs 0x17,
     .regs 0x1c, .regs (pageClass page.toNat), .out, .draws, .safe, .lanes, .pipe, .ryk, .net, .tiles,
     .batches, .memory, .clk]
  | .wanderSlip _ _ _ => [.regs 9, .regs 0xa, .regs 0x1c, .out, .count, .lanes, .ryk, .clk]
  | .codeGroupSync _ _ _ =>
    [.regs 1, .regs 4, .regs 6, .regs 9, .regs 0xa, .regs 0x1c, .out, .draws, .count, .safe, .lanes, .ryk,
     .sec, .load, .clk]
  | .anRestart _ _ _ => [.regs 1, .regs 4, .regs 9, .regs 0xa, .late, .written, .out, .count, .lanes, .clk]
  | .laneSelfcheckFail _ _ =>
    [.regs 1, .regs 4, .regs 9, .regs 0xa, .regs 0x11, .regs 0x1c, .out, .draws, .count, .safe, .lanes,
     .pipe, .ryk, .clk]
  | .candidateQualified _ _ => [.regs 1, .regs 0xa, .regs 0x1c, .draws, .count, .safe, .ryk, .clk]
  | .candidateLoss _ _ => [.regs 1, .regs 9, .regs 0xa, .regs 0x1c, .out, .draws, .count, .safe, .ryk, .clk]
  | .rrefLoss _ => [.regs 9, .regs 0xa, .regs 0x1c, .out, .draws, .count, .rref, .clk]
  | .losAssert _ _ _ _ =>
    [.regs 1, .regs 2, .regs 4, .regs 9, .regs 0xa, .regs 0xb, .regs 0xe, .regs 0x11, .regs 0x12, .regs 0x13,
     .regs 0x1c, .regs 0x20, .out, .draws, .count, .wdl, .safe, .lanes, .ports, .pipe, .ryk, .host, .clk]
  | .losDeassert _ _ _ _ =>
    [.regs 1, .regs 2, .regs 4, .regs 9, .regs 0xa, .regs 0xb, .regs 0xe, .regs 0x11, .regs 0x1c, .out,
     .draws, .count, .wdl, .safe, .lanes, .pipe, .ryk, .clk]
  | .aprEntry _ _ _ => [.regs 9, .regs 0xb, .out, .count, .clk]
  | .aprPulse _ _ _ => [.regs 0xb, .count, .clk]
  | .aprPulseEnd _ _ _ => [.regs 0xb, .count, .clk]
  | .aprRestart _ _ _ => [.regs 1, .regs 4, .regs 9, .regs 0xb, .late, .written, .out, .count, .clk]
  | .laserWarm _ _ _ => [.regs 0xb, .count, .clk]
  | .wavelengthLocked _ _ _ _ => [.regs 0xb, .count, .chans, .clk]
  | .wavelengthUnlock _ _ _ _ =>
    [.regs 1, .regs 2, .regs 4, .regs 9, .regs 0xa, .regs 0xb, .regs 0xe, .regs 0x11, .regs 0x1c, .out,
     .draws, .count, .wdl, .safe, .lanes, .pipe, .ryk, .clk]
  | .offgrid _ _ _ _ =>
    [.regs 1, .regs 2, .regs 4, .regs 9, .regs 0xa, .regs 0xb, .regs 0xe, .regs 0x11, .regs 0x1c, .out,
     .draws, .count, .wdl, .safe, .lanes, .pipe, .ryk, .clk]
  | .lockFailure _ _ _ =>
    [.regs 1, .regs 2, .regs 4, .regs 9, .regs 0xa, .regs 0xb, .regs 0xe, .regs 0x11, .regs 0x1c, .out,
     .draws, .count, .wdl, .safe, .lanes, .chans, .pipe, .ryk, .clk]
  | .heaterDriveUpdate _ _ =>
    [.regs 4, .regs 9, .regs 0xb, .regs 0xd, .regs 0x11, .regs 0x17, .regs 0x1c, .out, .draws, .count,
     .lanes, .pipe, .ryk, .lwl, .clk]
  | .clampHold _ _ =>
    [.regs 1, .regs 2, .regs 4, .regs 9, .regs 0xa, .regs 0xb, .regs 0xd, .regs 0xe, .regs 0x11, .regs 0x17,
     .regs 0x1c, .out, .draws, .count, .wdl, .safe, .lanes, .pipe, .ryk, .lwl, .clk]
  | .channelFaultDetect _ _ _ =>
    [.regs 1, .regs 2, .regs 4, .regs 9, .regs 0xa, .regs 0xb, .regs 0xe, .regs 0x11, .regs 0x1c, .out,
     .draws, .count, .wdl, .safe, .lanes, .pipe, .ryk, .clk]
  | .chReinstate _ _ _ _ =>
    [.regs 1, .regs 4, .regs 9, .regs 0xb, .late, .written, .out, .count, .chans, .clk]
  | .chReinstateDone _ _ _ _ => [.regs 4, .regs 9, .regs 0xb, .out, .count, .chans, .clk]
  | .engineOverTemp _ _ _ => [.regs 0xb, .count, .clk]
  | .engineControllerFail _ _ =>
    [.regs 1, .regs 2, .regs 4, .regs 9, .regs 0xa, .regs 0xb, .regs 0xe, .regs 0x11, .regs 0x1c, .out,
     .draws, .count, .wdl, .safe, .lanes, .pipe, .ryk, .clk]
  | .islandPowerOn _ _ =>
    Piece.everyClass ++ [.force, .late, .written, .snaps, .snapAt, .wideHi, .out, .draws, .count, .wdl,
     .pins, .safe, .lanes, .chans, .units, .ports, .saks, .pipe, .ddr, .ryk, .host, .energy, .net, .tiles,
     .batches, .memory, .pumps, .lwl, .sec, .load, .fabric, .cpc, .clk]
  | .islandSupplyFail _ =>
    Piece.everyClass ++ [.force, .late, .out, .count, .wdl, .pins, .lanes, .units, .sec, .clk]
  | .heartbeatLoss _ =>
    Piece.everyClass ++ [.force, .late, .written, .snaps, .snapAt, .wideHi, .out, .draws, .count, .wdl,
     .pins, .safe, .lanes, .chans, .units, .ports, .saks, .pipe, .ddr, .ryk, .host, .energy, .net, .tiles,
     .batches, .memory, .pumps, .lwl, .load, .fabric, .cpc, .clk]
  | .mainPgFall _ =>
    Piece.everyClass ++ [.force, .late, .written, .snaps, .snapAt, .wideHi, .out, .draws, .count, .wdl,
     .pins, .safe, .lanes, .chans, .units, .ports, .saks, .pipe, .ddr, .ryk, .host, .energy, .net, .tiles,
     .batches, .memory, .pumps, .lwl, .load, .fabric, .cpc, .clk]
  | .mainUndervoltage _ =>
    Piece.everyClass ++ [.force, .late, .written, .snaps, .snapAt, .wideHi, .out, .draws, .count, .wdl,
     .pins, .safe, .lanes, .chans, .units, .ports, .saks, .pipe, .ddr, .ryk, .host, .energy, .net, .tiles,
     .batches, .memory, .pumps, .lwl, .load, .fabric, .cpc, .clk]
  | .bypForceNLow _ => [.regs 9, .regs 0xc, .regs 0xe, .out, .draws, .count, .pins, .clk]
  | .bypForceWrite _ _ =>
    [.regs 4, .regs 9, .regs 0xc, .regs 0xe, .late, .written, .out, .draws, .count, .clk]
  | .resetNFall _ _ =>
    Piece.everyClass ++ [.force, .late, .written, .snaps, .snapAt, .wideHi, .out, .draws, .count, .wdl,
     .pins, .safe, .lanes, .chans, .units, .ports, .saks, .pipe, .ddr, .ryk, .host, .energy, .net, .tiles,
     .batches, .memory, .pumps, .lwl, .sec, .load, .fabric, .cpc, .clk]
  | .resetNRise _ => Piece.everyClass ++ [.out, .count, .pins, .sec, .clk]
  | .bypPolicyWrite _ _ => [.regs 4, .regs 9, .regs 0xc, .force, .late, .written, .out, .count, .clk]
  | .frameIntake _ _ _ _ _ _ _ _ _ _ =>
    [.regs 9, .regs 0xe, .regs 0x10, .regs 0x11, .regs 0x13, .wideHi, .out, .count, .pipe, .clk]
  | .captureDeadline _ _ => [.regs 9, .regs 0x11, .regs 0x13, .out, .count, .pipe, .clk]
  | .linkLoss _ _ _ =>
    [.regs 2, .regs 4, .regs 9, .regs 0xe, .regs 0x11, .regs 0x12, .regs 0x13, .regs 0x20, .out, .count,
     .wdl, .ports, .pipe, .host, .clk]
  | .linkUp _ _ _ =>
    [.regs 9, .regs 0xe, .regs 0x11, .regs 0x12, .regs 0x13, .regs 0x20, .out, .count, .wdl, .ports, .pipe,
     .host, .clk]
  | .propagationRemove _ _ =>
    [.regs 9, .regs 0xe, .regs 0x11, .regs 0x12, .regs 0x13, .regs 0x20, .out, .count, .ports, .pipe, .host,
     .clk]
  | .rxFault _ _ _ =>
    [.regs 9, .regs 0xe, .regs 0x11, .regs 0x12, .regs 0x13, .regs 0x20, .out, .count, .pipe, .host, .clk]
  | .unsealFrame _ _ => [.regs 9, .regs 0xf, .regs 0x11, .regs 0x13, .out, .count, .pipe, .clk]
  | .saPnWrite _ _ _ _ _ _ _ =>
    [.regs 1, .regs 4, .regs 9, .regs 0xf, .force, .late, .written, .out, .count, .ports, .clk]
  | .parseFrame _ _ => [.regs 9, .regs 0x10, .regs 0x11, .regs 0x14, .out, .draws, .count, .pipe, .clk]
  | .flowLookup _ _ => [.regs 9, .regs 0x11, .regs 0x14, .out, .draws, .count, .pipe, .ddr, .memory, .clk]
  | .flowMissReturn _ _ _ =>
    [.regs 9, .regs 0x11, .regs 0x14, .out, .draws, .count, .pipe, .ddr, .memory, .clk]
  | .missLate _ _ => [.regs 9, .regs 0x11, .regs 0x14, .out, .draws, .count, .pipe, .clk]
  | .recordExpiry _ _ _ => [.regs 0x11, .count, .pipe, .ddr, .memory, .clk]
  | .annotationReturn _ _ _ _ _ => [.regs 0x11, .count, .pipe, .ddr, .memory, .clk]
  | .ftInit _ _ => [.regs 1, .regs 4, .regs 9, .regs 0x11, .late, .written, .out, .count, .clk]
  | .ftInitDone _ => [.regs 9, .regs 0x11, .out, .count, .pipe, .ddr, .clk]
  | .streamOrder _ _ => [.regs 9, .regs 0x11, .out, .draws, .count, .pipe, .clk]
  | .holeHoldExpiry _ _ => [.regs 9, .regs 0x11, .force, .out, .pipe, .clk]
  | .fileCarve _ _ => [.regs 9, .regs 0x11, .force, .out, .count, .pipe, .clk]
  | .featureBuild _ _ => [.regs 9, .regs 0x11, .regs 0x14, .out, .draws, .count, .pipe, .clk]
  | .stageStall _ _ _ => [.regs 9, .regs 0x11, .regs 0x12, .regs 0x13, .force, .out, .count, .pipe, .clk]
  | .storeEccError _ _ _ _ _ =>
    Piece.everyClass ++ [.force, .late, .written, .snaps, .snapAt, .wideHi, .out, .draws, .count, .wdl,
     .pins, .safe, .lanes, .chans, .units, .ports, .saks, .pipe, .ddr, .ryk, .host, .energy, .net, .tiles,
     .batches, .memory, .pumps, .lwl, .load, .fabric, .cpc, .clk]
  | .scoreDispatch _ _ =>
    [.regs 3, .regs 9, .regs 0xd, .regs 0x11, .regs 0x1c, .out, .draws, .count, .lanes, .pipe, .ryk, .energy,
     .batches, .memory, .lwl, .clk]
  | .scoreRecord _ _ => [.regs 9, .regs 0x11, .out, .draws, .count, .pipe, .clk]
  | .joinDeadline _ _ _ => [.regs 9, .regs 0x11, .regs 0x13, .out, .draws, .count, .pipe, .clk]
  | .orderRelease _ _ => [.regs 9, .regs 0x11, .regs 0x13, .regs 0x14, .out, .draws, .count, .pipe, .clk]
  | .ft4Reply _ _ _ _ _ => [.regs 9, .regs 0x11, .out, .count, .pipe, .clk]
  | .ft4Timeout _ _ => [.count, .pipe]
  | .verdictAction _ _ => [.regs 9, .regs 0xe, .regs 0x11, .regs 0x12, .regs 0x13, .out, .count, .pipe, .clk]
  | .divertDeadline _ _ => [.regs 9, .regs 0x11, .regs 0x13, .out, .count, .pipe, .clk]
  | .copyAccept _ _ _ =>
    [.regs 9, .regs 0x11, .regs 0x12, .regs 0x1c, .regs 0x20, .out, .count, .lanes, .pipe, .ryk, .host, .clk]
  | .copyDeadline _ _ => [.regs 9, .regs 0x11, .regs 0x12, .regs 0x13, .out, .count, .pipe, .clk]
  | .sealItem _ _ _ =>
    [.regs 9, .regs 0xf, .regs 0x10, .regs 0x11, .regs 0x12, .regs 0x13, .out, .count, .ports, .pipe, .clk]
  | .spoutTransmit _ _ =>
    [.regs 9, .regs 0xe, .regs 0x11, .regs 0x12, .regs 0x13, .regs 0x20, .wideHi, .out, .count, .pipe, .host,
     .clk]
  | .injectionDescriptor _ _ _ _ _ _ => [.regs 9, .regs 0x11, .regs 0x20, .out, .count, .pipe, .host, .clk]
  | .tapReturnWord _ _ _ _ =>
    [.regs 9, .regs 0x11, .regs 0x14, .out, .draws, .count, .pipe, .ddr, .memory, .clk]
  | .configScrub _ _ _ _ _ =>
    [.regs 4, .regs 6, .regs 9, .regs 0x14, .out, .count, .pipe, .load, .fabric, .clk]
  | .bramError _ _ _ => [.regs 4, .regs 6, .regs 9, .regs 0x14, .out, .count, .pipe, .load, .clk]
  | .fcgLockLoss _ _ => [.regs 4, .regs 6, .regs 9, .regs 0x14, .out, .count, .pipe, .load, .clk]
  | .clockMonitorOut _ _ _ =>
    Piece.everyClass ++ [.force, .late, .written, .snaps, .snapAt, .wideHi, .out, .draws, .count, .wdl,
     .pins, .safe, .lanes, .chans, .units, .fns, .ports, .saks, .pipe, .ddr, .ryk, .host, .energy, .net,
     .tiles, .batches, .memory, .pumps, .pcie, .lwl, .load, .fabric, .cpc, .clk]
  | .uregAccess _ _ _ _ => [.regs 1, .regs 9, .regs 0x14, .rdata, .out, .count, .clk]
  | .uregTimeout _ _ => [.regs 9, .regs 0x14, .rdata, .out, .count, .clk]
  | .packetRoute _ _ _ _ =>
    Piece.everyClass ++ [.force, .late, .written, .snaps, .snapAt, .wideHi, .rdata, .out, .draws, .count,
     .wdl, .pins, .safe, .lanes, .chans, .units, .ports, .saks, .pipe, .ddr, .ryk, .host, .energy, .net,
     .tiles, .batches, .memory, .pumps, .pcie, .lwl, .flash, .load, .fabric, .cpc, .clk]
  | .gtsDrop _ _ _ _ => [.regs 9, .regs 0x14, .regs 0x17, .out, .count, .net, .tiles, .clk]
  | .progStart _ _ _ _ =>
    [.regs 1, .regs 4, .regs 9, .regs 0x15, .regs 0x16, .late, .written, .out, .count, .tiles, .clk]
  | .batchPacket _ _ => [.regs 0x15, .regs 0x16, .count, .net, .tiles, .clk]
  | .turnTickTrigger _ => [.regs 0x15, .regs 0x16, .tiles, .clk]
  | .cpl _ _ _ _ _ _ =>
    [.regs 9, .regs 0x14, .regs 0x15, .regs 0x16, .regs 0x17, .out, .draws, .count, .net, .tiles, .clk]
  | .operationTimeout _ _ =>
    [.regs 9, .regs 0x14, .regs 0x15, .regs 0x16, .regs 0x17, .regs 0x1c, .out, .draws, .count, .lanes, .ryk,
     .net, .tiles, .clk]
  | .scorePacket _ _ _ _ _ =>
    [.regs 9, .regs 0x11, .regs 0x17, .regs 0x1c, .out, .draws, .count, .lanes, .pipe, .ryk, .batches, .clk]
  | .scoreClose _ => [.regs 9, .regs 0x11, .regs 0x17, .out, .draws, .count, .pipe, .batches, .clk]
  | .knownAnswerCheck _ _ _ =>
    [.regs 4, .regs 9, .regs 0x11, .regs 0x14, .regs 0x15, .regs 0x16, .regs 0x17, .out, .draws, .count,
     .pipe, .net, .tiles, .batches, .clk]
  | .localStoreEcc _ _ _ =>
    [.regs 4, .regs 9, .regs 0x11, .regs 0x14, .regs 0x15, .regs 0x16, .regs 0x17, .out, .draws, .count,
     .pipe, .net, .tiles, .batches, .clk]
  | .linkEccError _ _ _ _ _ => [.regs 4, .regs 9, .regs 0x17, .out, .count, .net, .clk]
  | .routerFault _ _ =>
    [.regs 4, .regs 9, .regs 0x11, .regs 0x14, .regs 0x15, .regs 0x16, .regs 0x17, .out, .draws, .count,
     .pipe, .net, .tiles, .batches, .clk]
  | .probeArm _ _ _ => [.regs 1, .regs 4, .regs 9, .regs 0x18, .late, .written, .out, .count, .clk]
  | .windowProject _ =>
    [.regs 9, .regs 0xd, .regs 0x11, .regs 0x14, .regs 0x17, .regs 0x1c, .out, .draws, .count, .lanes, .pipe,
     .ryk, .net, .tiles, .lwl, .clk]
  | .creditReturn _ _ => [.count, .lwl]
  | .calStep _ _ =>
    [.regs 4, .regs 9, .regs 0xd, .regs 0x11, .regs 0x17, .regs 0x1c, .out, .draws, .count, .lanes, .pipe,
     .ryk, .lwl, .clk]
  | .calForce _ _ =>
    [.regs 4, .regs 9, .regs 0xd, .regs 0x11, .regs 0x17, .regs 0x1c, .out, .draws, .count, .lanes, .pipe,
     .ryk, .lwl, .clk]
  | .epochWrite _ => [.regs 9, .regs 0xd, .regs 0x14, .regs 0x17, .out, .count, .net, .tiles, .lwl, .clk]
  | .epochAck _ _ => [.regs 9, .regs 0xd, .out, .count, .lwl, .clk]
  | .consumerStale _ _ => [.regs 9, .regs 0xd, .out, .count, .lwl, .clk]
  | .settleEnd _ => [.regs 0xd, .count, .clk]
  | .lwlItemFault _ _ =>
    [.regs 4, .regs 9, .regs 0xd, .regs 0x11, .regs 0x17, .regs 0x1c, .out, .draws, .count, .lanes, .pipe,
     .ryk, .lwl, .clk]
  | .lwlReinstate _ _ => [.regs 1, .regs 0xd, .count, .lwl, .clk]
  | .lwlControllerFail _ =>
    [.regs 4, .regs 9, .regs 0xd, .regs 0x11, .regs 0x17, .regs 0x1c, .out, .draws, .count, .lanes, .pipe,
     .ryk, .lwl, .clk]
  | .lwlTableAccess _ _ => [.regs 1, .regs 4, .regs 9, .regs 0xd, .rdata, .out, .count, .lwl, .clk]
  | .cisternReadReq _ _ =>
    [.regs 9, .regs 0x14, .regs 0x17, .regs 0x19, .out, .count, .net, .tiles, .memory, .clk]
  | .fillReturn _ _ _ =>
    [.regs 9, .regs 0x14, .regs 0x17, .regs 0x19, .out, .count, .net, .tiles, .memory, .clk]
  | .objectTableWrite _ _ => [.regs 1, .regs 4, .regs 9, .regs 0x19, .out, .count, .memory, .clk]
  | .cisternSramError _ _ _ =>
    [.regs 4, .regs 9, .regs 0x14, .regs 0x17, .regs 0x19, .out, .count, .net, .tiles, .memory, .clk]
  | .ddrReadError _ _ _ _ _ => [.regs 4, .regs 9, .regs 0x1b, .out, .count, .memory, .clk]
  | .patrolScrub _ _ _ _ => [.regs 4, .regs 9, .regs 0x1b, .out, .count, .memory, .clk]
  | .scrubLate _ _ _ => [.regs 9, .regs 0x1b, .out, .count, .memory, .clk]
  | .dmcRetireGo _ _ _ =>
    [.regs 1, .regs 4, .regs 9, .regs 0x1b, .late, .written, .out, .count, .memory, .clk]
  | .rowCopyDone _ _ _ => [.regs 4, .regs 9, .regs 0x1b, .out, .count, .memory, .clk]
  | .dmcFault _ _ _ => [.regs 4, .regs 9, .regs 0x1b, .out, .count, .memory, .clk]
  | .dimmThermal _ _ _ => [.regs 9, .regs 0x1b, .out, .count, .memory, .clk]
  | .ringDoorbell _ _ _ _ => [.regs 1, .regs 4, .regs 9, .regs 0x1a, .late, .written, .out, .count, .clk]
  | .pumpChunk _ _ _ =>
    [.regs 9, .regs 0x14, .regs 0x17, .regs 0x19, .regs 0x1a, .out, .count, .ddr, .net, .tiles, .memory,
     .pumps, .clk]
  | .descriptorComplete _ _ _ =>
    [.regs 9, .regs 0x19, .regs 0x1a, .regs 0x20, .wideHi, .out, .count, .ddr, .host, .tiles, .memory,
     .pumps, .clk]
  | .pumpTimeout _ _ _ =>
    [.regs 9, .regs 0x19, .regs 0x1a, .regs 0x20, .wideHi, .out, .count, .ddr, .host, .tiles, .memory,
     .pumps, .clk]
  | .contextHalt _ _ _ =>
    [.regs 1, .regs 9, .regs 0x19, .regs 0x1a, .regs 0x20, .wideHi, .out, .count, .ddr, .host, .tiles,
     .memory, .pumps, .clk]
  | .bmeClear _ _ =>
    [.regs 9, .regs 0x11, .regs 0x12, .regs 0x13, .regs 0x19, .regs 0x1a, .regs 0x20, .wideHi, .out, .count,
     .pipe, .ddr, .host, .tiles, .memory, .pumps, .pcie, .clk]
  | .pumpSelfcheckFail _ _ =>
    [.regs 4, .regs 9, .regs 0x19, .regs 0x1a, .regs 0x20, .wideHi, .out, .count, .ddr, .host, .tiles,
     .memory, .pumps, .clk]
  | .nrgCapWrite _ _ => [.regs 1, .regs 3, .regs 4, .regs 9, .late, .written, .out, .count, .energy, .clk]
  | .nrgDebtAdd _ _ => [.regs 1, .regs 3, .regs 4, .regs 9, .late, .written, .out, .count, .clk]
  | .pmbusPoll _ _ _ _ => [.regs 9, .regs 0x1e, .out, .count, .energy, .clk]
  | .poutMaxRead _ _ => [.regs 9, .regs 0x1e, .out, .count, .energy, .clk]
  | .measurementWindowClose _ => [.regs 3, .regs 0x1e, .count, .energy, .clk]
  | .thermalSample _ _ => [.regs 0x1e, .count, .energy, .clk]
  | .thermalCrit _ =>
    Piece.everyClass ++ [.force, .late, .written, .snaps, .snapAt, .wideHi, .out, .draws, .count, .wdl,
     .pins, .safe, .lanes, .chans, .units, .ports, .saks, .pipe, .ddr, .ryk, .host, .energy, .net, .tiles,
     .batches, .memory, .pumps, .lwl, .load, .fabric, .cpc, .clk]
  | .ledgerFault _ => [.regs 3, .regs 4, .regs 9, .out, .count, .clk]
  | .pwrFault _ =>
    Piece.everyClass ++ [.force, .late, .written, .snaps, .snapAt, .wideHi, .out, .draws, .count, .wdl,
     .pins, .safe, .lanes, .chans, .units, .ports, .saks, .pipe, .ddr, .ryk, .host, .energy, .net, .tiles,
     .batches, .memory, .pumps, .lwl, .load, .fabric, .cpc, .clk]
  | .perstDeassert _ => [.regs 1, .regs 9, .draws, .count, .pins, .safe, .pcie, .clk]
  | .cfgReadyWrite _ _ => [.regs 1, .regs 9, .draws, .count, .safe, .pcie, .clk]
  | .cfgReadyTimeout _ => [.regs 1, .regs 9, .draws, .count, .safe, .clk]
  | .configRequest _ _ _ => [.regs 9, .regs 0x20, .out, .count, .fns, .pcie, .clk]
  | .vfEnable _ _ =>
    [.regs 9, .regs 0x11, .regs 0x12, .regs 0x13, .regs 0x19, .regs 0x1a, .regs 0x20, .force, .late, .wideHi,
     .out, .count, .fns, .pipe, .ddr, .host, .tiles, .memory, .pumps, .pcie, .clk]
  | .ctxBindWrite _ _ _ _ => [.regs 4, .regs 9, .late, .written, .out, .count, .clk]
  | .contextSlotWrite _ _ _ _ _ =>
    [.regs 4, .regs 9, .regs 0x19, .regs 0x1a, .regs 0x20, .late, .written, .wideHi, .out, .count, .ddr,
     .host, .tiles, .memory, .pumps, .clk]
  | .deliveryFreePost _ _ _ _ => [.regs 4, .regs 9, .regs 0x20, .late, .written, .out, .count, .clk]
  | .deliveryAccept _ _ _ _ =>
    [.regs 9, .regs 0x11, .regs 0x12, .regs 0x13, .regs 0x1c, .regs 0x20, .out, .count, .lanes, .pipe, .ryk,
     .host, .clk]
  | .msixUnmask _ _ _ => [.regs 9, .regs 0x20, .out, .count, .clk]
  | .holdoffExpiry _ _ _ => [.regs 9, .regs 0x20, .out, .count, .host, .clk]
  | .functionLevelReset _ _ =>
    [.regs 9, .regs 0x11, .regs 0x12, .regs 0x13, .regs 0x19, .regs 0x1a, .regs 0x20, .wideHi, .out, .count,
     .fns, .pipe, .ddr, .host, .tiles, .memory, .pumps, .clk]
  | .flrComplete _ _ => [.regs 9, .regs 0x20, .force, .late, .count, .clk]
  | .completionArrival _ _ _ => [.regs 9, .regs 0x19, .out, .count, .ddr, .tiles, .memory, .pumps, .clk]
  | .completionTimeout _ _ _ => [.regs 9, .out, .count, .pumps, .clk]
  | .ctoValueChange _ _ => [.regs 9, .regs 0x1a, .force, .late, .out, .count, .pcie, .clk]
  | .endpointReset _ _ =>
    [.regs 4, .regs 9, .regs 0x11, .regs 0x12, .regs 0x13, .regs 0x19, .regs 0x1a, .regs 0x20, .force, .late,
     .wideHi, .out, .count, .pins, .fns, .pipe, .ddr, .host, .tiles, .memory, .pumps, .pcie, .clk]
  | .hostInternalError _ => [.regs 4, .regs 9, .out, .count, .pcie, .clk]
  | .poisonedTlp _ _ _ => [.regs 9, .out, .count, .pumps, .clk]
  | .rykFrameReceive _ _ _ _ _ _ =>
    [.regs 1, .regs 4, .regs 9, .regs 0xa, .regs 0x11, .regs 0x1c, .out, .draws, .count, .safe, .lanes,
     .pipe, .ryk, .clk]
  | .llctl _ _ _ _ _ _ _ _ _ =>
    [.regs 1, .regs 4, .regs 9, .regs 0xa, .regs 0x11, .regs 0x1c, .out, .draws, .count, .safe, .lanes,
     .pipe, .ryk, .clk]
  | .replayTimeout _ _ _ =>
    [.regs 1, .regs 4, .regs 9, .regs 0xa, .regs 0x11, .regs 0x1c, .out, .draws, .count, .safe, .lanes,
     .pipe, .ryk, .clk]
  | .linkInit _ _ _ _ _ _ _ => [.regs 9, .regs 0x1c, .out, .count, .lanes, .ryk, .clk]
  | .retrainingTimeout _ _ =>
    [.regs 1, .regs 4, .regs 9, .regs 0xa, .regs 0x11, .regs 0x1c, .out, .draws, .count, .safe, .lanes,
     .pipe, .ryk, .clk]
  | .linkAlign _ _ _ _ _ _ =>
    [.regs 1, .regs 4, .regs 9, .regs 0xa, .regs 0x11, .regs 0x1c, .out, .draws, .count, .safe, .lanes,
     .pipe, .ryk, .clk]
  | .secondLaneWait _ _ => [.regs 9, .regs 0x1c, .out, .count, .ryk, .clk]
  | .linkRewiden _ _ => [.regs 0x1c, .count, .ryk, .clk]
  | .t3Rsp _ => [.regs 9, .regs 0x11, .regs 0x1c, .out, .draws, .count, .pipe, .ryk, .clk]
  | .t3Timeout _ _ => [.regs 9, .regs 0x11, .regs 0x1c, .out, .draws, .count, .pipe, .ryk, .clk]
  | .t3Req _ =>
    [.regs 3, .regs 9, .regs 0xd, .regs 0x1c, .out, .count, .lanes, .ryk, .energy, .memory, .lwl, .clk]
  | .copyFrameRx _ _ => [.regs 9, .regs 0x1c, .regs 0x20, .out, .count, .ryk, .host, .clk]
  | .refDepthErr _ _ => [.regs 1, .regs 9, .regs 0xa, .regs 0x1c, .out, .draws, .count, .safe, .ryk, .clk]
  | .linkFault _ _ _ =>
    [.regs 1, .regs 4, .regs 9, .regs 0xa, .regs 0x11, .regs 0x1c, .out, .draws, .count, .safe, .lanes,
     .pipe, .ryk, .clk]
  | .gatewayFault _ =>
    [.regs 1, .regs 4, .regs 9, .regs 0xa, .regs 0x11, .regs 0x1c, .out, .draws, .count, .safe, .lanes,
     .pipe, .ryk, .clk]
  | .heartbeatKick _ => [.regs 8, .count, .pins, .cpc, .clk]
  | .floorDuty _ => [.regs 3, .regs 8, .count, .cpc, .clk]
  | .crosstalkRefresh _ => [.regs 8, .regs 0xb, .count, .lwl, .cpc, .clk]
  | .retirementRecordWrite _ => [.regs 7, .count, .flash, .clk]
  | .reconciliation _ => [.regs 3, .regs 8, .regs 9, .out, .count, .cpc, .clk]
  | .mailboxGo _ _ => [.regs 1, .regs 4, .regs 8, .regs 9, .late, .written, .out, .count, .cpc, .clk]
  | .negotiate _ => [.regs 1, .regs 8, .regs 9, .out, .draws, .count, .safe, .cpc, .clk]
  | .mbStatus _ => [.regs 8, .regs 9, .out, .count, .clk]
  | .updateStage _ => [.regs 8, .regs 9, .out, .count, .cpc, .clk]
  | .updateStaged _ _ => [.regs 8, .regs 9, .out, .count, .cpc, .clk]
  | .updateCommit _ => [.regs 8, .regs 9, .out, .count, .clk]
  | .updateAbort _ => [.regs 8, .regs 9, .out, .count, .cpc, .clk]
  | .updateHandoff _ => [.regs 1, .regs 8, .regs 9, .out, .draws, .count, .safe, .cpc, .clk]
  | .updateAdopted _ => [.regs 1, .regs 8, .regs 9, .out, .draws, .count, .safe, .cpc, .clk]
  | .updateRollback _ _ => [.regs 1, .regs 8, .regs 9, .out, .draws, .count, .safe, .cpc, .clk]
  | .collStart _ _ =>
    [.regs 4, .regs 8, .regs 9, .regs 0x14, .regs 0x17, .regs 0x19, .regs 0x1c, .out, .count, .lanes, .ddr,
     .ryk, .net, .tiles, .memory, .pumps, .cpc, .clk]
  | .collCancel _ => [.regs 8, .regs 9, .out, .count, .cpc, .clk]
  | .collFrame _ _ =>
    [.regs 8, .regs 9, .regs 0x14, .regs 0x17, .regs 0x19, .regs 0x1c, .out, .count, .lanes, .ddr, .ryk,
     .net, .tiles, .memory, .pumps, .cpc, .clk]
  | .collTimeout _ _ => [.regs 8, .regs 9, .out, .count, .cpc, .clk]
  | .chipRetire _ _ =>
    [.regs 4, .regs 8, .regs 9, .regs 0xc, .regs 0xe, .regs 0x1c, .late, .written, .out, .draws, .count,
     .lanes, .ryk, .cpc, .clk]
  | .chipReinstate _ _ => [.regs 8, .regs 9, .regs 0x1c, .out, .draws, .count, .lanes, .ryk, .cpc, .clk]
  | .t3RemapSet _ => [.regs 8, .regs 9, .out, .count, .cpc, .clk]
  | .graphPower _ => [.regs 3, .regs 8, .regs 9, .out, .count, .cpc, .clk]
  | .logRead _ => [.regs 8, .regs 9, .out, .count, .clk]
  | .helloSend _ => [.regs 8, .regs 9, .regs 0x1c, .out, .count, .lanes, .ryk, .cpc, .clk]
  | .ctlHello _ => [.regs 9, .regs 0x1c, .out, .count, .lanes, .ryk, .clk]
  | .ctlRetire _ _ => [.regs 8, .regs 9, .regs 0x1c, .out, .draws, .count, .lanes, .ryk, .cpc, .clk]
  | .ctlMembers _ _ => [.regs 8, .regs 9, .regs 0x1c, .out, .draws, .count, .ryk, .cpc, .clk]
  | .peerLost _ _ _ => [.regs 8, .regs 9, .regs 0x1c, .out, .draws, .count, .lanes, .ryk, .cpc, .clk]
  | .selfRetire _ _ =>
    [.regs 4, .regs 8, .regs 9, .regs 0xc, .regs 0xe, .regs 0x1c, .late, .written, .out, .draws, .count,
     .lanes, .ryk, .cpc, .clk]
  | .dumpNow _ _ => [.regs 1, .regs 4, .regs 8, .regs 9, .late, .written, .out, .draws, .count, .cpc, .clk]
  | .dumpDataRead _ => [.regs 1, .regs 8, .rdata, .count, .clk]
  | .firmwareCrash _ _ _ _ => [.regs 1, .regs 4, .regs 8, .regs 9, .out, .draws, .count, .safe, .cpc, .clk]
  | .firmwareInitDone _ => [.regs 1, .regs 8, .regs 9, .out, .draws, .count, .safe, .pcie, .cpc, .clk]
  | .coldLoad _ _ =>
    [.regs 1, .regs 4, .regs 6, .regs 7, .regs 9, .out, .draws, .count, .safe, .flash, .load, .clk]
  | .chunkVerify _ _ =>
    [.regs 1, .regs 4, .regs 6, .regs 8, .regs 9, .out, .draws, .count, .safe, .lanes, .sec, .load, .cpc,
     .clk]
  | .cfgNop _ => [.regs 1, .regs 4, .regs 6, .regs 9, .out, .draws, .count, .safe, .sec, .load, .clk]
  | .writeReg _ =>
    Piece.everyClass ++ [.force, .late, .written, .snaps, .snapAt, .wideHi, .out, .draws, .count, .wdl,
     .pins, .safe, .lanes, .chans, .units, .ports, .saks, .pipe, .ddr, .ryk, .host, .energy, .net, .tiles,
     .batches, .memory, .pumps, .pcie, .lwl, .sec, .flash, .load, .fabric, .cpc, .clk]
  | .waitTurns _ => [.regs 1, .regs 4, .regs 6, .regs 9, .out, .draws, .count, .safe, .sec, .load, .clk]
  | .waitTurnsExpiry _ => [.count, .load]
  | .pollState _ => [.regs 1, .regs 4, .regs 6, .regs 9, .out, .draws, .count, .safe, .sec, .load, .clk]
  | .pollTimeout _ => [.regs 1, .regs 4, .regs 6, .regs 9, .out, .draws, .count, .safe, .sec, .load, .clk]
  | .setFar _ => [.regs 1, .regs 4, .regs 6, .regs 9, .out, .draws, .count, .safe, .sec, .load, .clk]
  | .writeFrames _ => [.regs 1, .regs 4, .regs 6, .regs 9, .out, .draws, .count, .safe, .sec, .load, .clk]
  | .repeatFrame _ => [.regs 1, .regs 4, .regs 6, .regs 9, .out, .draws, .count, .safe, .sec, .load, .clk]
  | .loadMem _ =>
    [.regs 1, .regs 4, .regs 6, .regs 9, .out, .draws, .count, .safe, .ddr, .tiles, .memory, .sec, .load,
     .clk]
  | .loadEnd _ _ _ =>
    Piece.everyClass ++ [.force, .late, .written, .out, .draws, .count, .safe, .lanes, .sec, .load, .fabric,
     .clk]
  | .cfgContinue _ =>
    Piece.everyClass ++ [.out, .draws, .count, .wdl, .safe, .lanes, .pipe, .ryk, .memory, .lwl, .load, .clk]
  | .holdFwTimeout _ => [.regs 1, .regs 6, .regs 9, .out, .draws, .count, .safe, .lanes, .load, .clk]
  | .partGo _ => [.regs 1, .regs 6, .count, .load, .clk]
  | .warmReplay _ => [.regs 1, .regs 6, .regs 9, .out, .draws, .count, .safe, .load, .clk]
  | .chainFrame _ _ _ _ _ _ =>
    [.regs 1, .regs 4, .regs 6, .regs 9, .out, .draws, .count, .safe, .lanes, .sec, .load, .clk]
  | .chainResend _ _ => [.regs 6, .regs 9, .out, .count, .lanes, .load, .clk]
  | .flashRead _ => [.regs 1, .regs 4, .regs 7, .regs 9, .late, .written, .out, .count, .flash, .clk]
  | .flashProgram _ => [.regs 1, .regs 4, .regs 7, .regs 9, .late, .written, .out, .count, .flash, .clk]
  | .flashErase _ => [.regs 1, .regs 4, .regs 7, .regs 9, .late, .written, .out, .count, .flash, .clk]
  | .flashOpDone _ _ => [.regs 7, .regs 9, .out, .count, .flash, .clk]
  | .secStatusSvc _ _ _ => [.regs 5, .regs 9, .out, .count, .sec, .clk]
  | .selftest _ _ _ => [.regs 5, .regs 9, .out, .count, .sec, .clk]
  | .secSelftestDone _ _ _ =>
    [.regs 1, .regs 4, .regs 5, .regs 6, .regs 9, .regs 0xf, .force, .late, .written, .out, .draws, .count,
     .safe, .saks, .sec, .load, .clk]
  | .authChallenge _ _ _ => [.regs 5, .regs 9, .out, .draws, .count, .sec, .clk]
  | .authResponse _ _ _ => [.regs 5, .regs 9, .regs 0xf, .force, .late, .out, .count, .saks, .sec, .clk]
  | .logout _ _ _ => [.regs 5, .regs 9, .out, .count, .sec, .clk]
  | .coSessionIdle _ _ => [.regs 5, .count, .sec, .clk]
  | .nonceExpiry _ _ => [.regs 5, .count, .sec, .clk]
  | .stkEstablish _ _ _ => [.regs 5, .regs 9, .out, .draws, .count, .sec, .clk]
  | .stkClear _ _ _ => [.regs 5, .regs 9, .out, .count, .sec, .clk]
  | .sakLoad _ _ _ => [.regs 5, .regs 9, .regs 0xf, .force, .late, .written, .out, .count, .saks, .sec, .clk]
  | .sakClear _ _ _ => [.regs 5, .regs 9, .regs 0xf, .force, .late, .out, .count, .saks, .sec, .clk]
  | .sakLoadPlain _ _ _ =>
    [.regs 5, .regs 9, .regs 0xf, .force, .late, .written, .out, .count, .saks, .sec, .clk]
  | .secRandom _ _ _ => [.regs 5, .regs 9, .out, .draws, .count, .sec, .clk]
  | .randomRaw _ _ _ => [.regs 5, .regs 9, .out, .draws, .count, .sec, .clk]
  | .setMode _ _ _ => [.regs 5, .regs 9, .regs 0xf, .force, .late, .out, .count, .saks, .sec, .clk]
  | .zeroize _ _ _ => [.regs 5, .regs 9, .regs 0xf, .force, .late, .out, .count, .saks, .sec, .clk]
  | .zeroizeNLow _ =>
    [.regs 1, .regs 4, .regs 5, .regs 6, .regs 9, .regs 0xf, .force, .late, .out, .draws, .count, .pins,
     .safe, .saks, .sec, .load, .clk]
  | .debugLock _ _ _ => [.regs 5, .regs 9, .out, .count, .sec, .clk]
  | .provisionIk _ _ _ _ => [.regs 5, .regs 9, .out, .count, .sec, .clk]
  | .revoke _ _ _ _ => [.regs 5, .regs 9, .out, .count, .sec, .clk]
  | .imageOpen _ _ _ =>
    [.regs 1, .regs 4, .regs 5, .regs 6, .regs 9, .out, .draws, .count, .safe, .sec, .load, .clk]
  | .imageChunk _ _ _ _ => [.regs 5, .regs 9, .out, .count, .sec, .clk]
  | .healthTestFail _ _ =>
    [.regs 1, .regs 4, .regs 5, .regs 6, .regs 9, .regs 0xf, .force, .late, .out, .draws, .count, .safe,
     .saks, .sec, .load, .clk]
  | .drbgReseed _ _ => [.regs 5, .regs 9, .regs 0xf, .force, .late, .out, .count, .saks, .sec, .clk]
  | .tapInstruction _ _ => [.regs 5, .regs 9, .out, .count, .tap, .clk]
  | .safeStateEntry _ _ _ =>
    Piece.everyClass ++ [.force, .late, .written, .snaps, .snapAt, .wideHi, .out, .draws, .count, .wdl,
     .pins, .safe, .lanes, .chans, .units, .ports, .saks, .pipe, .ddr, .ryk, .host, .energy, .net, .tiles,
     .batches, .memory, .pumps, .lwl, .load, .fabric, .cpc, .clk]
  | .safeCtlEnter _ =>
    Piece.everyClass ++ [.force, .late, .written, .snaps, .snapAt, .wideHi, .out, .draws, .count, .wdl,
     .pins, .safe, .lanes, .chans, .units, .ports, .saks, .pipe, .ddr, .ryk, .host, .energy, .net, .tiles,
     .batches, .memory, .pumps, .lwl, .load, .fabric, .cpc, .clk]
  | .safeResetAssert _ _ _ =>
    Piece.everyClass ++ [.force, .late, .written, .snaps, .snapAt, .wideHi, .out, .draws, .count, .wdl,
     .pins, .safe, .lanes, .chans, .units, .ports, .saks, .pipe, .ddr, .ryk, .host, .energy, .net, .tiles,
     .batches, .memory, .pumps, .pcie, .lwl, .sec, .load, .fabric, .cpc, .clk]
  | .mainResetRelease _ _ _ _ _ _ => Piece.everyClass ++ [.out, .draws, .count, .pins, .safe, .flash, .clk]
  | .restartComplete _ _ => [.regs 1, .regs 4, .regs 9, .regs 0xc, .out, .count, .safe, .pcie, .clk]
  | .warmRestartTimeout _ _ =>
    Piece.everyClass ++ [.force, .late, .written, .snaps, .snapAt, .wideHi, .out, .count, .wdl, .pins, .safe,
     .lanes, .chans, .units, .ports, .saks, .pipe, .ddr, .ryk, .host, .energy, .net, .tiles, .batches,
     .memory, .pumps, .lwl, .load, .fabric, .cpc, .clk]
  | .safeCtlRestart _ =>
    Piece.everyClass ++ [.force, .late, .written, .snaps, .snapAt, .wideHi, .out, .count, .wdl, .pins, .safe,
     .lanes, .chans, .units, .ports, .saks, .pipe, .ddr, .ryk, .host, .energy, .net, .tiles, .batches,
     .memory, .pumps, .lwl, .load, .fabric, .cpc, .clk]
  | .lrefReturn _ => [.regs 9, .regs 0xa, .regs 0xc, .out, .count, .wdl, .lanes, .clk]
  | .rrefRestore _ => [.regs 1, .regs 0xa, .regs 0x1c, .draws, .count, .safe, .rref, .ryk, .clk]
  | .mainPgRise _ => [.count, .pins]
  | .bypForceNHigh _ => [.count, .pins]
  | .zeroizeNHigh _ => [.count, .pins]
  | .rxFaultEnd _ _ =>
    [.regs 9, .regs 0xe, .regs 0x11, .regs 0x12, .regs 0x13, .regs 0x20, .out, .count, .pipe, .host, .clk]
  | .cdrLock _ _ _ _ =>
    [.regs 1, .regs 9, .regs 0xa, .regs 0x1c, .out, .draws, .count, .safe, .lanes, .ryk, .clk]
  | .prbsLock _ _ _ => [.regs 9, .regs 0xa, .out, .count, .lanes, .pipe, .clk]
  | .anComplete _ _ _ => [.regs 9, .regs 0xa, .out, .count, .clk]
  | .pcieLinkUp _ _ _ => [.regs 9, .count, .clk]
  | .ltssmRecovery _ _ => [.regs 9, .count, .pumps, .pcie, .clk]
  | .tapRecordDelivery _ _ _ => [.out, .count, .pipe]
  | .lwlReinstateDone _ _ _ => [.regs 0xd, .count, .lwl, .clk]
  | .ctlReinstate _ _ => [.regs 8, .regs 9, .regs 0x1c, .out, .draws, .count, .lanes, .ryk, .cpc, .clk]
  | .fltErr _ =>
    Piece.everyClass ++ [.force, .late, .written, .snaps, .snapAt, .wideHi, .out, .draws, .count, .wdl,
     .pins, .safe, .lanes, .chans, .units, .ports, .saks, .pipe, .ddr, .ryk, .host, .energy, .net, .tiles,
     .batches, .memory, .pumps, .lwl, .load, .fabric, .cpc, .clk]
  | .pipelineUncorrError _ _ =>
    Piece.everyClass ++ [.force, .late, .written, .snaps, .snapAt, .wideHi, .out, .draws, .count, .wdl,
     .pins, .safe, .lanes, .chans, .units, .ports, .saks, .pipe, .ddr, .ryk, .host, .energy, .net, .tiles,
     .batches, .memory, .pumps, .lwl, .load, .fabric, .cpc, .clk]

end Sys2Proof.Machine
end

