-- ==== Sys2Proof/Certificates/Slice0/Obligations.lean ====
section
/-!
DEFINITION. The statements for the provers.
-/

set_option Elab.async false

section ObligationsSlice0

open Sys2Proof Sys2Proof.Machine

/-- Each Windlass command completes and has its own effect. -/
def Obligations.WindlassCommandsComplete : Prop :=
  -- R12, R63, R81: the count reaches the next multiple of 65,536, and the writes past the cut-off are those of the
  -- turn to come.
  (∀ (m : TurnMeasure) (s : State), s.wdl.stopped = false → ∃ t : State, exec (.turnBoundary m) s = .next t ∧ t.count
    = (s.turn + 1) * 65536 % 2 ^ 64 ∧ t.late = [] ∧ t.written = FMap.keys s.late) ∧
  -- R96, R98: the count starts from WDL_PRESET, in FREE at the nominal rate.
  (∀ (s : State), s.tstate = T.stopped → s.wdl.lrefOk = true → s.pins.mainReset = false → ∃ t : State, exec
    .windlassExitStopped s = .next t ∧ t.count = s.preset ∧ t.wdl.stopped = false ∧ t.tstate = T.free ∧ t.fld Pg.wdl
    F.WDL_RATE = 0) ∧
  -- R69: HOLDOVER with no anchor, the cause recorded.
  (∀ (off : Nat) (c : LossCause) (s : State), s.tstate = T.slewing ∨ s.tstate = T.locked → s.anchor < 8 → ∃ t : State, exec (.anchorLoss off c) s = .next t ∧ t.tstate = T.holdover ∧ t.anchor =
    8 ∧ t.fld Pg.wdl F.WDL_STATUS_LOSS_CAUSE = lossCode c ∧ t.fld Pg.wdl ⟨0x020, 1, 1⟩ = 1) ∧
  -- R65: in lock for 16 turns without a break.
  (∀ (off : Nat) (p : Port) (s : State) (since : Nat), FMap.get? s.wdl.lockSince p.val = some since → 16 * 65536 ≤
    (s.at off).since since → ∃ t : State, exec (.portQualified off p) s = .next t ∧ t.qualified p.val = true) ∧
  -- R71: LOCKED once the criteria have held for one turn.
  (∀ (s : State) (since : Nat), s.wdl.steadySince = some since → s.tstate = T.slewing → 65536 ≤ s.since since → ∃ t :
    State, exec .slewLock s = .next t ∧ t.tstate = T.locked ∧ t.fld Pg.wdl F.WDL_HOLDOVER_TURNS = 0 ∧ t.fld Pg.wdl
    ⟨0x020, 2, 1⟩ = 1 ∧ t.wdl.lockedAt = s.count) ∧
  -- R70: LEARNED, and the rate learned.
  (∀ (s : State), s.tstate = T.locked → 16 * 65536 ≤ s.since s.wdl.lockedAt → ∃ t : State, exec .learnedSet s = .next
    t ∧ t.fld Pg.wdl F.WDL_STATUS_LEARNED = 1 ∧ t.fld Pg.wdl F.WDL_LEARNED_RATE = unsigned 32 (meanRate s.wdl.hist)) ∧
  -- R95: while STOPPED the held count follows WDL_PRESET.
  (∀ (off : Nat) (high : Bool) (v : Word) (s : State), s.tstate = T.stopped → ∃ t : State, exec (.wdlPresetWrite off
    high v) s = .next t ∧ t.fld Pg.wdl (if high then F.WDL_PRESET_HI else F.WDL_PRESET_LO) = v.toNat ∧ t.count =
    t.preset) ∧
  -- R97: the count's low word, with bits 63 to 32 latched.
  (∀ (off : Nat) (s : State), ∃ t : State, exec (.wdlCountLoRead off) s = .next t ∧ t.rdata = [BitVec.ofNat 32 (s.at
    off).count] ∧ t.fld Pg.wdl F.WDL_COUNT_HI = (s.at off).count / 2 ^ 32 % 2 ^ 32) ∧
  -- R74, R75: ARM = 1 loads the comparator from the shadows; a count not yet reached leaves the mark armed.
  (∀ (off : Nat) (m : Fin 64) (ctl : Word) (s w : State), w = ((s.at off).fireFirst m.val).write Pg.wdl
    (F.WDL_MARK_CTL_ARM m.val).off ctl → w.bit Pg.wdl (F.WDL_MARK_CTL_ARM m.val) = true → w.count + 16 < w.fld Pg.wdl
    (F.WDL_MARK_LO m.val) + 2 ^ 32 * w.fld Pg.wdl (F.WDL_MARK_HI m.val) → ∃ t : State, exec (.markArm off m ctl) s =
    .next t ∧ t.mark m.val = ⟨true, w.fld Pg.wdl (F.WDL_MARK_LO m.val) + 2 ^ 32 * w.fld Pg.wdl (F.WDL_MARK_HI m.val),
    w.fld Pg.wdl (F.WDL_MARK_PERIOD m.val)⟩) ∧
  -- R76: a single mark is spent, a periodic one moves on by its period, at least 64.
  (∀ (m : Fin 64) (s : State), (s.mark m.val).armed = true → s.wdl.stopped = false → (s.mark m.val).count / 65536 =
    s.turn → s.count ≤ (s.mark m.val).count → ∃ t : State, exec (.markFire m) s = .next t ∧ t.count = (s.mark
    m.val).count ∧ t.mark m.val = if (s.mark m.val).period = 0 then ⟨false, (s.mark m.val).count, 0⟩ else ⟨true,
    ((s.mark m.val).count + max 64 (s.mark m.val).period) % 2 ^ 64, (s.mark m.val).period⟩) ∧
  -- R78, R92: the followers in error are those the next broadcast judges again.
  (∀ (off : Nat) (gray bad : List Nat) (s : State), s.wdl.stopped = false → (s.at off).count % 4096 = 0 → ∃ t : State,
    exec (.fullCountBroadcast off gray bad) s = .next t ∧ t.wdl.badFollowers = bad.filter s.hasFollower ∧
    t.wdl.lastFull = (s.at off).count)

/-- Each register and unit command completes and has its own effect. -/
def Obligations.RegisterCommandsComplete : Prop :=
  -- R108, R109: a full-width write by PF0 stores its four bytes, here in WDL_PRESET_LO.
  (∀ (off : Nat) (b0 b1 b2 b3 : BitVec 8) (s : State), ∃ t : State, exec (.registerWrite off 0 0x0010054#26 [some b0,
    some b1, some b2, some b3]) s = .next t ∧ t.fld Pg.wdl F.WDL_PRESET_LO = b0.toNat + 256 * b1.toNat + 65536 *
    b2.toNat + 16777216 * b3.toNat) ∧
  -- R107, R110: a full-width read by PF0 answers what the register shows.
  (∀ (off page o : Nat) (s : State), page < 0x4000 → o < 4096 → o % 4 = 0 → (s.at off).dueMarks.dropCause page = none
    → userWindow page o = false → ∃ t : State, exec (.rcCounterRead off 0 (BitVec.ofNat 26 (page * 4096 + o)) [true,
    true, true, true]) s = .next t ∧ t.rdata = [({ (s.at off).dueMarks with rdata := [] } : State).shown page o]) ∧
  -- R268: the high word is latched and the counter is cleared.
  (∀ (off : Nat) (page : BitVec 14) (o : BitVec 12) (s w : State), w = (s.at off).dueMarks → isWideLo page.toNat
    o.toNat = true → w.dropCause page.toNat = none → w.bit page.toNat F.HDR_SNAP_CTL_VIEW = false → w.clk.count ≠
    w.count → ∃ t : State, exec (.counterLoRead off page o) s = .next t ∧ t.reg (regKey page.toNat o.toNat) = 0 ∧
    t.reg (regKey page.toNat (o.toNat + 4)) = BitVec.ofNat 32 (FMap.getD w.wideHi (regKey page.toNat o.toNat) 0)) ∧
  -- R103: a read of an unassigned slot answers 0 and is recorded.
  (∀ (off : Nat) (addr : BitVec 26) (s : State), assigned (addr.toNat / 4096) = false → ∃ t : State, exec
    (.unassignedPageAccess off addr false) s = .next t ∧ t.rdata = [0] ∧ t.fld Pg.gbl F.GBL_UNMAPPED_ADDR_BAR =
    addr.toNat) ∧
  -- R143: a page that does not answer during a restart reads all ones.
  (∀ (off : Nat) (addr : BitVec 26) (s : State), assigned (addr.toNat / 4096) = true → s.bit Pg.gbl
    F.GBL_STATUS_RESTARTING = true → answersRestart (addr.toNat / 4096) = false → ∃ t : State, exec
    (.restartingPageAccess off addr false) s = .next t ∧ t.rdata = [0xFFFFFFFF]) ∧
  -- R126: a request that has missed its target at four boundaries is reported once.
  (∀ (off : Nat) (page : BitVec 14) (s : State), s.bit page.toNat F.HDR_UNIT_STATE_PENDING = true → 4 ≤ (s.unitAux
    page.toNat).waited → (s.unitAux page.toNat).mismatch = false → ∃ t : State, exec (.stateMismatch off page) s =
    .next t ∧ t.fld page.toNat F.HDR_UNIT_REQ_ACK_REASON = Reason.stateMismatch ∧ (t.unitAux page.toNat).mismatch =
    true) ∧
  -- R120, R124: a PRIMED unit whose self-test passes enters READY at the next boundary.
  (∀ (off : Nat) (page : BitVec 14) (s : State), ((s.at off).unitAux page.toNat).test = .primed → (s.at off).unit
    page.toNat = uPrimed → (s.at off).testReady page.toNat = true → (s.at off).framesLoaded page.toNat = true → ∃ t :
    State, exec (.unitSelftestDone off page true) s = .next t ∧ (t.unitAux page.toNat).test = .primedPassed) ∧
  -- R123: a passed reinstatement enters READY at the next boundary.
  (∀ (off : Nat) (page : BitVec 14) (s : State), ((s.at off).unitAux page.toNat).test = .reinstate → (s.at off).unit
    page.toNat = uRetired → (s.at off).channelGone page.toNat = false → ∃ t : State, exec (.reinstateSelftestDone off
    page true) s = .next t ∧ (t.unitAux page.toNat).test = .reinstatePassed) ∧
  -- R128: TRIGGER takes a snapshot of the page at the count.
  (∀ (off : Nat) (page : BitVec 14) (ctl : Word) (s : State), (s.at off).dropCause page.toNat = none → hasSnap
    page.toNat = true → ((s.at off).write page.toNat 0x030 (ctl.withField 0 1 1)).bit page.toNat
    F.HDR_SNAP_CTL_TRIGGER = true → ∃ t : State, exec (.snapshotTrigger off page ctl) s = .next t ∧ FMap.get? t.snapAt
    page.toNat = some (s.at off).count ∧ t.fld page.toNat F.HDR_SNAP_CTL_TRIGGER = 0) ∧
  -- R128: SNAP_ALL takes one of every page at one count.
  (∀ (off p : Nat) (s : State), p ∈ pf0Pages → hasSnap p = true → ∃ t : State, exec (.snapAll off) s = .next t ∧
    FMap.get? t.snapAt p = some (s.at off).count) ∧
  -- R132
  (∀ (off : Nat) (page : BitVec 14) (s : State), (s.at off).dropCause page.toNat = none → ∃ t : State, exec
    (.pageLockSet off page) s = .next t ∧ t.locked page.toNat = true) ∧
  -- R132: every assigned page of PF0 at one instant.
  (∀ (off p : Nat) (s : State), p ∈ pf0Pages → ∃ t : State, exec (.lockAll off) s = .next t ∧ t.locked p = true) ∧
  -- R186: at a boundary whose turn number is a multiple of LEAK_PERIOD a channel's leaky count falls by 1.
  (∀ (page : BitVec 14) (c : Channel) (s : State), pageClass page.toNat = 0x000B → s.wdl.stopped = false → s.count %
    65536 = 0 → s.turn % max 1 (s.inForce page.toNat F.OPE_LEAK_LEAK_PERIOD) = 0 → s.leaked (16 * page.toNat + (c.val
    + 1)) = false → ∃ t : State, exec (.leakDecrement page (some c)) s = .next t ∧ t.fld page.toNat (F.OPE_CH_LEAK
    c.val) = s.fld page.toNat (F.OPE_CH_LEAK c.val) - 1)

/-- Each training command of a serial lane completes and moves the lane as Table LAN-7 says. -/
def Obligations.LaneTrainingCommandsComplete : Prop :=
  -- R178: signal on a waiting Ryuklin lane begins a new cycle of attempts, from frame lock.
  (∀ (off : Nat) (l : LaneIx) (s : State), isRyk l.val = true → s.sig l.val = false → s.opticalLane l.val = false →
    s.lstate l.val = L.waitSignal ∨ s.lstate l.val = L.noPartner → ∃ t : State, exec (.signalDetectRise off l) s =
    .next (t.lanesFollow l.val) ∧ t.lstate l.val = L.frameLock ∧ t.sig l.val = true ∧ t.fld (Pg.lan l.val)
    F.LAN_STATUS_ATTEMPT = 1) ∧
  -- R179, R190: signal lost in an attempt ends it in NO_PARTNER.
  (∀ (off : Nat) (l : LaneIx) (s : State), isRyk l.val = true → s.sig l.val = true → s.opticalLane l.val = false →
    s.lstate l.val = L.train → ∃ t : State, exec (.lossOfSignal off l) s = .next (t.lanesFollow l.val) ∧ t.lstate
    l.val = L.noPartner ∧ t.sig l.val = false ∧ t.fld (Pg.lan l.val) F.LAN_STATUS_LAST_FAIL = 7) ∧
  -- R170: the third marker in a row gives frame lock, and the lane goes on to TRAIN.
  (∀ (off : Nat) (l : LaneIx) (marker : BitVec 64) (word : BitVec 40) (ask : BitVec 9) (s : State), isRyk l.val = true
    → s.lstate l.val = L.frameLock → (s.lane l.val).markers = 2 → (if s.rxInverted l.val then ~~~marker else marker) =
    trainMarker → wordValid (if s.rxInverted l.val then ~~~word else word) = false → ∃ t : State, exec
    (.trainingWordRx off l marker word false ask) s = .next (t.lanesFollow l.val) ∧ t.lstate l.val = L.train ∧ (t.lane
    l.val).frameLock = true) ∧
  -- R177: an attempt not UP in time fails: BACKOFF, or NO_PARTNER after the eighth.
  (∀ (off : Nat) (l : LaneIx) (s : State), s.lstate l.val = L.train → ∃ t : State, exec (.trainingAttemptTimeout off
    l) s = .next (t.lanesFollow l.val) ∧ t.lstate l.val = (if 8 ≤ s.fld (Pg.lan l.val) F.LAN_STATUS_ATTEMPT then
    L.noPartner else L.backoff) ∧ t.fld (Pg.lan l.val) F.LAN_STATUS_LAST_FAIL = 2) ∧
  -- R177, R178: with signal the gap ends in the next attempt.
  (∀ (off : Nat) (l : LaneIx) (s : State), s.lstate l.val = L.backoff → s.sig l.val = true → ∃ t : State, exec
    (.backoffExpiry off l) s = .next (t.lanesFollow l.val) ∧ t.lstate l.val = L.frameLock ∧ t.fld (Pg.lan l.val)
    F.LAN_TX_NOW = txPreset (s.inForce (Pg.lan l.val) F.LAN_CFG_INIT_PRESET)) ∧
  -- R178: with signal a new cycle begins after 1 s.
  (∀ (off : Nat) (l : LaneIx) (s : State), s.lstate l.val = L.noPartner → s.sig l.val = true → ∃ t : State, exec
    (.noPartnerRetry off l) s = .next (t.lanesFollow l.val) ∧ t.lstate l.val = L.frameLock ∧ t.fld (Pg.lan l.val)
    F.LAN_STATUS_ATTEMPT = 1) ∧
  -- R175: eight frames each way that say ready start 64b/66b.
  (∀ (off : Nat) (l : LaneIx) (s : State), 8 ≤ (s.lane l.val).sentReady → 8 ≤ (s.lane l.val).gotReady → s.refRole ≠ 0
    → s.lstate l.val = L.localReady → ∃ t : State, exec (.dataStart off l) s = .next (t.lanesFollow l.val) ∧ t.lstate
    l.val = L.dataStart) ∧
  -- R162, R176: block lock begins the lane test.
  (∀ (off : Nat) (l : LaneIx) (headers : List (Fin 4)) (s : State), s.lstate l.val = L.dataStart → 64 ≤ bestRun
    (s.lane l.val).code.run headers → ∃ t : State, exec (.blockLock off l headers) s = .next (t.lanesFollow l.val) ∧
    t.lstate l.val = L.test ∧ t.fld (Pg.lan l.val) F.LAN_STATUS_CODE_LOCK = 1) ∧
  -- R175, R177: no block lock within 1 ms fails the attempt.
  (∀ (off : Nat) (l : LaneIx) (s : State), s.lstate l.val = L.dataStart → ∃ t : State, exec (.blockLockTimeout off l)
    s = .next (t.lanesFollow l.val) ∧ t.fld (Pg.lan l.val) F.LAN_STATUS_LAST_FAIL = 5 ∧ t.lstate l.val = (if 8 ≤ s.fld
    (Pg.lan l.val) F.LAN_STATUS_ATTEMPT then L.noPartner else L.backoff)) ∧
  -- R162: the loss is counted and makes a running lane test fail.
  (∀ (off : Nat) (l : LaneIx) (headers : List (Fin 4)) (s : State), isRyk l.val = true → s.bit (Pg.lan l.val)
    F.LAN_STATUS_CODE_LOCK = true → (s.lane l.val).code.loses headers = true → s.lstate l.val = L.test → ∃ t : State,
    exec (.blockLockLoss off l headers) s = .next (t.lanesFollow l.val) ∧ t.fld (Pg.lan l.val) F.LAN_STATUS_CODE_LOCK
    = 0 ∧ (t.lane l.val).testBad = true) ∧
  -- R176: at most one invalid sync header, and the lane is UP.
  (∀ (off : Nat) (l : LaneIx) (invalid : Nat) (s : State), s.lstate l.val = L.test → (s.lane l.val).testBad = false →
    (s.lane l.val).testErrs + invalid ≤ 1 → ∃ t : State, exec (.laneTestDone off l invalid) s = .next (t.lanesFollow
    l.val) ∧ t.lstate l.val = L.up) ∧
  -- R180: a fast retrain that takes too long becomes a new cycle of attempts.
  (∀ (off : Nat) (l : LaneIx) (s : State), s.lstate l.val = L.fastRetrain → s.sig l.val = true → ∃ t : State, exec
    (.fastRetrainTimeout off l) s = .next (t.lanesFollow l.val) ∧ t.lstate l.val = L.frameLock ∧ t.fld (Pg.lan l.val)
    F.LAN_STATUS_ATTEMPT = 1)

/-- Each event of a running lane and of the two references completes and has its own effect. -/
def Obligations.LaneEventCommandsComplete : Prop :=
  -- R185: invalid blocks are counted; more than 16 in the interval are one transient event.
  (∀ (off : Nat) (l : LaneIx) (invalid : Nat) (s w : State), l.val ≠ 163 → w = ((((s.at off).linkErrors l.val
    invalid).incFld (Pg.lan l.val) F.LAN_HDR_ERR invalid).codeMap l.val (fun c => { c with bad := 0 })) → 16 < (s.lane
    l.val).code.bad + invalid → ∃ t : State, exec (.errorInterval off l invalid) s = .next (t.lanesFollow l.val) ∧ t =
    (if s.bit (Pg.lan l.val) F.LAN_STATUS_CODE_LOCK = true ∧ isRyk l.val = true then w.setLane l.val
    { w.lane l.val with testErrs := (w.lane l.val).testErrs + invalid } else w).laneEvent l.val) ∧
  -- R148: a lane with no receiver has no blocks.
  (∀ (off : Nat) (l : LaneIx) (invalid : Nat) (s : State), l.val = 163 → ∃ t : State, exec (.errorInterval off l
    invalid) s = .next t ∧ t = (s.at off).lanesFollow l.val) ∧
  -- R158, R198: the buffer recentres, the slip is counted and fails a running lane test.
  (∀ (off : Nat) (l : LaneIx) (drift : Int) (s : State), isRyk l.val = true → 16 < (signed 8 (s.fld (Pg.lan l.val)
    F.LAN_WANDER_b0) + drift).natAbs → ∃ t : State, exec (.wanderSlip off l drift) s = .next t ∧ t.fld (Pg.lan l.val)
    F.LAN_WANDER_b0 = unsigned 8 ((signed 8 (s.fld (Pg.lan l.val) F.LAN_WANDER_b0) + drift).tmod 17) ∧ (t.lane
    l.val).testBad = true) ∧
  -- R164: an 8b/10b lane with signal and CDR lock is FIXED_UP once synchronised.
  (∀ (off : Nat) (l : LaneIx) (g : BitVec 10) (s : State), l.val = 162 → s.wdl.lrefOk = true → s.lstate l.val =
    L.waitSignal → s.sig l.val = true → s.bit (Pg.lan l.val) F.LAN_STATUS_CDR_LOCK = true → s.bit (Pg.lan l.val)
    F.LAN_STATUS_CODE_LOCK = false → 3 ≤ ((s.lane l.val).code.group false (if s.rxInverted l.val then ~~~g else
    g).toNat).run → ∃ t : State, exec (.codeGroupSync off l [g]) s = .next t ∧ t.lstate l.val = L.fixedUp ∧ t.bit
    (Pg.lan l.val) F.LAN_STATUS_CODE_LOCK = true) ∧
  -- R152, R153: CDR lock of a receiver within its range, shown at once; and its loss.
  (∀ (off : Nat) (l : LaneIx) (gain : Bool) (ppm : Int) (s : State), (gain = true → ppm.natAbs ≤ (if isRyk l.val then
    6000 else 300) ∧ l.val ≠ 163 ∧ (l.val ∈ lrefLanes → s.wdl.lrefOk = true)) → ∃ t : State, exec (.cdrLock off l gain
    ppm) s = .next t ∧ t.bit (Pg.lan l.val) F.LAN_STATUS_CDR_LOCK = gain) ∧
  -- R183: a checker locks with the 64th bit in a row that fits its pattern.
  (∀ (off : Nat) (l : LaneIx) (b : Bool) (taps : Nat × Nat) (s : State), l.val ≠ 163 → l.val ≠ 162 → (s.at
    off).clocked l.val = true → (s.lane l.val).testMode / 256 % 4 = 0 → prbsTaps ((s.lane l.val).testMode / 16 % 8) =
    some taps → s.bit (Pg.lan l.val) F.LAN_PRBS_STATUS_CHK_LOCK = false → (s.lane l.val).code.good = 63 → prbsNext
    taps (s.lane l.val).code.chk = ((bitOf b + bitOf (s.rxInverted l.val)) % 2 + (s.lane l.val).testMode / 128) % 2 →
    ∃ t : State, exec (.prbsLock off l [b]) s = .next t ∧ t.fld (Pg.lan l.val) F.LAN_PRBS_STATUS_CHK_LOCK = 1) ∧
  -- R163: AN_RESTART begins autonegotiation again and clears itself.
  (∀ (off : Nat) (k : Fin 2) (ctl : Word) (s : State), (s.at off).dropCause (Pg.lan (160 + k.val)) = none → ((s.at
    off).write (Pg.lan (160 + k.val)) 0x080 ctl).bit (Pg.lan (160 + k.val)) F.LAN_AN_CTL_AN_RESTART = true → ((s.at
    off).write (Pg.lan (160 + k.val)) 0x080 ctl).bit (Pg.lan (160 + k.val)) F.LAN_AN_CTL_AN_EN = true → s.lstate (160
    + k.val) = L.fixedUp → ∃ t : State, exec (.anRestart off k ctl) s = .next t ∧ t.bit (Pg.lan (160 + k.val))
    F.LAN_AN_CTL_AN_RESTART = false ∧ t.fld (Pg.lan (160 + k.val)) F.LAN_AN_STATUS_AN_COMPLETE = 0 ∧ (t.lane (160 +
    k.val)).anSent = true) ∧
  -- R163: with the lane not up a restart sends no page and starts nothing; AN_RESTART reads 0.
  (∀ (off : Nat) (k : Fin 2) (ctl : Word) (s w : State), (s.at off).dropCause (Pg.lan (160 + k.val)) = none → w =
    (s.at off).write (Pg.lan (160 + k.val)) 0x080 ctl → w.bit (Pg.lan (160 + k.val)) F.LAN_AN_CTL_AN_RESTART = true →
    s.lstate (160 + k.val) ≠ L.fixedUp → ∃ t : State, exec (.anRestart off k ctl) s = .next t ∧ t = w.setFld (Pg.lan
    (160 + k.val)) F.LAN_AN_CTL_AN_RESTART 0) ∧
  -- R163: the partner's base page is shown.
  (∀ (off : Nat) (k : Fin 2) (base : BitVec 16) (s : State), s.bit (Pg.lan (160 + k.val)) F.LAN_AN_CTL_AN_EN = true →
    s.lstate (160 + k.val) = L.fixedUp → (s.lane (160 + k.val)).anSent = true → ∃ t : State, exec (.anComplete off k
    base) s = .next t ∧ t.fld (Pg.lan (160 + k.val)) F.LAN_AN_STATUS_AN_COMPLETE = 1 ∧ t.fld (Pg.lan (160 + k.val))
    F.LAN_AN_STATUS_b16 = base.toNat) ∧
  -- R199: a lane of another kind than Ryuklin enters FAULT.
  (∀ (off : Nat) (l : LaneIx) (s : State), isRyk l.val = false → s.unit (Pg.lan l.val) ≠ uOff → ∃ t : State, exec
    (.laneSelfcheckFail off l) s = .next (t.lanesFollow l.val) ∧ t = ((s.at off).fail (Pg.lan l.val)
    Reason.hwError).laneStop l.val) ∧
  -- R156: a candidate with CDR lock for 1 ms qualifies; a follower without one takes it.
  (∀ (off : Nat) (k : Fin 4) (s : State), s.refRole = 2 → s.rstate = R.acquire → s.bit refPage (F.REF_CAND_b7 k.val) =
    true → s.refLaneGood (s.fld refPage (F.REF_CAND_b0 k.val)) = true → (∀ j : Fin 4, j.val < k.val → s.candOk j.val =
    false) → ∃ t : State, exec (.candidateQualified off k) s = .next t ∧ t.rstate = R.locked ∧ t.fld refPage
    F.REF_STATUS_ACTIVE_CAND = k.val) ∧
  -- R156, R197: a follower that loses its candidate and has no other enters HOLDOVER.
  (∀ (off : Nat) (k : Fin 4) (s : State), s.refRole = 2 → s.rstate = R.locked → s.fld refPage F.REF_STATUS_ACTIVE_CAND
    = k.val → (∀ j : Fin 4, j ≠ k → s.candOk j.val = false) → ∃ t : State, exec (.candidateLoss off k) s = .next t ∧
    t.rstate = R.holdover ∧ t.fld refPage F.REF_STATUS_ACTIVE_CAND = 7) ∧
  -- R197: a ROOT without its reference enters HOLDOVER.
  (∀ (off : Nat) (s : State), s.refRole = 1 → s.rstate = R.locked → ∃ t : State, exec (.rrefLoss off) s = .next t ∧
    t.rref = false ∧ t.rstate = R.holdover) ∧
  -- R197: and is LOCKED again when it returns.
  (∀ (off : Nat) (s : State), s.refRole = 1 → s.rstate = R.holdover → ∃ t : State, exec (.rrefRestore off) s = .next t
    ∧ t.rref = true ∧ t.rstate = R.locked) ∧
  -- R93, R196, R236: the count stops.
  (∀ (off : Nat) (s : State), ∃ t : State, exec (.lrefLoss off) s = .next t ∧ t.wdl.stopped = true ∧ t.wdl.lrefOk =
    false) ∧
  -- R236
  (∀ (off : Nat) (s : State), ∃ t : State, exec (.lrefReturn off) s = .next t ∧ t.wdl.lrefOk = true ∧ t.fld Pg.byp
    F.BYP_STATUS_LREF_OK = 1)

/-- Each command of an optical engine completes and moves the channel or its APR group as the spec says. -/
def Obligations.OpticalCommandsComplete : Prop :=
  -- R203: power below ASSERT is LOS of the channel, and takes the lane's signal away.
  (∀ (off : Nat) (e : Engine) (c : Channel) (power : Nat) (s : State), s.chServes e.val c.val = true → s.bit (Pg.ope
    e.val) (F.OPE_CH_STATUS_LOS c.val) = false → power < s.inForce (Pg.ope e.val) F.OPE_LOS_THR_ASSERT → s.sig (laneOf
    e.val c.val) = false → ∃ t : State, exec (.losAssert off e c power) s = .next t ∧ t.bit (Pg.ope e.val)
    (F.OPE_CH_STATUS_LOS c.val) = true ∧ t.fld (Pg.ope e.val) (F.OPE_CH_PWR_b0 c.val) = power) ∧
  -- R203, R213: power at or above DEASSERT ends LOS.
  (∀ (off : Nat) (e : Engine) (c : Channel) (power : Nat) (s : State), s.chServes e.val c.val = true → s.deassertLevel
    e.val ≤ power → ∃ t : State, exec (.losDeassert off e c power) s = .next t ∧ t = (if (State.aprLeave (((s.at
    off).setFld (Pg.ope e.val) (F.OPE_CH_STATUS_LOS c.val) 0).setFld (Pg.ope e.val) (F.OPE_CH_PWR_b0 c.val) power)
    e.val (groupOf e.val c.val)).sig (laneOf e.val c.val) then State.aprLeave (((s.at off).setFld (Pg.ope e.val)
    (F.OPE_CH_STATUS_LOS c.val) 0).setFld (Pg.ope e.val) (F.OPE_CH_PWR_b0 c.val) power) e.val (groupOf e.val c.val)
    else ((State.aprLeave (((s.at off).setFld (Pg.ope e.val) (F.OPE_CH_STATUS_LOS c.val) 0).setFld (Pg.ope e.val)
    (F.OPE_CH_PWR_b0 c.val) power) e.val (groupOf e.val c.val)).signalRise (laneOf e.val c.val)).lanesFollow (laneOf e.val c.val))) ∧
  -- R212: every channel of a group in LOS, and the group enters APR.
  (∀ (off : Nat) (e : Engine) (g : Fin 4) (s : State), s.groupChannels e.val g.val ≠ [] → (s.groupChannels e.val
    g.val).all (fun c => s.bit (Pg.ope e.val) (F.OPE_CH_STATUS_LOS c)) = true → s.bit (Pg.ope e.val) ⟨0x044, 4 +
    g.val, 1⟩ = false → ∃ t : State, exec (.aprEntry off e g) s = .next t ∧ t.bit (Pg.ope e.val) ⟨0x044, 4 + g.val, 1⟩
    = true) ∧
  -- R212: a group in APR launches a restart pulse.
  (∀ (off : Nat) (e : Engine) (g : Fin 4) (s : State), s.bit (Pg.ope e.val) ⟨0x044, 4 + g.val, 1⟩ = true → ∃ t :
    State, exec (.aprPulse off e g) s = .next t ∧ t.bit (Pg.ope e.val) ⟨0x044, 8 + g.val, 1⟩ = true) ∧
  -- R212: the pulse ends, and RESTART with it.
  (∀ (off : Nat) (e : Engine) (g : Fin 4) (s : State), ∃ t : State, exec (.aprPulseEnd off e g) s = .next t ∧ t.bit
    (Pg.ope e.val) ⟨0x044, 8 + g.val, 1⟩ = false ∧ t.bit (Pg.ope e.val) ⟨0x050, g.val, 1⟩ = false) ∧
  -- R212: the write of OPE_APR with its RESTART bits taken.
  (∀ (off : Nat) (e : Engine) (v : Word) (s : State), (s.at off).dropCause (Pg.ope e.val) = none → ∃ t : State, exec
    (.aprRestart off e v) s = .next t ∧ t = ((s.at off).write (Pg.ope e.val) 0x050 v).aprRestart e.val) ∧
  -- Table OPE-2: a warm laser of a line engine goes to LOCKING, another lights.
  (∀ (off : Nat) (e : Engine) (c : Channel) (s : State), s.chState e.val c.val = C.warming → ∃ t : State, exec
    (.laserWarm off e c) s = .next t ∧ t.chState e.val c.val = if isLineEngine e.val then C.locking else C.lit) ∧
  -- R207: within 0.10 nm for 1 ms: LIT and LOCKED.
  (∀ (off : Nat) (e : Engine) (c : Channel) (err : BitVec 16) (s : State), isLineEngine e.val = true → s.chState e.val
    c.val = C.locking → (signed 16 err.toNat).natAbs ≤ 100 → ∃ t : State, exec (.wavelengthLocked off e c err) s =
    .next t ∧ t.chState e.val c.val = C.lit ∧ t.bit (Pg.ope e.val) (F.OPE_CH_STATUS_LOCKED c.val) = true) ∧
  -- R207, R214: past 0.30 nm the lock is lost, one transient event of the channel.
  (∀ (off : Nat) (e : Engine) (c : Channel) (err : BitVec 16) (s : State), isLineEngine e.val = true → s.chState e.val
    c.val = C.lit → ∃ t : State, exec (.wavelengthUnlock off e c err) s = .next t ∧ t = ((((s.at off).setFld (Pg.ope
    e.val) (F.OPE_CH_STATUS_LOCKED c.val) 0).setFld (Pg.ope e.val) (F.OPE_CH_STATUS_b16 c.val) err.toNat).raiseIrq
    (Pg.ope e.val) 3).chEvent e.val c.val) ∧
  -- R207, R214: past 0.90 nm the channel darkens into OFFGRID, one transient event.
  (∀ (off : Nat) (e : Engine) (c : Channel) (err : BitVec 16) (s : State), isLineEngine e.val = true → s.chState e.val
    c.val = C.lit → ∃ t : State, exec (.offgrid off e c err) s = .next t ∧ t = (((((s.at off).setCh e.val c.val
    C.offgrid).setFld (Pg.ope e.val) (F.OPE_CH_STATUS_LOCKED c.val) 0).setFld (Pg.ope e.val) (F.OPE_CH_STATUS_b16
    c.val) err.toNat).raiseIrq (Pg.ope e.val) 4).chEvent e.val c.val) ∧
  -- R208: a failed lock warms the laser again.
  (∀ (off : Nat) (e : Engine) (c : Channel) (s : State), s.chState e.val c.val = C.locking → (s.chan e.val
    c.val).lockFails < 2 → ∃ t : State, exec (.lockFailure off e c) s = .next t ∧ t.chState e.val c.val = C.warming ∧
    (t.chan e.val c.val).lockFails = (s.chan e.val c.val).lockFails + 1) ∧
  -- R209, R211: targets, then drive words, then the boundary's settings, as the command's meaning says.
  (∀ (off : Nat) (e : Engine) (h : Fin 16) (v : BitVec 16) (s : State), h.val ∈ heatersOf e.val → s.inForce (Pg.ope
    e.val) F.OPE_XT_CTL_XT_EN = 0 → ∃ t : State, exec (.heaterDriveUpdate off (.engine e [(h, v)] [])) s = .next t ∧
    t.fld (Pg.ope e.val) (F.OPE_HTR_b0 h.val) = v.toNat ∧ t.fld (Pg.ope e.val) (F.OPE_HTR_b16 h.val) = v.toNat) ∧
  -- R498, R499: on a measured mesh the temperature is taken and every heater is driven anew.
  (∀ (off : Nat) (temp : BitVec 16) (m : Nat) (s : State), s.lwl.measured = some m → ∃ t : State, exec
    (.heaterDriveUpdate off (.mesh temp)) s = .next t ∧ t = ((s.at off).setFld lwlPage F.LWL_TEMP
    temp.toNat).meshDrives) ∧
  -- R210: a heater held at a clamp for 1 ms is a transient event of each channel that owns it.
  (∀ (off : Nat) (e : Engine) (h : Fin 16) (s : State), s.fld (Pg.ope e.val) (F.OPE_HTR_b16 h.val) = 65535 → 65535 <
    (s.at off).drive e.val h.val → ∃ t : State, exec (.clampHold off (.engine e h)) s = .next t ∧ t = (heaterOwners
    e.val h.val).foldl (fun t c => t.chEvent e.val c) (s.at off)) ∧
  -- R498: of a driven mesh heater held at its clamp, a transient event of its column group; of another, nothing.
  (∀ (off : Nat) (k : Fin 4032) (s : State), ∃ t : State, exec (.clampHold off (.mesh k)) s = .next t ∧ t = if
    s.lwl.measured ≠ none ∧ (((s.at off).meshDrive (fun g => min 65535 ((s.at off).heaterTarget g)) k.val < 0 ∧
    FMap.getD s.lwl.drives k.val 0 = 0) ∨ (65535 < (s.at off).meshDrive (fun g => min 65535 ((s.at off).heaterTarget
    g)) k.val ∧ FMap.getD s.lwl.drives k.val 0 = 65535)) then (s.at off).cellEvent k.val else s.at off) ∧
  -- R214: no light on a channel of the engine retires it.
  (∀ (off : Nat) (e : Engine) (c : Channel) (s : State), c.val ∈ channelsOf e.val → ∃ t : State, exec
    (.channelFaultDetect off e (.noLight c)) s = .next t ∧ t = (s.at off).chRetire Reason.noLight e.val c.val) ∧
  -- R215: the write with REINSTATE taken.
  (∀ (off : Nat) (e : Engine) (c : Channel) (v : Word) (s : State), (s.at off).dropCause (Pg.ope e.val) = none →
    ((s.at off).write (Pg.ope e.val) (F.OPE_CH_CTL_REINSTATE c.val).off v).bit (Pg.ope e.val) (F.OPE_CH_CTL_REINSTATE
    c.val) = true → s.chState e.val c.val = C.retired → (s.chan e.val c.val).reinstate = 0 → ∃ t : State, exec
    (.chReinstate off e c v) s = .next t ∧ (t.chan e.val c.val).reinstate = 1) ∧
  -- R215: a passed self-test lights the channel.
  (∀ (off : Nat) (e : Engine) (c : Channel) (s : State), (s.chan e.val c.val).reinstate = 2 → ∃ t : State, exec
    (.chReinstateDone off e c true) s = .next t ∧ t.chState e.val c.val = C.lit ∧ t.bit (Pg.ope e.val)
    (F.OPE_CH_CTL_REINSTATE c.val) = false ∧ t.fld (Pg.ope e.val) (F.OPE_CH_LEAK c.val) = 0) ∧
  -- R238: the temperature is shown; up to 95 degrees and from 90 on nothing else changes.
  (∀ (off : Nat) (e : Engine) (temp : BitVec 16) (s : State), 720 ≤ signed 16 temp.toNat → signed 16 temp.toNat ≤ 760
    → ∃ t : State, exec (.engineOverTemp off e temp) s = .next t ∧ t = (s.at off).setFld (Pg.ope e.val) F.OPE_TEMP
    temp.toNat) ∧
  -- R237: on a link engine every channel retires.
  (∀ (off : Nat) (e : Engine) (s : State), s.absent (Pg.ope e.val) = false → s.unit (Pg.ope e.val) ≠ uOff →
    isLineEngine e.val = false → ∃ t : State, exec (.engineControllerFail off e) s = .next t ∧ t = (channelsOf
    e.val).foldl (State.chRetire · Reason.hwError e.val) (s.at off))

/-- Each command of the bypass island, of the supplies and of the safe state's entry completes with its effect. -/
def Obligations.IslandCommandsComplete : Prop :=
  -- R225: a policy written while STOPPED is in force at once.
  (∀ (off : Nat) (v : Word) (s : State), ((s.at off).write Pg.byp 0x040 v).tstate = T.stopped → ∃ t : State, exec
    (.bypPolicyWrite off v) s = .next t ∧ t = (((s.at off).write Pg.byp 0x040 v).forceNow (regKey Pg.byp
    0x040)).syncPolicies) ∧
  -- Table BYP-2: each FORCE bit that is set engages its pair.
  (∀ (off : Nat) (v : Word) (s : State), ∃ t : State, exec (.bypForceWrite off v) s = .next t ∧ t = ((s.at off).write
    Pg.byp 0x04C v).forceWritten) ∧
  -- Table BYP-2: the pin engages every pair.
  (∀ (off : Nat) (s : State), ∃ t : State, exec (.bypForceNLow off) s = .next t ∧ t.pins.forceN = false ∧ t = ((s.at
    off).pinsMap (fun x => { x with forceN := false })).engageAll Engage.forcePin) ∧
  -- R822: the pin no longer holds the pairs.
  (∀ (off : Nat) (s : State), ∃ t : State, exec (.bypForceNHigh off) s = .next t ∧ t.pins.forceN = true) ∧
  -- Table BYP-2: every pair engages, and trigger 9 of the safe state follows.
  (∀ (off : Nat) (s : State), s.pins.mainReset = false → ∃ t : State, exec (.heartbeatLoss off) s = .next t ∧ t =
    (((((((s.at off).pinsMap (fun x => { x with hbLost := true })).setFld Pg.byp F.BYP_STATUS_HB_OK 0).incFld Pg.byp
    F.BYP_ENGAGES_b16).raiseIrq Pg.byp 2).engageAll Engage.hbLoss).safeEnter [Trig.hbLoss] none)) ∧
  -- R225, R239: the island starts with the policies of its straps.
  (∀ (off : Nat) (straps : BitVec 8) (s : State), s.pins.island = false → ∃ t : State, exec (.islandPowerOn off
    straps) s = .next t ∧ t.pins.island = true ∧ t.fld Pg.byp ⟨0x040, 0, 8⟩ = straps.toNat) ∧
  -- R235: the line path stops with the island's supply.
  (∀ (off : Nat) (s : State), s.pins.island = true → ∃ t : State, exec (.islandSupplyFail off) s = .next t ∧
    t.pins.island = false) ∧
  -- Table BYP-2, Table FLT-4: MAIN_PG low engages every pair and enters the safe state.
  (∀ (off : Nat) (s : State), s.pins.mainPg = true → s.pins.mainReset = false → ∃ t : State, exec (.mainPgFall off) s
    = .next t ∧ t.pins.mainPg = false ∧ t = (((s.at off).pinsMap (fun x => { x with mainPg := false })).engageAll
    Engage.mainPg).safeEnter [Trig.mainPg] none) ∧
  -- R875, R899: as MAIN_PG low.
  (∀ (off : Nat) (s : State), s.pins.mainPg = true → s.pins.mainReset = false → ∃ t : State, exec (.mainUndervoltage
    off) s = .next t ∧ t.pins.mainPg = false ∧ t = (((s.at off).pinsMap (fun x =>
    { x with mainPg := false })).engageAll Engage.mainPg).safeEnter [Trig.mainPg] none) ∧
  -- R848
  (∀ (off : Nat) (s : State), ∃ t : State, exec (.mainPgRise off) s = .next t ∧ t.pins.mainPg = true) ∧
  -- R859: RESET_N resets the main domain and the security island.
  (∀ (off : Nat) (withPg : Bool) (s : State), s.pins.resetN = true → ∃ t : State, exec (.resetNFall off withPg) s =
    .next t ∧ t.pins.resetN = false ∧ t.pins.mainReset = true) ∧
  -- R847: the security island starts.
  (∀ (off : Nat) (s : State), s.pins.resetN = false → s.pins.island = true → ∃ t : State, exec (.resetNRise off) s =
    .next t ∧ t.pins.resetN = true ∧ t = ((s.at off).pinsMap (fun x => { x with resetN := true })).startSec)

/-- Each command of the safe state, of the resets and of the test access port completes and has its own effect. -/
def Obligations.SafeStateCommandsComplete : Prop :=
  -- R804: a trigger enters the safe state.
  (∀ (off : Nat) (c : Fin 12) (s : State), c.val ≠ 0 → s.pins.mainReset = false → ∃ t : State, exec (.safeStateEntry
    off [c] none) s = .next t ∧ t = (s.at off).safeEnter [c.val] none) ∧
  -- R813: the host's trigger.
  (∀ (off : Nat) (s : State), ∃ t : State, exec (.safeCtlEnter off) s = .next t ∧ t = ((s.at off).write Pg.flt 0x080
    (((s.at off).reg (regKey Pg.flt 0x080)).withField 1 2 1)).ctlEnter) ∧
  -- R812: a cold restart from HALTED.
  (∀ (off : Nat) (s : State), ∃ t : State, exec (.safeCtlRestart off) s = .next t ∧ t = ((s.at off).write Pg.flt 0x080
    (((s.at off).reg (regKey Pg.flt 0x080)).withField 1 2 2)).ctlRestart) ∧
  -- Table FLT-4: an error of the aggregator is a trigger.
  (∀ (off : Nat) (s : State), s.pins.mainReset = false → ∃ t : State, exec (.fltErr off) s = .next t ∧ t = (s.at
    off).safeEnter [Trig.fltErr] (some Pg.flt)) ∧
  -- R806, R807: with no dump waited for, the reset of the restart is asserted.
  (∀ (off : Nat) (dumped : Bool) (s : State), s.sstate = SState.entering → s.bit (Pg.cpc 10) F.CPC_DUMP_STATUS_WRITING
    = false → s.safe.cold = true → ∃ t : State, exec (.safeResetAssert off dumped true) s = .next t ∧ t.pins.mainReset
    = true ∧ (t.sstate = SState.cold ∨ t.sstate = SState.halted)) ∧
  -- R848, R849: with every condition met the main domain leaves reset.
  (∀ (off : Nat) (straps : BitVec 3) (waitUs holdUs islandUs : Word) (s : State), 100 ≤ holdUs.toNat →
    s.pins.mainReset = true → s.pins.island = true → s.pins.mainPg = true → s.pins.resetN = true → s.wdl.lrefOk = true
    → straps.toNat / 4 % 2 = 0 → s.sstate = SState.cold → ∃ t : State, exec (.mainResetRelease off straps true waitUs
    holdUs islandUs) s = .next t ∧ t.pins.mainReset = false ∧ t.pins.hbLost = false) ∧
  -- R809: the restart is over, NORMAL again.
  (∀ (off : Nat) (micros : Word) (s : State), s.sstate = SState.cold → s.pins.mainReset = false → s.loadState =
    LS'.done → s.fwState = FW.running → s.safe.resume = [] → ∃ t : State, exec (.restartComplete off micros) s = .next
    t ∧ t.sstate = SState.normal ∧ t.fld Pg.gbl F.GBL_STATUS_LAST_RESTART = 1 ∧ t.fld Pg.flt F.FLT_SAFE_RESTART_US =
    micros.toNat) ∧
  -- R823: a warm restart that takes too long is made cold.
  (∀ (off : Nat) (us : Nat) (s : State), s.sstate = SState.warm → 40000 + s.fld Pg.flt F.FLT_SAFE_HOLD_US ≤ us → ∃ t :
    State, exec (.warmRestartTimeout off us) s = .next t ∧ t.sstate = SState.cold ∧ t.pins.mainReset = true) ∧
  -- R893, R894: a listed instruction the debug level allows is loaded.
  (∀ (off : Nat) (opcode : BitVec 8) (l : Nat) (s : State), tapLevel opcode.toNat = some l → l ≤ s.fld (Pg.sec 6)
    F.SEC_DBG_STATUS_b0 → ∃ t : State, exec (.tapInstruction off opcode) s = .next t ∧ t.tap = (opcode.toNat,
    s.tap.2))

/-- Each command of a line port and of its SecY completes and has its own effect. -/
def Obligations.LinePortCommandsComplete : Prop :=
  -- R246, R275: a port with link that loses alignment has no link.
  (∀ (off : Nat) (p : Port) (s : State), ∃ t : State, exec (.linkLoss off p .align) s = .next t ∧ t = (s.at
    off).loseLink p.val 2 .pcsAlign) ∧
  -- R150, R246: with its four lanes up and its locks the port has link; a rate out of range qualifies no anchor.
  (∀ (off : Nat) (p : Port) (rate : Int) (s : State), s.link p.val = false → ([0, 1, 2, 3].all (fun c => s.carries (4
    * p.val + c))) = true → 250000 < rate.natAbs → ∃ t : State, exec (.linkUp off p rate) s = .next t ∧ t.link p.val =
    true ∧ t.bit (Pg.lnp p.val) F.LNP_STATUS_BLOCK_LOCK = true ∧ t.bit (Pg.lnp p.val) F.LNP_STATUS_ALIGN_LOCK = true)
    ∧
  -- R249: the partner has held link for LFP_HOLD turns.
  (∀ (off : Nat) (p : Port) (s : State), (s.portAux p.val).held = true → s.link (otherPort p.val) = true → (s.portAux
    (otherPort p.val)).linkAt + 65536 * s.lfpHold p.val ≤ (s.at off).turn * 65536 → ∃ t : State, exec
    (.propagationRemove off p) s = .next t ∧ t = (s.at off).unholdPort p.val) ∧
  -- R247: a received fault sequence is shown, and the transmit side follows.
  (∀ (off : Nat) (p : Port) (s : State), ∃ t : State, exec (.rxFault off p true) s = .next t ∧ t = (((s.at off).setFld
    (Pg.lnp p.val) F.LNP_STATUS_RX_RF 1).raiseIrq (Pg.lnp p.val) 2).syncTx p.val) ∧
  -- R247
  (∀ (off : Nat) (p : Port) (s : State), ∃ t : State, exec (.rxFaultEnd off p) s = .next t ∧ t = (((s.at off).setFld
    (Pg.lnp p.val) F.LNP_STATUS_RX_LF 0).setFld (Pg.lnp p.val) F.LNP_STATUS_RX_RF 0).syncTx p.val) ∧
  -- R253 to R257: a frame that Table MSC-1 lets pass goes on to S2 without its SecTAG and ICV.
  (∀ (off : Nat) (i : Pipe) (id : Nat) (rest b : List Nat) (s u : State), s.queue i.val 1 = id :: rest → s.inForce
    (Pg.msc (s.frame id).port) F.MSC_CTL_ENABLE ≠ 0 → s.inForce (Pg.msc (s.frame id).port) F.MSC_CTL_EAPOL_TERM = 0 →
    ((s.at off).takeHead i.val 1).unsealBy (s.frame id).port (s.frame id).bytes = (.pass b, u) → ∃ t : State, exec
    (.unsealFrame off i) s = .next t ∧ t = (u.setFrame id { s.frame id with bytes := b, len := b.length + 4 }).handOn
    i.val 1 id) ∧
  -- R261: a packet number written while its SA is out of use.
  (∀ (off : Nat) (p : Port) (tx : Bool) (c : Fin 8) (a : Fin 4) (high : Bool) (v : Word) (s : State), (s.at
    off).dropCause (Pg.msc p.val) = none → s.saIdle p.val (if tx then 0x100 + 32 * a.val else 0x210 + 128 * c.val + 16
    * a.val) = true → ∃ t : State, exec (.saPnWrite off p tx c a high v) s = .next t ∧ t = (s.at off).writePn p.val
    ((if tx then 0x100 + 32 * a.val else 0x210 + 128 * c.val + 16 * a.val) + (if high then 8 else 4)) (if tx then
    0x100 + 32 * a.val else 0x210 + 128 * c.val + 16 * a.val) (fun u => u.write (Pg.msc p.val) ((if tx then 0x100 + 32
    * a.val else 0x210 + 128 * c.val + 16 * a.val) + (if high then 8 else 4)) v)) ∧
  -- R255, R353: S10 takes the head of its queue, seals it and hands it on.
  (∀ (off : Nat) (i : Pipe) (te : Nat) (it : Item) (rest : List Item) (s : State), s.sealQ i.val = it :: rest → ∃ t :
    State, exec (.sealItem off i te) s = .next t ∧ t = ((((s.at off).setSealQ i.val rest).syncFloat i.val 10).sealItem
    i.val it (max te ((((s.at off).setSealQ i.val rest).syncFloat i.val 10).wide (regKey Pg.ptp 0x048))) |>.pullAll 0
    9).pullAll 1 9)

/-- S0 takes a received frame: good ones go on to S1, bad ones and those without room to the Sump, and a pair out of service takes none. -/
def Obligations.FrameIntakeCompletes : Prop :=
  -- R280, R281: a good frame on a port in service with cells and a place free takes both and goes on to S1 with its
  -- descriptor.
  (∀ (off dur : Nat) (p : Port) (b : List (BitVec 8)) (ti corr uncorr : Nat) (cells : Nat × Nat) (s : State), (s.at
    off).inService (pairOf p.val) = true → s.link p.val = true → s.pins.mainReset = false → (∀ c ∈ [0, 1, 2, 3],
    s.carries (4 * p.val + c) = true) → 60 ≤ b.length → b.length + 4 ≤ s.maxLen p.val → s.takeCells (p.val % 2) p.val
    ((b.length + 4 + 255) / 256) = some cells → s.intakeOpen p.val = true → ∃ t : State, exec (.frameIntake off dur p
    b false false false ti corr uncorr) s = .next t ∧ (t.frame s.pipe.nextId).bytes = b.map BitVec.toNat ∧ (t.frame
    s.pipe.nextId).len = b.length + 4 ∧ (t.frame s.pipe.nextId).port = p.val ∧ (t.frame s.pipe.nextId).stamp = (s.at
    off).count - dur ∧ (t.frame s.pipe.nextId).pseq = FMap.getD s.pipe.pseq p.val 0 ∧ (t.frame s.pipe.nextId).cells =
    cells ∧ t.pipe.nextId = s.pipe.nextId + 1 ∧ FMap.get? t.pipe.pseq p.val = some ((FMap.getD s.pipe.pseq p.val 0 +
    1) % 2 ^ 32)) ∧
  -- R243: a frame with an error is counted under the first reason of its list.
  (∀ (off dur : Nat) (p : Port) (b : List (BitVec 8)) (trunc code badFcs : Bool) (ti corr uncorr : Nat) (cells : Nat ×
    Nat) (why : Nat) (s : State), (s.at off).inService (pairOf p.val) = true → s.link p.val = true → s.pins.mainReset
    = false → (∀ c ∈ [0, 1, 2, 3], s.carries (4 * p.val + c) = true) → rxError (s.maxLen p.val) (b.length + 4) trunc
    code badFcs = some why → s.takeCells (p.val % 2) p.val ((b.length + 4 + 255) / 256) = some cells → s.intakeOpen
    p.val = true → ∃ t : State, exec (.frameIntake off dur p b trunc code badFcs ti corr uncorr) s = .next t ∧ t.fld
    (Pg.lnp p.val) (rxErrorField why) = min (s.fld (Pg.lnp p.val) (rxErrorField why) + 1) (2 ^ (rxErrorField why).w -
    1) ∧ FMap.get? t.pipe.pseq p.val = some ((FMap.getD s.pipe.pseq p.val 0 + 1) % 2 ^ 32)) ∧
  -- R282, R283: without cells or without a place the frame is counted INTAKE_FULL, and no frame enters the pipeline.
  (∀ (off dur : Nat) (p : Port) (b : List (BitVec 8)) (trunc code badFcs : Bool) (ti corr uncorr : Nat) (s : State),
    (s.at off).inService (pairOf p.val) = true → s.link p.val = true → s.pins.mainReset = false → (∀ c ∈ [0, 1, 2, 3],
    s.carries (4 * p.val + c) = true) → s.takeCells (p.val % 2) p.val ((b.length + 4 + 255) / 256) = none ∨
    s.intakeOpen p.val = false → ∃ t : State, exec (.frameIntake off dur p b trunc code badFcs ti corr uncorr) s =
    .next t ∧ t.pipe.frames = s.pipe.frames ∧ t.pipe.queues = s.pipe.queues ∧ t.fld (Pg.stg (p.val % 2) 0)
    (F.STG_S0_FULL (p.val / 2)) = min (s.fld (Pg.stg (p.val % 2) 0) (F.STG_S0_FULL (p.val / 2)) + 1) (2 ^
    (F.STG_S0_FULL (p.val / 2)).w - 1)) ∧
  -- R56, R219: out of service nothing is taken; a pair in OPEN passes the frame on at its other port.
  (∀ (off dur : Nat) (p : Port) (b : List (BitVec 8)) (trunc code badFcs : Bool) (ti corr uncorr : Nat) (s : State),
    (s.at off).inService (pairOf p.val) = false ∨ s.link p.val = false ∨ s.pins.mainReset = true ∨ (∃ c ∈ [0, 1, 2,
    3], s.carries (4 * p.val + c) = false) → ∃ t : State, exec (.frameIntake off dur p b trunc code badFcs ti corr
    uncorr) s = .next t ∧ t = if (s.at off).retimes (otherPort p.val) then (s.at off).emit (.retimed (otherPort p.val)
    (b.map BitVec.toNat) trunc code badFcs) else s.at off)

/-- A capture that waits too long is lost, and S2 parses the head of its queue and hands it on. -/
def Obligations.CaptureAndParseComplete : Prop :=
  -- R351: a capture that has waited its time is lost and gives its hold back.
  (∀ (off n : Nat) (c : Capture) (s : State), s.pipe.captures[n]? = some c → c.deadline ≤ (s.at off).count → ∃ t :
    State, exec (.captureDeadline off n) s = .next t ∧ t.fld Pg.smp F.SMP_CAP_LOST = min (s.fld Pg.smp F.SMP_CAP_LOST
    + 1) (2 ^ F.SMP_CAP_LOST.w - 1) ∧ t.pipe.captures = s.pipe.captures.eraseIdx n ∧ t.fld Pg.smp ⟨0x020, 1, 1⟩ = 1) ∧
  -- R281, R351: with the frame's last hold its cells are free.
  (∀ (off n id : Nat) (c : Capture) (f : Frame) (s : State), s.pipe.captures[n]? = some c → c.deadline ≤ (s.at
    off).count → c.frame = some id → s.frame? id = some f → f.holds ≤ 1 → ∃ t : State, exec (.captureDeadline off n) s
    = .next t ∧ t.frame? id = none) ∧
  -- R287: the head of S2's queue is parsed, offered at FT1 and handed on.
  (∀ (off : Nat) (i : Pipe) (id : Nat) (rest : List Nat) (s u : State) (o : Option Nat), s.queue i.val 2 = id :: rest
    → ((s.at off).takeHead i.val 2).ptpParse (s.frame id) (parseBytes (s.inForce (Pg.stg i.val 2) F.STG_S2_TPID)
    (s.frame id).bytes) (s.inForce (Pg.stg i.val 2) F.STG_S2_TPID) = (o, u) → ∃ t : State, exec (.parseFrame off i) s
    = .next t ∧ t = (((u.setFrame id
    { s.frame id with parse := { parseBytes (s.inForce (Pg.stg i.val 2) F.STG_S2_TPID) (s.frame id).bytes with ptp := o } }).countFlags
    i.val (parseBytes (s.inForce (Pg.stg i.val 2) F.STG_S2_TPID) (s.frame id).bytes).flags).offer 0 id).handOn i.val 2
    id)

/-- S3 looks up the head of its queue: a hit, a new miss, a miss already pending, a frame without a key; and the bucket read returns, in time or late. -/
def Obligations.FlowLookupsComplete : Prop :=
  -- R291, R292: a frame whose record is in the cache meets it there.
  (∀ (off : Nat) (i : Pipe) (id : Nat) (rest : List Nat) (s u w : State) (key n : Nat) (e : CacheEntry), u = (s.at
    off).updateClock (i.val = 0) → (s.at off).updateWaits (i.val = 0) = false → s.queue i.val 3 = id :: rest → w = (if
    i.val = 1 then u.noteP1 else u).takeHead i.val 3 → flowKey (w.frame id) = some key → w.cacheFind key (keyHash key)
    = some (n, e) → ∃ t : State, exec (.flowLookup off i) s = .next t ∧ t = ((w.incFld (Pg.stg i.val 3)
    F.STG_FT_HITS).hit id n e).leaveFlow id) ∧
  -- R289: a frame without a recognised L3 header goes on without a record.
  (∀ (off : Nat) (i : Pipe) (id : Nat) (rest : List Nat) (s u w : State), u = (s.at off).updateClock (i.val = 0) →
    (s.at off).updateWaits (i.val = 0) = false → s.queue i.val 3 = id :: rest → w = (if i.val = 1 then u.noteP1 else
    u).takeHead i.val 3 → flowKey (w.frame id) = none → ∃ t : State, exec (.flowLookup off i) s = .next t ∧ t =
    w.leaveFlow id) ∧
  -- R291: a record not in the cache is read from its bucket, and the frame waits on the miss.
  (∀ (off : Nat) (i : Pipe) (id : Nat) (rest : List Nat) (s u w : State) (key : Nat), u = (s.at off).updateClock
    (i.val = 0) → (s.at off).updateWaits (i.val = 0) = false → s.queue i.val 3 = id :: rest → w = (if i.val = 1 then
    u.noteP1 else u).takeHead i.val 3 → flowKey (w.frame id) = some key → w.cacheFind key (keyHash key) = none → (∀ m
    ∈ w.pipe.misses, m.key ≠ key) → w.cacheOnly = false → w.freeWay (keyHash key) ≠ none → w.pipe.misses.length < 512
    → ∃ t : State, exec (.flowLookup off i) s = .next t ∧ t.pipe.misses = w.pipe.misses ++ [⟨key, keyHash key, [id],
    u.count⟩]) ∧
  -- R291: a frame whose key's bucket read is pending waits on it too.
  (∀ (off : Nat) (i : Pipe) (id : Nat) (rest : List Nat) (s u w : State) (key : Nat), u = (s.at off).updateClock
    (i.val = 0) → (s.at off).updateWaits (i.val = 0) = false → s.queue i.val 3 = id :: rest → w = (if i.val = 1 then
    u.noteP1 else u).takeHead i.val 3 → flowKey (w.frame id) = some key → w.cacheFind key (keyHash key) = none → (∃ m
    ∈ w.pipe.misses, m.key = key) → ∃ t : State, exec (.flowLookup off i) s = .next t ∧ t.pipe.misses =
    w.pipe.misses.map (fun m => if m.key = key then { m with frames := m.frames ++ [id] } else m)) ∧
  -- R291, R293: the bucket read returns without the key: each waiting frame is served in order.
  (∀ (off n : Nat) (m : Miss) (s v w : State), s.pipe.misses[n]? = some m → v = (s.at off).updateClock ((s.at
    off).missOf m 0) → w = (if (s.at off).missOf m 1 then v.noteP1 else v).pipeMap (fun p =>
    { p with misses := p.misses.eraseIdx n }) → w.cacheOnly = false → (w.slotsOf m.hash).find? (fun k => (w.slotRec
    k).valid && (w.slotRec k).key = m.key) = none → (s.at off).updateWaits ((s.at off).missOf m 0) = false → (s.at
    off).ddrBusy ((s.at off).slotAddr (8 * (s.at off).bucketOf m.hash)) 1024 = false → (s.at off).ddrPoison ((s.at
    off).slotAddr (8 * (s.at off).bucketOf m.hash)) 1024 = false → ∃ t : State, exec (.flowMissReturn off n false) s =
    .next t ∧ t = m.frames.foldl (State.serveMiss m) w) ∧
  -- R291, R295: it returns with the key: the record enters the cache, and each waiting frame is served in order.
  (∀ (off n k : Nat) (m : Miss) (x : Nat × State) (s v w : State), s.pipe.misses[n]? = some m → v = (s.at
    off).updateClock ((s.at off).missOf m 0) → w = (if (s.at off).missOf m 1 then v.noteP1 else v).pipeMap (fun p =>
    { p with misses := p.misses.eraseIdx n }) → w.cacheOnly = false → (w.slotsOf m.hash).find? (fun k => (w.slotRec
    k).valid && (w.slotRec k).key = m.key) = some k → (s.at off).updateWaits ((s.at off).missOf m 0) = false →
    w.install m.hash (s.slotRec k) (some k) false = some x → (s.at off).ddrBusy ((s.at off).slotAddr (8 * (s.at
    off).bucketOf m.hash)) 1024 = false → (s.at off).ddrPoison ((s.at off).slotAddr (8 * (s.at off).bucketOf m.hash))
    1024 = false → ∃ t : State, exec (.flowMissReturn off n false) s = .next t ∧ t = m.frames.foldl (State.serveMiss
    m) x.2) ∧
  -- R323: while S3 runs cache-only the frames of a returned miss are served in the cache alone (entry 144).
  (∀ (off n : Nat) (m : Miss) (s v w : State), s.pipe.misses[n]? = some m → v = (s.at off).updateClock ((s.at
    off).missOf m 0) → w = (if (s.at off).missOf m 1 then v.noteP1 else v).pipeMap (fun p =>
    { p with misses := p.misses.eraseIdx n }) → w.cacheOnly = true → (s.at off).updateWaits ((s.at off).missOf m 0) =
    false → (s.at off).ddrBusy ((s.at off).slotAddr (8 * (s.at off).bucketOf m.hash)) 1024 = false → (s.at
    off).ddrPoison ((s.at off).slotAddr (8 * (s.at off).bucketOf m.hash)) 1024 = false → ∃ t : State, exec
    (.flowMissReturn off n false) s = .next t ∧ t = m.frames.foldl (State.serveMiss m) w) ∧
  -- R43, R314, R316: a lookup of P0 in a clock in which P1 has updated, or one after an expiry or an annotation in
  -- its clock, waits for the next clock; where the turn has none left it is not served (entry 117).
  (∀ (off : Nat) (i : Pipe) (s : State), s.queue i.val 3 ≠ [] → (s.at off).updateWaits (i.val = 0) = true → ∃ t :
    State, exec (.flowLookup off i) s = .next t ∧ t = s.at off) ∧
  -- R312: past MISS_LIMIT the frames go on without a record and the read stays pending.
  (∀ (off n : Nat) (m : Miss) (s : State), s.pipe.misses[n]? = some m → m.since + s.inForce ftPage F.STG_FT_MISS_LIMIT
    ≤ (s.at off).count → ∃ t : State, exec (.missLate off n) s = .next t ∧ t = ((s.at off).pipeMap (fun p =>
    { p with misses := p.misses.set n { m with frames := [] } })).dropMiss m.frames F.STG_FT_LATE_MISS_LATE (some 9))

/-- Idle records end, annotations reach their record, and FT_INIT clears the table. -/
def Obligations.FlowRecordCommandsComplete : Prop :=
  -- R296, R304: an idle record of a cache way ends with its streams.
  (∀ (off n : Nat) (e : CacheEntry) (s : State), FMap.get? s.pipe.cache n = some e → e.slot = none → e.body.valid =
    true → (s.at off).idle e.body = true → s.pinned (handleOf n e) = false → ∃ t : State, exec (.recordExpiry off true
    n) s = .next t ∧ t = ((((s.at off).reached.endStreams (handleOf n e)).pipeMap (fun p =>
    { p with cache := FMap.erase p.cache n })).incFld ftPage F.STG_FT_EXPIRED).incFld ftPage F.STG_FT_LOSS_EVICT_LOST
    ∧ FMap.get? t.pipe.cache n = none) ∧
  -- R311, R316: applied where slot and generation match the handle.
  (∀ (off : Nat) (i : Pipe) (handle : BitVec 32) (b : List (BitVec 8)) (mask : BitVec 16) (s : State) (w : Nat) (e :
    CacheEntry), s.cacheOf handle.toNat = some (w, e) → e.body.valid = true → ∃ t : State, exec (.annotationReturn off
    i handle b mask) s = .next t ∧ t = (s.at off).reached.setCache w
    { e with body := { e.body with annot := maskBytes e.body.annot (b.map BitVec.toNat) mask.toNat }, dirty := true })
    ∧
  -- R323, R326: the clear starts, and S3 runs cache-only.
  (∀ (off : Nat) (v : Word) (s : State), (s.at off).dropCause ftPage = none → ((s.at off).write ftPage 0x108 v).bit
    ftPage F.STG_FT_CTL_FT_INIT = true → ((s.at off).write ftPage 0x108 v).cacheOnly = false → ∃ t : State, exec
    (.ftInit off v) s = .next t ∧ t.cacheOnly = true) ∧
  -- R326: FT_INIT clears itself when the clear is done.
  (∀ (off : Nat) (s : State), s.bit ftPage F.STG_FT_CTL_FT_INIT = true → ∃ t : State, exec (.ftInitDone off) s = .next
    t ∧ t.bit ftPage F.STG_FT_CTL_FT_INIT = false ∧ t.fld ftPage ⟨0x020, 11, 1⟩ = 1)

/-- Each command of the stages S4 to S8 completes and has its own effect. -/
def Obligations.PipelineMiddleCommandsComplete : Prop :=
  -- R297 to R300 are the order of a TCP frame; a frame without a handle is handed on.
  (∀ (off : Nat) (i : Pipe) (id : Nat) (rest : List Nat) (s : State), s.queue i.val 4 = id :: rest → (((s.at
    off).takeHead i.val 4).frame id).handle = none → ∃ t : State, exec (.streamOrder off i) s = .next t ∧ t = ((s.at
    off).takeHead i.val 4).handOn i.val 4 id) ∧
  -- R297, R298: the first segment of a direction starts its stream at the segment's first byte, and its payload is
  -- delivered at once.
  (∀ (off : Nat) (i : Pipe) (id h : Nat) (rest : List Nat) (f : Frame) (s w : State), s.queue i.val 4 = id :: rest → w
    = (s.at off).takeHead i.val 4 → f = w.frame id → f.handle = some h → f.parse.l4 = true → f.parse.proto = 6 →
    w.strm? h f.inst = none → f.parse.stops = false → ∃ t : State, exec (.streamOrder off i) s = .next t ∧ (t.strm? h
    f.inst).map (fun x => (x.isn, x.next, x.held.length, x.ended)) = some (f.parse.firstSeq, (sliceOf f.bytes f.parse.pay
    f.parse.payLen).length, 0, false) ∧ t.wdl = s.wdl ∧ t.tiles = s.tiles) ∧
  -- R281, R297: the frame at the head of S4's queue leaves it, ordered first where it is a TCP segment with a record.
  (∀ (off : Nat) (i : Pipe) (id : Nat) (rest : List Nat) (s w : State), s.queue i.val 4 = id :: rest → w = (s.at
    off).takeHead i.val 4 → ∃ t : State, exec (.streamOrder off i) s = .next t ∧ t = ((w.frame id).handle.elim w (fun
    h => if (w.frame id).parse.l4 && (w.frame id).parse.proto = 6 then w.order id h else w)).handOn i.val 4 id) ∧
  -- R300, R317: held data that has waited HOLE_HOLD turns is delivered past the gap.
  (∀ (handle : BitVec 32) (dir : Fin 2) (s : State) (x : Strm), s.count % 65536 = 0 → s.strm? handle.toNat dir.val =
    some x → s.holeDue x = true → ∃ t : State, exec (.holeHoldExpiry handle dir) s = .next t ∧ t = (s.expireHoles
    handle.toNat dir.val).2.deliverLate x.inst handle.toNat dir.val (s.expireHoles handle.toNat dir.val).1) ∧
  -- R302 to R305: the frame takes up to four windows on with it.
  (∀ (off : Nat) (i : Pipe) (id : Nat) (rest : List Nat) (s : State), s.queue i.val 5 = id :: rest → (((s.at
    off).takeHead i.val 5).frame id).handle = none → ∃ t : State, exec (.fileCarve off i) s = .next t ∧ t = ((((s.at
    off).takeHead i.val 5).pipeMap (fun p =>
    { p with spill := FMap.setC p.spill i.val ((FMap.getD ((s.at off).takeHead i.val 5).pipe.spill i.val []).drop 4) [] })).setFrame
    id
    { ((s.at off).takeHead i.val 5).frame id with windows := (FMap.getD ((s.at off).takeHead i.val 5).pipe.spill i.val []).take 4, deliv := [], objType := 0 }).handOn
    i.val 5 id) ∧
  -- R307, R310: the flow vector is built and the frame offered at FT3.
  (∀ (off : Nat) (i : Pipe) (id : Nat) (rest : List Nat) (s : State), s.queue i.val 6 = id :: rest → ∃ t : State, exec
    (.featureBuild off i) s = .next t ∧ t = ((((((s.at off).takeHead i.val 6).setFrame id
    { ((s.at off).takeHead i.val 6).frame id with vec := ((s.at off).takeHead i.val 6).features (((s.at off).takeHead i.val 6).frame id) }).incFld
    (Pg.stg i.val 6) F.STG_FB_VECTORS).incFld (Pg.stg i.val 6) F.STG_FB_WINDOWS (((s.at off).takeHead i.val 6).frame
    id).windows.length).offer 2 id).handOn i.val 6 id) ∧
  -- R285: a finished frame not accepted in time goes to the Sump.
  (∀ (off : Nat) (i : Pipe) (n : Fin 12) (id t0 : Nat) (rest : List (Nat × Nat)) (s : State), n.val ≠ 9 → n.val ≠ 10 →
    s.waiting i.val n.val = (id, t0) :: rest → t0 + s.acceptLimit i.val n.val ≤ (s.at off).count → ∃ t : State, exec
    (.stageStall off i n) s = .next t ∧ t = ((((((if n.val = 4 then (s.at off).passOn i.val id else s.at
    off)).setWaiting i.val n.val rest).incFld (Pg.stg i.val n.val) F.STG_STALL).raiseIrq (Pg.stg i.val n.val)
    2).sumpFrame i.val n.val Why.stall id).syncFloat i.val n.val) ∧
  -- R285: an item of S9 or S10 that waits too long goes to the Sump, and those behind it that fit go on.
  (∀ (off : Nat) (i : Pipe) (n : Fin 12) (it : Item) (t0 : Nat) (rest : List (Item × Nat)) (s : State), n.val = 9 ∨
    n.val = 10 → s.itemsWaiting i.val n.val = (it, t0) :: rest → t0 + s.acceptLimit i.val n.val ≤ (s.at off).count → ∃
    t : State, exec (.stageStall off i n) s = .next t ∧ t = (((((s.at off).setItemsWaiting i.val n.val rest).incFld
    (Pg.stg i.val n.val) F.STG_STALL).raiseIrq (Pg.stg i.val n.val) 2).sumpItemOf i.val n.val Why.stall it).pullAll
    i.val n.val) ∧
  -- R321, R322: an uncorrectable error of a cache way retires it and loses its record.
  (∀ (off : Nat) (i : Pipe) (w : Fin 131072) (s : State), ∃ t : State, exec (.storeEccError off i (.way w) false none)
    s = .next t ∧ FMap.get? t.pipe.cache w.val = none) ∧
  -- R331, R333: the head of S7's queue has its items sent and goes on to S8.
  (∀ (off : Nat) (i : Pipe) (id : Nat) (rest : List Nat) (s : State), s.queue i.val 7 = id :: rest → s.waiting i.val 6
    = [] → (i.val = 0 → (s.at off).noClock s.pipe.sentP1 = false) → (s.at off).noClock s.energy.inAt = false → ∃ t :
    State, exec (.scoreDispatch off i) s = .next t ∧ t.queue i.val 7 = rest) ∧
  -- R334 to R338: a record joins the frame it names while the frame is open.
  (∀ (off : Nat) (r : ScoreRec) (id : Nat) (s : State), r.verdict.val < 6 → s.heldFrame r.inst.val r.port.val
    r.pseq.toNat = some id → (s.frame id).joined = false → (s.at off).count < (s.frame id).joinDeadline → ∃ t : State,
    exec (.scoreRecord off r) s = .next t ∧ t = (((s.at off).setFrame id ((s.frame id).join r)).joinCheck id)) ∧
  -- R433, R495: a tier 2 record from the score port joins as any other.
  (∀ (off : Nat) (batch : Word) (r : ScoreRec) (s : State), r.tier = 2 → ∃ t : State, exec (.scorePacket off batch r
    false false) s = .next t ∧ t = (s.at off).scoreRecord { r with tier := 2 }) ∧
  -- R336: at its join deadline an open frame completes unscored.
  (∀ (off : Nat) (p : Port) (pseq : BitVec 32) (id : Nat) (s : State), s.heldFrame (p.val % 2) p.val pseq.toNat = some
    id → (s.frame id).joinDeadline ≤ (s.at off).count → (s.frame id).joined = false → ∃ t : State, exec (.joinDeadline
    off p pseq) s = .next t ∧ t = (s.at off).completeJoin id true) ∧
  -- R339, R340: the frame that may go first goes to S9 while S9 has a place.
  (∀ (off : Nat) (i : Pipe) (id : Nat) (s : State), s.releasable i.val = some id → (s.at off).count ≤ (s.frame
    id).joinDeadline → (s.queue i.val 9).length < 2048 → s.declared 3 2 = false → ∃ t : State, exec (.orderRelease off
    i) s = .next t ∧ t = (((s.at off).leaveJoin i.val id).setFrame id
    { s.frame id with released := some (s.at off).count, waitFt4 := false }).enter i.val 9 id) ∧
  -- R340, R361: a reply inside the window replaces the verdict.
  (∀ (off : Nat) (p : Port) (pseq : BitVec 32) (verdict : Fin 8) (copy : Bool) (id : Nat) (s : State), s.awaiting
    (p.val % 2) p.val pseq.toNat = some id → (s.at off).count < (s.frame id).released.getD 0 + 64 → ∃ t : State, exec
    (.ft4Reply off p pseq verdict copy) s = .next t ∧ (t.frame id).verdict = verdict.val ∧ (t.frame id).copy = copy ∧
    (t.frame id).waitFt4 = false) ∧
  -- R32: 64 blk without a reply, and S9 acts on the joined verdict.
  (∀ (off : Nat) (i : Pipe) (id : Nat) (s : State), (s.queue i.val 9).find? (fun id => (s.frame id).waitFt4 &&
    (s.frame id).released.getD 0 + 64 ≤ (s.at off).count) = some id → ∃ t : State, exec (.ft4Timeout off i) s = .next
    t ∧ (t.frame id).waitFt4 = false)

/-- Each command of the stages S9 to S11, of copies and of the tap returns completes and has its own effect. -/
def Obligations.EgressCommandsComplete : Prop :=
  -- Table STG-20: S9 acts on the head of its queue.
  (∀ (off : Nat) (i : Pipe) (id : Nat) (rest : List Nat) (s : State), s.queue i.val 9 = id :: rest → (s.frame
    id).waitFt4 = false → ∃ t : State, exec (.verdictAction off i) s = .next t ∧ t = ((s.at off).takeHead i.val 9).act
    id) ∧
  -- R343: a primary that its ring has not accepted in time goes to the Sump.
  (∀ (off n : Nat) (d : Divert) (s : State), s.pipe.diverts[n]? = some d → d.deadline ≤ (s.at off).count → ∃ t :
    State, exec (.divertDeadline off n) s = .next t ∧ t = ((((s.at off).pipeMap (fun p =>
    { p with diverts := p.diverts.eraseIdx n })).raiseIrq (Pg.stg (s.frame d.frame).inst 9) 8).sumpFrame (s.frame
    d.frame).inst 9 Why.divertLate d.frame)) ∧
  -- R346: a copy for the host is delivered and done.
  (∀ (off n : Nat) (buf : BitVec 64) (c : OutCopy) (s : State), s.pipe.outCopies[n]? = some c → (s.at off).count <
    c.deadline → c.host = true → (s.at off).ringAccepts c.target = true → ∃ t : State, exec (.copyAccept off n buf) s
    = .next t ∧ t = ((((s.at off).pipeMap (fun p => { p with outCopies := p.outCopies.eraseIdx n })).deliver c.target
    buf.toNat ((s.frame c.frame).item 1 (s.frame c.frame).group c.bytes)).copyDone c.frame c.dest)) ∧
  -- R346: a copy not accepted in time is late.
  (∀ (off n : Nat) (c : OutCopy) (s w : State), w = (List.range 8).foldl State.dropLate (s.at off) →
    w.pipe.outCopies[n]? = some c → c.deadline ≤ w.count → ∃ t : State, exec (.copyDeadline off n) s = .next t ∧ t =
    (w.pipeMap (fun p => { p with outCopies := p.outCopies.eraseIdx n })).copyLost Why.copyLate c.frame c.dest
    c.bytes) ∧
  -- R354: a port's primaries before its copies.
  (∀ (off : Nat) (p : Port) (it : Item) (rest : List Item) (s w : State), w = (s.at off).dropLate p.val → w.primaries
    p.val = it :: rest → ∃ t : State, exec (.spoutTransmit off p) s = .next t ∧ t = ((w.setOut p.val rest (w.copies
    p.val)).spout p.val it).pullAll (txInst p.val) 10) ∧
  -- R355: with no primary waiting, a port sends the copy at the head of its copy queue.
  (∀ (off : Nat) (p : Port) (it : Item) (rest : List Item) (s w : State), w = (s.at off).dropLate p.val → w.primaries
    p.val = [] → w.copies p.val = it :: rest → ∃ t : State, exec (.spoutTransmit off p) s = .next t ∧ t = ((w.setOut
    p.val [] rest).spout p.val it).pullAll (txInst p.val) 10) ∧
  -- R262, R620: a good descriptor in turn is queued behind the frames of its port.
  (∀ (off : Nat) (index : BitVec 16) (q : Port) (len : BitVec 16) (cookie : Word) (b : List (BitVec 8)) (s : State),
    s.bit injPage F.LOC_IJ_CTL_ENABLE = true → (index.toNat + 65536 - s.fld injPage F.LOC_IJ_HEAD) % 65536 < (s.fld
    injPage F.LOC_IJ_TAIL + 65536 - s.fld injPage F.LOC_IJ_HEAD) % 65536 → s.host.injTaken = [] → s.host.injDone = []
    → s.host.injAt = [] → s.fnUnreachable 1 = false → s.pins.mainReset = false → s.bit Pg.gbl F.GBL_STATUS_RESTARTING
    = false → 64 ≤ len.toNat → len.toNat ≤ 1518 → s.txShut q.val = false → s.engaged (pairOf q.val) = false →
    (s.primaries q.val).length < 1024 → (s.at off).freeTag ≠ none → ∃ t : State, exec (.injectionDescriptor off index
    (BitVec.ofNat 8 q.val) len cookie b) s = .next t ∧ t = ((((s.at off).injFetch index.toNat).hostMap (fun h =>
    { h with injTaken := [index.toNat], injAt := FMap.set h.injAt q.val (s.at off).count })).setOut q.val (s.primaries
    q.val ++ [⟨0, .injected index.toNat cookie.toNat, q.val, b.map BitVec.toNat, len.toNat, 0, false⟩]) (s.copies
    q.val))) ∧
  -- R380: a score from the fabric is a record of tier 0.
  (∀ (off : Nat) (tap : Fin 4) (i : Pipe) (r : ScoreRec) (s : State), s.tapIdle tap.val = false → ∃ t : State, exec
    (.tapReturnWord off tap i (.score r)) s = .next t ∧ t = ((s.at off).incFld (tapPage tap.val) (F.FAB_TAP_RET_b0
    i.val)).scoreRecord { r with tier := 0 } (some tap.val)) ∧
  -- R379: the head record's beats are handed to the fabric.
  (∀ (off : Nat) (tap : Fin 4) (i : Pipe) (r : TapRecord) (rest : List TapRecord) (s : State), s.tapFifo tap.val i.val
    = r :: rest → s.tapIdle tap.val = false → ∃ t : State, exec (.tapRecordDelivery off tap i) s = .next t ∧ t.tapFifo
    tap.val i.val = rest ∧ t.out = .tapRecord tap.val i.val r.beats :: s.out) ∧
  -- R377: a tap whose declared regions are all FENCED is given nothing (entry 146).
  (∀ (off : Nat) (tap : Fin 4) (i : Pipe) (s : State), s.tapIdle tap.val = true → ∃ t : State, exec
    (.tapRecordDelivery off tap i) s = .next t ∧ t = s.at off) ∧
  -- R49, R277, R366: the unit fails.
  (∀ (off : Nat) (u : PipeUnit) (s : State), ∃ t : State, exec (.pipelineUncorrError off u) s = .next t ∧ t = (s.at
    off).failUnit (pipeUnitPage u) Reason.hwError)

/-- Each command of the fabric, of its clocks and of the clock monitors completes and has its own effect. -/
def Obligations.FabricCommandsComplete : Prop :=
  -- R395: a clean read of a region moves the position on, and the last region ends a pass.
  (∀ (off : Nat) (r : Fin 32) (s : State), s.unit (Pg.fab 61) = uActive → FMap.get? s.fabric.scrubs r.val ≠ some (s.at
    off).scrubPass → ∃ t : State, exec (.configScrub off r 0 false false) s = .next t ∧ t.fld (Pg.fab 61)
    F.FAB_SCR_POS = r.val) ∧
  -- R397: a corrected error is counted and raised.
  (∀ (off : Nat) (r : Fin 32) (s : State), s.fld (Pg.fab r.val) F.FAB_RGN_BRAM_b0 < 65535 → ∃ t : State, exec
    (.bramError off r true) s = .next t ∧ t.fld (Pg.fab r.val) F.FAB_RGN_BRAM_b0 = s.fld (Pg.fab r.val)
    F.FAB_RGN_BRAM_b0 + 1) ∧
  -- R377, R398: an FCG in lock that loses it is fenced, and the regions it feeds with it.
  (∀ (off : Nat) (k : Fin 16) (s : State), s.bit (Pg.fab (45 + k.val)) F.FAB_FCG_STATUS = true → ∃ t : State, exec
    (.fcgLockLoss off k) s = .next t ∧ t = (((((s.at off).setFld (Pg.fab (45 + k.val)) F.FAB_FCG_STATUS 0).incFld
    (Pg.fab (45 + k.val)) F.FAB_FCG_LOSSES).raiseIrq (Pg.fab (45 + k.val)) 0).fence (Pg.fab (45 + k.val))
    Reason.hwError).fcgLeaves k.val) ∧
  -- R388, R399: the monitor shows the domain's state and frequency; one in range changes nothing else.
  (∀ (off : Nat) (d : Fin 248) (khz : Word) (s : State), s.pins.mainReset = false → s.monitored d.val = true → (s.at
    off).outOfRange d.val khz.toNat = false → ∃ t : State, exec (.clockMonitorOut off d (some khz)) s = .next t ∧
    t.fld (Pg.clk (d.val / 16)) ⟨0x100 + 16 * (d.val % 16), 0, 2⟩ = 1 ∧ t.fld (Pg.clk (d.val / 16)) ⟨0x104 + 16 *
    (d.val % 16), 0, 32⟩ = khz.toNat) ∧
  -- R388, R399: a domain whose clock stands still is STOPPED, counted, and its users lose it.
  (∀ (off : Nat) (d : Fin 248) (s : State), s.pins.mainReset = false → s.monitored d.val = true → s.fld (Pg.clk (d.val
    / 16)) (F.CLK_STATUS_b0 (d.val % 16)) ≠ 3 → ∃ t : State, exec (.clockMonitorOut off d none) s = .next t ∧ t =
    (((((s.at off).setFld (Pg.clk (d.val / 16)) (F.CLK_STATUS_b0 (d.val % 16)) 3).setFld (Pg.clk (d.val / 16))
    (F.CLK_STATUS_FOLLOWER (d.val % 16)) (bitOf (s.hasFollower d.val))).incFld (Pg.clk (d.val / 16)) ⟨0x108 + 16 *
    (d.val % 16), 16, 16⟩).raiseIrq (Pg.clk (d.val / 16)) (d.val % 16)).domainLost d.val) ∧
  -- R384: a read of the user registers answers what the fabric gives.
  (∀ (off : Nat) (o : Fin 8064) (answer : Word) (s : State), s.bit Pg.gbl F.GBL_STATUS_RESTARTING = false →
    s.fabric.ureg = true → s.userClocked = true → ∃ t : State, exec (.uregAccess off o none answer) s = .next t ∧
    t.rdata = [answer] ∧ t.out = .userReg o.val none :: s.out) ∧
  -- R384: a read of a port whose FCG gives no clock times out, reads all ones, and counts.
  (∀ (off : Nat) (o : Fin 8064) (answer : Word) (s : State), s.bit Pg.gbl F.GBL_STATUS_RESTARTING = false →
    s.fabric.ureg = true → s.userClocked = false → ∃ t : State, exec (.uregAccess off o none answer) s = .next t ∧
    t.rdata = [0xFFFFFFFF] ∧ t = { (s.at off).userTimeout with rdata := t.rdata }) ∧
  -- R384: an unanswered read answers all ones and is counted.
  (∀ (off : Nat) (o : Fin 8064) (s : State), s.fabric.ureg = true → ∃ t : State, exec (.uregTimeout off o) s = .next t
    ∧ t.rdata = [0xFFFFFFFF])

/-- Each command of the PCIe endpoint and of its functions completes and has its own effect. -/
def Obligations.EndpointCommandsComplete : Prop :=
  -- R606: the endpoint leaves reset.
  (∀ (off : Nat) (s : State), s.pins.perstN = false → s.pcie.cfgPending = false → ∃ t : State, exec (.perstDeassert
    off) s = .next t ∧ t.pins.perstN = true) ∧
  -- R606, R607: CFG_READY ends CRS.
  (∀ (off : Nat) (v : Word) (s : State), v.field 0 1 = 1 → s.bit (Pg.pci 0) F.PCI_READY_CFG_READY = false →
    s.pins.perstN = true → ∃ t : State, exec (.cfgReadyWrite off v) s = .next t ∧ t.bit (Pg.pci 0)
    F.PCI_READY_CFG_READY = true ∧ t.bit (Pg.pci 0) F.PCI_READY_CRS = false ∧ t.pcie.totalVfs = 60) ∧
  -- R606: 950 ms after PERST# the boot ROM sets CFG_READY.
  (∀ (off : Nat) (s : State), s.bit (Pg.pci 0) F.PCI_READY_CFG_READY = false → s.pins.perstN = true → ∃ t : State,
    exec (.cfgReadyTimeout off) s = .next t ∧ t.bit (Pg.pci 0) F.PCI_READY_CFG_READY = true ∧ t.bit (Pg.pci 0)
    F.PCI_READY_CRS = false) ∧
  -- R604: a read of a function that is there and ready is answered with its data.
  (∀ (off : Nat) (fn : Fin 62) (r : CfgReg) (s : State), s.linkUp = true → s.pcie.dead = false → fn.val ≤ 1 → s.bit
    (Pg.pci 0) F.PCI_READY_CFG_READY = true → ∃ t : State, exec (.configRequest off fn (.read r)) s = .next t ∧ t.out
    = .cfgDone fn.val (s.cfgData fn.val r) :: s.out) ∧
  -- R603, R634: VF Enable with few enough VFs brings tenants into being.
  (∀ (off : Nat) (s : State), s.pcie.vfEnable = false → s.pcie.numVfs ≤ 6 → ∃ t : State, exec (.vfEnable off true) s =
    .next t ∧ t.pcie.vfEnable = true) ∧
  -- R602, R618: the link is up at its speed and width.
  (∀ (off : Nat) (speed width : Fin 5) (s : State), s.pins.perstN = true → ∃ t : State, exec (.pcieLinkUp off speed
    width) s = .next t ∧ t.linkUp = true ∧ t.fld (Pg.pci 0) F.PCI_LINK_b0 = speed.val + 1 ∧ t.fld (Pg.pci 0)
    F.PCI_LINK_b3 = 2 ^ width.val) ∧
  -- R627: Recovery stops the timers and is counted.
  (∀ (off : Nat) (s : State), s.pcie.recovery = false → s.bit (Pg.pci 0) F.PCI_LINK_b8 = true → ∃ t : State, exec
    (.ltssmRecovery off true) s = .next t ∧ t.pcie.recovery = true) ∧
  -- R621: the vector's mask bit is cleared, and its pending message sent.
  (∀ (off : Nat) (fn : Fin 62) (v : Fin 64) (s : State), v.val < vectorsOf fn.val → ∃ t : State, exec (.msixUnmask off
    fn v) s = .next t ∧ t = State.sendPending fn.val ((s.at off).setReg (msixCtlKey fn.val v.val) ((s.reg (msixCtlKey
    fn.val v.val)).withField 0 1 0)) v.val) ∧
  -- R623, R629, R633: the function is in reset and fenced.
  (∀ (off : Nat) (fn : Fin 62) (s : State), s.bit (Pg.pci 2) (F.PCI_FN_STAT_IN_RESET fn.val) = false → fn.val < 2 → ∃
    t : State, exec (.functionLevelReset off fn) s = .next t ∧ t.bit (Pg.pci 2) (F.PCI_FN_STAT_IN_RESET fn.val) = true
    ∧ t.bit (Pg.pci 2) (F.PCI_FN_STAT_FENCED fn.val) = true ∧ t.bme fn.val = false) ∧
  -- R634, R639: the function is out of reset and no longer fenced.
  (∀ (off : Nat) (fn : Fin 62) (s : State), s.bit (Pg.pci 2) (F.PCI_FN_STAT_IN_RESET fn.val) = true → fn.val < 2 → ∃ t
    : State, exec (.flrComplete off fn) s = .next t ∧ t.bit (Pg.pci 2) (F.PCI_FN_STAT_IN_RESET fn.val) = false ∧ t.bit
    (Pg.pci 2) (F.PCI_FN_STAT_FENCED fn.val) = false) ∧
  -- R554, R629: the contexts of a function that is no bus master any more halt.
  (∀ (off : Nat) (fn : Fin 62) (s : State), s.bme fn.val = true → s.bit (Pg.pci 2) (F.PCI_FN_STAT_IN_RESET fn.val) =
    false → ∃ t : State, exec (.bmeClear off fn) s = .next t ∧ t = (((((s.atHostEvent off).setFld (Pg.pci 2)
    (F.PCI_FN_STAT_b0 fn.val) 0).incFld (Pg.pci 0) F.PCI_FN_EVT_b16).haltOwner fn.val PStat.abortBme true).pcieMap
    (fun x => { x with bmeAt := some (fn.val, (s.atHostEvent off).count) })).refuseUnreachable.2) ∧
  -- R626
  (∀ (off : Nat) (v : Fin 16) (s : State), v.val ≠ s.pcie.ctoValue → ∃ t : State, exec (.ctoValueChange off v) s =
    .next t ∧ t.pcie.ctoValue = v.val) ∧
  -- R605, R607, R636: configuration space and link start again.
  (∀ (off : Nat) (s : State), ∃ t : State, exec (.endpointReset off .perst) s = .next t ∧ t.pins.perstN = false ∧
    t.pcie.vfEnable = false ∧ t.fns = []) ∧
  -- R637: page 0 faults, ERR_FATAL is sent, every TLP is answered Unsupported Request.
  (∀ (off : Nat) (s : State), ∃ t : State, exec (.hostInternalError off) s = .next t ∧ t = (((s.at off).fail (Pg.pci
    0) Reason.hwError).emit .errFatal).pcieMap (fun x => { x with dead := true }))

/-- Each command of the context slots, the rings and the completions completes and has its own effect. -/
def Obligations.HostTransferCommandsComplete : Prop :=
  -- R611: the write of a binding register.
  (∀ (off : Nat) (f : Fin 61) (j : Fin 4) (v : Word) (s : State), ∃ t : State, exec (.ctxBindWrite off f j v) s =
    .next t ∧ t = (s.at off).ctxBindWrite (f.val + 1) j.val v) ∧
  -- R612: the write of a slot's register reaches its context.
  (∀ (off : Nat) (f : Fin 61) (slot : Fin 8) (reg : BitVec 12) (v : Word) (s : State), ∃ t : State, exec
    (.contextSlotWrite off f slot reg v) s = .next t ∧ t = (s.at off).slotWrite (f.val + 1) slot.val (reg.toNat / 4 *
    4) v) ∧
  -- R616: entries are posted by a function that is not fenced.
  (∀ (off : Nat) (f : Fin 61) (k : Fin 4) (tail : BitVec 16) (s : State), s.bit (Pg.pci 2) (F.PCI_FN_STAT_FENCED
    (f.val + 1)) = false → ∃ t : State, exec (.deliveryFreePost off f k tail) s = .next t ∧ t = (s.at off).applyWrite
    (fullPart (localPage (f.val + 1) (9 + k.val)) 0x05C) (BitVec.ofNat 32 tail.toNat) true) ∧
  -- R617: a diverted primary is written to the buffer of its ring.
  (∀ (off n : Nat) (buf : BitVec 64) (d : Divert) (s : State), s.pipe.diverts[n]? = some d → (s.at off).ringAccepts
    d.ring = true → (s.at off).count < d.deadline → d.eapol = false → ∃ t : State, exec (.deliveryAccept off .divert n
    buf) s = .next t ∧ t = ((((s.at off).pipeMap (fun p => { p with diverts := p.diverts.eraseIdx n })).deliver d.ring
    buf.toNat ((s.frame d.frame).item 0 0 (s.frame d.frame).bytes)).release d.frame)) ∧
  -- R622: the combined message of a slot is sent when its interval ends.
  (∀ (off : Nat) (fn : BitVec 6) (slot : Fin 12) (t0 : Nat) (s : State), FMap.get? s.host.slotIrq (16 * fn.toNat +
    slot.val) = some (t0, true) → slot.val < 8 → t0 + 64 * s.fld (slotPage fn.toNat slot.val) F.LOC_CS_CFG_HOLDOFF ≤
    (s.at off).count → ∃ t : State, exec (.holdoffExpiry off fn slot) s = .next t ∧ t = ((s.at off).raiseVector
    fn.toNat (s.fld (slotPage fn.toNat slot.val) F.LOC_CS_CFG_VEC)).hostMap (fun h =>
    { h with slotIrq := FMap.set h.slotIrq (16 * fn.toNat + slot.val) ((s.at off).count, false) })) ∧
  -- R624: a current completion frees its tag and lands its data.
  (∀ (off : Nat) (tag : BitVec 10) (b : List (BitVec 8)) (e : TagEntry) (s : State), FMap.get? s.pumps.tags tag.toNat
    = some e → s.tagCurrent e = true → ∃ t : State, exec (.completionArrival off tag b) s = .next t ∧ t = ((s.at
    off).freeEntry tag.toNat).landData e (b.map BitVec.toNat)) ∧
  -- R623, R625: the tag of a timed-out read whose function was reset returns to the pool.
  (∀ (off : Nat) (tag : BitVec 10) (us : Nat) (e : TagEntry) (d : Desc) (s : State), FMap.get? s.pumps.tags tag.toNat
    = some e → s.pcie.recovery = false → s.ctoMicros ≤ us → e.orphan = false → s.tagDesc e = some d → e.retries < 2 →
    ∃ t : State, exec (.completionTimeout off tag us) s = .next t ∧ FMap.get? t.pumps.tags (s.freeTag.getD tag.toNat)
    = some { e with retries := e.retries + 1 }) ∧
  -- R623, R625: a read that times out is issued again under a new tag, up to twice.
  (∀ (off : Nat) (tag : BitVec 10) (e : TagEntry) (s : State), FMap.get? s.pumps.tags tag.toNat = some e →
    s.tagCurrent e = true → ∃ t : State, exec (.poisonedTlp off tag true) s = .next t ∧ t = (((((s.at off).freeEntry
    tag.toNat).incFld (Pg.pci 0) F.PCI_ERRS_b16).raiseIrq (Pg.pci 0) 4).emit .errLogged).endDesc e PStat.poison)

/-- Each command of a Ryuklin link and of tier 3 completes and has its own effect. -/
def Obligations.RyuklinCommandsComplete : Prop :=
  -- R644 to R646: a good frame in sequence is acknowledged and goes on.
  (∀ (off : Nat) (n : RykLink) (k : Fin 2) (rx0 rx1 : List (BitVec 66)) (f : RykRx) (s u : State), u = (s.at
    off).linkHeaders n.val rx0 rx1 → u.linkFrame n.val k.val rx0 rx1 = (f, 0) → u.kstate n.val = K.up → (u.rlink
    n.val).realign = false → rxCrc f = f.crc.toNat → f.seq.toNat = (u.rlink n.val).expSeq → ∃ t : State, exec
    (.rykFrameReceive off n k rx0 rx1 false) s = .next t ∧ t = (((((((u.incFld (Pg.ryk n.val) F.RYK_CRC_b16
    0).setRlink n.val { u.rlink n.val with expSeq := ((u.rlink n.val).expSeq + 1) % 4096, nakAt := none }).incFld
    (Pg.ryk n.val) F.RYK_RX_FRAMES).sendAck n.val false f.seq.toNat).accepted n.val f false).linkFollow
    n.val).rykPump)) ∧
  -- R648, R651: acknowledgement and credits of a control block.
  (∀ (off : Nat) (n : RykLink) (cls : Fin 2) (ack : BitVec 12) (c0 c1 c2 c3 : BitVec 8) (s : State), s.kstate n.val =
    K.up → ∃ t : State, exec (.llctl off n false cls ack c0 c1 c2 c3) s = .next t ∧ t = ((((((s.at off).ackTo n.val
    ack.toNat).incFld (Pg.ryk n.val) (creditFld cls.val 0) c0.toNat).incFld (Pg.ryk n.val) (creditFld cls.val 1)
    c1.toNat).incFld (Pg.ryk n.val) (creditFld cls.val 2) c2.toNat).incFld (Pg.ryk n.val) (creditFld cls.val 3)
    c3.toNat).rykPump) ∧
  -- R648: no acknowledgement in time starts a replay.
  (∀ (off : Nat) (n : RykLink) (since : Nat) (s : State), (s.at off).replayTmo n.val ≤ since → ∃ t : State, exec
    (.replayTimeout off n since) s = .next t ∧ t = ((s.at off).replayStart n.val).rykPump) ∧
  -- R650, R656: INIT received in INIT brings the link up with what its partner says of itself.
  (∀ (off : Nat) (n : RykLink) (ack : BitVec 12) (chip : BitVec 16) (peer : RykLink) (s : State), s.bit (Pg.ryk 0)
    F.RYK_CHIP_VALID = true → s.kstate n.val = K.init → (s.rlink n.val).realign = false → s.fld (Pg.ryk n.val)
    F.RYK_STATUS_b3 = 3 → s.ryk.outq = [] → (s.rlink n.val).replay = [] → ∃ t : State, exec (.linkInit off n true 3
    ack chip peer) s = .next t ∧ t.kstate n.val = K.up ∧ t.fld (Pg.ryk n.val) F.RYK_STATUS_b16 = chip.toNat ∧ t.fld
    (Pg.ryk n.val) F.RYK_PEER = peer.val) ∧
  -- R650: a link not UP in time is dead.
  (∀ (off : Nat) (n : RykLink) (s : State), s.kstate n.val = K.retraining → ∃ t : State, exec (.retrainingTimeout off
    n) s = .next t ∧ t = ((s.at off).linkDead n.val).linkFollow n.val) ∧
  -- R643: the first aligned pair of a link that aligns is counted.
  (∀ (off : Nat) (n : RykLink) (seq depth : BitVec 8) (s : State), s.kstate n.val = K.aligning → (s.rlink n.val).pairs
    = 0 → ∃ t : State, exec (.linkAlign off n seq seq 0 depth) s = .next t ∧ (t.rlink n.val).pairs = 1 ∧ t.fld (Pg.ryk
    n.val) F.RYK_STATUS_b8 = depth.toNat) ∧
  -- R654: the link aligns on the one lane it has.
  (∀ (off : Nat) (n : RykLink) (s : State), s.kstate n.val = K.training → s.upMask n.val ≠ 0 → ∃ t : State, exec
    (.secondLaneWait off n) s = .next t ∧ t.kstate n.val = K.aligning) ∧
  -- R654: a pass of realignment takes the second lane back.
  (∀ (off : Nat) (n : RykLink) (t0 : Nat) (s : State), (s.rlink n.val).secondUp = some t0 → s.kstate n.val = K.up → t0
    + 16 * 65536 ≤ (s.at off).count → (s.at off).count % 65536 = 0 → ∃ t : State, exec (.linkRewiden off n) s = .next
    t ∧ (t.rlink n.val).realign = true ∧ (t.rlink n.val).widening = true) ∧
  -- R662: an answer with status OK completes its request with the record it carries.
  (∀ (off : Nat) (e : Nat × Option Nat × RFrame) (q : T3Req) (s : State), s.ryk.inbox.find? (fun e => e.2.2.type = 1
    || e.2.2.type = 5) = some e → FMap.get? s.ryk.tags e.2.2.tag = some q → q.dest = e.2.2.src → q.gen = e.2.2.gen →
    e.2.2.type = 1 → e.2.2.status = T3.ok → (s.at off).t3Expired q = false → ∃ t : State, exec (.t3Rsp off) s = .next
    t ∧ t = ((((s.at off).rykMap (fun r => { r with inbox := r.inbox.erase e })).incFld (Pg.ryk 0) F.RYK_T3_OK).t3Done
    e.2.2.tag q (some e.2.2.payload))) ∧
  -- R662: a request whose timer has run out completes without a record.
  (∀ (off : Nat) (tag : BitVec 12) (q : T3Req) (s : State), FMap.get? s.ryk.tags tag.toNat = some q → 65536 * s.fld
    (Pg.ryk 0) F.RYK_T3_TMO ≤ (s.at off).t3Ran q → ∃ t : State, exec (.t3Timeout off tag) s = .next t ∧ t = (((s.at
    off).incFld (Pg.ryk 0) F.RYK_T3_LOSS_TIMEOUT).raiseIrq (Pg.ryk 0) 9).t3Done tag.toNat q none) ∧
  -- R665: an admitted request of another chip becomes a remote window of the Lightwell's ring, under the lowest free
  -- serving number.
  (∀ (off t0 n : Nat) (link : Option Nat) (f : RFrame) (s u w : State), s.nextRequest = some (t0, link, f) → s.gwFault
    = false → (((s.at off).rykMap (fun r => { r with inbox := r.inbox.erase (t0, link, f) })).incFld (Pg.ryk 0)
    F.RYK_T3_IN).admitIn (min 64 (((f.payload.drop 64).length + 63) / 64)) = some u → u.graphLoaded = true →
    u.unitCopy lwlPage = uActive → (List.range (u.ryk.served.length + 1)).find? (fun k => (FMap.get? u.ryk.served
    k).isNone) = some n → u.toRing 0 0 n (t0 + beAt f.payload 32 4) false true (windowOf (f.payload.take 16)
    (f.payload.drop 64)) = some w → ∃ t : State, exec (.t3Req off) s = .next t ∧ t = w.rykMap (fun r =>
    { r with served := FMap.set r.served n (f.src, f.gen, f.tag) })) ∧
  -- R666: an inbound COPY is delivered to its ring with the record it carries.
  (∀ (off : Nat) (buf : BitVec 64) (e : Nat × Option Nat × RFrame) (s : State), s.ryk.inbox.find? (fun e => e.2.2.type
    = 2) = some e → s.inForce (Pg.ryk 0) F.RYK_CLU_COPY_RING ≠ 0 → (s.at off).ringAccepts (s.inForce (Pg.ryk 0)
    F.RYK_CLU_COPY_RING_b8) = true → ∃ t : State, exec (.copyFrameRx off buf) s = .next t ∧ t = ((((s.at off).rykMap
    (fun r => { r with inbox := r.inbox.erase e })).deliverRaw (s.inForce (Pg.ryk 0) F.RYK_CLU_COPY_RING_b8) buf.toNat
    ((e.2.2.payload.drop 32).take (min (leNat (sliceOf e.2.2.payload 4 2)) (s.ringBuf (s.inForce (Pg.ryk 0)
    F.RYK_CLU_COPY_RING_b8)))) (e.2.2.payload.take 32)).incFld (Pg.ryk 0) F.RYK_RX_COPY_b0)) ∧
  -- R669: a follower that would stand too deep loses its candidate.
  (∀ (off : Nat) (s : State), s.refRole = 2 → s.rstate = R.locked → s.fld refPage F.REF_STATUS_ACTIVE_CAND < 4 → 16 ≤
    s.fld (Pg.ryk (s.fld refPage (F.REF_CAND_b0 (s.fld refPage F.REF_STATUS_ACTIVE_CAND)))) F.RYK_STATUS_b8 → s.fld
    (Pg.ryk (s.fld refPage (F.REF_CAND_b0 (s.fld refPage F.REF_STATUS_ACTIVE_CAND)))) F.RYK_STATUS_b8 ≠ 0xFF → ∃ t :
    State, exec (.refDepthErr off false) s = .next t ∧ t = ((s.at off).candLost (s.fld refPage
    F.REF_STATUS_ACTIVE_CAND)).raiseIrq (Pg.ryk (s.fld refPage (F.REF_CAND_b0 (s.fld refPage
    F.REF_STATUS_ACTIVE_CAND)))) 7) ∧
  -- R679: an error in a link's logic faults it, and the link is down.
  (∀ (off : Nat) (n : RykLink) (s : State), ∃ t : State, exec (.linkFault off n none) s = .next t ∧ t = ((s.at
    off).fail (Pg.ryk n.val) Reason.hwError).linkFollow n.val) ∧
  -- R679: an uncorrectable error of a replay buffer entry discards that frame, one transient event of the link.
  (∀ (off : Nat) (n : RykLink) (q : BitVec 12) (x : Nat × Nat × Nat × RFrame) (s : State), (s.rlink
    n.val).replay.find? (fun x => x.1 = q.toNat) = some x → ∃ t : State, exec (.linkFault off n (some q)) s = .next t
    ∧ t = (((((s.at off).setRlink n.val
    { s.rlink n.val with replay := (s.rlink n.val).replay.filter (fun y => y.1 ≠ q.toNat) }).discard n.val x.2.2.2
    T3.bufErr).linkEvent n.val).linkFollow n.val).rykPump) ∧
  -- R679
  (∀ (off : Nat) (s : State), ∃ t : State, exec (.gatewayFault off) s = .next t ∧ t = ((s.at off).fail (Pg.ryk 0)
    0x81).linkFollow 0)

/-- Each command of the tile network, its routers and its probes completes and has its own effect. -/
def Obligations.NetworkCommandsComplete : Prop :=
  -- R420: an ACTIVE router forwards the head its output grants.
  (∀ (off : Nat) (r : Fin 128) (o : Fin 5) (vc i : Nat) (p : Packet) (s w : State), w = (s.at off).settleAll r.val →
    w.routes r.val = true → ((List.range 5).foldl (State.countMiss r.val o.val) w).granted r.val o.val = some (vc, i,
    p) → o.val ≠ 4 → ∃ t : State, exec (.packetRoute off r o []) s = .next t ∧ t = ((List.range 5).foldl
    (State.countMiss r.val o.val) w).forward r.val o.val vc i p) ∧
  -- R424: a GTS head that has waited 8,192 blk is discarded, counted, and raises interrupt 1.
  (∀ (off : Nat) (r : Fin 128) (o : Fin 5) (i : Fin 5) (p : Packet) (s : State), (s.at off).headAt r.val o.val i.val 1
    = some p → p.since + 8192 ≤ (s.at off).count → ∃ t : State, exec (.gtsDrop off r o i) s = .next t ∧ t = (((s.at
    off).takePacket r.val i.val 1).incFld (Pg.tnw r.val) (F.TNW_GTS_GTS_DROP o.val)).raiseIrq (Pg.tnw r.val) 1) ∧
  -- R445: a corrected link error counts, raises interrupt 2 and is a transient of the router.
  (∀ (off : Nat) (r : Fin 128) (i : Fin 5) (vc : Fin 4) (s : State), ∃ t : State, exec (.linkEccError off r i vc true)
    s = .next t ∧ t = ((((s.at off).incFld (Pg.tnw r.val) (F.TNW_ECC_b0 i.val)).raiseIrq (Pg.tnw r.val) 2).transient
    (Pg.tnw r.val))) ∧
  -- R445: an uncorrected link error poisons the packet at the head of its queue, counts, and raises interrupt 3.
  (∀ (off : Nat) (r : Fin 128) (i : Fin 5) (vc : Fin 4) (p : Packet) (l : List Packet) (s : State), s.netQueue r.val
    i.val vc.val = p :: l → ∃ t : State, exec (.linkEccError off r i vc false) s = .next t ∧ t = ((((s.at
    off).setNetQueue r.val i.val vc.val ({ p with poison := true } :: l)).incFld (Pg.tnw r.val) (F.TNW_ECC_b16
    i.val)).raiseIrq (Pg.tnw r.val) 3)) ∧
  -- R447: an uncorrectable error faults a router; every tile and every other router is fenced.
  (∀ (off : Nat) (r : Fin 128) (s : State), ∃ t : State, exec (.routerFault off r) s = .next t ∧ t = (List.range
    128).foldl (fun (a : State) k => if k = r.val then a else a.fence (Pg.tnw k) Reason.parent) ((List.range
    128).foldl (fun (a : State) t => a.fenceTile Reason.parent t) ((s.at off).fail (Pg.tnw r.val) Reason.hwError))) ∧
  -- R436: a write of TNP_CTL with ARM set opens the probe's window.
  (∀ (off : Nat) (i : Fin 16) (v : Word) (s : State), ((s.at off).write (Pg.tnp i.val) 0x044 v).bit (Pg.tnp i.val)
    F.TNP_CTL_ARM = true → ∃ t : State, exec (.probeArm off i v) s = .next t ∧ t = ((s.at off).write (Pg.tnp i.val)
    0x044 v).setFld (Pg.tnp i.val) F.TNP_CTL_b31 1)

/-- Each command of a tile, of a tier 1 batch and of the score port completes and has its own effect. -/
def Obligations.TileCommandsComplete : Prop :=
  -- R411: START in PROG_CTL of a VALID slot with trigger 0, written to an ACTIVE tile that runs nothing, begins the
  -- slot's operation.
  (∀ (off : Nat) (t0 : Fin 128) (k : Fin 4) (v : Word) (s w : State), (s.at off).dropCause (Pg.tile t0.val) = none → w
    = ((s.at off).write (Pg.tile t0.val) (0x10C + 16 * k.val) v) → w.bit (Pg.tile t0.val) (F.MTL_PROG_CTL_START k.val)
    = true → (w.setFld (Pg.tile t0.val) (F.MTL_PROG_CTL_START k.val) 0).trigMode t0.val k.val = 0 → (w.setFld (Pg.tile
    t0.val) (F.MTL_PROG_CTL_START k.val) 0).unit (Pg.tile t0.val) = uActive → (w.setFld (Pg.tile t0.val)
    (F.MTL_PROG_CTL_START k.val) 0).bit (Pg.tile t0.val) (F.MTL_PROG_CTL_VALID k.val) = true → (w.tile t0.val).op =
    none → ∃ t : State, exec (.progStart off t0 k v) s = .next t ∧ t = (w.setFld (Pg.tile t0.val)
    (F.MTL_PROG_CTL_START k.val) 0).startOp t0.val k.val none 0) ∧
  -- R411, R432: the first BATCH packet at a tile triggers the slot it names, for its turn's batch (entry 52).
  (∀ (off : Nat) (t0 : Fin 128) (p : Packet) (l : List Packet) (s : State), s.edgeIn (posOf t0.val) = p :: l → ((s.at
    off).setEdge (posOf t0.val) l).trigMode t0.val (p.tag % 4) = 1 → ∃ t : State, exec (.batchPacket off t0) s = .next
    t ∧ t = ((s.at off).setEdge (posOf t0.val) l).trigger t0.val (p.tag % 4) (some ((s.at off).turn - ((s.at off).turn
    + 256 - p.aux % 256) % 256))) ∧
  -- R411: the turn tick triggers the turn-tick slots.
  (∀ (t0 : Fin 128) (s : State), s.count % 65536 = 0 → ∃ t : State, exec (.turnTickTrigger t0) s = .next t ∧ t =
    s.triggerMode t0.val 2 none) ∧
  -- R413, R472: an operation whose formats may stand ends with its record, its tile as the work leaves it.
  (∀ (off : Nat) (t0 : Fin 128) (node : Word) (work : TileWork) (how : OpEnd) (more : Bool) (o : TileOp) (x : Tile) (f
    sat flush : Nat) (s : State), (s.tile t0.val).op = some o → tileWork t0.val (s.inForce (Pg.lwl 0)
    F.LWL_EPOCH_ADDR) o.bank (s.tile t0.val) work = some (x, f, sat, flush) → ∃ t : State, exec (.cpl off t0 node work
    how more) s = .next t ∧ t = (((s.at off).setTile t0.val x).recordOp t0.val node.toNat f (o.spoiled.getD (endStatus
    how)) sat flush o).nextOp t0.val (if more then some o else none)) ∧
  -- R460, R483, R485: an operation whose formats may not stand ends FORMAT: nothing of the tile is written, no
  -- element is counted, and its record names the result format it asked for, where that is one.
  (∀ (off : Nat) (t0 : Fin 128) (node : Word) (work : TileWork) (how : OpEnd) (more : Bool) (o : TileOp) (s : State),
    (s.tile t0.val).op = some o → tileWork t0.val (s.inForce (Pg.lwl 0) F.LWL_EPOCH_ADDR) o.bank (s.tile t0.val) work
    = none → resultFmt (workFmt work) = true → ∃ t : State, exec (.cpl off t0 node work how more) s = .next t ∧ t =
    ((s.at off).drawn.recordOp t0.val node.toNat (workFmt work) TStat.format 0 0 o).nextOp t0.val (if more then some o
    else none)) ∧
  -- Table MTL-1: an operation that runs at its bound ends with TIMEOUT.
  (∀ (off : Nat) (t0 : Fin 128) (o : TileOp) (s : State), (s.tile t0.val).op = some o → o.start + o.bound ≤ (s.at
    off).count → ∃ t : State, exec (.operationTimeout off t0) s = .next t ∧ t = ((s.at off).cutOp t0.val TStat.timeout
    o).nextOp t0.val none) ∧
  -- R433: the batch that runs closes, and each of its items without a record is void.
  (∀ (off : Nat) (b k : Nat) (items : List (Nat × Nat × Nat)) (s : State), s.batches.run = some (b, k, items) → (s.at
    off).closeAt ≤ (s.at off).count → ∃ t : State, exec (.scoreClose off) s = .next t ∧ t =
    { s.at off with batches := { s.batches with run := none } }.voidItems items) ∧
  -- R446: a due check that matches ends the tile's streak of failures.
  (∀ (off : Nat) (t0 : Fin 128) (s : State), s.unit (Pg.tile t0.val) ∈ [uReady, uActive, uDraining] → (s.tile
    t0.val).checked + max 16 ((s.at off).inForce (Pg.tile t0.val) F.MTL_CHECK) ≤ (s.at off).turn → ∃ t : State, exec
    (.knownAnswerCheck off t0 true) s = .next t ∧ t = (s.at off).setTile t0.val
    { s.tile t0.val with streak := 0, checked := (s.at off).turn }) ∧
  -- R410, R446: a corrected local-store error counts, raises interrupt 1, is a transient of the tile, and counts
  -- toward its threshold.
  (∀ (off : Nat) (t0 : Fin 128) (s : State), ∃ t : State, exec (.localStoreEcc off t0 true) s = .next t ∧ t = ((((s.at
    off).incFld (Pg.tile t0.val) F.MTL_ECC_b0).raiseIrq (Pg.tile t0.val) 1).transient (Pg.tile t0.val)).tileThreshold
    t0.val) ∧
  -- R410, R446: an uncorrectable local-store error ends the operation with STORE_UNCORR and retires the tile.
  (∀ (off : Nat) (t0 : Fin 128) (o : TileOp) (s a : State), (s.tile t0.val).op = some o → a = (((s.at off).incFld
    (Pg.tile t0.val) F.MTL_ECC_b16).raiseIrq (Pg.tile t0.val) 2).cutOp t0.val TStat.storeUncorr o → ∃ t : State, exec
    (.localStoreEcc off t0 false) s = .next t ∧ t = (a.setTile t0.val { a.tile t0.val with op := none }).retireTile
    t0.val 0x81)

/-- Each command of the Lightwell completes and has its own effect. -/
def Obligations.LightwellCommandsComplete : Prop :=
  -- R492, R494, R512: the head window goes to the next consumer as a sample block, and the mesh is taken for its
  -- rows.
  (∀ (off : Nat) (w : RingSlot) (rest : List RingSlot) (t0 : Nat) (s : State), s.lwl.ring = w :: rest → s.unit lwlPage
    = uActive → s.lwl.until' ≤ (s.at off).count → (s.at off).count < w.deadline → s.netFault = false → (s.at
    off).stepsForced = false → s.lwState = LS.running → w.lite = false → s.lwl.epoch ≠ none → s.nextConsumer = some t0
    → ∃ t : State, exec (.windowProject off) s = .next t ∧ t = (((s.at off).lwlMap (fun l =>
    { l with ring := rest })).drawn.sendBlock w t0 ((s.at off).blockHeader w false (rowCount w.window) ++ (List.range
    (rowCount w.window)).flatMap (fun i => (s.at off).rowElems (s.outRes s.lwBank) ((s.at off).adcCodes s.lwBank i
    ((w.window.bytes.drop (64 * i)).take 64))))).lwlMap (fun l =>
    { l with until' := (s.at off).count + projectTime (s.inRes s.lwBank) (rowCount w.window), projecting := some w, tagged := FMap.set l.tagged (s.fld lwlPage F.LWL_STATUS_b8 % 4) (s.at off).turn }))
    ∧
  -- R494: a consumer has one credit more.
  (∀ (off : Nat) (t0 : Fin 96) (s : State), ∃ t : State, exec (.creditReturn off t0) s = .next t ∧ t = (s.at
    off).lwlMap (fun l => { l with held := FMap.setC l.held t0.val (FMap.getD l.held t0.val 0 - 1) 0 })) ∧
  -- R501: a step runs in a gap of the ring and counts as such.
  (∀ (off : Nat) (m : CalMeasure) (s : State), (s.at off).calOpen = true → s.lwl.ring = [] → (s.at off).count % 65536
    ≤ 65408 → ∃ t : State, exec (.calStep off m) s = .next t ∧ t = ((s.at off).incFld lwlPage
    F.LWL_CAL_CNT_b0).calStep m) ∧
  -- R501: a step still owed at CAL_FORCE is forced and counts as such.
  (∀ (off : Nat) (m : CalMeasure) (s : State), (s.at off).calOpen = true → (s.at off).stepsForced = true → ∃ t :
    State, exec (.calForce off m) s = .next t ∧ t = ((s.at off).incFld lwlPage F.LWL_CAL_CNT_b16).calStep m) ∧
  -- R505: a due epoch whose slot is free is written to every consumer.
  (∀ (off : Nat) (e d : Epoch) (s : State), s.lwl.due = some d → e =
    { d with num := match s.lwl.epoch with | some f => (f.num + 1) % 256 | none => d.num } → s.lwl.writing = none →
    FMap.get? s.lwl.tagged (e.num % 4) = none → s.unit lwlPage = uActive → s.epochTargets ≠ [] → ∃ t : State, exec
    (.epochWrite off) s = .next t ∧ t = (s.epochTargets.foldl (fun (a : State) t0 => a.writeEpoch e t0) (s.at
    off)).lwlMap (fun l =>
    { l with due := none, writing := some (e, s.epochTargets), slots := FMap.set l.slots (e.num % 4) e })) ∧
  -- R505: the last acknowledgement brings the epoch into force.
  (∀ (off : Nat) (t0 : Fin 96) (e : Epoch) (s : State), t0.val ∉ s.lwl.stale → s.lwl.writing = some (e, [t0.val]) → ∃
    t : State, exec (.epochAck off t0) s = .next t ∧ t = (s.at off).epochInForce e) ∧
  -- R506: a consumer that answers with NACK is stale, counted, and raises interrupt 4; it is waited for no more.
  (∀ (off : Nat) (t0 : Fin 96) (s : State), t0.val ∉ s.lwl.stale → ∃ t : State, exec (.consumerStale off t0) s = .next
    t ∧ t = ((((s.at off).lwlMap (fun l => { l with stale := t0.val :: l.stale })).incFld lwlPage
    F.LWL_EPOCHS_b16).raiseIrq lwlPage 4).epochSettles t0.val) ∧
  -- R497: SETTLING ends when its time has passed and the bank's first epoch is out.
  (∀ (off : Nat) (s : State), s.lwState = LS.settling → s.lwl.settle ≤ (s.at off).count → s.lwl.first = true → ∃ t :
    State, exec (.settleEnd off) s = .next t ∧ t = (s.at off).setLw LS.running) ∧
  -- Table LWL-5: an input whose DAC fails its self-check retires with that reason.
  (∀ (off : Nat) (c : Fin 64) (s : State), ∃ t : State, exec (.lwlItemFault off (.dac c)) s = .next t ∧ t = (s.at
    off).retireChannel c.val false 0x84) ∧
  -- R516: REINSTATE of a RETIRED input starts its self-test, and the bit reads 1.
  (∀ (off : Nat) (c : Fin 64) (s : State), (s.at off).dropCause (Pg.lwl (9 + c.val / 8)) = none → s.bit (Pg.lwl (9 +
    c.val / 8)) ⟨0x040, c.val % 8, 1⟩ = false → FMap.get? s.lwl.tests c.val = none → s.inRetired c.val = true → ∃ t :
    State, exec (.lwlReinstate off (.input c)) s = .next t ∧ t = ((s.at off).lwlMap (fun l =>
    { l with tests := FMap.set l.tests c.val false })).setFld (Pg.lwl (9 + c.val / 8)) ⟨0x040, c.val % 8, 1⟩ 1) ∧
  -- R516: an item that passes its self-test is usable from the next boundary.
  (∀ (off : Nat) (it : LwlItem) (s : State), FMap.get? s.lwl.tests (lwlKey it) = some true → ∃ t : State, exec
    (.lwlReinstateDone off it true) s = .next t ∧ t = (((s.at off).lwlMap (fun l =>
    { l with tests := FMap.erase l.tests (lwlKey it) })).setFld (itemPage it) (reinstateBit it) 0).lwlMap (fun l =>
    { l with passed := l.passed ++ [lwlKey it] })) ∧
  -- R517: a failure of the controller faults the core; every window in its ring is void.
  (∀ (off : Nat) (s : State), ∃ t : State, exec (.lwlControllerFail off) s = .next t ∧ t = (((((s.at off).fail lwlPage
    Reason.hwError).voidRing).setLw LS.off).lwlMap (fun l => { l with projecting := none, writing := none }))) ∧
  -- R496: a write of a word of the bank not in force is held under the word's mask, and the address moves on.
  (∀ (off : Nat) (v : Word) (s : State), (s.at off).dropCause lwlPage = none → s.fld lwlPage F.LWL_TBL_ADDR_b0 /
    0x4000 ≠ s.lwBank → lwMask (s.fld lwlPage F.LWL_TBL_ADDR_b0) ≠ 0 → ∃ t : State, exec (.lwlTableAccess off (some
    v)) s = .next t ∧ t = ((s.at off).lwlMap (fun l =>
    { l with table := FMap.setC l.table (s.fld lwlPage F.LWL_TBL_ADDR_b0) (v &&& BitVec.ofNat 32 (lwMask (s.fld lwlPage F.LWL_TBL_ADDR_b0))) 0 })).lwStep)

/-- Each command of the Cistern and of a DDR5 channel completes and has its own effect. -/
def Obligations.MemoryCommandsComplete : Prop :=
  -- R524, R528: a bank answers a read of direct space with the bytes it holds.
  (∀ (off : Nat) (b : Fin 16) (p : Packet) (rest : List Packet) (s : State), s.edgeIn (edgeNode 2 b.val) = p :: rest →
    s.unit (Pg.cst b.val) = uActive → p.type = 0 → p.addr / 2 ^ 39 % 2 = 0 → s.cstCause b.val p.addr (64 * (p.aux %
    32)) false = none → (s.bank b.val).fills.length < 64 → ∃ t : State, exec (.cisternReadReq off b) s = .next t ∧ t =
    (((s.at off).setEdge (edgeNode 2 b.val) rest).countDirect b.val false).inject (p.replyData (Mem.bytes 0
    s.memory.direct p.addr (64 * (p.aux % 32))) (s.directPoison p.addr (64 * (p.aux % 32))))) ∧
  -- R524, R527: a read of an object line the bank does not hold is answered DDR_DOWN while the DDR is not up.
  (∀ (off : Nat) (b : Fin 16) (p : Packet) (rest : List Packet) (s : State), s.edgeIn (edgeNode 2 b.val) = p :: rest →
    s.unit (Pg.cst b.val) = uActive → p.type = 0 → p.addr / 2 ^ 39 % 2 = 1 → s.cstCause b.val p.addr (64 * (p.aux %
    32)) false = none → s.bank b.val = ⟨[], [], 0, 0⟩ → s.ddrUp = false → ∃ t : State, exec (.cisternReadReq off b) s
    = .next t ∧ t = ((s.at off).setEdge (edgeNode 2 b.val) rest).cstNack b.val p Nack.ddrDown) ∧
  -- R527: the requests attached to a fill are answered in order from the DDR's line; the line is not kept where it
  -- was invalidated.
  (∀ (off : Nat) (b : Fin 16) (n : Fin 64) (tag a : Nat) (reqs : List Packet) (s : State), (s.bank
    b.val).fills[n.val]? = some ⟨tag, reqs, false, a⟩ → s.ddrBusy a 1024 = false → s.ddrUp = true → ∃ t : State, exec
    (.fillReturn off b n) s = .next t ∧ t = reqs.foldl (fun (u : State) (p : Packet) => u.inject (answerFrom ⟨tag,
    s.ddrRead a 1024, s.ddrPoison a 1024, 0⟩ p)) ((s.at off).setBank b.val
    { s.bank b.val with fills := (s.bank b.val).fills.eraseIdx n.val })) ∧
  -- R532: word 0 of an entry of a weight bank no tile uses is written, and the object's lines are invalidated.
  (∀ (off : Nat) (v : Word) (s : State), (s.at off).dropCause (Pg.cst 0) = none → (s.fld (Pg.cst 0) F.CST_LIVE >>>
    (s.fld (Pg.cst 0) F.CST_TBL_ADDR_b0 / 4096)) % 2 = 0 → s.bit (Pg.cst 0) F.CST_TBL_ADDR_WORD = false → ∃ t : State,
    exec (.objectTableWrite off v) s = .next t ∧ t = ((s.at off).memMap (fun m =>
    { m with objects := FMap.setC m.objects (s.fld (Pg.cst 0) F.CST_TBL_ADDR_b0) (v.toNat, (FMap.getD s.memory.objects (s.fld (Pg.cst 0) F.CST_TBL_ADDR_b0) (0, 0)).2) (0, 0) })).invalidate
    (s.fld (Pg.cst 0) F.CST_TBL_ADDR_b0 / 4096) (s.fld (Pg.cst 0) F.CST_TBL_ADDR_b0 % 4096)) ∧
  -- R532: a write to the table of a weight bank in use is ignored, recorded and raises interrupt 3.
  (∀ (off : Nat) (v : Word) (s : State), (s.at off).dropCause (Pg.cst 0) = none → (s.fld (Pg.cst 0) F.CST_LIVE >>>
    (s.fld (Pg.cst 0) F.CST_TBL_ADDR_b0 / 4096)) % 2 = 1 → ∃ t : State, exec (.objectTableWrite off v) s = .next t ∧ t
    = ((s.at off).recordFault (fullPart (Pg.cst 0) 0x04C 2) Cause.rsvdSet).raiseIrq (Pg.cst 0) 3) ∧
  -- R561: a corrected error counts, raises interrupt 0 and is a transient of the bank.
  (∀ (off : Nat) (b : Fin 16) (s : State), ∃ t : State, exec (.cisternSramError off b .corrected) s = .next t ∧ t =
    (((s.at off).incFld (Pg.cst b.val) F.CST_ECC_b0).raiseIrq (Pg.cst b.val) 0).transient (Pg.cst b.val)) ∧
  -- R538: a read repaired by its retry counts, and has no other effect.
  (∀ (off : Nat) (c : Fin 8) (row : BitVec 24) (line : Fin 128) (s : State), ∃ t : State, exec (.ddrReadError off c
    row line .retried) s = .next t ∧ t = (s.at off).incFld (Pg.dmc c.val) F.DMC_UE_RETRY_OK) ∧
  -- R538: a read that fails its last retry counts, raises interrupt 1, leaves its line poisoned, and its row unit
  -- retires.
  (∀ (off : Nat) (c : Fin 8) (row : BitVec 24) (line : Fin 128) (s : State), s.ddrGlobal c.val (8192 * row.toNat + 64
    * line.val) / 64 ∉ s.memory.badDdr → ∃ t : State, exec (.ddrReadError off c row line .failed) s = .next t ∧ t =
    (((((s.at off).incFld (Pg.dmc c.val) F.DMC_UE_b0).raiseIrq (Pg.dmc c.val) 1).lastErr c.val row.toNat 2).memMap
    (fun m => { m with badDdr := s.ddrGlobal c.val (8192 * row.toNat + 64 * line.val) / 64 :: m.badDdr })).retireRow
    c.val row.toNat) ∧
  -- R539: the turn's patrol read, complete in time and without an error, moves the patrol to its next row unit.
  (∀ (off : Nat) (c : Fin 8) (ecs : Word) (s : State), (s.at off).patrolDue c.val = true → (s.at off).count % 65536 ≤
    s.inForce (Pg.dmc 0) F.DMC_SCRUB_SCRUB_TMO → ∃ t : State, exec (.patrolScrub off c [] ecs) s = .next t ∧ t = (s.at
    off).patrolNext c.val ecs.toNat) ∧
  -- R539: a patrol unit not complete in time counts, raises interrupt 4, and is left.
  (∀ (off : Nat) (c : Fin 8) (ecs : Word) (s : State), (s.at off).patrolDue c.val = true → s.inForce (Pg.dmc 0)
    F.DMC_SCRUB_SCRUB_TMO ≤ (s.at off).count % 65536 → ∃ t : State, exec (.scrubLate off c ecs) s = .next t ∧ t =
    (((s.at off).incFld (Pg.dmc c.val) F.DMC_SCRUB_CNT_SCRUB_LATE).raiseIrq (Pg.dmc c.val) 4).patrolNext c.val
    ecs.toNat) ∧
  -- R541: GO in DMC_RETIRE retires the row unit it names, and reads 0.
  (∀ (off : Nat) (c : Fin 8) (v : Word) (s w : State), (s.at off).dropCause (Pg.dmc c.val) = none → w = (s.at
    off).write (Pg.dmc c.val) 0x054 v → w.bit (Pg.dmc c.val) F.DMC_RETIRE_GO = true → (w.setFld (Pg.dmc c.val)
    F.DMC_RETIRE_GO 0).bit (Pg.dmc c.val) F.DMC_RETIRE_HPPR = w.bit (Pg.dmc c.val) F.DMC_RETIRE_HPPR → w.bit (Pg.dmc
    c.val) F.DMC_RETIRE_HPPR = false → ∃ t : State, exec (.dmcRetireGo off c v) s = .next t ∧ t = (w.setFld (Pg.dmc
    c.val) F.DMC_RETIRE_GO 0).retireRow c.val (w.fld (Pg.dmc c.val) F.DMC_RETIRE_b0)) ∧
  -- R541: a row's copy ends; the lines it could not correct read poison.
  (∀ (off : Nat) (c : Fin 8) (lost : List (Fin 128)) (row : Nat) (rest : List Nat) (s : State), (s.chan5
    c.val).copying = row :: rest → s.inForce (Pg.dmc 0) F.DMC_PPR = 0 → ∃ t : State, exec (.rowCopyDone off c lost) s
    = .next t ∧ t = (((s.at off).memMap (fun m =>
    { m with badDdr := ((lost.map (fun (l : Fin 128) => s.ddrGlobal c.val (8192 * row + 64 * l.val) / 64)).filter (fun l => !decide (l ∈ m.badDdr))) ++ m.badDdr })).setChan5
    c.val { s.chan5 c.val with copying := rest })) ∧
  -- R562: a first parity error counts, raises interrupt 5, and is recorded.
  (∀ (off : Nat) (c : Fin 8) (s : State), (s.chan5 c.val).parityAt = none → ∃ t : State, exec (.dmcFault off c true) s
    = .next t ∧ t = (((((s.at off).incFld (Pg.dmc c.val) F.DMC_TEMP_CA).raiseIrq (Pg.dmc c.val) 5).setFld (Pg.dmc
    c.val) F.DMC_LAST_ERR_b24 3).setChan5 c.val { s.chan5 c.val with parityAt := some (s.at off).count })) ∧
  -- R562: a loss of training faults the channel.
  (∀ (off : Nat) (c : Fin 8) (s : State), ∃ t : State, exec (.dmcFault off c false) s = .next t ∧ t = (s.at off).fail
    (Pg.dmc c.val) Reason.hwError) ∧
  -- R563: above 95 °C a channel at full rate raises interrupt 6 and runs at half rate.
  (∀ (off : Nat) (c : Fin 8) (temp : BitVec 16) (s : State), 95 * 8 < temp.toInt → (s.chan5 c.val).half = false → ∃ t
    : State, exec (.dimmThermal off c temp) s = .next t ∧ t = ((((s.at off).setFld (Pg.dmc c.val) F.DMC_TEMP_b0
    temp.toNat).raiseIrq (Pg.dmc c.val) 6).setChan5 c.val { s.chan5 c.val with half := true }))

/-- Each command of a Pump completes and has its own effect. -/
def Obligations.PumpCommandsComplete : Prop :=
  -- R547: RING_TAIL is written.
  (∀ (off : Nat) (p : Fin 32) (r : Fin 8) (tail : BitVec 16) (s : State), (s.at off).dropCause (Pg.pmp p.val) = none →
    ∃ t : State, exec (.ringDoorbell off p r tail) s = .next t ∧ t = (s.at off).write (Pg.pmp p.val) (0x114 + 64 *
    r.val) (BitVec.ofNat 32 tail.toNat)) ∧
  -- R547: the context whose round it is moves the next chunk of its descriptor in progress.
  (∀ (off : Nat) (p : Fin 32) (host : List (BitVec 8)) (r : Nat) (d : Desc) (s : State), (s.at off).nextCtx p.val =
    some r → (((s.at off).noteRound p.val r).ctx p.val r).work.find? (fun d => d.ended.isNone && d.issued < d.len) =
    some d → ∃ t : State, exec (.pumpChunk off p host) s = .next t ∧ t = (((s.at off).noteRound p.val r).chunk p.val r
    d).1.putDesc p.val r (((s.at off).noteRound p.val r).chunk p.val r d).2) ∧
  -- R547, R613: the oldest descriptor, all of its bytes moved, completes, and its record is due.
  (∀ (off : Nat) (p : Fin 32) (r : Fin 8) (d : Desc) (rest : List Desc) (s : State), (s.ctx p.val r.val).work = d ::
    rest → d.done = true → ∃ t : State, exec (.descriptorComplete off p r) s = .next t ∧ t = ((s.at off).setCtx p.val
    r.val { s.ctx p.val r.val with work := rest }).complete p.val r.val d (d.ended.getD PStat.ok) true) ∧
  -- R551: a transfer between DDR addresses whose chunk has waited DDR_TMO completes with TIMEOUT.
  (∀ (off : Nat) (p : Fin 32) (r : Fin 8) (d : Desc) (rest : List Desc) (s : State), (s.ctx p.val r.val).work = d ::
    rest → d.done = false → d.op = 0 → d.srcSpace = Space.ddr → d.dstSpace = Space.ddr → s.fld (Pg.pmp p.val)
    F.PMP_TMO_DDR_TMO ≤ (s.at off).waited d → ∃ t : State, exec (.pumpTimeout off p r) s = .next t ∧ t = ((s.at
    off).setCtx p.val r.val { s.ctx p.val r.val with work := rest }).complete p.val r.val d PStat.timeout true) ∧
  -- R545: a context halts; its descriptors in progress complete with CANCELLED.
  (∀ (off : Nat) (p : Fin 32) (r : Fin 8) (s : State), (s.at off).dropCause (Pg.pmp p.val) = none → s.bit (Pg.pmp
    p.val) (F.PMP_RING_CTL_ENABLE r.val) = true → ∃ t : State, exec (.contextHalt off p r) s = .next t ∧ t = (s.at
    off).haltCtx p.val r.val PStat.cancelled true) ∧
  -- R564: a Pump whose self-check fails cancels what is in progress and faults.
  (∀ (off : Nat) (p : Fin 32) (s : State), ∃ t : State, exec (.pumpSelfcheckFail off p) s = .next t ∧ t = ((s.at
    off).pumpLeaves p.val).fail (Pg.pmp p.val) Reason.hwError)

/-- Each command of the energy ledger and of the PWR unit completes and has its own effect. -/
def Obligations.EnergyCommandsComplete : Prop :=
  -- R568: a cap below the floor stores the floor, shows and counts the clamp, and raises interrupt 0.
  (∀ (off : Nat) (v : Word) (s w : State), (s.at off).dropCause Pg.nrg = none → w = (s.at off).write Pg.nrg 0x040 v →
    w.fld Pg.nrg F.NRG_CAP < w.nrgFloor → ∃ t : State, exec (.nrgCapWrite off v) s = .next t ∧ t = ((((w.setFld Pg.nrg
    F.NRG_CAP w.nrgFloor).setFld Pg.nrg F.NRG_EFF_CAP_CLAMPED 1).incFld Pg.nrg F.NRG_CLAMPS).raiseIrq Pg.nrg 0).nrgMap
    (fun e => { e with clampWr := true })) ∧
  -- R586: the value is added to the debt; at most 2^24 - 1 is held.
  (∀ (off : Nat) (v : Word) (s w : State), (s.at off).dropCause Pg.nrg = none → w = (s.at off).write Pg.nrg 0x06C v →
    w.fld Pg.nrg F.NRG_DEBT + v.field 0 24 < 2 ^ 24 → ∃ t : State, exec (.nrgDebtAdd off v) s = .next t ∧ t = w.setFld
    Pg.nrg F.NRG_DEBT (w.fld Pg.nrg F.NRG_DEBT + v.field 0 24)) ∧
  -- R571, R572: a good first read of a valid entry that is not the last sets its power and clears its errors.
  (∀ (off : Nat) (r : Fin 8) (x : BitVec 16) (retry : Option (BitVec 16)) (s : State), (s.at off).inForce Pg.pwr
    F.PWR_PM_CTL_EN ≠ 0 → (s.at off).pollNext = some r.val → (s.at off).regulators.getLast? ≠ some r.val → ∃ t :
    State, exec (.pmbusPoll off r (some x) retry) s = .next t ∧ t = (((((s.at off).pmbusRead r.val 0x96).nrgMap (fun e
    => { e with pollAt := r.val + 1 })).setFld Pg.pwr (F.PWR_REG_POUT r) (linear11 x)).setFld Pg.pwr (F.PWR_REG_ERR_b0
    r) 0).setFld Pg.pwr (F.PWR_REG_ERR_STALE r) 0) ∧
  -- R571: the maximum of a valid entry is read.
  (∀ (off : Nat) (r : Fin 8) (x : BitVec 16) (s : State), (s.at off).inForce Pg.pwr F.PWR_PM_CTL_EN ≠ 0 → (s.at
    off).maxDue r.val = true → ∃ t : State, exec (.poutMaxRead off [(r, x)]) s = .next t ∧ t = ((((s.at off).pmbusRead
    r.val 0xA7).setFld Pg.pwr (F.PWR_REG_MAX r) (linear11 x)).nrgMap (fun e =>
    { e with maxTurn := some (s.at off).turn })).syncAvail) ∧
  -- R573: at the end of a window its charges in µJ, its energy and its turn are shown.
  (∀ (off : Nat) (s : State), (s.at off).turn % s.energy.period = 0 → (s.at off).count % 65536 = 0 → s.energy.closed ≠
    (s.at off).turn → s.unit Pg.pwr = uActive → ∃ t : State, exec (.measurementWindowClose off) s = .next t ∧ t.fld
    Pg.nrg F.NRG_ACCT_LO = s.energy.accLu / 256 % 2 ^ 32 ∧ t.fld Pg.nrg F.NRG_ACCT_TURN = (s.at off).turn % 2 ^ 32 ∧
    t.fld Pg.pwr F.PWR_PM_WIN_TURN = (s.at off).turn % 2 ^ 32 ∧ t.energy.closed = (s.at off).turn ∧ t.energy.accLu =
    0) ∧
  -- R587: each sensor's reading is held; the hottest and its number are shown.
  (∀ (off : Nat) (x : BitVec 16) (s : State), (∀ k : Fin 16, 0 < k.val → s.tsens k.val < signed 16 x.toNat) → ∃ t :
    State, exec (.thermalSample off [x]) s = .next t ∧ t.fld Pg.pwr (F.PWR_TSENS 0) = x.toNat ∧ t.fld Pg.pwr
    F.PWR_THERM_MAX_b0 = x.toNat ∧ t.fld Pg.pwr F.PWR_THERM_MAX_b16 = 0) ∧
  -- R588: a sensor at CRIT raises interrupt 4 and takes the chip to its safe state.
  (∀ (off : Nat) (k : Fin 16) (s : State), 8 * (s.inForce Pg.pwr F.PWR_THERM_CTL_CRIT : Int) ≤ s.tsens k.val → ∃ t :
    State, exec (.thermalCrit off) s = .next t ∧ t = ((s.at off).raiseIrq Pg.pwr 4).safeEnter [Trig.thermalCrit] (some
    Pg.pwr)) ∧
  -- R598: the ledger faults.
  (∀ (off : Nat) (s : State), ∃ t : State, exec (.ledgerFault off) s = .next t ∧ t = (s.at off).fail Pg.nrg
    Reason.hwError) ∧
  -- R599: the PWR unit faults.
  (∀ (off : Nat) (s : State), ∃ t : State, exec (.pwrFault off) s = .next t ∧ t = (s.at off).failUnit Pg.pwr
    Reason.hwError)

/-- Each command of the firmware's duties, mailbox, dumps and restarts completes and has its own effect. -/
def Obligations.FirmwareCommandsComplete : Prop :=
  -- R803: a due heartbeat is recorded, counts HB_OUT, and toggles its pin.
  (∀ (off : Nat) (w s : State), (s.at off).dutyDue Duty.heartbeat 24 = some w → ∃ t : State, exec (.heartbeatKick off)
    s = .next t ∧ t =
    { ((w.setFld (Pg.cpc 0) F.CPC_HB_b16 (w.fld (Pg.cpc 0) F.CPC_HB_b16 + 1)).setFld (Pg.cpc 0) F.CPC_HB_KICK 0) with pins := { w.pins with hbOut := !w.pins.hbOut } }) ∧
  -- R569: when due, STATIC is rewritten from the hottest sensor.
  (∀ (off : Nat) (w s : State), (s.at off).dutyDue Duty.floor 240 = some w → ∃ t : State, exec (.floorDuty off) s =
    .next t ∧ t = w.setFld Pg.nrg F.NRG_FLOOR_STATIC (min (Config.staticPower (signed 16 (w.fld Pg.pwr
    F.PWR_THERM_MAX_b0))) 1023)) ∧
  -- R499: where no engine's temperature has moved, only the mesh's coefficients are rewritten.
  (∀ (off : Nat) (w s : State), (s.at off).dutyDue Duty.crosstalk 2400 = some w → (∀ e : Fin 16, w.tempMoved (Pg.ope
    e.val) F.OPE_TEMP = false) → w.tempMoved (Pg.lwl 0) F.LWL_TEMP = true → ∃ t : State, exec (.crosstalkRefresh off)
    s = .next t ∧ t = w.xtMesh) ∧
  -- R585: a closed window whose energy exceeds its charges adds the shortfall to the debt, once.
  (∀ (off : Nat) (s : State), s.dutiesRun = true → s.energy.staleClosed = false → s.cpc.recon = none → 0 <
    s.energy.closed → s.energy.acct < s.energy.energy → (s.at off).turn ≤ s.energy.closed + 2 → ∃ t : State, exec
    (.reconciliation off) s = .next t ∧ t = ((s.at off).cpcMap (fun c =>
    { c with recon := some s.energy.closed, duties := FMap.set c.duties Duty.reconcile ((s.at off).turn, 0) })).debtAdd
    (min (s.energy.energy - s.energy.acct) (2 ^ 24 - 1))) ∧
  -- R687: done later than its turn it counts DUTY_LATE.
  (∀ (off : Nat) (s : State), s.dutiesRun = true → s.energy.staleClosed = false → s.cpc.recon = none → 0 <
    s.energy.closed → s.energy.energy ≤ s.energy.acct → s.energy.closed + 2 < (s.at off).turn → ∃ t : State, exec
    (.reconciliation off) s = .next t ∧ t = ((s.at off).incFld (Pg.cpc 0) F.CPC_FW_RESTARTS_DUTY_LATE).cpcMap (fun c
    => { c with recon := some s.energy.closed, duties := FMap.set c.duties Duty.reconcile ((s.at off).turn, 0) })) ∧
  -- R689: GO is taken while no request waits: BUSY is 1, and the request's SEQ is held.
  (∀ (off : Nat) (seq : BitVec 8) (s w : State), (s.at off).dropCause (Pg.cpc 9) = none → w = (((s.at off).write
    (Pg.cpc 9) 0x040 (BitVec.ofNat 32 (seq.toNat + 256))).setFld (Pg.cpc 9) F.CPC_MB_CTL_GO 0) → w.mbBusy = false → ∃
    t : State, exec (.mailboxGo off seq) s = .next t ∧ t = ((w.setFld (Pg.cpc 9) F.CPC_MB_STATUS_BUSY 1).cpcMap (fun c
    => { c with mbSeq := seq.toNat })).mbUnknown) ∧
  -- R692: a request of the firmware's major whose required features it has agrees on what both have, and the firmware
  -- runs.
  (∀ (off : Nat) (s : State), (s.at off).mbBusy = true → (s.at off).mbAwake = true → s.mbOp = 0x01 → s.fwState ∈
    [FW.waitDriver, FW.running, FW.held] → layoutOk s.mbReq [(8, 1), (9, 1), (16, 8), (24, 8)] = true → reqAt s.mbReq
    8 1 = (s.fwInfo s.runRegion).major.toNat → reqAt s.mbReq 24 8 &&& s.fwBitmap = reqAt s.mbReq 24 8 → ∃ t : State,
    exec (.negotiate off) s = .next t ∧ t = (((((s.at off).cpcMap (fun c =>
    { c with neg := some ⟨reqAt s.mbReq 16 8, reqAt s.mbReq 24 8, reqAt s.mbReq 8 1, reqAt s.mbReq 9 1⟩ })).setAgreed
    (reqAt s.mbReq 16 8 &&& s.fwBitmap)).setFw FW.running 0)).mbAnswer MB.ok ([(s.fwInfo s.runRegion).major.toNat,
    (s.fwInfo s.runRegion).minor.toNat, 0, 0] ++ leBytes 4 (s.fwInfo s.runRegion).version.toNat ++ leBytes 8
    s.fwBitmap ++ leBytes 8 (reqAt s.mbReq 16 8 &&& s.fwBitmap))) ∧
  -- R690: STATUS is answered with the firmware's state, version, agreed features, membership and update.
  (∀ (off : Nat) (s : State), (s.at off).mbBusy = true → (s.at off).mbAwake = true → s.mbOp = 0x02 → s.fwState ∈
    [FW.waitDriver, FW.running, FW.held] → layoutOk s.mbReq [] = true → s.agreed / 32 % 2 = 0 → ∃ t : State, exec
    (.mbStatus off) s = .next t ∧ t = (s.at off).mbAnswer MB.ok (leBytes 4 (s.reg (regKey (Pg.cpc 0) 0x040)).toNat ++
    leBytes 4 (s.reg (regKey (Pg.cpc 0) 0x044)).toNat ++ leBytes 8 s.agreed ++ leBytes 2 (s.fld (Pg.cpc 0)
    F.CPC_CLUSTER_b0) ++ leBytes 2 (s.fld (Pg.cpc 0) F.CPC_CLUSTER_b16) ++ leBytes 4 (s.reg (regKey (Pg.cpc 11)
    0x040)).toNat ++ leBytes 4 (s.fld (Pg.cpc 0) F.CPC_FW_RESTARTS_DUTY_LATE))) ∧
  -- R569: T01 and STATIC are rewritten, and their sum answered.
  (∀ (off : Nat) (s : State), (s.at off).mbBusy = true → (s.at off).mbAwake = true → s.mbOp = 0x40 → s.fwState ∈
    [FW.waitDriver, FW.running] → layoutOk s.mbReq [(8, 2), (10, 2)] = true → ∃ t : State, exec (.graphPower off) s =
    .next t ∧ t =
    (let w := (((s.at off).cpcMap (fun c => { c with power := (reqAt s.mbReq 8 2, reqAt s.mbReq 10 2) })).setFld Pg.nrg F.NRG_FLOOR_T01 (min (reqAt s.mbReq 8 2 + reqAt s.mbReq 10 2) 1023)).floorStatic;
        w.mbAnswer MB.ok (leBytes 2 (w.fld Pg.nrg F.NRG_FLOOR_STATIC + w.fld Pg.nrg F.NRG_FLOOR_T01)))) ∧
  -- R690: up to 15 entries of the event log from an index on are answered.
  (∀ (off : Nat) (s : State), (s.at off).mbBusy = true → (s.at off).mbAwake = true → s.mbOp = 0x50 → s.fwState ∈
    [FW.running] → s.agreed / 2 ^ 6 % 2 = 1 → layoutOk s.mbReq [(8, 4), (12, 1)] = true → 0 < reqAt s.mbReq 12 1 →
    reqAt s.mbReq 12 1 ≤ 15 → s.cpc.logBase ≤ reqAt s.mbReq 8 4 → ∃ t : State, exec (.logRead off) s = .next t ∧ t =
    (s.at off).mbAnswer MB.ok (leBytes 4 (reqAt s.mbReq 8 4) ++ [((s.cpc.log.drop (reqAt s.mbReq 8 4 -
    s.cpc.logBase)).take (reqAt s.mbReq 12 1)).length, 0, 0, 0] ++ ((s.cpc.log.drop (reqAt s.mbReq 8 4 -
    s.cpc.logBase)).take (reqAt s.mbReq 12 1)).flatten)) ∧
  -- R705: a running firmware that can complete the dump writes it with cause HOST.
  (∀ (off : Nat) (s w : State), (s.at off).dropCause (Pg.cpc 10) = none → w = ((s.at off).write (Pg.cpc 10) 0x04C
    1).setFld (Pg.cpc 10) F.CPC_DUMP_CTL 0 → w.fwRuns = true → ∃ t : State, exec (.dumpNow off true) s = .next t ∧ t =
    w.writeDump DC.host 0xFF true) ∧
  -- R707: a read gives the dump's word at the address, which moves on by 4.
  (∀ (off : Nat) (s : State), (s.at off).dropCause (Pg.cpc 10) = none → s.bit (Pg.cpc 10) F.CPC_DUMP_ADDR_AUTO_INC =
    true → ∃ t : State, exec (.dumpDataRead off) s = .next t ∧ t =
    { s.at off with rdata := [BitVec.ofNat 32 (leNat ((List.range 4).map (fun i => s.cpc.dump.getD (s.fld (Pg.cpc 10) F.CPC_DUMP_ADDR_b0 / 4 * 4 + i) 0)))] }.setFld
    (Pg.cpc 10) F.CPC_DUMP_ADDR_b0 (s.fld (Pg.cpc 10) F.CPC_DUMP_ADDR_b0 / 4 * 4 + 4)) ∧
  -- R724: a watchdog expiry writes a dump and restarts the firmware.
  (∀ (off : Nat) (core : Fin 8) (complete : Bool) (s w : State), s.fwRuns = true → w = (s.at off).writeDump
    DC.watchdog core.val complete → w.fwState ≠ FW.updating → w.fwRestart.cpc.restarts.length < 3 → ∃ t : State, exec
    (.firmwareCrash off 1 core complete) s = .next t ∧ t = w.fwRestart) ∧
  -- R853: the firmware leaves INIT when the load is DONE.
  (∀ (off : Nat) (s : State), s.fwState = FW.init → s.loadState = LS'.done → ∃ t : State, exec (.firmwareInitDone off)
    s = .next t ∧ t = (s.at off).initDone) ∧
  -- R758: the record is written with every retired unit and item.
  (∀ (off : Nat) (s : State), s.fwState = FW.running → s.pins.mainReset = false → (s.at off).loadReads = false → ∃ t :
    State, exec (.retirementRecordWrite off) s = .next t ∧ t = (s.at off).writeRecord s.retiredItems)

/-- Each command of the hitless firmware update completes and has its own effect. -/
def Obligations.UpdateCommandsComplete : Prop :=
  -- R708: with no update under way, a request with a length of 1 byte to 1 MiB is accepted, and UPD_STATUS is
  -- STAGING.
  (∀ (off : Nat) (s : State), (s.at off).mbBusy = true → (s.at off).mbAwake = true → s.mbOp = 0x10 → s.fwState ∈
    [FW.running, FW.held] → s.agreed / 2 ^ 1 % 2 = 1 → layoutOk s.mbReq [(8, 8), (16, 4), (20, 1)] = true → 0 < reqAt
    s.mbReq 16 4 → reqAt s.mbReq 16 4 ≤ 2 ^ 20 → reqAt s.mbReq 20 1 < 2 → s.upd = UP.idle → ∃ t : State, exec
    (.updateStage off) s = .next t ∧ t = (((s.at off).cpcMap (fun c =>
    { c with update := some ⟨reqAt s.mbReq 8 8, reqAt s.mbReq 16 4, reqAt s.mbReq 20 1 = 1, [], ⟨0, 0, 0, 0, 0⟩, 0, 0, 0⟩ })).setUpd
    UP.staging 0).mbAnswer MB.accepted []) ∧
  -- R709: a compatible image is STAGED, its version is shown, and the host is told.
  (∀ (off : Nat) (b : List (BitVec 8)) (i : FwImage) (u : Update) (s : State), s.cpc.update = some u → s.upd =
    UP.staging → s.dutiesRun = true → s.compatible u i = true → ∃ t : State, exec (.updateStaged off (some (b, i))) s
    = .next t ∧ t = ((((s.at off).cpcMap (fun c =>
    { c with update := some { u with image := b.map BitVec.toNat, info := i } })).setFld (Pg.cpc 11) F.CPC_UPD_NEW_VER
    i.version.toNat).setUpd UP.staged 0).tellHost (Pg.cpc 11) 0) ∧
  -- R710: a STAGED update is COMMITTED for the earliest turn, 2 boundaries ahead, where the request names none.
  (∀ (off : Nat) (s : State), (s.at off).mbBusy = true → (s.at off).mbAwake = true → s.mbOp = 0x11 → s.fwState ∈
    [FW.running, FW.held] → s.agreed / 2 ^ 1 % 2 = 1 → layoutOk s.mbReq [(8, 4)] = true → reqAt s.mbReq 8 4 = 0 →
    s.upd = UP.staged → 2 ≤ (s.at off).turnsTo (((s.at off).turn + 2) % 2 ^ 32) → ∃ t : State, exec (.updateCommit
    off) s = .next t ∧ t = (((s.at off).setFld (Pg.cpc 11) F.CPC_UPD_TURN (((s.at off).turn + 2) % 2 ^ 32)).setUpd
    UP.committed 0).mbAnswer MB.ok (leBytes 4 (((s.at off).turn + 2) % 2 ^ 32))) ∧
  -- R716: a STAGED update ends REFUSED with reason ABORTED, and UPD_STATUS is answered.
  (∀ (off : Nat) (s : State), (s.at off).mbBusy = true → (s.at off).mbAwake = true → s.mbOp = 0x12 → s.fwState ∈
    [FW.running, FW.held] → s.agreed / 2 ^ 1 % 2 = 1 → layoutOk s.mbReq [] = true → s.upd = UP.staged → ∃ t : State,
    exec (.updateAbort off) s = .next t ∧ t = ((s.at off).updEnd UP.refused 4).mbAnswer MB.ok [((s.at off).updEnd
    UP.refused 4).upd]) ∧
  -- R710: at the target turn the other region's image is shown and the firmware is UPDATING.
  (∀ (off : Nat) (u : Update) (s : State), s.cpc.update = some u → s.upd = UP.committed → (s.at off).turnsTo s.updTurn
    ≤ 0 → s.fwState = FW.running → ∃ t : State, exec (.updateHandoff off) s = .next t ∧ t = (((s.at off).cpcMap (fun c
    =>
    { c with update := some { u with back := FW.running, backReason := s.fld (Pg.cpc 0) F.CPC_FW_STATE_b8, pausedAt := (s.at off).count }, img := FMap.set c.img (1 - s.runRegion) u.image, info := FMap.set c.info (1 - s.runRegion) u.info })).showImage
    (1 - s.runRegion)).setFw FW.updating 0) ∧
  -- R711, R713, R714: the new image adopts the blocks it can, and the firmware goes on.
  (∀ (off : Nat) (u : Update) (s : State), s.cpc.update = some u → s.fwState = FW.updating → -2 < (s.at off).turnsTo
    s.updTurn → u.force = false → ∃ t : State, exec (.updateAdopted off) s = .next t ∧ t = (((((s.at off).resumeFw
    u).updEnd UP.adopted 0).dropBlocks u.info.adopts.toNat).reagree).mbUnknown) ∧
  -- R715: an image that has adopted nothing by 2 turns after the target gives way to the previous one, with a dump.
  (∀ (off : Nat) (complete : Bool) (u : Update) (s : State), s.cpc.update = some u → s.fwState = FW.updating → (s.at
    off).turnsTo s.updTurn ≤ -2 → ∃ t : State, exec (.updateRollback off complete) s = .next t ∧ t = (((((s.at
    off).writeDump DC.updateFail 0xFF complete).showImage (1 - s.runRegion)).resumeFw u).updEnd UP.rolledBack
    0).mbUnknown)

/-- Each command of the cluster's membership and of its collectives completes and has its own effect. -/
def Obligations.ClusterCommandsComplete : Prop :=
  -- R700, R701: another chip is retired, the change flooded, and the new epoch answered.
  (∀ (off : Nat) (routes : List RouteWrite) (s : State), (s.at off).mbBusy = true → (s.at off).mbAwake = true → s.mbOp
    = 0x30 → s.fwState = FW.running → s.agreed / 2 ^ 2 % 2 = 1 → layoutOk s.mbReq [(8, 2)] = true → reqAt s.mbReq 8 2
    ∉ s.cpc.retired → reqAt s.mbReq 8 2 ≠ s.ownChip → ∃ t : State, exec (.chipRetire off routes) s = .next t ∧ t =
    ((s.at off).declare (reqAt s.mbReq 8 2) 2 s.ownChip routes).mbAnswer MB.ok (leBytes 2 ((s.at off).declare (reqAt
    s.mbReq 8 2) 2 s.ownChip routes).epoch)) ∧
  -- R704: a retired chip is taken back, the change flooded, and the new epoch answered.
  (∀ (off : Nat) (routes : List RouteWrite) (s : State), (s.at off).mbBusy = true → (s.at off).mbAwake = true → s.mbOp
    = 0x31 → s.fwState = FW.running → s.agreed / 2 ^ 2 % 2 = 1 → layoutOk s.mbReq [(8, 2)] = true → reqAt s.mbReq 8 2
    ∈ s.cpc.retired → ∃ t : State, exec (.chipReinstate off routes) s = .next t ∧ t = ((s.at off).takeBack (reqAt
    s.mbReq 8 2) s.ownChip routes).mbAnswer MB.ok (leBytes 2 ((s.at off).takeBack (reqAt s.mbReq 8 2) s.ownChip
    routes).epoch)) ∧
  -- R703: the table of alternates the request carries replaces the one held.
  (∀ (off : Nat) (s : State), (s.at off).mbBusy = true → (s.at off).mbAwake = true → s.mbOp = 0x32 → s.fwState =
    FW.running → s.agreed / 2 ^ 3 % 2 = 1 → layoutOk s.mbReq ((8, 1) :: (List.range (reqAt s.mbReq 8 1)).map (fun i =>
    (16 + 4 * i, 4))) = true → reqAt s.mbReq 8 1 ≤ 16 → ∃ t : State, exec (.t3RemapSet off) s = .next t ∧ t = ((s.at
    off).cpcMap (fun c =>
    { c with alts := (List.range (reqAt s.mbReq 8 1)).map (fun i => (reqAt s.mbReq (16 + 4 * i) 2, reqAt s.mbReq (18 + 4 * i) 2)) })).mbAnswer
    MB.ok []) ∧
  -- R701: when due, a HELLO goes out on every UP link.
  (∀ (off : Nat) (w s : State), (s.at off).dutyDue Duty.hello 24 = some w → ∃ t : State, exec (.helloSend off) s =
    .next t ∧ t = (w.upLinks.foldl State.sendHello w).rykPump) ∧
  -- R702: a HELLO with another digest, from a chip whose epoch is not ahead, is answered with the set.
  (∀ (off : Nat) (link : Nat) (m : List Nat) (s w : State), (s.at off).takeCtl 1 = .inr (w, link, m) → beAt m 16 4 ≠
    w.digest → beAt m 4 2 ≤ w.epoch → ∃ t : State, exec (.ctlHello off) s = .next t ∧ t = w.sendMembers link) ∧
  -- R701: a retirement not known yet is applied and forwarded.
  (∀ (off : Nat) (routes : List RouteWrite) (link : Nat) (m : List Nat) (s w : State), (s.at off).takeCtl 2 = .inr (w,
    link, m) → beAt m 8 2 ∉ w.cpc.retired → ∃ t : State, exec (.ctlRetire off routes) s = .next t ∧ t = w.declare
    (beAt m 8 2) (m.getD 10 0) (beAt m 12 2) routes) ∧
  -- R704: a reinstatement not known yet is applied and forwarded.
  (∀ (off : Nat) (routes : List RouteWrite) (link : Nat) (m : List Nat) (s w : State), (s.at off).takeCtl 3 = .inr (w,
    link, m) → beAt m 8 2 ∈ w.cpc.retired → ∃ t : State, exec (.ctlReinstate off routes) s = .next t ∧ t = w.takeBack
    (beAt m 8 2) (beAt m 12 2) routes) ∧
  -- R702: a set that fits one frame is adopted where its sender's epoch is ahead.
  (∀ (off : Nat) (routes : List RouteWrite) (link : Nat) (m : List Nat) (s w : State), (s.at off).takeCtl 4 = .inr (w,
    link, m) → FMap.get? w.cpc.sets link = none → beAt m 8 2 ≤ (ascending ((List.range (min (beAt m 12 2) 248)).map
    (fun i => beAt m (16 + 2 * i) 2))).length → w.epoch < beAt m 4 2 → ∃ t : State, exec (.ctlMembers off routes) s =
    .next t ∧ t = (w.cpcMap (fun c => { c with sets := FMap.erase c.sets link })).setMembers (ascending (ascending
    ((List.range (min (beAt m 12 2) 248)).map (fun i => beAt m (16 + 2 * i) 2)))) (beAt m 4 2) routes) ∧
  -- R700: a peer without a route for PEER_LOST turns is declared lost.
  (∀ (off : Nat) (chip : BitVec 16) (routes : List RouteWrite) (t0 : Nat) (s : State), s.dutiesRun = true → FMap.get?
    s.cpc.noRoute (s.routeKey chip.toNat) = some t0 → t0 + max 48 (s.fld (Pg.cpc 0) F.CPC_CLU_CFG_PEER_LOST) ≤
    s.safe.ticks → chip.toNat ≠ s.ownChip → chip.toNat ∉ s.cpc.retired → ∃ t : State, exec (.peerLost off chip routes)
    s = .next t ∧ t = (s.at off).declare chip.toNat 1 s.ownChip routes) ∧
  -- R700, R704: a chip whose safe state recurs SELF_RETIRE times within 24,000 turns declares itself lost.
  (∀ (off : Nat) (routes : List RouteWrite) (s : State), s.dutiesRun = true → max 1 (s.fld (Pg.cpc 0)
    F.CPC_CLU_CFG_SELF_RETIRE) ≤ (s.safe.entries.filter (fun t0 => s.safe.ticks < t0 + 24000)).length → s.ownChip ∉
    s.cpc.retired → ∃ t : State, exec (.selfRetire off routes) s = .next t ∧ t = (s.at off).selfRetire 3 routes) ∧
  -- R694 to R696: an all-reduce of INT32 by sums, well formed, is taken while none runs: its plan is shown, its first
  -- chunks go out.
  (∀ (off : Nat) (sends : List PlanSend) (c : Collective) (s w : State), (s.at off).mbBusy = true → (s.at off).mbAwake
    = true → s.mbOp = 0x20 → s.fwState = FW.running → s.agreed / 2 ^ 0 % 2 = 1 → layoutOk s.mbReq [(8, 2), (10, 1),
    (11, 1), (12, 1), (14, 2), (16, 4), (24, 8), (32, 8), (40, 1), (41, 1), (48, 32)] = true → s.cpc.colls = [] →
    reqAt s.mbReq 10 1 = 0 → reqAt s.mbReq 11 1 = 0 → reqAt s.mbReq 12 1 = 3 → reqAt s.mbReq 16 4 % 4 = 0 → reqAt
    s.mbReq 40 1 ≤ reqAt s.mbReq 41 1 → c =
    { (⟨reqAt s.mbReq 8 2, 0, 0, 3, reqAt s.mbReq 14 2, reqAt s.mbReq 16 4, reqAt s.mbReq 24 8, reqAt s.mbReq 32 8, reqAt s.mbReq 40 1, reqAt s.mbReq 41 1, reqAt s.mbReq 48 32, s.epoch, 0, 0, 0⟩ : Collective) with steps := c.steps }
    → c.steps = (collPlan 0 c.len (s.ringMin) (s.collChips c)).2 → c.steps ≠ 0 → w = (s.at off).cpcMap (fun x =>
    { x with colls := FMap.set x.colls 0 c }) → ∃ t : State, exec (.collStart off sends) s = .next t ∧ t =
    ((((((w.setFld (Pg.cpc 0) (F.CPC_COLL_STATE_b0 0) 1).setFld (Pg.cpc 0) (F.CPC_COLL_STATE_b8 0) 0).setFld (Pg.cpc
    0) (F.CPC_COLL_STATE_b16 0) (reqAt s.mbReq 8 2)).setFld (Pg.cpc 0) (F.CPC_COLL_PLAN_b0 0) s.epoch).setFld (Pg.cpc
    0) (F.CPC_COLL_PLAN_b16 0) (collPlan 0 c.len (s.ringMin) (s.collChips c)).1).sendChunks c sends).mbAnswer
    MB.accepted [0]) ∧
  -- R690: a collective in progress ends CANCELLED.
  (∀ (off : Nat) (e : Nat × Collective) (s : State), (s.at off).mbBusy = true → (s.at off).mbAwake = true → s.mbOp =
    0x21 → s.fwState = FW.running → s.agreed / 2 ^ 0 % 2 = 1 → layoutOk s.mbReq [(8, 2)] = true → s.cpc.colls.find?
    (fun e => e.2.id = reqAt s.mbReq 8 2) = some e → ∃ t : State, exec (.collCancel off) s = .next t ∧ t = ((s.at
    off).endColl e.1 CE.cancelled).mbAnswer MB.ok []) ∧
  -- R697: a frame of a collective in progress with its epoch gives its chunk, and the plan goes on.
  (∀ (off : Nat) (sends : List PlanSend) (a : Nat × Option Nat) (f : RFrame) (k : Nat) (c : Collective) (s : State),
    s.dutiesRun = true → f.type = 3 → s.ryk.inbox = [(a.1, a.2, f)] → s.cpc.colls = [(k, c)] → c.id = beAt f.payload 0
    2 → c.epoch = beAt f.payload 2 2 → max c.step (beAt f.payload 4 2 + 1) < c.steps → ∃ t : State, exec (.collFrame
    off sends) s = .next t ∧ t = (((((s.at off).rykMap (fun r => { r with inbox := [] })).takeChunk c (beAt f.payload
    4 2) (beAt f.payload 6 4) ((f.payload.drop 64).take 4096)).cpcMap (fun x =>
    { x with colls := FMap.set x.colls k { c with step := max c.step (beAt f.payload 4 2 + 1), ran := 0 } })).sendChunks
    { c with step := max c.step (beAt f.payload 4 2 + 1), ran := 0 } sends)) ∧
  -- R698: a collective that has run COLL_TMO turns without a frame ends with TIMEOUT.
  (∀ (off : Nat) (k : Fin 8) (c : Collective) (s : State), FMap.get? s.cpc.colls k.val = some c → s.collTmo ≤ c.ran →
    ∃ t : State, exec (.collTimeout off k) s = .next t ∧ t = (s.at off).endColl k.val CE.timeout)

/-- Each command of the configuration load, of its command stream and of the Priming chain completes and has its own effect. -/
def Obligations.LoadCommandsComplete : Prop :=
  -- R742: a member of a chain waits for its stream.
  (∀ (off : Nat) (sfdp : Option (BitVec 16)) (s : State), s.pins.mainReset = false → s.loadState = LS'.idle → s.sstate
    ≠ SState.warm → s.chainHead = false → ∃ t : State, exec (.coldLoad off sfdp) s = .next t ∧ t = (((s.at
    off).loadMap (fun l => { l with tried := [], ended := false, buf := [], resends := 0 })).setLoad LS'.scan).setFld
    (Pg.cfg 0) F.CFG_STATUS_CFG_SLOT 2) ∧
  -- R742, R751: the head of a chain reads the flash's size and its journal, and tries the slots of the directory.
  (∀ (off : Nat) (n : BitVec 16) (d : Nat × Nat × Nat × Nat) (s w : State), s.pins.mainReset = false → s.loadState =
    LS'.idle → s.sstate ≠ SState.warm → s.chainHead = true → w = ((((((s.at off).loadMap (fun l =>
    { l with tried := [], ended := false, buf := [], resends := 0 })).flashReset).setFld Pg.fls F.FLS_SIZE
    n.toNat).setLoad LS'.scan).journalStart) → w.directory = some d → ∃ t : State, exec (.coldLoad off (some n)) s =
    .next t ∧ t = ((w.setFld Pg.fls F.FLS_DIR d.2.1).setFld Pg.fls F.FLS_DIR_GEN d.1).nextSlot LE.noImage 0) ∧
  -- R732: a chunk of a section, not the last of a FIRMWARE section, is verified by its digest: its bytes become
  -- executable, or the section fails.
  (∀ (off : Nat) (fw : FwImage) (x : LoadSection) (o : OpenSection) (b : List Nat) (s : State), s.load.sect = some x →
    FMap.get? s.sec.sections 0 = some o → x.kind ≠ Kind.firmware → (s.at off).loadSource (x.addr + x.next) (min 65536
    (beAt x.header 28 4 - o.cipher.length) + 48) = some b → o.left ≠ 0 → s.executing = true → ∃ t : State, exec
    (.chunkVerify off fw) s = .next t ∧ t =
    (match (s.at off).openChunk 0 (b.take (min 65536 (beAt x.header 28 4 - o.cipher.length) + 48)) with
        | (u, none) => u.sectionFail LE.chunkDigest
        | (u, some p) => u.setSect { x with next := x.next + min 65536 (beAt x.header 28 4 - o.cipher.length) + 48, plain := x.plain ++ p })) ∧
  -- R785, R761: a section the module has dropped fails.
  (∀ (off : Nat) (fw : FwImage) (x : LoadSection) (s : State), s.load.sect = some x → FMap.get? s.sec.sections 0 =
    none → s.executing = true → ∃ t : State, exec (.chunkVerify off fw) s = .next t ∧ t = (s.at off).sectionFail
    LE.authFail) ∧
  -- R733: NOP executes and leaves only the stream after it.
  (∀ (off : Nat) (b : List Nat) (x x1 : LoadSection) (s w : State), s.executing = true → s.load.wait = none →
    s.load.poll = none → s.load.sect = some x → x.kind ≠ Kind.firmware → fetchCmd x = .cmd 0x00 b → x1 =
    { x with plain := x.plain.drop b.length, off := x.off + b.length } → w = ((s.at off).diag x 0x00).setSect x1 → ∃ t
    : State, exec (.cfgNop off) s = .next t ∧ t = w) ∧
  -- R735: WAIT_TURNS stops the stream for as many boundaries as it names.
  (∀ (off : Nat) (b : List Nat) (x x1 : LoadSection) (s w : State), s.executing = true → s.load.wait = none →
    s.load.poll = none → s.load.sect = some x → x.kind ≠ Kind.firmware → fetchCmd x = .cmd 0x02 b → x1 =
    { x with plain := x.plain.drop b.length, off := x.off + b.length } → w = ((s.at off).diag x 0x02).setSect x1 →
    beAt b 2 2 ≠ 0 → ∃ t : State, exec (.waitTurns off) s = .next t ∧ t = w.loadMap (fun l =>
    { l with wait := some (beAt b 2 2) })) ∧
  -- R735: the stream goes on once the boundaries have passed.
  (∀ (off : Nat) (s : State), s.load.wait = some 0 → ∃ t : State, exec (.waitTurnsExpiry off) s = .next t ∧ t = (s.at
    off).loadMap (fun l => { l with wait := none })) ∧
  -- R735, R743: while the count stands still a turn of the housekeeping oscillator counts the load's waits only (entry 137).
  (∀ (m : TurnMeasure) (s : State), s.wdl.stopped = true → s.pins.mainReset = false → ∃ t : State, exec (.turnBoundary
    m) s = .next t ∧ t = s.loadBoundary) ∧
  -- R735: the stream goes on once the unit polled is in the state named.
  (∀ (off : Nat) (p st n : Nat) (s : State), s.load.poll = some (p, st, n) → s.unitShown p = st → ∃ t : State, exec
    (.pollState off) s = .next t ∧ t = (s.at off).loadMap (fun l => { l with poll := none })) ∧
  -- R735: POLL_STATE of a unit in another state stops the stream.
  (∀ (off : Nat) (b : List Nat) (x x1 : LoadSection) (s w : State), s.executing = true → s.load.wait = none →
    s.load.poll = none → s.load.sect = some x → x.kind ≠ Kind.firmware → fetchCmd x = .cmd 0x03 b → x1 =
    { x with plain := x.plain.drop b.length, off := x.off + b.length } → w = ((s.at off).diag x 0x03).setSect x1 →
    w.unitShown (beAt b 2 2) ≠ b.getD 1 0 → ∃ t : State, exec (.pollState off) s = .next t ∧ t = w.loadMap (fun l =>
    { l with poll := some (beAt b 2 2, b.getD 1 0, beAt b 4 2) })) ∧
  -- R735: a poll whose boundaries have passed fails the section.
  (∀ (off : Nat) (p st : Nat) (s : State), s.load.poll = some (p, st, 0) → s.unitShown p ≠ st → ∃ t : State, exec
    (.pollTimeout off) s = .next t ∧ t = (s.at off).sectionFail LE.pollTimeout) ∧
  -- R734: a FULL section writes the register it names as a full write.
  (∀ (off : Nat) (b : List Nat) (x x1 : LoadSection) (s w : State), s.executing = true → s.load.wait = none →
    s.load.poll = none → s.load.sect = some x → x.kind ≠ Kind.firmware → fetchCmd x = .cmd 0x01 b → x1 =
    { x with plain := x.plain.drop b.length, off := x.off + b.length } → w = ((s.at off).diag x 0x01).setSect x1 →
    x.kind = Kind.full → ∃ t : State, exec (.writeReg off) s = .next t ∧ t = w.loadWrite x1 (beAt b 2 2) (beAt b 4 2 %
    4096) (BitVec.ofNat 32 (beAt b 8 4))) ∧
  -- R737: SET_FAR of a frame address shows and holds it.
  (∀ (off : Nat) (b : List Nat) (x x1 : LoadSection) (s w : State), s.executing = true → s.load.wait = none →
    s.load.poll = none → s.load.sect = some x → x.kind ≠ Kind.firmware → fetchCmd x = .cmd 0x10 b → x1 =
    { x with plain := x.plain.drop b.length, off := x.off + b.length } → w = ((s.at off).diag x 0x10).setSect x1 →
    s.load.src ≠ 2 → farValid (beAt b 4 4) = true → ∃ t : State, exec (.setFar off) s = .next t ∧ t = (w.setFld
    (Pg.cfg 3) F.CFG_DIAG_FAR (beAt b 4 4)).loadMap (fun l => { l with far := beAt b 4 4 })) ∧
  -- R736, R737: WRITE_FRAMES writes its frames from the address on.
  (∀ (off : Nat) (b : List Nat) (x x1 : LoadSection) (s w : State), s.executing = true → s.load.wait = none →
    s.load.poll = none → s.load.sect = some x → x.kind ≠ Kind.firmware → fetchCmd x = .cmd 0x11 b → x1 =
    { x with plain := x.plain.drop b.length, off := x.off + b.length } → w = ((s.at off).diag x 0x11).setSect x1 →
    s.load.src ≠ 2 → ∃ t : State, exec (.writeFrames off) s = .next t ∧ t = State.putFrames x1 (beAt b 4 4) (b.drop 8)
    w) ∧
  -- R738: REPEAT_FRAME writes its frame at each address of its list.
  (∀ (off : Nat) (b : List Nat) (x x1 : LoadSection) (s w : State), s.executing = true → s.load.wait = none →
    s.load.poll = none → s.load.sect = some x → x.kind ≠ Kind.firmware → fetchCmd x = .cmd 0x12 b → x1 =
    { x with plain := x.plain.drop b.length, off := x.off + b.length } → w = ((s.at off).diag x 0x12).setSect x1 →
    s.load.src ≠ 2 → ∃ t : State, exec (.repeatFrame off) s = .next t ∧ t = State.repeatFrame x1 (sliceOf b 8 516)
    ((List.range (beAt b 4 4)).map (fun i => beAt b (524 + 4 * i) 4)) w) ∧
  -- R733, R854: LOAD_MEM stores its bytes where the range and the unit allow it.
  (∀ (off : Nat) (u : State) (b : List Nat) (x x1 : LoadSection) (s w : State), s.executing = true → s.load.wait =
    none → s.load.poll = none → s.load.sect = some x → x.kind ≠ Kind.firmware → fetchCmd x = .cmd 0x20 b → x1 =
    { x with plain := x.plain.drop b.length, off := x.off + b.length } → w = ((s.at off).diag x 0x20).setSect x1 →
    w.loadMem (b.getD 1 0) (b.getD 2 0) (beAt b 8 8) (sliceOf b 16 (beAt b 4 4)) = some u → ∃ t : State, exec
    (.loadMem off) s = .next t ∧ t = u) ∧
  -- R732: at END a tag that holds applies the section, which completes; one that fails fails it.
  (∀ (off : Nat) (decls : List TapDecl) (ureg : Bool) (tag : List Nat) (b : List Nat) (x x1 : LoadSection) (s w :
    State), s.executing = true → s.load.wait = none → s.load.poll = none → s.load.sect = some x → x.kind ≠
    Kind.firmware → fetchCmd x = .cmd 0x3F b → x1 = { x with plain := x.plain.drop b.length, off := x.off + b.length }
    → w = ((s.at off).diag x 0x3F).setSect x1 → (s.at off).loadSource (x.addr + x.next) 16 = some tag → ∃ t : State,
    exec (.loadEnd off decls ureg) s = .next t ∧ t =
    (let c := w.checkTag 0 tag;
        if c.2 then (c.1.applySection x1 decls ureg).sectionDone else c.1.sectionFail LE.gcmTag)) ∧
  -- R743: the load leaves HOLD_FW, the retirement record reapplied.
  (∀ (off : Nat) (s : State), (s.at off).dropCause (Pg.cfg 0) = none → s.loadState = LS'.holdFw → ∃ t : State, exec
    (.cfgContinue off) s = .next t ∧ t = ((s.at off).reapplyRecord).leaveHold) ∧
  -- R743: a load held too long goes on, with FW_LATE and interrupt 3.
  (∀ (off : Nat) (s : State), s.loadState = LS'.holdFw → s.load.holdFor = 0 → ∃ t : State, exec (.holdFwTimeout off) s
    = .next t ∧ t = (((s.at off).leaveHold).setFld (Pg.cfg 0) F.CFG_STATUS_FW_LATE 1).raiseIrq (Pg.cfg 0) 3) ∧
  -- R746: with no load and no reload running, a partial reload starts at its address.
  (∀ (off : Nat) (s : State), (s.at off).dropCause (Pg.cfg 2) = none → s.partRuns = false → s.loadState = LS'.done → ∃
    t : State, exec (.partGo off) s = .next t ∧ t = (((s.at off).setFld (Pg.cfg 2) F.CFG_PART_STATUS_b0 1).setFld
    (Pg.cfg 2) F.CFG_PART_STATUS_ERR 0).loadMap (fun x =>
    { x with src := 3, todo := [(0, s.fld (Pg.cfg 2) F.CFG_PART_ADDR_LO + 2 ^ 32 * s.fld (Pg.cfg 2) F.CFG_PART_ADDR_HI, s.fld (Pg.cfg 2) F.CFG_PART_LEN)], sect := none, done := 0 }))
    ∧
  -- R745: at a warm restart with no section to replay the load is DONE.
  (∀ (off : Nat) (s : State), s.pins.mainReset = false → s.sstate = SState.warm → s.loadState = LS'.idle → 2 ≤ s.fld
    (Pg.cfg 0) F.CFG_STATUS_CFG_SLOT → ∃ t : State, exec (.warmReplay off) s = .next t ∧ t = (((s.at off).setLoad
    LS'.replay).loadMap (fun x => { x with src := 2, todo := [], sect := none, done := 0 })).loadDone) ∧
  -- R749: a member forwards a DATA frame for a later one with its HOP one less.
  (∀ (off : Nat) (hop : BitVec 8) (stream : BitVec 16) (payload : List (BitVec 8)) (s : State), s.chainHead = false →
    s.pins.mainReset = false → s.carries 162 = true → s.chainOpen = true → payload.length ≤ 4096 → hop ≠ 0 → hop ≠
    0xFF → ∃ t : State, exec (.chainFrame off 2 hop stream payload true) s = .next t ∧ t = (((((s.at off).incFld
    (Pg.cfg 1) F.CFG_CHN_RX).setFld (Pg.cfg 1) F.CFG_CHN_STATUS_b16 stream.toNat).sendGroups 2 (hop.toNat - 1)
    stream.toNat (payload.map BitVec.toNat)).incFld (Pg.cfg 1) F.CFG_CHN_FWD)) ∧
  -- R750: a head whose chain is not done in CHN_TMO sends its stream again, and counts it.
  (∀ (off ms : Nat) (s : State), s.chainHead = true → s.loadState = LS'.done → max 1 (s.fld (Pg.cfg 1)
    F.CFG_CHN_CTL_CHN_TMO) ≤ ms → s.load.resends < s.fld (Pg.cfg 1) F.CFG_CHN_CTL_CHN_RESEND → ∃ t : State, exec
    (.chainResend off ms) s = .next t ∧ t = ((((s.at off).sendChain).incFld (Pg.cfg 1) F.CFG_CHN_ERR_b16).setFld
    (Pg.cfg 1) F.CFG_CHN_STATUS_PRM_DONE 0).loadMap (fun l => { l with resends := l.resends + 1 })) ∧
  -- R732, R774: the controller opens its next section: its signatures and its header are checked, and it executes or
  -- fails.
  (∀ (off : Nat) (req : List (BitVec 8)) (i a len : Nat) (rest : List (Nat × Nat × Nat)) (b : List Nat) (s : State),
    s.load.src = 1 → s.load.todo = (i, a, len) :: rest → s.load.sect = none → s.executing = true → s.mstate =
    MS.operational → s.sectHead a = some b → ∃ t : State, exec (.imageOpen off .controller req) s = .next t ∧ t =
    (let x := (s.at off).openImage 0 b;
        let u := ((x.1.secAnswer 0 0x0080 x.2 s.approvedMode []).loadMap (fun l => { l with todo := rest })).setSect ⟨i, b.getD 13 0, a, b.length, len, b.take 256, [], 0, [], false⟩;
        if x.2 ≠ SS.ok then u.sectionFail LE.authFail else match u.headCheck b with | some e => u.sectionFail e | none => u))

/-- Each command of the flash controller completes and has its own effect. -/
def Obligations.FlashCommandsComplete : Prop :=
  -- R757: a READ, while no load reads flash, is taken with its address and length.
  (∀ (off : Nat) (s w : State), (s.at off).dropCause Pg.fls = none → w = ((s.at off).write Pg.fls 0x044 9).setFld
    Pg.fls F.FLS_CMD_GO 0 → ((s.at off).write Pg.fls 0x044 9).fld Pg.fls F.FLS_CMD_OP = 1 → w.loadReads = false → ∃ t
    : State, exec (.flashRead off) s = .next t ∧ t = w.giveFlash ⟨1, w.fld Pg.fls F.FLS_ADDR, max 1 (min 256 (w.fld
    Pg.fls F.FLS_LEN)), []⟩) ∧
  -- R751: a PROGRAM, while no load reads flash, is taken with its address and length.
  (∀ (off : Nat) (s w : State), (s.at off).dropCause Pg.fls = none → w = ((s.at off).write Pg.fls 0x044 10).setFld
    Pg.fls F.FLS_CMD_GO 0 → ((s.at off).write Pg.fls 0x044 10).fld Pg.fls F.FLS_CMD_OP = 2 → w.loadReads = false → ∃ t
    : State, exec (.flashProgram off) s = .next t ∧ t = w.giveFlash ⟨2, w.fld Pg.fls F.FLS_ADDR, max 1 (min 256 (w.fld
    Pg.fls F.FLS_LEN)), w.flashBuf (max 1 (min 256 (w.fld Pg.fls F.FLS_LEN)))⟩) ∧
  -- R755: an ERASE, while no load reads flash, is taken with its address and length.
  (∀ (off : Nat) (s w : State), (s.at off).dropCause Pg.fls = none → w = ((s.at off).write Pg.fls 0x044 11).setFld
    Pg.fls F.FLS_CMD_GO 0 → ((s.at off).write Pg.fls 0x044 11).fld Pg.fls F.FLS_CMD_OP = 3 → w.loadReads = false → ∃ t
    : State, exec (.flashErase off) s = .next t ∧ t = w.giveFlash ⟨3, w.fld Pg.fls F.FLS_ADDR, max 1 (min 256 (w.fld
    Pg.fls F.FLS_LEN)), []⟩) ∧
  -- R751: a PROGRAM that completes clears the bits it names, raises interrupt 2, and lets the next command start.
  (∀ (off : Nat) (a n : Nat) (data : List Nat) (s : State), s.flash.op = some ⟨2, a, n, data⟩ → ∃ t : State, exec
    (.flashOpDone off true) s = .next t ∧ t = ((((((s.at off).flashMap (fun f => { f with op := none })).flashMap (fun
    f => { f with mem := programBytes f.mem a data })).raiseIrq Pg.fls 2).nextFlash).syncFlash)) ∧
  -- R763: a PROGRAM reported as failed counts, shows ERR, and raises interrupts 0 and 2.
  (∀ (off : Nat) (a n : Nat) (data : List Nat) (s : State), s.flash.op = some ⟨2, a, n, data⟩ → ∃ t : State, exec
    (.flashOpDone off false) s = .next t ∧ t = ((((((s.at off).flashMap (fun f =>
    { f with op := none })).flashFail).raiseIrq Pg.fls 2).nextFlash).syncFlash))

/-- Each command of the module's states, tests, roles and debug levels completes and has its own effect. -/
def Obligations.ModuleStatesComplete : Prop :=
  -- R770: the STATUS service answers SEC_STATUS in every state of the module.
  (∀ (off : Nat) (who : Requester) (req : List (BitVec 8)) (r : List Nat) (s : State), r = s.secReq who req → (who =
    .pf0 → s.bit (Pg.sec 0) F.SEC_RSP_BUSY = true ∧ leNat (r.take 2) = 0x0001) → s.mstate ≤ 4 → ∃ t : State, exec
    (.secStatusSvc off who req) s = .next t ∧ t = ((s.at off)).secAnswer (requester who) 0x0001 SS.ok s.approvedMode
    (leBytes 4 (s.reg (regKey (Pg.sec 0) 0x040)).toNat)) ∧
  -- R784: the tests start; the service is answered with their end.
  (∀ (off : Nat) (who : Requester) (req : List (BitVec 8)) (r : List Nat) (s : State), r = s.secReq who req → (who =
    .pf0 → s.bit (Pg.sec 0) F.SEC_RSP_BUSY = true ∧ leNat (r.take 2) = 0x0002) → s.mstate = MS.operational →
    s.pins.zeroizeN = true → ∃ t : State, exec (.selftest off who req) s = .next t ∧ t = (s.at off).startTests (some
    (requester who, 0x0002))) ∧
  -- R784: with no test failed and ZEROIZE_N high the keys of the device are made, the module is OPERATIONAL, and the
  -- requests held are served.
  (∀ (off : Nat) (micros : Word) (s w : State), s.mstate = MS.selftest → s.pins.island = true → s.pins.resetN = true →
    w = (((((((s.at off).testBit 0 true).testBit 1 true).testBit 2 true).testBit 3 true).setFld (Pg.sec 4)
    F.SEC_ST_TIME micros.toNat).incFld (Pg.sec 4) F.SEC_ST_RUNS) → w.pins.zeroizeN = true → ∃ t : State, exec
    (.secSelftestDone off [] micros) s = .next t ∧ t = ((((((w.secMap (fun x =>
    { x with pufk := some (Config.pufKey w.sec.helper), dkek := (if w.bit (Pg.sec 0) F.SEC_STATUS_KILLED then none else (Config.kwUnwrap (Config.pufKey w.sec.helper) w.sec.dkekFuse).map beNat), drbg := true })).setFld
    (Pg.sec 4) F.SEC_DRBG_CNT 0).setFld (Pg.sec 0) F.SEC_STATUS_ERR_CODE 0).setMstate MS.operational).endTest
    SS.ok).milestone 0).serveHeld) ∧
  -- R784, R797: a request that arrives while the tests run waits for their end, one for each requester.
  (∀ (off : Nat) (who : Requester) (req : List (BitVec 8)) (r : List Nat) (s : State), r = s.secReq who req → (who =
    .pf0 → s.bit (Pg.sec 0) F.SEC_RSP_BUSY = true ∧ leNat (r.take 2) = 0x0040) → s.mstate = MS.selftest → FMap.get?
    s.sec.held (requester who) = none → s.sec.testFor.map Prod.fst ≠ some (requester who) → ∃ t : State, exec
    (.secRandom off who req) s = .next t ∧ t =
    { s.at off with sec := { s.sec with held := FMap.set s.sec.held (requester who) ⟨0x0040, who, req, []⟩ } }) ∧
  -- R784: a failed known-answer test leaves the module CRITICAL, and the firmware's waiting request is answered
  -- NOT_OPERATIONAL.
  (∀ (off : Nat) (micros : Word) (h : HeldReq) (s w u : State), s.mstate = MS.selftest → s.pins.island = true →
    s.pins.resetN = true → w = (((((((s.at off).testBit 0 true).testBit 1 false).testBit 2 true).testBit 3
    true).setFld (Pg.sec 4) F.SEC_ST_TIME micros.toNat).incFld (Pg.sec 4) F.SEC_ST_RUNS) → u = w.secFail MS.critical 2
    → u.sec.held = [(1, h)] → ∃ t : State, exec (.secSelftestDone off [1] micros) s = .next t ∧ t = (u.secMap (fun x
    => { x with held := [] })).secAnswer 1 h.opcode SS.notOperational u.approvedMode []) ∧
  -- R785: a failed repetition-count test counts, shows its bit, and the module is in ERROR with code 5.
  (∀ (off : Nat) (s : State), s.mstate = MS.operational → ∃ t : State, exec (.healthTestFail off .rct) s = .next t ∧ t
    = ((((s.at off).incFld (Pg.sec 4) F.SEC_HEALTH_CNT_RCT).testBit 4 false).raiseIrq (Pg.sec 4) 0).secFail MS.error
    5) ∧
  -- Table SEC-8: after 2^20 requests a healthy DRBG reseeds, its count again 0.
  (∀ (off : Nat) (s : State), s.mstate = MS.operational → 2 ^ 20 ≤ s.fld (Pg.sec 4) F.SEC_DRBG_CNT → ∃ t : State, exec
    (.drbgReseed off true) s = .next t ∧ t = ((s.at off).setFld (Pg.sec 4) F.SEC_DRBG_CNT 0).testBit 6 true) ∧
  -- R782, R784: ZEROIZE_N low zeroizes the module, and requests held for running tests are refused; of a CRITICAL one
  -- the CSPs are cleared (entry 121).
  (∀ (off : Nat) (s : State), s.pins.island = true → s.pins.resetN = true → ∃ t : State, exec (.zeroizeNLow off) s =
    .next t ∧ t = (if s.mstate = MS.critical then
    { s.at off with pins := { s.pins with zeroizeN := false } }.zeroizeCsps else if s.mstate = MS.selftest then
    { s.at off with pins := { s.pins with zeroizeN := false } }.zeroize.answerHeld else
    { s.at off with pins := { s.pins with zeroizeN := false } }.zeroize)) ∧
  -- R782: ZEROIZE_N high again.
  (∀ (off : Nat) (s : State), ∃ t : State, exec (.zeroizeNHigh off) s = .next t ∧ t =
    { s.at off with pins := { s.pins with zeroizeN := true } }) ∧
  -- R771: with a CO session the module is zeroized, its mode set, and its tests start.
  (∀ (off : Nat) (who : Requester) (req : List (BitVec 8)) (r : List Nat) (s : State), r = s.secReq who req → (who =
    .pf0 → s.bit (Pg.sec 0) F.SEC_RSP_BUSY = true ∧ leNat (r.take 2) = 0x0050) → s.mstate = MS.operational → requester
    who ∈ s.sec.sessions → r.getD 8 2 < 2 → s.bit (Pg.sec 0) F.SEC_STATUS_MODE_LOCK = false → ∃ t : State, exec
    (.setMode off who req) s = .next t ∧ t = ((((s.at off).zeroize).setFld (Pg.sec 0) F.SEC_STATUS_MODE (r.getD 8
    2)).startTests (some (requester who, 0x0050)))) ∧
  -- R782: with a CO session and KILL 0 the module is zeroized.
  (∀ (off : Nat) (who : Requester) (req : List (BitVec 8)) (r : List Nat) (s : State), r = s.secReq who req → (who =
    .pf0 → s.bit (Pg.sec 0) F.SEC_RSP_BUSY = true ∧ leNat (r.take 2) = 0x0051) → s.mstate = MS.operational → requester
    who ∈ s.sec.sessions → r.getD 8 2 = 0 → ∃ t : State, exec (.zeroize off who req) s = .next t ∧ t = ((s.at
    off).zeroize).secAnswer (requester who) 0x0051 SS.ok s.approvedMode []) ∧
  -- R788: the debug level is 0 again.
  (∀ (off : Nat) (who : Requester) (req : List (BitVec 8)) (r : List Nat) (s : State), r = s.secReq who req → (who =
    .pf0 → s.bit (Pg.sec 0) F.SEC_RSP_BUSY = true ∧ leNat (r.take 2) = 0x0060) → s.mstate ∈ [MS.operational, MS.error,
    MS.zeroized] → ∃ t : State, exec (.debugLock off who req) s = .next t ∧ t = ((s.at off).setDebug 0).secAnswer
    (requester who) 0x0060 SS.ok s.approvedMode []) ∧
  -- R786: a challenge of a purpose and a key index is answered with a fresh nonce and the device ID, and is held.
  (∀ (off : Nat) (who : Requester) (req : List (BitVec 8)) (r : List Nat) (s : State), r = s.secReq who req → (who =
    .pf0 → s.bit (Pg.sec 0) F.SEC_RSP_BUSY = true ∧ leNat (r.take 2) = 0x0010) → s.mstate = MS.operational → r.getD 8
    3 ≤ 2 → r.getD 9 2 ≤ 1 → ∃ t : State, exec (.authChallenge off who req) s = .next t ∧ t = (((((s.at
    off).drawn.incFld (Pg.sec 4) F.SEC_DRBG_CNT).secMap (fun y =>
    { y with stale := (match FMap.get? y.nonces (requester who) with | some old => FMap.set y.stale (requester who) old | none => FMap.erase y.stale (requester who)), nonces := FMap.set y.nonces (requester who) ⟨(s.at off).drbgBytes 48 |>.1, r.getD 8 0, r.getD 9 0⟩ })).syncNonce).setFld
    (Pg.sec 6) F.SEC_DBG_STATUS_b8 30).secAnswer (requester who) 0x0010 SS.ok s.approvedMode (((s.at off).drbgBytes
    48).1 ++ s.deviceId)) ∧
  -- R786: the nonce is used; signatures that hold grant what it was asked for, and others are counted.
  (∀ (off : Nat) (who : Requester) (req : List (BitVec 8)) (r : List Nat) (n : Nonce) (p : SigBlock × SigBlock) (s :
    State), r = s.secReq who req → (who = .pf0 → s.bit (Pg.sec 0) F.SEC_RSP_BUSY = true ∧ leNat (r.take 2) = 0x0011) →
    s.mstate = MS.operational → (s.at off).nonceOf (requester who) = some n → FMap.get? s.sec.stale (requester who) =
    none → sigPair (r.drop 8) = some p → ∃ t : State, exec (.authResponse off who req) s = .next t ∧ t = (let u :=
    ((s.at off).secMap (fun y =>
    { y with nonces := FMap.erase y.nonces (requester who), stale := FMap.erase y.stale (requester who) })).syncNonce;
    if s.authStatus n p = SS.ok then (u.grantAuth (requester who) n).secAnswer (requester who) 0x0011 SS.ok
    s.approvedMode [] else (u.incFld (Pg.sec 6) F.SEC_DBG_UNLOCKS_b16).secAnswer (requester who) 0x0011 (s.authStatus
    n p) s.approvedMode [])) ∧
  -- R768: the session of the requester ends.
  (∀ (off : Nat) (who : Requester) (req : List (BitVec 8)) (r : List Nat) (s : State), r = s.secReq who req → (who =
    .pf0 → s.bit (Pg.sec 0) F.SEC_RSP_BUSY = true ∧ leNat (r.take 2) = 0x0012) → s.mstate = MS.operational → requester
    who ∈ s.sec.sessions → ∃ t : State, exec (.logout off who req) s = .next t ∧ t = ((s.at off).endSession (requester
    who)).secAnswer (requester who) 0x0012 SS.ok s.approvedMode []) ∧
  -- R768: an idle session ends.
  (∀ (off : Nat) (who : Requester) (s : State), ∃ t : State, exec (.coSessionIdle off who) s = .next t ∧ t = (s.at
    off).endSession (requester who)) ∧
  -- R786: a nonce not used in time is forgotten.
  (∀ (off : Nat) (who : Requester) (s : State), ∃ t : State, exec (.nonceExpiry off who) s = .next t ∧ t = ((s.at
    off).secMap (fun y =>
    { y with nonces := FMap.erase y.nonces (requester who), stale := FMap.erase y.stale (requester who) })).syncNonce)

/-- Each command of the module's keys, random bytes, fuses and image sections completes and has its own effect. -/
def Obligations.ModuleKeysComplete : Prop :=
  -- Table SEC-2: RANDOM answers 1 to 256 bytes, one generate request.
  (∀ (off : Nat) (who : Requester) (req : List (BitVec 8)) (r : List Nat) (s : State), r = s.secReq who req → (who =
    .pf0 → s.bit (Pg.sec 0) F.SEC_RSP_BUSY = true ∧ leNat (r.take 2) = 0x0040) → s.mstate = MS.operational → 1 ≤ leNat
    (sliceOf r 8 2) → leNat (sliceOf r 8 2) ≤ 256 → ∃ t : State, exec (.secRandom off who req) s = .next t ∧ t =
    ((s.at off).drawn.incFld (Pg.sec 4) F.SEC_DRBG_CNT).secAnswer (requester who) 0x0040 SS.ok s.approvedMode ((s.at
    off).drbgBytes (leNat (sliceOf r 8 2))).1) ∧
  -- Table SEC-2: in non-approved mode RANDOM_RAW answers 1 to 256 bytes of the noise source.
  (∀ (off : Nat) (who : Requester) (req : List (BitVec 8)) (r : List Nat) (s : State), r = s.secReq who req → (who =
    .pf0 → s.bit (Pg.sec 0) F.SEC_RSP_BUSY = true ∧ leNat (r.take 2) = 0x0041) → s.mstate = MS.operational →
    s.approvedMode = false → 1 ≤ leNat (sliceOf r 8 2) → leNat (sliceOf r 8 2) ≤ 256 → ∃ t : State, exec (.randomRaw
    off who req) s = .next t ∧ t = ((s.at off).drawn).secAnswer (requester who) 0x0041 SS.ok false ((List.range (leNat
    (sliceOf r 8 2))).map (fun i => s.free / 256 ^ i % 256))) ∧
  -- R777: a slot and a valid public key give a transport key, derived from the shared secret, and the module's public
  -- key.
  (∀ (off : Nat) (who : Requester) (req : List (BitVec 8)) (r : List Nat) (s : State), r = s.secReq who req → (who =
    .pf0 → s.bit (Pg.sec 0) F.SEC_RSP_BUSY = true ∧ leNat (r.take 2) = 0x0020) → s.mstate = MS.operational → requester
    who ∈ s.sec.sessions → r.getD 8 4 < 4 → 113 ≤ r.length → ∃ t : State, exec (.stkEstablish off who req) s = .next t
    ∧ t = (if Config.p384Valid (sliceOf r 16 97) then ((((s.at off).drawn.incFld (Pg.sec 4) F.SEC_DRBG_CNT).secMap
    (fun y =>
    { y with stks := FMap.set y.stks (r.getD 8 4) (beNat ((Config.sha384 ([0, 0, 0, 1] ++ Config.p384Shared (beNat ((s.at off).drbgBytes 48).1) (sliceOf r 16 97) ++ [0x54, 0x58, 0x39, 0x36, 0x34, 0x2D, 0x53, 0x54, 0x4B, r.getD 8 4] ++ s.deviceId)).take 32)) })).syncStk.testBit
    5 true).secAnswer (requester who) 0x0020 SS.ok s.approvedMode (Config.p384Public (beNat ((s.at off).drbgBytes
    48).1)) else (s.at off).secAnswer (requester who) 0x0020 SS.badArg s.approvedMode [])) ∧
  -- R777: the transport key of a slot is cleared.
  (∀ (off : Nat) (who : Requester) (req : List (BitVec 8)) (r : List Nat) (s : State), r = s.secReq who req → (who =
    .pf0 → s.bit (Pg.sec 0) F.SEC_RSP_BUSY = true ∧ leNat (r.take 2) = 0x0021) → s.mstate = MS.operational → requester
    who ∈ s.sec.sessions → r.getD 8 4 < 4 → ∃ t : State, exec (.stkClear off who req) s = .next t ∧ t = (((s.at
    off).secMap (fun y => { y with stks := FMap.erase y.stks (r.getD 8 4) })).syncStk).secAnswer (requester who)
    0x0021 SS.ok s.approvedMode []) ∧
  -- R780: a key wrapped under a transport key is put into an idle SA slot, with its tag and salt; one that does not
  -- unwrap is refused.
  (∀ (off : Nat) (who : Requester) (req : List (BitVec 8)) (r : List Nat) (q ctl n k : Nat) (s : State), r = s.secReq
    who req → (who = .pf0 → s.bit (Pg.sec 0) F.SEC_RSP_BUSY = true ∧ leNat (r.take 2) = 0x0030) → s.mstate =
    MS.operational → saOperand r = some (q, ctl, n) → 72 ≤ r.length → r.getD 15 2 < 2 → s.saIdle q ctl = true → r.getD
    14 4 < 4 → FMap.get? s.sec.stks (r.getD 14 4) = some k → ∃ t : State, exec (.sakLoad off who req) s = .next t ∧ t
    =
    (match Config.kwUnwrap k (sliceOf r 16 40) with
        | some b => ((((s.at off).loadSak q ctl n (beNat b) (if r.getD 15 0 = 1 then beNat (sliceOf r 56 12) else 0) (leNat (sliceOf r 12 2))).incFld (Pg.sec 5) F.SEC_SAK_LOADS_b0)).secAnswer (requester who) 0x0030 SS.ok s.approvedMode (leBytes 2 (leNat (sliceOf r 12 2)) ++ [r.getD 11 0, 0])
        | none => ((s.at off).incFld (Pg.sec 5) F.SEC_SAK_LOADS_b16).secAnswer (requester who) 0x0030 SS.unwrapFail s.approvedMode [])) ∧
  -- R780: in non-approved mode a plain key is put into an idle SA slot.
  (∀ (off : Nat) (who : Requester) (req : List (BitVec 8)) (r : List Nat) (q ctl n : Nat) (s : State), r = s.secReq
    who req → (who = .pf0 → s.bit (Pg.sec 0) F.SEC_RSP_BUSY = true ∧ leNat (r.take 2) = 0x0032) → s.mstate =
    MS.operational → s.approvedMode = false → saOperand r = some (q, ctl, n) → 72 ≤ r.length → r.getD 15 2 < 2 →
    s.saIdle q ctl = true → ∃ t : State, exec (.sakLoadPlain off who req) s = .next t ∧ t = ((((s.at off).loadSak q
    ctl n (beNat (sliceOf r 16 32)) (if r.getD 15 0 = 1 then beNat (sliceOf r 56 12) else 0) (leNat (sliceOf r 12
    2))).incFld (Pg.sec 5) F.SEC_SAK_LOADS_b0)).secAnswer (requester who) 0x0032 SS.ok false (leBytes 2 (leNat
    (sliceOf r 12 2)) ++ [r.getD 11 0, 0])) ∧
  -- R780: an idle SA slot is cleared.
  (∀ (off : Nat) (who : Requester) (req : List (BitVec 8)) (r : List Nat) (q ctl n : Nat) (s : State), r = s.secReq
    who req → (who = .pf0 → s.bit (Pg.sec 0) F.SEC_RSP_BUSY = true ∧ leNat (r.take 2) = 0x0031) → s.mstate =
    MS.operational → saOperand r = some (q, ctl, n) → s.saIdle q ctl = true → ∃ t : State, exec (.sakClear off who
    req) s = .next t ∧ t = ((s.at off).clearSlot q ctl).secAnswer (requester who) 0x0031 SS.ok s.approvedMode []) ∧
  -- R778: an image key wrapped under a transport key is wrapped under the device key and blown into a blank index.
  (∀ (off : Nat) (who : Requester) (req : List (BitVec 8)) (r : List Nat) (d stk : Nat) (s : State), r = s.secReq who
    req → (who = .pf0 → s.bit (Pg.sec 0) F.SEC_RSP_BUSY = true ∧ leNat (r.take 2) = 0x0070) → s.mstate =
    MS.operational → requester who ∈ s.sec.sessions → r.getD 8 8 < 8 → r.getD 9 4 < 4 → 56 ≤ r.length → s.sec.dkek =
    some d → FMap.get? s.sec.stks (r.getD 9 4) = some stk → s.bit (Pg.sec 5) ⟨0x044, r.getD 8 8, 1⟩ = false → ∃ t :
    State, exec (.provisionIk off who req true) s = .next t ∧ t =
    (match Config.kwUnwrap stk (sliceOf r 16 40) with
        | none => (s.at off).secAnswer (requester who) 0x0070 SS.unwrapFail s.approvedMode []
        | some ik => ((((s.at off).secMap (fun y => { y with ikFuse := FMap.set y.ikFuse (r.getD 8 8) (Config.kwWrap d ik) })).setFld (Pg.sec 5) ⟨0x044, r.getD 8 8, 1⟩ 1).testBit 7 true).secAnswer (requester who) 0x0070 SS.ok s.approvedMode [])) ∧
  -- R779: an image-key index is revoked.
  (∀ (off : Nat) (who : Requester) (req : List (BitVec 8)) (r : List Nat) (s : State), r = s.secReq who req → (who =
    .pf0 → s.bit (Pg.sec 0) F.SEC_RSP_BUSY = true ∧ leNat (r.take 2) = 0x0071) → s.mstate = MS.operational → requester
    who ∈ s.sec.sessions → r.getD 8 4 = 0 → r.getD 9 8 < 8 → 10 ≤ r.length → ∃ t : State, exec (.revoke off who req
    true) s = .next t ∧ t = (((s.at off).setFld (Pg.sec 5) ⟨0x044, 8 + r.getD 9 8, 1⟩ 1).testBit 7 true).secAnswer
    (requester who) 0x0071 SS.ok s.approvedMode []) ∧
  -- R774: a chunk, not the last, of an open section is answered with its plaintext where its digest holds.
  (∀ (off : Nat) (who : Requester) (req : List (BitVec 8)) (r : List Nat) (o : OpenSection) (tag : List (BitVec 8)) (s
    : State), r = s.secReq who req → (who = .pf0 → s.bit (Pg.sec 0) F.SEC_RSP_BUSY = true ∧ leNat (r.take 2) = 0x0081)
    → s.mstate = MS.operational → requester who < 2 → FMap.get? s.sec.sections (requester who) = some o → 1 < o.left →
    ∃ t : State, exec (.imageChunk off who req tag) s = .next t ∧ t =
    (match (s.at off).openChunk (requester who) (r.drop 8) with
        | (u, none) => u.secAnswer (requester who) 0x0081 SS.sigFail s.approvedMode []
        | (u, some plain) => u.secAnswer (requester who) 0x0081 SS.ok s.approvedMode plain))

/-- A narrow read returns the enabled byte lanes and has no side effect. -/
def Obligations.NarrowReadHasNoEffect : Prop :=
  -- R107. `e` is the one register the access reaches, with the byte enables it gives it.
  ∀ (off : Nat) (fn : Fin 62) (addr : BitVec 26) (be : List Bool) (e : Nat × Nat) (s : State), (s.at
    off).dueMarks.barOpen fn.val = true → partsOf addr.toNat be.length (fun i => be.getD i false) = [e] → e.2 ≠ 0xF →
    (s.at off).dueMarks.dropCause (barPage fn.val (e.1 / 4096)) = none → userWindow (barPage fn.val (e.1 / 4096)) (e.1
    % 4096) = false → ∃ t : State, exec (.rcCounterRead off fn addr be) s = .next t ∧ t.rdata = [lanesOf e.2
    (({ (s.at off).dueMarks with rdata := [] } : State).shown (barPage fn.val (e.1 / 4096)) (e.1 % 4096))] ∧ t =
    { (s.at off).dueMarks with rdata := t.rdata, draws := t.draws }

/-- A narrow write is ignored and recorded with cause NARROW_WR. -/
def Obligations.NarrowWriteIsRecorded : Prop :=
  -- R108. `e` is the one register the access reaches, with the byte enables it gives it.
  ∀ (off : Nat) (addr : BitVec 26) (data : List (Option (BitVec 8))) (e : Nat × Nat) (s : State), partsOf addr.toNat
    data.length (fun i => (data.getD i none).isSome) = [e] → e.2 < 0xF → (s.at off).dropCause (barPage 0 (e.1 / 4096))
    = none → userWindow (barPage 0 (e.1 / 4096)) (e.1 % 4096) = false → isLocal (barPage 0 (e.1 / 4096)) = false →
    regFields? (barPage 0 (e.1 / 4096)) (e.1 % 4096) ≠ none → ((s.at off).absent (barPage 0 (e.1 / 4096)) && decide
    (e.1 % 4096 = 0x010)) = false → ∃ t : State, exec (.registerWrite off 0 addr data) s = .next t ∧ t.fld (barPage 0
    (e.1 / 4096)) F.HDR_ACCESS_FAULT_CAUSE = Cause.narrowWr ∧ t.fld (barPage 0 (e.1 / 4096)) F.HDR_ACCESS_FAULT_OFFSET
    = e.1 % 4096 ∧ t.fld (barPage 0 (e.1 / 4096)) F.HDR_ACCESS_FAULT_BE = e.2 ∧ t.fld (barPage 0 (e.1 / 4096))
    F.HDR_ACCESS_FAULT_SIZE = sizeCode data.length ∧ t.fld (barPage 0 (e.1 / 4096)) F.HDR_ACCESS_FAULT_VALID = 1 ∧ ∀ p
    o, Own p o → p ≠ Pg.flt → t.reg (regKey p o) = s.reg (regKey p o)

/-- ACCESS_FAULT keeps the most recent write and counts every fault. -/
def Obligations.AccessFaultKeepsTheLatest : Prop :=
  -- R116. The faults in the order they are recorded, the last apart; all on one page, with whatever byte enables,
  -- sizes and causes.
  ∀ (s t : State) (l : List (Part × Nat)) (x : Part) (c : Nat), t = l.foldl (fun (a : State) e => a.recordFault e.1
    e.2) s → (∀ e ∈ l, e.1.page = x.page ∧ e.1.off < 4096 ∧ e.1.size < 4 ∧ e.1.be < 16 ∧ e.2 < 16) → x.page < 0x4000 ∧
    x.off < 4096 ∧ x.size < 4 ∧ x.be < 16 ∧ c < 16 → (t.recordFault x c).fld x.page F.HDR_ACCESS_FAULT_OFFSET = x.off
    ∧ (t.recordFault x c).fld x.page F.HDR_ACCESS_FAULT_SIZE = x.size ∧ (t.recordFault x c).fld x.page
    F.HDR_ACCESS_FAULT_BE = x.be ∧ (t.recordFault x c).fld x.page F.HDR_ACCESS_FAULT_CAUSE = c ∧ (t.recordFault x
    c).fld x.page F.HDR_ACCESS_FAULT_VALID = 1 ∧ (t.recordFault x c).fld x.page F.HDR_ACCESS_FAULT_COUNT = min (s.fld
    x.page F.HDR_ACCESS_FAULT_COUNT + (l.length + 1)) 63

/-- At one count a page takes one snapshot, whatever the triggers. -/
def Obligations.OneSnapshotPerCount : Prop :=
  -- R139. One snapshot, however many triggers.
  (∀ (s : State) (p n : Nat), (List.replicate n p).foldl State.snapshot (s.snapshot p) = s.snapshot p) ∧
  -- R139. The snapshot count.
  (∀ (s : State) (p : Nat), hasSnap p = true → FMap.get? s.snapAt p ≠ some s.count → s.count < 2 ^ 64 → (s.snapshot
    p).fld p F.HDR_SNAP_WDL_LO + 2 ^ 32 * (s.snapshot p).fld p F.HDR_SNAP_WDL_HI = s.count)

/-- SNAP_CTL.VIEW turns reads of counters to the snapshot copy. -/
def Obligations.SnapshotViewReadsTheCopy : Prop :=
  -- R130. VIEW = 1.
  (∀ (off page o : Nat) (s : State), page < 0x4000 → o < 4096 → o % 4 = 0 → (s.at off).dueMarks.dropCause page = none
    → userWindow page o = false → isCounter page o = true → hasSnap page = true → (s.at off).dueMarks.bit page
    F.HDR_SNAP_CTL_VIEW = true → ∃ t : State, exec (.rcCounterRead off 0 (BitVec.ofNat 26 (page * 4096 + o)) [true,
    true, true, true]) s = .next t ∧ t.rdata = [FMap.getD (s.at off).dueMarks.snaps (regKey page o) (regReset (regKey
    page o))] ∧ t = { (s.at off).dueMarks with rdata := t.rdata }) ∧
  -- R130. VIEW = 0; PTP_TIME and the window registers, which are no counters, are other rules'.
  (∀ (off page o : Nat) (s w : State), w = (s.at off).dueMarks → page < 0x4000 → o < 4096 → o % 4 = 0 → w.dropCause
    page = none → userWindow page o = false → isCounter page o = true → o ∉ clockCounters page → w.bit page
    F.HDR_SNAP_CTL_VIEW = false → w.clk.count ≠ w.count → ∃ t : State, exec (.rcCounterRead off 0 (BitVec.ofNat 26
    (page * 4096 + o)) [true, true, true, true]) s = .next t ∧ t.rdata = [w.reg (regKey (mirrorOf page o) o)])

/-- A saturating counter stops at its all-ones value. -/
def Obligations.CountersSaturate : Prop :=
  -- R135.
  ∀ (s : State) (p n : Nat) (f : Fld), f.lo + f.w ≤ 32 → (s.incFld p f n).fld p f = min (s.fld p f + n) (2 ^ f.w - 1)

/-- A hot DIMM raises THERMAL and halves its channel's rate until it is cool. -/
def Obligations.ThermalHalvesTheRate : Prop :=
  -- R563: above 95 °C.
  (∀ (off : Nat) (c : Fin 8) (temp : BitVec 16) (s : State), 95 * 8 < temp.toInt → ∃ t : State, exec (.dimmThermal off
    c temp) s = .next t ∧ (t.chan5 c.val).half = true ∧ ((s.chan5 c.val).half = false → t.fld (Pg.dmc c.val) ⟨0x020,
    6, 1⟩ = 1)) ∧
  -- R563: below 90 °C.
  (∀ (off : Nat) (c : Fin 8) (temp : BitVec 16) (s : State), temp.toInt < 90 * 8 → ∃ t : State, exec (.dimmThermal off
    c temp) s = .next t ∧ (t.chan5 c.val).half = false) ∧
  -- R563: in between.
  (∀ (off : Nat) (c : Fin 8) (temp : BitVec 16) (s : State), 90 * 8 ≤ temp.toInt ∧ temp.toInt ≤ 95 * 8 → ∃ t : State,
    exec (.dimmThermal off c temp) s = .next t ∧ (t.chan5 c.val).half = (s.chan5 c.val).half)

/-- A mark fires once, or again after its period. -/
def Obligations.MarksRepeatByTheirPeriod : Prop :=
  -- R76: P = 0.
  (∀ (m : Fin 64) (s : State), (s.mark m.val).armed = true → s.wdl.stopped = false → (s.mark m.val).count / 65536 =
    s.turn ∧ s.count ≤ (s.mark m.val).count → (s.mark m.val).period = 0 → ∃ t : State, exec (.markFire m) s = .next t
    ∧ (t.mark m.val).armed = false ∧ t.count = (s.mark m.val).count) ∧
  -- R76: P not 0.
  (∀ (m : Fin 64) (s : State), (s.mark m.val).armed = true → s.wdl.stopped = false → (s.mark m.val).count / 65536 =
    s.turn ∧ s.count ≤ (s.mark m.val).count → (s.mark m.val).period ≠ 0 → ∃ t : State, exec (.markFire m) s = .next t
    ∧ t.mark m.val = ⟨true, ((s.mark m.val).count + max 64 (s.mark m.val).period) % 2 ^ 64, (s.mark m.val).period⟩ ∧
    t.count = (s.mark m.val).count)

/-- An unassigned page slot reads 0 and drops writes, recorded. -/
def Obligations.UnassignedPagesAnswerZero : Prop :=
  -- R103: a read.
  (∀ (off : Nat) (addr : BitVec 26) (s : State), assigned (addr.toNat / 4096) = false → ∃ t : State, exec
    (.unassignedPageAccess off addr false) s = .next t ∧ t.rdata = [0] ∧ t.fld Pg.gbl F.GBL_UNMAPPED_ADDR_BAR =
    addr.toNat ∧ t.fld Pg.gbl F.GBL_UNMAPPED_ADDR_CAUSE = 1 ∧ t.fld Pg.gbl F.GBL_UNMAPPED_ADDR_WRITE = 0 ∧ t.fld
    Pg.gbl F.GBL_UNMAPPED_ADDR_VALID = 1 ∧ ∀ k, k ≠ regKey Pg.gbl 0x054 → t.reg k = s.reg k) ∧
  -- R103: a write.
  (∀ (off : Nat) (addr : BitVec 26) (s : State), assigned (addr.toNat / 4096) = false → ∃ t : State, exec
    (.unassignedPageAccess off addr true) s = .next t ∧ t.fld Pg.gbl F.GBL_UNMAPPED_ADDR_BAR = addr.toNat ∧ t.fld
    Pg.gbl F.GBL_UNMAPPED_ADDR_CAUSE = 1 ∧ t.fld Pg.gbl F.GBL_UNMAPPED_ADDR_WRITE = 1 ∧ t.fld Pg.gbl
    F.GBL_UNMAPPED_CNT = min (s.fld Pg.gbl F.GBL_UNMAPPED_CNT + 1) 65535 ∧ ∀ k, k ≠ regKey Pg.gbl 0x054 → k ≠ regKey
    Pg.gbl 0x058 → t.reg k = s.reg k) ∧
  -- R103, R26: the slots reserved inside Table REG-2's ranges.
  (∀ (n : Nat), (2 ≤ n ∧ n ≤ 15) ∨ (0x040C ≤ n ∧ n ≤ 0x040F) ∨ (0x041C ≤ n ∧ n ≤ 0x041F) → assigned n = false)

/-- Commands of the lanes, the optics, the pipeline and the fabric write registers of their own unit only. -/
def Obligations.LineCommandsStayOnTheirPages : Prop :=
  -- AN_COMPLETE.
  (∀ (off : Nat) (k : Fin 2) (base : BitVec 16) (s : State), ∃ t : State, exec (.anComplete off k base) s = .next t ∧
    ∀ p o, p ≠ Pg.lan (160 + k.val) → Apart p → t.reg (regKey p o) = s.reg (regKey p o)) ∧
  -- CDR_LOCK.
  (∀ (off : Nat) (l : LaneIx) (gain : Bool) (ppm : Int) (s : State), ∃ t : State, exec (.cdrLock off l gain ppm) s =
    .next t ∧ ∀ p o, p ≠ Pg.lan l.val → p ≠ refPage → p ≠ Pg.ryk 0 → p ≠ Pg.gbl → Apart p → t.reg (regKey p o) = s.reg
    (regKey p o)) ∧
  -- PRBS_LOCK.
  (∀ (off : Nat) (l : LaneIx) (bits : List Bool) (s : State), ∃ t : State, exec (.prbsLock off l bits) s = .next t ∧ ∀
    p o, p ≠ Pg.lan l.val → Apart p → t.reg (regKey p o) = s.reg (regKey p o)) ∧
  -- WAVELENGTH_LOCKED.
  (∀ (off : Nat) (e : Engine) (c : Channel) (err : BitVec 16) (s : State), ∃ t : State, exec (.wavelengthLocked off e
    c err) s = .next t ∧ ∀ p o, p ≠ Pg.ope e.val → Apart p → t.reg (regKey p o) = s.reg (regKey p o)) ∧
  -- APR_PULSE.
  (∀ (off : Nat) (e : Engine) (g : Fin 4) (s : State), ∃ t : State, exec (.aprPulse off e g) s = .next t ∧ ∀ p o, p ≠
    Pg.ope e.val → Apart p → t.reg (regKey p o) = s.reg (regKey p o)) ∧
  -- APR_PULSE_END.
  (∀ (off : Nat) (e : Engine) (g : Fin 4) (s : State), ∃ t : State, exec (.aprPulseEnd off e g) s = .next t ∧ ∀ p o, p
    ≠ Pg.ope e.val → Apart p → t.reg (regKey p o) = s.reg (regKey p o)) ∧
  -- APR_ENTRY.
  (∀ (off : Nat) (e : Engine) (g : Fin 4) (s : State), ∃ t : State, exec (.aprEntry off e g) s = .next t ∧ ∀ p o, p ≠
    Pg.ope e.val → p ≠ Pg.gbl → Apart p → t.reg (regKey p o) = s.reg (regKey p o)) ∧
  -- LASER_WARM.
  (∀ (off : Nat) (e : Engine) (c : Channel) (s : State), ∃ t : State, exec (.laserWarm off e c) s = .next t ∧ ∀ p o, p
    ≠ Pg.ope e.val → Apart p → t.reg (regKey p o) = s.reg (regKey p o)) ∧
  -- ENGINE_OVER_TEMP.
  (∀ (off : Nat) (e : Engine) (temp : BitVec 16) (s : State), ∃ t : State, exec (.engineOverTemp off e temp) s = .next
    t ∧ ∀ p o, p ≠ Pg.ope e.val → Apart p → t.reg (regKey p o) = s.reg (regKey p o)) ∧
  -- CH_REINSTATE_DONE.
  (∀ (off : Nat) (e : Engine) (c : Channel) (pass : Bool) (s : State), ∃ t : State, exec (.chReinstateDone off e c
    pass) s = .next t ∧ ∀ p o, p ≠ Pg.ope e.val → Apart p → t.reg (regKey p o) = s.reg (regKey p o)) ∧
  -- ANNOTATION_RETURN.
  (∀ (off : Nat) (i : Pipe) (handle : BitVec 32) (b : List (BitVec 8)) (mask : BitVec 16) (s : State), ∃ t : State,
    exec (.annotationReturn off i handle b mask) s = .next t ∧ ∀ p o, p ≠ Pg.stg i.val 3 → p ≠ Pg.stg 0 3 → Apart p →
    t.reg (regKey p o) = s.reg (regKey p o)) ∧
  -- FT4_TIMEOUT.
  (∀ (off : Nat) (i : Pipe) (s : State), ∃ t : State, exec (.ft4Timeout off i) s = .next t ∧ ∀ p o, Apart p → t.reg
    (regKey p o) = s.reg (regKey p o)) ∧
  -- FT_INIT_DONE.
  (∀ (off : Nat) (s : State), ∃ t : State, exec (.ftInitDone off) s = .next t ∧ ∀ p o, p ≠ Pg.stg 0 3 → Apart p →
    t.reg (regKey p o) = s.reg (regKey p o)) ∧
  -- TAP_RECORD_DELIVERY.
  (∀ (off : Nat) (k : Fin 4) (i : Pipe) (s : State), ∃ t : State, exec (.tapRecordDelivery off k i) s = .next t ∧ ∀ p
    o, Apart p → t.reg (regKey p o) = s.reg (regKey p o)) ∧
  -- UREG_TIMEOUT.
  (∀ (off : Nat) (o_ : Fin 8064) (s : State), ∃ t : State, exec (.uregTimeout off o_) s = .next t ∧ ∀ p o, p ≠ Pg.fab
    32 → Apart p → t.reg (regKey p o) = s.reg (regKey p o))

/-- Commands of the Windlass, the references, the load and the firmware write registers of their own unit only. -/
def Obligations.ClockCommandsStayOnTheirPages : Prop :=
  -- WINDLASS_EXIT_STOPPED.
  (∀ (s : State), ∃ t : State, exec .windlassExitStopped s = .next t ∧ ∀ p o, p ≠ Pg.wdl → Apart p → t.reg (regKey p
    o) = s.reg (regKey p o)) ∧
  -- ANCHOR_LOSS.
  (∀ (off : Nat) (cause : LossCause) (s : State), ∃ t : State, exec (.anchorLoss off cause) s = .next t ∧ ∀ p o, p ≠
    Pg.wdl → Apart p → t.reg (regKey p o) = s.reg (regKey p o)) ∧
  -- PORT_QUALIFIED.
  (∀ (off : Nat) (q : Port) (s : State), ∃ t : State, exec (.portQualified off q) s = .next t ∧ ∀ p o, p ≠ Pg.wdl →
    Apart p → t.reg (regKey p o) = s.reg (regKey p o)) ∧
  -- SLEW_LOCK.
  (∀ (s : State), ∃ t : State, exec .slewLock s = .next t ∧ ∀ p o, p ≠ Pg.wdl → p ≠ Pg.gbl → Apart p → t.reg (regKey p
    o) = s.reg (regKey p o)) ∧
  -- LEARNED_SET.
  (∀ (s : State), ∃ t : State, exec .learnedSet s = .next t ∧ ∀ p o, p ≠ Pg.wdl → p ≠ Pg.gbl → Apart p → t.reg (regKey
    p o) = s.reg (regKey p o)) ∧
  -- WDL_COUNT_LO_READ.
  (∀ (off : Nat) (s : State), ∃ t : State, exec (.wdlCountLoRead off) s = .next t ∧ ∀ p o, p ≠ Pg.wdl → Apart p →
    t.reg (regKey p o) = s.reg (regKey p o)) ∧
  -- LREF_RETURN.
  (∀ (off : Nat) (s : State), ∃ t : State, exec (.lrefReturn off) s = .next t ∧ ∀ p o, p ≠ Pg.byp → p ≠ Pg.lan 163 →
    Apart p → t.reg (regKey p o) = s.reg (regKey p o)) ∧
  -- RREF_LOSS.
  (∀ (off : Nat) (s : State), ∃ t : State, exec (.rrefLoss off) s = .next t ∧ ∀ p o, p ≠ refPage → p ≠ Pg.ryk 0 →
    Apart p → t.reg (regKey p o) = s.reg (regKey p o)) ∧
  -- LINK_REWIDEN.
  (∀ (off : Nat) (n : RykLink) (s : State), ∃ t : State, exec (.linkRewiden off n) s = .next t ∧ ∀ p o, p ≠ Pg.ryk
    n.val → Apart p → t.reg (regKey p o) = s.reg (regKey p o)) ∧
  -- STATE_MISMATCH.
  (∀ (off : Nat) (page : BitVec 14) (s : State), ∃ t : State, exec (.stateMismatch off page) s = .next t ∧ ∀ p o, p ≠
    page.toNat → Apart p → t.reg (regKey p o) = s.reg (regKey p o)) ∧
  -- WAIT_TURNS_EXPIRY.
  (∀ (off : Nat) (s : State), ∃ t : State, exec (.waitTurnsExpiry off) s = .next t ∧ ∀ p o, Apart p → t.reg (regKey p
    o) = s.reg (regKey p o)) ∧
  -- PART_GO.
  (∀ (off : Nat) (s : State), ∃ t : State, exec (.partGo off) s = .next t ∧ ∀ p o, p ≠ Pg.cfg 2 → Apart p → t.reg
    (regKey p o) = s.reg (regKey p o)) ∧
  -- NONCE_EXPIRY.
  (∀ (off : Nat) (who : Requester) (s : State), ∃ t : State, exec (.nonceExpiry off who) s = .next t ∧ ∀ p o, p ≠
    Pg.sec 6 → Apart p → t.reg (regKey p o) = s.reg (regKey p o)) ∧
  -- CO_SESSION_IDLE.
  (∀ (off : Nat) (who : Requester) (s : State), ∃ t : State, exec (.coSessionIdle off who) s = .next t ∧ ∀ p o, p ≠
    Pg.sec 0 → Apart p → t.reg (regKey p o) = s.reg (regKey p o)) ∧
  -- COLL_TIMEOUT.
  (∀ (off : Nat) (k : Fin 8) (s : State), ∃ t : State, exec (.collTimeout off k) s = .next t ∧ ∀ p o, p ≠ Pg.cpc 0 →
    Apart p → t.reg (regKey p o) = s.reg (regKey p o)) ∧
  -- DUMP_DATA_READ.
  (∀ (off : Nat) (s : State), ∃ t : State, exec (.dumpDataRead off) s = .next t ∧ ∀ p o, p ≠ Pg.cpc 10 → Apart p →
    t.reg (regKey p o) = s.reg (regKey p o))

/-- Commands of memory, tiles, power and the PCIe endpoint write registers of their own unit only. -/
def Obligations.HostCommandsStayOnTheirPages : Prop :=
  -- DIMM_THERMAL.
  (∀ (off : Nat) (c : Fin 8) (temp : BitVec 16) (s : State), ∃ t : State, exec (.dimmThermal off c temp) s = .next t ∧
    ∀ p o, p ≠ Pg.dmc c.val → Apart p → t.reg (regKey p o) = s.reg (regKey p o)) ∧
  -- DMC_FAULT.
  (∀ (off : Nat) (c : Fin 8) (parity : Bool) (s : State), ∃ t : State, exec (.dmcFault off c parity) s = .next t ∧ ∀ p
    o, p ≠ Pg.dmc c.val → Apart p → t.reg (regKey p o) = s.reg (regKey p o)) ∧
  -- ROW_COPY_DONE.
  (∀ (off : Nat) (c : Fin 8) (lost : List (Fin 128)) (s : State), ∃ t : State, exec (.rowCopyDone off c lost) s =
    .next t ∧ ∀ p o, p ≠ Pg.dmc c.val → Apart p → t.reg (regKey p o) = s.reg (regKey p o)) ∧
  -- GTS_DROP.
  (∀ (off : Nat) (r : Fin 128) (o_ : Fin 5) (i : Fin 5) (s : State), ∃ t : State, exec (.gtsDrop off r o_ i) s = .next
    t ∧ ∀ p o, p ≠ Pg.tnw r.val → (∀ n, p ≠ Pg.fab (meshPort n)) → Apart p → t.reg (regKey p o) = s.reg (regKey p o))
    ∧
  -- LINK_ECC_ERROR.
  (∀ (off : Nat) (r : Fin 128) (i : Fin 5) (vc : Fin 4) (corrected : Bool) (s : State), ∃ t : State, exec
    (.linkEccError off r i vc corrected) s = .next t ∧ ∀ p o, p ≠ Pg.tnw r.val → Apart p → t.reg (regKey p o) = s.reg
    (regKey p o)) ∧
  -- TURN_TICK_TRIGGER.
  (∀ (t_ : Fin 128) (s : State), ∃ t : State, exec (.turnTickTrigger t_) s = .next t ∧ ∀ p o, p ≠ Pg.tile t_.val →
    Apart p → t.reg (regKey p o) = s.reg (regKey p o)) ∧
  -- BATCH.
  (∀ (off : Nat) (t_ : Fin 128) (s : State), ∃ t : State, exec (.batchPacket off t_) s = .next t ∧ ∀ p o, p ≠ Pg.tile
    t_.val → Apart p → t.reg (regKey p o) = s.reg (regKey p o)) ∧
  -- SETTLE_END.
  (∀ (off : Nat) (s : State), ∃ t : State, exec (.settleEnd off) s = .next t ∧ ∀ p o, p ≠ Pg.lwl 0 → Apart p → t.reg
    (regKey p o) = s.reg (regKey p o)) ∧
  -- PMBUS_POLL.
  (∀ (off : Nat) (r : Fin 8) (first : Option (BitVec 16)) (retry : Option (BitVec 16)) (s : State), ∃ t : State, exec
    (.pmbusPoll off r first retry) s = .next t ∧ ∀ p o, p ≠ Pg.pwr → Apart p → t.reg (regKey p o) = s.reg (regKey p
    o)) ∧
  -- POUT_MAX_READ.
  (∀ (off : Nat) (maxes : List (Fin 8 × BitVec 16)) (s : State), ∃ t : State, exec (.poutMaxRead off maxes) s = .next
    t ∧ ∀ p o, p ≠ Pg.pwr → Apart p → t.reg (regKey p o) = s.reg (regKey p o)) ∧
  -- THERMAL_SAMPLE.
  (∀ (off : Nat) (temps : List (BitVec 16)) (s : State), ∃ t : State, exec (.thermalSample off temps) s = .next t ∧ ∀
    p o, p ≠ Pg.pwr → Apart p → t.reg (regKey p o) = s.reg (regKey p o)) ∧
  -- MEASUREMENT_WINDOW_CLOSE.
  (∀ (off : Nat) (s : State), ∃ t : State, exec (.measurementWindowClose off) s = .next t ∧ ∀ p o, p ≠ Pg.nrg → p ≠
    Pg.pwr → Apart p → t.reg (regKey p o) = s.reg (regKey p o)) ∧
  -- LEDGER_FAULT.
  (∀ (off : Nat) (s : State), ∃ t : State, exec (.ledgerFault off) s = .next t ∧ ∀ p o, p ≠ Pg.nrg → Apart p → t.reg
    (regKey p o) = s.reg (regKey p o)) ∧
  -- LTSSM_RECOVERY.
  (∀ (off : Nat) (enter : Bool) (s : State), ∃ t : State, exec (.ltssmRecovery off enter) s = .next t ∧ ∀ p o, p ≠
    Pg.pci 0 → Apart p → t.reg (regKey p o) = s.reg (regKey p o)) ∧
  -- HOST_INTERNAL_ERROR.
  (∀ (off : Nat) (s : State), ∃ t : State, exec (.hostInternalError off) s = .next t ∧ ∀ p o, p ≠ Pg.pci 0 → Apart p →
    t.reg (regKey p o) = s.reg (regKey p o)) ∧
  -- COMPLETION_TIMEOUT.
  (∀ (off : Nat) (tag : BitVec 10) (us : Nat) (s : State), ∃ t : State, exec (.completionTimeout off tag us) s = .next
    t ∧ ∀ p o, p ≠ Pg.pci 0 → Apart p → t.reg (regKey p o) = s.reg (regKey p o)) ∧
  -- POISONED_TLP.
  (∀ (off : Nat) (tag : BitVec 10) (poisoned : Bool) (s : State), ∃ t : State, exec (.poisonedTlp off tag poisoned) s
    = .next t ∧ ∀ p o, p ≠ Pg.pci 0 → Apart p → t.reg (regKey p o) = s.reg (regKey p o)) ∧
  -- PCIE_LINK_UP.
  (∀ (off : Nat) (speed : Fin 5) (width : Fin 5) (s : State), ∃ t : State, exec (.pcieLinkUp off speed width) s =
    .next t ∧ ∀ p o, p ≠ Pg.pci 0 → Apart p → t.reg (regKey p o) = s.reg (regKey p o)) ∧
  -- PERST_DEASSERT.
  (∀ (off : Nat) (s : State), ∃ t : State, exec (.perstDeassert off) s = .next t ∧ ∀ p o, p ≠ Pg.pci 0 → p ≠ Pg.gbl →
    Apart p → t.reg (regKey p o) = s.reg (regKey p o)) ∧
  -- CFG_READY_TIMEOUT.
  (∀ (off : Nat) (s : State), ∃ t : State, exec (.cfgReadyTimeout off) s = .next t ∧ ∀ p o, p ≠ Pg.pci 0 → p ≠ Pg.gbl
    → Apart p → t.reg (regKey p o) = s.reg (regKey p o)) ∧
  -- CREDIT_RETURN.
  (∀ (off : Nat) (t_ : Fin 96) (s : State), ∃ t : State, exec (.creditReturn off t_) s = .next t ∧ ∀ p o, Apart p →
    t.reg (regKey p o) = s.reg (regKey p o))

/-- LOAD_MEM stores its bytes where it says and leaves every other byte. -/
def Obligations.LoadsReachOnlyTheirBytes : Prop :=
  -- R733, R854: space 1.
  (∀ (off : Nat) (b : List Nat) (x : LoadSection) (s w : State), s.executing = true → s.load.wait = none → s.load.poll
    = none → s.load.sect = some x → x.kind ≠ Kind.firmware → fetchCmd x = .cmd 0x20 b → w = ((s.at off).diag x
    0x20).setSect { x with plain := x.plain.drop b.length, off := x.off + b.length } → b.getD 1 0 = 1 → w.ddrUp = true
    → beAt b 8 8 + (sliceOf b 16 (beAt b 4 4)).length ≤ w.ddrBytes → ∃ t : State, exec (.loadMem off) s = .next t ∧
    t.memory.direct = s.memory.direct ∧ t.tiles = s.tiles ∧ ∀ a, Mem.byte 0 t.ddr a = if beAt b 8 8 ≤ a ∧ a < beAt b 8
    8 + (sliceOf b 16 (beAt b 4 4)).length then (sliceOf b 16 (beAt b 4 4)).getD (a - beAt b 8 8) 0 % 256 else
    Mem.byte 0 s.ddr a) ∧
  -- R733, R854: space 2.
  (∀ (off : Nat) (b : List Nat) (x : LoadSection) (s w : State), s.executing = true → s.load.wait = none → s.load.poll
    = none → s.load.sect = some x → x.kind ≠ Kind.firmware → fetchCmd x = .cmd 0x20 b → w = ((s.at off).diag x
    0x20).setSect { x with plain := x.plain.drop b.length, off := x.off + b.length } → b.getD 1 0 = 2 → beAt b 8 8 +
    (sliceOf b 16 (beAt b 4 4)).length ≤ w.directBytes → ∃ t : State, exec (.loadMem off) s = .next t ∧ t.ddr = s.ddr
    ∧ t.tiles = s.tiles ∧ ∀ a, Mem.byte 0 t.memory.direct a = if beAt b 8 8 ≤ a ∧ a < beAt b 8 8 + (sliceOf b 16 (beAt
    b 4 4)).length then (sliceOf b 16 (beAt b 4 4)).getD (a - beAt b 8 8) 0 % 256 else Mem.byte 0 s.memory.direct a) ∧
  -- R733, R854: space 3, the tile at node byte 2.
  (∀ (off : Nat) (b : List Nat) (x : LoadSection) (s w : State), s.executing = true → s.load.wait = none → s.load.poll
    = none → s.load.sect = some x → x.kind ≠ Kind.firmware → fetchCmd x = .cmd 0x20 b → w = ((s.at off).diag x
    0x20).setSect { x with plain := x.plain.drop b.length, off := x.off + b.length } → b.getD 1 0 = 3 → b.getD 2 0 <
    128 → w.unit (Pg.tile (tileAt (b.getD 2 0))) = uReady ∨ w.unit (Pg.tile (tileAt (b.getD 2 0))) = uActive → beAt b
    8 8 + (sliceOf b 16 (beAt b 4 4)).length ≤ storeSize (tileAt (b.getD 2 0)) → 0 < (sliceOf b 16 (beAt b 4
    4)).length → ∃ t : State, exec (.loadMem off) s = .next t ∧ t.ddr = s.ddr ∧ t.memory.direct = s.memory.direct ∧ (∀
    n, n ≠ tileAt (b.getD 2 0) → t.tile n = s.tile n) ∧ ∀ a, Mem.byte 0 (t.tile (tileAt (b.getD 2 0))).store a = if
    beAt b 8 8 ≤ a ∧ a < beAt b 8 8 + (sliceOf b 16 (beAt b 4 4)).length then (sliceOf b 16 (beAt b 4 4)).getD (a -
    beAt b 8 8) 0 % 256 else Mem.byte 0 (s.tile (tileAt (b.getD 2 0))).store a) ∧
  -- R854: MEM_RANGE; no memory byte changes.
  (∀ (off : Nat) (b : List Nat) (x : LoadSection) (s w : State), s.executing = true → s.load.wait = none → s.load.poll
    = none → s.load.sect = some x → x.kind ≠ Kind.firmware → fetchCmd x = .cmd 0x20 b → w = ((s.at off).diag x
    0x20).setSect { x with plain := x.plain.drop b.length, off := x.off + b.length } → w.loadMem (b.getD 1 0) (b.getD
    2 0) (beAt b 8 8) (sliceOf b 16 (beAt b 4 4)) = none → ∃ t : State, exec (.loadMem off) s = .next t ∧ t =
    w.sectionFail LE.memRange)

/-- A program clears bits of its own bytes, an erase sets its own sector, no other flash byte changes. -/
def Obligations.FlashChangesOnlyItsBytes : Prop :=
  -- R751: the program completes.
  (∀ (off a n : Nat) (data : List Nat) (s : State), s.flash.op = some ⟨2, a, n, data⟩ → s.flash.waiting = [] → ∃ t :
    State, exec (.flashOpDone off true) s = .next t ∧ ∀ k, Mem.byte 0xFF t.flash.mem k = if a ≤ k ∧ k < a +
    data.length then (Mem.byte 0xFF s.flash.mem k &&& data.getD (k - a) 0) % 256 else Mem.byte 0xFF s.flash.mem k) ∧
  -- R763: a read, or a program reported as failed.
  (∀ (off : Nat) (ok : Bool) (o : FlashOp) (s : State), s.flash.op = some o → o.op = 1 ∨ ok = false → s.flash.waiting
    = [] → ∃ t : State, exec (.flashOpDone off ok) s = .next t ∧ t.flash.mem = s.flash.mem) ∧
  -- R755: the erase completes; its DONE entry is written.
  (∀ (off k : Nat) (s : State), s.flash.op = none → s.flash.erase = some k → s.flash.waiting = [] → k ≠ 2 ∧ k ≠ 3 →
    s.fld Pg.fls F.FLS_JOURNAL_b16 < 4096 → ∃ t : State, exec (.flashOpDone off true) s = .next t ∧ ∀ a, Mem.byte 0xFF
    t.flash.mem a = if a / 65536 = k then 255 else if journalBase (s.fld Pg.fls F.FLS_JOURNAL_b0) + 16 * s.fld Pg.fls
    F.FLS_JOURNAL_b16 ≤ a ∧ a < journalBase (s.fld Pg.fls F.FLS_JOURNAL_b0) + 16 * s.fld Pg.fls F.FLS_JOURNAL_b16 + 16
    then (Mem.byte 0xFF s.flash.mem a &&& (journalEntry k 0xD0 s.flash.seq).getD (a - (journalBase (s.fld Pg.fls
    F.FLS_JOURNAL_b0) + 16 * s.fld Pg.fls F.FLS_JOURNAL_b16)) 0) % 256 else Mem.byte 0xFF s.flash.mem a) ∧
  -- R763: an erase reported as failed.
  (∀ (off k : Nat) (s : State), s.flash.op = none → s.flash.erase = some k → s.flash.waiting = [] → ∃ t : State, exec
    (.flashOpDone off false) s = .next t ∧ t.flash.mem = s.flash.mem)

/-- Pump chunks, landed host reads and collective chunks store where their descriptor says and nowhere else. -/
def Obligations.TransfersReachOnlyTheirBytes : Prop :=
  -- R547: FILL of DDR.
  (∀ (off : Nat) (p : Fin 32) (host : List (BitVec 8)) (r : Nat) (d : Desc) (s : State), (s.at off).nextCtx p.val =
    some r → (((s.at off).noteRound p.val r).ctx p.val r).work.find? (fun d => d.ended.isNone && d.issued < d.len) =
    some d → d.op = 1 ∧ d.srcSpace < 4 ∧ d.dstSpace = Space.ddr ∧ d.len ≠ 0 ∧ d.len ≤ 2 ^ 24 → ((s.at off).noteRound
    p.val r).rowWaits Space.ddr (d.dst + d.issued) (min 4096 (d.len - d.issued)) = false → ((s.at off).noteRound p.val
    r).spaceOk p.val r Space.ddr (d.dst + d.issued) (min 4096 (d.len - d.issued)) true = true → ∃ t : State, exec
    (.pumpChunk off p host) s = .next t ∧ t.memory.direct = s.memory.direct ∧ t.tiles = s.tiles ∧ ∀ a, Mem.byte 0
    t.ddr a = if d.dst + d.issued ≤ a ∧ a < d.dst + d.issued + (fillBytes d.src d.issued (min 4096 (d.len -
    d.issued))).length then (fillBytes d.src d.issued (min 4096 (d.len - d.issued))).getD (a - (d.dst + d.issued)) 0 %
    256 else Mem.byte 0 s.ddr a) ∧
  -- R547: COPY from DDR to DDR, no line of the source poisoned.
  (∀ (off : Nat) (p : Fin 32) (host : List (BitVec 8)) (r : Nat) (d : Desc) (s : State), (s.at off).nextCtx p.val =
    some r → (((s.at off).noteRound p.val r).ctx p.val r).work.find? (fun d => d.ended.isNone && d.issued < d.len) =
    some d → d.op = 0 ∧ d.srcSpace = Space.ddr ∧ d.dstSpace = Space.ddr ∧ d.len ≠ 0 ∧ d.len ≤ 2 ^ 24 → ((s.at
    off).noteRound p.val r).rowWaits Space.ddr (d.dst + d.issued) (min 4096 (d.len - d.issued)) = false → ((s.at
    off).noteRound p.val r).rowWaits Space.ddr (d.src + d.issued) (min 4096 (d.len - d.issued)) = false → ((s.at
    off).noteRound p.val r).spaceOk p.val r Space.ddr (d.dst + d.issued) (min 4096 (d.len - d.issued)) true = true →
    ((s.at off).noteRound p.val r).spaceOk p.val r Space.ddr (d.src + d.issued) (min 4096 (d.len - d.issued)) false =
    true → s.ddrPoison (d.src + d.issued) (min 4096 (d.len - d.issued)) = false → ∃ t : State, exec (.pumpChunk off p
    host) s = .next t ∧ t.memory.direct = s.memory.direct ∧ t.tiles = s.tiles ∧ ∀ a, Mem.byte 0 t.ddr a = if d.dst +
    d.issued ≤ a ∧ a < d.dst + d.issued + min 4096 (d.len - d.issued) then Mem.byte 0 s.ddr (a - (d.dst + d.issued) +
    (d.src + d.issued)) else Mem.byte 0 s.ddr a) ∧
  -- R547, R624: host bytes landed in DDR.
  (∀ (off : Nat) (tag : BitVec 10) (b : List (BitVec 8)) (e : TagEntry) (d : Desc) (s : State), FMap.get? s.pumps.tags
    tag.toNat = some e → s.tagCurrent e = true → ((s.at off).freeEntry tag.toNat).tagDesc e = some d → d.ended = none
    → d.dstSpace = Space.ddr → b.length = e.len → ∃ t : State, exec (.completionArrival off tag b) s = .next t ∧
    t.memory.direct = s.memory.direct ∧ t.tiles = s.tiles ∧ ∀ a, Mem.byte 0 t.ddr a = if d.dst + e.off ≤ a ∧ a < d.dst
    + e.off + e.len then (b.getD (a - (d.dst + e.off)) 0).toNat else Mem.byte 0 s.ddr a) ∧
  -- R694, R697: the chunk of a frame lands at its place, reduced with this chip's own where the step reduces.
  (∀ (off : Nat) (sends : List PlanSend) (a : Nat × Option Nat) (f : RFrame) (k : Nat) (c : Collective) (v : List Nat)
    (s : State), s.dutiesRun = true → f.type = 3 → s.ryk.inbox = [(a.1, a.2, f)] → s.cpc.colls = [(k, c)] → c.id =
    beAt f.payload 0 2 → c.epoch = beAt f.payload 2 2 → max c.step (beAt f.payload 4 2 + 1) < c.steps → v = (if
    c.reduces (beAt f.payload 4 2) then reduceBytes c.op c.format (Mem.bytes 0 s.ddr (c.src + 4096 * beAt f.payload 6
    4) ((f.payload.drop 64).take 4096).length) ((f.payload.drop 64).take 4096) else (f.payload.drop 64).take 4096) → ∃
    t : State, exec (.collFrame off sends) s = .next t ∧ t.memory.direct = s.memory.direct ∧ t.tiles = s.tiles ∧ ∀ x,
    Mem.byte 0 t.ddr x = if c.dst + 4096 * beAt f.payload 6 4 ≤ x ∧ x < c.dst + 4096 * beAt f.payload 6 4 + v.length
    then v.getD (x - (c.dst + 4096 * beAt f.payload 6 4)) 0 % 256 else Mem.byte 0 s.ddr x)

/-- A request made while its unit is busy or out of use is turned away and changes nothing but its record. -/
def Obligations.RequestsTurnedAway : Prop :=
  -- R689.
  (∀ (off : Nat) (seq : BitVec 8) (s : State), (s.at off).dropCause (Pg.cpc 9) = none → s.mbBusy = true → ∃ t : State,
    exec (.mailboxGo off seq) s = .next t ∧ t.cpc = s.cpc ∧ t.mbBusy = true ∧ t.fld (Pg.cpc 9) F.CPC_MB_OVERRUN = min
    (s.fld (Pg.cpc 9) F.CPC_MB_OVERRUN + 1) (2 ^ F.CPC_MB_OVERRUN.w - 1)) ∧
  -- R760.
  (∀ (off : Nat) (s : State), (s.at off).dropCause Pg.fls = none → ((s.at off).write Pg.fls 0x044 9).fld Pg.fls
    F.FLS_CMD_OP = 1 → s.loadReads = true → ∃ t : State, exec (.flashRead off) s = .next t ∧ t.flash = s.flash ∧ t.fld
    Pg.fls F.FLS_STATUS_REFUSED = 1) ∧
  -- R760.
  (∀ (off : Nat) (s : State), (s.at off).dropCause Pg.fls = none → ((s.at off).write Pg.fls 0x044 10).fld Pg.fls
    F.FLS_CMD_OP = 2 → s.loadReads = true → ∃ t : State, exec (.flashProgram off) s = .next t ∧ t.flash = s.flash ∧
    t.fld Pg.fls F.FLS_STATUS_REFUSED = 1) ∧
  -- R760.
  (∀ (off : Nat) (s : State), (s.at off).dropCause Pg.fls = none → ((s.at off).write Pg.fls 0x044 11).fld Pg.fls
    F.FLS_CMD_OP = 3 → s.loadReads = true → ∃ t : State, exec (.flashErase off) s = .next t ∧ t.flash = s.flash ∧
    t.fld Pg.fls F.FLS_STATUS_REFUSED = 1) ∧
  -- R95: no turns pass while the Windlass is stopped.
  (∀ (m : TurnMeasure) (s : State), s.wdl.stopped = true → s.pins.mainReset = true → ∃ t : State, exec (.turnBoundary
    m) s = .next t ∧ t = s) ∧
  -- R76: a mark that is not armed does not fire.
  (∀ (m : Fin 64) (s : State), (s.mark m.val).armed = false → ∃ t : State, exec (.markFire m) s = .next t ∧ t = s)

/-- A Crypto Officer's service asked for without a CO session is answered NOT_AUTHORISED and changes no key. -/
def Obligations.ServicesNeedTheirRole : Prop :=
  -- R768, Table SEC-2.
  (∀ (off : Nat) (who : Requester) (req : List (BitVec 8)) (s : State), who ≠ .pf0 → s.mstate = MS.operational →
    requester who ∉ s.sec.sessions → ∃ t : State, exec (.stkEstablish off who req) s = .next t ∧ t.sec = s.sec ∧
    t.saks = s.saks ∧ t = (s.at off).secAnswer (requester who) 0x0020 SS.notAuthorised s.approvedMode []) ∧
  -- R768, Table SEC-2.
  (∀ (off : Nat) (who : Requester) (req : List (BitVec 8)) (s : State), who ≠ .pf0 → s.mstate = MS.operational →
    requester who ∉ s.sec.sessions → ∃ t : State, exec (.stkClear off who req) s = .next t ∧ t.sec = s.sec ∧ t.saks =
    s.saks ∧ t = (s.at off).secAnswer (requester who) 0x0021 SS.notAuthorised s.approvedMode []) ∧
  -- R768, Table SEC-2.
  (∀ (off : Nat) (who : Requester) (req : List (BitVec 8)) (s : State), who ≠ .pf0 → s.mstate = MS.operational →
    requester who ∉ s.sec.sessions → ∃ t : State, exec (.logout off who req) s = .next t ∧ t.sec = s.sec ∧ t.saks =
    s.saks ∧ t = (s.at off).secAnswer (requester who) 0x0012 SS.notAuthorised s.approvedMode []) ∧
  -- R768, Table SEC-2.
  (∀ (off : Nat) (who : Requester) (req : List (BitVec 8)) (s : State), who ≠ .pf0 → s.mstate = MS.operational →
    requester who ∉ s.sec.sessions → ∃ t : State, exec (.zeroize off who req) s = .next t ∧ t.sec = s.sec ∧ t.saks =
    s.saks ∧ t = (s.at off).secAnswer (requester who) 0x0051 SS.notAuthorised s.approvedMode []) ∧
  -- R768, Table SEC-2.
  (∀ (off : Nat) (who : Requester) (req : List (BitVec 8)) (rb : Bool) (s : State), who ≠ .pf0 → s.mstate =
    MS.operational → requester who ∉ s.sec.sessions → ∃ t : State, exec (.provisionIk off who req rb) s = .next t ∧
    t.sec = s.sec ∧ t.saks = s.saks ∧ t = (s.at off).secAnswer (requester who) 0x0070 SS.notAuthorised s.approvedMode
    []) ∧
  -- R768, Table SEC-2.
  (∀ (off : Nat) (who : Requester) (req : List (BitVec 8)) (rb : Bool) (s : State), who ≠ .pf0 → s.mstate =
    MS.operational → requester who ∉ s.sec.sessions → ∃ t : State, exec (.revoke off who req rb) s = .next t ∧ t.sec =
    s.sec ∧ t.saks = s.saks ∧ t = (s.at off).secAnswer (requester who) 0x0071 SS.notAuthorised s.approvedMode []) ∧
  -- Table SEC-2: OPERATIONAL only.
  (∀ (off : Nat) (who : Requester) (req : List (BitVec 8)) (s : State), who ≠ .pf0 → s.mstate ≠ MS.operational →
    s.mstate ≠ MS.selftest → ∃ t : State, exec (.secRandom off who req) s = .next t ∧ t.sec = s.sec ∧ t.saks = s.saks
    ∧ t = (s.at off).secAnswer (requester who) 0x0040 SS.notOperational s.approvedMode []) ∧
  -- Table SEC-2: OPERATIONAL only.
  (∀ (off : Nat) (who : Requester) (req : List (BitVec 8)) (s : State), who ≠ .pf0 → s.mstate ≠ MS.operational →
    s.mstate ≠ MS.selftest → ∃ t : State, exec (.sakLoad off who req) s = .next t ∧ t.sec = s.sec ∧ t.saks = s.saks ∧
    t = (s.at off).secAnswer (requester who) 0x0030 SS.notOperational s.approvedMode []) ∧
  -- Table SEC-2: OPERATIONAL only.
  (∀ (off : Nat) (who : Requester) (req : List (BitVec 8)) (s : State), who ≠ .pf0 → s.mstate ≠ MS.operational →
    s.mstate ≠ MS.selftest → ∃ t : State, exec (.sakClear off who req) s = .next t ∧ t.sec = s.sec ∧ t.saks = s.saks ∧
    t = (s.at off).secAnswer (requester who) 0x0031 SS.notOperational s.approvedMode [])

/-- Anchor failure raises its two causes, is counted with its cause, and faults nothing. -/
def Obligations.AnchorFailureIsNoFault : Prop :=
  -- R91. `lossPending` is none: no earlier indicator of the same instant is recorded.
  ∀ (off : Nat) (c : LossCause) (s : State), s.tstate = T.slewing ∨ s.tstate = T.locked → s.anchor < 8 → ∃ t : State, exec (.anchorLoss off c) s = .next t ∧ t.fld Pg.wdl ⟨0x020, 0, 1⟩ = 1 ∧
    t.fld Pg.wdl ⟨0x020, 1, 1⟩ = 1 ∧ t.fld Pg.wdl F.WDL_ANCHOR_LOSSES_b0 = min (s.fld Pg.wdl F.WDL_ANCHOR_LOSSES_b0 +
    1) (2 ^ F.WDL_ANCHOR_LOSSES_b0.w - 1) ∧ t.fld Pg.wdl F.WDL_STATUS_LOSS_CAUSE = lossCode c ∧ t.unit Pg.wdl = s.unit
    Pg.wdl ∧ t.pipe = s.pipe ∧ t.count = (s.at off).count

/-- An anchor that fails while the Windlass slews toward it leaves HOLDOVER at the rate reached so far. -/
def Obligations.SlewFailureHoldsTheRate : Prop :=
  -- R88.
  ∀ (off : Nat) (c : LossCause) (s : State), s.tstate = T.slewing → s.anchor < 8 → s.fld
    Pg.wdl F.WDL_STATUS_LEARNED = 0 → ∃ t : State, exec (.anchorLoss off c) s = .next t ∧ t.tstate = T.holdover ∧
    t.anchor = 8 ∧ t.fld Pg.wdl F.WDL_RATE = s.fld Pg.wdl F.WDL_RATE ∧ t.fld Pg.wdl F.WDL_STATUS_LEARNED = 0

/-- The third lock failure in a row of a line channel retires it, an earlier one sends it back to WARMING. -/
def Obligations.ThirdLockFailureRetires : Prop :=
  -- R208: the third.
  (∀ (off : Nat) (e : Engine) (c : Channel) (s : State), isLineEngine e.val = true → c.val ∈ channelsOf e.val →
    s.chState e.val c.val = C.locking → 2 ≤ (s.chan e.val c.val).lockFails → ∃ t : State, exec (.lockFailure off e c)
    s = .next t ∧ t.chState e.val c.val = C.retired ∧ t.fld (Pg.ope e.val) (F.OPE_CH_STATUS_b8 c.val) =
    Reason.lockFail ∧ (t.chan e.val c.val).lockFails = 0 ∧ ∀ d, d < 8 → d ≠ c.val → t.chState e.val d = s.chState
    e.val d) ∧
  -- R208: the first and the second.
  (∀ (off : Nat) (e : Engine) (c : Channel) (s : State), isLineEngine e.val = true → c.val ∈ channelsOf e.val →
    s.chState e.val c.val = C.locking → (s.chan e.val c.val).lockFails < 2 → ∃ t : State, exec (.lockFailure off e c)
    s = .next t ∧ t.chState e.val c.val = C.warming ∧ (t.chan e.val c.val).lockFails = (s.chan e.val c.val).lockFails
    + 1 ∧ ∀ d, d < 8 → d ≠ c.val → t.chState e.val d = s.chState e.val d)

/-- A channel over temperature enters THERMAL, counts no transient event and does not retire. -/
def Obligations.OverTemperatureRetiresNothing : Prop :=
  -- R238; the reading is in tenths of a degree.
  ∀ (off : Nat) (e : Engine) (temp : BitVec 16) (s : State), 760 < signed 16 temp.toNat → ∃ t : State, exec
    (.engineOverTemp off e temp) s = .next t ∧ t.chans = s.chans ∧ (∀ c ∈ channelsOf e.val, t.fld (Pg.ope e.val)
    (F.OPE_CH_EVENTS_b0 c) = s.fld (Pg.ope e.val) (F.OPE_CH_EVENTS_b0 c) ∧ t.chState e.val c = if s.chState e.val c =
    C.off ∨ s.chState e.val c = C.retired then s.chState e.val c else C.thermal)

/-- A step takes the command at the front of the queue and runs it with the rest waiting. -/
def Obligations.StepRunsTheFrontCommand : Prop :=
  -- The block takes its commands first in, first out.
  ∀ (c : Instr) (rest : List Instr) (s : State), step { s with pending := c :: rest } = exec c
    { s with pending := rest }

/-- With no command waiting the block idles (the model's choice, log entry 1). -/
def Obligations.EmptyQueueIdles : Prop :=
  -- Log entry 1.
  ∀ (s : State), s.pending = [] → step s = .next s

/-- Power-on reset leaves the Windlass stopped, the module in SELFTEST and every unit of the main domain OFF. -/
def Obligations.ResetLeaves : Prop :=
  -- R95.
  (State.reset.pending = [] ∧ State.reset.tstate = T.stopped ∧ State.reset.wdl.stopped = true ∧ State.reset.count =
    State.reset.preset ∧ State.reset.preset = 0 ∧ State.reset.fld Pg.wdl F.WDL_CTL_ANCHOR_SEL = 8 ∧ State.reset.out =
    []) ∧
  -- R771 and Table SEC-1.
  (State.reset.mstate = MS.selftest ∧ State.reset.fld (Pg.sec 0) F.SEC_STATUS_MODE = 0 ∧ State.reset.sec.stks = [] ∧
    State.reset.sec.sessions = [] ∧ State.reset.saks = []) ∧
  -- R144, R200, R279.
  (∀ (l : LaneIx) (q : Fin 8) (tl : Fin 128) (p : Fin 32) (c : Fin 8) (n : Fin 16), State.reset.unit (Pg.lan l.val) =
    uOff ∧ State.reset.lstate l.val = L.disabled ∧ State.reset.unit (Pg.lnp q.val) = uOff ∧ State.reset.unit (Pg.msc
    q.val) = uOff ∧ State.reset.unit (Pg.tile tl.val) = uOff ∧ State.reset.unit (Pg.pmp p.val) = uOff ∧
    State.reset.unit (Pg.dmc c.val) = uOff ∧ State.reset.unit (Pg.ryk n.val) = uOff)

/-- The reset state's register file and byte memories are in canonical form. -/
def Obligations.ResetIsCanonical : Prop :=
  -- The invariant's base.
  State.reset.Canonical

/-- Every step keeps the register file and every memory in canonical form. -/
def Obligations.StepKeepsCanonical : Prop :=
  -- For every command.
  ∀ (s t : State), s.Canonical → step s = .next t → t.Canonical

/-- No command changes a piece of the state, or a register of a page class, that it does not name. -/
def Obligations.CommandsChangeOnlyTheirPieces : Prop :=
  -- For every command and every piece.
  ∀ (i : Instr) (s t : State) (x : Piece), exec i s = .next t → x ∉ mayChange i → x.same s t

/-- The block never stops: every command with every operand answers a next state, run after run. -/
def Obligations.BlockNeverStops : Prop :=
  -- One step.
  (∀ (i : Instr) (s : State), ∃ t : State, exec i s = .next t) ∧
  -- Any run.
  (∀ (s : State), s.NeverStops)

end ObligationsSlice0
end

