-- ==== Sys2Proof/Laws/Maps.lean ====
section
/-!
SUPPORT. Laws of the finite maps and byte memories: reading after writing, and that every operation keeps the
canonical form.
-/

set_option Elab.async false

namespace Sys2Proof.Machine

open Sys2Proof

variable {α : Type}

/-! ### Reading -/

@[simp] theorem FMap.get?_nil (k : Nat) : FMap.get? ([] : FMap α) k = none := rfl

theorem FMap.get?_cons (a : Nat) (x : α) (t : FMap α) (k : Nat) :
    FMap.get? ((a, x) :: t) k = if a = k then some x else FMap.get? t k := rfl

theorem FMap.erase_cons (a : Nat) (x : α) (t : FMap α) (k : Nat) :
    FMap.erase ((a, x) :: t) k = if a = k then FMap.erase t k else (a, x) :: FMap.erase t k := by
  by_cases h : a = k <;> simp [FMap.erase, h]

/-- Reading a map from which a key is erased. -/
theorem FMap.get?_erase (m : FMap α) (k k' : Nat) :
    FMap.get? (FMap.erase m k) k' = if k' = k then none else FMap.get? m k' := by
  induction m with
  | nil => simp [FMap.erase]
  | cons e t ih =>
    obtain ⟨a, x⟩ := e
    rw [FMap.erase_cons]
    by_cases h : a = k
    · subst h; rw [if_pos rfl, ih, FMap.get?_cons]
      by_cases h' : k' = a
      · simp [h']
      · rw [if_neg h', if_neg h', if_neg (Ne.symm h')]
    · rw [if_neg h, FMap.get?_cons, FMap.get?_cons, ih]
      by_cases h' : a = k'
      · subst h'; simp [h]
      · simp [h']

/-- Reading a map after an absent key was put in. -/
theorem FMap.get?_put (m : FMap α) (k : Nat) (v : α) (k' : Nat) (h : FMap.get? m k = none) :
    FMap.get? (FMap.put m k v) k' = if k' = k then some v else FMap.get? m k' := by
  induction m with
  | nil => by_cases h' : k' = k <;> simp [FMap.put, FMap.get?_cons, eq_comm, h']
  | cons e t ih =>
    obtain ⟨a, x⟩ := e
    rw [FMap.get?_cons] at h
    by_cases ha : a = k
    · simp [ha] at h
    · rw [if_neg ha] at h
      rw [FMap.put]
      by_cases hk : k < a
      · rw [if_pos hk, FMap.get?_cons, FMap.get?_cons]
        by_cases h' : k' = k
        · simp [h']
        · rw [if_neg h', if_neg (Ne.symm h')]
      · rw [if_neg hk, FMap.get?_cons, FMap.get?_cons, ih h]
        by_cases h' : a = k'
        · subst h'; simp [ha]
        · simp [h']

/-- Reading after a key is set. -/
theorem FMap.get?_set (m : FMap α) (k : Nat) (v : α) (k' : Nat) :
    FMap.get? (FMap.set m k v) k' = if k' = k then some v else FMap.get? m k' := by
  rw [FMap.set, FMap.get?_put _ _ _ _ (by simp [FMap.get?_erase]), FMap.get?_erase]
  by_cases h : k' = k <;> simp [h]

/-- Reading, with defaults by key, after a key is set in the canonical form. -/
theorem FMap.getD_setC [DecidableEq α] (m : FMap α) (d : Nat → α) (k : Nat) (v : α) (k' : Nat) :
    FMap.getD (FMap.setC m k v (d k)) k' (d k') = if k' = k then v else FMap.getD m k' (d k') := by
  unfold FMap.getD FMap.setC
  by_cases hv : v = d k
  · rw [if_pos hv, FMap.get?_erase]
    by_cases h : k' = k
    · subst h; simp [hv]
    · simp [h]
  · rw [if_neg hv, FMap.get?_set]
    by_cases h : k' = k <;> simp [h]

/-- The same with one default for every key. -/
theorem FMap.getD_setC_const [DecidableEq α] (m : FMap α) (d : α) (k : Nat) (v : α) (k' : Nat) :
    FMap.getD (FMap.setC m k v d) k' d = if k' = k then v else FMap.getD m k' d :=
  FMap.getD_setC m (fun _ => d) k v k'

/-- Reading a set key with a default. -/
theorem FMap.getD_set (m : FMap α) (k : Nat) (v : α) (k' : Nat) (d : α) :
    FMap.getD (FMap.set m k v) k' d = if k' = k then v else FMap.getD m k' d := by
  unfold FMap.getD
  rw [FMap.get?_set]
  by_cases h : k' = k <;> simp [h]

/-! ### The canonical form -/

theorem FMap.sorted_iff (m : FMap α) : FMap.sorted m = true ↔ (m.map Prod.fst).Pairwise (· < ·) := by
  simp [FMap.sorted]

theorem FMap.canonical_iff [DecidableEq α] (m : FMap α) (d : Nat → α) :
    FMap.canonical m d = true ↔ (m.map Prod.fst).Pairwise (· < ·) ∧ ∀ e ∈ m, e.2 ≠ d e.1 := by
  simp [FMap.canonical, FMap.sorted, List.all_eq_true]

/-- Leaving entries out keeps the keys rising. -/
theorem FMap.sorted_filter (m : FMap α) (p : Nat × α → Bool) (h : (m.map Prod.fst).Pairwise (· < ·)) :
    ((m.filter p).map Prod.fst).Pairwise (· < ·) :=
  h.sublist ((List.filter_sublist (p := p) (l := m)).map Prod.fst)

theorem FMap.mem_put (m : FMap α) (k : Nat) (v : α) (e : Nat × α) :
    e ∈ FMap.put m k v ↔ e = (k, v) ∨ e ∈ m := by
  induction m with
  | nil => simp [FMap.put]
  | cons f t ih =>
    obtain ⟨a, x⟩ := f
    rw [FMap.put]
    split
    · simp
    · simp only [List.mem_cons, ih]
      constructor
      · rintro (h | h | h) <;> simp [h]
      · rintro (h | h | h) <;> simp [h]

/-- Putting in an absent key keeps the keys rising. -/
theorem FMap.sorted_put (m : FMap α) (k : Nat) (v : α) (h : (m.map Prod.fst).Pairwise (· < ·)) (hk : ∀ e ∈ m, e.1 ≠ k) :
    ((FMap.put m k v).map Prod.fst).Pairwise (· < ·) := by
  induction m with
  | nil => simp [FMap.put]
  | cons f t ih =>
    obtain ⟨a, x⟩ := f
    rw [List.map_cons, List.pairwise_cons] at h
    rw [FMap.put]
    split
    · rename_i hlt
      rw [List.map_cons, List.map_cons, List.pairwise_cons, List.pairwise_cons]
      refine ⟨?_, h⟩
      intro b hb
      rcases List.mem_cons.mp hb with rfl | hb
      · exact hlt
      · exact lt_trans hlt (h.1 b hb)
    · rename_i hlt
      rw [List.map_cons, List.pairwise_cons]
      refine ⟨?_, ih h.2 (fun e he => hk e (List.mem_cons_of_mem _ he))⟩
      intro b hb
      obtain ⟨e, he, rfl⟩ := List.mem_map.mp hb
      rcases (FMap.mem_put t k v e).mp he with rfl | he
      · have : a ≠ k := hk (a, x) (by simp)
        show a < k
        omega
      · exact h.1 _ (List.mem_map_of_mem he)

/-- Setting a key keeps the keys rising. -/
theorem FMap.sorted_set (m : FMap α) (k : Nat) (v : α) (h : (m.map Prod.fst).Pairwise (· < ·)) :
    ((FMap.set m k v).map Prod.fst).Pairwise (· < ·) :=
  FMap.sorted_put _ _ _ (FMap.sorted_filter m _ h) (by simp [FMap.erase])

/-- What is read stands in the map. -/
theorem FMap.mem_of_get? {m : FMap α} {k : Nat} {x : α} (h : FMap.get? m k = some x) : (k, x) ∈ m := by
  induction m with
  | nil => simp at h
  | cons e t ih =>
    obtain ⟨a, y⟩ := e
    rw [FMap.get?_cons] at h
    by_cases ha : a = k
    · rw [if_pos ha] at h
      injection h with h
      simp [ha, h]
    · rw [if_neg ha] at h
      exact List.mem_cons_of_mem _ (ih h)

/-- An entry of a map after a key is set is the new one or an old one. -/
theorem FMap.mem_setC [DecidableEq α] {m : FMap α} {k : Nat} {v d : α} {e : Nat × α} (h : e ∈ FMap.setC m k v d) :
    e = (k, v) ∨ e ∈ m := by
  unfold FMap.setC at h
  split at h
  · exact Or.inr (List.mem_filter.mp h).1
  · rcases (FMap.mem_put _ k v e).mp h with h | h
    · exact Or.inl h
    · exact Or.inr (List.mem_filter.mp h).1

/-- Leaving entries out keeps the canonical form. -/
theorem FMap.canonical_filter [DecidableEq α] (m : FMap α) (d : Nat → α) (p : Nat × α → Bool)
    (h : FMap.canonical m d = true) : FMap.canonical (m.filter p) d = true := by
  rw [FMap.canonical_iff] at h ⊢
  exact ⟨FMap.sorted_filter m p h.1, fun e he => h.2 e (List.mem_filter.mp he).1⟩

/-- Setting a key keeps the canonical form. -/
theorem FMap.canonical_setC [DecidableEq α] (m : FMap α) (d : Nat → α) (k : Nat) (v : α)
    (h : FMap.canonical m d = true) : FMap.canonical (FMap.setC m k v (d k)) d = true := by
  unfold FMap.setC
  split
  · exact FMap.canonical_filter m d _ h
  · rename_i hv
    rw [FMap.canonical_iff] at h ⊢
    refine ⟨FMap.sorted_set m k v h.1, fun e he => ?_⟩
    rcases (FMap.mem_put _ k v e).mp he with rfl | he
    · exact hv
    · exact h.2 e (List.mem_filter.mp he).1

/-- A file rebuilt entry by entry is canonical. -/
theorem FMap.canonical_foldl [DecidableEq α] (l : List (Nat × α)) (d : Nat → α) (f : Nat × α → α) (m : FMap α)
    (h : FMap.canonical m d = true) :
    FMap.canonical (l.foldl (fun (a : FMap α) e => FMap.setC a e.1 (f e) (d e.1)) m) d = true := by
  induction l generalizing m with
  | nil => exact h
  | cons e t ih => exact ih _ (FMap.canonical_setC m d e.1 _ h)

/-! ### Byte memories -/

theorem Mem.wf_iff (d : BitVec 8) (m : Mem) : Mem.wf d m = true ↔ FMap.canonical m (fun _ => d) = true := by
  simp [Mem.wf, FMap.canonical]

theorem Mem.wf_nil (d : BitVec 8) : Mem.wf d [] = true := rfl

/-- Writing a byte keeps the canonical form. -/
theorem Mem.wf_setByte (d : BitVec 8) (m : Mem) (a v : Nat) (h : Mem.wf d m = true) : Mem.wf d (Mem.setByte d m a v) = true := by
  rw [Mem.wf_iff] at h ⊢
  exact FMap.canonical_setC m (fun _ => d) a _ h

/-- Storing bytes keeps the canonical form. -/
theorem Mem.wf_store (d : BitVec 8) (m : Mem) (a : Nat) (b : List Nat) (h : Mem.wf d m = true) :
    Mem.wf d (Mem.store d m a b) = true := by
  induction b generalizing m a with
  | nil => exact h
  | cons v t ih => exact ih _ _ (Mem.wf_setByte d m a v h)

/-- Leaving entries out keeps the canonical form. -/
theorem Mem.wf_filter (d : BitVec 8) (m : Mem) (p : Nat × BitVec 8 → Bool) (h : Mem.wf d m = true) :
    Mem.wf d (m.filter p) = true := by
  rw [Mem.wf_iff] at h ⊢
  exact FMap.canonical_filter m _ p h

/-- Putting addresses back to the unlisted value keeps the canonical form. -/
theorem Mem.wf_clear (d : BitVec 8) (m : Mem) (a n : Nat) (h : Mem.wf d m = true) : Mem.wf d (Mem.clear m a n) = true :=
  Mem.wf_filter d m _ h

/-- A byte read after a byte was written. -/
theorem Mem.byte_setByte (d : BitVec 8) (m : Mem) (a v a' : Nat) :
    Mem.byte d (Mem.setByte d m a v) a' = if a' = a then v % 256 else Mem.byte d m a' := by
  unfold Mem.byte Mem.setByte
  rw [FMap.getD_setC_const]
  split <;> simp

/-- A byte read after a store. -/
theorem Mem.byte_store (d : BitVec 8) (m : Mem) (a : Nat) (b : List Nat) (a' : Nat) :
    Mem.byte d (Mem.store d m a b) a' =
      if a ≤ a' ∧ a' < a + b.length then b.getD (a' - a) 0 % 256 else Mem.byte d m a' := by
  induction b generalizing m a with
  | nil => rw [if_neg (by rw [List.length_nil]; omega)]; rfl
  | cons v t ih =>
    rw [Mem.store, ih, Mem.byte_setByte]
    by_cases h : a' = a
    · subst h
      rw [if_neg (by omega), if_pos rfl, if_pos (by simp)]
      simp
    · by_cases h2 : a + 1 ≤ a' ∧ a' < a + 1 + t.length
      · rw [if_pos h2, if_pos (by simp; omega)]
        have : a' - a = (a' - (a + 1)) + 1 := by omega
        rw [this]; simp
      · rw [if_neg h2, if_neg h, if_neg (by rw [List.length_cons]; omega)]

/-- A store leaves every other byte. -/
theorem Mem.byte_store_frame (d : BitVec 8) (m : Mem) (a : Nat) (b : List Nat) (a' : Nat) (h : a' < a ∨ a + b.length ≤ a') :
    Mem.byte d (Mem.store d m a b) a' = Mem.byte d m a' := by
  rw [Mem.byte_store, if_neg (by omega)]

end Sys2Proof.Machine
end

