-- ==== Sys2Proof/Laws/Fields.lean ====
section
/-!
SUPPORT. Laws of register fields: reading after writing, within one word and within the register file.
-/

set_option Elab.async false

namespace Sys2Proof

/-- A word after a field was written, bit by bit. -/
theorem Word.getLsbD_withField (v : Word) (lo w x j : Nat) :
    (v.withField lo w x).getLsbD j =
      (decide (j < 32) && if lo ≤ j ∧ j - lo < w then x.testBit (j - lo) else v.getLsbD j) := by
  unfold Word.withField
  simp only [BitVec.getLsbD_or, BitVec.getLsbD_and, BitVec.getLsbD_not, BitVec.getLsbD_ofNat,
    Nat.testBit_shiftLeft, Nat.testBit_mod_two_pow]
  by_cases h32 : j < 32
  · by_cases h1 : lo ≤ j
    · by_cases h2 : j - lo < w <;> simp [h32, h1, h2]
    · simp [h32, h1]
  · have : v.getLsbD j = false := BitVec.getLsbD_of_ge v j (by omega)
    simp [h32, this]

/-- A field, bit by bit. -/
theorem Word.testBit_field (v : Word) (lo w i : Nat) : (v.field lo w).testBit i = (decide (i < w) && v.getLsbD (lo + i)) := by
  unfold Word.field
  rw [Nat.testBit_mod_two_pow, Nat.testBit_shiftRight]
  rfl

/-- A field is smaller than its width allows. -/
theorem Word.field_lt (v : Word) (lo w : Nat) : v.field lo w < 2 ^ w := Nat.mod_lt _ (Nat.two_pow_pos w)

/-- A written field reads as the written value, cut to the field's width. -/
theorem Word.field_withField (v : Word) (lo w x : Nat) (h : lo + w ≤ 32) : (v.withField lo w x).field lo w = x % 2 ^ w := by
  apply Nat.eq_of_testBit_eq
  intro i
  rw [Word.testBit_field, Word.getLsbD_withField, Nat.testBit_mod_two_pow]
  by_cases hi : i < w
  · have : lo + i - lo = i := by omega
    simp [hi, this, show lo + i < 32 by omega]
  · simp [hi]

/-- Writing a field leaves a disjoint field. -/
theorem Word.field_withField_disjoint (v : Word) (lo w x lo' w' : Nat) (h : lo' + w' ≤ lo ∨ lo + w ≤ lo') :
    (v.withField lo w x).field lo' w' = v.field lo' w' := by
  apply Nat.eq_of_testBit_eq
  intro i
  rw [Word.testBit_field, Word.testBit_field, Word.getLsbD_withField]
  by_cases hi : i < w'
  · rw [if_neg (by omega)]
    by_cases h32 : lo' + i < 32
    · simp [h32]
    · have : v.getLsbD (lo' + i) = false := BitVec.getLsbD_of_ge v _ (by omega)
      simp [this]
  · simp [hi]

end Sys2Proof

namespace Sys2Proof.Machine

open Sys2Proof

/-! ### The register file -/

/-- Reading a register after one was set. -/
theorem State.reg_setReg (s : State) (k : Nat) (v : Word) (k' : Nat) :
    (s.setReg k v).reg k' = if k' = k then v else s.reg k' :=
  FMap.getD_setC s.regs regReset k v k'

@[simp] theorem State.reg_setReg_self (s : State) (k : Nat) (v : Word) : (s.setReg k v).reg k = v := by
  rw [State.reg_setReg, if_pos rfl]

theorem State.reg_setReg_ne (s : State) (k : Nat) (v : Word) (k' : Nat) (h : k' ≠ k) :
    (s.setReg k v).reg k' = s.reg k' := by
  rw [State.reg_setReg, if_neg h]

/-- Reading a register after a field was set. -/
theorem State.reg_setFld (s : State) (p : Nat) (f : Fld) (x k : Nat) :
    (s.setFld p f x).reg k =
      if k = regKey p f.off then (s.reg (regKey p f.off)).withField f.lo f.w x else s.reg k := by
  unfold State.setFld
  exact State.reg_setReg _ _ _ _

theorem State.reg_setFld_ne (s : State) (p : Nat) (f : Fld) (x k : Nat) (h : k ≠ regKey p f.off) :
    (s.setFld p f x).reg k = s.reg k := by
  rw [State.reg_setFld, if_neg h]

/-- A field that was set reads as the value, cut to its width. -/
theorem State.fld_setFld_self (s : State) (p : Nat) (f : Fld) (x : Nat) (h : f.lo + f.w ≤ 32) :
    (s.setFld p f x).fld p f = x % 2 ^ f.w := by
  unfold State.fld
  rw [State.reg_setFld, if_pos rfl, Word.field_withField _ _ _ _ h]

/-- Setting a field leaves a field of another register, or a disjoint one. -/
theorem State.fld_setFld_ne (s : State) (p : Nat) (f : Fld) (x : Nat) (p' : Nat) (f' : Fld)
    (h : regKey p' f'.off ≠ regKey p f.off ∨ f'.lo + f'.w ≤ f.lo ∨ f.lo + f.w ≤ f'.lo) :
    (s.setFld p f x).fld p' f' = s.fld p' f' := by
  unfold State.fld
  rw [State.reg_setFld]
  split
  · rename_i e
    rcases h with h | h
    · exact absurd e h
    · rw [e, Word.field_withField_disjoint _ _ _ _ _ _ h]
  · rfl

/-- Setting a register leaves the fields of others. -/
theorem State.fld_setReg_ne (s : State) (k : Nat) (v : Word) (p : Nat) (f : Fld) (h : regKey p f.off ≠ k) :
    (s.setReg k v).fld p f = s.fld p f := by
  unfold State.fld
  rw [State.reg_setReg_ne _ _ _ _ h]

/-- A field is smaller than its width allows. -/
theorem State.fld_lt (s : State) (p : Nat) (f : Fld) : s.fld p f < 2 ^ f.w := Word.field_lt _ _ _

/-- Registers depend on the register file alone. -/
theorem State.reg_congr {s t : State} (h : t.regs = s.regs) (k : Nat) : t.reg k = s.reg k := by
  unfold State.reg; rw [h]

theorem State.fld_congr {s t : State} (h : t.regs = s.regs) (p : Nat) (f : Fld) : t.fld p f = s.fld p f := by
  unfold State.fld; rw [State.reg_congr h]

end Sys2Proof.Machine
end

