-- ==== Sys2Proof/Laws/Keeps.lean ====
section
/-!
SUPPORT. What an operation leaves as it was: `Keeps M s t` says that the state `t` equals `s` in every component whose bit
is not in the mask `M` (in the order of State's fields: bit 0 the queue, bit 1 the register file, and so on; bit 40 + c stands for the registers of
the pages of class c), and that the canonical form is kept. Every operation of the machine has one such law; a caller chains them.
-/

set_option Elab.async false

namespace Sys2Proof.Machine

open Sys2Proof

/-- A mask that another contains has no bit beyond it. -/
theorem testBit_of_sub {m M i : Nat} (h : m ||| M = M) (hi : M.testBit i = false) : m.testBit i = false := by
  rw [← h, Nat.testBit_or] at hi
  exact (Bool.or_eq_false_iff.mp hi).1

/-- A mask within a mask within a mask. -/
theorem sub_mask {a b M : Nat} (h : a ||| b = b) (hM : b ||| M = M) : a ||| M = M := by
  rw [← hM, ← Nat.or_assoc, h]

/-- A page whose class (Table REG-2) is in the mask, bit 40 + c for class c, or a page of no class. -/
structure InMask (M p : Nat) : Prop where
  cls : pageClass p = 0 ∨ M.testBit (40 + pageClass p) = true

theorem InMask.of {c M p : Nat} (hM : c ||| M = M) (h : InMask c p) : InMask M p := by
  refine ⟨h.cls.imp id fun h => ?_⟩
  rw [← hM, Nat.testBit_or, h, Bool.true_or]

/-- A page of one class, or of none. -/
theorem InMask.one {M p : Nat} (c : Nat) (hM : M.testBit (40 + c) = true) (hp : pageClass p = c ∨ pageClass p = 0) : InMask M p := by
  rcases hp with h | h
  · exact ⟨Or.inr (h ▸ hM)⟩
  · exact ⟨Or.inl h⟩

theorem InMask.sec {M i : Nat} (hM : M.testBit 45 = true) : InMask M (Pg.sec i) :=
  .one 0x5 hM ((by decide +kernel : ∀ j < 16, pageClass (0x20 + j) = 0x5 ∨ pageClass (0x20 + j) = 0) (i % 16)
    (Nat.mod_lt _ (by decide)))

theorem InMask.cfg {M i : Nat} (hM : M.testBit 46 = true) : InMask M (Pg.cfg i) :=
  .one 0x6 hM ((by decide +kernel : ∀ j < 4, pageClass (0x30 + j) = 0x6 ∨ pageClass (0x30 + j) = 0) (i % 4)
    (Nat.mod_lt _ (by decide)))

theorem InMask.cpc {M i : Nat} (hM : M.testBit 48 = true) : InMask M (Pg.cpc i) :=
  .one 0x8 hM ((by decide +kernel : ∀ j < 16, pageClass (0x40 + j) = 0x8 ∨ pageClass (0x40 + j) = 0) (i % 16)
    (Nat.mod_lt _ (by decide)))

theorem InMask.pci {M i : Nat} (hM : M.testBit 49 = true) : InMask M (Pg.pci i) :=
  .one 0x9 hM ((by decide +kernel : ∀ j < 16, pageClass (0x50 + j) = 0x9 ∨ pageClass (0x50 + j) = 0) (i % 16)
    (Nat.mod_lt _ (by decide)))

theorem InMask.lan {M i : Nat} (hM : M.testBit 50 = true) : InMask M (Pg.lan i) :=
  .one 0xa hM ((by decide +kernel : ∀ j < 256, pageClass (0x100 + j) = 0xa ∨ pageClass (0x100 + j) = 0) (i % 256)
    (Nat.mod_lt _ (by decide)))

theorem InMask.ope {M i : Nat} (hM : M.testBit 51 = true) : InMask M (Pg.ope i) :=
  .one 0xb hM ((by decide +kernel : ∀ j < 16, pageClass (0x200 + j) = 0xb ∨ pageClass (0x200 + j) = 0) (i % 16)
    (Nat.mod_lt _ (by decide)))

theorem InMask.lwl {M i : Nat} (hM : M.testBit 53 = true) : InMask M (Pg.lwl i) :=
  .one 0xd hM ((by decide +kernel : ∀ j < 32, pageClass (0x220 + j) = 0xd ∨ pageClass (0x220 + j) = 0) (i % 32)
    (Nat.mod_lt _ (by decide)))

theorem InMask.lnp {M i : Nat} (hM : M.testBit 54 = true) : InMask M (Pg.lnp i) :=
  .one 0xe hM ((by decide +kernel : ∀ j < 8, pageClass (0x300 + j) = 0xe ∨ pageClass (0x300 + j) = 0) (i % 8)
    (Nat.mod_lt _ (by decide)))

theorem InMask.msc {M i : Nat} (hM : M.testBit 55 = true) : InMask M (Pg.msc i) :=
  .one 0xf hM ((by decide +kernel : ∀ j < 8, pageClass (0x308 + j) = 0xf ∨ pageClass (0x308 + j) = 0) (i % 8)
    (Nat.mod_lt _ (by decide)))

theorem InMask.fab {M i : Nat} (hM : M.testBit 60 = true) : InMask M (Pg.fab i) :=
  .one 0x14 hM ((by decide +kernel : ∀ j < 256, pageClass (0x500 + j) = 0x14 ∨ pageClass (0x500 + j) = 0) (i % 256)
    (Nat.mod_lt _ (by decide)))

theorem InMask.tnw {M i : Nat} (hM : M.testBit 63 = true) : InMask M (Pg.tnw i) :=
  .one 0x17 hM ((by decide +kernel : ∀ j < 128, pageClass (0x700 + j) = 0x17 ∨ pageClass (0x700 + j) = 0) (i % 128)
    (Nat.mod_lt _ (by decide)))

theorem InMask.tnp {M i : Nat} (hM : M.testBit 64 = true) : InMask M (Pg.tnp i) :=
  .one 0x18 hM ((by decide +kernel : ∀ j < 128, pageClass (0x780 + j) = 0x18 ∨ pageClass (0x780 + j) = 0) (i % 128)
    (Nat.mod_lt _ (by decide)))

theorem InMask.cst {M i : Nat} (hM : M.testBit 65 = true) : InMask M (Pg.cst i) :=
  .one 0x19 hM ((by decide +kernel : ∀ j < 256, pageClass (0x800 + j) = 0x19 ∨ pageClass (0x800 + j) = 0) (i % 256)
    (Nat.mod_lt _ (by decide)))

theorem InMask.pmp {M i : Nat} (hM : M.testBit 66 = true) : InMask M (Pg.pmp i) :=
  .one 0x1a hM ((by decide +kernel : ∀ j < 256, pageClass (0x900 + j) = 0x1a ∨ pageClass (0x900 + j) = 0) (i % 256)
    (Nat.mod_lt _ (by decide)))

theorem InMask.dmc {M i : Nat} (hM : M.testBit 67 = true) : InMask M (Pg.dmc i) :=
  .one 0x1b hM ((by decide +kernel : ∀ j < 256, pageClass (0xa00 + j) = 0x1b ∨ pageClass (0xa00 + j) = 0) (i % 256)
    (Nat.mod_lt _ (by decide)))

theorem InMask.ryk {M i : Nat} (hM : M.testBit 68 = true) : InMask M (Pg.ryk i) :=
  .one 0x1c hM ((by decide +kernel : ∀ j < 256, pageClass (0xb00 + j) = 0x1c ∨ pageClass (0xb00 + j) = 0) (i % 256)
    (Nat.mod_lt _ (by decide)))

theorem InMask.clk {M i : Nat} (hM : M.testBit 69 = true) : InMask M (Pg.clk i) :=
  .one 0x1d hM ((by decide +kernel : ∀ j < 256, pageClass (0xc00 + j) = 0x1d ∨ pageClass (0xc00 + j) = 0) (i % 256)
    (Nat.mod_lt _ (by decide)))

theorem InMask.stg {M i n : Nat} (hM : M.testBit 57 = true) : InMask M (Pg.stg i n) :=
  .one 0x11 hM ((by decide +kernel : ∀ j < 32, pageClass (0x400 + j) = 0x11 ∨ pageClass (0x400 + j) = 0) ((16 * i + n) % 32)
    (Nat.mod_lt _ (by decide)))

theorem InMask.tile {M i : Nat} (h1 : M.testBit 61 = true) (h2 : M.testBit 62 = true) : InMask M (Pg.tile i) := by
  rcases (by decide +kernel : ∀ j < 256, pageClass (0x600 + j) = 0x15 ∨ pageClass (0x600 + j) = 0x16 ∨ pageClass (0x600 + j) = 0)
    (i % 256) (Nat.mod_lt _ (by decide)) with h | h | h
  · exact .one 0x15 h1 (Or.inl h)
  · exact .one 0x16 h2 (Or.inl h)
  · exact ⟨Or.inl h⟩

theorem InMask.gbl {M : Nat} (hM : M.testBit 41 = true) : InMask M Pg.gbl := .one 0x1 hM (Or.inl rfl)

theorem InMask.wdl {M : Nat} (hM : M.testBit 42 = true) : InMask M Pg.wdl := .one 0x2 hM (Or.inl rfl)

theorem InMask.nrg {M : Nat} (hM : M.testBit 43 = true) : InMask M Pg.nrg := .one 0x3 hM (Or.inl rfl)

theorem InMask.flt {M : Nat} (hM : M.testBit 44 = true) : InMask M Pg.flt := .one 0x4 hM (Or.inl rfl)

theorem InMask.fltAtt {M : Nat} (hM : M.testBit 44 = true) : InMask M Pg.fltAtt := .one 0x4 hM (Or.inl rfl)

theorem InMask.fls {M : Nat} (hM : M.testBit 47 = true) : InMask M Pg.fls := .one 0x7 hM (Or.inl rfl)

theorem InMask.byp {M : Nat} (hM : M.testBit 52 = true) : InMask M Pg.byp := .one 0xc hM (Or.inl rfl)

theorem InMask.ptp {M : Nat} (hM : M.testBit 56 = true) : InMask M Pg.ptp := .one 0x10 hM (Or.inl rfl)

theorem InMask.cpy {M : Nat} (hM : M.testBit 58 = true) : InMask M Pg.cpy := .one 0x12 hM (Or.inl rfl)

theorem InMask.smp {M : Nat} (hM : M.testBit 59 = true) : InMask M Pg.smp := .one 0x13 hM (Or.inl rfl)

theorem InMask.pwr {M : Nat} (hM : M.testBit 70 = true) : InMask M Pg.pwr := .one 0x1e hM (Or.inl rfl)

/-- A page of a local BAR, whatever its function. -/
theorem InMask.local {M f n : Nat} (hM : M.testBit 72 = true) : InMask M (localPage f n) := by
  constructor
  unfold pageClass
  split
  · exact Or.inr hM
  · refine Or.inl ?_
    have h0 : ∀ p, 0x4000 ≤ p → pageMap.find? (fun r => r.1 ≤ p && p ≤ r.2.1) = none := by
      intro p hp
      rw [List.find?_eq_none]
      intro r hr
      have := (by decide : ∀ r ∈ pageMap, r.2.1 < 0x4000) r hr
      simp
      omega
    rw [h0 _ (by unfold localPage; omega)]

theorem pageClass_lt (p : Nat) : pageClass p < 0x21 ∧ pageClass p ≠ 0x1F := by
  unfold pageClass
  split
  · decide
  · split
    · rename_i r h
      exact (by decide : ∀ r ∈ pageMap, r.2.2 < 0x21 ∧ r.2.2 ≠ 0x1F) r (List.mem_of_find?_eq_some h)
    · decide

/-- Every class. -/
theorem InMask.all {M p : Nat} (hM : 0x17ffffffe0000000000 ||| M = M) : InMask M p := by
  refine InMask.of hM ?_
  rcases Nat.eq_zero_or_pos (pageClass p) with h | h
  · exact ⟨Or.inl h⟩
  · exact ⟨Or.inr ((by decide : ∀ c < 0x21, c ≠ 0x1F → 0 < c → Nat.testBit 0x17ffffffe0000000000 (40 + c) = true) _ (pageClass_lt p).1 (pageClass_lt p).2 h)⟩

theorem InMask.ite {M p q : Nat} {c : Prop} [Decidable c] (hp : InMask M p) (hq : InMask M q) : InMask M (if c then p else q) := by
  split <;> assumption

theorem regKey_page (p o : Nat) : regKey p o / 4096 = p := by unfold regKey; omega

theorem InMask.reg {M p o : Nat} (h : InMask M p) : InMask M (regKey p o / 4096) := by rw [regKey_page]; exact h

theorem InMask.full {M p o n : Nat} (h : InMask M p) : InMask M (fullPart p o n).page := h

theorem InMask.pba0 {M v : Nat} (hM : M.testBit 49 = true) : InMask M (pbaKey 0 v / 4096) := InMask.reg (InMask.pci hM)

theorem InMask.pba {M f v : Nat} (h1 : M.testBit 49 = true) (h2 : M.testBit 72 = true) : InMask M (pbaKey f v / 4096) := by
  unfold pbaKey
  split
  · exact InMask.reg (InMask.pci h1)
  · exact InMask.reg (InMask.local h2)

theorem InMask.msix {M f v : Nat} (h1 : M.testBit 49 = true) (h2 : M.testBit 72 = true) : InMask M (msixCtlKey f v / 4096) := by
  unfold msixCtlKey
  split
  · exact InMask.reg (InMask.pci h1)
  · exact InMask.reg (InMask.local h2)

theorem InMask.tapPage {M k : Nat} (h : M.testBit 60 = true) : InMask M (tapPage k) := InMask.fab h

theorem InMask.injPage {M : Nat} (h : M.testBit 72 = true) : InMask M injPage := InMask.local h

theorem InMask.refPage {M : Nat} (h : M.testBit 50 = true) : InMask M refPage := .one 0xA h (Or.inl rfl)

theorem InMask.ftPage {M : Nat} (h : M.testBit 57 = true) : InMask M ftPage := InMask.stg h

theorem InMask.pipeUnitPage {M : Nat} {u : PipeUnit} (h1 : M.testBit 57 = true) (h2 : M.testBit 59 = true) :
    InMask M (pipeUnitPage u) := by
  cases u
  all_goals first | exact InMask.stg h1 | exact InMask.smp h2

theorem InMask.lwlPage {M : Nat} (h : M.testBit 53 = true) : InMask M lwlPage := InMask.lwl h

theorem InMask.cellPlace {M n : Nat} (h : M.testBit 53 = true) : InMask M (cellPlace n).1 := InMask.lwl h

theorem InMask.itemPage {M : Nat} {it : LwlItem} (h : M.testBit 53 = true) : InMask M (itemPage it) := by
  cases it <;> exact InMask.lwl h

/-- A page's class is in the mask that the context's `hM` puts into `M`. -/
theorem InMask.auto {M p : Nat} (h : InMask M p := by
    first
    | with_reducible assumption
    | with_reducible apply InMask.of hM
      first
      | (with_reducible apply InMask.sec); rfl
      | (with_reducible apply InMask.cfg); rfl
      | (with_reducible apply InMask.cpc); rfl
      | (with_reducible apply InMask.pci); rfl
      | (with_reducible apply InMask.lan); rfl
      | (with_reducible apply InMask.ope); rfl
      | (with_reducible apply InMask.lwl); rfl
      | (with_reducible apply InMask.lnp); rfl
      | (with_reducible apply InMask.msc); rfl
      | (with_reducible apply InMask.fab); rfl
      | (with_reducible apply InMask.tnw); rfl
      | (with_reducible apply InMask.tnp); rfl
      | (with_reducible apply InMask.cst); rfl
      | (with_reducible apply InMask.pmp); rfl
      | (with_reducible apply InMask.dmc); rfl
      | (with_reducible apply InMask.ryk); rfl
      | (with_reducible apply InMask.clk); rfl
      | (with_reducible apply InMask.stg); rfl
      | (with_reducible apply InMask.gbl); rfl
      | (with_reducible apply InMask.wdl); rfl
      | (with_reducible apply InMask.nrg); rfl
      | (with_reducible apply InMask.flt); rfl
      | (with_reducible apply InMask.fltAtt); rfl
      | (with_reducible apply InMask.fls); rfl
      | (with_reducible apply InMask.byp); rfl
      | (with_reducible apply InMask.ptp); rfl
      | (with_reducible apply InMask.cpy); rfl
      | (with_reducible apply InMask.smp); rfl
      | (with_reducible apply InMask.pwr); rfl
      | (with_reducible apply InMask.local); rfl
      | (with_reducible apply InMask.pba0); rfl
      | (with_reducible apply InMask.tapPage); rfl
      | (with_reducible apply InMask.injPage); rfl
      | (with_reducible apply InMask.refPage); rfl
      | (with_reducible apply InMask.ftPage); rfl
      | (with_reducible apply InMask.lwlPage); rfl
      | (with_reducible apply InMask.cellPlace); rfl
      | (with_reducible apply InMask.itemPage); rfl
      | (with_reducible apply InMask.tile) <;> rfl
      | (with_reducible apply InMask.pba) <;> rfl
      | (with_reducible apply InMask.msix) <;> rfl
      | (with_reducible apply InMask.pipeUnitPage) <;> rfl
    | exact InMask.all (sub_mask rfl hM)) : InMask M p := h

/-- Components outside the mask are kept, and so is the canonical form. -/
structure Keeps (M : Nat) (s t : State) : Prop where
  canon : s.Canonical → t.Canonical
  pending : M.testBit 0 = false → t.pending = s.pending
  regs : M.testBit 1 = false → t.regs = s.regs
  force : M.testBit 2 = false → t.force = s.force
  late : M.testBit 3 = false → t.late = s.late
  written : M.testBit 4 = false → t.written = s.written
  snaps : M.testBit 5 = false → t.snaps = s.snaps
  snapAt : M.testBit 6 = false → t.snapAt = s.snapAt
  wideHi : M.testBit 7 = false → t.wideHi = s.wideHi
  rdata : M.testBit 8 = false → t.rdata = s.rdata
  out : M.testBit 9 = false → t.out = s.out
  draws : M.testBit 10 = false → t.draws = s.draws
  count : M.testBit 11 = false → t.count = s.count
  wdl : M.testBit 12 = false → t.wdl = s.wdl
  pins : M.testBit 13 = false → t.pins = s.pins
  safe : M.testBit 14 = false → t.safe = s.safe
  lanes : M.testBit 15 = false → t.lanes = s.lanes
  chans : M.testBit 16 = false → t.chans = s.chans
  rref : M.testBit 17 = false → t.rref = s.rref
  units : M.testBit 18 = false → t.units = s.units
  fns : M.testBit 19 = false → t.fns = s.fns
  ports : M.testBit 20 = false → t.ports = s.ports
  saks : M.testBit 21 = false → t.saks = s.saks
  pipe : M.testBit 22 = false → t.pipe = s.pipe
  ddr : M.testBit 23 = false → t.ddr = s.ddr
  ryk : M.testBit 24 = false → t.ryk = s.ryk
  host : M.testBit 25 = false → t.host = s.host
  energy : M.testBit 26 = false → t.energy = s.energy
  net : M.testBit 27 = false → t.net = s.net
  tiles : M.testBit 28 = false → t.tiles = s.tiles
  batches : M.testBit 29 = false → t.batches = s.batches
  memory : M.testBit 30 = false → t.memory = s.memory
  pumps : M.testBit 31 = false → t.pumps = s.pumps
  pcie : M.testBit 32 = false → t.pcie = s.pcie
  lwl : M.testBit 33 = false → t.lwl = s.lwl
  sec : M.testBit 34 = false → t.sec = s.sec
  flash : M.testBit 35 = false → t.flash = s.flash
  load : M.testBit 36 = false → t.load = s.load
  fabric : M.testBit 37 = false → t.fabric = s.fabric
  cpc : M.testBit 38 = false → t.cpc = s.cpc
  tap : M.testBit 39 = false → t.tap = s.tap
  clk : M.testBit 1 = false → t.clk = s.clk
  held : M.testBit 3 = false → t.held = s.held
  file : ∀ k, ¬ InMask M (k / 4096) → t.reg k = s.reg k

theorem Keeps.refl (M : Nat) (s : State) : Keeps M s s where
  canon := id
  pending := fun _ => rfl
  regs := fun _ => rfl
  force := fun _ => rfl
  late := fun _ => rfl
  written := fun _ => rfl
  snaps := fun _ => rfl
  snapAt := fun _ => rfl
  wideHi := fun _ => rfl
  rdata := fun _ => rfl
  out := fun _ => rfl
  draws := fun _ => rfl
  count := fun _ => rfl
  wdl := fun _ => rfl
  pins := fun _ => rfl
  safe := fun _ => rfl
  lanes := fun _ => rfl
  chans := fun _ => rfl
  rref := fun _ => rfl
  units := fun _ => rfl
  fns := fun _ => rfl
  ports := fun _ => rfl
  saks := fun _ => rfl
  pipe := fun _ => rfl
  ddr := fun _ => rfl
  ryk := fun _ => rfl
  host := fun _ => rfl
  energy := fun _ => rfl
  net := fun _ => rfl
  tiles := fun _ => rfl
  batches := fun _ => rfl
  memory := fun _ => rfl
  pumps := fun _ => rfl
  pcie := fun _ => rfl
  lwl := fun _ => rfl
  sec := fun _ => rfl
  flash := fun _ => rfl
  load := fun _ => rfl
  fabric := fun _ => rfl
  cpc := fun _ => rfl
  tap := fun _ => rfl
  clk := fun _ => rfl
  held := fun _ => rfl
  file := fun _ _ => rfl

/-- A law with a smaller mask, after what came before. -/
theorem Keeps.step {m M : Nat} {s x t : State} (a : Keeps m x t) (h : m ||| M = M) (b : Keeps M s x) : Keeps M s t where
  canon := fun hc => a.canon (b.canon hc)
  pending := fun hi => (a.pending (testBit_of_sub h hi)).trans (b.pending hi)
  regs := fun hi => (a.regs (testBit_of_sub h hi)).trans (b.regs hi)
  force := fun hi => (a.force (testBit_of_sub h hi)).trans (b.force hi)
  late := fun hi => (a.late (testBit_of_sub h hi)).trans (b.late hi)
  written := fun hi => (a.written (testBit_of_sub h hi)).trans (b.written hi)
  snaps := fun hi => (a.snaps (testBit_of_sub h hi)).trans (b.snaps hi)
  snapAt := fun hi => (a.snapAt (testBit_of_sub h hi)).trans (b.snapAt hi)
  wideHi := fun hi => (a.wideHi (testBit_of_sub h hi)).trans (b.wideHi hi)
  rdata := fun hi => (a.rdata (testBit_of_sub h hi)).trans (b.rdata hi)
  out := fun hi => (a.out (testBit_of_sub h hi)).trans (b.out hi)
  draws := fun hi => (a.draws (testBit_of_sub h hi)).trans (b.draws hi)
  count := fun hi => (a.count (testBit_of_sub h hi)).trans (b.count hi)
  wdl := fun hi => (a.wdl (testBit_of_sub h hi)).trans (b.wdl hi)
  pins := fun hi => (a.pins (testBit_of_sub h hi)).trans (b.pins hi)
  safe := fun hi => (a.safe (testBit_of_sub h hi)).trans (b.safe hi)
  lanes := fun hi => (a.lanes (testBit_of_sub h hi)).trans (b.lanes hi)
  chans := fun hi => (a.chans (testBit_of_sub h hi)).trans (b.chans hi)
  rref := fun hi => (a.rref (testBit_of_sub h hi)).trans (b.rref hi)
  units := fun hi => (a.units (testBit_of_sub h hi)).trans (b.units hi)
  fns := fun hi => (a.fns (testBit_of_sub h hi)).trans (b.fns hi)
  ports := fun hi => (a.ports (testBit_of_sub h hi)).trans (b.ports hi)
  saks := fun hi => (a.saks (testBit_of_sub h hi)).trans (b.saks hi)
  pipe := fun hi => (a.pipe (testBit_of_sub h hi)).trans (b.pipe hi)
  ddr := fun hi => (a.ddr (testBit_of_sub h hi)).trans (b.ddr hi)
  ryk := fun hi => (a.ryk (testBit_of_sub h hi)).trans (b.ryk hi)
  host := fun hi => (a.host (testBit_of_sub h hi)).trans (b.host hi)
  energy := fun hi => (a.energy (testBit_of_sub h hi)).trans (b.energy hi)
  net := fun hi => (a.net (testBit_of_sub h hi)).trans (b.net hi)
  tiles := fun hi => (a.tiles (testBit_of_sub h hi)).trans (b.tiles hi)
  batches := fun hi => (a.batches (testBit_of_sub h hi)).trans (b.batches hi)
  memory := fun hi => (a.memory (testBit_of_sub h hi)).trans (b.memory hi)
  pumps := fun hi => (a.pumps (testBit_of_sub h hi)).trans (b.pumps hi)
  pcie := fun hi => (a.pcie (testBit_of_sub h hi)).trans (b.pcie hi)
  lwl := fun hi => (a.lwl (testBit_of_sub h hi)).trans (b.lwl hi)
  sec := fun hi => (a.sec (testBit_of_sub h hi)).trans (b.sec hi)
  flash := fun hi => (a.flash (testBit_of_sub h hi)).trans (b.flash hi)
  load := fun hi => (a.load (testBit_of_sub h hi)).trans (b.load hi)
  fabric := fun hi => (a.fabric (testBit_of_sub h hi)).trans (b.fabric hi)
  cpc := fun hi => (a.cpc (testBit_of_sub h hi)).trans (b.cpc hi)
  tap := fun hi => (a.tap (testBit_of_sub h hi)).trans (b.tap hi)
  clk := fun hi => (a.clk (testBit_of_sub h hi)).trans (b.clk hi)
  held := fun hi => (a.held (testBit_of_sub h hi)).trans (b.held hi)
  file := fun k hk => (a.file k (fun h2 => hk (.of h h2))).trans (b.file k hk)

theorem Keeps.trans {M : Nat} {s x t : State} (b : Keeps M s x) (a : Keeps M x t) : Keeps M s t := a.step (Nat.or_self M) b

/-- A wider mask says less. -/
theorem Keeps.mono {m M : Nat} {s t : State} (a : Keeps m s t) (h : m ||| M = M) : Keeps M s t := a.step h (Keeps.refl M s)

theorem Keeps.ite {M : Nat} {s a b : State} {c : Prop} [Decidable c] (ha : Keeps M s a) (hb : Keeps M s b) :
    Keeps M s (if c then a else b) := by split <;> assumption

/-- A fold of operations. -/
theorem Keeps.foldl {M : Nat} {s z : State} {β : Type} {f : State → β → State} (l : List β)
    (hf : ∀ a x, Keeps M s a → Keeps M s (f a x)) (hz : Keeps M s z) : Keeps M s (l.foldl f z) := by
  induction l generalizing z with
  | nil => exact hz
  | cons x l ih => exact ih (hf z x hz)

/-- A fold of operations, each of an item of the list. -/
theorem Keeps.foldl_mem {M : Nat} {s z : State} {β : Type} {f : State → β → State} (l : List β)
    (hf : ∀ a, ∀ x ∈ l, Keeps M s a → Keeps M s (f a x)) (hz : Keeps M s z) : Keeps M s (l.foldl f z) := by
  induction l generalizing z with
  | nil => exact hz
  | cons x l ih => exact ih (fun a y hy => hf a y (List.mem_cons_of_mem _ hy)) (hf z x List.mem_cons_self hz)

/-- A fold of operations that carry a value along. -/
theorem Keeps.foldl_fst {M : Nat} {s : State} {α β : Type} {z : State × α} {f : State × α → β → State × α} (l : List β)
    (hf : ∀ a x, Keeps M s a.1 → Keeps M s (f a x).1) (hz : Keeps M s z.1) : Keeps M s (l.foldl f z).1 := by
  induction l generalizing z with
  | nil => exact hz
  | cons x l ih => exact ih (hf z x hz)

/-- The state that comes first, second, or as an option's value out of an operation with a law of its own. -/
theorem Keeps.of_fst {M : Nat} {s t : State} {α : Type} {p : State × α} {a : α} (e : p = (t, a)) (h : Keeps M s p.1) :
    Keeps M s t := by subst e; exact h

theorem Keeps.of_snd {M : Nat} {s t : State} {α : Type} {p : α × State} {a : α} (e : p = (a, t)) (h : Keeps M s p.2) :
    Keeps M s t := by subst e; exact h

theorem Keeps.of_some {M : Nat} {s t : State} {o : Option State} (e : o = some t) (h : ∀ x, o = some x → Keeps M s x) :
    Keeps M s t := h t e

theorem Keeps.of_next {M : Nat} {s t u : State} (h : Keeps M s t)
    (e : (Host.Outcome.next t : Host.Outcome State Fault Refusal) = .next u) : Keeps M s u := by
  injection e with e; subst e; exact h

/-! ### Updates of one component -/

theorem Keeps.set_pending {M : Nat} {s x : State} (e) (hM : 0x1 ||| M = M) (h : Keeps M s x) : Keeps M s { x with pending := e } :=
  Keeps.step (m := 0x1) (x := x) ⟨fun c => ⟨c.regs, c.ddr, c.flash, c.direct, c.stores⟩, fun h => absurd h (by decide), fun _ => rfl, fun _ => rfl, fun _ => rfl, fun _ => rfl, fun _ => rfl, fun _ => rfl, fun _ => rfl, fun _ => rfl, fun _ => rfl, fun _ => rfl, fun _ => rfl, fun _ => rfl, fun _ => rfl, fun _ => rfl, fun _ => rfl, fun _ => rfl, fun _ => rfl, fun _ => rfl, fun _ => rfl, fun _ => rfl, fun _ => rfl, fun _ => rfl, fun _ => rfl, fun _ => rfl, fun _ => rfl, fun _ => rfl, fun _ => rfl, fun _ => rfl, fun _ => rfl, fun _ => rfl, fun _ => rfl, fun _ => rfl, fun _ => rfl, fun _ => rfl, fun _ => rfl, fun _ => rfl, fun _ => rfl, fun _ => rfl, fun _ => rfl, fun _ => rfl, fun _ => rfl, fun _ _ => rfl⟩ hM h

theorem Keeps.set_force {M : Nat} {s x : State} (e) (hM : 0x4 ||| M = M) (h : Keeps M s x) : Keeps M s { x with force := e } :=
  Keeps.step (m := 0x4) (x := x) ⟨fun c => ⟨c.regs, c.ddr, c.flash, c.direct, c.stores⟩, fun _ => rfl, fun _ => rfl, fun h => absurd h (by decide), fun _ => rfl, fun _ => rfl, fun _ => rfl, fun _ => rfl, fun _ => rfl, fun _ => rfl, fun _ => rfl, fun _ => rfl, fun _ => rfl, fun _ => rfl, fun _ => rfl, fun _ => rfl, fun _ => rfl, fun _ => rfl, fun _ => rfl, fun _ => rfl, fun _ => rfl, fun _ => rfl, fun _ => rfl, fun _ => rfl, fun _ => rfl, fun _ => rfl, fun _ => rfl, fun _ => rfl, fun _ => rfl, fun _ => rfl, fun _ => rfl, fun _ => rfl, fun _ => rfl, fun _ => rfl, fun _ => rfl, fun _ => rfl, fun _ => rfl, fun _ => rfl, fun _ => rfl, fun _ => rfl, fun _ => rfl, fun _ => rfl, fun _ => rfl, fun _ _ => rfl⟩ hM h

theorem Keeps.set_late {M : Nat} {s x : State} (e) (hM : 0x8 ||| M = M) (h : Keeps M s x) : Keeps M s { x with late := e } :=
  Keeps.step (m := 0x8) (x := x) ⟨fun c => ⟨c.regs, c.ddr, c.flash, c.direct, c.stores⟩, fun _ => rfl, fun _ => rfl, fun _ => rfl, fun h => absurd h (by decide), fun _ => rfl, fun _ => rfl, fun _ => rfl, fun _ => rfl, fun _ => rfl, fun _ => rfl, fun _ => rfl, fun _ => rfl, fun _ => rfl, fun _ => rfl, fun _ => rfl, fun _ => rfl, fun _ => rfl, fun _ => rfl, fun _ => rfl, fun _ => rfl, fun _ => rfl, fun _ => rfl, fun _ => rfl, fun _ => rfl, fun _ => rfl, fun _ => rfl, fun _ => rfl, fun _ => rfl, fun _ => rfl, fun _ => rfl, fun _ => rfl, fun _ => rfl, fun _ => rfl, fun _ => rfl, fun _ => rfl, fun _ => rfl, fun _ => rfl, fun _ => rfl, fun _ => rfl, fun _ => rfl, fun _ => rfl, fun _ => rfl, fun _ _ => rfl⟩ hM h

theorem Keeps.set_clk {M : Nat} {s x : State} (e) (hM : 0x2 ||| M = M) (h : Keeps M s x) : Keeps M s { x with clk := e } :=
  Keeps.step (m := 0x2) (x := x) ⟨fun c => ⟨c.regs, c.ddr, c.flash, c.direct, c.stores⟩, fun _ => rfl, fun _ => rfl, fun _ => rfl, fun _ => rfl, fun _ => rfl, fun _ => rfl, fun _ => rfl, fun _ => rfl, fun _ => rfl, fun _ => rfl, fun _ => rfl, fun _ => rfl, fun _ => rfl, fun _ => rfl, fun _ => rfl, fun _ => rfl, fun _ => rfl, fun _ => rfl, fun _ => rfl, fun _ => rfl, fun _ => rfl, fun _ => rfl, fun _ => rfl, fun _ => rfl, fun _ => rfl, fun _ => rfl, fun _ => rfl, fun _ => rfl, fun _ => rfl, fun _ => rfl, fun _ => rfl, fun _ => rfl, fun _ => rfl, fun _ => rfl, fun _ => rfl, fun _ => rfl, fun _ => rfl, fun _ => rfl, fun _ => rfl, fun _ => rfl, fun h => absurd h (by decide), fun _ => rfl, fun _ _ => rfl⟩ hM h

theorem Keeps.set_held {M : Nat} {s x : State} (e) (hM : 0x8 ||| M = M) (h : Keeps M s x) : Keeps M s { x with held := e } :=
  Keeps.step (m := 0x8) (x := x) ⟨fun c => ⟨c.regs, c.ddr, c.flash, c.direct, c.stores⟩, fun _ => rfl, fun _ => rfl, fun _ => rfl, fun _ => rfl, fun _ => rfl, fun _ => rfl, fun _ => rfl, fun _ => rfl, fun _ => rfl, fun _ => rfl, fun _ => rfl, fun _ => rfl, fun _ => rfl, fun _ => rfl, fun _ => rfl, fun _ => rfl, fun _ => rfl, fun _ => rfl, fun _ => rfl, fun _ => rfl, fun _ => rfl, fun _ => rfl, fun _ => rfl, fun _ => rfl, fun _ => rfl, fun _ => rfl, fun _ => rfl, fun _ => rfl, fun _ => rfl, fun _ => rfl, fun _ => rfl, fun _ => rfl, fun _ => rfl, fun _ => rfl, fun _ => rfl, fun _ => rfl, fun _ => rfl, fun _ => rfl, fun _ => rfl, fun _ => rfl, fun _ => rfl, fun h => absurd h (by decide), fun _ _ => rfl⟩ hM h

theorem Keeps.set_written {M : Nat} {s x : State} (e) (hM : 0x10 ||| M = M) (h : Keeps M s x) : Keeps M s { x with written := e } :=
  Keeps.step (m := 0x10) (x := x) ⟨fun c => ⟨c.regs, c.ddr, c.flash, c.direct, c.stores⟩, fun _ => rfl, fun _ => rfl, fun _ => rfl, fun _ => rfl, fun h => absurd h (by decide), fun _ => rfl, fun _ => rfl, fun _ => rfl, fun _ => rfl, fun _ => rfl, fun _ => rfl, fun _ => rfl, fun _ => rfl, fun _ => rfl, fun _ => rfl, fun _ => rfl, fun _ => rfl, fun _ => rfl, fun _ => rfl, fun _ => rfl, fun _ => rfl, fun _ => rfl, fun _ => rfl, fun _ => rfl, fun _ => rfl, fun _ => rfl, fun _ => rfl, fun _ => rfl, fun _ => rfl, fun _ => rfl, fun _ => rfl, fun _ => rfl, fun _ => rfl, fun _ => rfl, fun _ => rfl, fun _ => rfl, fun _ => rfl, fun _ => rfl, fun _ => rfl, fun _ => rfl, fun _ => rfl, fun _ => rfl, fun _ _ => rfl⟩ hM h

theorem Keeps.set_snaps {M : Nat} {s x : State} (e) (hM : 0x20 ||| M = M) (h : Keeps M s x) : Keeps M s { x with snaps := e } :=
  Keeps.step (m := 0x20) (x := x) ⟨fun c => ⟨c.regs, c.ddr, c.flash, c.direct, c.stores⟩, fun _ => rfl, fun _ => rfl, fun _ => rfl, fun _ => rfl, fun _ => rfl, fun h => absurd h (by decide), fun _ => rfl, fun _ => rfl, fun _ => rfl, fun _ => rfl, fun _ => rfl, fun _ => rfl, fun _ => rfl, fun _ => rfl, fun _ => rfl, fun _ => rfl, fun _ => rfl, fun _ => rfl, fun _ => rfl, fun _ => rfl, fun _ => rfl, fun _ => rfl, fun _ => rfl, fun _ => rfl, fun _ => rfl, fun _ => rfl, fun _ => rfl, fun _ => rfl, fun _ => rfl, fun _ => rfl, fun _ => rfl, fun _ => rfl, fun _ => rfl, fun _ => rfl, fun _ => rfl, fun _ => rfl, fun _ => rfl, fun _ => rfl, fun _ => rfl, fun _ => rfl, fun _ => rfl, fun _ => rfl, fun _ _ => rfl⟩ hM h

theorem Keeps.set_snapAt {M : Nat} {s x : State} (e) (hM : 0x40 ||| M = M) (h : Keeps M s x) : Keeps M s { x with snapAt := e } :=
  Keeps.step (m := 0x40) (x := x) ⟨fun c => ⟨c.regs, c.ddr, c.flash, c.direct, c.stores⟩, fun _ => rfl, fun _ => rfl, fun _ => rfl, fun _ => rfl, fun _ => rfl, fun _ => rfl, fun h => absurd h (by decide), fun _ => rfl, fun _ => rfl, fun _ => rfl, fun _ => rfl, fun _ => rfl, fun _ => rfl, fun _ => rfl, fun _ => rfl, fun _ => rfl, fun _ => rfl, fun _ => rfl, fun _ => rfl, fun _ => rfl, fun _ => rfl, fun _ => rfl, fun _ => rfl, fun _ => rfl, fun _ => rfl, fun _ => rfl, fun _ => rfl, fun _ => rfl, fun _ => rfl, fun _ => rfl, fun _ => rfl, fun _ => rfl, fun _ => rfl, fun _ => rfl, fun _ => rfl, fun _ => rfl, fun _ => rfl, fun _ => rfl, fun _ => rfl, fun _ => rfl, fun _ => rfl, fun _ => rfl, fun _ _ => rfl⟩ hM h

theorem Keeps.set_wideHi {M : Nat} {s x : State} (e) (hM : 0x80 ||| M = M) (h : Keeps M s x) : Keeps M s { x with wideHi := e } :=
  Keeps.step (m := 0x80) (x := x) ⟨fun c => ⟨c.regs, c.ddr, c.flash, c.direct, c.stores⟩, fun _ => rfl, fun _ => rfl, fun _ => rfl, fun _ => rfl, fun _ => rfl, fun _ => rfl, fun _ => rfl, fun h => absurd h (by decide), fun _ => rfl, fun _ => rfl, fun _ => rfl, fun _ => rfl, fun _ => rfl, fun _ => rfl, fun _ => rfl, fun _ => rfl, fun _ => rfl, fun _ => rfl, fun _ => rfl, fun _ => rfl, fun _ => rfl, fun _ => rfl, fun _ => rfl, fun _ => rfl, fun _ => rfl, fun _ => rfl, fun _ => rfl, fun _ => rfl, fun _ => rfl, fun _ => rfl, fun _ => rfl, fun _ => rfl, fun _ => rfl, fun _ => rfl, fun _ => rfl, fun _ => rfl, fun _ => rfl, fun _ => rfl, fun _ => rfl, fun _ => rfl, fun _ => rfl, fun _ => rfl, fun _ _ => rfl⟩ hM h

theorem Keeps.set_rdata {M : Nat} {s x : State} (e) (hM : 0x100 ||| M = M) (h : Keeps M s x) : Keeps M s { x with rdata := e } :=
  Keeps.step (m := 0x100) (x := x) ⟨fun c => ⟨c.regs, c.ddr, c.flash, c.direct, c.stores⟩, fun _ => rfl, fun _ => rfl, fun _ => rfl, fun _ => rfl, fun _ => rfl, fun _ => rfl, fun _ => rfl, fun _ => rfl, fun h => absurd h (by decide), fun _ => rfl, fun _ => rfl, fun _ => rfl, fun _ => rfl, fun _ => rfl, fun _ => rfl, fun _ => rfl, fun _ => rfl, fun _ => rfl, fun _ => rfl, fun _ => rfl, fun _ => rfl, fun _ => rfl, fun _ => rfl, fun _ => rfl, fun _ => rfl, fun _ => rfl, fun _ => rfl, fun _ => rfl, fun _ => rfl, fun _ => rfl, fun _ => rfl, fun _ => rfl, fun _ => rfl, fun _ => rfl, fun _ => rfl, fun _ => rfl, fun _ => rfl, fun _ => rfl, fun _ => rfl, fun _ => rfl, fun _ => rfl, fun _ => rfl, fun _ _ => rfl⟩ hM h

theorem Keeps.set_out {M : Nat} {s x : State} (e) (hM : 0x200 ||| M = M) (h : Keeps M s x) : Keeps M s { x with out := e } :=
  Keeps.step (m := 0x200) (x := x) ⟨fun c => ⟨c.regs, c.ddr, c.flash, c.direct, c.stores⟩, fun _ => rfl, fun _ => rfl, fun _ => rfl, fun _ => rfl, fun _ => rfl, fun _ => rfl, fun _ => rfl, fun _ => rfl, fun _ => rfl, fun h => absurd h (by decide), fun _ => rfl, fun _ => rfl, fun _ => rfl, fun _ => rfl, fun _ => rfl, fun _ => rfl, fun _ => rfl, fun _ => rfl, fun _ => rfl, fun _ => rfl, fun _ => rfl, fun _ => rfl, fun _ => rfl, fun _ => rfl, fun _ => rfl, fun _ => rfl, fun _ => rfl, fun _ => rfl, fun _ => rfl, fun _ => rfl, fun _ => rfl, fun _ => rfl, fun _ => rfl, fun _ => rfl, fun _ => rfl, fun _ => rfl, fun _ => rfl, fun _ => rfl, fun _ => rfl, fun _ => rfl, fun _ => rfl, fun _ => rfl, fun _ _ => rfl⟩ hM h

theorem Keeps.set_draws {M : Nat} {s x : State} (e) (hM : 0x400 ||| M = M) (h : Keeps M s x) : Keeps M s { x with draws := e } :=
  Keeps.step (m := 0x400) (x := x) ⟨fun c => ⟨c.regs, c.ddr, c.flash, c.direct, c.stores⟩, fun _ => rfl, fun _ => rfl, fun _ => rfl, fun _ => rfl, fun _ => rfl, fun _ => rfl, fun _ => rfl, fun _ => rfl, fun _ => rfl, fun _ => rfl, fun h => absurd h (by decide), fun _ => rfl, fun _ => rfl, fun _ => rfl, fun _ => rfl, fun _ => rfl, fun _ => rfl, fun _ => rfl, fun _ => rfl, fun _ => rfl, fun _ => rfl, fun _ => rfl, fun _ => rfl, fun _ => rfl, fun _ => rfl, fun _ => rfl, fun _ => rfl, fun _ => rfl, fun _ => rfl, fun _ => rfl, fun _ => rfl, fun _ => rfl, fun _ => rfl, fun _ => rfl, fun _ => rfl, fun _ => rfl, fun _ => rfl, fun _ => rfl, fun _ => rfl, fun _ => rfl, fun _ => rfl, fun _ => rfl, fun _ _ => rfl⟩ hM h

theorem Keeps.set_count {M : Nat} {s x : State} (e) (hM : 0x800 ||| M = M) (h : Keeps M s x) : Keeps M s { x with count := e } :=
  Keeps.step (m := 0x800) (x := x) ⟨fun c => ⟨c.regs, c.ddr, c.flash, c.direct, c.stores⟩, fun _ => rfl, fun _ => rfl, fun _ => rfl, fun _ => rfl, fun _ => rfl, fun _ => rfl, fun _ => rfl, fun _ => rfl, fun _ => rfl, fun _ => rfl, fun _ => rfl, fun h => absurd h (by decide), fun _ => rfl, fun _ => rfl, fun _ => rfl, fun _ => rfl, fun _ => rfl, fun _ => rfl, fun _ => rfl, fun _ => rfl, fun _ => rfl, fun _ => rfl, fun _ => rfl, fun _ => rfl, fun _ => rfl, fun _ => rfl, fun _ => rfl, fun _ => rfl, fun _ => rfl, fun _ => rfl, fun _ => rfl, fun _ => rfl, fun _ => rfl, fun _ => rfl, fun _ => rfl, fun _ => rfl, fun _ => rfl, fun _ => rfl, fun _ => rfl, fun _ => rfl, fun _ => rfl, fun _ => rfl, fun _ _ => rfl⟩ hM h

theorem Keeps.set_wdl {M : Nat} {s x : State} (e) (hM : 0x1000 ||| M = M) (h : Keeps M s x) : Keeps M s { x with wdl := e } :=
  Keeps.step (m := 0x1000) (x := x) ⟨fun c => ⟨c.regs, c.ddr, c.flash, c.direct, c.stores⟩, fun _ => rfl, fun _ => rfl, fun _ => rfl, fun _ => rfl, fun _ => rfl, fun _ => rfl, fun _ => rfl, fun _ => rfl, fun _ => rfl, fun _ => rfl, fun _ => rfl, fun _ => rfl, fun h => absurd h (by decide), fun _ => rfl, fun _ => rfl, fun _ => rfl, fun _ => rfl, fun _ => rfl, fun _ => rfl, fun _ => rfl, fun _ => rfl, fun _ => rfl, fun _ => rfl, fun _ => rfl, fun _ => rfl, fun _ => rfl, fun _ => rfl, fun _ => rfl, fun _ => rfl, fun _ => rfl, fun _ => rfl, fun _ => rfl, fun _ => rfl, fun _ => rfl, fun _ => rfl, fun _ => rfl, fun _ => rfl, fun _ => rfl, fun _ => rfl, fun _ => rfl, fun _ => rfl, fun _ => rfl, fun _ _ => rfl⟩ hM h

theorem Keeps.set_pins {M : Nat} {s x : State} (e) (hM : 0x2000 ||| M = M) (h : Keeps M s x) : Keeps M s { x with pins := e } :=
  Keeps.step (m := 0x2000) (x := x) ⟨fun c => ⟨c.regs, c.ddr, c.flash, c.direct, c.stores⟩, fun _ => rfl, fun _ => rfl, fun _ => rfl, fun _ => rfl, fun _ => rfl, fun _ => rfl, fun _ => rfl, fun _ => rfl, fun _ => rfl, fun _ => rfl, fun _ => rfl, fun _ => rfl, fun _ => rfl, fun h => absurd h (by decide), fun _ => rfl, fun _ => rfl, fun _ => rfl, fun _ => rfl, fun _ => rfl, fun _ => rfl, fun _ => rfl, fun _ => rfl, fun _ => rfl, fun _ => rfl, fun _ => rfl, fun _ => rfl, fun _ => rfl, fun _ => rfl, fun _ => rfl, fun _ => rfl, fun _ => rfl, fun _ => rfl, fun _ => rfl, fun _ => rfl, fun _ => rfl, fun _ => rfl, fun _ => rfl, fun _ => rfl, fun _ => rfl, fun _ => rfl, fun _ => rfl, fun _ => rfl, fun _ _ => rfl⟩ hM h

theorem Keeps.set_safe {M : Nat} {s x : State} (e) (hM : 0x4000 ||| M = M) (h : Keeps M s x) : Keeps M s { x with safe := e } :=
  Keeps.step (m := 0x4000) (x := x) ⟨fun c => ⟨c.regs, c.ddr, c.flash, c.direct, c.stores⟩, fun _ => rfl, fun _ => rfl, fun _ => rfl, fun _ => rfl, fun _ => rfl, fun _ => rfl, fun _ => rfl, fun _ => rfl, fun _ => rfl, fun _ => rfl, fun _ => rfl, fun _ => rfl, fun _ => rfl, fun _ => rfl, fun h => absurd h (by decide), fun _ => rfl, fun _ => rfl, fun _ => rfl, fun _ => rfl, fun _ => rfl, fun _ => rfl, fun _ => rfl, fun _ => rfl, fun _ => rfl, fun _ => rfl, fun _ => rfl, fun _ => rfl, fun _ => rfl, fun _ => rfl, fun _ => rfl, fun _ => rfl, fun _ => rfl, fun _ => rfl, fun _ => rfl, fun _ => rfl, fun _ => rfl, fun _ => rfl, fun _ => rfl, fun _ => rfl, fun _ => rfl, fun _ => rfl, fun _ => rfl, fun _ _ => rfl⟩ hM h

theorem Keeps.set_lanes {M : Nat} {s x : State} (e) (hM : 0x8000 ||| M = M) (h : Keeps M s x) : Keeps M s { x with lanes := e } :=
  Keeps.step (m := 0x8000) (x := x) ⟨fun c => ⟨c.regs, c.ddr, c.flash, c.direct, c.stores⟩, fun _ => rfl, fun _ => rfl, fun _ => rfl, fun _ => rfl, fun _ => rfl, fun _ => rfl, fun _ => rfl, fun _ => rfl, fun _ => rfl, fun _ => rfl, fun _ => rfl, fun _ => rfl, fun _ => rfl, fun _ => rfl, fun _ => rfl, fun h => absurd h (by decide), fun _ => rfl, fun _ => rfl, fun _ => rfl, fun _ => rfl, fun _ => rfl, fun _ => rfl, fun _ => rfl, fun _ => rfl, fun _ => rfl, fun _ => rfl, fun _ => rfl, fun _ => rfl, fun _ => rfl, fun _ => rfl, fun _ => rfl, fun _ => rfl, fun _ => rfl, fun _ => rfl, fun _ => rfl, fun _ => rfl, fun _ => rfl, fun _ => rfl, fun _ => rfl, fun _ => rfl, fun _ => rfl, fun _ => rfl, fun _ _ => rfl⟩ hM h

theorem Keeps.set_chans {M : Nat} {s x : State} (e) (hM : 0x10000 ||| M = M) (h : Keeps M s x) : Keeps M s { x with chans := e } :=
  Keeps.step (m := 0x10000) (x := x) ⟨fun c => ⟨c.regs, c.ddr, c.flash, c.direct, c.stores⟩, fun _ => rfl, fun _ => rfl, fun _ => rfl, fun _ => rfl, fun _ => rfl, fun _ => rfl, fun _ => rfl, fun _ => rfl, fun _ => rfl, fun _ => rfl, fun _ => rfl, fun _ => rfl, fun _ => rfl, fun _ => rfl, fun _ => rfl, fun _ => rfl, fun h => absurd h (by decide), fun _ => rfl, fun _ => rfl, fun _ => rfl, fun _ => rfl, fun _ => rfl, fun _ => rfl, fun _ => rfl, fun _ => rfl, fun _ => rfl, fun _ => rfl, fun _ => rfl, fun _ => rfl, fun _ => rfl, fun _ => rfl, fun _ => rfl, fun _ => rfl, fun _ => rfl, fun _ => rfl, fun _ => rfl, fun _ => rfl, fun _ => rfl, fun _ => rfl, fun _ => rfl, fun _ => rfl, fun _ => rfl, fun _ _ => rfl⟩ hM h

theorem Keeps.set_rref {M : Nat} {s x : State} (e) (hM : 0x20000 ||| M = M) (h : Keeps M s x) : Keeps M s { x with rref := e } :=
  Keeps.step (m := 0x20000) (x := x) ⟨fun c => ⟨c.regs, c.ddr, c.flash, c.direct, c.stores⟩, fun _ => rfl, fun _ => rfl, fun _ => rfl, fun _ => rfl, fun _ => rfl, fun _ => rfl, fun _ => rfl, fun _ => rfl, fun _ => rfl, fun _ => rfl, fun _ => rfl, fun _ => rfl, fun _ => rfl, fun _ => rfl, fun _ => rfl, fun _ => rfl, fun _ => rfl, fun h => absurd h (by decide), fun _ => rfl, fun _ => rfl, fun _ => rfl, fun _ => rfl, fun _ => rfl, fun _ => rfl, fun _ => rfl, fun _ => rfl, fun _ => rfl, fun _ => rfl, fun _ => rfl, fun _ => rfl, fun _ => rfl, fun _ => rfl, fun _ => rfl, fun _ => rfl, fun _ => rfl, fun _ => rfl, fun _ => rfl, fun _ => rfl, fun _ => rfl, fun _ => rfl, fun _ => rfl, fun _ => rfl, fun _ _ => rfl⟩ hM h

theorem Keeps.set_units {M : Nat} {s x : State} (e) (hM : 0x40000 ||| M = M) (h : Keeps M s x) : Keeps M s { x with units := e } :=
  Keeps.step (m := 0x40000) (x := x) ⟨fun c => ⟨c.regs, c.ddr, c.flash, c.direct, c.stores⟩, fun _ => rfl, fun _ => rfl, fun _ => rfl, fun _ => rfl, fun _ => rfl, fun _ => rfl, fun _ => rfl, fun _ => rfl, fun _ => rfl, fun _ => rfl, fun _ => rfl, fun _ => rfl, fun _ => rfl, fun _ => rfl, fun _ => rfl, fun _ => rfl, fun _ => rfl, fun _ => rfl, fun h => absurd h (by decide), fun _ => rfl, fun _ => rfl, fun _ => rfl, fun _ => rfl, fun _ => rfl, fun _ => rfl, fun _ => rfl, fun _ => rfl, fun _ => rfl, fun _ => rfl, fun _ => rfl, fun _ => rfl, fun _ => rfl, fun _ => rfl, fun _ => rfl, fun _ => rfl, fun _ => rfl, fun _ => rfl, fun _ => rfl, fun _ => rfl, fun _ => rfl, fun _ => rfl, fun _ => rfl, fun _ _ => rfl⟩ hM h

theorem Keeps.set_fns {M : Nat} {s x : State} (e) (hM : 0x80000 ||| M = M) (h : Keeps M s x) : Keeps M s { x with fns := e } :=
  Keeps.step (m := 0x80000) (x := x) ⟨fun c => ⟨c.regs, c.ddr, c.flash, c.direct, c.stores⟩, fun _ => rfl, fun _ => rfl, fun _ => rfl, fun _ => rfl, fun _ => rfl, fun _ => rfl, fun _ => rfl, fun _ => rfl, fun _ => rfl, fun _ => rfl, fun _ => rfl, fun _ => rfl, fun _ => rfl, fun _ => rfl, fun _ => rfl, fun _ => rfl, fun _ => rfl, fun _ => rfl, fun _ => rfl, fun h => absurd h (by decide), fun _ => rfl, fun _ => rfl, fun _ => rfl, fun _ => rfl, fun _ => rfl, fun _ => rfl, fun _ => rfl, fun _ => rfl, fun _ => rfl, fun _ => rfl, fun _ => rfl, fun _ => rfl, fun _ => rfl, fun _ => rfl, fun _ => rfl, fun _ => rfl, fun _ => rfl, fun _ => rfl, fun _ => rfl, fun _ => rfl, fun _ => rfl, fun _ => rfl, fun _ _ => rfl⟩ hM h

theorem Keeps.set_ports {M : Nat} {s x : State} (e) (hM : 0x100000 ||| M = M) (h : Keeps M s x) : Keeps M s { x with ports := e } :=
  Keeps.step (m := 0x100000) (x := x) ⟨fun c => ⟨c.regs, c.ddr, c.flash, c.direct, c.stores⟩, fun _ => rfl, fun _ => rfl, fun _ => rfl, fun _ => rfl, fun _ => rfl, fun _ => rfl, fun _ => rfl, fun _ => rfl, fun _ => rfl, fun _ => rfl, fun _ => rfl, fun _ => rfl, fun _ => rfl, fun _ => rfl, fun _ => rfl, fun _ => rfl, fun _ => rfl, fun _ => rfl, fun _ => rfl, fun _ => rfl, fun h => absurd h (by decide), fun _ => rfl, fun _ => rfl, fun _ => rfl, fun _ => rfl, fun _ => rfl, fun _ => rfl, fun _ => rfl, fun _ => rfl, fun _ => rfl, fun _ => rfl, fun _ => rfl, fun _ => rfl, fun _ => rfl, fun _ => rfl, fun _ => rfl, fun _ => rfl, fun _ => rfl, fun _ => rfl, fun _ => rfl, fun _ => rfl, fun _ => rfl, fun _ _ => rfl⟩ hM h

theorem Keeps.set_saks {M : Nat} {s x : State} (e) (hM : 0x200000 ||| M = M) (h : Keeps M s x) : Keeps M s { x with saks := e } :=
  Keeps.step (m := 0x200000) (x := x) ⟨fun c => ⟨c.regs, c.ddr, c.flash, c.direct, c.stores⟩, fun _ => rfl, fun _ => rfl, fun _ => rfl, fun _ => rfl, fun _ => rfl, fun _ => rfl, fun _ => rfl, fun _ => rfl, fun _ => rfl, fun _ => rfl, fun _ => rfl, fun _ => rfl, fun _ => rfl, fun _ => rfl, fun _ => rfl, fun _ => rfl, fun _ => rfl, fun _ => rfl, fun _ => rfl, fun _ => rfl, fun _ => rfl, fun h => absurd h (by decide), fun _ => rfl, fun _ => rfl, fun _ => rfl, fun _ => rfl, fun _ => rfl, fun _ => rfl, fun _ => rfl, fun _ => rfl, fun _ => rfl, fun _ => rfl, fun _ => rfl, fun _ => rfl, fun _ => rfl, fun _ => rfl, fun _ => rfl, fun _ => rfl, fun _ => rfl, fun _ => rfl, fun _ => rfl, fun _ => rfl, fun _ _ => rfl⟩ hM h

theorem Keeps.set_pipe {M : Nat} {s x : State} (e) (hM : 0x400000 ||| M = M) (h : Keeps M s x) : Keeps M s { x with pipe := e } :=
  Keeps.step (m := 0x400000) (x := x) ⟨fun c => ⟨c.regs, c.ddr, c.flash, c.direct, c.stores⟩, fun _ => rfl, fun _ => rfl, fun _ => rfl, fun _ => rfl, fun _ => rfl, fun _ => rfl, fun _ => rfl, fun _ => rfl, fun _ => rfl, fun _ => rfl, fun _ => rfl, fun _ => rfl, fun _ => rfl, fun _ => rfl, fun _ => rfl, fun _ => rfl, fun _ => rfl, fun _ => rfl, fun _ => rfl, fun _ => rfl, fun _ => rfl, fun _ => rfl, fun h => absurd h (by decide), fun _ => rfl, fun _ => rfl, fun _ => rfl, fun _ => rfl, fun _ => rfl, fun _ => rfl, fun _ => rfl, fun _ => rfl, fun _ => rfl, fun _ => rfl, fun _ => rfl, fun _ => rfl, fun _ => rfl, fun _ => rfl, fun _ => rfl, fun _ => rfl, fun _ => rfl, fun _ => rfl, fun _ => rfl, fun _ _ => rfl⟩ hM h

theorem Keeps.set_ryk {M : Nat} {s x : State} (e) (hM : 0x1000000 ||| M = M) (h : Keeps M s x) : Keeps M s { x with ryk := e } :=
  Keeps.step (m := 0x1000000) (x := x) ⟨fun c => ⟨c.regs, c.ddr, c.flash, c.direct, c.stores⟩, fun _ => rfl, fun _ => rfl, fun _ => rfl, fun _ => rfl, fun _ => rfl, fun _ => rfl, fun _ => rfl, fun _ => rfl, fun _ => rfl, fun _ => rfl, fun _ => rfl, fun _ => rfl, fun _ => rfl, fun _ => rfl, fun _ => rfl, fun _ => rfl, fun _ => rfl, fun _ => rfl, fun _ => rfl, fun _ => rfl, fun _ => rfl, fun _ => rfl, fun _ => rfl, fun _ => rfl, fun h => absurd h (by decide), fun _ => rfl, fun _ => rfl, fun _ => rfl, fun _ => rfl, fun _ => rfl, fun _ => rfl, fun _ => rfl, fun _ => rfl, fun _ => rfl, fun _ => rfl, fun _ => rfl, fun _ => rfl, fun _ => rfl, fun _ => rfl, fun _ => rfl, fun _ => rfl, fun _ => rfl, fun _ _ => rfl⟩ hM h

theorem Keeps.set_host {M : Nat} {s x : State} (e) (hM : 0x2000000 ||| M = M) (h : Keeps M s x) : Keeps M s { x with host := e } :=
  Keeps.step (m := 0x2000000) (x := x) ⟨fun c => ⟨c.regs, c.ddr, c.flash, c.direct, c.stores⟩, fun _ => rfl, fun _ => rfl, fun _ => rfl, fun _ => rfl, fun _ => rfl, fun _ => rfl, fun _ => rfl, fun _ => rfl, fun _ => rfl, fun _ => rfl, fun _ => rfl, fun _ => rfl, fun _ => rfl, fun _ => rfl, fun _ => rfl, fun _ => rfl, fun _ => rfl, fun _ => rfl, fun _ => rfl, fun _ => rfl, fun _ => rfl, fun _ => rfl, fun _ => rfl, fun _ => rfl, fun _ => rfl, fun h => absurd h (by decide), fun _ => rfl, fun _ => rfl, fun _ => rfl, fun _ => rfl, fun _ => rfl, fun _ => rfl, fun _ => rfl, fun _ => rfl, fun _ => rfl, fun _ => rfl, fun _ => rfl, fun _ => rfl, fun _ => rfl, fun _ => rfl, fun _ => rfl, fun _ => rfl, fun _ _ => rfl⟩ hM h

theorem Keeps.set_energy {M : Nat} {s x : State} (e) (hM : 0x4000000 ||| M = M) (h : Keeps M s x) : Keeps M s { x with energy := e } :=
  Keeps.step (m := 0x4000000) (x := x) ⟨fun c => ⟨c.regs, c.ddr, c.flash, c.direct, c.stores⟩, fun _ => rfl, fun _ => rfl, fun _ => rfl, fun _ => rfl, fun _ => rfl, fun _ => rfl, fun _ => rfl, fun _ => rfl, fun _ => rfl, fun _ => rfl, fun _ => rfl, fun _ => rfl, fun _ => rfl, fun _ => rfl, fun _ => rfl, fun _ => rfl, fun _ => rfl, fun _ => rfl, fun _ => rfl, fun _ => rfl, fun _ => rfl, fun _ => rfl, fun _ => rfl, fun _ => rfl, fun _ => rfl, fun _ => rfl, fun h => absurd h (by decide), fun _ => rfl, fun _ => rfl, fun _ => rfl, fun _ => rfl, fun _ => rfl, fun _ => rfl, fun _ => rfl, fun _ => rfl, fun _ => rfl, fun _ => rfl, fun _ => rfl, fun _ => rfl, fun _ => rfl, fun _ => rfl, fun _ => rfl, fun _ _ => rfl⟩ hM h

theorem Keeps.set_net {M : Nat} {s x : State} (e) (hM : 0x8000000 ||| M = M) (h : Keeps M s x) : Keeps M s { x with net := e } :=
  Keeps.step (m := 0x8000000) (x := x) ⟨fun c => ⟨c.regs, c.ddr, c.flash, c.direct, c.stores⟩, fun _ => rfl, fun _ => rfl, fun _ => rfl, fun _ => rfl, fun _ => rfl, fun _ => rfl, fun _ => rfl, fun _ => rfl, fun _ => rfl, fun _ => rfl, fun _ => rfl, fun _ => rfl, fun _ => rfl, fun _ => rfl, fun _ => rfl, fun _ => rfl, fun _ => rfl, fun _ => rfl, fun _ => rfl, fun _ => rfl, fun _ => rfl, fun _ => rfl, fun _ => rfl, fun _ => rfl, fun _ => rfl, fun _ => rfl, fun _ => rfl, fun h => absurd h (by decide), fun _ => rfl, fun _ => rfl, fun _ => rfl, fun _ => rfl, fun _ => rfl, fun _ => rfl, fun _ => rfl, fun _ => rfl, fun _ => rfl, fun _ => rfl, fun _ => rfl, fun _ => rfl, fun _ => rfl, fun _ => rfl, fun _ _ => rfl⟩ hM h

theorem Keeps.set_batches {M : Nat} {s x : State} (e) (hM : 0x20000000 ||| M = M) (h : Keeps M s x) : Keeps M s { x with batches := e } :=
  Keeps.step (m := 0x20000000) (x := x) ⟨fun c => ⟨c.regs, c.ddr, c.flash, c.direct, c.stores⟩, fun _ => rfl, fun _ => rfl, fun _ => rfl, fun _ => rfl, fun _ => rfl, fun _ => rfl, fun _ => rfl, fun _ => rfl, fun _ => rfl, fun _ => rfl, fun _ => rfl, fun _ => rfl, fun _ => rfl, fun _ => rfl, fun _ => rfl, fun _ => rfl, fun _ => rfl, fun _ => rfl, fun _ => rfl, fun _ => rfl, fun _ => rfl, fun _ => rfl, fun _ => rfl, fun _ => rfl, fun _ => rfl, fun _ => rfl, fun _ => rfl, fun _ => rfl, fun _ => rfl, fun h => absurd h (by decide), fun _ => rfl, fun _ => rfl, fun _ => rfl, fun _ => rfl, fun _ => rfl, fun _ => rfl, fun _ => rfl, fun _ => rfl, fun _ => rfl, fun _ => rfl, fun _ => rfl, fun _ => rfl, fun _ _ => rfl⟩ hM h

theorem Keeps.set_pumps {M : Nat} {s x : State} (e) (hM : 0x80000000 ||| M = M) (h : Keeps M s x) : Keeps M s { x with pumps := e } :=
  Keeps.step (m := 0x80000000) (x := x) ⟨fun c => ⟨c.regs, c.ddr, c.flash, c.direct, c.stores⟩, fun _ => rfl, fun _ => rfl, fun _ => rfl, fun _ => rfl, fun _ => rfl, fun _ => rfl, fun _ => rfl, fun _ => rfl, fun _ => rfl, fun _ => rfl, fun _ => rfl, fun _ => rfl, fun _ => rfl, fun _ => rfl, fun _ => rfl, fun _ => rfl, fun _ => rfl, fun _ => rfl, fun _ => rfl, fun _ => rfl, fun _ => rfl, fun _ => rfl, fun _ => rfl, fun _ => rfl, fun _ => rfl, fun _ => rfl, fun _ => rfl, fun _ => rfl, fun _ => rfl, fun _ => rfl, fun _ => rfl, fun h => absurd h (by decide), fun _ => rfl, fun _ => rfl, fun _ => rfl, fun _ => rfl, fun _ => rfl, fun _ => rfl, fun _ => rfl, fun _ => rfl, fun _ => rfl, fun _ => rfl, fun _ _ => rfl⟩ hM h

theorem Keeps.set_pcie {M : Nat} {s x : State} (e) (hM : 0x100000000 ||| M = M) (h : Keeps M s x) : Keeps M s { x with pcie := e } :=
  Keeps.step (m := 0x100000000) (x := x) ⟨fun c => ⟨c.regs, c.ddr, c.flash, c.direct, c.stores⟩, fun _ => rfl, fun _ => rfl, fun _ => rfl, fun _ => rfl, fun _ => rfl, fun _ => rfl, fun _ => rfl, fun _ => rfl, fun _ => rfl, fun _ => rfl, fun _ => rfl, fun _ => rfl, fun _ => rfl, fun _ => rfl, fun _ => rfl, fun _ => rfl, fun _ => rfl, fun _ => rfl, fun _ => rfl, fun _ => rfl, fun _ => rfl, fun _ => rfl, fun _ => rfl, fun _ => rfl, fun _ => rfl, fun _ => rfl, fun _ => rfl, fun _ => rfl, fun _ => rfl, fun _ => rfl, fun _ => rfl, fun _ => rfl, fun h => absurd h (by decide), fun _ => rfl, fun _ => rfl, fun _ => rfl, fun _ => rfl, fun _ => rfl, fun _ => rfl, fun _ => rfl, fun _ => rfl, fun _ => rfl, fun _ _ => rfl⟩ hM h

theorem Keeps.set_lwl {M : Nat} {s x : State} (e) (hM : 0x200000000 ||| M = M) (h : Keeps M s x) : Keeps M s { x with lwl := e } :=
  Keeps.step (m := 0x200000000) (x := x) ⟨fun c => ⟨c.regs, c.ddr, c.flash, c.direct, c.stores⟩, fun _ => rfl, fun _ => rfl, fun _ => rfl, fun _ => rfl, fun _ => rfl, fun _ => rfl, fun _ => rfl, fun _ => rfl, fun _ => rfl, fun _ => rfl, fun _ => rfl, fun _ => rfl, fun _ => rfl, fun _ => rfl, fun _ => rfl, fun _ => rfl, fun _ => rfl, fun _ => rfl, fun _ => rfl, fun _ => rfl, fun _ => rfl, fun _ => rfl, fun _ => rfl, fun _ => rfl, fun _ => rfl, fun _ => rfl, fun _ => rfl, fun _ => rfl, fun _ => rfl, fun _ => rfl, fun _ => rfl, fun _ => rfl, fun _ => rfl, fun h => absurd h (by decide), fun _ => rfl, fun _ => rfl, fun _ => rfl, fun _ => rfl, fun _ => rfl, fun _ => rfl, fun _ => rfl, fun _ => rfl, fun _ _ => rfl⟩ hM h

theorem Keeps.set_sec {M : Nat} {s x : State} (e) (hM : 0x400000000 ||| M = M) (h : Keeps M s x) : Keeps M s { x with sec := e } :=
  Keeps.step (m := 0x400000000) (x := x) ⟨fun c => ⟨c.regs, c.ddr, c.flash, c.direct, c.stores⟩, fun _ => rfl, fun _ => rfl, fun _ => rfl, fun _ => rfl, fun _ => rfl, fun _ => rfl, fun _ => rfl, fun _ => rfl, fun _ => rfl, fun _ => rfl, fun _ => rfl, fun _ => rfl, fun _ => rfl, fun _ => rfl, fun _ => rfl, fun _ => rfl, fun _ => rfl, fun _ => rfl, fun _ => rfl, fun _ => rfl, fun _ => rfl, fun _ => rfl, fun _ => rfl, fun _ => rfl, fun _ => rfl, fun _ => rfl, fun _ => rfl, fun _ => rfl, fun _ => rfl, fun _ => rfl, fun _ => rfl, fun _ => rfl, fun _ => rfl, fun _ => rfl, fun h => absurd h (by decide), fun _ => rfl, fun _ => rfl, fun _ => rfl, fun _ => rfl, fun _ => rfl, fun _ => rfl, fun _ => rfl, fun _ _ => rfl⟩ hM h

theorem Keeps.set_load {M : Nat} {s x : State} (e) (hM : 0x1000000000 ||| M = M) (h : Keeps M s x) : Keeps M s { x with load := e } :=
  Keeps.step (m := 0x1000000000) (x := x) ⟨fun c => ⟨c.regs, c.ddr, c.flash, c.direct, c.stores⟩, fun _ => rfl, fun _ => rfl, fun _ => rfl, fun _ => rfl, fun _ => rfl, fun _ => rfl, fun _ => rfl, fun _ => rfl, fun _ => rfl, fun _ => rfl, fun _ => rfl, fun _ => rfl, fun _ => rfl, fun _ => rfl, fun _ => rfl, fun _ => rfl, fun _ => rfl, fun _ => rfl, fun _ => rfl, fun _ => rfl, fun _ => rfl, fun _ => rfl, fun _ => rfl, fun _ => rfl, fun _ => rfl, fun _ => rfl, fun _ => rfl, fun _ => rfl, fun _ => rfl, fun _ => rfl, fun _ => rfl, fun _ => rfl, fun _ => rfl, fun _ => rfl, fun _ => rfl, fun _ => rfl, fun h => absurd h (by decide), fun _ => rfl, fun _ => rfl, fun _ => rfl, fun _ => rfl, fun _ => rfl, fun _ _ => rfl⟩ hM h

theorem Keeps.set_fabric {M : Nat} {s x : State} (e) (hM : 0x2000000000 ||| M = M) (h : Keeps M s x) : Keeps M s { x with fabric := e } :=
  Keeps.step (m := 0x2000000000) (x := x) ⟨fun c => ⟨c.regs, c.ddr, c.flash, c.direct, c.stores⟩, fun _ => rfl, fun _ => rfl, fun _ => rfl, fun _ => rfl, fun _ => rfl, fun _ => rfl, fun _ => rfl, fun _ => rfl, fun _ => rfl, fun _ => rfl, fun _ => rfl, fun _ => rfl, fun _ => rfl, fun _ => rfl, fun _ => rfl, fun _ => rfl, fun _ => rfl, fun _ => rfl, fun _ => rfl, fun _ => rfl, fun _ => rfl, fun _ => rfl, fun _ => rfl, fun _ => rfl, fun _ => rfl, fun _ => rfl, fun _ => rfl, fun _ => rfl, fun _ => rfl, fun _ => rfl, fun _ => rfl, fun _ => rfl, fun _ => rfl, fun _ => rfl, fun _ => rfl, fun _ => rfl, fun _ => rfl, fun h => absurd h (by decide), fun _ => rfl, fun _ => rfl, fun _ => rfl, fun _ => rfl, fun _ _ => rfl⟩ hM h

theorem Keeps.set_cpc {M : Nat} {s x : State} (e) (hM : 0x4000000000 ||| M = M) (h : Keeps M s x) : Keeps M s { x with cpc := e } :=
  Keeps.step (m := 0x4000000000) (x := x) ⟨fun c => ⟨c.regs, c.ddr, c.flash, c.direct, c.stores⟩, fun _ => rfl, fun _ => rfl, fun _ => rfl, fun _ => rfl, fun _ => rfl, fun _ => rfl, fun _ => rfl, fun _ => rfl, fun _ => rfl, fun _ => rfl, fun _ => rfl, fun _ => rfl, fun _ => rfl, fun _ => rfl, fun _ => rfl, fun _ => rfl, fun _ => rfl, fun _ => rfl, fun _ => rfl, fun _ => rfl, fun _ => rfl, fun _ => rfl, fun _ => rfl, fun _ => rfl, fun _ => rfl, fun _ => rfl, fun _ => rfl, fun _ => rfl, fun _ => rfl, fun _ => rfl, fun _ => rfl, fun _ => rfl, fun _ => rfl, fun _ => rfl, fun _ => rfl, fun _ => rfl, fun _ => rfl, fun _ => rfl, fun h => absurd h (by decide), fun _ => rfl, fun _ => rfl, fun _ => rfl, fun _ _ => rfl⟩ hM h

theorem Keeps.set_tap {M : Nat} {s x : State} (e) (hM : 0x8000000000 ||| M = M) (h : Keeps M s x) : Keeps M s { x with tap := e } :=
  Keeps.step (m := 0x8000000000) (x := x) ⟨fun c => ⟨c.regs, c.ddr, c.flash, c.direct, c.stores⟩, fun _ => rfl, fun _ => rfl, fun _ => rfl, fun _ => rfl, fun _ => rfl, fun _ => rfl, fun _ => rfl, fun _ => rfl, fun _ => rfl, fun _ => rfl, fun _ => rfl, fun _ => rfl, fun _ => rfl, fun _ => rfl, fun _ => rfl, fun _ => rfl, fun _ => rfl, fun _ => rfl, fun _ => rfl, fun _ => rfl, fun _ => rfl, fun _ => rfl, fun _ => rfl, fun _ => rfl, fun _ => rfl, fun _ => rfl, fun _ => rfl, fun _ => rfl, fun _ => rfl, fun _ => rfl, fun _ => rfl, fun _ => rfl, fun _ => rfl, fun _ => rfl, fun _ => rfl, fun _ => rfl, fun _ => rfl, fun _ => rfl, fun _ => rfl, fun h => absurd h (by decide), fun _ => rfl, fun _ => rfl, fun _ _ => rfl⟩ hM h

theorem Keeps.set_ddr {M : Nat} {s x : State} (e : FMap (BitVec 8)) (hc : Mem.wf 0 x.ddr = true → Mem.wf 0 e = true)
    (hM : 0x800000 ||| M = M) (h : Keeps M s x) : Keeps M s { x with ddr := e } :=
  Keeps.step (m := 0x800000) (x := x) ⟨fun c => ⟨c.regs, hc c.ddr, c.flash, c.direct, c.stores⟩, fun _ => rfl, fun _ => rfl, fun _ => rfl, fun _ => rfl, fun _ => rfl, fun _ => rfl, fun _ => rfl, fun _ => rfl, fun _ => rfl, fun _ => rfl, fun _ => rfl, fun _ => rfl, fun _ => rfl, fun _ => rfl, fun _ => rfl, fun _ => rfl, fun _ => rfl, fun _ => rfl, fun _ => rfl, fun _ => rfl, fun _ => rfl, fun _ => rfl, fun _ => rfl, fun h => absurd h (by decide), fun _ => rfl, fun _ => rfl, fun _ => rfl, fun _ => rfl, fun _ => rfl, fun _ => rfl, fun _ => rfl, fun _ => rfl, fun _ => rfl, fun _ => rfl, fun _ => rfl, fun _ => rfl, fun _ => rfl, fun _ => rfl, fun _ => rfl, fun _ => rfl, fun _ => rfl, fun _ => rfl, fun _ _ => rfl⟩ hM h

theorem Keeps.set_memory {M : Nat} {s x : State} (e : Memory) (hc : Mem.wf 0 x.memory.direct = true → Mem.wf 0 e.direct = true)
    (hM : 0x40000000 ||| M = M) (h : Keeps M s x) : Keeps M s { x with memory := e } :=
  Keeps.step (m := 0x40000000) (x := x) ⟨fun c => ⟨c.regs, c.ddr, c.flash, hc c.direct, c.stores⟩, fun _ => rfl, fun _ => rfl, fun _ => rfl, fun _ => rfl, fun _ => rfl, fun _ => rfl, fun _ => rfl, fun _ => rfl, fun _ => rfl, fun _ => rfl, fun _ => rfl, fun _ => rfl, fun _ => rfl, fun _ => rfl, fun _ => rfl, fun _ => rfl, fun _ => rfl, fun _ => rfl, fun _ => rfl, fun _ => rfl, fun _ => rfl, fun _ => rfl, fun _ => rfl, fun _ => rfl, fun _ => rfl, fun _ => rfl, fun _ => rfl, fun _ => rfl, fun _ => rfl, fun _ => rfl, fun h => absurd h (by decide), fun _ => rfl, fun _ => rfl, fun _ => rfl, fun _ => rfl, fun _ => rfl, fun _ => rfl, fun _ => rfl, fun _ => rfl, fun _ => rfl, fun _ => rfl, fun _ => rfl, fun _ _ => rfl⟩ hM h

theorem Keeps.set_flash {M : Nat} {s x : State} (e : Flash) (hc : Mem.wf 0xFF x.flash.mem = true → Mem.wf 0xFF e.mem = true)
    (hM : 0x800000000 ||| M = M) (h : Keeps M s x) : Keeps M s { x with flash := e } :=
  Keeps.step (m := 0x800000000) (x := x) ⟨fun c => ⟨c.regs, c.ddr, hc c.flash, c.direct, c.stores⟩, fun _ => rfl, fun _ => rfl, fun _ => rfl, fun _ => rfl, fun _ => rfl, fun _ => rfl, fun _ => rfl, fun _ => rfl, fun _ => rfl, fun _ => rfl, fun _ => rfl, fun _ => rfl, fun _ => rfl, fun _ => rfl, fun _ => rfl, fun _ => rfl, fun _ => rfl, fun _ => rfl, fun _ => rfl, fun _ => rfl, fun _ => rfl, fun _ => rfl, fun _ => rfl, fun _ => rfl, fun _ => rfl, fun _ => rfl, fun _ => rfl, fun _ => rfl, fun _ => rfl, fun _ => rfl, fun _ => rfl, fun _ => rfl, fun _ => rfl, fun _ => rfl, fun _ => rfl, fun h => absurd h (by decide), fun _ => rfl, fun _ => rfl, fun _ => rfl, fun _ => rfl, fun _ => rfl, fun _ => rfl, fun _ _ => rfl⟩ hM h

theorem Keeps.set_tiles {M : Nat} {s x : State} (e : FMap Tile) (hc : (∀ a ∈ x.tiles, Mem.wf 0 a.2.store = true) → ∀ a ∈ e, Mem.wf 0 a.2.store = true)
    (hM : 0x10000000 ||| M = M) (h : Keeps M s x) : Keeps M s { x with tiles := e } :=
  Keeps.step (m := 0x10000000) (x := x) ⟨fun c => ⟨c.regs, c.ddr, c.flash, c.direct, hc c.stores⟩, fun _ => rfl, fun _ => rfl, fun _ => rfl, fun _ => rfl, fun _ => rfl, fun _ => rfl, fun _ => rfl, fun _ => rfl, fun _ => rfl, fun _ => rfl, fun _ => rfl, fun _ => rfl, fun _ => rfl, fun _ => rfl, fun _ => rfl, fun _ => rfl, fun _ => rfl, fun _ => rfl, fun _ => rfl, fun _ => rfl, fun _ => rfl, fun _ => rfl, fun _ => rfl, fun _ => rfl, fun _ => rfl, fun _ => rfl, fun _ => rfl, fun _ => rfl, fun h => absurd h (by decide), fun _ => rfl, fun _ => rfl, fun _ => rfl, fun _ => rfl, fun _ => rfl, fun _ => rfl, fun _ => rfl, fun _ => rfl, fun _ => rfl, fun _ => rfl, fun _ => rfl, fun _ => rfl, fun _ => rfl, fun _ _ => rfl⟩ hM h

/-! ### Registers -/

theorem State.setReg_keeps {M : Nat} {z s : State} {k : Nat} {v : Word} (h : Keeps M z s) (hM : 0x2 ||| M = M)
    (hp : InMask M (k / 4096) := by exact InMask.auto) : Keeps M z (s.setReg k v) where
  canon := fun c =>
    have k' : (s.setReg k v) = { s with regs := FMap.setC s.regs k v (regReset k) } := rfl
    have c' := h.canon c
    k' ▸ ⟨FMap.canonical_setC s.regs regReset k v c'.regs, c'.ddr, c'.flash, c'.direct, c'.stores⟩
  pending := fun hi => h.pending hi
  regs := fun hi => absurd (testBit_of_sub hM hi) (by decide)
  force := fun hi => h.force hi
  late := fun hi => h.late hi
  written := fun hi => h.written hi
  snaps := fun hi => h.snaps hi
  snapAt := fun hi => h.snapAt hi
  wideHi := fun hi => h.wideHi hi
  rdata := fun hi => h.rdata hi
  out := fun hi => h.out hi
  draws := fun hi => h.draws hi
  count := fun hi => h.count hi
  wdl := fun hi => h.wdl hi
  pins := fun hi => h.pins hi
  safe := fun hi => h.safe hi
  lanes := fun hi => h.lanes hi
  chans := fun hi => h.chans hi
  rref := fun hi => h.rref hi
  units := fun hi => h.units hi
  fns := fun hi => h.fns hi
  ports := fun hi => h.ports hi
  saks := fun hi => h.saks hi
  pipe := fun hi => h.pipe hi
  ddr := fun hi => h.ddr hi
  ryk := fun hi => h.ryk hi
  host := fun hi => h.host hi
  energy := fun hi => h.energy hi
  net := fun hi => h.net hi
  tiles := fun hi => h.tiles hi
  batches := fun hi => h.batches hi
  memory := fun hi => h.memory hi
  pumps := fun hi => h.pumps hi
  pcie := fun hi => h.pcie hi
  lwl := fun hi => h.lwl hi
  sec := fun hi => h.sec hi
  flash := fun hi => h.flash hi
  load := fun hi => h.load hi
  fabric := fun hi => h.fabric hi
  cpc := fun hi => h.cpc hi
  tap := fun hi => h.tap hi
  clk := fun hi => h.clk hi
  held := fun hi => h.held hi
  file := fun k' hk => (State.reg_setReg_ne s k v k' (fun e => hk (e ▸ hp))).trans (h.file k' hk)

theorem State.setFld_keeps {M : Nat} {z s : State} {p : Nat} {f : Fld} {x : Nat} (h : Keeps M z s) (hM : 0x2 ||| M = M)
    (hp : InMask M p := by exact InMask.auto) : Keeps M z (s.setFld p f x) :=
  State.setReg_keeps h hM (by rw [regKey_page]; exact hp)

/-- Entries left out at other keys. -/
theorem FMap.get?_filter {α : Type} (m : FMap α) (p : Nat × α → Bool) (k : Nat) (h : ∀ x, p (k, x) = true) :
    FMap.get? (m.filter p) k = FMap.get? m k := by
  induction m with
  | nil => rfl
  | cons e t ih =>
    obtain ⟨a, x⟩ := e
    rw [FMap.get?_cons]
    by_cases ha : a = k
    · subst ha
      rw [List.filter_cons_of_pos (h x), FMap.get?_cons, if_pos rfl, if_pos rfl]
    · rw [if_neg ha, ← ih]
      by_cases hp : p (a, x) = true
      · rw [List.filter_cons_of_pos hp, FMap.get?_cons, if_neg ha]
      · rw [List.filter_cons_of_neg hp]

/-- The stores of the tiles of a canonical state are canonical. -/
theorem State.Canonical.tile {s : State} (c : s.Canonical) (t : Nat) : Mem.wf 0 (s.tile t).store = true := by
  unfold State.tile FMap.getD
  cases hg : FMap.get? s.tiles t with
  | none => rfl
  | some x => exact c.stores (t, x) (FMap.mem_of_get? hg)

theorem Keeps.tile_wf {M : Nat} {z s : State} {t : Nat} (h : Keeps M z s) : z.Canonical → Mem.wf 0 (s.tile t).store = true :=
  fun c => (h.canon c).tile t

theorem Keeps.store_wf {z : State} {m : Mem} {a : Nat} {b : List Nat} (h : z.Canonical → Mem.wf 0 m = true) :
    z.Canonical → Mem.wf 0 (Mem.store 0 m a b) = true := fun c => Mem.wf_store 0 m a b (h c)

theorem State.memMap_keeps {M : Nat} {z s : State} {f : Memory → Memory} (h : Keeps M z s) (hM : 0x40000000 ||| M = M)
    (hf : ∀ m, Mem.wf 0 m.direct = true → Mem.wf 0 (f m).direct = true) : Keeps M z (s.memMap f) :=
  Keeps.set_memory (f s.memory) (hf s.memory) hM h

theorem State.flashMap_keeps {M : Nat} {z s : State} {f : Flash → Flash} (h : Keeps M z s) (hM : 0x800000000 ||| M = M)
    (hf : ∀ m, Mem.wf 0xFF m.mem = true → Mem.wf 0xFF (f m).mem = true) : Keeps M z (s.flashMap f) :=
  Keeps.set_flash (f s.flash) (hf s.flash) hM h

theorem State.setTile_keeps {M : Nat} {z s : State} {t : Nat} {x : Tile} (h : Keeps M z s) (hM : 0x10000000 ||| M = M)
    (hx : z.Canonical → Mem.wf 0 x.store = true) : Keeps M z (s.setTile t x) where
  canon := fun c =>
    have k : (s.setTile t x) = { s with tiles := FMap.setC s.tiles t x Tile.none } := rfl
    have c' := h.canon c
    k ▸ ⟨c'.regs, c'.ddr, c'.flash, c'.direct, fun e he => by
      rcases FMap.mem_setC he with rfl | he
      · exact hx c
      · exact c'.stores e he⟩
  pending := fun hi => h.pending hi
  regs := fun hi => h.regs hi
  force := fun hi => h.force hi
  late := fun hi => h.late hi
  written := fun hi => h.written hi
  snaps := fun hi => h.snaps hi
  snapAt := fun hi => h.snapAt hi
  wideHi := fun hi => h.wideHi hi
  rdata := fun hi => h.rdata hi
  out := fun hi => h.out hi
  draws := fun hi => h.draws hi
  count := fun hi => h.count hi
  wdl := fun hi => h.wdl hi
  pins := fun hi => h.pins hi
  safe := fun hi => h.safe hi
  lanes := fun hi => h.lanes hi
  chans := fun hi => h.chans hi
  rref := fun hi => h.rref hi
  units := fun hi => h.units hi
  fns := fun hi => h.fns hi
  ports := fun hi => h.ports hi
  saks := fun hi => h.saks hi
  pipe := fun hi => h.pipe hi
  ddr := fun hi => h.ddr hi
  ryk := fun hi => h.ryk hi
  host := fun hi => h.host hi
  energy := fun hi => h.energy hi
  net := fun hi => h.net hi
  tiles := fun hi => absurd (testBit_of_sub hM hi) (by decide)
  batches := fun hi => h.batches hi
  memory := fun hi => h.memory hi
  pumps := fun hi => h.pumps hi
  pcie := fun hi => h.pcie hi
  lwl := fun hi => h.lwl hi
  sec := fun hi => h.sec hi
  flash := fun hi => h.flash hi
  load := fun hi => h.load hi
  fabric := fun hi => h.fabric hi
  cpc := fun hi => h.cpc hi
  tap := fun hi => h.tap hi
  clk := fun hi => h.clk hi
  held := fun hi => h.held hi
  file := fun k hk => h.file k hk

end Sys2Proof.Machine
end

