-- ==== Sys2Proof/Laws/KeepsShared.lean ====
section
/-!
SUPPORT. What each operation keeps (the shared operations, the pipeline and the taps): one law `X_keeps` for each operation `X`, with the mask of the
components of State that `X` may change.
-/

set_option Elab.async false

namespace Sys2Proof.Machine

open Sys2Proof

/-- Leaving bytes out, or changing them to something not unlisted, keeps the canonical form. -/
theorem Mem.wf_filterMap (d : BitVec 8) (m : FMap (BitVec 8)) (f : Nat × BitVec 8 → Option (Nat × BitVec 8))
    (hf : ∀ e e', f e = some e' → e.2 ≠ d → e'.1 = e.1 ∧ e'.2 ≠ d) (h : Mem.wf d m = true) : Mem.wf d (m.filterMap f) = true := by
  rw [Mem.wf_iff, FMap.canonical_iff] at h ⊢
  obtain ⟨h1, h2⟩ := h
  induction m with
  | nil => exact ⟨List.Pairwise.nil, fun e he => by cases he⟩
  | cons a t ih =>
    rw [List.map_cons, List.pairwise_cons] at h1
    have ih' := ih h1.2 (fun e he => h2 e (List.mem_cons_of_mem _ he))
    rw [List.filterMap_cons]
    split
    · exact ih'
    · rename_i e' he'
      have hk := hf a e' he' (h2 a List.mem_cons_self)
      refine ⟨?_, fun e he => ?_⟩
      · rw [List.map_cons, List.pairwise_cons]
        refine ⟨fun k hk' => ?_, ih'.1⟩
        obtain ⟨x, hx, rfl⟩ := List.mem_map.mp hk'
        obtain ⟨y, hy, hxy⟩ := List.mem_filterMap.mp hx
        rw [hk.1, (hf y x hxy (h2 y (List.mem_cons_of_mem _ hy))).1]
        exact h1.1 y.1 (List.mem_map_of_mem hy)
      · rcases List.mem_cons.mp he with rfl | he
        · exact hk.2
        · exact ih'.2 e he

theorem Keeps.of_inr {M : Nat} {z t : State} {α β : Type} {p : α ⊕ (State × β)} {b : β} (e : p = .inr (t, b))
    (h : ∀ {x}, p = .inr x → Keeps M z x.1) : Keeps M z t := h e

theorem Keeps.of_some_snd {M : Nat} {z t : State} {α : Type} {p : Option (α × State)} {a : α} (e : p = some (a, t))
    (h : ∀ {x}, p = some x → Keeps M z x.2) : Keeps M z t := h e

theorem State.emit_keeps {M : Nat} {z s : State} {e : Emit} (hz : Keeps M z s) (hM : 0x200 ||| M = M) :
    Keeps M z (State.emit s e) := by
  unfold State.emit
  try dsimp only
  with_reducible repeat' first
    | assumption | apply Keeps.ite | split | apply Keeps.set_out
  all_goals exact sub_mask rfl hM

theorem State.raiseVector_keeps {M : Nat} {z s : State} {fn v : Nat} (hz : Keeps M z s) (hM : 0x202 ||| M = M) (hp :
    InMask M (pbaKey fn v / 4096) := by exact InMask.auto) :
    Keeps M z (State.raiseVector s fn v) := by
  unfold State.raiseVector
  try dsimp only
  with_reducible repeat' first
    | assumption | apply State.emit_keeps | apply State.setReg_keeps | apply Keeps.ite | split
  all_goals first
    | exact sub_mask rfl hM | exact InMask.auto | exact .reg .auto

theorem State.noteAt_keeps {M : Nat} {z s : State} {k : Nat} {f : RegAt → RegAt} (hz : Keeps M z s) (hM : 0x2 ||| M
    = M) :
    Keeps M z (State.noteAt s k f) := by
  unfold State.noteAt
  try dsimp only
  with_reducible repeat' first
    | assumption | apply Keeps.ite | split | apply Keeps.set_clk
  all_goals exact sub_mask rfl hM

theorem State.noteSet_keeps {M : Nat} {z s : State} {page : Nat} {f : Fld} (hz : Keeps M z s) (hM : 0x2 ||| M = M)
    (hp : InMask M page := by exact InMask.auto) :
    Keeps M z (State.noteSet s page f) := by
  unfold State.noteSet
  try dsimp only
  with_reducible repeat' first
    | assumption | apply State.noteAt_keeps | apply Keeps.ite | split
  all_goals exact sub_mask rfl hM

theorem State.hwSet_keeps {M : Nat} {z s : State} {page : Nat} {f : Fld} (hz : Keeps M z s) (hM : 0x2 ||| M = M) (hp
    : InMask M page := by exact InMask.auto) :
    Keeps M z (State.hwSet s page f) := by
  unfold State.hwSet
  try dsimp only
  with_reducible repeat' first
    | assumption | apply State.setFld_keeps | apply State.noteSet_keeps | apply Keeps.ite | split
  all_goals first
    | exact sub_mask rfl hM | exact InMask.auto

theorem State.raiseIrq_keeps {M : Nat} {z s : State} {page b : Nat} (hz : Keeps M z s) (hM : 0x2000000000202 ||| M =
    M) (hp : InMask M page := by exact InMask.auto) :
    Keeps M z (State.raiseIrq s page b) := by
  unfold State.raiseIrq
  try dsimp only
  with_reducible repeat' first
    | assumption | apply State.raiseVector_keeps | apply State.hwSet_keeps | apply State.setFld_keeps
    | apply Keeps.ite | split
  all_goals first
    | exact sub_mask rfl hM | exact InMask.auto

theorem State.noteCount_keeps {M : Nat} {z s : State} {page : Nat} {f : Fld} {n : Nat} (hz : Keeps M z s) (hM : 0x2
    ||| M = M) (hp : InMask M page := by exact InMask.auto) :
    Keeps M z (State.noteCount s page f n) := by
  unfold State.noteCount
  try dsimp only
  with_reducible repeat' first
    | assumption | apply State.noteAt_keeps | apply Keeps.ite | split
  all_goals exact sub_mask rfl hM

theorem State.incFld_keeps {M : Nat} {z s : State} {page : Nat} {f : Fld} {n : Nat} (hz : Keeps M z s) (hM : 0x2 |||
    M = M) (hp : InMask M page := by exact InMask.auto) :
    Keeps M z (State.incFld s page f n) := by
  unfold State.incFld
  try dsimp only
  with_reducible repeat' first
    | assumption | apply State.setFld_keeps | apply State.noteCount_keeps | apply Keeps.ite | split
  all_goals first
    | exact sub_mask rfl hM | exact InMask.auto

theorem State.syncAttention_keeps {M : Nat} {z s : State} {page : Nat} (hz : Keeps M z s) (hM : 0x2100000000202 |||
    M = M) :
    Keeps M z (State.syncAttention s page) := by
  unfold State.syncAttention
  try dsimp only
  with_reducible repeat' first
    | assumption | apply State.setFld_keeps | apply State.raiseVector_keeps | apply State.raiseIrq_keeps
    | apply State.hwSet_keeps | apply Keeps.ite | split
  all_goals first
    | exact sub_mask rfl hM | exact InMask.auto

theorem State.putFault_keeps {M : Nat} {z s : State} {page b v : Nat} (hz : Keeps M z s) (hM : 0x2100000000202 ||| M
    = M) (hp : InMask M page := by exact InMask.auto) :
    Keeps M z (State.putFault s page b v) := by
  unfold State.putFault
  try dsimp only
  with_reducible repeat' first
    | assumption | apply State.syncAttention_keeps | apply State.setFld_keeps | apply Keeps.ite | split
  all_goals first
    | exact sub_mask rfl hM | exact InMask.auto

theorem State.noteLate_keeps {M : Nat} {z s : State} {k : Nat} (hz : Keeps M z s) (hM : 0x18 ||| M = M) :
    Keeps M z (State.noteLate s k) := by
  refine Keeps.step (m := 0x18) (x := s) ?_ (sub_mask rfl hM) hz
  unfold State.noteLate
  repeat' split
  all_goals constructor <;> intro hh <;>
    first | rfl | exact fun _ => rfl | exact absurd hh (by decide) | exact ⟨hh.regs, hh.ddr, hh.flash, hh.direct, hh.stores⟩

theorem State.at_keeps {M : Nat} {z s : State} {off : Nat} (hz : Keeps M z s) (hM : 0x800 ||| M = M) :
    Keeps M z (State.at s off) := by
  unfold State.at
  try dsimp only
  with_reducible repeat' first
    | assumption | apply Keeps.ite | split | apply Keeps.set_count
  all_goals exact sub_mask rfl hM

theorem State.drawn_keeps {M : Nat} {z s : State} (hz : Keeps M z s) (hM : 0x400 ||| M = M) :
    Keeps M z (State.drawn s) := by
  unfold State.drawn
  try dsimp only
  with_reducible repeat' first
    | assumption | apply Keeps.ite | split | apply Keeps.set_draws
  all_goals exact sub_mask rfl hM

theorem State.setDdr_keeps {M : Nat} {z s : State} {m : FMap (BitVec 8)} (hz : Keeps M z s) (hM : 0x800000 ||| M = M)
    (hd : Mem.wf 0 s.ddr = true → Mem.wf 0 m = true) :
    Keeps M z (s.setDdr m) := by
  exact Keeps.set_ddr _ hd (sub_mask rfl hM) hz

theorem State.commit_keeps {M : Nat} {z s : State}  (hz : Keeps M z s) (hM : 0x1c ||| M = M) :
    Keeps M z s.commit := by
  refine Keeps.step (m := 0x1C) (x := s) ?_ (sub_mask rfl hM) hz
  constructor <;> intro hh <;> first | rfl | exact fun _ => rfl | exact absurd hh (by decide) | exact ⟨hh.regs, hh.ddr, hh.flash, hh.direct, hh.stores⟩

theorem State.copyOut_keeps {M : Nat} {z s : State} {page : Nat} (hz : Keeps M z s) (hM : 0x460 ||| M = M) :
    Keeps M z (s.copyOut page) := by
  refine Keeps.step (m := 0x460) (x := s) ?_ (sub_mask rfl hM) hz
  constructor <;> intro hh <;> first | rfl | exact fun _ => rfl | exact absurd hh (by decide) | exact ⟨hh.regs, hh.ddr, hh.flash, hh.direct, hh.stores⟩

theorem State.clearCounter_keeps {M : Nat} {z s : State} {k : Nat} (hz : Keeps M z s) (hM : 0x82 ||| M = M) (hp :
    InMask M (k / 4096) := by exact InMask.auto) :
    Keeps M z (State.clearCounter s k) := by
  unfold State.clearCounter
  try dsimp only
  with_reducible repeat' first
    | assumption | apply State.noteAt_keeps | apply State.setReg_keeps | apply Keeps.ite | apply Keeps.set_wideHi
  all_goals first
    | exact sub_mask rfl hM | exact hp

theorem State.clearCounters_keeps {M : Nat} {z s : State} {page : Nat} (hz : Keeps M z s) (hM : 0x82 ||| M = M) (hp : InMask M page := by exact InMask.auto) :
    Keeps M z (s.clearCounters page) := by
  unfold State.clearCounters
  dsimp only
  refine Keeps.foldl_mem _ (fun a k hk ha => ?_) hz
  have e : k / 4096 = page := by
    have := (List.mem_filter.mp hk).2
    simp only [Bool.and_eq_true, decide_eq_true_eq] at this
    exact this.1
  exact State.clearCounter_keeps ha (sub_mask rfl hM) (e ▸ hp)

theorem State.snapshot_keeps {M : Nat} {z s : State} {page : Nat} (hz : Keeps M z s) (hM : 0x4e2 ||| M = M) (hp :
    InMask M page := by exact InMask.auto) :
    Keeps M z (State.snapshot s page) := by
  unfold State.snapshot
  try dsimp only
  with_reducible repeat' first
    | assumption | apply State.copyOut_keeps | apply State.clearCounters_keeps | apply State.setFld_keeps
    | apply Keeps.ite | split
  all_goals first
    | exact sub_mask rfl hM | exact InMask.auto

theorem State.snapshotArmed_keeps {M : Nat} {z s : State} {f : Fld} (hz : Keeps M z s) (hM : 0x17ffffffe00000004e2
    ||| M = M) :
    Keeps M z (State.snapshotArmed s f) := by
  unfold State.snapshotArmed
  try dsimp only
  with_reducible repeat' first
    | assumption | apply State.snapshot_keeps | apply Keeps.ite | (apply Keeps.foldl; intro _ _ _)
  all_goals first
    | exact sub_mask rfl hM | exact InMask.auto

theorem State.setFault_keeps {M : Nat} {z s : State} {page b : Nat} (hz : Keeps M z s) (hM : 0x2100000000202 ||| M =
    M) (hp : InMask M page := by exact InMask.auto) :
    Keeps M z (State.setFault s page b) := by
  unfold State.setFault
  try dsimp only
  with_reducible repeat' first
    | assumption | apply State.syncAttention_keeps | apply State.hwSet_keeps | apply State.setFld_keeps
    | apply Keeps.ite | split
  all_goals first
    | exact sub_mask rfl hM | exact InMask.auto

theorem State.transient_keeps {M : Nat} {z s : State} {page : Nat} (hz : Keeps M z s) (hM : 0x2100000000202 ||| M =
    M) (hp : InMask M page := by exact InMask.auto) :
    Keeps M z (State.transient s page) := by
  unfold State.transient
  try dsimp only
  with_reducible repeat' first
    | assumption | apply State.setFault_keeps | apply State.incFld_keeps | apply Keeps.ite | split
  all_goals first
    | exact sub_mask rfl hM | exact InMask.auto

theorem State.maxFld_keeps {M : Nat} {z s : State} {page : Nat} {f : Fld} {x : Nat} (hz : Keeps M z s) (hM : 0x2 |||
    M = M) (hp : InMask M page := by exact InMask.auto) :
    Keeps M z (State.maxFld s page f x) := by
  unfold State.maxFld
  try dsimp only
  with_reducible repeat' first
    | assumption | apply State.setFld_keeps | apply State.noteAt_keeps | apply Keeps.ite | split
  all_goals first
    | exact sub_mask rfl hM | exact InMask.auto | exact .reg .auto

theorem State.syncPermanent_keeps {M : Nat} {z s : State} {page : Nat} (hz : Keeps M z s) (hM : 0x2100000000202 |||
    M = M) (hp : InMask M page := by exact InMask.auto) :
    Keeps M z (State.syncPermanent s page) := by
  unfold State.syncPermanent
  try dsimp only
  with_reducible repeat' first
    | assumption | apply State.setFld_keeps | apply State.putFault_keeps | apply Keeps.ite | split
  all_goals first
    | exact sub_mask rfl hM | exact InMask.auto

theorem State.setUnit_keeps {M : Nat} {z s : State} {page st reason : Nat} {byReq : Bool} (hz : Keeps M z s) (hM :
    0x2100000000202 ||| M = M) (hp : InMask M page := by exact InMask.auto) :
    Keeps M z (State.setUnit s page st reason byReq) := by
  unfold State.setUnit
  try dsimp only
  with_reducible repeat' first
    | assumption | apply State.setFld_keeps | apply State.syncPermanent_keeps | apply State.setFault_keeps
    | apply Keeps.ite | split
  all_goals first
    | exact sub_mask rfl hM | exact InMask.auto

theorem State.retire_keeps {M : Nat} {z s : State} {page reason : Nat} (hz : Keeps M z s) (hM : 0x2100000000202 |||
    M = M) (hp : InMask M page := by exact InMask.auto) :
    Keeps M z (State.retire s page reason) := by
  unfold State.retire
  try dsimp only
  with_reducible repeat' first
    | assumption | apply State.setUnit_keeps | apply Keeps.ite
  all_goals first
    | exact sub_mask rfl hM | exact InMask.auto

theorem State.setAux_keeps {M : Nat} {z s : State} {page : Nat} {a : UnitAux} (hz : Keeps M z s) (hM : 0x40000 ||| M
    = M) :
    Keeps M z (State.setAux s page a) := by
  unfold State.setAux
  try dsimp only
  with_reducible repeat' first
    | assumption | apply Keeps.ite | split | apply Keeps.set_units
  all_goals exact sub_mask rfl hM

theorem State.setPending_keeps {M : Nat} {z s : State} {page : Nat} {b : Bool} (hz : Keeps M z s) (hM : 0x2 ||| M =
    M) (hp : InMask M page := by exact InMask.auto) :
    Keeps M z (State.setPending s page b) := by
  unfold State.setPending
  try dsimp only
  with_reducible repeat' first
    | assumption | apply State.setFld_keeps
  all_goals first
    | exact sub_mask rfl hM | exact InMask.auto

theorem State.ackReq_keeps {M : Nat} {z s : State} {page outcome reason : Nat} (hz : Keeps M z s) (hM : 0x2 ||| M =
    M) (hp : InMask M page := by exact InMask.auto) :
    Keeps M z (State.ackReq s page outcome reason) := by
  unfold State.ackReq
  try dsimp only
  with_reducible repeat' first
    | assumption | apply State.setReg_keeps
  all_goals first
    | exact sub_mask rfl hM | exact InMask.auto | exact .reg .auto

theorem State.endReq_keeps {M : Nat} {z s : State} {page outcome reason : Nat} (hz : Keeps M z s) (hM :
    0x2100000000202 ||| M = M) (hp : InMask M page := by exact InMask.auto) :
    Keeps M z (State.endReq s page outcome reason) := by
  unfold State.endReq
  try dsimp only
  with_reducible repeat' first
    | assumption | apply State.setPending_keeps | apply State.ackReq_keeps | apply State.incFld_keeps
    | apply State.setFault_keeps | apply Keeps.ite | split
  all_goals first
    | exact sub_mask rfl hM | exact InMask.auto

theorem State.checkReached_keeps {M : Nat} {z s : State} {page : Nat} (hz : Keeps M z s) (hM : 0x2100000000202 ||| M
    = M) (hp : InMask M page := by exact InMask.auto) :
    Keeps M z (State.checkReached s page) := by
  unfold State.checkReached
  try dsimp only
  with_reducible repeat' first
    | assumption | apply State.endReq_keeps | apply Keeps.ite
  all_goals first
    | exact sub_mask rfl hM | exact InMask.auto

theorem State.fence_keeps {M : Nat} {z s : State} {page reason : Nat} (hz : Keeps M z s) (hM : 0x2100000000202 ||| M
    = M) (hp : InMask M page := by exact InMask.auto) :
    Keeps M z (State.fence s page reason) := by
  unfold State.fence
  try dsimp only
  with_reducible repeat' first
    | assumption | apply State.setUnit_keeps | apply State.checkReached_keeps | apply Keeps.ite | split
  all_goals first
    | exact sub_mask rfl hM | exact InMask.auto

theorem State.incWide_keeps {M : Nat} {z s : State} {page : Nat} {f : Fld} {n : Nat} (hz : Keeps M z s) (hM : 0x82
    ||| M = M) (hp : InMask M page := by exact InMask.auto) :
    Keeps M z (State.incWide s page f n) := by
  unfold State.incWide
  try dsimp only
  with_reducible repeat' first
    | assumption | apply State.setFld_keeps | apply State.noteAt_keeps | apply Keeps.ite | split
    | apply Keeps.set_wideHi
  all_goals first
    | exact sub_mask rfl hM | exact InMask.auto | exact .reg .auto

theorem State.setSubRetired_keeps {M : Nat} {z s : State} {page : Nat} {b : Bool} (hz : Keeps M z s) (hM :
    0x2100000000202 ||| M = M) (hp : InMask M page := by exact InMask.auto) :
    Keeps M z (State.setSubRetired s page b) := by
  unfold State.setSubRetired
  try dsimp only
  with_reducible repeat' first
    | assumption | apply State.syncPermanent_keeps | apply State.setFld_keeps | apply Keeps.ite | split
  all_goals first
    | exact sub_mask rfl hM | exact InMask.auto

theorem State.wdlMap_keeps {M : Nat} {z s : State} {f : Windlass → Windlass} (hz : Keeps M z s) (hM : 0x1000 ||| M =
    M) :
    Keeps M z (State.wdlMap s f) := by
  unfold State.wdlMap
  try dsimp only
  with_reducible repeat' first
    | assumption | apply Keeps.ite | split | apply Keeps.set_wdl
  all_goals exact sub_mask rfl hM

theorem State.setCount_keeps {M : Nat} {z s : State} {n : Nat} (hz : Keeps M z s) (hM : 0x800 ||| M = M) :
    Keeps M z (State.setCount s n) := by
  unfold State.setCount
  try dsimp only
  with_reducible repeat' first
    | assumption | apply Keeps.ite | split | apply Keeps.set_count
  all_goals exact sub_mask rfl hM

theorem State.safeMap_keeps {M : Nat} {z s : State} {f : Safe → Safe} (hz : Keeps M z s) (hM : 0x4000 ||| M = M) :
    Keeps M z (State.safeMap s f) := by
  unfold State.safeMap
  try dsimp only
  with_reducible repeat' first
    | assumption | apply Keeps.ite | split | apply Keeps.set_safe
  all_goals exact sub_mask rfl hM

theorem State.fail_keeps {M : Nat} {z s : State} {page reason : Nat} (hz : Keeps M z s) (hM : 0x2100000000202 ||| M
    = M) (hp : InMask M page := by exact InMask.auto) :
    Keeps M z (State.fail s page reason) := by
  unfold State.fail
  try dsimp only
  with_reducible repeat' first
    | assumption | apply State.setUnit_keeps | apply Keeps.ite
  all_goals first
    | exact sub_mask rfl hM | exact InMask.auto

theorem State.pcieMap_keeps {M : Nat} {z s : State} {f : Pcie → Pcie} (hz : Keeps M z s) (hM : 0x100000000 ||| M =
    M) :
    Keeps M z (State.pcieMap s f) := by
  unfold State.pcieMap
  try dsimp only
  with_reducible repeat' first
    | assumption | apply Keeps.ite | split | apply Keeps.set_pcie
  all_goals exact sub_mask rfl hM

theorem State.forceNow_keeps {M : Nat} {z s : State} {k : Nat} (hz : Keeps M z s) (hM : 0xc ||| M = M) :
    Keeps M z (s.forceNow k) := by
  refine Keeps.step (m := 0xC) (x := s) ?_ (sub_mask rfl hM) hz
  constructor <;> intro hh <;> first | rfl | exact fun _ => rfl | exact absurd hh (by decide) | exact ⟨hh.regs, hh.ddr, hh.flash, hh.direct, hh.stores⟩

theorem State.decFld_keeps {M : Nat} {z s : State} {page : Nat} {f : Fld} (hz : Keeps M z s) (hM : 0x2 ||| M = M)
    (hp : InMask M page := by exact InMask.auto) :
    Keeps M z (State.decFld s page f) := by
  unfold State.decFld
  try dsimp only
  with_reducible repeat' first
    | assumption | apply State.setFld_keeps
  all_goals first
    | exact sub_mask rfl hM | exact InMask.auto

theorem State.syncAllAttention_keeps {M : Nat} {z s : State} (hz : Keeps M z s) (hM : 0x2100000000202 ||| M = M) :
    Keeps M z (State.syncAllAttention s) := by
  unfold State.syncAllAttention
  try dsimp only
  with_reducible repeat' first
    | assumption | apply State.syncAttention_keeps | apply Keeps.ite | (apply Keeps.foldl; intro _ _ _)
  all_goals exact sub_mask rfl hM

theorem State.chansMap_keeps {M : Nat} {z s : State} {f : FMap Chan → FMap Chan} (hz : Keeps M z s) (hM : 0x10000
    ||| M = M) :
    Keeps M z (State.chansMap s f) := by
  unfold State.chansMap
  try dsimp only
  with_reducible repeat' first
    | assumption | apply Keeps.ite | split | apply Keeps.set_chans
  all_goals exact sub_mask rfl hM

theorem State.pinsMap_keeps {M : Nat} {z s : State} {f : Pins → Pins} (hz : Keeps M z s) (hM : 0x2000 ||| M = M) :
    Keeps M z (State.pinsMap s f) := by
  unfold State.pinsMap
  try dsimp only
  with_reducible repeat' first
    | assumption | apply Keeps.ite | split | apply Keeps.set_pins
  all_goals exact sub_mask rfl hM

theorem State.releaseLater_keeps {M : Nat} {z s : State} {page : Nat} (hz : Keeps M z s) (hM : 0x18 ||| M = M) :
    Keeps M z (State.releaseLater s page) := by
  refine Keeps.step (m := 0x18) (x := s) ?_ (sub_mask rfl hM) hz
  constructor <;> intro hh <;> first | rfl | exact fun _ => rfl | exact absurd hh (by decide) | exact ⟨hh.regs, hh.ddr, hh.flash, hh.direct, hh.stores⟩

theorem State.releaseHeld_keeps {M : Nat} {z s : State} {page : Nat} (hz : Keeps M z s) (hM : 0xc ||| M = M) :
    Keeps M z (State.releaseHeld s page) := by
  refine Keeps.step (m := 0xC) (x := s) ?_ (sub_mask rfl hM) hz
  constructor <;> intro hh <;> first | rfl | exact fun _ => rfl | exact absurd hh (by decide) | exact ⟨hh.regs, hh.ddr, hh.flash, hh.direct, hh.stores⟩

theorem State.configured_keeps {M : Nat} {z s : State} {page : Nat} (hz : Keeps M z s) (hM : 0x210000000021e ||| M =
    M) (hp : InMask M page := by exact InMask.auto) :
    Keeps M z (State.configured s page) := by
  unfold State.configured
  try dsimp only
  with_reducible repeat' first
    | assumption | apply State.setUnit_keeps | apply State.releaseHeld_keeps | apply State.releaseLater_keeps
    | apply Keeps.ite | split
  all_goals first
    | exact sub_mask rfl hM | exact InMask.auto

theorem State.recordFault_keeps {M : Nat} {z s : State} {p : Part} {cause : Nat} (hz : Keeps M z s) (hM :
    0x2100000000202 ||| M = M) (hp : InMask M p.page := by exact InMask.auto) :
    Keeps M z (State.recordFault s p cause) := by
  unfold State.recordFault
  try dsimp only
  with_reducible repeat' first
    | assumption | apply State.setReg_keeps | apply State.raiseIrq_keeps | apply State.incFld_keeps
    | apply State.putFault_keeps | apply State.noteSet_keeps | apply Keeps.ite | split
  all_goals first
    | exact sub_mask rfl hM | exact InMask.auto | exact .reg .auto

theorem State.applyWrite_keeps {M : Nat} {z s : State} {p : Part} {v : Word} {own : Bool} {extra : Bool} {keep :
    Word} (hz : Keeps M z s) (hM : 0x210000000021a ||| M = M) (hp : InMask M p.page := by exact InMask.auto) :
    Keeps M z (State.applyWrite s p v own extra keep) := by
  unfold State.applyWrite
  try dsimp only
  with_reducible repeat' first
    | assumption | apply State.setReg_keeps | apply State.syncAttention_keeps | apply State.putFault_keeps
    | apply State.noteLate_keeps | apply State.recordFault_keeps | apply Keeps.ite | split
  all_goals first
    | exact sub_mask rfl hM | exact InMask.auto | exact .reg .auto

theorem State.write_keeps {M : Nat} {z s : State} {page off : Nat} {v : Word} (hz : Keeps M z s) (hM :
    0x210000000021a ||| M = M) (hp : InMask M page := by exact InMask.auto) :
    Keeps M z (State.write s page off v) := by
  unfold State.write
  try dsimp only
  with_reducible repeat' first
    | assumption | apply State.applyWrite_keeps
  all_goals first
    | exact sub_mask rfl hM | exact InMask.auto | exact .full .auto

theorem State.resetHeld_keeps {M : Nat} {z s : State} {warm full : Bool} (hz : Keeps M z s) (hM : 0x17ffffffe72fff5b0fe ||| M = M) :
    Keeps M z (s.resetHeld warm full) := by
  refine Keeps.step (m := 0x17ffffffe72fff5b0fe) (x := s) ?_ (sub_mask rfl hM) hz
  constructor <;> intro hh
  · refine ⟨FMap.canonical_foldl _ _ _ _ rfl, ?_, hh.flash, ?_, ?_⟩
    · show Mem.wf 0 (if warm = true then s.ddr else []) = true
      split
      · exact hh.ddr
      · rfl
    · show Mem.wf 0 (resetMemory warm s.memory).direct = true
      cases warm <;> rfl
    · intro e he; cases he
  all_goals first | rfl | exact fun hk => absurd (InMask.all rfl) hk | exact absurd hh (by decide)

theorem State.safeReasons_keeps {M : Nat} {z s : State} {warm : Bool} (hz : Keeps M z s) (hM : 0x17ffffffe0000000002
    ||| M = M) :
    Keeps M z (State.safeReasons s warm) := by
  unfold State.safeReasons
  try dsimp only
  with_reducible repeat' first
    | assumption | apply State.setFld_keeps | apply Keeps.ite | (apply Keeps.foldl; intro _ _ _) | split
  all_goals first
    | exact sub_mask rfl hM | exact InMask.auto

theorem State.syncPages_keeps {M : Nat} {z s : State} {pages : List Nat} (hz : Keeps M z s) (hM :
    0x17ffffffe0000000202 ||| M = M) :
    Keeps M z (State.syncPages s pages) := by
  unfold State.syncPages
  try dsimp only
  with_reducible repeat' first
    | assumption | apply State.syncAttention_keeps | apply State.syncPermanent_keeps | apply Keeps.ite
    | (apply Keeps.foldl; intro _ _ _) | split
  all_goals first
    | exact sub_mask rfl hM | exact InMask.auto

theorem State.ddrWrite_keeps {M : Nat} {z s : State} {a : Nat} {b : List Nat} (hz : Keeps M z s) (hM : 0x40800000 ||| M = M) :
    Keeps M z (s.ddrWrite a b) := by
  unfold State.ddrWrite
  exact State.memMap_keeps (Keeps.set_ddr _ (Mem.wf_store 0 _ _ _) (sub_mask rfl hM) hz) (sub_mask rfl hM) (fun _ hd => hd)

theorem State.writeSlot_keeps {M : Nat} {z s : State} {slot : Nat} {r : FlowRec} (hz : Keeps M z s) (hM : 0x40800000 ||| M = M) :
    Keeps M z (s.writeSlot slot r) :=
  State.ddrWrite_keeps hz (sub_mask rfl hM)

theorem State.flushCache_keeps {M : Nat} {z s : State} {warm : Bool} (hz : Keeps M z s) (hM : 0x40800000 ||| M = M) :
    Keeps M z (State.flushCache s warm) := by
  unfold State.flushCache
  try dsimp only
  with_reducible repeat' first
    | assumption | apply State.writeSlot_keeps | apply Keeps.ite | (apply Keeps.foldl; intro _ _ _) | split
  all_goals exact sub_mask rfl hM

theorem State.tapsLost_keeps {M : Nat} {z s : State} {before : State} (hz : Keeps M z s) (hM : 0x1000000000000002 ||| M = M) :
    Keeps M z (State.tapsLost before s) := by
  unfold State.tapsLost
  try dsimp only
  with_reducible repeat' first
    | assumption | apply State.incFld_keeps | apply Keeps.ite | (apply Keeps.foldl; intro _ _ _) | split
  all_goals first
    | exact sub_mask rfl hM | exact InMask.auto

theorem State.syncDelay_keeps {M : Nat} {z s : State} {q : Nat} (hz : Keeps M z s) (hM : 0x100000000000002 ||| M = M) :
    Keeps M z (State.syncDelay s q) := by
  unfold State.syncDelay
  try dsimp only
  with_reducible repeat' first
    | assumption | apply State.setFld_keeps | apply Keeps.ite | split
  all_goals first
    | exact sub_mask rfl hM | exact InMask.auto

theorem State.resetMain_keeps {M : Nat} {z s : State} {warm full : Bool} (hz : Keeps M z s) (hM : 0x17ffffffe72fff5fafe ||| M = M) :
    Keeps M z (s.resetMain warm full) := by
  unfold State.resetMain
  dsimp only
  have h3 : Keeps M z ((s.flushCache warm).resetHeld warm full) :=
    State.resetHeld_keeps (State.flushCache_keeps hz (sub_mask rfl hM)) (sub_mask rfl hM)
  have h4 : Keeps M z (if full = true then (s.flushCache warm).resetHeld warm full
      else ((s.flushCache warm).resetHeld warm full).safeReasons warm) :=
    Keeps.ite (c := full = true) h3 (State.safeReasons_keeps h3 (sub_mask rfl hM))
  revert h4
  generalize (if full = true then (s.flushCache warm).resetHeld warm full
      else ((s.flushCache warm).resetHeld warm full).safeReasons warm) = s4
  intro h4
  have ht : Keeps M z (if warm = true then State.tapsLost s s4 else s4) :=
    Keeps.ite (c := warm = true) (State.tapsLost_keeps h4 (sub_mask rfl hM)) h4
  have hd : Keeps M z ((List.range 8).foldl State.syncDelay (if warm = true then State.tapsLost s s4 else s4)) :=
    Keeps.foldl _ (fun _ _ hk => State.syncDelay_keeps hk (sub_mask rfl hM)) ht
  have h5 := State.syncPages_keeps (pages := ((FMap.keys s.regs).map (· / 4096)).eraseDups) hd (sub_mask rfl hM)
  revert h5
  generalize State.syncPages _ _ = s5
  intro h5
  split
  · exact h5
  · refine Keeps.step (m := 0x4800) (x := s5) ?_ (sub_mask rfl hM) h5
    constructor <;> intro hh <;> first | rfl | exact fun _ => rfl | exact absurd hh (by decide) | exact ⟨hh.regs, hh.ddr, hh.flash, hh.direct, hh.stores⟩

theorem State.setService_keeps {M : Nat} {z s : State} {p : Nat} {b : Bool} (hz : Keeps M z s) (hM :
    0x40000000000002 ||| M = M) :
    Keeps M z (State.setService s p b) := by
  unfold State.setService
  try dsimp only
  with_reducible repeat' first
    | assumption | apply State.setFld_keeps
  all_goals first
    | exact sub_mask rfl hM | exact InMask.auto

theorem State.engagePair_keeps {M : Nat} {z s : State} {cause p : Nat} (hz : Keeps M z s) (hM : 0x52000000000602 |||
    M = M) :
    Keeps M z (State.engagePair s cause p) := by
  unfold State.engagePair
  try dsimp only
  with_reducible repeat' first
    | assumption | apply State.setService_keeps | apply State.incFld_keeps | apply State.setFld_keeps
    | apply State.raiseIrq_keeps | apply State.drawn_keeps | apply Keeps.ite | split
  all_goals first
    | exact sub_mask rfl hM | exact InMask.auto

theorem State.updateWindow_keeps {M : Nat} {z s : State} (hz : Keeps M z s) (hM : 0x100000004002 ||| M = M) :
    Keeps M z (State.updateWindow s) := by
  unfold State.updateWindow
  try dsimp only
  with_reducible repeat' first
    | assumption | apply State.setFld_keeps | apply Keeps.ite | split | apply Keeps.set_safe
  all_goals first
    | exact sub_mask rfl hM | exact InMask.auto

theorem State.stampBoot_keeps {M : Nat} {z s : State} {k : Nat} (hz : Keeps M z s) (hM : 0x20000000002 ||| M = M) :
    Keeps M z (State.stampBoot s k) := by
  unfold State.stampBoot
  try dsimp only
  with_reducible repeat' first
    | assumption | apply State.setFld_keeps | apply Keeps.ite | split
  all_goals first
    | exact sub_mask rfl hM | exact InMask.auto

theorem State.clockM_keeps {M : Nat} {z s : State} (hz : Keeps M z s) (hM : 0x4400 ||| M = M) :
    Keeps M z (State.clockM s) := by
  unfold State.clockM
  try dsimp only
  with_reducible repeat' first
    | assumption | apply State.drawn_keeps | apply State.safeMap_keeps | apply Keeps.ite | split
  all_goals exact sub_mask rfl hM

theorem State.milestone_keeps {M : Nat} {z s : State} {k : Nat} (hz : Keeps M z s) (hM : 0x20000004402 ||| M = M) :
    Keeps M z (State.milestone s k) := by
  unfold State.milestone
  try dsimp only
  with_reducible repeat' first
    | assumption | apply State.clockM_keeps | apply State.stampBoot_keeps | apply State.setFld_keeps
    | apply Keeps.ite | split
  all_goals first
    | exact sub_mask rfl hM | exact InMask.auto

theorem State.addTrigs_keeps {M : Nat} {z s : State} {codes : List Nat} (hz : Keeps M z s) (hM : 0x100000000002 |||
    M = M) :
    Keeps M z (State.addTrigs s codes) := by
  unfold State.addTrigs
  try dsimp only
  with_reducible repeat' first
    | assumption | apply State.setFld_keeps | apply Keeps.ite | (apply Keeps.foldl; intro _ _ _)
  all_goals first
    | exact sub_mask rfl hM | exact InMask.auto

theorem State.countEntry_keeps {M : Nat} {z s : State} (hz : Keeps M z s) (hM : 0x100000004002 ||| M = M) :
    Keeps M z (State.countEntry s) := by
  unfold State.countEntry
  try dsimp only
  with_reducible repeat' first
    | assumption | apply State.updateWindow_keeps | apply Keeps.ite | split | apply Keeps.set_safe
  all_goals exact sub_mask rfl hM

theorem State.recordEntry_keeps {M : Nat} {z s : State} {codes : List Nat} {src : Option Nat} (hz : Keeps M z s) (hM
    : 0x100000004002 ||| M = M) :
    Keeps M z (State.recordEntry s codes src) := by
  unfold State.recordEntry
  try dsimp only
  with_reducible repeat' first
    | assumption | apply State.addTrigs_keeps | apply State.setFld_keeps | apply State.countEntry_keeps
    | apply Keeps.ite | split
  all_goals first
    | exact sub_mask rfl hM | exact InMask.auto

theorem State.setSState_keeps {M : Nat} {z s : State} {v : Nat} (hz : Keeps M z s) (hM : 0x120000000002 ||| M = M) :
    Keeps M z (State.setSState s v) := by
  unfold State.setSState
  try dsimp only
  with_reducible repeat' first
    | assumption | apply State.setFld_keeps
  all_goals first
    | exact sub_mask rfl hM | exact InMask.auto

theorem State.engageAll_keeps {M : Nat} {z s : State} {cause : Nat} (hz : Keeps M z s) (hM : 0x52000000000602 ||| M
    = M) :
    Keeps M z (State.engageAll s cause) := by
  unfold State.engageAll
  try dsimp only
  with_reducible repeat' first
    | assumption | apply State.engagePair_keeps | apply Keeps.ite | (apply Keeps.foldl; intro _ _ _)
  all_goals exact sub_mask rfl hM

theorem State.dumpBegins_keeps {M : Nat} {z s : State} {codes : List Nat} (hz : Keeps M z s) (hM : 0x1000000000002
    ||| M = M) :
    Keeps M z (State.dumpBegins s codes) := by
  unfold State.dumpBegins
  try dsimp only
  with_reducible repeat' first
    | assumption | apply State.incFld_keeps | apply State.setFld_keeps | apply Keeps.ite
  all_goals first
    | exact sub_mask rfl hM | exact InMask.auto

theorem State.abandonUpdate_keeps {M : Nat} {z s : State} (hz : Keeps M z s) (hM : 0x1004000000002 ||| M = M) :
    Keeps M z (State.abandonUpdate s) := by
  unfold State.abandonUpdate
  try dsimp only
  with_reducible repeat' first
    | assumption | apply State.setFld_keeps | apply Keeps.ite | split | apply Keeps.set_cpc
  all_goals first
    | exact sub_mask rfl hM | exact InMask.auto

theorem State.enterSafe_keeps {M : Nat} {z s : State} {codes : List Nat} {src : Option Nat} (hz : Keeps M z s) (hM :
    0x53124000404602 ||| M = M) :
    Keeps M z (State.enterSafe s codes src) := by
  unfold State.enterSafe
  try dsimp only
  with_reducible repeat' first
    | assumption | apply State.raiseIrq_keeps | apply State.recordEntry_keeps | apply State.setSState_keeps
    | apply State.engageAll_keeps | apply State.dumpBegins_keeps | apply State.abandonUpdate_keeps
    | apply Keeps.ite | split | apply Keeps.set_safe | apply Keeps.set_pipe
  all_goals first
    | exact sub_mask rfl hM | exact InMask.auto

theorem State.startRestart_keeps {M : Nat} {z s : State} {cold : Bool} (hz : Keeps M z s) (hM :
    0x17ffffffe72fff5fafe ||| M = M) :
    Keeps M z (State.startRestart s cold) := by
  unfold State.startRestart
  try dsimp only
  with_reducible repeat' first
    | assumption | apply State.resetMain_keeps | apply State.raiseIrq_keeps | apply State.setSState_keeps
    | apply Keeps.ite | split
  all_goals first
    | exact sub_mask rfl hM | exact InMask.auto

theorem State.joinEntry_keeps {M : Nat} {z s : State} {codes : List Nat} {src : Option Nat} (hz : Keeps M z s) (hM :
    0x100000004002 ||| M = M) :
    Keeps M z (State.joinEntry s codes src) := by
  unfold State.joinEntry
  try dsimp only
  with_reducible repeat' first
    | assumption | apply State.setFld_keeps | apply State.addTrigs_keeps | apply Keeps.ite
    | (apply Keeps.foldl; intro _ _ _) | split | apply Keeps.set_safe
  all_goals first
    | exact sub_mask rfl hM | exact InMask.auto

theorem State.safeEnter_keeps {M : Nat} {z s : State} {codes : List Nat} {src : Option Nat} (hz : Keeps M z s) (hM :
    0x17ffffffe72fff5fefe ||| M = M) :
    Keeps M z (State.safeEnter s codes src) := by
  unfold State.safeEnter
  try dsimp only
  with_reducible repeat' first
    | assumption | apply State.recordEntry_keeps | apply State.enterSafe_keeps | apply State.startRestart_keeps
    | apply State.joinEntry_keeps | apply State.addTrigs_keeps | apply Keeps.ite | split | apply Keeps.set_safe
  all_goals first
    | exact sub_mask rfl hM | exact InMask.auto

theorem State.failUnit_keeps {M : Nat} {z s : State} {page reason : Nat} (hz : Keeps M z s) (hM :
    0x17ffffffe72fff5fefe ||| M = M) (hp : InMask M page := by exact InMask.auto) :
    Keeps M z (State.failUnit s page reason) := by
  unfold State.failUnit
  try dsimp only
  with_reducible repeat' first
    | assumption | apply State.safeEnter_keeps | apply State.fail_keeps | apply Keeps.ite | split
  all_goals first
    | exact sub_mask rfl hM | exact InMask.auto

theorem State.nrgMap_keeps {M : Nat} {z s : State} {f : Energy → Energy} (hz : Keeps M z s) (hM : 0x4000000 ||| M =
    M) :
    Keeps M z (State.nrgMap s f) := by
  unfold State.nrgMap
  try dsimp only
  with_reducible repeat' first
    | assumption | apply Keeps.ite | split | apply Keeps.set_energy
  all_goals exact sub_mask rfl hM

theorem State.thermBoundary_keeps {M : Nat} {z s : State} (hz : Keeps M z s) (hM : 0x400002080004000202 ||| M = M) :
    Keeps M z (State.thermBoundary s) := by
  unfold State.thermBoundary
  try dsimp only
  with_reducible repeat' first
    | assumption | apply State.raiseIrq_keeps | apply State.setFld_keeps | apply State.nrgMap_keeps
    | apply State.incFld_keeps | apply Keeps.ite | split
  all_goals first
    | exact sub_mask rfl hM | exact InMask.auto

theorem State.syncAvail_keeps {M : Nat} {z s : State} (hz : Keeps M z s) (hM : 0x400002000000000202 ||| M = M) :
    Keeps M z (State.syncAvail s) := by
  unfold State.syncAvail
  try dsimp only
  with_reducible repeat' first
    | assumption | apply State.raiseIrq_keeps | apply State.setFld_keeps | apply Keeps.ite | split
  all_goals first
    | exact sub_mask rfl hM | exact InMask.auto

theorem State.syncRemain_keeps {M : Nat} {z s : State} (hz : Keeps M z s) (hM : 0x80000000002 ||| M = M) :
    Keeps M z (State.syncRemain s) := by
  unfold State.syncRemain
  try dsimp only
  with_reducible repeat' first
    | assumption | apply State.setFld_keeps
  all_goals first
    | exact sub_mask rfl hM | exact InMask.auto

theorem State.ledgerBoundary_keeps {M : Nat} {z s : State} (hz : Keeps M z s) (hM : 0x400002080004000202 ||| M = M)
    :
    Keeps M z (State.ledgerBoundary s) := by
  unfold State.ledgerBoundary
  try dsimp only
  with_reducible repeat' first
    | assumption | apply State.syncAvail_keeps | apply State.nrgMap_keeps | apply State.setFld_keeps
    | apply State.raiseIrq_keeps | apply State.incFld_keeps | apply State.syncRemain_keeps | apply Keeps.ite | split
  all_goals first
    | exact sub_mask rfl hM | exact InMask.auto

theorem State.capWritten_keeps {M : Nat} {z s : State} (hz : Keeps M z s) (hM : 0x2080004000202 ||| M = M) :
    Keeps M z (State.capWritten s) := by
  unfold State.capWritten
  try dsimp only
  with_reducible repeat' first
    | assumption | apply State.setFld_keeps | apply State.nrgMap_keeps | apply State.raiseIrq_keeps
    | apply State.incFld_keeps | apply Keeps.ite | split
  all_goals first
    | exact sub_mask rfl hM | exact InMask.auto

theorem State.debtAdd_keeps {M : Nat} {z s : State} {v : Nat} (hz : Keeps M z s) (hM : 0x2080000000202 ||| M = M) :
    Keeps M z (State.debtAdd s v) := by
  unfold State.debtAdd
  try dsimp only
  with_reducible repeat' first
    | assumption | apply State.raiseIrq_keeps | apply State.setFld_keeps | apply Keeps.ite | split
  all_goals first
    | exact sub_mask rfl hM | exact InMask.auto

theorem State.admits_keeps {M : Nat} {z s : State} {pair : Option Nat} {k rows : Nat} (hz : Keeps M z s) (hM :
    0x80004000002 ||| M = M) :
    ∀ {o}, State.admits s pair k rows = some o → Keeps M z o := by
  intro o e
  unfold State.admits at e
  try dsimp only at e
  repeat' split at e
  all_goals first | injection e with e; subst e | cases e
  all_goals with_reducible repeat' first
    | assumption | apply State.incFld_keeps | apply State.syncRemain_keeps | apply State.nrgMap_keeps
    | apply Keeps.ite | split
  all_goals first
    | exact sub_mask rfl hM | exact InMask.auto

theorem State.ledgerVoid_keeps {M : Nat} {z s : State} (hz : Keeps M z s) (hM : 0x2080000000202 ||| M = M) :
    Keeps M z (State.ledgerVoid s) := by
  unfold State.ledgerVoid
  try dsimp only
  with_reducible repeat' first
    | assumption | apply State.raiseIrq_keeps | apply State.incFld_keeps | apply Keeps.ite | split
  all_goals first
    | exact sub_mask rfl hM | exact InMask.auto

theorem State.admitT2_keeps {M : Nat} {z s : State} {pair rows : Nat} {sub : Bool} (hz : Keeps M z s) (hM : 0x2080004000202 ||| M
    = M) :
    Keeps M z (State.admitT2 s pair rows sub).2 := by
  unfold State.admitT2
  try dsimp only
  with_reducible repeat' first
    | assumption | refine Keeps.of_some (by assumption) (fun _ => State.admits_keeps ?_ ?_)
    | apply State.raiseIrq_keeps | apply State.incFld_keeps | apply State.ledgerVoid_keeps | apply Keeps.ite | split
  all_goals first
    | exact sub_mask rfl hM | exact InMask.auto

theorem State.admitT3_keeps {M : Nat} {z s : State} {pair rows : Nat} {alone : Bool} (hz : Keeps M z s) (hM :
    0x2080004000202 ||| M = M) :
    Keeps M z (State.admitT3 s pair rows alone).2 := by
  unfold State.admitT3
  try dsimp only
  with_reducible repeat' first
    | assumption | refine Keeps.of_some (by assumption) (fun _ => State.admits_keeps ?_ ?_)
    | apply State.admitT2_keeps | apply State.raiseIrq_keeps | apply State.incFld_keeps | apply State.ledgerVoid_keeps
    | apply Keeps.ite | refine Keeps.of_snd (by assumption) ?_ | split
  all_goals first
    | exact sub_mask rfl hM | exact InMask.auto

theorem State.cycleEnd_keeps {M : Nat} {z s : State} (hz : Keeps M z s) (hM : 0x400000000004000002 ||| M = M) :
    Keeps M z (State.cycleEnd s) := by
  unfold State.cycleEnd
  try dsimp only
  with_reducible repeat' first
    | assumption | apply State.setFld_keeps | apply State.nrgMap_keeps | apply Keeps.ite
    | (apply Keeps.foldl; intro _ _ _) | split
  all_goals first
    | exact sub_mask rfl hM | exact InMask.auto

theorem State.admitIn_keeps {M : Nat} {z s : State} {rows : Nat} (hz : Keeps M z s) (hM : 0x80004000002 ||| M = M) :
    ∀ {o}, s.admitIn rows = some o → Keeps M z o := by
  exact fun e => State.admits_keeps (State.nrgMap_keeps hz (sub_mask rfl hM)) (sub_mask rfl hM) e

theorem State.hostMap_keeps {M : Nat} {z s : State} {f : HostSide → HostSide} (hz : Keeps M z s) (hM : 0x2000000 |||
    M = M) :
    Keeps M z (State.hostMap s f) := by
  unfold State.hostMap
  try dsimp only
  with_reducible repeat' first
    | assumption | apply Keeps.ite | split | apply Keeps.set_host
  all_goals exact sub_mask rfl hM

theorem State.slotRaise_keeps {M : Nat} {z s : State} {fn slot vec hold : Nat} (hz : Keeps M z s) (hM :
    0x1000002000002000202 ||| M = M) :
    Keeps M z (State.slotRaise s fn slot vec hold) := by
  unfold State.slotRaise
  try dsimp only
  with_reducible repeat' first
    | assumption | apply State.hostMap_keeps | apply State.raiseVector_keeps | apply Keeps.ite | split
  all_goals first
    | exact sub_mask rfl hM | exact InMask.auto

theorem State.deliverRaw_keeps {M : Nat} {z s : State} {n buf : Nat} {bytes record : List Nat} (hz : Keeps M z s)
    (hM : 0x1000002000002000202 ||| M = M) :
    Keeps M z (State.deliverRaw s n buf bytes record) := by
  unfold State.deliverRaw
  try dsimp only
  with_reducible repeat' first
    | assumption | apply State.setFld_keeps | apply State.emit_keeps | apply State.incFld_keeps
    | apply State.hostMap_keeps | apply State.slotRaise_keeps | apply Keeps.ite | split
  all_goals first
    | exact sub_mask rfl hM | exact InMask.auto

theorem State.deliver_keeps {M : Nat} {z s : State} {n buf : Nat} {d : DItem} (hz : Keeps M z s) (hM :
    0x1000002000002000202 ||| M = M) :
    Keeps M z (State.deliver s n buf d) := by
  unfold State.deliver
  try dsimp only
  with_reducible repeat' first
    | assumption | apply State.deliverRaw_keeps
  all_goals exact sub_mask rfl hM

theorem State.injAdvance_keeps {M : Nat} {z s : State} {k : Nat} (hz : Keeps M z s) (hM : 0x1000000000002000002 ||| M = M) :
    Keeps M z (s.injAdvance k) := by
  induction k generalizing s with
  | zero => exact hz
  | succ k ih =>
    unfold State.injAdvance
    dsimp only
    split
    · exact ih (State.setFld_keeps (State.hostMap_keeps hz (sub_mask rfl hM)) (sub_mask rfl hM))
    · exact hz

theorem State.injComplete_keeps {M : Nat} {z s : State} {index cookie : Nat} {sent : Bool} (hz : Keeps M z s) (hM :
    0x1000002000002000202 ||| M = M) :
    Keeps M z (State.injComplete s index cookie sent) := by
  unfold State.injComplete
  try dsimp only
  with_reducible repeat' first
    | assumption | apply State.hostMap_keeps | apply State.raiseVector_keeps | apply State.setFld_keeps
    | apply State.incFld_keeps | apply State.injAdvance_keeps | apply Keeps.ite | split
  all_goals first
    | exact sub_mask rfl hM | exact InMask.auto

theorem State.countReason_keeps {M : Nat} {z s : State} {why : Nat} (hz : Keeps M z s) (hM : 0x802000000000202 ||| M
    = M) :
    Keeps M z (State.countReason s why) := by
  unfold State.countReason
  try dsimp only
  with_reducible repeat' first
    | assumption | apply State.raiseIrq_keeps | apply State.incFld_keeps | apply State.hwSet_keeps
    | apply State.setFld_keeps | apply Keeps.ite | split
  all_goals first
    | exact sub_mask rfl hM | exact InMask.auto

theorem State.syncCells_keeps {M : Nat} {z s : State} {inst : Nat} (hz : Keeps M z s) (hM : 0x200000000000002 ||| M
    = M) :
    Keeps M z (State.syncCells s inst) := by
  unfold State.syncCells
  try dsimp only
  with_reducible repeat' first
    | assumption | apply State.setFld_keeps
  all_goals first
    | exact sub_mask rfl hM | exact InMask.auto

theorem State.pipeMap_keeps {M : Nat} {z s : State} {f : Pipeline → Pipeline} (hz : Keeps M z s) (hM : 0x400000 |||
    M = M) :
    Keeps M z (State.pipeMap s f) := by
  unfold State.pipeMap
  try dsimp only
  with_reducible repeat' first
    | assumption | apply Keeps.ite | split | apply Keeps.set_pipe
  all_goals exact sub_mask rfl hM

theorem State.freeSlots_keeps {M : Nat} {z s : State} {i n : Nat} (hz : Keeps M z s) (hM : 0x400000 ||| M = M) :
    Keeps M z (State.freeSlots s i n) := by
  unfold State.freeSlots
  try dsimp only
  with_reducible repeat' first
    | assumption | apply State.pipeMap_keeps
  all_goals exact sub_mask rfl hM

theorem State.setFrame_keeps {M : Nat} {z s : State} {id : Nat} {f : Frame} (hz : Keeps M z s) (hM : 0x400000 ||| M
    = M) :
    Keeps M z (State.setFrame s id f) := by
  unfold State.setFrame
  try dsimp only
  with_reducible repeat' first
    | assumption | apply State.pipeMap_keeps
  all_goals exact sub_mask rfl hM

theorem State.release_keeps {M : Nat} {z s : State} {id : Nat} (hz : Keeps M z s) (hM : 0x200000000400002 ||| M = M)
    :
    Keeps M z (State.release s id) := by
  unfold State.release
  try dsimp only
  with_reducible repeat' first
    | assumption | apply State.syncCells_keeps | apply State.freeSlots_keeps | apply State.pipeMap_keeps
    | apply State.setFrame_keeps | apply Keeps.ite | split
  all_goals exact sub_mask rfl hM

theorem State.captureLost_keeps {M : Nat} {z s : State} (hz : Keeps M z s) (hM : 0x802000000000202 ||| M = M) :
    Keeps M z (State.captureLost s) := by
  unfold State.captureLost
  try dsimp only
  with_reducible repeat' first
    | assumption | apply State.raiseIrq_keeps | apply State.incFld_keeps | apply Keeps.ite | split
  all_goals first
    | exact sub_mask rfl hM | exact InMask.auto

theorem State.sumpItem_keeps {M : Nat} {z s : State} {why : Nat} {id : Option Nat} {f : Frame} {bytes : List Nat}
    (hz : Keeps M z s) (hM : 0xa02000000400202 ||| M = M) :
    Keeps M z (State.sumpItem s why id f bytes) := by
  unfold State.sumpItem
  try dsimp only
  with_reducible repeat' first
    | assumption | apply State.raiseIrq_keeps | apply State.countReason_keeps | apply State.pipeMap_keeps
    | apply State.release_keeps | apply State.captureLost_keeps | apply Keeps.ite | split
  all_goals first
    | exact sub_mask rfl hM | exact InMask.auto

theorem State.copyLog_keeps {M : Nat} {z s : State} {f : Frame} (hz : Keeps M z s) (hM : 0x402000000000202 ||| M =
    M) :
    Keeps M z (State.copyLog s f) := by
  unfold State.copyLog
  try dsimp only
  with_reducible repeat' first
    | assumption | apply State.setReg_keeps | apply State.setFld_keeps | apply State.raiseIrq_keeps | apply Keeps.ite
    | split
  all_goals first
    | exact sub_mask rfl hM | exact InMask.auto | exact .reg .auto

theorem State.copyFate_keeps {M : Nat} {z s : State} {id d : Nat} {ok : Bool} (hz : Keeps M z s) (hM :
    0x402000000400202 ||| M = M) :
    Keeps M z (State.copyFate s id d ok) := by
  unfold State.copyFate
  try dsimp only
  with_reducible repeat' first
    | assumption | apply State.setFrame_keeps | apply State.copyLog_keeps | apply Keeps.ite | split
  all_goals exact sub_mask rfl hM

theorem State.copyLost_keeps {M : Nat} {z s : State} {why id d : Nat} {bytes : List Nat} (hz : Keeps M z s) (hM :
    0xe02000000400202 ||| M = M) :
    Keeps M z (State.copyLost s why id d bytes) := by
  unfold State.copyLost
  try dsimp only
  with_reducible repeat' first
    | assumption | apply State.raiseIrq_keeps | apply State.incFld_keeps | apply State.sumpItem_keeps
    | apply State.copyFate_keeps | apply Keeps.ite | split
  all_goals first
    | exact sub_mask rfl hM | exact InMask.auto

theorem State.syncFloat_keeps {M : Nat} {z s : State} {inst n : Nat} (hz : Keeps M z s) (hM : 0x202000000000202 |||
    M = M) :
    Keeps M z (State.syncFloat s inst n) := by
  unfold State.syncFloat
  try dsimp only
  with_reducible repeat' first
    | assumption | apply State.setFld_keeps | apply State.raiseIrq_keeps | apply State.maxFld_keeps
    | apply Keeps.ite | split
  all_goals first
    | exact sub_mask rfl hM | exact InMask.auto

theorem State.setOut_keeps {M : Nat} {z s : State} {port : Nat} {ps cs : List Item} (hz : Keeps M z s) (hM :
    0x202000000400202 ||| M = M) :
    Keeps M z (State.setOut s port ps cs) := by
  unfold State.setOut
  try dsimp only
  with_reducible repeat' first
    | assumption | apply State.pipeMap_keeps | apply State.syncFloat_keeps | apply State.setFld_keeps
    | apply Keeps.ite | split
  all_goals first
    | exact sub_mask rfl hM | exact InMask.auto

theorem State.leaveStages_keeps {M : Nat} {z s : State} {id : Nat} (hz : Keeps M z s) (hM : 0x400000 ||| M = M) :
    Keeps M z (State.leaveStages s id) := by
  unfold State.leaveStages
  try dsimp only
  with_reducible repeat' first
    | assumption | apply State.setFrame_keeps | apply Keeps.ite | split
  all_goals exact sub_mask rfl hM

theorem State.sump_keeps {M : Nat} {z s : State} {inst n why : Nat} {id : Nat} {bytes : List Nat} (hz : Keeps M z s)
    (hM : 0xa02000000400202 ||| M = M) :
    Keeps M z (State.sump s inst n why id bytes) := by
  unfold State.sump
  try dsimp only
  with_reducible repeat' first
    | assumption | apply State.raiseIrq_keeps | apply State.incFld_keeps | apply State.sumpItem_keeps
    | apply State.leaveStages_keeps | apply Keeps.ite | split
  all_goals first
    | exact sub_mask rfl hM | exact InMask.auto

theorem State.sumpFrame_keeps {M : Nat} {z s : State} {inst n why id : Nat} (hz : Keeps M z s) (hM :
    0xa02000000400202 ||| M = M) :
    Keeps M z (State.sumpFrame s inst n why id) := by
  unfold State.sumpFrame
  try dsimp only
  with_reducible repeat' first
    | assumption | apply State.sump_keeps
  all_goals exact sub_mask rfl hM

theorem State.setQueue_keeps {M : Nat} {z s : State} {inst n : Nat} {q : List Nat} (hz : Keeps M z s) (hM : 0x400000
    ||| M = M) :
    Keeps M z (State.setQueue s inst n q) := by
  unfold State.setQueue
  try dsimp only
  with_reducible repeat' first
    | assumption | apply State.pipeMap_keeps
  all_goals exact sub_mask rfl hM

theorem State.enter_keeps {M : Nat} {z s : State} {inst n id : Nat} (hz : Keeps M z s) (hM : 0x202000000400202 ||| M
    = M) :
    Keeps M z (State.enter s inst n id) := by
  unfold State.enter
  try dsimp only
  with_reducible repeat' first
    | assumption | apply State.setQueue_keeps | apply State.setFrame_keeps | apply State.incFld_keeps
    | apply State.syncFloat_keeps | apply Keeps.ite | split
  all_goals first
    | exact sub_mask rfl hM | exact InMask.auto

theorem State.setWaiting_keeps {M : Nat} {z s : State} {inst n : Nat} {q : List (Nat × Nat)} (hz : Keeps M z s) (hM
    : 0x400000 ||| M = M) :
    Keeps M z (State.setWaiting s inst n q) := by
  unfold State.setWaiting
  try dsimp only
  with_reducible repeat' first
    | assumption | apply State.pipeMap_keeps
  all_goals exact sub_mask rfl hM

theorem State.handOn_keeps {M : Nat} {z s : State} {inst n id : Nat} (hz : Keeps M z s) (hM : 0x202000000400202 |||
    M = M) :
    Keeps M z (State.handOn s inst n id) := by
  unfold State.handOn
  try dsimp only
  with_reducible repeat' first
    | assumption | apply State.enter_keeps | apply State.syncFloat_keeps | apply State.setWaiting_keeps
    | apply Keeps.ite | split
  all_goals exact sub_mask rfl hM

theorem State.pull_keeps {M : Nat} {z s : State} {inst n : Nat} (hz : Keeps M z s) (hM : 0x202000000400202 ||| M =
    M) :
    Keeps M z (State.pull s inst n) := by
  unfold State.pull
  try dsimp only
  with_reducible repeat' first
    | assumption | apply State.enter_keeps | apply State.syncFloat_keeps | apply State.setWaiting_keeps
    | apply Keeps.ite | split
  all_goals exact sub_mask rfl hM

theorem State.takeHead_keeps {M : Nat} {z s : State} {inst n : Nat} (hz : Keeps M z s) (hM : 0x202000000400202 ||| M
    = M) :
    Keeps M z (State.takeHead s inst n) := by
  unfold State.takeHead
  try dsimp only
  with_reducible repeat' first
    | assumption | apply State.pull_keeps | apply State.syncFloat_keeps | apply State.setQueue_keeps | apply Keeps.ite
    | split
  all_goals exact sub_mask rfl hM

theorem State.setItemsWaiting_keeps {M : Nat} {z s : State} {inst n : Nat} {q : List (Item × Nat)} (hz : Keeps M z
    s) (hM : 0x400000 ||| M = M) :
    Keeps M z (State.setItemsWaiting s inst n q) := by
  unfold State.setItemsWaiting
  try dsimp only
  with_reducible repeat' first
    | assumption | apply State.pipeMap_keeps
  all_goals exact sub_mask rfl hM

theorem State.sumpItemOf_keeps {M : Nat} {z s : State} {inst n why : Nat} {it : Item} (hz : Keeps M z s) (hM :
    0xe02000000400202 ||| M = M) :
    Keeps M z (State.sumpItemOf s inst n why it) := by
  unfold State.sumpItemOf
  try dsimp only
  with_reducible repeat' first
    | assumption | apply State.raiseIrq_keeps | apply State.incFld_keeps | apply State.copyLost_keeps
    | apply State.sumpItem_keeps | apply State.copyFate_keeps | apply State.sump_keeps | apply Keeps.ite | split
  all_goals first
    | exact sub_mask rfl hM | exact InMask.auto

theorem State.setSealQ_keeps {M : Nat} {z s : State} {inst : Nat} {q : List Item} (hz : Keeps M z s) (hM : 0x400000
    ||| M = M) :
    Keeps M z (State.setSealQ s inst q) := by
  unfold State.setSealQ
  try dsimp only
  with_reducible repeat' first
    | assumption | apply State.pipeMap_keeps
  all_goals exact sub_mask rfl hM

theorem State.enterItem_keeps {M : Nat} {z s : State} {n : Nat} {it : Item} (hz : Keeps M z s) (hM :
    0x202000000400202 ||| M = M) :
    Keeps M z (State.enterItem s n it) := by
  unfold State.enterItem
  try dsimp only
  with_reducible repeat' first
    | assumption | apply State.incFld_keeps | apply State.syncFloat_keeps | apply State.setSealQ_keeps
    | apply State.setOut_keeps | apply Keeps.ite | split
  all_goals first
    | exact sub_mask rfl hM | exact InMask.auto

theorem State.handItem_keeps {M : Nat} {z s : State} {n : Nat} {it : Item} (hz : Keeps M z s) (hM :
    0x202000000400202 ||| M = M) :
    Keeps M z (State.handItem s n it) := by
  unfold State.handItem
  try dsimp only
  with_reducible repeat' first
    | assumption | apply State.enterItem_keeps | apply State.setItemsWaiting_keeps | apply Keeps.ite | split
  all_goals exact sub_mask rfl hM

theorem State.copyDone_keeps {M : Nat} {z s : State} {id d : Nat} (hz : Keeps M z s) (hM : 0x602000000400202 ||| M =
    M) :
    Keeps M z (State.copyDone s id d) := by
  unfold State.copyDone
  try dsimp only
  with_reducible repeat' first
    | assumption | apply State.release_keeps | apply State.copyFate_keeps | apply State.incFld_keeps | apply Keeps.ite
    | split
  all_goals first
    | exact sub_mask rfl hM | exact InMask.auto

theorem State.pullItem_keeps {M : Nat} {z s : State} {inst n : Nat} (hz : Keeps M z s) (hM : 0x202000000400202 ||| M
    = M) :
    Keeps M z (State.pullItem s inst n) := by
  unfold State.pullItem
  try dsimp only
  with_reducible repeat' first
    | assumption | apply State.enterItem_keeps | apply State.setItemsWaiting_keeps | apply Keeps.ite | split
  all_goals exact sub_mask rfl hM

theorem State.setTapFifo_keeps {M : Nat} {z s : State} {k inst : Nat} {l : List TapRecord} (hz : Keeps M z s) (hM :
    0x400000 ||| M = M) :
    Keeps M z (State.setTapFifo s k inst l) := by
  unfold State.setTapFifo
  try dsimp only
  with_reducible repeat' first
    | assumption | apply State.pipeMap_keeps
  all_goals exact sub_mask rfl hM

theorem State.offer_keeps {M : Nat} {z s : State} {k id : Nat} (hz : Keeps M z s) (hM : 0x1002000000400602 ||| M =
    M) :
    Keeps M z (State.offer s k id) := by
  unfold State.offer
  try dsimp only
  with_reducible repeat' first
    | assumption | apply State.raiseIrq_keeps | apply State.incFld_keeps | apply State.drawn_keeps
    | apply State.setFrame_keeps | apply State.setTapFifo_keeps | apply Keeps.ite
    | (apply Keeps.foldl; intro _ _ _) | split
  all_goals first
    | exact sub_mask rfl hM | exact InMask.auto

end Sys2Proof.Machine
end

