-- ==== Sys2Proof/Laws/KeepsLanes.lean ====
section
/-!
SUPPORT. What each operation keeps (the Windlass, serial lanes, links, optics, the join and the probes): one law `X_keeps` for each operation `X`, with the mask of the
components of State that `X` may change.
-/

set_option Elab.async false

namespace Sys2Proof.Machine

open Sys2Proof

theorem State.completeJoin_keeps {M : Nat} {z s : State} {id : Nat} {late : Bool} (hz : Keeps M z s) (hM :
    0x202000000400602 ||| M = M) :
    Keeps M z (State.completeJoin s id late) := by
  unfold State.completeJoin
  try dsimp only
  with_reducible repeat' first
    | assumption | apply State.raiseIrq_keeps | apply State.incFld_keeps | apply State.drawn_keeps
    | apply State.setFrame_keeps | apply Keeps.ite | split
  all_goals first
    | exact sub_mask rfl hM | exact InMask.auto

theorem State.joinCheck_keeps {M : Nat} {z s : State} {id : Nat} (hz : Keeps M z s) (hM : 0x202000000400602 ||| M =
    M) :
    Keeps M z (State.joinCheck s id) := by
  unfold State.joinCheck
  try dsimp only
  with_reducible repeat' first
    | assumption | apply State.completeJoin_keeps | apply Keeps.ite
  all_goals exact sub_mask rfl hM

theorem State.uncount_keeps {M : Nat} {z s : State} {page : Nat} {f : Fld} (hz : Keeps M z s) (hM : 0x2 ||| M = M)
    (hp : InMask M page := by exact InMask.auto) :
    Keeps M z (State.uncount s page f) := by
  unfold State.uncount
  try dsimp only
  with_reducible repeat' first
    | assumption | apply State.setFld_keeps | apply State.noteAt_keeps | apply Keeps.ite | split
  all_goals first
    | exact sub_mask rfl hM | exact InMask.auto | exact .reg .auto

theorem State.reopen_keeps {M : Nat} {z s : State} {id : Nat} (hz : Keeps M z s) (hM : 0x200000000400002 ||| M = M) :
    Keeps M z (State.reopen s id) := by
  unfold State.reopen
  try dsimp only
  with_reducible repeat' first
    | assumption | apply State.setFrame_keeps | apply State.uncount_keeps | apply Keeps.ite | split
  all_goals first
    | exact sub_mask rfl hM | exact InMask.auto

theorem State.scoreRecord_keeps {M : Nat} {z s : State} {r : ScoreRec} {tap : Option Nat} (hz : Keeps M z s) (hM :
    0x202000000400602 ||| M = M) :
    Keeps M z (State.scoreRecord s r tap) := by
  unfold State.scoreRecord
  try dsimp only
  with_reducible repeat' first
    | assumption | apply State.raiseIrq_keeps | apply State.incFld_keeps | apply State.setFrame_keeps
    | apply State.joinCheck_keeps | apply State.reopen_keeps | apply Keeps.ite | split
  all_goals first
    | exact sub_mask rfl hM | exact InMask.auto

theorem State.pullJoin_keeps {M : Nat} {z s : State} {i : Nat} (hz : Keeps M z s) (hM : 0x202000000400602 ||| M = M)
    :
    Keeps M z (State.pullJoin s i) := by
  unfold State.pullJoin
  try dsimp only
  with_reducible repeat' first
    | assumption | apply State.pull_keeps | apply State.joinCheck_keeps | apply Keeps.ite | split
  all_goals exact sub_mask rfl hM

theorem State.leaveJoin_keeps {M : Nat} {z s : State} {i id : Nat} (hz : Keeps M z s) (hM : 0x202000000400602 ||| M
    = M) :
    Keeps M z (State.leaveJoin s i id) := by
  unfold State.leaveJoin
  try dsimp only
  with_reducible repeat' first
    | assumption | apply State.pullJoin_keeps | apply State.syncFloat_keeps | apply State.setQueue_keeps
    | apply Keeps.ite | split
  all_goals exact sub_mask rfl hM

theorem State.ft4Reply_keeps {M : Nat} {z s : State} {inst port pseq verdict : Nat} {copy : Bool} (hz : Keeps M z s)
    (hM : 0x202000000400202 ||| M = M) :
    Keeps M z (State.ft4Reply s inst port pseq verdict copy) := by
  unfold State.ft4Reply
  try dsimp only
  with_reducible repeat' first
    | assumption | apply State.incFld_keeps | apply State.setFrame_keeps | apply State.raiseIrq_keeps
    | apply Keeps.ite | split
  all_goals first
    | exact sub_mask rfl hM | exact InMask.auto

theorem State.probeWindow_keeps {M : Nat} {z s : State} {i : Nat} {openIt : Bool} (hz : Keeps M z s) (hM :
    0x10002000000000202 ||| M = M) :
    Keeps M z (State.probeWindow s i openIt) := by
  unfold State.probeWindow
  try dsimp only
  with_reducible repeat' first
    | assumption | apply State.setFld_keeps | apply State.raiseIrq_keeps | apply Keeps.ite | split
  all_goals first
    | exact sub_mask rfl hM | exact InMask.auto

theorem State.probeMark_keeps {M : Nat} {z s : State} {m : Nat} {i : Nat} (hz : Keeps M z s) (hM :
    0x10002000000000202 ||| M = M) :
    Keeps M z (State.probeMark m s i) := by
  unfold State.probeMark
  try dsimp only
  with_reducible repeat' first
    | assumption | apply State.probeWindow_keeps | apply Keeps.ite | split
  all_goals first
    | exact sub_mask rfl hM | exact InMask.auto

theorem State.probeMarks_keeps {M : Nat} {z s : State} {m : Nat} (hz : Keeps M z s) (hM : 0x10002000000000202 ||| M
    = M) :
    Keeps M z (State.probeMarks s m) := by
  unfold State.probeMarks
  try dsimp only
  with_reducible repeat' first
    | assumption | apply State.probeMark_keeps | apply Keeps.ite | (apply Keeps.foldl; intro _ _ _)
  all_goals exact sub_mask rfl hM

theorem State.armProbe_keeps {M : Nat} {z s : State} {i : Nat} {was : Bool} (hz : Keeps M z s) (hM :
    0x10002000000000202 ||| M = M) :
    Keeps M z (State.armProbe s i was) := by
  unfold State.armProbe
  try dsimp only
  with_reducible repeat' first
    | assumption | apply State.probeWindow_keeps | apply Keeps.ite
  all_goals exact sub_mask rfl hM

theorem State.probeTrace_keeps {M : Nat} {z s : State} {i lat : Nat} {p : Packet} (hz : Keeps M z s) (hM :
    0x10002000000000202 ||| M = M) :
    Keeps M z (State.probeTrace s i lat p) := by
  unfold State.probeTrace
  try dsimp only
  with_reducible repeat' first
    | assumption | apply State.setFld_keeps | apply State.raiseIrq_keeps | apply Keeps.ite | split
  all_goals first
    | exact sub_mask rfl hM | exact InMask.auto

theorem State.probeSee_keeps {M : Nat} {z s : State} {r o : Nat} {p : Packet} {i : Nat} (hz : Keeps M z s) (hM :
    0x10002000000000282 ||| M = M) :
    Keeps M z (State.probeSee r o p s i) := by
  unfold State.probeSee
  try dsimp only
  with_reducible repeat' first
    | assumption | apply State.maxFld_keeps | apply State.incFld_keeps | apply State.incWide_keeps
    | apply State.raiseIrq_keeps | apply State.probeTrace_keeps | apply Keeps.ite | split
  all_goals first
    | exact sub_mask rfl hM | exact InMask.auto

theorem State.probesSee_keeps {M : Nat} {z s : State} {r o : Nat} {p : Packet} (hz : Keeps M z s) (hM :
    0x10002000000000282 ||| M = M) :
    Keeps M z (State.probesSee s r o p) := by
  unfold State.probesSee
  try dsimp only
  with_reducible repeat' first
    | assumption | apply State.probeSee_keeps | apply Keeps.ite | (apply Keeps.foldl; intro _ _ _)
  all_goals exact sub_mask rfl hM

theorem State.setMark_keeps {M : Nat} {z s : State} {m : Nat} {c : MarkCmp} (hz : Keeps M z s) (hM : 0x40000001002
    ||| M = M) :
    Keeps M z (State.setMark s m c) := by
  unfold State.setMark
  try dsimp only
  with_reducible repeat' first
    | assumption | apply State.setFld_keeps | apply Keeps.ite | split | apply Keeps.set_wdl
  all_goals first
    | exact sub_mask rfl hM | exact InMask.auto

theorem State.fireMark_keeps {M : Nat} {z s : State} {m : Nat} (hz : Keeps M z s) (hM : 0x17ffffffe00000016e2 ||| M
    = M) :
    Keeps M z (State.fireMark s m) := by
  unfold State.fireMark
  try dsimp only
  with_reducible repeat' first
    | assumption | apply State.emit_keeps | apply State.raiseIrq_keeps | apply State.incFld_keeps
    | apply State.snapshotArmed_keeps | apply State.probeMarks_keeps | apply State.setMark_keeps
    | apply State.hwSet_keeps | apply State.setFld_keeps | apply Keeps.ite | split
  all_goals first
    | exact sub_mask rfl hM | exact InMask.auto

theorem State.enterHoldover_keeps {M : Nat} {z s : State} (hz : Keeps M z s) (hM : 0x2040000000202 ||| M = M) :
    Keeps M z (State.enterHoldover s) := by
  unfold State.enterHoldover
  try dsimp only
  with_reducible repeat' first
    | assumption | apply State.raiseIrq_keeps | apply State.setFld_keeps | apply Keeps.ite | split
  all_goals first
    | exact sub_mask rfl hM | exact InMask.auto

theorem State.failAnchor_keeps {M : Nat} {z s : State} {c : LossCause} (hz : Keeps M z s) (hM : 0x2040000001202 ||| M = M) :
    Keeps M z (State.failAnchor s c) := by
  unfold State.failAnchor
  try dsimp only
  with_reducible repeat' first
    | assumption | apply State.setFld_keeps | apply State.raiseIrq_keeps | apply State.incFld_keeps
    | apply State.enterHoldover_keeps | apply Keeps.ite | split | apply Keeps.set_wdl
  all_goals first
    | exact sub_mask rfl hM | exact InMask.auto

theorem State.endLock_keeps {M : Nat} {z s : State} {p : Nat} (hz : Keeps M z s) (hM : 0x40000001002 ||| M = M) :
    Keeps M z (State.endLock s p) := by
  unfold State.endLock
  try dsimp only
  with_reducible repeat' first
    | assumption | apply State.setFld_keeps | apply Keeps.ite | split | apply Keeps.set_wdl
  all_goals first
    | exact sub_mask rfl hM | exact InMask.auto

theorem State.beginLock_keeps {M : Nat} {z s : State} {p : Nat} {rate : Int} (hz : Keeps M z s) (hM : 0x1000 ||| M =
    M) :
    Keeps M z (State.beginLock s p rate) := by
  unfold State.beginLock
  try dsimp only
  with_reducible repeat' first
    | assumption | apply Keeps.ite | split | apply Keeps.set_wdl
  all_goals exact sub_mask rfl hM

theorem State.relock_keeps {M : Nat} {z s : State} {p : Nat} {c : LossCause} (hz : Keeps M z s) (hM : 0x1000 ||| M =
    M) :
    Keeps M z (State.relock s p c) := by
  unfold State.relock
  try dsimp only
  with_reducible repeat' first
    | assumption | apply State.beginLock_keeps | apply Keeps.ite | split | apply Keeps.set_wdl
  all_goals exact sub_mask rfl hM

theorem State.interruptLock_keeps {M : Nat} {z s : State} {p : Nat} {c : LossCause} (hz : Keeps M z s) (hM :
    0x2040000001202 ||| M = M) :
    Keeps M z (State.interruptLock s p c) := by
  unfold State.interruptLock
  try dsimp only
  with_reducible repeat' first
    | assumption | apply State.setFld_keeps | apply State.endLock_keeps | apply State.failAnchor_keeps
    | apply State.relock_keeps | apply Keeps.ite | split
  all_goals first
    | exact sub_mask rfl hM | exact InMask.auto

theorem State.loseAnchor_keeps {M : Nat} {z s : State} {c : LossCause} (hz : Keeps M z s) (hM : 0x2040000001202 |||
    M = M) :
    Keeps M z (State.loseAnchor s c) := by
  unfold State.loseAnchor
  try dsimp only
  with_reducible repeat' first
    | assumption | apply State.interruptLock_keeps | apply State.raiseIrq_keeps | apply State.beginLock_keeps
    | apply State.incFld_keeps | apply State.setFld_keeps | apply State.enterHoldover_keeps | apply Keeps.ite
    | split
  all_goals first
    | exact sub_mask rfl hM | exact InMask.auto

theorem State.noteSteady_keeps {M : Nat} {z s : State} {phase : Int} (hz : Keeps M z s) (hM : 0x1000 ||| M = M) :
    Keeps M z (State.noteSteady s phase) := by
  unfold State.noteSteady
  try dsimp only
  with_reducible repeat' first
    | assumption | apply Keeps.ite | split | apply Keeps.set_wdl
  all_goals exact sub_mask rfl hM

theorem State.slew_keeps {M : Nat} {z s : State} {phase : Int} (hz : Keeps M z s) (hM : 0x40000001002 ||| M = M) :
    Keeps M z (State.slew s phase) := by
  unfold State.slew
  try dsimp only
  with_reducible repeat' first
    | assumption | apply State.setFld_keeps | apply State.noteSteady_keeps | apply Keeps.ite | split
  all_goals first
    | exact sub_mask rfl hM | exact InMask.auto

theorem State.qualify_keeps {M : Nat} {z s : State} {p : Nat} (hz : Keeps M z s) (hM : 0x40000000002 ||| M = M) :
    Keeps M z (State.qualify s p) := by
  unfold State.qualify
  try dsimp only
  with_reducible repeat' first
    | assumption | apply State.setFld_keeps | apply Keeps.ite | split
  all_goals first
    | exact sub_mask rfl hM | exact InMask.auto

theorem State.takeAnchor_keeps {M : Nat} {z s : State} {p : Nat} {phase : Int} (hz : Keeps M z s) (hM :
    0x2040000001202 ||| M = M) :
    Keeps M z (State.takeAnchor s p phase) := by
  unfold State.takeAnchor
  try dsimp only
  with_reducible repeat' first
    | assumption | apply State.setFld_keeps | apply State.raiseIrq_keeps | apply State.incFld_keeps
    | apply State.noteSteady_keeps | apply Keeps.ite | split | apply Keeps.set_wdl
  all_goals first
    | exact sub_mask rfl hM | exact InMask.auto

theorem State.noteNone_keeps {M : Nat} {z s : State} (hz : Keeps M z s) (hM : 0x1000 ||| M = M) :
    Keeps M z (State.noteNone s) := by
  unfold State.noteNone
  try dsimp only
  with_reducible repeat' first
    | assumption | apply Keeps.ite | split | apply Keeps.set_wdl
  all_goals exact sub_mask rfl hM

theorem State.enterLocked_keeps {M : Nat} {z s : State} (hz : Keeps M z s) (hM : 0x2060000005602 ||| M = M) :
    Keeps M z (State.enterLocked s) := by
  unfold State.enterLocked
  try dsimp only
  with_reducible repeat' first
    | assumption | apply State.setFld_keeps | apply State.raiseIrq_keeps | apply State.milestone_keeps
    | apply Keeps.ite | split | apply Keeps.set_wdl
  all_goals first
    | exact sub_mask rfl hM | exact InMask.auto

theorem State.showPhase_keeps {M : Nat} {z s : State} {x : Int} (hz : Keeps M z s) (hM : 0x40000001002 ||| M = M) :
    Keeps M z (State.showPhase s x) := by
  unfold State.showPhase
  try dsimp only
  with_reducible repeat' first
    | assumption | apply State.setFld_keeps | apply Keeps.ite | split | apply Keeps.set_wdl
  all_goals first
    | exact sub_mask rfl hM | exact InMask.auto

theorem State.discipline_keeps {M : Nat} {z s : State} {phase : Int} (hz : Keeps M z s) (hM : 0x40000001002 ||| M = M) :
    Keeps M z (State.discipline s phase) := by
  unfold State.discipline
  try dsimp only
  with_reducible repeat' first
    | assumption | apply State.setFld_keeps | apply State.showPhase_keeps | apply Keeps.ite | split
    | apply Keeps.set_wdl
  all_goals first
    | exact sub_mask rfl hM | exact InMask.auto

theorem State.flywheelTurn_keeps {M : Nat} {z s : State} {phase : Int} (hz : Keeps M z s) (hM : 0x2060000005602 ||| M = M) :
    Keeps M z (State.flywheelTurn s phase) := by
  unfold State.flywheelTurn
  try dsimp only
  with_reducible repeat' first
    | assumption | apply State.incFld_keeps | apply State.slew_keeps | apply State.discipline_keeps
    | apply State.enterLocked_keeps | apply Keeps.ite | split
  all_goals first
    | exact sub_mask rfl hM | exact InMask.auto

theorem State.measure_keeps {M : Nat} {z s : State} {m : Port × Int} (hz : Keeps M z s) (hM : 0x2040000001202 ||| M = M) :
    Keeps M z (State.measure s m) := by
  unfold State.measure
  try dsimp only
  with_reducible repeat' first
    | assumption | apply State.interruptLock_keeps | apply State.beginLock_keeps | apply Keeps.ite | split
    | apply Keeps.set_wdl
  all_goals first
    | exact sub_mask rfl hM | exact InMask.auto

theorem State.windlassBoundary_keeps {M : Nat} {z s : State} {m : TurnMeasure} (hz : Keeps M z s) (hM :
    0x2060000005602 ||| M = M) :
    Keeps M z (State.windlassBoundary s m) := by
  unfold State.windlassBoundary
  try dsimp only
  with_reducible repeat' first
    | assumption | apply State.enterHoldover_keeps | apply State.loseAnchor_keeps | apply State.qualify_keeps
    | apply State.takeAnchor_keeps | apply State.measure_keeps | apply State.flywheelTurn_keeps
    | apply State.noteNone_keeps | apply State.slew_keeps | apply State.setFld_keeps | apply State.incFld_keeps
    | apply Keeps.ite | (apply Keeps.foldl; intro _ _ _) | split
  all_goals first
    | exact sub_mask rfl hM | exact InMask.auto

theorem State.armMark_keeps {M : Nat} {z s : State} {m : Nat} (hz : Keeps M z s) (hM : 0x2040000001602 ||| M = M) :
    Keeps M z (State.armMark s m) := by
  unfold State.armMark
  try dsimp only
  with_reducible repeat' first
    | assumption | apply State.setFld_keeps | apply State.raiseIrq_keeps | apply State.drawn_keeps
    | apply State.setMark_keeps | apply State.hwSet_keeps | apply Keeps.ite | split
  all_goals first
    | exact sub_mask rfl hM | exact InMask.auto

theorem State.windlassFault_keeps {M : Nat} {z s : State} (hz : Keeps M z s) (hM : 0x17ffffffe72fff5fefe ||| M = M)
    :
    Keeps M z (State.windlassFault s) := by
  unfold State.windlassFault
  try dsimp only
  with_reducible repeat' first
    | assumption | apply State.failUnit_keeps | apply State.setFld_keeps | apply Keeps.ite | split
  all_goals first
    | exact sub_mask rfl hM | exact InMask.auto

theorem State.setAdrift_keeps {M : Nat} {z s : State} {d : Nat} (hz : Keeps M z s) (hM : 0x1000 ||| M = M) :
    Keeps M z (State.setAdrift s d) := by
  unfold State.setAdrift
  try dsimp only
  with_reducible repeat' first
    | assumption | apply State.wdlMap_keeps | apply Keeps.ite | split
  all_goals exact sub_mask rfl hM

theorem State.followerError_keeps {M : Nat} {z s : State} {d : Nat} (hz : Keeps M z s) (hM : 0x17ffffffe72fff5fefe
    ||| M = M) :
    Keeps M z (State.followerError s d) := by
  unfold State.followerError
  try dsimp only
  with_reducible repeat' first
    | assumption | apply State.setFld_keeps | apply State.raiseIrq_keeps | apply State.incFld_keeps
    | apply State.setAdrift_keeps | apply State.windlassFault_keeps | apply Keeps.ite | split
  all_goals first
    | exact sub_mask rfl hM | exact InMask.auto

theorem State.laneTaps_keeps {M : Nat} {z s : State} {l : Nat} (hz : Keeps M z s) (hM : 0x4000000000002 ||| M = M) :
    Keeps M z (State.laneTaps s l) := by
  unfold State.laneTaps
  try dsimp only
  with_reducible repeat' first
    | assumption | apply State.setFld_keeps | apply Keeps.ite
  all_goals first
    | exact sub_mask rfl hM | exact InMask.auto

theorem State.setLane_keeps {M : Nat} {z s : State} {l : Nat} {x : Lane} (hz : Keeps M z s) (hM : 0x8000 ||| M = M)
    :
    Keeps M z (State.setLane s l x) := by
  unfold State.setLane
  try dsimp only
  with_reducible repeat' first
    | assumption | apply Keeps.ite | split | apply Keeps.set_lanes
  all_goals exact sub_mask rfl hM

theorem State.setLstate_keeps {M : Nat} {z s : State} {l v : Nat} (hz : Keeps M z s) (hM : 0x4000000000002 ||| M =
    M) :
    Keeps M z (State.setLstate s l v) := by
  unfold State.setLstate
  try dsimp only
  with_reducible repeat' first
    | assumption | apply State.setFld_keeps
  all_goals first
    | exact sub_mask rfl hM | exact InMask.auto

theorem State.laneNoPartner_keeps {M : Nat} {z s : State} {l : Nat} (hz : Keeps M z s) (hM : 0x6000000000202 ||| M =
    M) :
    Keeps M z (State.laneNoPartner s l) := by
  unfold State.laneNoPartner
  try dsimp only
  with_reducible repeat' first
    | assumption | apply State.raiseIrq_keeps | apply State.setLstate_keeps | apply Keeps.ite | split
  all_goals first
    | exact sub_mask rfl hM | exact InMask.auto

theorem State.unlock_keeps {M : Nat} {z s : State} {l : Nat} (hz : Keeps M z s) (hM : 0x4000000000002 ||| M = M) :
    Keeps M z (State.unlock s l) := by
  unfold State.unlock
  try dsimp only
  with_reducible repeat' first
    | assumption | apply State.setFld_keeps | apply Keeps.ite | split
  all_goals first
    | exact sub_mask rfl hM | exact InMask.auto

theorem State.laneAttempt_keeps {M : Nat} {z s : State} {l : Nat} (hz : Keeps M z s) (hM : 0x6000000008202 ||| M =
    M) :
    Keeps M z (State.laneAttempt s l) := by
  unfold State.laneAttempt
  try dsimp only
  with_reducible repeat' first
    | assumption | apply State.setFld_keeps | apply State.incFld_keeps | apply State.setLane_keeps
    | apply State.setLstate_keeps | apply State.laneNoPartner_keeps | apply State.unlock_keeps | apply Keeps.ite
    | split
  all_goals first
    | exact sub_mask rfl hM | exact InMask.auto

theorem State.laneCycle_keeps {M : Nat} {z s : State} {l : Nat} (hz : Keeps M z s) (hM : 0x6000000008202 ||| M = M)
    :
    Keeps M z (State.laneCycle s l) := by
  unfold State.laneCycle
  try dsimp only
  with_reducible repeat' first
    | assumption | apply State.laneAttempt_keeps | apply State.setFld_keeps | apply Keeps.ite | split
  all_goals first
    | exact sub_mask rfl hM | exact InMask.auto

theorem State.anStart_keeps {M : Nat} {z s : State} {l : Nat} (hz : Keeps M z s) (hM : 0x4000000008202 ||| M = M) :
    Keeps M z (State.anStart s l) := by
  unfold State.anStart
  try dsimp only
  with_reducible repeat' first
    | assumption | apply State.setFld_keeps | apply State.emit_keeps | apply State.setLane_keeps
    | apply Keeps.ite | split
  all_goals first
    | exact sub_mask rfl hM | exact InMask.auto

theorem State.laneFixed_keeps {M : Nat} {z s : State} {l : Nat} (hz : Keeps M z s) (hM : 0x6000000008202 ||| M = M)
    :
    Keeps M z (State.laneFixed s l) := by
  unfold State.laneFixed
  try dsimp only
  with_reducible repeat' first
    | assumption | apply State.raiseIrq_keeps | apply State.setLane_keeps | apply State.setLstate_keeps
    | apply State.anStart_keeps | apply Keeps.ite | split
  all_goals first
    | exact sub_mask rfl hM | exact InMask.auto

theorem State.laneStop_keeps {M : Nat} {z s : State} {l : Nat} (hz : Keeps M z s) (hM : 0x4000000008002 ||| M = M) :
    Keeps M z (State.laneStop s l) := by
  unfold State.laneStop
  try dsimp only
  with_reducible repeat' first
    | assumption | apply State.setLane_keeps | apply State.setLstate_keeps | apply State.unlock_keeps
    | apply Keeps.ite | split
  all_goals first
    | exact sub_mask rfl hM | exact InMask.auto

theorem State.anBoundary_keeps {M : Nat} {z s : State} {l : Nat} (hz : Keeps M z s) (hM : 0x4000000008202 ||| M = M) :
    Keeps M z (State.anBoundary s l) := by
  unfold State.anBoundary
  try dsimp only
  with_reducible repeat' first
    | assumption | apply State.setLane_keeps | apply State.anStart_keeps | apply Keeps.ite | split
  all_goals first
    | exact sub_mask rfl hM | exact InMask.auto

theorem State.laneBoundary_keeps {M : Nat} {z s : State} {l : Nat} (hz : Keeps M z s) (hM : 0x6000000008202 ||| M =
    M) :
    Keeps M z (State.laneBoundary s l) := by
  unfold State.laneBoundary
  try dsimp only
  with_reducible repeat' first
    | assumption | apply State.setFld_keeps | apply State.laneTaps_keeps | apply State.setLane_keeps
    | apply State.setLstate_keeps | apply State.laneCycle_keeps | apply State.laneFixed_keeps
    | apply State.laneStop_keeps | apply State.anBoundary_keeps | apply Keeps.ite | split
  all_goals first
    | exact sub_mask rfl hM | exact InMask.auto

theorem State.syncDepth_keeps {M : Nat} {z s : State} (hz : Keeps M z s) (hM : 0x100000000000000002 ||| M = M) :
    Keeps M z (State.syncDepth s) := by
  unfold State.syncDepth
  try dsimp only
  with_reducible repeat' first
    | assumption | apply State.setFld_keeps
  all_goals first
    | exact sub_mask rfl hM | exact InMask.auto

theorem State.setOffset_keeps {M : Nat} {z s : State} {v : Int} (hz : Keeps M z s) (hM : 0x4000000000002 ||| M = M) :
    Keeps M z (State.setOffset s v) := by
  unfold State.setOffset
  try dsimp only
  with_reducible repeat' first
    | assumption | apply State.setFld_keeps | apply Keeps.ite | split
  all_goals first
    | exact sub_mask rfl hM | exact InMask.auto

theorem State.refLock_keeps {M : Nat} {z s : State} {cand : Nat} (hz : Keeps M z s) (hM : 0x100004020001004402 ||| M
    = M) :
    Keeps M z (State.refLock s cand) := by
  unfold State.refLock
  try dsimp only
  with_reducible repeat' first
    | assumption | apply State.setFld_keeps | apply State.drawn_keeps | apply State.milestone_keeps
    | apply State.syncDepth_keeps | apply State.setOffset_keeps | apply Keeps.ite | split | apply Keeps.set_ryk
  all_goals first
    | exact sub_mask rfl hM | exact InMask.auto

theorem State.refHoldover_keeps {M : Nat} {z s : State} (hz : Keeps M z s) (hM : 0x100006000000000602 ||| M = M) :
    Keeps M z (State.refHoldover s) := by
  unfold State.refHoldover
  try dsimp only
  with_reducible repeat' first
    | assumption | apply State.setFld_keeps | apply State.raiseIrq_keeps | apply State.incFld_keeps
    | apply State.drawn_keeps | apply State.syncDepth_keeps | apply State.setOffset_keeps | apply Keeps.ite
    | split
  all_goals first
    | exact sub_mask rfl hM | exact InMask.auto

theorem State.candLost_keeps {M : Nat} {z s : State} {k : Nat} (hz : Keeps M z s) (hM : 0x100006020001004602 ||| M =
    M) :
    Keeps M z (State.candLost s k) := by
  unfold State.candLost
  try dsimp only
  with_reducible repeat' first
    | assumption | apply State.setFld_keeps | apply State.raiseIrq_keeps | apply State.incFld_keeps
    | apply State.refLock_keeps | apply State.refHoldover_keeps | apply Keeps.ite | split
  all_goals first
    | exact sub_mask rfl hM | exact InMask.auto

theorem State.linkCandLost_keeps {M : Nat} {z s : State} {n : Nat} (hz : Keeps M z s) (hM : 0x100006020001004602 ||| M = M) :
    Keeps M z (State.linkCandLost s n) := by
  unfold State.linkCandLost
  try dsimp only
  with_reducible repeat' first
    | assumption | apply State.candLost_keeps | apply Keeps.ite | (apply Keeps.foldl; intro _ _ _) | split
  all_goals first
    | exact sub_mask rfl hM | exact InMask.auto

theorem State.laneRetire_keeps {M : Nat} {z s : State} {l reason : Nat} (hz : Keeps M z s) (hM :
    0x10000612000100c602 ||| M = M) :
    Keeps M z (State.laneRetire s l reason) := by
  unfold State.laneRetire
  try dsimp only
  with_reducible repeat' first
    | assumption | apply State.retire_keeps | apply State.laneStop_keeps | apply State.linkCandLost_keeps
    | apply State.candLost_keeps | apply Keeps.ite | split
  all_goals first
    | exact sub_mask rfl hM | exact InMask.auto

theorem State.laneEvent_keeps {M : Nat} {z s : State} {l : Nat} (hz : Keeps M z s) (hM : 0x10000612000100c602 ||| M
    = M) :
    Keeps M z (State.laneEvent s l) := by
  unfold State.laneEvent
  try dsimp only
  with_reducible repeat' first
    | assumption | apply State.transient_keeps | apply State.laneRetire_keeps | apply Keeps.ite | split
  all_goals first
    | exact sub_mask rfl hM | exact InMask.auto

theorem State.sendTraining_keeps {M : Nat} {z s : State} {l : Nat} (hz : Keeps M z s) (hM : 0x8200 ||| M = M) :
    Keeps M z (State.sendTraining s l) := by
  unfold State.sendTraining
  try dsimp only
  with_reducible repeat' first
    | assumption | apply State.emit_keeps | apply State.setLane_keeps | apply Keeps.ite | split
  all_goals exact sub_mask rfl hM

theorem State.laneFast_keeps {M : Nat} {z s : State} {l : Nat} (hz : Keeps M z s) (hM : 0x10000612000100c602 ||| M =
    M) :
    Keeps M z (State.laneFast s l) := by
  unfold State.laneFast
  try dsimp only
  with_reducible repeat' first
    | assumption | apply State.setFld_keeps | apply State.incFld_keeps | apply State.setLane_keeps
    | apply State.setLstate_keeps | apply State.laneNoPartner_keeps | apply State.laneEvent_keeps
    | apply State.unlock_keeps | apply State.sendTraining_keeps | apply Keeps.ite | split
  all_goals first
    | exact sub_mask rfl hM | exact InMask.auto

theorem State.refAcquire_keeps {M : Nat} {z s : State} (hz : Keeps M z s) (hM : 0x100004020001004402 ||| M = M) :
    Keeps M z (State.refAcquire s) := by
  unfold State.refAcquire
  try dsimp only
  with_reducible repeat' first
    | assumption | apply State.refLock_keeps | apply Keeps.ite | split
  all_goals exact sub_mask rfl hM

theorem State.refRoleWritten_keeps {M : Nat} {z s : State} {oldRole : Nat} (hz : Keeps M z s) (hM :
    0x100006020001004602 ||| M = M) :
    Keeps M z (State.refRoleWritten s oldRole) := by
  unfold State.refRoleWritten
  try dsimp only
  with_reducible repeat' first
    | assumption | apply State.syncDepth_keeps | apply State.setFld_keeps | apply State.refLock_keeps
    | apply State.refHoldover_keeps | apply State.refAcquire_keeps | apply Keeps.ite | split
  all_goals first
    | exact sub_mask rfl hM | exact InMask.auto

theorem State.anRestart_keeps {M : Nat} {z s : State} {l : Nat} (hz : Keeps M z s) (hM : 0x4000000008202 ||| M = M)
    :
    Keeps M z (State.anRestart s l) := by
  unfold State.anRestart
  try dsimp only
  with_reducible repeat' first
    | assumption | apply State.setFld_keeps | apply State.anStart_keeps | apply Keeps.ite | split
  all_goals first
    | exact sub_mask rfl hM | exact InMask.auto

theorem State.portSignal_keeps {M : Nat} {z s : State} {q : Nat} (hz : Keeps M z s) (hM : 0x42040000001202 ||| M =
    M) :
    Keeps M z (State.portSignal s q) := by
  unfold State.portSignal
  try dsimp only
  with_reducible repeat' first
    | assumption | apply State.setFld_keeps | apply State.interruptLock_keeps | apply Keeps.ite | split
  all_goals first
    | exact sub_mask rfl hM | exact InMask.auto

theorem State.signalLoss_keeps {M : Nat} {z s : State} {l : Nat} (hz : Keeps M z s) (hM : 0x46040000009202 ||| M =
    M) :
    Keeps M z (State.signalLoss s l) := by
  unfold State.signalLoss
  try dsimp only
  with_reducible repeat' first
    | assumption | apply State.setFld_keeps | apply State.raiseIrq_keeps | apply State.incFld_keeps
    | apply State.laneNoPartner_keeps | apply State.laneFixed_keeps | apply State.portSignal_keeps
    | apply Keeps.ite | split
  all_goals first
    | exact sub_mask rfl hM | exact InMask.auto

theorem State.signalRise_keeps {M : Nat} {z s : State} {l : Nat} (hz : Keeps M z s) (hM : 0x46040000009202 ||| M =
    M) :
    Keeps M z (State.signalRise s l) := by
  unfold State.signalRise
  try dsimp only
  with_reducible repeat' first
    | assumption | apply State.setFld_keeps | apply State.laneCycle_keeps | apply State.laneFixed_keeps
    | apply State.portSignal_keeps | apply Keeps.ite | split
  all_goals first
    | exact sub_mask rfl hM | exact InMask.auto

theorem State.laneFrame_keeps {M : Nat} {z s : State} {l : Nat} {seen : Bool} (hz : Keeps M z s) (hM :
    0x10000612000100c602 ||| M = M) :
    Keeps M z (State.laneFrame s l seen) := by
  unfold State.laneFrame
  try dsimp only
  with_reducible repeat' first
    | assumption | apply State.setLane_keeps | apply State.setLstate_keeps | apply State.laneFast_keeps
    | apply Keeps.ite | split
  all_goals exact sub_mask rfl hM

theorem State.laneCount_keeps {M : Nat} {z s : State} {l : Nat} {w : BitVec 40} {ask : BitVec 9} (hz : Keeps M z s)
    (hM : 0x8000 ||| M = M) :
    Keeps M z (State.laneCount s l w ask) := by
  unfold State.laneCount
  try dsimp only
  with_reducible repeat' first
    | assumption | apply State.setLane_keeps | apply Keeps.ite | split
  all_goals exact sub_mask rfl hM

theorem State.laneRespond_keeps {M : Nat} {z s : State} {l : Nat} {w : BitVec 40} (hz : Keeps M z s) (hM :
    0x4000000008002 ||| M = M) :
    Keeps M z (State.laneRespond s l w) := by
  unfold State.laneRespond
  try dsimp only
  with_reducible repeat' first
    | assumption | apply State.setLane_keeps | apply State.setFld_keeps | apply Keeps.ite | split
  all_goals first
    | exact sub_mask rfl hM | exact InMask.auto

theorem State.laneOwnReady_keeps {M : Nat} {z s : State} {l : Nat} (hz : Keeps M z s) (hM : 0x4000000008402 ||| M =
    M) :
    Keeps M z (State.laneOwnReady s l) := by
  unfold State.laneOwnReady
  try dsimp only
  with_reducible repeat' first
    | assumption | apply State.setLane_keeps | apply State.drawn_keeps | apply State.setFld_keeps
    | apply State.setLstate_keeps | apply Keeps.ite | split
  all_goals first
    | exact sub_mask rfl hM | exact InMask.auto

theorem State.laneFail_keeps {M : Nat} {z s : State} {l cause : Nat} (hz : Keeps M z s) (hM : 0x6000000000202 ||| M
    = M) :
    Keeps M z (State.laneFail s l cause) := by
  unfold State.laneFail
  try dsimp only
  with_reducible repeat' first
    | assumption | apply State.raiseIrq_keeps | apply State.incFld_keeps | apply State.setFld_keeps
    | apply State.laneNoPartner_keeps | apply State.setLstate_keeps | apply Keeps.ite | split
  all_goals first
    | exact sub_mask rfl hM | exact InMask.auto

theorem State.laneUp_keeps {M : Nat} {z s : State} {l : Nat} (hz : Keeps M z s) (hM : 0x6000000008202 ||| M = M) :
    Keeps M z (State.laneUp s l) := by
  unfold State.laneUp
  try dsimp only
  with_reducible repeat' first
    | assumption | apply State.raiseIrq_keeps | apply State.setLane_keeps | apply State.setLstate_keeps
    | apply Keeps.ite | split
  all_goals first
    | exact sub_mask rfl hM | exact InMask.auto

theorem State.codeMap_keeps {M : Nat} {z s : State} {l : Nat} {f : Coder → Coder} (hz : Keeps M z s) (hM : 0x8000 ||| M
    = M) :
    Keeps M z (State.codeMap s l f) := by
  unfold State.codeMap
  try dsimp only
  with_reducible repeat' first
    | assumption | apply State.setLane_keeps | apply Keeps.ite | split
  all_goals exact sub_mask rfl hM

theorem State.codeSync_keeps {M : Nat} {z s : State} {l : Nat} {groups : List (BitVec 10)} (hz : Keeps M z s) (hM :
    0x10000612000100c602 ||| M = M) :
    Keeps M z (State.codeSync s l groups) := by
  unfold State.codeSync
  try dsimp only
  with_reducible repeat' first
    | assumption | apply State.setFld_keeps | apply State.raiseIrq_keeps | apply State.incFld_keeps
    | apply State.laneFixed_keeps | apply State.laneEvent_keeps | apply State.codeMap_keeps | apply Keeps.ite
    | (apply Keeps.foldl; intro _ _ _) | split
  all_goals first
    | exact sub_mask rfl hM | exact InMask.auto

theorem State.rykMap_keeps {M : Nat} {z s : State} {f : Ryk → Ryk} (hz : Keeps M z s) (hM : 0x1000000 ||| M = M) :
    Keeps M z (State.rykMap s f) := by
  unfold State.rykMap
  try dsimp only
  with_reducible repeat' first
    | assumption | apply Keeps.ite | split | apply Keeps.set_ryk
  all_goals exact sub_mask rfl hM

theorem State.post_keeps {M : Nat} {z s : State} {f : RFrame} {cls : Nat} {src : Option Nat} (hz : Keeps M z s) (hM
    : 0x1000000 ||| M = M) :
    Keeps M z (State.post s f cls src) := by
  unfold State.post
  try dsimp only
  with_reducible repeat' first
    | assumption | apply State.rykMap_keeps | apply Keeps.ite
  all_goals exact sub_mask rfl hM

theorem State.discard_keeps {M : Nat} {z s : State} {n : Nat} {f : RFrame} {cause : Nat} (hz : Keeps M z s) (hM :
    0x100002000001000202 ||| M = M) :
    Keeps M z (State.discard s n f cause) := by
  unfold State.discard
  try dsimp only
  with_reducible repeat' first
    | assumption | apply State.raiseIrq_keeps | apply State.incFld_keeps | apply State.post_keeps | apply Keeps.ite
    | split
  all_goals first
    | exact sub_mask rfl hM | exact InMask.auto

theorem State.setRlink_keeps {M : Nat} {z s : State} {n : Nat} {x : RLink} (hz : Keeps M z s) (hM : 0x1000000 ||| M
    = M) :
    Keeps M z (State.setRlink s n x) := by
  unfold State.setRlink
  try dsimp only
  with_reducible repeat' first
    | assumption | apply State.rykMap_keeps
  all_goals exact sub_mask rfl hM

theorem State.sendBits_keeps {M : Nat} {z s : State} {l : Nat} {b : Block} (hz : Keeps M z s) (hM : 0x8200 ||| M = M) :
    Keeps M z (State.sendBits s l b) := by
  unfold State.sendBits
  try dsimp only
  with_reducible repeat' first
    | assumption | apply State.emit_keeps | apply State.setLane_keeps | apply Keeps.ite | split
  all_goals exact sub_mask rfl hM

theorem State.rykSend_keeps {M : Nat} {z s : State} {n : Nat} {b : Block} (hz : Keeps M z s) (hM : 0x1008200 ||| M = M) :
    Keeps M z (State.rykSend s n b) := by
  unfold State.rykSend
  try dsimp only
  with_reducible repeat' first
    | assumption | apply State.setRlink_keeps | apply State.sendBits_keeps | apply Keeps.ite | split
  all_goals exact sub_mask rfl hM

theorem State.sendCredit_keeps {M : Nat} {z s : State} {n vc cls credits : Nat} (hz : Keeps M z s) (hM : 0x1008200 ||| M =
    M) :
    Keeps M z (State.sendCredit s n vc cls credits) := by
  unfold State.sendCredit
  try dsimp only
  with_reducible repeat' first
    | assumption | apply State.emit_keeps | apply State.rykSend_keeps | apply Keeps.ite | split
  all_goals exact sub_mask rfl hM

theorem State.rykSends_keeps {M : Nat} {z s : State} {n : Nat} {l : List Block} (hz : Keeps M z s) (hM : 0x1008200 ||| M =
    M) :
    Keeps M z (State.rykSends s n l) := by
  unfold State.rykSends
  try dsimp only
  with_reducible repeat' first
    | assumption | apply State.rykSend_keeps | apply Keeps.ite | (apply Keeps.foldl; intro _ _ _) | split
  all_goals exact sub_mask rfl hM

theorem State.sendFrame_keeps {M : Nat} {z s : State} {n seq vc cls : Nat} {f : RFrame} (hz : Keeps M z s) (hM : 0x1008200
    ||| M = M) :
    Keeps M z (State.sendFrame s n seq vc cls f) := by
  unfold State.sendFrame
  try dsimp only
  with_reducible repeat' first
    | assumption | apply State.emit_keeps | apply State.rykSends_keeps | apply Keeps.ite | split
  all_goals exact sub_mask rfl hM

theorem State.start_keeps {M : Nat} {z s : State} {n : Nat} {e : ROut} (hz : Keeps M z s) (hM : 0x100000000001008202
    ||| M = M) :
    Keeps M z (State.start s n e) := by
  unfold State.start
  try dsimp only
  with_reducible repeat' first
    | assumption | apply State.setFld_keeps | apply State.incFld_keeps | apply State.rykMap_keeps
    | apply State.setRlink_keeps | apply State.sendFrame_keeps | apply State.sendCredit_keeps
    | apply State.emit_keeps | apply Keeps.ite | split
  all_goals first
    | exact sub_mask rfl hM | exact InMask.auto

theorem State.grant_keeps {M : Nat} {z s : State} (hz : Keeps M z s) (hM : 0x100002000001008202 ||| M = M) :
    ∀ {o}, State.grant s = some o → Keeps M z o := by
  intro o e
  unfold State.grant at e
  try dsimp only at e
  repeat' split at e
  all_goals first | injection e with e; subst e | cases e
  all_goals with_reducible repeat' first
    | assumption | apply State.discard_keeps | apply State.rykMap_keeps | apply State.start_keeps | apply Keeps.ite
    | split
  all_goals exact sub_mask rfl hM

theorem State.grants_keeps {M : Nat} {z s : State} {k : Nat} (hz : Keeps M z s) (hM : 0x100002000001008202 ||| M = M) :
    Keeps M z (s.grants k) := by
  induction k generalizing s with
  | zero => exact hz
  | succ k ih =>
    unfold State.grants
    split
    · exact ih (State.grant_keeps hz (sub_mask rfl hM) (by assumption))
    · exact hz

theorem State.rykPump_keeps {M : Nat} {z s : State} (hz : Keeps M z s) (hM : 0x100002000001008202 ||| M = M) :
    Keeps M z (State.rykPump s) := by
  unfold State.rykPump
  try dsimp only
  with_reducible repeat' first
    | assumption | apply State.grants_keeps
  all_goals exact sub_mask rfl hM

theorem State.send_keeps {M : Nat} {z s : State} {dest type gen tag status : Nat} {payload : List Nat} (hz : Keeps M
    z s) (hM : 0x1000000 ||| M = M) :
    Keeps M z (State.send s dest type gen tag status payload) := by
  unfold State.send
  try dsimp only
  with_reducible repeat' first
    | assumption | apply State.post_keeps
  all_goals exact sub_mask rfl hM

theorem State.syncTags_keeps {M : Nat} {z s : State} (hz : Keeps M z s) (hM : 0x100000000000000002 ||| M = M) :
    Keeps M z (State.syncTags s) := by
  unfold State.syncTags
  try dsimp only
  with_reducible repeat' first
    | assumption | apply State.setFld_keeps
  all_goals first
    | exact sub_mask rfl hM | exact InMask.auto

theorem State.t3Done_keeps {M : Nat} {z s : State} {tag : Nat} {q : T3Req} {ok : Option (List Nat)} (hz : Keeps M z
    s) (hM : 0x100202000001400602 ||| M = M) :
    Keeps M z (State.t3Done s tag q ok) := by
  unfold State.t3Done
  try dsimp only
  with_reducible repeat' first
    | assumption | apply State.syncTags_keeps | apply State.rykMap_keeps | apply State.scoreRecord_keeps
    | apply Keeps.ite | split
  all_goals exact sub_mask rfl hM

theorem State.t3LinkLost_keeps {M : Nat} {z s : State} {tag : Nat} {q : T3Req} (hz : Keeps M z s) (hM :
    0x100202000001400602 ||| M = M) :
    Keeps M z (State.t3LinkLost s tag q) := by
  unfold State.t3LinkLost
  try dsimp only
  with_reducible repeat' first
    | assumption | apply State.t3Done_keeps | apply State.raiseIrq_keeps | apply State.incFld_keeps | apply Keeps.ite
    | split
  all_goals first
    | exact sub_mask rfl hM | exact InMask.auto

theorem State.linkDown_keeps {M : Nat} {z s : State} {n : Nat} (hz : Keeps M z s) (hM : 0x100202000001408602 ||| M =
    M) :
    Keeps M z (State.linkDown s n) := by
  unfold State.linkDown
  try dsimp only
  with_reducible repeat' first
    | assumption | apply State.setFld_keeps | apply State.rykMap_keeps | apply State.discard_keeps
    | apply State.setRlink_keeps | apply State.start_keeps | apply State.t3LinkLost_keeps | apply Keeps.ite
    | (apply Keeps.foldl; intro _ _ _) | split
  all_goals first
    | exact sub_mask rfl hM | exact InMask.auto

theorem State.setKstate_keeps {M : Nat} {z s : State} {n v : Nat} (hz : Keeps M z s) (hM : 0x100000000001000002 |||
    M = M) :
    Keeps M z (State.setKstate s n v) := by
  unfold State.setKstate
  try dsimp only
  with_reducible repeat' first
    | assumption | apply State.setFld_keeps | apply State.rykMap_keeps | apply Keeps.ite | split
  all_goals first
    | exact sub_mask rfl hM | exact InMask.auto

theorem State.linkSettle_keeps {M : Nat} {z s : State} {n : Nat} (hz : Keeps M z s) (hM : 0x100000000001000002 ||| M
    = M) :
    Keeps M z (State.linkSettle s n) := by
  unfold State.linkSettle
  try dsimp only
  with_reducible repeat' first
    | assumption | apply State.setKstate_keeps | apply Keeps.ite
  all_goals exact sub_mask rfl hM

theorem State.linkEvent_keeps {M : Nat} {z s : State} {n : Nat} (hz : Keeps M z s) (hM : 0x100002100000000202 ||| M
    = M) :
    Keeps M z (State.linkEvent s n) := by
  unfold State.linkEvent
  try dsimp only
  with_reducible repeat' first
    | assumption | apply State.transient_keeps | apply State.retire_keeps | apply Keeps.ite | split
  all_goals first
    | exact sub_mask rfl hM | exact InMask.auto

theorem State.linkDead_keeps {M : Nat} {z s : State} {n : Nat} (hz : Keeps M z s) (hM : 0x100202100001408602 ||| M =
    M) :
    Keeps M z (State.linkDead s n) := by
  unfold State.linkDead
  try dsimp only
  with_reducible repeat' first
    | assumption | apply State.raiseIrq_keeps | apply State.incFld_keeps | apply State.linkDown_keeps
    | apply State.setKstate_keeps | apply State.rykPump_keeps | apply State.linkSettle_keeps
    | apply State.linkEvent_keeps | apply Keeps.ite | split
  all_goals first
    | exact sub_mask rfl hM | exact InMask.auto

theorem State.setLanes_keeps {M : Nat} {z s : State} {n m : Nat} (hz : Keeps M z s) (hM : 0x100002000000000202 ||| M
    = M) :
    Keeps M z (State.setLanes s n m) := by
  unfold State.setLanes
  try dsimp only
  with_reducible repeat' first
    | assumption | apply State.setFld_keeps | apply State.raiseIrq_keeps | apply Keeps.ite | split
  all_goals first
    | exact sub_mask rfl hM | exact InMask.auto

theorem State.linkAligning_keeps {M : Nat} {z s : State} {n : Nat} (hz : Keeps M z s) (hM : 0x100002000001000202 |||
    M = M) :
    Keeps M z (State.linkAligning s n) := by
  unfold State.linkAligning
  try dsimp only
  with_reducible repeat' first
    | assumption | apply State.setLanes_keeps | apply State.setRlink_keeps | apply State.setKstate_keeps
    | apply Keeps.ite | split
  all_goals exact sub_mask rfl hM

theorem State.linkRetrain_keeps {M : Nat} {z s : State} {n : Nat} (hz : Keeps M z s) (hM : 0x10000612000100c602 |||
    M = M) :
    Keeps M z (State.linkRetrain s n) := by
  unfold State.linkRetrain
  try dsimp only
  with_reducible repeat' first
    | assumption | apply State.setRlink_keeps | apply State.setKstate_keeps | apply State.linkEvent_keeps
    | apply State.raiseIrq_keeps | apply State.incFld_keeps | apply State.laneFast_keeps | apply Keeps.ite
    | (apply Keeps.foldl; intro _ _ _) | split
  all_goals first
    | exact sub_mask rfl hM | exact InMask.auto

theorem State.linkInUse_keeps {M : Nat} {z s : State} {n : Nat} (hz : Keeps M z s) (hM : 0x10000612000100c602 ||| M
    = M) :
    Keeps M z (State.linkInUse s n) := by
  unfold State.linkInUse
  try dsimp only
  with_reducible repeat' first
    | assumption | apply State.linkRetrain_keeps | apply State.setLanes_keeps | apply State.setRlink_keeps
    | apply Keeps.ite | split
  all_goals exact sub_mask rfl hM

theorem State.linkStep_keeps {M : Nat} {z s : State} {n : Nat} (hz : Keeps M z s) (hM : 0x10020612000140c602 ||| M =
    M) :
    Keeps M z (State.linkStep s n) := by
  unfold State.linkStep
  try dsimp only
  with_reducible repeat' first
    | assumption | apply State.linkDead_keeps | apply State.setKstate_keeps | apply State.linkAligning_keeps
    | apply State.setRlink_keeps | apply State.linkInUse_keeps | apply Keeps.ite | split
  all_goals exact sub_mask rfl hM

theorem State.linkFollow_keeps {M : Nat} {z s : State} {n : Nat} (hz : Keeps M z s) (hM : 0x10020612000140c602 ||| M
    = M) :
    Keeps M z (State.linkFollow s n) := by
  unfold State.linkFollow
  try dsimp only
  with_reducible repeat' first
    | assumption | apply State.retire_keeps | apply State.linkStep_keeps | apply Keeps.ite | split
  all_goals first
    | exact sub_mask rfl hM | exact InMask.auto

theorem State.lanesFollow_keeps {M : Nat} {z s : State} {l : Nat} (hz : Keeps M z s) (hM : 0x10020612000140c602 |||
    M = M) :
    Keeps M z (State.lanesFollow s l) := by
  unfold State.lanesFollow
  try dsimp only
  with_reducible repeat' first
    | assumption | apply State.linkFollow_keeps | apply Keeps.ite
  all_goals exact sub_mask rfl hM

theorem State.t3Send_keeps {M : Nat} {z s : State} {f : Frame} {dest : Nat} {header rows : List Nat} (hz : Keeps M z
    s) (hM : 0x100002000001008202 ||| M = M) :
    Keeps M z (State.t3Send s f dest header rows).1 := by
  unfold State.t3Send
  try dsimp only
  with_reducible repeat' first
    | assumption | apply State.raiseIrq_keeps | apply State.incFld_keeps | apply State.syncTags_keeps
    | apply State.rykMap_keeps | apply State.rykPump_keeps | apply State.send_keeps | apply Keeps.ite | split
  all_goals first
    | exact sub_mask rfl hM | exact InMask.auto

theorem State.forceWritten_keeps {M : Nat} {z s : State} (hz : Keeps M z s) (hM : 0x52000000000602 ||| M = M) :
    Keeps M z (State.forceWritten s) := by
  unfold State.forceWritten
  try dsimp only
  with_reducible repeat' first
    | assumption | apply State.engagePair_keeps | apply Keeps.ite | (apply Keeps.foldl; intro _ _ _)
  all_goals exact sub_mask rfl hM

theorem State.setChan_keeps {M : Nat} {z s : State} {e c : Nat} {x : Chan} (hz : Keeps M z s) (hM : 0x10000 ||| M =
    M) :
    Keeps M z (State.setChan s e c x) := by
  unfold State.setChan
  try dsimp only
  with_reducible repeat' first
    | assumption | apply Keeps.ite | split | apply Keeps.set_chans
  all_goals exact sub_mask rfl hM

theorem State.setCh_keeps {M : Nat} {z s : State} {e c v : Nat} (hz : Keeps M z s) (hM : 0x8000000000002 ||| M = M)
    :
    Keeps M z (State.setCh s e c v) := by
  unfold State.setCh
  try dsimp only
  with_reducible repeat' first
    | assumption | apply State.setFld_keeps
  all_goals first
    | exact sub_mask rfl hM | exact InMask.auto

theorem State.syncLaserOk_keeps {M : Nat} {z s : State} {e : Nat} (hz : Keeps M z s) (hM : 0x8000000000002 ||| M =
    M) :
    Keeps M z (State.syncLaserOk s e) := by
  unfold State.syncLaserOk
  try dsimp only
  with_reducible repeat' first
    | assumption | apply State.setFld_keeps
  all_goals first
    | exact sub_mask rfl hM | exact InMask.auto

theorem State.opeUnit_keeps {M : Nat} {z s : State} {e : Nat} (hz : Keeps M z s) (hM : 0x8000000000002 ||| M = M) :
    Keeps M z (State.opeUnit s e) := by
  unfold State.opeUnit
  try dsimp only
  with_reducible repeat' first
    | assumption | apply State.syncLaserOk_keeps | apply State.setCh_keeps | apply Keeps.ite
    | (apply Keeps.foldl; intro _ _ _) | split
  all_goals first
    | exact sub_mask rfl hM | exact InMask.auto

theorem State.aprLeave_keeps {M : Nat} {z s : State} {e g : Nat} (hz : Keeps M z s) (hM : 0xa000000000202 ||| M = M)
    :
    Keeps M z (State.aprLeave s e g) := by
  unfold State.aprLeave
  try dsimp only
  with_reducible repeat' first
    | assumption | apply State.raiseIrq_keeps | apply State.setFld_keeps | apply Keeps.ite | split
  all_goals first
    | exact sub_mask rfl hM | exact InMask.auto

theorem State.opeBoundary_keeps {M : Nat} {z s : State} {e old : Nat} (hz : Keeps M z s) (hM : 0xe000000018202 ||| M
    = M) :
    Keeps M z (State.opeBoundary s e old) := by
  unfold State.opeBoundary
  try dsimp only
  with_reducible repeat' first
    | assumption | apply State.laneCycle_keeps | apply State.laneStop_keeps | apply State.setChan_keeps
    | apply State.opeUnit_keeps | apply State.aprLeave_keeps | apply Keeps.ite | (apply Keeps.foldl; intro _ _ _)
    | split
  all_goals first
    | exact sub_mask rfl hM | exact InMask.auto

theorem State.syncPolicies_keeps {M : Nat} {z s : State} (hz : Keeps M z s) (hM : 0x10000000000002 ||| M = M) :
    Keeps M z (State.syncPolicies s) := by
  unfold State.syncPolicies
  try dsimp only
  with_reducible repeat' first
    | assumption | apply State.setFld_keeps | apply Keeps.ite | (apply Keeps.foldl; intro _ _ _)
  all_goals first
    | exact sub_mask rfl hM | exact InMask.auto

theorem State.aprRestart_keeps {M : Nat} {z s : State} {e : Nat} (hz : Keeps M z s) (hM : 0x8000000000002 ||| M = M)
    :
    Keeps M z (State.aprRestart s e) := by
  unfold State.aprRestart
  try dsimp only
  with_reducible repeat' first
    | assumption | apply State.setFld_keeps | apply Keeps.ite | (apply Keeps.foldl; intro _ _ _)
  all_goals first
    | exact sub_mask rfl hM | exact InMask.auto

theorem State.chReinstate_keeps {M : Nat} {z s : State} {e c : Nat} (hz : Keeps M z s) (hM : 0x8000000010002 ||| M =
    M) :
    Keeps M z (State.chReinstate s e c) := by
  unfold State.chReinstate
  try dsimp only
  with_reducible repeat' first
    | assumption | apply State.setChan_keeps | apply State.setFld_keeps | apply Keeps.ite | split
  all_goals first
    | exact sub_mask rfl hM | exact InMask.auto

theorem State.policyWritten_keeps {M : Nat} {z s : State} (hz : Keeps M z s) (hM : 0x1000000000000e ||| M = M) :
    Keeps M z (State.policyWritten s) := by
  unfold State.policyWritten
  try dsimp only
  with_reducible repeat' first
    | assumption | apply State.syncPolicies_keeps | apply State.forceNow_keeps | apply Keeps.ite | split
  all_goals exact sub_mask rfl hM

theorem State.syncSubRetired_keeps {M : Nat} {z s : State} {e : Nat} (hz : Keeps M z s) (hM : 0xa100000000202 ||| M
    = M) :
    Keeps M z (State.syncSubRetired s e) := by
  unfold State.syncSubRetired
  try dsimp only
  with_reducible repeat' first
    | assumption | apply State.setSubRetired_keeps
  all_goals first
    | exact sub_mask rfl hM | exact InMask.auto

theorem State.chRetire_keeps {M : Nat} {z s : State} {reason e c : Nat} (hz : Keeps M z s) (hM :
    0x10024e16000140d602 ||| M = M) :
    Keeps M z (State.chRetire s reason e c) := by
  unfold State.chRetire
  try dsimp only
  with_reducible repeat' first
    | assumption | apply State.setFld_keeps | apply State.raiseIrq_keeps | apply State.retire_keeps
    | apply State.laneRetire_keeps | apply State.signalLoss_keeps | apply State.lanesFollow_keeps
    | apply State.syncLaserOk_keeps | apply State.setCh_keeps | apply State.syncSubRetired_keeps
    | apply State.aprLeave_keeps | apply Keeps.ite | split
  all_goals first
    | exact sub_mask rfl hM | exact InMask.auto

theorem State.chEvent_keeps {M : Nat} {z s : State} {e c : Nat} (hz : Keeps M z s) (hM : 0x10024e16000140d602 ||| M
    = M) :
    Keeps M z (State.chEvent s e c) := by
  unfold State.chEvent
  try dsimp only
  with_reducible repeat' first
    | assumption | apply State.incFld_keeps | apply State.setFault_keeps | apply State.chRetire_keeps
    | apply Keeps.ite | split
  all_goals first
    | exact sub_mask rfl hM | exact InMask.auto

theorem State.driveHeater_keeps {M : Nat} {z s : State} {e : Nat} {before : State} {h : Nat} (hz : Keeps M z s) (hM
    : 0xa000000000202 ||| M = M) :
    Keeps M z (State.driveHeater e before s h) := by
  unfold State.driveHeater
  try dsimp only
  with_reducible repeat' first
    | assumption | apply State.setFld_keeps | apply State.raiseIrq_keeps | apply State.incFld_keeps | apply Keeps.ite
    | split
  all_goals first
    | exact sub_mask rfl hM | exact InMask.auto

theorem State.engineDrives_keeps {M : Nat} {z s : State} {e : Nat} {targets : List (Fin 16 × BitVec 16)} (hz : Keeps
    M z s) (hM : 0xa000000000202 ||| M = M) :
    Keeps M z (State.engineDrives s e targets) := by
  unfold State.engineDrives
  try dsimp only
  with_reducible repeat' first
    | assumption | apply State.setFld_keeps | apply State.driveHeater_keeps | apply Keeps.ite
    | (apply Keeps.foldl; intro _ _ _) | split
  all_goals first
    | exact sub_mask rfl hM | exact InMask.auto

end Sys2Proof.Machine
end

