-- ==== Sys2Proof/Laws/KeepsLine.lean ====
section
/-!
SUPPORT. What each operation keeps (the line ports, the intake, flows, egress and the tile network): one law `X_keeps` for each operation `X`, with the mask of the
components of State that `X` may change.
-/

set_option Elab.async false

namespace Sys2Proof.Machine

open Sys2Proof

theorem State.setPortAux_keeps {M : Nat} {z s : State} {q : Nat} {x : PortAux} (hz : Keeps M z s) (hM : 0x100000 |||
    M = M) :
    Keeps M z (State.setPortAux s q x) := by
  unfold State.setPortAux
  try dsimp only
  with_reducible repeat' first
    | assumption | apply Keeps.ite | split | apply Keeps.set_ports
  all_goals exact sub_mask rfl hM

theorem State.spoutDown_keeps {M : Nat} {z s : State} {q : Nat} {it : Item} (hz : Keeps M z s) (hM : 0x1000e42000002400202 ||| M = M)
    :
    Keeps M z (State.spoutDown s q it) := by
  unfold State.spoutDown
  try dsimp only
  with_reducible repeat' first
    | assumption | apply State.raiseIrq_keeps | apply State.incFld_keeps | apply State.injComplete_keeps
    | apply State.release_keeps | apply State.sumpItemOf_keeps | apply Keeps.ite | split
  all_goals first
    | exact sub_mask rfl hM | exact InMask.auto

theorem State.emptyPort_keeps {M : Nat} {z s : State} {q : Nat} (hz : Keeps M z s) (hM : 0x1000e42000002400202 ||| M = M) :
    Keeps M z (State.emptyPort s q) := by
  unfold State.emptyPort
  try dsimp only
  with_reducible repeat' first
    | assumption | apply State.setOut_keeps | apply State.setItemsWaiting_keeps | apply State.spoutDown_keeps
    | apply Keeps.ite | (apply Keeps.foldl; intro _ _ _) | split
  all_goals first
    | exact sub_mask rfl hM | exact InMask.auto

theorem State.syncTx_keeps {M : Nat} {z s : State} {q : Nat} (hz : Keeps M z s) (hM : 0x1000e42000002400202 ||| M = M) :
    Keeps M z (State.syncTx s q) := by
  unfold State.syncTx
  try dsimp only
  with_reducible repeat' first
    | assumption | apply State.setFld_keeps | apply State.emptyPort_keeps | apply Keeps.ite | split
  all_goals first
    | exact sub_mask rfl hM | exact InMask.auto

theorem State.holdPort_keeps {M : Nat} {z s : State} {q : Nat} (hz : Keeps M z s) (hM : 0x1000e42000002500202 ||| M = M)
    :
    Keeps M z (State.holdPort s q) := by
  unfold State.holdPort
  try dsimp only
  with_reducible repeat' first
    | assumption | apply State.raiseIrq_keeps | apply State.incFld_keeps | apply State.setPortAux_keeps
    | apply State.syncTx_keeps | apply State.emptyPort_keeps | apply Keeps.ite | split
  all_goals first
    | exact sub_mask rfl hM | exact InMask.auto

theorem State.propagate_keeps {M : Nat} {z s : State} {q : Nat} (hz : Keeps M z s) (hM : 0x1000e42000002500202 ||| M =
    M) :
    Keeps M z (State.propagate s q) := by
  unfold State.propagate
  try dsimp only
  with_reducible repeat' first
    | assumption | apply State.holdPort_keeps | apply Keeps.ite
  all_goals exact sub_mask rfl hM

theorem State.dropLink_keeps {M : Nat} {z s : State} {q : Nat} (hz : Keeps M z s) (hM : 0x1000e42100002500202 ||| M = M) :
    Keeps M z (State.dropLink s q) := by
  unfold State.dropLink
  try dsimp only
  with_reducible repeat' first
    | assumption | apply State.setFld_keeps | apply State.raiseIrq_keeps | apply State.incFld_keeps
    | apply State.transient_keeps | apply State.syncTx_keeps | apply State.propagate_keeps | apply Keeps.ite
    | split
  all_goals first
    | exact sub_mask rfl hM | exact InMask.auto

theorem State.loseLink_keeps {M : Nat} {z s : State} {q part : Nat} {c : LossCause} (hz : Keeps M z s) (hM :
    0x1000e42140002501202 ||| M = M) :
    Keeps M z (State.loseLink s q part c) := by
  unfold State.loseLink
  try dsimp only
  with_reducible repeat' first
    | assumption | apply State.setFld_keeps | apply State.interruptLock_keeps | apply State.dropLink_keeps
    | apply State.incFld_keeps | apply State.transient_keeps | apply State.propagate_keeps
    | apply State.syncTx_keeps | apply State.raiseIrq_keeps | apply Keeps.ite | split
  all_goals first
    | exact sub_mask rfl hM | exact InMask.auto

theorem State.fecBoundary_keeps {M : Nat} {z s : State} {q old : Nat} (hz : Keeps M z s) (hM : 0x1000f42140002501202 |||
    M = M) :
    Keeps M z (State.fecBoundary s q old) := by
  unfold State.fecBoundary
  try dsimp only
  with_reducible repeat' first
    | assumption | apply State.setFld_keeps | apply State.loseLink_keeps | apply State.syncDelay_keeps
    | apply Keeps.ite | split
  all_goals first
    | exact sub_mask rfl hM | exact InMask.auto

theorem State.unholdPort_keeps {M : Nat} {z s : State} {q : Nat} (hz : Keeps M z s) (hM : 0x1000e42000002500202 ||| M =
    M) :
    Keeps M z (State.unholdPort s q) := by
  unfold State.unholdPort
  try dsimp only
  with_reducible repeat' first
    | assumption | apply State.setPortAux_keeps | apply State.syncTx_keeps | apply State.propagate_keeps
    | apply Keeps.ite | split
  all_goals first
    | exact sub_mask rfl hM | exact InMask.auto

theorem State.lfpBoundary_keeps {M : Nat} {z s : State} {q old : Nat} (hz : Keeps M z s) (hM : 0x1000e42000002500202 |||
    M = M) :
    Keeps M z (State.lfpBoundary s q old) := by
  unfold State.lfpBoundary
  try dsimp only
  with_reducible repeat' first
    | assumption | apply State.unholdPort_keeps | apply State.holdPort_keeps | apply State.syncTx_keeps
    | apply Keeps.ite | split
  all_goals exact sub_mask rfl hM

theorem State.setSaFld_keeps {M : Nat} {z s : State} {q : Nat} {f : Fld} {v : Nat} (hz : Keeps M z s) (hM :
    0x8000000000000e ||| M = M) :
    Keeps M z (State.setSaFld s q f v) := by
  refine Keeps.step (m := 0xC) (x := s.setFld (Pg.msc q) f v) ?_ (sub_mask rfl hM)
    (State.setFld_keeps hz (sub_mask rfl hM) .auto)
  constructor <;> intro hh <;> first | rfl | exact fun _ => rfl | exact absurd hh (by decide) | exact ⟨hh.regs, hh.ddr, hh.flash, hh.direct, hh.stores⟩

theorem State.takeSa_keeps {M : Nat} {z s : State} {q ctl : Nat} (hz : Keeps M z s) (hM : 0x8200000000020e ||| M =
    M) :
    Keeps M z (State.takeSa s q ctl) := by
  unfold State.takeSa
  try dsimp only
  with_reducible repeat' first
    | assumption | apply State.raiseIrq_keeps | apply State.setSaFld_keeps | apply Keeps.ite | split
  all_goals first
    | exact sub_mask rfl hM | exact InMask.auto

theorem State.takeEncAn_keeps {M : Nat} {z s : State} {q : Nat} (hz : Keeps M z s) (hM : 0x82000000000202 ||| M = M)
    :
    Keeps M z (State.takeEncAn s q) := by
  unfold State.takeEncAn
  try dsimp only
  with_reducible repeat' first
    | assumption | apply State.setFld_keeps | apply State.raiseIrq_keeps | apply Keeps.ite | split
  all_goals first
    | exact sub_mask rfl hM | exact InMask.auto

theorem State.clearSlot_keeps {M : Nat} {z s : State} {q ctl : Nat} (hz : Keeps M z s) (hM : 0x8000000020000e ||| M
    = M) :
    Keeps M z (State.clearSlot s q ctl) := by
  unfold State.clearSlot
  try dsimp only
  with_reducible repeat' first
    | assumption | apply State.setSaFld_keeps | apply Keeps.ite | split | apply Keeps.set_saks
  all_goals exact sub_mask rfl hM

theorem State.changeXpn_keeps {M : Nat} {z s : State} {q : Nat} {v : Bool} (hz : Keeps M z s) (hM : 0x8000000030000e
    ||| M = M) :
    Keeps M z (State.changeXpn s q v) := by
  unfold State.changeXpn
  try dsimp only
  with_reducible repeat' first
    | assumption | apply State.setFld_keeps | apply State.setPortAux_keeps | apply State.setSaFld_keeps
    | apply State.clearSlot_keeps | apply Keeps.ite | (apply Keeps.foldl; intro _ _ _) | split
  all_goals first
    | exact sub_mask rfl hM | exact InMask.auto

theorem State.judgeXpn_keeps {M : Nat} {z s : State} {q : Nat} (hz : Keeps M z s) (hM : 0x8210000030020e ||| M = M)
    :
    Keeps M z (State.judgeXpn s q) := by
  unfold State.judgeXpn
  try dsimp only
  with_reducible repeat' first
    | assumption | apply State.changeXpn_keeps | apply State.raiseIrq_keeps | apply State.recordFault_keeps
    | apply Keeps.ite | split
  all_goals first
    | exact sub_mask rfl hM | exact InMask.auto | exact .full .auto

theorem State.mscBoundary_keeps {M : Nat} {z s : State} {due : List Nat} {q : Nat} (hz : Keeps M z s) (hM :
    0x8210000030020e ||| M = M) :
    Keeps M z (State.mscBoundary s due q) := by
  unfold State.mscBoundary
  try dsimp only
  with_reducible repeat' first
    | assumption | apply State.takeSa_keeps | apply State.takeEncAn_keeps | apply State.judgeXpn_keeps
    | apply Keeps.ite | (apply Keeps.foldl; intro _ _ _) | split
  all_goals exact sub_mask rfl hM

theorem State.pairBoundary_keeps {M : Nat} {z s : State} {before : State} {p : Nat} (hz : Keeps M z s) (hM :
    0x52020000004602 ||| M = M) :
    Keeps M z (State.pairBoundary before s p) := by
  unfold State.pairBoundary
  try dsimp only
  with_reducible repeat' first
    | assumption | apply State.setFld_keeps | apply State.raiseIrq_keeps | apply State.setService_keeps
    | apply State.engagePair_keeps | apply State.milestone_keeps | apply Keeps.ite | split
  all_goals first
    | exact sub_mask rfl hM | exact InMask.auto

theorem State.writePn_keeps {M : Nat} {z s : State} {q off ctl : Nat} {w : State → State} (hz : Keeps M z s) (hM : 0x8200000010020e ||| M = M)
    (hw : ∀ t, Keeps M z t → Keeps M z (w t)) :
    Keeps M z (s.writePn q off ctl w) := by
  unfold State.writePn
  dsimp only
  with_reducible repeat' first
    | assumption | apply State.setFld_keeps | apply State.forceNow_keeps | apply State.raiseIrq_keeps | apply hw
    | apply State.setPortAux_keeps | apply Keeps.ite | split
  all_goals first | exact sub_mask rfl hM | exact InMask.auto

theorem State.setPn_keeps {M : Nat} {z s : State} {q off v : Nat} (hz : Keeps M z s) (hM : 0x80000000000002 ||| M =
    M) :
    Keeps M z (State.setPn s q off v) := by
  unfold State.setPn
  try dsimp only
  with_reducible repeat' first
    | assumption | apply State.setFld_keeps | apply Keeps.ite
  all_goals first
    | exact sub_mask rfl hM | exact InMask.auto

theorem State.zeroizeKeys_keeps {M : Nat} {z s : State} (hz : Keeps M z s) (hM : 0x8200000020020e ||| M = M) :
    Keeps M z (State.zeroizeKeys s) := by
  unfold State.zeroizeKeys
  try dsimp only
  with_reducible repeat' first
    | assumption | apply State.raiseIrq_keeps | apply State.setSaFld_keeps | apply State.clearSlot_keeps
    | apply Keeps.ite | (apply Keeps.foldl; intro _ _ _) | split | apply Keeps.set_saks
  all_goals first
    | exact sub_mask rfl hM | exact InMask.auto

theorem State.countMacControl_keeps {M : Nat} {z s : State} {port : Nat} {b : List Nat} (hz : Keeps M z s) (hM :
    0x40000000000002 ||| M = M) :
    Keeps M z (State.countMacControl s port b) := by
  unfold State.countMacControl
  try dsimp only
  with_reducible repeat' first
    | assumption | apply State.incFld_keeps | apply Keeps.ite
  all_goals first
    | exact sub_mask rfl hM | exact InMask.auto

theorem State.advanceLpn_keeps {M : Nat} {z s : State} {q c an pn : Nat} (hz : Keeps M z s) (hM : 0x80000000000002
    ||| M = M) :
    Keeps M z (State.advanceLpn s q c an pn) := by
  unfold State.advanceLpn
  try dsimp only
  with_reducible repeat' first
    | assumption | apply State.setFld_keeps | apply State.setPn_keeps | apply Keeps.ite
  all_goals first
    | exact sub_mask rfl hM | exact InMask.auto

theorem State.unsealBy_keeps {M : Nat} {z s : State} {q : Nat} {b : List Nat} (hz : Keeps M z s) (hM :
    0x82000000000202 ||| M = M) :
    Keeps M z (State.unsealBy s q b).2 := by
  unfold State.unsealBy
  try dsimp only
  with_reducible repeat' first
    | assumption | apply State.incFld_keeps | apply State.raiseIrq_keeps | apply State.advanceLpn_keeps
    | apply Keeps.ite | split
  all_goals first
    | exact sub_mask rfl hM | exact InMask.auto

theorem State.ptpParse_keeps {M : Nat} {z s : State} {f : Frame} {p : Parse} {tpid : Nat} (hz : Keeps M z s) (hM :
    0x102000000000202 ||| M = M) :
    Keeps M z (State.ptpParse s f p tpid).2 := by
  unfold State.ptpParse
  try dsimp only
  with_reducible repeat' first
    | assumption | apply State.raiseIrq_keeps | apply State.incFld_keeps | apply Keeps.ite | split
  all_goals first
    | exact sub_mask rfl hM | exact InMask.auto

theorem State.countFlags_keeps {M : Nat} {z s : State} {i flags : Nat} (hz : Keeps M z s) (hM : 0x200000000000002
    ||| M = M) :
    Keeps M z (State.countFlags s i flags) := by
  unfold State.countFlags
  try dsimp only
  with_reducible repeat' first
    | assumption | apply State.incFld_keeps | apply Keeps.ite
  all_goals first
    | exact sub_mask rfl hM | exact InMask.auto

theorem State.flowBoundary_keeps {M : Nat} {z s : State} (hz : Keeps M z s) (hM : 0x202000000400202 ||| M = M) :
    Keeps M z (State.flowBoundary s) := by
  unfold State.flowBoundary
  try dsimp only
  with_reducible repeat' first
    | assumption | apply State.setFld_keeps | apply State.raiseIrq_keeps | apply State.pipeMap_keeps
    | apply Keeps.ite | split
  all_goals first
    | exact sub_mask rfl hM | exact InMask.auto

theorem State.ftInitWritten_keeps {M : Nat} {z s : State} (hz : Keeps M z s) (hM : 0x202000000000202 ||| M = M) :
    Keeps M z (State.ftInitWritten s) := by
  unfold State.ftInitWritten
  try dsimp only
  with_reducible repeat' first
    | assumption | apply State.raiseIrq_keeps | apply State.setFld_keeps | apply Keeps.ite | split
  all_goals first
    | exact sub_mask rfl hM | exact InMask.auto

theorem State.leaveFlow_keeps {M : Nat} {z s : State} {id : Nat} (hz : Keeps M z s) (hM : 0x1202000000400602 ||| M =
    M) :
    Keeps M z (State.leaveFlow s id) := by
  unfold State.leaveFlow
  try dsimp only
  with_reducible repeat' first
    | assumption | apply State.handOn_keeps | apply State.offer_keeps | apply Keeps.ite | split
  all_goals exact sub_mask rfl hM

theorem State.setCache_keeps {M : Nat} {z s : State} {idx : Nat} {e : CacheEntry} (hz : Keeps M z s) (hM : 0x400000
    ||| M = M) :
    Keeps M z (State.setCache s idx e) := by
  unfold State.setCache
  try dsimp only
  with_reducible repeat' first
    | assumption | apply State.pipeMap_keeps
  all_goals exact sub_mask rfl hM

theorem State.hit_keeps {M : Nat} {z s : State} {id idx : Nat} {e : CacheEntry} (hz : Keeps M z s) (hM : 0x400000
    ||| M = M) :
    Keeps M z (State.hit s id idx e) := by
  unfold State.hit
  try dsimp only
  with_reducible repeat' first
    | assumption | apply State.setCache_keeps | apply State.setFrame_keeps
  all_goals exact sub_mask rfl hM

theorem State.syncReasm_keeps {M : Nat} {z s : State} {i : Nat} (hz : Keeps M z s) (hM : 0x200000000000002 ||| M =
    M) :
    Keeps M z (State.syncReasm s i) := by
  unfold State.syncReasm
  try dsimp only
  with_reducible repeat' first
    | assumption | apply State.setFld_keeps
  all_goals first
    | exact sub_mask rfl hM | exact InMask.auto

theorem State.emitWindow_keeps {M : Nat} {z s : State} {i : Nat} {w : Window} (hz : Keeps M z s) (hM :
    0x200000000400002 ||| M = M) :
    Keeps M z (State.emitWindow s i w) := by
  unfold State.emitWindow
  try dsimp only
  with_reducible repeat' first
    | assumption | apply State.pipeMap_keeps | apply State.incFld_keeps | apply Keeps.ite | split
  all_goals first
    | exact sub_mask rfl hM | exact InMask.auto

theorem State.closeObj_keeps {M : Nat} {z s : State} {h d : Nat} {x : Strm} {o : Obj} {reason : Nat} (hz : Keeps M z
    s) (hM : 0x200000000400002 ||| M = M) :
    Keeps M z (State.closeObj s h d x o reason).1 := by
  unfold State.closeObj
  try dsimp only
  with_reducible repeat' first
    | assumption | apply State.emitWindow_keeps | apply State.incFld_keeps | apply Keeps.ite | split
  all_goals first
    | exact sub_mask rfl hM | exact InMask.auto

theorem State.endStreams_keeps {M : Nat} {z s : State} {h : Nat} (hz : Keeps M z s) (hM : 0x200000000400002 ||| M =
    M) :
    Keeps M z (State.endStreams s h) := by
  unfold State.endStreams
  try dsimp only
  with_reducible repeat' first
    | assumption | apply State.closeObj_keeps | apply State.syncReasm_keeps | apply State.pipeMap_keeps
    | apply Keeps.ite | (apply Keeps.foldl; intro _ _ _) | refine Keeps.of_fst (by assumption) ?_ | split
  all_goals exact sub_mask rfl hM

theorem State.evict_keeps {M : Nat} {z s : State} {w : Nat} {e : CacheEntry} (hz : Keeps M z s) (hM :
    0x200000040c00002 ||| M = M) :
    Keeps M z (State.evict s w e) := by
  unfold State.evict
  try dsimp only
  with_reducible repeat' first
    | assumption | apply State.incFld_keeps | apply State.writeSlot_keeps | apply State.endStreams_keeps
    | apply Keeps.ite | split
  all_goals first
    | exact sub_mask rfl hM | exact InMask.auto

theorem State.install_keeps {M : Nat} {z s : State} {hash : Nat} {r : FlowRec} {slot : Option Nat} {dirty : Bool}
    (hz : Keeps M z s) (hM : 0x200000040c00002 ||| M = M) : ∀ {o}, s.install hash r slot dirty = some o → Keeps M z o.2 := by
  intro o e
  unfold State.install at e
  split at e
  · cases e
  · injection e with e
    subst e
    dsimp only
    refine State.setCache_keeps ?_ (sub_mask rfl hM)
    split
    · exact State.evict_keeps hz (sub_mask rfl hM)
    · exact hz

theorem State.claimSlot_keeps {M : Nat} {z s : State} {slot : Option Nat} {key gen : Nat} (hz : Keeps M z s) (hM :
    0x40800000 ||| M = M) :
    Keeps M z (State.claimSlot s slot key gen) := by
  unfold State.claimSlot
  try dsimp only
  with_reducible repeat' first
    | assumption | apply State.writeSlot_keeps | apply Keeps.ite | split
  all_goals exact sub_mask rfl hM

theorem State.create_keeps {M : Nat} {z s : State} {id key hash : Nat} {slot : Option Nat} (hz : Keeps M z s) (hM : 0x200000040c00002 ||| M = M) :
    Keeps M z (s.create id key hash slot) := by
  unfold State.create
  dsimp only
  split
  · exact State.incFld_keeps hz (sub_mask rfl hM)
  · rename_i w s1 e
    have h1 : Keeps M z s1 := State.install_keeps hz (sub_mask rfl hM) e
    split
    · exact State.hit_keeps (State.incFld_keeps (State.claimSlot_keeps h1 (sub_mask rfl hM)) (sub_mask rfl hM)) (sub_mask rfl hM)
    · exact State.claimSlot_keeps h1 (sub_mask rfl hM)

theorem State.tryCreate_keeps {M : Nat} {z s : State} {id key hash : Nat} {slot : Option Nat} (hz : Keeps M z s) (hM
    : 0x200000040c00002 ||| M = M) :
    Keeps M z (State.tryCreate s id key hash slot) := by
  unfold State.tryCreate
  try dsimp only
  with_reducible repeat' first
    | assumption | apply State.create_keeps | apply State.incFld_keeps | apply Keeps.ite | split
  all_goals first
    | exact sub_mask rfl hM | exact InMask.auto

theorem State.serveMiss_keeps {M : Nat} {z s : State} {m : Miss} {id : Nat} (hz : Keeps M z s) (hM :
    0x1202000040c00602 ||| M = M) :
    Keeps M z (State.serveMiss m s id) := by
  unfold State.serveMiss
  try dsimp only
  with_reducible repeat' first
    | assumption | apply State.raiseIrq_keeps | apply State.incFld_keeps | apply State.leaveFlow_keeps
    | apply State.hit_keeps | apply State.tryCreate_keeps | apply Keeps.ite | split
  all_goals first
    | exact sub_mask rfl hM | exact InMask.auto

theorem State.dropMiss_keeps {M : Nat} {z s : State} {ids : List Nat} {f : Fld} {irq : Option Nat} (hz : Keeps M z
    s) (hM : 0x1202000000400602 ||| M = M) :
    Keeps M z (State.dropMiss s ids f irq) := by
  unfold State.dropMiss
  try dsimp only
  with_reducible repeat' first
    | assumption | apply State.incFld_keeps | apply State.leaveFlow_keeps | apply State.raiseIrq_keeps
    | apply Keeps.ite | (apply Keeps.foldl; intro _ _ _) | split
  all_goals first
    | exact sub_mask rfl hM | exact InMask.auto

theorem State.annotate_keeps {M : Nat} {z s : State} {i handle : Nat} {b : List Nat} {mask : Nat} (hz : Keeps M z s)
    (hM : 0x200000040c00002 ||| M = M) :
    Keeps M z (State.annotate s i handle b mask) := by
  unfold State.annotate
  try dsimp only
  with_reducible repeat' first
    | assumption | apply State.setCache_keeps | apply State.incFld_keeps | apply State.writeSlot_keeps
    | apply Keeps.ite | split
  all_goals first
    | exact sub_mask rfl hM | exact InMask.auto

theorem State.dropWay_keeps {M : Nat} {z s : State} {w : Nat} {save : Bool} (hz : Keeps M z s) (hM : 0x200000040c00002 ||| M = M)
    :
    Keeps M z (State.dropWay s w save) := by
  unfold State.dropWay
  try dsimp only
  with_reducible repeat' first
    | assumption | apply State.pipeMap_keeps | apply State.evict_keeps | apply State.endStreams_keeps
    | apply Keeps.ite | split
  all_goals first
    | exact sub_mask rfl hM | exact InMask.auto

theorem State.retireItem_keeps {M : Nat} {z s : State} {i : Nat} {it : StoreItem} (hz : Keeps M z s) (hM :
    0x17ffffffe72fff5fefe ||| M = M) :
    Keeps M z (State.retireItem s i it) := by
  unfold State.retireItem
  try dsimp only
  with_reducible repeat' first
    | assumption | apply State.setSubRetired_keeps | apply State.failUnit_keeps | apply State.syncCells_keeps
    | apply State.pipeMap_keeps | apply State.syncReasm_keeps | apply State.dropWay_keeps | apply Keeps.ite
    | split
  all_goals first
    | exact sub_mask rfl hM | exact InMask.auto

theorem State.unqueue_keeps {M : Nat} {z s : State} {id : Nat} (hz : Keeps M z s) (hM : 0x400000 ||| M = M) :
    Keeps M z (State.unqueue s id) := by
  unfold State.unqueue
  try dsimp only
  with_reducible repeat' first
    | assumption | apply State.pipeMap_keeps
  all_goals exact sub_mask rfl hM

theorem State.takeInbox_keeps {M : Nat} {z s : State} {p : RFrame → Bool} (hz : Keeps M z s) (hM : 0x1000000 ||| M = M) :
    ∀ {o}, s.takeInbox p = some o → Keeps M z o.2 := by
  intro o e
  unfold State.takeInbox at e
  split at e
  · cases e
    dsimp only
    exact State.rykMap_keeps hz (sub_mask rfl hM)
  · cases e

theorem State.sendAck_keeps {M : Nat} {z s : State} {n : Nat} {nak : Bool} {ack : Nat} (hz : Keeps M z s) (hM : 0x1008200
    ||| M = M) :
    Keeps M z (State.sendAck s n nak ack) := by
  unfold State.sendAck
  try dsimp only
  with_reducible repeat' first
    | assumption | apply State.emit_keeps | apply State.rykSend_keeps | apply Keeps.ite | split
  all_goals exact sub_mask rfl hM

theorem State.rykClock_keeps {M : Nat} {z s : State} {n : Nat} (hz : Keeps M z s) (hM : 0x1000400 ||| M = M) :
    Keeps M z (State.rykClock s n) := by
  unfold State.rykClock
  try dsimp only
  with_reducible repeat' first
    | assumption | apply State.drawn_keeps | apply State.setRlink_keeps | apply Keeps.ite | split
  all_goals exact sub_mask rfl hM

theorem State.sendNak_keeps {M : Nat} {z s : State} {n : Nat} (hz : Keeps M z s) (hM : 0x100000000001008602 ||| M =
    M) :
    Keeps M z (State.sendNak s n) := by
  unfold State.sendNak
  try dsimp only
  with_reducible repeat' first
    | assumption | apply State.incFld_keeps | apply State.setRlink_keeps | apply State.sendAck_keeps
    | apply State.rykClock_keeps | apply State.emit_keeps | apply Keeps.ite | split
  all_goals first
    | exact sub_mask rfl hM | exact InMask.auto

theorem State.accepted_keeps {M : Nat} {z s : State} {n : Nat} {rx : RykRx} {bufErr : Bool} (hz : Keeps M z s) (hM :
    0x100002100001008202 ||| M = M) :
    Keeps M z (State.accepted s n rx bufErr) := by
  unfold State.accepted
  try dsimp only
  with_reducible repeat' first
    | assumption | apply State.post_keeps | apply State.discard_keeps | apply State.linkEvent_keeps
    | apply State.sendCredit_keeps | apply State.emit_keeps | apply Keeps.ite | split
  all_goals first
    | exact sub_mask rfl hM | exact InMask.auto

theorem State.ackTo_keeps {M : Nat} {z s : State} {n ack : Nat} (hz : Keeps M z s) (hM : 0x100000000001000002 ||| M
    = M) :
    Keeps M z (State.ackTo s n ack) := by
  unfold State.ackTo
  try dsimp only
  with_reducible repeat' first
    | assumption | apply State.setFld_keeps | apply State.setRlink_keeps | apply Keeps.ite | split
  all_goals first
    | exact sub_mask rfl hM | exact InMask.auto

theorem State.resend_keeps {M : Nat} {z s : State} {n : Nat} (hz : Keeps M z s) (hM : 0x1008200 ||| M = M) :
    Keeps M z (State.resend s n) := by
  unfold State.resend
  try dsimp only
  with_reducible repeat' first
    | assumption | apply State.sendFrame_keeps | apply State.emit_keeps | apply Keeps.ite
    | (apply Keeps.foldl; intro _ _ _) | split
  all_goals exact sub_mask rfl hM

theorem State.replayStart_keeps {M : Nat} {z s : State} {n : Nat} (hz : Keeps M z s) (hM : 0x10020612000140c602 |||
    M = M) :
    Keeps M z (State.replayStart s n) := by
  unfold State.replayStart
  try dsimp only
  with_reducible repeat' first
    | assumption | apply State.incFld_keeps | apply State.setRlink_keeps | apply State.rykPump_keeps
    | apply State.setKstate_keeps | apply State.linkRetrain_keeps | apply State.linkFollow_keeps
    | apply State.resend_keeps | apply State.rykClock_keeps | apply Keeps.ite | split
  all_goals first
    | exact sub_mask rfl hM | exact InMask.auto

theorem State.restartSeq_keeps {M : Nat} {z s : State} {n : Nat} (hz : Keeps M z s) (hM : 0x100002000001000202 ||| M
    = M) :
    Keeps M z (State.restartSeq s n) := by
  unfold State.restartSeq
  try dsimp only
  with_reducible repeat' first
    | assumption | apply State.setRlink_keeps | apply State.setFld_keeps | apply State.discard_keeps | apply Keeps.ite
    | (apply Keeps.foldl; intro _ _ _) | split
  all_goals first
    | exact sub_mask rfl hM | exact InMask.auto

theorem State.sendInit_keeps {M : Nat} {z s : State} {n : Nat} (hz : Keeps M z s) (hM : 0x1008200 ||| M = M) :
    Keeps M z (State.sendInit s n) := by
  unfold State.sendInit
  try dsimp only
  with_reducible repeat' first
    | assumption | apply State.emit_keeps | apply State.rykSend_keeps | apply Keeps.ite | split
  all_goals exact sub_mask rfl hM

theorem State.divert_keeps {M : Nat} {z s : State} {id : Nat} (hz : Keeps M z s) (hM : 0xa42000000400202 ||| M = M)
    :
    Keeps M z (State.divert s id) := by
  unfold State.divert
  try dsimp only
  with_reducible repeat' first
    | assumption | apply State.incFld_keeps | apply State.pipeMap_keeps | apply State.sumpFrame_keeps
    | apply State.raiseIrq_keeps | apply Keeps.ite | split
  all_goals first
    | exact sub_mask rfl hM | exact InMask.auto

theorem State.emitCopy_keeps {M : Nat} {z s : State} {id k d : Nat} (hz : Keeps M z s) (hM : 0xe02000000400202 ||| M
    = M) :
    Keeps M z (State.emitCopy s id k d) := by
  unfold State.emitCopy
  try dsimp only
  with_reducible repeat' first
    | assumption | apply State.incFld_keeps | apply State.pipeMap_keeps | apply State.copyLost_keeps
    | apply State.handItem_keeps | apply Keeps.ite | split
  all_goals first
    | exact sub_mask rfl hM | exact InMask.auto

theorem State.emitCopies_keeps {M : Nat} {z s : State} {id k : Nat} {l : List Nat} (hz : Keeps M z s) (hM : 0xe02000000400202 ||| M = M) :
    Keeps M z (s.emitCopies id k l) := by
  induction l generalizing s k with
  | nil => exact hz
  | cons d t ih => exact ih (State.emitCopy_keeps hz (sub_mask rfl hM))

theorem State.act_keeps {M : Nat} {z s : State} {id : Nat} (hz : Keeps M z s) (hM : 0xe42000000400202 ||| M = M) :
    Keeps M z (State.act s id) := by
  unfold State.act
  try dsimp only
  with_reducible repeat' first
    | assumption | apply State.incFld_keeps | apply State.setFrame_keeps | apply State.sumpFrame_keeps
    | apply State.handItem_keeps | apply State.divert_keeps | apply State.emitCopies_keeps | apply Keeps.ite
    | split
  all_goals first
    | exact sub_mask rfl hM | exact InMask.auto

theorem State.acceptCopy_keeps {M : Nat} {z s : State} {n buf : Nat} (hz : Keeps M z s) (hM : 0x1100602000003408202
    ||| M = M) :
    Keeps M z (State.acceptCopy s n buf) := by
  unfold State.acceptCopy
  try dsimp only
  with_reducible repeat' first
    | assumption | apply State.pipeMap_keeps | apply State.copyDone_keeps | apply State.deliver_keeps
    | apply State.start_keeps | apply Keeps.ite | split
  all_goals exact sub_mask rfl hM

theorem State.correct_keeps {M : Nat} {z s : State} {it : Item} {te : Nat} (hz : Keeps M z s) (hM :
    0x102000000000202 ||| M = M) :
    Keeps M z (State.correct s it te).1 := by
  unfold State.correct
  try dsimp only
  with_reducible repeat' first
    | assumption | apply State.maxFld_keeps | apply State.incFld_keeps | apply State.raiseIrq_keeps | apply Keeps.ite
    | split
  all_goals first
    | exact sub_mask rfl hM | exact InMask.auto

theorem State.checkThr_keeps {M : Nat} {z s : State} {q an : Nat} (hz : Keeps M z s) (hM : 0x82000000100202 ||| M = M) :
    Keeps M z (State.checkThr s q an) := by
  unfold State.checkThr
  try dsimp only
  with_reducible repeat' first
    | assumption | apply State.raiseIrq_keeps | apply State.setPortAux_keeps | apply Keeps.ite | split
  all_goals first
    | exact sub_mask rfl hM | exact InMask.auto

theorem State.usePn_keeps {M : Nat} {z s : State} {q an : Nat} (hz : Keeps M z s) (hM : 0x82000000100202 ||| M = M)
    :
    Keeps M z (State.usePn s q an) := by
  unfold State.usePn
  try dsimp only
  with_reducible repeat' first
    | assumption | apply State.setFld_keeps | apply State.raiseIrq_keeps | apply State.incFld_keeps
    | apply State.setPn_keeps | apply State.checkThr_keeps | apply Keeps.ite | split
  all_goals first
    | exact sub_mask rfl hM | exact InMask.auto

theorem State.sealItem_keeps {M : Nat} {z s : State} {i : Nat} {it : Item} {te : Nat} (hz : Keeps M z s) (hM :
    0xf82000000500202 ||| M = M) :
    Keeps M z (State.sealItem s i it te) := by
  unfold State.sealItem
  try dsimp only
  with_reducible repeat' first
    | assumption | apply State.raiseIrq_keeps | apply State.incFld_keeps | apply State.sumpItemOf_keeps
    | apply State.handItem_keeps | apply State.correct_keeps | apply State.usePn_keeps | apply Keeps.ite
    | (apply Keeps.foldl_fst; intro _ _ _) | refine Keeps.of_fst (by assumption) ?_ | split
  all_goals first
    | exact sub_mask rfl hM | exact InMask.auto

theorem State.transmit_keeps {M : Nat} {z s : State} {q : Nat} {it : Item} (hz : Keeps M z s) (hM :
    0x240000000000282 ||| M = M) :
    Keeps M z (State.transmit s q it) := by
  unfold State.transmit
  try dsimp only
  with_reducible repeat' first
    | assumption | apply State.emit_keeps | apply State.incFld_keeps | apply State.incWide_keeps
    | apply Keeps.ite | split
  all_goals first
    | exact sub_mask rfl hM | exact InMask.auto

theorem State.spout_keeps {M : Nat} {z s : State} {q : Nat} {it : Item} (hz : Keeps M z s) (hM :
    0x1000e42000002400282 ||| M = M) :
    Keeps M z (State.spout s q it) := by
  unfold State.spout
  try dsimp only
  with_reducible repeat' first
    | assumption | apply State.raiseIrq_keeps | apply State.incFld_keeps | apply State.injComplete_keeps
    | apply State.release_keeps | apply State.sumpItemOf_keeps | apply State.copyDone_keeps
    | apply State.transmit_keeps | apply State.spoutDown_keeps | apply Keeps.ite | split
  all_goals first
    | exact sub_mask rfl hM | exact InMask.auto

theorem State.acceptDivert_keeps {M : Nat} {z s : State} {n buf : Nat} (hz : Keeps M z s) (hM :
    0x1000202000002400202 ||| M = M) :
    Keeps M z (State.acceptDivert s n buf) := by
  unfold State.acceptDivert
  try dsimp only
  with_reducible repeat' first
    | assumption | apply State.pipeMap_keeps | apply State.release_keeps | apply State.deliver_keeps | apply Keeps.ite
    | split
  all_goals exact sub_mask rfl hM

theorem State.acceptCapture_keeps {M : Nat} {z s : State} {n buf : Nat} (hz : Keeps M z s) (hM :
    0x1000a02000002400202 ||| M = M) :
    Keeps M z (State.acceptCapture s n buf) := by
  unfold State.acceptCapture
  try dsimp only
  with_reducible repeat' first
    | assumption | apply State.incFld_keeps | apply State.deliver_keeps | apply State.pipeMap_keeps
    | apply State.release_keeps | apply Keeps.ite | split
  all_goals first
    | exact sub_mask rfl hM | exact InMask.auto

theorem State.netMap_keeps {M : Nat} {z s : State} {f : Net → Net} (hz : Keeps M z s) (hM : 0x8000000 ||| M = M) :
    Keeps M z (State.netMap s f) := by
  unfold State.netMap
  try dsimp only
  with_reducible repeat' first
    | assumption | apply Keeps.ite | split | apply Keeps.set_net
  all_goals exact sub_mask rfl hM

theorem State.setOffered_keeps {M : Nat} {z s : State} {r i vc : Nat} {l : List Packet} (hz : Keeps M z s) (hM :
    0x8000000 ||| M = M) :
    Keeps M z (State.setOffered s r i vc l) := by
  unfold State.setOffered
  try dsimp only
  with_reducible repeat' first
    | assumption | apply State.netMap_keeps | apply Keeps.ite | split
  all_goals exact sub_mask rfl hM

theorem State.meshStall_keeps {M : Nat} {z s : State} {r i : Nat} {p : Packet} (hz : Keeps M z s) (hM : 0x1002000000000202 ||| M =
    M) :
    Keeps M z (State.meshStall s r i p) := by
  unfold State.meshStall
  try dsimp only
  with_reducible repeat' first
    | assumption | apply State.raiseIrq_keeps | apply Keeps.ite | split
  all_goals first
    | exact sub_mask rfl hM | exact InMask.auto

theorem State.setBridge_keeps {M : Nat} {z s : State} {r i vc : Nat} {l : List Packet} (hz : Keeps M z s) (hM : 0x8000000
    ||| M = M) :
    Keeps M z (State.setBridge s r i vc l) := by
  unfold State.setBridge
  try dsimp only
  with_reducible repeat' first
    | assumption | apply State.netMap_keeps | apply Keeps.ite | split
  all_goals exact sub_mask rfl hM

theorem State.setNetQueue_keeps {M : Nat} {z s : State} {r i vc : Nat} {l : List Packet} (hz : Keeps M z s) (hM :
    0x8000000 ||| M = M) :
    Keeps M z (State.setNetQueue s r i vc l) := by
  unfold State.setNetQueue
  try dsimp only
  with_reducible repeat' first
    | assumption | apply State.netMap_keeps
  all_goals exact sub_mask rfl hM

theorem State.pushQueue_keeps {M : Nat} {z s : State} {r i vc : Nat} {p : Packet} (hz : Keeps M z s) (hM : 0x8000000 ||| M
    = M) :
    Keeps M z (State.pushQueue s r i vc p) := by
  unfold State.pushQueue
  try dsimp only
  with_reducible repeat' first
    | assumption | apply State.setNetQueue_keeps | apply Keeps.ite | split
  all_goals exact sub_mask rfl hM

theorem State.crossOne_keeps {M : Nat} {z s : State} {r i vc : Nat} (hz : Keeps M z s) (hM : 0x8000000 ||| M = M) :
    Keeps M z (State.crossOne r i vc s) := by
  unfold State.crossOne
  try dsimp only
  with_reducible repeat' first
    | assumption | apply State.setBridge_keeps | apply State.pushQueue_keeps | apply Keeps.ite | split
  all_goals exact sub_mask rfl hM

theorem State.cross_keeps {M : Nat} {z s : State} {r i vc : Nat} (hz : Keeps M z s) (hM : 0x8000000 ||| M = M) :
    Keeps M z (State.cross s r i vc) := by
  unfold State.cross
  try dsimp only
  with_reducible repeat' first
    | assumption | apply State.crossOne_keeps | apply Keeps.ite | (apply Keeps.foldl; intro _ _ _) | split
  all_goals exact sub_mask rfl hM

theorem State.entryCounted_keeps {M : Nat} {z s : State} {r i : Nat} {p : Packet} (hz : Keeps M z s) (hM : 0x9000000010000002 ||| M
    = M) :
    Keeps M z (State.entryCounted s r i p) := by
  unfold State.entryCounted
  try dsimp only
  with_reducible repeat' first
    | assumption | apply State.setTile_keeps | apply State.incFld_keeps | apply Keeps.ite | apply Keeps.tile_wf
    | apply Keeps.store_wf | split
  all_goals first
    | exact sub_mask rfl hM | exact InMask.auto

theorem State.enterOne_keeps {M : Nat} {z s : State} {r i vc : Nat} (hz : Keeps M z s) (hM : 0x9000000018000002 ||| M = M) :
    Keeps M z (State.enterOne r i vc s) := by
  unfold State.enterOne
  try dsimp only
  with_reducible repeat' first
    | assumption | apply State.setOffered_keeps | apply State.setBridge_keeps | apply State.pushQueue_keeps
    | apply State.entryCounted_keeps | apply Keeps.ite | split
  all_goals first
    | exact sub_mask rfl hM | exact InMask.auto

theorem State.enterAll_keeps {M : Nat} {z s : State} {r i vc : Nat} (hz : Keeps M z s) (hM : 0x9000000018000002 ||| M = M) :
    Keeps M z (State.enterAll s r i vc) := by
  unfold State.enterAll
  try dsimp only
  with_reducible repeat' first
    | assumption | apply State.enterOne_keeps | apply Keeps.ite | (apply Keeps.foldl; intro _ _ _) | split
  all_goals first
    | exact sub_mask rfl hM | exact InMask.auto

theorem State.settle_keeps {M : Nat} {z s : State} {r i vc : Nat} (hz : Keeps M z s) (hM : 0x9000000018000002 ||| M = M) :
    Keeps M z (State.settle s r i vc) := by
  unfold State.settle
  try dsimp only
  with_reducible repeat' first
    | assumption | apply State.cross_keeps | apply State.enterAll_keeps | apply Keeps.ite | split
  all_goals first
    | exact sub_mask rfl hM | exact InMask.auto

theorem State.inject_keeps {M : Nat} {z s : State} {p : Packet} (hz : Keeps M z s) (hM : 0x9002000018000202 ||| M =
    M) :
    Keeps M z (State.inject s p) := by
  unfold State.inject
  try dsimp only
  with_reducible repeat' first
    | assumption | apply State.raiseIrq_keeps | apply State.incFld_keeps | apply State.setOffered_keeps
    | apply State.entryCounted_keeps | apply State.settle_keeps | apply State.meshStall_keeps | apply Keeps.ite
    | split
  all_goals first
    | exact sub_mask rfl hM | exact InMask.auto

theorem State.storeTile_keeps {M : Nat} {z s : State} {t addr : Nat} {b : List Nat} (hz : Keeps M z s) (hM :
    0x10000000 ||| M = M) :
    Keeps M z (State.storeTile s t addr b) := by
  unfold State.storeTile
  try dsimp only
  with_reducible repeat' first
    | assumption | apply State.setTile_keeps | apply Keeps.ite | apply Keeps.tile_wf | apply Keeps.store_wf
  all_goals exact sub_mask rfl hM

theorem State.countMiss_keeps {M : Nat} {z s : State} {r o : Nat} {i : Nat} (hz : Keeps M z s) (hM :
    0x8002000008000202 ||| M = M) :
    Keeps M z (State.countMiss r o s i) := by
  unfold State.countMiss
  try dsimp only
  with_reducible repeat' first
    | assumption | apply State.raiseIrq_keeps | apply State.incFld_keeps | apply State.setNetQueue_keeps
    | apply State.setOffered_keeps | apply Keeps.ite | split
  all_goals first
    | exact sub_mask rfl hM | exact InMask.auto

theorem State.takePacket_keeps {M : Nat} {z s : State} {r i vc : Nat} (hz : Keeps M z s) (hM : 0x9000000018000002 ||| M = M)
    :
    Keeps M z (State.takePacket s r i vc) := by
  unfold State.takePacket
  try dsimp only
  with_reducible repeat' first
    | assumption | apply State.setNetQueue_keeps | apply State.settle_keeps | apply State.setOffered_keeps
    | apply Keeps.ite | split
  all_goals first
    | exact sub_mask rfl hM | exact InMask.auto

theorem State.spoil_keeps {M : Nat} {z s : State} {t status : Nat} (hz : Keeps M z s) (hM : 0x10000000 ||| M = M) :
    Keeps M z (State.spoil s t status) := by
  unfold State.spoil
  try dsimp only
  with_reducible repeat' first
    | assumption | apply State.setTile_keeps | apply Keeps.ite | apply Keeps.tile_wf
  all_goals exact sub_mask rfl hM

theorem State.setEdge_keeps {M : Nat} {z s : State} {node : Nat} {l : List Packet} (hz : Keeps M z s) (hM :
    0x8000000 ||| M = M) :
    Keeps M z (State.setEdge s node l) := by
  unfold State.setEdge
  try dsimp only
  with_reducible repeat' first
    | assumption | apply State.netMap_keeps
  all_goals exact sub_mask rfl hM

theorem State.tileTakes_keeps {M : Nat} {z s : State} {r : Nat} {p : Packet} (hz : Keeps M z s) (hM :
    0x9002000018000202 ||| M = M) :
    Keeps M z (State.tileTakes s r p) := by
  unfold State.tileTakes
  try dsimp only
  with_reducible repeat' first
    | assumption | apply State.spoil_keeps | apply State.inject_keeps | apply State.storeTile_keeps
    | apply State.setEdge_keeps | apply Keeps.ite | split
  all_goals exact sub_mask rfl hM

theorem State.tileDown_keeps {M : Nat} {z s : State} {r : Nat} {p : Packet} (hz : Keeps M z s) (hM :
    0x9002000018000202 ||| M = M) :
    Keeps M z (State.tileDown s r p) := by
  unfold State.tileDown
  try dsimp only
  with_reducible repeat' first
    | assumption | apply State.inject_keeps | apply State.incFld_keeps | apply Keeps.ite | split
  all_goals first
    | exact sub_mask rfl hM | exact InMask.auto

theorem State.answered_keeps {M : Nat} {z s : State} {t : Nat} {p : Packet} (hz : Keeps M z s) (hM : 0x10000000 ||| M = M)
    :
    Keeps M z (State.answered s t p) := by
  unfold State.answered
  try dsimp only
  with_reducible repeat' first
    | assumption | apply State.setTile_keeps | apply Keeps.ite | apply Keeps.tile_wf | apply Keeps.store_wf
    | split
  all_goals exact sub_mask rfl hM

theorem State.deliverPacket_keeps {M : Nat} {z s : State} {node : Nat} {p : Packet} (hz : Keeps M z s) (hM :
    0x9002000018000202 ||| M = M) :
    Keeps M z (State.deliverPacket s node p) := by
  unfold State.deliverPacket
  try dsimp only
  with_reducible repeat' first
    | assumption | apply State.emit_keeps | apply State.setEdge_keeps | apply State.tileTakes_keeps
    | apply State.tileDown_keeps | apply State.answered_keeps | apply Keeps.ite | split
  all_goals first
    | exact sub_mask rfl hM | exact InMask.auto

theorem State.meshIn_keeps {M : Nat} {z s : State} {node : Nat} {p : Packet} (hz : Keeps M z s) (hM : 0x1000000000000002 ||| M = M)
    :
    Keeps M z (State.meshIn s node p) := by
  unfold State.meshIn
  try dsimp only
  with_reducible repeat' first
    | assumption | apply State.incFld_keeps | apply Keeps.ite | split
  all_goals first
    | exact sub_mask rfl hM | exact InMask.auto

theorem State.forward_keeps {M : Nat} {z s : State} {r o vc i : Nat} {p : Packet} (hz : Keeps M z s) (hM :
    0x19002000018000282 ||| M = M) :
    Keeps M z (State.forward s r o vc i p) := by
  unfold State.forward
  try dsimp only
  with_reducible repeat' first
    | assumption | apply State.incFld_keeps | apply State.probesSee_keeps | apply State.netMap_keeps
    | apply State.takePacket_keeps | apply State.deliverPacket_keeps | apply State.setBridge_keeps
    | apply State.meshIn_keeps | apply State.pushQueue_keeps | apply State.settle_keeps
    | apply State.setNetQueue_keeps | apply Keeps.ite | split
  all_goals first
    | exact sub_mask rfl hM | exact InMask.auto

end Sys2Proof.Machine
end

