-- ==== Sys2Proof/Laws/KeepsMemory.lean ====
section
/-!
SUPPORT. What each operation keeps (the memories, the Pumps, the host interface and the flash): one law `X_keeps` for each operation `X`, with the mask of the
components of State that `X` may change.
-/

set_option Elab.async false

namespace Sys2Proof.Machine

open Sys2Proof

/-- Programming keeps the canonical form. -/
theorem programBytes_wf (m : FMap (BitVec 8)) (a : Nat) (b : List Nat) (h : Mem.wf 0xFF m = true) :
    Mem.wf 0xFF (programBytes m a b) = true := by
  induction b generalizing m a with
  | nil => exact h
  | cons v t ih => exact ih _ _ (Mem.wf_setByte 0xFF m a _ h)

theorem State.setBank_keeps {M : Nat} {z s : State} {b : Nat} {x : Bank} (hz : Keeps M z s) (hM :
    0x20000000040000002 ||| M = M) :
    Keeps M z (State.setBank s b x) := by
  unfold State.setBank
  try dsimp only
  with_reducible repeat' first
    | assumption | apply State.setFld_keeps | apply State.memMap_keeps | apply Keeps.ite | exact fun _ hd => hd
    | split
  all_goals first
    | exact sub_mask rfl hM | exact InMask.auto

theorem State.countDirect_keeps {M : Nat} {z s : State} {b : Nat} {write : Bool} (hz : Keeps M z s) (hM :
    0x20000000040000002 ||| M = M) :
    Keeps M z (State.countDirect s b write) := by
  unfold State.countDirect
  try dsimp only
  with_reducible repeat' first
    | assumption | apply State.incFld_keeps | apply State.setBank_keeps | apply Keeps.ite | split
  all_goals first
    | exact sub_mask rfl hM | exact InMask.auto

theorem State.directWrite_keeps {M : Nat} {z s : State} {a : Nat} {b : List Nat} (hz : Keeps M z s) (hM : 0x40000000 ||| M = M) :
    Keeps M z (s.directWrite a b) := by
  unfold State.directWrite
  exact State.memMap_keeps hz (sub_mask rfl hM) (fun m hd => Mem.wf_store 0 _ _ _ hd)

theorem State.liveBoundary_keeps {M : Nat} {z s : State} (hz : Keeps M z s) (hM : 0x20000000000000002 ||| M = M) :
    Keeps M z (State.liveBoundary s) := by
  unfold State.liveBoundary
  try dsimp only
  with_reducible repeat' first
    | assumption | apply State.setFld_keeps
  all_goals first
    | exact sub_mask rfl hM | exact InMask.auto

theorem State.invalidate_keeps {M : Nat} {z s : State} {wb o : Nat} (hz : Keeps M z s) (hM : 0x20000000040000002 |||
    M = M) :
    Keeps M z (State.invalidate s wb o) := by
  unfold State.invalidate
  try dsimp only
  with_reducible repeat' first
    | assumption | apply State.setBank_keeps | apply Keeps.ite | (apply Keeps.foldl; intro _ _ _)
  all_goals exact sub_mask rfl hM

theorem State.tableWrite_keeps {M : Nat} {z s : State} {v : Word} {size : Nat} (hz : Keeps M z s) (hM :
    0x20002100040000202 ||| M = M) :
    Keeps M z (State.tableWrite s v size) := by
  unfold State.tableWrite
  try dsimp only
  with_reducible repeat' first
    | assumption | apply State.raiseIrq_keeps | apply State.recordFault_keeps | apply State.invalidate_keeps
    | apply State.memMap_keeps | apply Keeps.ite | exact fun _ hd => hd | split
  all_goals first
    | exact sub_mask rfl hM | exact InMask.auto | exact .full .auto

theorem State.setChan5_keeps {M : Nat} {z s : State} {c : Nat} {x : Chan5} (hz : Keeps M z s) (hM : 0x40000000 ||| M
    = M) :
    Keeps M z (State.setChan5 s c x) := by
  unfold State.setChan5
  try dsimp only
  with_reducible repeat' first
    | assumption | apply State.memMap_keeps | apply Keeps.ite | exact fun _ hd => hd
  all_goals exact sub_mask rfl hM

theorem State.retireRow_keeps {M : Nat} {z s : State} {c row : Nat} (hz : Keeps M z s) (hM : 0x80002100040000202 |||
    M = M) :
    Keeps M z (State.retireRow s c row) := by
  unfold State.retireRow
  try dsimp only
  with_reducible repeat' first
    | assumption | apply State.fail_keeps | apply State.raiseIrq_keeps | apply State.incFld_keeps
    | apply State.decFld_keeps | apply State.setSubRetired_keeps | apply State.setChan5_keeps | apply Keeps.ite
    | split
  all_goals first
    | exact sub_mask rfl hM | exact InMask.auto

theorem State.retireWritten_keeps {M : Nat} {z s : State} {c : Nat} (hz : Keeps M z s) (hM : 0x80002100040000202 |||
    M = M) :
    Keeps M z (State.retireWritten s c) := by
  unfold State.retireWritten
  try dsimp only
  with_reducible repeat' first
    | assumption | apply State.setFld_keeps | apply State.setChan5_keeps | apply State.retireRow_keeps
    | apply Keeps.ite | split
  all_goals first
    | exact sub_mask rfl hM | exact InMask.auto

theorem State.cstNack_keeps {M : Nat} {z s : State} {b : Nat} {p : Packet} {cause : Nat} (hz : Keeps M z s) (hM :
    0x29002000018000202 ||| M = M) :
    Keeps M z (State.cstNack s b p cause) := by
  unfold State.cstNack
  try dsimp only
  with_reducible repeat' first
    | assumption | apply State.inject_keeps | apply State.incFld_keeps | apply Keeps.ite | split
  all_goals first
    | exact sub_mask rfl hM | exact InMask.auto

theorem State.touch_keeps {M : Nat} {z s : State} {b tag : Nat} (hz : Keeps M z s) (hM : 0x20000000040000002 ||| M =
    M) :
    Keeps M z (State.touch s b tag) := by
  unfold State.touch
  try dsimp only
  with_reducible repeat' first
    | assumption | apply State.setBank_keeps | apply State.memMap_keeps | apply Keeps.ite | exact fun _ hd => hd
    | split
  all_goals exact sub_mask rfl hM

theorem State.objectRead_keeps {M : Nat} {z s : State} {b tag : Nat} {p : Option Packet} (hz : Keeps M z s) (hM :
    0x29002000058000202 ||| M = M) :
    ∀ {o}, State.objectRead s b tag p = some o → Keeps M z o := by
  intro o e
  unfold State.objectRead at e
  try dsimp only at e
  repeat' split at e
  all_goals first | injection e with e; subst e | cases e
  all_goals with_reducible repeat' first
    | assumption | apply State.incFld_keeps | apply State.touch_keeps | apply State.inject_keeps
    | apply State.setBank_keeps | apply State.cstNack_keeps | apply Keeps.ite | split
  all_goals first
    | exact sub_mask rfl hM | exact InMask.auto

theorem State.installLine_keeps {M : Nat} {z s : State} {b : Nat} {l : CLine} (hz : Keeps M z s) (hM :
    0x20000000040000002 ||| M = M) :
    Keeps M z (State.installLine s b l) := by
  unfold State.installLine
  try dsimp only
  with_reducible repeat' first
    | assumption | apply State.setBank_keeps | apply State.memMap_keeps | apply Keeps.ite | exact fun _ hd => hd
    | split
  all_goals exact sub_mask rfl hM

theorem State.retireLine_keeps {M : Nat} {z s : State} {b : Nat} (hz : Keeps M z s) (hM : 0x20002100000000202 ||| M
    = M) :
    Keeps M z (State.retireLine s b) := by
  unfold State.retireLine
  try dsimp only
  with_reducible repeat' first
    | assumption | apply State.fence_keeps | apply State.fail_keeps | apply State.setSubRetired_keeps
    | apply State.raiseIrq_keeps | apply State.decFld_keeps | apply Keeps.ite | (apply Keeps.foldl; intro _ _ _)
    | split
  all_goals first
    | exact sub_mask rfl hM | exact InMask.auto

theorem State.lastErr_keeps {M : Nat} {z s : State} {c row kind : Nat} (hz : Keeps M z s) (hM : 0x80000000000000002
    ||| M = M) :
    Keeps M z (State.lastErr s c row kind) := by
  unfold State.lastErr
  try dsimp only
  with_reducible repeat' first
    | assumption | apply State.setFld_keeps
  all_goals first
    | exact sub_mask rfl hM | exact InMask.auto

theorem State.rowCorrected_keeps {M : Nat} {z s : State} {c row : Nat} (hz : Keeps M z s) (hM : 0x80002100040000202
    ||| M = M) :
    Keeps M z (State.rowCorrected s c row) := by
  unfold State.rowCorrected
  try dsimp only
  with_reducible repeat' first
    | assumption | apply State.raiseIrq_keeps | apply State.incFld_keeps | apply State.transient_keeps
    | apply State.setChan5_keeps | apply State.retireRow_keeps | apply State.lastErr_keeps | apply Keeps.ite
    | split
  all_goals first
    | exact sub_mask rfl hM | exact InMask.auto

theorem State.ddrMend_keeps {M : Nat} {z s : State} {c row line : Nat} {patrol : Bool} (hz : Keeps M z s) (hM : 0x80002100040000202
    ||| M = M) :
    Keeps M z (State.ddrMend s c row line patrol) := by
  unfold State.ddrMend
  try dsimp only
  with_reducible repeat' first
    | assumption | apply State.setChan5_keeps | apply State.rowCorrected_keeps | apply Keeps.ite | split
  all_goals first
    | exact sub_mask rfl hM | exact InMask.auto

theorem State.ddrError_keeps {M : Nat} {z s : State} {c row line : Nat} {patrol : Bool} {e : ReadErr} (hz : Keeps M
    z s) (hM : 0x80002100040000202 ||| M = M) :
    Keeps M z (State.ddrError s c row line patrol e) := by
  unfold State.ddrError
  try dsimp only
  with_reducible repeat' first
    | assumption | apply State.memMap_keeps | apply State.raiseIrq_keeps | apply State.incFld_keeps
    | apply State.retireRow_keeps | apply State.lastErr_keeps | apply State.ddrMend_keeps
    | apply State.rowCorrected_keeps | apply Keeps.ite | exact fun _ hd => hd | split
  all_goals first
    | exact sub_mask rfl hM | exact InMask.auto

theorem State.patrolNext_keeps {M : Nat} {z s : State} {c ecs : Nat} (hz : Keeps M z s) (hM : 0x80000000040000002
    ||| M = M) :
    Keeps M z (State.patrolNext s c ecs) := by
  unfold State.patrolNext
  try dsimp only
  with_reducible repeat' first
    | assumption | apply State.setChan5_keeps | apply State.setFld_keeps | apply State.incFld_keeps | apply Keeps.ite
    | split
  all_goals first
    | exact sub_mask rfl hM | exact InMask.auto

theorem State.readSpd_keeps {M : Nat} {z s : State} {n dimms ranks gib : Nat} {fast : Bool} (hz : Keeps M z s) (hM :
    0x8000210000000021e ||| M = M) :
    Keeps M z (State.readSpd s n dimms ranks gib fast) := by
  unfold State.readSpd
  try dsimp only
  with_reducible repeat' first
    | assumption | apply State.setReg_keeps | apply State.setFld_keeps | apply State.fail_keeps
    | apply State.configured_keeps | apply Keeps.ite | (apply Keeps.foldl; intro _ _ _) | split
  all_goals first
    | exact sub_mask rfl hM | exact InMask.auto | exact .reg .auto

theorem State.writeSpace_keeps {M : Nat} {z s : State} {fn space a : Nat} {b : List Nat} (hz : Keeps M z s) (hM :
    0x20000000050800202 ||| M = M) :
    Keeps M z (State.writeSpace s fn space a b) := by
  unfold State.writeSpace
  try dsimp only
  with_reducible repeat' first
    | assumption | apply State.emit_keeps | apply State.ddrWrite_keeps | apply State.countDirect_keeps
    | apply State.directWrite_keeps | apply State.storeTile_keeps | apply Keeps.ite | split
  all_goals exact sub_mask rfl hM

theorem State.postRecord_keeps {M : Nat} {z s : State} {p r status : Nat} {d : Desc} (hz : Keeps M z s) (hM :
    0x1020002000052800202 ||| M = M) :
    Keeps M z (State.postRecord s p r status d) := by
  unfold State.postRecord
  try dsimp only
  with_reducible repeat' first
    | assumption | apply State.writeSpace_keeps | apply State.raiseVector_keeps | apply State.emit_keeps
    | apply State.slotRaise_keeps | apply Keeps.ite | split
  all_goals first
    | exact sub_mask rfl hM | exact InMask.auto

theorem State.complete_keeps {M : Nat} {z s : State} {p r : Nat} {d : Desc} {status : Nat} {record : Bool} (hz :
    Keeps M z s) (hM : 0x1060002000052800282 ||| M = M) :
    Keeps M z (State.complete s p r d status record) := by
  unfold State.complete
  try dsimp only
  with_reducible repeat' first
    | assumption | apply State.setFld_keeps | apply State.incWide_keeps | apply State.incFld_keeps
    | apply State.raiseIrq_keeps | apply State.writeSpace_keeps | apply State.postRecord_keeps | apply Keeps.ite
    | split
  all_goals first
    | exact sub_mask rfl hM | exact InMask.auto

theorem State.pumpMap_keeps {M : Nat} {z s : State} {f : Pumps → Pumps} (hz : Keeps M z s) (hM : 0x80000000 ||| M =
    M) :
    Keeps M z (State.pumpMap s f) := by
  unfold State.pumpMap
  try dsimp only
  with_reducible repeat' first
    | assumption | apply Keeps.ite | split | apply Keeps.set_pumps
  all_goals exact sub_mask rfl hM

theorem State.setCtx_keeps {M : Nat} {z s : State} {p r : Nat} {c : Ctx} (hz : Keeps M z s) (hM : 0x80000000 ||| M =
    M) :
    Keeps M z (State.setCtx s p r c) := by
  unfold State.setCtx
  try dsimp only
  with_reducible repeat' first
    | assumption | apply State.pumpMap_keeps
  all_goals exact sub_mask rfl hM

theorem State.haltCtx_keeps {M : Nat} {z s : State} {p r status : Nat} {record : Bool} (hz : Keeps M z s) (hM :
    0x10600020000d2800282 ||| M = M) :
    Keeps M z (State.haltCtx s p r status record) := by
  unfold State.haltCtx
  try dsimp only
  with_reducible repeat' first
    | assumption | apply State.complete_keeps | apply State.setCtx_keeps | apply State.raiseIrq_keeps
    | apply State.setFld_keeps | apply Keeps.ite | (apply Keeps.foldl; intro _ _ _) | split
  all_goals first
    | exact sub_mask rfl hM | exact InMask.auto

theorem State.pumpLeaves_keeps {M : Nat} {z s : State} {p : Nat} (hz : Keeps M z s) (hM : 0x10600020000d2800282 |||
    M = M) :
    Keeps M z (State.pumpLeaves s p) := by
  unfold State.pumpLeaves
  try dsimp only
  with_reducible repeat' first
    | assumption | apply State.haltCtx_keeps | apply Keeps.ite | (apply Keeps.foldl; intro _ _ _)
  all_goals exact sub_mask rfl hM

theorem State.pumpBoundary_keeps {M : Nat} {z s : State} (hz : Keeps M z s) (hM : 0x40002000080000202 ||| M = M) :
    Keeps M z (State.pumpBoundary s) := by
  unfold State.pumpBoundary
  try dsimp only
  with_reducible repeat' first
    | assumption | apply State.setCtx_keeps | apply State.raiseIrq_keeps | apply State.incFld_keeps | apply Keeps.ite
    | (apply Keeps.foldl; intro _ _ _) | split
  all_goals first
    | exact sub_mask rfl hM | exact InMask.auto

theorem State.ctxEnabled_keeps {M : Nat} {z s : State} {p r : Nat} (hz : Keeps M z s) (hM : 0x40000000000000002 |||
    M = M) :
    Keeps M z (State.ctxEnabled s p r) := by
  unfold State.ctxEnabled
  try dsimp only
  with_reducible repeat' first
    | assumption | apply State.setFld_keeps
  all_goals first
    | exact sub_mask rfl hM | exact InMask.auto

theorem State.ringCtlWrite_keeps {M : Nat} {z s : State} {p r : Nat} {v : Word} {size : Nat} (hz : Keeps M z s) (hM
    : 0x10600021000d280029a ||| M = M) :
    Keeps M z (State.ringCtlWrite s p r v size) := by
  unfold State.ringCtlWrite
  try dsimp only
  with_reducible repeat' first
    | assumption | apply State.applyWrite_keeps | apply State.haltCtx_keeps | apply State.ctxEnabled_keeps
    | apply Keeps.ite | split
  all_goals first
    | exact sub_mask rfl hM | exact InMask.auto | exact .full .auto

theorem State.noteRound_keeps {M : Nat} {z s : State} {p r : Nat} (hz : Keeps M z s) (hM : 0x80000000 ||| M = M) :
    Keeps M z (State.noteRound s p r) := by
  unfold State.noteRound
  try dsimp only
  with_reducible repeat' first
    | assumption | apply State.setCtx_keeps | apply State.pumpMap_keeps | apply Keeps.ite
  all_goals exact sub_mask rfl hM

theorem State.prefetch_keeps {M : Nat} {z s : State} {d : Desc} {k done : Nat} (hz : Keeps M z s) (hM : 0x29002000058000202 ||| M = M) :
    Keeps M z (s.prefetch d k done).1 := by
  induction k generalizing s done with
  | zero => exact hz
  | succ k ih =>
    unfold State.prefetch
    dsimp only
    split
    · exact hz
    · split
      · exact hz
      · exact ih (State.objectRead_keeps hz (sub_mask rfl hM) (by assumption))

theorem State.syncTagGauge_keeps {M : Nat} {z s : State} (hz : Keeps M z s) (hM : 0x2000000000002 ||| M = M) :
    Keeps M z (State.syncTagGauge s) := by
  unfold State.syncTagGauge
  try dsimp only
  with_reducible repeat' first
    | assumption | apply State.setFld_keeps
  all_goals first
    | exact sub_mask rfl hM | exact InMask.auto

theorem State.issueRead_keeps {M : Nat} {z s : State} {p r : Nat} {d : Desc} {n retries off : Nat} (hz : Keeps M z s) (hM : 0x2000080000202 ||| M = M) :
    ∀ {o}, s.issueRead p r d n retries off = some o → Keeps M z o := by
  intro o e
  unfold State.issueRead at e
  dsimp only at e
  split at e
  · cases e
  · rw [Option.map_eq_some_iff] at e
    obtain ⟨t, -, rfl⟩ := e
    exact State.syncTagGauge_keeps (State.emit_keeps (State.pumpMap_keeps hz (sub_mask rfl hM)) (sub_mask rfl hM)) (sub_mask rfl hM)

theorem State.issueReads_keeps {M : Nat} {z s : State} {p r n k : Nat} {d : Desc} (hz : Keeps M z s) (hM : 0x2000080000202 ||| M = M) :
    Keeps M z (s.issueReads p r n k d).1 := by
  induction k generalizing s n d with
  | zero => exact hz
  | succ k ih =>
    unfold State.issueReads
    dsimp only
    split
    · exact hz
    · split
      · exact hz
      · exact ih (State.issueRead_keeps hz (sub_mask rfl hM) (by assumption))

theorem State.objectBytes_keeps {M : Nat} {z s : State} {a k : Nat} (hz : Keeps M z s) (hM : 0x20000000040000002 ||| M = M) :
    Keeps M z (s.objectBytes a k).2.2 := by
  induction k generalizing s a with
  | zero => exact hz
  | succ k ih =>
    unfold State.objectBytes
    dsimp only
    refine ih ?_
    split
    · exact State.incFld_keeps (State.touch_keeps hz (sub_mask rfl hM)) (sub_mask rfl hM)
    · exact State.incFld_keeps (State.installLine_keeps hz (sub_mask rfl hM)) (sub_mask rfl hM)

theorem State.readSpace_keeps {M : Nat} {z s : State} {space a n : Nat} (hz : Keeps M z s) (hM : 0x20000000040000002 ||| M = M) :
    Keeps M z (s.readSpace space a n).2.2 := by
  unfold State.readSpace
  dsimp only
  with_reducible repeat' first | assumption | apply State.countDirect_keeps | apply State.objectBytes_keeps | split
  all_goals first | exact sub_mask rfl hM | exact InMask.auto

theorem State.chunk_keeps {M : Nat} {z s : State} {p r : Nat} {d : Desc} (hz : Keeps M z s) (hM : 0x290020000d8800202 ||| M = M) :
    Keeps M z (s.chunk p r d).1 := by
  unfold State.chunk
  dsimp only
  have h1 : Keeps M z (s.readSpace d.srcSpace (d.src + d.issued) (min 4096 (d.len - d.issued))).2.2 :=
    State.readSpace_keeps hz (sub_mask rfl hM)
  with_reducible repeat' first
    | assumption | apply State.prefetch_keeps | apply State.writeSpace_keeps | apply State.issueReads_keeps | exact h1 | split
  all_goals first | exact sub_mask rfl hM | exact InMask.auto

theorem State.putDesc_keeps {M : Nat} {z s : State} {p r : Nat} {d : Desc} (hz : Keeps M z s) (hM : 0x80000000 ||| M
    = M) :
    Keeps M z (State.putDesc s p r d) := by
  unfold State.putDesc
  try dsimp only
  with_reducible repeat' first
    | assumption | apply State.setCtx_keeps
  all_goals exact sub_mask rfl hM

theorem State.fetchEntry_keeps {M : Nat} {z s : State} {p r i : Nat} (hz : Keeps M z s) (hM : 0x200 ||| M = M) :
    Keeps M z (State.fetchEntry s p r i) := by
  unfold State.fetchEntry
  try dsimp only
  with_reducible repeat' first
    | assumption | apply State.emit_keeps | apply Keeps.ite | split
  all_goals exact sub_mask rfl hM

theorem State.startPingPong_keeps {M : Nat} {z s : State} {p r turn : Nat} {host : List Nat} (hz : Keeps M z s) (hM
    : 0x690020000d8800202 ||| M = M) :
    Keeps M z (State.startPingPong s p r turn host) := by
  unfold State.startPingPong
  try dsimp only
  with_reducible repeat' first
    | assumption | apply State.raiseIrq_keeps | apply State.incFld_keeps | apply State.setCtx_keeps
    | apply State.chunk_keeps | apply State.fetchEntry_keeps | apply Keeps.ite
    | refine Keeps.of_fst (by assumption) ?_ | split
  all_goals first
    | exact sub_mask rfl hM | exact InMask.auto

theorem State.haltOwner_keeps {M : Nat} {z s : State} {fn status : Nat} {record : Bool} (hz : Keeps M z s) (hM :
    0x10600020000d2800282 ||| M = M) :
    Keeps M z (State.haltOwner s fn status record) := by
  unfold State.haltOwner
  try dsimp only
  with_reducible repeat' first
    | assumption | apply State.haltCtx_keeps | apply Keeps.ite | (apply Keeps.foldl; intro _ _ _)
  all_goals exact sub_mask rfl hM

theorem State.passThrough_keeps {M : Nat} {z s : State} {fn slot off p r : Nat} (hz : Keeps M z s) (hM :
    0x10600020000d2800282 ||| M = M) :
    Keeps M z (State.passThrough s fn slot off p r) := by
  unfold State.passThrough
  try dsimp only
  with_reducible repeat' first
    | assumption | apply State.setReg_keeps | apply State.setFld_keeps | apply State.haltCtx_keeps
    | apply State.ctxEnabled_keeps | apply Keeps.ite | split
  all_goals first
    | exact sub_mask rfl hM | exact InMask.auto | exact .reg .auto

theorem State.slotWrite_keeps {M : Nat} {z s : State} {fn slot off : Nat} {v : Word} {size : Nat} (hz : Keeps M z s)
    (hM : 0x10600021000d280029a ||| M = M) :
    Keeps M z (State.slotWrite s fn slot off v size) := by
  unfold State.slotWrite
  try dsimp only
  with_reducible repeat' first
    | assumption | apply State.applyWrite_keeps | apply State.recordFault_keeps | apply State.passThrough_keeps
    | apply Keeps.ite | split
  all_goals first
    | exact sub_mask rfl hM | exact InMask.auto | exact .full .auto

theorem State.freePost_keeps {M : Nat} {z s : State} {fn t : Nat} {v : Word} {size : Nat} (hz : Keeps M z s) (hM :
    0x100000210000000021a ||| M = M) :
    Keeps M z (State.freePost s fn t v size) := by
  unfold State.freePost
  try dsimp only
  with_reducible repeat' first
    | assumption | apply State.applyWrite_keeps | apply Keeps.ite
  all_goals first
    | exact sub_mask rfl hM | exact InMask.auto | exact .full .auto

theorem State.ctxBindWrite_keeps {M : Nat} {z s : State} {f j : Nat} {v : Word} {size : Nat} (hz : Keeps M z s) (hM
    : 0x210000000021a ||| M = M) :
    Keeps M z (State.ctxBindWrite s f j v size) := by
  unfold State.ctxBindWrite
  try dsimp only
  with_reducible repeat' first
    | assumption | apply State.applyWrite_keeps
  all_goals first
    | exact sub_mask rfl hM | exact InMask.auto | exact .full .auto

theorem State.setCfgReady_keeps {M : Nat} {z s : State} (hz : Keeps M z s) (hM : 0x2020000004402 ||| M = M) :
    Keeps M z (State.setCfgReady s) := by
  unfold State.setCfgReady
  try dsimp only
  with_reducible repeat' first
    | assumption | apply State.milestone_keeps | apply State.setFld_keeps
  all_goals first
    | exact sub_mask rfl hM | exact InMask.auto

theorem State.cfgReadyWrite_keeps {M : Nat} {z s : State} {v : Word} (hz : Keeps M z s) (hM : 0x2020100004402 ||| M
    = M) :
    Keeps M z (State.cfgReadyWrite s v) := by
  unfold State.cfgReadyWrite
  try dsimp only
  with_reducible repeat' first
    | assumption | apply State.pcieMap_keeps | apply State.setCfgReady_keeps | apply Keeps.ite | split
  all_goals exact sub_mask rfl hM

theorem State.sendPending_keeps {M : Nat} {z s : State} {fn : Nat} {v : Nat} (hz : Keeps M z s) (hM :
    0x1000002000000000202 ||| M = M) :
    Keeps M z (State.sendPending fn s v) := by
  unfold State.sendPending
  try dsimp only
  with_reducible repeat' first
    | assumption | apply State.emit_keeps | apply State.setReg_keeps | apply Keeps.ite | split
  all_goals first
    | exact sub_mask rfl hM | exact InMask.auto | exact .reg .auto

theorem State.refuseCapture_keeps {M : Nat} {z s : State} {c : Capture} (hz : Keeps M z s) (hM : 0xa02000000400202
    ||| M = M) :
    Keeps M z (State.refuseCapture s c) := by
  unfold State.refuseCapture
  try dsimp only
  with_reducible repeat' first
    | assumption | apply State.release_keeps | apply State.captureLost_keeps | apply Keeps.ite | split
  all_goals exact sub_mask rfl hM

theorem State.refuseUnreachable_keeps {M : Nat} {z s : State} (hz : Keeps M z s) (hM : 0xe02000000400202 ||| M = M)
    :
    Keeps M z (State.refuseUnreachable s).2 := by
  unfold State.refuseUnreachable
  try dsimp only
  with_reducible repeat' first
    | assumption | apply State.pipeMap_keeps | apply State.sumpFrame_keeps | apply State.raiseIrq_keeps
    | apply State.copyLost_keeps | apply State.refuseCapture_keeps | apply Keeps.ite
    | (apply Keeps.foldl; intro _ _ _) | split
  all_goals first
    | exact sub_mask rfl hM | exact InMask.auto

theorem State.sendAllPending_keeps {M : Nat} {z s : State} {fn : Nat} (hz : Keeps M z s) (hM : 0x1000002000000000202
    ||| M = M) :
    Keeps M z (State.sendAllPending s fn) := by
  unfold State.sendAllPending
  try dsimp only
  with_reducible repeat' first
    | assumption | apply State.sendPending_keeps | apply Keeps.ite | (apply Keeps.foldl; intro _ _ _)
  all_goals exact sub_mask rfl hM

theorem State.cfgWrite_keeps {M : Nat} {z s : State} {fn : Nat} {w : CfgWrite} (hz : Keeps M z s) (hM : 0x1000002000100080202 ||| M = M) :
    Keeps M z (s.cfgWrite fn w) := by
  cases w <;> unfold State.cfgWrite <;> with_reducible repeat' first
    | assumption | apply State.sendAllPending_keeps | apply State.setFld_keeps | apply State.pcieMap_keeps
    | apply Keeps.ite | apply Keeps.set_fns
  all_goals first | exact sub_mask rfl hM | exact InMask.auto

theorem State.orphanTags_keeps {M : Nat} {z s : State} {fn : Nat} (hz : Keeps M z s) (hM : 0x80000000 ||| M = M) :
    Keeps M z (State.orphanTags s fn) := by
  unfold State.orphanTags
  try dsimp only
  with_reducible repeat' first
    | assumption | apply State.pumpMap_keeps
  all_goals exact sub_mask rfl hM

theorem State.resetFunction_keeps {M : Nat} {z s : State} {fn : Nat} (hz : Keeps M z s) (hM : 0x10600020000d2880282
    ||| M = M) :
    Keeps M z (State.resetFunction s fn) := by
  unfold State.resetFunction
  try dsimp only
  with_reducible repeat' first
    | assumption | apply State.orphanTags_keeps | apply State.setFld_keeps | apply State.haltOwner_keeps
    | apply Keeps.ite | split | apply Keeps.set_fns
  all_goals first
    | exact sub_mask rfl hM | exact InMask.auto

theorem State.resetPage_keeps {M : Nat} {z s : State} {page : Nat} {keep : List Nat} (hz : Keeps M z s) (hM : 0xe ||| M = M) (hp : InMask M page := by exact InMask.auto) :
    Keeps M z (s.resetPage page keep) := by
  refine hz.trans ?_
  constructor <;> intro hh
  · exact ⟨FMap.canonical_filter _ _ _ hh.regs, hh.ddr, hh.flash, hh.direct, hh.stores⟩
  all_goals first
    | rfl | exact absurd (testBit_of_sub hM hh) (by decide)
    | exact fun hk => congrArg (Option.getD · _) (FMap.get?_filter s.regs _ hh fun x => by
        have hne : hh / 4096 ≠ page := fun e => hk (e ▸ hp)
        simp [hne])

theorem State.resetLocal_keeps {M : Nat} {z s : State} {fn : Nat} {keepLock : Bool} (hz : Keeps M z s) (hM :
    0x100000000000000000e ||| M = M) :
    Keeps M z (State.resetLocal s fn keepLock) := by
  unfold State.resetLocal
  try dsimp only
  with_reducible repeat' first
    | assumption | apply State.resetPage_keeps | apply Keeps.ite | (apply Keeps.foldl; intro _ _ _)
  all_goals first
    | exact sub_mask rfl hM | exact InMask.auto

theorem State.removeTenant_keeps {M : Nat} {z s : State} {fn : Nat} (hz : Keeps M z s) (hM : 0x100000200000000000e
    ||| M = M) :
    Keeps M z (State.removeTenant s fn) := by
  unfold State.removeTenant
  try dsimp only
  with_reducible repeat' first
    | assumption | apply State.resetLocal_keeps | apply State.setFld_keeps | apply Keeps.ite | split
  all_goals first
    | exact sub_mask rfl hM | exact InMask.auto

theorem State.vfEnableWrite_keeps {M : Nat} {z s : State} {on : Bool} (hz : Keeps M z s) (hM : 0x1060e020001d2c8028e
    ||| M = M) :
    Keeps M z (State.vfEnableWrite s on) := by
  unfold State.vfEnableWrite
  try dsimp only
  with_reducible repeat' first
    | assumption | apply State.raiseIrq_keeps | apply State.setFld_keeps | apply State.pcieMap_keeps
    | apply State.resetFunction_keeps | apply State.removeTenant_keeps | apply State.refuseUnreachable_keeps
    | apply Keeps.ite | (apply Keeps.foldl; intro _ _ _) | refine Keeps.of_snd (by assumption) ?_ | split
  all_goals first
    | exact sub_mask rfl hM | exact InMask.auto

theorem State.freeEntry_keeps {M : Nat} {z s : State} {tag : Nat} (hz : Keeps M z s) (hM : 0x2000080000002 ||| M =
    M) :
    Keeps M z (State.freeEntry s tag) := by
  unfold State.freeEntry
  try dsimp only
  with_reducible repeat' first
    | assumption | apply State.syncTagGauge_keeps | apply State.pumpMap_keeps | apply Keeps.ite | split
  all_goals exact sub_mask rfl hM

theorem State.landData_keeps {M : Nat} {z s : State} {e : TagEntry} {b : List Nat} (hz : Keeps M z s) (hM :
    0x200000000d0800202 ||| M = M) :
    Keeps M z (State.landData s e b) := by
  unfold State.landData
  try dsimp only
  with_reducible repeat' first
    | assumption | apply State.writeSpace_keeps | apply State.putDesc_keeps | apply Keeps.ite | split
  all_goals exact sub_mask rfl hM

theorem State.endDesc_keeps {M : Nat} {z s : State} {e : TagEntry} {status : Nat} (hz : Keeps M z s) (hM :
    0x80000000 ||| M = M) :
    Keeps M z (State.endDesc s e status) := by
  unfold State.endDesc
  try dsimp only
  with_reducible repeat' first
    | assumption | apply State.putDesc_keeps | apply Keeps.ite | split
  all_goals exact sub_mask rfl hM

theorem State.ctoWrite_keeps {M : Nat} {z s : State} {v : Nat} (hz : Keeps M z s) (hM : 0x4000200010000020e ||| M =
    M) :
    Keeps M z (State.ctoWrite s v) := by
  unfold State.ctoWrite
  try dsimp only
  with_reducible repeat' first
    | assumption | apply State.setFld_keeps | apply State.pcieMap_keeps | apply State.raiseIrq_keeps
    | apply State.forceNow_keeps | apply Keeps.ite | (apply Keeps.foldl; intro _ _ _) | split
  all_goals first
    | exact sub_mask rfl hM | exact InMask.auto

theorem State.freshLink_keeps {M : Nat} {z s : State} (hz : Keeps M z s) (hM : 0x100080000 ||| M = M) :
    Keeps M z (State.freshLink s) := by
  unfold State.freshLink
  try dsimp only
  with_reducible repeat' first
    | assumption | apply State.pcieMap_keeps | apply Keeps.ite | split | apply Keeps.set_fns
  all_goals exact sub_mask rfl hM

theorem State.holdTimers_keeps {M : Nat} {z s : State} {stop : Bool} (hz : Keeps M z s) (hM : 0x80000000 ||| M = M)
    :
    Keeps M z (State.holdTimers s stop) := by
  unfold State.holdTimers
  try dsimp only
  with_reducible repeat' first
    | assumption | apply State.pumpMap_keeps | apply Keeps.ite | split
  all_goals exact sub_mask rfl hM

theorem State.eraseSector_keeps {M : Nat} {z s : State} {k : Nat} (hz : Keeps M z s) (hM : 0x800000000 ||| M = M) :
    Keeps M z (s.eraseSector k) := by
  exact State.flashMap_keeps hz (sub_mask rfl hM) (fun m hd => Mem.wf_clear 0xFF _ _ _ hd)

theorem State.journalPut_keeps {M : Nat} {z s : State} {sector op : Nat} (hz : Keeps M z s) (hM : 0x800800000002 ||| M = M) :
    Keeps M z (s.journalPut sector op) := by
  exact State.setFld_keeps (State.flashMap_keeps hz (sub_mask rfl hM) (fun m hd => programBytes_wf _ _ _ hd)) (sub_mask rfl hM)

theorem State.journalTurn_keeps {M : Nat} {z s : State} (hz : Keeps M z s) (hM : 0x800800000002 ||| M = M) :
    Keeps M z (State.journalTurn s) := by
  unfold State.journalTurn
  try dsimp only
  with_reducible repeat' first
    | assumption | apply State.setFld_keeps | apply State.eraseSector_keeps | apply State.journalPut_keeps
    | apply Keeps.ite | (apply Keeps.foldl; intro _ _ _) | split
  all_goals first
    | exact sub_mask rfl hM | exact InMask.auto

theorem State.journal_keeps {M : Nat} {z s : State} {sector op : Nat} (hz : Keeps M z s) (hM : 0x800800000002 ||| M
    = M) :
    Keeps M z (State.journal s sector op) := by
  unfold State.journal
  try dsimp only
  with_reducible repeat' first
    | assumption | apply State.journalTurn_keeps | apply State.journalPut_keeps | apply State.flashMap_keeps
    | apply Keeps.ite | exact fun _ hd => hd | split
  all_goals exact sub_mask rfl hM

theorem State.syncFlash_keeps {M : Nat} {z s : State} (hz : Keeps M z s) (hM : 0x800000000002 ||| M = M) :
    Keeps M z (State.syncFlash s) := by
  unfold State.syncFlash
  try dsimp only
  with_reducible repeat' first
    | assumption | apply State.setFld_keeps
  all_goals first
    | exact sub_mask rfl hM | exact InMask.auto

theorem State.syncIndet_keeps {M : Nat} {z s : State} (hz : Keeps M z s) (hM : 0x800000000002 ||| M = M) :
    Keeps M z (State.syncIndet s) := by
  unfold State.syncIndet
  try dsimp only
  with_reducible repeat' first
    | assumption | apply State.setFld_keeps | apply Keeps.ite | (apply Keeps.foldl; intro _ _ _)
  all_goals first
    | exact sub_mask rfl hM | exact InMask.auto

theorem State.startFlash_keeps {M : Nat} {z s : State} {o : FlashOp} (hz : Keeps M z s) (hM : 0x800800000002 ||| M =
    M) :
    Keeps M z (State.startFlash s o) := by
  unfold State.startFlash
  try dsimp only
  with_reducible repeat' first
    | assumption | apply State.journal_keeps | apply State.syncFlash_keeps | apply State.syncIndet_keeps
    | apply State.flashMap_keeps | apply State.incFld_keeps | apply Keeps.ite | exact fun _ hd => hd | split
  all_goals first
    | exact sub_mask rfl hM | exact InMask.auto

theorem State.giveFlash_keeps {M : Nat} {z s : State} {o : FlashOp} (hz : Keeps M z s) (hM : 0x800800000002 ||| M =
    M) :
    Keeps M z (State.giveFlash s o) := by
  unfold State.giveFlash
  try dsimp only
  with_reducible repeat' first
    | assumption | apply State.flashMap_keeps | apply State.startFlash_keeps | apply Keeps.ite
    | exact fun _ hd => hd | split
  all_goals first
    | exact sub_mask rfl hM | exact InMask.auto

theorem State.flashGo_keeps {M : Nat} {z s : State} (hz : Keeps M z s) (hM : 0x800800000002 ||| M = M) :
    Keeps M z (State.flashGo s) := by
  unfold State.flashGo
  try dsimp only
  with_reducible repeat' first
    | assumption | apply State.setFld_keeps | apply State.giveFlash_keeps | apply State.hwSet_keeps
    | apply Keeps.ite | split
  all_goals first
    | exact sub_mask rfl hM | exact InMask.auto

theorem State.writeRecord_keeps {M : Nat} {z s : State} {es : List (Nat × Nat × Nat)} (hz : Keeps M z s) (hM : 0x800800000002 ||| M = M) :
    Keeps M z (s.writeRecord es) := by
  exact State.syncIndet_keeps (State.flashMap_keeps (State.journal_keeps (State.eraseSector_keeps
    (State.journal_keeps hz (sub_mask rfl hM)) (sub_mask rfl hM)) (sub_mask rfl hM)) (sub_mask rfl hM)
    (fun m hd => programBytes_wf _ _ _ hd)) (sub_mask rfl hM)

theorem State.flashReset_keeps {M : Nat} {z s : State} (hz : Keeps M z s) (hM : 0x800800000002 ||| M = M) :
    Keeps M z (State.flashReset s) := by
  unfold State.flashReset
  try dsimp only
  with_reducible repeat' first
    | assumption | apply State.syncFlash_keeps | apply State.syncIndet_keeps | apply State.flashMap_keeps
    | apply Keeps.ite | exact fun _ hd => hd | split
  all_goals exact sub_mask rfl hM

theorem State.journalStart_keeps {M : Nat} {z s : State} (hz : Keeps M z s) (hM : 0x2800800000202 ||| M = M) :
    Keeps M z (State.journalStart s) := by
  unfold State.journalStart
  try dsimp only
  with_reducible repeat' first
    | assumption | apply State.flashMap_keeps | apply State.syncIndet_keeps | apply State.setFld_keeps
    | apply State.raiseIrq_keeps | apply Keeps.ite | exact fun _ hd => hd | split
  all_goals first
    | exact sub_mask rfl hM | exact InMask.auto

theorem State.unmapped_keeps {M : Nat} {z s : State} {bar cause : Nat} {wr : Bool} (hz : Keeps M z s) (hM :
    0x20000000002 ||| M = M) :
    Keeps M z (State.unmapped s bar cause wr) := by
  unfold State.unmapped
  try dsimp only
  with_reducible repeat' first
    | assumption | apply State.setReg_keeps | apply State.incFld_keeps | apply State.noteSet_keeps
    | apply Keeps.ite | split
  all_goals first
    | exact sub_mask rfl hM | exact InMask.auto | exact .reg .auto

theorem State.onPage_keeps {M : Nat} {z s : State} {page off : Nat} {f : State → State} (hz : Keeps M z s) (hM :
    0x20000000002 ||| M = M) (hf : ∀ t, Keeps M z t → Keeps M z (f t)) :
    Keeps M z (State.onPage s page off f) := by
  unfold State.onPage
  split
  · exact State.unmapped_keeps hz (sub_mask rfl hM)
  · exact hf s hz

theorem State.flashCmd_keeps {M : Nat} {z s : State} {o : Nat} (hz : Keeps M z s) (hM : 0x292080000021a ||| M = M) :
    Keeps M z (State.flashCmd s o) := by
  unfold State.flashCmd
  try dsimp only
  with_reducible repeat' first
    | assumption | apply State.write_keeps | apply State.flashGo_keeps | apply State.onPage_keeps
    | apply Keeps.ite | (intro _ _; try dsimp only) | split
  all_goals first
    | exact sub_mask rfl hM | exact InMask.auto

theorem State.flashFail_keeps {M : Nat} {z s : State} (hz : Keeps M z s) (hM : 0x2800000000202 ||| M = M) :
    Keeps M z (State.flashFail s) := by
  unfold State.flashFail
  try dsimp only
  with_reducible repeat' first
    | assumption | apply State.raiseIrq_keeps | apply State.incFld_keeps | apply State.hwSet_keeps
    | apply State.setFld_keeps | apply Keeps.ite | split
  all_goals first
    | exact sub_mask rfl hM | exact InMask.auto

theorem State.nextFlash_keeps {M : Nat} {z s : State} (hz : Keeps M z s) (hM : 0x800800000002 ||| M = M) :
    Keeps M z (State.nextFlash s) := by
  unfold State.nextFlash
  try dsimp only
  with_reducible repeat' first
    | assumption | apply State.flashMap_keeps | apply State.startFlash_keeps | apply Keeps.ite
    | exact fun _ hd => hd | split
  all_goals first
    | exact sub_mask rfl hM | exact InMask.auto

theorem State.cpcMap_keeps {M : Nat} {z s : State} {f : Cpc → Cpc} (hz : Keeps M z s) (hM : 0x4000000000 ||| M = M)
    :
    Keeps M z (State.cpcMap s f) := by
  unfold State.cpcMap
  try dsimp only
  with_reducible repeat' first
    | assumption | apply Keeps.ite | split | apply Keeps.set_cpc
  all_goals exact sub_mask rfl hM

theorem State.logEvent_keeps {M : Nat} {z s : State} {event severity : Nat} {args : List Nat} (hz : Keeps M z s) (hM
    : 0x4000000000 ||| M = M) :
    Keeps M z (State.logEvent s event severity args) := by
  unfold State.logEvent
  try dsimp only
  with_reducible repeat' first
    | assumption | apply State.cpcMap_keeps
  all_goals exact sub_mask rfl hM

theorem State.setFwReady_keeps {M : Nat} {z s : State} {b : Bool} (hz : Keeps M z s) (hM : 0x20000004402 ||| M = M)
    :
    Keeps M z (State.setFwReady s b) := by
  unfold State.setFwReady
  try dsimp only
  with_reducible repeat' first
    | assumption | apply State.setFld_keeps | apply State.milestone_keeps | apply Keeps.ite
  all_goals first
    | exact sub_mask rfl hM | exact InMask.auto

theorem State.setFw_keeps {M : Nat} {z s : State} {st reason : Nat} (hz : Keeps M z s) (hM : 0x3020000004602 ||| M =
    M) :
    Keeps M z (State.setFw s st reason) := by
  unfold State.setFw
  try dsimp only
  with_reducible repeat' first
    | assumption | apply State.setFld_keeps | apply State.setFwReady_keeps | apply State.raiseIrq_keeps
    | apply Keeps.ite | split
  all_goals first
    | exact sub_mask rfl hM | exact InMask.auto

theorem State.showImage_keeps {M : Nat} {z s : State} {r : Nat} (hz : Keeps M z s) (hM : 0x1000000000002 ||| M = M)
    :
    Keeps M z (State.showImage s r) := by
  unfold State.showImage
  try dsimp only
  with_reducible repeat' first
    | assumption | apply State.setFld_keeps
  all_goals first
    | exact sub_mask rfl hM | exact InMask.auto

theorem State.setCores_keeps {M : Nat} {z s : State} {v : Nat} (hz : Keeps M z s) (hM : 0x1000000000002 ||| M = M) :
    Keeps M z (State.setCores s v) := by
  unfold State.setCores
  try dsimp only
  with_reducible repeat' first
    | assumption | apply State.setFld_keeps | apply Keeps.ite | (apply Keeps.foldl; intro _ _ _)
  all_goals first
    | exact sub_mask rfl hM | exact InMask.auto

theorem State.startImage_keeps {M : Nat} {z s : State} {r : Nat} (hz : Keeps M z s) (hM : 0x3020000004602 ||| M = M)
    :
    Keeps M z (State.startImage s r) := by
  unfold State.startImage
  try dsimp only
  with_reducible repeat' first
    | assumption | apply State.setFw_keeps | apply State.setCores_keeps | apply State.showImage_keeps
    | apply Keeps.ite | split
  all_goals exact sub_mask rfl hM

theorem State.clearHandoff_keeps {M : Nat} {z s : State} (hz : Keeps M z s) (hM : 0x1004000000002 ||| M = M) :
    Keeps M z (State.clearHandoff s) := by
  unfold State.clearHandoff
  try dsimp only
  with_reducible repeat' first
    | assumption | apply State.cpcMap_keeps | apply State.setFld_keeps | apply Keeps.ite | split
  all_goals first
    | exact sub_mask rfl hM | exact InMask.auto

end Sys2Proof.Machine
end

