-- ==== Sys2Proof/Laws/KeepsTiles.lean ====
section
/-!
SUPPORT. What each operation keeps (the tiles, the Lightwell and the security island): one law `X_keeps` for each operation `X`, with the mask of the
components of State that `X` may change.
-/

set_option Elab.async false

namespace Sys2Proof.Machine

open Sys2Proof

theorem State.voidItems_keeps {M : Nat} {z s : State} {items : List (Nat × Nat × Nat)} (hz : Keeps M z s) (hM :
    0x8202000000400602 ||| M = M) :
    Keeps M z (State.voidItems s items) := by
  unfold State.voidItems
  try dsimp only
  with_reducible repeat' first
    | assumption | apply State.incFld_keeps | apply State.scoreRecord_keeps | apply Keeps.ite
    | (apply Keeps.foldl; intro _ _ _) | split
  all_goals first
    | exact sub_mask rfl hM | exact InMask.auto

theorem State.recordOp_keeps {M : Nat} {z s : State} {t node fmt status sat flush : Nat} {o : TileOp} (hz : Keeps M
    z s) (hM : 0xf002000018000202 ||| M = M) :
    Keeps M z (State.recordOp s t node fmt status sat flush o) := by
  unfold State.recordOp
  try dsimp only
  with_reducible repeat' first
    | assumption | apply State.raiseIrq_keeps | apply State.incFld_keeps | apply State.inject_keeps
    | apply Keeps.ite | split
  all_goals first
    | exact sub_mask rfl hM | exact InMask.auto

theorem State.sequencer_keeps {M : Nat} {z s : State} {t st slot : Nat} (hz : Keeps M z s) (hM : 0x6000000000000002
    ||| M = M) :
    Keeps M z (State.sequencer s t st slot) := by
  unfold State.sequencer
  try dsimp only
  with_reducible repeat' first
    | assumption | apply State.setFld_keeps
  all_goals first
    | exact sub_mask rfl hM | exact InMask.auto

theorem State.startOp_keeps {M : Nat} {z s : State} {t slot : Nat} {batch : Option Nat} {index : Nat} (hz : Keeps M
    z s) (hM : 0x6000000010000002 ||| M = M) :
    Keeps M z (State.startOp s t slot batch index) := by
  unfold State.startOp
  try dsimp only
  with_reducible repeat' first
    | assumption | apply State.setTile_keeps | apply State.sequencer_keeps | apply Keeps.ite
    | apply Keeps.tile_wf | apply Keeps.store_wf | split
  all_goals first
    | exact sub_mask rfl hM | exact InMask.auto

theorem State.nextOp_keeps {M : Nat} {z s : State} {t : Nat} {more : Option TileOp} (hz : Keeps M z s) (hM :
    0x6000000010000002 ||| M = M) :
    Keeps M z (State.nextOp s t more) := by
  unfold State.nextOp
  try dsimp only
  with_reducible repeat' first
    | assumption | apply State.setTile_keeps | apply State.sequencer_keeps | apply State.startOp_keeps
    | apply Keeps.ite | apply Keeps.tile_wf | apply Keeps.store_wf | split
  all_goals first
    | exact sub_mask rfl hM | exact InMask.auto

theorem State.cutOp_keeps {M : Nat} {z s : State} {t status : Nat} {o : TileOp} (hz : Keeps M z s) (hM : 0xf002000018000602 ||| M =
    M) :
    Keeps M z (State.cutOp s t status o) := by
  unfold State.cutOp
  try dsimp only
  with_reducible repeat' first
    | assumption | apply State.drawn_keeps | apply State.recordOp_keeps | apply Keeps.ite | split
  all_goals first
    | exact sub_mask rfl hM | exact InMask.auto

theorem State.cancelTile_keeps {M : Nat} {z s : State} {t : Nat} {batch : Option Nat} {stop : Bool} (hz : Keeps M z
    s) (hM : 0xf002000018000602 ||| M = M) :
    Keeps M z (State.cancelTile s t batch stop) := by
  unfold State.cancelTile
  try dsimp only
  with_reducible repeat' first
    | assumption | apply State.setTile_keeps | apply State.sequencer_keeps | apply State.nextOp_keeps
    | apply State.cutOp_keeps | apply State.recordOp_keeps | apply Keeps.ite | apply Keeps.tile_wf | apply Keeps.store_wf | split
  all_goals exact sub_mask rfl hM

theorem State.placementLoss_keeps {M : Nat} {z s : State} {t : Nat} (hz : Keeps M z s) (hM : 0xf202000038400602 |||
    M = M) :
    Keeps M z (State.placementLoss s t) := by
  unfold State.placementLoss
  try dsimp only
  with_reducible repeat' first
    | assumption | apply State.voidItems_keeps | apply State.cancelTile_keeps | apply Keeps.ite
    | (apply Keeps.foldl; intro _ _ _) | split | apply Keeps.set_batches
  all_goals exact sub_mask rfl hM

theorem State.tileMoved_keeps {M : Nat} {z s : State} {t old : Nat} (hz : Keeps M z s) (hM : 0xf202000038400602 ||| M = M) :
    Keeps M z (State.tileMoved s t old) := by
  unfold State.tileMoved
  try dsimp only
  with_reducible repeat' first
    | assumption | apply State.cancelTile_keeps | apply State.placementLoss_keeps | apply Keeps.ite | split
  all_goals first
    | exact sub_mask rfl hM | exact InMask.auto

theorem State.fenceTile_keeps {M : Nat} {z s : State} {reason t : Nat} (hz : Keeps M z s) (hM : 0xf202100038400602
    ||| M = M) :
    Keeps M z (State.fenceTile s reason t) := by
  unfold State.fenceTile
  try dsimp only
  with_reducible repeat' first
    | assumption | apply State.fence_keeps | apply State.tileMoved_keeps | apply Keeps.ite | split
  all_goals first
    | exact sub_mask rfl hM | exact InMask.auto

theorem State.batchBoundary_keeps {M : Nat} {z s : State} (hz : Keeps M z s) (hM : 0x9202000038400602 ||| M = M) :
    Keeps M z (State.batchBoundary s) := by
  unfold State.batchBoundary
  try dsimp only
  with_reducible repeat' first
    | assumption | apply State.setFld_keeps | apply State.raiseIrq_keeps | apply State.incFld_keeps
    | apply State.inject_keeps | apply State.voidItems_keeps | apply Keeps.ite | (apply Keeps.foldl; intro _ _ _)
    | split | apply Keeps.set_batches
  all_goals first
    | exact sub_mask rfl hM | exact InMask.auto

theorem State.tileBoundary_keeps {M : Nat} {z s : State} {t : Nat} (hz : Keeps M z s) (hM : 0x6000000000000002 ||| M
    = M) :
    Keeps M z (State.tileBoundary s t) := by
  unfold State.tileBoundary
  try dsimp only
  with_reducible repeat' first
    | assumption | apply State.setFld_keeps
  all_goals first
    | exact sub_mask rfl hM | exact InMask.auto

theorem State.trigger_keeps {M : Nat} {z s : State} {t slot : Nat} {batch : Option Nat} (hz : Keeps M z s) (hM :
    0x6000000010000002 ||| M = M) :
    Keeps M z (State.trigger s t slot batch) := by
  unfold State.trigger
  try dsimp only
  with_reducible repeat' first
    | assumption | apply State.setTile_keeps | apply State.startOp_keeps | apply Keeps.ite | apply Keeps.tile_wf
    | apply Keeps.store_wf | split
  all_goals first
    | exact sub_mask rfl hM | exact InMask.auto

theorem State.progWritten_keeps {M : Nat} {z s : State} {t slot : Nat} (hz : Keeps M z s) (hM : 0x6000000010000002
    ||| M = M) :
    Keeps M z (State.progWritten s t slot) := by
  unfold State.progWritten
  try dsimp only
  with_reducible repeat' first
    | assumption | apply State.setFld_keeps | apply State.trigger_keeps | apply Keeps.ite | split
  all_goals first
    | exact sub_mask rfl hM | exact InMask.auto

theorem State.retireTile_keeps {M : Nat} {z s : State} {t reason : Nat} (hz : Keeps M z s) (hM : 0xf202100038400602
    ||| M = M) :
    Keeps M z (State.retireTile s t reason) := by
  unfold State.retireTile
  try dsimp only
  with_reducible repeat' first
    | assumption | apply State.retire_keeps | apply State.tileMoved_keeps | apply Keeps.ite | split
  all_goals first
    | exact sub_mask rfl hM | exact InMask.auto

theorem State.tileThreshold_keeps {M : Nat} {z s : State} {t : Nat} (hz : Keeps M z s) (hM : 0xf202100038400602 |||
    M = M) :
    Keeps M z (State.tileThreshold s t) := by
  unfold State.tileThreshold
  try dsimp only
  with_reducible repeat' first
    | assumption | apply State.retireTile_keeps | apply Keeps.ite | split
  all_goals first
    | exact sub_mask rfl hM | exact InMask.auto

theorem State.t1Dispatch_keeps {M : Nat} {z s : State} {f : Frame} (hz : Keeps M z s) (hM : 0x60000000 ||| M = M) :
    ∀ {o}, State.t1Dispatch s f = some o → Keeps M z o := by
  intro o e
  unfold State.t1Dispatch at e
  try dsimp only at e
  repeat' split at e
  all_goals first | injection e with e; subst e | cases e
  all_goals with_reducible repeat' first
    | assumption | apply State.directWrite_keeps | apply Keeps.ite | split | apply Keeps.set_batches
  all_goals exact sub_mask rfl hM

theorem State.triggerMode_keeps {M : Nat} {z s : State} {t mode : Nat} {batch : Option Nat} (hz : Keeps M z s) (hM :
    0x6000000010000002 ||| M = M) :
    Keeps M z (State.triggerMode s t mode batch) := by
  unfold State.triggerMode
  try dsimp only
  with_reducible repeat' first
    | assumption | apply State.trigger_keeps | apply Keeps.ite | (apply Keeps.foldl; intro _ _ _)
  all_goals exact sub_mask rfl hM

theorem State.tier1Score_keeps {M : Nat} {z s : State} {batch : Word} {r : ScoreRec} {poisoned : Bool} (hz : Keeps M
    z s) (hM : 0x8202000020400602 ||| M = M) :
    Keeps M z (State.tier1Score s batch r poisoned) := by
  unfold State.tier1Score
  try dsimp only
  with_reducible repeat' first
    | assumption | apply State.raiseIrq_keeps | apply State.incFld_keeps | apply State.scoreRecord_keeps
    | apply Keeps.ite | split | apply Keeps.set_batches
  all_goals first
    | exact sub_mask rfl hM | exact InMask.auto

theorem State.lwlMap_keeps {M : Nat} {z s : State} {f : Lwl → Lwl} (hz : Keeps M z s) (hM : 0x200000000 ||| M = M) :
    Keeps M z (State.lwlMap s f) := by
  unfold State.lwlMap
  try dsimp only
  with_reducible repeat' first
    | assumption | apply Keeps.ite | split | apply Keeps.set_lwl
  all_goals exact sub_mask rfl hM

theorem State.setLw_keeps {M : Nat} {z s : State} {v : Nat} (hz : Keeps M z s) (hM : 0x20000000000002 ||| M = M) :
    Keeps M z (State.setLw s v) := by
  unfold State.setLw
  try dsimp only
  with_reducible repeat' first
    | assumption | apply State.setFld_keeps
  all_goals first
    | exact sub_mask rfl hM | exact InMask.auto

theorem State.answer_keeps {M : Nat} {z s : State} {n status : Nat} {bytes : List Nat} (hz : Keeps M z s) (hM :
    0x100002000001008202 ||| M = M) :
    Keeps M z (State.answer s n status bytes) := by
  unfold State.answer
  try dsimp only
  with_reducible repeat' first
    | assumption | apply State.rykPump_keeps | apply State.send_keeps | apply State.rykMap_keeps | apply Keeps.ite
    | split
  all_goals exact sub_mask rfl hM

theorem State.lwVoid_keeps {M : Nat} {z s : State} {w : RingSlot} {late : Bool} (hz : Keeps M z s) (hM :
    0x108202000001408602 ||| M = M) :
    Keeps M z (State.lwVoid s w late) := by
  unfold State.lwVoid
  try dsimp only
  with_reducible repeat' first
    | assumption | apply State.incFld_keeps | apply State.answer_keeps | apply State.scoreRecord_keeps
    | apply Keeps.ite | split
  all_goals first
    | exact sub_mask rfl hM | exact InMask.auto

theorem State.voidRing_keeps {M : Nat} {z s : State} (hz : Keeps M z s) (hM : 0x108202000201408602 ||| M = M) :
    Keeps M z (State.voidRing s) := by
  unfold State.voidRing
  try dsimp only
  with_reducible repeat' first
    | assumption | apply State.lwVoid_keeps | apply State.lwlMap_keeps | apply Keeps.ite
    | (apply Keeps.foldl; intro _ _ _) | split
  all_goals exact sub_mask rfl hM

theorem State.coreLeaves_keeps {M : Nat} {z s : State} (hz : Keeps M z s) (hM : 0x108222000201408602 ||| M = M) :
    Keeps M z (State.coreLeaves s) := by
  unfold State.coreLeaves
  try dsimp only
  with_reducible repeat' first
    | assumption | apply State.lwlMap_keeps | apply State.setLw_keeps | apply State.voidRing_keeps | apply Keeps.ite
    | split
  all_goals exact sub_mask rfl hM

theorem State.coreEnters_keeps {M : Nat} {z s : State} (hz : Keeps M z s) (hM : 0x20000200000002 ||| M = M) :
    Keeps M z (State.coreEnters s) := by
  unfold State.coreEnters
  try dsimp only
  with_reducible repeat' first
    | assumption | apply State.lwlMap_keeps | apply State.setLw_keeps | apply Keeps.ite | split
  all_goals first
    | exact sub_mask rfl hM | exact InMask.auto

theorem State.usableItems_keeps {M : Nat} {z s : State}  (hz : Keeps M z s) (hM : 0x22100200000202 ||| M = M) :
    Keeps M z s.usableItems := by
  unfold State.usableItems
  dsimp only
  refine State.lwlMap_keeps (Keeps.foldl_mem _ (fun a p hp ha => ?_) (Keeps.foldl _ (fun a k ha => ?_) hz)) (sub_mask rfl hM)
  · refine State.setSubRetired_keeps ha (sub_mask rfl hM) ?_
    obtain ⟨k, -, rfl⟩ := List.mem_map.mp hp
    repeat' split
    all_goals exact InMask.auto
  · repeat' split
    all_goals first | exact ha | exact State.setFld_keeps ha (sub_mask rfl hM)

theorem State.takeBank_keeps {M : Nat} {z s : State} {b : Nat} (hz : Keeps M z s) (hM : 0x20000200000002 ||| M = M)
    :
    Keeps M z (State.takeBank s b) := by
  unfold State.takeBank
  try dsimp only
  with_reducible repeat' first
    | assumption | apply State.setFld_keeps | apply State.lwlMap_keeps | apply State.setLw_keeps
    | apply Keeps.ite | split
  all_goals first
    | exact sub_mask rfl hM | exact InMask.auto

theorem State.meshWrite_keeps {M : Nat} {z s : State} {port t addr k : Nat} {b : List Nat} (hz : Keeps M z s) (hM : 0x9022000018000202 ||| M = M) :
    Keeps M z (s.meshWrite port t addr k b) := by
  induction k generalizing s addr b with
  | zero => exact hz
  | succ k ih =>
    unfold State.meshWrite
    dsimp only
    split
    · exact hz
    · exact ih (State.incFld_keeps (State.inject_keeps hz (sub_mask rfl hM)) (sub_mask rfl hM))

theorem State.writeEpoch_keeps {M : Nat} {z s : State} {e : Epoch} {t : Nat} (hz : Keeps M z s) (hM :
    0x9022000018000202 ||| M = M) :
    Keeps M z (State.writeEpoch s e t) := by
  unfold State.writeEpoch
  try dsimp only
  with_reducible repeat' first
    | assumption | apply State.meshWrite_keeps | apply Keeps.ite | split
  all_goals exact sub_mask rfl hM

theorem State.rewriteStale_keeps {M : Nat} {z s : State} {t : Nat} (hz : Keeps M z s) (hM : 0x9022000218000202 ||| M
    = M) :
    Keeps M z (State.rewriteStale s t) := by
  unfold State.rewriteStale
  try dsimp only
  with_reducible repeat' first
    | assumption | apply State.lwlMap_keeps | apply State.writeEpoch_keeps | apply Keeps.ite
    | (apply Keeps.foldl; intro _ _ _) | split
  all_goals exact sub_mask rfl hM

theorem State.xtCommit_keeps {M : Nat} {z s : State} (hz : Keeps M z s) (hM : 0x200000000 ||| M = M) :
    Keeps M z (State.xtCommit s) := by
  unfold State.xtCommit
  try dsimp only
  with_reducible repeat' first
    | assumption | apply State.lwlMap_keeps | apply Keeps.ite | (apply Keeps.foldl; intro _ _ _) | split
  all_goals exact sub_mask rfl hM

theorem State.lwlBoundary_keeps {M : Nat} {z s : State} (hz : Keeps M z s) (hM : 0x902210021c000202 ||| M = M) :
    Keeps M z (State.lwlBoundary s) := by
  unfold State.lwlBoundary
  try dsimp only
  with_reducible repeat' first
    | assumption | apply State.raiseIrq_keeps | apply State.lwlMap_keeps | apply State.setLw_keeps
    | apply State.usableItems_keeps | apply State.takeBank_keeps | apply State.rewriteStale_keeps
    | apply State.xtCommit_keeps | apply Keeps.ite | (apply Keeps.foldl; intro _ _ _) | split
    | apply Keeps.set_energy
  all_goals first
    | exact sub_mask rfl hM | exact InMask.auto

theorem State.lwStep_keeps {M : Nat} {z s : State} (hz : Keeps M z s) (hM : 0x20000000000002 ||| M = M) :
    Keeps M z (State.lwStep s) := by
  unfold State.lwStep
  try dsimp only
  with_reducible repeat' first
    | assumption | apply State.setFld_keeps | apply Keeps.ite
  all_goals first
    | exact sub_mask rfl hM | exact InMask.auto

theorem State.setLwWord_keeps {M : Nat} {z s : State} {a : Nat} {v : Word} (hz : Keeps M z s) (hM : 0x200000000 ||| M = M) :
    Keeps M z (State.setLwWord s a v) := by
  unfold State.setLwWord
  try dsimp only
  with_reducible repeat' first
    | assumption | apply State.lwlMap_keeps | apply Keeps.ite | split
  all_goals exact sub_mask rfl hM

theorem State.lwTableWrite_keeps {M : Nat} {z s : State} {v : Word} {size : Nat} (hz : Keeps M z s) (hM :
    0x22100200000202 ||| M = M) :
    Keeps M z (State.lwTableWrite s v size) := by
  unfold State.lwTableWrite
  try dsimp only
  with_reducible repeat' first
    | assumption | apply State.recordFault_keeps | apply State.lwStep_keeps | apply State.setLwWord_keeps
    | apply State.lwlMap_keeps | apply Keeps.ite | split
  all_goals first
    | exact sub_mask rfl hM | exact InMask.auto | exact .full .auto

theorem State.reinstateItem_keeps {M : Nat} {z s : State} {it : LwlItem} (hz : Keeps M z s) (hM : 0x20000200000002
    ||| M = M) :
    Keeps M z (State.reinstateItem s it) := by
  unfold State.reinstateItem
  try dsimp only
  with_reducible repeat' first
    | assumption | apply State.setFld_keeps | apply State.lwlMap_keeps | apply Keeps.ite | split
  all_goals first
    | exact sub_mask rfl hM | exact InMask.auto

theorem State.degrade_keeps {M : Nat} {z s : State} (hz : Keeps M z s) (hM : 0x108222000201408602 ||| M = M) :
    Keeps M z (State.degrade s) := by
  unfold State.degrade
  try dsimp only
  with_reducible repeat' first
    | assumption | apply State.lwlMap_keeps | apply State.raiseIrq_keeps | apply State.incFld_keeps
    | apply State.setLw_keeps | apply State.lwVoid_keeps | apply Keeps.ite | split
  all_goals first
    | exact sub_mask rfl hM | exact InMask.auto

theorem State.retireChannel_keeps {M : Nat} {z s : State} {c : Nat} {output : Bool} {reason : Nat} (hz : Keeps M z
    s) (hM : 0x108222100201408602 ||| M = M) :
    Keeps M z (State.retireChannel s c output reason) := by
  unfold State.retireChannel
  try dsimp only
  with_reducible repeat' first
    | assumption | apply State.setFld_keeps | apply State.setSubRetired_keeps | apply State.raiseIrq_keeps
    | apply State.degrade_keeps | apply Keeps.ite | split
  all_goals first
    | exact sub_mask rfl hM | exact InMask.auto

theorem State.retireCell_keeps {M : Nat} {z s : State} {n reason : Nat} (hz : Keeps M z s) (hM :
    0x108222100201408602 ||| M = M) :
    Keeps M z (State.retireCell s n reason) := by
  unfold State.retireCell
  try dsimp only
  with_reducible repeat' first
    | assumption | apply State.setSubRetired_keeps | apply State.setFld_keeps | apply State.raiseIrq_keeps
    | apply State.degrade_keeps | apply Keeps.ite | split
  all_goals first
    | exact sub_mask rfl hM | exact InMask.auto

theorem State.lwTableRead_keeps {M : Nat} {z s : State} (hz : Keeps M z s) (hM : 0x20000000000102 ||| M = M) :
    Keeps M z (State.lwTableRead s) := by
  unfold State.lwTableRead
  try dsimp only
  with_reducible repeat' first
    | assumption | apply State.lwStep_keeps | apply Keeps.ite | split | apply Keeps.set_rdata
  all_goals exact sub_mask rfl hM

theorem State.coreTested_keeps {M : Nat} {z s : State} (hz : Keeps M z s) (hM : 0x20000200000402 ||| M = M) :
    Keeps M z (State.coreTested s) := by
  unfold State.coreTested
  try dsimp only
  with_reducible repeat' first
    | assumption | apply State.lwlMap_keeps | apply State.setLw_keeps | apply Keeps.ite | split
    | apply Keeps.set_draws
  all_goals first
    | exact sub_mask rfl hM | exact InMask.auto

theorem State.cellEvent_keeps {M : Nat} {z s : State} {h : Nat} (hz : Keeps M z s) (hM : 0x108222100201408602 ||| M = M) :
    Keeps M z (State.cellEvent s h) := by
  unfold State.cellEvent
  try dsimp only
  with_reducible repeat' first
    | assumption | apply State.transient_keeps | apply State.retireCell_keeps | apply Keeps.ite | split
  all_goals first
    | exact sub_mask rfl hM | exact InMask.auto

theorem State.heaterClamp_keeps {M : Nat} {z s : State} {h : Nat} (hz : Keeps M z s) (hM : 0x108222100201408602 |||
    M = M) :
    Keeps M z (State.heaterClamp s h) := by
  unfold State.heaterClamp
  try dsimp only
  with_reducible repeat' first
    | assumption | apply State.raiseIrq_keeps | apply State.incFld_keeps | apply State.cellEvent_keeps
    | apply State.transient_keeps | apply State.retireCell_keeps | apply Keeps.ite | split
  all_goals first
    | exact sub_mask rfl hM | exact InMask.auto

theorem State.meshDrives_keeps {M : Nat} {z s : State} (hz : Keeps M z s) (hM : 0x108222100201408602 ||| M = M) :
    Keeps M z (State.meshDrives s) := by
  unfold State.meshDrives
  try dsimp only
  with_reducible repeat' first
    | assumption | apply State.raiseIrq_keeps | apply State.incFld_keeps | apply State.lwlMap_keeps
    | apply State.heaterClamp_keeps | apply Keeps.ite | (apply Keeps.foldl; intro _ _ _) | split
  all_goals first
    | exact sub_mask rfl hM | exact InMask.auto

theorem State.toRing_keeps {M : Nat} {z s : State} {inst port pseq deadline : Nat} {lite remote : Bool} {w : Window}
    (hz : Keeps M z s) (hM : 0x240000000 ||| M = M) :
    ∀ {o}, State.toRing s inst port pseq deadline lite remote w = some o → Keeps M z o := by
  intro o e
  unfold State.toRing at e
  try dsimp only at e
  repeat' split at e
  all_goals first | injection e with e; subst e | cases e
  all_goals with_reducible repeat' first
    | assumption | apply State.directWrite_keeps | apply State.lwlMap_keeps | apply Keeps.ite | split
  all_goals exact sub_mask rfl hM

theorem State.sendBlock_keeps {M : Nat} {z s : State} {w : RingSlot} {t : Nat} {block : List Nat} (hz : Keeps M z s)
    (hM : 0x9022000218000202 ||| M = M) :
    Keeps M z (State.sendBlock s w t block) := by
  unfold State.sendBlock
  try dsimp only
  with_reducible repeat' first
    | assumption | apply State.incFld_keeps | apply State.lwlMap_keeps | apply State.meshWrite_keeps
    | apply Keeps.ite | split
  all_goals first
    | exact sub_mask rfl hM | exact InMask.auto

theorem State.cycleDone_keeps {M : Nat} {z s : State} {gains : List Nat} (hz : Keeps M z s) (hM : 0x20000200000002
    ||| M = M) :
    Keeps M z (State.cycleDone s gains) := by
  unfold State.cycleDone
  try dsimp only
  with_reducible repeat' first
    | assumption | apply State.setFld_keeps | apply State.lwlMap_keeps | apply Keeps.ite | split
  all_goals first
    | exact sub_mask rfl hM | exact InMask.auto

theorem State.judgeOffsets_keeps {M : Nat} {z s : State} {os : List Nat} (hz : Keeps M z s) (hM : 0x108222100201408602 ||| M = M) :
    Keeps M z (State.judgeOffsets s os) := by
  unfold State.judgeOffsets
  try dsimp only
  with_reducible repeat' first
    | assumption | apply State.retireChannel_keeps | apply Keeps.ite | (apply Keeps.foldl; intro _ _ _) | split
  all_goals first
    | exact sub_mask rfl hM | exact InMask.auto

theorem State.calStep_keeps {M : Nat} {z s : State} {m : CalMeasure} (hz : Keeps M z s) (hM : 0x108222100201408602
    ||| M = M) :
    Keeps M z (State.calStep s m) := by
  unfold State.calStep
  try dsimp only
  with_reducible repeat' first
    | assumption | apply State.setFld_keeps | apply State.raiseIrq_keeps | apply State.incFld_keeps
    | apply State.transient_keeps | apply State.lwlMap_keeps | apply State.degrade_keeps
    | apply State.cycleDone_keeps | apply State.judgeOffsets_keeps | apply Keeps.ite
    | (apply Keeps.foldl; intro _ _ _) | split
  all_goals first
    | exact sub_mask rfl hM | exact InMask.auto

theorem State.epochInForce_keeps {M : Nat} {z s : State} {e : Epoch} (hz : Keeps M z s) (hM : 0x22000200000202 ||| M
    = M) :
    Keeps M z (State.epochInForce s e) := by
  unfold State.epochInForce
  try dsimp only
  with_reducible repeat' first
    | assumption | apply State.lwlMap_keeps | apply State.raiseIrq_keeps | apply State.incFld_keeps
    | apply State.setFld_keeps | apply Keeps.ite | (apply Keeps.foldl; intro _ _ _) | split
  all_goals first
    | exact sub_mask rfl hM | exact InMask.auto

theorem State.epochSettles_keeps {M : Nat} {z s : State} {t : Nat} (hz : Keeps M z s) (hM : 0x22000200000202 ||| M =
    M) :
    Keeps M z (State.epochSettles s t) := by
  unfold State.epochSettles
  try dsimp only
  with_reducible repeat' first
    | assumption | apply State.epochInForce_keeps | apply State.lwlMap_keeps | apply Keeps.ite | split
  all_goals exact sub_mask rfl hM

theorem State.takeMaster_keeps {M : Nat} {z s : State} (hz : Keeps M z s) (hM : 0x20000200000002 ||| M = M) :
    Keeps M z (State.takeMaster s) := by
  unfold State.takeMaster
  try dsimp only
  with_reducible repeat' first
    | assumption | apply State.setFld_keeps | apply State.lwlMap_keeps | apply Keeps.ite | split
  all_goals first
    | exact sub_mask rfl hM | exact InMask.auto

theorem State.retireLaser_keeps {M : Nat} {z s : State} {l reason : Nat} (hz : Keeps M z s) (hM :
    0x108222100201408602 ||| M = M) :
    Keeps M z (State.retireLaser s l reason) := by
  unfold State.retireLaser
  try dsimp only
  with_reducible repeat' first
    | assumption | apply State.raiseIrq_keeps | apply State.setUnit_keeps | apply State.retireChannel_keeps
    | apply State.takeMaster_keeps | apply State.lwlMap_keeps | apply State.setFld_keeps | apply Keeps.ite
    | (apply Keeps.foldl; intro _ _ _) | split
  all_goals first
    | exact sub_mask rfl hM | exact InMask.auto

theorem State.putCellIndex_keeps {M : Nat} {z s : State} {it : LwlItem} (hz : Keeps M z s) (hM : 0x20000000000002 ||| M = M) :
    Keeps M z (s.putCellIndex it) := by
  cases it
  · exact hz
  · exact hz
  · exact State.setFld_keeps hz (sub_mask rfl hM)

theorem State.rspBytes_keeps {M : Nat} {z s : State} {n : Nat} {b : List Nat} (hz : Keeps M z s) (hM : 0x200000000002 ||| M = M) :
    Keeps M z (s.rspBytes n b) := by
  induction n generalizing s b with
  | zero => exact hz
  | succ n ih =>
    unfold State.rspBytes
    dsimp only
    split
    · exact hz
    · exact ih (State.setFld_keeps hz (sub_mask rfl hM))

theorem State.secAnswer_keeps {M : Nat} {z s : State} {who opcode : Nat} {status : Nat} {approved : Bool} {res :
    List Nat} (hz : Keeps M z s) (hM : 0x2200000000202 ||| M = M) :
    Keeps M z (State.secAnswer s who opcode status approved res) := by
  unfold State.secAnswer
  try dsimp only
  with_reducible repeat' first
    | assumption | apply State.incFld_keeps | apply State.setFld_keeps | apply State.rspBytes_keeps
    | apply State.raiseIrq_keeps | apply State.emit_keeps | apply Keeps.ite | split
  all_goals first
    | exact sub_mask rfl hM | exact InMask.auto

theorem State.testBit_keeps {M : Nat} {z s : State} {k : Nat} {pass : Bool} (hz : Keeps M z s) (hM : 0x200000000002
    ||| M = M) :
    Keeps M z (State.testBit s k pass) := by
  unfold State.testBit
  try dsimp only
  with_reducible repeat' first
    | assumption | apply State.setFld_keeps
  all_goals first
    | exact sub_mask rfl hM | exact InMask.auto

theorem State.secMap_keeps {M : Nat} {z s : State} {f : Sec → Sec} (hz : Keeps M z s) (hM : 0x400000000 ||| M = M) :
    Keeps M z (State.secMap s f) := by
  unfold State.secMap
  try dsimp only
  with_reducible repeat' first
    | assumption | apply Keeps.ite | split | apply Keeps.set_sec
  all_goals exact sub_mask rfl hM

theorem State.closeImage_keeps {M : Nat} {z s : State} {w : Nat} (hz : Keeps M z s) (hM : 0x400000000 ||| M = M) :
    Keeps M z (State.closeImage s w) := by
  unfold State.closeImage
  try dsimp only
  with_reducible repeat' first
    | assumption | apply State.secMap_keeps
  all_goals exact sub_mask rfl hM

theorem State.syncApproved_keeps {M : Nat} {z s : State} (hz : Keeps M z s) (hM : 0x2200000000202 ||| M = M) :
    Keeps M z (State.syncApproved s) := by
  unfold State.syncApproved
  try dsimp only
  with_reducible repeat' first
    | assumption | apply State.setFld_keeps | apply State.raiseIrq_keeps | apply Keeps.ite | split
  all_goals first
    | exact sub_mask rfl hM | exact InMask.auto

theorem State.setMstate_keeps {M : Nat} {z s : State} {v : Nat} (hz : Keeps M z s) (hM : 0x2200000000202 ||| M = M)
    :
    Keeps M z (State.setMstate s v) := by
  unfold State.setMstate
  try dsimp only
  with_reducible repeat' first
    | assumption | apply State.syncApproved_keeps | apply State.raiseIrq_keeps | apply State.setFld_keeps
    | apply Keeps.ite | split
  all_goals first
    | exact sub_mask rfl hM | exact InMask.auto

theorem State.endSessions_keeps {M : Nat} {z s : State} (hz : Keeps M z s) (hM : 0x200400000002 ||| M = M) :
    Keeps M z (State.endSessions s) := by
  unfold State.endSessions
  try dsimp only
  with_reducible repeat' first
    | assumption | apply State.setFld_keeps | apply State.secMap_keeps | apply Keeps.ite | split
  all_goals first
    | exact sub_mask rfl hM | exact InMask.auto

theorem State.startTests_keeps {M : Nat} {z s : State} {by' : Option (Nat × Nat)} (hz : Keeps M z s) (hM :
    0x2200400000202 ||| M = M) :
    Keeps M z (State.startTests s by') := by
  unfold State.startTests
  try dsimp only
  with_reducible repeat' first
    | assumption | apply State.secMap_keeps | apply State.setMstate_keeps | apply State.endSessions_keeps
    | apply Keeps.ite | split
  all_goals first
    | exact sub_mask rfl hM | exact InMask.auto

theorem State.openChunk_keeps {M : Nat} {z s : State} {w : Nat} {b : List Nat} (hz : Keeps M z s) (hM : 0x400000000
    ||| M = M) :
    Keeps M z (State.openChunk s w b).1 := by
  unfold State.openChunk
  try dsimp only
  with_reducible repeat' first
    | assumption | apply State.closeImage_keeps | apply State.secMap_keeps | apply Keeps.ite | split
  all_goals exact sub_mask rfl hM

theorem State.checkTag_keeps {M : Nat} {z s : State} {w : Nat} {tag : List Nat} (hz : Keeps M z s) (hM : 0x400000000
    ||| M = M) :
    Keeps M z (State.checkTag s w tag).1 := by
  unfold State.checkTag
  try dsimp only
  with_reducible repeat' first
    | assumption | apply State.closeImage_keeps | apply Keeps.ite | split
  all_goals exact sub_mask rfl hM

theorem State.endTest_keeps {M : Nat} {z s : State} {status : Nat} (hz : Keeps M z s) (hM : 0x2200400000202 ||| M =
    M) :
    Keeps M z (State.endTest s status) := by
  unfold State.endTest
  try dsimp only
  with_reducible repeat' first
    | assumption | apply State.secAnswer_keeps | apply State.secMap_keeps | apply Keeps.ite | split
  all_goals exact sub_mask rfl hM

theorem State.setDebug_keeps {M : Nat} {z s : State} {n : Nat} (hz : Keeps M z s) (hM : 0x2200400000202 ||| M = M) :
    Keeps M z (State.setDebug s n) := by
  unfold State.setDebug
  try dsimp only
  with_reducible repeat' first
    | assumption | apply State.setFld_keeps | apply State.syncApproved_keeps | apply State.secMap_keeps
    | apply State.raiseIrq_keeps | apply Keeps.ite | split
  all_goals first
    | exact sub_mask rfl hM | exact InMask.auto

theorem State.syncStk_keeps {M : Nat} {z s : State} (hz : Keeps M z s) (hM : 0x200000000002 ||| M = M) :
    Keeps M z (State.syncStk s) := by
  unfold State.syncStk
  try dsimp only
  with_reducible repeat' first
    | assumption | apply State.setFld_keeps
  all_goals first
    | exact sub_mask rfl hM | exact InMask.auto

theorem State.secFail_keeps {M : Nat} {z s : State} {v code : Nat} (hz : Keeps M z s) (hM : 0x8220040020020e ||| M =
    M) :
    Keeps M z (State.secFail s v code) := by
  unfold State.secFail
  try dsimp only
  with_reducible repeat' first
    | assumption | apply State.setFld_keeps | apply State.setMstate_keeps | apply State.secMap_keeps
    | apply State.endTest_keeps | apply State.zeroizeKeys_keeps | apply State.setDebug_keeps
    | apply State.endSessions_keeps | apply State.syncStk_keeps | apply Keeps.ite | split
  all_goals first
    | exact sub_mask rfl hM | exact InMask.auto

/-- A zeroization of the SAKs leaves the security island's own state as it is. -/
theorem State.zeroizeKeys_sec (s : State) : s.zeroizeKeys.sec = s.sec :=
  (State.zeroizeKeys_keeps (.refl _ s) (Nat.or_self _)).sec rfl

/-- A change of MSTATE leaves the security island's own state as it is. -/
theorem State.setMstate_sec (s : State) (v : Nat) : (s.setMstate v).sec = s.sec :=
  (State.setMstate_keeps (.refl _ s) (Nat.or_self _)).sec rfl

/-- Debug level 0 leaves the security island's own state as it is. -/
theorem State.setDebug_zero_sec (s : State) : (s.setDebug 0).sec = s.sec := by
  have hr (t : State) : (t.raiseIrq (Pg.sec 0) 4).sec = t.sec :=
    (State.raiseIrq_keeps (M := 0x2200000000202) (.refl _ t) rfl (.sec rfl)).sec rfl
  have hf (t : State) (p : Nat) (f : Fld) (x : Nat) : (t.setFld p f x).sec = t.sec := rfl
  simp only [State.setDebug, OfNat.zero_ne_ofNat, if_false]
  split <;> simp only [hr, hf]

/-- Entry to ERROR or CRITICAL with no service that waits for the tests leaves the requests held as they are (R784, R785). -/
theorem State.secFail_held (s : State) (v code : Nat) (h : s.sec.testFor = none) :
    (s.secFail v code).sec.held = s.sec.held := by
  obtain ⟨u, hu, hv⟩ : ∃ u : State, u.sec = s.sec ∧ s.secFail v code = ((((((u.setFld (Pg.sec 0) F.SEC_STATUS_ERR_CODE
      code).secMap (fun x => { x with stks := [], sections := [] })).syncStk).endSessions).setDebug 0).zeroizeKeys).endTest
      SS.notOperational := ⟨s.setMstate v, State.setMstate_sec s v, rfl⟩
  obtain ⟨w, hw, hx⟩ : ∃ w : State, w.sec = { u.sec with stks := [], sections := [], sessions := [] } ∧
      s.secFail v code = (((w.setDebug 0).zeroizeKeys).endTest SS.notOperational) := ⟨_, rfl, hv⟩
  obtain ⟨y, hy, hz⟩ : ∃ y : State, y.sec = w.sec ∧ s.secFail v code = y.endTest SS.notOperational :=
    ⟨_, (State.zeroizeKeys_sec _).trans (State.setDebug_zero_sec w), hx⟩
  have ht : y.sec.testFor = none := by rw [hy, hw, hu, h]
  rw [hz, State.endTest, ht, hy, hw, hu]

theorem State.syncNonce_keeps {M : Nat} {z s : State} (hz : Keeps M z s) (hM : 0x200000000002 ||| M = M) :
    Keeps M z (State.syncNonce s) := by
  unfold State.syncNonce
  try dsimp only
  with_reducible repeat' first
    | assumption | apply State.setFld_keeps | apply Keeps.ite
  all_goals first
    | exact sub_mask rfl hM | exact InMask.auto

theorem State.zeroizeCsps_keeps {M : Nat} {z s : State} (hz : Keeps M z s) (hM : 0x8220040020020e ||| M = M) :
    Keeps M z (State.zeroizeCsps s) := by
  unfold State.zeroizeCsps
  try dsimp only
  with_reducible repeat' first
    | assumption | apply State.secMap_keeps | apply State.setDebug_keeps | apply State.endSessions_keeps
    | apply State.syncNonce_keeps | apply State.syncStk_keeps | apply State.raiseIrq_keeps | apply State.incFld_keeps
    | apply State.zeroizeKeys_keeps | apply Keeps.ite | split
  all_goals first
    | exact sub_mask rfl hM | exact InMask.auto

theorem State.zeroize_keeps {M : Nat} {z s : State} (hz : Keeps M z s) (hM : 0x8220040020020e ||| M = M) :
    Keeps M z (State.zeroize s) := by
  unfold State.zeroize
  try dsimp only
  with_reducible repeat' first
    | assumption | apply State.endTest_keeps | apply State.setMstate_keeps | apply State.zeroizeCsps_keeps
    | apply Keeps.ite | split
  all_goals exact sub_mask rfl hM

theorem State.drbgBytes_keeps {M : Nat} {z s : State} {n : Nat} (hz : Keeps M z s) (hM : 0x200000000402 ||| M = M) :
    Keeps M z (State.drbgBytes s n).2 := by
  unfold State.drbgBytes
  try dsimp only
  with_reducible repeat' first
    | assumption | apply State.incFld_keeps | apply State.drawn_keeps | apply Keeps.ite | split
  all_goals first
    | exact sub_mask rfl hM | exact InMask.auto

theorem State.grantAuth_keeps {M : Nat} {z s : State} {w : Nat} {n : Nonce} (hz : Keeps M z s) (hM :
    0x8220040020020e ||| M = M) :
    Keeps M z (State.grantAuth s w n) := by
  unfold State.grantAuth
  try dsimp only
  with_reducible repeat' first
    | assumption | apply State.secMap_keeps | apply State.setFld_keeps | apply State.zeroizeCsps_keeps
    | apply State.setDebug_keeps | apply State.incFld_keeps | apply Keeps.ite | split
  all_goals first
    | exact sub_mask rfl hM | exact InMask.auto

theorem State.endSession_keeps {M : Nat} {z s : State} {w : Nat} (hz : Keeps M z s) (hM : 0x200400000002 ||| M = M)
    :
    Keeps M z (State.endSession s w) := by
  unfold State.endSession
  try dsimp only
  with_reducible repeat' first
    | assumption | apply State.secMap_keeps | apply State.setFld_keeps | apply Keeps.ite | split
  all_goals first
    | exact sub_mask rfl hM | exact InMask.auto

theorem State.loadSak_keeps {M : Nat} {z s : State} {q ctl n key salt tag : Nat} (hz : Keeps M z s) (hM :
    0x8000000020001e ||| M = M) :
    Keeps M z (State.loadSak s q ctl n key salt tag) := by
  unfold State.loadSak
  try dsimp only
  with_reducible repeat' first
    | assumption | apply State.setFld_keeps | apply State.noteLate_keeps | apply State.setSaFld_keeps
    | apply Keeps.ite | split | apply Keeps.set_saks
  all_goals first
    | exact sub_mask rfl hM | exact InMask.auto | exact .reg .auto

theorem State.sakLoad_keeps {M : Nat} {z s : State} {r : List Nat} {key : State → Except Nat Nat} (hz : Keeps M z s)
    (hM : 0x8020000020001e ||| M = M) :
    Keeps M z (State.sakLoad s r key).1 := by
  unfold State.sakLoad
  try dsimp only
  with_reducible repeat' first
    | assumption | apply State.incFld_keeps | apply State.loadSak_keeps | apply Keeps.ite | split
  all_goals first
    | exact sub_mask rfl hM | exact InMask.auto

theorem State.fuseRead_keeps {M : Nat} {z s : State} {ok : Bool} {revoke : State → State} (hz : Keeps M z s) (hM : 0x2200000000202 ||| M = M)
    (hr : ∀ t, Keeps M z t → Keeps M z (revoke t)) :
    Keeps M z (s.fuseRead ok revoke).1 := by
  unfold State.fuseRead
  split
  · exact State.testBit_keeps hz (sub_mask rfl hM)
  · exact State.raiseIrq_keeps (State.setFld_keeps (State.testBit_keeps (hr s hz) (sub_mask rfl hM)) (sub_mask rfl hM)) (sub_mask rfl hM)

theorem State.openImage_keeps {M : Nat} {z s : State} {w : Nat} {b : List Nat} (hz : Keeps M z s) (hM : 0x400000000
    ||| M = M) :
    Keeps M z (State.openImage s w b).1 := by
  unfold State.openImage
  try dsimp only
  with_reducible repeat' first
    | assumption | apply State.secMap_keeps | apply Keeps.ite | split
  all_goals exact sub_mask rfl hM

theorem State.serveOpen_keeps {M : Nat} {z t : State} {w : Nat} {r : List Nat} (hz : Keeps M z t) (hM : 0x400000000
    ||| M = M) :
    Keeps M z (State.serveOpen t w r).1 := by
  unfold State.serveOpen
  try dsimp only
  with_reducible repeat' first
    | assumption | apply State.openImage_keeps
  all_goals exact sub_mask rfl hM

end Sys2Proof.Machine
end

