-- ==== Sys2Proof/Laws/KeepsFirmware.lean ====
section
/-!
SUPPORT. What each operation keeps (loading, the firmware and the cluster): one law `X_keeps` for each operation `X`, with the mask of the
components of State that `X` may change.
-/

set_option Elab.async false

namespace Sys2Proof.Machine

open Sys2Proof

theorem State.loadMap_keeps {M : Nat} {z s : State} {f : Load → Load} (hz : Keeps M z s) (hM : 0x1000000000 ||| M =
    M) :
    Keeps M z (State.loadMap s f) := by
  unfold State.loadMap
  try dsimp only
  with_reducible repeat' first
    | assumption | apply Keeps.ite | split | apply Keeps.set_load
  all_goals exact sub_mask rfl hM

theorem State.setLoad_keeps {M : Nat} {z s : State} {v : Nat} (hz : Keeps M z s) (hM : 0x400000000002 ||| M = M) :
    Keeps M z (State.setLoad s v) := by
  unfold State.setLoad
  try dsimp only
  with_reducible repeat' first
    | assumption | apply State.setFld_keeps
  all_goals first
    | exact sub_mask rfl hM | exact InMask.auto

theorem State.loadDone_keeps {M : Nat} {z s : State} (hz : Keeps M z s) (hM : 0x2421000004602 ||| M = M) :
    Keeps M z (State.loadDone s) := by
  unfold State.loadDone
  try dsimp only
  with_reducible repeat' first
    | assumption | apply State.setFld_keeps | apply State.raiseIrq_keeps | apply State.loadMap_keeps
    | apply State.setLoad_keeps | apply State.clockM_keeps | apply State.stampBoot_keeps
    | apply State.milestone_keeps | apply Keeps.ite | split | apply Keeps.set_safe
  all_goals first
    | exact sub_mask rfl hM | exact InMask.auto

theorem State.sendGroups_keeps {M : Nat} {z s : State} {type hop stream : Nat} {payload : List Nat} (hz : Keeps M z
    s) (hM : 0x8200 ||| M = M) :
    Keeps M z (State.sendGroups s type hop stream payload) := by
  unfold State.sendGroups
  try dsimp only
  with_reducible repeat' first
    | assumption | apply State.emit_keeps | apply State.codeMap_keeps | apply Keeps.ite | split
  all_goals exact sub_mask rfl hM

theorem State.sendData_keeps {M : Nat} {z s : State} {tag stream n : Nat} {b : List Nat} (hz : Keeps M z s) (hM : 0x8200 ||| M = M) :
    Keeps M z (State.sendData tag stream n b s) := by
  induction n generalizing s b with
  | zero => exact hz
  | succ n ih =>
    unfold State.sendData
    split
    · exact hz
    · exact ih (State.sendGroups_keeps hz (sub_mask rfl hM))

theorem State.sendChain_keeps {M : Nat} {z s : State} (hz : Keeps M z s) (hM : 0x401000008202 ||| M = M) :
    Keeps M z (State.sendChain s) := by
  unfold State.sendChain
  try dsimp only
  with_reducible repeat' first
    | assumption | apply State.setFld_keeps | apply State.loadMap_keeps | apply State.sendData_keeps
    | apply State.sendGroups_keeps | apply State.emit_keeps | apply Keeps.ite | (apply Keeps.foldl; intro _ _ _)
    | split
  all_goals first
    | exact sub_mask rfl hM | exact InMask.auto

theorem State.leaveHold_keeps {M : Nat} {z s : State} (hz : Keeps M z s) (hM : 0x242100000c602 ||| M = M) :
    Keeps M z (State.leaveHold s) := by
  unfold State.leaveHold
  try dsimp only
  with_reducible repeat' first
    | assumption | apply State.setLoad_keeps | apply State.loadDone_keeps | apply State.sendChain_keeps
    | apply Keeps.ite | split
  all_goals exact sub_mask rfl hM

theorem State.reapply_keeps {M : Nat} {z s : State} {e : Nat × Nat × Nat} (hz : Keeps M z s) (hM :
    0x17ffffffe024140d602 ||| M = M) :
    Keeps M z (State.reapply s e) := by
  unfold State.reapply
  try dsimp only
  with_reducible repeat' first
    | assumption | apply State.setUnit_keeps | apply State.chRetire_keeps | apply State.retireRow_keeps
    | apply State.retireChannel_keeps | apply State.retireCell_keeps | apply Keeps.ite | split
  all_goals first
    | exact sub_mask rfl hM | exact InMask.auto

theorem State.reapplyRecord_keeps {M : Nat} {z s : State} (hz : Keeps M z s) (hM : 0x17ffffffe024140d602 ||| M = M)
    :
    Keeps M z (State.reapplyRecord s) := by
  unfold State.reapplyRecord
  try dsimp only
  with_reducible repeat' first
    | assumption | apply State.reapply_keeps | apply Keeps.ite | (apply Keeps.foldl; intro _ _ _) | split
  all_goals exact sub_mask rfl hM

theorem State.cfgContinue_keeps {M : Nat} {z s : State} (hz : Keeps M z s) (hM : 0x17ffffffe124140d602 ||| M = M) :
    Keeps M z (State.cfgContinue s) := by
  unfold State.cfgContinue
  try dsimp only
  with_reducible repeat' first
    | assumption | apply State.leaveHold_keeps | apply State.reapplyRecord_keeps | apply Keeps.ite | split
  all_goals exact sub_mask rfl hM

theorem State.partGo_keeps {M : Nat} {z s : State} (hz : Keeps M z s) (hM : 0x401000000002 ||| M = M) :
    Keeps M z (State.partGo s) := by
  unfold State.partGo
  try dsimp only
  with_reducible repeat' first
    | assumption | apply State.setFld_keeps | apply State.loadMap_keeps | apply Keeps.ite | split
  all_goals first
    | exact sub_mask rfl hM | exact InMask.auto

theorem State.loadFailed_keeps {M : Nat} {z s : State} {err idx : Nat} (hz : Keeps M z s) (hM : 0x2521000000202 |||
    M = M) :
    Keeps M z (State.loadFailed s err idx) := by
  unfold State.loadFailed
  try dsimp only
  with_reducible repeat' first
    | assumption | apply State.setFld_keeps | apply State.setLoad_keeps | apply State.setSState_keeps
    | apply State.loadMap_keeps | apply State.raiseIrq_keeps | apply Keeps.ite | split
  all_goals first
    | exact sub_mask rfl hM | exact InMask.auto

theorem State.chainBroken_keeps {M : Nat} {z s : State} (hz : Keeps M z s) (hM : 0x2521400000202 ||| M = M) :
    Keeps M z (State.chainBroken s) := by
  unfold State.chainBroken
  try dsimp only
  with_reducible repeat' first
    | assumption | apply State.loadFailed_keeps | apply State.closeImage_keeps | apply Keeps.ite | split
  all_goals exact sub_mask rfl hM

theorem State.takeSlot_keeps {M : Nat} {z s : State} {k ver : Nat} {l : List DirEntry} (hz : Keeps M z s) (hM :
    0x2421000004602 ||| M = M) :
    Keeps M z (State.takeSlot s k ver l) := by
  unfold State.takeSlot
  try dsimp only
  with_reducible repeat' first
    | assumption | apply State.setLoad_keeps | apply State.setFld_keeps | apply State.raiseIrq_keeps
    | apply State.loadMap_keeps | apply State.milestone_keeps | apply Keeps.ite | split
  all_goals first
    | exact sub_mask rfl hM | exact InMask.auto

theorem State.trySlots_keeps {M : Nat} {z s : State} {dir : Nat × Nat × Nat × Nat} {err idx : Nat} {l : List Nat} (hz : Keeps M z s) (hM : 0x2521000004602 ||| M = M) :
    Keeps M z (State.trySlots dir err idx l s) := by
  induction l generalizing s err idx with
  | nil => exact State.loadFailed_keeps hz (sub_mask rfl hM)
  | cons k rest ih =>
    unfold State.trySlots
    dsimp only
    have h1 := State.loadMap_keeps (f := fun x => { x with tried := k :: x.tried }) hz (sub_mask rfl hM)
    generalize (if k = 0 then dir.2.2.1 else dir.2.2.2) = st
    split
    · exact ih hz
    · split
      · exact ih h1
      · split
        · split
          · exact State.takeSlot_keeps h1 (sub_mask rfl hM)
          · exact ih h1
        · exact ih h1

theorem State.nextSlot_keeps {M : Nat} {z s : State} {err idx : Nat} (hz : Keeps M z s) (hM : 0x2521000004602 ||| M
    = M) :
    Keeps M z (State.nextSlot s err idx) := by
  unfold State.nextSlot
  try dsimp only
  with_reducible repeat' first
    | assumption | apply State.loadFailed_keeps | apply State.trySlots_keeps | apply Keeps.ite | split
  all_goals exact sub_mask rfl hM

theorem State.sectionFail_keeps {M : Nat} {z s : State} {err : Nat} (hz : Keeps M z s) (hM : 0x2521400004602 ||| M =
    M) :
    Keeps M z (State.sectionFail s err) := by
  unfold State.sectionFail
  try dsimp only
  with_reducible repeat' first
    | assumption | apply State.loadMap_keeps | apply State.incFld_keeps | apply State.closeImage_keeps
    | apply State.setFld_keeps | apply State.raiseIrq_keeps | apply State.nextSlot_keeps
    | apply State.loadFailed_keeps | apply Keeps.ite | split
  all_goals first
    | exact sub_mask rfl hM | exact InMask.auto

theorem State.setSect_keeps {M : Nat} {z s : State} {x : LoadSection} (hz : Keeps M z s) (hM : 0x1000000000 ||| M =
    M) :
    Keeps M z (State.setSect s x) := by
  unfold State.setSect
  try dsimp only
  with_reducible repeat' first
    | assumption | apply State.loadMap_keeps
  all_goals exact sub_mask rfl hM

theorem State.sectionDone_keeps {M : Nat} {z s : State} (hz : Keeps M z s) (hM : 0x242100000c602 ||| M = M) :
    Keeps M z (State.sectionDone s) := by
  unfold State.sectionDone
  try dsimp only
  with_reducible repeat' first
    | assumption | apply State.loadMap_keeps | apply State.incFld_keeps | apply State.loadDone_keeps
    | apply State.sendChain_keeps | apply State.setFld_keeps | apply State.raiseIrq_keeps | apply Keeps.ite | split
  all_goals first
    | exact sub_mask rfl hM | exact InMask.auto

theorem State.firmwareLoaded_keeps {M : Nat} {z s : State} {x : LoadSection} {fw : FwImage} (hz : Keeps M z s) (hM :
    0x352540000c602 ||| M = M) :
    Keeps M z (State.firmwareLoaded s x fw) := by
  unfold State.firmwareLoaded
  try dsimp only
  with_reducible repeat' first
    | assumption | apply State.milestone_keeps | apply State.cpcMap_keeps | apply State.setFw_keeps
    | apply State.startImage_keeps | apply State.clearHandoff_keeps | apply State.checkTag_keeps
    | apply State.loadMap_keeps | apply State.setLoad_keeps | apply State.sectionFail_keeps
    | apply State.setSect_keeps | apply State.sectionDone_keeps | apply Keeps.ite
    | refine Keeps.of_fst (by assumption) ?_ | split
  all_goals first
    | exact sub_mask rfl hM | exact InMask.auto

theorem State.diag_keeps {M : Nat} {z s : State} {x : LoadSection} {op : Nat} (hz : Keeps M z s) (hM :
    0x400000000002 ||| M = M) :
    Keeps M z (State.diag s x op) := by
  unfold State.diag
  try dsimp only
  with_reducible repeat' first
    | assumption | apply State.setFld_keeps
  all_goals first
    | exact sub_mask rfl hM | exact InMask.auto

theorem State.runCmd_keeps {M : Nat} {z s : State} {op : Nat} {f : State → LoadSection → List Nat → State} (hz : Keeps M z s) (hM : 0x2521400004602 ||| M = M)
    (hf : ∀ t x b, Keeps M z t → Keeps M z (f t x b)) :
    Keeps M z (State.runCmd op f s) := by
  unfold State.runCmd
  dsimp only
  with_reducible repeat' first
    | assumption | apply State.sectionFail_keeps | apply State.diag_keeps | apply State.setSect_keeps | apply hf | apply Keeps.ite | split
  all_goals first | exact sub_mask rfl hM | exact InMask.auto

theorem State.putFrame_keeps {M : Nat} {z s : State} {x : LoadSection} {far : Nat} {b : List Nat} (hz : Keeps M z s)
    (hM : 0x401000000002 ||| M = M) :
    Keeps M z (State.putFrame s x far b) := by
  unfold State.putFrame
  try dsimp only
  with_reducible repeat' first
    | assumption | apply State.incFld_keeps | apply State.loadMap_keeps | apply State.setSect_keeps
    | apply State.setFld_keeps | apply Keeps.ite | split
  all_goals first
    | exact sub_mask rfl hM | exact InMask.auto

theorem State.putFrames_keeps {M : Nat} {z s : State} {x : LoadSection} {n : Nat} {b : List Nat} (hz : Keeps M z s) (hM : 0x2521400004602 ||| M = M) :
    Keeps M z (State.putFrames x n b s) := by
  induction n generalizing s b with
  | zero => exact hz
  | succ n ih =>
    unfold State.putFrames
    dsimp only
    split
    · exact State.sectionFail_keeps (State.setFld_keeps hz (sub_mask rfl hM)) (sub_mask rfl hM)
    · have h1 := State.putFrame_keeps (x := x) (far := s.load.far) (b := b.take 516) hz (sub_mask rfl hM)
      split
      · exact State.sectionFail_keeps h1 (sub_mask rfl hM)
      · exact ih (State.loadMap_keeps h1 (sub_mask rfl hM))

theorem State.repeatFrame_keeps {M : Nat} {z s : State} {x : LoadSection} {frame : List Nat} {l : List Nat} (hz : Keeps M z s) (hM : 0x2521400004602 ||| M = M) :
    Keeps M z (State.repeatFrame x frame l s) := by
  induction l generalizing s with
  | nil => exact hz
  | cons far rest ih =>
    unfold State.repeatFrame
    split
    · exact State.sectionFail_keeps (State.setFld_keeps hz (sub_mask rfl hM)) (sub_mask rfl hM)
    · exact ih (State.incFld_keeps (State.putFrame_keeps hz (sub_mask rfl hM)) (sub_mask rfl hM))

theorem State.loadMem_keeps {M : Nat} {z s : State} {space node a : Nat} {b : List Nat} (hz : Keeps M z s) (hM :
    0x50800000 ||| M = M) :
    ∀ {o}, State.loadMem s space node a b = some o → Keeps M z o := by
  intro o e
  unfold State.loadMem at e
  try dsimp only at e
  repeat' split at e
  all_goals first | injection e with e; subst e | cases e
  all_goals with_reducible repeat' first
    | assumption | apply State.ddrWrite_keeps | apply State.directWrite_keeps | apply State.storeTile_keeps
    | apply Keeps.ite | split
  all_goals exact sub_mask rfl hM

theorem State.declareTap_keeps {M : Nat} {z s : State} {d : TapDecl} (hz : Keeps M z s) (hM : 0x1000000000000002 |||
    M = M) :
    Keeps M z (State.declareTap s d) := by
  unfold State.declareTap
  try dsimp only
  with_reducible repeat' first
    | assumption | apply State.setFld_keeps
  all_goals first
    | exact sub_mask rfl hM | exact InMask.auto

theorem State.applySection_keeps {M : Nat} {z s : State} {x : LoadSection} {decls : List TapDecl} {ureg : Bool} (hz
    : Keeps M z s) (hM : 0x17ffffffe300000021e ||| M = M) :
    Keeps M z (State.applySection s x decls ureg) := by
  unfold State.applySection
  try dsimp only
  with_reducible repeat' first
    | assumption | apply State.configured_keeps | apply State.loadMap_keeps | apply State.setFld_keeps
    | apply State.declareTap_keeps | apply Keeps.ite | (apply Keeps.foldl; intro _ _ _) | split
    | apply Keeps.set_fabric
  all_goals first
    | exact sub_mask rfl hM | exact InMask.auto

theorem State.chainConsume_keeps {M : Nat} {z s : State} {type : Nat} {payload : List Nat} (hz : Keeps M z s) (hM :
    0x2421400004602 ||| M = M) :
    Keeps M z (State.chainConsume s type payload) := by
  unfold State.chainConsume
  try dsimp only
  with_reducible repeat' first
    | assumption | apply State.milestone_keeps | apply State.setFld_keeps | apply State.setLoad_keeps
    | apply State.closeImage_keeps | apply State.loadMap_keeps | apply State.loadDone_keeps | apply Keeps.ite | split
  all_goals first
    | exact sub_mask rfl hM | exact InMask.auto

theorem State.memberTodo_keeps {M : Nat} {z s : State} (hz : Keeps M z s) (hM : 0x1000000000 ||| M = M) :
    Keeps M z (State.memberTodo s) := by
  unfold State.memberTodo
  try dsimp only
  with_reducible repeat' first
    | assumption | apply State.loadMap_keeps | apply Keeps.ite
  all_goals exact sub_mask rfl hM

theorem State.openNext_keeps {M : Nat} {z s : State} (hz : Keeps M z s) (hM : 0x2721400004602 ||| M = M) :
    Keeps M z (State.openNext s) := by
  unfold State.openNext
  try dsimp only
  with_reducible repeat' first
    | assumption | apply State.memberTodo_keeps | apply State.openImage_keeps | apply State.secAnswer_keeps
    | apply State.setSect_keeps | apply State.loadMap_keeps | apply State.sectionFail_keeps | apply Keeps.ite
    | refine Keeps.of_fst (by assumption) ?_ | split
  all_goals exact sub_mask rfl hM

theorem State.dutyDone_keeps {M : Nat} {z s : State} {i period : Nat} (hz : Keeps M z s) (hM : 0x1004000000002 ||| M
    = M) :
    Keeps M z (State.dutyDone s i period) := by
  unfold State.dutyDone
  try dsimp only
  with_reducible repeat' first
    | assumption | apply State.incFld_keeps | apply State.cpcMap_keeps | apply Keeps.ite | split
  all_goals first
    | exact sub_mask rfl hM | exact InMask.auto

theorem State.dutyDue_keeps {M : Nat} {z s : State} {i period : Nat} (hz : Keeps M z s) (hM : 0x1004000000002 ||| M
    = M) :
    ∀ {o}, State.dutyDue s i period = some o → Keeps M z o := by
  intro o e
  unfold State.dutyDue at e
  try dsimp only at e
  repeat' split at e
  all_goals first | injection e with e; subst e | cases e
  all_goals with_reducible repeat' first
    | assumption | apply State.dutyDone_keeps
  all_goals exact sub_mask rfl hM

theorem State.tellHost_keeps {M : Nat} {z s : State} {page b : Nat} (hz : Keeps M z s) (hM : 0x2000000000202 ||| M =
    M) (hp : InMask M page := by exact InMask.auto) :
    Keeps M z (State.tellHost s page b) := by
  unfold State.tellHost
  try dsimp only
  with_reducible repeat' first
    | assumption | apply State.raiseVector_keeps | apply State.raiseIrq_keeps
  all_goals first
    | exact sub_mask rfl hM | exact InMask.auto

theorem State.endColl_keeps {M : Nat} {z s : State} {k status : Nat} (hz : Keeps M z s) (hM : 0x3004000000202 ||| M
    = M) :
    Keeps M z (State.endColl s k status) := by
  unfold State.endColl
  try dsimp only
  with_reducible repeat' first
    | assumption | apply State.setFld_keeps | apply State.tellHost_keeps | apply State.cpcMap_keeps | apply Keeps.ite
    | split
  all_goals first
    | exact sub_mask rfl hM | exact InMask.auto

theorem State.logFree_keeps {M : Nat} {z s : State} (hz : Keeps M z s) (hM : 0x4000000400 ||| M = M) :
    Keeps M z (State.logFree s) := by
  unfold State.logFree
  try dsimp only
  with_reducible repeat' first
    | assumption | apply State.logEvent_keeps | apply State.drawn_keeps | apply Keeps.ite | split
  all_goals exact sub_mask rfl hM

theorem State.mbAnswer_keeps {M : Nat} {z s : State} {status : Nat} {res : List Nat} (hz : Keeps M z s) (hM :
    0x3000000000202 ||| M = M) :
    Keeps M z (State.mbAnswer s status res) := by
  unfold State.mbAnswer
  try dsimp only
  with_reducible repeat' first
    | assumption | apply State.setReg_keeps | apply State.setFld_keeps | apply State.tellHost_keeps | apply Keeps.ite
    | (apply Keeps.foldl; intro _ _ _) | split
  all_goals first
    | exact sub_mask rfl hM | exact InMask.auto | exact .reg .auto

theorem State.serve_keeps {M : Nat} {z s : State} {op : Nat} {feature : Option Nat} {any : Bool} {states : List Nat} {fields : List (Nat × Nat)} {work : List Nat → State → State × Nat × List Nat} (hz : Keeps M z s) (hM : 0x3000000000202 ||| M = M)
    (hw : ∀ r t, Keeps M z t → Keeps M z (work r t).1) :
    Keeps M z (s.serve op feature any states fields work) := by
  unfold State.serve
  dsimp only
  with_reducible repeat' first | assumption | apply State.mbAnswer_keeps | apply hw | apply Keeps.ite | split
  all_goals first | exact sub_mask rfl hM | exact InMask.auto

theorem State.kick_keeps {M : Nat} {z s : State} (hz : Keeps M z s) (hM : 0x1000000002002 ||| M = M) :
    Keeps M z (State.kick s) := by
  unfold State.kick
  try dsimp only
  with_reducible repeat' first
    | assumption | apply State.setFld_keeps | apply Keeps.ite | split | apply Keeps.set_pins
  all_goals first
    | exact sub_mask rfl hM | exact InMask.auto

theorem State.mbUnknown_keeps {M : Nat} {z s : State} (hz : Keeps M z s) (hM : 0x3000000000202 ||| M = M) :
    Keeps M z (State.mbUnknown s) := by
  unfold State.mbUnknown
  try dsimp only
  with_reducible repeat' first
    | assumption | apply State.mbAnswer_keeps | apply Keeps.ite
  all_goals exact sub_mask rfl hM

theorem State.mbGo_keeps {M : Nat} {z s : State} {seq : Nat} (hz : Keeps M z s) (hM : 0x3004000000202 ||| M = M) :
    Keeps M z (State.mbGo s seq) := by
  unfold State.mbGo
  try dsimp only
  with_reducible repeat' first
    | assumption | apply State.setFld_keeps | apply State.incFld_keeps | apply State.mbUnknown_keeps
    | apply State.cpcMap_keeps | apply Keeps.ite | split
  all_goals first
    | exact sub_mask rfl hM | exact InMask.auto

theorem State.writeDump_keeps {M : Nat} {z s : State} {cause core : Nat} {complete : Bool} (hz : Keeps M z s) (hM :
    0x3004000000602 ||| M = M) :
    Keeps M z (State.writeDump s cause core complete) := by
  unfold State.writeDump
  try dsimp only
  with_reducible repeat' first
    | assumption | apply State.setFld_keeps | apply State.raiseIrq_keeps | apply State.incFld_keeps
    | apply State.cpcMap_keeps | apply State.hwSet_keeps | apply Keeps.ite | split | apply Keeps.set_draws
  all_goals first
    | exact sub_mask rfl hM | exact InMask.auto

theorem State.dumpNow_keeps {M : Nat} {z s : State} {complete : Bool} (hz : Keeps M z s) (hM : 0x3004000000602 ||| M
    = M) :
    Keeps M z (State.dumpNow s complete) := by
  unfold State.dumpNow
  try dsimp only
  with_reducible repeat' first
    | assumption | apply State.setFld_keeps | apply State.writeDump_keeps | apply Keeps.ite | split
  all_goals first
    | exact sub_mask rfl hM | exact InMask.auto

theorem State.dumpRead_keeps {M : Nat} {z s : State} (hz : Keeps M z s) (hM : 0x1000000000102 ||| M = M) :
    Keeps M z (State.dumpRead s) := by
  unfold State.dumpRead
  try dsimp only
  with_reducible repeat' first
    | assumption | apply State.setFld_keeps | apply Keeps.ite | split | apply Keeps.set_rdata
  all_goals first
    | exact sub_mask rfl hM | exact InMask.auto

theorem State.floorStatic_keeps {M : Nat} {z s : State} (hz : Keeps M z s) (hM : 0x80000000002 ||| M = M) :
    Keeps M z (State.floorStatic s) := by
  unfold State.floorStatic
  try dsimp only
  with_reducible repeat' first
    | assumption | apply State.setFld_keeps
  all_goals first
    | exact sub_mask rfl hM | exact InMask.auto

theorem State.xtEngine_keeps {M : Nat} {z s : State} {e : Nat} (hz : Keeps M z s) (hM : 0x8004000000002 ||| M = M) :
    Keeps M z (State.xtEngine s e) := by
  unfold State.xtEngine
  try dsimp only
  with_reducible repeat' first
    | assumption | apply State.setReg_keeps | apply State.cpcMap_keeps | apply Keeps.ite
    | (apply Keeps.foldl; intro _ _ _) | split
  all_goals first
    | exact sub_mask rfl hM | exact InMask.auto | exact .reg .auto

theorem State.xtMesh_keeps {M : Nat} {z s : State} (hz : Keeps M z s) (hM : 0x4200000000 ||| M = M) :
    Keeps M z (State.xtMesh s) := by
  unfold State.xtMesh
  try dsimp only
  with_reducible repeat' first
    | assumption | apply State.cpcMap_keeps | apply State.setLwWord_keeps | apply Keeps.ite
    | (apply Keeps.foldl; intro _ _ _) | split
  all_goals exact sub_mask rfl hM

theorem State.setAgreed_keeps {M : Nat} {z s : State} {v : Nat} (hz : Keeps M z s) (hM : 0x1000000000002 ||| M = M)
    :
    Keeps M z (State.setAgreed s v) := by
  unfold State.setAgreed
  try dsimp only
  with_reducible repeat' first
    | assumption | apply State.setFld_keeps
  all_goals first
    | exact sub_mask rfl hM | exact InMask.auto

theorem State.dutiesNow_keeps {M : Nat} {z s : State} (hz : Keeps M z s) (hM : 0x4000000000 ||| M = M) :
    Keeps M z (State.dutiesNow s) := by
  unfold State.dutiesNow
  try dsimp only
  with_reducible repeat' first
    | assumption | apply State.cpcMap_keeps
  all_goals exact sub_mask rfl hM

theorem State.endColls_keeps {M : Nat} {z s : State} {status : Nat} (hz : Keeps M z s) (hM : 0x3004000000202 ||| M =
    M) :
    Keeps M z (State.endColls s status) := by
  unfold State.endColls
  try dsimp only
  with_reducible repeat' first
    | assumption | apply State.endColl_keeps | apply Keeps.ite | (apply Keeps.foldl; intro _ _ _)
  all_goals exact sub_mask rfl hM

theorem State.updateLost_keeps {M : Nat} {z s : State} (hz : Keeps M z s) (hM : 0x3004000000202 ||| M = M) :
    Keeps M z (State.updateLost s) := by
  unfold State.updateLost
  try dsimp only
  with_reducible repeat' first
    | assumption | apply State.tellHost_keeps | apply State.setFld_keeps | apply State.cpcMap_keeps | apply Keeps.ite
    | split
  all_goals first
    | exact sub_mask rfl hM | exact InMask.auto

theorem State.fwRestart_keeps {M : Nat} {z s : State} (hz : Keeps M z s) (hM : 0x3024000004602 ||| M = M) :
    Keeps M z (State.fwRestart s) := by
  unfold State.fwRestart
  try dsimp only
  with_reducible repeat' first
    | assumption | apply State.incFld_keeps | apply State.cpcMap_keeps | apply State.setFw_keeps
    | apply State.endColls_keeps | apply State.updateLost_keeps | apply Keeps.ite | split
  all_goals first
    | exact sub_mask rfl hM | exact InMask.auto

theorem State.fwFail_keeps {M : Nat} {z s : State} (hz : Keeps M z s) (hM : 0x3120000004602 ||| M = M) :
    Keeps M z (State.fwFail s) := by
  unfold State.fwFail
  try dsimp only
  with_reducible repeat' first
    | assumption | apply State.setUnit_keeps | apply State.setCores_keeps | apply State.setFw_keeps | apply Keeps.ite
    | split
  all_goals first
    | exact sub_mask rfl hM | exact InMask.auto

theorem State.initDone_keeps {M : Nat} {z s : State} (hz : Keeps M z s) (hM : 0x3024100004602 ||| M = M) :
    Keeps M z (State.initDone s) := by
  unfold State.initDone
  try dsimp only
  with_reducible repeat' first
    | assumption | apply State.cfgReadyWrite_keeps | apply State.setFw_keeps | apply State.setAgreed_keeps
    | apply State.mbUnknown_keeps | apply State.milestone_keeps | apply State.dutiesNow_keeps | apply Keeps.ite
    | split
  all_goals exact sub_mask rfl hM

theorem State.sendCtl_keeps {M : Nat} {z s : State} {n type : Nat} {body : List Nat} (hz : Keeps M z s) (hM :
    0x1000000 ||| M = M) :
    Keeps M z (State.sendCtl s n type body) := by
  unfold State.sendCtl
  try dsimp only
  with_reducible repeat' first
    | assumption | apply State.rykMap_keeps
  all_goals exact sub_mask rfl hM

theorem State.flood_keeps {M : Nat} {z s : State} {type : Nat} {body : List Nat} (hz : Keeps M z s) (hM :
    0x100002000001008202 ||| M = M) :
    Keeps M z (State.flood s type body) := by
  unfold State.flood
  try dsimp only
  with_reducible repeat' first
    | assumption | apply State.rykPump_keeps | apply State.sendCtl_keeps | apply Keeps.ite
    | (apply Keeps.foldl; intro _ _ _) | split
  all_goals exact sub_mask rfl hM

theorem State.sendHello_keeps {M : Nat} {z s : State} {n : Nat} (hz : Keeps M z s) (hM : 0x1000000 ||| M = M) :
    Keeps M z (State.sendHello s n) := by
  unfold State.sendHello
  try dsimp only
  with_reducible repeat' first
    | assumption | apply State.sendCtl_keeps
  all_goals exact sub_mask rfl hM

theorem State.sendMembers_keeps {M : Nat} {z s : State} {n : Nat} (hz : Keeps M z s) (hM : 0x100002000001008202 |||
    M = M) :
    Keeps M z (State.sendMembers s n) := by
  unfold State.sendMembers
  try dsimp only
  with_reducible repeat' first
    | assumption | apply State.rykPump_keeps | apply State.sendCtl_keeps | apply Keeps.ite
    | (apply Keeps.foldl; intro _ _ _) | split
  all_goals exact sub_mask rfl hM

theorem State.writeRoutes_keeps {M : Nat} {z s : State} {l : List RouteWrite} (hz : Keeps M z s) (hM :
    0x100000000000000002 ||| M = M) :
    Keeps M z (State.writeRoutes s l) := by
  unfold State.writeRoutes
  try dsimp only
  with_reducible repeat' first
    | assumption | apply State.setFld_keeps | apply Keeps.ite | (apply Keeps.foldl; intro _ _ _)
  all_goals first
    | exact sub_mask rfl hM | exact InMask.auto

theorem State.forceAlt_keeps {M : Nat} {z s : State} {c : Nat} (hz : Keeps M z s) (hM : 0x100000000000000002 ||| M =
    M) :
    Keeps M z (State.forceAlt s c) := by
  unfold State.forceAlt
  try dsimp only
  with_reducible repeat' first
    | assumption | apply State.setFld_keeps | apply Keeps.ite | split
  all_goals first
    | exact sub_mask rfl hM | exact InMask.auto

theorem State.dropAlt_keeps {M : Nat} {z s : State} {c : Nat} (hz : Keeps M z s) (hM : 0x100000000000000002 ||| M =
    M) :
    Keeps M z (State.dropAlt s c) := by
  unfold State.dropAlt
  try dsimp only
  with_reducible repeat' first
    | assumption | apply State.setFld_keeps | apply Keeps.ite | (apply Keeps.foldl; intro _ _ _)
  all_goals first
    | exact sub_mask rfl hM | exact InMask.auto

theorem State.endCollsOf_keeps {M : Nat} {z s : State} {lost : Nat} (hz : Keeps M z s) (hM : 0x3004000000202 ||| M =
    M) :
    Keeps M z (State.endCollsOf s lost) := by
  unfold State.endCollsOf
  try dsimp only
  with_reducible repeat' first
    | assumption | apply State.endColl_keeps | apply Keeps.ite | (apply Keeps.foldl; intro _ _ _)
  all_goals exact sub_mask rfl hM

theorem State.setMembers_keeps {M : Nat} {z s : State} {set : List Nat} {epoch : Nat} {routes : List RouteWrite} (hz
    : Keeps M z s) (hM : 0x100003004000000602 ||| M = M) :
    Keeps M z (State.setMembers s set epoch routes) := by
  unfold State.setMembers
  try dsimp only
  with_reducible repeat' first
    | assumption | apply State.cpcMap_keeps | apply State.raiseIrq_keeps | apply State.writeRoutes_keeps
    | apply State.setFld_keeps | apply State.endCollsOf_keeps | apply State.forceAlt_keeps | apply State.logFree_keeps
    | apply State.dropAlt_keeps | apply Keeps.ite | (apply Keeps.foldl; intro _ _ _) | split
  all_goals first
    | exact sub_mask rfl hM | exact InMask.auto

theorem State.declare_keeps {M : Nat} {z s : State} {chip cause from' : Nat} {routes : List RouteWrite} (hz : Keeps
    M z s) (hM : 0x100003004001008602 ||| M = M) :
    Keeps M z (State.declare s chip cause from' routes) := by
  unfold State.declare
  try dsimp only
  with_reducible repeat' first
    | assumption | apply State.flood_keeps | apply State.setMembers_keeps | apply Keeps.ite | split
  all_goals exact sub_mask rfl hM

theorem State.takeBack_keeps {M : Nat} {z s : State} {chip from' : Nat} {routes : List RouteWrite} (hz : Keeps M z
    s) (hM : 0x100003004001008602 ||| M = M) :
    Keeps M z (State.takeBack s chip from' routes) := by
  unfold State.takeBack
  try dsimp only
  with_reducible repeat' first
    | assumption | apply State.flood_keeps | apply State.setMembers_keeps | apply Keeps.ite | split
  all_goals exact sub_mask rfl hM

theorem State.requestOff_keeps {M : Nat} {z s : State} {page : Nat} (hz : Keeps M z s) (hM : 0x210000000021a ||| M =
    M) (hp : InMask M page := by exact InMask.auto) :
    Keeps M z (State.requestOff s page) := by
  unfold State.requestOff
  try dsimp only
  with_reducible repeat' first
    | assumption | apply State.write_keeps
  all_goals first
    | exact sub_mask rfl hM | exact InMask.auto

theorem State.selfRetire_keeps {M : Nat} {z s : State} {cause : Nat} {routes : List RouteWrite} (hz : Keeps M z s)
    (hM : 0x10005310400100861a ||| M = M) :
    Keeps M z (State.selfRetire s cause routes) := by
  unfold State.selfRetire
  try dsimp only
  with_reducible repeat' first
    | assumption | apply State.declare_keeps | apply State.requestOff_keeps | apply State.forceWritten_keeps
    | apply State.write_keeps | apply Keeps.ite | (apply Keeps.foldl; intro _ _ _) | split
  all_goals first
    | exact sub_mask rfl hM | exact InMask.auto

theorem State.takeCtl_keeps {M : Nat} {z s : State} {type : Nat} (hz : Keeps M z s) (hM : 0x100002000001000202 ||| M = M) :
    (∀ {t}, s.takeCtl type = .inl t → Keeps M z t) ∧ ∀ {x}, s.takeCtl type = .inr x → Keeps M z x.1 := by
  unfold State.takeCtl
  have h1 : ∀ g, Keeps M z (s.rykMap g) := fun g => State.rykMap_keeps hz (sub_mask rfl hM)
  constructor <;> intro t e <;> dsimp only at e <;> repeat' split at e
  all_goals cases e
  all_goals first | exact hz | (dsimp only; apply h1) | exact State.discard_keeps (h1 _) (sub_mask rfl hM)

theorem State.peerSet_keeps {M : Nat} {z s : State} {epoch : Nat} {set : List Nat} {routes : List RouteWrite} (hz :
    Keeps M z s) (hM : 0x100003004000000602 ||| M = M) :
    Keeps M z (State.peerSet s epoch set routes) := by
  unfold State.peerSet
  try dsimp only
  with_reducible repeat' first
    | assumption | apply State.setMembers_keeps | apply Keeps.ite
  all_goals exact sub_mask rfl hM

theorem State.watchPeers_keeps {M : Nat} {z s : State} (hz : Keeps M z s) (hM : 0x4000000000 ||| M = M) :
    Keeps M z (State.watchPeers s) := by
  unfold State.watchPeers
  try dsimp only
  with_reducible repeat' first
    | assumption | apply State.cpcMap_keeps | apply Keeps.ite
  all_goals exact sub_mask rfl hM

theorem State.sendChunks_keeps {M : Nat} {z s : State} {c : Collective} {sends : List PlanSend} (hz : Keeps M z s)
    (hM : 0x1290020000d9808202 ||| M = M) :
    Keeps M z (State.sendChunks s c sends) := by
  unfold State.sendChunks
  try dsimp only
  with_reducible repeat' first
    | assumption | apply State.rykPump_keeps | apply State.send_keeps | apply State.chunk_keeps | apply Keeps.ite
    | (apply Keeps.foldl; intro _ _ _) | split
  all_goals first
    | exact sub_mask rfl hM | exact InMask.auto

theorem State.takeChunk_keeps {M : Nat} {z s : State} {c : Collective} {step chunk : Nat} {data : List Nat} (hz : Keeps M z s) (hM : 0x800000 ||| M = M) :
    Keeps M z (s.takeChunk c step chunk data) := by
  unfold State.takeChunk
  exact Keeps.set_ddr _ (Mem.wf_store 0 _ _ _) (sub_mask rfl hM) hz

theorem State.collTick_keeps {M : Nat} {z s : State} (hz : Keeps M z s) (hM : 0x4000000000 ||| M = M) :
    Keeps M z (State.collTick s) := by
  unfold State.collTick
  try dsimp only
  with_reducible repeat' first
    | assumption | apply State.cpcMap_keeps | apply Keeps.ite
  all_goals exact sub_mask rfl hM

end Sys2Proof.Machine
end

