-- ==== Sys2Proof/Laws/KeepsRest.lean ====
section
/-!
SUPPORT. What each operation keeps (what is left: fabric, power, streams, tiers, units, the boundary, register accesses): one law `X_keeps` for each operation `X`, with the mask of the
components of State that `X` may change.
-/

set_option Elab.async false

namespace Sys2Proof.Machine

open Sys2Proof

theorem State.regionLeaves_keeps {M : Nat} {z s : State} {r : Nat} (hz : Keeps M z s) (hM : 0x1000401000400002 ||| M
    = M) :
    Keeps M z (State.regionLeaves s r) := by
  unfold State.regionLeaves
  try dsimp only
  with_reducible repeat' first
    | assumption | apply State.setFld_keeps | apply State.loadMap_keeps | apply State.incFld_keeps
    | apply Keeps.ite | split
  all_goals first
    | exact sub_mask rfl hM | exact InMask.auto

theorem State.regionFenced_keeps {M : Nat} {z s : State} {r : Nat} (hz : Keeps M z s) (hM : 0x1000000000400002 ||| M = M) :
    Keeps M z (State.regionFenced s r) := by
  unfold State.regionFenced
  try dsimp only
  with_reducible repeat' first
    | assumption | apply State.incFld_keeps | apply Keeps.ite | (apply Keeps.foldl; intro _ _ _) | split
    | apply Keeps.set_pipe
  all_goals first
    | exact sub_mask rfl hM | exact InMask.auto

theorem State.regionMoved_keeps {M : Nat} {z s : State} {r old : Nat} (hz : Keeps M z s) (hM : 0x1000401000400002 ||| M = M) :
    Keeps M z (State.regionMoved s r old) := by
  unfold State.regionMoved
  try dsimp only
  with_reducible repeat' first
    | assumption | apply State.regionLeaves_keeps | apply State.regionFenced_keeps | apply Keeps.ite | split
  all_goals first
    | exact sub_mask rfl hM | exact InMask.auto

theorem State.fenceRegion_keeps {M : Nat} {z s : State} {r reason : Nat} (hz : Keeps M z s) (hM : 0x1002501000400202
    ||| M = M) :
    Keeps M z (State.fenceRegion s r reason) := by
  unfold State.fenceRegion
  try dsimp only
  with_reducible repeat' first
    | assumption | apply State.fence_keeps | apply State.regionMoved_keeps | apply State.regionLeaves_keeps
    | apply Keeps.ite | split
  all_goals first
    | exact sub_mask rfl hM | exact InMask.auto

theorem State.fcgLeaves_keeps {M : Nat} {z s : State} {k : Nat} (hz : Keeps M z s) (hM : 0x1002501000400202 ||| M =
    M) :
    Keeps M z (State.fcgLeaves s k) := by
  unfold State.fcgLeaves
  try dsimp only
  with_reducible repeat' first
    | assumption | apply State.fenceRegion_keeps | apply Keeps.ite | (apply Keeps.foldl; intro _ _ _) | split
  all_goals first
    | exact sub_mask rfl hM | exact InMask.auto

theorem State.fcgApply_keeps {M : Nat} {z s : State} {k : Nat} (hz : Keeps M z s) (hM : 0x1000002000000002 ||| M =
    M) :
    Keeps M z (State.fcgApply s k) := by
  unfold State.fcgApply
  try dsimp only
  with_reducible repeat' first
    | assumption | apply State.setFld_keeps | apply Keeps.ite | split | apply Keeps.set_fabric
  all_goals first
    | exact sub_mask rfl hM | exact InMask.auto

theorem State.tileClockFails_keeps {M : Nat} {z s : State} {g : Nat} (hz : Keeps M z s) (hM : 0xf202100038400602 |||
    M = M) :
    Keeps M z (State.tileClockFails s g) := by
  unfold State.tileClockFails
  try dsimp only
  with_reducible repeat' first
    | assumption | apply State.fence_keeps | apply State.fail_keeps | apply State.fenceTile_keeps
    | apply State.tileMoved_keeps | apply Keeps.ite | (apply Keeps.foldl; intro _ _ _) | split
  all_goals first
    | exact sub_mask rfl hM | exact InMask.auto

theorem State.fcgLost_keeps {M : Nat} {z s : State} {k : Nat} (hz : Keeps M z s) (hM : 0x1002501000400202 ||| M = M) :
    Keeps M z (State.fcgLost s k) := by
  unfold State.fcgLost
  try dsimp only
  with_reducible repeat' first
    | assumption | apply State.setFld_keeps | apply State.raiseIrq_keeps | apply State.incFld_keeps
    | apply State.fence_keeps | apply State.fcgLeaves_keeps | apply Keeps.ite | split
  all_goals first
    | exact sub_mask rfl hM | exact InMask.auto

theorem State.endpointReset_keeps {M : Nat} {z s : State} {cause : EndReset} (hz : Keeps M z s) (hM : 0x1060e021001d2c8228e ||| M = M)
    :
    Keeps M z (State.endpointReset s cause) := by
  unfold State.endpointReset
  try dsimp only
  with_reducible repeat' first
    | assumption | apply State.setReg_keeps | apply State.setFld_keeps | apply State.raiseIrq_keeps
    | apply State.incFld_keeps | apply State.setUnit_keeps | apply State.pinsMap_keeps
    | apply State.hostMap_keeps | apply State.haltOwner_keeps | apply State.refuseUnreachable_keeps
    | apply State.orphanTags_keeps | apply State.resetPage_keeps | apply State.resetLocal_keeps
    | apply State.ctoWrite_keeps | apply State.freshLink_keeps | apply Keeps.ite
    | (apply Keeps.foldl; intro _ _ _) | split
  all_goals first
    | exact sub_mask rfl hM | exact InMask.auto | exact .reg .auto

theorem State.cdrLost_keeps {M : Nat} {z s : State} {l : Nat} (hz : Keeps M z s) (hM : 0x10000602000100c602 ||| M = M) :
    Keeps M z (State.cdrLost s l) := by
  unfold State.cdrLost
  try dsimp only
  with_reducible repeat' first
    | assumption | apply State.setFld_keeps | apply State.laneFixed_keeps | apply State.linkCandLost_keeps
    | apply Keeps.ite | split
  all_goals first
    | exact sub_mask rfl hM | exact InMask.auto

theorem State.domainLost_keeps {M : Nat} {z s : State} {d : Nat} (hz : Keeps M z s) (hM : 0x17ffffffe73fffdfefe |||
    M = M) :
    Keeps M z (State.domainLost s d) := by
  unfold State.domainLost
  try dsimp only
  with_reducible repeat' first
    | assumption | apply State.setFld_keeps | apply State.fail_keeps | apply State.safeEnter_keeps
    | apply State.linkDown_keeps | apply State.loseLink_keeps | apply State.pumpLeaves_keeps
    | apply State.coreLeaves_keeps | apply State.tileClockFails_keeps | apply State.fcgLost_keeps
    | apply State.endpointReset_keeps | apply State.cdrLost_keeps | apply Keeps.ite
    | (apply Keeps.foldl; intro _ _ _) | split
  all_goals first
    | exact sub_mask rfl hM | exact InMask.auto

theorem State.ctlEnter_keeps {M : Nat} {z s : State} (hz : Keeps M z s) (hM : 0x17ffffffe72fff5fefe ||| M = M) :
    Keeps M z (State.ctlEnter s) := by
  unfold State.ctlEnter
  try dsimp only
  with_reducible repeat' first
    | assumption | apply State.setFld_keeps | apply State.safeEnter_keeps | apply Keeps.ite | split
  all_goals first
    | exact sub_mask rfl hM | exact InMask.auto

theorem State.ctlRestart_keeps {M : Nat} {z s : State} (hz : Keeps M z s) (hM : 0x17ffffffe72fff5fafe ||| M = M) :
    Keeps M z (State.ctlRestart s) := by
  unfold State.ctlRestart
  try dsimp only
  with_reducible repeat' first
    | assumption | apply State.setFld_keeps | apply State.setSState_keeps | apply State.resetMain_keeps
    | apply Keeps.ite | split
  all_goals first
    | exact sub_mask rfl hM | exact InMask.auto

theorem State.clearPage_keeps {M : Nat} {z s : State} {page : Nat} (hz : Keeps M z s) (hM : 0x4008e ||| M = M) (hp : InMask M page := by exact InMask.auto) :
    Keeps M z (s.clearPage page) := by
  refine hz.trans ?_
  constructor <;> intro hh
  · exact ⟨FMap.canonical_filter _ _ _ hh.regs, hh.ddr, hh.flash, hh.direct, hh.stores⟩
  all_goals first
    | rfl | exact absurd (testBit_of_sub hM hh) (by decide)
    | exact fun hk => congrArg (Option.getD · _) (FMap.get?_filter s.regs _ hh fun x => by
        have hne : hh / 4096 ≠ page := fun e => hk (e ▸ hp)
        simp [hne])

theorem State.startEngines_keeps {M : Nat} {z s : State} (hz : Keeps M z s) (hM : 0x8000000000002 ||| M = M) :
    Keeps M z (State.startEngines s) := by
  unfold State.startEngines
  try dsimp only
  with_reducible repeat' first
    | assumption | apply State.opeUnit_keeps | apply State.setFld_keeps | apply Keeps.ite
    | (apply Keeps.foldl; intro _ _ _)
  all_goals first
    | exact sub_mask rfl hM | exact InMask.auto

theorem State.startSec_keeps {M : Nat} {z s : State} (hz : Keeps M z s) (hM : 0x17ffffffe0400000202 ||| M = M) :
    Keeps M z (State.startSec s) := by
  unfold State.startSec
  try dsimp only
  with_reducible repeat' first
    | assumption | apply State.startTests_keeps | apply State.setFld_keeps | apply Keeps.ite
    | (apply Keeps.foldl; intro _ _ _) | split
  all_goals first
    | exact sub_mask rfl hM | exact InMask.auto

theorem State.resetSec_keeps {M : Nat} {z s : State}  (hz : Keeps M z s) (hM : 0x17ffffffe040004020e ||| M = M) :
    Keeps M z s.resetSec := by
  unfold State.resetSec
  dsimp only
  refine Keeps.foldl _ (fun a x ha => State.syncAttention_keeps ha (sub_mask rfl hM)) ?_
  refine Keeps.step (m := 0x17ffffffe040004020e) (x := s) ?_ (sub_mask rfl hM) hz
  constructor <;> intro hh <;> first | rfl | exact fun hk => absurd (InMask.all rfl) hk | exact absurd hh (by decide) | exact ⟨FMap.canonical_foldl _ _ _ _ rfl, hh.ddr, hh.flash, hh.direct, hh.stores⟩

theorem State.mainPgLow_keeps {M : Nat} {z s : State} (hz : Keeps M z s) (hM : 0x17ffffffe72fff5fefe ||| M = M) :
    Keeps M z (State.mainPgLow s) := by
  unfold State.mainPgLow
  try dsimp only
  with_reducible repeat' first
    | assumption | apply State.engageAll_keeps | apply State.safeEnter_keeps | apply Keeps.ite | split
    | apply Keeps.set_pins
  all_goals exact sub_mask rfl hM

theorem State.keepHeads_keeps {M : Nat} {z s : State} (hz : Keeps M z s) (hM : 0x100000000 ||| M = M) :
    Keeps M z (State.keepHeads s) := by
  unfold State.keepHeads
  try dsimp only
  with_reducible repeat' first
    | assumption | apply Keeps.ite | split | apply Keeps.set_pcie
  all_goals exact sub_mask rfl hM

theorem State.locksLost_keeps {M : Nat} {z s : State} (hz : Keeps M z s) (hM : 0x2040000001202 ||| M = M) :
    Keeps M z (State.locksLost s) := by
  unfold State.locksLost
  try dsimp only
  with_reducible repeat' first
    | assumption | apply State.interruptLock_keeps | apply State.loseAnchor_keeps | apply Keeps.ite
    | (apply Keeps.foldl; intro _ _ _) | split
  all_goals first
    | exact sub_mask rfl hM | exact InMask.auto

theorem State.bootCleared_keeps {M : Nat} {z s : State} (hz : Keeps M z s) (hM : 0x20000004402 ||| M = M) :
    Keeps M z (State.bootCleared s) := by
  unfold State.bootCleared
  try dsimp only
  with_reducible repeat' first
    | assumption | apply State.setReg_keeps | apply State.safeMap_keeps | apply State.stampBoot_keeps
    | apply State.milestone_keeps | apply Keeps.ite | (apply Keeps.foldl; intro _ _ _) | split
  all_goals first
    | exact sub_mask rfl hM | exact InMask.auto | exact .reg .auto

theorem State.startUnits_keeps {M : Nat} {z s : State} (hz : Keeps M z s) (hM : 0x17ffffffe0000000202 ||| M = M) :
    Keeps M z (State.startUnits s) := by
  unfold State.startUnits
  try dsimp only
  with_reducible repeat' first
    | assumption | apply State.syncPermanent_keeps | apply State.setFld_keeps | apply Keeps.ite
    | (apply Keeps.foldl; intro _ _ _) | split
  all_goals first
    | exact sub_mask rfl hM | exact InMask.auto

theorem State.fmapBoundary_keeps {M : Nat} {z s : State} {i : Nat} (hz : Keeps M z s) (hM : 0x202000000000202 ||| M
    = M) :
    Keeps M z (State.fmapBoundary s i) := by
  unfold State.fmapBoundary
  try dsimp only
  with_reducible repeat' first
    | assumption | apply State.raiseIrq_keeps | apply State.setFld_keeps | apply Keeps.ite | split
  all_goals first
    | exact sub_mask rfl hM | exact InMask.auto

theorem State.setStrm_keeps {M : Nat} {z s : State} {h d : Nat} {x : Strm} (hz : Keeps M z s) (hM : 0x400000 ||| M =
    M) :
    Keeps M z (State.setStrm s h d x) := by
  unfold State.setStrm
  try dsimp only
  with_reducible repeat' first
    | assumption | apply State.pipeMap_keeps
  all_goals exact sub_mask rfl hM

theorem State.noteConflict_keeps {M : Nat} {z s : State} {i : Nat} {conflict : Bool} (hz : Keeps M z s) (hM : 0x202000000000202
    ||| M = M) :
    Keeps M z (State.noteConflict s i conflict) := by
  unfold State.noteConflict
  try dsimp only
  with_reducible repeat' first
    | assumption | apply State.raiseIrq_keeps | apply State.incFld_keeps | apply Keeps.ite | split
  all_goals first
    | exact sub_mask rfl hM | exact InMask.auto

theorem State.meet_keeps {M : Nat} {z s : State} {h d o n : Nat} {bytes : List Nat} {x : Strm} {out : List Delivery} (hz : Keeps M z s) (hM : 0x202000000400202 ||| M = M) :
    Keeps M z (State.meet s h d o bytes n x out).2 := by
  induction n generalizing s x out with
  | zero => exact State.setStrm_keeps hz (sub_mask rfl hM)
  | succ n ih =>
    unfold State.meet
    dsimp only
    have h1 : Keeps M z (if min bytes.length (x.next - o) = 0 then s else s.incFld (Pg.stg x.inst 4) F.STG_RA_RETRANS) :=
      Keeps.ite hz (State.incFld_keeps hz (sub_mask rfl hM))
    repeat' split
    all_goals try dsimp only
    all_goals with_reducible repeat' first
      | assumption | exact h1 | apply ih | apply State.setStrm_keeps | apply State.incFld_keeps | apply State.raiseIrq_keeps
      | apply State.noteConflict_keeps
      | apply Keeps.ite
    all_goals first | exact sub_mask rfl hM | exact InMask.auto

theorem State.noteStream_keeps {M : Nat} {z s : State} {h d : Nat} {x : Strm} (hz : Keeps M z s) (hM : 0x400000 |||
    M = M) :
    Keeps M z (State.noteStream s h d x) := by
  unfold State.noteStream
  try dsimp only
  with_reducible repeat' first
    | assumption | apply State.pipeMap_keeps | apply Keeps.ite | split
  all_goals exact sub_mask rfl hM

theorem State.dueGaps_keeps {M : Nat} {z s : State} {h d n : Nat} {out : List Delivery} (hz : Keeps M z s)
    (hM : 0x202000000400202 ||| M = M) :
    Keeps M z (State.dueGaps s h d n out).2 := by
  induction n generalizing s out with
  | zero => exact hz
  | succ n ih =>
    unfold State.dueGaps
    repeat' split
    all_goals with_reducible repeat' first
      | assumption | apply ih | apply State.setStrm_keeps | apply State.noteStream_keeps | apply State.incFld_keeps
      | apply State.raiseIrq_keeps | apply State.syncReasm_keeps
    all_goals first | exact sub_mask rfl hM | exact InMask.auto

theorem State.expireHoles_keeps {M : Nat} {z s : State} {h d : Nat} (hz : Keeps M z s) (hM : 0x202000000400202 ||| M = M) :
    Keeps M z (State.expireHoles s h d).2 := State.dueGaps_keeps hz (sub_mask rfl hM)

theorem State.startStream_keeps {M : Nat} {z s : State} {h : Nat} (hz : Keeps M z s) (hM : 0x400400 ||| M = M) :
    Keeps M z (State.startStream s h) := by
  unfold State.startStream
  try dsimp only
  with_reducible repeat' first
    | assumption | apply State.drawn_keeps | apply State.pipeMap_keeps | apply Keeps.ite | split
  all_goals exact sub_mask rfl hM

theorem State.order_keeps {M : Nat} {z s : State} {id h : Nat} (hz : Keeps M z s) (hM : 0x202000000400602 ||| M = M) :
    Keeps M z (State.order s id h) := by
  unfold State.order
  try dsimp only
  with_reducible repeat' first
    | assumption | apply State.incFld_keeps | apply State.setFrame_keeps
    | apply State.syncReasm_keeps | apply State.setStrm_keeps | apply State.meet_keeps
    | apply State.noteStream_keeps | apply State.startStream_keeps | apply State.expireHoles_keeps | apply Keeps.ite
    | refine Keeps.of_snd (by assumption) ?_ | split
  all_goals first
    | exact sub_mask rfl hM | exact InMask.auto

theorem State.addWindow_keeps {M : Nat} {z s : State} {i : Nat} {v : Int} (hz : Keeps M z s) (hM : 0x400000 ||| M =
    M) :
    Keeps M z (State.addWindow s i v) := by
  unfold State.addWindow
  try dsimp only
  with_reducible repeat' first
    | assumption | apply State.pipeMap_keeps
  all_goals exact sub_mask rfl hM

theorem State.objByte_keeps {M : Nat} {z s : State} {h d : Nat} {x : Strm} {o : Obj} {b : Nat} (hz : Keeps M z s)
    (hM : 0x202000000400202 ||| M = M) :
    Keeps M z (State.objByte s h d x o b).1 := by
  unfold State.objByte
  try dsimp only
  with_reducible repeat' first
    | assumption | apply State.addWindow_keeps | apply State.raiseIrq_keeps | apply State.incFld_keeps
    | apply State.closeObj_keeps | apply State.emitWindow_keeps | apply Keeps.ite
    | refine Keeps.of_fst (by assumption) ?_ | split
  all_goals first
    | exact sub_mask rfl hM | exact InMask.auto

theorem State.useObjId_keeps {M : Nat} {z s : State} {i : Nat} (hz : Keeps M z s) (hM : 0x200000000400002 ||| M = M) :
    Keeps M z (State.useObjId s i) := by
  unfold State.useObjId
  try dsimp only
  with_reducible repeat' first
    | assumption | apply State.incFld_keeps | apply State.pipeMap_keeps | apply Keeps.ite | split
  all_goals first
    | exact sub_mask rfl hM | exact InMask.auto

theorem State.seekByte_keeps {M : Nat} {z s : State} {h d : Nat} {x : Strm} {at' b : Nat} (hz : Keeps M z s)
    (hM : 0x202000000400202 ||| M = M) :
    Keeps M z (State.seekByte s h d x at' b).1 := by
  unfold State.seekByte
  try dsimp only
  with_reducible repeat' first
    | assumption | apply State.objByte_keeps | apply State.useObjId_keeps | apply Keeps.ite
    | (apply Keeps.foldl_fst; intro _ _ _) | refine Keeps.of_fst (by assumption) ?_ | split
  all_goals first
    | exact sub_mask rfl hM | exact InMask.auto

theorem State.carveByte_keeps {M : Nat} {z s : State} {h d : Nat} {x : Strm} {at' b : Nat} (hz : Keeps M z s)
    (hM : 0x202000000400202 ||| M = M) :
    Keeps M z (State.carveByte s h d x at' b).1 := by
  unfold State.carveByte
  try dsimp only
  with_reducible repeat' first
    | assumption | apply State.objByte_keeps | apply State.seekByte_keeps | apply State.closeObj_keeps | apply Keeps.ite
    | refine Keeps.of_fst (by assumption) ?_ | split
  all_goals first
    | exact sub_mask rfl hM | exact InMask.auto

theorem State.carve_keeps {M : Nat} {z s : State} {h d : Nat} {x : Strm} {v : Delivery} (hz : Keeps M z s) (hM : 0x202000000400202 ||| M = M) :
    Keeps M z (s.carve h d x v).1 := by
  have key : ∀ (l : List Nat) (a : State × Strm × Nat), Keeps M z a.1 →
      Keeps M z (l.foldl (fun (a : State × Strm × Nat) b =>
        match a.1.carveByte h d a.2.1 a.2.2 b with
        | (t, y) => (t, y, a.2.2 + 1)) a).1 := by
    intro l a ha
    refine Keeps.foldl_fst l (fun a b ha => ?_) ha
    exact State.carveByte_keeps ha (sub_mask rfl hM)
  have hc : ∀ o e, Keeps M z (s.closeObj h d x o e).1 := fun o e => State.closeObj_keeps hz (sub_mask rfl hM)
  cases v with
  | data o bytes => exact key bytes (s, x, o) hz
  | gap =>
    show Keeps M z (match x.obj with
      | some o =>
        match s.closeObj h d x o Close.gap with
        | (t, y) => (t, { y with gapBefore := true, tail := [] })
      | none => (s, { x with gapBefore := true, tail := [] })).1
    cases x.obj with
    | none => exact hz
    | some o => exact hc o Close.gap
  | finish =>
    show Keeps M z (match x.obj with
      | some o => s.closeObj h d x o Close.finish
      | none => (s, { x with tail := [] })).1
    cases x.obj with
    | none => exact hz
    | some o => exact hc o Close.finish

theorem State.noteCarve_keeps {M : Nat} {z s : State} {h d : Nat} {was now : Strm} (hz : Keeps M z s) (hM : 0x400000 |||
    M = M) :
    Keeps M z (State.noteCarve s h d was now) := by
  unfold State.noteCarve
  try dsimp only
  with_reducible repeat' first
    | assumption | apply State.pipeMap_keeps | apply Keeps.ite | split
  all_goals exact sub_mask rfl hM

theorem State.carveOne_keeps {M : Nat} {z : State} {h d : Nat} {a : State × Strm} {e : Delivery × Option (FMap Word)} (hz : Keeps M z a.1)
    (hM : 0x202000000400206 ||| M = M) : Keeps M z (State.carveOne h d a e).1 := by
  unfold State.carveOne
  split
  · exact State.carve_keeps hz (sub_mask rfl hM)
  · exact .set_force _ (sub_mask rfl hM) (State.carve_keeps (.set_force _ (sub_mask rfl hM) hz) (sub_mask rfl hM))

theorem State.carveAll_keeps {M : Nat} {z s : State} {h d : Nat} {ds : List (Delivery × Option (FMap Word))} (hz : Keeps M z s)
    (hM : 0x202000000400206 ||| M = M) : Keeps M z (State.carveAll s h d ds) := by
  unfold State.carveAll
  split
  · exact hz
  · exact State.noteCarve_keeps (State.setStrm_keeps
      (Keeps.foldl_fst ds (fun a e ha => State.carveOne_keeps ha (sub_mask rfl hM)) hz) (sub_mask rfl hM)) (sub_mask rfl hM)

theorem State.countVoid_keeps {M : Nat} {z s : State} {i : Nat} {full : Bool} (hz : Keeps M z s) (hM :
    0x202000000000202 ||| M = M) :
    Keeps M z (State.countVoid s i full) := by
  unfold State.countVoid
  try dsimp only
  with_reducible repeat' first
    | assumption | apply State.raiseIrq_keeps | apply State.incFld_keeps | apply Keeps.ite | split
  all_goals first
    | exact sub_mask rfl hM | exact InMask.auto

theorem State.sendT1_keeps {M : Nat} {z s : State} {wait : Nat} {f : Frame} (hz : Keeps M z s) (hM : 0x202000060000202 ||| M = M) :
    Keeps M z (s.sendT1 wait f).1 := by
  unfold State.sendT1
  split
  · exact hz
  · split
    · rename_i t e
      split at e
      · cases e
      · exact State.incFld_keeps (State.t1Dispatch_keeps hz (sub_mask rfl hM) e) (sub_mask rfl hM)
    · exact State.countVoid_keeps hz (sub_mask rfl hM)

theorem State.ringWindow_keeps {M : Nat} {z s : State} {f : Frame} {lite : Bool} {w : Window} (hz : Keeps M z s) (hM
    : 0x220000240000002 ||| M = M) :
    Keeps M z (State.ringWindow s f lite w).1 := by
  unfold State.ringWindow
  try dsimp only
  with_reducible repeat' first
    | assumption | refine Keeps.of_some (by assumption) (fun _ => State.toRing_keeps ?_ ?_) | apply State.incFld_keeps
    | apply Keeps.ite | split
  all_goals first
    | exact sub_mask rfl hM | exact InMask.auto

theorem State.sendT2_keeps {M : Nat} {z s : State} {wait : Nat} {f : Frame} {w : Window} (hz : Keeps M z s) (hM :
    0x222080244000202 ||| M = M) :
    Keeps M z (State.sendT2 s wait f w).1 := by
  unfold State.sendT2
  try dsimp only
  with_reducible repeat' first
    | assumption | apply State.admitT2_keeps | apply State.ringWindow_keeps | apply State.countVoid_keeps
    | apply Keeps.ite | refine Keeps.of_fst (by assumption) ?_ | refine Keeps.of_snd (by assumption) ?_ | split
  all_goals exact sub_mask rfl hM

theorem State.sendT3_keeps {M : Nat} {z s : State} {wait : Nat} {f : Frame} {alone : Bool} {dest : Nat} {w : Window}
    (hz : Keeps M z s) (hM : 0x100222080245008202 ||| M = M) :
    Keeps M z (State.sendT3 s wait f alone dest w).1 := by
  unfold State.sendT3
  try dsimp only
  with_reducible repeat' first
    | assumption | apply State.admitT3_keeps | apply State.t3Send_keeps | apply State.countVoid_keeps
    | apply State.incFld_keeps | apply State.ringWindow_keeps | apply Keeps.ite
    | refine Keeps.of_fst (by assumption) ?_ | refine Keeps.of_snd (by assumption) ?_ | split
  all_goals first
    | exact sub_mask rfl hM | exact InMask.auto

theorem State.sendWindow_keeps {M : Nat} {z : State} {wait : Nat} {x : State × Frame} {w : Window} (hz : Keeps M z x.1)
    (hM : 0x100222080245408202 ||| M = M) : Keeps M z (State.sendWindow wait x w).1 := by
  unfold State.sendWindow
  dsimp only
  have h1 : Keeps M z (if (x.1.inForce (Pg.stg 0 7) (F.STG_DISP_T3_MODE (pairOf x.2.port)) % 3) ≠ 1 &&
      x.1.inForce (Pg.stg 0 7) (F.STG_DISP_T2_EN (pairOf x.2.port)) = 1 then x.1.sendT2 wait x.2 w else x).1 := by
    split
    · exact State.sendT2_keeps hz (sub_mask rfl hM)
    · exact hz
  refine State.freeSlots_keeps ?_ (sub_mask rfl hM)
  split
  · exact h1
  · exact State.sendT3_keeps h1 (sub_mask rfl hM)

theorem State.setTest_keeps {M : Nat} {z s : State} {page : Nat} {t : TestRun} (hz : Keeps M z s) (hM : 0x40000 |||
    M = M) :
    Keeps M z (State.setTest s page t) := by
  unfold State.setTest
  try dsimp only
  with_reducible repeat' first
    | assumption | apply State.setAux_keeps
  all_goals exact sub_mask rfl hM

theorem State.fcgMoved_keeps {M : Nat} {z s : State} {k old : Nat} (hz : Keeps M z s) (hM : 0x1002501000400202 ||| M = M) :
    Keeps M z (State.fcgMoved s k old) := by
  unfold State.fcgMoved
  try dsimp only
  with_reducible repeat' first
    | assumption | apply State.setFld_keeps | apply State.fcgLeaves_keeps | apply Keeps.ite | split
  all_goals first
    | exact sub_mask rfl hM | exact InMask.auto

theorem State.afterUnit_keeps {M : Nat} {z s : State} {page old : Nat} (hz : Keeps M z s) (hM :
    0x116f22e5612fbc0d682 ||| M = M) :
    Keeps M z (State.afterUnit s page old) := by
  unfold State.afterUnit
  try dsimp only
  with_reducible repeat' first
    | assumption | apply State.interruptLock_keeps | apply State.linkFollow_keeps | apply State.opeUnit_keeps
    | apply State.pumpLeaves_keeps | apply State.fenceTile_keeps | apply State.coreLeaves_keeps
    | apply State.coreEnters_keeps | apply State.regionMoved_keeps | apply State.fcgMoved_keeps
    | apply State.takeMaster_keeps | apply State.tileMoved_keeps | apply State.regionLeaves_keeps
    | apply State.fcgLeaves_keeps | apply State.placementLoss_keeps | apply Keeps.ite
    | (apply Keeps.foldl; intro _ _ _) | split
  all_goals first
    | exact sub_mask rfl hM | exact InMask.auto

theorem State.moveUnit_keeps {M : Nat} {z s : State} {page st reason : Nat} (hz : Keeps M z s) (hM :
    0x116f22e5612fbc0d68e ||| M = M) (hp : InMask M page := by exact InMask.auto) :
    Keeps M z (State.moveUnit s page st reason) := by
  unfold State.moveUnit
  try dsimp only
  with_reducible repeat' first
    | assumption | apply State.setUnit_keeps | apply State.checkReached_keeps | apply State.afterUnit_keeps
    | apply State.releaseHeld_keeps | apply Keeps.ite | split
  all_goals first
    | exact sub_mask rfl hM | exact InMask.auto

theorem State.autoUnit_keeps {M : Nat} {z s : State} {page : Nat} (hz : Keeps M z s) (hM : 0x116f22e5612fbc4d68e |||
    M = M) (hp : InMask M page := by exact InMask.auto) :
    Keeps M z (State.autoUnit s page) := by
  unfold State.autoUnit
  try dsimp only
  with_reducible repeat' first
    | assumption | apply State.setTest_keeps | apply State.moveUnit_keeps | apply Keeps.ite | split
  all_goals first
    | exact sub_mask rfl hM | exact InMask.auto

theorem State.coreTesting_keeps {M : Nat} {z s : State} (hz : Keeps M z s) (hM : 0x20000000000002 ||| M = M) :
    Keeps M z (State.coreTesting s) := by
  unfold State.coreTesting
  try dsimp only
  with_reducible repeat' first
    | assumption | apply State.setLw_keeps | apply Keeps.ite | split
  all_goals first
    | exact sub_mask rfl hM | exact InMask.auto

theorem State.testBegins_keeps {M : Nat} {z s : State} {page : Nat} (hz : Keeps M z s) (hM : 0x20000000000002 ||| M = M) (hp :
    InMask M page := by exact InMask.auto) :
    Keeps M z (State.testBegins s page) := by
  unfold State.testBegins
  try dsimp only
  with_reducible repeat' first
    | assumption | apply State.coreTesting_keeps | apply Keeps.ite | split
  all_goals first
    | exact sub_mask rfl hM | exact InMask.auto

theorem State.hardRepairs_keeps {M : Nat} {z s : State} {c : Nat} (hz : Keeps M z s) (hM : 0x80002100040000202 ||| M
    = M) :
    Keeps M z (State.hardRepairs s c) := by
  unfold State.hardRepairs
  try dsimp only
  with_reducible repeat' first
    | assumption | apply State.retireRow_keeps | apply State.setChan5_keeps | apply Keeps.ite
    | (apply Keeps.foldl; intro _ _ _) | split
  all_goals exact sub_mask rfl hM

theorem State.tested_keeps {M : Nat} {z s : State} {page : Nat} (hz : Keeps M z s) (hM : 0x81022102240000602 ||| M =
    M) :
    Keeps M z (State.tested s page) := by
  unfold State.tested
  try dsimp only
  with_reducible repeat' first
    | assumption | apply State.coreTested_keeps | apply State.fcgApply_keeps | apply State.memMap_keeps
    | apply State.hardRepairs_keeps | apply Keeps.ite | exact fun _ hd => hd | split
  all_goals exact sub_mask rfl hM

theorem State.stepUnit_keeps {M : Nat} {z s : State} {page : Nat} (hz : Keeps M z s) (hM : 0x11ef22e5632fbc4d69e |||
    M = M) (hp : InMask M page := by exact InMask.auto) :
    Keeps M z (State.stepUnit s page) := by
  unfold State.stepUnit
  try dsimp only
  with_reducible repeat' first
    | assumption | apply State.configured_keeps | apply State.setTest_keeps | apply State.endReq_keeps
    | apply State.moveUnit_keeps | apply State.tested_keeps | apply State.testBegins_keeps | apply Keeps.ite
    | split
  all_goals first
    | exact sub_mask rfl hM | exact InMask.auto

theorem State.takeReq_keeps {M : Nat} {z s : State} {page : Nat} {moved : Bool} (hz : Keeps M z s) (hM :
    0x11ef22e5632fbc4d69e ||| M = M) (hp : InMask M page := by exact InMask.auto) :
    Keeps M z (State.takeReq s page moved) := by
  unfold State.takeReq
  try dsimp only
  with_reducible repeat' first
    | assumption | apply State.setFld_keeps | apply State.setAux_keeps | apply State.accepted_keeps
    | apply State.setTest_keeps | apply State.setPending_keeps | apply State.ackReq_keeps
    | apply State.endReq_keeps | apply State.stepUnit_keeps | apply Keeps.ite | split
  all_goals first
    | exact sub_mask rfl hM | exact InMask.auto

theorem State.deadReq_keeps {M : Nat} {z s : State} {page : Nat} (hz : Keeps M z s) (hM : 0x2100000040202 ||| M = M)
    (hp : InMask M page := by exact InMask.auto) :
    Keeps M z (State.deadReq s page) := by
  unfold State.deadReq
  try dsimp only
  with_reducible repeat' first
    | assumption | apply State.endReq_keeps | apply State.setTest_keeps | apply Keeps.ite | split
  all_goals first
    | exact sub_mask rfl hM | exact InMask.auto

theorem State.leakJudged_keeps {M : Nat} {z s : State} {page : Nat} (hz : Keeps M z s) (hM : 0x10f20612003940c602
    ||| M = M) (hp : InMask M page := by exact InMask.auto) :
    Keeps M z (State.leakJudged s page) := by
  unfold State.leakJudged
  try dsimp only
  with_reducible repeat' first
    | assumption | apply State.retire_keeps | apply State.laneRetire_keeps | apply State.linkFollow_keeps
    | apply State.tileThreshold_keeps | apply Keeps.ite | split
  all_goals first
    | exact sub_mask rfl hM | exact InMask.auto

theorem State.unitBoundary_keeps {M : Nat} {z s : State} {page : Nat} (hz : Keeps M z s) (hM : 0x11ef22e5632fbc4d69e
    ||| M = M) (hp : InMask M page := by exact InMask.auto) :
    Keeps M z (State.unitBoundary s page) := by
  unfold State.unitBoundary
  try dsimp only
  with_reducible repeat' first
    | assumption | apply State.setAux_keeps | apply State.autoUnit_keeps | apply State.stepUnit_keeps
    | apply State.takeReq_keeps | apply State.deadReq_keeps | apply State.leakJudged_keeps | apply Keeps.ite
    | split
  all_goals first
    | exact sub_mask rfl hM | exact InMask.auto

theorem State.gcmTest_keeps {M : Nat} {z s : State} {page : Nat} {pass : Bool} (hz : Keeps M z s) (hM :
    0x200000000002 ||| M = M) :
    Keeps M z (State.gcmTest s page pass) := by
  unfold State.gcmTest
  try dsimp only
  with_reducible repeat' first
    | assumption | apply State.testBit_keeps | apply Keeps.ite
  all_goals exact sub_mask rfl hM

theorem State.nextTick_keeps {M : Nat} {z s : State} (hz : Keeps M z s) (hM : 0x4800 ||| M = M) :
    Keeps M z s.nextTick := by
  have h : ∀ n : Nat, Keeps M z { s with count := n, safe := { s.safe with ticks := s.safe.ticks + 1 } } := by
    intro n
    refine Keeps.step (m := 0x4800) (x := s) ?_ (sub_mask rfl hM) hz
    constructor <;> intro hh <;> first
      | rfl | exact fun _ => rfl | exact absurd hh (by decide) | exact ⟨hh.regs, hh.ddr, hh.flash, hh.direct, hh.stores⟩
  unfold State.nextTick
  exact h s.nextBoundary

theorem State.crossBoundary_keeps {M : Nat} {z s : State} (hz : Keeps M z s) (hM : 0x14000000481e ||| M = M) :
    Keeps M z (State.crossBoundary s) := by
  unfold State.crossBoundary
  try dsimp only
  with_reducible repeat' first
    | assumption | apply State.commit_keeps | apply State.nextTick_keeps | apply State.updateWindow_keeps
    | apply State.setFld_keeps | apply Keeps.ite | split
  all_goals first
    | exact sub_mask rfl hM | exact InMask.auto

theorem State.rykUnitsBoundary_keeps {M : Nat} {z s : State} (hz : Keeps M z s) (hM : 0x11ef22e5632fbc4d69e ||| M = M) :
    Keeps M z (State.rykUnitsBoundary s) := by
  unfold State.rykUnitsBoundary
  refine Keeps.foldl_mem _ (fun a p hp ha => ?_) hz
  have e : pageClass p = 0x1C := by simpa using (List.mem_filter.mp hp).2
  exact State.unitBoundary_keeps ha (sub_mask rfl hM) (.of hM (.one 0x1C rfl (Or.inl e)))

theorem State.linksBoundary_keeps {M : Nat} {z s : State} {before : State} (hz : Keeps M z s) (hM :
    0x11ef22e5632fbc5d69e ||| M = M) :
    Keeps M z (State.linksBoundary before s) := by
  unfold State.linksBoundary
  try dsimp only
  with_reducible repeat' first
    | assumption | apply State.laneBoundary_keeps | apply State.rykPump_keeps | apply State.linkFollow_keeps
    | apply State.opeBoundary_keeps | apply State.rykUnitsBoundary_keeps | apply Keeps.ite
    | (apply Keeps.foldl; intro _ _ _) | split
  all_goals first
    | exact sub_mask rfl hM | exact InMask.auto

theorem State.unitsBoundary_keeps {M : Nat} {z s : State} (hz : Keeps M z s) (hM : 0x17ffffffe32fbc4d69e ||| M = M)
    :
    Keeps M z (State.unitsBoundary s) := by
  unfold State.unitsBoundary
  try dsimp only
  with_reducible repeat' first
    | assumption | apply State.setFld_keeps | apply State.unitBoundary_keeps | apply State.releaseHeld_keeps
    | apply Keeps.ite | (apply Keeps.foldl; intro _ _ _) | split
  all_goals first
    | exact sub_mask rfl hM | exact InMask.auto

theorem State.bypassBoundary_keeps {M : Nat} {z s : State} (hz : Keeps M z s) (hM : 0x10000000000002 ||| M = M) :
    Keeps M z (State.bypassBoundary s) := by
  unfold State.bypassBoundary
  try dsimp only
  with_reducible repeat' first
    | assumption | apply State.setFld_keeps | apply State.syncPolicies_keeps | apply Keeps.ite
    | (apply Keeps.foldl; intro _ _ _)
  all_goals first
    | exact sub_mask rfl hM | exact InMask.auto

theorem State.keepLatched_keeps {M : Nat} {z s : State} {before : State} (hz : Keeps M z s) (hM : 0x400000 ||| M = M) :
    Keeps M z (State.keepLatched before s) := by
  unfold State.keepLatched
  try dsimp only
  with_reducible repeat' first
    | assumption | apply State.pipeMap_keeps | apply Keeps.ite | split
  all_goals exact sub_mask rfl hM

theorem State.portsBoundary_keeps {M : Nat} {z s : State} {before : State} {due : List Nat} (hz : Keeps M z s) (hM :
    0x1000ed212000270460e ||| M = M) :
    Keeps M z (State.portsBoundary before due s) := by
  unfold State.portsBoundary
  try dsimp only
  with_reducible repeat' first
    | assumption | apply State.lfpBoundary_keeps | apply State.mscBoundary_keeps | apply State.pairBoundary_keeps
    | apply State.bypassBoundary_keeps | apply State.keepLatched_keeps | apply Keeps.ite
    | (apply Keeps.foldl; intro _ _ _) | split
  all_goals first
    | exact sub_mask rfl hM | exact InMask.auto

theorem State.declBoundary_keeps {M : Nat} {z s : State} (hz : Keeps M z s) (hM : 0x1000000000000002 ||| M = M) :
    Keeps M z (State.declBoundary s) := by
  unfold State.declBoundary
  try dsimp only
  with_reducible repeat' first
    | assumption | apply State.setFld_keeps | apply Keeps.ite | (apply Keeps.foldl; intro _ _ _)
  all_goals first
    | exact sub_mask rfl hM | exact InMask.auto

theorem State.netBoundary_keeps {M : Nat} {z s : State} (hz : Keeps M z s) (hM : 0x17ffffffe0000000002 ||| M = M) :
    Keeps M z (State.netBoundary s) := by
  unfold State.netBoundary
  try dsimp only
  with_reducible repeat' first
    | assumption | apply State.tileBoundary_keeps | apply State.setFld_keeps | apply Keeps.ite
    | (apply Keeps.foldl; intro _ _ _)
  all_goals first
    | exact sub_mask rfl hM | exact InMask.auto

theorem State.tiersBoundary_keeps {M : Nat} {z s : State} (hz : Keeps M z s) (hM : 0x20000004402 ||| M = M) :
    Keeps M z (State.tiersBoundary s) := by
  unfold State.tiersBoundary
  try dsimp only
  with_reducible repeat' first
    | assumption | apply State.milestone_keeps | apply Keeps.ite
  all_goals exact sub_mask rfl hM

theorem State.loadBoundary_keeps {M : Nat} {z s : State} (hz : Keeps M z s) (hM : 0x1000000000 ||| M = M) :
    Keeps M z (State.loadBoundary s) := by
  unfold State.loadBoundary
  try dsimp only
  with_reducible repeat' first
    | assumption | apply State.loadMap_keeps | apply Keeps.ite | split
  all_goals exact sub_mask rfl hM

theorem State.regionsBoundary_keeps {M : Nat} {z s : State} (hz : Keeps M z s) (hM : 0x1002501000400202 ||| M = M) :
    Keeps M z (State.regionsBoundary s) := by
  unfold State.regionsBoundary
  try dsimp only
  with_reducible repeat' first
    | assumption | apply State.fenceRegion_keeps | apply Keeps.ite | (apply Keeps.foldl; intro _ _ _) | split
  all_goals first
    | exact sub_mask rfl hM | exact InMask.auto

theorem State.carveBoundary_keeps {M : Nat} {z s : State} {before : State} {i : Nat} (hz : Keeps M z s) (hM : 0x400000
    ||| M = M) :
    Keeps M z (State.carveBoundary before s i) := by
  unfold State.carveBoundary
  try dsimp only
  with_reducible repeat' first
    | assumption | apply State.setFrame_keeps | apply Keeps.ite | (apply Keeps.foldl; intro _ _ _) | split
  all_goals exact sub_mask rfl hM

theorem State.blocksBoundary_keeps {M : Nat} {z s : State} {before : State} {due : List Nat} (hz : Keeps M z s) (hM
    : 0x17ffffffe72fff5d69e ||| M = M) :
    Keeps M z (State.blocksBoundary before due s) := by
  unfold State.blocksBoundary
  try dsimp only
  with_reducible repeat' first
    | assumption | apply State.thermBoundary_keeps | apply State.ledgerBoundary_keeps
    | apply State.flowBoundary_keeps | apply State.liveBoundary_keeps | apply State.pumpBoundary_keeps
    | apply State.batchBoundary_keeps | apply State.lwlBoundary_keeps | apply State.watchPeers_keeps
    | apply State.collTick_keeps | apply State.fmapBoundary_keeps | apply State.linksBoundary_keeps
    | apply State.unitsBoundary_keeps | apply State.portsBoundary_keeps | apply State.declBoundary_keeps
    | apply State.netBoundary_keeps | apply State.tiersBoundary_keeps | apply State.loadBoundary_keeps
    | apply State.regionsBoundary_keeps | apply State.carveBoundary_keeps | apply Keeps.ite | split
  all_goals first
    | exact sub_mask rfl hM | exact InMask.auto

theorem State.forceUnits_keeps {M : Nat} {z s : State} (hz : Keeps M z s) (hM : 0x4 ||| M = M) :
    Keeps M z (State.forceUnits s) := by
  unfold State.forceUnits
  try dsimp only
  with_reducible repeat' first
    | assumption | apply Keeps.ite | (apply Keeps.foldl; intro _ _ _) | split | apply Keeps.set_force
  all_goals exact sub_mask rfl hM

theorem State.islandUnits_keeps {M : Nat} {z s : State} (hz : Keeps M z s) (hM : 0x17ffffffe32fbc4d69e ||| M = M) :
    Keeps M z (State.islandUnits s) := by
  unfold State.islandUnits
  try dsimp only
  with_reducible repeat' first
    | assumption | apply State.unitBoundary_keeps | apply State.forceUnits_keeps | apply Keeps.ite
    | (apply Keeps.foldl; intro _ _ _) | split
  all_goals first
    | exact sub_mask rfl hM | exact InMask.auto

theorem State.turnTicks_keeps {M : Nat} {z s : State} (hz : Keeps M z s) (hM : 0x200 ||| M = M) :
    Keeps M z (State.turnTicks s) := by
  unfold State.turnTicks
  try dsimp only
  with_reducible repeat' first
    | assumption | apply State.emit_keeps | apply Keeps.ite | (apply Keeps.foldl; intro _ _ _) | split
  all_goals exact sub_mask rfl hM

theorem State.refBoundary_keeps {M : Nat} {z s : State} {v : Int} (hz : Keeps M z s) (hM : 0x4000001000002 ||| M = M) :
    Keeps M z (State.refBoundary s v) := by
  unfold State.refBoundary
  try dsimp only
  with_reducible repeat' first
    | assumption | apply State.setOffset_keeps | apply Keeps.ite | split | apply Keeps.set_ryk
  all_goals first
    | exact sub_mask rfl hM | exact InMask.auto

theorem State.fireMarks_keeps {M : Nat} {z s : State} (hz : Keeps M z s) (hM : 0x17ffffffe00000016e2 ||| M = M) :
    Keeps M z (State.fireMarks s) := by
  unfold State.fireMarks
  try dsimp only
  with_reducible repeat' first
    | assumption | apply State.fireMark_keeps | apply Keeps.ite | (apply Keeps.foldl; intro _ _ _) | split
  all_goals first
    | exact sub_mask rfl hM | exact InMask.auto

theorem State.turnBoundary_keeps {M : Nat} {z s : State} {m : TurnMeasure} (hz : Keeps M z s) (hM :
    0x17ffffffe72fff5defe ||| M = M) :
    Keeps M z (State.turnBoundary s m) := by
  unfold State.turnBoundary
  try dsimp only
  with_reducible repeat' first
    | assumption | apply State.snapshotArmed_keeps | apply State.windlassBoundary_keeps
    | apply State.syncPolicies_keeps | apply State.fecBoundary_keeps | apply State.crossBoundary_keeps
    | apply State.blocksBoundary_keeps | apply State.forceUnits_keeps | apply State.refBoundary_keeps
    | apply State.islandUnits_keeps | apply State.turnTicks_keeps | apply State.fireMarks_keeps | apply Keeps.ite
    | (apply Keeps.foldl; intro _ _ _) | split
  all_goals first
    | exact sub_mask rfl hM | exact InMask.auto

theorem State.setUpd_keeps {M : Nat} {z s : State} {v reason : Nat} (hz : Keeps M z s) (hM : 0x1000000000002 ||| M =
    M) :
    Keeps M z (State.setUpd s v reason) := by
  unfold State.setUpd
  try dsimp only
  with_reducible repeat' first
    | assumption | apply State.setFld_keeps
  all_goals first
    | exact sub_mask rfl hM | exact InMask.auto

theorem State.updEnd_keeps {M : Nat} {z s : State} {v reason : Nat} (hz : Keeps M z s) (hM : 0x3004000000202 ||| M =
    M) :
    Keeps M z (State.updEnd s v reason) := by
  unfold State.updEnd
  try dsimp only
  with_reducible repeat' first
    | assumption | apply State.tellHost_keeps | apply State.setUpd_keeps | apply State.cpcMap_keeps | apply Keeps.ite
    | split
  all_goals first
    | exact sub_mask rfl hM | exact InMask.auto

theorem State.dropBlocks_keeps {M : Nat} {z s : State} {adopts : Nat} (hz : Keeps M z s) (hM : 0x3004000000202 ||| M
    = M) :
    Keeps M z (State.dropBlocks s adopts) := by
  unfold State.dropBlocks
  try dsimp only
  with_reducible repeat' first
    | assumption | apply State.cpcMap_keeps | apply State.mbAnswer_keeps | apply State.dutiesNow_keeps
    | apply State.endColls_keeps | apply Keeps.ite | split
  all_goals first
    | exact sub_mask rfl hM | exact InMask.auto

theorem State.resumeFw_keeps {M : Nat} {z s : State} {u : Update} (hz : Keeps M z s) (hM : 0x3020000004602 ||| M =
    M) :
    Keeps M z (State.resumeFw s u) := by
  unfold State.resumeFw
  try dsimp only
  with_reducible repeat' first
    | assumption | apply State.setFw_keeps | apply State.setFld_keeps | apply Keeps.ite | split
  all_goals first
    | exact sub_mask rfl hM | exact InMask.auto

theorem State.reagree_keeps {M : Nat} {z s : State} (hz : Keeps M z s) (hM : 0x3000000000202 ||| M = M) :
    Keeps M z (State.reagree s) := by
  unfold State.reagree
  try dsimp only
  with_reducible repeat' first
    | assumption | apply State.tellHost_keeps | apply State.setAgreed_keeps | apply Keeps.ite | split
  all_goals first
    | exact sub_mask rfl hM | exact InMask.auto

theorem State.forceIrqs_keeps {M : Nat} {z s : State} {page : Nat} {v : Word} (hz : Keeps M z s) (hM :
    0x2000000000202 ||| M = M) (hp : InMask M page := by exact InMask.auto) :
    Keeps M z (State.forceIrqs s page v) := by
  unfold State.forceIrqs
  try dsimp only
  with_reducible repeat' first
    | assumption | apply State.raiseIrq_keeps | apply Keeps.ite | (apply Keeps.foldl; intro _ _ _)
  all_goals first
    | exact sub_mask rfl hM | exact InMask.auto

theorem State.afterRead_keeps {M : Nat} {z s : State} {pages : List Nat} (hz : Keeps M z s) (hM : 0x800 ||| M = M) :
    Keeps M z (State.afterRead s pages) := by
  unfold State.afterRead
  try dsimp only
  with_reducible repeat' first
    | assumption | apply State.at_keeps | apply Keeps.ite | split
  all_goals exact sub_mask rfl hM

theorem State.snapTrigger_keeps {M : Nat} {z s : State} {page : Nat} (hz : Keeps M z s) (hM : 0xce2 ||| M = M) (hp :
    InMask M page := by exact InMask.auto) :
    Keeps M z (State.snapTrigger s page) := by
  unfold State.snapTrigger
  try dsimp only
  with_reducible repeat' first
    | assumption | apply State.setFld_keeps | apply State.snapshot_keeps | apply State.afterRead_keeps
    | apply Keeps.ite | split
  all_goals first
    | exact sub_mask rfl hM | exact InMask.auto

theorem State.headerWritten_keeps {M : Nat} {z s : State} {page off : Nat} {v : Word} (hz : Keeps M z s) (hM :
    0x2000000000ee2 ||| M = M) (hp : InMask M page := by exact InMask.auto) :
    Keeps M z (State.headerWritten s page off v) := by
  unfold State.headerWritten
  try dsimp only
  with_reducible repeat' first
    | assumption | apply State.forceIrqs_keeps | apply State.snapTrigger_keeps | apply Keeps.ite | split
  all_goals first
    | exact sub_mask rfl hM | exact InMask.auto

theorem State.epochFloor_keeps {M : Nat} {z s : State} (hz : Keeps M z s) (hM : 0x20000000000002 ||| M = M) :
    Keeps M z (State.epochFloor s) := by
  unfold State.epochFloor
  try dsimp only
  with_reducible repeat' first
    | assumption | apply State.maxFld_keeps | apply Keeps.ite
  all_goals first
    | exact sub_mask rfl hM | exact InMask.auto

theorem State.groupReinstate_keeps {M : Nat} {z s : State} {q : Nat} (hz : Keeps M z s) (hM : 0x20000200000002 ||| M
    = M) :
    Keeps M z (State.groupReinstate s q) := by
  unfold State.groupReinstate
  try dsimp only
  with_reducible repeat' first
    | assumption | apply State.reinstateItem_keeps | apply Keeps.ite | (apply Keeps.foldl; intro _ _ _)
  all_goals exact sub_mask rfl hM

theorem State.columnReinstate_keeps {M : Nat} {z s : State} {m : Nat} (hz : Keeps M z s) (hM : 0x20000200000002 |||
    M = M) :
    Keeps M z (State.columnReinstate s m) := by
  unfold State.columnReinstate
  try dsimp only
  with_reducible repeat' first
    | assumption | apply State.reinstateItem_keeps | apply State.setFld_keeps | apply Keeps.ite | split
  all_goals first
    | exact sub_mask rfl hM | exact InMask.auto

theorem State.refCandWritten_keeps {M : Nat} {z s : State} {old : Nat} (hz : Keeps M z s) (hM : 0x100006020001004602 ||| M = M) :
    Keeps M z (State.refCandWritten s old) := by
  unfold State.refCandWritten
  try dsimp only
  with_reducible repeat' first
    | assumption | apply State.candLost_keeps | apply Keeps.ite | (apply Keeps.foldl; intro _ _ _) | split
  all_goals first
    | exact sub_mask rfl hM | exact InMask.auto

theorem State.pathWritten_keeps {M : Nat} {z s : State} {s0 : State} {page off : Nat} (hz : Keeps M z s) (hM : 0x19627e12025101c60e ||| M = M) (hp : InMask M page := by exact InMask.auto) :
    Keeps M z (State.pathWritten s0 s page off) := by
  unfold State.pathWritten
  repeat' split
  all_goals first
    | exact hz
    | (with_reducible first
        | apply State.refRoleWritten_keeps hz | apply State.refCandWritten_keeps hz | apply State.anRestart_keeps hz | apply State.aprRestart_keeps hz
        | apply State.chReinstate_keeps hz | apply State.policyWritten_keeps hz | apply State.forceWritten_keeps hz
        | apply State.epochFloor_keeps hz | apply State.groupReinstate_keeps hz | apply State.columnReinstate_keeps hz
        | apply State.ftInitWritten_keeps hz | apply State.progWritten_keeps hz | apply State.armProbe_keeps hz
        | apply State.maxFld_keeps hz | apply State.retireWritten_keeps hz | apply State.rykPump_keeps hz) <;> first | exact sub_mask rfl hM | exact InMask.auto

theorem State.lockPage_keeps {M : Nat} {z s : State} {page : Nat} (hz : Keeps M z s) (hM : 0x2 ||| M = M) (hp :
    InMask M page := by exact InMask.auto) :
    Keeps M z (State.lockPage s page) := by
  unfold State.lockPage
  try dsimp only
  with_reducible repeat' first
    | assumption | apply State.setFld_keeps
  all_goals first
    | exact sub_mask rfl hM | exact InMask.auto

theorem State.lockAll_keeps {M : Nat} {z s : State} (hz : Keeps M z s) (hM : 0x17ffffffe0000000002 ||| M = M) :
    Keeps M z (State.lockAll s) := by
  unfold State.lockAll
  try dsimp only
  with_reducible repeat' first
    | assumption | apply State.setFld_keeps | apply State.lockPage_keeps | apply Keeps.ite
    | (apply Keeps.foldl; intro _ _ _)
  all_goals first
    | exact sub_mask rfl hM | exact InMask.auto

theorem State.snapAll_keeps {M : Nat} {z s : State} (hz : Keeps M z s) (hM : 0x17ffffffe0000000ce2 ||| M = M) :
    Keeps M z (State.snapAll s) := by
  unfold State.snapAll
  try dsimp only
  with_reducible repeat' first
    | assumption | apply State.setFld_keeps | apply State.snapshot_keeps | apply State.afterRead_keeps
    | apply Keeps.ite | (apply Keeps.foldl; intro _ _ _) | split
  all_goals first
    | exact sub_mask rfl hM | exact InMask.auto

theorem State.secGo_keeps {M : Nat} {z s : State} (hz : Keeps M z s) (hM : 0x2200000000202 ||| M = M) :
    Keeps M z (State.secGo s) := by
  unfold State.secGo
  try dsimp only
  with_reducible repeat' first
    | assumption | apply State.setFld_keeps | apply State.incFld_keeps | apply State.secAnswer_keeps | apply Keeps.ite
    | split
  all_goals first
    | exact sub_mask rfl hM | exact InMask.auto

theorem State.lockFn_keeps {M : Nat} {z s : State} {f : Nat} (hz : Keeps M z s) (hM : 0x1000000000000000002 ||| M =
    M) :
    Keeps M z (State.lockFn s f) := by
  unfold State.lockFn
  try dsimp only
  with_reducible repeat' first
    | assumption | apply State.lockPage_keeps | apply Keeps.ite | (apply Keeps.foldl; intro _ _ _)
  all_goals first
    | exact sub_mask rfl hM | exact InMask.auto

theorem State.systemWritten_keeps {M : Nat} {z s : State} {s0 : State} {page off : Nat} {v : Word} (hz : Keeps M z
    s) (hM : 0x17ffffffe7afff5fefe ||| M = M) (hp : InMask M page := by exact InMask.auto) :
    Keeps M z (State.systemWritten s0 s page off v) := by
  unfold State.systemWritten
  try dsimp only
  with_reducible repeat' first
    | assumption | apply State.lockAll_keeps | apply State.snapAll_keeps | apply State.armMark_keeps
    | apply State.capWritten_keeps | apply State.debtAdd_keeps | apply State.syncAllAttention_keeps
    | apply State.ctlEnter_keeps | apply State.ctlRestart_keeps | apply State.secGo_keeps
    | apply State.cfgContinue_keeps | apply State.setFld_keeps | apply State.partGo_keeps | apply State.flashGo_keeps
    | apply State.kick_keeps | apply State.maxFld_keeps | apply State.mbGo_keeps | apply State.dumpNow_keeps
    | apply State.sendPending_keeps | apply State.lockFn_keeps | apply Keeps.ite | split | apply Keeps.set_count
  all_goals first
    | exact sub_mask rfl hM | exact InMask.auto

theorem State.storeWritten_keeps {M : Nat} {z s : State} {page off : Nat} {v : Word} {own : Bool} {size : Nat} (hz :
    Keeps M z s) (hM : 0x17ffffffe7afff5fefe ||| M = M) (hp : InMask M page := by exact InMask.auto) :
    Keeps M z (State.storeWritten s page off v own size) := by
  unfold State.storeWritten
  try dsimp only
  with_reducible repeat' first
    | assumption | apply State.applyWrite_keeps | apply State.headerWritten_keeps | apply State.sendPending_keeps
    | apply State.pathWritten_keeps | apply State.systemWritten_keeps | apply Keeps.ite | split
  all_goals first
    | exact sub_mask rfl hM | exact InMask.auto | exact .full .auto

theorem State.userWrite_keeps {M : Nat} {z s : State} {o v : Nat} (hz : Keeps M z s) (hM : 0x200 ||| M = M) :
    Keeps M z (State.userWrite s o v) := by
  unfold State.userWrite
  try dsimp only
  with_reducible repeat' first
    | assumption | apply State.emit_keeps | apply Keeps.ite | split
  all_goals exact sub_mask rfl hM

theorem State.fireFirst_keeps {M : Nat} {z s : State} {m : Nat} (hz : Keeps M z s) (hM : 0x17ffffffe00000016e2 ||| M = M) :
    Keeps M z (State.fireFirst s m) := by
  unfold State.fireFirst
  try dsimp only
  with_reducible repeat' first
    | assumption | apply State.fireMarks_keeps | apply Keeps.ite | split
  all_goals first
    | exact sub_mask rfl hM | exact InMask.auto

theorem State.fullWrite_keeps {M : Nat} {z s : State} {page off : Nat} {v : Word} {own : Bool} {size : Nat} (hz : Keeps M z s) (hM : 0x17ffffffe7bfff5fefe ||| M = M) (hp : InMask M page := by exact InMask.auto) :
    Keeps M z (State.fullWrite s page off v own size) := by
  unfold State.fullWrite
  dsimp only
  with_reducible repeat' first
    | exact hz | apply State.emit_keeps hz | apply State.incFld_keeps hz | apply State.slotWrite_keeps hz | apply State.freePost_keeps hz
    | apply State.ringCtlWrite_keeps hz | apply State.ctxBindWrite_keeps hz
    | refine State.cfgReadyWrite_keeps (State.applyWrite_keeps hz ?_) ?_
    | refine State.storeWritten_keeps (State.fireFirst_keeps hz ?_) ?_
    | apply State.tableWrite_keeps hz | apply State.lwTableWrite_keeps hz | apply State.storeWritten_keeps hz
    | refine State.writePn_keeps hz ?_ (fun t ht => State.applyWrite_keeps ht ?_) | apply State.userWrite_keeps hz | apply Keeps.ite | split
  all_goals first | exact sub_mask rfl hM | exact InMask.auto

theorem State.narrowWrite_keeps {M : Nat} {z s : State} {p : Part} {own : Bool} (hz : Keeps M z s) (hM :
    0x210000000021a ||| M = M) (hp : InMask M p.page := by exact InMask.auto) :
    Keeps M z (State.narrowWrite s p own) := by
  unfold State.narrowWrite
  try dsimp only
  with_reducible repeat' first
    | assumption | apply State.recordFault_keeps | apply State.applyWrite_keeps | apply Keeps.ite | split
  all_goals first
    | exact sub_mask rfl hM | exact InMask.auto | exact .full .auto

theorem State.writePart_keeps {M : Nat} {z s : State} {p : Part} {v : Word} {own : Bool} (hz : Keeps M z s) (hM :
    0x17ffffffe7bfff5fefe ||| M = M) (hp : InMask M p.page := by exact InMask.auto) :
    Keeps M z (State.writePart s p v own) := by
  unfold State.writePart
  try dsimp only
  with_reducible repeat' first
    | assumption | apply State.unmapped_keeps | apply State.fullWrite_keeps | apply State.narrowWrite_keeps
    | apply Keeps.ite | split
  all_goals first
    | exact sub_mask rfl hM | exact InMask.auto | exact .full .auto

theorem State.writeParts_keeps {M : Nat} {z s : State} {pageOf : Nat → Nat} {addr : Nat} {data : List (Option (BitVec 8))} {own : Bool} {l : List (Nat × Nat)} (hz : Keeps M z s) (hM : 0x17ffffffe7bfff5fefe ||| M = M) :
    Keeps M z (s.writeParts pageOf addr data own l) := by
  induction l generalizing s with
  | nil => exact hz
  | cons e t ih => exact ih (State.writePart_keeps hz (sub_mask rfl hM))

theorem State.readWideLo_keeps {M : Nat} {z s : State} {page off : Nat} (hz : Keeps M z s) (hM : 0x82 ||| M = M) (hp
    : InMask M page := by exact InMask.auto) :
    Keeps M z (State.readWideLo s page off) := by
  unfold State.readWideLo
  try dsimp only
  with_reducible repeat' first
    | assumption | apply State.setReg_keeps | apply State.clearCounter_keeps | apply Keeps.ite | split
  all_goals first
    | exact sub_mask rfl hM | exact InMask.auto | exact .reg .auto

theorem State.ptpReach_keeps {M : Nat} {z s : State} {t : Nat} (hz : Keeps M z s) (hM : 0x100000000000082 ||| M = M) :
    Keeps M z (State.ptpReach s t) := by
  unfold State.ptpReach
  try dsimp only
  with_reducible repeat' first
    | assumption | apply State.setReg_keeps | apply Keeps.ite | split | apply Keeps.set_wideHi
  all_goals first
    | exact sub_mask rfl hM | exact InMask.auto | exact .reg .auto

theorem State.ptpRead_keeps {M : Nat} {z s : State} (hz : Keeps M z s) (hM : 0x100000000000482 ||| M = M) :
    Keeps M z (State.ptpRead s) := by
  unfold State.ptpRead
  try dsimp only
  with_reducible repeat' first
    | assumption | apply State.drawn_keeps | apply State.ptpReach_keeps | apply Keeps.ite | split
  all_goals first
    | exact sub_mask rfl hM | exact InMask.auto

theorem State.readEffect_keeps {M : Nat} {z s : State} {page off : Nat} (hz : Keeps M z s) (hM :
    0x4001210c0000000582 ||| M = M) (hp : InMask M page := by exact InMask.auto) :
    Keeps M z (State.readEffect s page off) := by
  unfold State.readEffect
  try dsimp only
  with_reducible repeat' first
    | assumption | apply State.setFld_keeps | apply State.drawn_keeps | apply State.lwTableRead_keeps
    | apply State.dumpRead_keeps | apply State.readWideLo_keeps | apply State.clearCounter_keeps
    | apply State.ptpRead_keeps | apply State.setReg_keeps | apply Keeps.ite | split
  all_goals first
    | exact sub_mask rfl hM | exact InMask.auto | exact .reg .auto

theorem State.userTimeout_keeps {M : Nat} {z s : State} (hz : Keeps M z s) (hM : 0x1002000000000202 ||| M = M) :
    Keeps M z (State.userTimeout s) := by
  unfold State.userTimeout
  try dsimp only
  with_reducible repeat' first
    | assumption | apply State.raiseIrq_keeps | apply State.incFld_keeps | apply Keeps.ite | split
  all_goals first
    | exact sub_mask rfl hM | exact InMask.auto

theorem State.readReg_keeps {M : Nat} {z s : State} {page off be : Nat} (hz : Keeps M z s) (hM :
    0x4011230c0000000782 ||| M = M) (hp : InMask M page := by exact InMask.auto) :
    Keeps M z (State.readReg s page off be).2 := by
  unfold State.readReg
  try dsimp only
  with_reducible repeat' first
    | assumption | apply State.emit_keeps | apply State.drawn_keeps | apply State.incFld_keeps
    | apply State.ptpRead_keeps | apply State.userTimeout_keeps | apply State.readEffect_keeps | apply Keeps.ite | split
  all_goals first
    | exact sub_mask rfl hM | exact InMask.auto

theorem State.readPart_keeps {M : Nat} {z s : State} {page off be : Nat} (hz : Keeps M z s) (hM :
    0x4011230e0000000782 ||| M = M) (hp : InMask M page := by exact InMask.auto) :
    Keeps M z (State.readPart s page off be).2 := by
  unfold State.readPart
  try dsimp only
  with_reducible repeat' first
    | assumption | apply State.unmapped_keeps | apply State.readReg_keeps | apply Keeps.ite
    | refine Keeps.of_snd (by assumption) ?_ | split
  all_goals first
    | exact sub_mask rfl hM | exact InMask.auto

theorem State.readParts_keeps {M : Nat} {z s : State} {pageOf : Nat → Nat} {l : List (Nat × Nat)} (hz : Keeps M z s) (hM : 0x17ffffffe0000000782 ||| M = M) :
    Keeps M z (s.readParts pageOf l) := by
  induction l generalizing s with
  | nil => exact hz
  | cons e t ih => exact ih (Keeps.set_rdata _ (sub_mask rfl hM) (State.readPart_keeps hz (sub_mask rfl hM)))

theorem State.ctlPacket_keeps {M : Nat} {z s : State} {r : Nat} {p : Packet} (hz : Keeps M z s) (hM :
    0x17ffffffe7bfff5fffe ||| M = M) :
    Keeps M z (State.ctlPacket s r p) := by
  unfold State.ctlPacket
  try dsimp only
  with_reducible repeat' first
    | assumption | apply State.fullWrite_keeps | apply State.readReg_keeps | apply State.inject_keeps
    | apply Keeps.ite | refine Keeps.of_snd (by assumption) ?_ | split
  all_goals first
    | exact sub_mask rfl hM | exact InMask.auto

theorem State.loadWrite_keeps {M : Nat} {z s : State} {x : LoadSection} {page o : Nat} {v : Word} (hz : Keeps M z s)
    (hM : 0x17ffffffe7bfff5fefe ||| M = M) (hp : InMask M page := by exact InMask.auto) :
    Keeps M z (State.loadWrite s x page o v) := by
  unfold State.loadWrite
  try dsimp only
  with_reducible repeat' first
    | assumption | apply State.setSect_keeps | apply State.writePart_keeps | apply State.incFld_keeps
    | apply State.loadMap_keeps | apply State.configured_keeps | apply Keeps.ite | split
  all_goals first
    | exact sub_mask rfl hM | exact InMask.auto | exact .full .auto

end Sys2Proof.Machine
end

