-- ==== Sys2Proof/Laws/Memory.lean ====
section
/-!
SUPPORT. What the operations over byte memories do to one byte: clearing a run, erasing a sector, programming.
-/

set_option Elab.async false

namespace Sys2Proof.Machine

open Sys2Proof

/-- A map with the keys of some set left out. -/
theorem FMap.get?_filter_keys {α : Type} (m : FMap α) (q : Nat → Bool) (k : Nat) :
    FMap.get? (m.filter (fun e => q e.1)) k = if q k = true then FMap.get? m k else none := by
  induction m with
  | nil => simp
  | cons e t ih =>
    obtain ⟨a, x⟩ := e
    by_cases h : q a = true
    · rw [List.filter_cons_of_pos (by simpa using h), FMap.get?_cons, ih, FMap.get?_cons]
      split
      · rename_i hk; rw [if_pos (hk ▸ h)]
      · rfl
    · rw [List.filter_cons_of_neg (by simpa using h), ih, FMap.get?_cons]
      by_cases hk : a = k
      · rw [if_neg (hk ▸ h), if_neg (hk ▸ h)]
      · rw [if_neg hk]

/-- A byte read after a run of addresses was put back to the unlisted value. -/
theorem Mem.byte_clear (d : BitVec 8) (m : Mem) (a n a' : Nat) :
    Mem.byte d (Mem.clear m a n) a' = if a ≤ a' ∧ a' < a + n then d.toNat else Mem.byte d m a' := by
  unfold Mem.byte Mem.clear FMap.getD
  rw [FMap.get?_filter_keys m (fun k => !(decide (a ≤ k) && decide (k < a + n)))]
  by_cases h : a ≤ a' ∧ a' < a + n
  · rw [if_neg (by simp [h]), if_pos h]; rfl
  · rw [if_pos (by simp; omega), if_neg h]

/-- A byte read after an erase of its sector is all ones; every other byte reads as before. -/
theorem State.byte_eraseSector (s : State) (k a : Nat) :
    Mem.byte 0xFF (s.eraseSector k).flash.mem a = if a / 65536 = k then 255 else Mem.byte 0xFF s.flash.mem a := by
  show Mem.byte 0xFF (Mem.clear s.flash.mem (65536 * k) 65536) a = _
  rw [Mem.byte_clear]
  by_cases h : a / 65536 = k
  · rw [if_pos (by omega), if_pos h]; rfl
  · rw [if_neg (by omega), if_neg h]

/-- A byte read after bytes were programmed: its bits and those programmed, or as before outside them. -/
theorem byte_programBytes (m : FMap (BitVec 8)) (a : Nat) (b : List Nat) (a' : Nat) :
    Mem.byte 0xFF (programBytes m a b) a' =
      if a ≤ a' ∧ a' < a + b.length then (Mem.byte 0xFF m a' &&& b.getD (a' - a) 0) % 256 else Mem.byte 0xFF m a' := by
  induction b generalizing m a with
  | nil => rw [if_neg (by rw [List.length_nil]; omega)]; rfl
  | cons v t ih =>
    rw [programBytes, ih, Mem.byte_setByte]
    by_cases h : a' = a
    · subst h
      rw [if_neg (by omega), if_pos rfl, if_pos (by simp)]
      simp
    · by_cases h2 : a + 1 ≤ a' ∧ a' < a + 1 + t.length
      · rw [if_pos h2, if_neg h, if_pos (by simp; omega)]
        have : a' - a = (a' - (a + 1)) + 1 := by omega
        rw [this]; simp
      · rw [if_neg h2, if_neg h, if_neg (by rw [List.length_cons]; omega)]

end Sys2Proof.Machine
end

