-- ==== Sys2Proof/Laws/Pieces.lean ====
section
/-!
SUPPORT. From the masks of `Keeps` to the pieces of the state that statements name.
-/

set_option Elab.async false

namespace Sys2Proof.Machine

open Sys2Proof

/-- The mask bit of a piece: 40 + c for the registers of class c, otherwise its place among State's fields. -/
def Piece.bit (x : Piece) : Nat :=
  match x with
  | .regs c => 40 + c
  | .pending => 0
  | .force => 2
  | .late => 3
  | .written => 4
  | .snaps => 5
  | .snapAt => 6
  | .wideHi => 7
  | .rdata => 8
  | .out => 9
  | .draws => 10
  | .count => 11
  | .wdl => 12
  | .pins => 13
  | .safe => 14
  | .lanes => 15
  | .chans => 16
  | .rref => 17
  | .units => 18
  | .fns => 19
  | .ports => 20
  | .saks => 21
  | .pipe => 22
  | .ddr => 23
  | .ryk => 24
  | .host => 25
  | .energy => 26
  | .net => 27
  | .tiles => 28
  | .batches => 29
  | .memory => 30
  | .pumps => 31
  | .pcie => 32
  | .lwl => 33
  | .sec => 34
  | .flash => 35
  | .load => 36
  | .fabric => 37
  | .cpc => 38
  | .tap => 39
  | .clk => 1

/-- A piece whose bit is not in the mask reads the same. -/
theorem Keeps.same {M : Nat} {s t : State} (h : Keeps M s t) (x : Piece) (hx : M.testBit x.bit = false) : x.same s t := by
  cases x with
  | regs c =>
    intro page off hc h0
    refine h.file _ (fun hm => ?_)
    have hp : regKey page off / 4096 = page := by unfold regKey; omega
    rw [hp] at hm
    rcases hm.cls with h1 | h1
    · exact h0 (hc ▸ h1)
    · rw [hc] at h1
      exact Bool.false_ne_true (hx.symm.trans h1)
  | pending => exact h.pending hx
  | force => exact h.force hx
  | late => exact ⟨h.late hx, h.held hx⟩
  | written => exact h.written hx
  | snaps => exact h.snaps hx
  | snapAt => exact h.snapAt hx
  | wideHi => exact h.wideHi hx
  | rdata => exact h.rdata hx
  | out => exact h.out hx
  | draws => exact h.draws hx
  | count => exact h.count hx
  | wdl => exact h.wdl hx
  | pins => exact h.pins hx
  | safe => exact h.safe hx
  | lanes => exact h.lanes hx
  | chans => exact h.chans hx
  | rref => exact h.rref hx
  | units => exact h.units hx
  | fns => exact h.fns hx
  | ports => exact h.ports hx
  | saks => exact h.saks hx
  | pipe => exact h.pipe hx
  | ddr => exact h.ddr hx
  | ryk => exact h.ryk hx
  | host => exact h.host hx
  | energy => exact h.energy hx
  | net => exact h.net hx
  | tiles => exact h.tiles hx
  | batches => exact h.batches hx
  | memory => exact h.memory hx
  | pumps => exact h.pumps hx
  | pcie => exact h.pcie hx
  | lwl => exact h.lwl hx
  | sec => exact h.sec hx
  | flash => exact h.flash hx
  | load => exact h.load hx
  | fabric => exact h.fabric hx
  | cpc => exact h.cpc hx
  | tap => exact h.tap hx
  | clk => exact h.clk hx

end Sys2Proof.Machine
end

