-- ==== Sys2Proof/Laws/State.lean ====
section
/-!
SUPPORT. One law for each component of State under each of the plainest updates: what the update leaves, and what it sets.
-/

set_option Elab.async false

namespace Sys2Proof.Machine

open Sys2Proof

/-! ### The registers under an update of another component -/

@[simp] theorem State.reg_mk (s : State) (a0 a2 a3 a4 a5 a6 a7 a8 a9 a10 a11 a12 a13 a14 a15 a16 a17 a18 a19 a20 a21 a22 a23 a24 a25 a26 a27 a28 a29 a30 a31 a32 a33 a34 a35 a36 a37 a38 a39 a40 a41) (k : Nat) :
    State.reg ⟨a0, s.regs, a2, a3, a4, a5, a6, a7, a8, a9, a10, a11, a12, a13, a14, a15, a16, a17, a18, a19, a20, a21, a22, a23, a24, a25, a26, a27, a28, a29, a30, a31, a32, a33, a34, a35, a36, a37, a38, a39, a40, a41⟩ k = s.reg k := rfl

@[simp] theorem State.fld_mk (s : State) (a0 a2 a3 a4 a5 a6 a7 a8 a9 a10 a11 a12 a13 a14 a15 a16 a17 a18 a19 a20 a21 a22 a23 a24 a25 a26 a27 a28 a29 a30 a31 a32 a33 a34 a35 a36 a37 a38 a39 a40 a41) (p : Nat) (f : Fld) :
    State.fld ⟨a0, s.regs, a2, a3, a4, a5, a6, a7, a8, a9, a10, a11, a12, a13, a14, a15, a16, a17, a18, a19, a20, a21, a22, a23, a24, a25, a26, a27, a28, a29, a30, a31, a32, a33, a34, a35, a36, a37, a38, a39, a40, a41⟩ p f = s.fld p f := rfl

@[simp] theorem State.inForce_mk (s : State) (a0 a1 a3 a4 a5 a6 a7 a8 a9 a10 a11 a12 a13 a14 a15 a16 a17 a18 a19 a20 a21 a22 a23 a24 a25 a26 a27 a28 a29 a30 a31 a32 a33 a34 a35 a36 a37 a38 a39 a40 a41) (p : Nat) (f : Fld) :
    State.inForce ⟨a0, a1, s.force, a3, a4, a5, a6, a7, a8, a9, a10, a11, a12, a13, a14, a15, a16, a17, a18, a19, a20, a21, a22, a23, a24, a25, a26, a27, a28, a29, a30, a31, a32, a33, a34, a35, a36, a37, a38, a39, a40, a41⟩ p f = s.inForce p f := rfl

@[simp] theorem State.setCount_count (s : State) (n) : (s.setCount n).count = n := rfl
@[simp] theorem State.fld_setCount (s : State) (n) (p : Nat) (g : Fld) : (s.setCount n).fld p g = s.fld p g := rfl

@[simp] theorem State.wdlMap_wdl (s : State) (f) : (s.wdlMap f).wdl = f s.wdl := rfl
@[simp] theorem State.fld_wdlMap (s : State) (f) (p : Nat) (g : Fld) : (s.wdlMap f).fld p g = s.fld p g := rfl

@[simp] theorem State.pinsMap_pins (s : State) (f) : (s.pinsMap f).pins = f s.pins := rfl
@[simp] theorem State.fld_pinsMap (s : State) (f) (p : Nat) (g : Fld) : (s.pinsMap f).fld p g = s.fld p g := rfl

@[simp] theorem State.safeMap_safe (s : State) (f) : (s.safeMap f).safe = f s.safe := rfl
@[simp] theorem State.fld_safeMap (s : State) (f) (p : Nat) (g : Fld) : (s.safeMap f).fld p g = s.fld p g := rfl

@[simp] theorem State.chansMap_chans (s : State) (f) : (s.chansMap f).chans = f s.chans := rfl
@[simp] theorem State.fld_chansMap (s : State) (f) (p : Nat) (g : Fld) : (s.chansMap f).fld p g = s.fld p g := rfl

@[simp] theorem State.pcieMap_pcie (s : State) (f) : (s.pcieMap f).pcie = f s.pcie := rfl
@[simp] theorem State.fld_pcieMap (s : State) (f) (p : Nat) (g : Fld) : (s.pcieMap f).fld p g = s.fld p g := rfl

@[simp] theorem State.setDdr_ddr (s : State) (m) : (s.setDdr m).ddr = m := rfl
@[simp] theorem State.fld_setDdr (s : State) (m) (p : Nat) (g : Fld) : (s.setDdr m).fld p g = s.fld p g := rfl

/-! ### setReg -/

@[simp] theorem State.setReg_pending (s : State) (k : Nat) (v : Word) : (s.setReg k v).pending = s.pending := rfl
@[simp] theorem State.setReg_force (s : State) (k : Nat) (v : Word) : (s.setReg k v).force = s.force := rfl
@[simp] theorem State.setReg_late (s : State) (k : Nat) (v : Word) : (s.setReg k v).late = s.late := rfl
@[simp] theorem State.setReg_written (s : State) (k : Nat) (v : Word) : (s.setReg k v).written = s.written := rfl
@[simp] theorem State.setReg_snaps (s : State) (k : Nat) (v : Word) : (s.setReg k v).snaps = s.snaps := rfl
@[simp] theorem State.setReg_snapAt (s : State) (k : Nat) (v : Word) : (s.setReg k v).snapAt = s.snapAt := rfl
@[simp] theorem State.setReg_wideHi (s : State) (k : Nat) (v : Word) : (s.setReg k v).wideHi = s.wideHi := rfl
@[simp] theorem State.setReg_rdata (s : State) (k : Nat) (v : Word) : (s.setReg k v).rdata = s.rdata := rfl
@[simp] theorem State.setReg_out (s : State) (k : Nat) (v : Word) : (s.setReg k v).out = s.out := rfl
@[simp] theorem State.setReg_draws (s : State) (k : Nat) (v : Word) : (s.setReg k v).draws = s.draws := rfl
@[simp] theorem State.setReg_count (s : State) (k : Nat) (v : Word) : (s.setReg k v).count = s.count := rfl
@[simp] theorem State.setReg_wdl (s : State) (k : Nat) (v : Word) : (s.setReg k v).wdl = s.wdl := rfl
@[simp] theorem State.setReg_pins (s : State) (k : Nat) (v : Word) : (s.setReg k v).pins = s.pins := rfl
@[simp] theorem State.setReg_safe (s : State) (k : Nat) (v : Word) : (s.setReg k v).safe = s.safe := rfl
@[simp] theorem State.setReg_lanes (s : State) (k : Nat) (v : Word) : (s.setReg k v).lanes = s.lanes := rfl
@[simp] theorem State.setReg_chans (s : State) (k : Nat) (v : Word) : (s.setReg k v).chans = s.chans := rfl
@[simp] theorem State.setReg_rref (s : State) (k : Nat) (v : Word) : (s.setReg k v).rref = s.rref := rfl
@[simp] theorem State.setReg_units (s : State) (k : Nat) (v : Word) : (s.setReg k v).units = s.units := rfl
@[simp] theorem State.setReg_fns (s : State) (k : Nat) (v : Word) : (s.setReg k v).fns = s.fns := rfl
@[simp] theorem State.setReg_ports (s : State) (k : Nat) (v : Word) : (s.setReg k v).ports = s.ports := rfl
@[simp] theorem State.setReg_saks (s : State) (k : Nat) (v : Word) : (s.setReg k v).saks = s.saks := rfl
@[simp] theorem State.setReg_pipe (s : State) (k : Nat) (v : Word) : (s.setReg k v).pipe = s.pipe := rfl
@[simp] theorem State.setReg_ddr (s : State) (k : Nat) (v : Word) : (s.setReg k v).ddr = s.ddr := rfl
@[simp] theorem State.setReg_ryk (s : State) (k : Nat) (v : Word) : (s.setReg k v).ryk = s.ryk := rfl
@[simp] theorem State.setReg_host (s : State) (k : Nat) (v : Word) : (s.setReg k v).host = s.host := rfl
@[simp] theorem State.setReg_energy (s : State) (k : Nat) (v : Word) : (s.setReg k v).energy = s.energy := rfl
@[simp] theorem State.setReg_net (s : State) (k : Nat) (v : Word) : (s.setReg k v).net = s.net := rfl
@[simp] theorem State.setReg_tiles (s : State) (k : Nat) (v : Word) : (s.setReg k v).tiles = s.tiles := rfl
@[simp] theorem State.setReg_batches (s : State) (k : Nat) (v : Word) : (s.setReg k v).batches = s.batches := rfl
@[simp] theorem State.setReg_memory (s : State) (k : Nat) (v : Word) : (s.setReg k v).memory = s.memory := rfl
@[simp] theorem State.setReg_pumps (s : State) (k : Nat) (v : Word) : (s.setReg k v).pumps = s.pumps := rfl
@[simp] theorem State.setReg_pcie (s : State) (k : Nat) (v : Word) : (s.setReg k v).pcie = s.pcie := rfl
@[simp] theorem State.setReg_lwl (s : State) (k : Nat) (v : Word) : (s.setReg k v).lwl = s.lwl := rfl
@[simp] theorem State.setReg_sec (s : State) (k : Nat) (v : Word) : (s.setReg k v).sec = s.sec := rfl
@[simp] theorem State.setReg_flash (s : State) (k : Nat) (v : Word) : (s.setReg k v).flash = s.flash := rfl
@[simp] theorem State.setReg_load (s : State) (k : Nat) (v : Word) : (s.setReg k v).load = s.load := rfl
@[simp] theorem State.setReg_fabric (s : State) (k : Nat) (v : Word) : (s.setReg k v).fabric = s.fabric := rfl
@[simp] theorem State.setReg_cpc (s : State) (k : Nat) (v : Word) : (s.setReg k v).cpc = s.cpc := rfl
@[simp] theorem State.setReg_tap (s : State) (k : Nat) (v : Word) : (s.setReg k v).tap = s.tap := rfl
@[simp] theorem State.setReg_clk (s : State) (k : Nat) (v : Word) : (s.setReg k v).clk = s.clk := rfl
@[simp] theorem State.setReg_held (s : State) (k : Nat) (v : Word) : (s.setReg k v).held = s.held := rfl

/-! ### setFld -/

@[simp] theorem State.setFld_pending (s : State) (p : Nat) (f : Fld) (x : Nat) : (s.setFld p f x).pending = s.pending := rfl
@[simp] theorem State.setFld_force (s : State) (p : Nat) (f : Fld) (x : Nat) : (s.setFld p f x).force = s.force := rfl
@[simp] theorem State.setFld_late (s : State) (p : Nat) (f : Fld) (x : Nat) : (s.setFld p f x).late = s.late := rfl
@[simp] theorem State.setFld_written (s : State) (p : Nat) (f : Fld) (x : Nat) : (s.setFld p f x).written = s.written := rfl
@[simp] theorem State.setFld_snaps (s : State) (p : Nat) (f : Fld) (x : Nat) : (s.setFld p f x).snaps = s.snaps := rfl
@[simp] theorem State.setFld_snapAt (s : State) (p : Nat) (f : Fld) (x : Nat) : (s.setFld p f x).snapAt = s.snapAt := rfl
@[simp] theorem State.setFld_wideHi (s : State) (p : Nat) (f : Fld) (x : Nat) : (s.setFld p f x).wideHi = s.wideHi := rfl
@[simp] theorem State.setFld_rdata (s : State) (p : Nat) (f : Fld) (x : Nat) : (s.setFld p f x).rdata = s.rdata := rfl
@[simp] theorem State.setFld_out (s : State) (p : Nat) (f : Fld) (x : Nat) : (s.setFld p f x).out = s.out := rfl
@[simp] theorem State.setFld_draws (s : State) (p : Nat) (f : Fld) (x : Nat) : (s.setFld p f x).draws = s.draws := rfl
@[simp] theorem State.setFld_count (s : State) (p : Nat) (f : Fld) (x : Nat) : (s.setFld p f x).count = s.count := rfl
@[simp] theorem State.setFld_wdl (s : State) (p : Nat) (f : Fld) (x : Nat) : (s.setFld p f x).wdl = s.wdl := rfl
@[simp] theorem State.setFld_pins (s : State) (p : Nat) (f : Fld) (x : Nat) : (s.setFld p f x).pins = s.pins := rfl
@[simp] theorem State.setFld_safe (s : State) (p : Nat) (f : Fld) (x : Nat) : (s.setFld p f x).safe = s.safe := rfl
@[simp] theorem State.setFld_lanes (s : State) (p : Nat) (f : Fld) (x : Nat) : (s.setFld p f x).lanes = s.lanes := rfl
@[simp] theorem State.setFld_chans (s : State) (p : Nat) (f : Fld) (x : Nat) : (s.setFld p f x).chans = s.chans := rfl
@[simp] theorem State.setFld_rref (s : State) (p : Nat) (f : Fld) (x : Nat) : (s.setFld p f x).rref = s.rref := rfl
@[simp] theorem State.setFld_units (s : State) (p : Nat) (f : Fld) (x : Nat) : (s.setFld p f x).units = s.units := rfl
@[simp] theorem State.setFld_fns (s : State) (p : Nat) (f : Fld) (x : Nat) : (s.setFld p f x).fns = s.fns := rfl
@[simp] theorem State.setFld_ports (s : State) (p : Nat) (f : Fld) (x : Nat) : (s.setFld p f x).ports = s.ports := rfl
@[simp] theorem State.setFld_saks (s : State) (p : Nat) (f : Fld) (x : Nat) : (s.setFld p f x).saks = s.saks := rfl
@[simp] theorem State.setFld_pipe (s : State) (p : Nat) (f : Fld) (x : Nat) : (s.setFld p f x).pipe = s.pipe := rfl
@[simp] theorem State.setFld_ddr (s : State) (p : Nat) (f : Fld) (x : Nat) : (s.setFld p f x).ddr = s.ddr := rfl
@[simp] theorem State.setFld_ryk (s : State) (p : Nat) (f : Fld) (x : Nat) : (s.setFld p f x).ryk = s.ryk := rfl
@[simp] theorem State.setFld_host (s : State) (p : Nat) (f : Fld) (x : Nat) : (s.setFld p f x).host = s.host := rfl
@[simp] theorem State.setFld_energy (s : State) (p : Nat) (f : Fld) (x : Nat) : (s.setFld p f x).energy = s.energy := rfl
@[simp] theorem State.setFld_net (s : State) (p : Nat) (f : Fld) (x : Nat) : (s.setFld p f x).net = s.net := rfl
@[simp] theorem State.setFld_tiles (s : State) (p : Nat) (f : Fld) (x : Nat) : (s.setFld p f x).tiles = s.tiles := rfl
@[simp] theorem State.setFld_batches (s : State) (p : Nat) (f : Fld) (x : Nat) : (s.setFld p f x).batches = s.batches := rfl
@[simp] theorem State.setFld_memory (s : State) (p : Nat) (f : Fld) (x : Nat) : (s.setFld p f x).memory = s.memory := rfl
@[simp] theorem State.setFld_pumps (s : State) (p : Nat) (f : Fld) (x : Nat) : (s.setFld p f x).pumps = s.pumps := rfl
@[simp] theorem State.setFld_pcie (s : State) (p : Nat) (f : Fld) (x : Nat) : (s.setFld p f x).pcie = s.pcie := rfl
@[simp] theorem State.setFld_lwl (s : State) (p : Nat) (f : Fld) (x : Nat) : (s.setFld p f x).lwl = s.lwl := rfl
@[simp] theorem State.setFld_sec (s : State) (p : Nat) (f : Fld) (x : Nat) : (s.setFld p f x).sec = s.sec := rfl
@[simp] theorem State.setFld_flash (s : State) (p : Nat) (f : Fld) (x : Nat) : (s.setFld p f x).flash = s.flash := rfl
@[simp] theorem State.setFld_load (s : State) (p : Nat) (f : Fld) (x : Nat) : (s.setFld p f x).load = s.load := rfl
@[simp] theorem State.setFld_fabric (s : State) (p : Nat) (f : Fld) (x : Nat) : (s.setFld p f x).fabric = s.fabric := rfl
@[simp] theorem State.setFld_cpc (s : State) (p : Nat) (f : Fld) (x : Nat) : (s.setFld p f x).cpc = s.cpc := rfl
@[simp] theorem State.setFld_tap (s : State) (p : Nat) (f : Fld) (x : Nat) : (s.setFld p f x).tap = s.tap := rfl
@[simp] theorem State.setFld_clk (s : State) (p : Nat) (f : Fld) (x : Nat) : (s.setFld p f x).clk = s.clk := rfl
@[simp] theorem State.setFld_held (s : State) (p : Nat) (f : Fld) (x : Nat) : (s.setFld p f x).held = s.held := rfl

/-! ### incFld -/

@[simp] theorem State.incFld_pending (s : State) (p : Nat) (f : Fld) (n : Nat) : (s.incFld p f n).pending = s.pending := rfl
@[simp] theorem State.incFld_force (s : State) (p : Nat) (f : Fld) (n : Nat) : (s.incFld p f n).force = s.force := rfl
@[simp] theorem State.incFld_late (s : State) (p : Nat) (f : Fld) (n : Nat) : (s.incFld p f n).late = s.late := rfl
@[simp] theorem State.incFld_written (s : State) (p : Nat) (f : Fld) (n : Nat) : (s.incFld p f n).written = s.written := rfl
@[simp] theorem State.incFld_snaps (s : State) (p : Nat) (f : Fld) (n : Nat) : (s.incFld p f n).snaps = s.snaps := rfl
@[simp] theorem State.incFld_snapAt (s : State) (p : Nat) (f : Fld) (n : Nat) : (s.incFld p f n).snapAt = s.snapAt := rfl
@[simp] theorem State.incFld_wideHi (s : State) (p : Nat) (f : Fld) (n : Nat) : (s.incFld p f n).wideHi = s.wideHi := rfl
@[simp] theorem State.incFld_rdata (s : State) (p : Nat) (f : Fld) (n : Nat) : (s.incFld p f n).rdata = s.rdata := rfl
@[simp] theorem State.incFld_out (s : State) (p : Nat) (f : Fld) (n : Nat) : (s.incFld p f n).out = s.out := rfl
@[simp] theorem State.incFld_draws (s : State) (p : Nat) (f : Fld) (n : Nat) : (s.incFld p f n).draws = s.draws := rfl
@[simp] theorem State.incFld_count (s : State) (p : Nat) (f : Fld) (n : Nat) : (s.incFld p f n).count = s.count := rfl
@[simp] theorem State.incFld_wdl (s : State) (p : Nat) (f : Fld) (n : Nat) : (s.incFld p f n).wdl = s.wdl := rfl
@[simp] theorem State.incFld_pins (s : State) (p : Nat) (f : Fld) (n : Nat) : (s.incFld p f n).pins = s.pins := rfl
@[simp] theorem State.incFld_safe (s : State) (p : Nat) (f : Fld) (n : Nat) : (s.incFld p f n).safe = s.safe := rfl
@[simp] theorem State.incFld_lanes (s : State) (p : Nat) (f : Fld) (n : Nat) : (s.incFld p f n).lanes = s.lanes := rfl
@[simp] theorem State.incFld_chans (s : State) (p : Nat) (f : Fld) (n : Nat) : (s.incFld p f n).chans = s.chans := rfl
@[simp] theorem State.incFld_rref (s : State) (p : Nat) (f : Fld) (n : Nat) : (s.incFld p f n).rref = s.rref := rfl
@[simp] theorem State.incFld_units (s : State) (p : Nat) (f : Fld) (n : Nat) : (s.incFld p f n).units = s.units := rfl
@[simp] theorem State.incFld_fns (s : State) (p : Nat) (f : Fld) (n : Nat) : (s.incFld p f n).fns = s.fns := rfl
@[simp] theorem State.incFld_ports (s : State) (p : Nat) (f : Fld) (n : Nat) : (s.incFld p f n).ports = s.ports := rfl
@[simp] theorem State.incFld_saks (s : State) (p : Nat) (f : Fld) (n : Nat) : (s.incFld p f n).saks = s.saks := rfl
@[simp] theorem State.incFld_pipe (s : State) (p : Nat) (f : Fld) (n : Nat) : (s.incFld p f n).pipe = s.pipe := rfl
@[simp] theorem State.incFld_ddr (s : State) (p : Nat) (f : Fld) (n : Nat) : (s.incFld p f n).ddr = s.ddr := rfl
@[simp] theorem State.incFld_ryk (s : State) (p : Nat) (f : Fld) (n : Nat) : (s.incFld p f n).ryk = s.ryk := rfl
@[simp] theorem State.incFld_host (s : State) (p : Nat) (f : Fld) (n : Nat) : (s.incFld p f n).host = s.host := rfl
@[simp] theorem State.incFld_energy (s : State) (p : Nat) (f : Fld) (n : Nat) : (s.incFld p f n).energy = s.energy := rfl
@[simp] theorem State.incFld_net (s : State) (p : Nat) (f : Fld) (n : Nat) : (s.incFld p f n).net = s.net := rfl
@[simp] theorem State.incFld_tiles (s : State) (p : Nat) (f : Fld) (n : Nat) : (s.incFld p f n).tiles = s.tiles := rfl
@[simp] theorem State.incFld_batches (s : State) (p : Nat) (f : Fld) (n : Nat) : (s.incFld p f n).batches = s.batches := rfl
@[simp] theorem State.incFld_memory (s : State) (p : Nat) (f : Fld) (n : Nat) : (s.incFld p f n).memory = s.memory := rfl
@[simp] theorem State.incFld_pumps (s : State) (p : Nat) (f : Fld) (n : Nat) : (s.incFld p f n).pumps = s.pumps := rfl
@[simp] theorem State.incFld_pcie (s : State) (p : Nat) (f : Fld) (n : Nat) : (s.incFld p f n).pcie = s.pcie := rfl
@[simp] theorem State.incFld_lwl (s : State) (p : Nat) (f : Fld) (n : Nat) : (s.incFld p f n).lwl = s.lwl := rfl
@[simp] theorem State.incFld_sec (s : State) (p : Nat) (f : Fld) (n : Nat) : (s.incFld p f n).sec = s.sec := rfl
@[simp] theorem State.incFld_flash (s : State) (p : Nat) (f : Fld) (n : Nat) : (s.incFld p f n).flash = s.flash := rfl
@[simp] theorem State.incFld_load (s : State) (p : Nat) (f : Fld) (n : Nat) : (s.incFld p f n).load = s.load := rfl
@[simp] theorem State.incFld_fabric (s : State) (p : Nat) (f : Fld) (n : Nat) : (s.incFld p f n).fabric = s.fabric := rfl
@[simp] theorem State.incFld_cpc (s : State) (p : Nat) (f : Fld) (n : Nat) : (s.incFld p f n).cpc = s.cpc := rfl
@[simp] theorem State.incFld_tap (s : State) (p : Nat) (f : Fld) (n : Nat) : (s.incFld p f n).tap = s.tap := rfl
@[simp] theorem State.incFld_held (s : State) (p : Nat) (f : Fld) (n : Nat) : (s.incFld p f n).held = s.held := rfl

/-! ### What the present clock's events note -/

@[simp] theorem State.reg_noteAt (s : State) (j : Nat) (g : RegAt → RegAt) (k : Nat) : (s.noteAt j g).reg k = s.reg k := rfl
@[simp] theorem State.fld_noteAt (s : State) (j : Nat) (g : RegAt → RegAt) (p : Nat) (f : Fld) : (s.noteAt j g).fld p f = s.fld p f := rfl
@[simp] theorem State.reg_noteSet (s : State) (q : Nat) (g : Fld) (k : Nat) : (s.noteSet q g).reg k = s.reg k := rfl
@[simp] theorem State.fld_noteSet (s : State) (q : Nat) (g : Fld) (p : Nat) (f : Fld) : (s.noteSet q g).fld p f = s.fld p f := rfl
@[simp] theorem State.reg_noteCount (s : State) (q : Nat) (g : Fld) (n k : Nat) : (s.noteCount q g n).reg k = s.reg k := rfl
@[simp] theorem State.fld_noteCount (s : State) (q : Nat) (g : Fld) (n p : Nat) (f : Fld) : (s.noteCount q g n).fld p f = s.fld p f := rfl
@[simp] theorem State.reg_releaseHeld (s : State) (q k : Nat) : (s.releaseHeld q).reg k = s.reg k := rfl
@[simp] theorem State.fld_releaseHeld (s : State) (q p : Nat) (f : Fld) : (s.releaseHeld q).fld p f = s.fld p f := rfl
@[simp] theorem State.reg_releaseLater (s : State) (q k : Nat) : (s.releaseLater q).reg k = s.reg k := rfl
@[simp] theorem State.fld_releaseLater (s : State) (q p : Nat) (f : Fld) : (s.releaseLater q).fld p f = s.fld p f := rfl

/-! ### emit -/

@[simp] theorem State.emit_pending (s : State) (e : Emit) : (s.emit e).pending = s.pending := rfl
@[simp] theorem State.emit_regs (s : State) (e : Emit) : (s.emit e).regs = s.regs := rfl
@[simp] theorem State.emit_force (s : State) (e : Emit) : (s.emit e).force = s.force := rfl
@[simp] theorem State.emit_late (s : State) (e : Emit) : (s.emit e).late = s.late := rfl
@[simp] theorem State.emit_written (s : State) (e : Emit) : (s.emit e).written = s.written := rfl
@[simp] theorem State.emit_snaps (s : State) (e : Emit) : (s.emit e).snaps = s.snaps := rfl
@[simp] theorem State.emit_snapAt (s : State) (e : Emit) : (s.emit e).snapAt = s.snapAt := rfl
@[simp] theorem State.emit_wideHi (s : State) (e : Emit) : (s.emit e).wideHi = s.wideHi := rfl
@[simp] theorem State.emit_rdata (s : State) (e : Emit) : (s.emit e).rdata = s.rdata := rfl
@[simp] theorem State.emit_draws (s : State) (e : Emit) : (s.emit e).draws = s.draws := rfl
@[simp] theorem State.emit_count (s : State) (e : Emit) : (s.emit e).count = s.count := rfl
@[simp] theorem State.emit_wdl (s : State) (e : Emit) : (s.emit e).wdl = s.wdl := rfl
@[simp] theorem State.emit_pins (s : State) (e : Emit) : (s.emit e).pins = s.pins := rfl
@[simp] theorem State.emit_safe (s : State) (e : Emit) : (s.emit e).safe = s.safe := rfl
@[simp] theorem State.emit_lanes (s : State) (e : Emit) : (s.emit e).lanes = s.lanes := rfl
@[simp] theorem State.emit_chans (s : State) (e : Emit) : (s.emit e).chans = s.chans := rfl
@[simp] theorem State.emit_rref (s : State) (e : Emit) : (s.emit e).rref = s.rref := rfl
@[simp] theorem State.emit_units (s : State) (e : Emit) : (s.emit e).units = s.units := rfl
@[simp] theorem State.emit_fns (s : State) (e : Emit) : (s.emit e).fns = s.fns := rfl
@[simp] theorem State.emit_ports (s : State) (e : Emit) : (s.emit e).ports = s.ports := rfl
@[simp] theorem State.emit_saks (s : State) (e : Emit) : (s.emit e).saks = s.saks := rfl
@[simp] theorem State.emit_pipe (s : State) (e : Emit) : (s.emit e).pipe = s.pipe := rfl
@[simp] theorem State.emit_ddr (s : State) (e : Emit) : (s.emit e).ddr = s.ddr := rfl
@[simp] theorem State.emit_ryk (s : State) (e : Emit) : (s.emit e).ryk = s.ryk := rfl
@[simp] theorem State.emit_host (s : State) (e : Emit) : (s.emit e).host = s.host := rfl
@[simp] theorem State.emit_energy (s : State) (e : Emit) : (s.emit e).energy = s.energy := rfl
@[simp] theorem State.emit_net (s : State) (e : Emit) : (s.emit e).net = s.net := rfl
@[simp] theorem State.emit_tiles (s : State) (e : Emit) : (s.emit e).tiles = s.tiles := rfl
@[simp] theorem State.emit_batches (s : State) (e : Emit) : (s.emit e).batches = s.batches := rfl
@[simp] theorem State.emit_memory (s : State) (e : Emit) : (s.emit e).memory = s.memory := rfl
@[simp] theorem State.emit_pumps (s : State) (e : Emit) : (s.emit e).pumps = s.pumps := rfl
@[simp] theorem State.emit_pcie (s : State) (e : Emit) : (s.emit e).pcie = s.pcie := rfl
@[simp] theorem State.emit_lwl (s : State) (e : Emit) : (s.emit e).lwl = s.lwl := rfl
@[simp] theorem State.emit_sec (s : State) (e : Emit) : (s.emit e).sec = s.sec := rfl
@[simp] theorem State.emit_flash (s : State) (e : Emit) : (s.emit e).flash = s.flash := rfl
@[simp] theorem State.emit_load (s : State) (e : Emit) : (s.emit e).load = s.load := rfl
@[simp] theorem State.emit_fabric (s : State) (e : Emit) : (s.emit e).fabric = s.fabric := rfl
@[simp] theorem State.emit_cpc (s : State) (e : Emit) : (s.emit e).cpc = s.cpc := rfl
@[simp] theorem State.emit_tap (s : State) (e : Emit) : (s.emit e).tap = s.tap := rfl
@[simp] theorem State.emit_clk (s : State) (e : Emit) : (s.emit e).clk = s.clk := rfl
@[simp] theorem State.emit_held (s : State) (e : Emit) : (s.emit e).held = s.held := rfl

/-! ### drawn -/

@[simp] theorem State.drawn_pending (s : State) : (s.drawn).pending = s.pending := rfl
@[simp] theorem State.drawn_regs (s : State) : (s.drawn).regs = s.regs := rfl
@[simp] theorem State.drawn_force (s : State) : (s.drawn).force = s.force := rfl
@[simp] theorem State.drawn_late (s : State) : (s.drawn).late = s.late := rfl
@[simp] theorem State.drawn_written (s : State) : (s.drawn).written = s.written := rfl
@[simp] theorem State.drawn_snaps (s : State) : (s.drawn).snaps = s.snaps := rfl
@[simp] theorem State.drawn_snapAt (s : State) : (s.drawn).snapAt = s.snapAt := rfl
@[simp] theorem State.drawn_wideHi (s : State) : (s.drawn).wideHi = s.wideHi := rfl
@[simp] theorem State.drawn_rdata (s : State) : (s.drawn).rdata = s.rdata := rfl
@[simp] theorem State.drawn_out (s : State) : (s.drawn).out = s.out := rfl
@[simp] theorem State.drawn_count (s : State) : (s.drawn).count = s.count := rfl
@[simp] theorem State.drawn_wdl (s : State) : (s.drawn).wdl = s.wdl := rfl
@[simp] theorem State.drawn_pins (s : State) : (s.drawn).pins = s.pins := rfl
@[simp] theorem State.drawn_safe (s : State) : (s.drawn).safe = s.safe := rfl
@[simp] theorem State.drawn_lanes (s : State) : (s.drawn).lanes = s.lanes := rfl
@[simp] theorem State.drawn_chans (s : State) : (s.drawn).chans = s.chans := rfl
@[simp] theorem State.drawn_rref (s : State) : (s.drawn).rref = s.rref := rfl
@[simp] theorem State.drawn_units (s : State) : (s.drawn).units = s.units := rfl
@[simp] theorem State.drawn_fns (s : State) : (s.drawn).fns = s.fns := rfl
@[simp] theorem State.drawn_ports (s : State) : (s.drawn).ports = s.ports := rfl
@[simp] theorem State.drawn_saks (s : State) : (s.drawn).saks = s.saks := rfl
@[simp] theorem State.drawn_pipe (s : State) : (s.drawn).pipe = s.pipe := rfl
@[simp] theorem State.drawn_ddr (s : State) : (s.drawn).ddr = s.ddr := rfl
@[simp] theorem State.drawn_ryk (s : State) : (s.drawn).ryk = s.ryk := rfl
@[simp] theorem State.drawn_host (s : State) : (s.drawn).host = s.host := rfl
@[simp] theorem State.drawn_energy (s : State) : (s.drawn).energy = s.energy := rfl
@[simp] theorem State.drawn_net (s : State) : (s.drawn).net = s.net := rfl
@[simp] theorem State.drawn_tiles (s : State) : (s.drawn).tiles = s.tiles := rfl
@[simp] theorem State.drawn_batches (s : State) : (s.drawn).batches = s.batches := rfl
@[simp] theorem State.drawn_memory (s : State) : (s.drawn).memory = s.memory := rfl
@[simp] theorem State.drawn_pumps (s : State) : (s.drawn).pumps = s.pumps := rfl
@[simp] theorem State.drawn_pcie (s : State) : (s.drawn).pcie = s.pcie := rfl
@[simp] theorem State.drawn_lwl (s : State) : (s.drawn).lwl = s.lwl := rfl
@[simp] theorem State.drawn_sec (s : State) : (s.drawn).sec = s.sec := rfl
@[simp] theorem State.drawn_flash (s : State) : (s.drawn).flash = s.flash := rfl
@[simp] theorem State.drawn_load (s : State) : (s.drawn).load = s.load := rfl
@[simp] theorem State.drawn_fabric (s : State) : (s.drawn).fabric = s.fabric := rfl
@[simp] theorem State.drawn_cpc (s : State) : (s.drawn).cpc = s.cpc := rfl
@[simp] theorem State.drawn_tap (s : State) : (s.drawn).tap = s.tap := rfl
@[simp] theorem State.drawn_clk (s : State) : (s.drawn).clk = s.clk := rfl
@[simp] theorem State.drawn_held (s : State) : (s.drawn).held = s.held := rfl
@[simp] theorem State.emit_out (s : State) (e : Emit) : (s.emit e).out = e :: s.out := rfl

@[simp] theorem State.reg_emit (s : State) (e : Emit) (k : Nat) : (s.emit e).reg k = s.reg k := rfl

@[simp] theorem State.fld_emit (s : State) (e : Emit) (p : Nat) (f : Fld) : (s.emit e).fld p f = s.fld p f := rfl

@[simp] theorem State.reg_drawn (s : State) (k : Nat) : s.drawn.reg k = s.reg k := rfl

@[simp] theorem State.fld_drawn (s : State) (p : Nat) (f : Fld) : s.drawn.fld p f = s.fld p f := rfl

/-! ### The offset within the turn -/

@[simp] theorem State.at_pending (s : State) (n : Nat) : (s.at n).pending = s.pending := by unfold State.at; split <;> rfl
@[simp] theorem State.at_regs (s : State) (n : Nat) : (s.at n).regs = s.regs := by unfold State.at; split <;> rfl
@[simp] theorem State.at_force (s : State) (n : Nat) : (s.at n).force = s.force := by unfold State.at; split <;> rfl
@[simp] theorem State.at_late (s : State) (n : Nat) : (s.at n).late = s.late := by unfold State.at; split <;> rfl
@[simp] theorem State.at_written (s : State) (n : Nat) : (s.at n).written = s.written := by unfold State.at; split <;> rfl
@[simp] theorem State.at_snaps (s : State) (n : Nat) : (s.at n).snaps = s.snaps := by unfold State.at; split <;> rfl
@[simp] theorem State.at_snapAt (s : State) (n : Nat) : (s.at n).snapAt = s.snapAt := by unfold State.at; split <;> rfl
@[simp] theorem State.at_wideHi (s : State) (n : Nat) : (s.at n).wideHi = s.wideHi := by unfold State.at; split <;> rfl
@[simp] theorem State.at_rdata (s : State) (n : Nat) : (s.at n).rdata = s.rdata := by unfold State.at; split <;> rfl
@[simp] theorem State.at_out (s : State) (n : Nat) : (s.at n).out = s.out := by unfold State.at; split <;> rfl
@[simp] theorem State.at_draws (s : State) (n : Nat) : (s.at n).draws = s.draws := by unfold State.at; split <;> rfl
@[simp] theorem State.at_wdl (s : State) (n : Nat) : (s.at n).wdl = s.wdl := by unfold State.at; split <;> rfl
@[simp] theorem State.at_pins (s : State) (n : Nat) : (s.at n).pins = s.pins := by unfold State.at; split <;> rfl
@[simp] theorem State.at_safe (s : State) (n : Nat) : (s.at n).safe = s.safe := by unfold State.at; split <;> rfl
@[simp] theorem State.at_lanes (s : State) (n : Nat) : (s.at n).lanes = s.lanes := by unfold State.at; split <;> rfl
@[simp] theorem State.at_chans (s : State) (n : Nat) : (s.at n).chans = s.chans := by unfold State.at; split <;> rfl
@[simp] theorem State.at_rref (s : State) (n : Nat) : (s.at n).rref = s.rref := by unfold State.at; split <;> rfl
@[simp] theorem State.at_units (s : State) (n : Nat) : (s.at n).units = s.units := by unfold State.at; split <;> rfl
@[simp] theorem State.at_fns (s : State) (n : Nat) : (s.at n).fns = s.fns := by unfold State.at; split <;> rfl
@[simp] theorem State.at_ports (s : State) (n : Nat) : (s.at n).ports = s.ports := by unfold State.at; split <;> rfl
@[simp] theorem State.at_saks (s : State) (n : Nat) : (s.at n).saks = s.saks := by unfold State.at; split <;> rfl
@[simp] theorem State.at_pipe (s : State) (n : Nat) : (s.at n).pipe = s.pipe := by unfold State.at; split <;> rfl
@[simp] theorem State.at_ddr (s : State) (n : Nat) : (s.at n).ddr = s.ddr := by unfold State.at; split <;> rfl
@[simp] theorem State.at_ryk (s : State) (n : Nat) : (s.at n).ryk = s.ryk := by unfold State.at; split <;> rfl
@[simp] theorem State.at_host (s : State) (n : Nat) : (s.at n).host = s.host := by unfold State.at; split <;> rfl
@[simp] theorem State.at_energy (s : State) (n : Nat) : (s.at n).energy = s.energy := by unfold State.at; split <;> rfl
@[simp] theorem State.at_net (s : State) (n : Nat) : (s.at n).net = s.net := by unfold State.at; split <;> rfl
@[simp] theorem State.at_tiles (s : State) (n : Nat) : (s.at n).tiles = s.tiles := by unfold State.at; split <;> rfl
@[simp] theorem State.at_batches (s : State) (n : Nat) : (s.at n).batches = s.batches := by unfold State.at; split <;> rfl
@[simp] theorem State.at_memory (s : State) (n : Nat) : (s.at n).memory = s.memory := by unfold State.at; split <;> rfl
@[simp] theorem State.at_pumps (s : State) (n : Nat) : (s.at n).pumps = s.pumps := by unfold State.at; split <;> rfl
@[simp] theorem State.at_pcie (s : State) (n : Nat) : (s.at n).pcie = s.pcie := by unfold State.at; split <;> rfl
@[simp] theorem State.at_lwl (s : State) (n : Nat) : (s.at n).lwl = s.lwl := by unfold State.at; split <;> rfl
@[simp] theorem State.at_sec (s : State) (n : Nat) : (s.at n).sec = s.sec := by unfold State.at; split <;> rfl
@[simp] theorem State.at_flash (s : State) (n : Nat) : (s.at n).flash = s.flash := by unfold State.at; split <;> rfl
@[simp] theorem State.at_load (s : State) (n : Nat) : (s.at n).load = s.load := by unfold State.at; split <;> rfl
@[simp] theorem State.at_fabric (s : State) (n : Nat) : (s.at n).fabric = s.fabric := by unfold State.at; split <;> rfl
@[simp] theorem State.at_cpc (s : State) (n : Nat) : (s.at n).cpc = s.cpc := by unfold State.at; split <;> rfl
@[simp] theorem State.at_tap (s : State) (n : Nat) : (s.at n).tap = s.tap := by unfold State.at; split <;> rfl
@[simp] theorem State.at_clk (s : State) (n : Nat) : (s.at n).clk = s.clk := by unfold State.at; split <;> rfl
@[simp] theorem State.at_held (s : State) (n : Nat) : (s.at n).held = s.held := by unfold State.at; split <;> rfl

@[simp] theorem State.reg_at (s : State) (n k : Nat) : (s.at n).reg k = s.reg k := by unfold State.at; split <;> rfl

@[simp] theorem State.fld_at (s : State) (n p : Nat) (f : Fld) : (s.at n).fld p f = s.fld p f := by unfold State.at; split <;> rfl

@[simp] theorem State.bit_at (s : State) (n p : Nat) (f : Fld) : (s.at n).bit p f = s.bit p f := by unfold State.at; split <;> rfl

@[simp] theorem State.inForce_at (s : State) (n p : Nat) (f : Fld) : (s.at n).inForce p f = s.inForce p f := by
  unfold State.at; split <;> rfl

end Sys2Proof.Machine
end

