-- ==== Sys2Proof/Laws/Registers.lean ====
section
/-!
SUPPORT. What the bookkeeping of interrupts, attention and unit states leaves of the register file: a register of a block's
own, past the page header and outside the pages that the bookkeeping itself writes, reads as before.
-/

set_option Elab.async false

namespace Sys2Proof.Machine

open Sys2Proof

/-! ### Reading past a field that was set -/

/-- A field of another offset. -/
theorem State.fld_setFld_off (s : State) (p : Nat) (f : Fld) (x p' : Nat) (f' : Fld) (h1 : f.off < 4096) (h2 : f'.off < 4096)
    (h : f'.off ≠ f.off) : (s.setFld p f x).fld p' f' = s.fld p' f' :=
  State.fld_setFld_ne _ _ _ _ _ _ (Or.inl (by unfold regKey; omega))

/-- A field of another page. -/
theorem State.fld_setFld_page (s : State) (p : Nat) (f : Fld) (x p' : Nat) (f' : Fld) (h1 : f.off < 4096) (h2 : f'.off < 4096)
    (h : p' ≠ p) : (s.setFld p f x).fld p' f' = s.fld p' f' :=
  State.fld_setFld_ne _ _ _ _ _ _ (Or.inl (by unfold regKey; omega))

/-- A field at other bits. -/
theorem State.fld_setFld_bits (s : State) (p : Nat) (f : Fld) (x p' : Nat) (f' : Fld)
    (h : f'.lo + f'.w ≤ f.lo ∨ f.lo + f.w ≤ f'.lo) : (s.setFld p f x).fld p' f' = s.fld p' f' :=
  State.fld_setFld_ne _ _ _ _ _ _ (Or.inr h)

theorem State.fld_incFld_off (s : State) (p : Nat) (f : Fld) (n p' : Nat) (f' : Fld) (h1 : f.off < 4096) (h2 : f'.off < 4096)
    (h : f'.off ≠ f.off) : (s.incFld p f n).fld p' f' = s.fld p' f' := State.fld_setFld_off _ _ _ _ _ _ h1 h2 h

theorem State.fld_incFld_page (s : State) (p : Nat) (f : Fld) (n p' : Nat) (f' : Fld) (h1 : f.off < 4096) (h2 : f'.off < 4096)
    (h : p' ≠ p) : (s.incFld p f n).fld p' f' = s.fld p' f' := State.fld_setFld_page _ _ _ _ _ _ h1 h2 h

theorem State.fld_incFld_bits (s : State) (p : Nat) (f : Fld) (n p' : Nat) (f' : Fld)
    (h : f'.lo + f'.w ≤ f.lo ∨ f.lo + f.w ≤ f'.lo) : (s.incFld p f n).fld p' f' = s.fld p' f' :=
  State.fld_setFld_bits _ _ _ _ _ _ h

/-- A counter field that was raised: one more, up to all ones (R135). -/
theorem State.fld_incFld_self (s : State) (p : Nat) (f : Fld) (n : Nat) (h : f.lo + f.w ≤ 32) :
    (s.incFld p f n).fld p f = min (s.fld p f + n) (2 ^ f.w - 1) := by
  unfold State.incFld
  rw [State.fld_setFld_self _ _ _ _ h]
  exact Nat.mod_eq_of_lt (by have := Nat.two_pow_pos f.w; omega)

/-! ### Interrupts -/

theorem State.fld_raiseVector (s : State) (fn v p : Nat) (f : Fld) (hv : v < 32) (h : f.off < 4096) (hp : p ≠ Pg.pci 1 ∧ p < 0x4000) :
    (s.raiseVector fn v).fld p f = s.fld p f := by
  unfold State.raiseVector
  split
  · exact State.fld_emit _ _ _ _
  · refine State.fld_setReg_ne _ _ _ _ _ ?_
    have h3 : Pg.pci 1 = 0x51 := rfl
    obtain ⟨h1, h2⟩ := hp
    unfold pbaKey
    split
    · show p * 4096 + f.off % 4096 ≠ Pg.pci 1 * 4096 + (0x240 + 4 * (v / 32)) % 4096
      omega
    · rename_i hf
      show p * 4096 + f.off % 4096 ≠ (0x4000 + 16 * fn + 15) * 4096 + (0x040 + 4 * (v / 32)) % 4096
      omega

/-- A vector raised on the page of PF0's own vectors leaves every other field there. -/
theorem State.fld_raiseVector_off (s : State) (v p : Nat) (f : Fld) (hv : v < 32) (h : f.off < 4096) (ho : f.off ≠ 0x240) :
    (s.raiseVector 0 v).fld p f = s.fld p f := by
  unfold State.raiseVector
  split
  · exact State.fld_emit _ _ _ _
  · refine State.fld_setReg_ne _ _ _ _ _ ?_
    have h3 : Pg.pci 1 = 0x51 := rfl
    show p * 4096 + f.off % 4096 ≠ Pg.pci 1 * 4096 + (0x240 + 4 * (v / 32)) % 4096
    omega

/-- A cause raised sets its own bit of IRQ_STATUS; no other register changes but PF0's pending vectors. -/
theorem State.fld_raiseIrq (s : State) (q b p : Nat) (f : Fld) (h : f.off < 4096) (h1 : f.off ≠ 0x020) (h2 : f.off ≠ 0x240) :
    (s.raiseIrq q b).fld p f = s.fld p f := by
  have k := State.fld_setFld_off s q ⟨0x020, b, 1⟩ 1 p f (by show (0x020 : Nat) < 4096; decide) h h1
  unfold State.raiseIrq
  dsimp only
  repeat' split
  all_goals first
    | exact k
    | rw [State.fld_raiseVector_off _ _ _ _ (by decide) h h2]; exact k

theorem State.fld_raiseIrq_page (s : State) (q b p : Nat) (f : Fld) (h : f.off < 4096) (h1 : p ≠ q) (h2 : p ≠ Pg.pci 1) (h3 : p < 0x4000) :
    (s.raiseIrq q b).fld p f = s.fld p f := by
  have k := State.fld_setFld_page s q ⟨0x020, b, 1⟩ 1 p f (by show (0x020 : Nat) < 4096; decide) h h1
  unfold State.raiseIrq
  dsimp only
  repeat' split
  all_goals first
    | exact k
    | rw [State.fld_raiseVector _ _ _ _ _ (by decide) h ⟨h2, h3⟩]; exact k

/-- The cause's own bit reads 1. -/
theorem State.irq_raiseIrq (s : State) (q b : Nat) (hb : b < 32) : (s.raiseIrq q b).fld q ⟨0x020, b, 1⟩ = 1 := by
  have k : (s.setFld q ⟨0x020, b, 1⟩ 1).fld q ⟨0x020, b, 1⟩ = 1 :=
    State.fld_setFld_self s q ⟨0x020, b, 1⟩ 1 (by show b + 1 ≤ 32; omega)
  unfold State.raiseIrq
  dsimp only
  repeat' split
  all_goals first
    | exact k
    | (rw [State.fld_raiseVector_off _ _ _ _ (by decide) (by show (0x020 : Nat) < 4096; decide) (by show (0x020 : Nat) ≠ 0x240; decide)]; exact k)

/-- Another cause's bit is left. -/
theorem State.irq_raiseIrq_ne (s : State) (q b b' : Nat) (h : b' ≠ b) :
    (s.raiseIrq q b).fld q ⟨0x020, b', 1⟩ = s.fld q ⟨0x020, b', 1⟩ := by
  have k := State.fld_setFld_bits s q ⟨0x020, b, 1⟩ 1 q ⟨0x020, b', 1⟩ (by show b' + 1 ≤ b ∨ b + 1 ≤ b'; omega)
  unfold State.raiseIrq
  dsimp only
  repeat' split
  all_goals first
    | exact k
    | (rw [State.fld_raiseVector_off _ _ _ _ (by decide) (by show (0x020 : Nat) < 4096; decide) (by show (0x020 : Nat) ≠ 0x240; decide)]; exact k)

/-! ### Attention, faults, unit states -/

/-- A choice between two states, read. -/
theorem State.fld_ite (c : Prop) [Decidable c] (a b : State) (p : Nat) (f : Fld) :
    (if c then a else b).fld p f = if c then a.fld p f else b.fld p f := by split <;> rfl

/-- A bit the hardware sets leaves another page. -/
theorem State.fld_hwSet_page (s : State) (q : Nat) (g : Fld) (p : Nat) (f : Fld) (hg : g.off < 4096) (hf : f.off < 4096)
    (h : p ≠ q) : (s.hwSet q g).fld p f = s.fld p f :=
  State.fld_setFld_page (s.noteSet q g) q g _ p f hg hf h

/-- A bit the hardware sets leaves another register. -/
theorem State.fld_hwSet_off (s : State) (q : Nat) (g : Fld) (p : Nat) (f : Fld) (hg : g.off < 4096) (hf : f.off < 4096)
    (h : f.off ≠ g.off) : (s.hwSet q g).fld p f = s.fld p f :=
  State.fld_setFld_off (s.noteSet q g) q g _ p f hg hf h

/-- Attention writes pages FLT and its mirror, and PF0's pending vectors. -/
theorem State.fld_syncAttention (s : State) (q p : Nat) (f : Fld) (h : f.off < 4096) (hp : Apart p) :
    (s.syncAttention q).fld p f = s.fld p f := by
  obtain ⟨h1, h2, h3, h4⟩ := hp
  unfold State.syncAttention
  dsimp only
  split
  · rfl
  · rename_i hq
    have hq : q < 0x4000 := by simp only [Bool.or_eq_true, decide_eq_true_eq] at hq; omega
    have k1 : ∀ (t : State) (o lo w x : Nat), o < 4096 → (t.setFld Pg.flt ⟨o, lo, w⟩ x).fld p f = t.fld p f := fun t o lo w x ho =>
      State.fld_setFld_page t _ ⟨o, lo, w⟩ _ _ _ ho h h1
    have k2 : ∀ (t : State) (o lo w x : Nat), o < 4096 → (t.setFld Pg.fltAtt ⟨o, lo, w⟩ x).fld p f = t.fld p f := fun t o lo w x ho =>
      State.fld_setFld_page t _ ⟨o, lo, w⟩ _ _ _ ho h h2
    have k3 : ∀ t : State, (t.hwSet Pg.flt F.FLT_FIRST_VALID).fld p f = t.fld p f := fun t =>
      State.fld_hwSet_page t _ _ _ _ (by decide) h h1
    have ha : 0x040 + 4 * (q / 32) < 4096 := by omega
    have hg : 0x900 + 4 * (q / 1024) < 4096 := by omega
    split
    · simp (disch := first | assumption | decide | exact ⟨h3, h4⟩) only [State.fld_ite, State.fld_raiseVector, State.fld_raiseIrq_page, k1, k2, k3,
        F.FLT_STATUS_ATT_PAGES, F.FLT_FIRST_b0, F.FLT_FIRST_TURN, F.FLT_LAST_b0, F.FLT_LAST_VALID,
        F.FLT_STATUS_ANY, ite_self]
    · simp (disch := first | assumption | decide) only [State.fld_ite, k1, k2, F.FLT_STATUS_ATT_PAGES, F.FLT_STATUS_ANY, ite_self]

theorem State.fld_setFault (s : State) (q b : Nat) (p : Nat) (f : Fld) (h : Own p f.off) : (s.setFault q b).fld p f = s.fld p f := by
  obtain ⟨⟨h1, h2⟩, h3⟩ := h
  have k : ∀ (t : State) (q o lo w x : Nat), o < 0x040 → (t.setFld q ⟨o, lo, w⟩ x).fld p f = t.fld p f := fun t q o lo w x ho =>
    State.fld_setFld_off t q ⟨o, lo, w⟩ x p f (by show o < 4096; omega) h2 (by show f.off ≠ o; omega)
  unfold State.setFault
  simp (disch := first | assumption | decide | exact ⟨⟨h1, h2⟩, h3⟩) only [State.hwSet, k, State.fld_syncAttention, State.fld_noteSet]

theorem State.fld_putFault (s : State) (q b v : Nat) (p : Nat) (f : Fld) (h : Own p f.off) : (s.putFault q b v).fld p f = s.fld p f := by
  obtain ⟨⟨h1, h2⟩, h3⟩ := h
  have k : ∀ (t : State) (q o lo w x : Nat), o < 0x040 → (t.setFld q ⟨o, lo, w⟩ x).fld p f = t.fld p f := fun t q o lo w x ho =>
    State.fld_setFld_off t q ⟨o, lo, w⟩ x p f (by show o < 4096; omega) h2 (by show f.off ≠ o; omega)
  unfold State.putFault
  simp (disch := first | assumption | decide | exact ⟨⟨h1, h2⟩, h3⟩) only [k, State.fld_syncAttention]

theorem State.fld_syncPermanent (s : State) (q : Nat) (p : Nat) (f : Fld) (h : Own p f.off) : (s.syncPermanent q).fld p f = s.fld p f := by
  obtain ⟨⟨h1, h2⟩, h3⟩ := h
  have k : ∀ (t : State) (q o lo w x : Nat), o < 0x040 → (t.setFld q ⟨o, lo, w⟩ x).fld p f = t.fld p f := fun t q o lo w x ho =>
    State.fld_setFld_off t q ⟨o, lo, w⟩ x p f (by show o < 4096; omega) h2 (by show f.off ≠ o; omega)
  unfold State.syncPermanent
  simp (disch := first | assumption | decide | exact ⟨⟨h1, h2⟩, h3⟩) only [k, State.fld_putFault, F.HDR_FAULT_CLASS_PERMANENT]

theorem State.fld_setUnit (s : State) (q st r : Nat) (y : Bool) (p : Nat) (f : Fld) (h : Own p f.off) : (s.setUnit q st r y).fld p f = s.fld p f := by
  obtain ⟨⟨h1, h2⟩, h3⟩ := h
  have k : ∀ (t : State) (q o lo w x : Nat), o < 0x040 → (t.setFld q ⟨o, lo, w⟩ x).fld p f = t.fld p f := fun t q o lo w x ho =>
    State.fld_setFld_off t q ⟨o, lo, w⟩ x p f (by show o < 4096; omega) h2 (by show f.off ≠ o; omega)
  unfold State.setUnit
  simp (disch := first | assumption | decide | exact ⟨⟨h1, h2⟩, h3⟩) only [State.fld_ite, k, State.fld_syncPermanent, State.fld_setFault, F.HDR_UNIT_STATE_STATE, F.HDR_UNIT_STATE_REASON, ite_self]

theorem State.fld_configured (s : State) (q : Nat) (p : Nat) (f : Fld) (h : Own p f.off) : (s.configured q).fld p f = s.fld p f := by
  obtain ⟨⟨h1, h2⟩, h3⟩ := h
  unfold State.configured
  simp (disch := first | assumption | decide | exact ⟨⟨h1, h2⟩, h3⟩) only [State.fld_ite, State.fld_setUnit, State.fld_releaseHeld,
    State.fld_releaseLater, ite_self]

/-- A reached request changes its page's header only. -/
theorem State.reg_checkReached (s : State) (q k : Nat) (h1 : k ≠ regKey q 0x014) (h2 : k ≠ regKey q 0x00C) :
    (s.checkReached q).reg k = s.reg k := by
  unfold State.checkReached State.endReq State.ackReq State.setPending
  dsimp only
  rw [if_pos rfl]
  split
  · exact (State.reg_setReg_ne _ _ _ _ h2).trans (State.reg_setReg_ne _ _ _ _ h1)
  · rfl

theorem State.fld_checkReached (s : State) (q : Nat) (p : Nat) (f : Fld) (h : Own p f.off) : (s.checkReached q).fld p f = s.fld p f := by
  obtain ⟨⟨h1, h2⟩, -⟩ := h
  unfold State.fld
  rw [State.reg_checkReached] <;> (unfold regKey; omega)

theorem State.fld_fence (s : State) (q r : Nat) (p : Nat) (f : Fld) (h : Own p f.off) : (s.fence q r).fld p f = s.fld p f := by
  obtain ⟨⟨h1, h2⟩, h3⟩ := h
  unfold State.fence
  simp (disch := first | assumption | decide | exact ⟨⟨h1, h2⟩, h3⟩) only [State.fld_ite, State.fld_checkReached, State.fld_setUnit, ite_self]

theorem State.fld_retire (s : State) (q r : Nat) (p : Nat) (f : Fld) (h : Own p f.off) : (s.retire q r).fld p f = s.fld p f := by
  obtain ⟨⟨h1, h2⟩, h3⟩ := h
  unfold State.retire
  simp (disch := first | assumption | decide | exact ⟨⟨h1, h2⟩, h3⟩) only [State.fld_ite, State.fld_setUnit, ite_self]

theorem State.fld_fail (s : State) (q r : Nat) (p : Nat) (f : Fld) (h : Own p f.off) : (s.fail q r).fld p f = s.fld p f := by
  obtain ⟨⟨h1, h2⟩, h3⟩ := h
  unfold State.fail
  simp (disch := first | assumption | decide | exact ⟨⟨h1, h2⟩, h3⟩) only [State.fld_ite, State.fld_setUnit, ite_self]

theorem State.fld_transient (s : State) (q : Nat) (p : Nat) (f : Fld) (h : Own p f.off) : (s.transient q).fld p f = s.fld p f := by
  obtain ⟨⟨h1, h2⟩, h3⟩ := h
  have k : ∀ (t : State) (q o lo w x : Nat), o < 0x040 → (t.setFld q ⟨o, lo, w⟩ x).fld p f = t.fld p f := fun t q o lo w x ho =>
    State.fld_setFld_off t q ⟨o, lo, w⟩ x p f (by show o < 4096; omega) h2 (by show f.off ≠ o; omega)
  unfold State.transient
  simp (disch := first | assumption | decide | exact ⟨⟨h1, h2⟩, h3⟩) only [k, State.fld_setFault, F.HDR_FAULT_CLASS_WINDOW_CNT, F.HDR_FAULT_CLASS_TOTAL, State.incFld, State.fld_noteCount]

theorem State.fld_setSubRetired (s : State) (q : Nat) (b : Bool) (p : Nat) (f : Fld) (h : Own p f.off) : (s.setSubRetired q b).fld p f = s.fld p f := by
  obtain ⟨⟨h1, h2⟩, h3⟩ := h
  have k : ∀ (t : State) (q o lo w x : Nat), o < 0x040 → (t.setFld q ⟨o, lo, w⟩ x).fld p f = t.fld p f := fun t q o lo w x ho =>
    State.fld_setFld_off t q ⟨o, lo, w⟩ x p f (by show o < 4096; omega) h2 (by show f.off ≠ o; omega)
  unfold State.setSubRetired
  simp (disch := first | assumption | decide | exact ⟨⟨h1, h2⟩, h3⟩) only [k, State.fld_syncPermanent, F.HDR_FAULT_CLASS_SUB_RETIRED]

/-! ### Page headers -/

/-- A header register that attention does not write. -/
theorem State.fld_syncAttention_head (s : State) (q p : Nat) (f : Fld) (h : f.off < 0x040) (h0 : f.off ≠ 0x020) :
    (s.syncAttention q).fld p f = s.fld p f := by
  have h' : f.off < 4096 := by omega
  have h2 : f.off ≠ 0x240 := by omega
  unfold State.syncAttention
  dsimp only
  split
  · rfl
  · rename_i hq
    have hq : q < 0x4000 := by simp only [Bool.or_eq_true, decide_eq_true_eq] at hq; omega
    have k : ∀ (t : State) (q o lo w x : Nat), 0x040 ≤ o → o < 4096 → (t.setFld q ⟨o, lo, w⟩ x).fld p f = t.fld p f :=
      fun t q o lo w x ho ho' => State.fld_setFld_off t q ⟨o, lo, w⟩ _ _ _ ho' h' (by show f.off ≠ o; omega)
    have k3 : ∀ t : State, (t.hwSet Pg.flt F.FLT_FIRST_VALID).fld p f = t.fld p f := fun t =>
      State.fld_hwSet_off t _ _ _ _ (by decide) h' (by simp only [F.FLT_FIRST_VALID]; omega)
    have ha : 0x040 ≤ 0x040 + 4 * (q / 32) := by omega
    have ha' : 0x040 + 4 * (q / 32) < 4096 := by omega
    have hg : 0x040 ≤ 0x900 + 4 * (q / 1024) := by omega
    have hg' : 0x900 + 4 * (q / 1024) < 4096 := by omega
    split
    · simp (disch := first | assumption | decide) only [State.fld_ite, State.fld_raiseVector_off, State.fld_raiseIrq, k, k3,
        F.FLT_STATUS_ATT_PAGES, F.FLT_FIRST_b0, F.FLT_FIRST_TURN, F.FLT_LAST_b0, F.FLT_LAST_VALID,
        F.FLT_STATUS_ANY, ite_self]
    · simp (disch := first | assumption | decide) only [State.fld_ite, k, F.FLT_STATUS_ATT_PAGES, F.FLT_STATUS_ANY, ite_self]

/-- UNIT_STATE, IDENT and the request registers of any page. -/
abbrev Head (f : Fld) : Prop := f.off < 0x018

theorem State.fld_putFault_head (s : State) (q b v p : Nat) (f : Fld) (h : Head f) : (s.putFault q b v).fld p f = s.fld p f := by
  unfold State.putFault
  rw [State.fld_syncAttention_head _ _ _ _ (by omega) (by omega), State.fld_setFld_off _ _ _ _ _ _ (by show (0x018 : Nat) < 4096; decide) (by omega)
    (by show f.off ≠ 0x018; omega)]

theorem State.fld_setFault_head (s : State) (q b p : Nat) (f : Fld) (h : Head f) : (s.setFault q b).fld p f = s.fld p f :=
  State.fld_putFault_head (s.noteSet q ⟨0x018, b, 1⟩) q b 1 p f h

theorem State.fld_syncPermanent_head (s : State) (q p : Nat) (f : Fld) (h : Head f) : (s.syncPermanent q).fld p f = s.fld p f := by
  unfold State.syncPermanent
  dsimp only
  rw [State.fld_putFault_head _ _ _ _ _ _ h, State.fld_setFld_off _ _ _ _ _ _ (by decide) (by omega)
    (by show f.off ≠ 0x01C; omega)]

theorem State.fld_transient_head (s : State) (q p : Nat) (f : Fld) (h : Head f) : (s.transient q).fld p f = s.fld p f := by
  unfold State.transient
  rw [State.fld_setFault_head _ _ _ _ _ h, State.fld_incFld_off _ _ _ _ _ _ (by decide) (by omega) (by show f.off ≠ 0x01C; omega),
    State.fld_incFld_off _ _ _ _ _ _ (by decide) (by omega) (by show f.off ≠ 0x01C; omega)]

/-- The state a unit was put into reads back. -/
theorem State.unit_setUnit (s : State) (q st r : Nat) (y : Bool) : (s.setUnit q st r y).unit q = st % 8 := by
  have k : (((s.setFld q F.HDR_UNIT_STATE_STATE st).setFld q F.HDR_UNIT_STATE_REASON r).syncPermanent q).fld q F.HDR_UNIT_STATE_STATE
      = st % 8 := by
    rw [State.fld_syncPermanent_head _ _ _ _ (by decide), State.fld_setFld_bits _ _ _ _ _ _ (by decide),
      State.fld_setFld_self _ _ _ _ (by decide)]
    rfl
  unfold State.setUnit State.unit
  dsimp only
  split
  · rw [State.fld_setFault_head _ _ _ _ _ (by decide), k]
  · exact k

/-- The reason a unit was given reads back. -/
theorem State.reason_setUnit (s : State) (q st r : Nat) (y : Bool) :
    (s.setUnit q st r y).fld q F.HDR_UNIT_STATE_REASON = r % 256 := by
  have k : (((s.setFld q F.HDR_UNIT_STATE_STATE st).setFld q F.HDR_UNIT_STATE_REASON r).syncPermanent q).fld q F.HDR_UNIT_STATE_REASON
      = r % 256 := by
    rw [State.fld_syncPermanent_head _ _ _ _ (by decide), State.fld_setFld_self _ _ _ _ (by decide)]
    rfl
  unfold State.setUnit
  dsimp only
  split
  · rw [State.fld_setFault_head _ _ _ _ _ (by decide), k]
  · exact k

/-- A milestone is recorded on page GBL. -/
theorem State.fld_milestone (s : State) (k p : Nat) (f : Fld) (h : f.off < 4096) (hk : k < 32) (hp : p ≠ Pg.gbl) :
    (s.milestone k).fld p f = s.fld p f := by
  have k1 : ∀ (t : State) (o lo w x : Nat), o < 4096 → (t.setFld Pg.gbl ⟨o, lo, w⟩ x).fld p f = t.fld p f := fun t o lo w x ho =>
    State.fld_setFld_page t _ ⟨o, lo, w⟩ _ _ _ ho h hp
  unfold State.milestone
  split
  · rfl
  · have hc : s.clockM.fld p f = s.fld p f := rfl
    unfold State.stampBoot
    simp (disch := first | assumption | decide | omega) only [State.fld_ite, k1, hc, F.GBL_BOOT_T, ite_self]

/-! ### Registers of another page -/

theorem State.reg_ite (c : Prop) [Decidable c] (a b : State) (k : Nat) :
    (if c then a else b).reg k = if c then a.reg k else b.reg k := by split <;> rfl

theorem State.reg_setFld_page (s : State) (q : Nat) (f : Fld) (x p o : Nat) (h : p ≠ q) :
    (s.setFld q f x).reg (regKey p o) = s.reg (regKey p o) :=
  State.reg_setFld_ne _ _ _ _ _ (by unfold regKey; omega)

/-- A bit the hardware sets leaves another page's registers. -/
theorem State.reg_hwSet_page (s : State) (q : Nat) (g : Fld) (p o : Nat) (h : p ≠ q) :
    (s.hwSet q g).reg (regKey p o) = s.reg (regKey p o) :=
  State.reg_setFld_page (s.noteSet q g) q g _ p o h

theorem State.reg_incFld_page (s : State) (q : Nat) (f : Fld) (n p o : Nat) (h : p ≠ q) :
    (s.incFld q f n).reg (regKey p o) = s.reg (regKey p o) := State.reg_setFld_page _ _ _ _ _ _ h

theorem State.reg_raiseVector_page (s : State) (v p o : Nat) (h : Apart p) :
    (s.raiseVector 0 v).reg (regKey p o) = s.reg (regKey p o) := by
  unfold State.raiseVector
  split
  · rfl
  · refine State.reg_setReg_ne _ _ _ _ ?_
    have h3 : p ≠ Pg.pci 1 := h.2.2.1
    show p * 4096 + o % 4096 ≠ Pg.pci 1 * 4096 + (0x240 + 4 * (v / 32)) % 4096
    omega

theorem State.reg_raiseIrq_page (s : State) (q b p o : Nat) (h : p ≠ q) (hp : Apart p) :
    (s.raiseIrq q b).reg (regKey p o) = s.reg (regKey p o) := by
  have k := State.reg_setFld_page s q ⟨0x020, b, 1⟩ 1 p o h
  unfold State.raiseIrq
  dsimp only
  repeat' split
  all_goals first
    | exact k
    | rw [State.reg_raiseVector_page _ _ _ _ hp]; exact k

theorem State.reg_syncAttention_page (s : State) (q p o : Nat) (h : Apart p) :
    (s.syncAttention q).reg (regKey p o) = s.reg (regKey p o) := by
  have h1 := h.1
  have h2 := h.2.1
  unfold State.syncAttention
  dsimp only
  split
  · rfl
  · split <;> simp (disch := assumption) only [State.reg_ite, State.reg_raiseVector_page, State.reg_raiseIrq_page,
      State.reg_setFld_page, State.reg_hwSet_page, ite_self]

theorem State.reg_putFault_page (s : State) (q b v p o : Nat) (h : p ≠ q) (hp : Apart p) :
    (s.putFault q b v).reg (regKey p o) = s.reg (regKey p o) := by
  unfold State.putFault
  rw [State.reg_syncAttention_page _ _ _ _ hp, State.reg_setFld_page _ _ _ _ _ _ h]

theorem State.reg_setFault_page (s : State) (q b p o : Nat) (h : p ≠ q) (hp : Apart p) :
    (s.setFault q b).reg (regKey p o) = s.reg (regKey p o) := State.reg_putFault_page (s.noteSet q ⟨0x018, b, 1⟩) q b 1 p o h hp

theorem State.reg_syncPermanent_page (s : State) (q p o : Nat) (h : p ≠ q) (hp : Apart p) :
    (s.syncPermanent q).reg (regKey p o) = s.reg (regKey p o) := by
  unfold State.syncPermanent
  dsimp only
  rw [State.reg_putFault_page _ _ _ _ _ _ h hp, State.reg_setFld_page _ _ _ _ _ _ h]

theorem State.reg_setUnit_page (s : State) (q st r : Nat) (y : Bool) (p o : Nat) (h : p ≠ q) (hp : Apart p) :
    (s.setUnit q st r y).reg (regKey p o) = s.reg (regKey p o) := by
  unfold State.setUnit
  simp (disch := assumption) only [State.reg_ite, State.reg_setFault_page, State.reg_syncPermanent_page, State.reg_setFld_page, ite_self]

theorem State.reg_configured_page (s : State) (q p o : Nat) (h : p ≠ q) (hp : Apart p) :
    (s.configured q).reg (regKey p o) = s.reg (regKey p o) := by
  unfold State.configured
  simp (disch := assumption) only [State.reg_ite, State.reg_setUnit_page, State.reg_releaseHeld, State.reg_releaseLater, ite_self]

theorem State.reg_checkReached_page (s : State) (q p o : Nat) (h : p ≠ q) :
    (s.checkReached q).reg (regKey p o) = s.reg (regKey p o) := by
  apply State.reg_checkReached <;> (unfold regKey; omega)

theorem State.reg_fence_page (s : State) (q r p o : Nat) (h : p ≠ q) (hp : Apart p) :
    (s.fence q r).reg (regKey p o) = s.reg (regKey p o) := by
  unfold State.fence
  simp (disch := assumption) only [State.reg_ite, State.reg_checkReached_page, State.reg_setUnit_page, ite_self]

theorem State.reg_retire_page (s : State) (q r p o : Nat) (h : p ≠ q) (hp : Apart p) :
    (s.retire q r).reg (regKey p o) = s.reg (regKey p o) := by
  unfold State.retire
  simp (disch := assumption) only [State.reg_ite, State.reg_setUnit_page, ite_self]

theorem State.reg_fail_page (s : State) (q r p o : Nat) (h : p ≠ q) (hp : Apart p) :
    (s.fail q r).reg (regKey p o) = s.reg (regKey p o) := by
  unfold State.fail
  simp (disch := assumption) only [State.reg_ite, State.reg_setUnit_page, ite_self]

theorem State.reg_transient_page (s : State) (q p o : Nat) (h : p ≠ q) (hp : Apart p) :
    (s.transient q).reg (regKey p o) = s.reg (regKey p o) := by
  unfold State.transient
  simp (disch := assumption) only [State.reg_setFault_page, State.reg_incFld_page]

theorem State.reg_setSubRetired_page (s : State) (q : Nat) (b : Bool) (p o : Nat) (h : p ≠ q) (hp : Apart p) :
    (s.setSubRetired q b).reg (regKey p o) = s.reg (regKey p o) := by
  unfold State.setSubRetired
  simp (disch := assumption) only [State.reg_syncPermanent_page, State.reg_setFld_page]

/-- A fault recorded leaves every page but its own, FLT's and PF0's pending vectors. -/
theorem State.reg_recordFault_page (s : State) (x : Part) (c p o : Nat) (h : p ≠ x.page) (hp : Apart p) :
    (s.recordFault x c).reg (regKey p o) = s.reg (regKey p o) := by
  have h1 := hp.1
  unfold State.recordFault
  simp (disch := assumption) only [State.reg_raiseIrq_page, State.reg_incFld_page, State.reg_putFault_page]
  exact State.reg_setReg_ne _ _ _ _ (by unfold regKey; omega)

end Sys2Proof.Machine
end

