-- ==== Sys2Proof/Laws/RunsCore.lean ====
section
/-!
SUPPORT. What each command keeps (the Windlass, registers, units, power, fabric, tiles and the Lightwell): one law `execX_runs` for each meaning, which also says that the
meaning answers a next state.
-/

set_option Elab.async false

namespace Sys2Proof.Machine

open Sys2Proof

theorem Mem.wf_foldl {β : Type} {d : BitVec 8} {f : FMap (BitVec 8) → β → FMap (BitVec 8)} (l : List β)
    (hf : ∀ m e, Mem.wf d m = true → Mem.wf d (f m e) = true) {m : FMap (BitVec 8)} (h : Mem.wf d m = true) :
    Mem.wf d (l.foldl f m) = true := by
  induction l generalizing m with
  | nil => exact h
  | cons x l ih => exact ih (hf m x h)

theorem writeElem_wf {m : Mem} {base w i v : Nat} (h : Mem.wf 0 m = true) : Mem.wf 0 (writeElem m base w i v) = true := by
  unfold writeElem
  repeat' split
  all_goals exact Mem.wf_store 0 _ _ _ h

theorem matRun_wf {land bank : Nat} {w : MatWork} {m wt acc : Mem} (h : Mem.wf 0 m = true) :
    Mem.wf 0 (matRun land bank w m wt acc).store = true :=
  Mem.wf_store 0 _ _ _ (Mem.wf_foldl _ (fun _ _ hm => writeElem_wf hm) h)

theorem vecRun_wf {land : Nat} {w : VecWork} {m : Mem} (h : Mem.wf 0 m = true) : Mem.wf 0 (vecRun land w m).store = true :=
  Mem.wf_store 0 _ _ _ (Mem.wf_foldl _ (fun _ _ hm => writeElem_wf hm) h)

/-- What an operation does to its tile keeps the canonical form of its store. -/
theorem tileWork_wf {t land bank : Nat} {x : Tile} {w : TileWork} (h : Mem.wf 0 x.store = true) :
    ∀ {o}, tileWork t land bank x w = some o → Mem.wf 0 o.1.store = true := by
  intro o e
  unfold tileWork at e
  dsimp only at e
  repeat' split at e
  all_goals cases e
  · exact matRun_wf h
  · exact vecRun_wf h
  · exact Mem.wf_foldl _ (fun _ _ hm => Mem.wf_store 0 _ _ _ hm) h

/-- A result that is a next state which keeps what the mask leaves out. -/
structure Runs (M : Nat) (z : State) (r : Result) : Prop where
  run : ∃ t, r = .next t ∧ Keeps M z t

theorem Runs.next {M : Nat} {z t : State} (h : Keeps M z t) : Runs M z (.next t) := ⟨t, rfl, h⟩

theorem Runs.ite {M : Nat} {z : State} {a b : Result} {c : Prop} [Decidable c] (ha : Runs M z a) (hb : Runs M z b) :
    Runs M z (if c then a else b) := by split <;> assumption

theorem thenLinked_runs {M : Nat} {z : State} {l : Nat} {r : Result} (hr : Runs M z r) (hM : 0x10020612000140c602 ||| M = M) :
    Runs M z (thenLinked l r) := by
  obtain ⟨t, rfl, h⟩ := hr
  exact .next (State.lanesFollow_keeps h (sub_mask rfl hM))

theorem State.holdRequest_keeps {M : Nat} {z s : State} {who : Requester} {h : HeldReq} (hz : Keeps M z s)
    (hM : 0x400000000 ||| M = M) : Keeps M z (s.holdRequest who h) := by
  unfold State.holdRequest
  dsimp only
  split
  · exact hz
  · exact State.secMap_keeps hz hM

theorem runService_runs {M : Nat} {z s : State} {extra : List (BitVec 8)} {off : Nat} {who : Requester}
    {req : List (BitVec 8)} {opcode : Nat} {states : List Nat} {co plain : Bool} {run : State → Nat → List Nat → Served}
    (hz : Keeps M z s) (hM : 0x2200400000a02 ||| M = M)
    (hr : ∀ t w r, Keeps M z t → ∀ x, run t w r = some x → Keeps M z x.1) :
    Runs M z (runService extra off who req opcode states co plain run s) := by
  unfold runService
  dsimp only
  have h1 : Keeps M z (s.at off) := State.at_keeps hz (sub_mask rfl hM)
  repeat' split
  all_goals first
    | exact .next h1
    | exact .next (State.holdRequest_keeps h1 (sub_mask rfl hM))
    | exact .next (State.secAnswer_keeps h1 (sub_mask rfl hM))
    | exact .next (State.secAnswer_keeps (hr _ _ _ h1 _ (by assumption)) (sub_mask rfl hM))

theorem execNrgCapWrite_runs {M : Nat} {z s : State} {off : Nat} {v : Word} (hz : Keeps M z s) (hM : 0x21a0004000a1a
    ||| M = M) :
    Runs M z (execNrgCapWrite off v s) := by
  unfold execNrgCapWrite
  try dsimp only
  with_reducible repeat' first
    | assumption | apply Runs.next | apply Runs.ite | apply State.at_keeps | apply State.write_keeps
    | apply State.capWritten_keeps | apply State.onPage_keeps | apply Keeps.ite | (intro _ _; try dsimp only)
    | split
  all_goals first
    | exact sub_mask rfl hM | exact InMask.auto

theorem execNrgDebtAdd_runs {M : Nat} {z s : State} {off : Nat} {v : Word} (hz : Keeps M z s) (hM : 0x21a0000000a1a
    ||| M = M) :
    Runs M z (execNrgDebtAdd off v s) := by
  unfold execNrgDebtAdd
  try dsimp only
  with_reducible repeat' first
    | assumption | apply Runs.next | apply Runs.ite | apply State.at_keeps | apply State.write_keeps
    | apply State.debtAdd_keeps | apply State.onPage_keeps | apply Keeps.ite | (intro _ _; try dsimp only)
    | split
  all_goals first
    | exact sub_mask rfl hM | exact InMask.auto

theorem State.pmbusRead_keeps {M : Nat} {z s : State} {r code : Nat} (hz : Keeps M z s) (hM : 0x200 ||| M = M) :
    Keeps M z (State.pmbusRead s r code) := by
  unfold State.pmbusRead
  try dsimp only
  with_reducible repeat' first
    | assumption | apply State.emit_keeps | apply Keeps.ite | split
  all_goals exact sub_mask rfl hM

theorem execPmbusPoll_runs {M : Nat} {z s : State} {off : Nat} {r : Fin 8} {first retry : Option (BitVec 16)} (hz :
    Keeps M z s) (hM : 0x400002000004000a02 ||| M = M) :
    Runs M z (execPmbusPoll off r first retry s) := by
  unfold execPmbusPoll
  try dsimp only
  with_reducible repeat' first
    | assumption | apply Runs.next | apply Runs.ite | apply State.setFld_keeps | apply State.raiseIrq_keeps
    | apply State.incFld_keeps | apply State.at_keeps | apply State.nrgMap_keeps | apply State.cycleEnd_keeps
    | apply State.pmbusRead_keeps | apply Keeps.ite | split
  all_goals first
    | exact sub_mask rfl hM | exact InMask.auto

theorem execPoutMaxRead_runs {M : Nat} {z s : State} {off : Nat} {maxes : List (Fin 8 × BitVec 16)} (hz : Keeps M z
    s) (hM : 0x400002000004000a02 ||| M = M) :
    Runs M z (execPoutMaxRead off maxes s) := by
  unfold execPoutMaxRead
  try dsimp only
  with_reducible repeat' first
    | assumption | apply Runs.next | apply Runs.ite | apply State.setFld_keeps | apply State.at_keeps
    | apply State.nrgMap_keeps | apply State.syncAvail_keeps | apply State.pmbusRead_keeps | apply Keeps.ite
    | (apply Keeps.foldl; intro _ _ _) | split
  all_goals first
    | exact sub_mask rfl hM | exact InMask.auto

theorem execMeasurementWindowClose_runs {M : Nat} {z s : State} {off : Nat} (hz : Keeps M z s) (hM :
    0x400000080004000802 ||| M = M) :
    Runs M z (execMeasurementWindowClose off s) := by
  unfold execMeasurementWindowClose
  try dsimp only
  with_reducible repeat' first
    | assumption | apply Runs.next | apply Runs.ite | apply State.setFld_keeps | apply State.at_keeps
    | apply State.nrgMap_keeps | apply Keeps.ite | (apply Keeps.foldl; intro _ _ _) | split
  all_goals first
    | exact sub_mask rfl hM | exact InMask.auto

theorem execThermalSample_runs {M : Nat} {z s : State} {off : Nat} {temps : List (BitVec 16)} (hz : Keeps M z s) (hM
    : 0x400000000004000802 ||| M = M) :
    Runs M z (execThermalSample off temps s) := by
  unfold execThermalSample
  try dsimp only
  with_reducible repeat' first
    | assumption | apply Runs.next | apply Runs.ite | apply State.setFld_keeps | apply State.at_keeps
    | apply State.nrgMap_keeps | apply Keeps.ite | (apply Keeps.foldl; intro _ _ _) | split
  all_goals first
    | exact sub_mask rfl hM | exact InMask.auto

theorem execThermalCrit_runs {M : Nat} {z s : State} {off : Nat} (hz : Keeps M z s) (hM : 0x17ffffffe72fff5fefe |||
    M = M) :
    Runs M z (execThermalCrit off s) := by
  unfold execThermalCrit
  try dsimp only
  with_reducible repeat' first
    | assumption | apply Runs.next | apply Runs.ite | apply State.raiseIrq_keeps | apply State.at_keeps
    | apply State.safeEnter_keeps | apply Keeps.ite | split
  all_goals first
    | exact sub_mask rfl hM | exact InMask.auto

theorem execLedgerFault_runs {M : Nat} {z s : State} {off : Nat} (hz : Keeps M z s) (hM : 0x2180000000a02 ||| M = M)
    :
    Runs M z (execLedgerFault off s) := by
  unfold execLedgerFault
  try dsimp only
  with_reducible repeat' first
    | assumption | apply Runs.next | apply Runs.ite | apply State.fail_keeps | apply State.at_keeps | apply Keeps.ite
    | split
  all_goals first
    | exact sub_mask rfl hM | exact InMask.auto

theorem execPwrFault_runs {M : Nat} {z s : State} {off : Nat} (hz : Keeps M z s) (hM : 0x17ffffffe72fff5fefe ||| M =
    M) :
    Runs M z (execPwrFault off s) := by
  unfold execPwrFault
  try dsimp only
  with_reducible repeat' first
    | assumption | apply Runs.next | apply Runs.ite | apply State.failUnit_keeps | apply State.at_keeps
    | apply Keeps.ite | split
  all_goals first
    | exact sub_mask rfl hM | exact InMask.auto

theorem execCaptureDeadline_runs {M : Nat} {z s : State} {off : Nat} {n : Nat} (hz : Keeps M z s) (hM :
    0xa02000000400a02 ||| M = M) :
    Runs M z (execCaptureDeadline off n s) := by
  unfold execCaptureDeadline
  try dsimp only
  with_reducible repeat' first
    | assumption | apply Runs.next | apply Runs.ite | apply State.at_keeps | apply State.captureLost_keeps
    | apply State.pipeMap_keeps | apply State.release_keeps | apply Keeps.ite | split
  all_goals exact sub_mask rfl hM

theorem State.pullAll_keeps {M : Nat} {z s : State} {inst n : Nat} (hz : Keeps M z s) (hM : 0x202000000400202 ||| M = M) :
    Keeps M z (State.pullAll s inst n) := by
  have key : ∀ k (a : State), Keeps M z a → Keeps M z (a.pullItems inst n k) := by
    intro k
    induction k with
    | zero => exact fun a h => h
    | succ k ih => exact fun a h => ih _ (State.pullItem_keeps h (sub_mask rfl hM))
  exact key _ s hz

theorem State.deliverBehind_keeps {M : Nat} {z s : State} {h d : Nat} {ids : List Nat} {ds : List (Delivery × Option
    (FMap Word))} (hz : Keeps M z s) (hM : 0x202000000400206 ||| M = M) :
    Keeps M z (State.deliverBehind s h d ids ds) := by
  unfold State.deliverBehind
  try dsimp only
  with_reducible repeat' first
    | assumption | apply State.setFrame_keeps | apply State.carveAll_keeps | apply Keeps.ite | split
  all_goals exact sub_mask rfl hM

theorem State.passOn_keeps {M : Nat} {z s : State} {i id : Nat} (hz : Keeps M z s) (hM : 0x202000000400206 ||| M = M) :
    Keeps M z (State.passOn s i id) := by
  unfold State.passOn
  try dsimp only
  with_reducible repeat' first
    | assumption | apply State.setFrame_keeps | apply State.deliverBehind_keeps | apply Keeps.ite | split
  all_goals exact sub_mask rfl hM

theorem execStageStall_runs {M : Nat} {z s : State} {off : Nat} {i : Pipe} {n : Fin 12} (hz : Keeps M z s) (hM :
    0xe02000000400a06 ||| M = M) :
    Runs M z (execStageStall off i n s) := by
  unfold execStageStall
  try dsimp only
  with_reducible repeat' first
    | assumption | apply Runs.next | apply Runs.ite | apply State.raiseIrq_keeps | apply State.incFld_keeps
    | apply State.at_keeps | apply State.syncFloat_keeps | apply State.sumpFrame_keeps
    | apply State.setWaiting_keeps | apply State.setItemsWaiting_keeps | apply State.sumpItemOf_keeps
    | apply State.pullAll_keeps | apply State.passOn_keeps | apply Keeps.ite | split
  all_goals first
    | exact sub_mask rfl hM | exact InMask.auto

theorem execTapRecordDelivery_runs {M : Nat} {z s : State} {off : Nat} {tap : Fin 4} {i : Pipe} (hz : Keeps M z s)
    (hM : 0x400a00 ||| M = M) :
    Runs M z (execTapRecordDelivery off tap i s) := by
  unfold execTapRecordDelivery
  try dsimp only
  with_reducible repeat' first
    | assumption | apply Runs.next | apply Runs.ite | apply State.emit_keeps | apply State.at_keeps
    | apply State.setTapFifo_keeps | apply Keeps.ite | split
  all_goals exact sub_mask rfl hM

theorem execProbeArm_runs {M : Nat} {z s : State} {off : Nat} {i : Fin 16} {v : Word} (hz : Keeps M z s) (hM :
    0x10002120000000a1a ||| M = M) :
    Runs M z (execProbeArm off i v s) := by
  unfold execProbeArm
  try dsimp only
  with_reducible repeat' first
    | assumption | apply Runs.next | apply Runs.ite | apply State.at_keeps | apply State.write_keeps
    | apply State.armProbe_keeps | apply State.onPage_keeps | apply Keeps.ite | (intro _ _; try dsimp only)
    | split
  all_goals first
    | exact sub_mask rfl hM | exact InMask.auto

theorem execWindlassExitStopped_runs {M : Nat} {z s : State} (hz : Keeps M z s) (hM : 0x2140000005a02 ||| M = M) :
    Runs M z (execWindlassExitStopped s) := by
  unfold execWindlassExitStopped
  try dsimp only
  with_reducible repeat' first
    | assumption | apply Runs.next | apply Runs.ite | apply State.setFld_keeps | apply State.syncPermanent_keeps
    | apply State.wdlMap_keeps | apply State.setCount_keeps | apply State.safeMap_keeps | apply Keeps.ite | split
  all_goals first
    | exact sub_mask rfl hM | exact InMask.auto

theorem execAnchorLoss_runs {M : Nat} {z s : State} {off : Nat} {cause : LossCause} (hz : Keeps M z s) (hM :
    0x2040000001a02 ||| M = M) :
    Runs M z (execAnchorLoss off cause s) := by
  unfold execAnchorLoss
  try dsimp only
  with_reducible repeat' first
    | assumption | apply Runs.next | apply Runs.ite | apply State.loseAnchor_keeps | apply State.at_keeps
    | apply Keeps.ite | split
  all_goals exact sub_mask rfl hM

theorem execPortQualified_runs {M : Nat} {z s : State} {off : Nat} {p : Port} (hz : Keeps M z s) (hM : 0x40000000802
    ||| M = M) :
    Runs M z (execPortQualified off p s) := by
  unfold execPortQualified
  try dsimp only
  with_reducible repeat' first
    | assumption | apply Runs.next | apply Runs.ite | apply State.qualify_keeps | apply State.at_keeps
    | apply Keeps.ite | split
  all_goals exact sub_mask rfl hM

theorem execSlewLock_runs {M : Nat} {z s : State} (hz : Keeps M z s) (hM : 0x2060000005602 ||| M = M) :
    Runs M z (execSlewLock s) := by
  unfold execSlewLock
  try dsimp only
  with_reducible repeat' first
    | assumption | apply Runs.next | apply Runs.ite | apply State.enterLocked_keeps | apply State.setFld_keeps
    | apply State.drawn_keeps | apply State.milestone_keeps | apply State.raiseIrq_keeps | apply Keeps.ite
    | split
  all_goals first
    | exact sub_mask rfl hM | exact InMask.auto

theorem execLearnedSet_runs {M : Nat} {z s : State} (hz : Keeps M z s) (hM : 0x60000004402 ||| M = M) :
    Runs M z (execLearnedSet s) := by
  unfold execLearnedSet
  try dsimp only
  with_reducible repeat' first
    | assumption | apply Runs.next | apply Runs.ite | apply State.setFld_keeps | apply State.milestone_keeps
    | apply Keeps.ite | split
  all_goals first
    | exact sub_mask rfl hM | exact InMask.auto

theorem execWdlPresetWrite_runs {M : Nat} {z s : State} {off : Nat} {high : Bool} {v : Word} (hz : Keeps M z s) (hM
    : 0x2140000000a1a ||| M = M) :
    Runs M z (execWdlPresetWrite off high v s) := by
  unfold execWdlPresetWrite
  try dsimp only
  with_reducible repeat' first
    | assumption | apply Runs.next | apply Runs.ite | apply State.write_keeps | apply State.at_keeps | apply Keeps.ite
    | split | apply Keeps.set_count
  all_goals first
    | exact sub_mask rfl hM | exact InMask.auto

theorem execWdlCountLoRead_runs {M : Nat} {z s : State} {off : Nat} (hz : Keeps M z s) (hM : 0x40000000902 ||| M =
    M) :
    Runs M z (execWdlCountLoRead off s) := by
  unfold execWdlCountLoRead
  try dsimp only
  with_reducible repeat' first
    | assumption | apply Runs.next | apply Runs.ite | apply State.setFld_keeps | apply State.at_keeps
    | apply Keeps.ite | split | apply Keeps.set_rdata
  all_goals first
    | exact sub_mask rfl hM | exact InMask.auto

theorem execMarkArm_runs {M : Nat} {z s : State} {off : Nat} {m : Fin 64} {ctl : Word} (hz : Keeps M z s) (hM :
    0x17ffffffe0000001efa ||| M = M) :
    Runs M z (execMarkArm off m ctl s) := by
  unfold execMarkArm
  try dsimp only
  with_reducible repeat' first
    | assumption | apply Runs.next | apply Runs.ite | apply State.at_keeps | apply State.write_keeps
    | apply State.armMark_keeps | apply State.fireFirst_keeps | apply Keeps.ite | split
  all_goals first
    | exact sub_mask rfl hM | exact InMask.auto

theorem execMarkFire_runs {M : Nat} {z s : State} {m : Fin 64} (hz : Keeps M z s) (hM : 0x17ffffffe0000001ee2 ||| M
    = M) :
    Runs M z (execMarkFire m s) := by
  unfold execMarkFire
  try dsimp only
  with_reducible repeat' first
    | assumption | apply Runs.next | apply Runs.ite | apply State.fireMarks_keeps | apply State.fireMark_keeps
    | apply Keeps.ite | split | apply Keeps.set_count
  all_goals first
    | exact sub_mask rfl hM | exact InMask.auto

theorem State.broadcastError_keeps {M : Nat} {z s : State} {d : Nat} (hz : Keeps M z s) (hM : 0x17ffffffe72fff5fefe ||| M = M) :
    Keeps M z (State.broadcastError s d) := by
  unfold State.broadcastError
  try dsimp only
  with_reducible repeat' first
    | assumption | apply State.windlassFault_keeps | apply State.followerError_keeps | apply Keeps.ite | split
  all_goals first
    | exact sub_mask rfl hM | exact InMask.auto

theorem State.broadcast_keeps {M : Nat} {z s : State} {bad : List Nat} (hz : Keeps M z s) (hM : 0x17ffffffe72fff5fefe ||| M = M) :
    Keeps M z (State.broadcast s bad) := by
  unfold State.broadcast
  try dsimp only
  with_reducible repeat' first
    | assumption | apply State.wdlMap_keeps | apply State.broadcastError_keeps | apply Keeps.ite
    | (apply Keeps.foldl; intro _ _ _) | split
  all_goals first
    | exact sub_mask rfl hM | exact InMask.auto

theorem execFullCountBroadcast_runs {M : Nat} {z s : State} {off : Nat} {gray bad : List Nat} (hz : Keeps M z s) (hM
    : 0x17ffffffe72fff5fefe ||| M = M) :
    Runs M z (execFullCountBroadcast off gray bad s) := by
  unfold execFullCountBroadcast
  try dsimp only
  with_reducible repeat' first
    | assumption | apply Runs.next | apply Runs.ite | apply State.at_keeps | apply State.followerError_keeps
    | apply State.broadcast_keeps | apply Keeps.ite | (apply Keeps.foldl; intro _ _ _) | split
  all_goals first
    | exact sub_mask rfl hM | exact InMask.auto

theorem execGtsDrop_runs {M : Nat} {z s : State} {off : Nat} {r : Fin 128} {o : Fin 5} {i : Fin 5} (hz : Keeps M z
    s) (hM : 0x9002000018000a02 ||| M = M) :
    Runs M z (execGtsDrop off r o i s) := by
  unfold execGtsDrop
  try dsimp only
  with_reducible repeat' first
    | assumption | apply Runs.next | apply Runs.ite | apply State.raiseIrq_keeps | apply State.incFld_keeps
    | apply State.at_keeps | apply State.takePacket_keeps | apply Keeps.ite | split
  all_goals first
    | exact sub_mask rfl hM | exact InMask.auto

theorem execLinkEccError_runs {M : Nat} {z s : State} {off : Nat} {r : Fin 128} {i : Fin 5} {vc : Fin 4} {corrected
    : Bool} (hz : Keeps M z s) (hM : 0x8002100008000a02 ||| M = M) :
    Runs M z (execLinkEccError off r i vc corrected s) := by
  unfold execLinkEccError
  try dsimp only
  with_reducible repeat' first
    | assumption | apply Runs.next | apply Runs.ite | apply State.raiseIrq_keeps | apply State.incFld_keeps
    | apply State.at_keeps | apply State.transient_keeps | apply State.setNetQueue_keeps | apply Keeps.ite
    | split
  all_goals first
    | exact sub_mask rfl hM | exact InMask.auto

theorem execProgStart_runs {M : Nat} {z s : State} {off : Nat} {t : Fin 128} {k : Fin 4} {v : Word} (hz : Keeps M z
    s) (hM : 0x6002120010000a1a ||| M = M) :
    Runs M z (execProgStart off t k v s) := by
  unfold execProgStart
  try dsimp only
  with_reducible repeat' first
    | assumption | apply Runs.next | apply Runs.ite | apply State.at_keeps | apply State.write_keeps
    | apply State.progWritten_keeps | apply State.onPage_keeps | apply Keeps.ite | (intro _ _; try dsimp only)
    | split
  all_goals first
    | exact sub_mask rfl hM | exact InMask.auto

theorem execBatchPacket_runs {M : Nat} {z s : State} {off : Nat} {t : Fin 128} (hz : Keeps M z s) (hM :
    0x6000000018000802 ||| M = M) :
    Runs M z (execBatchPacket off t s) := by
  unfold execBatchPacket
  try dsimp only
  with_reducible repeat' first
    | assumption | apply Runs.next | apply Runs.ite | apply State.at_keeps | apply State.setEdge_keeps
    | apply State.trigger_keeps | apply State.triggerMode_keeps | apply Keeps.ite | split
  all_goals first
    | exact sub_mask rfl hM | exact InMask.auto

theorem execTurnTickTrigger_runs {M : Nat} {z s : State} {t : Fin 128} (hz : Keeps M z s) (hM : 0x6000000010000002
    ||| M = M) :
    Runs M z (execTurnTickTrigger t s) := by
  unfold execTurnTickTrigger
  try dsimp only
  with_reducible repeat' first
    | assumption | apply Runs.next | apply Runs.ite | apply State.triggerMode_keeps
  all_goals exact sub_mask rfl hM

theorem execCpl_runs {M : Nat} {z s : State} {off : Nat} {t : Fin 128} {node : Word} {work : TileWork} {how : OpEnd}
    {more : Bool} (hz : Keeps M z s) (hM : 0xf002000018000e02 ||| M = M) :
    Runs M z (execCpl off t node work how more s) := by
  unfold execCpl
  dsimp only
  have h1 : Keeps M z (s.at off) := State.at_keeps hz (sub_mask rfl hM)
  split
  · exact .next h1
  · split
    · exact .next (State.nextOp_keeps (State.recordOp_keeps (State.drawn_keeps h1 (sub_mask rfl hM)) (sub_mask rfl hM))
        (sub_mask rfl hM))
    · rename_i x f sat flush e
      exact .next (State.nextOp_keeps (State.recordOp_keeps (State.setTile_keeps h1 (sub_mask rfl hM)
        (fun c => tileWork_wf ((h1.canon c).tile t.val) e)) (sub_mask rfl hM)) (sub_mask rfl hM))

theorem execOperationTimeout_runs {M : Nat} {z s : State} {off : Nat} {t : Fin 128} (hz : Keeps M z s) (hM :
    0x10f002000019008e02 ||| M = M) :
    Runs M z (execOperationTimeout off t s) := by
  unfold execOperationTimeout
  try dsimp only
  with_reducible repeat' first
    | assumption | apply Runs.next | apply Runs.ite | apply State.at_keeps | apply State.start_keeps
    | apply State.nextOp_keeps | apply State.cutOp_keeps | apply State.recordOp_keeps | apply Keeps.ite | split
  all_goals first
    | exact sub_mask rfl hM | exact InMask.auto

theorem execScoreClose_runs {M : Nat} {z s : State} {off : Nat} (hz : Keeps M z s) (hM : 0x8202000020400e02 ||| M =
    M) :
    Runs M z (execScoreClose off s) := by
  unfold execScoreClose
  try dsimp only
  with_reducible repeat' first
    | assumption | apply Runs.next | apply Runs.ite | apply State.at_keeps | apply State.voidItems_keeps
    | apply Keeps.ite | split | apply Keeps.set_batches
  all_goals exact sub_mask rfl hM

theorem execKnownAnswerCheck_runs {M : Nat} {z s : State} {off : Nat} {t : Fin 128} {ok : Bool} (hz : Keeps M z s)
    (hM : 0xf202100038400e02 ||| M = M) :
    Runs M z (execKnownAnswerCheck off t ok s) := by
  unfold execKnownAnswerCheck
  try dsimp only
  with_reducible repeat' first
    | assumption | apply Runs.next | apply Runs.ite | apply State.setTile_keeps | apply State.raiseIrq_keeps
    | apply State.incFld_keeps | apply State.at_keeps | apply State.transient_keeps
    | apply State.retireTile_keeps | apply State.tileThreshold_keeps | apply Keeps.ite | apply Keeps.tile_wf
    | apply Keeps.store_wf | split
  all_goals first
    | exact sub_mask rfl hM | exact InMask.auto

theorem execLocalStoreEcc_runs {M : Nat} {z s : State} {off : Nat} {t : Fin 128} {corrected : Bool} (hz : Keeps M z
    s) (hM : 0xf202100038400e02 ||| M = M) :
    Runs M z (execLocalStoreEcc off t corrected s) := by
  unfold execLocalStoreEcc
  try dsimp only
  with_reducible repeat' first
    | assumption | apply Runs.next | apply Runs.ite | apply State.setTile_keeps | apply State.raiseIrq_keeps
    | apply State.incFld_keeps | apply State.at_keeps | apply State.transient_keeps
    | apply State.retireTile_keeps | apply State.tileThreshold_keeps | apply State.cutOp_keeps
    | apply State.recordOp_keeps | apply Keeps.ite | apply Keeps.tile_wf | apply Keeps.store_wf | split
  all_goals first
    | exact sub_mask rfl hM | exact InMask.auto

theorem execRouterFault_runs {M : Nat} {z s : State} {off : Nat} {r : Fin 128} (hz : Keeps M z s) (hM :
    0xf202100038400e02 ||| M = M) :
    Runs M z (execRouterFault off r s) := by
  unfold execRouterFault
  try dsimp only
  with_reducible repeat' first
    | assumption | apply Runs.next | apply Runs.ite | apply State.fail_keeps | apply State.at_keeps
    | apply State.fenceTile_keeps | apply State.fence_keeps | apply Keeps.ite | (apply Keeps.foldl; intro _ _ _)
    | split
  all_goals first
    | exact sub_mask rfl hM | exact InMask.auto

theorem State.measured_keeps {M : Nat} {z s : State} {e : Nat} {errs : List (Fin 4 × BitVec 16)} (hz : Keeps M z s)
    (hM : 0x8000000000002 ||| M = M) :
    Keeps M z (State.measured s e errs) := by
  unfold State.measured
  try dsimp only
  with_reducible repeat' first
    | assumption | apply State.setFld_keeps | apply State.setCh_keeps | apply Keeps.ite
    | (apply Keeps.foldl; intro _ _ _) | split
  all_goals first
    | exact sub_mask rfl hM | exact InMask.auto

theorem execHeaterDriveUpdate_runs {M : Nat} {z s : State} {off : Nat} {j : HeaterJob} (hz : Keeps M z s) (hM :
    0x10822a100201408e02 ||| M = M) :
    Runs M z (execHeaterDriveUpdate off j s) := by
  unfold execHeaterDriveUpdate
  try dsimp only
  with_reducible repeat' first
    | assumption | apply Runs.next | apply Runs.ite | apply State.setFld_keeps | apply State.at_keeps
    | apply State.engineDrives_keeps | apply State.meshDrives_keeps | apply State.measured_keeps
    | apply Keeps.ite | split
  all_goals first
    | exact sub_mask rfl hM | exact InMask.auto

theorem execWindowProject_runs {M : Nat} {z s : State} {off : Nat} (hz : Keeps M z s) (hM : 0x109222000219408e02 |||
    M = M) :
    Runs M z (execWindowProject off s) := by
  unfold execWindowProject
  try dsimp only
  with_reducible repeat' first
    | assumption | apply Runs.next | apply Runs.ite | apply State.incFld_keeps | apply State.at_keeps
    | apply State.drawn_keeps | apply State.lwlMap_keeps | apply State.lwVoid_keeps | apply State.sendBlock_keeps
    | apply Keeps.ite | split
  all_goals first
    | exact sub_mask rfl hM | exact InMask.auto

theorem execCreditReturn_runs {M : Nat} {z s : State} {off : Nat} {t : Fin 96} (hz : Keeps M z s) (hM : 0x200000800
    ||| M = M) :
    Runs M z (execCreditReturn off t s) := by
  unfold execCreditReturn
  try dsimp only
  with_reducible repeat' first
    | assumption | apply Runs.next | apply Runs.ite | apply State.at_keeps | apply State.lwlMap_keeps
    | apply Keeps.ite | split
  all_goals exact sub_mask rfl hM

theorem execCalStep_runs {M : Nat} {z s : State} {off : Nat} {m : CalMeasure} (hz : Keeps M z s) (hM :
    0x108222100201408e02 ||| M = M) :
    Runs M z (execCalStep off m s) := by
  unfold execCalStep
  try dsimp only
  with_reducible repeat' first
    | assumption | apply Runs.next | apply Runs.ite | apply State.at_keeps | apply State.calStep_keeps
    | apply State.incFld_keeps | apply Keeps.ite | split
  all_goals first
    | exact sub_mask rfl hM | exact InMask.auto

theorem execCalForce_runs {M : Nat} {z s : State} {off : Nat} {m : CalMeasure} (hz : Keeps M z s) (hM :
    0x108222100201408e02 ||| M = M) :
    Runs M z (execCalForce off m s) := by
  unfold execCalForce
  try dsimp only
  with_reducible repeat' first
    | assumption | apply Runs.next | apply Runs.ite | apply State.at_keeps | apply State.calStep_keeps
    | apply State.incFld_keeps | apply Keeps.ite | split
  all_goals first
    | exact sub_mask rfl hM | exact InMask.auto

theorem execEpochWrite_runs {M : Nat} {z s : State} {off : Nat} (hz : Keeps M z s) (hM : 0x9022000218000a02 ||| M =
    M) :
    Runs M z (execEpochWrite off s) := by
  unfold execEpochWrite
  try dsimp only
  with_reducible repeat' first
    | assumption | apply Runs.next | apply Runs.ite | apply State.at_keeps | apply State.lwlMap_keeps
    | apply State.writeEpoch_keeps | apply State.epochInForce_keeps | apply Keeps.ite
    | (apply Keeps.foldl; intro _ _ _) | split
  all_goals first
    | exact sub_mask rfl hM | exact InMask.auto

theorem execEpochAck_runs {M : Nat} {z s : State} {off : Nat} {t : Fin 96} (hz : Keeps M z s) (hM : 0x22000200000a02
    ||| M = M) :
    Runs M z (execEpochAck off t s) := by
  unfold execEpochAck
  try dsimp only
  with_reducible repeat' first
    | assumption | apply Runs.next | apply Runs.ite | apply State.at_keeps | apply State.lwlMap_keeps
    | apply State.epochSettles_keeps | apply Keeps.ite | split
  all_goals exact sub_mask rfl hM

theorem execConsumerStale_runs {M : Nat} {z s : State} {off : Nat} {t : Fin 96} (hz : Keeps M z s) (hM :
    0x22000200000a02 ||| M = M) :
    Runs M z (execConsumerStale off t s) := by
  unfold execConsumerStale
  try dsimp only
  with_reducible repeat' first
    | assumption | apply Runs.next | apply Runs.ite | apply State.at_keeps | apply State.lwlMap_keeps
    | apply State.raiseIrq_keeps | apply State.incFld_keeps | apply State.epochSettles_keeps | apply Keeps.ite | split
  all_goals first
    | exact sub_mask rfl hM | exact InMask.auto

theorem execSettleEnd_runs {M : Nat} {z s : State} {off : Nat} (hz : Keeps M z s) (hM : 0x20000000000802 ||| M = M)
    :
    Runs M z (execSettleEnd off s) := by
  unfold execSettleEnd
  try dsimp only
  with_reducible repeat' first
    | assumption | apply Runs.next | apply Runs.ite | apply State.at_keeps | apply State.setLw_keeps | apply Keeps.ite
    | split
  all_goals exact sub_mask rfl hM

theorem execLwlItemFault_runs {M : Nat} {z s : State} {off : Nat} {it : LwlFault} (hz : Keeps M z s) (hM :
    0x108222100201408e02 ||| M = M) :
    Runs M z (execLwlItemFault off it s) := by
  unfold execLwlItemFault
  try dsimp only
  with_reducible repeat' first
    | assumption | apply Runs.next | apply Runs.ite | apply State.at_keeps | apply State.setFld_keeps
    | apply State.retireLaser_keeps | apply State.retireChannel_keeps | apply State.retireCell_keeps | apply Keeps.ite
    | split
  all_goals first
    | exact sub_mask rfl hM | exact InMask.auto

theorem execLwlReinstate_runs {M : Nat} {z s : State} {off : Nat} {it : LwlItem} (hz : Keeps M z s) (hM :
    0x20020200000802 ||| M = M) :
    Runs M z (execLwlReinstate off it s) := by
  unfold execLwlReinstate
  try dsimp only
  with_reducible repeat' first
    | assumption | apply Runs.next | apply Runs.ite | apply State.at_keeps | apply State.reinstateItem_keeps
    | apply State.putCellIndex_keeps | apply State.onPage_keeps | apply Keeps.ite | (intro _ _; try dsimp only)
    | split
  all_goals first
    | exact sub_mask rfl hM | exact InMask.auto

theorem execLwlControllerFail_runs {M : Nat} {z s : State} {off : Nat} (hz : Keeps M z s) (hM : 0x108222100201408e02
    ||| M = M) :
    Runs M z (execLwlControllerFail off s) := by
  unfold execLwlControllerFail
  try dsimp only
  with_reducible repeat' first
    | assumption | apply Runs.next | apply Runs.ite | apply State.at_keeps | apply State.coreLeaves_keeps
    | apply State.fail_keeps | apply Keeps.ite | split
  all_goals first
    | exact sub_mask rfl hM | exact InMask.auto

theorem State.readPage_keeps {M : Nat} {z s : State} {page off : Nat} {f : State → State} (hz : Keeps M z s) (hM :
    0x20000000102 ||| M = M) (hf : ∀ t, Keeps M z t → Keeps M z (f t)) :
    Keeps M z (State.readPage s page off f) := by
  unfold State.readPage
  split
  · exact Keeps.set_rdata _ (sub_mask rfl hM) (State.unmapped_keeps hz (sub_mask rfl hM))
  · exact hf s hz

theorem execLwlTableAccess_runs {M : Nat} {z s : State} {off : Nat} {v : Option Word} (hz : Keeps M z s) (hM :
    0x22120200000b02 ||| M = M) :
    Runs M z (execLwlTableAccess off v s) := by
  unfold execLwlTableAccess
  try dsimp only
  with_reducible repeat' first
    | assumption | apply Runs.next | apply Runs.ite | apply State.at_keeps | apply State.lwTableWrite_keeps
    | apply State.lwTableRead_keeps | apply State.onPage_keeps | apply State.readPage_keeps | apply Keeps.ite
    | (intro _ _; try dsimp only) | split
  all_goals first
    | exact sub_mask rfl hM | exact InMask.auto

theorem execLwlReinstateDone_runs {M : Nat} {z s : State} {off : Nat} {it : LwlItem} {pass : Bool} (hz : Keeps M z
    s) (hM : 0x20000200000802 ||| M = M) :
    Runs M z (execLwlReinstateDone off it pass s) := by
  unfold execLwlReinstateDone
  try dsimp only
  with_reducible repeat' first
    | assumption | apply Runs.next | apply Runs.ite | apply State.at_keeps | apply State.setFld_keeps
    | apply State.lwlMap_keeps | apply Keeps.ite | split
  all_goals first
    | exact sub_mask rfl hM | exact InMask.auto

theorem execConfigScrub_runs {M : Nat} {z s : State} {off : Nat} {r : Fin 32} {corrected : Nat} {bad last : Bool}
    (hz : Keeps M z s) (hM : 0x1002503000400a02 ||| M = M) :
    Runs M z (execConfigScrub off r corrected bad last s) := by
  unfold execConfigScrub
  try dsimp only
  with_reducible repeat' first
    | assumption | apply Runs.next | apply Runs.ite | apply State.setFld_keeps | apply State.raiseIrq_keeps
    | apply State.incFld_keeps | apply State.at_keeps | apply State.transient_keeps
    | apply State.fenceRegion_keeps | apply Keeps.ite | (apply Keeps.foldl; intro _ _ _) | split
    | apply Keeps.set_fabric
  all_goals first
    | exact sub_mask rfl hM | exact InMask.auto

theorem execBramError_runs {M : Nat} {z s : State} {off : Nat} {r : Fin 32} {corrected : Bool} (hz : Keeps M z s)
    (hM : 0x1002501000400a02 ||| M = M) :
    Runs M z (execBramError off r corrected s) := by
  unfold execBramError
  try dsimp only
  with_reducible repeat' first
    | assumption | apply Runs.next | apply Runs.ite | apply State.emit_keeps | apply State.raiseIrq_keeps
    | apply State.incFld_keeps | apply State.at_keeps | apply State.fenceRegion_keeps | apply Keeps.ite | split
  all_goals first
    | exact sub_mask rfl hM | exact InMask.auto

theorem execFcgLockLoss_runs {M : Nat} {z s : State} {off : Nat} {k : Fin 16} (hz : Keeps M z s) (hM :
    0x1002501000400a02 ||| M = M) :
    Runs M z (execFcgLockLoss off k s) := by
  unfold execFcgLockLoss
  try dsimp only
  with_reducible repeat' first
    | assumption | apply Runs.next | apply Runs.ite | apply State.at_keeps | apply State.fcgLost_keeps
    | apply State.raiseIrq_keeps | apply State.incFld_keeps | apply State.setFld_keeps
    | apply State.fcgLeaves_keeps | apply State.fence_keeps | apply Keeps.ite | split
  all_goals first
    | exact sub_mask rfl hM | exact InMask.auto

theorem execClockMonitorOut_runs {M : Nat} {z s : State} {off : Nat} {d : Fin 248} {khz : Option Word} (hz : Keeps M
    z s) (hM : 0x17ffffffe73fffdfefe ||| M = M) :
    Runs M z (execClockMonitorOut off d khz s) := by
  unfold execClockMonitorOut
  try dsimp only
  with_reducible repeat' first
    | assumption | apply Runs.next | apply Runs.ite | apply State.setFld_keeps | apply State.raiseIrq_keeps
    | apply State.incFld_keeps | apply State.at_keeps | apply State.domainLost_keeps | apply Keeps.ite | split
  all_goals first
    | exact sub_mask rfl hM | exact InMask.auto

theorem execUregAccess_runs {M : Nat} {z s : State} {off : Nat} {o : Fin 8064} {data : Option Word} {answer : Word}
    (hz : Keeps M z s) (hM : 0x1002020000000b02 ||| M = M) :
    Runs M z (execUregAccess off o data answer s) := by
  unfold execUregAccess
  try dsimp only
  with_reducible repeat' first
    | assumption | apply Runs.next | apply Runs.ite | apply State.emit_keeps | apply State.incFld_keeps
    | apply State.at_keeps | apply State.onPage_keeps | apply State.readPage_keeps | apply State.userWrite_keeps
    | apply State.userTimeout_keeps | apply Keeps.ite | (intro _ _; try dsimp only) | split
    | apply Keeps.set_rdata
  all_goals first
    | exact sub_mask rfl hM | exact InMask.auto

theorem execUregTimeout_runs {M : Nat} {z s : State} {off : Nat} {o : Fin 8064} (hz : Keeps M z s) (hM :
    0x1002000000000b02 ||| M = M) : Runs M z (execUregTimeout off o s) := by
  have h1 : Keeps M z (s.at off) := State.at_keeps hz (sub_mask rfl hM)
  unfold execUregTimeout
  refine .ite (.next h1) (.next ?_)
  exact .set_rdata _ (sub_mask rfl hM) (State.userTimeout_keeps (.ite (State.emit_keeps h1 (sub_mask rfl hM)) h1) (sub_mask rfl hM))

theorem execIslandPowerOn_runs {M : Nat} {z s : State} {off : Nat} {straps : BitVec 8} (hz : Keeps M z s) (hM :
    0x17ffffffe76fff5fefe ||| M = M) :
    Runs M z (execIslandPowerOn off straps s) := by
  unfold execIslandPowerOn
  try dsimp only
  with_reducible repeat' first
    | assumption | apply Runs.next | apply Runs.ite | apply State.at_keeps | apply State.resetMain_keeps
    | apply State.chansMap_keeps | apply State.pinsMap_keeps | apply State.clearPage_keeps | apply State.setFld_keeps
    | apply State.forceNow_keeps | apply State.startEngines_keeps | apply State.syncPolicies_keeps
    | apply State.engageAll_keeps | apply State.startSec_keeps | apply State.resetSec_keeps | apply Keeps.ite
    | (apply Keeps.foldl; intro _ _ _) | split
  all_goals first
    | exact sub_mask rfl hM | exact InMask.auto

theorem execIslandSupplyFail_runs {M : Nat} {z s : State} {off : Nat} (hz : Keeps M z s) (hM : 0x17ffffffe040004ba0e
    ||| M = M) :
    Runs M z (execIslandSupplyFail off s) := by
  unfold execIslandSupplyFail
  try dsimp only
  with_reducible repeat' first
    | assumption | apply Runs.next | apply Runs.ite | apply State.at_keeps | apply State.fail_keeps
    | apply State.setService_keeps | apply State.setCh_keeps | apply State.signalLoss_keeps
    | apply State.resetSec_keeps | apply Keeps.ite | (apply Keeps.foldl; intro _ _ _) | split | apply Keeps.set_pins
  all_goals first
    | exact sub_mask rfl hM | exact InMask.auto

theorem execMainPgFall_runs {M : Nat} {z s : State} {off : Nat} (hz : Keeps M z s) (hM : 0x17ffffffe72fff5fefe ||| M
    = M) :
    Runs M z (execMainPgFall off s) := by
  unfold execMainPgFall
  try dsimp only
  with_reducible repeat' first
    | assumption | apply Runs.next | apply Runs.ite | apply State.mainPgLow_keeps | apply State.at_keeps
    | apply Keeps.ite | split
  all_goals exact sub_mask rfl hM

theorem execMainUndervoltage_runs {M : Nat} {z s : State} {off : Nat} (hz : Keeps M z s) (hM : 0x17ffffffe72fff5fefe
    ||| M = M) :
    Runs M z (execMainUndervoltage off s) := by
  unfold execMainUndervoltage
  try dsimp only
  with_reducible repeat' first
    | assumption | apply Runs.next | apply Runs.ite | apply State.mainPgLow_keeps | apply State.at_keeps
    | apply Keeps.ite | split
  all_goals exact sub_mask rfl hM

theorem execResetNFall_runs {M : Nat} {z s : State} {off : Nat} {withPg : Bool} (hz : Keeps M z s) (hM :
    0x17ffffffe76fff5fefe ||| M = M) :
    Runs M z (execResetNFall off withPg s) := by
  unfold execResetNFall
  try dsimp only
  with_reducible repeat' first
    | assumption | apply Runs.next | apply Runs.ite | apply State.at_keeps | apply State.engageAll_keeps
    | apply State.resetMain_keeps | apply State.resetSec_keeps | apply State.abandonUpdate_keeps
    | apply State.setSState_keeps | apply State.recordEntry_keeps | apply Keeps.ite | split | apply Keeps.set_pins
  all_goals exact sub_mask rfl hM

theorem execResetNRise_runs {M : Nat} {z s : State} {off : Nat} (hz : Keeps M z s) (hM : 0x17ffffffe0400002a02 ||| M
    = M) :
    Runs M z (execResetNRise off s) := by
  unfold execResetNRise
  try dsimp only
  with_reducible repeat' first
    | assumption | apply Runs.next | apply Runs.ite | apply State.at_keeps | apply State.startSec_keeps
    | apply Keeps.ite | split | apply Keeps.set_pins
  all_goals exact sub_mask rfl hM

theorem execTapInstruction_runs {M : Nat} {z s : State} {off : Nat} {opcode : BitVec 8} (hz : Keeps M z s) (hM :
    0x2208000000a02 ||| M = M) :
    Runs M z (execTapInstruction off opcode s) := by
  unfold execTapInstruction
  try dsimp only
  with_reducible repeat' first
    | assumption | apply Runs.next | apply Runs.ite | apply State.at_keeps | apply State.raiseIrq_keeps
    | apply Keeps.ite | split | apply Keeps.set_tap
  all_goals first
    | exact sub_mask rfl hM | exact InMask.auto

theorem execSafeStateEntry_runs {M : Nat} {z s : State} {off : Nat} {codes : List (Fin 12)} {src : Option (BitVec
    14)} (hz : Keeps M z s) (hM : 0x17ffffffe72fff5fefe ||| M = M) :
    Runs M z (execSafeStateEntry off codes src s) := by
  unfold execSafeStateEntry
  try dsimp only
  with_reducible repeat' first
    | assumption | apply Runs.next | apply Runs.ite | apply State.at_keeps | apply State.safeEnter_keeps
    | apply Keeps.ite | split
  all_goals exact sub_mask rfl hM

theorem execSafeCtlEnter_runs {M : Nat} {z s : State} {off : Nat} (hz : Keeps M z s) (hM : 0x17ffffffe72fff5fefe |||
    M = M) :
    Runs M z (execSafeCtlEnter off s) := by
  unfold execSafeCtlEnter
  try dsimp only
  with_reducible repeat' first
    | assumption | apply Runs.next | apply Runs.ite | apply State.at_keeps | apply State.ctlEnter_keeps
    | apply State.write_keeps | apply Keeps.ite | split
  all_goals first
    | exact sub_mask rfl hM | exact InMask.auto

theorem execSafeResetAssert_runs {M : Nat} {z s : State} {off : Nat} {dumped ddrKept : Bool} (hz : Keeps M z s) (hM
    : 0x17ffffffe77fff5fefe ||| M = M) :
    Runs M z (execSafeResetAssert off dumped ddrKept s) := by
  unfold execSafeResetAssert
  try dsimp only
  with_reducible repeat' first
    | assumption | apply Runs.next | apply Runs.ite | apply State.at_keeps | apply State.setDdr_keeps
    | apply State.startRestart_keeps | apply State.secMap_keeps | apply State.writeDump_keeps
    | apply State.keepHeads_keeps | apply State.locksLost_keeps | apply Keeps.ite | exact fun _ => Mem.wf_nil 0
    | exact fun hd => Mem.wf_store 0 _ _ _ hd | split
  all_goals first
    | exact sub_mask rfl hM | exact InMask.auto

theorem execMainResetRelease_runs {M : Nat} {z s : State} {off : Nat} {straps : BitVec 3} {cool : Bool} {waitUs
    holdUs islandUs : Word} (hz : Keeps M z s) (hM : 0x17ffffffe0800006e02 ||| M = M) :
    Runs M z (execMainResetRelease off straps cool waitUs holdUs islandUs s) := by
  unfold execMainResetRelease
  try dsimp only
  with_reducible repeat' first
    | assumption | apply Runs.next | apply Runs.ite | apply State.setFld_keeps | apply State.at_keeps
    | apply State.flashReset_keeps | apply State.startImage_keeps | apply State.bootCleared_keeps
    | apply State.startUnits_keeps | apply Keeps.ite | split | apply Keeps.set_pins
  all_goals first
    | exact sub_mask rfl hM | exact InMask.auto

theorem execRestartComplete_runs {M : Nat} {z s : State} {off : Nat} {micros : Word} (hz : Keeps M z s) (hM :
    0x12120100004a02 ||| M = M) :
    Runs M z (execRestartComplete off micros s) := by
  unfold execRestartComplete
  try dsimp only
  with_reducible repeat' first
    | assumption | apply Runs.next | apply Runs.ite | apply State.at_keeps | apply State.setFld_keeps
    | apply State.setSState_keeps | apply State.incFld_keeps | apply State.safeMap_keeps | apply State.pcieMap_keeps
    | apply State.raiseIrq_keeps | apply Keeps.ite | split
  all_goals first
    | exact sub_mask rfl hM | exact InMask.auto

theorem execWarmRestartTimeout_runs {M : Nat} {z s : State} {off : Nat} {us : Nat} (hz : Keeps M z s) (hM :
    0x17ffffffe72fff5fafe ||| M = M) :
    Runs M z (execWarmRestartTimeout off us s) := by
  unfold execWarmRestartTimeout
  try dsimp only
  with_reducible repeat' first
    | assumption | apply Runs.next | apply Runs.ite | apply State.at_keeps | apply State.resetMain_keeps
    | apply State.setSState_keeps | apply Keeps.ite | split
  all_goals first
    | exact sub_mask rfl hM | exact InMask.auto

theorem execSafeCtlRestart_runs {M : Nat} {z s : State} {off : Nat} (hz : Keeps M z s) (hM : 0x17ffffffe72fff5fafe
    ||| M = M) :
    Runs M z (execSafeCtlRestart off s) := by
  unfold execSafeCtlRestart
  try dsimp only
  with_reducible repeat' first
    | assumption | apply Runs.next | apply Runs.ite | apply State.at_keeps | apply State.ctlRestart_keeps
    | apply State.write_keeps | apply Keeps.ite | split
  all_goals first
    | exact sub_mask rfl hM | exact InMask.auto

theorem execMainPgRise_runs {M : Nat} {z s : State} {off : Nat} (hz : Keeps M z s) (hM : 0x2800 ||| M = M) :
    Runs M z (execMainPgRise off s) := by
  unfold execMainPgRise
  try dsimp only
  with_reducible repeat' first
    | assumption | apply Runs.next | apply Runs.ite | apply State.at_keeps | apply Keeps.ite | split
    | apply Keeps.set_pins
  all_goals exact sub_mask rfl hM

theorem execFltErr_runs {M : Nat} {z s : State} {off : Nat} (hz : Keeps M z s) (hM : 0x17ffffffe72fff5fefe ||| M =
    M) :
    Runs M z (execFltErr off s) := by
  unfold execFltErr
  try dsimp only
  with_reducible repeat' first
    | assumption | apply Runs.next | apply Runs.ite | apply State.at_keeps | apply State.safeEnter_keeps
    | apply Keeps.ite | split
  all_goals exact sub_mask rfl hM

theorem execStateMismatch_runs {M : Nat} {z s : State} {off : Nat} {page : BitVec 14} (hz : Keeps M z s) (hM :
    0x2100000040a02 ||| M = M) (hp : InMask M page.toNat := by exact InMask.auto) :
    Runs M z (execStateMismatch off page s) := by
  unfold execStateMismatch
  try dsimp only
  with_reducible repeat' first
    | assumption | apply Runs.next | apply Runs.ite | apply State.at_keeps | apply State.setFld_keeps
    | apply State.setAux_keeps | apply State.raiseIrq_keeps | apply State.incFld_keeps | apply State.setFault_keeps
    | apply Keeps.ite | split
  all_goals first
    | exact sub_mask rfl hM | exact InMask.auto

theorem State.testFailed_keeps {M : Nat} {z s : State} {page : Nat} (hz : Keeps M z s) (hM : 0x17ffffffe72fff5fefe ||| M = M) (hp :
    InMask M page := by exact InMask.auto) :
    Keeps M z (State.testFailed s page) := by
  unfold State.testFailed
  try dsimp only
  with_reducible repeat' first
    | assumption | apply State.setUnit_keeps | apply State.failUnit_keeps | apply State.afterUnit_keeps
    | apply Keeps.ite | split
  all_goals first
    | exact sub_mask rfl hM | exact InMask.auto

theorem execUnitSelftestDone_runs {M : Nat} {z s : State} {off : Nat} {page : BitVec 14} {pass : Bool} (hz : Keeps M
    z s) (hM : 0x17ffffffe72fff5fefe ||| M = M) (hp : InMask M page.toNat := by exact InMask.auto) :
    Runs M z (execUnitSelftestDone off page pass s) := by
  unfold execUnitSelftestDone
  try dsimp only
  with_reducible repeat' first
    | assumption | apply Runs.next | apply Runs.ite | apply State.at_keeps | apply State.setTest_keeps
    | apply State.gcmTest_keeps | apply State.testFailed_keeps | apply State.moveUnit_keeps
    | apply State.tested_keeps | apply State.afterUnit_keeps | apply State.setUnit_keeps | apply Keeps.ite
    | split
  all_goals first
    | exact sub_mask rfl hM | exact InMask.auto

theorem execReinstateSelftestDone_runs {M : Nat} {z s : State} {off : Nat} {page : BitVec 14} {pass : Bool} (hz :
    Keeps M z s) (hM : 0x2100000040a02 ||| M = M) (hp : InMask M page.toNat := by exact InMask.auto) :
    Runs M z (execReinstateSelftestDone off page pass s) := by
  unfold execReinstateSelftestDone
  try dsimp only
  with_reducible repeat' first
    | assumption | apply Runs.next | apply Runs.ite | apply State.at_keeps | apply State.setTest_keeps
    | apply State.setFld_keeps | apply State.endReq_keeps | apply Keeps.ite | split
  all_goals first
    | exact sub_mask rfl hM | exact InMask.auto

theorem State.rowsLeak_keeps {M : Nat} {z s : State} {c : Nat} (hz : Keeps M z s) (hM : 0x40000000 ||| M = M) :
    Keeps M z (State.rowsLeak s c) := by
  unfold State.rowsLeak
  try dsimp only
  with_reducible repeat' first
    | assumption | apply State.setChan5_keeps | apply Keeps.ite | split
  all_goals exact sub_mask rfl hM

theorem State.noteLeak_keeps {M : Nat} {z s : State} {k : Nat} (hz : Keeps M z s) (hM : 0x2 ||| M = M) :
    Keeps M z (State.noteLeak s k) := by
  unfold State.noteLeak
  try dsimp only
  with_reducible repeat' first
    | assumption | apply Keeps.ite | split | apply Keeps.set_clk
  all_goals exact sub_mask rfl hM

theorem execLeakDecrement_runs {M : Nat} {z s : State} {page : BitVec 14} {ch : Option Channel} (hz : Keeps M z s)
    (hM : 0x10f20612007940c602 ||| M = M) (hp : InMask M page.toNat := by exact InMask.auto) :
    Runs M z (execLeakDecrement page ch s) := by
  unfold execLeakDecrement
  try dsimp only
  with_reducible repeat' first
    | assumption | apply Runs.next | apply Runs.ite | apply State.decFld_keeps | apply State.rowsLeak_keeps
    | apply State.noteLeak_keeps | apply State.leakJudged_keeps | apply Keeps.ite | split
  all_goals first
    | exact sub_mask rfl hM | exact InMask.auto

theorem execTurnBoundary_runs {M : Nat} {z s : State} {m : TurnMeasure} (hz : Keeps M z s) (hM :
    0x17ffffffe72fff5defe ||| M = M) :
    Runs M z (execTurnBoundary m s) := by
  unfold execTurnBoundary
  try dsimp only
  with_reducible repeat' first
    | assumption | apply Runs.next | apply Runs.ite | apply State.loadBoundary_keeps
    | apply State.turnBoundary_keeps | apply Keeps.ite | split
  all_goals first
    | exact sub_mask rfl hM | exact InMask.auto

theorem execRegisterWrite_runs {M : Nat} {z s : State} {off : Nat} {fn : Fin 62} {addr : BitVec 26} {data : List
    (Option (BitVec 8))} (hz : Keeps M z s) (hM : 0x17ffffffe7bfff5fefe ||| M = M) :
    Runs M z (execRegisterWrite off fn addr data s) := by
  unfold execRegisterWrite
  try dsimp only
  with_reducible repeat' first
    | assumption | apply Runs.next | apply Runs.ite | apply State.at_keeps | apply State.writeParts_keeps
    | apply Keeps.ite | split
  all_goals exact sub_mask rfl hM

theorem State.dueMarks_keeps {M : Nat} {z s : State} (hz : Keeps M z s) (hM : 0x17ffffffe00000016e2 ||| M = M) :
    Keeps M z (State.dueMarks s) := by
  unfold State.dueMarks
  try dsimp only
  with_reducible repeat' first
    | assumption | apply State.fireMarks_keeps | apply Keeps.ite | split
  all_goals first
    | exact sub_mask rfl hM | exact InMask.auto

theorem execRcCounterRead_runs {M : Nat} {z s : State} {off : Nat} {fn : Fin 62} {addr : BitVec 26} {be : List Bool}
    (hz : Keeps M z s) (hM : 0x17ffffffe0000001fe2 ||| M = M) :
    Runs M z (execRcCounterRead off fn addr be s) := by
  unfold execRcCounterRead
  try dsimp only
  with_reducible repeat' first
    | assumption | apply Runs.next | apply Runs.ite | apply State.at_keeps | apply State.readParts_keeps
    | apply State.dueMarks_keeps | apply Keeps.ite | split | apply Keeps.set_rdata
  all_goals first
    | exact sub_mask rfl hM | exact InMask.auto

theorem execCounterLoRead_runs {M : Nat} {z s : State} {off : Nat} {page : BitVec 14} {o : BitVec 12} (hz : Keeps M
    z s) (hM : 0x17ffffffe0000001fe2 ||| M = M) (hp : InMask M page.toNat := by exact InMask.auto) :
    Runs M z (execCounterLoRead off page o s) := by
  unfold execCounterLoRead
  try dsimp only
  with_reducible repeat' first
    | assumption | apply Runs.next | apply Runs.ite | apply State.at_keeps | apply State.readPart_keeps
    | apply State.dueMarks_keeps | apply Keeps.set_rdata | apply Keeps.ite | refine Keeps.of_snd (by assumption) ?_ | split
  all_goals first
    | exact sub_mask rfl hM | exact InMask.auto

theorem execUnassignedPageAccess_runs {M : Nat} {z s : State} {off : Nat} {addr : BitVec 26} {write : Bool} (hz :
    Keeps M z s) (hM : 0x20000000902 ||| M = M) :
    Runs M z (execUnassignedPageAccess off addr write s) := by
  unfold execUnassignedPageAccess
  try dsimp only
  with_reducible repeat' first
    | assumption | apply Runs.next | apply Runs.ite | apply State.at_keeps | apply State.unmapped_keeps
    | apply Keeps.ite | split | apply Keeps.set_rdata
  all_goals exact sub_mask rfl hM

theorem execRestartingPageAccess_runs {M : Nat} {z s : State} {off : Nat} {addr : BitVec 26} {write : Bool} (hz :
    Keeps M z s) (hM : 0x20000000902 ||| M = M) :
    Runs M z (execRestartingPageAccess off addr write s) := by
  unfold execRestartingPageAccess
  try dsimp only
  with_reducible repeat' first
    | assumption | apply Runs.next | apply Runs.ite | apply State.at_keeps | apply State.unmapped_keeps
    | apply Keeps.ite | split | apply Keeps.set_rdata
  all_goals exact sub_mask rfl hM

theorem execSnapshotTrigger_runs {M : Nat} {z s : State} {off : Nat} {page : BitVec 14} {ctl : Word} (hz : Keeps M z
    s) (hM : 0x2120000000efa ||| M = M) (hp : InMask M page.toNat := by exact InMask.auto) :
    Runs M z (execSnapshotTrigger off page ctl s) := by
  unfold execSnapshotTrigger
  try dsimp only
  with_reducible repeat' first
    | assumption | apply Runs.next | apply Runs.ite | apply State.at_keeps | apply State.unmapped_keeps
    | apply State.write_keeps | apply State.snapTrigger_keeps | apply Keeps.ite | split
  all_goals first
    | exact sub_mask rfl hM | exact InMask.auto

theorem execSnapAll_runs {M : Nat} {z s : State} {off : Nat} (hz : Keeps M z s) (hM : 0x17ffffffe0000000ce2 ||| M =
    M) :
    Runs M z (execSnapAll off s) := by
  unfold execSnapAll
  try dsimp only
  with_reducible repeat' first
    | assumption | apply Runs.next | apply Runs.ite | apply State.snapAll_keeps | apply State.at_keeps
    | apply Keeps.ite | split
  all_goals exact sub_mask rfl hM

theorem execPageLockSet_runs {M : Nat} {z s : State} {off : Nat} {page : BitVec 14} (hz : Keeps M z s) (hM :
    0x20000000802 ||| M = M) (hp : InMask M page.toNat := by exact InMask.auto) :
    Runs M z (execPageLockSet off page s) := by
  unfold execPageLockSet
  try dsimp only
  with_reducible repeat' first
    | assumption | apply Runs.next | apply Runs.ite | apply State.at_keeps | apply State.unmapped_keeps
    | apply State.lockPage_keeps | apply Keeps.ite | split
  all_goals first
    | exact sub_mask rfl hM | exact InMask.auto

theorem execLockAll_runs {M : Nat} {z s : State} {off : Nat} (hz : Keeps M z s) (hM : 0x17ffffffe0000000802 ||| M =
    M) :
    Runs M z (execLockAll off s) := by
  unfold execLockAll
  try dsimp only
  with_reducible repeat' first
    | assumption | apply Runs.next | apply Runs.ite | apply State.lockAll_keeps | apply State.at_keeps
    | apply Keeps.ite | split
  all_goals exact sub_mask rfl hM

theorem State.offer'_keeps {M : Nat} {z s : State} {r : Nat} {x : TilePacket} (hz : Keeps M z s) (hM : 0x9002000018000202 ||| M =
    M) :
    Keeps M z (State.offer' r s x) := by
  unfold State.offer'
  try dsimp only
  with_reducible repeat' first
    | assumption | apply State.inject_keeps | apply Keeps.ite | split
  all_goals first
    | exact sub_mask rfl hM | exact InMask.auto

theorem State.settleAll_keeps {M : Nat} {z s : State} {r : Nat} (hz : Keeps M z s) (hM : 0x9000000018000002 ||| M = M) :
    Keeps M z (State.settleAll s r) := by
  unfold State.settleAll
  try dsimp only
  with_reducible repeat' first
    | assumption | apply State.settle_keeps | apply Keeps.ite | (apply Keeps.foldl; intro _ _ _) | split
  all_goals first
    | exact sub_mask rfl hM | exact InMask.auto

theorem execPacketRoute_runs {M : Nat} {z s : State} {off : Nat} {r : Fin 128} {o : Fin 5} {offers : List
    TilePacket} (hz : Keeps M z s) (hM : 0x17ffffffe7bfff5fffe ||| M = M) :
    Runs M z (execPacketRoute off r o offers s) := by
  unfold execPacketRoute
  try dsimp only
  with_reducible repeat' first
    | assumption | apply Runs.next | apply Runs.ite | apply State.at_keeps | apply State.countMiss_keeps
    | apply State.forward_keeps | apply State.ctlPacket_keeps | apply State.settleAll_keeps
    | apply State.offer'_keeps | apply State.inject_keeps | apply Keeps.ite | (apply Keeps.foldl; intro _ _ _)
    | split
  all_goals first
    | exact sub_mask rfl hM | exact InMask.auto

theorem execWriteReg_runs {M : Nat} {z s : State} {off : Nat} (hz : Keeps M z s) (hM : 0x17ffffffe7ffff5fefe ||| M =
    M) :
    Runs M z (execWriteReg off s) := by
  unfold execWriteReg
  try dsimp only
  with_reducible repeat' first
    | assumption | apply Runs.next | apply Runs.ite | apply State.runCmd_keeps | apply State.sectionFail_keeps
    | apply State.loadWrite_keeps | apply State.at_keeps | apply Keeps.ite | split | (intro _ _ _ _; try dsimp only)
  all_goals first
    | exact sub_mask rfl hM | exact InMask.auto

end Sys2Proof.Machine
end

