-- ==== Sys2Proof/Laws/RunsLine.lean ====
section
/-!
SUPPORT. What each command keeps (the lanes, the optics and the line): one law `execX_runs` for each meaning, which also says that the
meaning answers a next state.
-/

set_option Elab.async false

namespace Sys2Proof.Machine

open Sys2Proof

theorem execHoldoffExpiry_runs {M : Nat} {z s : State} {off : Nat} {fn : BitVec 6} {slot : Fin 12} (hz : Keeps M z
    s) (hM : 0x1000002000002000a02 ||| M = M) :
    Runs M z (execHoldoffExpiry off fn slot s) := by
  unfold execHoldoffExpiry
  try dsimp only
  with_reducible repeat' first
    | assumption | apply Runs.next | apply Runs.ite | apply State.at_keeps | apply State.hostMap_keeps
    | apply State.raiseVector_keeps | apply Keeps.ite | split
  all_goals first
    | exact sub_mask rfl hM | exact InMask.auto

theorem execScoreRecord_runs {M : Nat} {z s : State} {off : Nat} {r : ScoreRec} (hz : Keeps M z s) (hM :
    0x202000000400e02 ||| M = M) :
    Runs M z (execScoreRecord off r s) := by
  unfold execScoreRecord
  try dsimp only
  with_reducible repeat' first
    | assumption | apply Runs.next | apply Runs.ite | apply State.scoreRecord_keeps | apply State.at_keeps
    | apply Keeps.ite | split
  all_goals exact sub_mask rfl hM

theorem State.orderLate_keeps {M : Nat} {z s : State} {i id : Nat} (hz : Keeps M z s) (hM : 0xa02000000400602 ||| M = M) :
    Keeps M z (State.orderLate s i id) := by
  unfold State.orderLate
  try dsimp only
  with_reducible repeat' first
    | assumption | apply State.raiseIrq_keeps | apply State.incFld_keeps | apply State.sumpFrame_keeps
    | apply State.leaveJoin_keeps | apply Keeps.ite | split
  all_goals first
    | exact sub_mask rfl hM | exact InMask.auto

theorem execJoinDeadline_runs {M : Nat} {z s : State} {off : Nat} {p : Port} {pseq : BitVec 32} (hz : Keeps M z s)
    (hM : 0xa02000000400e02 ||| M = M) :
    Runs M z (execJoinDeadline off p pseq s) := by
  unfold execJoinDeadline
  try dsimp only
  with_reducible repeat' first
    | assumption | apply Runs.next | apply Runs.ite | apply State.at_keeps | apply State.completeJoin_keeps
    | apply State.orderLate_keeps | apply State.raiseIrq_keeps | apply State.incFld_keeps
    | apply State.leaveJoin_keeps | apply State.sumpFrame_keeps | apply Keeps.ite | split
  all_goals first
    | exact sub_mask rfl hM | exact InMask.auto

theorem execOrderRelease_runs {M : Nat} {z s : State} {off : Nat} {i : Pipe} (hz : Keeps M z s) (hM :
    0x1a02000000400e02 ||| M = M) :
    Runs M z (execOrderRelease off i s) := by
  unfold execOrderRelease
  try dsimp only
  with_reducible repeat' first
    | assumption | apply Runs.next | apply Runs.ite | apply State.at_keeps | apply State.setFrame_keeps
    | apply State.enter_keeps | apply State.offer_keeps | apply State.leaveJoin_keeps
    | apply State.orderLate_keeps | apply Keeps.ite | split
  all_goals first
    | exact sub_mask rfl hM | exact InMask.auto

theorem execFt4Reply_runs {M : Nat} {z s : State} {off : Nat} {p : Port} {pseq : BitVec 32} {verdict : Fin 8} {copy
    : Bool} (hz : Keeps M z s) (hM : 0x202000000400a02 ||| M = M) :
    Runs M z (execFt4Reply off p pseq verdict copy s) := by
  unfold execFt4Reply
  try dsimp only
  with_reducible repeat' first
    | assumption | apply Runs.next | apply Runs.ite | apply State.ft4Reply_keeps | apply State.at_keeps
    | apply Keeps.ite | split
  all_goals exact sub_mask rfl hM

theorem execFt4Timeout_runs {M : Nat} {z s : State} {off : Nat} {i : Pipe} (hz : Keeps M z s) (hM : 0x400800 ||| M =
    M) :
    Runs M z (execFt4Timeout off i s) := by
  unfold execFt4Timeout
  try dsimp only
  with_reducible repeat' first
    | assumption | apply Runs.next | apply Runs.ite | apply State.at_keeps | apply State.setFrame_keeps
    | apply Keeps.ite | split
  all_goals exact sub_mask rfl hM

theorem State.syncLost_keeps {M : Nat} {z s : State} {l : Nat} (hz : Keeps M z s) (hM : 0x10000612000100c602 ||| M = M) :
    Keeps M z (State.syncLost s l) := by
  unfold State.syncLost
  try dsimp only
  with_reducible repeat' first
    | assumption | apply State.setFld_keeps | apply State.raiseIrq_keeps | apply State.incFld_keeps
    | apply State.laneEvent_keeps | apply Keeps.ite | split
  all_goals first
    | exact sub_mask rfl hM | exact InMask.auto

theorem execLrefLoss_runs {M : Nat} {z s : State} {off : Nat} (hz : Keeps M z s) (hM : 0x17ffffffe76fff5fefe ||| M =
    M) :
    Runs M z (execLrefLoss off s) := by
  unfold execLrefLoss
  try dsimp only
  with_reducible repeat' first
    | assumption | apply Runs.next | apply Runs.ite | apply State.setFld_keeps | apply State.raiseIrq_keeps
    | apply State.at_keeps | apply State.windlassFault_keeps | apply State.laneFixed_keeps
    | apply State.chainBroken_keeps | apply State.syncLost_keeps | apply Keeps.ite
    | (apply Keeps.foldl; intro _ _ _) | split | apply Keeps.set_wdl
  all_goals first
    | exact sub_mask rfl hM | exact InMask.auto

theorem execSignalDetectRise_runs {M : Nat} {z s : State} {off : Nat} {l : LaneIx} (hz : Keeps M z s) (hM :
    0x10024616000140de02 ||| M = M) :
    Runs M z (execSignalDetectRise off l s) := by
  unfold execSignalDetectRise
  try dsimp only
  with_reducible repeat' first
    | assumption | apply Runs.next | apply Runs.ite | apply State.at_keeps | apply State.signalRise_keeps
    | apply thenLinked_runs | apply Keeps.ite | split
  all_goals first
    | exact sub_mask rfl hM | exact InMask.auto

theorem execLossOfSignal_runs {M : Nat} {z s : State} {off : Nat} {l : LaneIx} (hz : Keeps M z s) (hM :
    0x10024616000140de02 ||| M = M) :
    Runs M z (execLossOfSignal off l s) := by
  unfold execLossOfSignal
  try dsimp only
  with_reducible repeat' first
    | assumption | apply Runs.next | apply Runs.ite | apply State.at_keeps | apply State.signalLoss_keeps
    | apply thenLinked_runs | apply Keeps.ite | split
  all_goals first
    | exact sub_mask rfl hM | exact InMask.auto

theorem execTrainingWordRx_runs {M : Nat} {z s : State} {off : Nat} {l : LaneIx} {marker : BitVec 64} {word : BitVec
    40} {rxDone : Bool} {ask : BitVec 9} (hz : Keeps M z s) (hM : 0x10020612000140ce02 ||| M = M) :
    Runs M z (execTrainingWordRx off l marker word rxDone ask s) := by
  unfold execTrainingWordRx
  try dsimp only
  with_reducible repeat' first
    | assumption | apply Runs.next | apply Runs.ite | apply State.incFld_keeps | apply State.at_keeps
    | apply State.setLane_keeps | apply State.laneFrame_keeps | apply State.laneCount_keeps
    | apply State.laneRespond_keeps | apply State.laneOwnReady_keeps | apply thenLinked_runs
    | apply State.sendTraining_keeps | apply Keeps.ite | split
  all_goals first
    | exact sub_mask rfl hM | exact InMask.auto

theorem execTrainingAttemptTimeout_runs {M : Nat} {z s : State} {off : Nat} {l : LaneIx} (hz : Keeps M z s) (hM :
    0x10020612000140ce02 ||| M = M) :
    Runs M z (execTrainingAttemptTimeout off l s) := by
  unfold execTrainingAttemptTimeout
  try dsimp only
  with_reducible repeat' first
    | assumption | apply Runs.next | apply Runs.ite | apply thenLinked_runs | apply State.laneFail_keeps
    | apply State.at_keeps | apply Keeps.ite | split
  all_goals exact sub_mask rfl hM

theorem execBackoffExpiry_runs {M : Nat} {z s : State} {off : Nat} {l : LaneIx} (hz : Keeps M z s) (hM :
    0x10020612000140ce02 ||| M = M) :
    Runs M z (execBackoffExpiry off l s) := by
  unfold execBackoffExpiry
  try dsimp only
  with_reducible repeat' first
    | assumption | apply Runs.next | apply Runs.ite | apply thenLinked_runs | apply State.laneAttempt_keeps
    | apply State.at_keeps | apply Keeps.ite | split
  all_goals exact sub_mask rfl hM

theorem execNoPartnerRetry_runs {M : Nat} {z s : State} {off : Nat} {l : LaneIx} (hz : Keeps M z s) (hM :
    0x10020612000140ce02 ||| M = M) :
    Runs M z (execNoPartnerRetry off l s) := by
  unfold execNoPartnerRetry
  try dsimp only
  with_reducible repeat' first
    | assumption | apply Runs.next | apply Runs.ite | apply thenLinked_runs | apply State.laneCycle_keeps
    | apply State.at_keeps | apply Keeps.ite | split
  all_goals exact sub_mask rfl hM

theorem execDataStart_runs {M : Nat} {z s : State} {off : Nat} {l : LaneIx} (hz : Keeps M z s) (hM :
    0x10020612000140ce02 ||| M = M) :
    Runs M z (execDataStart off l s) := by
  unfold execDataStart
  try dsimp only
  with_reducible repeat' first
    | assumption | apply Runs.next | apply Runs.ite | apply State.setFld_keeps | apply State.at_keeps
    | apply State.setLane_keeps | apply State.setLstate_keeps | apply thenLinked_runs | apply State.unlock_keeps
    | apply State.sendBits_keeps | apply State.codeMap_keeps | apply Keeps.ite | split
  all_goals first
    | exact sub_mask rfl hM | exact InMask.auto

theorem State.headersIn_keeps {M : Nat} {z s : State} {l : Nat} {hs : List (Fin 4)} (hz : Keeps M z s) (hM : 0x4000000008002 |||
    M = M) :
    Keeps M z (State.headersIn s l hs) := by
  unfold State.headersIn
  try dsimp only
  with_reducible repeat' first
    | assumption | apply State.incFld_keeps | apply State.codeMap_keeps | apply Keeps.ite
    | (apply Keeps.foldl; intro _ _ _) | split
  all_goals first
    | exact sub_mask rfl hM | exact InMask.auto

theorem execBlockLock_runs {M : Nat} {z s : State} {off : Nat} {l : LaneIx} {headers : List (Fin 4)} (hz : Keeps M z
    s) (hM : 0x10020612000140ce02 ||| M = M) :
    Runs M z (execBlockLock off l headers s) := by
  unfold execBlockLock
  try dsimp only
  with_reducible repeat' first
    | assumption | apply Runs.next | apply Runs.ite | apply State.setFld_keeps | apply State.at_keeps
    | apply State.setLane_keeps | apply State.setLstate_keeps | apply thenLinked_runs | apply State.codeMap_keeps
    | apply State.headersIn_keeps | apply Keeps.ite | split
  all_goals first
    | exact sub_mask rfl hM | exact InMask.auto

theorem execBlockLockTimeout_runs {M : Nat} {z s : State} {off : Nat} {l : LaneIx} (hz : Keeps M z s) (hM :
    0x10020612000140ce02 ||| M = M) :
    Runs M z (execBlockLockTimeout off l s) := by
  unfold execBlockLockTimeout
  try dsimp only
  with_reducible repeat' first
    | assumption | apply Runs.next | apply Runs.ite | apply State.at_keeps | apply State.laneCycle_keeps
    | apply State.laneFail_keeps | apply thenLinked_runs | apply Keeps.ite | split
  all_goals first
    | exact sub_mask rfl hM | exact InMask.auto

theorem State.headersJudged_keeps {M : Nat} {z s : State} {l : Nat} {hs : List (Fin 4)} (hz : Keeps M z s) (hM : 0x10000612000100c602
    ||| M = M) :
    Keeps M z (State.headersJudged s l hs) := by
  unfold State.headersJudged
  try dsimp only
  with_reducible repeat' first
    | assumption | apply State.setFld_keeps | apply State.raiseIrq_keeps | apply State.incFld_keeps
    | apply State.setLane_keeps | apply State.laneEvent_keeps | apply State.laneFast_keeps
    | apply State.codeMap_keeps | apply State.headersIn_keeps | apply Keeps.ite | split
  all_goals first
    | exact sub_mask rfl hM | exact InMask.auto

theorem State.linkErrors_keeps {M : Nat} {z s : State} {l k : Nat} (hz : Keeps M z s) (hM : 0x100002000001008602 ||| M = M) :
    Keeps M z (State.linkErrors s l k) := by
  unfold State.linkErrors
  try dsimp only
  with_reducible repeat' first
    | assumption | apply State.raiseIrq_keeps | apply State.incFld_keeps | apply State.sendNak_keeps
    | apply Keeps.ite | split
  all_goals first
    | exact sub_mask rfl hM | exact InMask.auto

theorem execBlockLockLoss_runs {M : Nat} {z s : State} {off : Nat} {l : LaneIx} {headers : List (Fin 4)} (hz : Keeps
    M z s) (hM : 0x10020612000140ce02 ||| M = M) :
    Runs M z (execBlockLockLoss off l headers s) := by
  unfold execBlockLockLoss
  try dsimp only
  with_reducible repeat' first
    | assumption | apply Runs.next | apply Runs.ite | apply State.at_keeps | apply thenLinked_runs
    | apply State.headersJudged_keeps | apply State.linkErrors_keeps | apply State.raiseIrq_keeps
    | apply State.incFld_keeps | apply State.setFld_keeps | apply State.laneEvent_keeps
    | apply State.laneFast_keeps | apply State.laneNoPartner_keeps | apply State.setLane_keeps | apply Keeps.ite
    | split
  all_goals first
    | exact sub_mask rfl hM | exact InMask.auto

theorem execLaneTestDone_runs {M : Nat} {z s : State} {off : Nat} {l : LaneIx} {invalid : Nat} (hz : Keeps M z s)
    (hM : 0x10020612000140ce02 ||| M = M) :
    Runs M z (execLaneTestDone off l invalid s) := by
  unfold execLaneTestDone
  try dsimp only
  with_reducible repeat' first
    | assumption | apply Runs.next | apply Runs.ite | apply State.setFld_keeps | apply State.incFld_keeps
    | apply State.at_keeps | apply State.setLane_keeps | apply State.laneCycle_keeps
    | apply State.laneRetire_keeps | apply State.laneFail_keeps | apply State.laneUp_keeps
    | apply thenLinked_runs | apply Keeps.ite | split
  all_goals first
    | exact sub_mask rfl hM | exact InMask.auto

theorem execFastRetrainTimeout_runs {M : Nat} {z s : State} {off : Nat} {l : LaneIx} (hz : Keeps M z s) (hM :
    0x10020612000140ce02 ||| M = M) :
    Runs M z (execFastRetrainTimeout off l s) := by
  unfold execFastRetrainTimeout
  try dsimp only
  with_reducible repeat' first
    | assumption | apply Runs.next | apply Runs.ite | apply thenLinked_runs | apply State.laneCycle_keeps
    | apply State.at_keeps | apply Keeps.ite | split
  all_goals exact sub_mask rfl hM

theorem execErrorInterval_runs {M : Nat} {z s : State} {off : Nat} {l : LaneIx} {invalid : Nat} (hz : Keeps M z s)
    (hM : 0x10020612000140ce02 ||| M = M) :
    Runs M z (execErrorInterval off l invalid s) := by
  unfold execErrorInterval
  try dsimp only
  with_reducible repeat' first
    | assumption | apply Runs.next | apply Runs.ite | apply State.incFld_keeps | apply State.at_keeps
    | apply State.setLane_keeps | apply State.laneEvent_keeps | apply thenLinked_runs | apply State.codeMap_keeps
    | apply State.linkErrors_keeps | apply Keeps.ite | split
  all_goals first
    | exact sub_mask rfl hM | exact InMask.auto

theorem State.linkSlip_keeps {M : Nat} {z s : State} {n : Nat} (hz : Keeps M z s) (hM : 0x100000000001000002 ||| M = M) :
    Keeps M z (State.linkSlip s n) := by
  unfold State.linkSlip
  try dsimp only
  with_reducible repeat' first
    | assumption | apply State.incFld_keeps | apply State.setRlink_keeps | apply Keeps.ite | split
  all_goals first
    | exact sub_mask rfl hM | exact InMask.auto

theorem execWanderSlip_runs {M : Nat} {z s : State} {off : Nat} {l : LaneIx} {drift : Int} (hz : Keeps M z s) (hM :
    0x100006000001008a02 ||| M = M) :
    Runs M z (execWanderSlip off l drift s) := by
  unfold execWanderSlip
  try dsimp only
  with_reducible repeat' first
    | assumption | apply Runs.next | apply Runs.ite | apply State.setFld_keeps | apply State.raiseIrq_keeps
    | apply State.incFld_keeps | apply State.at_keeps | apply State.setLane_keeps | apply State.linkSlip_keeps
    | apply Keeps.ite | (apply Keeps.foldl; intro _ _ _) | split
  all_goals first
    | exact sub_mask rfl hM | exact InMask.auto

theorem execAnRestart_runs {M : Nat} {z s : State} {off : Nat} {k : Fin 2} {ctl : Word} (hz : Keeps M z s) (hM :
    0x6120000008a1a ||| M = M) :
    Runs M z (execAnRestart off k ctl s) := by
  unfold execAnRestart
  try dsimp only
  with_reducible repeat' first
    | assumption | apply Runs.next | apply Runs.ite | apply State.at_keeps | apply State.write_keeps
    | apply State.anRestart_keeps | apply State.onPage_keeps | apply Keeps.ite | (intro _ _; try dsimp only)
    | split
  all_goals first
    | exact sub_mask rfl hM | exact InMask.auto

theorem execLaneSelfcheckFail_runs {M : Nat} {z s : State} {off : Nat} {l : LaneIx} (hz : Keeps M z s) (hM :
    0x10020612000140ce02 ||| M = M) :
    Runs M z (execLaneSelfcheckFail off l s) := by
  unfold execLaneSelfcheckFail
  try dsimp only
  with_reducible repeat' first
    | assumption | apply Runs.next | apply Runs.ite | apply State.at_keeps | apply State.setUnit_keeps
    | apply State.fail_keeps | apply State.laneStop_keeps | apply State.laneRetire_keeps | apply thenLinked_runs
    | apply Keeps.ite | split
  all_goals first
    | exact sub_mask rfl hM | exact InMask.auto

theorem execCandidateQualified_runs {M : Nat} {z s : State} {off : Nat} {k : Fin 4} (hz : Keeps M z s) (hM :
    0x100004020001004c02 ||| M = M) :
    Runs M z (execCandidateQualified off k s) := by
  unfold execCandidateQualified
  try dsimp only
  with_reducible repeat' first
    | assumption | apply Runs.next | apply Runs.ite | apply State.setFld_keeps | apply State.at_keeps
    | apply State.refAcquire_keeps | apply Keeps.ite | split
  all_goals first
    | exact sub_mask rfl hM | exact InMask.auto

theorem execCandidateLoss_runs {M : Nat} {z s : State} {off : Nat} {k : Fin 4} (hz : Keeps M z s) (hM :
    0x100006020001004e02 ||| M = M) :
    Runs M z (execCandidateLoss off k s) := by
  unfold execCandidateLoss
  try dsimp only
  with_reducible repeat' first
    | assumption | apply Runs.next | apply Runs.ite | apply State.candLost_keeps | apply State.at_keeps
    | apply Keeps.ite | split
  all_goals exact sub_mask rfl hM

theorem execRrefLoss_runs {M : Nat} {z s : State} {off : Nat} (hz : Keeps M z s) (hM : 0x100006000000020e02 ||| M =
    M) :
    Runs M z (execRrefLoss off s) := by
  unfold execRrefLoss
  try dsimp only
  with_reducible repeat' first
    | assumption | apply Runs.next | apply Runs.ite | apply State.at_keeps | apply State.refHoldover_keeps
    | apply Keeps.ite | split | apply Keeps.set_rref
  all_goals exact sub_mask rfl hM

theorem execLrefReturn_runs {M : Nat} {z s : State} {off : Nat} (hz : Keeps M z s) (hM : 0x16000000009a02 ||| M = M)
    :
    Runs M z (execLrefReturn off s) := by
  unfold execLrefReturn
  try dsimp only
  with_reducible repeat' first
    | assumption | apply Runs.next | apply Runs.ite | apply State.setFld_keeps | apply State.at_keeps
    | apply State.laneFixed_keeps | apply Keeps.ite | split | apply Keeps.set_wdl
  all_goals first
    | exact sub_mask rfl hM | exact InMask.auto

theorem execRrefRestore_runs {M : Nat} {z s : State} {off : Nat} (hz : Keeps M z s) (hM : 0x100004020001024c02 ||| M
    = M) :
    Runs M z (execRrefRestore off s) := by
  unfold execRrefRestore
  try dsimp only
  with_reducible repeat' first
    | assumption | apply Runs.next | apply Runs.ite | apply State.at_keeps | apply State.refLock_keeps
    | apply Keeps.ite | split | apply Keeps.set_rref
  all_goals exact sub_mask rfl hM

theorem execCdrLock_runs {M : Nat} {z s : State} {off : Nat} {l : LaneIx} {gain : Bool} {ppm : Int} (hz : Keeps M z
    s) (hM : 0x10000602000100ce02 ||| M = M) :
    Runs M z (execCdrLock off l gain ppm s) := by
  unfold execCdrLock
  try dsimp only
  with_reducible repeat' first
    | assumption | apply Runs.next | apply Runs.ite | apply State.setFld_keeps | apply State.at_keeps
    | apply State.laneFixed_keeps | apply State.cdrLost_keeps | apply Keeps.ite | split
  all_goals first
    | exact sub_mask rfl hM | exact InMask.auto

theorem State.patternBits_keeps {M : Nat} {z s : State} {l n : Nat} (hz : Keeps M z s) (hM : 0x8000 ||| M = M) :
    ∀ {x}, State.patternBits s l n = some x → Keeps M z x.2 := by
  intro x e
  unfold State.patternBits at e
  obtain ⟨t, -, e⟩ := Option.map_eq_some_iff.mp e
  subst e
  dsimp only
  exact State.codeMap_keeps hz (sub_mask rfl hM)

theorem State.checkBit_keeps {M : Nat} {z s : State} {l : Nat} {t : Nat × Nat} {b : Nat} (hz : Keeps M z s) (hM :
    0x6000000408202 ||| M = M) :
    Keeps M z (State.checkBit s l t b) := by
  unfold State.checkBit
  try dsimp only
  with_reducible repeat' first
    | assumption | apply State.setFld_keeps | apply State.raiseIrq_keeps | apply State.incFld_keeps
    | apply State.hit_keeps | apply State.codeMap_keeps | apply State.hwSet_keeps | apply Keeps.ite | split
  all_goals first
    | exact sub_mask rfl hM | exact InMask.auto

theorem execPrbsLock_runs {M : Nat} {z s : State} {off : Nat} {l : LaneIx} {bits : List Bool} (hz : Keeps M z s) (hM
    : 0x6000000408a02 ||| M = M) :
    Runs M z (execPrbsLock off l bits s) := by
  unfold execPrbsLock
  try dsimp only
  have h0 : Keeps M z (s.at off) := State.at_keeps hz (sub_mask rfl hM)
  generalize hp : (s.at off).patternBits l.val bits.length = p
  have h1 : ∀ x, p = some x → Keeps M z x.2 := fun x e => State.patternBits_keeps h0 (sub_mask rfl hM) (hp.trans e)
  cases p with
  | none =>
    with_reducible repeat' first
      | assumption | apply Runs.next | apply State.emit_keeps
      | apply State.checkBit_keeps | apply Keeps.ite | (apply Keeps.foldl; intro _ _ _) | split
    all_goals exact sub_mask rfl hM
  | some x =>
    have h2 := h1 x rfl
    with_reducible repeat' first
      | assumption | apply Runs.next | apply State.emit_keeps
      | apply State.checkBit_keeps | apply Keeps.ite | (apply Keeps.foldl; intro _ _ _) | split
    all_goals exact sub_mask rfl hM

theorem execAnComplete_runs {M : Nat} {z s : State} {off : Nat} {k : Fin 2} {base : BitVec 16} (hz : Keeps M z s)
    (hM : 0x6000000000a02 ||| M = M) :
    Runs M z (execAnComplete off k base s) := by
  unfold execAnComplete
  try dsimp only
  with_reducible repeat' first
    | assumption | apply Runs.next | apply Runs.ite | apply State.setFld_keeps | apply State.raiseIrq_keeps
    | apply State.at_keeps | apply Keeps.ite | split
  all_goals first
    | exact sub_mask rfl hM | exact InMask.auto

theorem execLosAssert_runs {M : Nat} {z s : State} {off : Nat} {e : Engine} {c : Channel} {power : Nat} (hz : Keeps
    M z s) (hM : 0x1100e4e16000350de02 ||| M = M) :
    Runs M z (execLosAssert off e c power s) := by
  unfold execLosAssert
  try dsimp only
  with_reducible repeat' first
    | assumption | apply Runs.next | apply Runs.ite | apply State.setFld_keeps | apply State.raiseIrq_keeps
    | apply State.incFld_keeps | apply State.at_keeps | apply State.interruptLock_keeps
    | apply State.signalLoss_keeps | apply State.lanesFollow_keeps | apply State.dropLink_keeps | apply Keeps.ite
    | split
  all_goals first
    | exact sub_mask rfl hM | exact InMask.auto

theorem execLosDeassert_runs {M : Nat} {z s : State} {off : Nat} {e : Engine} {c : Channel} {power : Nat} (hz :
    Keeps M z s) (hM : 0x10024e16000140de02 ||| M = M) :
    Runs M z (execLosDeassert off e c power s) := by
  unfold execLosDeassert
  try dsimp only
  with_reducible repeat' first
    | assumption | apply Runs.next | apply Runs.ite | apply State.setFld_keeps | apply State.at_keeps
    | apply State.signalRise_keeps | apply State.lanesFollow_keeps | apply State.aprLeave_keeps | apply Keeps.ite
    | split
  all_goals first
    | exact sub_mask rfl hM | exact InMask.auto

theorem execAprEntry_runs {M : Nat} {z s : State} {off : Nat} {e : Engine} {g : Fin 4} (hz : Keeps M z s) (hM :
    0xa000000000a02 ||| M = M) :
    Runs M z (execAprEntry off e g s) := by
  unfold execAprEntry
  try dsimp only
  with_reducible repeat' first
    | assumption | apply Runs.next | apply Runs.ite | apply State.at_keeps | apply State.raiseIrq_keeps
    | apply State.incFld_keeps | apply State.setFld_keeps | apply Keeps.ite | split
  all_goals first
    | exact sub_mask rfl hM | exact InMask.auto

theorem execAprPulse_runs {M : Nat} {z s : State} {off : Nat} {e : Engine} {g : Fin 4} (hz : Keeps M z s) (hM :
    0x8000000000802 ||| M = M) :
    Runs M z (execAprPulse off e g s) := by
  unfold execAprPulse
  try dsimp only
  with_reducible repeat' first
    | assumption | apply Runs.next | apply Runs.ite | apply State.at_keeps | apply State.setFld_keeps
    | apply Keeps.ite | split
  all_goals first
    | exact sub_mask rfl hM | exact InMask.auto

theorem execAprPulseEnd_runs {M : Nat} {z s : State} {off : Nat} {e : Engine} {g : Fin 4} (hz : Keeps M z s) (hM :
    0x8000000000802 ||| M = M) :
    Runs M z (execAprPulseEnd off e g s) := by
  unfold execAprPulseEnd
  try dsimp only
  with_reducible repeat' first
    | assumption | apply Runs.next | apply Runs.ite | apply State.setFld_keeps | apply State.at_keeps
    | apply Keeps.ite | split
  all_goals first
    | exact sub_mask rfl hM | exact InMask.auto

theorem execAprRestart_runs {M : Nat} {z s : State} {off : Nat} {e : Engine} {v : Word} (hz : Keeps M z s) (hM :
    0xa120000000a1a ||| M = M) :
    Runs M z (execAprRestart off e v s) := by
  unfold execAprRestart
  try dsimp only
  with_reducible repeat' first
    | assumption | apply Runs.next | apply Runs.ite | apply State.at_keeps | apply State.write_keeps
    | apply State.aprRestart_keeps | apply State.onPage_keeps | apply Keeps.ite | (intro _ _; try dsimp only)
    | split
  all_goals first
    | exact sub_mask rfl hM | exact InMask.auto

theorem execLaserWarm_runs {M : Nat} {z s : State} {off : Nat} {e : Engine} {c : Channel} (hz : Keeps M z s) (hM :
    0x8000000000802 ||| M = M) :
    Runs M z (execLaserWarm off e c s) := by
  unfold execLaserWarm
  try dsimp only
  with_reducible repeat' first
    | assumption | apply Runs.next | apply Runs.ite | apply State.at_keeps | apply State.syncLaserOk_keeps
    | apply State.setCh_keeps | apply Keeps.ite | split
  all_goals exact sub_mask rfl hM

theorem execWavelengthLocked_runs {M : Nat} {z s : State} {off : Nat} {e : Engine} {c : Channel} {err : BitVec 16}
    (hz : Keeps M z s) (hM : 0x8000000010802 ||| M = M) :
    Runs M z (execWavelengthLocked off e c err s) := by
  unfold execWavelengthLocked
  try dsimp only
  with_reducible repeat' first
    | assumption | apply Runs.next | apply Runs.ite | apply State.setFld_keeps | apply State.at_keeps
    | apply State.setChan_keeps | apply State.syncLaserOk_keeps | apply State.setCh_keeps | apply Keeps.ite
    | split
  all_goals first
    | exact sub_mask rfl hM | exact InMask.auto

theorem execWavelengthUnlock_runs {M : Nat} {z s : State} {off : Nat} {e : Engine} {c : Channel} {err : BitVec 16}
    (hz : Keeps M z s) (hM : 0x10024e16000140de02 ||| M = M) :
    Runs M z (execWavelengthUnlock off e c err s) := by
  unfold execWavelengthUnlock
  try dsimp only
  with_reducible repeat' first
    | assumption | apply Runs.next | apply Runs.ite | apply State.at_keeps | apply State.raiseIrq_keeps
    | apply State.setFld_keeps | apply State.chEvent_keeps | apply Keeps.ite | split
  all_goals first
    | exact sub_mask rfl hM | exact InMask.auto

theorem execOffgrid_runs {M : Nat} {z s : State} {off : Nat} {e : Engine} {c : Channel} {err : BitVec 16} (hz :
    Keeps M z s) (hM : 0x10024e16000140de02 ||| M = M) :
    Runs M z (execOffgrid off e c err s) := by
  unfold execOffgrid
  try dsimp only
  with_reducible repeat' first
    | assumption | apply Runs.next | apply Runs.ite | apply State.at_keeps | apply State.setFld_keeps
    | apply State.setCh_keeps | apply State.chEvent_keeps | apply State.raiseIrq_keeps | apply Keeps.ite | split
  all_goals first
    | exact sub_mask rfl hM | exact InMask.auto

theorem execLockFailure_runs {M : Nat} {z s : State} {off : Nat} {e : Engine} {c : Channel} (hz : Keeps M z s) (hM :
    0x10024e16000141de02 ||| M = M) :
    Runs M z (execLockFailure off e c s) := by
  unfold execLockFailure
  try dsimp only
  with_reducible repeat' first
    | assumption | apply Runs.next | apply Runs.ite | apply State.at_keeps | apply State.chRetire_keeps
    | apply State.setChan_keeps | apply State.setCh_keeps | apply Keeps.ite | split
  all_goals exact sub_mask rfl hM

theorem State.clampHold_keeps {M : Nat} {z s : State} {e h : Nat} (hz : Keeps M z s) (hM : 0x10024e16000140d602 ||| M = M) :
    Keeps M z (State.clampHold s e h) := by
  unfold State.clampHold
  try dsimp only
  with_reducible repeat' first
    | assumption | apply State.chEvent_keeps | apply Keeps.ite | (apply Keeps.foldl; intro _ _ _) | split
  all_goals first
    | exact sub_mask rfl hM | exact InMask.auto

theorem execClampHold_runs {M : Nat} {z s : State} {off : Nat} {h : HeaterRef} (hz : Keeps M z s) (hM :
    0x10826e16020140de02 ||| M = M) :
    Runs M z (execClampHold off h s) := by
  unfold execClampHold
  try dsimp only
  with_reducible repeat' first
    | assumption | apply Runs.next | apply Runs.ite | apply State.at_keeps | apply State.cellEvent_keeps
    | apply State.clampHold_keeps | apply State.measured_keeps | apply State.chEvent_keeps | apply Keeps.ite
    | split
  all_goals first
    | exact sub_mask rfl hM | exact InMask.auto

theorem execChannelFaultDetect_runs {M : Nat} {z s : State} {off : Nat} {e : Engine} {found : OptFault} (hz : Keeps
    M z s) (hM : 0x10024e16000140de02 ||| M = M) :
    Runs M z (execChannelFaultDetect off e found s) := by
  unfold execChannelFaultDetect
  try dsimp only
  with_reducible repeat' first
    | assumption | apply Runs.next | apply Runs.ite | apply State.setFld_keeps | apply State.raiseIrq_keeps
    | apply State.at_keeps | apply State.chRetire_keeps | apply Keeps.ite | (apply Keeps.foldl; intro _ _ _)
    | split
  all_goals first
    | exact sub_mask rfl hM | exact InMask.auto

theorem execChReinstate_runs {M : Nat} {z s : State} {off : Nat} {e : Engine} {c : Channel} {v : Word} (hz : Keeps M
    z s) (hM : 0xa120000010a1a ||| M = M) :
    Runs M z (execChReinstate off e c v s) := by
  unfold execChReinstate
  try dsimp only
  with_reducible repeat' first
    | assumption | apply Runs.next | apply Runs.ite | apply State.at_keeps | apply State.write_keeps
    | apply State.chReinstate_keeps | apply State.onPage_keeps | apply Keeps.ite | (intro _ _; try dsimp only)
    | split
  all_goals first
    | exact sub_mask rfl hM | exact InMask.auto

theorem execChReinstateDone_runs {M : Nat} {z s : State} {off : Nat} {e : Engine} {c : Channel} {pass : Bool} (hz :
    Keeps M z s) (hM : 0xa100000010a02 ||| M = M) :
    Runs M z (execChReinstateDone off e c pass s) := by
  unfold execChReinstateDone
  try dsimp only
  with_reducible repeat' first
    | assumption | apply Runs.next | apply Runs.ite | apply State.at_keeps | apply State.setFld_keeps
    | apply State.setChan_keeps | apply State.setCh_keeps | apply State.syncLaserOk_keeps
    | apply State.syncSubRetired_keeps | apply Keeps.ite | split
  all_goals first
    | exact sub_mask rfl hM | exact InMask.auto

theorem execEngineOverTemp_runs {M : Nat} {z s : State} {off : Nat} {e : Engine} {temp : BitVec 16} (hz : Keeps M z
    s) (hM : 0x8000000000802 ||| M = M) :
    Runs M z (execEngineOverTemp off e temp s) := by
  unfold execEngineOverTemp
  try dsimp only
  with_reducible repeat' first
    | assumption | apply Runs.next | apply Runs.ite | apply State.setFld_keeps | apply State.at_keeps
    | apply State.setCh_keeps | apply Keeps.ite | (apply Keeps.foldl; intro _ _ _) | split
  all_goals first
    | exact sub_mask rfl hM | exact InMask.auto

theorem execEngineControllerFail_runs {M : Nat} {z s : State} {off : Nat} {e : Engine} (hz : Keeps M z s) (hM :
    0x10024e16000140de02 ||| M = M) :
    Runs M z (execEngineControllerFail off e s) := by
  unfold execEngineControllerFail
  try dsimp only
  with_reducible repeat' first
    | assumption | apply Runs.next | apply Runs.ite | apply State.at_keeps | apply State.fail_keeps
    | apply State.signalLoss_keeps | apply State.syncLaserOk_keeps | apply State.setCh_keeps
    | apply State.chRetire_keeps | apply Keeps.ite | (apply Keeps.foldl; intro _ _ _) | split
  all_goals first
    | exact sub_mask rfl hM | exact InMask.auto

theorem execHeartbeatLoss_runs {M : Nat} {z s : State} {off : Nat} (hz : Keeps M z s) (hM : 0x17ffffffe72fff5fefe
    ||| M = M) :
    Runs M z (execHeartbeatLoss off s) := by
  unfold execHeartbeatLoss
  try dsimp only
  with_reducible repeat' first
    | assumption | apply Runs.next | apply Runs.ite | apply State.at_keeps | apply State.raiseIrq_keeps
    | apply State.incFld_keeps | apply State.setFld_keeps | apply State.safeEnter_keeps | apply State.engageAll_keeps
    | apply Keeps.ite | split | apply Keeps.set_pins
  all_goals first
    | exact sub_mask rfl hM | exact InMask.auto

theorem execBypForceNLow_runs {M : Nat} {z s : State} {off : Nat} (hz : Keeps M z s) (hM : 0x52000000002e02 ||| M =
    M) :
    Runs M z (execBypForceNLow off s) := by
  unfold execBypForceNLow
  try dsimp only
  with_reducible repeat' first
    | assumption | apply Runs.next | apply Runs.ite | apply State.at_keeps | apply State.engageAll_keeps
    | apply Keeps.ite | split | apply Keeps.set_pins
  all_goals exact sub_mask rfl hM

theorem execBypForceWrite_runs {M : Nat} {z s : State} {off : Nat} {v : Word} (hz : Keeps M z s) (hM :
    0x52100000000e1a ||| M = M) :
    Runs M z (execBypForceWrite off v s) := by
  unfold execBypForceWrite
  try dsimp only
  with_reducible repeat' first
    | assumption | apply Runs.next | apply Runs.ite | apply State.forceWritten_keeps | apply State.write_keeps
    | apply State.at_keeps | apply Keeps.ite | split
  all_goals first
    | exact sub_mask rfl hM | exact InMask.auto

theorem execBypPolicyWrite_runs {M : Nat} {z s : State} {off : Nat} {v : Word} (hz : Keeps M z s) (hM :
    0x12100000000a1e ||| M = M) :
    Runs M z (execBypPolicyWrite off v s) := by
  unfold execBypPolicyWrite
  try dsimp only
  with_reducible repeat' first
    | assumption | apply Runs.next | apply Runs.ite | apply State.policyWritten_keeps | apply State.write_keeps
    | apply State.at_keeps | apply Keeps.ite | split
  all_goals first
    | exact sub_mask rfl hM | exact InMask.auto

theorem execBypForceNHigh_runs {M : Nat} {z s : State} {off : Nat} (hz : Keeps M z s) (hM : 0x2800 ||| M = M) :
    Runs M z (execBypForceNHigh off s) := by
  unfold execBypForceNHigh
  try dsimp only
  with_reducible repeat' first
    | assumption | apply Runs.next | apply Runs.ite | apply State.at_keeps | apply Keeps.ite | split
    | apply Keeps.set_pins
  all_goals exact sub_mask rfl hM

theorem execLinkLoss_runs {M : Nat} {z s : State} {off : Nat} {p : Port} {part : LinkPart} (hz : Keeps M z s) (hM :
    0x1000e42140002501a02 ||| M = M) :
    Runs M z (execLinkLoss off p part s) := by
  unfold execLinkLoss
  try dsimp only
  with_reducible repeat' first
    | assumption | apply Runs.next | apply Runs.ite | apply State.at_keeps | apply State.loseLink_keeps
    | apply Keeps.ite | split
  all_goals first
    | exact sub_mask rfl hM | exact InMask.auto

theorem execLinkUp_runs {M : Nat} {z s : State} {off : Nat} {p : Port} {rate : Int} (hz : Keeps M z s) (hM :
    0x1000e42000002501a02 ||| M = M) :
    Runs M z (execLinkUp off p rate s) := by
  unfold execLinkUp
  try dsimp only
  with_reducible repeat' first
    | assumption | apply Runs.next | apply Runs.ite | apply State.setFld_keeps | apply State.raiseIrq_keeps
    | apply State.at_keeps | apply State.beginLock_keeps | apply State.setPortAux_keeps
    | apply State.syncTx_keeps | apply Keeps.ite | split
  all_goals first
    | exact sub_mask rfl hM | exact InMask.auto

theorem execPropagationRemove_runs {M : Nat} {z s : State} {off : Nat} {p : Port} (hz : Keeps M z s) (hM :
    0x1000e42000002500a02 ||| M = M) :
    Runs M z (execPropagationRemove off p s) := by
  unfold execPropagationRemove
  try dsimp only
  with_reducible repeat' first
    | assumption | apply Runs.next | apply Runs.ite | apply State.at_keeps | apply State.unholdPort_keeps
    | apply Keeps.ite | split
  all_goals exact sub_mask rfl hM

theorem execRxFault_runs {M : Nat} {z s : State} {off : Nat} {p : Port} {remote : Bool} (hz : Keeps M z s) (hM :
    0x1000e42000002400a02 ||| M = M) :
    Runs M z (execRxFault off p remote s) := by
  unfold execRxFault
  try dsimp only
  with_reducible repeat' first
    | assumption | apply Runs.next | apply Runs.ite | apply State.setFld_keeps | apply State.at_keeps
    | apply State.syncTx_keeps | apply State.raiseIrq_keeps | apply Keeps.ite | split
  all_goals first
    | exact sub_mask rfl hM | exact InMask.auto

theorem execSaPnWrite_runs {M : Nat} {z s : State} {off : Nat} {p : Port} {tx : Bool} {c : Fin 8} {a : Fin 4} {high
    : Bool} {v : Word} (hz : Keeps M z s) (hM : 0x82120000100a1e ||| M = M) :
    Runs M z (execSaPnWrite off p tx c a high v s) := by
  unfold execSaPnWrite
  try dsimp only
  with_reducible repeat' first
    | assumption | apply Runs.next | apply Runs.ite | apply State.at_keeps | apply State.write_keeps
    | apply State.writePn_keeps | apply State.onPage_keeps | apply Keeps.ite | (intro _ _; try dsimp only)
    | split
  all_goals first
    | exact sub_mask rfl hM | exact InMask.auto

theorem execRxFaultEnd_runs {M : Nat} {z s : State} {off : Nat} {p : Port} (hz : Keeps M z s) (hM :
    0x1000e42000002400a02 ||| M = M) :
    Runs M z (execRxFaultEnd off p s) := by
  unfold execRxFaultEnd
  try dsimp only
  with_reducible repeat' first
    | assumption | apply Runs.next | apply Runs.ite | apply State.syncTx_keeps | apply State.setFld_keeps
    | apply State.at_keeps | apply Keeps.ite | split
  all_goals first
    | exact sub_mask rfl hM | exact InMask.auto

theorem State.countFec_keeps {M : Nat} {z s : State} {q corr uncorr : Nat} (hz : Keeps M z s) (hM : 0x42000000000202 ||| M = M) :
    Keeps M z (State.countFec s q corr uncorr) := by
  unfold State.countFec
  try dsimp only
  with_reducible repeat' first
    | assumption | apply State.raiseIrq_keeps | apply State.incFld_keeps | apply Keeps.ite | split
  all_goals first
    | exact sub_mask rfl hM | exact InMask.auto

theorem execFrameIntake_runs {M : Nat} {z s : State} {off dur : Nat} {p : Port} {b : List (BitVec 8)} {trunc code
    badFcs : Bool} {ti corr uncorr : Nat} (hz : Keeps M z s) (hM : 0xb42000000400a82 ||| M = M) :
    Runs M z (execFrameIntake off dur p b trunc code badFcs ti corr uncorr s) := by
  unfold execFrameIntake
  try dsimp only
  with_reducible repeat' first
    | assumption | apply Runs.next | apply Runs.ite | apply State.emit_keeps | apply State.raiseIrq_keeps
    | apply State.incFld_keeps | apply State.at_keeps | apply State.incWide_keeps | apply State.syncCells_keeps
    | apply State.pipeMap_keeps | apply State.setFrame_keeps | apply State.sumpItem_keeps
    | apply State.sumpFrame_keeps | apply State.handOn_keeps | apply State.countMacControl_keeps
    | apply State.countFec_keeps | apply State.ptpReach_keeps | apply Keeps.ite | split
  all_goals first
    | exact sub_mask rfl hM | exact InMask.auto

theorem execUnsealFrame_runs {M : Nat} {z s : State} {off : Nat} {i : Pipe} (hz : Keeps M z s) (hM :
    0xa82000000400a02 ||| M = M) :
    Runs M z (execUnsealFrame off i s) := by
  unfold execUnsealFrame
  try dsimp only
  with_reducible repeat' first
    | assumption | apply Runs.next | apply Runs.ite | apply State.at_keeps | apply State.takeHead_keeps
    | apply State.handOn_keeps | apply State.setFrame_keeps | apply State.unsealBy_keeps | apply State.sumpFrame_keeps
    | apply Keeps.ite | (apply Keeps.foldl; intro _ _ _) | refine Keeps.of_snd (by assumption) ?_ | split
  all_goals exact sub_mask rfl hM

theorem execParseFrame_runs {M : Nat} {z s : State} {off : Nat} {i : Pipe} (hz : Keeps M z s) (hM :
    0x1302000000400e02 ||| M = M) :
    Runs M z (execParseFrame off i s) := by
  unfold execParseFrame
  try dsimp only
  with_reducible repeat' first
    | assumption | apply Runs.next | apply Runs.ite | apply State.at_keeps | apply State.ptpParse_keeps
    | apply State.takeHead_keeps | apply State.countFlags_keeps | apply State.setFrame_keeps
    | apply State.handOn_keeps | apply State.offer_keeps | apply Keeps.ite | refine Keeps.of_snd (by assumption) ?_
    | split
  all_goals exact sub_mask rfl hM

theorem State.afterP1_keeps {M : Nat} {z s : State} {inst : Nat} {last : Option Nat} (hz : Keeps M z s) (hM : 0x800
    ||| M = M) :
    Keeps M z (State.afterP1 s inst last) := by
  unfold State.afterP1
  try dsimp only
  with_reducible repeat' first
    | assumption | apply State.at_keeps | apply Keeps.ite | split
  all_goals exact sub_mask rfl hM

theorem State.afterLast_keeps {M : Nat} {z s : State} {last : Option Nat} (hz : Keeps M z s) (hM : 0x800 ||| M = M) :
    Keeps M z (State.afterLast s last) := by
  unfold State.afterLast
  try dsimp only
  with_reducible repeat' first
    | assumption | apply State.afterP1_keeps | apply Keeps.ite | split
  all_goals exact sub_mask rfl hM

theorem State.updateClock_keeps {M : Nat} {z s : State} {p0 : Bool} (hz : Keeps M z s) (hM : 0x800 ||| M = M) :
    Keeps M z (State.updateClock s p0) := by
  unfold State.updateClock
  try dsimp only
  with_reducible repeat' first
    | assumption | apply State.afterP1_keeps | apply State.afterLast_keeps | apply Keeps.ite | split
  all_goals exact sub_mask rfl hM

theorem State.noteP1_keeps {M : Nat} {z s : State} (hz : Keeps M z s) (hM : 0x400000 ||| M = M) :
    Keeps M z (State.noteP1 s) := by
  unfold State.noteP1
  try dsimp only
  with_reducible repeat' first
    | assumption | apply State.pipeMap_keeps | apply Keeps.ite | split
  all_goals exact sub_mask rfl hM

theorem execFlowLookup_runs {M : Nat} {z s : State} {off : Nat} {i : Pipe} (hz : Keeps M z s) (hM :
    0x1202000040c00e02 ||| M = M) :
    Runs M z (execFlowLookup off i s) := by
  unfold execFlowLookup
  try dsimp only
  with_reducible repeat' first
    | assumption | apply Runs.next | apply Runs.ite | apply State.incFld_keeps | apply State.at_keeps
    | apply State.pipeMap_keeps | apply State.takeHead_keeps | apply State.leaveFlow_keeps
    | apply State.hit_keeps | apply State.tryCreate_keeps | apply State.updateClock_keeps
    | apply State.noteP1_keeps | apply Keeps.ite | split
  all_goals first
    | exact sub_mask rfl hM | exact InMask.auto

theorem execFlowMissReturn_runs {M : Nat} {z s : State} {off n : Nat} {bad : Bool} (hz : Keeps M z s) (hM :
    0x1202000040c00e02 ||| M = M) :
    Runs M z (execFlowMissReturn off n bad s) := by
  unfold execFlowMissReturn
  try dsimp only
  with_reducible repeat' first
    | assumption | apply Runs.next | apply Runs.ite | apply State.at_keeps | apply State.pipeMap_keeps
    | apply State.serveMiss_keeps | apply State.dropMiss_keeps | apply State.updateClock_keeps
    | apply State.noteP1_keeps | apply State.leaveFlow_keeps | apply State.incFld_keeps
    | apply State.install_keeps | apply Keeps.ite | (apply Keeps.foldl; intro _ _ _)
    | refine Keeps.of_some_snd (by assumption) (State.install_keeps ?_ ?_) | split
  all_goals first
    | exact sub_mask rfl hM | exact InMask.auto

theorem execMissLate_runs {M : Nat} {z s : State} {off n : Nat} (hz : Keeps M z s) (hM : 0x1202000000400e02 ||| M =
    M) :
    Runs M z (execMissLate off n s) := by
  unfold execMissLate
  try dsimp only
  with_reducible repeat' first
    | assumption | apply Runs.next | apply Runs.ite | apply State.at_keeps | apply State.pipeMap_keeps
    | apply State.dropMiss_keeps | apply Keeps.ite | split
  all_goals exact sub_mask rfl hM

theorem State.reached_keeps {M : Nat} {z s : State} (hz : Keeps M z s) (hM : 0x400000 ||| M = M) :
    Keeps M z (State.reached s) := by
  unfold State.reached
  try dsimp only
  with_reducible repeat' first
    | assumption | apply State.pipeMap_keeps | apply Keeps.ite | split
  all_goals exact sub_mask rfl hM

theorem execAnnotationReturn_runs {M : Nat} {z s : State} {off : Nat} {i : Pipe} {handle : BitVec 32} {b : List
    (BitVec 8)} {mask : BitVec 16} (hz : Keeps M z s) (hM : 0x200000040c00802 ||| M = M) :
    Runs M z (execAnnotationReturn off i handle b mask s) := by
  unfold execAnnotationReturn
  try dsimp only
  with_reducible repeat' first
    | assumption | apply Runs.next | apply Runs.ite | apply State.at_keeps | apply State.annotate_keeps
    | apply State.reached_keeps | apply Keeps.ite | split
  all_goals first
    | exact sub_mask rfl hM | exact InMask.auto

theorem execFtInit_runs {M : Nat} {z s : State} {off : Nat} {v : Word} (hz : Keeps M z s) (hM : 0x202120000000a1a
    ||| M = M) :
    Runs M z (execFtInit off v s) := by
  unfold execFtInit
  try dsimp only
  with_reducible repeat' first
    | assumption | apply Runs.next | apply Runs.ite | apply State.at_keeps | apply State.write_keeps
    | apply State.ftInitWritten_keeps | apply State.onPage_keeps | apply Keeps.ite | (intro _ _; try dsimp only)
    | split
  all_goals first
    | exact sub_mask rfl hM | exact InMask.auto

theorem State.dropTable_keeps {M : Nat} {z s : State} (hz : Keeps M z s) (hM : 0x200000000400002 ||| M = M) :
    Keeps M z (State.dropTable s) := by
  unfold State.dropTable
  try dsimp only
  with_reducible repeat' first
    | assumption | apply State.pipeMap_keeps | apply State.endStreams_keeps | apply Keeps.ite
    | (apply Keeps.foldl; intro _ _ _) | split
  all_goals exact sub_mask rfl hM

theorem execFtInitDone_runs {M : Nat} {z s : State} {off : Nat} (hz : Keeps M z s) (hM : 0x202000000c00a02 ||| M = M) :
    Runs M z (execFtInitDone off s) := by
  unfold execFtInitDone
  dsimp only
  have h1 : Keeps M z (s.at off) := State.at_keeps hz (sub_mask rfl hM)
  have h2 : Keeps M z (s.at off).dropTable := State.dropTable_keeps h1 (sub_mask rfl hM)
  have hd' : (s.at off).dropTable.ddr = (s.at off).ddr :=
    (State.dropTable_keeps (M := 0x202000000400202) (Keeps.refl _ (s.at off)) (by decide)).ddr (by decide)
  split
  · refine .next (State.raiseIrq_keeps (State.setFld_keeps (State.setDdr_keeps h2 (sub_mask rfl hM) fun hd => ?_)
      (sub_mask rfl hM)) (sub_mask rfl hM))
    refine Mem.wf_filterMap 0 _ _ (fun e e' he hne => ?_) (hd' ▸ hd)
    repeat' split at he
    all_goals cases he
    · exact ⟨rfl, by assumption⟩
    · exact ⟨rfl, hne⟩
  · exact .next h1

theorem State.refill_keeps {M : Nat} {z s : State} (hz : Keeps M z s) (hM : 0x202000000400202 ||| M = M) :
    Keeps M z (State.refill s) := by
  unfold State.refill
  try dsimp only
  with_reducible repeat' first
    | assumption | apply State.syncFloat_keeps | apply State.setOut_keeps | apply State.pull_keeps
    | apply State.pullAll_keeps | apply Keeps.ite | (apply Keeps.foldl; intro _ _ _) | split
  all_goals first
    | exact sub_mask rfl hM | exact InMask.auto

theorem State.dropItems_keeps {M : Nat} {z s : State} {id : Nat} {its : List Item} (hz : Keeps M z s) (hM : 0x400000 |||
    M = M) :
    Keeps M z (State.dropItems s id its) := by
  unfold State.dropItems
  try dsimp only
  with_reducible repeat' first
    | assumption | apply State.pipeMap_keeps | apply Keeps.ite | split
  all_goals exact sub_mask rfl hM

theorem State.pullOut_keeps {M : Nat} {z s : State} {i id : Nat} (hz : Keeps M z s) (hM : 0xe02000000400206 ||| M = M) :
    Keeps M z (State.pullOut s i id) := by
  unfold State.pullOut
  try dsimp only
  with_reducible repeat' first
    | assumption | apply State.sumpItem_keeps | apply State.copyFate_keeps | apply State.sumpFrame_keeps
    | apply State.sumpItemOf_keeps | apply State.unqueue_keeps | apply State.passOn_keeps
    | apply State.refill_keeps | apply State.dropItems_keeps | apply Keeps.ite | (apply Keeps.foldl; intro _ _ _)
    | split
  all_goals first
    | exact sub_mask rfl hM | exact InMask.auto

theorem State.noRecord_keeps {M : Nat} {z s : State} {i : Nat} {frame : Option Nat} (hz : Keeps M z s) (hM : 0x1202000000400606 |||
    M = M) :
    Keeps M z (State.noRecord s i frame) := by
  unfold State.noRecord
  try dsimp only
  with_reducible repeat' first
    | assumption | apply State.setFrame_keeps | apply State.takeHead_keeps | apply State.leaveFlow_keeps
    | apply State.passOn_keeps | apply Keeps.ite | split
  all_goals exact sub_mask rfl hM

theorem execStoreEccError_runs {M : Nat} {z s : State} {off : Nat} {i : Pipe} {it : StoreItem} {corrected : Bool}
    {frame : Option Nat} (hz : Keeps M z s) (hM : 0x17ffffffe72fff5fefe ||| M = M) :
    Runs M z (execStoreEccError off i it corrected frame s) := by
  unfold execStoreEccError
  try dsimp only
  with_reducible repeat' first
    | assumption | apply Runs.next | apply Runs.ite | apply State.raiseIrq_keeps | apply State.incFld_keeps
    | apply State.at_keeps | apply State.transient_keeps | apply State.pipeMap_keeps
    | apply State.retireItem_keeps | apply State.dropWay_keeps | apply State.pullOut_keeps
    | apply State.noRecord_keeps | apply State.sumpFrame_keeps | apply State.unqueue_keeps | apply Keeps.ite
    | split
  all_goals first
    | exact sub_mask rfl hM | exact InMask.auto

theorem execVerdictAction_runs {M : Nat} {z s : State} {off : Nat} {i : Pipe} (hz : Keeps M z s) (hM :
    0xe42000000400a02 ||| M = M) :
    Runs M z (execVerdictAction off i s) := by
  unfold execVerdictAction
  try dsimp only
  with_reducible repeat' first
    | assumption | apply Runs.next | apply Runs.ite | apply State.at_keeps | apply State.act_keeps
    | apply State.takeHead_keeps | apply Keeps.ite | split
  all_goals exact sub_mask rfl hM

theorem execDivertDeadline_runs {M : Nat} {z s : State} {off n : Nat} (hz : Keeps M z s) (hM : 0xa02000000400a02 |||
    M = M) :
    Runs M z (execDivertDeadline off n s) := by
  unfold execDivertDeadline
  try dsimp only
  with_reducible repeat' first
    | assumption | apply Runs.next | apply Runs.ite | apply State.at_keeps | apply State.sumpFrame_keeps
    | apply State.raiseIrq_keeps | apply State.pipeMap_keeps | apply Keeps.ite | split
  all_goals first
    | exact sub_mask rfl hM | exact InMask.auto

theorem execCopyAccept_runs {M : Nat} {z s : State} {off n : Nat} {buf : BitVec 64} (hz : Keeps M z s) (hM :
    0x1100602000003408a02 ||| M = M) :
    Runs M z (execCopyAccept off n buf s) := by
  unfold execCopyAccept
  try dsimp only
  with_reducible repeat' first
    | assumption | apply Runs.next | apply Runs.ite | apply State.acceptCopy_keeps | apply State.at_keeps
    | apply Keeps.ite | split
  all_goals exact sub_mask rfl hM

theorem State.dropLate_keeps {M : Nat} {z s : State} {q : Nat} (hz : Keeps M z s) (hM : 0xe02000000400202 ||| M = M) :
    Keeps M z (State.dropLate s q) := by
  have key : ∀ k (a : State), Keeps M z a → Keeps M z (a.lateCopies q k) := by
    intro k
    induction k with
    | zero => exact fun a h => h
    | succ k ih =>
      intro a h
      unfold State.lateCopies
      split
      · exact .ite (ih _ (State.sumpItemOf_keeps (State.setOut_keeps h (sub_mask rfl hM)) (sub_mask rfl hM))) h
      · exact h
  unfold State.dropLate
  exact .ite hz (State.pullAll_keeps (key _ _ hz) (sub_mask rfl hM))

theorem execCopyDeadline_runs {M : Nat} {z s : State} {off n : Nat} (hz : Keeps M z s) (hM : 0xe02000000400a02 ||| M
    = M) :
    Runs M z (execCopyDeadline off n s) := by
  unfold execCopyDeadline
  try dsimp only
  with_reducible repeat' first
    | assumption | apply Runs.next | apply Runs.ite | apply State.at_keeps | apply State.pipeMap_keeps
    | apply State.copyLost_keeps | apply State.dropLate_keeps | apply Keeps.ite
    | (apply Keeps.foldl; intro _ _ _) | split
  all_goals first
    | exact sub_mask rfl hM | exact InMask.auto

theorem execSealItem_runs {M : Nat} {z s : State} {off : Nat} {i : Pipe} {te : Nat} (hz : Keeps M z s) (hM :
    0xf82000000500a02 ||| M = M) :
    Runs M z (execSealItem off i te s) := by
  unfold execSealItem
  try dsimp only
  with_reducible repeat' first
    | assumption | apply Runs.next | apply Runs.ite | apply State.at_keeps | apply State.syncFloat_keeps
    | apply State.setSealQ_keeps | apply State.sealItem_keeps | apply State.pullAll_keeps
    | apply State.pullItem_keeps | apply Keeps.ite | split
  all_goals first
    | exact sub_mask rfl hM | exact InMask.auto | exact .reg .auto

theorem execSpoutTransmit_runs {M : Nat} {z s : State} {off : Nat} {p : Port} (hz : Keeps M z s) (hM :
    0x1000e42000002400a82 ||| M = M) :
    Runs M z (execSpoutTransmit off p s) := by
  unfold execSpoutTransmit
  try dsimp only
  with_reducible repeat' first
    | assumption | apply Runs.next | apply Runs.ite | apply State.at_keeps | apply State.setOut_keeps
    | apply State.spout_keeps | apply State.dropLate_keeps | apply State.pullAll_keeps
    | apply State.pullItem_keeps | apply Keeps.ite | split
  all_goals first
    | exact sub_mask rfl hM | exact InMask.auto

theorem State.injFetch_keeps {M : Nat} {z s : State} {x : Nat} (hz : Keeps M z s) (hM : 0x200 ||| M = M) :
    Keeps M z (State.injFetch s x) := by
  unfold State.injFetch
  try dsimp only
  with_reducible repeat' first
    | assumption | apply State.emit_keeps | apply Keeps.ite | split
  all_goals exact sub_mask rfl hM

theorem execInjectionDescriptor_runs {M : Nat} {z s : State} {off : Nat} {index : BitVec 16} {port : BitVec 8} {len
    : BitVec 16} {cookie : Word} {b : List (BitVec 8)} (hz : Keeps M z s) (hM : 0x1000202000002400a02 ||| M = M) :
    Runs M z (execInjectionDescriptor off index port len cookie b s) := by
  unfold execInjectionDescriptor
  try dsimp only
  with_reducible repeat' first
    | assumption | apply Runs.next | apply Runs.ite | apply State.at_keeps | apply State.hostMap_keeps
    | apply State.injComplete_keeps | apply State.setOut_keeps | apply State.injFetch_keeps | apply Keeps.ite
    | split
  all_goals first
    | exact sub_mask rfl hM | exact InMask.auto

theorem execTapReturnWord_runs {M : Nat} {z s : State} {off : Nat} {tap : Fin 4} {i : Pipe} {w : TapWord} (hz :
    Keeps M z s) (hM : 0x1202000040c00e02 ||| M = M) :
    Runs M z (execTapReturnWord off tap i w s) := by
  unfold execTapReturnWord
  try dsimp only
  with_reducible repeat' first
    | assumption | apply Runs.next | apply Runs.ite | apply State.raiseIrq_keeps | apply State.incFld_keeps
    | apply State.at_keeps | apply State.scoreRecord_keeps | apply State.ft4Reply_keeps
    | apply State.annotate_keeps | apply State.reached_keeps | apply Keeps.ite | split
  all_goals first
    | exact sub_mask rfl hM | exact InMask.auto

theorem execDeliveryAccept_runs {M : Nat} {z s : State} {off : Nat} {src : Deliver} {n : Nat} {buf : BitVec 64} (hz
    : Keeps M z s) (hM : 0x1100e02000003408a02 ||| M = M) :
    Runs M z (execDeliveryAccept off src n buf s) := by
  unfold execDeliveryAccept
  try dsimp only
  with_reducible repeat' first
    | assumption | apply Runs.next | apply Runs.ite | apply State.acceptDivert_keeps | apply State.at_keeps
    | apply State.acceptCopy_keeps | apply State.acceptCapture_keeps | apply Keeps.ite | split
  all_goals exact sub_mask rfl hM

theorem execPipelineUncorrError_runs {M : Nat} {z s : State} {off : Nat} {u : PipeUnit} (hz : Keeps M z s) (hM :
    0x17ffffffe72fff5fefe ||| M = M) :
    Runs M z (execPipelineUncorrError off u s) := by
  unfold execPipelineUncorrError
  try dsimp only
  with_reducible repeat' first
    | assumption | apply Runs.next | apply Runs.ite | apply State.failUnit_keeps | apply State.at_keeps
    | apply Keeps.ite | split
  all_goals first
    | exact sub_mask rfl hM | exact InMask.auto

theorem execRecordExpiry_runs {M : Nat} {z s : State} {off : Nat} {cached : Bool} {n : Nat} (hz : Keeps M z s) (hM :
    0x200000040c00802 ||| M = M) :
    Runs M z (execRecordExpiry off cached n s) := by
  unfold execRecordExpiry
  try dsimp only
  with_reducible repeat' first
    | assumption | apply Runs.next | apply Runs.ite | apply State.incFld_keeps | apply State.at_keeps
    | apply State.pipeMap_keeps | apply State.writeSlot_keeps | apply State.endStreams_keeps
    | apply State.reached_keeps | apply Keeps.ite | split
  all_goals first
    | exact sub_mask rfl hM | exact InMask.auto

theorem execStreamOrder_runs {M : Nat} {z s : State} {off : Nat} {i : Pipe} (hz : Keeps M z s) (hM :
    0x202000000400e02 ||| M = M) :
    Runs M z (execStreamOrder off i s) := by
  unfold execStreamOrder
  try dsimp only
  with_reducible repeat' first
    | assumption | apply Runs.next | apply Runs.ite | apply State.at_keeps | apply State.takeHead_keeps
    | apply State.handOn_keeps | apply State.order_keeps | apply Keeps.ite | split
  all_goals exact sub_mask rfl hM

theorem State.deliverLate_keeps {M : Nat} {z s : State} {i h d : Nat} {ds : List Delivery} (hz : Keeps M z s) (hM :
    0x202000000400206 ||| M = M) :
    Keeps M z (State.deliverLate s i h d ds) := by
  unfold State.deliverLate
  try dsimp only
  with_reducible repeat' first
    | assumption | apply State.deliverBehind_keeps | apply Keeps.ite | split
  all_goals exact sub_mask rfl hM

theorem execHoleHoldExpiry_runs {M : Nat} {z s : State} {handle : BitVec 32} {dir : Fin 2} (hz : Keeps M z s) (hM :
    0x202000000400206 ||| M = M) :
    Runs M z (execHoleHoldExpiry handle dir s) := by
  unfold execHoleHoldExpiry
  dsimp only
  split
  · exact .next hz
  · refine .ite ?_ (.next hz)
    exact .next (State.deliverLate_keeps (State.expireHoles_keeps hz (sub_mask rfl hM)) (sub_mask rfl hM))

theorem execFileCarve_runs {M : Nat} {z s : State} {off : Nat} {i : Pipe} (hz : Keeps M z s) (hM : 0x202000000400a06
    ||| M = M) :
    Runs M z (execFileCarve off i s) := by
  unfold execFileCarve
  try dsimp only
  with_reducible repeat' first
    | assumption | apply Runs.next | apply Runs.ite | apply State.at_keeps | apply State.pipeMap_keeps
    | apply State.setFrame_keeps | apply State.handOn_keeps | apply State.takeHead_keeps
    | apply State.carveAll_keeps | apply Keeps.ite | split
  all_goals exact sub_mask rfl hM

theorem execFeatureBuild_runs {M : Nat} {z s : State} {off : Nat} {i : Pipe} (hz : Keeps M z s) (hM :
    0x1202000000400e02 ||| M = M) :
    Runs M z (execFeatureBuild off i s) := by
  unfold execFeatureBuild
  try dsimp only
  with_reducible repeat' first
    | assumption | apply Runs.next | apply Runs.ite | apply State.at_keeps | apply State.takeHead_keeps
    | apply State.incFld_keeps | apply State.setFrame_keeps | apply State.handOn_keeps | apply State.offer_keeps
    | apply Keeps.ite | split
  all_goals first
    | exact sub_mask rfl hM | exact InMask.auto

theorem State.sendAll_keeps {M : Nat} {z s : State} {f : Frame} (hz : Keeps M z s) (hM : 0x100222080265408202 ||| M = M) :
    Keeps M z (State.sendAll s f).1 :=
  Keeps.foldl_fst _ (fun _ _ h => State.sendWindow_keeps h (sub_mask rfl hM)) (State.sendT1_keeps hz (sub_mask rfl hM))

theorem State.noTier_keeps {M : Nat} {z s : State} {f : Frame} (hz : Keeps M z s) (hM : 0x400000 ||| M = M) :
    Keeps M z (State.noTier s f).1 := State.freeSlots_keeps hz (sub_mask rfl hM)

theorem execScoreDispatch_runs {M : Nat} {z s : State} {off : Nat} {i : Pipe} (hz : Keeps M z s) (hM :
    0x100222080265408e02 ||| M = M) :
    Runs M z (execScoreDispatch off i s) := by
  unfold execScoreDispatch
  try dsimp only
  with_reducible repeat' first
    | assumption | apply Runs.next | apply Runs.ite | apply State.at_keeps | apply State.pipeMap_keeps
    | apply State.setFrame_keeps | apply State.handOn_keeps | apply State.takeHead_keeps
    | apply State.joinCheck_keeps | apply State.afterP1_keeps | apply State.afterLast_keeps
    | apply State.noTier_keeps | apply State.sendAll_keeps | apply State.sendWindow_keeps | apply Keeps.ite
    | (apply Keeps.foldl_fst; intro _ _ _) | refine Keeps.of_fst (by assumption) ?_ | split
  all_goals exact sub_mask rfl hM

theorem execScorePacket_runs {M : Nat} {z s : State} {off : Nat} {batch : Word} {r : ScoreRec} {poisoned remote :
    Bool} (hz : Keeps M z s) (hM : 0x108202000021408e02 ||| M = M) :
    Runs M z (execScorePacket off batch r poisoned remote s) := by
  unfold execScorePacket
  try dsimp only
  with_reducible repeat' first
    | assumption | apply Runs.next | apply Runs.ite | apply State.at_keeps | apply State.tier1Score_keeps
    | apply State.incFld_keeps | apply State.answer_keeps | apply State.scoreRecord_keeps | apply Keeps.ite | split
  all_goals first
    | exact sub_mask rfl hM | exact InMask.auto

theorem execT3Req_runs {M : Nat} {z s : State} {off : Nat} (hz : Keeps M z s) (hM : 0x100022080245008a02 ||| M = M)
    :
    Runs M z (execT3Req off s) := by
  unfold execT3Req
  try dsimp only
  with_reducible repeat' first
    | assumption | apply Runs.next | apply Runs.ite | apply State.incFld_keeps | apply State.at_keeps
    | apply State.rykMap_keeps | apply State.discard_keeps | apply State.rykPump_keeps | apply State.send_keeps
    | apply Keeps.ite | refine Keeps.of_some (by assumption) (fun _ => State.admitIn_keeps ?_ ?_)
    | refine Keeps.of_some (by assumption) (fun _ => State.toRing_keeps ?_ ?_) | split
  all_goals first
    | exact sub_mask rfl hM | exact InMask.auto

theorem execCopyFrameRx_runs {M : Nat} {z s : State} {off : Nat} {buf : BitVec 64} (hz : Keeps M z s) (hM :
    0x1100002000003000a02 ||| M = M) :
    Runs M z (execCopyFrameRx off buf s) := by
  unfold execCopyFrameRx
  try dsimp only
  with_reducible repeat' first
    | assumption | apply Runs.next | apply Runs.ite | apply State.incFld_keeps | apply State.at_keeps
    | apply State.deliverRaw_keeps | apply State.takeInbox_keeps | apply Keeps.ite
    | refine Keeps.of_some_snd (by assumption) (State.takeInbox_keeps ?_ ?_) | split
  all_goals first
    | exact sub_mask rfl hM | exact InMask.auto

end Sys2Proof.Machine
end

