-- ==== Sys2Proof/Laws/RunsHost.lean ====
section
/-!
SUPPORT. What each command keeps (the memories, the host, links, security, loading and the firmware): one law `execX_runs` for each meaning, which also says that the
meaning answers a next state.
-/

set_option Elab.async false

namespace Sys2Proof.Machine

open Sys2Proof

theorem State.linkHeaders_keeps {M : Nat} {z s : State} {n : Nat} {rx0 rx1 : List (BitVec 66)} (hz : Keeps M z s)
    (hM : 0x10020612000140c602 ||| M = M) :
    Keeps M z (State.linkHeaders s n rx0 rx1) := by
  unfold State.linkHeaders
  try dsimp only
  with_reducible repeat' first
    | assumption | apply State.linkFollow_keeps | apply State.headersJudged_keeps | apply Keeps.ite | split
  all_goals first
    | exact sub_mask rfl hM | exact InMask.auto

theorem execRykFrameReceive_runs {M : Nat} {z s : State} {off : Nat} {n : RykLink} {k : Fin 2} {rx0 rx1 : List
    (BitVec 66)} {bufErr : Bool} (hz : Keeps M z s) (hM : 0x10020612000140ce02 ||| M = M) :
    Runs M z (execRykFrameReceive off n k rx0 rx1 bufErr s) := by
  unfold execRykFrameReceive
  try dsimp only
  with_reducible repeat' first
    | assumption | apply Runs.next | apply Runs.ite | apply State.raiseIrq_keeps | apply State.incFld_keeps
    | apply State.at_keeps | apply State.setRlink_keeps | apply State.rykPump_keeps
    | apply State.linkFollow_keeps | apply State.sendNak_keeps | apply State.accepted_keeps
    | apply State.sendAck_keeps | apply State.linkHeaders_keeps | apply State.emit_keeps | apply Keeps.ite
    | split
  all_goals first
    | exact sub_mask rfl hM | exact InMask.auto

theorem execLlctl_runs {M : Nat} {z s : State} {off : Nat} {n : RykLink} {nak : Bool} {cls : Fin 2} {ack : BitVec
    12} {c0 c1 c2 c3 : BitVec 8} (hz : Keeps M z s) (hM : 0x10020612000140ce02 ||| M = M) :
    Runs M z (execLlctl off n nak cls ack c0 c1 c2 c3 s) := by
  unfold execLlctl
  try dsimp only
  with_reducible repeat' first
    | assumption | apply Runs.next | apply Runs.ite | apply State.at_keeps | apply State.incFld_keeps
    | apply State.ackTo_keeps | apply State.rykPump_keeps | apply State.replayStart_keeps | apply Keeps.ite | split
  all_goals first
    | exact sub_mask rfl hM | exact InMask.auto

theorem execReplayTimeout_runs {M : Nat} {z s : State} {off : Nat} {n : RykLink} {since : Nat} (hz : Keeps M z s)
    (hM : 0x10020612000140ce02 ||| M = M) :
    Runs M z (execReplayTimeout off n since s) := by
  unfold execReplayTimeout
  try dsimp only
  with_reducible repeat' first
    | assumption | apply Runs.next | apply Runs.ite | apply State.at_keeps | apply State.rykPump_keeps
    | apply State.replayStart_keeps | apply Keeps.ite | split
  all_goals first
    | exact sub_mask rfl hM | exact InMask.auto

theorem State.returnCredits_keeps {M : Nat} {z s : State} {n : Nat} (hz : Keeps M z s) (hM : 0x1008200 ||| M = M) :
    Keeps M z (State.returnCredits s n) := by
  unfold State.returnCredits
  try dsimp only
  with_reducible repeat' first
    | assumption | apply State.sendCredit_keeps | apply Keeps.ite | (apply Keeps.foldl; intro _ _ _) | split
  all_goals exact sub_mask rfl hM

theorem execLinkInit_runs {M : Nat} {z s : State} {off : Nat} {n : RykLink} {fresh : Bool} {mask : Fin 4} {ack :
    BitVec 12} {chip : BitVec 16} {peer : RykLink} (hz : Keeps M z s) (hM : 0x100002000001008a02 ||| M = M) :
    Runs M z (execLinkInit off n fresh mask ack chip peer s) := by
  unfold execLinkInit
  try dsimp only
  with_reducible repeat' first
    | assumption | apply Runs.next | apply Runs.ite | apply State.setFld_keeps | apply State.raiseIrq_keeps
    | apply State.at_keeps | apply State.setRlink_keeps | apply State.rykPump_keeps | apply State.setKstate_keeps
    | apply State.setLanes_keeps | apply State.ackTo_keeps | apply State.resend_keeps
    | apply State.restartSeq_keeps | apply State.returnCredits_keeps | apply Keeps.ite | split
  all_goals first
    | exact sub_mask rfl hM | exact InMask.auto

theorem execRetrainingTimeout_runs {M : Nat} {z s : State} {off : Nat} {n : RykLink} (hz : Keeps M z s) (hM :
    0x10020612000140ce02 ||| M = M) :
    Runs M z (execRetrainingTimeout off n s) := by
  unfold execRetrainingTimeout
  try dsimp only
  with_reducible repeat' first
    | assumption | apply Runs.next | apply Runs.ite | apply State.at_keeps | apply State.linkFollow_keeps
    | apply State.linkDead_keeps | apply Keeps.ite | split
  all_goals exact sub_mask rfl hM

theorem State.sendAlign_keeps {M : Nat} {z s : State} {n : Nat} (hz : Keeps M z s) (hM : 0x1008200 ||| M = M) :
    Keeps M z (State.sendAlign s n) := by
  unfold State.sendAlign
  try dsimp only
  with_reducible repeat' first
    | assumption | apply State.setRlink_keeps | apply State.sendBits_keeps | apply Keeps.ite
    | (apply Keeps.foldl; intro _ _ _) | split
  all_goals exact sub_mask rfl hM

theorem execLinkAlign_runs {M : Nat} {z s : State} {off : Nat} {n : RykLink} {seq0 seq1 : BitVec 8} {skew : Int}
    {depth : BitVec 8} (hz : Keeps M z s) (hM : 0x10020612000140ce02 ||| M = M) :
    Runs M z (execLinkAlign off n seq0 seq1 skew depth s) := by
  unfold execLinkAlign
  try dsimp only
  with_reducible repeat' first
    | assumption | apply Runs.next | apply Runs.ite | apply State.setFld_keeps | apply State.raiseIrq_keeps
    | apply State.at_keeps | apply State.syncDepth_keeps | apply State.setRlink_keeps | apply State.rykPump_keeps
    | apply State.setKstate_keeps | apply State.setLanes_keeps | apply State.sendNak_keeps
    | apply State.replayStart_keeps | apply State.sendInit_keeps | apply State.sendAlign_keeps | apply Keeps.ite
    | split
  all_goals first
    | exact sub_mask rfl hM | exact InMask.auto

theorem execSecondLaneWait_runs {M : Nat} {z s : State} {off : Nat} {n : RykLink} (hz : Keeps M z s) (hM :
    0x100002000001000a02 ||| M = M) :
    Runs M z (execSecondLaneWait off n s) := by
  unfold execSecondLaneWait
  try dsimp only
  with_reducible repeat' first
    | assumption | apply Runs.next | apply Runs.ite | apply State.at_keeps | apply State.linkAligning_keeps
    | apply Keeps.ite | split
  all_goals exact sub_mask rfl hM

theorem execLinkRewiden_runs {M : Nat} {z s : State} {off : Nat} {n : RykLink} (hz : Keeps M z s) (hM :
    0x100000000001000802 ||| M = M) :
    Runs M z (execLinkRewiden off n s) := by
  unfold execLinkRewiden
  try dsimp only
  with_reducible repeat' first
    | assumption | apply Runs.next | apply Runs.ite | apply State.at_keeps | apply State.setRlink_keeps
    | apply State.setKstate_keeps | apply Keeps.ite | split
  all_goals first
    | exact sub_mask rfl hM | exact InMask.auto

theorem State.t3TimedOut_keeps {M : Nat} {z s : State} {tag : Nat} {q : T3Req} (hz : Keeps M z s) (hM : 0x100202000001400602 ||| M =
    M) :
    Keeps M z (State.t3TimedOut s tag q) := by
  unfold State.t3TimedOut
  try dsimp only
  with_reducible repeat' first
    | assumption | apply State.raiseIrq_keeps | apply State.incFld_keeps | apply State.t3Done_keeps
    | apply Keeps.ite | split
  all_goals first
    | exact sub_mask rfl hM | exact InMask.auto

theorem execT3Rsp_runs {M : Nat} {z s : State} {off : Nat} (hz : Keeps M z s) (hM : 0x100202000001400e02 ||| M = M)
    :
    Runs M z (execT3Rsp off s) := by
  unfold execT3Rsp
  try dsimp only
  with_reducible repeat' first
    | assumption | apply Runs.next | apply Runs.ite | apply State.incFld_keeps | apply State.at_keeps
    | apply State.t3Done_keeps | apply State.t3LinkLost_keeps | apply State.t3TimedOut_keeps
    | apply State.takeInbox_keeps | apply Keeps.ite
    | refine Keeps.of_some_snd (by assumption) (State.takeInbox_keeps ?_ ?_) | split
  all_goals first
    | exact sub_mask rfl hM | exact InMask.auto

theorem execT3Timeout_runs {M : Nat} {z s : State} {off : Nat} {tag : BitVec 12} (hz : Keeps M z s) (hM :
    0x100202000001400e02 ||| M = M) :
    Runs M z (execT3Timeout off tag s) := by
  unfold execT3Timeout
  try dsimp only
  with_reducible repeat' first
    | assumption | apply Runs.next | apply Runs.ite | apply State.at_keeps | apply State.t3TimedOut_keeps
    | apply State.t3Done_keeps | apply State.raiseIrq_keeps | apply State.incFld_keeps | apply Keeps.ite | split
  all_goals first
    | exact sub_mask rfl hM | exact InMask.auto

theorem execRefDepthErr_runs {M : Nat} {z s : State} {off : Nat} {stale : Bool} (hz : Keeps M z s) (hM :
    0x100006020001004e02 ||| M = M) :
    Runs M z (execRefDepthErr off stale s) := by
  unfold execRefDepthErr
  try dsimp only
  with_reducible repeat' first
    | assumption | apply Runs.next | apply Runs.ite | apply State.at_keeps | apply State.raiseIrq_keeps
    | apply State.candLost_keeps | apply Keeps.ite | split
  all_goals first
    | exact sub_mask rfl hM | exact InMask.auto

theorem State.replayBad_keeps {M : Nat} {z s : State} {n seq : Nat} (hz : Keeps M z s) (hM : 0x10020612000140c602 ||| M = M) :
    Keeps M z (State.replayBad s n seq) := by
  unfold State.replayBad
  try dsimp only
  with_reducible repeat' first
    | assumption | apply State.discard_keeps | apply State.setRlink_keeps | apply State.rykPump_keeps
    | apply State.linkEvent_keeps | apply State.linkFollow_keeps | apply Keeps.ite | split
  all_goals first
    | exact sub_mask rfl hM | exact InMask.auto

theorem execLinkFault_runs {M : Nat} {z s : State} {off : Nat} {n : RykLink} {frame : Option (BitVec 12)} (hz :
    Keeps M z s) (hM : 0x10020612000140ce02 ||| M = M) :
    Runs M z (execLinkFault off n frame s) := by
  unfold execLinkFault
  try dsimp only
  with_reducible repeat' first
    | assumption | apply Runs.next | apply Runs.ite | apply State.at_keeps | apply State.fail_keeps
    | apply State.linkFollow_keeps | apply State.replayBad_keeps | apply Keeps.ite | split
  all_goals first
    | exact sub_mask rfl hM | exact InMask.auto

theorem execGatewayFault_runs {M : Nat} {z s : State} {off : Nat} (hz : Keeps M z s) (hM : 0x10020612000140ce02 |||
    M = M) :
    Runs M z (execGatewayFault off s) := by
  unfold execGatewayFault
  try dsimp only
  with_reducible repeat' first
    | assumption | apply Runs.next | apply Runs.ite | apply State.linkFollow_keeps | apply State.fail_keeps
    | apply State.at_keeps | apply Keeps.ite | split
  all_goals first
    | exact sub_mask rfl hM | exact InMask.auto

theorem execCisternReadReq_runs {M : Nat} {z s : State} {off : Nat} {b : Fin 16} (hz : Keeps M z s) (hM :
    0x29002000058000a02 ||| M = M) :
    Runs M z (execCisternReadReq off b s) := by
  unfold execCisternReadReq
  try dsimp only
  with_reducible repeat' first
    | assumption | apply Runs.next | apply Runs.ite | apply State.at_keeps | apply State.inject_keeps
    | apply State.setEdge_keeps | apply State.countDirect_keeps | apply State.directWrite_keeps
    | apply State.cstNack_keeps | apply Keeps.ite
    | refine Keeps.of_some (by assumption) (fun _ => State.objectRead_keeps ?_ ?_) | split
  all_goals first
    | exact sub_mask rfl hM | exact InMask.auto

theorem execFillReturn_runs {M : Nat} {z s : State} {off : Nat} {b : Fin 16} {n : Fin 64} (hz : Keeps M z s) (hM :
    0x29002000058000a02 ||| M = M) :
    Runs M z (execFillReturn off b n s) := by
  unfold execFillReturn
  try dsimp only
  with_reducible repeat' first
    | assumption | apply Runs.next | apply Runs.ite | apply State.at_keeps | apply State.inject_keeps
    | apply State.setBank_keeps | apply State.cstNack_keeps | apply State.installLine_keeps | apply Keeps.ite
    | (apply Keeps.foldl; intro _ _ _) | split
  all_goals first
    | exact sub_mask rfl hM | exact InMask.auto

theorem execObjectTableWrite_runs {M : Nat} {z s : State} {off : Nat} {v : Word} (hz : Keeps M z s) (hM :
    0x20002120040000a02 ||| M = M) :
    Runs M z (execObjectTableWrite off v s) := by
  unfold execObjectTableWrite
  try dsimp only
  with_reducible repeat' first
    | assumption | apply Runs.next | apply Runs.ite | apply State.at_keeps | apply State.tableWrite_keeps
    | apply State.onPage_keeps | apply Keeps.ite | (intro _ _; try dsimp only) | split
  all_goals first
    | exact sub_mask rfl hM | exact InMask.auto

theorem execCisternSramError_runs {M : Nat} {z s : State} {off : Nat} {b : Fin 16} {e : CstError} (hz : Keeps M z s)
    (hM : 0x29002100058000a02 ||| M = M) :
    Runs M z (execCisternSramError off b e s) := by
  unfold execCisternSramError
  dsimp only
  have h1 : Keeps M z (s.at off) := State.at_keeps hz (sub_mask rfl hM)
  split
  · exact .next (State.transient_keeps (State.raiseIrq_keeps (State.incFld_keeps h1 (sub_mask rfl hM)) (sub_mask rfl hM)) (sub_mask rfl hM))
  · have h2 : ∀ x, Keeps M z ((((s.at off).incFld (Pg.cst b.val) F.CST_ECC_b16).raiseIrq (Pg.cst b.val) 1).setBank b.val x) := fun x =>
      State.setBank_keeps (State.raiseIrq_keeps (State.incFld_keeps h1 (sub_mask rfl hM)) (sub_mask rfl hM)) (sub_mask rfl hM)
    refine .next (State.retireLine_keeps ?_ (sub_mask rfl hM))
    revert h2
    cases (s.at off).cached b.val _ with
    | none => exact fun h2 => h2 _
    | some y =>
      intro h2
      dsimp only [Option.bind]
      generalize hq : State.objectRead _ _ _ _ = q
      cases q with
      | none => exact h2 _
      | some u => exact State.objectRead_keeps (h2 _) (sub_mask rfl hM) hq
  · exact .next (State.retireLine_keeps (State.memMap_keeps (State.raiseIrq_keeps (State.incFld_keeps h1 (sub_mask rfl hM))
      (sub_mask rfl hM)) (sub_mask rfl hM) (fun _ hd => hd)) (sub_mask rfl hM))


theorem execDdrReadError_runs {M : Nat} {z s : State} {off : Nat} {c : Fin 8} {row : BitVec 24} {line : Fin 128} {e
    : ReadErr} (hz : Keeps M z s) (hM : 0x80002100040000a02 ||| M = M) :
    Runs M z (execDdrReadError off c row line e s) := by
  unfold execDdrReadError
  try dsimp only
  with_reducible repeat' first
    | assumption | apply Runs.next | apply Runs.ite | apply State.at_keeps | apply State.ddrError_keeps
    | apply Keeps.ite | split
  all_goals first
    | exact sub_mask rfl hM | exact InMask.auto

theorem execPatrolScrub_runs {M : Nat} {z s : State} {off : Nat} {c : Fin 8} {found : List (Fin 128 × ReadErr)} {ecs
    : Word} (hz : Keeps M z s) (hM : 0x80002100040000a02 ||| M = M) :
    Runs M z (execPatrolScrub off c found ecs s) := by
  unfold execPatrolScrub
  try dsimp only
  with_reducible repeat' first
    | assumption | apply Runs.next | apply Runs.ite | apply State.at_keeps | apply State.ddrError_keeps
    | apply State.patrolNext_keeps | apply Keeps.ite | (apply Keeps.foldl; intro _ _ _) | split
  all_goals first
    | exact sub_mask rfl hM | exact InMask.auto

theorem execScrubLate_runs {M : Nat} {z s : State} {off : Nat} {c : Fin 8} {ecs : Word} (hz : Keeps M z s) (hM :
    0x80002000040000a02 ||| M = M) :
    Runs M z (execScrubLate off c ecs s) := by
  unfold execScrubLate
  try dsimp only
  with_reducible repeat' first
    | assumption | apply Runs.next | apply Runs.ite | apply State.raiseIrq_keeps | apply State.incFld_keeps
    | apply State.at_keeps | apply State.patrolNext_keeps | apply Keeps.ite | split
  all_goals first
    | exact sub_mask rfl hM | exact InMask.auto

theorem execDmcRetireGo_runs {M : Nat} {z s : State} {off : Nat} {c : Fin 8} {v : Word} (hz : Keeps M z s) (hM :
    0x80002120040000a1a ||| M = M) :
    Runs M z (execDmcRetireGo off c v s) := by
  unfold execDmcRetireGo
  try dsimp only
  with_reducible repeat' first
    | assumption | apply Runs.next | apply Runs.ite | apply State.at_keeps | apply State.write_keeps
    | apply State.retireWritten_keeps | apply State.onPage_keeps | apply Keeps.ite | (intro _ _; try dsimp only)
    | split
  all_goals first
    | exact sub_mask rfl hM | exact InMask.auto

theorem execRowCopyDone_runs {M : Nat} {z s : State} {off : Nat} {c : Fin 8} {lost : List (Fin 128)} (hz : Keeps M z
    s) (hM : 0x80002100040000a02 ||| M = M) :
    Runs M z (execRowCopyDone off c lost s) := by
  unfold execRowCopyDone
  try dsimp only
  with_reducible repeat' first
    | assumption | apply Runs.next | apply Runs.ite | apply State.setFld_keeps | apply State.memMap_keeps
    | apply State.at_keeps | apply State.setSubRetired_keeps | apply State.setChan5_keeps | apply Keeps.ite
    | exact fun _ hd => hd | split
  all_goals first
    | exact sub_mask rfl hM | exact InMask.auto

theorem execDmcFault_runs {M : Nat} {z s : State} {off : Nat} {c : Fin 8} {parity : Bool} (hz : Keeps M z s) (hM :
    0x80002100040000a02 ||| M = M) :
    Runs M z (execDmcFault off c parity s) := by
  unfold execDmcFault
  try dsimp only
  with_reducible repeat' first
    | assumption | apply Runs.next | apply Runs.ite | apply State.at_keeps | apply State.setFld_keeps
    | apply State.raiseIrq_keeps | apply State.incFld_keeps | apply State.setChan5_keeps | apply State.fail_keeps
    | apply Keeps.ite | split
  all_goals first
    | exact sub_mask rfl hM | exact InMask.auto

theorem execDimmThermal_runs {M : Nat} {z s : State} {off : Nat} {c : Fin 8} {temp : BitVec 16} (hz : Keeps M z s)
    (hM : 0x80002000040000a02 ||| M = M) :
    Runs M z (execDimmThermal off c temp s) := by
  unfold execDimmThermal
  try dsimp only
  with_reducible repeat' first
    | assumption | apply Runs.next | apply Runs.ite | apply State.at_keeps | apply State.setFld_keeps
    | apply State.setChan5_keeps | apply State.raiseIrq_keeps | apply Keeps.ite | split
  all_goals first
    | exact sub_mask rfl hM | exact InMask.auto

theorem execRingDoorbell_runs {M : Nat} {z s : State} {off : Nat} {p : Fin 32} {r : Fin 8} {tail : BitVec 16} (hz :
    Keeps M z s) (hM : 0x40002120000000a1a ||| M = M) :
    Runs M z (execRingDoorbell off p r tail s) := by
  unfold execRingDoorbell
  try dsimp only
  with_reducible repeat' first
    | assumption | apply Runs.next | apply Runs.ite | apply State.at_keeps | apply State.write_keeps
    | apply State.onPage_keeps | apply Keeps.ite | (intro _ _; try dsimp only) | split
  all_goals first
    | exact sub_mask rfl hM | exact InMask.auto

theorem execPumpChunk_runs {M : Nat} {z s : State} {off : Nat} {p : Fin 32} {host : List (BitVec 8)} (hz : Keeps M z
    s) (hM : 0x690020000d8800a02 ||| M = M) :
    Runs M z (execPumpChunk off p host s) := by
  unfold execPumpChunk
  try dsimp only
  with_reducible repeat' first
    | assumption | apply Runs.next | apply Runs.ite | apply State.at_keeps | apply State.setCtx_keeps
    | apply State.noteRound_keeps | apply State.chunk_keeps | apply State.putDesc_keeps
    | apply State.startPingPong_keeps | apply State.fetchEntry_keeps | apply Keeps.ite
    | refine Keeps.of_fst (by assumption) ?_ | split
  all_goals first
    | exact sub_mask rfl hM | exact InMask.auto

theorem execDescriptorComplete_runs {M : Nat} {z s : State} {off : Nat} {p : Fin 32} {r : Fin 8} (hz : Keeps M z s)
    (hM : 0x10600020000d2800a82 ||| M = M) :
    Runs M z (execDescriptorComplete off p r s) := by
  unfold execDescriptorComplete
  try dsimp only
  with_reducible repeat' first
    | assumption | apply Runs.next | apply Runs.ite | apply State.at_keeps | apply State.complete_keeps
    | apply State.setCtx_keeps | apply Keeps.ite | split
  all_goals exact sub_mask rfl hM

theorem execPumpTimeout_runs {M : Nat} {z s : State} {off : Nat} {p : Fin 32} {r : Fin 8} (hz : Keeps M z s) (hM :
    0x10600020000d2800a82 ||| M = M) :
    Runs M z (execPumpTimeout off p r s) := by
  unfold execPumpTimeout
  try dsimp only
  with_reducible repeat' first
    | assumption | apply Runs.next | apply Runs.ite | apply State.at_keeps | apply State.complete_keeps
    | apply State.setCtx_keeps | apply Keeps.ite | split
  all_goals exact sub_mask rfl hM

theorem execContextHalt_runs {M : Nat} {z s : State} {off : Nat} {p : Fin 32} {r : Fin 8} (hz : Keeps M z s) (hM :
    0x10600020200d2800a82 ||| M = M) :
    Runs M z (execContextHalt off p r s) := by
  unfold execContextHalt
  try dsimp only
  with_reducible repeat' first
    | assumption | apply Runs.next | apply Runs.ite | apply State.at_keeps | apply State.haltCtx_keeps
    | apply State.onPage_keeps | apply Keeps.ite | (intro _ _; try dsimp only) | split
  all_goals first
    | exact sub_mask rfl hM | exact InMask.auto

theorem execPumpSelfcheckFail_runs {M : Nat} {z s : State} {off : Nat} {p : Fin 32} (hz : Keeps M z s) (hM :
    0x10600021000d2800a82 ||| M = M) :
    Runs M z (execPumpSelfcheckFail off p s) := by
  unfold execPumpSelfcheckFail
  try dsimp only
  with_reducible repeat' first
    | assumption | apply Runs.next | apply Runs.ite | apply State.fail_keeps | apply State.pumpLeaves_keeps
    | apply State.at_keeps | apply Keeps.ite | split
  all_goals first
    | exact sub_mask rfl hM | exact InMask.auto

theorem State.atHostEvent_keeps {M : Nat} {z s : State} {off : Nat} (hz : Keeps M z s) (hM : 0x800 ||| M = M) :
    Keeps M z (State.atHostEvent s off) := by
  unfold State.atHostEvent
  try dsimp only
  with_reducible repeat' first
    | assumption | apply State.at_keeps | apply State.afterLast_keeps | apply Keeps.ite | split
  all_goals exact sub_mask rfl hM

theorem execBmeClear_runs {M : Nat} {z s : State} {off : Nat} {fn : Fin 62} (hz : Keeps M z s) (hM :
    0x1060e020001d2c00a82 ||| M = M) :
    Runs M z (execBmeClear off fn s) := by
  unfold execBmeClear
  try dsimp only
  with_reducible repeat' first
    | assumption | apply Runs.next | apply Runs.ite | apply State.setFld_keeps | apply State.incFld_keeps
    | apply State.pcieMap_keeps | apply State.haltOwner_keeps | apply State.refuseUnreachable_keeps
    | apply State.atHostEvent_keeps | apply State.at_keeps | apply Keeps.ite
    | refine Keeps.of_snd (by assumption) ?_ | split
  all_goals first
    | exact sub_mask rfl hM | exact InMask.auto

theorem execPerstDeassert_runs {M : Nat} {z s : State} {off : Nat} (hz : Keeps M z s) (hM : 0x2020100006c02 ||| M =
    M) :
    Runs M z (execPerstDeassert off s) := by
  unfold execPerstDeassert
  try dsimp only
  with_reducible repeat' first
    | assumption | apply Runs.next | apply Runs.ite | apply State.at_keeps | apply State.setCfgReady_keeps
    | apply State.pcieMap_keeps | apply Keeps.ite | split | apply Keeps.set_pins
  all_goals exact sub_mask rfl hM

theorem execCfgReadyWrite_runs {M : Nat} {z s : State} {off : Nat} {v : Word} (hz : Keeps M z s) (hM :
    0x2020100004c02 ||| M = M) :
    Runs M z (execCfgReadyWrite off v s) := by
  unfold execCfgReadyWrite
  try dsimp only
  with_reducible repeat' first
    | assumption | apply Runs.next | apply Runs.ite | apply State.cfgReadyWrite_keeps | apply State.at_keeps
    | apply Keeps.ite | split
  all_goals exact sub_mask rfl hM

theorem execCfgReadyTimeout_runs {M : Nat} {z s : State} {off : Nat} (hz : Keeps M z s) (hM : 0x2020000004c02 ||| M
    = M) :
    Runs M z (execCfgReadyTimeout off s) := by
  unfold execCfgReadyTimeout
  try dsimp only
  with_reducible repeat' first
    | assumption | apply Runs.next | apply Runs.ite | apply State.at_keeps | apply State.setCfgReady_keeps
    | apply Keeps.ite | split
  all_goals exact sub_mask rfl hM

theorem execConfigRequest_runs {M : Nat} {z s : State} {off : Nat} {fn : Fin 62} {req : CfgReq} (hz : Keeps M z s)
    (hM : 0x1000002000100080a02 ||| M = M) :
    Runs M z (execConfigRequest off fn req s) := by
  unfold execConfigRequest
  try dsimp only
  with_reducible repeat' first
    | assumption | apply Runs.next | apply Runs.ite | apply State.at_keeps | apply State.emit_keeps
    | apply State.cfgWrite_keeps | apply Keeps.ite | split
  all_goals exact sub_mask rfl hM

theorem execVfEnable_runs {M : Nat} {z s : State} {off : Nat} {on : Bool} (hz : Keeps M z s) (hM :
    0x1060e020001d2c80a8e ||| M = M) :
    Runs M z (execVfEnable off on s) := by
  unfold execVfEnable
  try dsimp only
  with_reducible repeat' first
    | assumption | apply Runs.next | apply Runs.ite | apply State.vfEnableWrite_keeps
    | apply State.atHostEvent_keeps | apply State.at_keeps | apply Keeps.ite | split
  all_goals first
    | exact sub_mask rfl hM | exact InMask.auto

theorem execCtxBindWrite_runs {M : Nat} {z s : State} {off : Nat} {f : Fin 61} {j : Fin 4} {v : Word} (hz : Keeps M
    z s) (hM : 0x2100000000a1a ||| M = M) :
    Runs M z (execCtxBindWrite off f j v s) := by
  unfold execCtxBindWrite
  try dsimp only
  with_reducible repeat' first
    | assumption | apply Runs.next | apply Runs.ite | apply State.ctxBindWrite_keeps | apply State.at_keeps
    | apply Keeps.ite | split
  all_goals exact sub_mask rfl hM

theorem execContextSlotWrite_runs {M : Nat} {z s : State} {off : Nat} {f : Fin 61} {slot : Fin 8} {reg : BitVec 12}
    {v : Word} (hz : Keeps M z s) (hM : 0x10600021000d2800a9a ||| M = M) :
    Runs M z (execContextSlotWrite off f slot reg v s) := by
  unfold execContextSlotWrite
  try dsimp only
  with_reducible repeat' first
    | assumption | apply Runs.next | apply Runs.ite | apply State.slotWrite_keeps | apply State.at_keeps
    | apply Keeps.ite | split
  all_goals exact sub_mask rfl hM

theorem execDeliveryFreePost_runs {M : Nat} {z s : State} {off : Nat} {f : Fin 61} {t : Fin 4} {tail : BitVec 16}
    (hz : Keeps M z s) (hM : 0x1000002100000000a1a ||| M = M) :
    Runs M z (execDeliveryFreePost off f t tail s) := by
  unfold execDeliveryFreePost
  try dsimp only
  with_reducible repeat' first
    | assumption | apply Runs.next | apply Runs.ite | apply State.freePost_keeps | apply State.at_keeps
    | apply Keeps.ite | split
  all_goals exact sub_mask rfl hM

theorem execMsixUnmask_runs {M : Nat} {z s : State} {off : Nat} {fn : Fin 62} {v : Fin 64} (hz : Keeps M z s) (hM :
    0x1000002000000000a02 ||| M = M) :
    Runs M z (execMsixUnmask off fn v s) := by
  unfold execMsixUnmask
  try dsimp only
  with_reducible repeat' first
    | assumption | apply Runs.next | apply Runs.ite | apply State.at_keeps | apply State.sendPending_keeps
    | apply State.setReg_keeps | apply Keeps.ite | split
  all_goals first
    | exact sub_mask rfl hM | exact InMask.auto | exact .reg .auto

theorem execFunctionLevelReset_runs {M : Nat} {z s : State} {off : Nat} {fn : Fin 62} (hz : Keeps M z s) (hM :
    0x1060e020000d2c80a82 ||| M = M) :
    Runs M z (execFunctionLevelReset off fn s) := by
  unfold execFunctionLevelReset
  try dsimp only
  with_reducible repeat' first
    | assumption | apply Runs.next | apply Runs.ite | apply State.setFld_keeps | apply State.raiseIrq_keeps
    | apply State.incFld_keeps | apply State.refuseUnreachable_keeps | apply State.resetFunction_keeps
    | apply State.atHostEvent_keeps | apply State.afterLast_keeps | apply State.at_keeps | apply Keeps.ite
    | refine Keeps.of_snd (by assumption) ?_ | split
  all_goals first
    | exact sub_mask rfl hM | exact InMask.auto

theorem execFlrComplete_runs {M : Nat} {z s : State} {off : Nat} {fn : Fin 62} (hz : Keeps M z s) (hM :
    0x100000200000000080e ||| M = M) :
    Runs M z (execFlrComplete off fn s) := by
  unfold execFlrComplete
  try dsimp only
  with_reducible repeat' first
    | assumption | apply Runs.next | apply Runs.ite | apply State.at_keeps | apply State.removeTenant_keeps
    | apply State.setFld_keeps | apply State.resetLocal_keeps | apply Keeps.ite | split
  all_goals first
    | exact sub_mask rfl hM | exact InMask.auto

theorem execCompletionArrival_runs {M : Nat} {z s : State} {off : Nat} {tag : BitVec 10} {b : List (BitVec 8)} (hz :
    Keeps M z s) (hM : 0x200020000d0800a02 ||| M = M) :
    Runs M z (execCompletionArrival off tag b s) := by
  unfold execCompletionArrival
  try dsimp only
  with_reducible repeat' first
    | assumption | apply Runs.next | apply Runs.ite | apply State.at_keeps | apply State.incFld_keeps
    | apply State.freeEntry_keeps | apply State.landData_keeps | apply Keeps.ite | split
  all_goals first
    | exact sub_mask rfl hM | exact InMask.auto

theorem execCompletionTimeout_runs {M : Nat} {z s : State} {off : Nat} {tag : BitVec 10} {us : Nat} (hz : Keeps M z
    s) (hM : 0x2000080000a02 ||| M = M) :
    Runs M z (execCompletionTimeout off tag us s) := by
  unfold execCompletionTimeout
  try dsimp only
  with_reducible repeat' first
    | assumption | apply Runs.next | apply Runs.ite | apply State.emit_keeps | apply State.raiseIrq_keeps
    | apply State.incFld_keeps | apply State.at_keeps | apply State.pumpMap_keeps
    | apply State.syncTagGauge_keeps | apply State.freeEntry_keeps | apply State.endDesc_keeps | apply Keeps.ite
    | split
  all_goals first
    | exact sub_mask rfl hM | exact InMask.auto

theorem execCtoValueChange_runs {M : Nat} {z s : State} {off : Nat} {v : Fin 16} (hz : Keeps M z s) (hM :
    0x40002000100000a0e ||| M = M) :
    Runs M z (execCtoValueChange off v s) := by
  unfold execCtoValueChange
  try dsimp only
  with_reducible repeat' first
    | assumption | apply Runs.next | apply Runs.ite | apply State.at_keeps | apply State.ctoWrite_keeps
    | apply Keeps.ite | split
  all_goals exact sub_mask rfl hM

theorem execEndpointReset_runs {M : Nat} {z s : State} {off : Nat} {cause : EndReset} (hz : Keeps M z s) (hM :
    0x1060e021001d2c82a8e ||| M = M) :
    Runs M z (execEndpointReset off cause s) := by
  unfold execEndpointReset
  try dsimp only
  with_reducible repeat' first
    | assumption | apply Runs.next | apply Runs.ite | apply State.atHostEvent_keeps
    | apply State.endpointReset_keeps | apply State.at_keeps | apply State.pinsMap_keeps
    | apply State.haltOwner_keeps | apply State.orphanTags_keeps | apply State.resetLocal_keeps
    | apply State.resetPage_keeps | apply State.setFld_keeps | apply State.setReg_keeps
    | apply State.ctoWrite_keeps | apply State.freshLink_keeps | apply State.hostMap_keeps
    | apply State.refuseUnreachable_keeps | apply State.raiseIrq_keeps | apply State.incFld_keeps
    | apply Keeps.ite | refine Keeps.of_snd (by assumption) ?_ | split
  all_goals first
    | exact sub_mask rfl hM | exact InMask.auto

theorem execHostInternalError_runs {M : Nat} {z s : State} {off : Nat} (hz : Keeps M z s) (hM : 0x2100100000a02 |||
    M = M) :
    Runs M z (execHostInternalError off s) := by
  unfold execHostInternalError
  try dsimp only
  with_reducible repeat' first
    | assumption | apply Runs.next | apply Runs.ite | apply State.pcieMap_keeps | apply State.emit_keeps
    | apply State.fail_keeps | apply State.at_keeps | apply Keeps.ite | split
  all_goals first
    | exact sub_mask rfl hM | exact InMask.auto

theorem execPoisonedTlp_runs {M : Nat} {z s : State} {off : Nat} {tag : BitVec 10} {poisoned : Bool} (hz : Keeps M z
    s) (hM : 0x2000080000a02 ||| M = M) :
    Runs M z (execPoisonedTlp off tag poisoned s) := by
  unfold execPoisonedTlp
  try dsimp only
  with_reducible repeat' first
    | assumption | apply Runs.next | apply Runs.ite | apply State.at_keeps | apply State.incFld_keeps
    | apply State.freeEntry_keeps | apply State.endDesc_keeps | apply State.emit_keeps | apply State.raiseIrq_keeps
    | apply Keeps.ite | split
  all_goals first
    | exact sub_mask rfl hM | exact InMask.auto

theorem execPcieLinkUp_runs {M : Nat} {z s : State} {off : Nat} {speed : Fin 5} {width : Fin 5} (hz : Keeps M z s)
    (hM : 0x2000000000802 ||| M = M) :
    Runs M z (execPcieLinkUp off speed width s) := by
  unfold execPcieLinkUp
  try dsimp only
  with_reducible repeat' first
    | assumption | apply Runs.next | apply Runs.ite | apply State.at_keeps | apply State.setFld_keeps
    | apply Keeps.ite | split
  all_goals first
    | exact sub_mask rfl hM | exact InMask.auto

theorem execLtssmRecovery_runs {M : Nat} {z s : State} {off : Nat} {enter : Bool} (hz : Keeps M z s) (hM :
    0x2000180000802 ||| M = M) :
    Runs M z (execLtssmRecovery off enter s) := by
  unfold execLtssmRecovery
  try dsimp only
  with_reducible repeat' first
    | assumption | apply Runs.next | apply Runs.ite | apply State.at_keeps | apply State.incFld_keeps
    | apply State.pcieMap_keeps | apply State.holdTimers_keeps | apply Keeps.ite | split
  all_goals first
    | exact sub_mask rfl hM | exact InMask.auto

theorem execFlashRead_runs {M : Nat} {z s : State} {off : Nat} (hz : Keeps M z s) (hM : 0x2920800000a1a ||| M = M) :
    Runs M z (execFlashRead off s) := by
  unfold execFlashRead
  try dsimp only
  with_reducible repeat' first
    | assumption | apply Runs.next | apply Runs.ite | apply State.flashCmd_keeps | apply State.at_keeps
    | apply Keeps.ite | split
  all_goals exact sub_mask rfl hM

theorem execFlashProgram_runs {M : Nat} {z s : State} {off : Nat} (hz : Keeps M z s) (hM : 0x2920800000a1a ||| M =
    M) :
    Runs M z (execFlashProgram off s) := by
  unfold execFlashProgram
  try dsimp only
  with_reducible repeat' first
    | assumption | apply Runs.next | apply Runs.ite | apply State.flashCmd_keeps | apply State.at_keeps
    | apply Keeps.ite | split
  all_goals exact sub_mask rfl hM

theorem execFlashErase_runs {M : Nat} {z s : State} {off : Nat} (hz : Keeps M z s) (hM : 0x2920800000a1a ||| M = M)
    :
    Runs M z (execFlashErase off s) := by
  unfold execFlashErase
  try dsimp only
  with_reducible repeat' first
    | assumption | apply Runs.next | apply Runs.ite | apply State.flashCmd_keeps | apply State.at_keeps
    | apply Keeps.ite | split
  all_goals exact sub_mask rfl hM

theorem execFlashOpDone_runs {M : Nat} {z s : State} {off : Nat} {ok : Bool} (hz : Keeps M z s) (hM :
    0x2800800000a02 ||| M = M) :
    Runs M z (execFlashOpDone off ok s) := by
  unfold execFlashOpDone
  dsimp only
  have h1 : Keeps M z (s.at off) := State.at_keeps hz (sub_mask rfl hM)
  have h2 : ∀ f, (∀ m, Mem.wf 0xFF m.mem = true → Mem.wf 0xFF (f m).mem = true) → Keeps M z ((s.at off).flashMap f) :=
    fun f hf => State.flashMap_keeps h1 (sub_mask rfl hM) hf
  split
  · refine .next (State.syncFlash_keeps (State.nextFlash_keeps (State.raiseIrq_keeps ?_ (sub_mask rfl hM)) (sub_mask rfl hM))
      (sub_mask rfl hM))
    split
    · exact Keeps.foldl _ (fun a x ha => State.setFld_keeps ha (sub_mask rfl hM)) (h2 _ (fun _ hd => hd))
    · split
      · exact State.flashMap_keeps (h2 _ (fun _ hd => hd)) (sub_mask rfl hM) (fun _ hd => programBytes_wf _ _ _ hd)
      · exact State.flashFail_keeps (h2 _ (fun _ hd => hd)) (sub_mask rfl hM)
  · refine .next (State.syncFlash_keeps (State.nextFlash_keeps (State.raiseIrq_keeps (State.syncIndet_keeps ?_ (sub_mask rfl hM))
      (sub_mask rfl hM)) (sub_mask rfl hM)) (sub_mask rfl hM))
    split
    · exact State.flashFail_keeps (h2 _ (fun _ hd => hd)) (sub_mask rfl hM)
    · split
      · exact State.eraseSector_keeps (h2 _ (fun _ hd => hd)) (sub_mask rfl hM)
      · exact State.journal_keeps (State.eraseSector_keeps (h2 _ (fun _ hd => hd)) (sub_mask rfl hM)) (sub_mask rfl hM)
  · exact .next h1


theorem execSecStatusSvc_runs {M : Nat} {z s : State} {off : Nat} {who : Requester} {req : List (BitVec 8)} (hz :
    Keeps M z s) (hM : 0x2200400000a02 ||| M = M) :
    Runs M z (execSecStatusSvc off who req s) := by
  unfold execSecStatusSvc
  refine runService_runs hz (sub_mask rfl hM) (fun t w r ht x e => ?_)
  try dsimp only at e
  repeat' split at e
  all_goals first | cases e | skip
  all_goals try dsimp only
  all_goals with_reducible repeat' first
    | exact ht
  all_goals exact sub_mask rfl hM

theorem execSelftest_runs {M : Nat} {z s : State} {off : Nat} {who : Requester} {req : List (BitVec 8)} (hz : Keeps
    M z s) (hM : 0x2200400000a02 ||| M = M) :
    Runs M z (execSelftest off who req s) := by
  unfold execSelftest
  dsimp only
  split
  · exact .next (State.startTests_keeps (State.at_keeps hz (sub_mask rfl hM)) (sub_mask rfl hM))
  · exact runService_runs hz (sub_mask rfl hM) (fun t w r ht x e => by cases e)


theorem execAuthChallenge_runs {M : Nat} {z s : State} {off : Nat} {who : Requester} {req : List (BitVec 8)} (hz :
    Keeps M z s) (hM : 0x2200400000e02 ||| M = M) :
    Runs M z (execAuthChallenge off who req s) := by
  unfold execAuthChallenge
  refine runService_runs hz (sub_mask rfl hM) (fun t w r ht x e => ?_)
  try dsimp only at e
  repeat' split at e
  all_goals first | cases e | skip
  all_goals try dsimp only
  all_goals with_reducible repeat' first
    | exact ht | assumption | apply State.drbgBytes_keeps | apply State.secMap_keeps | apply State.setFld_keeps
    | apply State.syncNonce_keeps | apply Keeps.ite | refine Keeps.of_snd (by assumption) ?_ | split | dsimp only [id]
  all_goals first
    | exact sub_mask rfl hM | exact InMask.auto

theorem execAuthResponse_runs {M : Nat} {z s : State} {off : Nat} {who : Requester} {req : List (BitVec 8)} (hz :
    Keeps M z s) (hM : 0x82200400200a0e ||| M = M) :
    Runs M z (execAuthResponse off who req s) := by
  unfold execAuthResponse
  refine runService_runs hz (sub_mask rfl hM) (fun t w r ht x e => ?_)
  try dsimp only at e
  repeat' split at e
  all_goals first | cases e | skip
  all_goals try dsimp only
  all_goals with_reducible repeat' first
    | exact ht | assumption | apply State.incFld_keeps | apply State.syncNonce_keeps | apply State.secMap_keeps
    | apply State.grantAuth_keeps | apply Keeps.ite | split | dsimp only [id]
  all_goals first
    | exact sub_mask rfl hM | exact InMask.auto

theorem execLogout_runs {M : Nat} {z s : State} {off : Nat} {who : Requester} {req : List (BitVec 8)} (hz : Keeps M
    z s) (hM : 0x2200400000a02 ||| M = M) :
    Runs M z (execLogout off who req s) := by
  unfold execLogout
  refine runService_runs hz (sub_mask rfl hM) (fun t w r ht x e => ?_)
  try dsimp only at e
  repeat' split at e
  all_goals first | cases e | skip
  all_goals try dsimp only
  all_goals with_reducible repeat' first
    | exact ht | assumption | apply State.endSession_keeps | apply Keeps.ite | split | dsimp only [id]
  all_goals exact sub_mask rfl hM

theorem execCoSessionIdle_runs {M : Nat} {z s : State} {off : Nat} {who : Requester} (hz : Keeps M z s) (hM :
    0x200400000802 ||| M = M) :
    Runs M z (execCoSessionIdle off who s) := by
  unfold execCoSessionIdle
  try dsimp only
  with_reducible repeat' first
    | assumption | apply Runs.next | apply Runs.ite | apply State.endSession_keeps | apply State.at_keeps
    | apply Keeps.ite | split
  all_goals exact sub_mask rfl hM

theorem execNonceExpiry_runs {M : Nat} {z s : State} {off : Nat} {who : Requester} (hz : Keeps M z s) (hM :
    0x200400000802 ||| M = M) :
    Runs M z (execNonceExpiry off who s) := by
  unfold execNonceExpiry
  try dsimp only
  with_reducible repeat' first
    | assumption | apply Runs.next | apply Runs.ite | apply State.syncNonce_keeps | apply State.secMap_keeps
    | apply State.at_keeps | apply Keeps.ite | split
  all_goals exact sub_mask rfl hM

theorem execStkEstablish_runs {M : Nat} {z s : State} {off : Nat} {who : Requester} {req : List (BitVec 8)} (hz :
    Keeps M z s) (hM : 0x2200400000e02 ||| M = M) :
    Runs M z (execStkEstablish off who req s) := by
  unfold execStkEstablish
  refine runService_runs hz (sub_mask rfl hM) (fun t w r ht x e => ?_)
  try dsimp only at e
  repeat' split at e
  all_goals first | cases e | skip
  all_goals try dsimp only
  all_goals with_reducible repeat' first
    | exact ht | assumption | apply State.drbgBytes_keeps | apply State.testBit_keeps | apply State.syncStk_keeps | apply State.secMap_keeps
    | apply Keeps.ite | refine Keeps.of_snd (by assumption) ?_ | split | dsimp only [id]
  all_goals exact sub_mask rfl hM

theorem execStkClear_runs {M : Nat} {z s : State} {off : Nat} {who : Requester} {req : List (BitVec 8)} (hz : Keeps
    M z s) (hM : 0x2200400000a02 ||| M = M) :
    Runs M z (execStkClear off who req s) := by
  unfold execStkClear
  refine runService_runs hz (sub_mask rfl hM) (fun t w r ht x e => ?_)
  try dsimp only at e
  repeat' split at e
  all_goals first | cases e | skip
  all_goals try dsimp only
  all_goals with_reducible repeat' first
    | exact ht | assumption | apply State.syncStk_keeps | apply State.secMap_keeps | apply Keeps.ite | split
    | dsimp only [id]
  all_goals exact sub_mask rfl hM

theorem execSakLoad_runs {M : Nat} {z s : State} {off : Nat} {who : Requester} {req : List (BitVec 8)} (hz : Keeps M
    z s) (hM : 0x82200400200a1e ||| M = M) :
    Runs M z (execSakLoad off who req s) := by
  unfold execSakLoad
  refine runService_runs hz (sub_mask rfl hM) (fun t w r ht x e => ?_)
  try dsimp only at e
  repeat' split at e
  all_goals first | cases e | skip
  all_goals with_reducible repeat' first
    | exact ht | assumption | apply State.sakLoad_keeps | apply Keeps.ite | refine Keeps.of_fst (by assumption) ?_
    | split | dsimp only [id]
  all_goals exact sub_mask rfl hM

theorem execSakClear_runs {M : Nat} {z s : State} {off : Nat} {who : Requester} {req : List (BitVec 8)} (hz : Keeps
    M z s) (hM : 0x82200400200a0e ||| M = M) :
    Runs M z (execSakClear off who req s) := by
  unfold execSakClear
  refine runService_runs hz (sub_mask rfl hM) (fun t w r ht x e => ?_)
  try dsimp only at e
  repeat' split at e
  all_goals first | cases e | skip
  all_goals try dsimp only
  all_goals with_reducible repeat' first
    | exact ht | assumption | apply State.clearSlot_keeps | apply Keeps.ite | split | dsimp only [id]
  all_goals exact sub_mask rfl hM

theorem execSakLoadPlain_runs {M : Nat} {z s : State} {off : Nat} {who : Requester} {req : List (BitVec 8)} (hz :
    Keeps M z s) (hM : 0x82200400200a1e ||| M = M) :
    Runs M z (execSakLoadPlain off who req s) := by
  unfold execSakLoadPlain
  refine runService_runs hz (sub_mask rfl hM) (fun t w r ht x e => ?_)
  try dsimp only at e
  repeat' split at e
  all_goals first | cases e | skip
  all_goals with_reducible repeat' first
    | exact ht | assumption | apply State.sakLoad_keeps | apply Keeps.ite | refine Keeps.of_fst (by assumption) ?_
    | split | dsimp only [id]
  all_goals exact sub_mask rfl hM

theorem execSecRandom_runs {M : Nat} {z s : State} {off : Nat} {who : Requester} {req : List (BitVec 8)} (hz : Keeps
    M z s) (hM : 0x2200400000e02 ||| M = M) :
    Runs M z (execSecRandom off who req s) := by
  unfold execSecRandom
  refine runService_runs hz (sub_mask rfl hM) (fun t w r ht x e => ?_)
  try dsimp only at e
  repeat' split at e
  all_goals first | cases e | skip
  all_goals try dsimp only
  all_goals with_reducible repeat' first
    | exact ht | assumption | apply State.drbgBytes_keeps | apply Keeps.ite | refine Keeps.of_snd (by assumption) ?_
    | split | dsimp only [id]
  all_goals exact sub_mask rfl hM

theorem execRandomRaw_runs {M : Nat} {z s : State} {off : Nat} {who : Requester} {req : List (BitVec 8)} (hz : Keeps
    M z s) (hM : 0x2200400000e02 ||| M = M) :
    Runs M z (execRandomRaw off who req s) := by
  unfold execRandomRaw
  refine runService_runs hz (sub_mask rfl hM) (fun t w r ht x e => ?_)
  try dsimp only at e
  repeat' split at e
  all_goals first | cases e | skip
  all_goals try dsimp only
  all_goals with_reducible repeat' first
    | exact ht | assumption | apply State.drawn_keeps | apply Keeps.ite | split | dsimp only [id]
  all_goals exact sub_mask rfl hM

theorem execSetMode_runs {M : Nat} {z s : State} {off : Nat} {who : Requester} {req : List (BitVec 8)} (hz : Keeps M
    z s) (hM : 0x82200400200a0e ||| M = M) :
    Runs M z (execSetMode off who req s) := by
  unfold execSetMode
  dsimp only
  split
  · exact .next (State.startTests_keeps (State.setFld_keeps (State.zeroize_keeps (State.at_keeps hz (sub_mask rfl hM))
      (sub_mask rfl hM)) (sub_mask rfl hM)) (sub_mask rfl hM))
  · exact runService_runs hz (sub_mask rfl hM) (fun t w r ht x e => by cases e; exact ht)


theorem execZeroize_runs {M : Nat} {z s : State} {off : Nat} {who : Requester} {req : List (BitVec 8)} (hz : Keeps M
    z s) (hM : 0x82200400200a0e ||| M = M) :
    Runs M z (execZeroize off who req s) := by
  unfold execZeroize
  refine runService_runs hz (sub_mask rfl hM) (fun t w r ht x e => ?_)
  try dsimp only at e
  repeat' split at e
  all_goals first | cases e | skip
  all_goals try dsimp only
  all_goals with_reducible repeat' first
    | exact ht | assumption | apply State.zeroize_keeps | apply State.setFld_keeps | apply Keeps.ite | split
    | dsimp only [id]
  all_goals first
    | exact sub_mask rfl hM | exact InMask.auto

theorem execDebugLock_runs {M : Nat} {z s : State} {off : Nat} {who : Requester} {req : List (BitVec 8)} (hz : Keeps
    M z s) (hM : 0x2200400000a02 ||| M = M) :
    Runs M z (execDebugLock off who req s) := by
  unfold execDebugLock
  refine runService_runs hz (sub_mask rfl hM) (fun t w r ht x e => ?_)
  try dsimp only at e
  repeat' split at e
  all_goals first | cases e | skip
  all_goals try dsimp only
  all_goals with_reducible repeat' first
    | exact ht | assumption | apply State.setDebug_keeps | apply Keeps.ite | split | dsimp only [id]
  all_goals exact sub_mask rfl hM

theorem execProvisionIk_runs {M : Nat} {z s : State} {off : Nat} {who : Requester} {req : List (BitVec 8)} {readback
    : Bool} (hz : Keeps M z s) (hM : 0x2200400000a02 ||| M = M) :
    Runs M z (execProvisionIk off who req readback s) := by
  unfold execProvisionIk
  refine runService_runs hz (sub_mask rfl hM) (fun t w r ht x e => ?_)
  try dsimp only at e
  repeat' split at e
  all_goals first | cases e | skip
  all_goals try dsimp only
  all_goals with_reducible repeat' first
    | exact ht | assumption | apply State.setFld_keeps | apply State.secMap_keeps | apply State.fuseRead_keeps
    | apply Keeps.ite | refine Keeps.of_fst (by assumption) ?_ | split | (intro _ _; try dsimp only) | dsimp only [id]
  all_goals first
    | exact sub_mask rfl hM | exact InMask.auto

theorem execRevoke_runs {M : Nat} {z s : State} {off : Nat} {who : Requester} {req : List (BitVec 8)} {readback :
    Bool} (hz : Keeps M z s) (hM : 0x2200400000a02 ||| M = M) :
    Runs M z (execRevoke off who req readback s) := by
  unfold execRevoke
  refine runService_runs hz (sub_mask rfl hM) (fun t w r ht x e => ?_)
  try dsimp only at e
  repeat' split at e
  all_goals first | cases e | skip
  all_goals try dsimp only
  all_goals with_reducible repeat' first
    | exact ht | assumption | apply State.setFld_keeps | apply State.fuseRead_keeps | apply Keeps.ite
    | refine Keeps.of_fst (by assumption) ?_ | split | (intro _ _; try dsimp only) | dsimp only [id]
  all_goals first
    | exact sub_mask rfl hM | exact InMask.auto

theorem execImageChunk_runs {M : Nat} {z s : State} {off : Nat} {who : Requester} {req : List (BitVec 8)} {tag :
    List (BitVec 8)} (hz : Keeps M z s) (hM : 0x2200400000a02 ||| M = M) :
    Runs M z (execImageChunk off who req tag s) := by
  unfold execImageChunk
  refine runService_runs hz (sub_mask rfl hM) (fun t w r ht x e => ?_)
  try dsimp only at e
  repeat' split at e
  all_goals first | cases e | skip
  all_goals try dsimp only
  all_goals with_reducible repeat' first
    | exact ht | assumption | apply State.openChunk_keeps | apply State.checkTag_keeps | apply Keeps.ite
    | refine Keeps.of_fst (by assumption) ?_ | split | dsimp only [id]
  all_goals exact sub_mask rfl hM

theorem State.countHealth_keeps {M : Nat} {z s : State} {t : HealthTest} (hz : Keeps M z s) (hM : 0x200000000002 ||| M = M) :
    Keeps M z (State.countHealth s t) := by
  unfold State.countHealth
  try dsimp only
  with_reducible repeat' first
    | assumption | apply State.incFld_keeps | apply Keeps.ite | split
  all_goals first
    | exact sub_mask rfl hM | exact InMask.auto

theorem State.healthFail_keeps {M : Nat} {z s : State} {t : HealthTest} (hz : Keeps M z s) (hM : 0x82200400200a0e
    ||| M = M) :
    Keeps M z (State.healthFail s t) := by
  unfold State.healthFail
  try dsimp only
  with_reducible repeat' first
    | assumption | apply State.raiseIrq_keeps | apply State.testBit_keeps | apply State.secFail_keeps
    | apply State.countHealth_keeps | apply State.incFld_keeps | apply Keeps.ite | split
  all_goals first
    | exact sub_mask rfl hM | exact InMask.auto

theorem execDrbgReseed_runs {M : Nat} {z s : State} {off : Nat} {healthy : Bool} (hz : Keeps M z s) (hM :
    0x82200400200a0e ||| M = M) :
    Runs M z (execDrbgReseed off healthy s) := by
  unfold execDrbgReseed
  try dsimp only
  with_reducible repeat' first
    | assumption | apply Runs.next | apply Runs.ite | apply State.healthFail_keeps | apply State.at_keeps
    | apply State.testBit_keeps | apply State.setFld_keeps | apply Keeps.ite | split
  all_goals first
    | exact sub_mask rfl hM | exact InMask.auto

theorem execZeroizeNHigh_runs {M : Nat} {z s : State} {off : Nat} (hz : Keeps M z s) (hM : 0x2800 ||| M = M) :
    Runs M z (execZeroizeNHigh off s) := by
  unfold execZeroizeNHigh
  try dsimp only
  with_reducible repeat' first
    | assumption | apply Runs.next | apply Runs.ite | apply State.at_keeps | apply Keeps.ite | split
    | apply Keeps.set_pins
  all_goals exact sub_mask rfl hM

theorem execCodeGroupSync_runs {M : Nat} {z s : State} {off : Nat} {l : LaneIx} {groups : List (BitVec 10)} (hz :
    Keeps M z s) (hM : 0x10000652140100ce02 ||| M = M) :
    Runs M z (execCodeGroupSync off l groups s) := by
  unfold execCodeGroupSync
  try dsimp only
  with_reducible repeat' first
    | assumption | apply Runs.next | apply Runs.ite | apply State.setFld_keeps | apply State.at_keeps
    | apply State.codeSync_keeps | apply State.chainBroken_keeps | apply Keeps.ite | split
  all_goals first
    | exact sub_mask rfl hM | exact InMask.auto

theorem execRetirementRecordWrite_runs {M : Nat} {z s : State} {off : Nat} (hz : Keeps M z s) (hM : 0x800800000802
    ||| M = M) :
    Runs M z (execRetirementRecordWrite off s) := by
  unfold execRetirementRecordWrite
  try dsimp only
  with_reducible repeat' first
    | assumption | apply Runs.next | apply Runs.ite | apply State.at_keeps | apply State.writeRecord_keeps
    | apply Keeps.ite | split
  all_goals exact sub_mask rfl hM

theorem execColdLoad_runs {M : Nat} {z s : State} {off : Nat} {sfdp : Option (BitVec 16)} (hz : Keeps M z s) (hM :
    0x2d21800004e02 ||| M = M) :
    Runs M z (execColdLoad off sfdp s) := by
  unfold execColdLoad
  try dsimp only
  with_reducible repeat' first
    | assumption | apply Runs.next | apply Runs.ite | apply State.at_keeps | apply State.loadMap_keeps
    | apply State.loadFailed_keeps | apply State.flashReset_keeps | apply State.journalStart_keeps
    | apply State.setLoad_keeps | apply State.setFld_keeps | apply State.nextSlot_keeps | apply Keeps.ite | split
  all_goals first
    | exact sub_mask rfl hM | exact InMask.auto

theorem execChunkVerify_runs {M : Nat} {z s : State} {off : Nat} {fw : FwImage} (hz : Keeps M z s) (hM :
    0x352540000ce02 ||| M = M) :
    Runs M z (execChunkVerify off fw s) := by
  unfold execChunkVerify
  try dsimp only
  with_reducible repeat' first
    | assumption | apply Runs.next | apply Runs.ite | apply State.at_keeps | apply State.openChunk_keeps
    | apply State.sectionFail_keeps | apply State.setSect_keeps | apply State.firmwareLoaded_keeps
    | apply Keeps.ite | refine Keeps.of_fst (by assumption) ?_ | split
  all_goals first
    | exact sub_mask rfl hM | exact InMask.auto

theorem execCfgNop_runs {M : Nat} {z s : State} {off : Nat} (hz : Keeps M z s) (hM : 0x2521400004e02 ||| M = M) :
    Runs M z (execCfgNop off s) := by
  unfold execCfgNop
  try dsimp only
  with_reducible repeat' first
    | assumption | apply Runs.next | apply Runs.ite | apply State.runCmd_keeps | apply State.at_keeps
    | apply Keeps.ite | split | (intro _ _ _ _; try dsimp only)
  all_goals exact sub_mask rfl hM

theorem execWaitTurns_runs {M : Nat} {z s : State} {off : Nat} (hz : Keeps M z s) (hM : 0x2521400004e02 ||| M = M) :
    Runs M z (execWaitTurns off s) := by
  unfold execWaitTurns
  try dsimp only
  with_reducible repeat' first
    | assumption | apply Runs.next | apply Runs.ite | apply State.runCmd_keeps | apply State.loadMap_keeps
    | apply State.at_keeps | apply Keeps.ite | split | (intro _ _ _ _; try dsimp only)
  all_goals exact sub_mask rfl hM

theorem execWaitTurnsExpiry_runs {M : Nat} {z s : State} {off : Nat} (hz : Keeps M z s) (hM : 0x1000000800 ||| M =
    M) :
    Runs M z (execWaitTurnsExpiry off s) := by
  unfold execWaitTurnsExpiry
  try dsimp only
  with_reducible repeat' first
    | assumption | apply Runs.next | apply Runs.ite | apply State.at_keeps | apply State.loadMap_keeps
    | apply Keeps.ite | split
  all_goals exact sub_mask rfl hM

theorem execPollState_runs {M : Nat} {z s : State} {off : Nat} (hz : Keeps M z s) (hM : 0x2521400004e02 ||| M = M) :
    Runs M z (execPollState off s) := by
  unfold execPollState
  try dsimp only
  with_reducible repeat' first
    | assumption | apply Runs.next | apply Runs.ite | apply State.at_keeps | apply State.loadMap_keeps
    | apply State.runCmd_keeps | apply Keeps.ite | (intro _ _ _ _; try dsimp only) | split
  all_goals first
    | exact sub_mask rfl hM | exact InMask.auto

theorem execPollTimeout_runs {M : Nat} {z s : State} {off : Nat} (hz : Keeps M z s) (hM : 0x2521400004e02 ||| M = M)
    :
    Runs M z (execPollTimeout off s) := by
  unfold execPollTimeout
  try dsimp only
  with_reducible repeat' first
    | assumption | apply Runs.next | apply Runs.ite | apply State.at_keeps | apply State.sectionFail_keeps
    | apply Keeps.ite | split
  all_goals first
    | exact sub_mask rfl hM | exact InMask.auto

theorem execSetFar_runs {M : Nat} {z s : State} {off : Nat} (hz : Keeps M z s) (hM : 0x2521400004e02 ||| M = M) :
    Runs M z (execSetFar off s) := by
  unfold execSetFar
  try dsimp only
  with_reducible repeat' first
    | assumption | apply Runs.next | apply Runs.ite | apply State.runCmd_keeps | apply State.setFld_keeps
    | apply State.loadMap_keeps | apply State.sectionFail_keeps | apply State.at_keeps | apply Keeps.ite | split
    | (intro _ _ _ _; try dsimp only)
  all_goals first
    | exact sub_mask rfl hM | exact InMask.auto

theorem execWriteFrames_runs {M : Nat} {z s : State} {off : Nat} (hz : Keeps M z s) (hM : 0x2521400004e02 ||| M = M)
    :
    Runs M z (execWriteFrames off s) := by
  unfold execWriteFrames
  try dsimp only
  with_reducible repeat' first
    | assumption | apply Runs.next | apply Runs.ite | apply State.runCmd_keeps | apply State.putFrames_keeps
    | apply State.at_keeps | apply Keeps.ite | split | (intro _ _ _ _; try dsimp only)
  all_goals exact sub_mask rfl hM

theorem execRepeatFrame_runs {M : Nat} {z s : State} {off : Nat} (hz : Keeps M z s) (hM : 0x2521400004e02 ||| M = M)
    :
    Runs M z (execRepeatFrame off s) := by
  unfold execRepeatFrame
  try dsimp only
  with_reducible repeat' first
    | assumption | apply Runs.next | apply Runs.ite | apply State.runCmd_keeps | apply State.repeatFrame_keeps
    | apply State.at_keeps | apply Keeps.ite | split | (intro _ _ _ _; try dsimp only)
  all_goals exact sub_mask rfl hM

theorem execLoadMem_runs {M : Nat} {z s : State} {off : Nat} (hz : Keeps M z s) (hM : 0x2521450804e02 ||| M = M) :
    Runs M z (execLoadMem off s) := by
  unfold execLoadMem
  try dsimp only
  with_reducible repeat' first
    | assumption | apply Runs.next | apply Runs.ite | apply State.runCmd_keeps
    | refine Keeps.of_some (by assumption) (fun _ => State.loadMem_keeps ?_ ?_) | apply State.sectionFail_keeps
    | apply State.at_keeps | apply Keeps.ite | split | (intro _ _ _ _; try dsimp only)
  all_goals exact sub_mask rfl hM

theorem execLoadEnd_runs {M : Nat} {z s : State} {off : Nat} {decls : List TapDecl} {ureg : Bool} (hz : Keeps M z s)
    (hM : 0x17ffffffe340000ce1e ||| M = M) :
    Runs M z (execLoadEnd off decls ureg s) := by
  unfold execLoadEnd
  try dsimp only
  with_reducible repeat' first
    | assumption | apply Runs.next | apply Runs.ite | apply State.at_keeps | apply State.runCmd_keeps
    | apply State.checkTag_keeps | apply State.sectionDone_keeps | apply State.applySection_keeps
    | apply State.sectionFail_keeps | apply Keeps.ite | refine Keeps.of_fst (by assumption) ?_ | split
    | (intro _ _ _ _; try dsimp only)
  all_goals exact sub_mask rfl hM

theorem execCfgContinue_runs {M : Nat} {z s : State} {off : Nat} (hz : Keeps M z s) (hM : 0x17ffffffe124140de02 |||
    M = M) :
    Runs M z (execCfgContinue off s) := by
  unfold execCfgContinue
  try dsimp only
  with_reducible repeat' first
    | assumption | apply Runs.next | apply Runs.ite | apply State.at_keeps | apply State.cfgContinue_keeps
    | apply State.onPage_keeps | apply Keeps.ite | (intro _ _; try dsimp only) | split
  all_goals first
    | exact sub_mask rfl hM | exact InMask.auto

theorem execHoldFwTimeout_runs {M : Nat} {z s : State} {off : Nat} (hz : Keeps M z s) (hM : 0x242100000ce02 ||| M =
    M) :
    Runs M z (execHoldFwTimeout off s) := by
  unfold execHoldFwTimeout
  try dsimp only
  with_reducible repeat' first
    | assumption | apply Runs.next | apply Runs.ite | apply State.setFld_keeps | apply State.raiseIrq_keeps
    | apply State.at_keeps | apply State.leaveHold_keeps | apply Keeps.ite | split
  all_goals first
    | exact sub_mask rfl hM | exact InMask.auto

theorem execPartGo_runs {M : Nat} {z s : State} {off : Nat} (hz : Keeps M z s) (hM : 0x421000000802 ||| M = M) :
    Runs M z (execPartGo off s) := by
  unfold execPartGo
  try dsimp only
  with_reducible repeat' first
    | assumption | apply Runs.next | apply Runs.ite | apply State.at_keeps | apply State.partGo_keeps
    | apply State.onPage_keeps | apply Keeps.ite | (intro _ _; try dsimp only) | split
  all_goals first
    | exact sub_mask rfl hM | exact InMask.auto

theorem execWarmReplay_runs {M : Nat} {z s : State} {off : Nat} (hz : Keeps M z s) (hM : 0x2421000004e02 ||| M = M)
    :
    Runs M z (execWarmReplay off s) := by
  unfold execWarmReplay
  try dsimp only
  with_reducible repeat' first
    | assumption | apply Runs.next | apply Runs.ite | apply State.at_keeps | apply State.loadMap_keeps
    | apply State.setLoad_keeps | apply State.loadDone_keeps | apply Keeps.ite | split
  all_goals exact sub_mask rfl hM

theorem execChainFrame_runs {M : Nat} {z s : State} {off : Nat} {type hop : BitVec 8} {stream : BitVec 16} {payload
    : List (BitVec 8)} {crcOk : Bool} (hz : Keeps M z s) (hM : 0x252140000ce02 ||| M = M) :
    Runs M z (execChainFrame off type hop stream payload crcOk s) := by
  unfold execChainFrame
  try dsimp only
  with_reducible repeat' first
    | assumption | apply Runs.next | apply Runs.ite | apply State.setFld_keeps | apply State.raiseIrq_keeps
    | apply State.incFld_keeps | apply State.at_keeps | apply State.chainBroken_keeps
    | apply State.chainConsume_keeps | apply State.sendGroups_keeps | apply State.emit_keeps | apply Keeps.ite
    | split
  all_goals first
    | exact sub_mask rfl hM | exact InMask.auto

theorem execChainResend_runs {M : Nat} {z s : State} {off ms : Nat} (hz : Keeps M z s) (hM : 0x2401000008a02 ||| M =
    M) :
    Runs M z (execChainResend off ms s) := by
  unfold execChainResend
  try dsimp only
  with_reducible repeat' first
    | assumption | apply Runs.next | apply Runs.ite | apply State.setFld_keeps | apply State.raiseIrq_keeps
    | apply State.incFld_keeps | apply State.at_keeps | apply State.loadMap_keeps | apply State.sendChain_keeps
    | apply Keeps.ite | split
  all_goals first
    | exact sub_mask rfl hM | exact InMask.auto

theorem execImageOpen_runs {M : Nat} {z s : State} {off : Nat} {who : Requester} {req : List (BitVec 8)} (hz : Keeps
    M z s) (hM : 0x2721400004e02 ||| M = M) :
    Runs M z (execImageOpen off who req s) := by
  unfold execImageOpen
  split
  · refine .next (Keeps.ite ?_ ?_)
    · exact State.holdRequest_keeps (State.at_keeps hz (sub_mask rfl hM)) (sub_mask rfl hM)
    · exact State.openNext_keeps (State.at_keeps hz (sub_mask rfl hM)) (sub_mask rfl hM)
  · exact runService_runs hz (sub_mask rfl hM) (fun t w r ht x e => by cases e; exact State.serveOpen_keeps ht (sub_mask rfl hM))


theorem serviceOf_runs {M : Nat} {z s : State} {h : HeldReq} (hz : Keeps M z s) (hM : 0x82721400204e1e ||| M = M) :
    Runs M z (serviceOf h s) := by
  unfold serviceOf
  split
  · exact execSecStatusSvc_runs hz (sub_mask rfl hM)
  · exact execSelftest_runs hz (sub_mask rfl hM)
  · exact execSetMode_runs hz (sub_mask rfl hM)
  · exact execZeroize_runs hz (sub_mask rfl hM)
  · exact execDebugLock_runs hz (sub_mask rfl hM)
  · exact execSecRandom_runs hz (sub_mask rfl hM)
  · exact execRandomRaw_runs hz (sub_mask rfl hM)
  · exact execAuthChallenge_runs hz (sub_mask rfl hM)
  · exact execAuthResponse_runs hz (sub_mask rfl hM)
  · exact execLogout_runs hz (sub_mask rfl hM)
  · exact execStkEstablish_runs hz (sub_mask rfl hM)
  · exact execStkClear_runs hz (sub_mask rfl hM)
  · exact execSakLoad_runs hz (sub_mask rfl hM)
  · exact execSakLoadPlain_runs hz (sub_mask rfl hM)
  · exact execSakClear_runs hz (sub_mask rfl hM)
  · exact execProvisionIk_runs hz (sub_mask rfl hM)
  · exact execRevoke_runs hz (sub_mask rfl hM)
  · exact execImageChunk_runs hz (sub_mask rfl hM)
  · exact execImageOpen_runs hz (sub_mask rfl hM)
  · exact .next hz

theorem State.serveOne_keeps {M : Nat} {z s : State} {h : HeldReq} (hz : Keeps M z s) (hM : 0x82721400204e1e ||| M = M) :
    Keeps M z (s.serveOne h) := by
  unfold State.serveOne
  obtain ⟨t, e, ht⟩ := serviceOf_runs (h := h) hz hM
  rw [e]
  exact ht

theorem State.serveAll_keeps {M : Nat} {z s : State} {l : List (Nat × HeldReq)} (hz : Keeps M z s)
    (hM : 0x82721400204e1e ||| M = M) : Keeps M z (s.serveAll l) := by
  induction l generalizing s with
  | nil => exact hz
  | cons e t ih => exact ih (State.serveOne_keeps hz hM)

theorem State.serveHeld_keeps {M : Nat} {z s : State} (hz : Keeps M z s) (hM : 0x82721400204e1e ||| M = M) :
    Keeps M z s.serveHeld := State.serveAll_keeps (State.secMap_keeps hz (sub_mask rfl hM)) hM

theorem State.refuseOne_keeps {M : Nat} {z s : State} {w opcode : Nat} (hz : Keeps M z s) (hM : 0x2721400004602 ||| M =
    M) :
    Keeps M z (s.refuseOne w opcode) := by
  unfold State.refuseOne
  exact Keeps.ite (State.openNext_keeps hz hM) (State.secAnswer_keeps hz (sub_mask rfl hM))

theorem State.answerHeld_keeps {M : Nat} {z s : State} (hz : Keeps M z s) (hM : 0x2721400004602 ||| M = M) :
    Keeps M z s.answerHeld :=
  Keeps.foldl _ (fun _ _ h => State.refuseOne_keeps h hM) (State.secMap_keeps hz (sub_mask rfl hM))

theorem execSecSelftestDone_runs {M : Nat} {z s : State} {off : Nat} {failed : List (Fin 4)} {micros : Word} (hz :
    Keeps M z s) (hM : 0x82721400204e1e ||| M = M) :
    Runs M z (execSecSelftestDone off failed micros s) := by
  unfold execSecSelftestDone
  try dsimp only
  with_reducible repeat' first
    | assumption | apply Runs.next | apply Runs.ite | apply State.serveHeld_keeps | apply State.answerHeld_keeps | apply State.at_keeps | apply State.testBit_keeps
    | apply State.incFld_keeps | apply State.setFld_keeps | apply State.secFail_keeps | apply State.zeroize_keeps
    | apply State.secMap_keeps | apply State.milestone_keeps | apply State.endTest_keeps | apply State.setMstate_keeps
    | apply Keeps.ite | (apply Keeps.foldl; intro _ _ _) | split
  all_goals first
    | exact sub_mask rfl hM | exact InMask.auto

theorem execHealthTestFail_runs {M : Nat} {z s : State} {off : Nat} {t : HealthTest} (hz : Keeps M z s) (hM :
    0x82721400204e0e ||| M = M) :
    Runs M z (execHealthTestFail off t s) := by
  unfold execHealthTestFail
  try dsimp only
  with_reducible repeat' first
    | assumption | apply Runs.next | apply Runs.ite | apply State.at_keeps | apply State.healthFail_keeps
    | apply State.answerHeld_keeps | apply State.countHealth_keeps | apply State.incFld_keeps
    | apply State.secFail_keeps | apply State.raiseIrq_keeps | apply State.testBit_keeps | apply Keeps.ite
    | split
  all_goals first
    | exact sub_mask rfl hM | exact InMask.auto

theorem execZeroizeNLow_runs {M : Nat} {z s : State} {off : Nat} (hz : Keeps M z s) (hM : 0x82721400206e0e ||| M =
    M) :
    Runs M z (execZeroizeNLow off s) := by
  unfold execZeroizeNLow
  try dsimp only
  with_reducible repeat' first
    | assumption | apply Runs.next | apply Runs.ite | apply State.at_keeps | apply State.zeroizeCsps_keeps
    | apply State.zeroize_keeps | apply State.answerHeld_keeps | apply Keeps.ite | split | apply Keeps.set_pins
  all_goals first
    | exact sub_mask rfl hM | exact InMask.auto

theorem execHeartbeatKick_runs {M : Nat} {z s : State} {off : Nat} (hz : Keeps M z s) (hM : 0x1004000002802 ||| M =
    M) :
    Runs M z (execHeartbeatKick off s) := by
  unfold execHeartbeatKick
  try dsimp only
  with_reducible repeat' first
    | assumption | apply Runs.next | apply Runs.ite | apply State.at_keeps
    | refine Keeps.of_some (by assumption) (fun _ => State.dutyDue_keeps ?_ ?_) | apply State.kick_keeps
    | apply Keeps.ite | split
  all_goals exact sub_mask rfl hM

theorem execFloorDuty_runs {M : Nat} {z s : State} {off : Nat} (hz : Keeps M z s) (hM : 0x1084000000802 ||| M = M) :
    Runs M z (execFloorDuty off s) := by
  unfold execFloorDuty
  try dsimp only
  with_reducible repeat' first
    | assumption | apply Runs.next | apply Runs.ite | apply State.at_keeps
    | refine Keeps.of_some (by assumption) (fun _ => State.dutyDue_keeps ?_ ?_) | apply State.floorStatic_keeps
    | apply Keeps.ite | split
  all_goals exact sub_mask rfl hM

theorem execCrosstalkRefresh_runs {M : Nat} {z s : State} {off : Nat} (hz : Keeps M z s) (hM : 0x9004200000802 ||| M
    = M) :
    Runs M z (execCrosstalkRefresh off s) := by
  unfold execCrosstalkRefresh
  try dsimp only
  with_reducible repeat' first
    | assumption | apply Runs.next | apply Runs.ite | apply State.at_keeps
    | refine Keeps.of_some (by assumption) (fun _ => State.dutyDue_keeps ?_ ?_) | apply State.xtEngine_keeps
    | apply State.xtMesh_keeps | apply Keeps.ite | (apply Keeps.foldl; intro _ _ _) | split
  all_goals exact sub_mask rfl hM

theorem execReconciliation_runs {M : Nat} {z s : State} {off : Nat} (hz : Keeps M z s) (hM : 0x3084000000a02 ||| M =
    M) :
    Runs M z (execReconciliation off s) := by
  unfold execReconciliation
  try dsimp only
  with_reducible repeat' first
    | assumption | apply Runs.next | apply Runs.ite | apply State.incFld_keeps | apply State.at_keeps
    | apply State.debtAdd_keeps | apply State.cpcMap_keeps | apply Keeps.ite | split
  all_goals first
    | exact sub_mask rfl hM | exact InMask.auto

theorem execMailboxGo_runs {M : Nat} {z s : State} {off : Nat} {seq : BitVec 8} (hz : Keeps M z s) (hM :
    0x3124000000a1a ||| M = M) :
    Runs M z (execMailboxGo off seq s) := by
  unfold execMailboxGo
  try dsimp only
  with_reducible repeat' first
    | assumption | apply Runs.next | apply Runs.ite | apply State.at_keeps | apply State.write_keeps
    | apply State.mbGo_keeps | apply State.onPage_keeps | apply Keeps.ite | (intro _ _; try dsimp only) | split
  all_goals first
    | exact sub_mask rfl hM | exact InMask.auto

theorem execNegotiate_runs {M : Nat} {z s : State} {off : Nat} (hz : Keeps M z s) (hM : 0x3024000004e02 ||| M = M) :
    Runs M z (execNegotiate off s) := by
  unfold execNegotiate
  try dsimp only
  with_reducible repeat' first
    | assumption | apply Runs.next | apply Runs.ite | apply State.serve_keeps | apply State.at_keeps
    | apply State.setAgreed_keeps | apply State.cpcMap_keeps | apply State.setFw_keeps | apply Keeps.ite | split
    | (intro _ _ _; try dsimp only)
  all_goals exact sub_mask rfl hM

theorem execMbStatus_runs {M : Nat} {z s : State} {off : Nat} (hz : Keeps M z s) (hM : 0x3000000000a02 ||| M = M) :
    Runs M z (execMbStatus off s) := by
  unfold execMbStatus
  try dsimp only
  with_reducible repeat' first
    | assumption | apply Runs.next | apply Runs.ite | apply State.serve_keeps | apply State.at_keeps | apply Keeps.ite
    | split | (intro _ _ _; try dsimp only)
  all_goals exact sub_mask rfl hM

theorem execGraphPower_runs {M : Nat} {z s : State} {off : Nat} (hz : Keeps M z s) (hM : 0x3084000000a02 ||| M = M)
    :
    Runs M z (execGraphPower off s) := by
  unfold execGraphPower
  try dsimp only
  with_reducible repeat' first
    | assumption | apply Runs.next | apply Runs.ite | apply State.serve_keeps | apply State.at_keeps
    | apply State.setFld_keeps | apply State.cpcMap_keeps | apply State.floorStatic_keeps | apply Keeps.ite | split
    | (intro _ _ _; try dsimp only)
  all_goals first
    | exact sub_mask rfl hM | exact InMask.auto

theorem execLogRead_runs {M : Nat} {z s : State} {off : Nat} (hz : Keeps M z s) (hM : 0x3000000000a02 ||| M = M) :
    Runs M z (execLogRead off s) := by
  unfold execLogRead
  try dsimp only
  with_reducible repeat' first
    | assumption | apply Runs.next | apply Runs.ite | apply State.serve_keeps | apply State.at_keeps | apply Keeps.ite
    | split | (intro _ _ _; try dsimp only)
  all_goals exact sub_mask rfl hM

theorem execDumpNow_runs {M : Nat} {z s : State} {off : Nat} {complete : Bool} (hz : Keeps M z s) (hM :
    0x3124000000e1a ||| M = M) :
    Runs M z (execDumpNow off complete s) := by
  unfold execDumpNow
  try dsimp only
  with_reducible repeat' first
    | assumption | apply Runs.next | apply Runs.ite | apply State.at_keeps | apply State.write_keeps
    | apply State.dumpNow_keeps | apply State.onPage_keeps | apply Keeps.ite | (intro _ _; try dsimp only)
    | split
  all_goals first
    | exact sub_mask rfl hM | exact InMask.auto

theorem execDumpDataRead_runs {M : Nat} {z s : State} {off : Nat} (hz : Keeps M z s) (hM : 0x1020000000902 ||| M =
    M) :
    Runs M z (execDumpDataRead off s) := by
  unfold execDumpDataRead
  try dsimp only
  with_reducible repeat' first
    | assumption | apply Runs.next | apply Runs.ite | apply State.at_keeps | apply State.dumpRead_keeps
    | apply State.readPage_keeps | apply Keeps.ite | (intro _ _; try dsimp only) | split
  all_goals first
    | exact sub_mask rfl hM | exact InMask.auto

theorem execFirmwareCrash_runs {M : Nat} {z s : State} {off : Nat} {cause : Fin 3} {core : Fin 8} {complete : Bool}
    (hz : Keeps M z s) (hM : 0x3124000004e02 ||| M = M) :
    Runs M z (execFirmwareCrash off cause core complete s) := by
  unfold execFirmwareCrash
  try dsimp only
  with_reducible repeat' first
    | assumption | apply Runs.next | apply Runs.ite | apply State.at_keeps | apply State.incFld_keeps
    | apply State.writeDump_keeps | apply State.fwRestart_keeps | apply State.fwFail_keeps | apply Keeps.ite | split
  all_goals first
    | exact sub_mask rfl hM | exact InMask.auto

theorem execFirmwareInitDone_runs {M : Nat} {z s : State} {off : Nat} (hz : Keeps M z s) (hM : 0x3024100004e02 ||| M
    = M) :
    Runs M z (execFirmwareInitDone off s) := by
  unfold execFirmwareInitDone
  try dsimp only
  with_reducible repeat' first
    | assumption | apply Runs.next | apply Runs.ite | apply State.at_keeps | apply State.raiseIrq_keeps
    | apply State.startImage_keeps | apply State.initDone_keeps | apply Keeps.ite | split
  all_goals first
    | exact sub_mask rfl hM | exact InMask.auto

theorem execHelloSend_runs {M : Nat} {z s : State} {off : Nat} (hz : Keeps M z s) (hM : 0x100003004001008a02 ||| M =
    M) :
    Runs M z (execHelloSend off s) := by
  unfold execHelloSend
  try dsimp only
  with_reducible repeat' first
    | assumption | apply Runs.next | apply Runs.ite | apply State.at_keeps
    | refine Keeps.of_some (by assumption) (fun _ => State.dutyDue_keeps ?_ ?_) | apply State.rykPump_keeps
    | apply State.sendHello_keeps | apply Keeps.ite | (apply Keeps.foldl; intro _ _ _) | split
  all_goals exact sub_mask rfl hM

theorem execChipRetire_runs {M : Nat} {z s : State} {off : Nat} {routes : List RouteWrite} (hz : Keeps M z s) (hM :
    0x100053104001008e1a ||| M = M) :
    Runs M z (execChipRetire off routes s) := by
  unfold execChipRetire
  try dsimp only
  with_reducible repeat' first
    | assumption | apply Runs.next | apply Runs.ite | apply State.serve_keeps | apply State.at_keeps
    | apply State.selfRetire_keeps | apply State.declare_keeps | apply Keeps.ite | split
    | (intro _ _ _; try dsimp only)
  all_goals exact sub_mask rfl hM

theorem execChipReinstate_runs {M : Nat} {z s : State} {off : Nat} {routes : List RouteWrite} (hz : Keeps M z s) (hM
    : 0x100003004001008e02 ||| M = M) :
    Runs M z (execChipReinstate off routes s) := by
  unfold execChipReinstate
  try dsimp only
  with_reducible repeat' first
    | assumption | apply Runs.next | apply Runs.ite | apply State.serve_keeps | apply State.at_keeps
    | apply State.takeBack_keeps | apply Keeps.ite | split | (intro _ _ _; try dsimp only)
  all_goals exact sub_mask rfl hM

theorem execT3RemapSet_runs {M : Nat} {z s : State} {off : Nat} (hz : Keeps M z s) (hM : 0x3004000000a02 ||| M = M)
    :
    Runs M z (execT3RemapSet off s) := by
  unfold execT3RemapSet
  try dsimp only
  with_reducible repeat' first
    | assumption | apply Runs.next | apply Runs.ite | apply State.serve_keeps | apply State.at_keeps
    | apply State.cpcMap_keeps | apply Keeps.ite | split | (intro _ _ _; try dsimp only)
  all_goals exact sub_mask rfl hM

theorem execCtlHello_runs {M : Nat} {z s : State} {off : Nat} (hz : Keeps M z s) (hM : 0x100002000001008a02 ||| M =
    M) :
    Runs M z (execCtlHello off s) := by
  unfold execCtlHello
  try dsimp only
  with_reducible repeat' first
    | assumption | apply Runs.next | apply Runs.ite | refine (State.takeCtl_keeps ?_ ?_).1 (by assumption)
    | refine Keeps.of_inr (by assumption) (State.takeCtl_keeps ?_ ?_).2 | apply State.takeCtl_keeps
    | apply State.at_keeps | apply State.sendMembers_keeps | apply Keeps.ite | split
  all_goals exact sub_mask rfl hM

theorem execCtlRetire_runs {M : Nat} {z s : State} {off : Nat} {routes : List RouteWrite} (hz : Keeps M z s) (hM :
    0x100003004001008e02 ||| M = M) :
    Runs M z (execCtlRetire off routes s) := by
  unfold execCtlRetire
  try dsimp only
  with_reducible repeat' first
    | assumption | apply Runs.next | apply Runs.ite | refine (State.takeCtl_keeps ?_ ?_).1 (by assumption)
    | refine Keeps.of_inr (by assumption) (State.takeCtl_keeps ?_ ?_).2 | apply State.takeCtl_keeps
    | apply State.at_keeps | apply State.declare_keeps | apply Keeps.ite | split
  all_goals exact sub_mask rfl hM

theorem execCtlReinstate_runs {M : Nat} {z s : State} {off : Nat} {routes : List RouteWrite} (hz : Keeps M z s) (hM
    : 0x100003004001008e02 ||| M = M) :
    Runs M z (execCtlReinstate off routes s) := by
  unfold execCtlReinstate
  try dsimp only
  with_reducible repeat' first
    | assumption | apply Runs.next | apply Runs.ite | refine (State.takeCtl_keeps ?_ ?_).1 (by assumption)
    | refine Keeps.of_inr (by assumption) (State.takeCtl_keeps ?_ ?_).2 | apply State.takeCtl_keeps
    | apply State.at_keeps | apply State.takeBack_keeps | apply Keeps.ite | split
  all_goals exact sub_mask rfl hM

theorem execCtlMembers_runs {M : Nat} {z s : State} {off : Nat} {routes : List RouteWrite} (hz : Keeps M z s) (hM :
    0x100003004001000e02 ||| M = M) :
    Runs M z (execCtlMembers off routes s) := by
  unfold execCtlMembers
  try dsimp only
  with_reducible repeat' first
    | assumption | apply Runs.next | apply Runs.ite | refine (State.takeCtl_keeps ?_ ?_).1 (by assumption)
    | refine Keeps.of_inr (by assumption) (State.takeCtl_keeps ?_ ?_).2 | apply State.takeCtl_keeps
    | apply State.at_keeps | apply State.peerSet_keeps | apply State.cpcMap_keeps | apply Keeps.ite | split
  all_goals exact sub_mask rfl hM

theorem execPeerLost_runs {M : Nat} {z s : State} {off : Nat} {chip : BitVec 16} {routes : List RouteWrite} (hz :
    Keeps M z s) (hM : 0x100003004001008e02 ||| M = M) :
    Runs M z (execPeerLost off chip routes s) := by
  unfold execPeerLost
  try dsimp only
  with_reducible repeat' first
    | assumption | apply Runs.next | apply Runs.ite | apply State.at_keeps | apply State.declare_keeps
    | apply Keeps.ite | split
  all_goals exact sub_mask rfl hM

theorem execSelfRetire_runs {M : Nat} {z s : State} {off : Nat} {routes : List RouteWrite} (hz : Keeps M z s) (hM :
    0x100053104001008e1a ||| M = M) :
    Runs M z (execSelfRetire off routes s) := by
  unfold execSelfRetire
  try dsimp only
  with_reducible repeat' first
    | assumption | apply Runs.next | apply Runs.ite | apply State.at_keeps | apply State.selfRetire_keeps
    | apply Keeps.ite | split
  all_goals exact sub_mask rfl hM

theorem execCollStart_runs {M : Nat} {z s : State} {off : Nat} {sends : List PlanSend} (hz : Keeps M z s) (hM :
    0x1290031040d9808a02 ||| M = M) :
    Runs M z (execCollStart off sends s) := by
  unfold execCollStart
  try dsimp only
  with_reducible repeat' first
    | assumption | apply Runs.next | apply Runs.ite | apply State.setFld_keeps | apply State.at_keeps
    | apply State.setDdr_keeps | apply State.accepted_keeps | apply State.cpcMap_keeps
    | apply State.endColl_keeps | apply State.serve_keeps | apply State.sendChunks_keeps | apply Keeps.ite
    | exact fun _ => Mem.wf_nil 0 | exact fun hd => Mem.wf_store 0 _ _ _ hd | (intro _ _ _; try dsimp only)
    | split
  all_goals first
    | exact sub_mask rfl hM | exact InMask.auto

theorem execCollCancel_runs {M : Nat} {z s : State} {off : Nat} (hz : Keeps M z s) (hM : 0x3004000000a02 ||| M = M)
    :
    Runs M z (execCollCancel off s) := by
  unfold execCollCancel
  try dsimp only
  with_reducible repeat' first
    | assumption | apply Runs.next | apply Runs.ite | apply State.serve_keeps | apply State.at_keeps
    | apply State.endColl_keeps | apply Keeps.ite | split | (intro _ _ _; try dsimp only)
  all_goals exact sub_mask rfl hM

theorem execCollFrame_runs {M : Nat} {z s : State} {off : Nat} {sends : List PlanSend} (hz : Keeps M z s) (hM :
    0x1290030040d9808a02 ||| M = M) :
    Runs M z (execCollFrame off sends s) := by
  unfold execCollFrame
  try dsimp only
  with_reducible repeat' first
    | assumption | apply Runs.next | apply Runs.ite
    | refine Keeps.of_some_snd (by assumption) (State.takeInbox_keeps ?_ ?_) | apply State.at_keeps
    | apply State.takeInbox_keeps | apply State.endColl_keeps | apply State.takeChunk_keeps
    | apply State.sendChunks_keeps | apply State.cpcMap_keeps | apply Keeps.ite | split
  all_goals exact sub_mask rfl hM

theorem execCollTimeout_runs {M : Nat} {z s : State} {off : Nat} {k : Fin 8} (hz : Keeps M z s) (hM :
    0x3004000000a02 ||| M = M) :
    Runs M z (execCollTimeout off k s) := by
  unfold execCollTimeout
  try dsimp only
  with_reducible repeat' first
    | assumption | apply Runs.next | apply Runs.ite | apply State.at_keeps | apply State.endColl_keeps
    | apply Keeps.ite | split
  all_goals exact sub_mask rfl hM

theorem execUpdateStage_runs {M : Nat} {z s : State} {off : Nat} (hz : Keeps M z s) (hM : 0x3004000000a02 ||| M = M)
    :
    Runs M z (execUpdateStage off s) := by
  unfold execUpdateStage
  try dsimp only
  with_reducible repeat' first
    | assumption | apply Runs.next | apply Runs.ite | apply State.serve_keeps | apply State.at_keeps
    | apply State.setUpd_keeps | apply State.cpcMap_keeps | apply Keeps.ite | split | (intro _ _ _; try dsimp only)
  all_goals exact sub_mask rfl hM

theorem execUpdateStaged_runs {M : Nat} {z s : State} {off : Nat} {found : Option (List (BitVec 8) × FwImage)} (hz :
    Keeps M z s) (hM : 0x3004000000a02 ||| M = M) :
    Runs M z (execUpdateStaged off found s) := by
  unfold execUpdateStaged
  try dsimp only
  with_reducible repeat' first
    | assumption | apply Runs.next | apply Runs.ite | apply State.at_keeps | apply State.updEnd_keeps
    | apply State.cpcMap_keeps | apply State.tellHost_keeps | apply State.setUpd_keeps | apply State.setFld_keeps
    | apply Keeps.ite | split
  all_goals first
    | exact sub_mask rfl hM | exact InMask.auto

theorem execUpdateCommit_runs {M : Nat} {z s : State} {off : Nat} (hz : Keeps M z s) (hM : 0x3000000000a02 ||| M =
    M) :
    Runs M z (execUpdateCommit off s) := by
  unfold execUpdateCommit
  try dsimp only
  with_reducible repeat' first
    | assumption | apply Runs.next | apply Runs.ite | apply State.serve_keeps | apply State.at_keeps
    | apply State.setUpd_keeps | apply State.setFld_keeps | apply Keeps.ite | split | (intro _ _ _; try dsimp only)
  all_goals first
    | exact sub_mask rfl hM | exact InMask.auto

theorem execUpdateAbort_runs {M : Nat} {z s : State} {off : Nat} (hz : Keeps M z s) (hM : 0x3004000000a02 ||| M = M)
    :
    Runs M z (execUpdateAbort off s) := by
  unfold execUpdateAbort
  try dsimp only
  with_reducible repeat' first
    | assumption | apply Runs.next | apply Runs.ite | apply State.serve_keeps | apply State.at_keeps
    | apply State.updEnd_keeps | apply Keeps.ite | split | (intro _ _ _; try dsimp only)
  all_goals exact sub_mask rfl hM

theorem execUpdateHandoff_runs {M : Nat} {z s : State} {off : Nat} (hz : Keeps M z s) (hM : 0x3024000004e02 ||| M =
    M) :
    Runs M z (execUpdateHandoff off s) := by
  unfold execUpdateHandoff
  try dsimp only
  with_reducible repeat' first
    | assumption | apply Runs.next | apply Runs.ite | apply State.at_keeps | apply State.cpcMap_keeps
    | apply State.setFw_keeps | apply State.showImage_keeps | apply Keeps.ite | split
  all_goals exact sub_mask rfl hM

theorem execUpdateAdopted_runs {M : Nat} {z s : State} {off : Nat} (hz : Keeps M z s) (hM : 0x3024000004e02 ||| M =
    M) :
    Runs M z (execUpdateAdopted off s) := by
  unfold execUpdateAdopted
  try dsimp only
  with_reducible repeat' first
    | assumption | apply Runs.next | apply Runs.ite | apply State.at_keeps | apply State.dropBlocks_keeps
    | apply State.updEnd_keeps | apply State.resumeFw_keeps | apply State.reagree_keeps | apply State.mbUnknown_keeps
    | apply State.setFw_keeps | apply Keeps.ite | split
  all_goals exact sub_mask rfl hM

theorem execUpdateRollback_runs {M : Nat} {z s : State} {off : Nat} {complete : Bool} (hz : Keeps M z s) (hM :
    0x3024000004e02 ||| M = M) :
    Runs M z (execUpdateRollback off complete s) := by
  unfold execUpdateRollback
  try dsimp only
  with_reducible repeat' first
    | assumption | apply Runs.next | apply Runs.ite | apply State.at_keeps | apply State.showImage_keeps
    | apply State.writeDump_keeps | apply State.mbUnknown_keeps | apply State.updEnd_keeps
    | apply State.resumeFw_keeps | apply Keeps.ite | split
  all_goals exact sub_mask rfl hM

end Sys2Proof.Machine
end

