-- ==== Sys2Proof/Laws/Writes.lean ====
section
/-!
SUPPORT. What a full-width register write leaves and what it stores (R108, R110 to R116).
-/

set_option Elab.async false

namespace Sys2Proof.Machine

open Sys2Proof

/-- A recorded access fault stands in the page's header and on page FLT. -/
theorem State.fld_recordFault (s : State) (x : Part) (c p : Nat) (f : Fld) (h : Own p f.off) :
    (s.recordFault x c).fld p f = s.fld p f := by
  have h' := h
  obtain ⟨⟨h1, h2⟩, h3, h4, h5, h6⟩ := h
  unfold State.recordFault
  dsimp only
  rw [State.fld_raiseIrq_page _ _ _ _ _ h2 h3 h5 h6, State.fld_incFld_page _ _ _ _ _ _ (by decide) h2 h3,
    State.fld_putFault _ _ _ _ _ _ h', State.fld_setReg_ne _ _ _ _ _ (by unfold regKey; omega), State.fld_noteSet]

/-- Noting a late write changes no register. -/
@[simp] theorem State.reg_noteLate (s : State) (k k' : Nat) : (s.noteLate k).reg k' = s.reg k' := by
  unfold State.noteLate
  repeat' split
  all_goals rfl

/-- A write leaves every other register of a block's own. -/
theorem State.fld_applyWrite_ne (s : State) (x : Part) (v keep : Word) (own extra : Bool) (p : Nat) (f : Fld) (h : Own p f.off)
    (hk : regKey p f.off ≠ regKey x.page x.off) : (s.applyWrite x v own extra keep).fld p f = s.fld p f := by
  unfold State.applyWrite
  split
  · rfl
  · extract_lets cause stored s1 s2
    have h1 : s1.fld p f = s.fld p f := by
      unfold s1
      rw [State.fld_ite]
      split
      · rw [State.fld_setReg_ne _ _ _ _ _ hk]
        unfold State.fld
        rw [State.reg_noteLate]
      · rfl
    have h2 : s2.fld p f = s.fld p f := by
      unfold s2
      cases cause with
      | none => exact h1
      | some c => exact (State.fld_recordFault _ _ _ _ _ h).trans h1
    split
    · rw [State.fld_putFault _ _ _ _ _ _ h, h2]
    · split
      · rw [State.fld_syncAttention _ _ _ _ h.1.2 h.2, h2]
      · exact h2

/-- A full-width write of an implemented register of a block's own stores what its fields' access codes let through. -/
theorem State.fld_applyWrite_self (s : State) (p : Nat) (f : Fld) (v keep : Word) (extra : Bool) (size : Nat) (h : Own p f.off)
    (hi : (regFields? p f.off).isSome = true) :
    (s.applyWrite (fullPart p f.off size) v false extra keep).fld p f =
      (s.writtenValue (fullPart p f.off size) v keep).field f.lo f.w := by
  have h' := h
  obtain ⟨⟨h1, h2⟩, -⟩ := h
  unfold State.applyWrite
  split
  · rename_i c
    rw [Bool.and_eq_true] at c
    have hc : f.off = 0x010 := of_decide_eq_true c.2
    omega
  · extract_lets cause stored s1 s2
    have hs : stored = true := by
      unfold stored
      simp [fullPart, hi]
    have k1 : s1.fld p f = (s.writtenValue (fullPart p f.off size) v keep).field f.lo f.w := by
      unfold s1
      rw [if_pos hs]
      unfold State.fld
      show (State.reg (State.setReg _ (regKey p f.off) _) (regKey p f.off)).field f.lo f.w = _
      rw [State.reg_setReg_self]
    have k2 : s2.fld p f = (s.writtenValue (fullPart p f.off size) v keep).field f.lo f.w := by
      unfold s2
      cases cause with
      | none => exact k1
      | some c => exact (State.fld_recordFault _ _ _ _ _ h').trans k1
    split
    · rw [State.fld_putFault _ _ _ _ _ _ h', k2]
    · split
      · rw [State.fld_syncAttention _ _ _ _ h2 h'.2, k2]
      · exact k2

end Sys2Proof.Machine
end

