-- ==== Sys2Proof/Tests/Slice0.lean ====
section
/-!
SUPPORT. The author's own tests: ill-formed commands refused, values that the spec's worked cases give, and for every statement
with conditions a state and operands that meet them.
-/

namespace Sys2Proof.Tests

open Sys2Proof Sys2Proof.Machine

set_option Elab.async false
set_option linter.unusedVariables false

/-! ### Well-formed commands -/

/-- An offset outside the turn is refused. -/
theorem test_wf_offset : (Instr.lrefLoss 65536).wellFormed = false := by decide

/-- The last offset of a turn is not. -/
theorem test_wf_last_offset : (Instr.lrefLoss 65535).wellFormed = true := by decide

/-- A command with no offset is well-formed. -/
theorem test_wf_no_offset : (Instr.turnBoundary ⟨[], 0, 0, 0⟩).wellFormed = true := by decide

/-- A request longer than 64 KiB is refused. -/
theorem test_wf_data : (Instr.secRandom 0 .firmware (List.replicate 65537 0)).wellFormed = false := by
  have h : (Instr.secRandom 0 .firmware (List.replicate 65537 0)).dataLen = 65537 := List.length_replicate
  unfold Instr.wellFormed Instr.dataOk
  rw [h]
  decide

/-- The table gives no row bits, so no word spells a command. -/
theorem test_no_word : decodeTableWord 32 0 = none := by decide

/-! ### Worked cases of the spec -/

/-- Chapter 3: tile 17's UNIT_REQ is at BAR offset 0x0061_1010. -/
theorem test_tile17_address : regKey (Pg.tile 17) 0x010 = 0x00611010 := by decide

/-- Chapter 5, R209: heater 5 of a line engine with its neighbours' coefficients at 0x0A3D. -/
theorem test_heater_drive :
    let s := ([(F.OPE_XT_CTL_XT_EN, 1), (F.OPE_XT_CTL_BAND, 1), (⟨0x450, 0, 16⟩, 0x0A3D), (⟨0x450, 16, 16⟩, 0x0A3D),
      (F.OPE_HTR_b0 4, 18000), (F.OPE_HTR_b0 5, 20000), (F.OPE_HTR_b0 6, 22000)] : List (Fld × Nat)).foldl
      (fun (t : State) e => t.setFld (Pg.ope 1) e.1 e.2) State.reset
    ({ s with force := s.regs } : State).drive 1 5 = 16801 := by decide +kernel

/-- Chapter 11, R466: column 5 of the worked case saturates. -/
theorem test_requantise_sat : toInt 0x01 true (Fl.mul (Fl.ofInt 1234567 0) ⟨false, 19661, -24⟩) (-3) = ⟨127, true, false⟩ := by
  decide +kernel

/-- Chapter 11, R466: column 6 does not. -/
theorem test_requantise : toInt 0x01 true (Fl.mul (Fl.ofInt (-41000) 0) ⟨false, 19661, -24⟩) (-3) = ⟨205, false, false⟩ := by
  decide +kernel

/-- Chapter 11, R457: three Lightwell samples. -/
theorem test_lightwell_samples :
    (lwsValue 200 12 0x0A00).rne = 118 ∧ (lwsValue 3 12 0x0A00).rne = -6 ∧
      (satInt 8 false (lwsValue 255 12 0x0C00).rne) = (127, true) := by decide +kernel

/-- Chapter 14: 420 W, a floor of 270 W, a debt of 1,240 µJ repaid at 100 µJ a turn give a pool of 1,584,896 lu. -/
theorem test_ledger_pool :
    let s := ([(F.NRG_FLOOR_STATIC, 205), (F.NRG_FLOOR_T01, 65), (F.NRG_DEBT, 1240), (F.NRG_REPAY, 100), (F.NRG_CAP, 420),
      (F.HDR_UNIT_STATE_STATE, uActive)] :
      List (Fld × Nat)).foldl (fun (t : State) e => t.setFld Pg.nrg e.1 e.2) State.reset
    let t := ({ s with force := s.regs } : State).ledgerBoundary
    t.fld Pg.nrg F.NRG_DEBT = 1140 ∧ t.fld Pg.nrg F.NRG_POOL = 1584896 ∧ t.fld Pg.nrg F.NRG_TURN_UJ_b0 = 17616 ∧
      t.fld Pg.nrg F.NRG_TURN_UJ_b16 = 11325 := by decide +kernel

/-- Chapter 23: IDCODE at stepping A. -/
theorem test_idcode : State.reset.idcode = 0x0096454F := by decide +kernel

/-- R290: the check value of CRC-32C over the nine characters 1 to 9. -/
theorem test_crc32c : crc32c [0x31, 0x32, 0x33, 0x34, 0x35, 0x36, 0x37, 0x38, 0x39] = 0xE3069283 := by decide +kernel

/-! ### States that the conditions of statements ask for -/

/-- The count running. -/
def runUp : State := { State.reset with wdl := { State.reset.wdl with stopped := false } }

/-- The key of an IPv4 frame of pair 0 with every address zero. -/
def flowKeyOf : Nat := (flowKey { Frame.blank with parse := { Parse.none with l3 := 4 } }).getD 0

/-- A frame at the head of S3's queue whose record is in the cache. -/
def flowState : State := { State.reset with pipe := { State.reset.pipe with
  queues := [(3, [0])], frames := [(0, { Frame.blank with parse := { Parse.none with l3 := 4 } })],
  cache := [(16 * (keyHash flowKeyOf % 8192), ⟨{ FlowRec.zero with key := flowKeyOf, valid := true }, none, false, 0⟩)] } }

/-- Frames at the head of S3's queue of an instance, nothing in the cache. -/
def flowAt (inst : Nat) (fs : List (Nat × Frame)) : State := { State.reset with pipe := { State.reset.pipe with
  queues := [(16 * inst + 3, fs.map (fun f => f.1))], frames := fs } }

/-- A frame that asks for a record, S3 not cache-only. -/
def flowAsked : State :=
  (flowAt 0 [(0, { Frame.blank with parse := { Parse.none with l3 := 4 } })]).setFld ftPage F.STG_FT_STATUS 0

/-- The pending read of its bucket. -/
def missOf : Miss := ⟨flowKeyOf, keyHash flowKeyOf, [], 0⟩

/-- That frame, its bucket's read pending. -/
def flowPend : State := { flowAsked with pipe := { flowAsked.pipe with misses := [missOf] } }

/-- The first slot of the bucket of that key. -/
def flowSlot : Nat := State.reset.bucketOf missOf.hash * 8

/-- That read pending, the record in that slot. -/
def flowFound : State := { State.reset.setFld ftPage F.STG_FT_STATUS 0 with
  pipe := { State.reset.pipe with misses := [missOf] },
  ddr := Mem.store 0 [] (State.reset.slotAddr flowSlot)
    ({ FlowRec.zero with key := flowKeyOf, valid := true } : FlowRec).toBytes }

/-- That state with the read returned. -/
def flowBack : State := ((flowFound.at 0).updateClock false).pipeMap (fun p => { p with misses := p.misses.eraseIdx 0 })

/-- Port 0 in service with its link and its lanes up. -/
def portUp : State :=
  { [0, 1, 2, 3].foldl (fun (t : State) l => t.setLstate l L.fixedUp) ((State.reset.setService 0 true).setFld (Pg.lnp 0)
      F.LNP_STATUS_LINK 1) with pins := { State.reset.pins with mainReset := false } }

/-- The same with 512 frames of the port waiting in S0. -/
def portFull : State := { portUp with pipe := { portUp.pipe with
  ready := [(0, (List.range 512).map (fun i => (i, 0)))] } }

/-- A capture of frame 7, which holds it alone, past its time. -/
def captureLate : State := { State.reset with pipe := { State.reset.pipe with
  captures := [⟨some 7, 1, 0, 0, 0, 0, [], 0⟩], frames := [(7, { Frame.blank with holds := 1 })] } }

/-- A TCP segment of three payload bytes with a record, and that frame at the head of S4's queue. -/
def tcpFrame : Frame := { Frame.blank with
  handle := some 0, bytes := [1, 2, 3], parse := { Parse.none with l4 := true, proto := 6, pay := 0, payLen := 3, seq := 9 } }

def tcpState : State := { State.reset with pipe := { State.reset.pipe with queues := [(4, [0])], frames := [(0, tcpFrame)] } }

/-- A stream that holds one byte past a gap. -/
def holeStrm : Strm := { Strm.start 0 0 false with held := [(5, (1, 0))] }

/-- The state of that stream after many turns. -/
def holeState : State := { State.reset with
  safe := { State.reset.safe with ticks := 100000 }, pipe := { State.reset.pipe with streams := [(0, holeStrm)] } }

/-- The main domain out of reset, the PCIe link up, PF1 a bus master. -/
def hostUp : State :=
  let s := (State.reset.setFld (Pg.pci 0) F.PCI_LINK_b8 1).setFld (Pg.pci 2) (F.PCI_FN_STAT_b0 1) 1
  { s with pins := { s.pins with mainReset := false, perstN := true } }

/-- Delivery ring 0 bound to PF1's first slot, which is enabled with one free entry posted, and a copy waiting. -/
def ringState (c : OutCopy) : State :=
  let s := ((hostUp.setFld (Pg.pci 3) (F.PCI_DR_BIND_VALID 0) 1).setFld (Pg.pci 3) (F.PCI_DR_BIND_b0 0) 1).setFld
    (localPage 1 9) F.LOC_DS_CTL_ENABLE 1
  let t := s.setFld (localPage 1 9) F.LOC_DS_FREE_TAIL 1
  { t with pipe := { t.pipe with outCopies := [c] } }

/-- The injection ring enabled with one descriptor posted, port 0's transmit side up and its pair released. -/
def injState : State :=
  let s := ((hostUp.setFld injPage F.LOC_IJ_CTL_ENABLE 1).setFld injPage F.LOC_IJ_TAIL 1).setFld Pg.byp ⟨0x048, 0, 1⟩ 0
  s.setFld (Pg.lnp 0) F.LNP_STATUS_TX_DOWN 0

/-- A host read of context 0 of Pump 0, outstanding under tag 3, with its descriptor. -/
def tagEntry0 : TagEntry := ⟨1, 0, false, 0, 0, 0, 0, 64, 0⟩

/-- The descriptor of that read: 64 bytes from host memory to DDR. -/
def desc0 : Desc := { Desc.ofBytes (List.replicate 64 0) 0 0 with len := 64, issued := 64, reads := 1 }

/-- The state with that read outstanding. -/
def tagState : State := { hostUp with pumps := { hostUp.pumps with tags := [(3, tagEntry0)], ctxs := [(0, ⟨1, [desc0], none, 0⟩)] } }

/-- An empty REQ frame with SEQ 0 and the CRC it should have. -/
def goodFrame : RykRx :=
  let f : RykRx := ⟨1, 0, 0, 0x00000000F0000100#64, [], 0⟩
  { f with crc := BitVec.ofNat 32 (rxCrc f) }

/-- Link 0 ACTIVE and UP on its first lane. -/
def rykUp : State :=
  (((State.reset.setFld (Pg.ryk 0) F.HDR_UNIT_STATE_STATE uActive).setKstate 0 K.up).setFld (Pg.ryk 0) F.RYK_STATUS_b3 1).setLstate
    32 L.up

/-- The bits of that frame on one lane, led by a block. -/
def goodBits : List (BitVec 66) :=
  ((idleBlock :: frameBlocks 1 0 0 0x00000000F0000100 []).foldl (fun (a : Nat × List (BitVec 66)) b =>
    let r := blockBits a.1 b
    (r.1, a.2 ++ [r.2])) (0, [])).2

/-- Heater 5 of engine 1 held at its upper clamp by a coefficient of -1 and two hot heaters. -/
def clampUp : State :=
  let s := ([(F.OPE_XT_CTL_XT_EN, 1), (F.OPE_XT_CTL_BAND, 1), (⟨0x450, 0, 16⟩, 0x8000), (⟨0x450, 16, 16⟩, 0x8000),
    (F.OPE_HTR_b0 4, 65535), (F.OPE_HTR_b0 5, 65535), (F.OPE_HTR_b0 6, 65535), (F.OPE_HTR_b16 5, 65535)] :
    List (Fld × Nat)).foldl (fun (t : State) e => t.setFld (Pg.ope 1) e.1 e.2) State.reset
  { s with force := s.regs }

/-- A state that admits inbound windows of class 4 at no cost, with a tier 2 graph loaded, the Lightwell ACTIVE and one request
waiting. -/
def t3State : State :=
  let s := (((State.reset.setFld Pg.nrg (F.NRG_COST_VALID 0 4) 1).setFld Pg.nrg (F.NRG_COST_VALID 0 0) 1).setFld Pg.nrg
    F.HDR_UNIT_STATE_STATE uActive).setFld lwlPage F.HDR_UNIT_STATE_STATE uActive
  let t := (s.setFld Pg.nrg (F.NRG_COST_FIXED 0 4) 0).setFld Pg.nrg (F.NRG_COST_PER_ROW 0 4) 0
  { t with ryk := { t.ryk with inbox := [(0, none, ⟨0, 7, 0, 0, 0, 0, 1, []⟩)] }, force := t.regs }

/-- That state with the request taken and counted, and with its window admitted. -/
def t3Taken : State :=
  ((t3State.at 0).rykMap (fun r => { r with inbox := r.inbox.erase (0, none, ⟨0, 7, 0, 0, 0, 0, 1, []⟩) })).incFld (Pg.ryk 0) F.RYK_T3_IN


/-- The Lightwell's core ACTIVE. -/
def lwUp : State := State.reset.setFld lwlPage F.HDR_UNIT_STATE_STATE uActive

/-- An operation that began at count 0, with a bound of 64 blk. -/
def op0 : TileOp := ⟨0, none, 0, 0, 0, 64, 1, 0, none⟩

/-- A vector operation on no elements, of integers in FP32 lanes. -/
def vec0 : VecWork := ⟨.fma, false, 0, 0, 0, 0, 0, 0, 0, 0, 0, (false, false, false), (0, 0, 0, 0), [], [], 0⟩

/-- The cluster COPY ring in force and ready, one COPY frame received. -/
def copyRx : State :=
  let s := (ringState ⟨0, 0, true, 0, [], 0⟩).setFld (Pg.ryk 0) F.RYK_CLU_COPY_RING 1
  { s with force := s.regs, ryk := { s.ryk with inbox := [(0, none, ⟨0, 7, 2, 0, 0, 0, 1, []⟩)] } }

/-- Router 5 ACTIVE with one packet for node 6 from the west. -/
def routeState : State := (State.reset.setFld (Pg.tnw 5) F.HDR_UNIT_STATE_STATE uActive).setNetQueue 5 3 0 [plainPacket 6 4 2 0 0 0]

/-- An empty window in ring slot 0, with a late deadline. -/
def slot0 : RingSlot := ⟨0, 0, 0, 7, 1000000, false, false, ⟨0, 0, 0, 0, 0, 0, [], false, 0, false, false, false, 0⟩⟩

/-- An epoch of bank 0. -/
def epoch0 : Epoch := ⟨0, [], [], 4, 4, 0⟩

/-- The core RUNNING with one window in its ring, an epoch in force and consumer 3 with one landing slot. -/
def lwRun : State :=
  let s := (lwUp.setLw LS.running).setFld lwlPage (F.LWL_CONSUMER 0) 8
  let t := s.setFld lwlPage F.LWL_LAND_LAND_SLOTS 1
  { t with force := t.regs, lwl := { t.lwl with ring := [slot0], epoch := some epoch0 } }

/-- The core ACTIVE with an epoch due and consumer 3 ACTIVE. -/
def epochDue : State :=
  let s := (lwUp.setFld lwlPage (F.LWL_CONSUMER 0) 8).setFld (Pg.tile 3) F.HDR_UNIT_STATE_STATE uActive
  { s with force := s.regs, lwl := { s.lwl with due := some epoch0 } }

/-- Pump 0 ACTIVE with its context 0 enabled by PF1 and one descriptor, all of its bytes moved, in progress. -/
def pumpDone : State :=
  State.reset.setCtx 0 0 ⟨1, [{ Desc.ofBytes (List.replicate 64 0) 0 0 with len := 64, issued := 64 }], none, 0⟩

/-- The same descriptor with 64 bytes still to be read from DDR, started at count 0; the count is past its limit. -/
def pumpLate : State :=
  let s := State.reset.setCtx 0 0 ⟨1, [{ Desc.ofBytes (List.replicate 64 0) 0 0 with srcSpace := 1, dstSpace := 1, len := 64, issued := 0 }], none, 0⟩
  { s with count := 1000000 }

/-- Pump 0 ACTIVE with its context 0 enabled, owned by the firmware, and a partly moved FILL of DDR in progress. -/
def pumpFill : State :=
  let s := (State.reset.setFld (Pg.pmp 0) F.HDR_UNIT_STATE_STATE uActive).setFld (Pg.pmp 0) (F.PMP_RING_CTL_ENABLE 0) 1
  (s.setFld (Pg.pmp 0) (F.PMP_RING_CTL_OWNER 0) 0xFE).setCtx 0 0 ⟨1, [{ Desc.ofBytes (List.replicate 64 0) 0 0 with op := 1, len := 64, issued := 0 }], none, 0⟩

/-- PMBus polling on, with regulators 0 and 1. -/
def pollUp : State :=
  let s := ((State.reset.setFld Pg.pwr F.PWR_PM_CTL_EN 1).setFld Pg.pwr (F.PWR_REG_CFG_VALID 0) 1).setFld Pg.pwr
    (F.PWR_REG_CFG_VALID 1) 1
  { s with force := s.regs }

/-- A floor of 200 W in force. -/
def floorUp : State :=
  let s := State.reset.setFld Pg.nrg F.NRG_FLOOR_STATIC 200
  { s with force := s.regs }

/-- The firmware in a state, with agreed features, and a request of words waiting in its mailbox. -/
def mbState (st feat : Nat) (ws : List Nat) : State :=
  let s := ((State.reset.setFld (Pg.cpc 9) F.CPC_MB_STATUS_BUSY 1).setFld (Pg.cpc 0) F.CPC_FW_STATE_STATE st).setFld (Pg.cpc 0)
    F.CPC_FEAT_AGREED_LO feat
  ws.zipIdx.foldl (fun (a : State) e => a.setReg (regKey (Pg.cpc 9) (0x100 + 4 * e.2)) (BitVec.ofNat 32 e.1)) s

/-- The firmware RUNNING. -/
def fwUp : State := State.reset.setFld (Pg.cpc 0) F.CPC_FW_STATE_STATE FW.running

/-- A CTL message, its header first, as the one frame of the inbox, on link 0. -/
def ctlState (type : Nat) (body : List Nat) : State :=
  fwUp.rykMap (fun r => { r with inbox := [(0, some 0, ⟨0, 7, 4, 0, 0, 0, 1,
    beBytes 2 type ++ beBytes 2 (8 + body.length) ++ [0, 0, 0, 0] ++ body⟩)] })

/-- The firmware RUNNING, every engine's temperature noted as it is. -/
def coolUp : State := fwUp.cpcMap (fun c => { c with temps := (List.range 16).map (fun e => (Pg.ope e, 0)) })

/-- An update of an image of one byte. -/
def update0 : Update := ⟨0, 1, false, [0], ⟨2, 0, 0, 0, 7⟩, FW.running, 0, 0⟩

/-- The firmware RUNNING with that update under way, in a state. -/
def updState (st : Nat) : State := (fwUp.setUpd st 0).cpcMap (fun c => { c with update := some update0 })

/-- A collective of identifier 5 over chips 0 and 1, of eight steps. -/
def coll0 : Collective := ⟨5, 0, 0, 3, 0, 64, 0, 4096, 0, 0, 3, 0, 0, 8, 0⟩

/-- The collective a request asks for. -/
def collAsked : Collective := ⟨5, 0, 0, 3, 0, 64, 0, 4096, 0, 0, 3, 0, 0, 2, 0⟩

/-- A FULL section whose next verified bytes are given. -/
def sect0 (plain : List Nat) : LoadSection := ⟨0, 1, 0x200000, 0, 4096, List.replicate 256 0, plain, 0, [], false⟩

/-- A load from flash that executes that section. -/
def sectState (plain : List Nat) : State := (State.reset.setLoad LS'.loading).loadMap (fun l => { l with src := 1, sect := some (sect0 plain) })

/-- That section with its first `n` bytes, a command, taken. -/
def sectTaken (n : Nat) (plain : List Nat) : LoadSection := { sect0 plain with plain := plain.drop n, off := n }

/-- The state in which a command of `n` bytes with an opcode executes. -/
def cmdState (op n : Nat) (plain : List Nat) : State := (((sectState plain).at 0).diag (sect0 plain) op).setSect (sectTaken n plain)

/-- LREF present. -/
def lrefUp : State := { State.reset with wdl := { State.reset.wdl with lrefOk := true } }

/-- A device of a chain other than its head, its Priming-in receiver synchronised and its Priming-out lane up. -/
def memberState : State :=
  let s := ((lrefUp.setFld Pg.gbl F.GBL_STRAPS 1).setLstate 162 L.fixedUp).setLstate 163 L.fixedUp
  { s with pins := { s.pins with mainReset := false } }

/-- The module OPERATIONAL, with a CO session of the firmware. -/
def secUp : State :=
  (State.reset.setFld (Pg.sec 0) F.SEC_STATUS_MSTATE MS.operational).secMap (fun x => { x with sessions := [1] })

/-- The same, not in approved mode. -/
def secPlain : State := secUp.setFld (Pg.sec 0) F.SEC_STATUS_MODE 1

/-- A REPEAT_FRAME of no address. -/
def frameCmd : List Nat := 0x12 :: List.replicate 523 0

/-- A flash whose first directory copy is valid: generation 1, slot 0 active and VALID. -/
def flashDir : State :=
  let b := [0x47, 0x4C, 0x44, 0x44, 0, 0, 0, 1, 0, 0x5A] ++ List.replicate 50 0
  let s := State.reset.flashMap (fun f => { f with mem := Mem.store 0xFF f.mem 0 (b ++ beBytes 4 (crc32c b)) })
  { s with pins := { s.pins with mainReset := false } }

/-- A load from flash with one section to open, all of whose bytes are 0, the module OPERATIONAL. -/
def openState : State :=
  let s := (secUp.setLoad LS'.loading).loadMap (fun l => { l with src := 1, todo := [(0, 0, 0)] })
  s.flashMap (fun f => { f with mem := Mem.store 0xFF f.mem 0 (List.replicate 272 0) })

/-- The header and signature blocks of that section. -/
def zeroHead : List Nat := (openState.sectHead 0).getD []

/-- The island powered and out of reset, its module in SELFTEST, ZEROIZE_N high. -/
def testUp : State := { State.reset with pins := { State.reset.pins with island := true, resetN := true, zeroizeN := true } }
/-- The same, with a request of the firmware held. -/
def testHeld : State := { testUp with sec := { testUp.sec with held := [(1, ⟨0x0040, .firmware, [], []⟩)] } }

/-- A STK_ESTABLISH request of slot 1. -/
def stkReq : List (BitVec 8) := [0x20, 0, 113, 0, 0, 0, 0, 0, 1] ++ List.replicate 104 0

/-- A SAK request of channel 0, slot 0, of port 0's receive side. -/
def sakReq : List (BitVec 8) := [0x30, 0, 72, 0, 0, 0, 0, 0] ++ List.replicate 64 0

/-- A PROVISION_IK request of index 0 under slot 0. -/
def ikReq : List (BitVec 8) := [0x70, 0, 56, 0, 0, 0, 0, 0] ++ List.replicate 48 0

/-- What remains after a load command's bytes are taken. -/
def cmdOf (s : State) (b : List Nat) : State := ((s.at 0).diag (sect0 b) 0x20).setSect (sectTaken b.length b)

/-- A LOAD_MEM of four bytes to a space, a node and an address. -/
def loadBytes (space node a : Nat) : List Nat := [0x20, space, node, 0, 0, 0, 0, 4, 0, 0, 0, 0, 0, 0, a / 256, a % 256, 1, 2, 3, 4]

/-- To DDR address 64. -/
def loadDdrBytes : List Nat := loadBytes 1 0 64

/-- One DDR channel populated and ACTIVE, of one MiB. -/
def ddrOn (s : State) : State :=
  ((s.setFld (Pg.dmc 0) F.HDR_UNIT_STATE_STATE uActive).setFld (Pg.dmc 0) F.DMC_POP_b0 1).setFld (Pg.dmc 0) F.DMC_SIZE 1

/-- A load from flash that executes it, with DDR. -/
def loadDdrState : State := ddrOn (sectState loadDdrBytes)

/-- To direct address 64. -/
def loadDirectBytes : List Nat := loadBytes 2 0 64

/-- A load from flash that executes it, the Cistern divided. -/
def loadDirectState : State :=
  { sectState loadDirectBytes with memory := { (sectState loadDirectBytes).memory with stage := 1 } }

/-- To address 64 of the store of node 9's tile. -/
def loadTileBytes : List Nat := loadBytes 3 9 64

/-- A load from flash that executes it, that tile READY. -/
def loadTileState : State := (sectState loadTileBytes).setFld (Pg.tile (tileAt 9)) F.HDR_UNIT_STATE_STATE uReady

/-- To a space that does not exist. -/
def loadFarBytes : List Nat := loadBytes 9 0 64

/-- A FILL of 64 bytes of DDR from address 64 on, not yet begun. -/
def fillDesc : Desc := { Desc.ofBytes (List.replicate 64 0) 0 0 with op := 1, srcSpace := 1, dstSpace := 1, src := 0x55, dst := 64, len := 64, issued := 0 }

/-- A copy of 64 bytes of DDR from address 0 to address 64, not yet begun. -/
def copyDesc : Desc := { Desc.ofBytes (List.replicate 64 0) 0 0 with op := 0, srcSpace := 1, dstSpace := 1, dst := 64, len := 64, issued := 0 }

/-- Pump 0 ACTIVE with its context 0 enabled, owned by the firmware, with a descriptor in progress and DDR. -/
def pumpDdr (d : Desc) : State :=
  let s := ((ddrOn State.reset).setFld (Pg.pmp 0) F.HDR_UNIT_STATE_STATE uActive).setFld (Pg.pmp 0) (F.PMP_RING_CTL_ENABLE 0) 1
  (s.setFld (Pg.pmp 0) (F.PMP_RING_CTL_OWNER 0) 0xFE).setCtx 0 0 ⟨1, [d], none, 0⟩

/-- A host read outstanding under tag 3 for 64 bytes of DDR. -/
def tagDdrState : State :=
  { tagState with pumps := { tagState.pumps with ctxs := [(0, ⟨1, [{ desc0 with dstSpace := 1 }], none, 0⟩)] } }

/-! ### The conditions of the statements can be met -/

/-- The conditions of `WindlassCommandsComplete`, clause turnBoundary. -/
theorem meets_turnBoundary : ∃ (m : TurnMeasure) (s : State), s.wdl.stopped = false :=
  ⟨⟨[], 0, 0, 0⟩, runUp, by decide +kernel⟩

/-- The conditions of `WindlassCommandsComplete`, clause windlassExitStopped. -/
theorem meets_windlassExitStopped : ∃ (s : State), s.tstate = T.stopped ∧ s.wdl.lrefOk = true ∧ s.pins.mainReset =
  false :=
  ⟨({ State.reset with pins := { State.reset.pins with mainReset := false }, wdl := { State.reset.wdl with lrefOk := true } }
    : State), by decide +kernel⟩

/-- The conditions of `WindlassCommandsComplete`, clause anchorLoss. -/
theorem meets_anchorLoss : ∃ (off : Nat) (c : LossCause) (s : State), (s.tstate = T.slewing ∨ s.tstate = T.locked) ∧
  s.anchor < 8 :=
  ⟨0, .los, (State.reset.setFld Pg.wdl F.WDL_STATUS_TSTATE T.locked).setFld Pg.wdl F.WDL_STATUS_ACTIVE_ANCHOR 2,
    by decide +kernel⟩

/-- The conditions of `WindlassCommandsComplete`, clause portQualified. -/
theorem meets_portQualified : ∃ (off : Nat) (p : Port) (s : State) (since : Nat), FMap.get? s.wdl.lockSince p.val =
  some since ∧ 16 * 65536 ≤ (s.at off).since since :=
  ⟨0, 3, ({ State.reset with wdl := { State.reset.wdl with lockSince := [(3, 0)] }, count := 0x200000 } : State), 0,
    by decide +kernel⟩

/-- The conditions of `WindlassCommandsComplete`, clause slewLock. -/
theorem meets_slewLock : ∃ (s : State) (since : Nat), s.wdl.steadySince = some since ∧ s.tstate = T.slewing ∧ 65536 ≤
  s.since since :=
  ⟨({ State.reset.setFld Pg.wdl F.WDL_STATUS_TSTATE T.slewing with wdl := { State.reset.wdl with steadySince := some 0 }, count := 0x10000 }
    : State), 0, by decide +kernel⟩

/-- The conditions of `WindlassCommandsComplete`, clause learnedSet. -/
theorem meets_learnedSet : ∃ (s : State), s.tstate = T.locked ∧ 16 * 65536 ≤ s.since s.wdl.lockedAt :=
  ⟨({ State.reset.setFld Pg.wdl F.WDL_STATUS_TSTATE T.locked with count := 0x200000 } : State), by decide +kernel⟩

/-- The conditions of `WindlassCommandsComplete`, clause wdlPresetWrite. -/
theorem meets_wdlPresetWrite : ∃ (off : Nat) (high : Bool) (v : Word) (s : State), s.tstate = T.stopped :=
  ⟨0, true, 7#32, State.reset, by decide +kernel⟩

/-- The conditions of `WindlassCommandsComplete`, clause markArm. -/
theorem meets_markArm : ∃ (off : Nat) (m : Fin 64) (ctl : Word) (s w : State), w = ((s.at off).fireFirst m.val).write
  Pg.wdl (F.WDL_MARK_CTL_ARM m.val).off ctl ∧ w.bit Pg.wdl (F.WDL_MARK_CTL_ARM m.val) = true ∧ w.count + 16 < w.fld
  Pg.wdl (F.WDL_MARK_LO m.val) + 2 ^ 32 * w.fld Pg.wdl (F.WDL_MARK_HI m.val) :=
  ⟨0, 0, 1#32, State.reset.setFld Pg.wdl (F.WDL_MARK_LO 0) 100, _, rfl, by decide +kernel⟩

/-- The conditions of `WindlassCommandsComplete`, clause markFire. -/
theorem meets_markFire : ∃ (m : Fin 64) (s : State), (s.mark m.val).armed = true ∧ s.wdl.stopped = false ∧ (s.mark
  m.val).count / 65536 = s.turn ∧ s.count ≤ (s.mark m.val).count :=
  ⟨5, ({ State.reset with wdl := { State.reset.wdl with stopped := false, marks := [(5, ⟨true, 100, 0⟩)] } } : State),
    by decide +kernel⟩

/-- The conditions of `WindlassCommandsComplete`, clause fullCountBroadcast. -/
theorem meets_fullCountBroadcast : ∃ (off : Nat) (gray bad : List Nat) (s : State), s.wdl.stopped = false ∧ (s.at
  off).count % 4096 = 0 :=
  ⟨0, [], [3], runUp, by decide +kernel⟩

/-- The conditions of `RegisterCommandsComplete`, clause rcCounterRead. -/
theorem meets_rcCounterRead : ∃ (off page o : Nat) (s : State), page < 0x4000 ∧ o < 4096 ∧ o % 4 = 0 ∧ (s.at
  off).dueMarks.dropCause page = none ∧ userWindow page o = false :=
  ⟨0, 0x0010, 0x040, State.reset, by decide +kernel⟩

/-- The conditions of `RegisterCommandsComplete`, clause counterLoRead. -/
theorem meets_counterLoRead : ∃ (off : Nat) (page : BitVec 14) (o : BitVec 12) (s w : State), w = (s.at off).dueMarks
  ∧ isWideLo page.toNat o.toNat = true ∧ w.dropCause page.toNat = none ∧ w.bit page.toNat F.HDR_SNAP_CTL_VIEW = false
  ∧ w.clk.count ≠ w.count :=
  ⟨5, 0x0300#14, 0x050#12, runUp, _, rfl, by decide +kernel⟩

/-- The conditions of `RegisterCommandsComplete`, clause unassignedPageRead. -/
theorem meets_unassignedPageRead : ∃ (off : Nat) (addr : BitVec 26) (s : State), assigned (addr.toNat / 4096) = false
  :=
  ⟨0, 0x3FFF000#26, State.reset, by decide +kernel⟩

/-- The conditions of `RegisterCommandsComplete`, clause restartingPageRead. -/
theorem meets_restartingPageRead : ∃ (off : Nat) (addr : BitVec 26) (s : State), assigned (addr.toNat / 4096) = true ∧
  s.bit Pg.gbl F.GBL_STATUS_RESTARTING = true ∧ answersRestart (addr.toNat / 4096) = false :=
  ⟨0, 0x0300000#26, State.reset.setFld Pg.gbl F.GBL_STATUS_RESTARTING 1, by decide +kernel⟩

/-- The conditions of `RegisterCommandsComplete`, clause stateMismatch. -/
theorem meets_stateMismatch : ∃ (off : Nat) (page : BitVec 14) (s : State), s.bit page.toNat F.HDR_UNIT_STATE_PENDING
  = true ∧ 4 ≤ (s.unitAux page.toNat).waited ∧ (s.unitAux page.toNat).mismatch = false :=
  ⟨0, 0x0600#14,
    ({ State.reset.setFld 0x0600 F.HDR_UNIT_STATE_PENDING 1 with units := [(0x0600, ⟨3, 1, 4, false, .none⟩)] } :
    State), by decide +kernel⟩

/-- The conditions of `RegisterCommandsComplete`, clause unitSelftestDone. -/
theorem meets_unitSelftestDone : ∃ (off : Nat) (page : BitVec 14) (s : State), ((s.at off).unitAux page.toNat).test =
  .primed ∧ (s.at off).unit page.toNat = uPrimed ∧ (s.at off).testReady page.toNat = true ∧ (s.at off).framesLoaded
  page.toNat = true :=
  ⟨0, 0x0600#14,
    ({ State.reset.setFld 0x0600 F.HDR_UNIT_STATE_STATE 1 with units := [(0x0600, ⟨3, 1, 0, false, .primed⟩)] } :
    State), by decide +kernel⟩

/-- The conditions of `RegisterCommandsComplete`, clause reinstateSelftestDone. -/
theorem meets_reinstateSelftestDone : ∃ (off : Nat) (page : BitVec 14) (s : State), ((s.at off).unitAux
  page.toNat).test = .reinstate ∧ (s.at off).unit page.toNat = uRetired ∧ (s.at off).channelGone page.toNat = false :=
  ⟨0, 0x0600#14,
    ({ State.reset.setFld 0x0600 F.HDR_UNIT_STATE_STATE 6 with units := [(0x0600, ⟨3, 1, 0, false, .reinstate⟩)] } :
    State), by decide +kernel⟩

/-- The conditions of `RegisterCommandsComplete`, clause snapshotTrigger. -/
theorem meets_snapshotTrigger : ∃ (off : Nat) (page : BitVec 14) (ctl : Word) (s : State), (s.at off).dropCause
  page.toNat = none ∧ hasSnap page.toNat = true ∧ ((s.at off).write page.toNat 0x030 (ctl.withField 0 1 1)).bit
  page.toNat F.HDR_SNAP_CTL_TRIGGER = true :=
  ⟨0, 0x0010#14, 0, State.reset, by decide +kernel⟩

/-- The conditions of `RegisterCommandsComplete`, clause snapAll. -/
theorem meets_snapAll : ∃ (off p : Nat) (s : State), p ∈ pf0Pages ∧ hasSnap p = true :=
  ⟨0, 0x0010, State.reset, by decide +kernel⟩

/-- The conditions of `RegisterCommandsComplete`, clause pageLockSet. -/
theorem meets_pageLockSet : ∃ (off : Nat) (page : BitVec 14) (s : State), (s.at off).dropCause page.toNat = none :=
  ⟨0, 0x0010#14, State.reset, by decide +kernel⟩

/-- The conditions of `RegisterCommandsComplete`, clause lockAll. -/
theorem meets_lockAll : ∃ (off p : Nat) (s : State), p ∈ pf0Pages :=
  ⟨0, 0x0010, State.reset, by decide +kernel⟩

/-- The conditions of `RegisterCommandsComplete`, clause leakDecrement. -/
theorem meets_leakDecrement : ∃ (page : BitVec 14) (c : Channel) (s : State), pageClass page.toNat = 0x000B ∧
  s.wdl.stopped = false ∧ s.count % 65536 = 0 ∧ s.turn % max 1 (s.inForce page.toNat F.OPE_LEAK_LEAK_PERIOD) = 0 ∧
  s.leaked (16 * page.toNat + (c.val + 1)) = false :=
  ⟨0x0200#14, 0, ({ State.reset with wdl := { State.reset.wdl with stopped := false } } : State), by decide +kernel⟩

/-- The conditions of `LaneTrainingCommandsComplete`, clause signalDetectRise. -/
theorem meets_signalDetectRise : ∃ (off : Nat) (l : LaneIx) (s : State), isRyk l.val = true ∧ s.sig l.val = false ∧
  s.opticalLane l.val = false ∧ (s.lstate l.val = L.waitSignal ∨ s.lstate l.val = L.noPartner) :=
  ⟨0, 40, State.reset.setLstate 40 L.waitSignal, by decide +kernel⟩

/-- The conditions of `LaneTrainingCommandsComplete`, clause lossOfSignal. -/
theorem meets_lossOfSignal : ∃ (off : Nat) (l : LaneIx) (s : State), isRyk l.val = true ∧ s.sig l.val = true ∧
  s.opticalLane l.val = false ∧ s.lstate l.val = L.train :=
  ⟨0, 40, (State.reset.setLstate 40 L.train).setFld (Pg.lan 40) F.LAN_STATUS_SIG_DET 1, by decide +kernel⟩

/-- The conditions of `LaneTrainingCommandsComplete`, clause trainingWordRx. -/
theorem meets_trainingWordRx : ∃ (off : Nat) (l : LaneIx) (marker : BitVec 64) (word : BitVec 40) (ask : BitVec 9) (s
  : State), isRyk l.val = true ∧ s.lstate l.val = L.frameLock ∧ (s.lane l.val).markers = 2 ∧ (if s.rxInverted l.val
  then ~~~marker else marker) = trainMarker ∧ wordValid (if s.rxInverted l.val then ~~~word else word) = false :=
  ⟨0, 40, trainMarker, 0, 0, (State.reset.setLstate 40 L.frameLock).setLane 40 { Lane.fresh with markers := 2 }, by decide +kernel⟩

/-- The conditions of `LaneTrainingCommandsComplete`, clause trainingAttemptTimeout. -/
theorem meets_trainingAttemptTimeout : ∃ (off : Nat) (l : LaneIx) (s : State), s.lstate l.val = L.train :=
  ⟨0, 40, State.reset.setLstate 40 L.train, by decide +kernel⟩

/-- The conditions of `LaneTrainingCommandsComplete`, clause backoffExpiry. -/
theorem meets_backoffExpiry : ∃ (off : Nat) (l : LaneIx) (s : State), s.lstate l.val = L.backoff ∧ s.sig l.val = true
  :=
  ⟨0, 40, (State.reset.setLstate 40 L.backoff).setFld (Pg.lan 40) F.LAN_STATUS_SIG_DET 1, by decide +kernel⟩

/-- The conditions of `LaneTrainingCommandsComplete`, clause noPartnerRetry. -/
theorem meets_noPartnerRetry : ∃ (off : Nat) (l : LaneIx) (s : State), s.lstate l.val = L.noPartner ∧ s.sig l.val =
  true :=
  ⟨0, 40, (State.reset.setLstate 40 L.noPartner).setFld (Pg.lan 40) F.LAN_STATUS_SIG_DET 1, by decide +kernel⟩

/-- The conditions of `LaneTrainingCommandsComplete`, clause dataStart. -/
theorem meets_dataStart : ∃ (off : Nat) (l : LaneIx) (s : State), 8 ≤ (s.lane l.val).sentReady ∧ 8 ≤ (s.lane
  l.val).gotReady ∧ s.refRole ≠ 0 ∧ s.lstate l.val = L.localReady :=
  ⟨0, 40, ((State.reset.setLstate 40 L.localReady).setFld refPage F.REF_CTL_ROLE 1).setLane 40
    { Lane.fresh with sentReady := 8, gotReady := 8 }, by decide +kernel⟩

/-- The conditions of `LaneTrainingCommandsComplete`, clause blockLock. -/
theorem meets_blockLock : ∃ (off : Nat) (l : LaneIx) (headers : List (Fin 4)) (s : State), s.lstate l.val =
  L.dataStart ∧ 64 ≤ bestRun (s.lane l.val).code.run headers :=
  ⟨0, 40, [1], (State.reset.setLstate 40 L.dataStart).codeMap 40 (fun c => { c with run := 63 }), by decide +kernel⟩

/-- The conditions of `LaneTrainingCommandsComplete`, clause blockLockTimeout. -/
theorem meets_blockLockTimeout : ∃ (off : Nat) (l : LaneIx) (s : State), s.lstate l.val = L.dataStart :=
  ⟨0, 40, State.reset.setLstate 40 L.dataStart, by decide +kernel⟩

/-- The conditions of `LaneTrainingCommandsComplete`, clause blockLockLoss. -/
theorem meets_blockLockLoss : ∃ (off : Nat) (l : LaneIx) (headers : List (Fin 4)) (s : State), isRyk l.val = true ∧
  s.bit (Pg.lan l.val) F.LAN_STATUS_CODE_LOCK = true ∧ (s.lane l.val).code.loses headers = true ∧ s.lstate l.val =
  L.test :=
  ⟨0, 40, [0], (((State.reset.setLstate 40 L.test).setFld (Pg.lan 40) F.LAN_STATUS_CODE_LOCK 1).codeMap 40 (fun c =>
    { c with win := 2 ^ 15 - 1 })), by decide +kernel⟩

/-- The conditions of `LaneTrainingCommandsComplete`, clause laneTestDone. -/
theorem meets_laneTestDone : ∃ (off : Nat) (l : LaneIx) (invalid : Nat) (s : State), s.lstate l.val = L.test ∧ (s.lane
  l.val).testBad = false ∧ (s.lane l.val).testErrs + invalid ≤ 1 :=
  ⟨0, 40, 1, State.reset.setLstate 40 L.test, by decide +kernel⟩

/-- The conditions of `LaneTrainingCommandsComplete`, clause fastRetrainTimeout. -/
theorem meets_fastRetrainTimeout : ∃ (off : Nat) (l : LaneIx) (s : State), s.lstate l.val = L.fastRetrain ∧ s.sig
  l.val = true :=
  ⟨0, 40, (State.reset.setLstate 40 L.fastRetrain).setFld (Pg.lan 40) F.LAN_STATUS_SIG_DET 1, by decide +kernel⟩

/-- The conditions of `LaneEventCommandsComplete`, clause errorInterval. -/
theorem meets_errorInterval : ∃ (off : Nat) (l : LaneIx) (invalid : Nat) (s w : State), l.val ≠ 163 ∧ w = ((((s.at
  off).linkErrors l.val invalid).incFld (Pg.lan l.val) F.LAN_HDR_ERR invalid).codeMap l.val (fun c =>
  { c with bad := 0 })) ∧ 16 < (s.lane l.val).code.bad + invalid :=
  ⟨0, 40, 17, State.reset, _, by decide, rfl, by decide +kernel⟩

/-- The conditions of `LaneEventCommandsComplete`, a clause of noReceiver. -/
theorem meets_noReceiver : ∃ (off : Nat) (l : LaneIx) (invalid : Nat) (s : State), l.val = 163 :=
  ⟨0, 163, 0, State.reset, by decide⟩

/-- The conditions of `LaneEventCommandsComplete`, clause wanderSlip. -/
theorem meets_wanderSlip : ∃ (off : Nat) (l : LaneIx) (drift : Int) (s : State), isRyk l.val = true ∧ 16 < (signed 8
  (s.fld (Pg.lan l.val) F.LAN_WANDER_b0) + drift).natAbs :=
  ⟨0, 40, 17, State.reset, by decide +kernel⟩

/-- The conditions of `LaneEventCommandsComplete`, clause codeGroupSync. -/
theorem meets_codeGroupSync : ∃ (off : Nat) (l : LaneIx) (g : BitVec 10) (s : State), l.val = 162 ∧ s.wdl.lrefOk =
  true ∧ s.lstate l.val = L.waitSignal ∧ s.sig l.val = true ∧ s.bit (Pg.lan l.val) F.LAN_STATUS_CDR_LOCK = true ∧
  s.bit (Pg.lan l.val) F.LAN_STATUS_CODE_LOCK = false ∧ 3 ≤ ((s.lane l.val).code.group false (if s.rxInverted l.val
  then ~~~g else g).toNat).run :=
  ⟨0, 162, 0b0011111010, (((lrefUp.setLstate 162 L.waitSignal).setFld (Pg.lan 162) F.LAN_STATUS_SIG_DET 1).setFld
    (Pg.lan 162) F.LAN_STATUS_CDR_LOCK 1).codeMap 162 (fun c => { c with run := 2, disp := false }), by
    decide +kernel⟩

/-- The conditions of `LaneEventCommandsComplete`, clause cdrLock. -/
theorem meets_cdrLock : ∃ (off : Nat) (l : LaneIx) (gain : Bool) (ppm : Int) (s : State), (gain = true → ppm.natAbs ≤
  (if isRyk l.val then 6000 else 300) ∧ l.val ≠ 163 ∧ (l.val ∈ lrefLanes → s.wdl.lrefOk = true)) :=
  ⟨0, 40, true, -6000, State.reset, by decide +kernel⟩

/-- The conditions of `LaneEventCommandsComplete`, clause prbsLock. -/
theorem meets_prbsLock : ∃ (off : Nat) (l : LaneIx) (b : Bool) (taps : Nat × Nat) (s : State), l.val ≠ 163 ∧ l.val ≠
  162 ∧ (s.at off).clocked l.val = true ∧ (s.lane l.val).testMode / 256 % 4 = 0 ∧ prbsTaps ((s.lane l.val).testMode /
  16 % 8) = some taps ∧ s.bit (Pg.lan l.val) F.LAN_PRBS_STATUS_CHK_LOCK = false ∧ (s.lane l.val).code.good = 63 ∧
  prbsNext taps (s.lane l.val).code.chk = ((bitOf b + bitOf (s.rxInverted l.val)) % 2 + (s.lane l.val).testMode / 128)
  % 2 :=
  ⟨0, 40, false, (7, 6), (State.reset.setLane 40 { Lane.fresh with testMode := 16 }).codeMap 40 (fun c =>
    { c with good := 63 }), by decide +kernel⟩

/-- The conditions of `LaneEventCommandsComplete`, clause anRestart. -/
theorem meets_anRestart : ∃ (off : Nat) (k : Fin 2) (ctl : Word) (s : State), (s.at off).dropCause (Pg.lan (160 +
  k.val)) = none ∧ ((s.at off).write (Pg.lan (160 + k.val)) 0x080 ctl).bit (Pg.lan (160 + k.val))
  F.LAN_AN_CTL_AN_RESTART = true ∧ ((s.at off).write (Pg.lan (160 + k.val)) 0x080 ctl).bit (Pg.lan (160 + k.val))
  F.LAN_AN_CTL_AN_EN = true ∧ s.lstate (160 + k.val) = L.fixedUp :=
  ⟨0, 0, 3, State.reset.setLstate 160 L.fixedUp, by decide +kernel⟩

/-- The conditions of `LaneEventCommandsComplete`, a clause of anRestartDown. -/
theorem meets_anRestartDown : ∃ (off : Nat) (k : Fin 2) (ctl : Word) (s w : State), (s.at off).dropCause (Pg.lan (160
  + k.val)) = none ∧ w = (s.at off).write (Pg.lan (160 + k.val)) 0x080 ctl ∧ w.bit (Pg.lan (160 + k.val))
  F.LAN_AN_CTL_AN_RESTART = true ∧ s.lstate (160 + k.val) ≠ L.fixedUp :=
  ⟨0, 0, 3, State.reset, _, by decide +kernel, rfl, by decide +kernel⟩

/-- The conditions of `LaneEventCommandsComplete`, clause anComplete. -/
theorem meets_anComplete : ∃ (off : Nat) (k : Fin 2) (base : BitVec 16) (s : State), s.bit (Pg.lan (160 + k.val))
  F.LAN_AN_CTL_AN_EN = true ∧ s.lstate (160 + k.val) = L.fixedUp ∧ (s.lane (160 + k.val)).anSent = true :=
  ⟨0, 0, 5, ((State.reset.setFld (Pg.lan 160) F.LAN_AN_CTL_AN_EN 1).setLstate 160 L.fixedUp).setLane 160
    { Lane.fresh with anSent := true }, by decide +kernel⟩

/-- The conditions of `LaneEventCommandsComplete`, clause laneSelfcheckFail. -/
theorem meets_laneSelfcheckFail : ∃ (off : Nat) (l : LaneIx) (s : State), isRyk l.val = false ∧ s.unit (Pg.lan l.val)
  ≠ uOff :=
  ⟨0, 3, State.reset.setUnit (Pg.lan 3) uReady Reason.requested, by decide +kernel⟩

/-- The conditions of `LaneEventCommandsComplete`, clause candidateQualified. -/
theorem meets_candidateQualified : ∃ (off : Nat) (k : Fin 4) (s : State), s.refRole = 2 ∧ s.rstate = R.acquire ∧ s.bit
  refPage (F.REF_CAND_b7 k.val) = true ∧ s.refLaneGood (s.fld refPage (F.REF_CAND_b0 k.val)) = true ∧ (∀ j : Fin 4,
  j.val < k.val → s.candOk j.val = false) :=
  ⟨0, 1, ((((State.reset.setFld refPage F.REF_CTL_ROLE 2).setFld refPage F.REF_STATUS_RSTATE R.acquire).setFld refPage
    (F.REF_CAND_b7 1) 1).setFld (Pg.lan (State.reset.refLane 0)) F.LAN_STATUS_CDR_LOCK 1), by decide +kernel⟩

/-- The conditions of `LaneEventCommandsComplete`, clause candidateLoss. -/
theorem meets_candidateLoss : ∃ (off : Nat) (k : Fin 4) (s : State), s.refRole = 2 ∧ s.rstate = R.locked ∧ s.fld
  refPage F.REF_STATUS_ACTIVE_CAND = k.val ∧ (∀ j : Fin 4, j ≠ k → s.candOk j.val = false) :=
  ⟨0, 1, ((State.reset.setFld refPage F.REF_CTL_ROLE 2).setFld refPage F.REF_STATUS_RSTATE R.locked).setFld refPage
    F.REF_STATUS_ACTIVE_CAND 1, by decide +kernel⟩

/-- The conditions of `LaneEventCommandsComplete`, clause rrefLoss. -/
theorem meets_rrefLoss : ∃ (off : Nat) (s : State), s.refRole = 1 ∧ s.rstate = R.locked :=
  ⟨0, (State.reset.setFld refPage F.REF_CTL_ROLE 1).setFld refPage F.REF_STATUS_RSTATE R.locked, by decide +kernel⟩

/-- The conditions of `LaneEventCommandsComplete`, clause rrefRestore. -/
theorem meets_rrefRestore : ∃ (off : Nat) (s : State), s.refRole = 1 ∧ s.rstate = R.holdover :=
  ⟨0, (State.reset.setFld refPage F.REF_CTL_ROLE 1).setFld refPage F.REF_STATUS_RSTATE R.holdover, by decide +kernel⟩

/-- The conditions of `OpticalCommandsComplete`, clause losAssert. -/
theorem meets_losAssert : ∃ (off : Nat) (e : Engine) (c : Channel) (power : Nat) (s : State), s.chServes e.val c.val =
  true ∧ s.bit (Pg.ope e.val) (F.OPE_CH_STATUS_LOS c.val) = false ∧ power < s.inForce (Pg.ope e.val)
  F.OPE_LOS_THR_ASSERT ∧ s.sig (laneOf e.val c.val) = false :=
  ⟨0, 0, 0, 0, ((State.reset.setFld (Pg.ope 0) F.OPE_CFG_RX_EN 1).setFld (Pg.ope 0) F.OPE_LOS_THR_ASSERT 5).setCh 0 0
    C.lit, by decide +kernel⟩

/-- The conditions of `OpticalCommandsComplete`, clause losDeassert. -/
theorem meets_losDeassert : ∃ (off : Nat) (e : Engine) (c : Channel) (power : Nat) (s : State), s.chServes e.val c.val
  = true ∧ s.deassertLevel e.val ≤ power :=
  ⟨0, 0, 0, 65535, (State.reset.setFld (Pg.ope 0) F.OPE_CFG_RX_EN 1).setCh 0 0 C.lit, by decide +kernel⟩

/-- The conditions of `OpticalCommandsComplete`, clause aprRestart. -/
theorem meets_aprRestart : ∃ (off : Nat) (e : Engine) (v : Word) (s : State), (s.at off).dropCause (Pg.ope e.val) =
  none :=
  ⟨0, 0, 1, State.reset, by decide +kernel⟩

/-- The conditions of `OpticalCommandsComplete`, clause aprEntry. -/
theorem meets_aprEntry : ∃ (off : Nat) (e : Engine) (g : Fin 4) (s : State), s.groupChannels e.val g.val ≠ [] ∧
  (s.groupChannels e.val g.val).all (fun c => s.bit (Pg.ope e.val) (F.OPE_CH_STATUS_LOS c)) = true ∧ s.bit (Pg.ope
  e.val) ⟨0x044, 4 + g.val, 1⟩ = false :=
  ⟨0, 0, 0, (((State.reset.setFld (Pg.ope 0) (F.OPE_CH_STATUS_LOS 0) 1).setFld (Pg.ope 0) (F.OPE_CH_STATUS_LOS 1)
    1).setFld (Pg.ope 0) (F.OPE_CH_STATUS_LOS 2) 1).setFld (Pg.ope 0) (F.OPE_CH_STATUS_LOS 3) 1, by decide +kernel⟩

/-- The conditions of `OpticalCommandsComplete`, clause aprPulse. -/
theorem meets_aprPulse : ∃ (off : Nat) (e : Engine) (g : Fin 4) (s : State), s.bit (Pg.ope e.val) ⟨0x044, 4 + g.val,
  1⟩ = true :=
  ⟨0, 0, 0, State.reset.setFld (Pg.ope 0) ⟨0x044, 4, 1⟩ 1, by decide +kernel⟩

/-- The conditions of `OpticalCommandsComplete`, clause laserWarm. -/
theorem meets_laserWarm : ∃ (off : Nat) (e : Engine) (c : Channel) (s : State), s.chState e.val c.val = C.warming :=
  ⟨0, 0, 0, State.reset.setCh 0 0 C.warming, by decide +kernel⟩

/-- The conditions of `OpticalCommandsComplete`, clause wavelengthLocked. -/
theorem meets_wavelengthLocked : ∃ (off : Nat) (e : Engine) (c : Channel) (err : BitVec 16) (s : State), isLineEngine
  e.val = true ∧ s.chState e.val c.val = C.locking ∧ (signed 16 err.toNat).natAbs ≤ 100 :=
  ⟨0, 0, 0, 0, State.reset.setCh 0 0 C.locking, by decide +kernel⟩

/-- The conditions of `OpticalCommandsComplete`, clause wavelengthUnlock. -/
theorem meets_wavelengthUnlock : ∃ (off : Nat) (e : Engine) (c : Channel) (err : BitVec 16) (s : State), isLineEngine
  e.val = true ∧ s.chState e.val c.val = C.lit :=
  ⟨0, 0, 0, 0, State.reset.setCh 0 0 C.lit, by decide +kernel⟩

/-- The conditions of `OpticalCommandsComplete`, clause offgrid. -/
theorem meets_offgrid : ∃ (off : Nat) (e : Engine) (c : Channel) (err : BitVec 16) (s : State), isLineEngine e.val =
  true ∧ s.chState e.val c.val = C.lit :=
  ⟨0, 0, 0, 0, State.reset.setCh 0 0 C.lit, by decide +kernel⟩

/-- The conditions of `OpticalCommandsComplete`, clause lockFailure. -/
theorem meets_lockFailure : ∃ (off : Nat) (e : Engine) (c : Channel) (s : State), s.chState e.val c.val = C.locking ∧
  (s.chan e.val c.val).lockFails < 2 :=
  ⟨0, 0, 0, State.reset.setCh 0 0 C.locking, by decide +kernel⟩

/-- The conditions of `OpticalCommandsComplete`, clause heaterDriveUpdate. -/
theorem meets_heaterDriveUpdate : ∃ (off : Nat) (e : Engine) (h : Fin 16) (v : BitVec 16) (s : State), h.val ∈
  heatersOf e.val ∧ s.inForce (Pg.ope e.val) F.OPE_XT_CTL_XT_EN = 0 :=
  ⟨0, 0, 3, 7, { State.reset with force := [(regKey (Pg.ope 0) F.OPE_XT_CTL_XT_EN.off, 0)] }, by decide +kernel⟩

/-- The conditions of `OpticalCommandsComplete`, clause heaterDriveUpdate of the mesh. -/
theorem meets_meshDrive : ∃ (off : Nat) (temp : BitVec 16) (m : Nat) (s : State), s.lwl.measured = some m :=
  ⟨0, 0, 0, State.reset.lwlMap (fun l => { l with measured := some 0 }), by decide +kernel⟩

/-- The conditions of `OpticalCommandsComplete`, clause clampHold. -/
theorem meets_clampHold : ∃ (off : Nat) (e : Engine) (h : Fin 16) (s : State), s.fld (Pg.ope e.val) (F.OPE_HTR_b16
  h.val) = 65535 ∧ 65535 < (s.at off).drive e.val h.val :=
  ⟨0, 1, 5, clampUp, by decide +kernel⟩

/-- The conditions of `OpticalCommandsComplete`, clause channelFaultDetect. -/
theorem meets_channelFaultDetect : ∃ (off : Nat) (e : Engine) (c : Channel) (s : State), c.val ∈ channelsOf e.val :=
  ⟨0, 0, 0, State.reset, by decide +kernel⟩

/-- The conditions of `OpticalCommandsComplete`, clause chReinstate. -/
theorem meets_chReinstate : ∃ (off : Nat) (e : Engine) (c : Channel) (v : Word) (s : State), (s.at off).dropCause
  (Pg.ope e.val) = none ∧ ((s.at off).write (Pg.ope e.val) (F.OPE_CH_CTL_REINSTATE c.val).off v).bit (Pg.ope e.val)
  (F.OPE_CH_CTL_REINSTATE c.val) = true ∧ s.chState e.val c.val = C.retired ∧ (s.chan e.val c.val).reinstate = 0 :=
  ⟨0, 0, 0, 1#32, State.reset.setCh 0 0 C.retired, by decide +kernel⟩

/-- The conditions of `OpticalCommandsComplete`, clause chReinstateDone. -/
theorem meets_chReinstateDone : ∃ (off : Nat) (e : Engine) (c : Channel) (s : State), (s.chan e.val c.val).reinstate =
  2 :=
  ⟨0, 0, 0, State.reset.setChan 0 0 ⟨0, 2⟩, by decide +kernel⟩

/-- The conditions of `OpticalCommandsComplete`, clause engineOverTemp. -/
theorem meets_engineOverTemp : ∃ (off : Nat) (e : Engine) (temp : BitVec 16) (s : State), 720 ≤ signed 16 temp.toNat ∧
  signed 16 temp.toNat ≤ 760 :=
  ⟨0, 0, 740, State.reset, by decide +kernel⟩

/-- The conditions of `OpticalCommandsComplete`, clause engineControllerFail. -/
theorem meets_engineControllerFail : ∃ (off : Nat) (e : Engine) (s : State), s.absent (Pg.ope e.val) = false ∧ s.unit
  (Pg.ope e.val) ≠ uOff ∧ isLineEngine e.val = false :=
  ⟨0, 9, State.reset.setUnit (Pg.ope 9) uReady Reason.requested, by decide +kernel⟩

/-- The conditions of `IslandCommandsComplete`, clause bypPolicyWrite. -/
theorem meets_bypPolicyWrite : ∃ (off : Nat) (v : Word) (s : State), ((s.at off).write Pg.byp 0x040 v).tstate =
  T.stopped :=
  ⟨0, 0x55#32, State.reset, by decide +kernel⟩

/-- The conditions of `IslandCommandsComplete`, clause heartbeatLoss. -/
theorem meets_heartbeatLoss : ∃ (off : Nat) (s : State), s.pins.mainReset = false :=
  ⟨0, { State.reset with pins := { State.reset.pins with mainReset := false } }, by decide +kernel⟩

/-- The conditions of `IslandCommandsComplete`, clause islandPowerOn. -/
theorem meets_islandPowerOn : ∃ (off : Nat) (straps : BitVec 8) (s : State), s.pins.island = false :=
  ⟨0, 5, { State.reset with pins := { State.reset.pins with island := false } }, by decide +kernel⟩

/-- The conditions of `IslandCommandsComplete`, clause islandSupplyFail. -/
theorem meets_islandSupplyFail : ∃ (off : Nat) (s : State), s.pins.island = true :=
  ⟨0, { State.reset with pins := { State.reset.pins with island := true } }, by decide +kernel⟩

/-- The conditions of `IslandCommandsComplete`, clause mainPgFall. -/
theorem meets_mainPgFall : ∃ (off : Nat) (s : State), s.pins.mainPg = true ∧ s.pins.mainReset = false :=
  ⟨0, { State.reset with pins := { State.reset.pins with mainPg := true, mainReset := false } }, by decide +kernel⟩

/-- The conditions of `IslandCommandsComplete`, clause mainUndervoltage. -/
theorem meets_mainUndervoltage : ∃ (off : Nat) (s : State), s.pins.mainPg = true ∧ s.pins.mainReset = false :=
  ⟨0, { State.reset with pins := { State.reset.pins with mainPg := true, mainReset := false } }, by decide +kernel⟩

/-- The conditions of `IslandCommandsComplete`, clause resetNFall. -/
theorem meets_resetNFall : ∃ (off : Nat) (withPg : Bool) (s : State), s.pins.resetN = true :=
  ⟨0, false, { State.reset with pins := { State.reset.pins with resetN := true } }, by decide +kernel⟩

/-- The conditions of `IslandCommandsComplete`, clause resetNRise. -/
theorem meets_resetNRise : ∃ (off : Nat) (s : State), s.pins.resetN = false ∧ s.pins.island = true :=
  ⟨0, { State.reset with pins := { State.reset.pins with resetN := false, island := true } }, by decide +kernel⟩

/-- The conditions of `SafeStateCommandsComplete`, clause safeStateEntry. -/
theorem meets_safeStateEntry : ∃ (off : Nat) (c : Fin 12) (s : State), c.val ≠ 0 ∧ s.pins.mainReset = false :=
  ⟨0, 3, { State.reset with pins := { State.reset.pins with mainReset := false } }, by decide +kernel⟩

/-- The conditions of `SafeStateCommandsComplete`, clause fltErr. -/
theorem meets_fltErr : ∃ (off : Nat) (s : State), s.pins.mainReset = false :=
  ⟨0, { State.reset with pins := { State.reset.pins with mainReset := false } }, by decide +kernel⟩

/-- The conditions of `SafeStateCommandsComplete`, clause safeResetAssert. -/
theorem meets_safeResetAssert : ∃ (off : Nat) (dumped : Bool) (s : State), s.sstate = SState.entering ∧ s.bit (Pg.cpc
  10) F.CPC_DUMP_STATUS_WRITING = false ∧ s.safe.cold = true :=
  ⟨0, false,
    { State.reset.setSState SState.entering with safe := { State.reset.safe with cold := true }, count := 0 },
    by decide +kernel⟩

/-- The conditions of `SafeStateCommandsComplete`, clause mainResetRelease. -/
theorem meets_mainResetRelease : ∃ (off : Nat) (straps : BitVec 3) (waitUs holdUs islandUs : Word) (s : State), 100 ≤
  holdUs.toNat ∧ s.pins.mainReset = true ∧ s.pins.island = true ∧ s.pins.mainPg = true ∧ s.pins.resetN = true ∧
  s.wdl.lrefOk = true ∧ straps.toNat / 4 % 2 = 0 ∧ s.sstate = SState.cold :=
  ⟨0, 0, 0, 100, 0,
    { State.reset.setSState SState.cold with pins := { State.reset.pins with mainReset := true, island := true, mainPg := true, resetN := true }, wdl := { State.reset.wdl with lrefOk := true } },
    by decide +kernel⟩

/-- The conditions of `SafeStateCommandsComplete`, clause restartComplete. -/
theorem meets_restartComplete : ∃ (off : Nat) (micros : Word) (s : State), s.sstate = SState.cold ∧ s.pins.mainReset =
  false ∧ s.loadState = LS'.done ∧ s.fwState = FW.running ∧ s.safe.resume = [] :=
  ⟨0, 0,
    { (((State.reset.setSState SState.cold).setFld (Pg.cfg 0) F.CFG_STATUS_LSTATE LS'.done).setFld (Pg.cpc 0) F.CPC_FW_STATE_STATE FW.running) with pins := { State.reset.pins with mainReset := false } },
    by decide +kernel⟩

/-- The conditions of `SafeStateCommandsComplete`, clause warmRestartTimeout. -/
theorem meets_warmRestartTimeout : ∃ (off : Nat) (us : Nat) (s : State), s.sstate = SState.warm ∧ 40000 + s.fld Pg.flt
  F.FLT_SAFE_HOLD_US ≤ us :=
  ⟨0, 40000, State.reset.setSState SState.warm, by decide +kernel⟩

/-- The conditions of `SafeStateCommandsComplete`, clause tapInstruction. -/
theorem meets_tapInstruction : ∃ (off : Nat) (opcode : BitVec 8) (l : Nat) (s : State), tapLevel opcode.toNat = some l
  ∧ l ≤ s.fld (Pg.sec 6) F.SEC_DBG_STATUS_b0 :=
  ⟨0, 1, 0, State.reset, by decide +kernel⟩

/-- The conditions of `LinePortCommandsComplete`, clause linkUp. -/
theorem meets_linkUp : ∃ (off : Nat) (p : Port) (rate : Int) (s : State), s.link p.val = false ∧ ([0, 1, 2, 3].all
  (fun c => s.carries (4 * p.val + c))) = true ∧ 250000 < rate.natAbs :=
  ⟨0, 3, 300000, (((State.reset.setLstate 12 L.fixedUp).setLstate 13 L.fixedUp).setLstate 14 L.fixedUp).setLstate 15 L.fixedUp, by decide +kernel⟩

/-- The conditions of `LinePortCommandsComplete`, clause propagationRemove. -/
theorem meets_propagationRemove : ∃ (off : Nat) (p : Port) (s : State), (s.portAux p.val).held = true ∧ s.link
  (otherPort p.val) = true ∧ (s.portAux (otherPort p.val)).linkAt + 65536 * s.lfpHold p.val ≤ (s.at off).turn * 65536
  :=
  ⟨0, 0,
    { (State.reset.setPortAux 0 ⟨true, 0, 0, false, []⟩).setFld (Pg.lnp 1) F.LNP_STATUS_LINK 1 with count := 0x10000000 },
    by decide +kernel⟩

/-- The conditions of `LinePortCommandsComplete`, clause unsealFrame. -/
theorem meets_unsealFrame : ∃ (off : Nat) (i : Pipe) (id : Nat) (rest b : List Nat) (s u : State), s.queue i.val 1 =
  id :: rest ∧ s.inForce (Pg.msc (s.frame id).port) F.MSC_CTL_ENABLE ≠ 0 ∧ s.inForce (Pg.msc (s.frame id).port)
  F.MSC_CTL_EAPOL_TERM = 0 ∧ ((s.at off).takeHead i.val 1).unsealBy (s.frame id).port (s.frame id).bytes = (.pass b,
  u) :=
  ⟨0, 0, 0, [], [],
    { State.reset with force := [(regKey (Pg.msc 0) 0x040, 1)], pipe := { State.reset.pipe with queues := [(1, [0])] } },
    ((({ State.reset with force := [(regKey (Pg.msc 0) 0x040, 1)], pipe := { State.reset.pipe with queues := [(1, [0])] } }
    : State).at 0).takeHead 0 1).incFld (Pg.msc 0) F.MSC_IN_UNCHECKED, by decide +kernel⟩

/-- The conditions of `LinePortCommandsComplete`, clause saPnWrite. -/
theorem meets_saPnWrite : ∃ (off : Nat) (p : Port) (tx : Bool) (c : Fin 8) (a : Fin 4) (high : Bool) (v : Word) (s :
  State), (s.at off).dropCause (Pg.msc p.val) = none ∧ s.saIdle p.val (if tx then 0x100 + 32 * a.val else 0x210 + 128
  * c.val + 16 * a.val) = true :=
  ⟨0, 0, true, 0, 0, false, 5, State.reset, by decide +kernel⟩

/-- The conditions of `LinePortCommandsComplete`, clause sealItem. -/
theorem meets_sealItem : ∃ (off : Nat) (i : Pipe) (te : Nat) (it : Item) (rest : List Item) (s : State), s.sealQ i.val
  = it :: rest :=
  ⟨0, 0, 0, ⟨0, .primary, 0, [], 4, 0, false⟩, [],
    { State.reset with pipe := { State.reset.pipe with sealQs := [(0, [⟨0, .primary, 0, [], 4, 0, false⟩])] } }, by
    decide +kernel⟩

/-- The conditions of `FrameIntakeCompletes`, clause frameIntake. -/
theorem meets_frameIntake : ∃ (off dur : Nat) (p : Port) (b : List (BitVec 8)) (ti corr uncorr : Nat) (cells : Nat ×
  Nat) (s : State), (s.at off).inService (pairOf p.val) = true ∧ s.link p.val = true ∧ s.pins.mainReset = false ∧ (∀ c
  ∈ [0, 1, 2, 3], s.carries (4 * p.val + c) = true) ∧ 60 ≤ b.length ∧ b.length + 4 ≤ s.maxLen p.val ∧ s.takeCells
  (p.val % 2) p.val ((b.length + 4 + 255) / 256) = some cells ∧ s.intakeOpen p.val = true :=
  ⟨0, 0, 0, List.replicate 60 0, 0, 0, 0, (1, 0), portUp, by decide +kernel⟩

/-- The conditions of `FrameIntakeCompletes`, clause frameIntakeBad. -/
theorem meets_frameIntakeBad : ∃ (off dur : Nat) (p : Port) (b : List (BitVec 8)) (trunc code badFcs : Bool) (ti corr
  uncorr : Nat) (cells : Nat × Nat) (why : Nat) (s : State), (s.at off).inService (pairOf p.val) = true ∧ s.link p.val
  = true ∧ s.pins.mainReset = false ∧ (∀ c ∈ [0, 1, 2, 3], s.carries (4 * p.val + c) = true) ∧ rxError (s.maxLen
  p.val) (b.length + 4) trunc code badFcs = some why ∧ s.takeCells (p.val % 2) p.val ((b.length + 4 + 255) / 256) =
  some cells ∧ s.intakeOpen p.val = true :=
  ⟨0, 0, 0, List.replicate 60 0, false, false, true, 0, 0, 0, (1, 0), Why.rxFcs, portUp, by decide +kernel⟩

/-- The conditions of `FrameIntakeCompletes`, clause frameIntakeFull. -/
theorem meets_frameIntakeFull : ∃ (off dur : Nat) (p : Port) (b : List (BitVec 8)) (trunc code badFcs : Bool) (ti corr
  uncorr : Nat) (s : State), (s.at off).inService (pairOf p.val) = true ∧ s.link p.val = true ∧ s.pins.mainReset =
  false ∧ (∀ c ∈ [0, 1, 2, 3], s.carries (4 * p.val + c) = true) ∧ (s.takeCells (p.val % 2) p.val ((b.length + 4 + 255)
  / 256) = none ∨ s.intakeOpen p.val = false) :=
  ⟨0, 0, 0, List.replicate 60 0, false, false, false, 0, 0, 0, portFull, by decide +kernel⟩

/-- The conditions of `FrameIntakeCompletes`, clause frameIntakeOut. -/
theorem meets_frameIntakeOut : ∃ (off dur : Nat) (p : Port) (b : List (BitVec 8)) (trunc code badFcs : Bool) (ti corr
  uncorr : Nat) (s : State), (s.at off).inService (pairOf p.val) = false ∨ s.link p.val = false ∨ s.pins.mainReset =
  true ∨ (∃ c ∈ [0, 1, 2, 3], s.carries (4 * p.val + c) = false) :=
  ⟨0, 0, 0, [], false, false, false, 0, 0, 0, State.reset, by decide +kernel⟩

/-- The conditions of `CaptureAndParseComplete`, clause captureDeadline. -/
theorem meets_captureDeadline : ∃ (off n : Nat) (c : Capture) (s : State), s.pipe.captures[n]? = some c ∧ c.deadline ≤
  (s.at off).count :=
  ⟨0, 0, ⟨some 7, 1, 0, 0, 0, 0, [], 0⟩, captureLate, by decide +kernel⟩

/-- The conditions of `CaptureAndParseComplete`, clause captureFrees. -/
theorem meets_captureFrees : ∃ (off n id : Nat) (c : Capture) (f : Frame) (s : State), s.pipe.captures[n]? = some c ∧
  c.deadline ≤ (s.at off).count ∧ c.frame = some id ∧ s.frame? id = some f ∧ f.holds ≤ 1 :=
  ⟨0, 0, 7, ⟨some 7, 1, 0, 0, 0, 0, [], 0⟩, { Frame.blank with holds := 1 }, captureLate, by decide +kernel⟩

/-- The conditions of `CaptureAndParseComplete`, clause parseFrame. -/
theorem meets_parseFrame : ∃ (off : Nat) (i : Pipe) (id : Nat) (rest : List Nat) (s u : State) (o : Option Nat),
  s.queue i.val 2 = id :: rest ∧ ((s.at off).takeHead i.val 2).ptpParse (s.frame id) (parseBytes (s.inForce (Pg.stg
  i.val 2) F.STG_S2_TPID) (s.frame id).bytes) (s.inForce (Pg.stg i.val 2) F.STG_S2_TPID) = (o, u) :=
  ⟨0, 0, 0, [], { State.reset with pipe := { State.reset.pipe with queues := [(2, [0])] } },
    ((({ State.reset with pipe := { State.reset.pipe with queues := [(2, [0])] } } : State).at 0).takeHead 0 2), none,
    by decide +kernel⟩

/-- The conditions of `FlowLookupsComplete`, clause flowLookup. -/
theorem meets_flowLookup : ∃ (off : Nat) (i : Pipe) (id : Nat) (rest : List Nat) (s u w : State) (key n : Nat) (e :
  CacheEntry), u = (s.at off).updateClock (i.val = 0) ∧ (s.at off).updateWaits (i.val = 0) = false ∧ s.queue i.val 3 =
  id :: rest ∧ w = (if i.val = 1 then u.noteP1 else u).takeHead i.val 3 ∧ flowKey (w.frame id) = some key ∧
  w.cacheFind key (keyHash key) = some (n, e) :=
  ⟨0, 0, 0, [], flowState, _, _, flowKeyOf, 16 * (keyHash flowKeyOf % 8192),
    ⟨{ FlowRec.zero with key := flowKeyOf, valid := true }, none, false, 0⟩, rfl, by decide +kernel, by
    decide +kernel, rfl, by decide +kernel⟩

/-- The conditions of `FlowLookupsComplete`, clause flowNoKey. -/
theorem meets_flowNoKey : ∃ (off : Nat) (i : Pipe) (id : Nat) (rest : List Nat) (s u w : State), u = (s.at
  off).updateClock (i.val = 0) ∧ (s.at off).updateWaits (i.val = 0) = false ∧ s.queue i.val 3 = id :: rest ∧ w = (if
  i.val = 1 then u.noteP1 else u).takeHead i.val 3 ∧ flowKey (w.frame id) = none :=
  ⟨0, 1, 0, [], flowAt 1 [(0, Frame.blank)], _, _, rfl, by decide +kernel, by decide +kernel, rfl, by decide +kernel⟩

/-- The conditions of `FlowLookupsComplete`, clause flowMiss. -/
theorem meets_flowMiss : ∃ (off : Nat) (i : Pipe) (id : Nat) (rest : List Nat) (s u w : State) (key : Nat), u = (s.at
  off).updateClock (i.val = 0) ∧ (s.at off).updateWaits (i.val = 0) = false ∧ s.queue i.val 3 = id :: rest ∧ w = (if
  i.val = 1 then u.noteP1 else u).takeHead i.val 3 ∧ flowKey (w.frame id) = some key ∧ w.cacheFind key (keyHash key) =
  none ∧ (∀ m ∈ w.pipe.misses, m.key ≠ key) ∧ w.cacheOnly = false ∧ w.freeWay (keyHash key) ≠ none ∧
  w.pipe.misses.length < 512 :=
  ⟨0, 0, 0, [], flowAsked, _, _, flowKeyOf, rfl, by decide +kernel, by decide +kernel, rfl, by decide +kernel⟩

/-- The conditions of `FlowLookupsComplete`, clause flowPending. -/
theorem meets_flowPending : ∃ (off : Nat) (i : Pipe) (id : Nat) (rest : List Nat) (s u w : State) (key : Nat), u =
  (s.at off).updateClock (i.val = 0) ∧ (s.at off).updateWaits (i.val = 0) = false ∧ s.queue i.val 3 = id :: rest ∧ w =
  (if i.val = 1 then u.noteP1 else u).takeHead i.val 3 ∧ flowKey (w.frame id) = some key ∧ w.cacheFind key (keyHash
  key) = none ∧ (∃ m ∈ w.pipe.misses, m.key = key) :=
  ⟨0, 0, 0, [], flowPend, _, _, flowKeyOf, rfl, by decide +kernel, by decide +kernel, rfl, by decide +kernel⟩

/-- The conditions of `FlowLookupsComplete`, clause flowMissReturn. -/
theorem meets_flowMissReturn : ∃ (off n : Nat) (m : Miss) (s v w : State), s.pipe.misses[n]? = some m ∧ v = (s.at
  off).updateClock ((s.at off).missOf m 0) ∧ w = (if (s.at off).missOf m 1 then v.noteP1 else v).pipeMap (fun p =>
  { p with misses := p.misses.eraseIdx n }) ∧ w.cacheOnly = false ∧ (w.slotsOf m.hash).find? (fun k => (w.slotRec
  k).valid && (w.slotRec k).key = m.key) = none ∧ (s.at off).updateWaits ((s.at off).missOf m 0) = false ∧ (s.at
  off).ddrBusy ((s.at off).slotAddr (8 * (s.at off).bucketOf m.hash)) 1024 = false ∧ (s.at off).ddrPoison ((s.at
  off).slotAddr (8 * (s.at off).bucketOf m.hash)) 1024 = false :=
  ⟨0, 0, missOf, flowPend, _, _, by decide +kernel, rfl, rfl, by decide +kernel⟩

/-- The conditions of `FlowLookupsComplete`, clause flowMissFound. -/
theorem meets_flowMissFound : ∃ (off n k : Nat) (m : Miss) (x : Nat × State) (s v w : State), s.pipe.misses[n]? = some
  m ∧ v = (s.at off).updateClock ((s.at off).missOf m 0) ∧ w = (if (s.at off).missOf m 1 then v.noteP1 else v).pipeMap
  (fun p => { p with misses := p.misses.eraseIdx n }) ∧ w.cacheOnly = false ∧ (w.slotsOf m.hash).find? (fun k =>
  (w.slotRec k).valid && (w.slotRec k).key = m.key) = some k ∧ (s.at off).updateWaits ((s.at off).missOf m 0) = false
  ∧ w.install m.hash (s.slotRec k) (some k) false = some x ∧ (s.at off).ddrBusy ((s.at off).slotAddr (8 * (s.at
  off).bucketOf m.hash)) 1024 = false ∧ (s.at off).ddrPoison ((s.at off).slotAddr (8 * (s.at off).bucketOf m.hash))
  1024 = false :=
  ⟨0, 0, flowSlot, missOf, (16 * (keyHash flowKeyOf % 8192), flowBack.setCache (16 * (keyHash flowKeyOf % 8192))
    ⟨flowBack.slotRec flowSlot, some flowSlot, false, 0⟩), flowFound, _, _, by decide +kernel, rfl, rfl, by
    decide +kernel⟩

/-- The conditions of `FlowLookupsComplete`, a clause of missCacheOnly. -/
theorem meets_missCacheOnly : ∃ (off n : Nat) (m : Miss) (s v w : State), s.pipe.misses[n]? = some m ∧ v = (s.at
  off).updateClock ((s.at off).missOf m 0) ∧ w = (if (s.at off).missOf m 1 then v.noteP1 else v).pipeMap (fun p =>
  { p with misses := p.misses.eraseIdx n }) ∧ w.cacheOnly = true ∧ (s.at off).updateWaits ((s.at off).missOf m 0) =
  false ∧ (s.at off).ddrBusy ((s.at off).slotAddr (8 * (s.at off).bucketOf m.hash)) 1024 = false ∧ (s.at
  off).ddrPoison ((s.at off).slotAddr (8 * (s.at off).bucketOf m.hash)) 1024 = false :=
  ⟨0, 0, missOf, flowPend.setFld ftPage F.STG_FT_STATUS 1, _, _, by decide +kernel, rfl, rfl, by decide +kernel⟩

/-- The conditions of `FlowLookupsComplete`, a clause of flowWaits. -/
theorem meets_flowWaits : ∃ (off : Nat) (i : Pipe) (s : State), s.queue i.val 3 ≠ [] ∧ (s.at off).updateWaits (i.val =
  0) = true :=
  ⟨65535, 0,
    { flowAsked with wdl := { flowAsked.wdl with stopped := false }, pipe := { flowAsked.pipe with lookedP1 := some 65535 } },
    by decide +kernel⟩

/-- The conditions of `FlowLookupsComplete`, clause missLate. -/
theorem meets_missLate : ∃ (off n : Nat) (m : Miss) (s : State), s.pipe.misses[n]? = some m ∧ m.since + s.inForce
  ftPage F.STG_FT_MISS_LIMIT ≤ (s.at off).count :=
  ⟨0, 0, ⟨5, 0, [], 0⟩,
    { State.reset with count := 1000000, pipe := { State.reset.pipe with misses := [⟨5, 0, [], 0⟩] } },
    by decide +kernel⟩

/-- The conditions of `FlowRecordCommandsComplete`, clause recordExpiry. -/
theorem meets_recordExpiry : ∃ (off n : Nat) (e : CacheEntry) (s : State), FMap.get? s.pipe.cache n = some e ∧ e.slot
  = none ∧ e.body.valid = true ∧ (s.at off).idle e.body = true ∧ s.pinned (handleOf n e) = false :=
  ⟨0, 0, ⟨{ FlowRec.zero with valid := true }, none, false, 0⟩,
    { State.reset with count := 2 ^ 40, pipe := { State.reset.pipe with cache := [(0, ⟨{ FlowRec.zero with valid := true }, none, false, 0⟩)] } },
    by decide +kernel⟩

/-- The conditions of `FlowRecordCommandsComplete`, clause annotationReturn. -/
theorem meets_annotationReturn : ∃ (off : Nat) (i : Pipe) (handle : BitVec 32) (b : List (BitVec 8)) (mask : BitVec
  16) (s : State) (w : Nat) (e : CacheEntry), s.cacheOf handle.toNat = some (w, e) ∧ e.body.valid = true :=
  ⟨0, 0, 2147483648, [], 0,
    { State.reset with pipe := { State.reset.pipe with cache := [(0, ⟨{ FlowRec.zero with valid := true }, none, false, 0⟩)] } },
    0, ⟨{ FlowRec.zero with valid := true }, none, false, 0⟩, by decide +kernel⟩

/-- The conditions of `FlowRecordCommandsComplete`, clause ftInit. -/
theorem meets_ftInit : ∃ (off : Nat) (v : Word) (s : State), (s.at off).dropCause ftPage = none ∧ ((s.at off).write
  ftPage 0x108 v).bit ftPage F.STG_FT_CTL_FT_INIT = true ∧ ((s.at off).write ftPage 0x108 v).cacheOnly = false :=
  ⟨0, 0x20#32, State.reset.setFld ftPage F.STG_FT_STATUS 0, by decide +kernel⟩

/-- The conditions of `FlowRecordCommandsComplete`, clause ftInitDone. -/
theorem meets_ftInitDone : ∃ (off : Nat) (s : State), s.bit ftPage F.STG_FT_CTL_FT_INIT = true :=
  ⟨0, State.reset.setFld ftPage F.STG_FT_CTL_FT_INIT 1, by decide +kernel⟩

/-- The conditions of `PipelineMiddleCommandsComplete`, clause streamOrder. -/
theorem meets_streamOrder : ∃ (off : Nat) (i : Pipe) (id : Nat) (rest : List Nat) (s : State), s.queue i.val 4 = id ::
  rest ∧ (((s.at off).takeHead i.val 4).frame id).handle = none :=
  ⟨0, 0, 0, [], { State.reset with pipe := { State.reset.pipe with queues := [(4, [0])] } }, by decide +kernel⟩

/-- The conditions of `PipelineMiddleCommandsComplete`, a clause of streamOrderAny. -/
theorem meets_streamOrderAny : ∃ (off : Nat) (i : Pipe) (id : Nat) (rest : List Nat) (s w : State), s.queue i.val 4 =
  id :: rest ∧ w = (s.at off).takeHead i.val 4 :=
  ⟨0, 0, 0, [], tcpState, _, by decide +kernel, rfl⟩

/-- The conditions of `PipelineMiddleCommandsComplete`, a clause of streamFirst. -/
theorem meets_streamFirst : ∃ (off : Nat) (i : Pipe) (id h : Nat) (rest : List Nat) (f : Frame) (s w : State), s.queue
  i.val 4 = id :: rest ∧ w = (s.at off).takeHead i.val 4 ∧ f = w.frame id ∧ f.handle = some h ∧ f.parse.l4 = true ∧
  f.parse.proto = 6 ∧ w.strm? h f.inst = none ∧ f.parse.stops = false :=
  ⟨0, 0, 0, 0, [], tcpFrame, tcpState, _, by decide +kernel, rfl, by decide +kernel⟩

/-- The conditions of `PipelineMiddleCommandsComplete`, clause holeHoldExpiry. -/
theorem meets_holeHoldExpiry : ∃ (handle : BitVec 32) (dir : Fin 2) (s : State) (x : Strm), s.count % 65536 = 0 ∧
  s.strm? handle.toNat dir.val = some x ∧ s.holeDue x = true :=
  ⟨0, 0, holeState, holeStrm, by decide +kernel⟩

/-- The conditions of `PipelineMiddleCommandsComplete`, clause fileCarve. -/
theorem meets_fileCarve : ∃ (off : Nat) (i : Pipe) (id : Nat) (rest : List Nat) (s : State), s.queue i.val 5 = id ::
  rest ∧ (((s.at off).takeHead i.val 5).frame id).handle = none :=
  ⟨0, 0, 0, [], { State.reset with pipe := { State.reset.pipe with queues := [(5, [0])] } }, by decide +kernel⟩

/-- The conditions of `PipelineMiddleCommandsComplete`, clause featureBuild. -/
theorem meets_featureBuild : ∃ (off : Nat) (i : Pipe) (id : Nat) (rest : List Nat) (s : State), s.queue i.val 6 = id
  :: rest :=
  ⟨0, 0, 0, [], { State.reset with pipe := { State.reset.pipe with queues := [(6, [0])] } }, by decide +kernel⟩

/-- The conditions of `PipelineMiddleCommandsComplete`, clause stageStall. -/
theorem meets_stageStall : ∃ (off : Nat) (i : Pipe) (n : Fin 12) (id t0 : Nat) (rest : List (Nat × Nat)) (s : State),
  n.val ≠ 9 ∧ n.val ≠ 10 ∧ s.waiting i.val n.val = (id, t0) :: rest ∧ t0 + s.acceptLimit i.val n.val ≤ (s.at
  off).count :=
  ⟨0, 0, 3, 0, 0, [],
    { State.reset with count := 10000000, pipe := { State.reset.pipe with ready := [(3, [(0, 0)])] } }, by
    decide +kernel⟩

/-- The conditions of `PipelineMiddleCommandsComplete`, a clause of itemStall. -/
theorem meets_itemStall : ∃ (off : Nat) (i : Pipe) (n : Fin 12) (it : Item) (t0 : Nat) (rest : List (Item × Nat)) (s :
  State), (n.val = 9 ∨ n.val = 10) ∧ s.itemsWaiting i.val n.val = (it, t0) :: rest ∧ t0 + s.acceptLimit i.val n.val ≤
  (s.at off).count :=
  ⟨0, 0, 9, ⟨0, .primary, 0, [], 64, 0, false⟩, 0, [],
    { State.reset with count := 10000000, pipe := { State.reset.pipe with itemWait := [(9, [(⟨0, .primary, 0, [], 64, 0, false⟩, 0)])] } },
    by decide +kernel⟩

/-- The conditions of `PipelineMiddleCommandsComplete`, clause scoreDispatch. -/
theorem meets_scoreDispatch : ∃ (off : Nat) (i : Pipe) (id : Nat) (rest : List Nat) (s : State), s.queue i.val 7 = id
  :: rest ∧ s.waiting i.val 6 = [] ∧ (i.val = 0 → (s.at off).noClock s.pipe.sentP1 = false) ∧ (s.at off).noClock
  s.energy.inAt = false :=
  ⟨0, 0, 0, [], { State.reset with pipe := { State.reset.pipe with queues := [(7, [0])] } }, by decide +kernel⟩

/-- The conditions of `PipelineMiddleCommandsComplete`, clause scoreRecord. -/
theorem meets_scoreRecord : ∃ (off : Nat) (r : ScoreRec) (id : Nat) (s : State), r.verdict.val < 6 ∧ s.heldFrame
  r.inst.val r.port.val r.pseq.toNat = some id ∧ (s.frame id).joined = false ∧ (s.at off).count < (s.frame
  id).joinDeadline :=
  ⟨0, ⟨0, 0, 0, 1, 0, false, false, false, 0, 0⟩, 0,
    { State.reset with pipe := { State.reset.pipe with queues := [(8, [0])], frames := [(0, { Frame.blank with stamp := 100000 })] } },
    by decide +kernel⟩

/-- The conditions of `PipelineMiddleCommandsComplete`, clause scorePacket. -/
theorem meets_scorePacket : ∃ (off : Nat) (batch : Word) (r : ScoreRec) (s : State), r.tier = 2 :=
  ⟨0, 0, ⟨0, 0, 0, 2, 0, false, false, false, 0, 0⟩, State.reset, by decide +kernel⟩

/-- The conditions of `PipelineMiddleCommandsComplete`, clause joinDeadline. -/
theorem meets_joinDeadline : ∃ (off : Nat) (p : Port) (pseq : BitVec 32) (id : Nat) (s : State), s.heldFrame (p.val %
  2) p.val pseq.toNat = some id ∧ (s.frame id).joinDeadline ≤ (s.at off).count ∧ (s.frame id).joined = false :=
  ⟨0, 0, 0, 0,
    { State.reset with pipe := { State.reset.pipe with queues := [(8, [0])], frames := [(0, Frame.blank)] } },
    by decide +kernel⟩

/-- The conditions of `PipelineMiddleCommandsComplete`, clause orderRelease. -/
theorem meets_orderRelease : ∃ (off : Nat) (i : Pipe) (id : Nat) (s : State), s.releasable i.val = some id ∧ (s.at
  off).count ≤ (s.frame id).joinDeadline ∧ (s.queue i.val 9).length < 2048 ∧ s.declared 3 2 = false :=
  ⟨0, 0, 0,
    { State.reset with pipe := { State.reset.pipe with queues := [(8, [0])], frames := [(0, { Frame.blank with joined := true })] } },
    by decide +kernel⟩

/-- The conditions of `PipelineMiddleCommandsComplete`, clause ft4Reply. -/
theorem meets_ft4Reply : ∃ (off : Nat) (p : Port) (pseq : BitVec 32) (verdict : Fin 8) (copy : Bool) (id : Nat) (s :
  State), s.awaiting (p.val % 2) p.val pseq.toNat = some id ∧ (s.at off).count < (s.frame id).released.getD 0 + 64 :=
  ⟨0, 0, 0, 4, false, 0,
    { State.reset with pipe := { State.reset.pipe with queues := [(9, [0])], frames := [(0, { Frame.blank with waitFt4 := true, released := some 1 })] } },
    by decide +kernel⟩

/-- The conditions of `PipelineMiddleCommandsComplete`, clause ft4Timeout. -/
theorem meets_ft4Timeout : ∃ (off : Nat) (i : Pipe) (id : Nat) (s : State), (s.queue i.val 9).find? (fun id =>
  (s.frame id).waitFt4 && (s.frame id).released.getD 0 + 64 ≤ (s.at off).count) = some id :=
  ⟨0, 0, 0,
    { State.reset with count := 1000, pipe := { State.reset.pipe with queues := [(9, [0])], frames := [(0, { Frame.blank with waitFt4 := true, released := some 1 })] } },
    by decide +kernel⟩

/-- The conditions of `EgressCommandsComplete`, clause verdictAction. -/
theorem meets_verdictAction : ∃ (off : Nat) (i : Pipe) (id : Nat) (rest : List Nat) (s : State), s.queue i.val 9 = id
  :: rest ∧ (s.frame id).waitFt4 = false :=
  ⟨0, 0, 0, [], { State.reset with pipe := { State.reset.pipe with queues := [(9, [0])] } }, by decide +kernel⟩

/-- The conditions of `EgressCommandsComplete`, clause divertDeadline. -/
theorem meets_divertDeadline : ∃ (off n : Nat) (d : Divert) (s : State), s.pipe.diverts[n]? = some d ∧ d.deadline ≤
  (s.at off).count :=
  ⟨0, 0, ⟨0, 0, false, 0⟩, { State.reset with pipe := { State.reset.pipe with diverts := [⟨0, 0, false, 0⟩] } },
    by decide +kernel⟩

/-- The conditions of `EgressCommandsComplete`, clause copyAccept. -/
theorem meets_copyAccept : ∃ (off n : Nat) (buf : BitVec 64) (c : OutCopy) (s : State), s.pipe.outCopies[n]? = some c
  ∧ (s.at off).count < c.deadline ∧ c.host = true ∧ (s.at off).ringAccepts c.target = true :=
  ⟨0, 0, 0, ⟨0, 0, true, 0, [], 1000⟩, ringState ⟨0, 0, true, 0, [], 1000⟩, by decide +kernel⟩

/-- The conditions of `EgressCommandsComplete`, clause copyDeadline. -/
theorem meets_copyDeadline : ∃ (off n : Nat) (c : OutCopy) (s w : State), w = (List.range 8).foldl State.dropLate
  (s.at off) ∧ w.pipe.outCopies[n]? = some c ∧ c.deadline ≤ w.count :=
  ⟨0, 0, ⟨0, 0, false, 0, [], 0⟩,
    { State.reset with pipe := { State.reset.pipe with outCopies := [⟨0, 0, false, 0, [], 0⟩] } }, _, rfl, by
    decide +kernel⟩

/-- The conditions of `EgressCommandsComplete`, clause spoutTransmit. -/
theorem meets_spoutTransmit : ∃ (off : Nat) (p : Port) (it : Item) (rest : List Item) (s w : State), w = (s.at
  off).dropLate p.val ∧ w.primaries p.val = it :: rest :=
  ⟨0, 0, ⟨0, .primary, 0, [], 64, 0, false⟩, [], State.reset.setOut 0 [⟨0, .primary, 0, [], 64, 0, false⟩] [], _, rfl,
    by decide +kernel⟩

/-- The conditions of `EgressCommandsComplete`, a clause of spoutCopy. -/
theorem meets_spoutCopy : ∃ (off : Nat) (p : Port) (it : Item) (rest : List Item) (s w : State), w = (s.at
  off).dropLate p.val ∧ w.primaries p.val = [] ∧ w.copies p.val = it :: rest :=
  ⟨0, 0, ⟨0, .copy 0, 0, [], 64, 1000, false⟩, [], State.reset.setOut 0 [] [⟨0, .copy 0, 0, [], 64, 1000, false⟩], _,
    rfl, by decide +kernel⟩

/-- The conditions of `EgressCommandsComplete`, clause injectionDescriptor. -/
theorem meets_injectionDescriptor : ∃ (off : Nat) (index : BitVec 16) (q : Port) (len : BitVec 16) (cookie : Word) (b
  : List (BitVec 8)) (s : State), s.bit injPage F.LOC_IJ_CTL_ENABLE = true ∧ (index.toNat + 65536 - s.fld injPage
  F.LOC_IJ_HEAD) % 65536 < (s.fld injPage F.LOC_IJ_TAIL + 65536 - s.fld injPage F.LOC_IJ_HEAD) % 65536 ∧
  s.host.injTaken = [] ∧ s.host.injDone = [] ∧ s.host.injAt = [] ∧ s.fnUnreachable 1 = false ∧ s.pins.mainReset =
  false ∧ s.bit Pg.gbl F.GBL_STATUS_RESTARTING = false ∧ 64 ≤ len.toNat ∧ len.toNat ≤ 1518 ∧ s.txShut q.val = false ∧
  s.engaged (pairOf q.val) = false ∧ (s.primaries q.val).length < 1024 ∧ (s.at off).freeTag ≠ none :=
  ⟨0, 0, 0, 64, 0, [], injState, by decide +kernel⟩

/-- The conditions of `EgressCommandsComplete`, a clause of tapReturnWord. -/
theorem meets_tapReturnWord : ∃ (off : Nat) (tap : Fin 4) (i : Pipe) (r : ScoreRec) (s : State), s.tapIdle tap.val =
  false :=
  ⟨0, 0, 0, ⟨0, 0, 0, 0, 0, false, false, false, 0, 0⟩, State.reset, by decide +kernel⟩

/-- The conditions of `EgressCommandsComplete`, clause tapRecordDelivery. -/
theorem meets_tapRecordDelivery : ∃ (off : Nat) (tap : Fin 4) (i : Pipe) (r : TapRecord) (rest : List TapRecord) (s :
  State), s.tapFifo tap.val i.val = r :: rest ∧ s.tapIdle tap.val = false :=
  ⟨0, 1, 0, ⟨[5]⟩, [], { State.reset with pipe := { State.reset.pipe with taps := [(2, [⟨[5]⟩])] } }, by
    decide +kernel⟩

/-- The conditions of `EgressCommandsComplete`, a clause of tapIdleRecord. -/
theorem meets_tapIdleRecord : ∃ (off : Nat) (tap : Fin 4) (i : Pipe) (s : State), s.tapIdle tap.val = true :=
  ⟨0, 0, 0, (State.reset.setFld (tapPage 0) F.FAB_TAP_DECL_RGN 8).setFld (Pg.fab 3) F.HDR_UNIT_STATE_STATE uFenced, by
    decide +kernel⟩

/-- The conditions of `FabricCommandsComplete`, clause configScrub. -/
theorem meets_configScrub : ∃ (off : Nat) (r : Fin 32) (s : State), s.unit (Pg.fab 61) = uActive ∧ FMap.get?
  s.fabric.scrubs r.val ≠ some (s.at off).scrubPass :=
  ⟨0, 3, State.reset.setFld (Pg.fab 61) F.HDR_UNIT_STATE_STATE uActive, by decide +kernel⟩

/-- The conditions of `FabricCommandsComplete`, clause bramError. -/
theorem meets_bramError : ∃ (off : Nat) (r : Fin 32) (s : State), s.fld (Pg.fab r.val) F.FAB_RGN_BRAM_b0 < 65535 :=
  ⟨0, 3, State.reset, by decide +kernel⟩

/-- The conditions of `FabricCommandsComplete`, clause fcgLockLoss. -/
theorem meets_fcgLockLoss : ∃ (off : Nat) (k : Fin 16) (s : State), s.bit (Pg.fab (45 + k.val)) F.FAB_FCG_STATUS =
  true :=
  ⟨0, 3, State.reset.setFld (Pg.fab 48) F.FAB_FCG_STATUS 1, by decide +kernel⟩

/-- The conditions of `FabricCommandsComplete`, clause clockMonitorOut. -/
theorem meets_clockMonitorOut : ∃ (off : Nat) (d : Fin 248) (khz : Word) (s : State), s.pins.mainReset = false ∧
  s.monitored d.val = true ∧ (s.at off).outOfRange d.val khz.toNat = false :=
  ⟨0, 236, 1562500, { State.reset with pins := { State.reset.pins with mainReset := false } }, by decide +kernel⟩

/-- The conditions of `FabricCommandsComplete`, clause clockMonitorOut of a stopped clock. -/
theorem meets_clockStopped : ∃ (off : Nat) (d : Fin 248) (s : State), s.pins.mainReset = false ∧ s.monitored d.val =
  true ∧ s.fld (Pg.clk (d.val / 16)) (F.CLK_STATUS_b0 (d.val % 16)) ≠ 3 :=
  ⟨0, 236, { State.reset with pins := { State.reset.pins with mainReset := false } }, by decide +kernel⟩

/-- The conditions of `FabricCommandsComplete`, clause uregAccess. -/
theorem meets_uregAccess : ∃ (off : Nat) (o : Fin 8064) (answer : Word) (s : State), s.bit Pg.gbl
  F.GBL_STATUS_RESTARTING = false ∧ s.fabric.ureg = true ∧ s.userClocked = true :=
  ⟨0, 0, 7,
    { State.reset.setFld (Pg.fab 45) F.HDR_UNIT_STATE_STATE uActive with fabric := { State.reset.fabric with ureg := true } },
    by decide +kernel⟩

/-- The conditions of `FabricCommandsComplete`, a clause of uregUnclocked. -/
theorem meets_uregUnclocked : ∃ (off : Nat) (o : Fin 8064) (answer : Word) (s : State), s.bit Pg.gbl
  F.GBL_STATUS_RESTARTING = false ∧ s.fabric.ureg = true ∧ s.userClocked = false :=
  ⟨0, 0, 7, { State.reset with fabric := { State.reset.fabric with ureg := true } }, by decide +kernel⟩

/-- The conditions of `FabricCommandsComplete`, clause uregTimeout. -/
theorem meets_uregTimeout : ∃ (off : Nat) (o : Fin 8064) (s : State), s.fabric.ureg = true :=
  ⟨0, 0, { State.reset with fabric := { State.reset.fabric with ureg := true } }, by decide +kernel⟩

/-- The conditions of `EndpointCommandsComplete`, clause perstDeassert. -/
theorem meets_perstDeassert : ∃ (off : Nat) (s : State), s.pins.perstN = false ∧ s.pcie.cfgPending = false :=
  ⟨0, { State.reset with pins := { State.reset.pins with perstN := false } }, by decide +kernel⟩

/-- The conditions of `EndpointCommandsComplete`, clause cfgReadyWrite. -/
theorem meets_cfgReadyWrite : ∃ (off : Nat) (v : Word) (s : State), v.field 0 1 = 1 ∧ s.bit (Pg.pci 0)
  F.PCI_READY_CFG_READY = false ∧ s.pins.perstN = true :=
  ⟨0, 1, hostUp, by decide +kernel⟩

/-- The conditions of `EndpointCommandsComplete`, clause cfgReadyTimeout. -/
theorem meets_cfgReadyTimeout : ∃ (off : Nat) (s : State), s.bit (Pg.pci 0) F.PCI_READY_CFG_READY = false ∧
  s.pins.perstN = true :=
  ⟨0, hostUp, by decide +kernel⟩

/-- The conditions of `EndpointCommandsComplete`, clause configRequest. -/
theorem meets_configRequest : ∃ (off : Nat) (fn : Fin 62) (r : CfgReg) (s : State), s.linkUp = true ∧ s.pcie.dead =
  false ∧ fn.val ≤ 1 ∧ s.bit (Pg.pci 0) F.PCI_READY_CFG_READY = true :=
  ⟨0, 1, .device, hostUp.setFld (Pg.pci 0) F.PCI_READY_CFG_READY 1, by decide +kernel⟩

/-- The conditions of `EndpointCommandsComplete`, clause vfEnable. -/
theorem meets_vfEnable : ∃ (off : Nat) (s : State), s.pcie.vfEnable = false ∧ s.pcie.numVfs ≤ 6 :=
  ⟨0, State.reset, by decide +kernel⟩

/-- The conditions of `EndpointCommandsComplete`, clause pcieLinkUp. -/
theorem meets_pcieLinkUp : ∃ (off : Nat) (speed width : Fin 5) (s : State), s.pins.perstN = true :=
  ⟨0, 4, 4, hostUp, by decide +kernel⟩

/-- The conditions of `EndpointCommandsComplete`, clause ltssmRecovery. -/
theorem meets_ltssmRecovery : ∃ (off : Nat) (s : State), s.pcie.recovery = false ∧ s.bit (Pg.pci 0) F.PCI_LINK_b8 =
  true :=
  ⟨0, hostUp, by decide +kernel⟩

/-- The conditions of `EndpointCommandsComplete`, clause msixUnmask. -/
theorem meets_msixUnmask : ∃ (off : Nat) (fn : Fin 62) (v : Fin 64) (s : State), v.val < vectorsOf fn.val :=
  ⟨0, 1, 3, hostUp, by decide +kernel⟩

/-- The conditions of `EndpointCommandsComplete`, clause functionLevelReset. -/
theorem meets_functionLevelReset : ∃ (off : Nat) (fn : Fin 62) (s : State), s.bit (Pg.pci 2) (F.PCI_FN_STAT_IN_RESET
  fn.val) = false ∧ fn.val < 2 :=
  ⟨0, 1, hostUp, by decide +kernel⟩

/-- The conditions of `EndpointCommandsComplete`, clause flrComplete. -/
theorem meets_flrComplete : ∃ (off : Nat) (fn : Fin 62) (s : State), s.bit (Pg.pci 2) (F.PCI_FN_STAT_IN_RESET fn.val)
  = true ∧ fn.val < 2 :=
  ⟨0, 1, hostUp.setFld (Pg.pci 2) (F.PCI_FN_STAT_IN_RESET 1) 1, by decide +kernel⟩

/-- The conditions of `EndpointCommandsComplete`, clause bmeClear. -/
theorem meets_bmeClear : ∃ (off : Nat) (fn : Fin 62) (s : State), s.bme fn.val = true ∧ s.bit (Pg.pci 2)
  (F.PCI_FN_STAT_IN_RESET fn.val) = false :=
  ⟨0, 1, hostUp, by decide +kernel⟩

/-- The conditions of `EndpointCommandsComplete`, clause ctoValueChange. -/
theorem meets_ctoValueChange : ∃ (off : Nat) (v : Fin 16) (s : State), v.val ≠ s.pcie.ctoValue :=
  ⟨0, 2, State.reset, by decide +kernel⟩

/-- The conditions of `HostTransferCommandsComplete`, clause deliveryFreePost. -/
theorem meets_deliveryFreePost : ∃ (off : Nat) (f : Fin 61) (k : Fin 4) (tail : BitVec 16) (s : State), s.bit (Pg.pci
  2) (F.PCI_FN_STAT_FENCED (f.val + 1)) = false :=
  ⟨0, 0, 0, 4, hostUp, by decide +kernel⟩

/-- The conditions of `HostTransferCommandsComplete`, clause deliveryAccept. -/
theorem meets_deliveryAccept : ∃ (off n : Nat) (buf : BitVec 64) (d : Divert) (s : State), s.pipe.diverts[n]? = some d
  ∧ (s.at off).ringAccepts d.ring = true ∧ (s.at off).count < d.deadline ∧ d.eapol = false :=
  ⟨0, 0, 0, ⟨0, 0, false, 1000⟩,
    { ringState ⟨0, 0, true, 0, [], 0⟩ with pipe := { State.reset.pipe with diverts := [⟨0, 0, false, 1000⟩] } },
    by decide +kernel⟩

/-- The conditions of `HostTransferCommandsComplete`, clause holdoffExpiry. -/
theorem meets_holdoffExpiry : ∃ (off : Nat) (fn : BitVec 6) (slot : Fin 12) (t0 : Nat) (s : State), FMap.get?
  s.host.slotIrq (16 * fn.toNat + slot.val) = some (t0, true) ∧ slot.val < 8 ∧ t0 + 64 * s.fld (slotPage fn.toNat
  slot.val) F.LOC_CS_CFG_HOLDOFF ≤ (s.at off).count :=
  ⟨0, 1, 0, 0, { hostUp with host := { State.reset.host with slotIrq := [(16, (0, true))] } }, by decide +kernel⟩

/-- The conditions of `HostTransferCommandsComplete`, clause completionArrival. -/
theorem meets_completionArrival : ∃ (off : Nat) (tag : BitVec 10) (b : List (BitVec 8)) (e : TagEntry) (s : State),
  FMap.get? s.pumps.tags tag.toNat = some e ∧ s.tagCurrent e = true :=
  ⟨0, 3, [], tagEntry0, tagState, by decide +kernel⟩

/-- The conditions of `HostTransferCommandsComplete`, clause completionTimeout. -/
theorem meets_completionTimeout : ∃ (off : Nat) (tag : BitVec 10) (us : Nat) (e : TagEntry) (d : Desc) (s : State),
  FMap.get? s.pumps.tags tag.toNat = some e ∧ s.pcie.recovery = false ∧ s.ctoMicros ≤ us ∧ e.orphan = false ∧
  s.tagDesc e = some d ∧ e.retries < 2 :=
  ⟨0, 3, 1000000000, tagEntry0, desc0, tagState, by decide +kernel⟩

/-- The conditions of `HostTransferCommandsComplete`, clause poisonedTlp. -/
theorem meets_poisonedTlp : ∃ (off : Nat) (tag : BitVec 10) (e : TagEntry) (s : State), FMap.get? s.pumps.tags
  tag.toNat = some e ∧ s.tagCurrent e = true :=
  ⟨0, 3, tagEntry0, tagState, by decide +kernel⟩

/-- The conditions of `RyuklinCommandsComplete`, clause rykFrameReceive. -/
theorem meets_rykFrameReceive : ∃ (off : Nat) (n : RykLink) (k : Fin 2) (rx0 rx1 : List (BitVec 66)) (f : RykRx) (s u
  : State), u = (s.at off).linkHeaders n.val rx0 rx1 ∧ u.linkFrame n.val k.val rx0 rx1 = (f, 0) ∧ u.kstate n.val =
  K.up ∧ (u.rlink n.val).realign = false ∧ rxCrc f = f.crc.toNat ∧ f.seq.toNat = (u.rlink n.val).expSeq :=
  ⟨0, 0, 0, goodBits, [], goodFrame, rykUp, _, rfl, by decide +kernel⟩

/-- The conditions of `RyuklinCommandsComplete`, clause llctl. -/
theorem meets_llctl : ∃ (off : Nat) (n : RykLink) (cls : Fin 2) (ack : BitVec 12) (c0 c1 c2 c3 : BitVec 8) (s :
  State), s.kstate n.val = K.up :=
  ⟨0, 0, 0, 0, 0, 0, 0, 0, State.reset.setKstate 0 K.up, by decide +kernel⟩

/-- The conditions of `RyuklinCommandsComplete`, clause replayTimeout. -/
theorem meets_replayTimeout : ∃ (off : Nat) (n : RykLink) (since : Nat) (s : State), (s.at off).replayTmo n.val ≤
  since :=
  ⟨0, 0, 1000000000, State.reset, by decide +kernel⟩

/-- The conditions of `RyuklinCommandsComplete`, clause linkInit. -/
theorem meets_linkInit : ∃ (off : Nat) (n : RykLink) (ack : BitVec 12) (chip : BitVec 16) (peer : RykLink) (s :
  State), s.bit (Pg.ryk 0) F.RYK_CHIP_VALID = true ∧ s.kstate n.val = K.init ∧ (s.rlink n.val).realign = false ∧ s.fld
  (Pg.ryk n.val) F.RYK_STATUS_b3 = 3 ∧ s.ryk.outq = [] ∧ (s.rlink n.val).replay = [] :=
  ⟨0, 0, 0, 7, 5, ((State.reset.setFld (Pg.ryk 0) F.RYK_CHIP_VALID 1).setKstate 0 K.init).setFld (Pg.ryk 0)
    F.RYK_STATUS_b3 3, by decide +kernel⟩

/-- The conditions of `RyuklinCommandsComplete`, clause retrainingTimeout. -/
theorem meets_retrainingTimeout : ∃ (off : Nat) (n : RykLink) (s : State), s.kstate n.val = K.retraining :=
  ⟨0, 0, State.reset.setKstate 0 K.retraining, by decide +kernel⟩

/-- The conditions of `RyuklinCommandsComplete`, clause linkAlign. -/
theorem meets_linkAlign : ∃ (off : Nat) (n : RykLink) (seq depth : BitVec 8) (s : State), s.kstate n.val = K.aligning
  ∧ (s.rlink n.val).pairs = 0 :=
  ⟨0, 0, 0, 3, State.reset.setKstate 0 K.aligning, by decide +kernel⟩

/-- The conditions of `RyuklinCommandsComplete`, clause secondLaneWait. -/
theorem meets_secondLaneWait : ∃ (off : Nat) (n : RykLink) (s : State), s.kstate n.val = K.training ∧ s.upMask n.val ≠
  0 :=
  ⟨0, 0, (State.reset.setKstate 0 K.training).setLstate 32 L.up, by decide +kernel⟩

/-- The conditions of `RyuklinCommandsComplete`, clause linkRewiden. -/
theorem meets_linkRewiden : ∃ (off : Nat) (n : RykLink) (t0 : Nat) (s : State), (s.rlink n.val).secondUp = some t0 ∧
  s.kstate n.val = K.up ∧ t0 + 16 * 65536 ≤ (s.at off).count ∧ (s.at off).count % 65536 = 0 :=
  ⟨0, 0, 0,
    { (State.reset.setKstate 0 K.up).setRlink 0 { RLink.start with secondUp := some 0 } with count := 0x200000 }, by
    decide +kernel⟩

/-- The conditions of `RyuklinCommandsComplete`, clause t3Rsp. -/
theorem meets_t3Rsp : ∃ (off : Nat) (e : Nat × Option Nat × RFrame) (q : T3Req) (s : State), s.ryk.inbox.find? (fun e
  => e.2.2.type = 1 || e.2.2.type = 5) = some e ∧ FMap.get? s.ryk.tags e.2.2.tag = some q ∧ q.dest = e.2.2.src ∧ q.gen
  = e.2.2.gen ∧ e.2.2.type = 1 ∧ e.2.2.status = T3.ok ∧ (s.at off).t3Expired q = false :=
  ⟨0, (0, none, ⟨0, 7, 1, 0, 0, 0, 1, [1, 2, 0, 0]⟩), ⟨0, 0, 0, 7, 0, 0, none, 0, 0⟩,
    { State.reset with ryk := { State.reset.ryk with inbox := [(0, none, ⟨0, 7, 1, 0, 0, 0, 1, [1, 2, 0, 0]⟩)], tags := [(0, ⟨0, 0, 0, 7, 0, 0, none, 0, 0⟩)] } },
    by decide +kernel⟩

/-- The conditions of `RyuklinCommandsComplete`, clause linkFault of a replay buffer entry. -/
theorem meets_replayBad : ∃ (off : Nat) (n : RykLink) (q : BitVec 12) (x : Nat × Nat × Nat × RFrame) (s : State),
  (s.rlink n.val).replay.find? (fun x => x.1 = q.toNat) = some x :=
  ⟨0, 0, 5, (5, 0, 0, ⟨0, 7, 1, 0, 0, 0, 1, []⟩), State.reset.setRlink 0
    { RLink.start with replay := [(5, 0, 0, ⟨0, 7, 1, 0, 0, 0, 1, []⟩)] }, by decide +kernel⟩

/-- The conditions of `RyuklinCommandsComplete`, clause t3Timeout. -/
theorem meets_t3Timeout : ∃ (off : Nat) (tag : BitVec 12) (q : T3Req) (s : State), FMap.get? s.ryk.tags tag.toNat =
  some q ∧ 65536 * s.fld (Pg.ryk 0) F.RYK_T3_TMO ≤ (s.at off).t3Ran q :=
  ⟨0, 0, ⟨0, 0, 0, 7, 0, 0, none, 0, 0⟩,
    { State.reset with count := 2 ^ 50, ryk := { State.reset.ryk with tags := [(0, ⟨0, 0, 0, 7, 0, 0, none, 0, 0⟩)] } },
    by decide +kernel⟩

/-- The conditions of `RyuklinCommandsComplete`, clause t3Req. -/
theorem meets_t3Req : ∃ (off t0 n : Nat) (link : Option Nat) (f : RFrame) (s u w : State), s.nextRequest = some (t0,
  link, f) ∧ s.gwFault = false ∧ (((s.at off).rykMap (fun r =>
  { r with inbox := r.inbox.erase (t0, link, f) })).incFld (Pg.ryk 0) F.RYK_T3_IN).admitIn (min 64 (((f.payload.drop
  64).length + 63) / 64)) = some u ∧ u.graphLoaded = true ∧ u.unitCopy lwlPage = uActive ∧ (List.range
  (u.ryk.served.length + 1)).find? (fun k => (FMap.get? u.ryk.served k).isNone) = some n ∧ u.toRing 0 0 n (t0 + beAt
  f.payload 32 4) false true (windowOf (f.payload.take 16) (f.payload.drop 64)) = some w :=
  ⟨0, 0, 0, none, ⟨0, 7, 0, 0, 0, 0, 1, []⟩, t3State, (t3Taken.admitIn 0).getD State.reset, (((t3Taken.admitIn 0).getD
    State.reset).toRing 0 0 0 0 false true (windowOf [] [])).getD State.reset, by decide +kernel⟩

/-- The conditions of `RyuklinCommandsComplete`, clause copyFrameRx. -/
theorem meets_copyFrameRx : ∃ (off : Nat) (buf : BitVec 64) (e : Nat × Option Nat × RFrame) (s : State),
  s.ryk.inbox.find? (fun e => e.2.2.type = 2) = some e ∧ s.inForce (Pg.ryk 0) F.RYK_CLU_COPY_RING ≠ 0 ∧ (s.at
  off).ringAccepts (s.inForce (Pg.ryk 0) F.RYK_CLU_COPY_RING_b8) = true :=
  ⟨0, 0, (0, none, ⟨0, 7, 2, 0, 0, 0, 1, []⟩), copyRx, by decide +kernel⟩

/-- The conditions of `RyuklinCommandsComplete`, clause refDepthErr. -/
theorem meets_refDepthErr : ∃ (off : Nat) (s : State), s.refRole = 2 ∧ s.rstate = R.locked ∧ s.fld refPage
  F.REF_STATUS_ACTIVE_CAND < 4 ∧ 16 ≤ s.fld (Pg.ryk (s.fld refPage (F.REF_CAND_b0 (s.fld refPage
  F.REF_STATUS_ACTIVE_CAND)))) F.RYK_STATUS_b8 ∧ s.fld (Pg.ryk (s.fld refPage (F.REF_CAND_b0 (s.fld refPage
  F.REF_STATUS_ACTIVE_CAND)))) F.RYK_STATUS_b8 ≠ 0xFF :=
  ⟨0, (((State.reset.setFld refPage F.REF_CTL_ROLE 2).setFld refPage F.REF_STATUS_RSTATE R.locked).setFld refPage
    F.REF_STATUS_ACTIVE_CAND 0).setFld (Pg.ryk 0) F.RYK_STATUS_b8 20, by decide +kernel⟩

/-- The conditions of `NetworkCommandsComplete`, clause packetRoute. -/
theorem meets_packetRoute : ∃ (off : Nat) (r : Fin 128) (o : Fin 5) (vc i : Nat) (p : Packet) (s w : State), w = (s.at
  off).settleAll r.val ∧ w.routes r.val = true ∧ ((List.range 5).foldl (State.countMiss r.val o.val) w).granted r.val
  o.val = some (vc, i, p) ∧ o.val ≠ 4 :=
  ⟨0, 5, 1, 0, 3, plainPacket 6 4 2 0 0 0, routeState, _, rfl, by decide +kernel⟩

/-- The conditions of `NetworkCommandsComplete`, clause gtsDrop. -/
theorem meets_gtsDrop : ∃ (off : Nat) (r : Fin 128) (o : Fin 5) (i : Fin 5) (p : Packet) (s : State), (s.at
  off).headAt r.val o.val i.val 1 = some p ∧ p.since + 8192 ≤ (s.at off).count :=
  ⟨0, 5, 1, 3, plainPacket 6 4 6 0 0 0,
    { State.reset.setNetQueue 5 3 1 [plainPacket 6 4 6 0 0 0] with count := 65536 }, by decide +kernel⟩

/-- The conditions of `NetworkCommandsComplete`, clause linkEccUncorrected. -/
theorem meets_linkEccUncorrected : ∃ (off : Nat) (r : Fin 128) (i : Fin 5) (vc : Fin 4) (p : Packet) (l : List Packet)
  (s : State), s.netQueue r.val i.val vc.val = p :: l :=
  ⟨0, 5, 3, 0, plainPacket 6 4 2 0 0 0, [], State.reset.setNetQueue 5 3 0 [plainPacket 6 4 2 0 0 0],
    by decide +kernel⟩

/-- The conditions of `NetworkCommandsComplete`, clause probeArm. -/
theorem meets_probeArm : ∃ (off : Nat) (i : Fin 16) (v : Word) (s : State), ((s.at off).write (Pg.tnp i.val) 0x044
  v).bit (Pg.tnp i.val) F.TNP_CTL_ARM = true :=
  ⟨0, 0, 1, State.reset, by decide +kernel⟩

/-- The conditions of `TileCommandsComplete`, clause progStart. -/
theorem meets_progStart : ∃ (off : Nat) (t0 : Fin 128) (k : Fin 4) (v : Word) (s w : State), (s.at off).dropCause
  (Pg.tile t0.val) = none ∧ w = ((s.at off).write (Pg.tile t0.val) (0x10C + 16 * k.val) v) ∧ w.bit (Pg.tile t0.val)
  (F.MTL_PROG_CTL_START k.val) = true ∧ (w.setFld (Pg.tile t0.val) (F.MTL_PROG_CTL_START k.val) 0).trigMode t0.val
  k.val = 0 ∧ (w.setFld (Pg.tile t0.val) (F.MTL_PROG_CTL_START k.val) 0).unit (Pg.tile t0.val) = uActive ∧ (w.setFld
  (Pg.tile t0.val) (F.MTL_PROG_CTL_START k.val) 0).bit (Pg.tile t0.val) (F.MTL_PROG_CTL_VALID k.val) = true ∧ (w.tile
  t0.val).op = none :=
  ⟨0, 0, 0, 0x3, State.reset.setFld (Pg.tile 0) F.HDR_UNIT_STATE_STATE uActive, (((State.reset.setFld (Pg.tile 0)
    F.HDR_UNIT_STATE_STATE uActive).at 0).write (Pg.tile 0) 0x10C 0x3), by decide +kernel⟩

/-- The conditions of `TileCommandsComplete`, clause batchPacket. -/
theorem meets_batchPacket : ∃ (off : Nat) (t0 : Fin 128) (p : Packet) (l : List Packet) (s : State), s.edgeIn (posOf
  t0.val) = p :: l ∧ ((s.at off).setEdge (posOf t0.val) l).trigMode t0.val (p.tag % 4) = 1 :=
  ⟨0, 0, plainPacket 0 128 10 0 0 0, [], (State.reset.setEdge 0 [plainPacket 0 128 10 0 0 0]).setFld (Pg.tile 0)
    (F.MTL_PROG_CTL_TRIGGER 0) 1, by decide +kernel⟩

/-- The conditions of `TileCommandsComplete`, clause turnTickTrigger. -/
theorem meets_turnTickTrigger : ∃ (t0 : Fin 128) (s : State), s.count % 65536 = 0 :=
  ⟨0, State.reset, by decide +kernel⟩

/-- The conditions of `TileCommandsComplete`, clause cpl. -/
theorem meets_cpl : ∃ (off : Nat) (t0 : Fin 128) (node : Word) (work : TileWork) (how : OpEnd) (more : Bool) (o :
  TileOp) (x : Tile) (f sat flush : Nat) (s : State), (s.tile t0.val).op = some o ∧ tileWork t0.val (s.inForce (Pg.lwl
  0) F.LWL_EPOCH_ADDR) o.bank (s.tile t0.val) work = some (x, f, sat, flush) :=
  ⟨0, 0, 0, .program [] 0 0 0, .ok, false, op0, { Tile.none with op := some op0 }, 0, 0, 0, State.reset.setTile 0
    { Tile.none with op := some op0 }, by decide +kernel⟩

/-- The conditions of `TileCommandsComplete`, a clause of cplFormat. -/
theorem meets_cplFormat : ∃ (off : Nat) (t0 : Fin 128) (node : Word) (work : TileWork) (how : OpEnd) (more : Bool) (o
  : TileOp) (s : State), (s.tile t0.val).op = some o ∧ tileWork t0.val (s.inForce (Pg.lwl 0) F.LWL_EPOCH_ADDR) o.bank
  (s.tile t0.val) work = none ∧ resultFmt (workFmt work) = true :=
  ⟨0, 0, 0, .vector vec0, .ok, false, op0, State.reset.setTile 0 { Tile.none with op := some op0 }, by decide +kernel⟩

/-- The conditions of `TileCommandsComplete`, clause operationTimeout. -/
theorem meets_operationTimeout : ∃ (off : Nat) (t0 : Fin 128) (o : TileOp) (s : State), (s.tile t0.val).op = some o ∧
  o.start + o.bound ≤ (s.at off).count :=
  ⟨0, 0, op0, { State.reset.setTile 0 { Tile.none with op := some op0 } with count := 65536 }, by decide +kernel⟩

/-- The conditions of `TileCommandsComplete`, clause scoreClose. -/
theorem meets_scoreClose : ∃ (off : Nat) (b k : Nat) (items : List (Nat × Nat × Nat)) (s : State), s.batches.run =
  some (b, k, items) ∧ (s.at off).closeAt ≤ (s.at off).count :=
  ⟨0xFFFF, 0, 0, [(0, 0, 7)],
    { State.reset with count := 0x1FFFF, batches := { State.reset.batches with run := some (0, 0, [(0, 0, 7)]) } },
    by decide +kernel⟩

/-- The conditions of `TileCommandsComplete`, clause knownAnswerCheck. -/
theorem meets_knownAnswerCheck : ∃ (off : Nat) (t0 : Fin 128) (s : State), s.unit (Pg.tile t0.val) ∈ [uReady, uActive,
  uDraining] ∧ (s.tile t0.val).checked + max 16 ((s.at off).inForce (Pg.tile t0.val) F.MTL_CHECK) ≤ (s.at off).turn :=
  ⟨0, 0, { State.reset.setFld (Pg.tile 0) F.HDR_UNIT_STATE_STATE uActive with count := 0x10000000 }, by
    decide +kernel⟩

/-- The conditions of `TileCommandsComplete`, clause localStoreUncorrectable. -/
theorem meets_localStoreUncorrectable : ∃ (off : Nat) (t0 : Fin 128) (o : TileOp) (s a : State), (s.tile t0.val).op =
  some o ∧ a = (((s.at off).incFld (Pg.tile t0.val) F.MTL_ECC_b16).raiseIrq (Pg.tile t0.val) 2).cutOp t0.val
  TStat.storeUncorr o :=
  ⟨0, 0, op0, State.reset.setTile 0 { Tile.none with op := some op0 }, _, by decide +kernel, rfl⟩

/-- The conditions of `LightwellCommandsComplete`, clause windowProject. -/
theorem meets_windowProject : ∃ (off : Nat) (w : RingSlot) (rest : List RingSlot) (t0 : Nat) (s : State), s.lwl.ring =
  w :: rest ∧ s.unit lwlPage = uActive ∧ s.lwl.until' ≤ (s.at off).count ∧ (s.at off).count < w.deadline ∧ s.netFault
  = false ∧ (s.at off).stepsForced = false ∧ s.lwState = LS.running ∧ w.lite = false ∧ s.lwl.epoch ≠ none ∧
  s.nextConsumer = some t0 :=
  ⟨0, slot0, [], 3, lwRun, by decide +kernel⟩

/-- The conditions of `LightwellCommandsComplete`, clause calStep. -/
theorem meets_calStep : ∃ (off : Nat) (m : CalMeasure) (s : State), (s.at off).calOpen = true ∧ s.lwl.ring = [] ∧
  (s.at off).count % 65536 ≤ 65408 :=
  ⟨0, ⟨[], [], 0, []⟩, lwUp, by decide +kernel⟩

/-- The conditions of `LightwellCommandsComplete`, clause calForce. -/
theorem meets_calForce : ∃ (off : Nat) (m : CalMeasure) (s : State), (s.at off).calOpen = true ∧ (s.at
  off).stepsForced = true :=
  ⟨0, ⟨[], [], 0, []⟩, { lwUp with count := 63488 }, by decide +kernel⟩

/-- The conditions of `LightwellCommandsComplete`, clause epochWrite. -/
theorem meets_epochWrite : ∃ (off : Nat) (e d : Epoch) (s : State), s.lwl.due = some d ∧ e =
  { d with num := match s.lwl.epoch with | some f => (f.num + 1) % 256 | none => d.num } ∧ s.lwl.writing = none ∧
  FMap.get? s.lwl.tagged (e.num % 4) = none ∧ s.unit lwlPage = uActive ∧ s.epochTargets ≠ [] :=
  ⟨0, epoch0, epoch0, epochDue, by decide +kernel⟩

/-- The conditions of `LightwellCommandsComplete`, clause epochAck. -/
theorem meets_epochAck : ∃ (off : Nat) (t0 : Fin 96) (e : Epoch) (s : State), t0.val ∉ s.lwl.stale ∧ s.lwl.writing =
  some (e, [t0.val]) :=
  ⟨0, 3, epoch0, lwUp.lwlMap (fun l => { l with writing := some (epoch0, [3]) }), by decide +kernel⟩

/-- The conditions of `LightwellCommandsComplete`, clause consumerStale. -/
theorem meets_consumerStale : ∃ (off : Nat) (t0 : Fin 96) (s : State), t0.val ∉ s.lwl.stale :=
  ⟨0, 0, State.reset, by decide +kernel⟩

/-- The conditions of `LightwellCommandsComplete`, clause settleEnd. -/
theorem meets_settleEnd : ∃ (off : Nat) (s : State), s.lwState = LS.settling ∧ s.lwl.settle ≤ (s.at off).count ∧
  s.lwl.first = true :=
  ⟨0, (lwUp.setLw LS.settling).lwlMap (fun l => { l with first := true }), by decide +kernel⟩

/-- The conditions of `LightwellCommandsComplete`, clause lwlReinstate. -/
theorem meets_lwlReinstate : ∃ (off : Nat) (c : Fin 64) (s : State), (s.at off).dropCause (Pg.lwl (9 + c.val / 8)) =
  none ∧ s.bit (Pg.lwl (9 + c.val / 8)) ⟨0x040, c.val % 8, 1⟩ = false ∧ FMap.get? s.lwl.tests c.val = none ∧
  s.inRetired c.val = true :=
  ⟨0, 3, State.reset.setFld (Pg.lwl 9) F.LWL_CG_RETIRED_b0 8, by decide +kernel⟩

/-- The conditions of `LightwellCommandsComplete`, clause lwlReinstateDone. -/
theorem meets_lwlReinstateDone : ∃ (off : Nat) (it : LwlItem) (s : State), FMap.get? s.lwl.tests (lwlKey it) = some
  true :=
  ⟨0, .input 3, State.reset.lwlMap (fun l => { l with tests := [(3, true)] }), by decide +kernel⟩

/-- The conditions of `LightwellCommandsComplete`, clause lwlTableAccess. -/
theorem meets_lwlTableAccess : ∃ (off : Nat) (v : Word) (s : State), (s.at off).dropCause lwlPage = none ∧ s.fld
  lwlPage F.LWL_TBL_ADDR_b0 / 0x4000 ≠ s.lwBank ∧ lwMask (s.fld lwlPage F.LWL_TBL_ADDR_b0) ≠ 0 :=
  ⟨0, 5, State.reset.setFld lwlPage F.LWL_TBL_ADDR_b0 0x4001, by decide +kernel⟩

/-- The conditions of `MemoryCommandsComplete`, clause cisternReadReq. -/
theorem meets_cisternReadReq : ∃ (off : Nat) (b : Fin 16) (p : Packet) (rest : List Packet) (s : State), s.edgeIn
  (edgeNode 2 b.val) = p :: rest ∧ s.unit (Pg.cst b.val) = uActive ∧ p.type = 0 ∧ p.addr / 2 ^ 39 % 2 = 0 ∧ s.cstCause
  b.val p.addr (64 * (p.aux % 32)) false = none ∧ (s.bank b.val).fills.length < 64 :=
  ⟨0, 0, plainPacket (edgeNode 2 0) 5 0 0 0 1, [],
    ({ State.reset with memory := { State.reset.memory with stage := 1 } }.setFld (Pg.cst 0) F.HDR_UNIT_STATE_STATE
    uActive).setEdge (edgeNode 2 0) [plainPacket (edgeNode 2 0) 5 0 0 0 1], by decide +kernel⟩

/-- The conditions of `MemoryCommandsComplete`, clause cisternObjectDown. -/
theorem meets_cisternObjectDown : ∃ (off : Nat) (b : Fin 16) (p : Packet) (rest : List Packet) (s : State), s.edgeIn
  (edgeNode 2 b.val) = p :: rest ∧ s.unit (Pg.cst b.val) = uActive ∧ p.type = 0 ∧ p.addr / 2 ^ 39 % 2 = 1 ∧ s.cstCause
  b.val p.addr (64 * (p.aux % 32)) false = none ∧ s.bank b.val = ⟨[], [], 0, 0⟩ ∧ s.ddrUp = false :=
  ⟨0, 0, plainPacket (edgeNode 2 0) 5 0 0 (2 ^ 39) 1, [],
    ({ State.reset with memory := { State.reset.memory with objects := [(0, (2 ^ 31, 1))] } }.setFld (Pg.cst 0)
    F.HDR_UNIT_STATE_STATE uActive).setEdge (edgeNode 2 0) [plainPacket (edgeNode 2 0) 5 0 0 (2 ^ 39) 1],
    by decide +kernel⟩

/-- The conditions of `MemoryCommandsComplete`, clause fillReturn. -/
theorem meets_fillReturn : ∃ (off : Nat) (b : Fin 16) (n : Fin 64) (tag a : Nat) (reqs : List Packet) (s : State),
  (s.bank b.val).fills[n.val]? = some ⟨tag, reqs, false, a⟩ ∧ s.ddrBusy a 1024 = false ∧ s.ddrUp = true :=
  ⟨0, 0, 0, 5, 64, [], (ddrOn State.reset).setBank 0 ⟨[], [⟨5, [], false, 64⟩], 0, 0⟩, by decide +kernel⟩

/-- The conditions of `MemoryCommandsComplete`, clause objectTableWrite. -/
theorem meets_objectTableWrite : ∃ (off : Nat) (v : Word) (s : State), (s.at off).dropCause (Pg.cst 0) = none ∧ (s.fld
  (Pg.cst 0) F.CST_LIVE >>> (s.fld (Pg.cst 0) F.CST_TBL_ADDR_b0 / 4096)) % 2 = 0 ∧ s.bit (Pg.cst 0)
  F.CST_TBL_ADDR_WORD = false :=
  ⟨0, 5, State.reset, by decide +kernel⟩

/-- The conditions of `MemoryCommandsComplete`, clause objectTableLive. -/
theorem meets_objectTableLive : ∃ (off : Nat) (v : Word) (s : State), (s.at off).dropCause (Pg.cst 0) = none ∧ (s.fld
  (Pg.cst 0) F.CST_LIVE >>> (s.fld (Pg.cst 0) F.CST_TBL_ADDR_b0 / 4096)) % 2 = 1 :=
  ⟨0, 5, State.reset.setFld (Pg.cst 0) F.CST_LIVE 1, by decide +kernel⟩

/-- The conditions of `MemoryCommandsComplete`, clause ddrReadFailed. -/
theorem meets_ddrReadFailed : ∃ (off : Nat) (c : Fin 8) (row : BitVec 24) (line : Fin 128) (s : State), s.ddrGlobal
  c.val (8192 * row.toNat + 64 * line.val) / 64 ∉ s.memory.badDdr :=
  ⟨0, 0, 0, 0, State.reset, by decide +kernel⟩

/-- The conditions of `MemoryCommandsComplete`, clause patrolScrub. -/
theorem meets_patrolScrub : ∃ (off : Nat) (c : Fin 8) (ecs : Word) (s : State), (s.at off).patrolDue c.val = true ∧
  (s.at off).count % 65536 ≤ s.inForce (Pg.dmc 0) F.DMC_SCRUB_SCRUB_TMO :=
  ⟨0, 0, 0, State.reset.setFld (Pg.dmc 0) F.HDR_UNIT_STATE_STATE uActive, by decide +kernel⟩

/-- The conditions of `MemoryCommandsComplete`, clause scrubLate. -/
theorem meets_scrubLate : ∃ (off : Nat) (c : Fin 8) (ecs : Word) (s : State), (s.at off).patrolDue c.val = true ∧
  s.inForce (Pg.dmc 0) F.DMC_SCRUB_SCRUB_TMO ≤ (s.at off).count % 65536 :=
  ⟨0, 0, 0, { State.reset.setFld (Pg.dmc 0) F.HDR_UNIT_STATE_STATE uActive with count := 65535 }, by decide +kernel⟩

/-- The conditions of `MemoryCommandsComplete`, clause dmcRetireGo. -/
theorem meets_dmcRetireGo : ∃ (off : Nat) (c : Fin 8) (v : Word) (s w : State), (s.at off).dropCause (Pg.dmc c.val) =
  none ∧ w = (s.at off).write (Pg.dmc c.val) 0x054 v ∧ w.bit (Pg.dmc c.val) F.DMC_RETIRE_GO = true ∧ (w.setFld (Pg.dmc
  c.val) F.DMC_RETIRE_GO 0).bit (Pg.dmc c.val) F.DMC_RETIRE_HPPR = w.bit (Pg.dmc c.val) F.DMC_RETIRE_HPPR ∧ w.bit
  (Pg.dmc c.val) F.DMC_RETIRE_HPPR = false :=
  ⟨0, 0, 0x80000005, State.reset, (State.reset.at 0).write (Pg.dmc 0) 0x054 0x80000005, by decide +kernel⟩

/-- The conditions of `PumpCommandsComplete`, clause ringDoorbell. -/
theorem meets_ringDoorbell : ∃ (off : Nat) (p : Fin 32) (r : Fin 8) (tail : BitVec 16) (s : State), (s.at
  off).dropCause (Pg.pmp p.val) = none :=
  ⟨0, 0, 0, 5, State.reset, by decide +kernel⟩

/-- The conditions of `MemoryCommandsComplete`, clause rowCopyDone. -/
theorem meets_rowCopyDone : ∃ (off : Nat) (c : Fin 8) (lost : List (Fin 128)) (row : Nat) (rest : List Nat) (s :
  State), (s.chan5 c.val).copying = row :: rest ∧ s.inForce (Pg.dmc 0) F.DMC_PPR = 0 :=
  ⟨0, 0, [], 5, [], State.reset.setChan5 0 { Chan5.zero with copying := [5] }, by decide +kernel⟩

/-- The conditions of `MemoryCommandsComplete`, clause dmcFault. -/
theorem meets_dmcFault : ∃ (off : Nat) (c : Fin 8) (s : State), (s.chan5 c.val).parityAt = none :=
  ⟨0, 0, State.reset, by decide +kernel⟩

/-- The conditions of `MemoryCommandsComplete`, clause dimmThermal. -/
theorem meets_dimmThermal : ∃ (off : Nat) (c : Fin 8) (temp : BitVec 16) (s : State), 95 * 8 < temp.toInt ∧ (s.chan5
  c.val).half = false :=
  ⟨0, 0, 800, State.reset, by decide +kernel⟩

/-- The conditions of `PumpCommandsComplete`, clause pumpChunk. -/
theorem meets_pumpChunk : ∃ (off : Nat) (p : Fin 32) (host : List (BitVec 8)) (r : Nat) (d : Desc) (s : State), (s.at
  off).nextCtx p.val = some r ∧ (((s.at off).noteRound p.val r).ctx p.val r).work.find? (fun d => d.ended.isNone &&
  d.issued < d.len) = some d :=
  ⟨0, 0, [], 0, { Desc.ofBytes (List.replicate 64 0) 0 0 with op := 1, len := 64, issued := 0 }, pumpFill,
    by decide +kernel⟩

/-- The conditions of `PumpCommandsComplete`, clause contextHalt. -/
theorem meets_contextHalt : ∃ (off : Nat) (p : Fin 32) (r : Fin 8) (s : State), (s.at off).dropCause (Pg.pmp p.val) =
  none ∧ s.bit (Pg.pmp p.val) (F.PMP_RING_CTL_ENABLE r.val) = true :=
  ⟨0, 0, 0, pumpFill, by decide +kernel⟩

/-- The conditions of `PumpCommandsComplete`, clause descriptorComplete. -/
theorem meets_descriptorComplete : ∃ (off : Nat) (p : Fin 32) (r : Fin 8) (d : Desc) (rest : List Desc) (s : State),
  (s.ctx p.val r.val).work = d :: rest ∧ d.done = true :=
  ⟨0, 0, 0, { Desc.ofBytes (List.replicate 64 0) 0 0 with len := 64, issued := 64 }, [], pumpDone, by decide +kernel⟩

/-- The conditions of `PumpCommandsComplete`, clause pumpTimeout. -/
theorem meets_pumpTimeout : ∃ (off : Nat) (p : Fin 32) (r : Fin 8) (d : Desc) (rest : List Desc) (s : State), (s.ctx
  p.val r.val).work = d :: rest ∧ d.done = false ∧ d.op = 0 ∧ d.srcSpace = Space.ddr ∧ d.dstSpace = Space.ddr ∧ s.fld
  (Pg.pmp p.val) F.PMP_TMO_DDR_TMO ≤ (s.at off).waited d :=
  ⟨0, 0, 0, { Desc.ofBytes (List.replicate 64 0) 0 0 with srcSpace := 1, dstSpace := 1, len := 64, issued := 0 }, [],
    pumpLate, by decide +kernel⟩

/-- The conditions of `EnergyCommandsComplete`, clause nrgCapWrite. -/
theorem meets_nrgCapWrite : ∃ (off : Nat) (v : Word) (s w : State), (s.at off).dropCause Pg.nrg = none ∧ w = (s.at
  off).write Pg.nrg 0x040 v ∧ w.fld Pg.nrg F.NRG_CAP < w.nrgFloor :=
  ⟨0, 1, floorUp, (floorUp.at 0).write Pg.nrg 0x040 1, by decide +kernel⟩

/-- The conditions of `EnergyCommandsComplete`, clause nrgDebtAdd. -/
theorem meets_nrgDebtAdd : ∃ (off : Nat) (v : Word) (s w : State), (s.at off).dropCause Pg.nrg = none ∧ w = (s.at
  off).write Pg.nrg 0x06C v ∧ w.fld Pg.nrg F.NRG_DEBT + v.field 0 24 < 2 ^ 24 :=
  ⟨0, 7, State.reset, (State.reset.at 0).write Pg.nrg 0x06C 7, by decide +kernel⟩

/-- The conditions of `EnergyCommandsComplete`, clause pmbusPoll. -/
theorem meets_pmbusPoll : ∃ (off : Nat) (r : Fin 8) (x : BitVec 16) (retry : Option (BitVec 16)) (s : State), (s.at
  off).inForce Pg.pwr F.PWR_PM_CTL_EN ≠ 0 ∧ (s.at off).pollNext = some r.val ∧ (s.at off).regulators.getLast? ≠ some
  r.val :=
  ⟨0, 0, 0x0804, none, pollUp, by decide +kernel⟩

/-- The conditions of `EnergyCommandsComplete`, clause poutMaxRead. -/
theorem meets_poutMaxRead : ∃ (off : Nat) (r : Fin 8) (x : BitVec 16) (s : State), (s.at off).inForce Pg.pwr
  F.PWR_PM_CTL_EN ≠ 0 ∧ (s.at off).maxDue r.val = true :=
  ⟨0, 0, 100, pollUp, by decide +kernel⟩

/-- The conditions of `EnergyCommandsComplete`, clause measurementWindowClose. -/
theorem meets_measurementWindowClose : ∃ (off : Nat) (s : State), (s.at off).turn % s.energy.period = 0 ∧ (s.at
  off).count % 65536 = 0 ∧ s.energy.closed ≠ (s.at off).turn ∧ s.unit Pg.pwr = uActive :=
  ⟨0, let s := State.reset.setFld Pg.pwr F.HDR_UNIT_STATE_STATE uActive;
    { s with count := 16 * 65536, energy := { s.energy with accLu := 70000, period := 16 } }, by decide +kernel⟩

/-- The conditions of `EnergyCommandsComplete`, clause thermalSample. -/
theorem meets_thermalSample : ∃ (off : Nat) (x : BitVec 16) (s : State), (∀ k : Fin 16, 0 < k.val → s.tsens k.val <
  signed 16 x.toNat) :=
  ⟨0, 400, State.reset, by decide +kernel⟩

/-- The conditions of `EnergyCommandsComplete`, clause thermalCrit. -/
theorem meets_thermalCrit : ∃ (off : Nat) (k : Fin 16) (s : State), 8 * (s.inForce Pg.pwr F.PWR_THERM_CTL_CRIT : Int)
  ≤ s.tsens k.val :=
  ⟨0, 3, State.reset.setFld Pg.pwr (F.PWR_TSENS 3) 0x7FFF, by decide +kernel⟩

/-- The conditions of `FirmwareCommandsComplete`, clause heartbeatKick. -/
theorem meets_heartbeatKick : ∃ (off : Nat) (w s : State), (s.at off).dutyDue Duty.heartbeat 24 = some w :=
  ⟨0, (fwUp.at 0).dutyDone 0 24, fwUp, by decide +kernel⟩

/-- The conditions of `FirmwareCommandsComplete`, clause floorDuty. -/
theorem meets_floorDuty : ∃ (off : Nat) (w s : State), (s.at off).dutyDue Duty.floor 240 = some w :=
  ⟨0, (fwUp.at 0).dutyDone 2 240, fwUp, by decide +kernel⟩

/-- The conditions of `FirmwareCommandsComplete`, clause crosstalkRefresh. -/
theorem meets_crosstalkRefresh : ∃ (off : Nat) (w s : State), (s.at off).dutyDue Duty.crosstalk 2400 = some w ∧ (∀ e :
  Fin 16, w.tempMoved (Pg.ope e.val) F.OPE_TEMP = false) ∧ w.tempMoved (Pg.lwl 0) F.LWL_TEMP = true :=
  ⟨0, (coolUp.at 0).dutyDone 3 2400, coolUp, by decide +kernel⟩

/-- The conditions of `FirmwareCommandsComplete`, clause reconciliation. -/
theorem meets_reconciliation : ∃ (off : Nat) (s : State), s.dutiesRun = true ∧ s.energy.staleClosed = false ∧
  s.cpc.recon = none ∧ 0 < s.energy.closed ∧ s.energy.acct < s.energy.energy ∧ (s.at off).turn ≤ s.energy.closed + 2
  :=
  ⟨0, { fwUp with energy := { fwUp.energy with closed := 16, acct := 5, energy := 9 } }, by decide +kernel⟩

/-- The conditions of `FirmwareCommandsComplete`, a clause of reconciliationLate. -/
theorem meets_reconciliationLate : ∃ (off : Nat) (s : State), s.dutiesRun = true ∧ s.energy.staleClosed = false ∧
  s.cpc.recon = none ∧ 0 < s.energy.closed ∧ s.energy.energy ≤ s.energy.acct ∧ s.energy.closed + 2 < (s.at off).turn
  :=
  ⟨0, { fwUp with count := 6553600, energy := { fwUp.energy with closed := 16, acct := 9, energy := 9 } }, by
    decide +kernel⟩

/-- The conditions of `FirmwareCommandsComplete`, clause mailboxGo. -/
theorem meets_mailboxGo : ∃ (off : Nat) (seq : BitVec 8) (s w : State), (s.at off).dropCause (Pg.cpc 9) = none ∧ w =
  (((s.at off).write (Pg.cpc 9) 0x040 (BitVec.ofNat 32 (seq.toNat + 256))).setFld (Pg.cpc 9) F.CPC_MB_CTL_GO 0) ∧
  w.mbBusy = false :=
  ⟨0, 5, fwUp, ((fwUp.at 0).write (Pg.cpc 9) 0x040 0x105).setFld (Pg.cpc 9) F.CPC_MB_CTL_GO 0, by decide +kernel⟩

/-- The conditions of `FirmwareCommandsComplete`, clause negotiate. -/
theorem meets_negotiate : ∃ (off : Nat) (s : State), (s.at off).mbBusy = true ∧ (s.at off).mbAwake = true ∧ s.mbOp =
  0x01 ∧ s.fwState ∈ [FW.waitDriver, FW.running, FW.held] ∧ layoutOk s.mbReq [(8, 1), (9, 1), (16, 8), (24, 8)] = true
  ∧ reqAt s.mbReq 8 1 = (s.fwInfo s.runRegion).major.toNat ∧ reqAt s.mbReq 24 8 &&& s.fwBitmap = reqAt s.mbReq 24 8 :=
  ⟨0, mbState FW.waitDriver 0 [0x200001, 0, 0, 0, 5, 0, 0, 0], by decide +kernel⟩

/-- The conditions of `FirmwareCommandsComplete`, clause mbStatus. -/
theorem meets_mbStatus : ∃ (off : Nat) (s : State), (s.at off).mbBusy = true ∧ (s.at off).mbAwake = true ∧ s.mbOp =
  0x02 ∧ s.fwState ∈ [FW.waitDriver, FW.running, FW.held] ∧ layoutOk s.mbReq [] = true ∧ s.agreed / 32 % 2 = 0 :=
  ⟨0, mbState FW.running 0 [0x80002], by decide +kernel⟩

/-- The conditions of `FirmwareCommandsComplete`, clause graphPower. -/
theorem meets_graphPower : ∃ (off : Nat) (s : State), (s.at off).mbBusy = true ∧ (s.at off).mbAwake = true ∧ s.mbOp =
  0x40 ∧ s.fwState ∈ [FW.waitDriver, FW.running] ∧ layoutOk s.mbReq [(8, 2), (10, 2)] = true :=
  ⟨0, mbState FW.running 0 [0x0C0040, 0, 0x50005], by decide +kernel⟩

/-- The conditions of `FirmwareCommandsComplete`, clause logRead. -/
theorem meets_logRead : ∃ (off : Nat) (s : State), (s.at off).mbBusy = true ∧ (s.at off).mbAwake = true ∧ s.mbOp =
  0x50 ∧ s.fwState ∈ [FW.running] ∧ s.agreed / 2 ^ 6 % 2 = 1 ∧ layoutOk s.mbReq [(8, 4), (12, 1)] = true ∧ 0 < reqAt
  s.mbReq 12 1 ∧ reqAt s.mbReq 12 1 ≤ 15 ∧ s.cpc.logBase ≤ reqAt s.mbReq 8 4 :=
  ⟨0, mbState FW.running 64 [0x0D0050, 0, 0, 1], by decide +kernel⟩

/-- The conditions of `FirmwareCommandsComplete`, clause dumpNow. -/
theorem meets_dumpNow : ∃ (off : Nat) (s w : State), (s.at off).dropCause (Pg.cpc 10) = none ∧ w = ((s.at off).write
  (Pg.cpc 10) 0x04C 1).setFld (Pg.cpc 10) F.CPC_DUMP_CTL 0 ∧ w.fwRuns = true :=
  ⟨0, fwUp, ((fwUp.at 0).write (Pg.cpc 10) 0x04C 1).setFld (Pg.cpc 10) F.CPC_DUMP_CTL 0, by decide +kernel⟩

/-- The conditions of `FirmwareCommandsComplete`, clause dumpDataRead. -/
theorem meets_dumpDataRead : ∃ (off : Nat) (s : State), (s.at off).dropCause (Pg.cpc 10) = none ∧ s.bit (Pg.cpc 10)
  F.CPC_DUMP_ADDR_AUTO_INC = true :=
  ⟨0, State.reset.setFld (Pg.cpc 10) F.CPC_DUMP_ADDR_AUTO_INC 1, by decide +kernel⟩

/-- The conditions of `FirmwareCommandsComplete`, clause firmwareCrash. -/
theorem meets_firmwareCrash : ∃ (off : Nat) (core : Fin 8) (complete : Bool) (s w : State), s.fwRuns = true ∧ w =
  (s.at off).writeDump DC.watchdog core.val complete ∧ w.fwState ≠ FW.updating ∧ w.fwRestart.cpc.restarts.length < 3
  :=
  ⟨0, 0, false, fwUp, (fwUp.at 0).writeDump 2 0 false, by decide +kernel⟩

/-- The conditions of `FirmwareCommandsComplete`, clause firmwareInitDone. -/
theorem meets_firmwareInitDone : ∃ (off : Nat) (s : State), s.fwState = FW.init ∧ s.loadState = LS'.done :=
  ⟨0, (State.reset.setFld (Pg.cpc 0) F.CPC_FW_STATE_STATE FW.init).setLoad LS'.done, by decide +kernel⟩

/-- The conditions of `FirmwareCommandsComplete`, clause retirementRecordWrite. -/
theorem meets_retirementRecordWrite : ∃ (off : Nat) (s : State), s.fwState = FW.running ∧ s.pins.mainReset = false ∧
  (s.at off).loadReads = false :=
  ⟨0, { fwUp with pins := { fwUp.pins with mainReset := false } }, by decide +kernel⟩

/-- The conditions of `UpdateCommandsComplete`, clause updateStage. -/
theorem meets_updateStage : ∃ (off : Nat) (s : State), (s.at off).mbBusy = true ∧ (s.at off).mbAwake = true ∧ s.mbOp =
  0x10 ∧ s.fwState ∈ [FW.running, FW.held] ∧ s.agreed / 2 ^ 1 % 2 = 1 ∧ layoutOk s.mbReq [(8, 8), (16, 4), (20, 1)] =
  true ∧ 0 < reqAt s.mbReq 16 4 ∧ reqAt s.mbReq 16 4 ≤ 2 ^ 20 ∧ reqAt s.mbReq 20 1 < 2 ∧ s.upd = UP.idle :=
  ⟨0, mbState FW.running 2 [0x150010, 0, 0, 0, 64], by decide +kernel⟩

/-- The conditions of `UpdateCommandsComplete`, clause updateStaged. -/
theorem meets_updateStaged : ∃ (off : Nat) (b : List (BitVec 8)) (i : FwImage) (u : Update) (s : State), s.cpc.update
  = some u ∧ s.upd = UP.staging ∧ s.dutiesRun = true ∧ s.compatible u i = true :=
  ⟨0, [], ⟨2, 0, 0, 0, 7⟩, update0, updState UP.staging, by decide +kernel⟩

/-- The conditions of `UpdateCommandsComplete`, clause updateCommit. -/
theorem meets_updateCommit : ∃ (off : Nat) (s : State), (s.at off).mbBusy = true ∧ (s.at off).mbAwake = true ∧ s.mbOp
  = 0x11 ∧ s.fwState ∈ [FW.running, FW.held] ∧ s.agreed / 2 ^ 1 % 2 = 1 ∧ layoutOk s.mbReq [(8, 4)] = true ∧ reqAt
  s.mbReq 8 4 = 0 ∧ s.upd = UP.staged ∧ 2 ≤ (s.at off).turnsTo (((s.at off).turn + 2) % 2 ^ 32) :=
  ⟨0, (mbState FW.running 2 [0x0C0011]).setUpd UP.staged 0, by decide +kernel⟩

/-- The conditions of `UpdateCommandsComplete`, clause updateAbort. -/
theorem meets_updateAbort : ∃ (off : Nat) (s : State), (s.at off).mbBusy = true ∧ (s.at off).mbAwake = true ∧ s.mbOp =
  0x12 ∧ s.fwState ∈ [FW.running, FW.held] ∧ s.agreed / 2 ^ 1 % 2 = 1 ∧ layoutOk s.mbReq [] = true ∧ s.upd = UP.staged
  :=
  ⟨0, (mbState FW.running 2 [0x080012]).setUpd UP.staged 0, by decide +kernel⟩

/-- The conditions of `UpdateCommandsComplete`, clause updateHandoff. -/
theorem meets_updateHandoff : ∃ (off : Nat) (u : Update) (s : State), s.cpc.update = some u ∧ s.upd = UP.committed ∧
  (s.at off).turnsTo s.updTurn ≤ 0 ∧ s.fwState = FW.running :=
  ⟨0, update0, updState UP.committed, by decide +kernel⟩

/-- The conditions of `UpdateCommandsComplete`, clause updateAdopted. -/
theorem meets_updateAdopted : ∃ (off : Nat) (u : Update) (s : State), s.cpc.update = some u ∧ s.fwState = FW.updating
  ∧ -2 < (s.at off).turnsTo s.updTurn ∧ u.force = false :=
  ⟨0, update0, (updState UP.committed).setFld (Pg.cpc 0) F.CPC_FW_STATE_STATE FW.updating, by decide +kernel⟩

/-- The conditions of `UpdateCommandsComplete`, clause updateRollback. -/
theorem meets_updateRollback : ∃ (off : Nat) (complete : Bool) (u : Update) (s : State), s.cpc.update = some u ∧
  s.fwState = FW.updating ∧ (s.at off).turnsTo s.updTurn ≤ -2 :=
  ⟨0, false, update0,
    { (updState UP.committed).setFld (Pg.cpc 0) F.CPC_FW_STATE_STATE FW.updating with count := 131072 },
    by decide +kernel⟩

/-- The conditions of `ClusterCommandsComplete`, clause chipRetire. -/
theorem meets_chipRetire : ∃ (off : Nat) (routes : List RouteWrite) (s : State), (s.at off).mbBusy = true ∧ (s.at
  off).mbAwake = true ∧ s.mbOp = 0x30 ∧ s.fwState = FW.running ∧ s.agreed / 2 ^ 2 % 2 = 1 ∧ layoutOk s.mbReq [(8, 2)]
  = true ∧ reqAt s.mbReq 8 2 ∉ s.cpc.retired ∧ reqAt s.mbReq 8 2 ≠ s.ownChip :=
  ⟨0, [], mbState FW.running 4 [0x0A0030, 0, 5], by decide +kernel⟩

/-- The conditions of `ClusterCommandsComplete`, clause chipReinstate. -/
theorem meets_chipReinstate : ∃ (off : Nat) (routes : List RouteWrite) (s : State), (s.at off).mbBusy = true ∧ (s.at
  off).mbAwake = true ∧ s.mbOp = 0x31 ∧ s.fwState = FW.running ∧ s.agreed / 2 ^ 2 % 2 = 1 ∧ layoutOk s.mbReq [(8, 2)]
  = true ∧ reqAt s.mbReq 8 2 ∈ s.cpc.retired :=
  ⟨0, [], (mbState FW.running 4 [0x0A0031, 0, 5]).cpcMap (fun c => { c with retired := [5] }), by decide +kernel⟩

/-- The conditions of `ClusterCommandsComplete`, clause t3RemapSet. -/
theorem meets_t3RemapSet : ∃ (off : Nat) (s : State), (s.at off).mbBusy = true ∧ (s.at off).mbAwake = true ∧ s.mbOp =
  0x32 ∧ s.fwState = FW.running ∧ s.agreed / 2 ^ 3 % 2 = 1 ∧ layoutOk s.mbReq ((8, 1) :: (List.range (reqAt s.mbReq 8
  1)).map (fun i => (16 + 4 * i, 4))) = true ∧ reqAt s.mbReq 8 1 ≤ 16 :=
  ⟨0, mbState FW.running 8 [0x140032, 0, 1, 0, 0x70005], by decide +kernel⟩

/-- The conditions of `ClusterCommandsComplete`, clause helloSend. -/
theorem meets_helloSend : ∃ (off : Nat) (w s : State), (s.at off).dutyDue Duty.hello 24 = some w :=
  ⟨0, (fwUp.at 0).dutyDone 6 24, fwUp, by decide +kernel⟩

/-- The conditions of `ClusterCommandsComplete`, clause ctlHello. -/
theorem meets_ctlHello : ∃ (off : Nat) (link : Nat) (m : List Nat) (s w : State), (s.at off).takeCtl 1 = .inr (w,
  link, m) ∧ beAt m 16 4 ≠ w.digest ∧ beAt m 4 2 ≤ w.epoch :=
  ⟨0, 0, beBytes 2 1 ++ beBytes 2 (8 + ([0, 7, 0, 0, 0, 0, 0, 0, 9, 9, 9, 9, 0, 0, 0, 0] : List Nat).length) ++ [0, 0,
    0, 0] ++ [0, 7, 0, 0, 0, 0, 0, 0, 9, 9, 9, 9, 0, 0, 0, 0], ctlState 1 [0, 7, 0, 0, 0, 0, 0, 0, 9, 9, 9, 9, 0, 0,
    0, 0], ((ctlState 1 [0, 7, 0, 0, 0, 0, 0, 0, 9, 9, 9, 9, 0, 0, 0, 0]).at 0).rykMap (fun r =>
    { r with inbox := [] }), by decide +kernel⟩

/-- The conditions of `ClusterCommandsComplete`, clause ctlRetire. -/
theorem meets_ctlRetire : ∃ (off : Nat) (routes : List RouteWrite) (link : Nat) (m : List Nat) (s w : State), (s.at
  off).takeCtl 2 = .inr (w, link, m) ∧ beAt m 8 2 ∉ w.cpc.retired :=
  ⟨0, [], 0, beBytes 2 2 ++ beBytes 2 (8 + ([0, 5, 2, 0, 0, 7, 0, 0] : List Nat).length) ++ [0, 0, 0, 0] ++ [0, 5, 2,
    0, 0, 7, 0, 0], ctlState 2 [0, 5, 2, 0, 0, 7, 0, 0], ((ctlState 2 [0, 5, 2, 0, 0, 7, 0, 0]).at 0).rykMap (fun r =>
    { r with inbox := [] }), by decide +kernel⟩

/-- The conditions of `ClusterCommandsComplete`, clause ctlReinstate. -/
theorem meets_ctlReinstate : ∃ (off : Nat) (routes : List RouteWrite) (link : Nat) (m : List Nat) (s w : State), (s.at
  off).takeCtl 3 = .inr (w, link, m) ∧ beAt m 8 2 ∈ w.cpc.retired :=
  ⟨0, [], 0, beBytes 2 3 ++ beBytes 2 (8 + ([0, 5, 0, 0, 0, 7, 0, 0] : List Nat).length) ++ [0, 0, 0, 0] ++ [0, 5, 0,
    0, 0, 7, 0, 0], (ctlState 3 [0, 5, 0, 0, 0, 7, 0, 0]).cpcMap (fun c => { c with retired := [5] }), (((ctlState 3
    [0, 5, 0, 0, 0, 7, 0, 0]).cpcMap (fun c => { c with retired := [5] })).at 0).rykMap (fun r =>
    { r with inbox := [] }), by decide +kernel⟩

/-- The conditions of `ClusterCommandsComplete`, clause ctlMembers. -/
theorem meets_ctlMembers : ∃ (off : Nat) (routes : List RouteWrite) (link : Nat) (m : List Nat) (s w : State), (s.at
  off).takeCtl 4 = .inr (w, link, m) ∧ FMap.get? w.cpc.sets link = none ∧ beAt m 8 2 ≤ (ascending ((List.range (min
  (beAt m 12 2) 248)).map (fun i => beAt m (16 + 2 * i) 2))).length ∧ w.epoch < beAt m 4 2 :=
  ⟨0, [], 0, beBytes 2 4 ++ beBytes 2 18 ++ [0, 9, 0, 0] ++ [0, 1, 0, 0, 0, 1, 0, 0, 0, 5], (fwUp.rykMap (fun r =>
    { r with inbox := [(0, some 0, ⟨0, 7, 4, 0, 0, 0, 3, beBytes 2 4 ++ beBytes 2 18 ++ [0, 9, 0, 0] ++ [0, 1, 0, 0, 0, 1, 0, 0, 0, 5]⟩)] })),
    (((fwUp.rykMap (fun r =>
    { r with inbox := [(0, some 0, ⟨0, 7, 4, 0, 0, 0, 3, beBytes 2 4 ++ beBytes 2 18 ++ [0, 9, 0, 0] ++ [0, 1, 0, 0, 0, 1, 0, 0, 0, 5]⟩)] }))).at
    0).rykMap (fun r => { r with inbox := [] }), by decide +kernel⟩

/-- The conditions of `ClusterCommandsComplete`, clause peerLost. -/
theorem meets_peerLost : ∃ (off : Nat) (chip : BitVec 16) (routes : List RouteWrite) (t0 : Nat) (s : State),
  s.dutiesRun = true ∧ FMap.get? s.cpc.noRoute (s.routeKey chip.toNat) = some t0 ∧ t0 + max 48 (s.fld (Pg.cpc 0)
  F.CPC_CLU_CFG_PEER_LOST) ≤ s.safe.ticks ∧ chip.toNat ≠ s.ownChip ∧ chip.toNat ∉ s.cpc.retired :=
  ⟨0, 5, [], 0,
    { fwUp.cpcMap (fun c => { c with noRoute := [(5, 0)] }) with safe := { fwUp.safe with ticks := 100000 } },
    by decide +kernel⟩

/-- The conditions of `ClusterCommandsComplete`, clause selfRetire. -/
theorem meets_selfRetire : ∃ (off : Nat) (routes : List RouteWrite) (s : State), s.dutiesRun = true ∧ max 1 (s.fld
  (Pg.cpc 0) F.CPC_CLU_CFG_SELF_RETIRE) ≤ (s.safe.entries.filter (fun t0 => s.safe.ticks < t0 + 24000)).length ∧
  s.ownChip ∉ s.cpc.retired :=
  ⟨0, [], { fwUp with safe := { fwUp.safe with entries := List.replicate 300 0, ticks := 1 } }, by decide +kernel⟩

/-- The conditions of `ClusterCommandsComplete`, clause collStart. -/
theorem meets_collStart : ∃ (off : Nat) (sends : List PlanSend) (c : Collective) (s w : State), (s.at off).mbBusy =
  true ∧ (s.at off).mbAwake = true ∧ s.mbOp = 0x20 ∧ s.fwState = FW.running ∧ s.agreed / 2 ^ 0 % 2 = 1 ∧ layoutOk
  s.mbReq [(8, 2), (10, 1), (11, 1), (12, 1), (14, 2), (16, 4), (24, 8), (32, 8), (40, 1), (41, 1), (48, 32)] = true ∧
  s.cpc.colls = [] ∧ reqAt s.mbReq 10 1 = 0 ∧ reqAt s.mbReq 11 1 = 0 ∧ reqAt s.mbReq 12 1 = 3 ∧ reqAt s.mbReq 16 4 % 4
  = 0 ∧ reqAt s.mbReq 40 1 ≤ reqAt s.mbReq 41 1 ∧ c =
  { (⟨reqAt s.mbReq 8 2, 0, 0, 3, reqAt s.mbReq 14 2, reqAt s.mbReq 16 4, reqAt s.mbReq 24 8, reqAt s.mbReq 32 8, reqAt s.mbReq 40 1, reqAt s.mbReq 41 1, reqAt s.mbReq 48 32, s.epoch, 0, 0, 0⟩ : Collective) with steps := c.steps }
  ∧ c.steps = (collPlan 0 c.len (s.ringMin) (s.collChips c)).2 ∧ c.steps ≠ 0 ∧ w = (s.at off).cpcMap (fun x =>
  { x with colls := FMap.set x.colls 0 c }) :=
  ⟨0, [], collAsked, mbState FW.running 1 [0x500020, 0, 0x00000005, 3, 64, 0, 0, 0, 4096, 0, 0, 0, 3], ((mbState
    FW.running 1 [0x500020, 0, 0x00000005, 3, 64, 0, 0, 0, 4096, 0, 0, 0, 3]).at 0).cpcMap (fun x =>
    { x with colls := FMap.set x.colls 0 collAsked }), by decide +kernel⟩

/-- The conditions of `ClusterCommandsComplete`, clause collCancel. -/
theorem meets_collCancel : ∃ (off : Nat) (e : Nat × Collective) (s : State), (s.at off).mbBusy = true ∧ (s.at
  off).mbAwake = true ∧ s.mbOp = 0x21 ∧ s.fwState = FW.running ∧ s.agreed / 2 ^ 0 % 2 = 1 ∧ layoutOk s.mbReq [(8, 2)]
  = true ∧ s.cpc.colls.find? (fun e => e.2.id = reqAt s.mbReq 8 2) = some e :=
  ⟨0, (3, coll0), (mbState FW.running 1 [0x0A0021, 0, 5]).cpcMap (fun c => { c with colls := [(3, coll0)] }),
    by decide +kernel⟩

/-- The conditions of `ClusterCommandsComplete`, clause collFrame. -/
theorem meets_collFrame : ∃ (off : Nat) (sends : List PlanSend) (a : Nat × Option Nat) (f : RFrame) (k : Nat) (c :
  Collective) (s : State), s.dutiesRun = true ∧ f.type = 3 ∧ s.ryk.inbox = [(a.1, a.2, f)] ∧ s.cpc.colls = [(k, c)] ∧
  c.id = beAt f.payload 0 2 ∧ c.epoch = beAt f.payload 2 2 ∧ max c.step (beAt f.payload 4 2 + 1) < c.steps :=
  ⟨0, [], (0, none), ⟨0, 7, 3, 0, 0, 0, 1, [0, 5]⟩, 3, coll0, (fwUp.cpcMap (fun c =>
    { c with colls := [(3, coll0)] })).rykMap (fun r =>
    { r with inbox := [(0, none, ⟨0, 7, 3, 0, 0, 0, 1, [0, 5]⟩)] }), by decide +kernel⟩

/-- The conditions of `ClusterCommandsComplete`, clause collTimeout. -/
theorem meets_collTimeout : ∃ (off : Nat) (k : Fin 8) (c : Collective) (s : State), FMap.get? s.cpc.colls k.val = some
  c ∧ s.collTmo ≤ c.ran :=
  ⟨0, 3, { coll0 with ran := 1000000 }, fwUp.cpcMap (fun c =>
    { c with colls := [(3, { coll0 with ran := 1000000 })] }), by decide +kernel⟩

/-- The conditions of `LoadCommandsComplete`, clause coldLoad. -/
theorem meets_coldLoad : ∃ (off : Nat) (sfdp : Option (BitVec 16)) (s : State), s.pins.mainReset = false ∧ s.loadState
  = LS'.idle ∧ s.sstate ≠ SState.warm ∧ s.chainHead = false :=
  ⟨0, none, memberState, by decide +kernel⟩

/-- The conditions of `LoadCommandsComplete`, clause coldLoadFlash. -/
theorem meets_coldLoadFlash : ∃ (off : Nat) (n : BitVec 16) (d : Nat × Nat × Nat × Nat) (s w : State),
  s.pins.mainReset = false ∧ s.loadState = LS'.idle ∧ s.sstate ≠ SState.warm ∧ s.chainHead = true ∧ w = ((((((s.at
  off).loadMap (fun l => { l with tried := [], ended := false, buf := [], resends := 0 })).flashReset).setFld Pg.fls
  F.FLS_SIZE n.toNat).setLoad LS'.scan).journalStart) ∧ w.directory = some d :=
  ⟨0, 16, (1, 0, 0x5A, 0), flashDir, ((((((flashDir.at 0).loadMap (fun l =>
    { l with tried := [], ended := false, buf := [], resends := 0 })).flashReset).setFld Pg.fls F.FLS_SIZE 16).setLoad
    LS'.scan).journalStart), by decide +kernel⟩

/-- The conditions of `LoadCommandsComplete`, clause chunkVerify. -/
theorem meets_chunkVerify : ∃ (off : Nat) (fw : FwImage) (x : LoadSection) (o : OpenSection) (b : List Nat) (s :
  State), s.load.sect = some x ∧ FMap.get? s.sec.sections 0 = some o ∧ x.kind ≠ Kind.firmware ∧ (s.at off).loadSource
  (x.addr + x.next) (min 65536 (beAt x.header 28 4 - o.cipher.length) + 48) = some b ∧ o.left ≠ 0 ∧ s.executing = true
  :=
  ⟨0, ⟨0, 0, 0, 0, 0⟩, sect0 [], ⟨0, 0, [], 1, [], []⟩, List.replicate 48 0xFF, (sectState []).secMap (fun x =>
    { x with sections := [(0, ⟨0, 0, [], 1, [], []⟩)] }), by decide +kernel⟩

/-- The conditions of `LoadCommandsComplete`, clause chunkVerify of a section the module has dropped. -/
theorem meets_chunkDropped : ∃ (off : Nat) (fw : FwImage) (x : LoadSection) (s : State), s.load.sect = some x ∧
  FMap.get? s.sec.sections 0 = none ∧ s.executing = true :=
  ⟨0, ⟨0, 0, 0, 0, 0⟩, sect0 [], sectState [], by decide +kernel⟩

/-- The conditions of `LoadCommandsComplete`, clause cfgNop. -/
theorem meets_cfgNop : ∃ (off : Nat) (b : List Nat) (x x1 : LoadSection) (s w : State), s.executing = true ∧
  s.load.wait = none ∧ s.load.poll = none ∧ s.load.sect = some x ∧ x.kind ≠ Kind.firmware ∧ fetchCmd x = .cmd 0x00 b ∧
  x1 = { x with plain := x.plain.drop b.length, off := x.off + b.length } ∧ w = ((s.at off).diag x 0x00).setSect x1 :=
  ⟨0, [0, 0, 0, 0], sect0 [0, 0, 0, 0], sectTaken 4 [0, 0, 0, 0], sectState [0, 0, 0, 0], cmdState 0 4 [0, 0, 0, 0],
    by decide +kernel⟩

/-- The conditions of `LoadCommandsComplete`, clause waitTurns. -/
theorem meets_waitTurns : ∃ (off : Nat) (b : List Nat) (x x1 : LoadSection) (s w : State), s.executing = true ∧
  s.load.wait = none ∧ s.load.poll = none ∧ s.load.sect = some x ∧ x.kind ≠ Kind.firmware ∧ fetchCmd x = .cmd 0x02 b ∧
  x1 = { x with plain := x.plain.drop b.length, off := x.off + b.length } ∧ w = ((s.at off).diag x 0x02).setSect x1 ∧
  beAt b 2 2 ≠ 0 :=
  ⟨0, [2, 0, 0, 5], sect0 [2, 0, 0, 5], sectTaken 4 [2, 0, 0, 5], sectState [2, 0, 0, 5], cmdState 2 4 [2, 0, 0, 5],
    by decide +kernel⟩

/-- The conditions of `LoadCommandsComplete`, clause waitTurnsExpiry. -/
theorem meets_waitTurnsExpiry : ∃ (off : Nat) (s : State), s.load.wait = some 0 :=
  ⟨0, State.reset.loadMap (fun l => { l with wait := some 0 }), by decide +kernel⟩

/-- The conditions of `LoadCommandsComplete`, a clause of turnStopped. -/
theorem meets_turnStopped : ∃ (m : TurnMeasure) (s : State), s.wdl.stopped = true ∧ s.pins.mainReset = false :=
  ⟨⟨[], 0, 0, 0⟩, { State.reset with pins := { State.reset.pins with mainReset := false } }, by decide +kernel⟩

/-- The conditions of `LoadCommandsComplete`, clause pollStateEnd. -/
theorem meets_pollStateEnd : ∃ (off : Nat) (p st n : Nat) (s : State), s.load.poll = some (p, st, n) ∧ s.unitShown p =
  st :=
  ⟨0, Pg.dmc 0, 0, 5, State.reset.loadMap (fun l => { l with poll := some (Pg.dmc 0, 0, 5) }), by decide +kernel⟩

/-- The conditions of `LoadCommandsComplete`, clause pollState. -/
theorem meets_pollState : ∃ (off : Nat) (b : List Nat) (x x1 : LoadSection) (s w : State), s.executing = true ∧
  s.load.wait = none ∧ s.load.poll = none ∧ s.load.sect = some x ∧ x.kind ≠ Kind.firmware ∧ fetchCmd x = .cmd 0x03 b ∧
  x1 = { x with plain := x.plain.drop b.length, off := x.off + b.length } ∧ w = ((s.at off).diag x 0x03).setSect x1 ∧
  w.unitShown (beAt b 2 2) ≠ b.getD 1 0 :=
  ⟨0, [3, 3, 10, 0, 0, 5, 0, 0], sect0 [3, 3, 10, 0, 0, 5, 0, 0], sectTaken 8 [3, 3, 10, 0, 0, 5, 0, 0], sectState [3,
    3, 10, 0, 0, 5, 0, 0], cmdState 3 8 [3, 3, 10, 0, 0, 5, 0, 0], by decide +kernel⟩

/-- The conditions of `LoadCommandsComplete`, clause pollTimeout. -/
theorem meets_pollTimeout : ∃ (off : Nat) (p st : Nat) (s : State), s.load.poll = some (p, st, 0) ∧ s.unitShown p ≠ st
  :=
  ⟨0, Pg.dmc 0, 3, State.reset.loadMap (fun l => { l with poll := some (Pg.dmc 0, 3, 0) }), by decide +kernel⟩

/-- The conditions of `LoadCommandsComplete`, clause writeReg. -/
theorem meets_writeReg : ∃ (off : Nat) (b : List Nat) (x x1 : LoadSection) (s w : State), s.executing = true ∧
  s.load.wait = none ∧ s.load.poll = none ∧ s.load.sect = some x ∧ x.kind ≠ Kind.firmware ∧ fetchCmd x = .cmd 0x01 b ∧
  x1 = { x with plain := x.plain.drop b.length, off := x.off + b.length } ∧ w = ((s.at off).diag x 0x01).setSect x1 ∧
  x.kind = Kind.full :=
  ⟨0, [1, 0, 10, 0, 0, 72, 0, 0, 0, 0, 0, 7], sect0 [1, 0, 10, 0, 0, 72, 0, 0, 0, 0, 0, 7], sectTaken 12 [1, 0, 10, 0,
    0, 72, 0, 0, 0, 0, 0, 7], sectState [1, 0, 10, 0, 0, 72, 0, 0, 0, 0, 0, 7], cmdState 1 12 [1, 0, 10, 0, 0, 72, 0,
    0, 0, 0, 0, 7], by decide +kernel⟩

/-- The conditions of `LoadCommandsComplete`, clause setFar. -/
theorem meets_setFar : ∃ (off : Nat) (b : List Nat) (x x1 : LoadSection) (s w : State), s.executing = true ∧
  s.load.wait = none ∧ s.load.poll = none ∧ s.load.sect = some x ∧ x.kind ≠ Kind.firmware ∧ fetchCmd x = .cmd 0x10 b ∧
  x1 = { x with plain := x.plain.drop b.length, off := x.off + b.length } ∧ w = ((s.at off).diag x 0x10).setSect x1 ∧
  s.load.src ≠ 2 ∧ farValid (beAt b 4 4) = true :=
  ⟨0, [16, 0, 0, 0, 0, 0, 0, 5], sect0 [16, 0, 0, 0, 0, 0, 0, 5], sectTaken 8 [16, 0, 0, 0, 0, 0, 0, 5], sectState
    [16, 0, 0, 0, 0, 0, 0, 5], cmdState 16 8 [16, 0, 0, 0, 0, 0, 0, 5], by decide +kernel⟩

/-- The conditions of `LoadCommandsComplete`, clause writeFrames. -/
theorem meets_writeFrames : ∃ (off : Nat) (b : List Nat) (x x1 : LoadSection) (s w : State), s.executing = true ∧
  s.load.wait = none ∧ s.load.poll = none ∧ s.load.sect = some x ∧ x.kind ≠ Kind.firmware ∧ fetchCmd x = .cmd 0x11 b ∧
  x1 = { x with plain := x.plain.drop b.length, off := x.off + b.length } ∧ w = ((s.at off).diag x 0x11).setSect x1 ∧
  s.load.src ≠ 2 :=
  ⟨0, [17, 0, 0, 0, 0, 0, 0, 0], sect0 [17, 0, 0, 0, 0, 0, 0, 0], sectTaken 8 [17, 0, 0, 0, 0, 0, 0, 0], sectState
    [17, 0, 0, 0, 0, 0, 0, 0], cmdState 17 8 [17, 0, 0, 0, 0, 0, 0, 0], by decide +kernel⟩

/-- The conditions of `LoadCommandsComplete`, clause repeatFrame. -/
theorem meets_repeatFrame : ∃ (off : Nat) (b : List Nat) (x x1 : LoadSection) (s w : State), s.executing = true ∧
  s.load.wait = none ∧ s.load.poll = none ∧ s.load.sect = some x ∧ x.kind ≠ Kind.firmware ∧ fetchCmd x = .cmd 0x12 b ∧
  x1 = { x with plain := x.plain.drop b.length, off := x.off + b.length } ∧ w = ((s.at off).diag x 0x12).setSect x1 ∧
  s.load.src ≠ 2 :=
  ⟨0, frameCmd, sect0 frameCmd, sectTaken 524 frameCmd, sectState frameCmd, cmdState 0x12 524 frameCmd,
    by decide +kernel⟩

/-- The conditions of `LoadCommandsComplete`, clause loadMem. -/
theorem meets_loadMem : ∃ (off : Nat) (u : State) (b : List Nat) (x x1 : LoadSection) (s w : State), s.executing =
  true ∧ s.load.wait = none ∧ s.load.poll = none ∧ s.load.sect = some x ∧ x.kind ≠ Kind.firmware ∧ fetchCmd x = .cmd
  0x20 b ∧ x1 = { x with plain := x.plain.drop b.length, off := x.off + b.length } ∧ w = ((s.at off).diag x
  0x20).setSect x1 ∧ w.loadMem (b.getD 1 0) (b.getD 2 0) (beAt b 8 8) (sliceOf b 16 (beAt b 4 4)) = some u :=
  ⟨0,
    (((({ sectState [32, 2, 0, 0, 0, 0, 0, 4, 0, 0, 0, 0, 0, 0, 0, 0, 1, 2, 3, 4] with memory := { (sectState [32, 2, 0, 0, 0, 0, 0, 4, 0, 0, 0, 0, 0, 0, 0, 0, 1, 2, 3, 4]).memory with stage := 1 } }).at
    0).diag (sect0 [32, 2, 0, 0, 0, 0, 0, 4, 0, 0, 0, 0, 0, 0, 0, 0, 1, 2, 3, 4]) 0x20).setSect (sectTaken 20 [32, 2,
    0, 0, 0, 0, 0, 4, 0, 0, 0, 0, 0, 0, 0, 0, 1, 2, 3, 4])).directWrite 0 [1, 2, 3, 4], [32, 2, 0, 0, 0, 0, 0, 4, 0,
    0, 0, 0, 0, 0, 0, 0, 1, 2, 3, 4], sect0 [32, 2, 0, 0, 0, 0, 0, 4, 0, 0, 0, 0, 0, 0, 0, 0, 1, 2, 3, 4], sectTaken
    20 [32, 2, 0, 0, 0, 0, 0, 4, 0, 0, 0, 0, 0, 0, 0, 0, 1, 2, 3, 4],
    { sectState [32, 2, 0, 0, 0, 0, 0, 4, 0, 0, 0, 0, 0, 0, 0, 0, 1, 2, 3, 4] with memory := { (sectState [32, 2, 0, 0, 0, 0, 0, 4, 0, 0, 0, 0, 0, 0, 0, 0, 1, 2, 3, 4]).memory with stage := 1 } },
    ((({ sectState [32, 2, 0, 0, 0, 0, 0, 4, 0, 0, 0, 0, 0, 0, 0, 0, 1, 2, 3, 4] with memory := { (sectState [32, 2, 0, 0, 0, 0, 0, 4, 0, 0, 0, 0, 0, 0, 0, 0, 1, 2, 3, 4]).memory with stage := 1 } }).at
    0).diag (sect0 [32, 2, 0, 0, 0, 0, 0, 4, 0, 0, 0, 0, 0, 0, 0, 0, 1, 2, 3, 4]) 0x20).setSect (sectTaken 20 [32, 2,
    0, 0, 0, 0, 0, 4, 0, 0, 0, 0, 0, 0, 0, 0, 1, 2, 3, 4]), by decide +kernel⟩

/-- The conditions of `LoadCommandsComplete`, clause loadEnd. -/
theorem meets_loadEnd : ∃ (off : Nat) (decls : List TapDecl) (ureg : Bool) (tag : List Nat) (b : List Nat) (x x1 :
  LoadSection) (s w : State), s.executing = true ∧ s.load.wait = none ∧ s.load.poll = none ∧ s.load.sect = some x ∧
  x.kind ≠ Kind.firmware ∧ fetchCmd x = .cmd 0x3F b ∧ x1 =
  { x with plain := x.plain.drop b.length, off := x.off + b.length } ∧ w = ((s.at off).diag x 0x3F).setSect x1 ∧ (s.at
  off).loadSource (x.addr + x.next) 16 = some tag :=
  ⟨0, [], false, List.replicate 16 0xFF, [0x3F, 0, 0, 0], sect0 [0x3F, 0, 0, 0], sectTaken 4 [0x3F, 0, 0, 0],
    sectState [0x3F, 0, 0, 0], cmdState 0x3F 4 [0x3F, 0, 0, 0], by decide +kernel⟩

/-- The conditions of `LoadCommandsComplete`, clause cfgContinue. -/
theorem meets_cfgContinue : ∃ (off : Nat) (s : State), (s.at off).dropCause (Pg.cfg 0) = none ∧ s.loadState =
  LS'.holdFw :=
  ⟨0, State.reset.setLoad LS'.holdFw, by decide +kernel⟩

/-- The conditions of `LoadCommandsComplete`, clause holdFwTimeout. -/
theorem meets_holdFwTimeout : ∃ (off : Nat) (s : State), s.loadState = LS'.holdFw ∧ s.load.holdFor = 0 :=
  ⟨0, let s := State.reset.setLoad LS'.holdFw; { s with safe := { s.safe with ticks := 5000 } }, by decide +kernel⟩

/-- The conditions of `LoadCommandsComplete`, clause partGo. -/
theorem meets_partGo : ∃ (off : Nat) (s : State), (s.at off).dropCause (Pg.cfg 2) = none ∧ s.partRuns = false ∧
  s.loadState = LS'.done :=
  ⟨0, State.reset.setLoad LS'.done, by decide +kernel⟩

/-- The conditions of `LoadCommandsComplete`, clause warmReplay. -/
theorem meets_warmReplay : ∃ (off : Nat) (s : State), s.pins.mainReset = false ∧ s.sstate = SState.warm ∧ s.loadState
  = LS'.idle ∧ 2 ≤ s.fld (Pg.cfg 0) F.CFG_STATUS_CFG_SLOT :=
  ⟨0, let s := (State.reset.setSState SState.warm).setFld (Pg.cfg 0) F.CFG_STATUS_CFG_SLOT 2;
    { s with pins := { s.pins with mainReset := false } }, by decide +kernel⟩

/-- The conditions of `LoadCommandsComplete`, clause chainFrame. -/
theorem meets_chainFrame : ∃ (off : Nat) (hop : BitVec 8) (stream : BitVec 16) (payload : List (BitVec 8)) (s :
  State), s.chainHead = false ∧ s.pins.mainReset = false ∧ s.carries 162 = true ∧ s.chainOpen = true ∧ payload.length
  ≤ 4096 ∧ hop ≠ 0 ∧ hop ≠ 0xFF :=
  ⟨0, 2, 5, [1], memberState, by decide +kernel⟩

/-- The conditions of `LoadCommandsComplete`, clause chainResend. -/
theorem meets_chainResend : ∃ (off ms : Nat) (s : State), s.chainHead = true ∧ s.loadState = LS'.done ∧ max 1 (s.fld
  (Pg.cfg 1) F.CFG_CHN_CTL_CHN_TMO) ≤ ms ∧ s.load.resends < s.fld (Pg.cfg 1) F.CFG_CHN_CTL_CHN_RESEND :=
  ⟨0, 1000, (State.reset.setLoad LS'.done).setFld (Pg.cfg 1) F.CFG_CHN_CTL_CHN_RESEND 3, by decide +kernel⟩

/-- The conditions of `LoadCommandsComplete`, clause imageOpen. -/
theorem meets_imageOpen : ∃ (off : Nat) (req : List (BitVec 8)) (i a len : Nat) (rest : List (Nat × Nat × Nat)) (b :
  List Nat) (s : State), s.load.src = 1 ∧ s.load.todo = (i, a, len) :: rest ∧ s.load.sect = none ∧ s.executing = true
  ∧ s.mstate = MS.operational ∧ s.sectHead a = some b :=
  ⟨0, [], 0, 0, 0, [], zeroHead, openState, by decide +kernel⟩

/-- The conditions of `FlashCommandsComplete`, clause flashRead. -/
theorem meets_flashRead : ∃ (off : Nat) (s w : State), (s.at off).dropCause Pg.fls = none ∧ w = ((s.at off).write
  Pg.fls 0x044 9).setFld Pg.fls F.FLS_CMD_GO 0 ∧ ((s.at off).write Pg.fls 0x044 9).fld Pg.fls F.FLS_CMD_OP = 1 ∧
  w.loadReads = false :=
  ⟨0, State.reset, ((State.reset.at 0).write Pg.fls 0x044 9).setFld Pg.fls F.FLS_CMD_GO 0, by decide +kernel⟩

/-- The conditions of `FlashCommandsComplete`, clause flashProgram. -/
theorem meets_flashProgram : ∃ (off : Nat) (s w : State), (s.at off).dropCause Pg.fls = none ∧ w = ((s.at off).write
  Pg.fls 0x044 10).setFld Pg.fls F.FLS_CMD_GO 0 ∧ ((s.at off).write Pg.fls 0x044 10).fld Pg.fls F.FLS_CMD_OP = 2 ∧
  w.loadReads = false :=
  ⟨0, State.reset, ((State.reset.at 0).write Pg.fls 0x044 10).setFld Pg.fls F.FLS_CMD_GO 0, by decide +kernel⟩

/-- The conditions of `FlashCommandsComplete`, clause flashErase. -/
theorem meets_flashErase : ∃ (off : Nat) (s w : State), (s.at off).dropCause Pg.fls = none ∧ w = ((s.at off).write
  Pg.fls 0x044 11).setFld Pg.fls F.FLS_CMD_GO 0 ∧ ((s.at off).write Pg.fls 0x044 11).fld Pg.fls F.FLS_CMD_OP = 3 ∧
  w.loadReads = false :=
  ⟨0, State.reset, ((State.reset.at 0).write Pg.fls 0x044 11).setFld Pg.fls F.FLS_CMD_GO 0, by decide +kernel⟩

/-- The conditions of `FlashCommandsComplete`, clause flashOpDone. -/
theorem meets_flashOpDone : ∃ (off : Nat) (a n : Nat) (data : List Nat) (s : State), s.flash.op = some ⟨2, a, n, data⟩
  :=
  ⟨0, 5, 1, [7], State.reset.flashMap (fun f => { f with op := some ⟨2, 5, 1, [7]⟩ }), by decide +kernel⟩

/-- The conditions of `FlashCommandsComplete`, clause flashOpFailed. -/
theorem meets_flashOpFailed : ∃ (off : Nat) (a n : Nat) (data : List Nat) (s : State), s.flash.op = some ⟨2, a, n,
  data⟩ :=
  ⟨0, 5, 1, [7], State.reset.flashMap (fun f => { f with op := some ⟨2, 5, 1, [7]⟩ }), by decide +kernel⟩

/-- The conditions of `ModuleStatesComplete`, clause secStatusSvc. -/
theorem meets_secStatusSvc : ∃ (off : Nat) (who : Requester) (req : List (BitVec 8)) (r : List Nat) (s : State), r =
  s.secReq who req ∧ (who = .pf0 → s.bit (Pg.sec 0) F.SEC_RSP_BUSY = true ∧ leNat (r.take 2) = 0x0001) ∧ s.mstate ≤ 4
  :=
  ⟨0, .firmware, [], [], secUp, by decide +kernel⟩

/-- The conditions of `ModuleStatesComplete`, clause selftest. -/
theorem meets_selftest : ∃ (off : Nat) (who : Requester) (req : List (BitVec 8)) (r : List Nat) (s : State), r =
  s.secReq who req ∧ (who = .pf0 → s.bit (Pg.sec 0) F.SEC_RSP_BUSY = true ∧ leNat (r.take 2) = 0x0002) ∧ s.mstate =
  MS.operational ∧ s.pins.zeroizeN = true :=
  ⟨0, .firmware, [], [], { secUp with pins := { secUp.pins with zeroizeN := true } }, by decide +kernel⟩

/-- The conditions of `ModuleStatesComplete`, clause secSelftestDone. -/
theorem meets_secSelftestDone : ∃ (off : Nat) (micros : Word) (s w : State), s.mstate = MS.selftest ∧ s.pins.island =
  true ∧ s.pins.resetN = true ∧ w = (((((((s.at off).testBit 0 true).testBit 1 true).testBit 2 true).testBit 3
  true).setFld (Pg.sec 4) F.SEC_ST_TIME micros.toNat).incFld (Pg.sec 4) F.SEC_ST_RUNS) ∧ w.pins.zeroizeN = true :=
  ⟨0, 5, testUp, (((((((testUp.at 0).testBit 0 true).testBit 1 true).testBit 2 true).testBit 3 true).setFld (Pg.sec 4)
    F.SEC_ST_TIME 5).incFld (Pg.sec 4) F.SEC_ST_RUNS), by decide +kernel⟩

/-- The conditions of `ModuleStatesComplete`, clause requestHeld. -/
theorem meets_requestHeld : ∃ (off : Nat) (who : Requester) (req : List (BitVec 8)) (r : List Nat) (s : State), r =
  s.secReq who req ∧ (who = .pf0 → s.bit (Pg.sec 0) F.SEC_RSP_BUSY = true ∧ leNat (r.take 2) = 0x0040) ∧ s.mstate =
  MS.selftest ∧ FMap.get? s.sec.held (requester who) = none ∧ s.sec.testFor.map Prod.fst ≠ some (requester who) :=
  ⟨0, .firmware, [], [], State.reset, by decide +kernel⟩

/-- The conditions of `ModuleStatesComplete`, clause requestRefused. -/
theorem meets_requestRefused : ∃ (off : Nat) (micros : Word) (h : HeldReq) (s w u : State), s.mstate = MS.selftest ∧
  s.pins.island = true ∧ s.pins.resetN = true ∧ w = (((((((s.at off).testBit 0 true).testBit 1 false).testBit 2
  true).testBit 3 true).setFld (Pg.sec 4) F.SEC_ST_TIME micros.toNat).incFld (Pg.sec 4) F.SEC_ST_RUNS) ∧ u = w.secFail
  MS.critical 2 ∧ u.sec.held = [(1, h)] :=
  ⟨0, 5, ⟨0x0040, .firmware, [], []⟩, testHeld, _, _, by decide +kernel, by decide +kernel, by decide +kernel, rfl, rfl,
    (State.secFail_held _ _ _ (by decide +kernel)).trans (by decide +kernel)⟩

/-- The conditions of `ModuleStatesComplete`, clause healthTestFail. -/
theorem meets_healthTestFail : ∃ (off : Nat) (s : State), s.mstate = MS.operational :=
  ⟨0, secUp, by decide +kernel⟩

/-- The conditions of `ModuleStatesComplete`, clause drbgReseed. -/
theorem meets_drbgReseed : ∃ (off : Nat) (s : State), s.mstate = MS.operational ∧ 2 ^ 20 ≤ s.fld (Pg.sec 4)
  F.SEC_DRBG_CNT :=
  ⟨0, secUp.setFld (Pg.sec 4) F.SEC_DRBG_CNT (2 ^ 20), by decide +kernel⟩

/-- The conditions of `ModuleStatesComplete`, clause zeroizeNLow. -/
theorem meets_zeroizeNLow : ∃ (off : Nat) (s : State), s.pins.island = true ∧ s.pins.resetN = true :=
  ⟨0, testUp, by decide +kernel⟩

/-- The conditions of `ModuleStatesComplete`, clause setMode. -/
theorem meets_setMode : ∃ (off : Nat) (who : Requester) (req : List (BitVec 8)) (r : List Nat) (s : State), r =
  s.secReq who req ∧ (who = .pf0 → s.bit (Pg.sec 0) F.SEC_RSP_BUSY = true ∧ leNat (r.take 2) = 0x0050) ∧ s.mstate =
  MS.operational ∧ requester who ∈ s.sec.sessions ∧ r.getD 8 2 < 2 ∧ s.bit (Pg.sec 0) F.SEC_STATUS_MODE_LOCK = false
  :=
  ⟨0, .firmware, [80, 0, 9, 0, 0, 0, 0, 0, 1], [80, 0, 9, 0, 0, 0, 0, 0, 1], secUp, by decide +kernel⟩

/-- The conditions of `ModuleStatesComplete`, clause zeroize. -/
theorem meets_zeroize : ∃ (off : Nat) (who : Requester) (req : List (BitVec 8)) (r : List Nat) (s : State), r =
  s.secReq who req ∧ (who = .pf0 → s.bit (Pg.sec 0) F.SEC_RSP_BUSY = true ∧ leNat (r.take 2) = 0x0051) ∧ s.mstate =
  MS.operational ∧ requester who ∈ s.sec.sessions ∧ r.getD 8 2 = 0 :=
  ⟨0, .firmware, [81, 0, 9, 0, 0, 0, 0, 0, 0], [81, 0, 9, 0, 0, 0, 0, 0, 0], secUp, by decide +kernel⟩

/-- The conditions of `ModuleStatesComplete`, clause debugLock. -/
theorem meets_debugLock : ∃ (off : Nat) (who : Requester) (req : List (BitVec 8)) (r : List Nat) (s : State), r =
  s.secReq who req ∧ (who = .pf0 → s.bit (Pg.sec 0) F.SEC_RSP_BUSY = true ∧ leNat (r.take 2) = 0x0060) ∧ s.mstate ∈
  [MS.operational, MS.error, MS.zeroized] :=
  ⟨0, .firmware, [], [], secUp, by decide +kernel⟩

/-- The conditions of `ModuleStatesComplete`, clause authChallenge. -/
theorem meets_authChallenge : ∃ (off : Nat) (who : Requester) (req : List (BitVec 8)) (r : List Nat) (s : State), r =
  s.secReq who req ∧ (who = .pf0 → s.bit (Pg.sec 0) F.SEC_RSP_BUSY = true ∧ leNat (r.take 2) = 0x0010) ∧ s.mstate =
  MS.operational ∧ r.getD 8 3 ≤ 2 ∧ r.getD 9 2 ≤ 1 :=
  ⟨0, .firmware, [16, 0, 10, 0, 0, 0, 0, 0, 1, 0], [16, 0, 10, 0, 0, 0, 0, 0, 1, 0], secUp, by decide +kernel⟩

/-- The conditions of `ModuleStatesComplete`, clause authResponse. -/
theorem meets_authResponse : ∃ (off : Nat) (who : Requester) (req : List (BitVec 8)) (r : List Nat) (n : Nonce) (p :
  SigBlock × SigBlock) (s : State), r = s.secReq who req ∧ (who = .pf0 → s.bit (Pg.sec 0) F.SEC_RSP_BUSY = true ∧
  leNat (r.take 2) = 0x0011) ∧ s.mstate = MS.operational ∧ (s.at off).nonceOf (requester who) = some n ∧ FMap.get?
  s.sec.stale (requester who) = none ∧ sigPair (r.drop 8) = some p :=
  ⟨0, .firmware, [0x11, 0, 24, 0, 0, 0, 0, 0, 0, 1, 0, 0, 0, 0, 0, 0, 0, 2, 0, 0, 0, 0, 0, 0], [0x11, 0, 24, 0, 0, 0,
    0, 0, 0, 1, 0, 0, 0, 0, 0, 0, 0, 2, 0, 0, 0, 0, 0, 0], ⟨[], 0, 0⟩, (⟨1, 0, [], []⟩, ⟨2, 0, [], []⟩),
    secUp.secMap (fun x => { x with nonces := [(1, ⟨[], 0, 0⟩)] }), by decide +kernel⟩

/-- The conditions of `ModuleStatesComplete`, clause logout. -/
theorem meets_logout : ∃ (off : Nat) (who : Requester) (req : List (BitVec 8)) (r : List Nat) (s : State), r =
  s.secReq who req ∧ (who = .pf0 → s.bit (Pg.sec 0) F.SEC_RSP_BUSY = true ∧ leNat (r.take 2) = 0x0012) ∧ s.mstate =
  MS.operational ∧ requester who ∈ s.sec.sessions :=
  ⟨0, .firmware, [], [], secUp, by decide +kernel⟩

/-- The conditions of `ModuleKeysComplete`, clause secRandom. -/
theorem meets_secRandom : ∃ (off : Nat) (who : Requester) (req : List (BitVec 8)) (r : List Nat) (s : State), r =
  s.secReq who req ∧ (who = .pf0 → s.bit (Pg.sec 0) F.SEC_RSP_BUSY = true ∧ leNat (r.take 2) = 0x0040) ∧ s.mstate =
  MS.operational ∧ 1 ≤ leNat (sliceOf r 8 2) ∧ leNat (sliceOf r 8 2) ≤ 256 :=
  ⟨0, .firmware, [64, 0, 10, 0, 0, 0, 0, 0, 4, 0], [64, 0, 10, 0, 0, 0, 0, 0, 4, 0], secUp, by decide +kernel⟩

/-- The conditions of `ModuleKeysComplete`, clause randomRaw. -/
theorem meets_randomRaw : ∃ (off : Nat) (who : Requester) (req : List (BitVec 8)) (r : List Nat) (s : State), r =
  s.secReq who req ∧ (who = .pf0 → s.bit (Pg.sec 0) F.SEC_RSP_BUSY = true ∧ leNat (r.take 2) = 0x0041) ∧ s.mstate =
  MS.operational ∧ s.approvedMode = false ∧ 1 ≤ leNat (sliceOf r 8 2) ∧ leNat (sliceOf r 8 2) ≤ 256 :=
  ⟨0, .firmware, [65, 0, 10, 0, 0, 0, 0, 0, 4, 0], [65, 0, 10, 0, 0, 0, 0, 0, 4, 0], secPlain, by decide +kernel⟩

/-- The conditions of `ModuleKeysComplete`, clause stkEstablish. -/
theorem meets_stkEstablish : ∃ (off : Nat) (who : Requester) (req : List (BitVec 8)) (r : List Nat) (s : State), r =
  s.secReq who req ∧ (who = .pf0 → s.bit (Pg.sec 0) F.SEC_RSP_BUSY = true ∧ leNat (r.take 2) = 0x0020) ∧ s.mstate =
  MS.operational ∧ requester who ∈ s.sec.sessions ∧ r.getD 8 4 < 4 ∧ 113 ≤ r.length :=
  ⟨0, .firmware, stkReq, stkReq.map BitVec.toNat, secUp, by decide +kernel⟩

/-- The conditions of `ModuleKeysComplete`, clause stkClear. -/
theorem meets_stkClear : ∃ (off : Nat) (who : Requester) (req : List (BitVec 8)) (r : List Nat) (s : State), r =
  s.secReq who req ∧ (who = .pf0 → s.bit (Pg.sec 0) F.SEC_RSP_BUSY = true ∧ leNat (r.take 2) = 0x0021) ∧ s.mstate =
  MS.operational ∧ requester who ∈ s.sec.sessions ∧ r.getD 8 4 < 4 :=
  ⟨0, .firmware, [33, 0, 9, 0, 0, 0, 0, 0, 2], [33, 0, 9, 0, 0, 0, 0, 0, 2], secUp, by decide +kernel⟩

/-- The conditions of `ModuleKeysComplete`, clause sakLoad. -/
theorem meets_sakLoad : ∃ (off : Nat) (who : Requester) (req : List (BitVec 8)) (r : List Nat) (q ctl n k : Nat) (s :
  State), r = s.secReq who req ∧ (who = .pf0 → s.bit (Pg.sec 0) F.SEC_RSP_BUSY = true ∧ leNat (r.take 2) = 0x0030) ∧
  s.mstate = MS.operational ∧ saOperand r = some (q, ctl, n) ∧ 72 ≤ r.length ∧ r.getD 15 2 < 2 ∧ s.saIdle q ctl = true
  ∧ r.getD 14 4 < 4 ∧ FMap.get? s.sec.stks (r.getD 14 4) = some k :=
  ⟨0, .firmware, sakReq, sakReq.map BitVec.toNat, 0, 0x210, 4, 9, secUp.secMap (fun x => { x with stks := [(0, 9)] }),
    by decide +kernel⟩

/-- The conditions of `ModuleKeysComplete`, clause sakLoadPlain. -/
theorem meets_sakLoadPlain : ∃ (off : Nat) (who : Requester) (req : List (BitVec 8)) (r : List Nat) (q ctl n : Nat) (s
  : State), r = s.secReq who req ∧ (who = .pf0 → s.bit (Pg.sec 0) F.SEC_RSP_BUSY = true ∧ leNat (r.take 2) = 0x0032) ∧
  s.mstate = MS.operational ∧ s.approvedMode = false ∧ saOperand r = some (q, ctl, n) ∧ 72 ≤ r.length ∧ r.getD 15 2 <
  2 ∧ s.saIdle q ctl = true :=
  ⟨0, .firmware, sakReq, sakReq.map BitVec.toNat, 0, 0x210, 4, secPlain, by decide +kernel⟩

/-- The conditions of `ModuleKeysComplete`, clause sakClear. -/
theorem meets_sakClear : ∃ (off : Nat) (who : Requester) (req : List (BitVec 8)) (r : List Nat) (q ctl n : Nat) (s :
  State), r = s.secReq who req ∧ (who = .pf0 → s.bit (Pg.sec 0) F.SEC_RSP_BUSY = true ∧ leNat (r.take 2) = 0x0031) ∧
  s.mstate = MS.operational ∧ saOperand r = some (q, ctl, n) ∧ s.saIdle q ctl = true :=
  ⟨0, .firmware, sakReq, sakReq.map BitVec.toNat, 0, 0x210, 4, secUp, by decide +kernel⟩

/-- The conditions of `ModuleKeysComplete`, clause provisionIk. -/
theorem meets_provisionIk : ∃ (off : Nat) (who : Requester) (req : List (BitVec 8)) (r : List Nat) (d stk : Nat) (s :
  State), r = s.secReq who req ∧ (who = .pf0 → s.bit (Pg.sec 0) F.SEC_RSP_BUSY = true ∧ leNat (r.take 2) = 0x0070) ∧
  s.mstate = MS.operational ∧ requester who ∈ s.sec.sessions ∧ r.getD 8 8 < 8 ∧ r.getD 9 4 < 4 ∧ 56 ≤ r.length ∧
  s.sec.dkek = some d ∧ FMap.get? s.sec.stks (r.getD 9 4) = some stk ∧ s.bit (Pg.sec 5) ⟨0x044, r.getD 8 8, 1⟩ = false
  :=
  ⟨0, .firmware, ikReq, ikReq.map BitVec.toNat, 3, 9, secUp.secMap (fun x =>
    { x with dkek := some 3, stks := [(0, 9)] }), by decide +kernel⟩

/-- The conditions of `ModuleKeysComplete`, clause revoke. -/
theorem meets_revoke : ∃ (off : Nat) (who : Requester) (req : List (BitVec 8)) (r : List Nat) (s : State), r =
  s.secReq who req ∧ (who = .pf0 → s.bit (Pg.sec 0) F.SEC_RSP_BUSY = true ∧ leNat (r.take 2) = 0x0071) ∧ s.mstate =
  MS.operational ∧ requester who ∈ s.sec.sessions ∧ r.getD 8 4 = 0 ∧ r.getD 9 8 < 8 ∧ 10 ≤ r.length :=
  ⟨0, .firmware, [113, 0, 10, 0, 0, 0, 0, 0, 0, 2], [113, 0, 10, 0, 0, 0, 0, 0, 0, 2], secUp, by decide +kernel⟩

/-- The conditions of `ModuleKeysComplete`, clause imageChunk. -/
theorem meets_imageChunk : ∃ (off : Nat) (who : Requester) (req : List (BitVec 8)) (r : List Nat) (o : OpenSection)
  (tag : List (BitVec 8)) (s : State), r = s.secReq who req ∧ (who = .pf0 → s.bit (Pg.sec 0) F.SEC_RSP_BUSY = true ∧
  leNat (r.take 2) = 0x0081) ∧ s.mstate = MS.operational ∧ requester who < 2 ∧ FMap.get? s.sec.sections (requester
  who) = some o ∧ 1 < o.left :=
  ⟨0, .firmware, [0x81, 0, 8, 0, 0, 0, 0, 0], [0x81, 0, 8, 0, 0, 0, 0, 0], ⟨0, 0, [], 2, [], []⟩, [], secUp.secMap
    (fun x => { x with sections := [(1, ⟨0, 0, [], 2, [], []⟩)] }), by decide +kernel⟩

/-- The conditions of `NarrowReadHasNoEffect`, clause narrowRead. -/
theorem meets_narrowRead : ∃ (off : Nat) (fn : Fin 62) (addr : BitVec 26) (be : List Bool) (e : Nat × Nat) (s :
  State), (s.at off).dueMarks.barOpen fn.val = true ∧ partsOf addr.toNat be.length (fun i => be.getD i false) = [e] ∧
  e.2 ≠ 0xF ∧ (s.at off).dueMarks.dropCause (barPage fn.val (e.1 / 4096)) = none ∧ userWindow (barPage fn.val (e.1 /
  4096)) (e.1 % 4096) = false :=
  ⟨0, 0, 0x0010041#26, [true, true], (0x10040, 6), State.reset, by decide +kernel⟩

/-- The conditions of `NarrowWriteIsRecorded`, clause narrowWrite. -/
theorem meets_narrowWrite : ∃ (off : Nat) (addr : BitVec 26) (data : List (Option (BitVec 8))) (e : Nat × Nat) (s :
  State), partsOf addr.toNat data.length (fun i => (data.getD i none).isSome) = [e] ∧ e.2 < 0xF ∧ (s.at off).dropCause
  (barPage 0 (e.1 / 4096)) = none ∧ userWindow (barPage 0 (e.1 / 4096)) (e.1 % 4096) = false ∧ isLocal (barPage 0 (e.1
  / 4096)) = false ∧ regFields? (barPage 0 (e.1 / 4096)) (e.1 % 4096) ≠ none ∧ ((s.at off).absent (barPage 0 (e.1 /
  4096)) && decide (e.1 % 4096 = 0x010)) = false :=
  ⟨0, 0x0010054#26, [some 1, some 2], (0x10054, 3), State.reset, by decide +kernel⟩

/-- The conditions of `AccessFaultKeepsTheLatest`, clause faults. -/
theorem meets_faults : ∃ (s t : State) (l : List (Part × Nat)) (x : Part) (c : Nat), t = l.foldl (fun (a : State) e =>
  a.recordFault e.1 e.2) s ∧ (∀ e ∈ l, e.1.page = x.page ∧ e.1.off < 4096 ∧ e.1.size < 4 ∧ e.1.be < 16 ∧ e.2 < 16) ∧
  (x.page < 0x4000 ∧ x.off < 4096 ∧ x.size < 4 ∧ x.be < 16 ∧ c < 16) :=
  ⟨State.reset, State.reset, [], ⟨0x0010, 0x054, 3, 2⟩, 2, by decide +kernel⟩

/-- The conditions of `OneSnapshotPerCount`, clause count. -/
theorem meets_count : ∃ (s : State) (p : Nat), hasSnap p = true ∧ FMap.get? s.snapAt p ≠ some s.count ∧ s.count < 2 ^
  64 :=
  ⟨State.reset, 0x0010, by decide +kernel⟩

/-- The conditions of `SnapshotViewReadsTheCopy`, clause view. -/
theorem meets_view : ∃ (off page o : Nat) (s : State), page < 0x4000 ∧ o < 4096 ∧ o % 4 = 0 ∧ (s.at
  off).dueMarks.dropCause page = none ∧ userWindow page o = false ∧ isCounter page o = true ∧ hasSnap page = true ∧
  (s.at off).dueMarks.bit page F.HDR_SNAP_CTL_VIEW = true :=
  ⟨0, 0x0010, 0x01C, State.reset.setFld 0x0010 F.HDR_SNAP_CTL_VIEW 1, by decide +kernel⟩

/-- The conditions of `SnapshotViewReadsTheCopy`, clause live. -/
theorem meets_live : ∃ (off page o : Nat) (s w : State), w = (s.at off).dueMarks ∧ page < 0x4000 ∧ o < 4096 ∧ o % 4 =
  0 ∧ w.dropCause page = none ∧ userWindow page o = false ∧ isCounter page o = true ∧ o ∉ clockCounters page ∧ w.bit
  page F.HDR_SNAP_CTL_VIEW = false ∧ w.clk.count ≠ w.count :=
  ⟨5, 0x0010, 0x01C, runUp, _, rfl, by decide +kernel⟩

/-- The conditions of `CountersSaturate`, clause saturate. -/
theorem meets_saturate : ∃ (s : State) (p n : Nat) (f : Fld), f.lo + f.w ≤ 32 :=
  ⟨State.reset, Pg.gbl, 1, F.GBL_UNMAPPED_CNT, by decide +kernel⟩

/-- The conditions of `ThermalHalvesTheRate`, clause hot. -/
theorem meets_hot : ∃ (off : Nat) (c : Fin 8) (temp : BitVec 16) (s : State), 95 * 8 < temp.toInt :=
  ⟨0, 3, 800, State.reset, by decide +kernel⟩

/-- The conditions of `ThermalHalvesTheRate`, clause cool. -/
theorem meets_cool : ∃ (off : Nat) (c : Fin 8) (temp : BitVec 16) (s : State), temp.toInt < 90 * 8 :=
  ⟨0, 3, 400, State.reset, by decide +kernel⟩

/-- The conditions of `ThermalHalvesTheRate`, clause between. -/
theorem meets_between : ∃ (off : Nat) (c : Fin 8) (temp : BitVec 16) (s : State), (90 * 8 ≤ temp.toInt ∧ temp.toInt ≤
  95 * 8) :=
  ⟨0, 3, 740, State.reset, by decide +kernel⟩

/-- The conditions of `MarksRepeatByTheirPeriod`, clause oneShot. -/
theorem meets_oneShot : ∃ (m : Fin 64) (s : State), (s.mark m.val).armed = true ∧ s.wdl.stopped = false ∧ ((s.mark
  m.val).count / 65536 = s.turn ∧ s.count ≤ (s.mark m.val).count) ∧ (s.mark m.val).period = 0 :=
  ⟨3, ({ State.reset with wdl := { State.reset.wdl with stopped := false, marks := [(3, ⟨true, 100, 0⟩)] } } : State),
    by decide +kernel⟩

/-- The conditions of `MarksRepeatByTheirPeriod`, clause periodic. -/
theorem meets_periodic : ∃ (m : Fin 64) (s : State), (s.mark m.val).armed = true ∧ s.wdl.stopped = false ∧ ((s.mark
  m.val).count / 65536 = s.turn ∧ s.count ≤ (s.mark m.val).count) ∧ (s.mark m.val).period ≠ 0 :=
  ⟨3, ({ State.reset with wdl := { State.reset.wdl with stopped := false, marks := [(3, ⟨true, 100, 7⟩)] } } : State),
    by decide +kernel⟩

/-- The conditions of `UnassignedPagesAnswerZero`, clause read. -/
theorem meets_read : ∃ (off : Nat) (addr : BitVec 26) (s : State), assigned (addr.toNat / 4096) = false :=
  ⟨0, 0x3FFF000#26, State.reset, by decide +kernel⟩

/-- The conditions of `UnassignedPagesAnswerZero`, clause write. -/
theorem meets_write : ∃ (off : Nat) (addr : BitVec 26) (s : State), assigned (addr.toNat / 4096) = false :=
  ⟨0, 0x3FFF000#26, State.reset, by decide +kernel⟩

/-- The conditions of `UnassignedPagesAnswerZero`, clause reserved. -/
theorem meets_reserved : ∃ (n : Nat), ((2 ≤ n ∧ n ≤ 15) ∨ (0x040C ≤ n ∧ n ≤ 0x040F) ∨ (0x041C ≤ n ∧ n ≤ 0x041F)) :=
  ⟨2, by decide +kernel⟩

/-- The conditions of `LoadsReachOnlyTheirBytes`, clause loadDdr. -/
theorem meets_loadDdr : ∃ (off : Nat) (b : List Nat) (x : LoadSection) (s w : State), s.executing = true ∧ s.load.wait
  = none ∧ s.load.poll = none ∧ s.load.sect = some x ∧ x.kind ≠ Kind.firmware ∧ fetchCmd x = .cmd 0x20 b ∧ w = ((s.at
  off).diag x 0x20).setSect { x with plain := x.plain.drop b.length, off := x.off + b.length } ∧ b.getD 1 0 = 1 ∧
  w.ddrUp = true ∧ beAt b 8 8 + (sliceOf b 16 (beAt b 4 4)).length ≤ w.ddrBytes :=
  ⟨0, loadDdrBytes, sect0 loadDdrBytes, loadDdrState, cmdOf loadDdrState loadDdrBytes, by decide +kernel⟩

/-- The conditions of `LoadsReachOnlyTheirBytes`, clause loadDirect. -/
theorem meets_loadDirect : ∃ (off : Nat) (b : List Nat) (x : LoadSection) (s w : State), s.executing = true ∧
  s.load.wait = none ∧ s.load.poll = none ∧ s.load.sect = some x ∧ x.kind ≠ Kind.firmware ∧ fetchCmd x = .cmd 0x20 b ∧
  w = ((s.at off).diag x 0x20).setSect { x with plain := x.plain.drop b.length, off := x.off + b.length } ∧ b.getD 1 0
  = 2 ∧ beAt b 8 8 + (sliceOf b 16 (beAt b 4 4)).length ≤ w.directBytes :=
  ⟨0, loadDirectBytes, sect0 loadDirectBytes, loadDirectState, cmdOf loadDirectState loadDirectBytes,
    by decide +kernel⟩

/-- The conditions of `LoadsReachOnlyTheirBytes`, clause loadTile. -/
theorem meets_loadTile : ∃ (off : Nat) (b : List Nat) (x : LoadSection) (s w : State), s.executing = true ∧
  s.load.wait = none ∧ s.load.poll = none ∧ s.load.sect = some x ∧ x.kind ≠ Kind.firmware ∧ fetchCmd x = .cmd 0x20 b ∧
  w = ((s.at off).diag x 0x20).setSect { x with plain := x.plain.drop b.length, off := x.off + b.length } ∧ b.getD 1 0
  = 3 ∧ b.getD 2 0 < 128 ∧ (w.unit (Pg.tile (tileAt (b.getD 2 0))) = uReady ∨ w.unit (Pg.tile (tileAt (b.getD 2 0))) =
  uActive) ∧ beAt b 8 8 + (sliceOf b 16 (beAt b 4 4)).length ≤ storeSize (tileAt (b.getD 2 0)) ∧ 0 < (sliceOf b 16
  (beAt b 4 4)).length :=
  ⟨0, loadTileBytes, sect0 loadTileBytes, loadTileState, cmdOf loadTileState loadTileBytes, by decide +kernel⟩

/-- The conditions of `LoadsReachOnlyTheirBytes`, clause loadRefused. -/
theorem meets_loadRefused : ∃ (off : Nat) (b : List Nat) (x : LoadSection) (s w : State), s.executing = true ∧
  s.load.wait = none ∧ s.load.poll = none ∧ s.load.sect = some x ∧ x.kind ≠ Kind.firmware ∧ fetchCmd x = .cmd 0x20 b ∧
  w = ((s.at off).diag x 0x20).setSect { x with plain := x.plain.drop b.length, off := x.off + b.length } ∧ w.loadMem
  (b.getD 1 0) (b.getD 2 0) (beAt b 8 8) (sliceOf b 16 (beAt b 4 4)) = none :=
  ⟨0, loadFarBytes, sect0 loadFarBytes, sectState loadFarBytes, cmdOf (sectState loadFarBytes) loadFarBytes,
    by decide +kernel⟩

/-- The conditions of `FlashChangesOnlyItsBytes`, clause programBytesOnly. -/
theorem meets_programBytesOnly : ∃ (off a n : Nat) (data : List Nat) (s : State), s.flash.op = some ⟨2, a, n, data⟩ ∧
  s.flash.waiting = [] :=
  ⟨0, 5, 1, [7], State.reset.flashMap (fun f => { f with op := some ⟨2, 5, 1, [7]⟩ }), by decide +kernel⟩

/-- The conditions of `FlashChangesOnlyItsBytes`, clause readOrFailureKeeps. -/
theorem meets_readOrFailureKeeps : ∃ (off : Nat) (ok : Bool) (o : FlashOp) (s : State), s.flash.op = some o ∧ (o.op =
  1 ∨ ok = false) ∧ s.flash.waiting = [] :=
  ⟨0, true, ⟨1, 5, 1, []⟩, State.reset.flashMap (fun f => { f with op := some ⟨1, 5, 1, []⟩ }), by decide +kernel⟩

/-- The conditions of `FlashChangesOnlyItsBytes`, clause eraseSectorOnly. -/
theorem meets_eraseSectorOnly : ∃ (off k : Nat) (s : State), s.flash.op = none ∧ s.flash.erase = some k ∧
  s.flash.waiting = [] ∧ (k ≠ 2 ∧ k ≠ 3) ∧ s.fld Pg.fls F.FLS_JOURNAL_b16 < 4096 :=
  ⟨0, 7, State.reset.flashMap (fun f => { f with erase := some 7 }), by decide +kernel⟩

/-- The conditions of `FlashChangesOnlyItsBytes`, clause eraseFailKeeps. -/
theorem meets_eraseFailKeeps : ∃ (off k : Nat) (s : State), s.flash.op = none ∧ s.flash.erase = some k ∧
  s.flash.waiting = [] :=
  ⟨0, 7, State.reset.flashMap (fun f => { f with erase := some 7 }), by decide +kernel⟩

/-- The conditions of `TransfersReachOnlyTheirBytes`, clause fillDdr. -/
theorem meets_fillDdr : ∃ (off : Nat) (p : Fin 32) (host : List (BitVec 8)) (r : Nat) (d : Desc) (s : State), (s.at
  off).nextCtx p.val = some r ∧ (((s.at off).noteRound p.val r).ctx p.val r).work.find? (fun d => d.ended.isNone &&
  d.issued < d.len) = some d ∧ d.op = 1 ∧ d.srcSpace < 4 ∧ d.dstSpace = Space.ddr ∧ d.len ≠ 0 ∧ d.len ≤ 2 ^ 24 ∧
  ((s.at off).noteRound p.val r).rowWaits Space.ddr (d.dst + d.issued) (min 4096 (d.len - d.issued)) = false ∧ ((s.at
  off).noteRound p.val r).spaceOk p.val r Space.ddr (d.dst + d.issued) (min 4096 (d.len - d.issued)) true = true :=
  ⟨0, 0, [], 0, fillDesc, pumpDdr fillDesc, by decide +kernel⟩

/-- The conditions of `TransfersReachOnlyTheirBytes`, clause copyDdr. -/
theorem meets_copyDdr : ∃ (off : Nat) (p : Fin 32) (host : List (BitVec 8)) (r : Nat) (d : Desc) (s : State), (s.at
  off).nextCtx p.val = some r ∧ (((s.at off).noteRound p.val r).ctx p.val r).work.find? (fun d => d.ended.isNone &&
  d.issued < d.len) = some d ∧ d.op = 0 ∧ d.srcSpace = Space.ddr ∧ d.dstSpace = Space.ddr ∧ d.len ≠ 0 ∧ d.len ≤ 2 ^ 24
  ∧ ((s.at off).noteRound p.val r).rowWaits Space.ddr (d.dst + d.issued) (min 4096 (d.len - d.issued)) = false ∧
  ((s.at off).noteRound p.val r).rowWaits Space.ddr (d.src + d.issued) (min 4096 (d.len - d.issued)) = false ∧ ((s.at
  off).noteRound p.val r).spaceOk p.val r Space.ddr (d.dst + d.issued) (min 4096 (d.len - d.issued)) true = true ∧
  ((s.at off).noteRound p.val r).spaceOk p.val r Space.ddr (d.src + d.issued) (min 4096 (d.len - d.issued)) false =
  true ∧ s.ddrPoison (d.src + d.issued) (min 4096 (d.len - d.issued)) = false :=
  ⟨0, 0, [], 0, copyDesc, pumpDdr copyDesc, by decide +kernel⟩

/-- The conditions of `TransfersReachOnlyTheirBytes`, clause landDdr. -/
theorem meets_landDdr : ∃ (off : Nat) (tag : BitVec 10) (b : List (BitVec 8)) (e : TagEntry) (d : Desc) (s : State),
  FMap.get? s.pumps.tags tag.toNat = some e ∧ s.tagCurrent e = true ∧ ((s.at off).freeEntry tag.toNat).tagDesc e =
  some d ∧ d.ended = none ∧ d.dstSpace = Space.ddr ∧ b.length = e.len :=
  ⟨0, 3, List.replicate 64 5, tagEntry0, { desc0 with dstSpace := 1 }, tagDdrState, by decide +kernel⟩

/-- The conditions of `TransfersReachOnlyTheirBytes`, clause collectiveChunk. -/
theorem meets_collectiveChunk : ∃ (off : Nat) (sends : List PlanSend) (a : Nat × Option Nat) (f : RFrame) (k : Nat) (c
  : Collective) (v : List Nat) (s : State), s.dutiesRun = true ∧ f.type = 3 ∧ s.ryk.inbox = [(a.1, a.2, f)] ∧
  s.cpc.colls = [(k, c)] ∧ c.id = beAt f.payload 0 2 ∧ c.epoch = beAt f.payload 2 2 ∧ max c.step (beAt f.payload 4 2 +
  1) < c.steps ∧ v = (if c.reduces (beAt f.payload 4 2) then reduceBytes c.op c.format (Mem.bytes 0 s.ddr (c.src +
  4096 * beAt f.payload 6 4) ((f.payload.drop 64).take 4096).length) ((f.payload.drop 64).take 4096) else
  (f.payload.drop 64).take 4096) :=
  ⟨0, [], (0, none), ⟨0, 7, 3, 0, 0, 0, 1, [0, 5]⟩, 3, coll0, [], (fwUp.cpcMap (fun c =>
    { c with colls := [(3, coll0)] })).rykMap (fun r =>
    { r with inbox := [(0, none, ⟨0, 7, 3, 0, 0, 0, 1, [0, 5]⟩)] }), by decide +kernel⟩

/-- The conditions of `RequestsTurnedAway`, clause overrun. -/
theorem meets_overrun : ∃ (off : Nat) (seq : BitVec 8) (s : State), (s.at off).dropCause (Pg.cpc 9) = none ∧ s.mbBusy
  = true :=
  ⟨0, 5, mbState 2 0 [], by decide +kernel⟩

/-- The conditions of `RequestsTurnedAway`, clause refusedRead. -/
theorem meets_refusedRead : ∃ (off : Nat) (s : State), (s.at off).dropCause Pg.fls = none ∧ ((s.at off).write Pg.fls
  0x044 9).fld Pg.fls F.FLS_CMD_OP = 1 ∧ s.loadReads = true :=
  ⟨0, State.reset.setLoad LS'.loading, by decide +kernel⟩

/-- The conditions of `RequestsTurnedAway`, clause refusedProgram. -/
theorem meets_refusedProgram : ∃ (off : Nat) (s : State), (s.at off).dropCause Pg.fls = none ∧ ((s.at off).write
  Pg.fls 0x044 10).fld Pg.fls F.FLS_CMD_OP = 2 ∧ s.loadReads = true :=
  ⟨0, State.reset.setLoad LS'.loading, by decide +kernel⟩

/-- The conditions of `RequestsTurnedAway`, clause refusedErase. -/
theorem meets_refusedErase : ∃ (off : Nat) (s : State), (s.at off).dropCause Pg.fls = none ∧ ((s.at off).write Pg.fls
  0x044 11).fld Pg.fls F.FLS_CMD_OP = 3 ∧ s.loadReads = true :=
  ⟨0, State.reset.setLoad LS'.loading, by decide +kernel⟩

/-- The conditions of `RequestsTurnedAway`, clause stoppedBoundary. -/
theorem meets_stoppedBoundary : ∃ (m : TurnMeasure) (s : State), s.wdl.stopped = true ∧ s.pins.mainReset = true :=
  ⟨⟨[], 0, 0, 0⟩, { State.reset with wdl := { State.reset.wdl with stopped := true } }, by decide +kernel⟩

/-- The conditions of `RequestsTurnedAway`, clause unarmedMark. -/
theorem meets_unarmedMark : ∃ (m : Fin 64) (s : State), (s.mark m.val).armed = false :=
  ⟨3, State.reset, by decide +kernel⟩

/-- The conditions of `ServicesNeedTheirRole`, clause stkNoRole. -/
theorem meets_stkNoRole : ∃ (off : Nat) (who : Requester) (req : List (BitVec 8)) (s : State), who ≠ .pf0 ∧ s.mstate =
  MS.operational ∧ requester who ∉ s.sec.sessions :=
  ⟨0, .jtag, [], secUp, by decide +kernel⟩

/-- The conditions of `ServicesNeedTheirRole`, clause stkClearNoRole. -/
theorem meets_stkClearNoRole : ∃ (off : Nat) (who : Requester) (req : List (BitVec 8)) (s : State), who ≠ .pf0 ∧
  s.mstate = MS.operational ∧ requester who ∉ s.sec.sessions :=
  ⟨0, .jtag, [], secUp, by decide +kernel⟩

/-- The conditions of `ServicesNeedTheirRole`, clause logoutNoRole. -/
theorem meets_logoutNoRole : ∃ (off : Nat) (who : Requester) (req : List (BitVec 8)) (s : State), who ≠ .pf0 ∧
  s.mstate = MS.operational ∧ requester who ∉ s.sec.sessions :=
  ⟨0, .jtag, [], secUp, by decide +kernel⟩

/-- The conditions of `ServicesNeedTheirRole`, clause zeroizeNoRole. -/
theorem meets_zeroizeNoRole : ∃ (off : Nat) (who : Requester) (req : List (BitVec 8)) (s : State), who ≠ .pf0 ∧
  s.mstate = MS.operational ∧ requester who ∉ s.sec.sessions :=
  ⟨0, .jtag, [], secUp, by decide +kernel⟩

/-- The conditions of `ServicesNeedTheirRole`, clause provisionNoRole. -/
theorem meets_provisionNoRole : ∃ (off : Nat) (who : Requester) (req : List (BitVec 8)) (rb : Bool) (s : State), who ≠
  .pf0 ∧ s.mstate = MS.operational ∧ requester who ∉ s.sec.sessions :=
  ⟨0, .jtag, [], true, secUp, by decide +kernel⟩

/-- The conditions of `ServicesNeedTheirRole`, clause revokeNoRole. -/
theorem meets_revokeNoRole : ∃ (off : Nat) (who : Requester) (req : List (BitVec 8)) (rb : Bool) (s : State), who ≠
  .pf0 ∧ s.mstate = MS.operational ∧ requester who ∉ s.sec.sessions :=
  ⟨0, .jtag, [], true, secUp, by decide +kernel⟩

/-- The conditions of `ServicesNeedTheirRole`, clause randomNotUp. -/
theorem meets_randomNotUp : ∃ (off : Nat) (who : Requester) (req : List (BitVec 8)) (s : State), who ≠ .pf0 ∧ s.mstate
  ≠ MS.operational ∧ s.mstate ≠ MS.selftest :=
  ⟨0, .firmware, [], State.reset.setFld (Pg.sec 0) F.SEC_STATUS_MSTATE MS.error, by decide +kernel⟩

/-- The conditions of `ServicesNeedTheirRole`, clause sakLoadNotUp. -/
theorem meets_sakLoadNotUp : ∃ (off : Nat) (who : Requester) (req : List (BitVec 8)) (s : State), who ≠ .pf0 ∧
  s.mstate ≠ MS.operational ∧ s.mstate ≠ MS.selftest :=
  ⟨0, .firmware, [], State.reset.setFld (Pg.sec 0) F.SEC_STATUS_MSTATE MS.error, by decide +kernel⟩

/-- The conditions of `ServicesNeedTheirRole`, clause sakClearNotUp. -/
theorem meets_sakClearNotUp : ∃ (off : Nat) (who : Requester) (req : List (BitVec 8)) (s : State), who ≠ .pf0 ∧
  s.mstate ≠ MS.operational ∧ s.mstate ≠ MS.selftest :=
  ⟨0, .firmware, [], State.reset.setFld (Pg.sec 0) F.SEC_STATUS_MSTATE MS.error, by decide +kernel⟩

/-- The conditions of `AnchorFailureIsNoFault`, clause anchorFailure. -/
theorem meets_anchorFailure : ∃ (off : Nat) (c : LossCause) (s : State), (s.tstate = T.slewing ∨ s.tstate = T.locked)
  ∧ s.anchor < 8 :=
  ⟨0, .los, (State.reset.setFld Pg.wdl F.WDL_STATUS_TSTATE T.locked).setFld Pg.wdl F.WDL_STATUS_ACTIVE_ANCHOR 2,
    by decide +kernel⟩

/-- The conditions of `SlewFailureHoldsTheRate`, clause slewFailure. -/
theorem meets_slewFailure : ∃ (off : Nat) (c : LossCause) (s : State), s.tstate = T.slewing ∧ s.anchor < 8 ∧ s.fld
  Pg.wdl F.WDL_STATUS_LEARNED = 0 :=
  ⟨0, .los, (State.reset.setFld Pg.wdl F.WDL_STATUS_TSTATE T.slewing).setFld Pg.wdl F.WDL_STATUS_ACTIVE_ANCHOR 2,
    by decide +kernel⟩

/-- The conditions of `ThirdLockFailureRetires`, clause third. -/
theorem meets_third : ∃ (off : Nat) (e : Engine) (c : Channel) (s : State), isLineEngine e.val = true ∧ c.val ∈
  channelsOf e.val ∧ s.chState e.val c.val = C.locking ∧ 2 ≤ (s.chan e.val c.val).lockFails :=
  ⟨0, 1, 2, (State.reset.setCh 1 2 C.locking).setChan 1 2 ⟨2, 0⟩, by decide +kernel⟩

/-- The conditions of `ThirdLockFailureRetires`, clause earlier. -/
theorem meets_earlier : ∃ (off : Nat) (e : Engine) (c : Channel) (s : State), isLineEngine e.val = true ∧ c.val ∈
  channelsOf e.val ∧ s.chState e.val c.val = C.locking ∧ (s.chan e.val c.val).lockFails < 2 :=
  ⟨0, 1, 2, State.reset.setCh 1 2 C.locking, by decide +kernel⟩

/-- The conditions of `OverTemperatureRetiresNothing`, clause overTemp. -/
theorem meets_overTemp : ∃ (off : Nat) (e : Engine) (temp : BitVec 16) (s : State), 760 < signed 16 temp.toNat :=
  ⟨0, 1, 800#16, State.reset.setCh 1 2 C.locking, by decide +kernel⟩

/-- The conditions of `EmptyQueueIdles`, clause idle. -/
theorem meets_idle : ∃ (s : State), s.pending = [] :=
  ⟨State.reset, by decide +kernel⟩

/-- The conditions of `StepKeepsCanonical`, clause canonical. -/
theorem meets_canonical : ∃ (s t : State), s.Canonical ∧ step s = .next t :=
  ⟨({ State.reset with pending := [.wdlCountLoRead 0] } : State), (next? (step
    { State.reset with pending := [.wdlCountLoRead 0] })).getD State.reset, ⟨by decide +kernel, by decide +kernel,
    by decide +kernel, by decide +kernel, by decide +kernel⟩, rfl⟩

/-- The conditions of `CommandsChangeOnlyTheirPieces`, clause pieces. -/
theorem meets_pieces : ∃ (i : Instr) (s t : State) (x : Piece), exec i s = .next t ∧ x ∉ mayChange i :=
  ⟨.wdlCountLoRead 0, State.reset, (next? (exec (.wdlCountLoRead 0) State.reset)).getD State.reset, .flash, rfl,
    by decide⟩

end Sys2Proof.Tests
end

section
/-!
PROOFS. One law for all commands, from the laws `execX_runs` of each: a command answers a next state that keeps every piece
`mayChange` does not name. With it, that the block never stops.
-/

namespace Sys2Proof.Machine

open Sys2Proof

/-! ### Masks of pieces -/

/-- The mask of `Keeps` that a list of pieces stands for. -/
def pieceMask (l : List Piece) : Nat := l.foldr (fun x m => 2 ^ x.bit ||| m) 0

theorem pieceMask_cons (x : Piece) (l : List Piece) : pieceMask (x :: l) = 2 ^ x.bit ||| pieceMask l := rfl

theorem testBit_pieceMask (l : List Piece) (b : Nat) : (pieceMask l).testBit b = true ↔ ∃ x ∈ l, x.bit = b := by
  induction l with
  | nil => simp [pieceMask]
  | cons x l ih => simp [pieceMask_cons, Nat.testBit_or, ih, Nat.testBit_two_pow]

/-- A mask holds a list of pieces exactly where it has the bit of each. -/
theorem pieceMask_or_eq (l : List Piece) (M : Nat) : pieceMask l ||| M = M ↔ ∀ x ∈ l, M.testBit x.bit = true := by
  constructor
  · intro h x hx
    rw [← h, Nat.testBit_or, (testBit_pieceMask l x.bit).mpr ⟨x, hx, rfl⟩, Bool.true_or]
  · intro h
    refine Nat.eq_of_testBit_eq fun b => ?_
    rw [Nat.testBit_or]
    cases hb : (pieceMask l).testBit b with
    | false => rw [Bool.false_or]
    | true =>
      obtain ⟨x, hx, rfl⟩ := (testBit_pieceMask l b).mp hb
      rw [h x hx, Bool.true_or]

/-- A mask that holds pieces holds some of them. -/
theorem pieceMask_of_subset {l l' : List Piece} {M : Nat} (hM : pieceMask l ||| M = M) (hl : l' ⊆ l) :
    pieceMask l' ||| M = M :=
  (pieceMask_or_eq l' M).mpr fun x hx => (pieceMask_or_eq l M).mp hM x (hl hx)

/-- A page whose class is among the pieces of a mask. -/
theorem InMask.of_regs {l : List Piece} {M p : Nat} (hM : pieceMask l ||| M = M) (h : Piece.regs (pageClass p) ∈ l) :
    InMask M p :=
  ⟨Or.inr ((pieceMask_or_eq l M).mp hM _ h)⟩

/-! ### Every command -/

/-- Every command answers a next state, which keeps what is not among the pieces the command may change. -/
theorem exec_runs (i : Instr) (s : State) {M : Nat} (hM : pieceMask (mayChange i) ||| M = M) : Runs M s (exec i s) := by
  have hs := Keeps.refl M s
  cases i
  all_goals dsimp only [exec, mayChange] at hM ⊢
  case turnBoundary => exact execTurnBoundary_runs hs (sub_mask rfl hM)
  case windlassExitStopped => exact execWindlassExitStopped_runs hs (sub_mask rfl hM)
  case anchorLoss => exact execAnchorLoss_runs hs (sub_mask rfl hM)
  case portQualified => exact execPortQualified_runs hs (sub_mask rfl hM)
  case slewLock => exact execSlewLock_runs hs (sub_mask rfl hM)
  case learnedSet => exact execLearnedSet_runs hs (sub_mask rfl hM)
  case wdlPresetWrite => exact execWdlPresetWrite_runs hs (sub_mask rfl hM)
  case wdlCountLoRead => exact execWdlCountLoRead_runs hs (sub_mask rfl hM)
  case markArm => exact execMarkArm_runs hs (sub_mask rfl hM)
  case markFire => exact execMarkFire_runs hs (sub_mask rfl hM)
  case fullCountBroadcast => exact execFullCountBroadcast_runs hs (sub_mask rfl hM)
  case lrefLoss => exact execLrefLoss_runs hs (sub_mask rfl hM)
  case registerWrite => exact execRegisterWrite_runs hs (sub_mask rfl hM)
  case rcCounterRead => exact execRcCounterRead_runs hs (sub_mask rfl hM)
  case counterLoRead => exact execCounterLoRead_runs hs (sub_mask rfl hM)
  case unassignedPageAccess => exact execUnassignedPageAccess_runs hs (sub_mask rfl hM)
  case restartingPageAccess => exact execRestartingPageAccess_runs hs (sub_mask rfl hM)
  case stateMismatch =>
    have hl : pieceMask [.regs 4, .regs 9, .out, .count, .units, .clk] ||| M = M :=
      pieceMask_of_subset hM (by simp)
    exact execStateMismatch_runs hs (sub_mask rfl hl) (.of_regs hM (by simp))
  case unitSelftestDone => exact execUnitSelftestDone_runs hs (sub_mask rfl hM)
  case reinstateSelftestDone =>
    have hl : pieceMask [.regs 4, .regs 9, .out, .count, .units, .clk] ||| M = M :=
      pieceMask_of_subset hM (by simp)
    exact execReinstateSelftestDone_runs hs (sub_mask rfl hl) (.of_regs hM (by simp))
  case snapshotTrigger =>
    have hl : pieceMask [.regs 1, .regs 4, .regs 9, .late, .written, .snaps, .snapAt, .wideHi, .out, .draws, .count,
      .clk] ||| M = M :=
      pieceMask_of_subset hM (by simp)
    exact execSnapshotTrigger_runs hs (sub_mask rfl hl) (.of_regs hM (by simp))
  case snapAll => exact execSnapAll_runs hs (sub_mask rfl hM)
  case pageLockSet =>
    have hl : pieceMask [.regs 1, .count, .clk] ||| M = M :=
      pieceMask_of_subset hM (by simp)
    exact execPageLockSet_runs hs (sub_mask rfl hl) (.of_regs hM (by simp))
  case lockAll => exact execLockAll_runs hs (sub_mask rfl hM)
  case signalDetectRise => exact execSignalDetectRise_runs hs (sub_mask rfl hM)
  case lossOfSignal => exact execLossOfSignal_runs hs (sub_mask rfl hM)
  case trainingWordRx => exact execTrainingWordRx_runs hs (sub_mask rfl hM)
  case trainingAttemptTimeout => exact execTrainingAttemptTimeout_runs hs (sub_mask rfl hM)
  case backoffExpiry => exact execBackoffExpiry_runs hs (sub_mask rfl hM)
  case noPartnerRetry => exact execNoPartnerRetry_runs hs (sub_mask rfl hM)
  case dataStart => exact execDataStart_runs hs (sub_mask rfl hM)
  case blockLock => exact execBlockLock_runs hs (sub_mask rfl hM)
  case blockLockTimeout => exact execBlockLockTimeout_runs hs (sub_mask rfl hM)
  case blockLockLoss => exact execBlockLockLoss_runs hs (sub_mask rfl hM)
  case laneTestDone => exact execLaneTestDone_runs hs (sub_mask rfl hM)
  case fastRetrainTimeout => exact execFastRetrainTimeout_runs hs (sub_mask rfl hM)
  case errorInterval => exact execErrorInterval_runs hs (sub_mask rfl hM)
  case leakDecrement =>
    have hl : pieceMask [.regs 1, .regs 4, .regs 9, .regs 0xa, .regs 0x11, .regs 0x14, .regs 0x15, .regs 0x16,
      .regs 0x17, .regs 0x1c, .out, .draws, .safe, .lanes, .pipe, .ryk, .net, .tiles, .batches, .memory, .clk] ||| M = M :=
      pieceMask_of_subset hM (by simp)
    exact execLeakDecrement_runs hs (sub_mask rfl hl) (.of_regs hM (by simp))
  case wanderSlip => exact execWanderSlip_runs hs (sub_mask rfl hM)
  case codeGroupSync => exact execCodeGroupSync_runs hs (sub_mask rfl hM)
  case anRestart => exact execAnRestart_runs hs (sub_mask rfl hM)
  case laneSelfcheckFail => exact execLaneSelfcheckFail_runs hs (sub_mask rfl hM)
  case candidateQualified => exact execCandidateQualified_runs hs (sub_mask rfl hM)
  case candidateLoss => exact execCandidateLoss_runs hs (sub_mask rfl hM)
  case rrefLoss => exact execRrefLoss_runs hs (sub_mask rfl hM)
  case losAssert => exact execLosAssert_runs hs (sub_mask rfl hM)
  case losDeassert => exact execLosDeassert_runs hs (sub_mask rfl hM)
  case aprEntry => exact execAprEntry_runs hs (sub_mask rfl hM)
  case aprPulse => exact execAprPulse_runs hs (sub_mask rfl hM)
  case aprPulseEnd => exact execAprPulseEnd_runs hs (sub_mask rfl hM)
  case aprRestart => exact execAprRestart_runs hs (sub_mask rfl hM)
  case laserWarm => exact execLaserWarm_runs hs (sub_mask rfl hM)
  case wavelengthLocked => exact execWavelengthLocked_runs hs (sub_mask rfl hM)
  case wavelengthUnlock => exact execWavelengthUnlock_runs hs (sub_mask rfl hM)
  case offgrid => exact execOffgrid_runs hs (sub_mask rfl hM)
  case lockFailure => exact execLockFailure_runs hs (sub_mask rfl hM)
  case heaterDriveUpdate => exact execHeaterDriveUpdate_runs hs (sub_mask rfl hM)
  case clampHold => exact execClampHold_runs hs (sub_mask rfl hM)
  case channelFaultDetect => exact execChannelFaultDetect_runs hs (sub_mask rfl hM)
  case chReinstate => exact execChReinstate_runs hs (sub_mask rfl hM)
  case chReinstateDone => exact execChReinstateDone_runs hs (sub_mask rfl hM)
  case engineOverTemp => exact execEngineOverTemp_runs hs (sub_mask rfl hM)
  case engineControllerFail => exact execEngineControllerFail_runs hs (sub_mask rfl hM)
  case islandPowerOn => exact execIslandPowerOn_runs hs (sub_mask rfl hM)
  case islandSupplyFail => exact execIslandSupplyFail_runs hs (sub_mask rfl hM)
  case heartbeatLoss => exact execHeartbeatLoss_runs hs (sub_mask rfl hM)
  case mainPgFall => exact execMainPgFall_runs hs (sub_mask rfl hM)
  case mainUndervoltage => exact execMainUndervoltage_runs hs (sub_mask rfl hM)
  case bypForceNLow => exact execBypForceNLow_runs hs (sub_mask rfl hM)
  case bypForceWrite => exact execBypForceWrite_runs hs (sub_mask rfl hM)
  case resetNFall => exact execResetNFall_runs hs (sub_mask rfl hM)
  case resetNRise => exact execResetNRise_runs hs (sub_mask rfl hM)
  case bypPolicyWrite => exact execBypPolicyWrite_runs hs (sub_mask rfl hM)
  case frameIntake => exact execFrameIntake_runs hs (sub_mask rfl hM)
  case captureDeadline => exact execCaptureDeadline_runs hs (sub_mask rfl hM)
  case linkLoss => exact execLinkLoss_runs hs (sub_mask rfl hM)
  case linkUp => exact execLinkUp_runs hs (sub_mask rfl hM)
  case propagationRemove => exact execPropagationRemove_runs hs (sub_mask rfl hM)
  case rxFault => exact execRxFault_runs hs (sub_mask rfl hM)
  case unsealFrame => exact execUnsealFrame_runs hs (sub_mask rfl hM)
  case saPnWrite => exact execSaPnWrite_runs hs (sub_mask rfl hM)
  case parseFrame => exact execParseFrame_runs hs (sub_mask rfl hM)
  case flowLookup => exact execFlowLookup_runs hs (sub_mask rfl hM)
  case flowMissReturn => exact execFlowMissReturn_runs hs (sub_mask rfl hM)
  case missLate => exact execMissLate_runs hs (sub_mask rfl hM)
  case recordExpiry => exact execRecordExpiry_runs hs (sub_mask rfl hM)
  case annotationReturn => exact execAnnotationReturn_runs hs (sub_mask rfl hM)
  case ftInit => exact execFtInit_runs hs (sub_mask rfl hM)
  case ftInitDone => exact execFtInitDone_runs hs (sub_mask rfl hM)
  case streamOrder => exact execStreamOrder_runs hs (sub_mask rfl hM)
  case holeHoldExpiry => exact execHoleHoldExpiry_runs hs (sub_mask rfl hM)
  case fileCarve => exact execFileCarve_runs hs (sub_mask rfl hM)
  case featureBuild => exact execFeatureBuild_runs hs (sub_mask rfl hM)
  case stageStall => exact execStageStall_runs hs (sub_mask rfl hM)
  case storeEccError => exact execStoreEccError_runs hs (sub_mask rfl hM)
  case scoreDispatch => exact execScoreDispatch_runs hs (sub_mask rfl hM)
  case scoreRecord => exact execScoreRecord_runs hs (sub_mask rfl hM)
  case joinDeadline => exact execJoinDeadline_runs hs (sub_mask rfl hM)
  case orderRelease => exact execOrderRelease_runs hs (sub_mask rfl hM)
  case ft4Reply => exact execFt4Reply_runs hs (sub_mask rfl hM)
  case ft4Timeout => exact execFt4Timeout_runs hs (sub_mask rfl hM)
  case verdictAction => exact execVerdictAction_runs hs (sub_mask rfl hM)
  case divertDeadline => exact execDivertDeadline_runs hs (sub_mask rfl hM)
  case copyAccept => exact execCopyAccept_runs hs (sub_mask rfl hM)
  case copyDeadline => exact execCopyDeadline_runs hs (sub_mask rfl hM)
  case sealItem => exact execSealItem_runs hs (sub_mask rfl hM)
  case spoutTransmit => exact execSpoutTransmit_runs hs (sub_mask rfl hM)
  case injectionDescriptor => exact execInjectionDescriptor_runs hs (sub_mask rfl hM)
  case tapReturnWord => exact execTapReturnWord_runs hs (sub_mask rfl hM)
  case configScrub => exact execConfigScrub_runs hs (sub_mask rfl hM)
  case bramError => exact execBramError_runs hs (sub_mask rfl hM)
  case fcgLockLoss => exact execFcgLockLoss_runs hs (sub_mask rfl hM)
  case clockMonitorOut => exact execClockMonitorOut_runs hs (sub_mask rfl hM)
  case uregAccess => exact execUregAccess_runs hs (sub_mask rfl hM)
  case uregTimeout => exact execUregTimeout_runs hs (sub_mask rfl hM)
  case packetRoute => exact execPacketRoute_runs hs (sub_mask rfl hM)
  case gtsDrop => exact execGtsDrop_runs hs (sub_mask rfl hM)
  case progStart => exact execProgStart_runs hs (sub_mask rfl hM)
  case batchPacket => exact execBatchPacket_runs hs (sub_mask rfl hM)
  case turnTickTrigger => exact execTurnTickTrigger_runs hs (sub_mask rfl hM)
  case cpl => exact execCpl_runs hs (sub_mask rfl hM)
  case operationTimeout => exact execOperationTimeout_runs hs (sub_mask rfl hM)
  case scorePacket => exact execScorePacket_runs hs (sub_mask rfl hM)
  case scoreClose => exact execScoreClose_runs hs (sub_mask rfl hM)
  case knownAnswerCheck => exact execKnownAnswerCheck_runs hs (sub_mask rfl hM)
  case localStoreEcc => exact execLocalStoreEcc_runs hs (sub_mask rfl hM)
  case linkEccError => exact execLinkEccError_runs hs (sub_mask rfl hM)
  case routerFault => exact execRouterFault_runs hs (sub_mask rfl hM)
  case probeArm => exact execProbeArm_runs hs (sub_mask rfl hM)
  case windowProject => exact execWindowProject_runs hs (sub_mask rfl hM)
  case creditReturn => exact execCreditReturn_runs hs (sub_mask rfl hM)
  case calStep => exact execCalStep_runs hs (sub_mask rfl hM)
  case calForce => exact execCalForce_runs hs (sub_mask rfl hM)
  case epochWrite => exact execEpochWrite_runs hs (sub_mask rfl hM)
  case epochAck => exact execEpochAck_runs hs (sub_mask rfl hM)
  case consumerStale => exact execConsumerStale_runs hs (sub_mask rfl hM)
  case settleEnd => exact execSettleEnd_runs hs (sub_mask rfl hM)
  case lwlItemFault => exact execLwlItemFault_runs hs (sub_mask rfl hM)
  case lwlReinstate => exact execLwlReinstate_runs hs (sub_mask rfl hM)
  case lwlControllerFail => exact execLwlControllerFail_runs hs (sub_mask rfl hM)
  case lwlTableAccess => exact execLwlTableAccess_runs hs (sub_mask rfl hM)
  case cisternReadReq => exact execCisternReadReq_runs hs (sub_mask rfl hM)
  case fillReturn => exact execFillReturn_runs hs (sub_mask rfl hM)
  case objectTableWrite => exact execObjectTableWrite_runs hs (sub_mask rfl hM)
  case cisternSramError => exact execCisternSramError_runs hs (sub_mask rfl hM)
  case ddrReadError => exact execDdrReadError_runs hs (sub_mask rfl hM)
  case patrolScrub => exact execPatrolScrub_runs hs (sub_mask rfl hM)
  case scrubLate => exact execScrubLate_runs hs (sub_mask rfl hM)
  case dmcRetireGo => exact execDmcRetireGo_runs hs (sub_mask rfl hM)
  case rowCopyDone => exact execRowCopyDone_runs hs (sub_mask rfl hM)
  case dmcFault => exact execDmcFault_runs hs (sub_mask rfl hM)
  case dimmThermal => exact execDimmThermal_runs hs (sub_mask rfl hM)
  case ringDoorbell => exact execRingDoorbell_runs hs (sub_mask rfl hM)
  case pumpChunk => exact execPumpChunk_runs hs (sub_mask rfl hM)
  case descriptorComplete => exact execDescriptorComplete_runs hs (sub_mask rfl hM)
  case pumpTimeout => exact execPumpTimeout_runs hs (sub_mask rfl hM)
  case contextHalt => exact execContextHalt_runs hs (sub_mask rfl hM)
  case bmeClear => exact execBmeClear_runs hs (sub_mask rfl hM)
  case pumpSelfcheckFail => exact execPumpSelfcheckFail_runs hs (sub_mask rfl hM)
  case nrgCapWrite => exact execNrgCapWrite_runs hs (sub_mask rfl hM)
  case nrgDebtAdd => exact execNrgDebtAdd_runs hs (sub_mask rfl hM)
  case pmbusPoll => exact execPmbusPoll_runs hs (sub_mask rfl hM)
  case poutMaxRead => exact execPoutMaxRead_runs hs (sub_mask rfl hM)
  case measurementWindowClose => exact execMeasurementWindowClose_runs hs (sub_mask rfl hM)
  case thermalSample => exact execThermalSample_runs hs (sub_mask rfl hM)
  case thermalCrit => exact execThermalCrit_runs hs (sub_mask rfl hM)
  case ledgerFault => exact execLedgerFault_runs hs (sub_mask rfl hM)
  case pwrFault => exact execPwrFault_runs hs (sub_mask rfl hM)
  case perstDeassert => exact execPerstDeassert_runs hs (sub_mask rfl hM)
  case cfgReadyWrite => exact execCfgReadyWrite_runs hs (sub_mask rfl hM)
  case cfgReadyTimeout => exact execCfgReadyTimeout_runs hs (sub_mask rfl hM)
  case configRequest => exact execConfigRequest_runs hs (sub_mask rfl hM)
  case vfEnable => exact execVfEnable_runs hs (sub_mask rfl hM)
  case ctxBindWrite => exact execCtxBindWrite_runs hs (sub_mask rfl hM)
  case contextSlotWrite => exact execContextSlotWrite_runs hs (sub_mask rfl hM)
  case deliveryFreePost => exact execDeliveryFreePost_runs hs (sub_mask rfl hM)
  case deliveryAccept => exact execDeliveryAccept_runs hs (sub_mask rfl hM)
  case msixUnmask => exact execMsixUnmask_runs hs (sub_mask rfl hM)
  case holdoffExpiry => exact execHoldoffExpiry_runs hs (sub_mask rfl hM)
  case functionLevelReset => exact execFunctionLevelReset_runs hs (sub_mask rfl hM)
  case flrComplete => exact execFlrComplete_runs hs (sub_mask rfl hM)
  case completionArrival => exact execCompletionArrival_runs hs (sub_mask rfl hM)
  case completionTimeout => exact execCompletionTimeout_runs hs (sub_mask rfl hM)
  case ctoValueChange => exact execCtoValueChange_runs hs (sub_mask rfl hM)
  case endpointReset => exact execEndpointReset_runs hs (sub_mask rfl hM)
  case hostInternalError => exact execHostInternalError_runs hs (sub_mask rfl hM)
  case poisonedTlp => exact execPoisonedTlp_runs hs (sub_mask rfl hM)
  case rykFrameReceive => exact execRykFrameReceive_runs hs (sub_mask rfl hM)
  case llctl => exact execLlctl_runs hs (sub_mask rfl hM)
  case replayTimeout => exact execReplayTimeout_runs hs (sub_mask rfl hM)
  case linkInit => exact execLinkInit_runs hs (sub_mask rfl hM)
  case retrainingTimeout => exact execRetrainingTimeout_runs hs (sub_mask rfl hM)
  case linkAlign => exact execLinkAlign_runs hs (sub_mask rfl hM)
  case secondLaneWait => exact execSecondLaneWait_runs hs (sub_mask rfl hM)
  case linkRewiden => exact execLinkRewiden_runs hs (sub_mask rfl hM)
  case t3Rsp => exact execT3Rsp_runs hs (sub_mask rfl hM)
  case t3Timeout => exact execT3Timeout_runs hs (sub_mask rfl hM)
  case t3Req => exact execT3Req_runs hs (sub_mask rfl hM)
  case copyFrameRx => exact execCopyFrameRx_runs hs (sub_mask rfl hM)
  case refDepthErr => exact execRefDepthErr_runs hs (sub_mask rfl hM)
  case linkFault => exact execLinkFault_runs hs (sub_mask rfl hM)
  case gatewayFault => exact execGatewayFault_runs hs (sub_mask rfl hM)
  case heartbeatKick => exact execHeartbeatKick_runs hs (sub_mask rfl hM)
  case floorDuty => exact execFloorDuty_runs hs (sub_mask rfl hM)
  case crosstalkRefresh => exact execCrosstalkRefresh_runs hs (sub_mask rfl hM)
  case retirementRecordWrite => exact execRetirementRecordWrite_runs hs (sub_mask rfl hM)
  case reconciliation => exact execReconciliation_runs hs (sub_mask rfl hM)
  case mailboxGo => exact execMailboxGo_runs hs (sub_mask rfl hM)
  case negotiate => exact execNegotiate_runs hs (sub_mask rfl hM)
  case mbStatus => exact execMbStatus_runs hs (sub_mask rfl hM)
  case updateStage => exact execUpdateStage_runs hs (sub_mask rfl hM)
  case updateStaged => exact execUpdateStaged_runs hs (sub_mask rfl hM)
  case updateCommit => exact execUpdateCommit_runs hs (sub_mask rfl hM)
  case updateAbort => exact execUpdateAbort_runs hs (sub_mask rfl hM)
  case updateHandoff => exact execUpdateHandoff_runs hs (sub_mask rfl hM)
  case updateAdopted => exact execUpdateAdopted_runs hs (sub_mask rfl hM)
  case updateRollback => exact execUpdateRollback_runs hs (sub_mask rfl hM)
  case collStart => exact execCollStart_runs hs (sub_mask rfl hM)
  case collCancel => exact execCollCancel_runs hs (sub_mask rfl hM)
  case collFrame => exact execCollFrame_runs hs (sub_mask rfl hM)
  case collTimeout => exact execCollTimeout_runs hs (sub_mask rfl hM)
  case chipRetire => exact execChipRetire_runs hs (sub_mask rfl hM)
  case chipReinstate => exact execChipReinstate_runs hs (sub_mask rfl hM)
  case t3RemapSet => exact execT3RemapSet_runs hs (sub_mask rfl hM)
  case graphPower => exact execGraphPower_runs hs (sub_mask rfl hM)
  case logRead => exact execLogRead_runs hs (sub_mask rfl hM)
  case helloSend => exact execHelloSend_runs hs (sub_mask rfl hM)
  case ctlHello => exact execCtlHello_runs hs (sub_mask rfl hM)
  case ctlRetire => exact execCtlRetire_runs hs (sub_mask rfl hM)
  case ctlMembers => exact execCtlMembers_runs hs (sub_mask rfl hM)
  case peerLost => exact execPeerLost_runs hs (sub_mask rfl hM)
  case selfRetire => exact execSelfRetire_runs hs (sub_mask rfl hM)
  case dumpNow => exact execDumpNow_runs hs (sub_mask rfl hM)
  case dumpDataRead => exact execDumpDataRead_runs hs (sub_mask rfl hM)
  case firmwareCrash => exact execFirmwareCrash_runs hs (sub_mask rfl hM)
  case firmwareInitDone => exact execFirmwareInitDone_runs hs (sub_mask rfl hM)
  case coldLoad => exact execColdLoad_runs hs (sub_mask rfl hM)
  case chunkVerify => exact execChunkVerify_runs hs (sub_mask rfl hM)
  case cfgNop => exact execCfgNop_runs hs (sub_mask rfl hM)
  case writeReg => exact execWriteReg_runs hs (sub_mask rfl hM)
  case waitTurns => exact execWaitTurns_runs hs (sub_mask rfl hM)
  case waitTurnsExpiry => exact execWaitTurnsExpiry_runs hs (sub_mask rfl hM)
  case pollState => exact execPollState_runs hs (sub_mask rfl hM)
  case pollTimeout => exact execPollTimeout_runs hs (sub_mask rfl hM)
  case setFar => exact execSetFar_runs hs (sub_mask rfl hM)
  case writeFrames => exact execWriteFrames_runs hs (sub_mask rfl hM)
  case repeatFrame => exact execRepeatFrame_runs hs (sub_mask rfl hM)
  case loadMem => exact execLoadMem_runs hs (sub_mask rfl hM)
  case loadEnd => exact execLoadEnd_runs hs (sub_mask rfl hM)
  case cfgContinue => exact execCfgContinue_runs hs (sub_mask rfl hM)
  case holdFwTimeout => exact execHoldFwTimeout_runs hs (sub_mask rfl hM)
  case partGo => exact execPartGo_runs hs (sub_mask rfl hM)
  case warmReplay => exact execWarmReplay_runs hs (sub_mask rfl hM)
  case chainFrame => exact execChainFrame_runs hs (sub_mask rfl hM)
  case chainResend => exact execChainResend_runs hs (sub_mask rfl hM)
  case flashRead => exact execFlashRead_runs hs (sub_mask rfl hM)
  case flashProgram => exact execFlashProgram_runs hs (sub_mask rfl hM)
  case flashErase => exact execFlashErase_runs hs (sub_mask rfl hM)
  case flashOpDone => exact execFlashOpDone_runs hs (sub_mask rfl hM)
  case secStatusSvc => exact execSecStatusSvc_runs hs (sub_mask rfl hM)
  case selftest => exact execSelftest_runs hs (sub_mask rfl hM)
  case secSelftestDone => exact execSecSelftestDone_runs hs (sub_mask rfl hM)
  case authChallenge => exact execAuthChallenge_runs hs (sub_mask rfl hM)
  case authResponse => exact execAuthResponse_runs hs (sub_mask rfl hM)
  case logout => exact execLogout_runs hs (sub_mask rfl hM)
  case coSessionIdle => exact execCoSessionIdle_runs hs (sub_mask rfl hM)
  case nonceExpiry => exact execNonceExpiry_runs hs (sub_mask rfl hM)
  case stkEstablish => exact execStkEstablish_runs hs (sub_mask rfl hM)
  case stkClear => exact execStkClear_runs hs (sub_mask rfl hM)
  case sakLoad => exact execSakLoad_runs hs (sub_mask rfl hM)
  case sakClear => exact execSakClear_runs hs (sub_mask rfl hM)
  case sakLoadPlain => exact execSakLoadPlain_runs hs (sub_mask rfl hM)
  case secRandom => exact execSecRandom_runs hs (sub_mask rfl hM)
  case randomRaw => exact execRandomRaw_runs hs (sub_mask rfl hM)
  case setMode => exact execSetMode_runs hs (sub_mask rfl hM)
  case zeroize => exact execZeroize_runs hs (sub_mask rfl hM)
  case zeroizeNLow => exact execZeroizeNLow_runs hs (sub_mask rfl hM)
  case debugLock => exact execDebugLock_runs hs (sub_mask rfl hM)
  case provisionIk => exact execProvisionIk_runs hs (sub_mask rfl hM)
  case revoke => exact execRevoke_runs hs (sub_mask rfl hM)
  case imageOpen => exact execImageOpen_runs hs (sub_mask rfl hM)
  case imageChunk => exact execImageChunk_runs hs (sub_mask rfl hM)
  case healthTestFail => exact execHealthTestFail_runs hs (sub_mask rfl hM)
  case drbgReseed => exact execDrbgReseed_runs hs (sub_mask rfl hM)
  case tapInstruction => exact execTapInstruction_runs hs (sub_mask rfl hM)
  case safeStateEntry => exact execSafeStateEntry_runs hs (sub_mask rfl hM)
  case safeCtlEnter => exact execSafeCtlEnter_runs hs (sub_mask rfl hM)
  case safeResetAssert => exact execSafeResetAssert_runs hs (sub_mask rfl hM)
  case mainResetRelease => exact execMainResetRelease_runs hs (sub_mask rfl hM)
  case restartComplete => exact execRestartComplete_runs hs (sub_mask rfl hM)
  case warmRestartTimeout => exact execWarmRestartTimeout_runs hs (sub_mask rfl hM)
  case safeCtlRestart => exact execSafeCtlRestart_runs hs (sub_mask rfl hM)
  case lrefReturn => exact execLrefReturn_runs hs (sub_mask rfl hM)
  case rrefRestore => exact execRrefRestore_runs hs (sub_mask rfl hM)
  case mainPgRise => exact execMainPgRise_runs hs (sub_mask rfl hM)
  case bypForceNHigh => exact execBypForceNHigh_runs hs (sub_mask rfl hM)
  case zeroizeNHigh => exact execZeroizeNHigh_runs hs (sub_mask rfl hM)
  case rxFaultEnd => exact execRxFaultEnd_runs hs (sub_mask rfl hM)
  case cdrLock => exact execCdrLock_runs hs (sub_mask rfl hM)
  case prbsLock => exact execPrbsLock_runs hs (sub_mask rfl hM)
  case anComplete => exact execAnComplete_runs hs (sub_mask rfl hM)
  case pcieLinkUp => exact execPcieLinkUp_runs hs (sub_mask rfl hM)
  case ltssmRecovery => exact execLtssmRecovery_runs hs (sub_mask rfl hM)
  case tapRecordDelivery => exact execTapRecordDelivery_runs hs (sub_mask rfl hM)
  case lwlReinstateDone => exact execLwlReinstateDone_runs hs (sub_mask rfl hM)
  case ctlReinstate => exact execCtlReinstate_runs hs (sub_mask rfl hM)
  case fltErr => exact execFltErr_runs hs (sub_mask rfl hM)
  case pipelineUncorrError => exact execPipelineUncorrError_runs hs (sub_mask rfl hM)

/-- Every command with every operand answers a next state. -/
theorem exec_answers (i : Instr) (s : State) : ∃ t, exec i s = .next t := by
  obtain ⟨t, ht, -⟩ := (exec_runs i s (Nat.or_self _)).run
  exact ⟨t, ht⟩

/-! ### Steps and runs -/

theorem step_nil {s : State} (h : s.pending = []) : step s = .next s := by
  unfold step
  rw [h]

theorem step_cons {s : State} {c : Instr} {rest : List Instr} (h : s.pending = c :: rest) :
    step s = exec c { s with pending := rest } := by
  unfold step
  rw [h]

/-- A step answers a next state: the front command's, or the same state where none waits. -/
theorem step_answers (s : State) : ∃ t, step s = .next t := by
  cases h : s.pending with
  | nil => exact ⟨s, step_nil h⟩
  | cons c rest => exact step_cons h ▸ exec_answers c _

/-- A run goes on with the state that its first step answers. -/
theorem core_run_succ (M : Host.Core) {s t : M.State} (h : M.step s = .next t) (n : Nat) :
    M.run (n + 1) s = M.run n t := by
  rw [Host.Core.run, h]

theorem State.neverStops (s : State) : s.NeverStops := by
  intro n
  induction n generalizing s with
  | zero => exact ⟨s, rfl⟩
  | succ n ih =>
    obtain ⟨t, ht⟩ := step_answers s
    exact core_run_succ core ht n ▸ ih t

/-- Settles O59: every command's law says that it answers a next state, and a run takes one such step after another. That a
command out of turn leaves the state as it is instead of stopping the block is the model's choice (log entries 1 and 6). -/
theorem blockNeverStops : Obligations.BlockNeverStops := ⟨exec_answers, State.neverStops⟩

/-- Settles O54: the step of an empty queue (log entry 1). -/
theorem emptyQueueIdles : Obligations.EmptyQueueIdles := fun _ => step_nil

end Sys2Proof.Machine
end

section
/-!
PROOFS. The turn boundary (R12, R63, R81, R85): once the count has crossed and the writes before the cut-off are in force,
nothing that the blocks do at the boundary moves the count or touches the lists of late and of early writes.
-/

namespace Sys2Proof.Machine

open Sys2Proof

/-- A state that stands at the count `n` of a boundary just committed: no write waits past the cut-off, and the registers
written since the cut-off are `w`. -/
structure AtBoundary (n : Nat) (w : List Nat) (s : State) : Prop where
  count : s.count = n
  late : s.late = []
  written : s.written = w

/-- The mask of every component but the late writes (bit 3), the registers written (bit 4) and the count (bit 11). -/
def boundaryMask : Nat := 0x17ffffffefffffff7e7

section

variable {n : Nat} {w : List Nat} {s : State}

theorem AtBoundary.keeps {t : State} (h : AtBoundary n w s) (k : Keeps boundaryMask s t) : AtBoundary n w t :=
  ⟨(k.count rfl).trans h.count, (k.late rfl).trans h.late, (k.written rfl).trans h.written⟩

theorem AtBoundary.foldl {β : Type} {f : State → β → State} (l : List β)
    (hf : ∀ a x, AtBoundary n w a → AtBoundary n w (f a x)) (h : AtBoundary n w s) : AtBoundary n w (l.foldl f s) := by
  induction l generalizing s with
  | nil => exact h
  | cons x l ih => exact ih (hf s x h)

theorem AtBoundary.ite {a b : State} {c : Prop} [Decidable c] (ha : AtBoundary n w a) (hb : AtBoundary n w b) :
    AtBoundary n w (if c then a else b) := by split <;> assumption

/-- The count crosses to the next boundary, and what was written past the cut-off is of the turn to come. -/
theorem atBoundary_crossBoundary (s : State) : AtBoundary s.nextBoundary (FMap.keys s.late) s.crossBoundary := by
  have h0 : AtBoundary s.nextBoundary (FMap.keys s.late) s.nextTick.commit := ⟨rfl, rfl, rfl⟩
  unfold State.crossBoundary
  exact (h0.keeps (State.setFld_keeps (.refl _ _) rfl (.all rfl))).ite h0 |>.keeps
    (State.updateWindow_keeps (.refl _ _) rfl)

/-! ### Units -/

theorem AtBoundary.releaseHeld (h : AtBoundary n w s) (page : Nat) : AtBoundary n w (s.releaseHeld page) :=
  ⟨h.count, h.late, h.written⟩

theorem AtBoundary.moveUnit (h : AtBoundary n w s) (page st reason : Nat) : AtBoundary n w (s.moveUnit page st reason) := by
  have h1 : AtBoundary n w (s.setUnit page st reason true) := h.keeps (State.setUnit_keeps (.refl _ _) rfl (.all rfl))
  exact ((h1.releaseHeld page).ite h1).keeps
    (State.checkReached_keeps (State.afterUnit_keeps (.refl _ _) rfl) rfl (.all rfl))

theorem AtBoundary.setTest (h : AtBoundary n w s) (page : Nat) (t : TestRun) : AtBoundary n w (s.setTest page t) :=
  h.keeps (State.setTest_keeps (.refl _ _) rfl)

theorem AtBoundary.endReq (h : AtBoundary n w s) (page o r : Nat) : AtBoundary n w (s.endReq page o r) :=
  h.keeps (State.endReq_keeps (.refl _ _) rfl (.all rfl))

theorem AtBoundary.autoUnit (h : AtBoundary n w s) (page : Nat) : AtBoundary n w (s.autoUnit page) :=
  (((h.setTest page .none).moveUnit page _ _).ite (h.setTest page .none)).ite ((h.moveUnit page _ _).ite h)

theorem AtBoundary.stepUnit (h : AtBoundary n w s) (page : Nat) : AtBoundary n w (s.stepUnit page) := by
  unfold State.stepUnit
  dsimp only
  refine h.ite ?_
  split
  · exact h
  · refine ((h.moveUnit page _ _).ite h).ite (.ite (.ite ?_ ?_) (h.ite (h.ite ((h.endReq page _ _).ite
      ((h.endReq page _ _).ite (h.ite (h.moveUnit page _ _)))))))
    · exact ((h.setTest page .none).keeps (State.tested_keeps (.refl _ _) rfl)).moveUnit page _ _
    · exact (h.setTest page .primed).keeps (State.testBegins_keeps (.refl _ _) rfl (.all rfl))

theorem AtBoundary.takeReq (h : AtBoundary n w s) (page : Nat) (moved : Bool) : AtBoundary n w (s.takeReq page moved) := by
  unfold State.takeReq
  extract_lets seq target st was test s1 accepted
  have h1 : AtBoundary n w s1 := h.keeps (State.setAux_keeps (State.setPending_keeps (State.setFld_keeps (.refl _ _) rfl
    (.all rfl)) rfl (.all rfl)) rfl)
  have h2 : AtBoundary n w accepted := h1.keeps (State.setPending_keeps (State.ackReq_keeps (.refl _ _) rfl (.all rfl)) rfl
    (.all rfl))
  have e : ∀ o r, AtBoundary n w (s1.endReq page o r) := fun o r => h1.endReq page o r
  have h3 : AtBoundary n w ((accepted.setFld page F.HDR_UNIT_STATE_REASON Reason.selftestRun).setTest page .reinstate) :=
    (h2.keeps (State.setFld_keeps (.refl _ _) rfl (.all rfl))).setTest page _
  exact (e _ _).ite (((e _ _).ite h3).ite ((e _ _).ite ((e _ _).ite ((e _ _).ite ((e _ _).ite (h2.ite
    (h2.stepUnit page)))))))

theorem AtBoundary.unitBoundary (h : AtBoundary n w s) (page : Nat) : AtBoundary n w (s.unitBoundary page) := by
  unfold State.unitBoundary
  extract_lets s1 moved seq s2 a s3
  have h1 : AtBoundary n w s1 := (h.keeps (State.leakJudged_keeps (.refl _ _) rfl (.all rfl))).autoUnit page
  have h2 : AtBoundary n w s2 := h1.keeps (State.deadReq_keeps (.refl _ _) rfl (.all rfl))
  have h3 : AtBoundary n w s3 := (h2.keeps (State.setAux_keeps (.refl _ _) rfl)).ite h2
  exact (h1.takeReq page _).ite ((h3.ite (h3.stepUnit page)).ite h2)

theorem AtBoundary.unitsBoundary (h : AtBoundary n w s) : AtBoundary n w s.unitsBoundary := by
  unfold State.unitsBoundary
  refine AtBoundary.foldl _ (fun a p ha => ha.unitBoundary p) (AtBoundary.ite ?_ h)
  exact (h.keeps (State.setFld_keeps (.refl _ _) rfl (.all rfl))).releaseHeld Pg.smp

theorem AtBoundary.rykUnitsBoundary (h : AtBoundary n w s) : AtBoundary n w s.rykUnitsBoundary :=
  h.foldl _ fun _ p ha => ha.unitBoundary p

theorem AtBoundary.islandUnits (h : AtBoundary n w s) : AtBoundary n w s.islandUnits :=
  (h.foldl _ fun _ p ha => ha.unitBoundary p).keeps (State.forceUnits_keeps (.refl _ _) rfl)

/-! ### Links and ports -/

theorem AtBoundary.linksBoundary (h : AtBoundary n w s) (before : State) :
    AtBoundary n w (State.linksBoundary before s) := by
  unfold State.linksBoundary
  extract_lets s1 s2
  have h1 : AtBoundary n w s1 := h.foldl _ fun _ _ ha => ha.keeps (State.laneBoundary_keeps (.refl _ _) rfl)
  have h2 : AtBoundary n w s2 := h1.foldl _ fun _ _ ha => ha.keeps (State.opeBoundary_keeps (.refl _ _) rfl)
  have h3 : AtBoundary n w ((List.range 64).foldl State.linkFollow s2) :=
    h2.foldl _ fun _ _ ha => ha.keeps (State.linkFollow_keeps (.refl _ _) rfl)
  exact h3.rykUnitsBoundary.keeps (State.rykPump_keeps (.refl _ _) rfl)

/-- An SA's field put to a value at once stands in the late writes only where one waits. -/
theorem AtBoundary.setSaFld (h : AtBoundary n w s) (q : Nat) (f : Fld) (v : Nat) : AtBoundary n w (s.setSaFld q f v) := by
  refine ⟨h.count, ?_, h.written⟩
  unfold State.setSaFld
  dsimp only
  rw [h.late]
  rfl

theorem AtBoundary.raiseIrq (h : AtBoundary n w s) (page b : Nat) : AtBoundary n w (s.raiseIrq page b) :=
  h.keeps (State.raiseIrq_keeps (.refl _ _) rfl (.all rfl))

theorem AtBoundary.clearSlot (h : AtBoundary n w s) (q ctl : Nat) : AtBoundary n w (s.clearSlot q ctl) :=
  ((h.setSaFld q _ _).setSaFld q _ _).keeps (Keeps.set_saks _ rfl (.refl _ _))

theorem AtBoundary.changeXpn (h : AtBoundary n w s) (q : Nat) (v : Bool) : AtBoundary n w (s.changeXpn q v) := by
  unfold State.changeXpn
  refine AtBoundary.keeps (AtBoundary.foldl _ (fun a c ha => ?_) h) (State.setPortAux_keeps (.refl _ _) rfl)
  exact ((ha.clearSlot q c).setSaFld q _ _).keeps
    (State.setFld_keeps (State.setFld_keeps (.refl _ _) rfl (.all rfl)) rfl (.all rfl))

theorem AtBoundary.judgeXpn (h : AtBoundary n w s) (q : Nat) : AtBoundary n w (s.judgeXpn q) :=
  h.ite ((h.changeXpn q _).ite ((h.keeps (State.recordFault_keeps (.refl _ _) rfl (.all rfl))).raiseIrq _ 3))

theorem AtBoundary.mscBoundary (h : AtBoundary n w s) (due : List Nat) (q : Nat) : AtBoundary n w (s.mscBoundary due q) := by
  unfold State.mscBoundary
  extract_lets s1 s2
  have h1 : AtBoundary n w s1 := h.foldl _ fun _ _ ha => (((ha.setSaFld q _ _).raiseIrq _ 2).ite ha).ite ha
  have h2 : AtBoundary n w s2 := (h1.keeps (State.takeEncAn_keeps (.refl _ _) rfl)).ite h1
  exact (h2.judgeXpn q).ite h2

theorem AtBoundary.portsBoundary (h : AtBoundary n w s) (before : State) (due : List Nat) :
    AtBoundary n w (State.portsBoundary before due s) := by
  unfold State.portsBoundary
  extract_lets s0 s1 s2
  have h0 : AtBoundary n w s0 := h.keeps (State.keepLatched_keeps (.refl _ _) rfl)
  have h1 : AtBoundary n w s1 := h0.foldl _ fun _ _ ha => ha.keeps (State.lfpBoundary_keeps (.refl _ _) rfl)
  have h2 : AtBoundary n w s2 := (h1.keeps (State.bypassBoundary_keeps (.refl _ _) rfl)).foldl _ fun _ q ha =>
    ha.mscBoundary due q
  exact h2.foldl _ fun _ _ ha => ha.keeps (State.pairBoundary_keeps (.refl _ _) rfl)

/-! ### The whole boundary -/

theorem AtBoundary.blocksBoundary (h : AtBoundary n w s) (before : State) (due : List Nat) :
    AtBoundary n w (State.blocksBoundary before due s) := by
  unfold State.blocksBoundary
  extract_lets s0 woken s1 s2 s3 s4 s5
  have h0 : AtBoundary n w s0 := (h.keeps (State.regionsBoundary_keeps (.refl _ _) rfl)).unitsBoundary
  have h1 : AtBoundary n w s1 := h0.linksBoundary before
  have h2 : AtBoundary n w s2 := ((h1.keeps (State.carveBoundary_keeps (State.carveBoundary_keeps (.refl _ _) rfl)
    rfl)).portsBoundary before _).keeps (State.flowBoundary_keeps (.refl _ _) rfl)
  have h3 : AtBoundary n w s3 := h2.keeps (State.thermBoundary_keeps (State.fmapBoundary_keeps (State.fmapBoundary_keeps
    (.refl _ _) rfl) rfl) rfl)
  have h4 : AtBoundary n w s4 := h3.keeps (State.declBoundary_keeps (State.ledgerBoundary_keeps (State.lwlBoundary_keeps
    (.refl _ _) rfl) rfl) rfl)
  have h5 : AtBoundary n w s5 := h4.keeps (State.pumpBoundary_keeps (State.liveBoundary_keeps (State.batchBoundary_keeps
    (State.netBoundary_keeps (.refl _ _) rfl) rfl) rfl) rfl)
  exact h5.keeps (State.tiersBoundary_keeps (State.watchPeers_keeps (State.collTick_keeps (State.loadBoundary_keeps
    (.refl _ _) rfl) rfl) rfl) rfl)

/-- Snapshots and marks leave the boundary's count and writes. -/
theorem AtBoundary.snapshotsAndMarks (h : AtBoundary n w s) (f : Fld) : AtBoundary n w (s.snapshotArmed f).fireMarks :=
  h.keeps (State.fireMarks_keeps (State.snapshotArmed_keeps (.refl _ _) rfl) rfl)

end

/-- After a turn boundary the count is the boundary's, and only the writes past the cut-off are of the turn to come. -/
theorem atBoundary_turnBoundary (s : State) (m : TurnMeasure) :
    AtBoundary s.nextBoundary (FMap.keys s.late) (s.turnBoundary m) := by
  unfold State.turnBoundary
  extract_lets s1 s2 s3
  have h1 : AtBoundary s.nextBoundary (FMap.keys s.late) s1 := atBoundary_crossBoundary s
  refine AtBoundary.ite ?_ ?_
  · exact (((h1.keeps (State.windlassBoundary_keeps (.refl _ _) rfl)).islandUnits).keeps
      (State.syncPolicies_keeps (.refl _ _) rfl)).snapshotsAndMarks _
  · have h2 : AtBoundary s.nextBoundary (FMap.keys s.late) s2 := h1.foldl _ fun _ _ ha =>
      ha.keeps (State.fecBoundary_keeps (.refl _ _) rfl)
    have h3 : AtBoundary s.nextBoundary (FMap.keys s.late) s3 := (h2.keeps (State.refBoundary_keeps
      (State.windlassBoundary_keeps (.refl _ _) rfl) rfl)).blocksBoundary s s.written
    exact ((h3.keeps (State.forceUnits_keeps (.refl _ _) rfl)).snapshotsAndMarks _).keeps
      (State.turnTicks_keeps (.refl _ _) rfl)

/-- TURN_BOUNDARY of a running count (R12, R63, R81). -/
theorem execTurnBoundary_crosses (m : TurnMeasure) {s : State} (h : s.wdl.stopped = false) :
    ∃ t, execTurnBoundary m s = .next t ∧ t.count = (s.turn + 1) * 65536 % 2 ^ 64 ∧ t.late = [] ∧
      t.written = FMap.keys s.late := by
  obtain ⟨hc, hl, hw⟩ := atBoundary_turnBoundary s m
  exact ⟨_, congrArg Host.Outcome.next (if_pos (by simp [h])), hc, hl, hw⟩

end Sys2Proof.Machine
end

section
/-!
PROOFS. The Windlass's commands (R63 to R98): what the bookkeeping beside the Windlass leaves of the count and of the
Windlass, what each of its operations shows on page WDL, and how marks are loaded and fire.
-/

namespace Sys2Proof.Machine

open Sys2Proof

/-! ### What leaves the count and the Windlass -/

/-- The mask of every component but the count (bit 11) and the Windlass (bit 12). -/
def countMask : Nat := 0x17ffffffeffffffe7ff

@[simp] theorem State.wdlMap_count (s : State) (f : Windlass → Windlass) : (s.wdlMap f).count = s.count := rfl

@[simp] theorem State.hwSet_wdl (s : State) (p : Nat) (f : Fld) : (s.hwSet p f).wdl = s.wdl := rfl

@[simp] theorem State.raiseIrq_count (s : State) (p b : Nat) : (s.raiseIrq p b).count = s.count :=
  (State.raiseIrq_keeps (M := countMask) (.refl _ s) rfl (.all rfl)).count rfl

@[simp] theorem State.raiseIrq_wdl (s : State) (p b : Nat) : (s.raiseIrq p b).wdl = s.wdl :=
  (State.raiseIrq_keeps (M := countMask) (.refl _ s) rfl (.all rfl)).wdl rfl

@[simp] theorem State.syncPermanent_count (s : State) (p : Nat) : (s.syncPermanent p).count = s.count :=
  (State.syncPermanent_keeps (M := countMask) (.refl _ s) rfl (.all rfl)).count rfl

@[simp] theorem State.syncPermanent_wdl (s : State) (p : Nat) : (s.syncPermanent p).wdl = s.wdl :=
  (State.syncPermanent_keeps (M := countMask) (.refl _ s) rfl (.all rfl)).wdl rfl

@[simp] theorem State.milestone_wdl (s : State) (k : Nat) : (s.milestone k).wdl = s.wdl :=
  (State.milestone_keeps (M := countMask) (.refl _ s) rfl).wdl rfl

@[simp] theorem State.snapshotArmed_wdl (s : State) (f : Fld) : (s.snapshotArmed f).wdl = s.wdl :=
  (State.snapshotArmed_keeps (M := countMask) (.refl _ s) rfl).wdl rfl

@[simp] theorem State.probeMarks_wdl (s : State) (m : Nat) : (s.probeMarks m).wdl = s.wdl :=
  (State.probeMarks_keeps (M := countMask) (.refl _ s) rfl).wdl rfl

/-! ### Leaving STOPPED, the count's registers -/

/-- The exit from STOPPED (R96, R98). -/
theorem execWindlassExitStopped_starts {s : State} (h : s.tstate = T.stopped) (hl : s.wdl.lrefOk = true)
    (hr : s.pins.mainReset = false) : ∃ t, execWindlassExitStopped s = .next t ∧ t.count = s.preset ∧
    t.wdl.stopped = false ∧ t.tstate = T.free ∧ t.fld Pg.wdl F.WDL_RATE = 0 := by
  refine ⟨_, if_pos (by simp [h, hl, hr]), by simp, by simp, ?_, ?_⟩
  · simp (disch := decide) only [State.tstate, State.fld_syncPermanent, State.fld_setFld_off, State.fld_setFld_self]
    rfl
  · simp (disch := decide) only [State.fld_syncPermanent, State.fld_setFld_off, State.fld_setFld_self]
    rfl

/-- A register that is one field of 32 bits which a write replaces holds the value written. -/
theorem State.writtenValue_word (s : State) {x : Part} {v : Word} {r : Nat}
    (hf : regFields x.page x.off = [⟨0, 32, .rws, r⟩]) (hc : clampCodes x.page x.off v = v) (h1 : x.off ≠ 0x02C)
    (h2 : x.off ≠ 0x03C) : s.writtenValue x v 0 = v := by
  have hv : ∀ old : Word, old.withField 0 32 (v.field 0 32) = v := by
    intro old
    refine BitVec.eq_of_getLsbD_eq fun i hi => ?_
    rw [Word.getLsbD_withField, Word.testBit_field]
    simp [hi]
  unfold State.writtenValue
  dsimp only
  rw [if_neg h1, if_neg h2, hf, hc, List.foldl_cons, List.foldl_nil]
  dsimp only [writeField]
  rw [hv]
  show v &&& ~~~0#32 ||| s.reg _ &&& 0#32 = v
  rw [BitVec.not_zero, BitVec.and_allOnes, BitVec.and_zero, BitVec.or_zero]

/-- No clamp falls on the registers of the preset. -/
theorem clampCodes_preset (high : Bool) (v : Word) : clampCodes Pg.wdl (if high then 0x058 else 0x054) v = v := by
  have hr : rulesAt Pg.wdl (if high then 0x058 else 0x054) = [] := by cases high <;> decide +kernel
  unfold clampCodes
  rw [hr]
  cases high <;> rfl

/-- A write of a half of WDL_PRESET reads back (R95). -/
theorem State.fld_write_preset (s : State) (high : Bool) (v : Word) :
    (s.write Pg.wdl (if high then 0x058 else 0x054) v).fld Pg.wdl (if high then F.WDL_PRESET_HI else F.WDL_PRESET_LO) =
      v.toNat := by
  have hv : s.writtenValue (fullPart Pg.wdl (if high then 0x058 else 0x054)) v 0 = v :=
    s.writtenValue_word (r := 0) (by cases high <;> decide +kernel) (clampCodes_preset high v)
      (by cases high <;> decide) (by cases high <;> decide)
  have hw : ∀ x : Word, x = v → x.field 0 32 = v.toNat := by
    rintro x rfl
    exact Nat.mod_eq_of_lt x.isLt
  cases high
  · exact (State.fld_applyWrite_self s Pg.wdl F.WDL_PRESET_LO v 0 false 2 (by decide) (by decide +kernel)).trans (hw _ hv)
  · exact (State.fld_applyWrite_self s Pg.wdl F.WDL_PRESET_HI v 0 false 2 (by decide) (by decide +kernel)).trans (hw _ hv)

theorem State.tstate_write_preset (s : State) (high : Bool) (v : Word) :
    (s.write Pg.wdl (if high then 0x058 else 0x054) v).tstate = s.tstate :=
  State.fld_applyWrite_ne s _ v 0 false false Pg.wdl F.WDL_STATUS_TSTATE (by decide) (by cases high <;> decide)

/-- While STOPPED the held count follows a write of WDL_PRESET (R95). -/
theorem execWdlPresetWrite_stopped (off : Nat) (high : Bool) (v : Word) {s : State} (h : s.tstate = T.stopped) :
    ∃ t, execWdlPresetWrite off high v s = .next t ∧
      t.fld Pg.wdl (if high then F.WDL_PRESET_HI else F.WDL_PRESET_LO) = v.toNat ∧ t.count = t.preset := by
  have hs : ((s.at off).write Pg.wdl (if high then 0x058 else 0x054) v).tstate = T.stopped := by
    rw [State.tstate_write_preset, State.tstate, State.fld_at]
    exact h
  exact ⟨_, congrArg Host.Outcome.next (if_pos hs), State.fld_write_preset _ high v, rfl⟩

/-- A read of WDL_COUNT_LO answers the low word and latches the high one (R97). -/
theorem execWdlCountLoRead_latches (off : Nat) (s : State) : ∃ t, execWdlCountLoRead off s = .next t ∧
    t.rdata = [BitVec.ofNat 32 (s.at off).count] ∧ t.fld Pg.wdl F.WDL_COUNT_HI = (s.at off).count / 2 ^ 32 % 2 ^ 32 :=
  ⟨_, rfl, rfl, State.fld_setFld_self _ Pg.wdl F.WDL_COUNT_HI _ (by decide)⟩

/-! ### The anchor -/

theorem State.anchored_at (s : State) (off : Nat) : (s.at off).anchored = s.anchored := by
  unfold State.at
  split <;> rfl

/-- An anchor that fails leaves HOLDOVER with no anchor, its cause recorded (R69, R70). -/
theorem State.failAnchor_shows (s : State) (c : LossCause) : (s.failAnchor c).tstate = T.holdover ∧
    (s.failAnchor c).anchor = 8 ∧ (s.failAnchor c).fld Pg.wdl F.WDL_STATUS_LOSS_CAUSE = lossCode c ∧
    (s.failAnchor c).fld Pg.wdl ⟨0x020, 1, 1⟩ = 1 := by
  unfold State.failAnchor State.enterHoldover State.tstate State.anchor
  refine ⟨?_, ?_, ?_, State.irq_raiseIrq _ _ _ (by decide)⟩
  · simp (disch := decide) only [State.fld_mk, State.fld_raiseIrq, State.fld_setFld_bits, State.fld_setFld_self]
    rfl
  · simp (disch := decide) only [State.fld_mk, State.fld_raiseIrq, State.fld_setFld_self]
    rfl
  · simp (disch := decide) only [State.fld_mk, State.fld_raiseIrq, State.fld_setFld_bits, State.fld_ite,
      State.fld_incFld_off, State.fld_setFld_self, ite_self]
    cases c <;> rfl

/-- A loss indicator on the active anchor fails it. -/
theorem State.loseAnchor_anchored {s : State} (h : s.anchored = true) (c : LossCause) :
    s.loseAnchor c = ((s.endLock s.anchor).relock s.anchor c).failAnchor c := by
  unfold State.loseAnchor State.interruptLock
  simp [h]

/-- ANCHOR_LOSS enters HOLDOVER (R69). -/
theorem execAnchorLoss_holdover (off : Nat) (c : LossCause) {s : State} (h : s.tstate = T.slewing ∨ s.tstate = T.locked)
    (ha : s.anchor < 8) : ∃ t, execAnchorLoss off c s = .next t ∧ t.tstate = T.holdover ∧ t.anchor = 8 ∧
    t.fld Pg.wdl F.WDL_STATUS_LOSS_CAUSE = lossCode c ∧ t.fld Pg.wdl ⟨0x020, 1, 1⟩ = 1 := by
  have hs : (s.at off).anchored = true := by
    rw [State.anchored_at]
    simpa [State.anchored, ha] using h
  exact ⟨_, congrArg Host.Outcome.next (State.loseAnchor_anchored hs c), State.failAnchor_shows _ c⟩

/-- A port in lock for 16 turns is qualified (R65). -/
theorem State.qualified_qualify {s : State} {p since : Nat} (h : FMap.get? s.wdl.lockSince p = some since)
    (hp : p < 8) (ht : 16 * 65536 ≤ s.since since) : (s.qualify p).qualified p = true := by
  have hq : s.qualify p = s.setFld Pg.wdl ⟨0x044, 16 + p, 1⟩ 1 := by
    unfold State.qualify
    rw [h]
    exact if_pos ht
  rw [hq]
  unfold State.qualified State.bit
  rw [State.fld_setFld_self _ _ _ _ (by show 16 + p + 1 ≤ 32; omega)]
  rfl

theorem State.steadyFor_iff (s : State) (n : Nat) :
    s.steadyFor n = true ↔ ∃ t, s.wdl.steadySince = some t ∧ s.tstate = T.slewing ∧ n * 65536 ≤ s.since t := by
  unfold State.steadyFor
  cases s.wdl.steadySince <;> simp

/-- LOCKED entered (R71): the turns of HOLDOVER are cleared, the cause raised, and the count of its entry noted. -/
theorem State.enterLocked_shows (s : State) : s.enterLocked.tstate = T.locked ∧
    s.enterLocked.fld Pg.wdl F.WDL_HOLDOVER_TURNS = 0 ∧ s.enterLocked.fld Pg.wdl ⟨0x020, 2, 1⟩ = 1 ∧
    s.enterLocked.wdl.lockedAt = s.count := by
  unfold State.enterLocked State.tstate
  refine ⟨?_, ?_, ?_, by rw [State.milestone_wdl]⟩
  · simp (disch := decide) only [State.fld_milestone, State.fld_mk, State.fld_raiseIrq, State.fld_setFld_off,
      State.fld_setFld_self]
    rfl
  · simp (disch := decide) only [State.fld_milestone, State.fld_mk, State.fld_raiseIrq, State.fld_setFld_self]
    rfl
  · simp (disch := decide) only [State.fld_milestone, State.fld_mk, State.irq_raiseIrq]

/-- A number read as a field of its width fits it. -/
theorem unsigned_lt (w : Nat) (v : Int) : unsigned w v < 2 ^ w := by
  unfold unsigned
  have h1 := Int.emod_lt_of_pos v (show (0 : Int) < 2 ^ w by positivity)
  have h2 := Int.emod_nonneg v (show (2 : Int) ^ w ≠ 0 by positivity)
  zify
  rw [Int.toNat_of_nonneg h2]
  exact h1

/-- LEARNED after 16 turns in LOCKED, with the mean of the rates (R70). -/
theorem execLearnedSet_learns {s : State} (h : s.tstate = T.locked) (ht : 16 * 65536 ≤ s.since s.wdl.lockedAt) :
    ∃ t, execLearnedSet s = .next t ∧ t.fld Pg.wdl F.WDL_STATUS_LEARNED = 1 ∧
      t.fld Pg.wdl F.WDL_LEARNED_RATE = unsigned 32 (meanRate s.wdl.hist) := by
  refine ⟨_, if_pos (by simp [h, ht]), ?_, ?_⟩
  · simp (disch := decide) only [State.fld_milestone, State.fld_setFld_off, State.fld_setFld_self]
    rfl
  · simp (disch := decide) only [State.fld_milestone, State.fld_setFld_self]
    exact Nat.mod_eq_of_lt (unsigned_lt 32 _)

/-! ### Marks -/

theorem State.mark_congr {s t : State} (h : t.wdl = s.wdl) (m : Nat) : t.mark m = s.mark m := by
  unfold State.mark
  rw [h]

/-- Reading a mark's comparator after one is set. -/
theorem State.mark_setMark (s : State) (m : Nat) (c : MarkCmp) (k : Nat) :
    (s.setMark m c).mark k = if k = m then c else s.mark k :=
  FMap.getD_setC_const s.wdl.marks ⟨false, 0, 0⟩ m c k

/-- A mark armed with a count not yet reached when its comparator loads, at most 16 blk after the write (R74, R75). -/
theorem State.mark_armMark {w : State} {m : Nat} (ha : w.bit Pg.wdl (F.WDL_MARK_CTL_ARM m) = true)
    (hc : w.count + 16 < w.fld Pg.wdl (F.WDL_MARK_LO m) + 2 ^ 32 * w.fld Pg.wdl (F.WDL_MARK_HI m)) :
    (w.armMark m).mark m = ⟨true, w.fld Pg.wdl (F.WDL_MARK_LO m) + 2 ^ 32 * w.fld Pg.wdl (F.WDL_MARK_HI m),
      w.fld Pg.wdl (F.WDL_MARK_PERIOD m)⟩ := by
  have hl : ¬ w.fld Pg.wdl (F.WDL_MARK_LO m) + 2 ^ 32 * w.fld Pg.wdl (F.WDL_MARK_HI m) ≤ w.count + w.free % 17 := by
    have := Nat.mod_lt w.free (show 0 < 17 by decide)
    omega
  unfold State.armMark
  dsimp only
  rw [if_pos ha, if_neg hl, State.mark_setMark, if_pos rfl]

/-- A comparator once its mark has fired (R76): a single mark is spent, a periodic one moves on. -/
def MarkCmp.fired (c : MarkCmp) : MarkCmp :=
  if c.period = 0 then ⟨false, c.count, 0⟩ else ⟨true, (c.count + markPeriod c.period) % 2 ^ 64, c.period⟩

/-- A mark that fires changes its own comparator and no other. -/
theorem State.mark_fireMark (s : State) (m k : Nat) :
    (s.fireMark m).mark k = if k = m then (s.mark m).fired else s.mark k := by
  unfold State.fireMark
  extract_lets c s1 s2 s3 s4 s5 s6
  have h3 : s3.wdl = s2.wdl := by unfold s3; split <;> simp
  have h4 : s4.wdl = s3.wdl := by unfold s4; split <;> simp
  have h5 : s5.wdl = s4.wdl := by unfold s5; split <;> simp
  have h6 : s6.wdl = s5.wdl := State.probeMarks_wdl s5 m
  have h7 : (if s.bit Pg.wdl (F.WDL_MARK_CTL_CPC m) then s6.emit (.cpcMark m s.count) else s6).wdl = s6.wdl := by
    split <;> simp
  rw [State.mark_congr (h7.trans (h6.trans (h5.trans (h4.trans h3)))) k]
  have h1 : s1.mark k = s.mark k := rfl
  unfold s2 MarkCmp.fired
  split <;> rw [State.mark_setMark, h1]

/-- Marks that fire one after another, each once. -/
theorem State.mark_foldl_fireMark (l : List Nat) (hl : l.Nodup) (s : State) (m : Nat) :
    (l.foldl State.fireMark s).mark m = if m ∈ l then (s.mark m).fired else s.mark m := by
  induction l generalizing s with
  | nil => simp
  | cons j l ih =>
    obtain ⟨hj, hl⟩ := List.nodup_cons.mp hl
    rw [List.foldl_cons, ih hl, State.mark_fireMark]
    by_cases h : m = j
    · subst h
      simp [hj]
    · simp [h]

/-- An armed mark at its count fires. -/
theorem State.mark_fireMarks {s : State} {m : Nat} (hm : m < 64) (ha : (s.mark m).armed = true)
    (hc : (s.mark m).count = s.count) : s.fireMarks.mark m = (s.mark m).fired := by
  unfold State.fireMarks
  rw [State.mark_foldl_fireMark _ (List.nodup_range.filter _), if_pos (by simp [hm, ha, hc])]

/-- Firing marks does not move the count. -/
theorem State.fireMarks_count (s : State) : s.fireMarks.count = s.count :=
  (State.fireMarks_keeps (.refl _ s) (Nat.or_self _)).count rfl

/-- MARK_FIRE moves the count to an armed mark's own, where the mark fires (R75, R76). -/
theorem execMarkFire_fires (m : Fin 64) {s : State} (ha : (s.mark m.val).armed = true) (hs : s.wdl.stopped = false)
    (ht : (s.mark m.val).count / 65536 = s.turn) (hc : s.count ≤ (s.mark m.val).count) :
    ∃ t, execMarkFire m s = .next t ∧ t.count = (s.mark m.val).count ∧ t.mark m.val = (s.mark m.val).fired :=
  ⟨_, if_pos (by simp [ha, hs, ht, hc]), State.fireMarks_count _, State.mark_fireMarks m.isLt ha rfl⟩

/-! ### Followers -/

@[simp] theorem State.followerError_count (s : State) (d : Nat) : (s.followerError d).count = s.count := by
  unfold State.followerError State.setAdrift
  simp

theorem State.foldl_followerError_count (l : List Nat) (s : State) : (l.foldl State.followerError s).count = s.count := by
  induction l generalizing s with
  | nil => rfl
  | cons d l ih => rw [List.foldl_cons, ih, State.followerError_count]

/-- A full-count broadcast notes the followers in which it fails and the count it sends (R78, R92). -/
theorem execFullCountBroadcast_sends (off : Nat) (gray bad : List Nat) {s : State} (hs : s.wdl.stopped = false)
    (hc : (s.at off).count % 4096 = 0) : ∃ t, execFullCountBroadcast off gray bad s = .next t ∧
    t.wdl.badFollowers = bad.filter s.hasFollower ∧ t.wdl.lastFull = (s.at off).count := by
  have hn := State.foldl_followerError_count (gray.filter s.hasFollower) (s.at off)
  refine ⟨((gray.filter s.hasFollower).foldl State.followerError (s.at off)).broadcast (bad.filter s.hasFollower), ?_,
    rfl, hn⟩
  unfold execFullCountBroadcast
  simp [hs, hn, hc]

/-! ### The statement -/

/-- Settles O1, a law of its own for each of the eleven commands. -/
theorem windlassCommandsComplete : Obligations.WindlassCommandsComplete := by
  unfold Obligations.WindlassCommandsComplete
  refine ⟨fun m s h => execTurnBoundary_crosses m h, fun s h hl hr => execWindlassExitStopped_starts h hl hr,
    fun off c s h ha => execAnchorLoss_holdover off c h ha, fun off p s since h ht => ?portQualified,
    fun s since hs h ht => ?slewLock, fun s h ht => execLearnedSet_learns h ht,
    fun off high v s h => execWdlPresetWrite_stopped off high v h, fun off s => execWdlCountLoRead_latches off s,
    fun off m ctl s w hw ha hc => ?markArm, fun m s ha hs ht hc => execMarkFire_fires m ha hs ht hc,
    fun off gray bad s hs hc => execFullCountBroadcast_sends off gray bad hs hc⟩
  case portQualified =>
    exact ⟨_, rfl, State.qualified_qualify (by rwa [State.at_wdl]) p.isLt ht⟩
  case slewLock =>
    have hb : s.steadyFor 1 = true := (s.steadyFor_iff 1).mpr ⟨since, hs, h, by rwa [Nat.one_mul]⟩
    exact ⟨_, congrArg Host.Outcome.next (if_pos hb), s.enterLocked_shows⟩
  case markArm =>
    subst hw
    exact ⟨_, rfl, State.mark_armMark ha hc⟩

end Sys2Proof.Machine
end

section
/-!
PROOFS. The frame of every command: the pieces of the state have places of their own in the masks of `Keeps`, so the law
`exec_runs` of a command says of each piece that the command does not name that it reads as before.
-/

namespace Sys2Proof.Machine

open Sys2Proof

/-- The pieces beside the registers, in the order of their mask bits. -/
def Piece.fields : List Piece :=
  [.pending, .clk, .force, .late, .written, .snaps, .snapAt, .wideHi, .rdata, .out, .draws, .count, .wdl, .pins, .safe,
   .lanes, .chans, .rref, .units, .fns, .ports, .saks, .pipe, .ddr, .ryk, .host, .energy, .net, .tiles, .batches, .memory,
   .pumps, .pcie, .lwl, .sec, .flash, .load, .fabric, .cpc, .tap]

/-- The piece of a mask bit: past the fields stand the classes of pages. -/
def Piece.ofBit (b : Nat) : Piece := Piece.fields.getD b (.regs (b - 40))

theorem Piece.ofBit_bit (x : Piece) : Piece.ofBit x.bit = x := by
  cases x with
  | regs c =>
    have h : Piece.fields.length ≤ 40 + c := Nat.le_add_right 40 c
    unfold Piece.ofBit Piece.bit
    rw [List.getD_eq_default _ _ h, Nat.add_sub_cancel_left]
  | _ => rfl

/-- No two pieces share a mask bit. -/
theorem Piece.bit_injective : Function.Injective Piece.bit := Function.LeftInverse.injective Piece.ofBit_bit

/-- The mask of a list of pieces lacks the bit of every other piece. -/
theorem testBit_pieceMask_of_notMem {l : List Piece} {x : Piece} (h : x ∉ l) : (pieceMask l).testBit x.bit = false := by
  rw [Bool.eq_false_iff, ne_eq, testBit_pieceMask]
  rintro ⟨y, hy, he⟩
  exact h (Piece.bit_injective he ▸ hy)

/-- Settles O58: a command's law, taken with the mask of exactly the pieces that the command names. -/
theorem commandsChangeOnlyTheirPieces : Obligations.CommandsChangeOnlyTheirPieces := by
  intro i s t x ht hx
  obtain ⟨u, hu, hk⟩ := (exec_runs i s (Nat.or_self (pieceMask (mayChange i)))).run
  obtain rfl : u = t := Host.Outcome.next.inj (hu.symm.trans ht)
  exact hk.same x (testBit_pieceMask_of_notMem hx)

end Sys2Proof.Machine
end

section
/-!
PROOFS. Intake (R243, R280 to R283): what the counters before a frame's entry leave of the pipeline and of the registers, what
the Sump leaves of the frames, and where a frame stands once S0 has handed it on.
-/

namespace Sys2Proof.Machine

open Sys2Proof

/-! ### What leaves the pipeline -/

/-- The mask of every component but the pipeline (bit 22). -/
def besidePipe : Nat := 0x17ffffffeffffbfffff

@[simp] theorem State.raiseIrq_pipe (s : State) (p b : Nat) : (s.raiseIrq p b).pipe = s.pipe :=
  (State.raiseIrq_keeps (M := besidePipe) (.refl _ s) rfl (.all rfl)).pipe rfl

@[simp] theorem State.incWide_pipe (s : State) (p : Nat) (f : Fld) (n : Nat) : (s.incWide p f n).pipe = s.pipe := rfl

@[simp] theorem State.countReason_pipe (s : State) (why : Nat) : (s.countReason why).pipe = s.pipe :=
  (State.countReason_keeps (M := besidePipe) (.refl _ s) rfl).pipe rfl

@[simp] theorem State.captureLost_pipe (s : State) : s.captureLost.pipe = s.pipe :=
  (State.captureLost_keeps (M := besidePipe) (.refl _ s) rfl).pipe rfl

@[simp] theorem State.syncCells_pipe (s : State) (i : Nat) : (s.syncCells i).pipe = s.pipe :=
  (State.syncCells_keeps (M := besidePipe) (.refl _ s) rfl).pipe rfl

@[simp] theorem State.syncFloat_pipe (s : State) (i n : Nat) : (s.syncFloat i n).pipe = s.pipe :=
  (State.syncFloat_keeps (M := besidePipe) (.refl _ s) rfl).pipe rfl

@[simp] theorem State.countMacControl_pipe (s : State) (q : Nat) (b : List Nat) : (s.countMacControl q b).pipe = s.pipe :=
  (State.countMacControl_keeps (M := besidePipe) (.refl _ s) rfl).pipe rfl

@[simp] theorem State.countFec_pipe (s : State) (q corr uncorr : Nat) : (s.countFec q corr uncorr).pipe = s.pipe :=
  (State.countFec_keeps (M := besidePipe) (.refl _ s) rfl).pipe rfl

@[simp] theorem State.ptpReach_pipe (s : State) (t : Nat) : (s.ptpReach t).pipe = s.pipe :=
  (State.ptpReach_keeps (M := besidePipe) (.refl _ s) rfl).pipe rfl

/-- Frames depend on the pipeline alone. -/
theorem State.frame_congr {s t : State} (h : t.pipe = s.pipe) (id : Nat) : t.frame id = s.frame id := by
  unfold State.frame
  rw [h]

/-! ### What the Sump leaves of the frames -/

@[simp] theorem State.release_pseq (s : State) (id : Nat) : (s.release id).pipe.pseq = s.pipe.pseq := by
  unfold State.release
  split
  · split
    · rw [State.syncCells_pipe]
      rfl
    · rfl
  · rfl

@[simp] theorem State.leaveStages_pseq (s : State) (id : Nat) : (s.leaveStages id).pipe.pseq = s.pipe.pseq := by
  unfold State.leaveStages
  split <;> rfl

/-- The Sump gives no sequence number. -/
@[simp] theorem State.sumpItem_pseq (s : State) (why : Nat) (id : Option Nat) (f : Frame) (b : List Nat) :
    (s.sumpItem why id f b).pipe.pseq = s.pipe.pseq := by
  unfold State.sumpItem
  extract_lets s0 s1 wanted drop c
  have h1 : s1.pipe = s.pipe := by unfold s1 s0; split <;> simp
  have hd : ∀ t : State, (drop t).pipe.pseq = t.pipe.pseq := by
    intro t
    unfold drop
    cases id <;> simp
  have hl : s1.captureLost.pipe.pseq = s.pipe.pseq := by rw [State.captureLost_pipe, h1]
  split
  · rw [hd]
    split
    · exact hl
    · rw [h1]
  · split
    · rw [hd, h1]
    · split
      · rw [hd, hl]
      · show s1.pipe.pseq = s.pipe.pseq
        rw [h1]

@[simp] theorem State.sumpFrame_pseq (s : State) (i n why id : Nat) : (s.sumpFrame i n why id).pipe.pseq = s.pipe.pseq := by
  unfold State.sumpFrame State.sump
  simp

/-- An item without a frame changes the captures alone. -/
theorem State.sumpItem_none_pipe (s : State) (why : Nat) (f : Frame) (b : List Nat) :
    ∃ l n, (s.sumpItem why none f b).pipe = { s.pipe with captures := l, captured := n } := by
  unfold State.sumpItem
  extract_lets s0 s1 wanted drop c
  have h1 : s1.pipe = s.pipe := by unfold s1 s0; split <;> simp
  have hl : s1.captureLost.pipe = s.pipe := by rw [State.captureLost_pipe, h1]
  split
  · refine ⟨_, _, show State.pipe (if _ then _ else _) = s.pipe from ?_⟩
    split
    · exact hl
    · exact h1
  · split
    · exact ⟨_, _, h1⟩
    · split
      · exact ⟨_, _, hl⟩
      · exact ⟨_, _, congrArg
          (fun p : Pipeline => { p with captures := p.captures ++ [c], captured := p.captured + 1 }) h1⟩

/-- An item without a frame changes registers of the Sump alone, but for PF0's vectors. -/
theorem State.sumpItem_none_keeps {M : Nat} {z s : State} {why : Nat} {f : Frame} {b : List Nat} (hz : Keeps M z s)
    (hM : 0x802000000400202 ||| M = M) : Keeps M z (s.sumpItem why none f b) := by
  unfold State.sumpItem
  extract_lets s0 s1 wanted drop c
  have h0 : Keeps M z s0 := State.countReason_keeps hz (sub_mask rfl hM)
  have h1 : Keeps M z s1 := (State.raiseIrq_keeps h0 (sub_mask rfl hM)).ite h0
  have hl : Keeps M z s1.captureLost := State.captureLost_keeps h1 (sub_mask rfl hM)
  exact (hl.ite h1).ite (h1.ite (hl.ite (State.pipeMap_keeps h1 (sub_mask rfl hM))))

/-- The fields of a page whose class is not in a law's mask. -/
theorem Keeps.fld {M : Nat} {s t : State} (h : Keeps M s t) {p : Nat}
    (hp : pageClass p ≠ 0 ∧ M.testBit (40 + pageClass p) = false) (f : Fld) : t.fld p f = s.fld p f := by
  have hm : ¬ InMask M p := by
    rintro ⟨h0 | h1⟩
    · exact hp.1 h0
    · exact Bool.false_ne_true (hp.2.symm.trans h1)
  unfold State.fld
  rw [h.file _ (by rwa [regKey_page])]

theorem pageClass_lnp (q : Nat) : pageClass (Pg.lnp q) = 0xe :=
  (by decide +kernel : ∀ j < 8, pageClass (0x300 + j) = 0xe) (q % 8) (Nat.mod_lt _ (by decide))

theorem pageClass_stg_intake (q : Nat) : pageClass (Pg.stg (q % 2) 0) = 0x11 :=
  (by decide +kernel : ∀ i < 2, pageClass (Pg.stg i 0) = 0x11) (q % 2) (Nat.mod_lt _ (by decide))

/-! ### Where a frame stands that a stage hands on -/

/-- A frame that its stage hands on changes its stage and its bank alone, and no number is given. -/
theorem State.handOn_pipe (s : State) (i n id : Nat) : ∃ stage bank, (s.handOn i n id).frame id =
    { s.frame id with stage := stage, bank := bank } ∧ (s.handOn i n id).pipe.pseq = s.pipe.pseq ∧
    (s.handOn i n id).pipe.nextId = s.pipe.nextId := by
  unfold State.handOn
  split
  · unfold State.enter
    extract_lets f bank s1
    refine ⟨n + 1, bank, ?_, by simp; rfl, by simp; rfl⟩
    unfold State.frame
    rw [State.incFld_pipe, State.syncFloat_pipe, State.incFld_pipe]
    exact (FMap.getD_set _ _ _ _ _).trans (if_pos rfl)
  · refine ⟨(s.frame id).stage, (s.frame id).bank, ?_, by rw [State.syncFloat_pipe]; rfl,
      by rw [State.syncFloat_pipe]; rfl⟩
    exact State.frame_congr (State.syncFloat_pipe _ i n) id

/-! ### Counting a frame that arrives -/

/-- What a frame's arrival counts before S0 looks for its cells: codewords, the transparent clock, frames and octets of the
port, its sequence number (R280), S0's own count. -/
def State.arrive (s : State) (q len ti corr uncorr : Nat) : State :=
  let s0 := (s.countFec q corr uncorr).ptpReach ti
  (((s0.incWide (Pg.lnp q) F.LNP_RX_FRAMES_LO 1).incWide (Pg.lnp q) F.LNP_RX_OCTETS_LO len).pipeMap (fun x =>
    { x with pseq := FMap.set x.pseq q ((FMap.getD s0.pipe.pseq q 0 + 1) % 2 ^ 32) })).incFld (Pg.stg (q % 2) 0) F.STG_IN

section

variable (s : State) (q len ti corr uncorr : Nat)

@[simp] theorem State.arrive_pipe : (s.arrive q len ti corr uncorr).pipe =
    { s.pipe with pseq := FMap.set s.pipe.pseq q ((FMap.getD s.pipe.pseq q 0 + 1) % 2 ^ 32) } := by
  unfold State.arrive State.pipeMap
  simp

theorem State.ptpReach_countFec_count : ((s.countFec q corr uncorr).ptpReach ti).count = s.count :=
  (State.ptpReach_keeps (M := 0x142000000000282) (State.countFec_keeps (.refl _ s) rfl) rfl).count rfl

/-- An arrival changes registers of its port, of PTP and of S0, PF0's vectors, the high words of counters and the pipeline. -/
theorem State.arrive_keeps : Keeps 0x342000000400282 s (s.arrive q len ti corr uncorr) := by
  have h0 : Keeps 0x342000000400282 s ((s.countFec q corr uncorr).ptpReach ti) :=
    State.ptpReach_keeps (State.countFec_keeps (.refl _ s) rfl) rfl
  have hp : InMask 0x342000000400282 (Pg.lnp q) := .lnp rfl
  unfold State.arrive
  exact State.incFld_keeps (State.pipeMap_keeps (State.incWide_keeps (State.incWide_keeps h0 rfl hp) rfl hp) rfl) rfl (.stg rfl)

theorem State.fld_pipeMap (s : State) (g : Pipeline → Pipeline) (p : Nat) (f : Fld) : (s.pipeMap g).fld p f = s.fld p f := rfl

theorem State.fld_incWide_off (s : State) (p : Nat) (g : Fld) (n p' : Nat) (f : Fld) (hg : g.off < 4096) (hf : f.off < 4096)
    (h : f.off ≠ g.off) : (s.incWide p g n).fld p' f = s.fld p' f := by
  unfold State.incWide
  dsimp only
  rw [State.fld_mk, State.fld_setFld_off _ _ _ _ _ _ hg hf h, State.fld_noteAt]

/-- The registers that an arrival writes: interrupts and PF0's vectors, codewords, frames, octets, the transparent clock. -/
theorem State.fld_arrive (p : Nat) {f : Fld} (h : f.off < 4096)
    (hf : f.off ∉ [0x020, 0x048, 0x050, 0x058, 0x088, 0x08C, 0x240]) :
    (s.arrive q len ti corr uncorr).fld p f = s.fld p f := by
  simp only [List.mem_cons, List.not_mem_nil, or_false, not_or] at hf
  obtain ⟨h20, h48, h50, h58, h88, h8c, h240⟩ := hf
  have hfec : (s.countFec q corr uncorr).fld p f = s.fld p f := by
    unfold State.countFec
    simp (disch := first | assumption | decide) only [State.fld_ite, State.fld_raiseIrq, State.fld_incFld_off, ite_self]
  have hptp : ((s.countFec q corr uncorr).ptpReach ti).fld p f = s.fld p f := by
    unfold State.ptpReach
    rw [State.fld_ite]
    split
    · exact (State.fld_setReg_ne _ _ _ _ _ (by unfold regKey; omega)).trans hfec
    · exact hfec
  unfold State.arrive
  dsimp only
  rw [State.fld_incFld_off _ _ _ _ _ _ (by decide) h h50, State.fld_pipeMap,
    State.fld_incWide_off _ _ _ _ _ _ (by decide) h h58, State.fld_incWide_off _ _ _ _ _ _ (by decide) h h50, hptp]

theorem State.maxLen_congr {s t : State} (h : t.force = s.force) (q : Nat) : t.maxLen q = s.maxLen q := by
  unfold State.maxLen State.inForce State.regInForce
  rw [h]

theorem State.takeCells_arrive (i n : Nat) : (s.arrive q len ti corr uncorr).takeCells i q n = s.takeCells i q n := by
  unfold State.takeCells State.reserveUsed State.poolUsed State.deadIn
  rw [State.arrive_pipe]

theorem State.intakeOpen_arrive : (s.arrive q len ti corr uncorr).intakeOpen q = s.intakeOpen q := by
  unfold State.intakeOpen State.waiting State.frame
  rw [State.arrive_pipe]

end

/-! ### The frame that arrives -/

/-- The descriptor of a frame that arrives, `dur` blk after its start (Table STG-1). -/
def State.arrivingFrame (s : State) (q dur ti corr uncorr : Nat) (b : List Nat) (cells : Nat × Nat) : Frame :=
  let s0 := (s.countFec q corr uncorr).ptpReach ti
  s0.descriptor q (s0.count - dur) ti b cells

/-- A frame that has its cells takes the next name. -/
def State.enrol (s : State) (i : Nat) (f : Frame) : State :=
  ((s.pipeMap (fun x => { x with nextId := s.pipe.nextId + 1 })).setFrame s.pipe.nextId f).syncCells i

/-- The state in which a frame has arrived and has its cells. -/
def State.enrolled (s : State) (q dur ti corr uncorr : Nat) (b : List Nat) (cells : Nat × Nat) : State :=
  (s.arrive q (b.length + 4) ti corr uncorr).enrol (q % 2) (s.arrivingFrame q dur ti corr uncorr b cells)

section

variable (s : State) (i q dur ti corr uncorr : Nat) (f : Frame) (b : List Nat) (cells : Nat × Nat)

theorem State.arrivingFrame_pseq : (s.arrivingFrame q dur ti corr uncorr b cells).pseq = FMap.getD s.pipe.pseq q 0 := by
  show FMap.getD ((s.countFec q corr uncorr).ptpReach ti).pipe.pseq q 0 = _
  rw [State.ptpReach_pipe, State.countFec_pipe]

theorem State.arrivingFrame_stamp : (s.arrivingFrame q dur ti corr uncorr b cells).stamp = s.count - dur :=
  congrArg (· - dur) (s.ptpReach_countFec_count q ti corr uncorr)

theorem State.enrol_keeps : Keeps 0x200000000400002 s (s.enrol i f) :=
  State.syncCells_keeps (State.setFrame_keeps (State.pipeMap_keeps (.refl _ s) rfl) rfl) rfl

theorem State.enrol_pipe : (s.enrol i f).pipe =
    { s.pipe with nextId := s.pipe.nextId + 1, frames := FMap.set s.pipe.frames s.pipe.nextId f } := State.syncCells_pipe _ i

/-- The frame stands under the next name. -/
theorem State.enrolled_frame : (s.enrolled q dur ti corr uncorr b cells).frame s.pipe.nextId =
    s.arrivingFrame q dur ti corr uncorr b cells := by
  unfold State.enrolled State.frame
  rw [State.enrol_pipe, State.arrive_pipe]
  exact (FMap.getD_set _ _ _ _ _).trans (if_pos rfl)

theorem State.enrolled_nextId : (s.enrolled q dur ti corr uncorr b cells).pipe.nextId = s.pipe.nextId + 1 := by
  unfold State.enrolled
  rw [State.enrol_pipe, State.arrive_pipe]

/-- The next sequence number of the port is one more (R280). -/
theorem State.enrolled_pseq : FMap.get? (s.enrolled q dur ti corr uncorr b cells).pipe.pseq q =
    some ((FMap.getD s.pipe.pseq q 0 + 1) % 2 ^ 32) := by
  unfold State.enrolled
  rw [State.enrol_pipe, State.arrive_pipe]
  exact (FMap.get?_set _ _ _ _).trans (if_pos rfl)

theorem State.enrolled_maxLen (q' : Nat) : (s.enrolled q dur ti corr uncorr b cells).maxLen q' = s.maxLen q' :=
  State.maxLen_congr (((State.enrol_keeps _ _ _).force rfl).trans ((s.arrive_keeps q _ ti corr uncorr).force rfl)) q'

end

/-! ### The cases of INTAKE -/

/-- A port takes frames: in service, with link, out of reset, its four lanes carrying (R56, R181). -/
structure Takes (s : State) (q : Nat) : Prop where
  service : s.inService (pairOf q) = true
  link : s.link q = true
  reset : s.pins.mainReset = false
  lanes : ∀ c ∈ [0, 1, 2, 3], s.carries (4 * q + c) = true

theorem State.link_at (s : State) (off q : Nat) : (s.at off).link q = s.link q := State.bit_at _ _ _ _

theorem State.carries_at (s : State) (off l : Nat) : (s.at off).carries l = s.carries l := by
  unfold State.carries State.lstate
  rw [State.fld_at]

theorem State.takeCells_at (s : State) (off i q n : Nat) : (s.at off).takeCells i q n = s.takeCells i q n := by
  unfold State.takeCells State.reserveUsed State.poolUsed State.deadIn
  rw [State.at_pipe]

theorem State.intakeOpen_at (s : State) (off q : Nat) : (s.at off).intakeOpen q = s.intakeOpen q := by
  unfold State.intakeOpen State.waiting State.frame
  rw [State.at_pipe]

theorem State.maxLen_at (s : State) (off q : Nat) : (s.at off).maxLen q = s.maxLen q := State.maxLen_congr (s.at_force off) q

section

variable {s : State} {off dur : Nat} {p : Port} {b : List (BitVec 8)} {trunc code badFcs : Bool} {ti corr uncorr : Nat}

theorem takes_of (hs : (s.at off).inService (pairOf p.val) = true) (hk : s.link p.val = true)
    (hr : s.pins.mainReset = false) (hl : ∀ c ∈ [0, 1, 2, 3], s.carries (4 * p.val + c) = true) :
    Takes (s.at off) p.val :=
  ⟨hs, (s.link_at off p.val).trans hk, (congrArg Pins.mainReset (s.at_pins off)).trans hr,
    fun c hc => (s.carries_at off _).trans (hl c hc)⟩

/-- INTAKE's guard does not hold of a port that takes frames. -/
theorem Takes.not_guard (h : Takes (s.at off) p.val) : (!(s.at off).inService (pairOf p.val) || !(s.at off).link p.val ||
    (s.at off).pins.mainReset || !([0, 1, 2, 3].all (fun c => s.carries (4 * p.val + c)))) ≠ true := by
  have hl : [0, 1, 2, 3].all (fun c => s.carries (4 * p.val + c)) = true :=
    List.all_eq_true.mpr fun c hc => s.carries_at off _ ▸ h.lanes c hc
  rw [h.service, h.link, h.reset, hl]
  exact Bool.false_ne_true

/-- A frame with cells and a place enters the pipeline: a good one goes on to S1, a bad one to the Sump (R243, R280, R281). -/
theorem execFrameIntake_enrols (h : Takes (s.at off) p.val) {cells : Nat × Nat}
    (hc : s.takeCells (p.val % 2) p.val ((b.length + 4 + 255) / 256) = some cells) (ho : s.intakeOpen p.val = true)
    {u : State} (hu : u = (s.at off).enrolled p.val dur ti corr uncorr (b.map BitVec.toNat) cells) :
    execFrameIntake off dur p b trunc code badFcs ti corr uncorr s =
      match rxError (s.maxLen p.val) (b.length + 4) trunc code badFcs with
      | some why => .next ((u.incFld (Pg.lnp p.val) (rxErrorField why)).sumpFrame (p.val % 2) 0 why s.pipe.nextId)
      | none => .next ((u.countMacControl p.val (b.map BitVec.toNat)).handOn (p.val % 2) 0 s.pipe.nextId) := by
  have hl : (b.map BitVec.toNat).length = b.length := List.length_map _
  have hm : u.maxLen p.val = s.maxLen p.val := by rw [hu, State.enrolled_maxLen, State.maxLen_at]
  have hid : ((s.at off).arrive p.val (b.length + 4) ti corr uncorr).pipe.nextId = s.pipe.nextId := by
    rw [State.arrive_pipe, State.at_pipe]
  rw [← State.takeCells_at s off, ← State.takeCells_arrive (s.at off) p.val (b.length + 4) ti corr uncorr] at hc
  rw [← State.intakeOpen_at s off, ← State.intakeOpen_arrive (s.at off) p.val (b.length + 4) ti corr uncorr] at ho
  unfold State.enrolled at hu
  rw [← hm, ← hid]
  unfold execFrameIntake
  dsimp only
  rw [if_neg h.not_guard]
  rw [hl] at hu ⊢
  subst hu
  split
  · rename_i cells' hc' _
    obtain rfl : cells' = cells := Option.some.inj (hc'.symm.trans hc)
    rfl
  · rename_i hn
    exact absurd ho (hn cells hc)

/-- What a frame without room raises before it is in the Sump: INTAKE_FULL of its port and S0's own counters (R282, R283). -/
def State.countFull (s : State) (q : Nat) : State :=
  (((s.incFld (Pg.stg (q % 2) 0) (F.STG_S0_FULL (q / 2))).raiseIrq (Pg.stg (q % 2) 0) 8).incFld (Pg.stg (q % 2) 0)
    F.STG_SUMP).raiseIrq (Pg.stg (q % 2) 0) 0

/-- A frame without cells or without a place is counted and handed to the Sump without a name (R282, R283). -/
theorem execFrameIntake_drops (h : Takes (s.at off) p.val)
    (hn : s.takeCells (p.val % 2) p.val ((b.length + 4 + 255) / 256) = none ∨ s.intakeOpen p.val = false) :
    execFrameIntake off dur p b trunc code badFcs ti corr uncorr s =
      .next ((((s.at off).arrive p.val (b.length + 4) ti corr uncorr).countFull p.val).sumpItem Why.intakeFull none
        ((s.at off).arrivingFrame p.val dur ti corr uncorr (b.map BitVec.toNat) (0, 0)) (b.map BitVec.toNat)) := by
  have hl : (b.map BitVec.toNat).length = b.length := List.length_map _
  rw [← State.takeCells_at s off, ← State.takeCells_arrive (s.at off) p.val (b.length + 4) ti corr uncorr,
    ← State.intakeOpen_at s off, ← State.intakeOpen_arrive (s.at off) p.val (b.length + 4) ti corr uncorr] at hn
  unfold execFrameIntake
  dsimp only
  rw [if_neg h.not_guard, hl]
  split
  · rename_i cells hc ho
    rcases hn with hn | hn
    · exact absurd (hn.symm.trans hc) (Option.some_ne_none cells).symm
    · exact absurd (hn.symm.trans ho) Bool.false_ne_true
  · rfl

/-- A port that takes no frames leaves the frame to its pair's bypass (R56, R219). -/
theorem execFrameIntake_passes (h : (s.at off).inService (pairOf p.val) = false ∨ s.link p.val = false ∨
    s.pins.mainReset = true ∨ ∃ c ∈ [0, 1, 2, 3], s.carries (4 * p.val + c) = false) :
    execFrameIntake off dur p b trunc code badFcs ti corr uncorr s = .next (if (s.at off).retimes (otherPort p.val) then
      (s.at off).emit (.retimed (otherPort p.val) (b.map BitVec.toNat) trunc code badFcs) else s.at off) := by
  refine if_pos ?_
  simp only [State.link_at, State.at_pins, Bool.or_eq_true, Bool.not_eq_true', or_assoc]
  refine h.imp_right (Or.imp_right (Or.imp_right ?_))
  rintro ⟨c, hc, hf⟩
  exact List.all_eq_false.mpr ⟨c, hc, Bool.eq_false_iff.mp hf⟩

end

/-! ### Receive errors and full queues -/

theorem rxError_none {maxLen len : Nat} (h1 : 64 ≤ len) (h2 : len ≤ maxLen) :
    rxError maxLen len false false false = none := by
  have h3 : ¬ len < 64 := by omega
  have h4 : ¬ maxLen < len := by omega
  simp [rxError, h3, h4]

/-- The counters of receive errors stand at 0x070 to 0x078 of a port's page (Table LNP-6). -/
theorem rxErrorField_place (why : Nat) : (0x070 ≤ (rxErrorField why).off ∧ (rxErrorField why).off ≤ 0x078) ∧
    (rxErrorField why).lo + (rxErrorField why).w ≤ 32 := by
  unfold rxErrorField
  repeat' split
  all_goals decide

@[simp] theorem State.countFull_pipe (s : State) (q : Nat) : (s.countFull q).pipe = s.pipe := by
  unfold State.countFull
  simp

/-- INTAKE_FULL of the port is one more. -/
theorem State.countFull_full (s : State) (p : Port) :
    (s.countFull p.val).fld (Pg.stg (p.val % 2) 0) (F.STG_S0_FULL (p.val / 2)) =
      min (s.fld (Pg.stg (p.val % 2) 0) (F.STG_S0_FULL (p.val / 2)) + 1) (2 ^ (F.STG_S0_FULL (p.val / 2)).w - 1) := by
  have hp : p.val / 2 < 4 := by omega
  have hoff : (F.STG_S0_FULL (p.val / 2)).off = 0x108 + 4 * (p.val / 2) := rfl
  have hsump : F.STG_SUMP.off = 0x058 := rfl
  unfold State.countFull
  rw [State.fld_raiseIrq _ _ _ _ _ (by omega) (by omega) (by omega),
    State.fld_incFld_off _ _ _ _ _ _ (by decide) (by omega) (by omega),
    State.fld_raiseIrq _ _ _ _ _ (by omega) (by omega) (by omega)]
  exact State.fld_incFld_self s _ (F.STG_S0_FULL (p.val / 2)) 1 (by show 0 + 32 ≤ 32; decide)

/-! ### The statement -/

section

variable {s : State} {off : Nat} {p : Port} {b : List (BitVec 8)} (dur ti corr uncorr : Nat)

/-- A good frame stands in the pipeline under the next name (R280, R281). -/
theorem execFrameIntake_good {cells : Nat × Nat} (h : Takes (s.at off) p.val) (h60 : 60 ≤ b.length)
    (hm : b.length + 4 ≤ s.maxLen p.val)
    (hc : s.takeCells (p.val % 2) p.val ((b.length + 4 + 255) / 256) = some cells) (ho : s.intakeOpen p.val = true) :
    ∃ t, execFrameIntake off dur p b false false false ti corr uncorr s = .next t ∧
      (t.frame s.pipe.nextId).bytes = b.map BitVec.toNat ∧ (t.frame s.pipe.nextId).len = b.length + 4 ∧
      (t.frame s.pipe.nextId).port = p.val ∧ (t.frame s.pipe.nextId).stamp = (s.at off).count - dur ∧
      (t.frame s.pipe.nextId).pseq = FMap.getD s.pipe.pseq p.val 0 ∧ (t.frame s.pipe.nextId).cells = cells ∧
      t.pipe.nextId = s.pipe.nextId + 1 ∧
      FMap.get? t.pipe.pseq p.val = some ((FMap.getD s.pipe.pseq p.val 0 + 1) % 2 ^ 32) := by
  obtain ⟨u, hu⟩ : ∃ u, u = (s.at off).enrolled p.val dur ti corr uncorr (b.map BitVec.toNat) cells := ⟨_, rfl⟩
  have hrun := execFrameIntake_enrols (trunc := false) (code := false) (badFcs := false) h hc ho hu
  rw [rxError_none (by omega) hm] at hrun
  have hf : (u.countMacControl p.val (b.map BitVec.toNat)).frame s.pipe.nextId =
      (s.at off).arrivingFrame p.val dur ti corr uncorr (b.map BitVec.toNat) cells := by
    rw [State.frame_congr (State.countMacControl_pipe _ _ _), hu, ← State.enrolled_frame, State.at_pipe]
  obtain ⟨stage, bank, hframe, hpseq, hnext⟩ :=
    State.handOn_pipe (u.countMacControl p.val (b.map BitVec.toNat)) (p.val % 2) 0 s.pipe.nextId
  rw [State.countMacControl_pipe] at hpseq hnext
  refine ⟨_, hrun, ?_⟩
  rw [hframe, hf]
  refine ⟨rfl, congrArg (· + 4) (List.length_map _), rfl, ?_, ?_, rfl, ?_, ?_⟩
  · exact State.arrivingFrame_stamp _ p.val dur ti corr uncorr (b.map BitVec.toNat) cells
  · exact (State.arrivingFrame_pseq _ p.val dur ti corr uncorr (b.map BitVec.toNat) cells).trans (by rw [State.at_pipe])
  · rw [hnext, hu, State.enrolled_nextId, State.at_pipe]
  · rw [hpseq, hu, State.enrolled_pseq, State.at_pipe]

/-- A frame with an error is counted under its reason on its port's page (R243). -/
theorem execFrameIntake_bad {trunc code badFcs : Bool} {cells : Nat × Nat} {why : Nat} (h : Takes (s.at off) p.val)
    (he : rxError (s.maxLen p.val) (b.length + 4) trunc code badFcs = some why)
    (hc : s.takeCells (p.val % 2) p.val ((b.length + 4 + 255) / 256) = some cells) (ho : s.intakeOpen p.val = true) :
    ∃ t, execFrameIntake off dur p b trunc code badFcs ti corr uncorr s = .next t ∧
      t.fld (Pg.lnp p.val) (rxErrorField why) =
        min (s.fld (Pg.lnp p.val) (rxErrorField why) + 1) (2 ^ (rxErrorField why).w - 1) ∧
      FMap.get? t.pipe.pseq p.val = some ((FMap.getD s.pipe.pseq p.val 0 + 1) % 2 ^ 32) := by
  obtain ⟨u, hu⟩ : ∃ u, u = (s.at off).enrolled p.val dur ti corr uncorr (b.map BitVec.toNat) cells := ⟨_, rfl⟩
  have hrun := execFrameIntake_enrols (trunc := trunc) (code := code) (badFcs := badFcs) h hc ho hu
  rw [he] at hrun
  obtain ⟨⟨h1, h2⟩, hbits⟩ := rxErrorField_place why
  have hport : u.fld (Pg.lnp p.val) (rxErrorField why) = s.fld (Pg.lnp p.val) (rxErrorField why) := by
    rw [hu, State.enrolled, (State.enrol_keeps _ _ _).fld (by rw [pageClass_lnp]; decide),
      State.fld_arrive _ _ _ _ _ _ _ (by omega) (by simp; omega), State.fld_at]
  have hsump : Keeps 0xa02000000400202 (u.incFld (Pg.lnp p.val) (rxErrorField why))
      ((u.incFld (Pg.lnp p.val) (rxErrorField why)).sumpFrame (p.val % 2) 0 why s.pipe.nextId) :=
    State.sumpFrame_keeps (.refl _ _) rfl
  refine ⟨_, hrun, ?_, ?_⟩
  · rw [hsump.fld (by rw [pageClass_lnp]; decide), State.fld_incFld_self _ _ _ _ hbits, hport]
  · rw [State.sumpFrame_pseq, State.incFld_pipe, hu, State.enrolled_pseq, State.at_pipe]

/-- A frame without cells or without a place is counted, and none enters the pipeline (R282, R283). -/
theorem execFrameIntake_full {trunc code badFcs : Bool} (h : Takes (s.at off) p.val)
    (hn : s.takeCells (p.val % 2) p.val ((b.length + 4 + 255) / 256) = none ∨ s.intakeOpen p.val = false) :
    ∃ t, execFrameIntake off dur p b trunc code badFcs ti corr uncorr s = .next t ∧ t.pipe.frames = s.pipe.frames ∧
      t.pipe.queues = s.pipe.queues ∧ t.fld (Pg.stg (p.val % 2) 0) (F.STG_S0_FULL (p.val / 2)) =
        min (s.fld (Pg.stg (p.val % 2) 0) (F.STG_S0_FULL (p.val / 2)) + 1) (2 ^ (F.STG_S0_FULL (p.val / 2)).w - 1) := by
  have hp : p.val / 2 < 4 := by omega
  have hoff : (F.STG_S0_FULL (p.val / 2)).off = 0x108 + 4 * (p.val / 2) := rfl
  refine ⟨_, execFrameIntake_drops h hn, ?_⟩
  obtain ⟨l, n, hpipe⟩ := State.sumpItem_none_pipe
    (((s.at off).arrive p.val (b.length + 4) ti corr uncorr).countFull p.val) Why.intakeFull
    ((s.at off).arrivingFrame p.val dur ti corr uncorr (b.map BitVec.toNat) (0, 0)) (b.map BitVec.toNat)
  rw [State.countFull_pipe, State.arrive_pipe, State.at_pipe] at hpipe
  refine ⟨(congrArg Pipeline.frames hpipe).trans rfl, (congrArg Pipeline.queues hpipe).trans rfl, ?_⟩
  rw [(State.sumpItem_none_keeps (M := 0x802000000400202) (.refl _ _) rfl).fld (by rw [pageClass_stg_intake]; decide),
    State.countFull_full, State.fld_arrive _ _ _ _ _ _ _ (by omega) (by simp; omega), State.fld_at]

end

/-- Settles O9, a law of its own for each of the four cases of INTAKE. -/
theorem frameIntakeCompletes : Obligations.FrameIntakeCompletes := by
  refine ⟨?good, ?bad, ?full, ?out⟩
  case good =>
    intro off dur p b ti corr uncorr cells s hs hk hr hl h60 hm hc ho
    exact execFrameIntake_good dur ti corr uncorr (takes_of hs hk hr hl) h60 hm hc ho
  case bad =>
    intro off dur p b trunc code badFcs ti corr uncorr cells why s hs hk hr hl he hc ho
    exact execFrameIntake_bad dur ti corr uncorr (takes_of hs hk hr hl) he hc ho
  case full =>
    intro off dur p b trunc code badFcs ti corr uncorr s hs hk hr hl hn
    exact execFrameIntake_full dur ti corr uncorr (takes_of hs hk hr hl) hn
  case out =>
    intro off dur p b trunc code badFcs ti corr uncorr s h
    exact ⟨_, execFrameIntake_passes h, rfl⟩

end Sys2Proof.Machine
end

section
/-!
PROOFS. The stages S9 to S11, copies and tap returns (R49, R262, R343 to R355, R379 to R381, R620): what the offset within the
turn leaves of the queues and of what the commands ask, and the one path each command takes under its conditions.
-/

namespace Sys2Proof.Machine

open Sys2Proof

/-! ### What the offset within the turn leaves -/

section

variable (s : State) (off : Nat)

theorem State.frame_at (id : Nat) : (s.at off).frame id = s.frame id := by
  unfold State.frame
  rw [State.at_pipe]

theorem State.queue_at (i n : Nat) : (s.at off).queue i n = s.queue i n := by
  unfold State.queue
  rw [State.at_pipe]

theorem State.primaries_at (q : Nat) : (s.at off).primaries q = s.primaries q := by
  unfold State.primaries
  rw [State.at_pipe]

theorem State.copies_at (q : Nat) : (s.at off).copies q = s.copies q := by
  unfold State.copies
  rw [State.at_pipe]

theorem State.tapFifo_at (k i : Nat) : (s.at off).tapFifo k i = s.tapFifo k i := by
  unfold State.tapFifo
  rw [State.at_pipe]

theorem State.tapIdle_at (k : Nat) : (s.at off).tapIdle k = s.tapIdle k := by
  unfold State.tapIdle State.unit
  simp only [State.fld_at]

theorem State.txShut_at (q : Nat) : (s.at off).txShut q = s.txShut q := by
  unfold State.txShut State.txDown State.portAux
  rw [State.bit_at, State.at_ports]

theorem State.engaged_at (p : Nat) : (s.at off).engaged p = s.engaged p := State.bit_at _ _ _ _

theorem State.fnUnreachable_at (fn : Nat) : (s.at off).fnUnreachable fn = s.fnUnreachable fn := by
  unfold State.fnUnreachable State.linkUp State.bme
  simp only [State.bit_at]

end

/-! ### S9 -/

section

variable (s : State) (off : Nat)

/-- S9 acts on the head of its queue (Table STG-20). -/
theorem execVerdictAction_acts {i : Pipe} {id : Nat} {rest : List Nat} (hq : s.queue i.val 9 = id :: rest)
    (hw : (s.frame id).waitFt4 = false) :
    execVerdictAction off i s = .next (((s.at off).takeHead i.val 9).act id) := by
  unfold execVerdictAction
  dsimp only
  rw [State.queue_at, hq]
  dsimp only
  rw [State.frame_at, hw, if_neg Bool.false_ne_true]

/-- A primary that its ring has not accepted in time goes to the Sump (R343). -/
theorem execDivertDeadline_late {n : Nat} {d : Divert} (hd : s.pipe.diverts[n]? = some d)
    (hl : d.deadline ≤ (s.at off).count) : execDivertDeadline off n s = .next ((((s.at off).pipeMap (fun p =>
      { p with diverts := p.diverts.eraseIdx n })).raiseIrq (Pg.stg (s.frame d.frame).inst 9) 8).sumpFrame
      (s.frame d.frame).inst 9 Why.divertLate d.frame) := by
  unfold execDivertDeadline
  dsimp only
  rw [State.at_pipe, hd]
  dsimp only
  rw [if_pos hl, State.frame_at]

/-! ### Copies -/

/-- A copy for the host is delivered and done (R346). -/
theorem execCopyAccept_delivers {n : Nat} (buf : BitVec 64) {c : OutCopy} (hc : s.pipe.outCopies[n]? = some c)
    (hl : (s.at off).count < c.deadline) (hh : c.host = true) (hr : (s.at off).ringAccepts c.target = true) :
    execCopyAccept off n buf s = .next ((((s.at off).pipeMap (fun p =>
      { p with outCopies := p.outCopies.eraseIdx n })).deliver c.target buf.toNat
      ((s.frame c.frame).item 1 (s.frame c.frame).group c.bytes)).copyDone c.frame c.dest) := by
  unfold execCopyAccept State.acceptCopy
  dsimp only
  rw [State.at_pipe, hc]
  dsimp only
  rw [if_neg (Nat.not_le.mpr hl), if_pos hh, if_pos hr, State.frame_at]

/-- A copy not accepted in time is late (R346). -/
theorem execCopyDeadline_late (n : Nat) {c : OutCopy} {w : State}
    (hw : w = (List.range 8).foldl State.dropLate (s.at off)) (hc : w.pipe.outCopies[n]? = some c)
    (hl : c.deadline ≤ w.count) : execCopyDeadline off n s = .next ((w.pipeMap (fun p =>
      { p with outCopies := p.outCopies.eraseIdx n })).copyLost Why.copyLate c.frame c.dest c.bytes) := by
  unfold execCopyDeadline
  dsimp only
  rw [← hw, hc]
  dsimp only
  rw [if_pos hl]

/-! ### S11 -/

/-- A port's primaries before its copies (R354). -/
theorem execSpoutTransmit_primary {p : Port} {it : Item} {rest : List Item} {w : State} (hw : w = (s.at off).dropLate p.val)
    (hp : w.primaries p.val = it :: rest) : execSpoutTransmit off p s =
      .next (((w.setOut p.val rest (w.copies p.val)).spout p.val it).pullAll (txInst p.val) 10) := by
  unfold execSpoutTransmit
  dsimp only
  rw [← hw, hp]

/-- With no primary waiting, the copy at the head of the port's copy queue (R355). -/
theorem execSpoutTransmit_copy {p : Port} {it : Item} {rest : List Item} {w : State} (hw : w = (s.at off).dropLate p.val)
    (hp : w.primaries p.val = []) (hc : w.copies p.val = it :: rest) : execSpoutTransmit off p s =
      .next (((w.setOut p.val [] rest).spout p.val it).pullAll (txInst p.val) 10) := by
  unfold execSpoutTransmit
  dsimp only
  rw [← hw, hp, hc]

/-! ### Injection -/

/-- The injection ring is served, and a descriptor's index stands between its head and its tail (R620). -/
structure InjOpen (s : State) (x : Nat) : Prop where
  enabled : s.bit injPage F.LOC_IJ_CTL_ENABLE = true
  between : (x + 65536 - s.fld injPage F.LOC_IJ_HEAD) % 65536 <
    (s.fld injPage F.LOC_IJ_TAIL + 65536 - s.fld injPage F.LOC_IJ_HEAD) % 65536
  taken : s.host.injTaken = []
  done : s.host.injDone = []
  reach : s.fnUnreachable 1 = false
  reset : s.pins.mainReset = false
  restart : s.bit Pg.gbl F.GBL_STATUS_RESTARTING = false

/-- The first descriptor taken is the only one. -/
theorem State.hostMap_first_taken {s : State} (h : s.host.injTaken = []) (x : Nat) (m : HostSide → FMap Nat) :
    s.hostMap (fun h => { h with injTaken := x :: h.injTaken, injAt := m h }) =
      s.hostMap (fun h => { h with injTaken := [x], injAt := m h }) := by
  have hh : ∀ l, s.host.injTaken = l → s.hostMap (fun h => { h with injTaken := x :: h.injTaken, injAt := m h }) =
      s.hostMap (fun h => { h with injTaken := x :: l, injAt := m h }) := by rintro _ rfl; rfl
  exact hh [] h

/-- A good descriptor in turn is fetched and queued behind the frames of its port (R262, R620). -/
theorem execInjectionDescriptor_queues {index len : BitVec 16} {q : Port} {cookie : Word} {b : List (BitVec 8)}
    (ho : InjOpen s index.toNat) (ha : s.host.injAt = []) (h64 : 64 ≤ len.toNat) (hmax : len.toNat ≤ 1518)
    (hs : s.txShut q.val = false) (he : s.engaged (pairOf q.val) = false) (hf : (s.primaries q.val).length < 1024)
    (ht : (s.at off).freeTag ≠ none) :
    execInjectionDescriptor off index (BitVec.ofNat 8 q.val) len cookie b s = .next ((((s.at off).injFetch
      index.toNat).hostMap (fun h =>
        { h with injTaken := [index.toNat], injAt := FMap.set h.injAt q.val (s.at off).count })).setOut q.val
      (s.primaries q.val ++ [⟨0, .injected index.toNat cookie.toNat, q.val, b.map BitVec.toNat, len.toNat, 0, false⟩])
      (s.copies q.val)) := by
  have hq : (BitVec.ofNat 8 q.val).toNat = q.val := by
    rw [BitVec.toNat_ofNat]
    exact Nat.mod_eq_of_lt (by omega)
  obtain ⟨hen, hbt, htk, hdn, hrc, hrs, hgb⟩ := ho
  unfold execInjectionDescriptor
  dsimp only
  rw [hq, if_neg, if_neg, if_neg, if_pos]
  · have hfirst : ((s.at off).injFetch index.toNat).host.injTaken = [] :=
      (congrArg HostSide.injTaken (s.at_host off)).trans htk
    have hp : ∀ f, (((s.at off).injFetch index.toNat).hostMap f).primaries q.val = s.primaries q.val :=
      fun _ => s.primaries_at off q.val
    have hc : ∀ f, (((s.at off).injFetch index.toNat).hostMap f).copies q.val = s.copies q.val :=
      fun _ => s.copies_at off q.val
    rw [hp, hc, State.hostMap_first_taken hfirst]
  · rwa [State.primaries_at]
  · simp [ha, ht]
  · simp only [State.txShut_at, State.engaged_at, hs, he]
    have := q.isLt
    simp
    omega
  · simp [hen, hbt, htk, hdn, hrc, hrs, hgb, State.fnUnreachable_at]

/-! ### Taps -/

/-- A score from the fabric is a record of tier 0 (R380). -/
theorem execTapReturnWord_score {tap : Fin 4} {i : Pipe} {r : ScoreRec} (h : s.tapIdle tap.val = false) :
    execTapReturnWord off tap i (.score r) s = .next (((s.at off).incFld (tapPage tap.val)
      (F.FAB_TAP_RET_b0 i.val)).scoreRecord { r with tier := 0 } (some tap.val)) :=
  if_neg (Bool.eq_false_iff.mp h)

/-- The head record of a tap that is not idle is handed to the fabric (R379). -/
theorem execTapRecordDelivery_delivers {tap : Fin 4} {i : Pipe} {r : TapRecord} {rest : List TapRecord}
    (hf : s.tapFifo tap.val i.val = r :: rest) (hi : s.tapIdle tap.val = false) : execTapRecordDelivery off tap i s =
      .next (((s.at off).setTapFifo tap.val i.val rest).emit (.tapRecord tap.val i.val r.beats)) := by
  unfold execTapRecordDelivery
  dsimp only
  rw [State.tapFifo_at, hf]
  dsimp only
  rw [State.tapIdle_at, hi, if_neg Bool.false_ne_true]

/-- A tap whose declared regions are all FENCED is given nothing (R377). -/
theorem execTapRecordDelivery_idle {tap : Fin 4} {i : Pipe} (hi : s.tapIdle tap.val = true) :
    execTapRecordDelivery off tap i s = .next (s.at off) := by
  unfold execTapRecordDelivery
  dsimp only
  split
  · rw [State.tapIdle_at, hi, if_pos rfl]
  · rfl

theorem State.tapFifo_setTapFifo (k i : Nat) (l : List TapRecord) : (s.setTapFifo k i l).tapFifo k i = l :=
  (FMap.getD_setC_const _ _ _ _ _).trans (if_pos rfl)

end

/-! ### The statement -/

/-- Settles O14, a law of its own for each clause; that a tap whose regions are all FENCED is given nothing is log entry 146. -/
theorem egressCommandsComplete : Obligations.EgressCommandsComplete := by
  refine ⟨?action, ?divertDeadline, ?copyAccept, ?copyDeadline, ?primary, ?copy, ?injection, ?score, ?tapRecord, ?tapIdle,
    ?uncorrError⟩
  case action => exact fun off i id rest s hq hw => ⟨_, execVerdictAction_acts s off hq hw, rfl⟩
  case divertDeadline => exact fun off n d s hd hl => ⟨_, execDivertDeadline_late s off hd hl, rfl⟩
  case copyAccept => exact fun off n buf c s hc hl hh hr => ⟨_, execCopyAccept_delivers s off buf hc hl hh hr, rfl⟩
  case copyDeadline => exact fun off n c s w hw hc hl => ⟨_, execCopyDeadline_late s off n hw hc hl, rfl⟩
  case primary => exact fun off p it rest s w hw hp => ⟨_, execSpoutTransmit_primary s off hw hp, rfl⟩
  case copy => exact fun off p it rest s w hw hp hc => ⟨_, execSpoutTransmit_copy s off hw hp hc, rfl⟩
  case injection =>
    intro off index q len cookie b s hen hbt htk hdn ha hrc hrs hgb h64 hmax hs he hf ht
    exact ⟨_, execInjectionDescriptor_queues s off ⟨hen, hbt, htk, hdn, hrc, hrs, hgb⟩ ha h64 hmax hs he hf ht, rfl⟩
  case score => exact fun off tap i r s h => ⟨_, execTapReturnWord_score s off h, rfl⟩
  case tapRecord =>
    intro off tap i r rest s hf hi
    exact ⟨_, execTapRecordDelivery_delivers s off hf hi, State.tapFifo_setTapFifo _ _ _ _,
      congrArg (_ :: ·) (s.at_out off)⟩
  case tapIdle => exact fun off tap i s hi => ⟨_, execTapRecordDelivery_idle s off hi, rfl⟩
  case uncorrError => exact fun off u s => ⟨_, rfl, rfl⟩

end Sys2Proof.Machine
end

section
/-!
PROOFS. The Windlass when its anchor fails and when its marks fire (R76, R88, R91): what the failure of an anchor leaves of the
registers, what it counts and raises, and a mark's comparator after it has fired.
-/

namespace Sys2Proof.Machine

open Sys2Proof

/-! ### Marks -/

/-- A mark without a period is spent when it fires (R76). -/
theorem MarkCmp.fired_single {c : MarkCmp} (h : c.period = 0) : c.fired = ⟨false, c.count, 0⟩ := if_pos h

/-- A mark with a period moves on by it, by 64 blk where it is less (R76). -/
theorem MarkCmp.fired_periodic {c : MarkCmp} (h : c.period ≠ 0) :
    c.fired = ⟨true, (c.count + max 64 c.period) % 2 ^ 64, c.period⟩ := if_neg h

/-- Settles O39: a due mark fires at its count, and its comparator is then spent or moved on by its period. -/
theorem marksRepeatByTheirPeriod : Obligations.MarksRepeatByTheirPeriod := by
  refine ⟨?single, ?periodic⟩
  case single =>
    rintro m s ha hs ⟨ht, hc⟩ hp
    obtain ⟨t, hrun, hcount, hmark⟩ := execMarkFire_fires m ha hs ht hc
    exact ⟨t, hrun, by rw [hmark, MarkCmp.fired_single hp], hcount⟩
  case periodic =>
    rintro m s ha hs ⟨ht, hc⟩ hp
    obtain ⟨t, hrun, hcount, hmark⟩ := execMarkFire_fires m ha hs ht hc
    exact ⟨t, hrun, hmark.trans (MarkCmp.fired_periodic hp), hcount⟩

/-! ### What the end of a lock leaves -/

/-- Whether a port is in lock again stands beside the registers (R65). -/
@[simp] theorem State.fld_relock (s : State) (q : Nat) (c : LossCause) (p : Nat) (f : Fld) :
    (s.relock q c).fld p f = s.fld p f := by
  unfold State.relock State.beginLock
  repeat' split
  all_goals rfl

/-- The end of a port's lock takes its qualification, one bit of WDL_STATUS from bit 16 on (R65). -/
theorem State.fld_endLock (s : State) (q p : Nat) (f : Fld) (h : f.off < 4096) (hf : f.off ≠ 0x044 ∨ f.lo + f.w ≤ 16) :
    (s.endLock q).fld p f = s.fld p f := by
  unfold State.endLock
  refine (State.fld_setFld_ne _ _ _ _ _ _ ?_).trans (State.fld_congr rfl _ _)
  rcases hf with ho | hb
  · exact Or.inl (by show p * 4096 + f.off % 4096 ≠ Pg.wdl * 4096 + 0x044; omega)
  · exact Or.inr (Or.inl (by show f.lo + f.w ≤ 16 + q; omega))

/-! ### What the failure of an anchor changes -/

/-- The failure of an anchor writes causes, WDL_STATUS, WDL_ANCHOR_LOSSES and PF0's pending vectors: every other register is
left, the rate word and UNIT_STATE among them (R70, R91). -/
theorem State.fld_failAnchor (s : State) (c : LossCause) (p : Nat) (f : Fld) (h : f.off < 4096)
    (hf : f.off ∉ [0x020, 0x044, 0x06C, 0x240]) : (s.failAnchor c).fld p f = s.fld p f := by
  simp only [List.mem_cons, List.not_mem_nil, or_false, not_or] at hf
  obtain ⟨hirq, hstatus, hlosses, hpba⟩ := hf
  unfold State.failAnchor State.enterHoldover
  simp (disch := first | assumption | decide) only [State.fld_mk, State.fld_raiseIrq, State.fld_setFld_off, State.fld_ite,
    State.fld_incFld_off, ite_self]

/-- LEARNED is left as it is (R70). -/
theorem State.learned_failAnchor (s : State) (c : LossCause) :
    (s.failAnchor c).fld Pg.wdl F.WDL_STATUS_LEARNED = s.fld Pg.wdl F.WDL_STATUS_LEARNED := by
  unfold State.failAnchor State.enterHoldover
  simp (disch := decide) only [State.fld_mk, State.fld_raiseIrq, State.fld_setFld_bits, State.fld_ite, State.fld_incFld_off,
    ite_self]

/-- The failure is counted, up to all ones (R91). -/
theorem State.losses_failAnchor (s : State) (c : LossCause) : (s.failAnchor c).fld Pg.wdl F.WDL_ANCHOR_LOSSES_b0 =
    min (s.fld Pg.wdl F.WDL_ANCHOR_LOSSES_b0 + 1) (2 ^ F.WDL_ANCHOR_LOSSES_b0.w - 1) := by
  unfold State.failAnchor State.enterHoldover
  simp (disch := decide) only [State.fld_mk, State.fld_raiseIrq, State.fld_setFld_off, State.fld_ite, State.fld_incFld_self,
    ite_self]

/-- The failure raises ANCHOR_LOST (R91). -/
theorem State.anchorLost_failAnchor (s : State) (c : LossCause) : (s.failAnchor c).fld Pg.wdl ⟨0x020, 0, 1⟩ = 1 := by
  unfold State.failAnchor State.enterHoldover
  simp (disch := decide) only [State.fld_mk, State.irq_raiseIrq_ne, State.fld_setFld_off, State.irq_raiseIrq]

/-! ### ANCHOR_LOSS -/

/-- The Windlass follows an anchor while it slews or is locked. -/
theorem State.anchored_of {s : State} (h : s.tstate = T.slewing ∨ s.tstate = T.locked) (ha : s.anchor < 8) :
    s.anchored = true := by
  simpa [State.anchored, ha] using h

section

variable {s : State} (h : s.anchored = true) (c : LossCause)

include h

/-- A loss indicator on the active anchor leaves every register but causes, WDL_STATUS, WDL_ANCHOR_LOSSES and PF0's pending
vectors. -/
theorem State.fld_loseAnchor (p : Nat) (f : Fld) (ho : f.off < 4096) (hf : f.off ∉ [0x020, 0x044, 0x06C, 0x240]) :
    (s.loseAnchor c).fld p f = s.fld p f := by
  have hs : f.off ≠ 0x044 := fun e => hf (by simp [e])
  rw [State.loseAnchor_anchored h, State.fld_failAnchor _ _ _ _ ho hf, State.fld_relock, State.fld_endLock _ _ _ _ ho (Or.inl hs)]

theorem State.learned_loseAnchor :
    (s.loseAnchor c).fld Pg.wdl F.WDL_STATUS_LEARNED = s.fld Pg.wdl F.WDL_STATUS_LEARNED := by
  rw [State.loseAnchor_anchored h, State.learned_failAnchor, State.fld_relock,
    State.fld_endLock _ _ _ _ (by decide) (Or.inr (by decide))]

theorem State.losses_loseAnchor : (s.loseAnchor c).fld Pg.wdl F.WDL_ANCHOR_LOSSES_b0 =
    min (s.fld Pg.wdl F.WDL_ANCHOR_LOSSES_b0 + 1) (2 ^ F.WDL_ANCHOR_LOSSES_b0.w - 1) := by
  rw [State.loseAnchor_anchored h, State.losses_failAnchor, State.fld_relock,
    State.fld_endLock _ _ _ _ (by decide) (Or.inl (by decide))]

/-- ANCHOR_LOST and HOLDOVER are raised, and the cause is shown (R69, R91). -/
theorem State.causes_loseAnchor : (s.loseAnchor c).fld Pg.wdl ⟨0x020, 0, 1⟩ = 1 ∧
    (s.loseAnchor c).fld Pg.wdl ⟨0x020, 1, 1⟩ = 1 ∧ (s.loseAnchor c).fld Pg.wdl F.WDL_STATUS_LOSS_CAUSE = lossCode c := by
  rw [State.loseAnchor_anchored h]
  obtain ⟨-, -, hcause, hholdover⟩ := State.failAnchor_shows ((s.endLock s.anchor).relock s.anchor c) c
  exact ⟨State.anchorLost_failAnchor _ c, hholdover, hcause⟩

/-- The Windlass is in HOLDOVER and follows no anchor (R70). -/
theorem State.holdover_loseAnchor : (s.loseAnchor c).tstate = T.holdover ∧ (s.loseAnchor c).anchor = 8 := by
  rw [State.loseAnchor_anchored h]
  obtain ⟨hstate, hanchor, -⟩ := State.failAnchor_shows ((s.endLock s.anchor).relock s.anchor c) c
  exact ⟨hstate, hanchor⟩

end

/-- Nothing of the pipeline is re-based, and the count runs on (R91). -/
theorem State.loseAnchor_rebases_nothing (s : State) (c : LossCause) :
    (s.loseAnchor c).pipe = s.pipe ∧ (s.loseAnchor c).count = s.count := by
  have k : Keeps 0x2040000001202 s (s.loseAnchor c) := State.loseAnchor_keeps (.refl _ s) rfl
  exact ⟨k.pipe rfl, k.count rfl⟩

/-- Settles O49: the failure raises its causes and is counted; UNIT_STATE, the pipeline and the count are left. -/
theorem anchorFailureIsNoFault : Obligations.AnchorFailureIsNoFault := by
  intro off c s h ha
  have hs : (s.at off).anchored = true := (s.anchored_at off).trans (State.anchored_of h ha)
  obtain ⟨hlost, hholdover, hcause⟩ := State.causes_loseAnchor hs c
  obtain ⟨hpipe, hcount⟩ := (s.at off).loseAnchor_rebases_nothing c
  refine ⟨_, rfl, hlost, hholdover, ?losses, hcause, ?unit, hpipe.trans (s.at_pipe off), hcount⟩
  case losses => rw [State.losses_loseAnchor hs, State.fld_at]
  case unit => exact (State.fld_loseAnchor hs c _ _ (by decide) (by decide)).trans (s.fld_at off _ _)

/-- Settles O50: HOLDOVER is entered with WDL_RATE and LEARNED as they were. -/
theorem slewFailureHoldsTheRate : Obligations.SlewFailureHoldsTheRate := by
  intro off c s h ha hl
  have hs : (s.at off).anchored = true := (s.anchored_at off).trans (State.anchored_of (Or.inl h) ha)
  obtain ⟨hstate, hanchor⟩ := State.holdover_loseAnchor hs c
  refine ⟨_, rfl, hstate, hanchor, ?rate, ?learned⟩
  case rate => rw [State.fld_loseAnchor hs c _ _ (by decide) (by decide), State.fld_at]
  case learned => rw [State.learned_loseAnchor hs, State.fld_at, hl]

end Sys2Proof.Machine
end

section
/-!
PROOFS. Requests that are turned away (R76, R95, R689, R760): a mailbox request while one is in progress, a flash command while
the load reads flash, a boundary and a mark of a Windlass that has no use for them.
-/

namespace Sys2Proof.Machine

open Sys2Proof

/-- A write reaches its page where the page answers. -/
theorem State.onPage_answers {s : State} {page : Nat} (h : s.dropCause page = none) (off : Nat) (f : State → State) :
    s.onPage page off f = f s := by
  unfold State.onPage
  rw [h]

/-- The mask of what a register write may change, whatever its page: registers, the lists of late and written ones, what is
driven out. -/
def writeMask : Nat := 0x17ffffffe000000021a

theorem State.write_cpc (s : State) (page off : Nat) (v : Word) : (s.write page off v).cpc = s.cpc :=
  (State.write_keeps (M := writeMask) (.refl _ s) rfl (.all rfl)).cpc rfl

theorem State.write_flash (s : State) (page off : Nat) (v : Word) : (s.write page off v).flash = s.flash :=
  (State.write_keeps (M := writeMask) (.refl _ s) rfl (.all rfl)).flash rfl

/-! ### The mailbox -/

theorem State.mbBusy_congr {s t : State} (h : t.fld (Pg.cpc 9) F.CPC_MB_STATUS_BUSY = s.fld (Pg.cpc 9) F.CPC_MB_STATUS_BUSY) :
    t.mbBusy = s.mbBusy := by
  unfold State.mbBusy State.bit
  rw [h]

/-- GO while a request is in progress leaves that request and counts one in MB_OVERRUN (R689). -/
theorem State.mbGo_busy {s : State} (h : s.mbBusy = true) (seq : Nat) : (s.mbGo seq).cpc = s.cpc ∧
    (s.mbGo seq).mbBusy = true ∧ (s.mbGo seq).fld (Pg.cpc 9) F.CPC_MB_OVERRUN =
      min (s.fld (Pg.cpc 9) F.CPC_MB_OVERRUN + 1) (2 ^ F.CPC_MB_OVERRUN.w - 1) := by
  obtain ⟨g, hg⟩ : ∃ g, g = s.setFld (Pg.cpc 9) F.CPC_MB_CTL_GO 0 := ⟨_, rfl⟩
  have hfld : ∀ f : Fld, 0x044 ≤ f.off ∧ f.off < 4096 → g.fld (Pg.cpc 9) f = s.fld (Pg.cpc 9) f := by
    rintro f ⟨h1, h2⟩
    rw [hg, State.fld_setFld_off _ _ _ _ _ _ (by decide) h2 (by show f.off ≠ 0x040; omega)]
  have hbusy : g.mbBusy = true := (State.mbBusy_congr (hfld _ (by decide))).trans h
  have he : s.mbGo seq = g.incFld (Pg.cpc 9) F.CPC_MB_OVERRUN := by
    subst hg
    exact if_pos hbusy
  rw [he]
  refine ⟨by rw [State.incFld_cpc, hg, State.setFld_cpc], ?busy, ?overrun⟩
  case busy => exact (State.mbBusy_congr (State.fld_incFld_off _ _ _ _ _ _ (by decide) (by decide) (by decide))).trans hbusy
  case overrun => rw [State.fld_incFld_self _ _ _ _ (by decide), hfld _ (by decide)]

/-- A write of MB_CTL leaves the mailbox's registers past it. -/
theorem State.fld_write_mbCtl (s : State) (v : Word) (f : Fld) (h : 0x044 ≤ f.off ∧ f.off < 4096) :
    (s.write (Pg.cpc 9) 0x040 v).fld (Pg.cpc 9) f = s.fld (Pg.cpc 9) f :=
  State.fld_applyWrite_ne s _ v 0 false false _ f ⟨⟨by omega, h.2⟩, by decide⟩ (by
    show Pg.cpc 9 * 4096 + f.off % 4096 ≠ Pg.cpc 9 * 4096 + 0x040
    omega)

/-- MAILBOX_GO while BUSY is 1 (R689). -/
theorem execMailboxGo_busy (off : Nat) (seq : BitVec 8) {s : State} (hp : (s.at off).dropCause (Pg.cpc 9) = none)
    (hb : s.mbBusy = true) : ∃ t, execMailboxGo off seq s = .next t ∧ t.cpc = s.cpc ∧ t.mbBusy = true ∧
    t.fld (Pg.cpc 9) F.CPC_MB_OVERRUN = min (s.fld (Pg.cpc 9) F.CPC_MB_OVERRUN + 1) (2 ^ F.CPC_MB_OVERRUN.w - 1) := by
  have hfld : ∀ (v : Word) (f : Fld), 0x044 ≤ f.off ∧ f.off < 4096 →
      ((s.at off).write (Pg.cpc 9) 0x040 v).fld (Pg.cpc 9) f = s.fld (Pg.cpc 9) f := by
    intro v f hf
    rw [State.fld_write_mbCtl _ _ _ hf, State.fld_at]
  obtain ⟨hcpc, hbusy, hover⟩ := State.mbGo_busy ((State.mbBusy_congr (hfld (BitVec.ofNat 32 (seq.toNat + 256)) _
    (by decide))).trans hb) seq.toNat
  refine ⟨_, congrArg Host.Outcome.next (State.onPage_answers hp _ _), hcpc.trans ?cpc, hbusy, hover.trans ?overrun⟩
  case cpc => rw [State.write_cpc, State.at_cpc]
  case overrun => rw [hfld _ _ (by decide)]

/-! ### Flash -/

/-- A command of flash while the load reads it is refused (R760). -/
theorem State.flashGo_refused {s : State} {o : Nat} (ho : s.fld Pg.fls F.FLS_CMD_OP = o) (h1 : 1 ≤ o) (h3 : o ≤ 3)
    (h : s.loadReads = true) : s.flashGo = (s.setFld Pg.fls F.FLS_CMD_GO 0).hwSet Pg.fls F.FLS_STATUS_REFUSED := by
  unfold State.flashGo
  dsimp only
  rw [ho, if_neg (by simp; omega), if_pos h]

/-- A flash command given while the load reads flash sets REFUSED and leaves flash and its controller (R760). -/
theorem State.flashCmd_refused {s : State} {o : Nat} (hp : s.dropCause Pg.fls = none)
    (ho : (s.write Pg.fls 0x044 (BitVec.ofNat 32 (o + 8))).fld Pg.fls F.FLS_CMD_OP = o) (h1 : 1 ≤ o) (h3 : o ≤ 3)
    (h : s.loadReads = true) :
    (s.flashCmd o).flash = s.flash ∧ (s.flashCmd o).fld Pg.fls F.FLS_STATUS_REFUSED = 1 := by
  obtain ⟨w, hw⟩ : ∃ w, w = s.write Pg.fls 0x044 (BitVec.ofNat 32 (o + 8)) := ⟨_, rfl⟩
  have hl : w.loadReads = true := by
    unfold State.loadReads at h ⊢
    rwa [hw, State.write, State.fld_applyWrite_ne _ _ _ _ _ _ _ _ (by decide) (by decide)]
  have he : s.flashCmd o = (w.setFld Pg.fls F.FLS_CMD_GO 0).hwSet Pg.fls F.FLS_STATUS_REFUSED := by
    rw [← hw] at ho
    exact (State.onPage_answers hp _ _).trans (hw ▸ State.flashGo_refused ho h1 h3 hl)
  rw [he]
  refine ⟨?_, State.fld_setFld_self _ _ _ _ (by decide)⟩
  show w.flash = s.flash
  rw [hw, State.write_flash]

theorem State.loadReads_at (s : State) (off : Nat) : (s.at off).loadReads = s.loadReads := by
  unfold State.loadReads
  rw [State.fld_at]

/-! ### The Windlass -/

/-- No turns pass while the Windlass is stopped and the main domain in reset (R95). -/
theorem execTurnBoundary_stopped (m : TurnMeasure) {s : State} (h : s.wdl.stopped = true) (hr : s.pins.mainReset = true) :
    execTurnBoundary m s = .next s := by
  unfold execTurnBoundary
  simp [h, hr]

/-- A mark that is not armed does not fire (R76). -/
theorem execMarkFire_unarmed (m : Fin 64) {s : State} (h : (s.mark m.val).armed = false) : execMarkFire m s = .next s := by
  unfold execMarkFire
  simp [h]

/-- Settles O47: what each of the requests does where it is turned away. -/
theorem requestsTurnedAway : Obligations.RequestsTurnedAway := by
  have refused : ∀ (off o : Nat) (s : State), (s.at off).dropCause Pg.fls = none →
      ((s.at off).write Pg.fls 0x044 (BitVec.ofNat 32 (o + 8))).fld Pg.fls F.FLS_CMD_OP = o → 1 ≤ o → o ≤ 3 →
      s.loadReads = true →
      ((s.at off).flashCmd o).flash = s.flash ∧ ((s.at off).flashCmd o).fld Pg.fls F.FLS_STATUS_REFUSED = 1 := by
    intro off o s hp ho h1 h3 h
    rw [← s.at_flash off]
    exact State.flashCmd_refused hp ho h1 h3 ((s.loadReads_at off).trans h)
  refine ⟨fun off seq s hp hb => execMailboxGo_busy off seq hp hb, ?read, ?program, ?erase,
    fun m s h hr => ⟨s, execTurnBoundary_stopped m h hr, rfl⟩, fun m s h => ⟨s, execMarkFire_unarmed m h, rfl⟩⟩
  case read => exact fun off s hp ho h => ⟨_, rfl, refused off 1 s hp ho (by decide) (by decide) h⟩
  case program => exact fun off s hp ho h => ⟨_, rfl, refused off 2 s hp ho (by decide) (by decide) h⟩
  case erase => exact fun off s hp ho h => ⟨_, rfl, refused off 3 s hp ho (by decide) (by decide) h⟩

end Sys2Proof.Machine
end

section
/-!
PROOFS. What power-on reset leaves (R95, R144, R200, R279, R771): nothing is written yet, so every register holds the reset value
of its table.
-/

namespace Sys2Proof.Machine

open Sys2Proof

/-- Page WDL is the one page of its class. -/
theorem pageClass_ne_wdl {p : Nat} (h : p ≠ Pg.wdl) : pageClass p ≠ 0x0002 := by
  unfold pageClass
  split
  · decide
  · split
    · rename_i r hr
      intro h2
      have hp := List.find?_some hr
      obtain ⟨hl, hu⟩ := (by decide : ∀ r ∈ pageMap, r.2.2 = 0x0002 → r.1 = Pg.wdl ∧ r.2.1 = Pg.wdl) r
        (List.mem_of_find?_eq_some hr) h2
      simp only [Bool.and_eq_true, decide_eq_true_eq] at hp
      omega
    · decide

/-- No kind of page but WDL's gives UNIT_STATE a reset value of its own. -/
theorem resetByKind_unitState {p : Nat} (h : p ≠ Pg.wdl) : resetByKind p F.HDR_UNIT_STATE_STATE.off = none := by
  have hc := pageClass_ne_wdl h
  unfold resetByKind
  split
  · rfl
  · rw [if_neg (by decide), if_neg (by decide), if_neg (by decide)]
    split
    case h_6 hw => exact absurd hw hc
    all_goals simp

/-- Where a page has UNIT_STATE it is the header's, with reset value 0 (Table REG-9). -/
theorem regFields_unitState_reset (p : Nat) :
    (regFields p F.HDR_UNIT_STATE_STATE.off).foldl (fun a f => a ||| (f.rst <<< f.lo)) 0 = 0 := by
  unfold regFields regFields?
  split
  · rfl
  · rw [if_pos (by decide)]
    split
    · rfl
    · rw [if_neg (by decide), if_neg (by decide), if_neg (by decide)]
      rfl

theorem regKey_div_mod (p : Nat) {o : Nat} (h : o < 4096) : regKey p o / 4096 = p ∧ regKey p o % 4096 = o := by
  unfold regKey
  omega

/-- The unit of every page but WDL's is OFF at reset (R144). -/
theorem State.unit_reset {p : Nat} (h : p ≠ Pg.wdl) : State.reset.unit p = uOff := by
  obtain ⟨hp, ho⟩ := regKey_div_mod p (o := F.HDR_UNIT_STATE_STATE.off) (by decide)
  show (regReset (regKey p F.HDR_UNIT_STATE_STATE.off)).field 0 3 = 0
  unfold regReset
  dsimp only
  rw [hp, ho, resetByKind_unitState h]
  dsimp only
  rw [regFields_unitState_reset]
  rfl

/-- A lane is DISABLED at reset (R200). -/
theorem State.lstate_reset : ∀ l : LaneIx, State.reset.lstate l.val = L.disabled := by decide +kernel

/-- Settles O55: the registers at reset are those of their tables, and nothing stands beside them. -/
theorem resetLeaves : Obligations.ResetLeaves := by
  refine ⟨?windlass, ?security, ?units⟩
  case windlass => decide +kernel
  case security => decide +kernel
  case units =>
    intro l q tl p c n
    have off : ∀ b i, Pg.wdl < b → State.reset.unit (b + i) = uOff := fun b i h =>
      State.unit_reset (ne_of_gt (Nat.lt_add_right i h))
    exact ⟨off 0x0100 _ (by decide), State.lstate_reset l, off 0x0300 _ (by decide), off 0x0308 _ (by decide),
      off 0x0600 _ (by decide), off 0x0900 _ (by decide), off 0x0A00 _ (by decide), off 0x0B00 _ (by decide)⟩

end Sys2Proof.Machine
end

section
/-!
PROOFS. The records of accesses (R103, R108, R116): the words that ACCESS_FAULT and GBL_UNMAPPED_ADDR hold after a fault, what a
series of faults leaves, and the accesses that end in a record alone.
-/

namespace Sys2Proof.Machine

open Sys2Proof

set_option Elab.async false

/-- A field of a word given as a number. -/
theorem Word.field_ofNat (v lo w : Nat) (h : lo + w ≤ 32) :
    Word.field (BitVec.ofNat 32 v) lo w = v / 2 ^ lo % 2 ^ w := by
  refine Nat.eq_of_testBit_eq fun i => ?_
  rw [Word.testBit_field, BitVec.getLsbD_ofNat, Nat.testBit_mod_two_pow, Nat.testBit_div_two_pow, Nat.add_comm i lo]
  by_cases hi : i < w
  · simp [hi, show lo + i < 32 by omega]
  · simp [hi]

/-- A register is its one field of 32 bits. -/
theorem State.fld_word (s : State) (p o : Nat) : s.fld p ⟨o, 0, 32⟩ = (s.reg (regKey p o)).toNat :=
  Nat.mod_eq_of_lt (s.reg (regKey p o)).isLt

/-- Registers whose word reads alike are alike. -/
theorem State.reg_eq_of_fld {s t : State} {p o : Nat} (h : t.fld p ⟨o, 0, 32⟩ = s.fld p ⟨o, 0, 32⟩) :
    t.reg (regKey p o) = s.reg (regKey p o) := by
  rw [State.fld_word, State.fld_word] at h
  exact BitVec.eq_of_toNat_eq h

/-! ### ACCESS_FAULT -/

/-- The word that a recorded fault leaves in ACCESS_FAULT (R116, R905). -/
def State.faultWord (s : State) (x : Part) (cause : Nat) : Nat :=
  x.off + 4096 * x.size + 65536 * x.be + 2 ^ 20 * cause +
    2 ^ 24 * min (s.fld x.page F.HDR_ACCESS_FAULT_COUNT + 1) 63 + 2 ^ 31

/-- A fault as ACCESS_FAULT can hold it: an offset of a page, a SIZE code, byte enables and a cause of Table REG-7. -/
structure Recordable (x : Part) (cause : Nat) : Prop where
  off : x.off < 4096
  size : x.size < 4
  be : x.be < 16
  cause : cause < 16

/-- ACCESS_FAULT after a fault is recorded, by its fields. -/
theorem State.fld_recordFault_accessFault (s : State) (x : Part) (cause : Nat) (f : Fld) (ho : f.off = 0x02C)
    (h : f.lo + f.w ≤ 32) : (s.recordFault x cause).fld x.page f = s.faultWord x cause / 2 ^ f.lo % 2 ^ f.w := by
  have hput : ∀ t : State, (t.putFault x.page 3 1).fld x.page f = t.fld x.page f := fun t =>
    (State.fld_syncAttention_head _ _ _ _ (by omega) (by omega)).trans
      (State.fld_setFld_off _ _ _ _ _ _ (by decide) (by omega) (by show f.off ≠ 0x018; omega))
  unfold State.recordFault
  dsimp only
  rw [State.fld_raiseIrq _ _ _ _ _ (by omega) (by omega) (by omega),
    State.fld_incFld_off _ _ _ _ _ _ (by decide) (by omega) (by show f.off ≠ 0x058; omega), hput]
  unfold State.fld
  rw [ho, State.reg_setReg_self]
  exact Word.field_ofNat _ _ _ h

section

variable {x : Part} {cause : Nat} (s : State) (h : Recordable x cause)

include h

/-- ACCESS_FAULT shows VALID and the offset, size, byte enables and cause of the fault just recorded. -/
theorem State.recordFault_shows :
    (s.recordFault x cause).fld x.page F.HDR_ACCESS_FAULT_OFFSET = x.off ∧
    (s.recordFault x cause).fld x.page F.HDR_ACCESS_FAULT_SIZE = x.size ∧
    (s.recordFault x cause).fld x.page F.HDR_ACCESS_FAULT_BE = x.be ∧
    (s.recordFault x cause).fld x.page F.HDR_ACCESS_FAULT_CAUSE = cause ∧
    (s.recordFault x cause).fld x.page F.HDR_ACCESS_FAULT_VALID = 1 := by
  obtain ⟨hoff, hsize, hbe, hcause⟩ := h
  have hw : ∀ lo w, lo + w ≤ 32 → (s.recordFault x cause).fld x.page ⟨0x02C, lo, w⟩ = s.faultWord x cause / 2 ^ lo % 2 ^ w :=
    fun lo w => s.fld_recordFault_accessFault x cause ⟨0x02C, lo, w⟩ rfl
  unfold State.faultWord at hw
  refine ⟨(hw 0 12 (by decide)).trans ?_, (hw 12 2 (by decide)).trans ?_, (hw 16 4 (by decide)).trans ?_,
    (hw 20 4 (by decide)).trans ?_, (hw 31 1 (by decide)).trans ?_⟩ <;> omega

/-- COUNT is one more, up to all ones. -/
theorem State.faultCount_recordFault : (s.recordFault x cause).fld x.page F.HDR_ACCESS_FAULT_COUNT =
    min (s.fld x.page F.HDR_ACCESS_FAULT_COUNT + 1) 63 := by
  obtain ⟨hoff, hsize, hbe, hcause⟩ := h
  refine (State.fld_recordFault_accessFault s x cause _ rfl (by decide)).trans ?_
  show s.faultWord x cause / 2 ^ 24 % 2 ^ 6 = _
  unfold State.faultWord
  omega

end

/-- A series of faults on one page raises COUNT by their number, up to all ones. -/
theorem State.faultCount_foldl {page : Nat} (l : List (Part × Nat)) (hl : ∀ e ∈ l, e.1.page = page ∧ Recordable e.1 e.2)
    (s : State) : (l.foldl (fun (a : State) e => a.recordFault e.1 e.2) s).fld page F.HDR_ACCESS_FAULT_COUNT =
      min (s.fld page F.HDR_ACCESS_FAULT_COUNT + l.length) 63 := by
  induction l generalizing s with
  | nil =>
    have hlt : s.fld page F.HDR_ACCESS_FAULT_COUNT < 64 := s.fld_lt page F.HDR_ACCESS_FAULT_COUNT
    simp only [List.foldl_nil, List.length_nil]
    omega
  | cons e l ih =>
    obtain ⟨⟨rfl, he⟩, hl⟩ := List.forall_mem_cons.mp hl
    rw [List.foldl_cons, ih hl, State.faultCount_recordFault s he, List.length_cons]
    omega

/-- Settles O34: each fault overwrites the fields of the one before and raises COUNT. -/
theorem accessFaultKeepsTheLatest : Obligations.AccessFaultKeepsTheLatest := by
  rintro s t l x c rfl hl ⟨-, hoff, hsize, hbe, hcause⟩
  have hx : Recordable x c := ⟨hoff, hsize, hbe, hcause⟩
  have hcount := State.faultCount_foldl l (fun e he => by
    obtain ⟨hpage, hoff, hsize, hbe, hcause⟩ := hl e he
    exact ⟨hpage, hoff, hsize, hbe, hcause⟩) s
  obtain ⟨o, sz, b, k, v⟩ := State.recordFault_shows _ hx
  refine ⟨o, sz, b, k, v, ?_⟩
  rw [State.faultCount_recordFault _ hx, hcount]
  omega

/-! ### Narrow writes -/

/-- A fault recorded leaves every register of a block's own. -/
theorem State.reg_recordFault (s : State) (x : Part) (c : Nat) {p o : Nat} (h : Own p o) :
    (s.recordFault x c).reg (regKey p o) = s.reg (regKey p o) := State.reg_eq_of_fld (State.fld_recordFault s x c p _ h)

/-- A narrow write of a register of a unit's page is a fault of cause NARROW_WR and no more (R108). -/
theorem State.writePart_narrow {s : State} {x : Part} (v : Word) (hbe : x.be < 0xF) (hd : s.dropCause x.page = none)
    (hu : userWindow x.page x.off = false) (hl : isLocal x.page = false) (hf : regFields? x.page x.off ≠ none)
    (ha : (s.absent x.page && decide (x.off = 0x010)) = false) :
    s.writePart x v false = s.recordFault x Cause.narrowWr := by
  have hbe' : x.be ≠ 0xF := by omega
  have hcause : s.writeCause x 0 false false = some Cause.narrowWr := by
    unfold State.writeCause
    split
    · exact absurd ‹_› hf
    · exact if_pos hbe'
  unfold State.writePart State.narrowWrite State.applyWrite
  simp only [hd, hbe', hu, hl, ha, hcause]
  simp

theorem sizeCode_lt (n : Nat) : sizeCode n < 4 := by
  unfold sizeCode
  repeat' split
  all_goals decide

theorem State.dropCause_congr {s t : State} (h : t.regs = s.regs) (page : Nat) : t.dropCause page = s.dropCause page := by
  unfold State.dropCause State.bit
  rw [State.fld_congr h]

/-- Settles O33: the write's one part is a fault that its page records. -/
theorem narrowWriteIsRecorded : Obligations.NarrowWriteIsRecorded := by
  intro off addr data e s hparts hbe hd hu hl hf ha
  obtain ⟨x, hx⟩ : ∃ x : Part, x = ⟨barPage 0 (e.1 / 4096), e.1 % 4096, e.2, sizeCode data.length⟩ := ⟨_, rfl⟩
  have hrun : exec (.registerWrite off 0 addr data) s = .next ((s.at off).recordFault x Cause.narrowWr) := by
    have hw := State.writePart_narrow (x := x) (partData addr.toNat e.1 data) (by rwa [hx]) (by rwa [hx]) (by rwa [hx])
      (by rwa [hx]) (by rwa [hx]) (by rwa [hx])
    show execRegisterWrite off 0 addr data s = _
    unfold execRegisterWrite
    dsimp only
    rw [hparts, if_pos (by rfl), ← hw, hx]
    rfl
  obtain ⟨hoff, hsize, hben, hcause, hvalid⟩ := State.recordFault_shows (s.at off) (x := x) (cause := Cause.narrowWr)
    ⟨by rw [hx]; exact Nat.mod_lt _ (by decide), by rw [hx]; exact sizeCode_lt _, by rw [hx]; exact Nat.lt_succ_of_lt hbe,
      by decide⟩
  subst hx
  refine ⟨_, hrun, hcause, hoff, hben, hsize, hvalid, fun p o hp _ => ?_⟩
  rw [State.reg_recordFault _ _ _ hp, State.reg_at]

/-! ### GBL_UNMAPPED_ADDR -/

/-- The word that an access which no page answers leaves in GBL_UNMAPPED_ADDR (R103, R143). -/
def unmappedWord (bar cause : Nat) (wr : Bool) : Nat := bar % 2 ^ 26 + 2 ^ 26 * cause + 2 ^ 30 * bitOf wr + 2 ^ 31

section

variable (s : State) (bar cause : Nat) (wr : Bool)

theorem State.reg_unmapped_addr :
    (s.unmapped bar cause wr).reg (regKey Pg.gbl 0x054) = BitVec.ofNat 32 (unmappedWord bar cause wr) := by
  unfold State.unmapped
  dsimp only
  rw [State.reg_ite, State.incFld, State.reg_setFld_ne _ _ _ _ _ (by decide), State.reg_noteCount, ite_self,
    State.reg_setReg_self]
  rfl

/-- Nothing else changes but the count of the writes dropped. -/
theorem State.reg_unmapped_ne {k : Nat} (h : k ≠ regKey Pg.gbl 0x054) (hw : wr = true → k ≠ regKey Pg.gbl 0x058) :
    (s.unmapped bar cause wr).reg k = s.reg k := by
  unfold State.unmapped
  dsimp only
  split
  · rename_i hwr
    rw [State.incFld, State.reg_setFld_ne _ _ _ _ _ (hw hwr), State.reg_noteCount, State.reg_setReg_ne _ _ _ _ h,
      State.reg_noteSet]
  · rw [State.reg_setReg_ne _ _ _ _ h, State.reg_noteSet]

/-- A dropped write is counted, up to all ones. -/
theorem State.unmappedCnt_unmapped : (s.unmapped bar cause true).fld Pg.gbl F.GBL_UNMAPPED_CNT =
    min (s.fld Pg.gbl F.GBL_UNMAPPED_CNT + 1) 65535 := by
  refine (State.fld_incFld_self _ Pg.gbl F.GBL_UNMAPPED_CNT 1 (by decide)).trans ?_
  rw [State.fld_setReg_ne _ _ _ _ _ (by decide)]
  rfl

/-- GBL_UNMAPPED_ADDR shows the access. -/
theorem State.unmapped_shows (hb : bar < 2 ^ 26) (hc : cause < 4) :
    (s.unmapped bar cause wr).fld Pg.gbl F.GBL_UNMAPPED_ADDR_BAR = bar ∧
    (s.unmapped bar cause wr).fld Pg.gbl F.GBL_UNMAPPED_ADDR_CAUSE = cause ∧
    (s.unmapped bar cause wr).fld Pg.gbl F.GBL_UNMAPPED_ADDR_WRITE = bitOf wr ∧
    (s.unmapped bar cause wr).fld Pg.gbl F.GBL_UNMAPPED_ADDR_VALID = 1 := by
  have hw : ∀ lo w, lo + w ≤ 32 → (s.unmapped bar cause wr).fld Pg.gbl ⟨0x054, lo, w⟩ =
      unmappedWord bar cause wr / 2 ^ lo % 2 ^ w := by
    intro lo w h
    unfold State.fld
    rw [State.reg_unmapped_addr, Word.field_ofNat _ _ _ h]
  have hwr : bitOf wr < 2 := by cases wr <;> decide
  unfold unmappedWord at hw
  refine ⟨(hw 0 26 (by decide)).trans ?_, (hw 26 2 (by decide)).trans ?_, (hw 30 1 (by decide)).trans ?_,
    (hw 31 1 (by decide)).trans ?_⟩ <;> omega

end

/-- No page of an unassigned slot answers (R103). -/
theorem State.dropCause_unassigned {page : Nat} (h : assigned page = false) (s : State) : s.dropCause page = some 1 := by
  unfold State.dropCause
  simp [h]

section

variable {addr : BitVec 26} (h : assigned (addr.toNat / 4096) = false) (off : Nat) (s : State)

include h

theorem execUnassignedPageAccess_read : execUnassignedPageAccess off addr false s =
    .next { ((s.at off).unmapped addr.toNat 1 false) with rdata := [0] } := if_pos (State.dropCause_unassigned h _)

theorem execUnassignedPageAccess_write : execUnassignedPageAccess off addr true s =
    .next ((s.at off).unmapped addr.toNat 1 true) := by
  unfold execUnassignedPageAccess
  simp only [State.dropCause_unassigned h, if_true]

end

/-- The slots that Table REG-2 leaves out of its ranges below 0x0420 are unassigned (R26, R103). -/
theorem assigned_reserved : ∀ n < 0x0420, (2 ≤ n ∧ n ≤ 15) ∨ (0x040C ≤ n ∧ n ≤ 0x040F) ∨ (0x041C ≤ n ∧ n ≤ 0x041F) →
    assigned n = false := by decide +kernel

/-- Settles O40: an access to an unassigned slot is its record, with the count of the dropped writes. -/
theorem unassignedPagesAnswerZero : Obligations.UnassignedPagesAnswerZero := by
  refine ⟨?read, ?write, fun n hn => assigned_reserved n (by omega) hn⟩
  case read =>
    intro off addr s h
    obtain ⟨hbar, hcause, hwrite, hvalid⟩ := (s.at off).unmapped_shows addr.toNat 1 false addr.isLt (by decide)
    refine ⟨_, execUnassignedPageAccess_read h off s, rfl, ?_⟩
    simp only [State.fld_mk, State.reg_mk]
    refine ⟨hbar, hcause, hwrite, hvalid, fun k hk => ?_⟩
    exact ((s.at off).reg_unmapped_ne _ _ _ hk (absurd · Bool.false_ne_true)).trans (s.reg_at off k)
  case write =>
    intro off addr s h
    obtain ⟨hbar, hcause, hwrite, -⟩ := (s.at off).unmapped_shows addr.toNat 1 true addr.isLt (by decide)
    refine ⟨_, execUnassignedPageAccess_write h off s, hbar, hcause, hwrite, ?_, fun k hk hc => ?_⟩
    · rw [State.unmappedCnt_unmapped, State.fld_at]
    · exact ((s.at off).reg_unmapped_ne _ _ _ hk fun _ => hc).trans (s.reg_at off k)

end Sys2Proof.Machine
end

section
/-!
PROOFS. Reads and snapshots (R107, R127 to R131, R135, R139): what a read of one register answers and leaves, full-width or not,
and the one snapshot that a page takes at a count.
-/

namespace Sys2Proof.Machine

open Sys2Proof

set_option Elab.async false

/-- Settles O53: the step takes the head of the queue. -/
theorem stepRunsTheFrontCommand : Obligations.StepRunsTheFrontCommand := fun _ _ _ => step_cons rfl

/-- Settles O37: `State.incFld` stops at all ones. -/
theorem countersSaturate : Obligations.CountersSaturate := fun s p n f h => State.fld_incFld_self s p f n h

/-! ### Snapshots -/

/-- A page that has taken a snapshot at the present count takes no other (R139). -/
theorem State.snapshot_of_taken {s : State} {p : Nat} (h : FMap.get? s.snapAt p = some s.count) : s.snapshot p = s := by
  unfold State.snapshot
  simp [h]

/-- A page without snapshots takes none (R127). -/
theorem State.snapshot_of_noSnap {p : Nat} (h : hasSnap p = false) (s : State) : s.snapshot p = s := by
  unfold State.snapshot
  simp [h]

theorem State.snapshot_count (s : State) (p : Nat) : (s.snapshot p).count = s.count :=
  (State.snapshot_keeps (M := countMask) (.refl _ s) rfl (.all rfl)).count rfl

/-- A snapshot of a page notes the count at which it is taken. -/
theorem State.snapshot_snapAt {s : State} {p : Nat} (h : hasSnap p = true) (hn : FMap.get? s.snapAt p ≠ some s.count) :
    (s.snapshot p).snapAt = FMap.set s.snapAt p s.count := by
  have hc : ∀ t : State, (t.clearCounters p).snapAt = t.snapAt := fun t =>
    (State.clearCounters_keeps (M := 0x17ffffffe0000000082) (.refl _ t) rfl (.all rfl)).snapAt rfl
  unfold State.snapshot
  rw [if_neg (by simp [h, hn])]
  simp only [State.setFld_snapAt]
  split
  · exact hc _
  · rfl

/-- The page has a snapshot at the present count, or takes none at all, so another changes nothing. -/
theorem State.snapshot_idem (s : State) (p : Nat) : (s.snapshot p).snapshot p = s.snapshot p := by
  cases h : hasSnap p with
  | false => exact State.snapshot_of_noSnap h _
  | true =>
    by_cases hn : FMap.get? s.snapAt p = some s.count
    · rw [State.snapshot_of_taken hn, State.snapshot_of_taken hn]
    · refine State.snapshot_of_taken ?_
      rw [State.snapshot_snapAt h hn, State.snapshot_count, FMap.get?_set, if_pos rfl]

/-- The snapshot count stands in SNAP_WDL (R139). -/
theorem State.snapWdl_snapshot {s : State} {p : Nat} (h : hasSnap p = true) (hn : FMap.get? s.snapAt p ≠ some s.count) :
    (s.snapshot p).fld p F.HDR_SNAP_WDL_LO = s.count % 2 ^ 32 ∧
    (s.snapshot p).fld p F.HDR_SNAP_WDL_HI = s.count / 2 ^ 32 % 2 ^ 32 := by
  unfold State.snapshot
  rw [if_neg (by simp [h, hn])]
  constructor
  · simp (disch := decide) only [State.fld_setFld_off, State.fld_setFld_self, Nat.mod_mod]
  · simp (disch := decide) only [State.fld_setFld_off, State.fld_setFld_self]

/-- Settles O35: what a snapshot notes turns the next at its count away. -/
theorem oneSnapshotPerCount : Obligations.OneSnapshotPerCount := by
  refine ⟨?once, ?count⟩
  case once =>
    intro s p n
    induction n with
    | zero => rfl
    | succ n ih => rw [List.replicate_succ, List.foldl_cons, State.snapshot_idem, ih]
  case count =>
    intro s p h hn hlt
    obtain ⟨hlo, hhi⟩ := State.snapWdl_snapshot h hn
    rw [hlo, hhi]
    omega

/-! ### A read of one register -/

/-- A read that is not full-width answers the enabled byte lanes; what it may change is the count of the free values drawn
(R107). -/
theorem State.readReg_narrow (s : State) {page o be : Nat} (hu : userWindow page o = false) (hb : be ≠ 0xF) :
    (s.readReg page o be).1 = lanesOf be (s.shown page o) ∧
    (s.readReg page o be).2 = { s with draws := (s.readReg page o be).2.draws } := by
  unfold State.readReg
  rw [if_neg (by simp [hu]), if_neg hb]
  refine ⟨rfl, ?_⟩
  dsimp only
  repeat' split
  all_goals rfl

/-- A full-width read (R107). -/
theorem State.readReg_full (s : State) {page o : Nat} (hu : userWindow page o = false) :
    s.readReg page o 0xF = (s.shown page o, s.readEffect page o) := by
  unfold State.readReg
  rw [if_neg (by simp [hu]), if_pos rfl]

/-- The state in which a read's data begin. -/
def State.readBegins (s : State) (off : Nat) : State := { (s.at off).dueMarks with rdata := [] }

/-- RC_COUNTER_READ of one register of a page that answers. -/
theorem execRcCounterRead_one {off : Nat} {fn : Fin 62} {addr : BitVec 26} {be : List Bool} {e : Nat × Nat} {s : State}
    (ho : (s.at off).dueMarks.barOpen fn.val = true) (hp : partsOf addr.toNat be.length (fun i => be.getD i false) = [e])
    (hd : (s.at off).dueMarks.dropCause (barPage fn.val (e.1 / 4096)) = none) :
    execRcCounterRead off fn addr be s =
      .next { ((s.readBegins off).readReg (barPage fn.val (e.1 / 4096)) (e.1 % 4096) e.2).2 with
        rdata := [((s.readBegins off).readReg (barPage fn.val (e.1 / 4096)) (e.1 % 4096) e.2).1] } := by
  have hd' : (s.readBegins off).dropCause (barPage fn.val (e.1 / 4096)) = none := hd
  unfold execRcCounterRead
  dsimp only
  rw [if_pos ho, hp]
  show Host.Outcome.next (State.readParts (s.readBegins off) _ [e]) = _
  unfold State.readParts State.readParts State.readPart
  rw [hd']
  rfl

/-- Settles O32: a narrow read's value and the state after it. -/
theorem narrowReadHasNoEffect : Obligations.NarrowReadHasNoEffect := by
  intro off fn addr be e s ho hp hb hd hu
  obtain ⟨hval, hstate⟩ := (s.readBegins off).readReg_narrow hu hb
  refine ⟨_, execRcCounterRead_one ho hp hd, congrArg (fun v => [v]) hval, ?_⟩
  rw [hstate]
  rfl

/-! ### A full-width read of one register -/

/-- An aligned full-width access has one part, with all four bytes enabled (R109). -/
theorem partsOf_word {addr : Nat} (h : addr % 4 = 0) {en : Nat → Bool} (he : ∀ b < 4, en b = true) :
    partsOf addr 4 en = [(addr, 0xF)] := by
  have hbase : addr / 4 * 4 + 4 * 0 = addr := by omega
  have hone : (addr % 4 + 4 + 3) / 4 = 1 := by omega
  have hbe : partBe addr 4 addr en = 0xF := by
    unfold partBe
    simp [List.range_succ, he]
  unfold partsOf
  rw [hone, List.range_one, List.map_singleton, hbase, hbe]
  rfl

/-- A full-width read by PF0 of a register of a page that answers (R107, R110). -/
theorem execRcCounterRead_full {off page o : Nat} {s : State} (hpage : page < 0x4000) (ho : o < 4096) (h4 : o % 4 = 0)
    (hd : (s.at off).dueMarks.dropCause page = none) (hu : userWindow page o = false) :
    execRcCounterRead off 0 (BitVec.ofNat 26 (page * 4096 + o)) [true, true, true, true] s =
      .next { ((s.readBegins off).readEffect page o) with rdata := [(s.readBegins off).shown page o] } := by
  have haddr : (BitVec.ofNat 26 (page * 4096 + o)).toNat = page * 4096 + o := by
    rw [BitVec.toNat_ofNat]
    omega
  have hdiv : barPage (0 : Fin 62).val ((page * 4096 + o) / 4096) = page := by
    show (page * 4096 + o) / 4096 % 0x4000 = page
    omega
  have hmod : (page * 4096 + o) % 4096 = o := by omega
  have hparts : partsOf (BitVec.ofNat 26 (page * 4096 + o)).toNat [true, true, true, true].length
      (fun i => [true, true, true, true].getD i false) = [(page * 4096 + o, 0xF)] := by
    rw [haddr]
    exact partsOf_word (en := fun i => [true, true, true, true].getD i false) (by omega) (by decide)
  have hrun := execRcCounterRead_one (fn := 0) (e := (page * 4096 + o, 0xF)) rfl hparts (by rwa [hdiv])
  dsimp only at hrun
  rw [hdiv, hmod, State.readReg_full _ hu] at hrun
  exact hrun

/-! ### What a counter register shows (R130) -/

/-- No header register but FAULT_CLASS is a counter. -/
theorem isCounter_header (page : Nat) {o : Nat} (h : o = 0x008 ∨ o = 0x00C) : isCounter page o = false := by
  have hf : (regFields page o).any (fun f => f.acc = .rc) = false := by
    unfold regFields regFields?
    rcases h with rfl | rfl
    all_goals
      split
      · rfl
      · rw [if_pos (by decide)]
        split
        · rfl
        · rfl
  have hw : isWideLo page (o - 4) = false := by
    unfold isWideLo
    rcases h with rfl | rfl <;> simp
  unfold isCounter
  rw [hf, hw]
  rcases h with rfl | rfl <;> rfl

/-- The registers that show what is measured, or kept elsewhere, at the read are no counters. -/
theorem isCounter_measured : isCounter Pg.wdl 0x04C = false ∧ isCounter Pg.ptp 0x048 = false ∧
    isCounter (Pg.cst 0) 0x04C = false ∧ isCounter (Pg.lwl 0) 0x078 = false ∧ isCounter (Pg.cpc 10) 0x048 = false ∧
    isCounter Pg.flt 0x0A8 = false ∧ isCounter (Pg.sec 6) 0x040 = false := by decide +kernel

theorem isCounter_launch {page o : Nat} (h : isLaunch page o = true) : isCounter page o = false := by
  have hall : ∀ e < 16, ∀ c < 8, isCounter (0x0200 + e) (0x108 + 32 * c) = false := by decide +kernel
  unfold isLaunch at h
  simp only [Bool.and_eq_true, decide_eq_true_eq] at h
  have hp : 0x0200 + (page - 0x0200) = page := by omega
  have ho : 0x108 + 32 * ((o - 0x108) / 32) = o := by omega
  exact ho ▸ hp ▸ hall (page - 0x0200) (by omega) ((o - 0x108) / 32) (by omega)

theorem isCounter_laserPower {page o : Nat} (h : isLaserPower page o = true) : isCounter page o = false := by
  have hall : ∀ l < 4, isCounter (0x0221 + l) 0x044 = false := by decide +kernel
  unfold isLaserPower at h
  simp only [Bool.and_eq_true, decide_eq_true_eq] at h
  obtain ⟨⟨h1, h2⟩, rfl⟩ := h
  have hp : 0x0221 + (page - 0x0221) = page := by omega
  exact hp ▸ hall (page - 0x0221) (by omega)

/-- A register with an RC field is no mirror. -/
theorem mirrorOf_of_rc {page o : Nat} (h : (regFields page o).any (fun f => f.acc = .rc) = true) : mirrorOf page o = page := by
  by_contra hm
  have hhead : ¬ o < 0x040 := by
    intro ho
    refine hm ?_
    unfold mirrorOf
    repeat' rw [if_neg (by simp; omega)]
  unfold regFields regFields? at h
  split at h
  · exact Bool.false_ne_true h
  · split at h
    · exact Bool.false_ne_true h
    · cases hr : findRow (blockRows page) o with
      | none => simp [hr] at h
      | some r => simp [hr, asMirror] at h

/-- Fields replaced by themselves leave a word. -/
theorem withRc_self (fs : List FieldSpec) (v : Word) : withRc fs v v = v := by
  unfold withRc
  induction fs with
  | nil => rfl
  | cons f fs ih =>
    have hv : v.withField f.lo f.w (v.field f.lo f.w) = v := by
      refine BitVec.eq_of_getLsbD_eq fun i hi => ?_
      rw [Word.getLsbD_withField, Word.testBit_field]
      by_cases hf : f.lo ≤ i ∧ i - f.lo < f.w
      · simp [hi, hf]
      · simp [hi, hf]
    rw [List.foldl_cons]
    split
    · rw [hv, ih]
    · exact ih

/-- Where nothing has happened in the present clock, a read shows a counter as it stands (R137). -/
theorem State.readAt_of_quiet {s : State} (h : s.clk.count ≠ s.count) (k : Nat) : s.readAt k = s.reg k := by
  have he : s.regAt k = ⟨s.wide k, 0, 0, false⟩ := if_neg h
  have hw : BitVec.ofNat 32 (s.wide k) = s.reg k := by
    refine BitVec.eq_of_toNat_eq ?_
    rw [BitVec.toNat_ofNat]
    unfold State.wide
    have := (s.reg k).isLt
    omega
  unfold State.readAt
  rw [he]
  dsimp only
  rw [if_neg Bool.false_ne_true, hw]
  exact withRc_self _ _

/-- The live counters (R130): a counter that no rule gives in clocks shows its own register. -/
theorem State.shown_live {s : State} {page o : Nat} (hp : page < 0x4000) (hc : isCounter page o = true)
    (hn : o ∉ clockCounters page) (hv : s.bit page F.HDR_SNAP_CTL_VIEW = false) (hq : s.clk.count ≠ s.count) :
    s.shown page o = s.reg (regKey (mirrorOf page o) o) := by
  have other : ∀ {c : Bool}, (c = true → isCounter page o = false) → ¬ c = true := fun h e =>
    Bool.false_ne_true ((h e).symm.trans hc)
  have elsewhere : ∀ {q r : Nat}, isCounter q r = false → ¬ (decide (page = q) && decide (o = r)) = true := fun h =>
    other fun e => by
      obtain ⟨rfl, rfl⟩ : page = _ ∧ o = _ := by simpa using e
      exact h
  obtain ⟨hwdl, hptp, hcst, hlwl, hcpc, hflt, hsec⟩ := isCounter_measured
  have hl : ¬ isLocal page = true := by
    unfold isLocal
    simp
    omega
  unfold State.shown
  extract_lets k
  rw [if_neg (by simp [hv]), if_neg hn, if_neg hl,
    if_neg (other fun e => isCounter_header page (Or.inl (of_decide_eq_true (Bool.and_eq_true_iff.mp e).2))),
    if_neg (other fun e => isCounter_header page (Or.inr (of_decide_eq_true (Bool.and_eq_true_iff.mp e).2))),
    if_neg (elsewhere hwdl), if_neg (elsewhere hptp), if_neg (other isCounter_launch), if_neg (other isCounter_laserPower),
    if_neg (elsewhere hcst), if_neg (elsewhere hlwl), if_neg (elsewhere hcpc), if_neg (elsewhere hflt),
    if_neg (elsewhere hsec)]
  split
  · rename_i hrc
    rw [State.readAt_of_quiet hq, mirrorOf_of_rc hrc]
  · rfl

/-- The snapshot copy stands in for a counter register, and its read changes nothing (R130). -/
theorem State.shown_view {s : State} {page o : Nat} (hc : isCounter page o = true) (hs : hasSnap page = true)
    (hv : s.bit page F.HDR_SNAP_CTL_VIEW = true) :
    s.shown page o = FMap.getD s.snaps (regKey page o) (regReset (regKey page o)) ∧ s.readEffect page o = s := by
  have h : (isCounter page o && hasSnap page && s.bit page F.HDR_SNAP_CTL_VIEW) = true := by simp [hc, hs, hv]
  exact ⟨if_pos h, if_pos h⟩

/-- Settles O36: a counter's read with VIEW at 1 and at 0. -/
theorem snapshotViewReadsTheCopy : Obligations.SnapshotViewReadsTheCopy := by
  refine ⟨?view, ?live⟩
  case view =>
    intro off page o s hp ho h4 hd hu hc hs hv
    obtain ⟨hshown, heffect⟩ := State.shown_view (s := s.readBegins off) hc hs hv
    refine ⟨_, execRcCounterRead_full hp ho h4 hd hu, ?_⟩
    rw [hshown, heffect]
    exact ⟨rfl, rfl⟩
  case live =>
    rintro off page o s w rfl hp ho h4 hd hu hc hn hv hq
    exact ⟨_, execRcCounterRead_full hp ho h4 hd hu,
      congrArg (fun v => [v]) (State.shown_live (s := s.readBegins off) hp hc hn hv hq)⟩

end Sys2Proof.Machine
end

section
/-!
PROOFS. Three refutations: a snapshot triggered in the clock of a read that clears a counter falls in the next clock (R138), the end
of FT_INIT closes objects on S5's page (R296, R302), and a command's write that no page answers is recorded on page GBL (R143).
-/

namespace Sys2Proof.Machine

open Sys2Proof

set_option Elab.async false

/-! ### A snapshot in the clock of a read -/

/-- A running count, where a full-width read at the first clock of a turn has cleared WDL_ANCHOR_LOSSES. -/
def counterJustRead : State :=
  (next? (exec (.rcCounterRead 0 0 0x001006C#26 [true, true, true, true])
    { State.reset with wdl := { State.reset.wdl with stopped := false } })).getD State.reset

/-- Page WDL answers, has snapshots, and TRIGGER reads 1 once SNAP_CTL is written. -/
theorem counterJustRead_triggers : (counterJustRead.at 0).dropCause 0x0010 = none ∧ hasSnap 0x0010 = true ∧
    ((counterJustRead.at 0).write 0x0010 0x030 ((0 : Word).withField 0 1 1)).bit 0x0010 F.HDR_SNAP_CTL_TRIGGER = true := by
  decide +kernel

/-- The snapshot is taken one clock after the read (R138, log entry 117). -/
theorem snapshotTrigger_counterJustRead : (counterJustRead.at 0).count = 0 ∧
    (next? (exec (.snapshotTrigger 0 0x0010#14 0) counterJustRead)).map (fun t => FMap.get? t.snapAt 0x0010) =
      some (some 1) := by decide +kernel

/-- Refutes O2: SNAPSHOT_TRIGGER takes its snapshot at the next count where a counter of the page has been read at this one. -/
theorem not_registerCommandsComplete : ¬ Obligations.RegisterCommandsComplete := by
  rintro ⟨-, -, -, -, -, -, -, -, snapshotTrigger, -⟩
  obtain ⟨hd, hs, ht⟩ := counterJustRead_triggers
  obtain ⟨hcount, hnext⟩ := snapshotTrigger_counterJustRead
  obtain ⟨t, hrun, hat, -⟩ := snapshotTrigger 0 0x0010#14 0 counterJustRead hd hs ht
  have h1 : FMap.get? t.snapAt 0x0010 = some 1 := by
    rw [hrun] at hnext
    exact Option.some.inj hnext
  have h0 : FMap.get? t.snapAt 0x0010 = some 0 := hcount ▸ hat
  exact absurd (h0.symm.trans h1) (by decide)

/-! ### The objects of the streams that FT_INIT ends -/

/-- FT_INIT is at work while a stream of P0, of the flow record in slot 0, has an object open. -/
def streamInTable : State :=
  (State.reset.setFld ftPage F.STG_FT_CTL_FT_INIT 1).pipeMap (fun p =>
    { p with streams := [(strmKey 0 0, { Strm.start 0 0 false with obj := some ⟨0, 0, 0, 0, 64, 1, 1, 0, 0, [1], false⟩ })] })

/-- The end of FT_INIT closes the object, whose last window S5 counts. -/
theorem ftInitDone_streamInTable : streamInTable.fld (Pg.stg 0 5) F.STG_CV_WINDOWS = 0 ∧
    (next? (exec (.ftInitDone 0) streamInTable)).map (fun t => t.fld (Pg.stg 0 5) F.STG_CV_WINDOWS) = some 1 := by
  decide +kernel

/-- Refutes O41: FT_INIT_DONE writes registers of S5, where a stream whose flow record it drops has an object open. -/
theorem not_lineCommandsStayOnTheirPages : ¬ Obligations.LineCommandsStayOnTheirPages := by
  rintro ⟨-, -, -, -, -, -, -, -, -, -, -, -, ftInitDone, -⟩
  obtain ⟨t, hrun, hreg⟩ := ftInitDone 0 streamInTable
  obtain ⟨hbefore, hafter⟩ := ftInitDone_streamInTable
  have h1 : t.fld (Pg.stg 0 5) F.STG_CV_WINDOWS = 1 := by
    rw [hrun] at hafter
    exact Option.some.inj hafter
  have h0 : t.fld (Pg.stg 0 5) F.STG_CV_WINDOWS = 0 := by
    unfold State.fld at hbefore ⊢
    rwa [hreg _ _ (by decide) (by decide)]
  exact absurd (h0.symm.trans h1) (by decide)

/-! ### A command's write to a page that does not answer -/

/-- The main domain restarts. -/
def restartingDomain : State := State.reset.setFld Pg.gbl F.GBL_STATUS_RESTARTING 1

/-- PART_GO where page 2 of CFG does not answer (R143). -/
theorem execPartGo_dropped {off c : Nat} {s : State} (h : (s.at off).dropCause (Pg.cfg 2) = some c) :
    execPartGo off s = .next ((s.at off).unmapped (Pg.cfg 2 * 4096 + 0x04C) c true) := by
  unfold execPartGo State.onPage
  rw [h]

/-- Refutes O42: PART_GO during a restart is recorded in GBL_UNMAPPED_ADDR. -/
theorem not_clockCommandsStayOnTheirPages : ¬ Obligations.ClockCommandsStayOnTheirPages := by
  rintro ⟨-, -, -, -, -, -, -, -, -, -, -, partGo, -⟩
  obtain ⟨t, hrun, hreg⟩ := partGo 0 restartingDomain
  have hdrop : (restartingDomain.at 0).dropCause (Pg.cfg 2) = some 2 := by decide +kernel
  obtain rfl := Host.Outcome.next.inj (hrun.symm.trans (execPartGo_dropped hdrop))
  have hsame := hreg Pg.gbl 0x054 (by decide) (by decide)
  rw [State.reg_unmapped_addr] at hsame
  exact absurd hsame (by decide +kernel)

end Sys2Proof.Machine
end

section
/-!
PROOFS. The page frame of memory, tiles, power and the endpoint (R100, R102): the registers that an operation leaves are those of
every page but the pages it names, the gathering pages and the local windows; one rule for each operation on the state, and from
them one for each command.
-/

namespace Sys2Proof.Machine

open Sys2Proof

set_option Elab.async false

/-- Every register reads as before but those of the pages `W`, of the pages that gather and of the local windows. -/
def Stays (W : Nat → Prop) (s t : State) : Prop :=
  ∀ p o, ¬ W p → Apart p → t.reg (regKey p o) = s.reg (regKey p o)

/-- A command completes, and the state it answers `Stays`. -/
def StaysOn (W : Nat → Prop) (s : State) (r : Result) : Prop :=
  ∃ t : State, r = .next t ∧ Stays W s t

/-! ### Operations -/

section
variable {W : Nat → Prop} {s t : State}

theorem Stays.refl (W : Nat → Prop) (s : State) : Stays W s s := fun _ _ _ _ => rfl

theorem Stays.at (W : Nat → Prop) (s : State) (n : Nat) : Stays W s (s.at n) := fun _ _ _ _ => State.reg_at _ _ _

/-- An operation that leaves the registers leaves the frame. -/
theorem Stays.same {u : State} (h : Stays W s t) (hu : u.regs = t.regs := by rfl) : Stays W s u := fun p o hp ha =>
  (State.reg_congr hu _).trans (h p o hp ha)

theorem Stays.emit (h : Stays W s t) (e : Emit) : Stays W s (t.emit e) := h.same

theorem Stays.pumpMap (h : Stays W s t) (f : Pumps → Pumps) : Stays W s (t.pumpMap f) := h.same

theorem Stays.ite {a b : State} {c : Prop} [Decidable c] (ha : Stays W s a) (hb : Stays W s b) :
    Stays W s (if c then a else b) := by split <;> assumption

theorem Stays.foldl {β : Type} {f : State → β → State} (l : List β) (hf : ∀ a x, Stays W s a → Stays W s (f a x))
    (h : Stays W s t) : Stays W s (l.foldl f t) := by
  induction l generalizing t with
  | nil => exact h
  | cons x l ih => exact ih (hf _ x h)

/-- A page of `W` is another page than the one read. -/
theorem ne_of_not_mem {q p : Nat} (hq : W q) (hp : ¬ W p) : p ≠ q := fun h => hp (h ▸ hq)

theorem Stays.setFld (h : Stays W s t) {q : Nat} (hq : W q) (f : Fld) (x : Nat) : Stays W s (t.setFld q f x) := fun p o hp ha =>
  (State.reg_setFld_page _ _ _ _ _ _ (ne_of_not_mem hq hp)).trans (h p o hp ha)

theorem Stays.incFld (h : Stays W s t) {q : Nat} (hq : W q) (f : Fld) (n : Nat := 1) : Stays W s (t.incFld q f n) :=
  fun p o hp ha =>
  (State.reg_incFld_page _ _ _ _ _ _ (ne_of_not_mem hq hp)).trans (h p o hp ha)

theorem Stays.raiseIrq (h : Stays W s t) {q : Nat} (hq : W q) (b : Nat) : Stays W s (t.raiseIrq q b) := fun p o hp ha =>
  (State.reg_raiseIrq_page _ _ _ _ _ (ne_of_not_mem hq hp) ha).trans (h p o hp ha)

theorem Stays.fail (h : Stays W s t) {q : Nat} (hq : W q) (r : Nat) : Stays W s (t.fail q r) := fun p o hp ha =>
  (State.reg_fail_page _ _ _ _ _ (ne_of_not_mem hq hp) ha).trans (h p o hp ha)

theorem Stays.transient (h : Stays W s t) {q : Nat} (hq : W q) : Stays W s (t.transient q) := fun p o hp ha =>
  (State.reg_transient_page _ _ _ _ (ne_of_not_mem hq hp) ha).trans (h p o hp ha)

theorem Stays.setSubRetired (h : Stays W s t) {q : Nat} (hq : W q) (b : Bool) :
    Stays W s (t.setSubRetired q b) := fun p o hp ha =>
  (State.reg_setSubRetired_page _ _ _ _ _ (ne_of_not_mem hq hp) ha).trans (h p o hp ha)

/-- A milestone is recorded on page GBL. -/
theorem Stays.milestone (h : Stays W s t) (hq : W Pg.gbl) (k : Nat) : Stays W s (t.milestone k) := by
  have hc : Stays W s t.clockM := h.same
  unfold State.milestone State.stampBoot
  exact h.ite (hc.ite ((hc.setFld hq _ _).setFld hq _ _))

/-! ### The network and the tiles -/

/-- An entry is counted on the page of its router and, from a mesh port, on that port's page. -/
theorem Stays.entryCounted (h : Stays W s t) {r : Nat} (hr : W (Pg.tnw r)) (hf : ∀ n, W (Pg.fab (meshPort n))) (i : Nat)
    (p : Packet) : Stays W s (t.entryCounted r i p) := by
  unfold State.entryCounted
  split
  · exact ((h.incFld hr _ _).incFld (hf _) _ _).ite (h.incFld hr _ _)
  · exact h.ite h.same

theorem Stays.crossOne (h : Stays W s t) (r i vc : Nat) : Stays W s (State.crossOne r i vc t) := by
  unfold State.crossOne
  split
  · exact Stays.ite h.same h
  · exact h

theorem Stays.cross (h : Stays W s t) (r i vc : Nat) : Stays W s (t.cross r i vc) :=
  h.foldl _ fun _ _ ha => ha.crossOne r i vc

theorem Stays.enterOne (h : Stays W s t) {r : Nat} (hr : W (Pg.tnw r)) (hf : ∀ n, W (Pg.fab (meshPort n))) (i vc : Nat) :
    Stays W s (State.enterOne r i vc t) := by
  unfold State.enterOne
  split
  · next p rest _ =>
    have h0 : Stays W s (t.setOffered r i vc rest) := h.same
    have h1 := h0.entryCounted hr hf i p
    exact Stays.ite (Stays.ite h1.same h) (Stays.ite h1.same h)
  · exact h

theorem Stays.enterAll (h : Stays W s t) {r : Nat} (hr : W (Pg.tnw r)) (hf : ∀ n, W (Pg.fab (meshPort n))) (i vc : Nat) :
    Stays W s (t.enterAll r i vc) :=
  h.foldl _ fun _ _ ha => ha.enterOne hr hf i vc

/-- A packet taken from a router's queue lets others cross and enter there. -/
theorem Stays.takePacket (h : Stays W s t) {r : Nat} (hr : W (Pg.tnw r)) (hf : ∀ n, W (Pg.fab (meshPort n))) (i vc : Nat) :
    Stays W s (t.takePacket r i vc) := by
  have h1 : Stays W s (t.setNetQueue r i vc (onHead (fun h => { h with since := t.count }) (t.netQueue r i vc).tail)) := h.same
  exact (((h1.cross r i vc).enterAll hr hf i vc).cross r i vc).enterAll hr hf i vc

theorem Stays.startOp (h : Stays W s t) {n : Nat} (hq : W (Pg.tile n)) (slot : Nat) (batch : Option Nat) (index : Nat) :
    Stays W s (t.startOp n slot batch index) :=
  (Stays.setFld (Stays.same h) hq _ _).setFld hq _ _

theorem Stays.trigger (h : Stays W s t) {n : Nat} (hq : W (Pg.tile n)) (slot : Nat) (batch : Option Nat) :
    Stays W s (t.trigger n slot batch) :=
  h.ite ((h.startOp hq _ _ _).ite h.same)

theorem Stays.triggerMode (h : Stays W s t) {n : Nat} (hq : W (Pg.tile n)) (mode : Nat) (batch : Option Nat) :
    Stays W s (t.triggerMode n mode batch) :=
  h.foldl _ fun _ k ha => ha.trigger hq k batch

/-! ### Power and the endpoint -/

theorem Stays.cycleEnd (h : Stays W s t) (hq : W Pg.pwr) : Stays W s t.cycleEnd := (h.setFld hq F.PWR_PM_POWER _).same

theorem Stays.syncAvail (h : Stays W s t) (hq : W Pg.pwr) : Stays W s t.syncAvail :=
  h.ite ((h.setFld hq _ _).raiseIrq hq _)

theorem Stays.syncTagGauge (h : Stays W s t) (hq : W (Pg.pci 0)) : Stays W s t.syncTagGauge := h.setFld hq _ _

theorem Stays.freeEntry (h : Stays W s t) (hq : W (Pg.pci 0)) (tag : Nat) : Stays W s (t.freeEntry tag) :=
  Stays.syncTagGauge h.same hq

theorem Stays.endDesc (h : Stays W s t) (e : TagEntry) (status : Nat) : Stays W s (t.endDesc e status) := by
  unfold State.endDesc
  split
  · exact h.same
  · exact h

theorem Stays.setCfgReady (h : Stays W s t) (hq : W (Pg.pci 0)) (hg : W Pg.gbl) : Stays W s t.setCfgReady :=
  ((h.setFld hq _ _).setFld hq _ _).milestone hg 5

/-! ### Results -/

theorem Stays.next (h : Stays W s t) : StaysOn W s (.next t) := ⟨t, rfl, h⟩

theorem StaysOn.ite {a b : Result} {c : Prop} [Decidable c] (ha : StaysOn W s a) (hb : StaysOn W s b) :
    StaysOn W s (if c then a else b) := by split <;> assumption

end

/-! ### Commands of the memory controllers -/

theorem execDimmThermal_stays (off : Nat) (c : Fin 8) (temp : BitVec 16) (s : State) :
    StaysOn (· = Pg.dmc c.val) s (execDimmThermal off c temp s) := by
  have h1 := (Stays.at (· = Pg.dmc c.val) s off).setFld rfl F.DMC_TEMP_b0 temp.toNat
  exact (h1.raiseIrq rfl 6).same.next.ite (h1.same.next.ite h1.next)

theorem execDmcFault_stays (off : Nat) (c : Fin 8) (parity : Bool) (s : State) :
    StaysOn (· = Pg.dmc c.val) s (execDmcFault off c parity s) := by
  have h0 := Stays.at (· = Pg.dmc c.val) s off
  have h1 := ((h0.incFld rfl F.DMC_TEMP_CA).raiseIrq rfl 5).setFld rfl F.DMC_LAST_ERR_b24 3
  exact StaysOn.ite (Stays.next (Stays.ite (Stays.fail h1.same rfl _) h1.same)) (h0.fail rfl _).next

theorem execRowCopyDone_stays (off : Nat) (c : Fin 8) (lost : List (Fin 128)) (s : State) :
    StaysOn (· = Pg.dmc c.val) s (execRowCopyDone off c lost s) := by
  have h0 := Stays.at (· = Pg.dmc c.val) s off
  unfold execRowCopyDone
  dsimp only
  split
  · exact h0.next
  · exact (((Stays.same h0).setFld rfl _ _).setSubRetired rfl _).next.ite (Stays.same h0).next

/-! ### Commands of the network and the tiles -/

/-- The pages that a packet taken at router `r` is counted on. -/
def NetPages (r p : Nat) : Prop := p = Pg.tnw r ∨ ∃ n, p = Pg.fab (meshPort n)

theorem execGtsDrop_stays (off : Nat) (r : Fin 128) (o i : Fin 5) (s : State) :
    StaysOn (NetPages r.val) s (execGtsDrop off r o i s) := by
  have h0 := Stays.at (NetPages r.val) s off
  have hr : NetPages r.val (Pg.tnw r.val) := .inl rfl
  unfold execGtsDrop
  dsimp only
  split
  · exact (((h0.takePacket hr (fun n => .inr ⟨n, rfl⟩) _ _).incFld hr _).raiseIrq hr _).next.ite h0.next
  · exact h0.next

theorem execLinkEccError_stays (off : Nat) (r : Fin 128) (i : Fin 5) (vc : Fin 4) (corrected : Bool) (s : State) :
    StaysOn (· = Pg.tnw r.val) s (execLinkEccError off r i vc corrected s) := by
  have h0 := Stays.at (· = Pg.tnw r.val) s off
  exact (((h0.incFld rfl _).raiseIrq rfl _).transient rfl).next.ite (((Stays.same h0).incFld rfl _).raiseIrq rfl _).next

theorem execTurnTickTrigger_stays (n : Fin 128) (s : State) :
    StaysOn (· = Pg.tile n.val) s (execTurnTickTrigger n s) :=
  have h0 := Stays.refl (· = Pg.tile n.val) s
  (h0.triggerMode rfl 2 none).next.ite h0.next

theorem execBatchPacket_stays (off : Nat) (n : Fin 128) (s : State) :
    StaysOn (· = Pg.tile n.val) s (execBatchPacket off n s) := by
  have h0 := Stays.at (· = Pg.tile n.val) s off
  unfold execBatchPacket
  dsimp only
  split
  · exact h0.next
  · exact Stays.next (Stays.ite (Stays.trigger (Stays.same h0) rfl _ _) h0.same)

theorem execSettleEnd_stays (off : Nat) (s : State) : StaysOn (· = Pg.lwl 0) s (execSettleEnd off s) := by
  have h0 := Stays.at (· = Pg.lwl 0) s off
  exact (h0.setFld rfl F.LWL_STATUS_LSTATE LS.running).next.ite h0.next

theorem execCreditReturn_stays (off : Nat) (n : Fin 96) (s : State) : StaysOn (fun _ => False) s (execCreditReturn off n s) :=
  (Stays.at _ s off).same.next

/-! ### Commands of power -/

theorem execPmbusPoll_stays (off : Nat) (r : Fin 8) (first retry : Option (BitVec 16)) (s : State) :
    StaysOn (· = Pg.pwr) s (execPmbusPoll off r first retry s) := by
  have h0 := Stays.at (· = Pg.pwr) s off
  unfold execPmbusPoll
  extract_lets s0 g sa s1 s3 n s4 s2
  have ha : Stays (· = Pg.pwr) s sa := h0.same
  have h1 : Stays (· = Pg.pwr) s s1 := (((Stays.same ha).incFld rfl _).raiseIrq rfl _).ite ha
  have h2 : Stays (· = Pg.pwr) s s2 := by
    unfold s2
    split
    · exact ((h1.setFld rfl _ _).setFld rfl _ _).setFld rfl _ _
    · have h4 : Stays (· = Pg.pwr) s s4 := (h1.incFld rfl _).setFld rfl _ _
      exact Stays.ite ((h4.setFld rfl _ _).raiseIrq rfl _).same h4
  exact h0.next.ite ((h2.cycleEnd rfl).ite h2).next

theorem execPoutMaxRead_stays (off : Nat) (maxes : List (Fin 8 × BitVec 16)) (s : State) :
    StaysOn (· = Pg.pwr) s (execPoutMaxRead off maxes s) := by
  have h0 := Stays.at (· = Pg.pwr) s off
  unfold execPoutMaxRead
  extract_lets s0 due s1
  have h1 : Stays (· = Pg.pwr) s s1 := h0.foldl _ fun _ _ ha => Stays.setFld ha.same rfl _ _
  exact h0.next.ite ((h1.ite h1.same).syncAvail rfl).next

theorem execThermalSample_stays (off : Nat) (temps : List (BitVec 16)) (s : State) :
    StaysOn (· = Pg.pwr) s (execThermalSample off temps s) := by
  unfold execThermalSample
  extract_lets s0 s1 hotter m s2 cool
  have h1 : Stays (· = Pg.pwr) s s1 := (Stays.at _ s off).foldl _ fun _ _ ha => ha.setFld rfl _ _
  have h2 : Stays (· = Pg.pwr) s s2 := (h1.setFld rfl _ _).setFld rfl _ _
  exact h2.same.next

/-- The pages of the Ledger and of power. -/
def LedgerPages (p : Nat) : Prop := p = Pg.nrg ∨ p = Pg.pwr

theorem execMeasurementWindowClose_stays (off : Nat) (s : State) : StaysOn LedgerPages s (execMeasurementWindowClose off s) := by
  have h0 := Stays.at LedgerPages s off
  unfold execMeasurementWindowClose
  extract_lets s0 e tot n uj s1 s2
  have h1 : Stays LedgerPages s s1 := h0.same
  have h2 : Stays LedgerPages s s2 := (h1.setFld (.inl rfl) _ _).setFld (.inl rfl) _ _
  exact h0.next.ite ((h2.setFld (.inr rfl) _ _).setFld (.inr rfl) _ _).next

theorem execLedgerFault_stays (off : Nat) (s : State) : StaysOn (· = Pg.nrg) s (execLedgerFault off s) :=
  ((Stays.at (· = Pg.nrg) s off).fail rfl _).next

/-! ### Commands of the endpoint -/

theorem execLtssmRecovery_stays (off : Nat) (enter : Bool) (s : State) :
    StaysOn (· = Pg.pci 0) s (execLtssmRecovery off enter s) := by
  have h0 := Stays.at (· = Pg.pci 0) s off
  exact h0.next.ite ((Stays.incFld (Stays.same h0) rfl _).next.ite h0.same.next)

theorem execHostInternalError_stays (off : Nat) (s : State) : StaysOn (· = Pg.pci 0) s (execHostInternalError off s) :=
  (((Stays.at (· = Pg.pci 0) s off).fail rfl _).emit .errFatal).same.next

theorem execCompletionTimeout_stays (off : Nat) (tag : BitVec 10) (us : Nat) (s : State) :
    StaysOn (· = Pg.pci 0) s (execCompletionTimeout off tag us s) := by
  have h0 := Stays.at (· = Pg.pci 0) s off
  have hf := h0.freeEntry rfl tag.toNat
  unfold execCompletionTimeout
  dsimp only
  split
  · exact h0.next
  · refine h0.next.ite (hf.next.ite ?_)
    split
    · exact hf.next
    · exact ((((((hf.pumpMap _).syncTagGauge rfl).emit _).incFld rfl _).emit _).raiseIrq rfl _).next.ite
        ((((hf.endDesc _ _).incFld rfl _).emit _).raiseIrq rfl _).next

theorem execPoisonedTlp_stays (off : Nat) (tag : BitVec 10) (poisoned : Bool) (s : State) :
    StaysOn (· = Pg.pci 0) s (execPoisonedTlp off tag poisoned s) := by
  have h0 := Stays.at (· = Pg.pci 0) s off
  have hf := h0.freeEntry rfl tag.toNat
  unfold execPoisonedTlp
  dsimp only
  split
  · exact (h0.incFld rfl _).next
  · exact ((((hf.incFld rfl _).raiseIrq rfl _).emit _).endDesc _ _).next.ite (hf.incFld rfl _).next

theorem execPcieLinkUp_stays (off : Nat) (speed width : Fin 5) (s : State) :
    StaysOn (· = Pg.pci 0) s (execPcieLinkUp off speed width s) := by
  have h0 := Stays.at (· = Pg.pci 0) s off
  exact h0.next.ite (((h0.setFld rfl _ _).setFld rfl _ _).setFld rfl _ _).next

/-- The page of the endpoint and the page that milestones are recorded on. -/
def ReadyPages (p : Nat) : Prop := p = Pg.pci 0 ∨ p = Pg.gbl

theorem execPerstDeassert_stays (off : Nat) (s : State) : StaysOn ReadyPages s (execPerstDeassert off s) := by
  have h0 := Stays.at ReadyPages s off
  exact h0.next.ite (Stays.next (Stays.ite (Stays.setCfgReady (Stays.same h0) (.inl rfl) (.inr rfl)) h0.same))

theorem execCfgReadyTimeout_stays (off : Nat) (s : State) : StaysOn ReadyPages s (execCfgReadyTimeout off s) := by
  have h0 := Stays.at ReadyPages s off
  exact Stays.next (h0.ite (h0.setCfgReady (.inl rfl) (.inr rfl)))

/-! ### The statement -/

/-- Settles O43: each command is a chain of operations, and each of them writes the pages of its own unit only. -/
theorem hostCommandsStayOnTheirPages : Obligations.HostCommandsStayOnTheirPages := by
  unfold Obligations.HostCommandsStayOnTheirPages
  refine ⟨execDimmThermal_stays, execDmcFault_stays, execRowCopyDone_stays, fun off r o i s => ?_, execLinkEccError_stays,
    execTurnTickTrigger_stays, execBatchPacket_stays, execSettleEnd_stays, execPmbusPoll_stays, execPoutMaxRead_stays,
    execThermalSample_stays, fun off s => ?_, execLedgerFault_stays, execLtssmRecovery_stays, execHostInternalError_stays,
    execCompletionTimeout_stays, execPoisonedTlp_stays, execPcieLinkUp_stays, fun off s => ?_, fun off s => ?_, fun off n s => ?_⟩
  · obtain ⟨t, ht, k⟩ := execGtsDrop_stays off r o i s
    exact ⟨t, ht, fun p o h1 h2 => k p o fun h => h.elim h1 fun ⟨n, e⟩ => h2 n e⟩
  · obtain ⟨t, ht, k⟩ := execMeasurementWindowClose_stays off s
    exact ⟨t, ht, fun p o h1 h2 => k p o (not_or.mpr ⟨h1, h2⟩)⟩
  · obtain ⟨t, ht, k⟩ := execPerstDeassert_stays off s
    exact ⟨t, ht, fun p o h1 h2 => k p o (not_or.mpr ⟨h1, h2⟩)⟩
  · obtain ⟨t, ht, k⟩ := execCfgReadyTimeout_stays off s
    exact ⟨t, ht, fun p o h1 h2 => k p o (not_or.mpr ⟨h1, h2⟩)⟩
  · obtain ⟨t, ht, k⟩ := execCreditReturn_stays off n s
    exact ⟨t, ht, fun p o => k p o id⟩

end Sys2Proof.Machine
end

section
/-!
PROOFS. Serial lanes (R151 to R199): a lane's own state and the registers of its page, and what the plain operations
of a lane leave of them.
-/

namespace Sys2Proof.Machine

open Sys2Proof

/-! ### A lane's own state -/

/-- A lane's own state depends on the lanes alone. -/
theorem State.lane_congr {s t : State} (h : t.lanes = s.lanes) (l : Nat) : t.lane l = s.lane l := by
  unfold State.lane
  rw [h]

@[simp] theorem State.lane_setLane_self (s : State) (l : Nat) (x : Lane) : (s.setLane l x).lane l = x :=
  (FMap.getD_setC_const s.lanes Lane.fresh l x l).trans (if_pos rfl)

@[simp] theorem State.lane_codeMap_self (s : State) (l : Nat) (g : Coder → Coder) :
    (s.codeMap l g).lane l = { s.lane l with code := g (s.lane l).code } :=
  State.lane_setLane_self _ _ _

@[simp] theorem State.lane_setLstate (s : State) (l v k : Nat) : (s.setLstate l v).lane k = s.lane k := rfl

@[simp] theorem State.lane_emit (s : State) (e : Emit) (l : Nat) : (s.emit e).lane l = s.lane l := rfl

@[simp] theorem State.lane_at (s : State) (off l : Nat) : (s.at off).lane l = s.lane l :=
  State.lane_congr (State.at_lanes s off) l

/-! ### A lane's registers -/

@[simp] theorem State.fld_setLane (s : State) (l : Nat) (x : Lane) (p : Nat) (f : Fld) :
    (s.setLane l x).fld p f = s.fld p f := rfl

@[simp] theorem State.fld_codeMap (s : State) (l : Nat) (g : Coder → Coder) (p : Nat) (f : Fld) :
    (s.codeMap l g).fld p f = s.fld p f := rfl

@[simp] theorem State.fld_sendBits (s : State) (l : Nat) (b : Block) (p : Nat) (f : Fld) :
    (s.sendBits l b).fld p f = s.fld p f := rfl

@[simp] theorem State.fld_sendTraining (s : State) (l p : Nat) (f : Fld) : (s.sendTraining l).fld p f = s.fld p f := rfl

/-- A field that has none of the bits `lo` to `hi - 1` of LAN_STATUS. -/
abbrev BesideStatus (f : Fld) (lo hi : Nat) : Prop := f.off < 4096 ∧ (f.off ≠ 0x044 ∨ f.lo + f.w ≤ lo ∨ hi ≤ f.lo)

/-- A field of LAN_STATUS set leaves the registers and the bits beside it. -/
theorem State.fld_setStatus (s : State) (q lo w x p : Nat) (f : Fld) (h : BesideStatus f lo (lo + w)) :
    (s.setFld q ⟨0x044, lo, w⟩ x).fld p f = s.fld p f := by
  obtain ⟨ho, hoff | hbits⟩ := h
  · exact State.fld_setFld_off s q ⟨0x044, lo, w⟩ x p f (by show 0x044 < 4096; decide) ho hoff
  · exact State.fld_setFld_bits s q ⟨0x044, lo, w⟩ x p f hbits

/-- TSTATE set leaves the other registers and the bits of LAN_STATUS beside it. -/
theorem State.fld_setLstate (s : State) (l v p : Nat) (f : Fld) (h : BesideStatus f 6 10) :
    (s.setLstate l v).fld p f = s.fld p f := State.fld_setStatus s _ 6 4 v p f h

/-- The state a lane was put into reads back. -/
theorem State.lstate_setLstate (s : State) (l : Nat) {v : Nat} (h : v < 16) : (s.setLstate l v).lstate l = v :=
  (State.fld_setFld_self _ _ _ _ (by decide)).trans (Nat.mod_eq_of_lt h)

/-- Blocks given up leave the other registers and the bits of LAN_STATUS beside CODE_LOCK (R162). -/
theorem State.fld_unlock (s : State) (l p : Nat) (f : Fld) (h : BesideStatus f 5 6) : (s.unlock l).fld p f = s.fld p f := by
  unfold State.unlock
  split
  · exact State.fld_setStatus s _ 5 1 0 p f h
  · rfl

theorem State.lstate_at (s : State) (off l : Nat) : (s.at off).lstate l = s.lstate l := s.fld_at off _ _

theorem State.sig_at (s : State) (off l : Nat) : (s.at off).sig l = s.sig l := s.bit_at off _ _

theorem State.bit_congr {s t : State} {p : Nat} {f : Fld} (h : t.fld p f = s.fld p f) : t.bit p f = s.bit p f := by
  unfold State.bit
  rw [h]

/-- A bit that was set reads back. -/
theorem State.bit_setFld_self (s : State) (p : Nat) {f : Fld} (b : Bool) (hw : f.w = 1) (h : f.lo < 32) :
    (s.setFld p f (bitOf b)).bit p f = b := by
  unfold State.bit
  rw [State.fld_setFld_self _ _ _ _ (by omega), hw]
  cases b <;> rfl

end Sys2Proof.Machine
end

section
/-!
PROOFS. The training of a serial lane (Table LAN-7, R162 to R180): how an attempt begins and fails, what signal and its loss do,
and from them a law for each command of training.
-/

namespace Sys2Proof.Machine

open Sys2Proof

/-! ### Attempts (R174, R177, R178) -/

/-- NO_PARTNER entered leaves the registers beside TSTATE and the causes. -/
theorem State.fld_laneNoPartner (s : State) (l p : Nat) (f : Fld) (h : BesideStatus f 6 10)
    (hf : f.off ≠ 0x020 ∧ f.off ≠ 0x240) : (s.laneNoPartner l).fld p f = s.fld p f :=
  (State.fld_raiseIrq _ _ _ _ _ h.1 hf.1 hf.2).trans (State.fld_setLstate _ _ _ _ _ h)

theorem State.lstate_laneNoPartner (s : State) (l : Nat) : (s.laneNoPartner l).lstate l = L.noPartner :=
  (State.fld_raiseIrq _ _ _ _ _ (by decide) (by decide) (by decide)).trans (State.lstate_setLstate s l (by decide))

theorem txPreset_lt (n : Nat) : txPreset n < 2 ^ 21 := by
  unfold txPreset
  split <;> decide

/-- An attempt of a lane with signal begins at frame lock, is counted, and takes the taps of the preset in force (R174). -/
theorem State.laneAttempt_starts {s : State} {l : Nat} (h : s.sig l = true) : (s.laneAttempt l).lstate l = L.frameLock ∧
    (s.laneAttempt l).fld (Pg.lan l) F.LAN_STATUS_SIG_DET = s.fld (Pg.lan l) F.LAN_STATUS_SIG_DET ∧
    (s.laneAttempt l).fld (Pg.lan l) F.LAN_STATUS_ATTEMPT = min (s.fld (Pg.lan l) F.LAN_STATUS_ATTEMPT + 1) 15 ∧
    (s.laneAttempt l).fld (Pg.lan l) F.LAN_TX_NOW = txPreset (s.inForce (Pg.lan l) F.LAN_CFG_INIT_PRESET) := by
  unfold State.laneAttempt
  rw [if_pos h]
  dsimp only
  refine ⟨?state, ?signal, ?attempt, ?taps⟩
  case state =>
    rw [State.lstate, State.fld_setLane, State.fld_unlock _ _ _ _ (by decide),
      State.fld_setFld_off _ _ _ _ _ _ (by decide) (by decide) (by decide)]
    exact State.lstate_setLstate _ _ (by decide)
  case signal =>
    simp (disch := decide) only [State.fld_setLane, State.fld_unlock, State.fld_setFld_off, State.fld_setLstate,
      State.fld_incFld_off, State.fld_incFld_bits]
  case attempt =>
    simp (disch := decide) only [State.fld_setLane, State.fld_unlock, State.fld_setFld_off, State.fld_setLstate,
      State.fld_incFld_off, State.fld_incFld_self]
    rfl
  case taps =>
    simp (disch := decide) only [State.fld_setLane, State.fld_unlock, State.fld_setFld_self]
    exact Nat.mod_eq_of_lt (txPreset_lt _)

/-- A new cycle of a lane with signal begins with its first attempt (R178). -/
theorem State.laneCycle_starts {s : State} {l : Nat} (h : s.sig l = true) : (s.laneCycle l).lstate l = L.frameLock ∧
    (s.laneCycle l).sig l = true ∧ (s.laneCycle l).fld (Pg.lan l) F.LAN_STATUS_ATTEMPT = 1 := by
  have hs : (s.setFld (Pg.lan l) F.LAN_STATUS_ATTEMPT 0).sig l = s.sig l :=
    State.bit_congr (State.fld_setFld_bits _ _ _ _ _ _ (by decide))
  obtain ⟨hstate, hsig, hattempt, -⟩ := State.laneAttempt_starts (hs.trans h)
  refine ⟨hstate, ((State.bit_congr hsig).trans hs).trans h, hattempt.trans ?_⟩
  rw [State.fld_setFld_self _ _ _ _ (by decide)]
  rfl

/-- A failed attempt is in BACKOFF, or in NO_PARTNER after the eighth, with its cause (R177). -/
theorem State.laneFail_shows (s : State) (l : Nat) {cause : Nat} (h : cause < 16) : (s.laneFail l cause).lstate l =
      (if 8 ≤ s.fld (Pg.lan l) F.LAN_STATUS_ATTEMPT then L.noPartner else L.backoff) ∧
    (s.laneFail l cause).fld (Pg.lan l) F.LAN_STATUS_LAST_FAIL = cause := by
  unfold State.laneFail
  extract_lets s1
  have hattempt : s1.fld (Pg.lan l) F.LAN_STATUS_ATTEMPT = s.fld (Pg.lan l) F.LAN_STATUS_ATTEMPT := by
    simp (disch := decide) only [s1, State.fld_raiseIrq, State.fld_incFld_off, State.fld_setFld_bits]
  have hcause : s1.fld (Pg.lan l) F.LAN_STATUS_LAST_FAIL = cause := by
    simp (disch := decide) only [s1, State.fld_raiseIrq, State.fld_incFld_off, State.fld_setFld_self]
    exact Nat.mod_eq_of_lt h
  rw [hattempt]
  split
  · exact ⟨State.lstate_laneNoPartner _ _, (State.fld_laneNoPartner _ _ _ _ (by decide) (by decide)).trans hcause⟩
  · exact ⟨State.lstate_setLstate _ _ (by decide), (State.fld_setLstate _ _ _ _ _ (by decide)).trans hcause⟩

/-! ### Signal (R178, R179) -/

/-- The Ryuklin lanes are lanes 32 to 159 (R148). -/
theorem isRyk_range {l : Nat} (h : isRyk l = true) : 32 ≤ l ∧ l < 160 := by
  simpa [isRyk] using h

/-- Signal on a Ryuklin lane that waits for it begins a new cycle of attempts. -/
theorem State.signalRise_waiting {s : State} {l : Nat} (hr : isRyk l = true)
    (h : s.lstate l = L.waitSignal ∨ s.lstate l = L.noPartner) :
    s.signalRise l = (s.setFld (Pg.lan l) F.LAN_STATUS_SIG_DET 1).laneCycle l := by
  have hl : ¬ l < 32 := by have := isRyk_range hr; omega
  have hs : (s.setFld (Pg.lan l) F.LAN_STATUS_SIG_DET 1).lstate l = s.lstate l :=
    State.fld_setFld_bits _ _ _ _ _ _ (by decide)
  unfold State.signalRise
  dsimp only
  rw [if_neg hl, if_pos (by simpa [hr, hs] using h)]

/-- Signal lost while a Ryuklin lane trains: the attempt has failed, cause 7, and the lane has no partner (R179, R190). -/
theorem State.signalLoss_training {s : State} {l : Nat} (hr : isRyk l = true) (h : s.lstate l = L.train) : s.signalLoss l =
    (((((s.setFld (Pg.lan l) F.LAN_STATUS_SIG_DET 0).raiseIrq (Pg.lan l) 0).setFld (Pg.lan l) F.LAN_STATUS_LAST_FAIL 7).incFld
      (Pg.lan l) F.LAN_ATTEMPTS_b16).raiseIrq (Pg.lan l) 3).laneNoPartner l := by
  have hl : ¬ l < 32 := by have := isRyk_range hr; omega
  have hs : ((s.setFld (Pg.lan l) F.LAN_STATUS_SIG_DET 0).raiseIrq (Pg.lan l) 0).lstate l = L.train := by
    rw [← h]
    unfold State.lstate
    simp (disch := decide) only [State.fld_raiseIrq, State.fld_setFld_bits]
  unfold State.signalLoss
  dsimp only
  rw [if_neg hl, if_pos hr, hs]
  rfl

theorem State.signalLoss_shows {s : State} {l : Nat} (hr : isRyk l = true) (h : s.lstate l = L.train) :
    (s.signalLoss l).lstate l = L.noPartner ∧ (s.signalLoss l).sig l = false ∧
    (s.signalLoss l).fld (Pg.lan l) F.LAN_STATUS_LAST_FAIL = 7 := by
  rw [State.signalLoss_training hr h]
  refine ⟨State.lstate_laneNoPartner _ _, ?signal, ?cause⟩
  case signal =>
    unfold State.sig State.bit
    simp (disch := decide) only [State.fld_laneNoPartner, State.fld_raiseIrq, State.fld_incFld_off, State.fld_setFld_bits,
      State.fld_setFld_self]
    rfl
  case cause =>
    simp (disch := decide) only [State.fld_laneNoPartner, State.fld_raiseIrq, State.fld_incFld_off, State.fld_setFld_self]
    rfl

/-! ### The commands of training -/

/-- A lane's command goes on with its link after it. -/
theorem thenLinked_of_next {l : Nat} {r : Result} {t : State} (h : r = .next t) :
    thenLinked l r = .next (t.lanesFollow l) := by
  rw [h]
  rfl

section

variable {s : State} {l : LaneIx} (off : Nat)

/-- Signal on a waiting lane (R178). -/
theorem execSignalDetectRise_cycles (hr : isRyk l.val = true) (hs : s.sig l.val = false) (ho : s.opticalLane l.val = false)
    (h : s.lstate l.val = L.waitSignal ∨ s.lstate l.val = L.noPartner) :
    ∃ t : State, execSignalDetectRise off l s = .next (t.lanesFollow l.val) ∧ t.lstate l.val = L.frameLock ∧
      t.sig l.val = true ∧ t.fld (Pg.lan l.val) F.LAN_STATUS_ATTEMPT = 1 := by
  have hl : l.val ≠ 163 := by have := isRyk_range hr; omega
  have hsig : ((s.at off).setFld (Pg.lan l.val) F.LAN_STATUS_SIG_DET 1).sig l.val = true :=
    State.bit_setFld_self _ _ true rfl (by decide)
  refine ⟨_, thenLinked_of_next (congrArg Host.Outcome.next (if_neg (by simp [hs, hl, ho]))), ?_⟩
  rw [State.signalRise_waiting hr (by rwa [State.lstate_at])]
  exact State.laneCycle_starts hsig

/-- Signal lost in TRAIN (R179, R190). -/
theorem execLossOfSignal_ends (hr : isRyk l.val = true) (hs : s.sig l.val = true) (ho : s.opticalLane l.val = false)
    (h : s.lstate l.val = L.train) :
    ∃ t : State, execLossOfSignal off l s = .next (t.lanesFollow l.val) ∧ t.lstate l.val = L.noPartner ∧
      t.sig l.val = false ∧ t.fld (Pg.lan l.val) F.LAN_STATUS_LAST_FAIL = 7 :=
  ⟨_, thenLinked_of_next (congrArg Host.Outcome.next (if_pos (by simp [hs, ho]))),
    State.signalLoss_shows hr ((s.lstate_at off _).trans h)⟩

/-- The third marker in a row gives frame lock (R170). -/
theorem Lane.marker_third {x : Lane} (h : x.markers = 2) : (x.marker true).frameLock = true := by
  simp [Lane.marker, h]

/-- Frame lock takes a lane on from FRAME_LOCK to TRAIN (Table LAN-7). -/
theorem State.laneFrame_locks {s : State} {l : Nat} (hm : (s.lane l).markers = 2) (h : s.lstate l = L.frameLock) :
    s.laneFrame l true = (s.setLane l ((s.lane l).marker true)).setLstate l L.train := by
  have hs : (s.setLane l ((s.lane l).marker true)).lstate l = L.frameLock := h
  unfold State.laneFrame
  dsimp only
  rw [State.lane_setLane_self, if_pos (Lane.marker_third hm), if_pos hs]

/-- A training frame sent leaves frame lock. -/
theorem State.sendTraining_frameLock (s : State) (l : Nat) : ((s.sendTraining l).lane l).frameLock = (s.lane l).frameLock := by
  unfold State.sendTraining
  simp

/-- The third marker in a row, in a frame whose word is not valid (R169, R170). -/
theorem execTrainingWordRx_locks (marker : BitVec 64) (word : BitVec 40) (ask : BitVec 9) (hr : isRyk l.val = true)
    (h : s.lstate l.val = L.frameLock) (hm : (s.lane l.val).markers = 2)
    (hk : (if s.rxInverted l.val then ~~~marker else marker) = trainMarker)
    (hw : wordValid (if s.rxInverted l.val then ~~~word else word) = false) :
    ∃ t : State, execTrainingWordRx off l marker word false ask s = .next (t.lanesFollow l.val) ∧
      t.lstate l.val = L.train ∧ (t.lane l.val).frameLock = true := by
  obtain ⟨u, hu⟩ : ∃ u, u = ((s.at off).setLane l.val ((s.lane l.val).marker true)).setLstate l.val L.train := ⟨_, rfl⟩
  have hf : (s.at off).laneFrame l.val (decide ((if s.rxInverted l.val then ~~~marker else marker) = trainMarker)) = u := by
    rw [hk, decide_eq_true rfl, State.laneFrame_locks (by rwa [State.lane_at]) (by rwa [State.lstate_at]), State.lane_at, hu]
  have hlock : (u.lane l.val).frameLock = true := by
    rw [hu, State.lane_setLstate, State.lane_setLane_self]
    exact Lane.marker_third hm
  have hstate : u.lstate l.val = L.train := by
    rw [hu]
    exact State.lstate_setLstate _ _ (by decide)
  refine ⟨(((u.incFld (Pg.lan l.val) F.LAN_TRAIN_BAD).setLane l.val { u.lane l.val with gotReady := 0 }).sendTraining l.val),
    thenLinked_of_next ?run, ?state, ?lock⟩
  case run =>
    rw [if_pos (by simp [hr, h, State.inTraining, L.frameLock]), if_neg (by rw [h]; decide), hf, hlock, hw]
    rfl
  case state =>
    rw [← hstate]
    unfold State.lstate
    simp (disch := decide) only [State.fld_sendTraining, State.fld_setLane, State.fld_incFld_off]
  case lock => rw [State.sendTraining_frameLock, State.lane_setLane_self]; exact hlock

/-- An attempt late in TRAIN (R177). -/
theorem execTrainingAttemptTimeout_fails (h : s.lstate l.val = L.train) :
    ∃ t : State, execTrainingAttemptTimeout off l s = .next (t.lanesFollow l.val) ∧ t.lstate l.val =
      (if 8 ≤ s.fld (Pg.lan l.val) F.LAN_STATUS_ATTEMPT then L.noPartner else L.backoff) ∧
      t.fld (Pg.lan l.val) F.LAN_STATUS_LAST_FAIL = 2 := by
  have hc : s.lateCause l.val = 2 := by
    unfold State.lateCause
    rw [h]
    rfl
  refine ⟨_, thenLinked_of_next (congrArg Host.Outcome.next (if_pos (by rw [h]; decide))), ?_⟩
  rw [hc, ← s.fld_at off]
  exact State.laneFail_shows _ _ (by decide)

/-- The end of a backoff gap (R177, log entry 127). -/
theorem execBackoffExpiry_attempts (h : s.lstate l.val = L.backoff) (hs : s.sig l.val = true) :
    ∃ t : State, execBackoffExpiry off l s = .next (t.lanesFollow l.val) ∧ t.lstate l.val = L.frameLock ∧
      t.fld (Pg.lan l.val) F.LAN_TX_NOW = txPreset (s.inForce (Pg.lan l.val) F.LAN_CFG_INIT_PRESET) := by
  obtain ⟨hstate, -, -, htaps⟩ := State.laneAttempt_starts ((s.sig_at off _).trans hs)
  exact ⟨_, thenLinked_of_next (congrArg Host.Outcome.next (if_pos h)), hstate, htaps.trans (by rw [State.inForce_at])⟩

/-- The retry of NO_PARTNER (R178). -/
theorem execNoPartnerRetry_cycles (h : s.lstate l.val = L.noPartner) (hs : s.sig l.val = true) :
    ∃ t : State, execNoPartnerRetry off l s = .next (t.lanesFollow l.val) ∧ t.lstate l.val = L.frameLock ∧
      t.fld (Pg.lan l.val) F.LAN_STATUS_ATTEMPT = 1 := by
  obtain ⟨hstate, -, hattempt⟩ := State.laneCycle_starts ((s.sig_at off _).trans hs)
  exact ⟨_, thenLinked_of_next (congrArg Host.Outcome.next (if_pos (by simp [h, hs]))), hstate, hattempt⟩

/-- A fast retrain that takes too long (R180). -/
theorem execFastRetrainTimeout_cycles (h : s.lstate l.val = L.fastRetrain) (hs : s.sig l.val = true) :
    ∃ t : State, execFastRetrainTimeout off l s = .next (t.lanesFollow l.val) ∧ t.lstate l.val = L.frameLock ∧
      t.fld (Pg.lan l.val) F.LAN_STATUS_ATTEMPT = 1 := by
  obtain ⟨hstate, -, hattempt⟩ := State.laneCycle_starts ((s.sig_at off _).trans hs)
  exact ⟨_, thenLinked_of_next (congrArg Host.Outcome.next (if_pos h)), hstate, hattempt⟩

/-- Eight ready frames each way (R175). -/
theorem execDataStart_starts (hsent : 8 ≤ (s.lane l.val).sentReady) (hgot : 8 ≤ (s.lane l.val).gotReady)
    (hrole : s.refRole ≠ 0) (h : s.lstate l.val = L.localReady) :
    ∃ t : State, execDataStart off l s = .next (t.lanesFollow l.val) ∧ t.lstate l.val = L.dataStart := by
  refine ⟨_, thenLinked_of_next ((if_pos (by simp [hsent, hgot, hrole])).trans (if_pos h)), ?_⟩
  unfold State.lstate
  rw [State.fld_sendBits, State.fld_codeMap, State.fld_unlock _ _ _ _ (by decide),
    State.fld_setFld_off _ _ _ _ _ _ (by decide) (by decide) (by decide)]
  exact State.lstate_setLstate _ _ (by decide)

/-- Block lock begins the lane test (R162, R176). -/
theorem execBlockLock_tests {headers : List (Fin 4)} (h : s.lstate l.val = L.dataStart)
    (hb : 64 ≤ bestRun (s.lane l.val).code.run headers) :
    ∃ t : State, execBlockLock off l headers s = .next (t.lanesFollow l.val) ∧ t.lstate l.val = L.test ∧
      t.fld (Pg.lan l.val) F.LAN_STATUS_CODE_LOCK = 1 := by
  obtain ⟨u, hu⟩ : ∃ u, u = (((s.at off).headersIn l.val headers).setFld (Pg.lan l.val) F.LAN_STATUS_CODE_LOCK 1).codeMap
    l.val (fun c => { c with run := 0, win := 0, bad := 0 }) := ⟨_, rfl⟩
  refine ⟨(u.setLstate l.val L.test).setLane l.val { u.lane l.val with testBad := false, testErrs := 0 },
    thenLinked_of_next ?run, ?state, ?lock⟩
  case run =>
    rw [if_neg (by simp [h]), if_neg (by omega), if_pos h, hu]
  case state =>
    rw [State.lstate, State.fld_setLane]
    exact State.lstate_setLstate _ _ (by decide)
  case lock =>
    rw [State.fld_setLane, State.fld_setLstate _ _ _ _ _ (by decide), hu, State.fld_codeMap,
      State.fld_setFld_self _ _ _ _ (by decide)]
    rfl

/-- Block lock late (R175, R177). -/
theorem execBlockLockTimeout_fails (h : s.lstate l.val = L.dataStart) :
    ∃ t : State, execBlockLockTimeout off l s = .next (t.lanesFollow l.val) ∧
      t.fld (Pg.lan l.val) F.LAN_STATUS_LAST_FAIL = 5 ∧ t.lstate l.val =
      (if 8 ≤ s.fld (Pg.lan l.val) F.LAN_STATUS_ATTEMPT then L.noPartner else L.backoff) := by
  obtain ⟨hstate, hcause⟩ := State.laneFail_shows (s.at off) l.val (cause := 5) (by decide)
  exact ⟨_, thenLinked_of_next (congrArg Host.Outcome.next (if_pos h)), hcause, hstate.trans (by rw [State.fld_at])⟩

/-- Block lock lost in a lane test makes it fail (R162, R176). -/
theorem State.headersJudged_test {s : State} {l : Nat} {headers : List (Fin 4)} (hr : isRyk l = true)
    (hc : s.bit (Pg.lan l) F.LAN_STATUS_CODE_LOCK = true) (hl : (s.lane l).code.loses headers = true)
    (h : s.lstate l = L.test) : (s.headersJudged l headers).fld (Pg.lan l) F.LAN_STATUS_CODE_LOCK = 0 ∧
      ((s.headersJudged l headers).lane l).testBad = true := by
  unfold State.headersJudged
  dsimp only
  rw [if_neg (by simp [hc, hr, hl]), if_neg (by rw [h]; decide)]
  refine ⟨?lock, by rw [State.lane_setLane_self]⟩
  case lock =>
    simp (disch := decide) only [State.fld_setLane, State.fld_codeMap, State.fld_raiseIrq, State.fld_incFld_off,
      State.fld_setFld_self]
    rfl

/-- The link takes no errors from a lane that is not UP (R160). -/
theorem State.linkErrors_notUp {s : State} {l : Nat} (h : s.lstate l ≠ L.up) (k : Nat) : s.linkErrors l k = s := by
  unfold State.linkErrors
  simp [h]

/-- Block lock lost while the lane test runs (R162, R176). -/
theorem execBlockLockLoss_fails {headers : List (Fin 4)} (hr : isRyk l.val = true)
    (hc : s.bit (Pg.lan l.val) F.LAN_STATUS_CODE_LOCK = true) (hl : (s.lane l.val).code.loses headers = true)
    (h : s.lstate l.val = L.test) :
    ∃ t : State, execBlockLockLoss off l headers s = .next (t.lanesFollow l.val) ∧
      t.fld (Pg.lan l.val) F.LAN_STATUS_CODE_LOCK = 0 ∧ (t.lane l.val).testBad = true := by
  refine ⟨_, thenLinked_of_next (if_pos (by simp [hc, hr])), ?_⟩
  rw [State.linkErrors_notUp (by rw [State.lstate_at, h]; decide)]
  exact State.headersJudged_test hr (by rwa [State.bit_at]) (by rwa [State.lane_at]) (by rwa [State.lstate_at])

theorem State.lstate_laneUp (s : State) (l : Nat) : (s.laneUp l).lstate l = L.up :=
  (State.fld_raiseIrq _ _ _ _ _ (by decide) (by decide) (by decide)).trans (State.lstate_setLstate s l (by decide))

/-- A lane test passed (R176). -/
theorem execLaneTestDone_passes {invalid : Nat} (h : s.lstate l.val = L.test) (hb : (s.lane l.val).testBad = false)
    (he : (s.lane l.val).testErrs + invalid ≤ 1) :
    ∃ t : State, execLaneTestDone off l invalid s = .next (t.lanesFollow l.val) ∧ t.lstate l.val = L.up :=
  ⟨_, thenLinked_of_next ((if_pos h).trans (congrArg Host.Outcome.next (if_pos (by simp [hb, he])))), State.lstate_laneUp _ _⟩

end

/-- Settles O3, a law of its own for each of the twelve commands. -/
theorem laneTrainingCommandsComplete : Obligations.LaneTrainingCommandsComplete := by
  unfold Obligations.LaneTrainingCommandsComplete
  exact ⟨fun off _ _ hr hs ho h => execSignalDetectRise_cycles off hr hs ho h,
    fun off _ _ hr hs ho h => execLossOfSignal_ends off hr hs ho h,
    fun off _ marker word ask _ hr h hm hk hw => execTrainingWordRx_locks off marker word ask hr h hm hk hw,
    fun off _ _ h => execTrainingAttemptTimeout_fails off h,
    fun off _ _ h hs => execBackoffExpiry_attempts off h hs,
    fun off _ _ h hs => execNoPartnerRetry_cycles off h hs,
    fun off _ _ hsent hgot hrole h => execDataStart_starts off hsent hgot hrole h,
    fun off _ _ _ h hb => execBlockLock_tests off h hb,
    fun off _ _ h => execBlockLockTimeout_fails off h,
    fun off _ _ _ hr hc hl h => execBlockLockLoss_fails off hr hc hl h,
    fun off _ _ _ h hb he => execLaneTestDone_passes off h hb he,
    fun off _ _ h hs => execFastRetrainTimeout_cycles off h hs⟩

end Sys2Proof.Machine
end

section
/-!
PROOFS. Events of running lanes (R158, R163, R164, R183, R185, R198, R199): error intervals, slips, autonegotiation, FIXED_UP,
synchronisation, the PRBS checker and the self-check.
-/

namespace Sys2Proof.Machine

open Sys2Proof

/-! ### Error intervals and slips -/

section

variable {s : State} {l : LaneIx} (off : Nat)

/-- More than 16 invalid blocks in an interval are one transient event, held against a running lane test (R176, R185). -/
theorem execErrorInterval_event {invalid : Nat} {w : State} (hl : l.val ≠ 163)
    (hw : w = ((((s.at off).linkErrors l.val invalid).incFld (Pg.lan l.val) F.LAN_HDR_ERR invalid).codeMap l.val
      (fun c => { c with bad := 0 }))) (h : 16 < (s.lane l.val).code.bad + invalid) :
    execErrorInterval off l invalid s = .next (((if s.bit (Pg.lan l.val) F.LAN_STATUS_CODE_LOCK = true ∧ isRyk l.val = true then
      w.setLane l.val { w.lane l.val with testErrs := (w.lane l.val).testErrs + invalid } else w).laneEvent l.val).lanesFollow
        l.val) := by
  refine thenLinked_of_next ?_
  rw [if_neg hl]
  dsimp only
  rw [if_pos h, ← hw]
  simp only [Bool.and_eq_true]

/-- The Priming-out lane receives no blocks (R148). -/
theorem execErrorInterval_noReceiver (invalid : Nat) (hl : l.val = 163) :
    execErrorInterval off l invalid s = .next ((s.at off).lanesFollow l.val) :=
  thenLinked_of_next (if_pos hl)

end

/-- A slip that a link takes leaves the lanes (R643). -/
theorem State.linkSlip_lanes (s : State) (n : Nat) : (s.linkSlip n).lanes = s.lanes := by
  unfold State.linkSlip
  repeat' split
  all_goals rfl

/-- A slip that a link takes writes the link's page alone. -/
theorem State.fld_linkSlip (s : State) (n l : Nat) (f : Fld) (h : f.off < 4096) :
    (s.linkSlip n).fld (Pg.lan l) f = s.fld (Pg.lan l) f := by
  have hp : Pg.lan l ≠ Pg.ryk n := by unfold Pg.lan Pg.ryk; omega
  have hinc : (s.incFld (Pg.ryk n) F.RYK_CRC_b16).fld (Pg.lan l) f = s.fld (Pg.lan l) f :=
    State.fld_incFld_page _ _ _ _ _ _ (by decide) h hp
  unfold State.linkSlip
  split
  · rfl
  · split <;> exact hinc

/-- Slips that a link takes one after another leave the lanes and their pages. -/
theorem State.foldl_linkSlip (ns : List Nat) (s : State) (n : Nat) :
    (ns.foldl (fun (t : State) _ => t.linkSlip n) s).lanes = s.lanes ∧ ∀ (l : Nat) (f : Fld), f.off < 4096 →
      (ns.foldl (fun (t : State) _ => t.linkSlip n) s).fld (Pg.lan l) f = s.fld (Pg.lan l) f := by
  induction ns generalizing s with
  | nil => exact ⟨rfl, fun _ _ _ => rfl⟩
  | cons _ ns ih =>
    obtain ⟨hlanes, hfld⟩ := ih (s.linkSlip n)
    exact ⟨hlanes.trans (s.linkSlip_lanes n), fun l f h => (hfld l f h).trans (s.fld_linkSlip n l f h)⟩

/-- A buffer driven past 16 blocks recentres, and the slip fails a running lane test (R158, R198). -/
theorem execWanderSlip_recentres (off : Nat) {l : LaneIx} {drift : Int} {s : State} (hr : isRyk l.val = true)
    (h : 16 < (signed 8 (s.fld (Pg.lan l.val) F.LAN_WANDER_b0) + drift).natAbs) :
    ∃ t : State, execWanderSlip off l drift s = .next t ∧ t.fld (Pg.lan l.val) F.LAN_WANDER_b0 =
      unsigned 8 ((signed 8 (s.fld (Pg.lan l.val) F.LAN_WANDER_b0) + drift).tmod 17) ∧ (t.lane l.val).testBad = true := by
  obtain ⟨fill, hfill⟩ : ∃ fill, fill = signed 8 (s.fld (Pg.lan l.val) F.LAN_WANDER_b0) + drift := ⟨_, rfl⟩
  obtain ⟨u, hu⟩ : ∃ u, u = (((s.at off).setFld (Pg.lan l.val) F.LAN_WANDER_b0 (unsigned 8 (fill.tmod 17))).incFld
    (Pg.lan l.val) F.LAN_WANDER_SLIPS (fill.natAbs / 17)).raiseIrq (Pg.lan l.val) 6 := ⟨_, rfl⟩
  rw [← hfill] at h ⊢
  obtain ⟨hlanes, hfld⟩ := State.foldl_linkSlip (List.range (fill.natAbs / 17))
    (u.setLane l.val { u.lane l.val with testBad := true }) ((l.val - 32) / 2)
  refine ⟨_, ?run, (hfld _ _ (by decide)).trans ?fill, ?test⟩
  case run =>
    unfold execWanderSlip
    dsimp only
    rw [if_pos hr, State.fld_at, ← hfill, if_neg (by omega), ← hu]
  case fill =>
    rw [State.fld_setLane, hu, State.fld_raiseIrq _ _ _ _ _ (by decide) (by decide) (by decide),
      State.fld_incFld_bits _ _ _ _ _ _ (by decide), State.fld_setFld_self _ _ _ _ (by decide)]
    exact Nat.mod_eq_of_lt (unsigned_lt 8 _)
  case test => rw [State.lane_congr hlanes, State.lane_setLane_self]

/-! ### Autonegotiation (R163) -/

/-- Autonegotiation that starts writes LAN_AN_STATUS alone. -/
theorem State.fld_anStart (s : State) (l p : Nat) (f : Fld) (h : f.off < 4096) (ho : f.off ≠ 0x084) :
    (s.anStart l).fld p f = s.fld p f := by
  unfold State.anStart
  split
  · rw [State.fld_emit, State.fld_setLane, State.fld_setFld_off _ _ _ _ _ _ (by decide) h ho]
  · rfl

/-- On a management lane that is FIXED_UP with AN_EN at 1 the base page goes out again. -/
theorem State.anStart_sends {s : State} {l : Nat} (hl : l = 160 ∨ l = 161) (h : s.lstate l = L.fixedUp)
    (he : s.bit (Pg.lan l) F.LAN_AN_CTL_AN_EN = true) :
    (s.anStart l).fld (Pg.lan l) F.LAN_AN_STATUS_AN_COMPLETE = 0 ∧ ((s.anStart l).lane l).anSent = true := by
  unfold State.anStart
  rw [if_pos (by simpa [h, he] using hl)]
  refine ⟨?complete, by simp⟩
  case complete =>
    rw [State.fld_emit, State.fld_setLane, State.fld_setFld_self _ _ _ _ (by decide)]
    rfl

/-- Autonegotiation does not start on a lane that is not FIXED_UP. -/
theorem State.anStart_down {s : State} {l : Nat} (h : s.lstate l ≠ L.fixedUp) : s.anStart l = s := by
  unfold State.anStart
  simp [h]

/-- A write of LAN_AN_CTL leaves a lane's training state. -/
theorem State.lstate_write_anCtl (s : State) (l : Nat) (v : Word) : (s.write (Pg.lan l) 0x080 v).lstate l = s.lstate l := by
  have ha : Apart (Pg.lan l) := by
    unfold Apart Pg.lan Pg.flt Pg.fltAtt Pg.pci
    omega
  exact State.fld_applyWrite_ne s _ v 0 false false (Pg.lan l) F.LAN_STATUS_TSTATE ⟨by decide, ha⟩ (by
    show Pg.lan l * 4096 + 0x044 ≠ Pg.lan l * 4096 + 0x080
    omega)

section

variable {s : State} {k : Fin 2} (off : Nat)

/-- AN_RESTART of a lane that is FIXED_UP with AN_EN at 1. -/
theorem execAnRestart_sends {ctl : Word} (hd : (s.at off).dropCause (Pg.lan (160 + k.val)) = none)
    (hr : ((s.at off).write (Pg.lan (160 + k.val)) 0x080 ctl).bit (Pg.lan (160 + k.val)) F.LAN_AN_CTL_AN_RESTART = true)
    (he : ((s.at off).write (Pg.lan (160 + k.val)) 0x080 ctl).bit (Pg.lan (160 + k.val)) F.LAN_AN_CTL_AN_EN = true)
    (h : s.lstate (160 + k.val) = L.fixedUp) :
    ∃ t : State, execAnRestart off k ctl s = .next t ∧
      t.bit (Pg.lan (160 + k.val)) F.LAN_AN_CTL_AN_RESTART = false ∧
      t.fld (Pg.lan (160 + k.val)) F.LAN_AN_STATUS_AN_COMPLETE = 0 ∧ (t.lane (160 + k.val)).anSent = true := by
  obtain ⟨u, hu⟩ : ∃ u, u = ((s.at off).write (Pg.lan (160 + k.val)) 0x080 ctl).setFld (Pg.lan (160 + k.val))
    F.LAN_AN_CTL_AN_RESTART 0 := ⟨_, rfl⟩
  have hstate : u.lstate (160 + k.val) = L.fixedUp := by
    rw [hu, State.lstate, State.fld_setFld_off _ _ _ _ _ _ (by decide) (by decide) (by decide)]
    exact (State.lstate_write_anCtl _ _ ctl).trans ((s.lstate_at off _).trans h)
  have hen : u.bit (Pg.lan (160 + k.val)) F.LAN_AN_CTL_AN_EN = true := by
    rw [hu, ← he]
    exact State.bit_congr (State.fld_setFld_bits _ _ _ _ _ _ (by decide))
  have hclear : u.bit (Pg.lan (160 + k.val)) F.LAN_AN_CTL_AN_RESTART = false := by
    rw [hu]
    exact State.bit_setFld_self _ _ false rfl (by decide)
  refine ⟨u.anStart (160 + k.val), ?run, ?restart, State.anStart_sends (by omega) hstate hen⟩
  case run =>
    unfold execAnRestart State.anRestart
    rw [State.onPage_answers hd, if_pos hr, hu]
  case restart => rw [State.bit_congr (State.fld_anStart _ _ _ _ (by decide) (by decide)), hclear]

/-- AN_RESTART of a lane that is not up clears itself and does no more. -/
theorem execAnRestart_down {ctl : Word} {w : State} (hd : (s.at off).dropCause (Pg.lan (160 + k.val)) = none)
    (hw : w = (s.at off).write (Pg.lan (160 + k.val)) 0x080 ctl)
    (hr : w.bit (Pg.lan (160 + k.val)) F.LAN_AN_CTL_AN_RESTART = true) (h : s.lstate (160 + k.val) ≠ L.fixedUp) :
    execAnRestart off k ctl s = .next (w.setFld (Pg.lan (160 + k.val)) F.LAN_AN_CTL_AN_RESTART 0) := by
  have hstate : (w.setFld (Pg.lan (160 + k.val)) F.LAN_AN_CTL_AN_RESTART 0).lstate (160 + k.val) ≠ L.fixedUp := by
    rw [State.lstate, State.fld_setFld_off _ _ _ _ _ _ (by decide) (by decide) (by decide), hw]
    exact ((State.lstate_write_anCtl _ _ ctl).trans (s.lstate_at off _)).trans_ne h
  unfold execAnRestart State.anRestart
  rw [State.onPage_answers hd, ← hw, if_pos hr, State.anStart_down hstate]

/-- The partner's base page is shown. -/
theorem execAnComplete_shows (base : BitVec 16) (he : s.bit (Pg.lan (160 + k.val)) F.LAN_AN_CTL_AN_EN = true)
    (h : s.lstate (160 + k.val) = L.fixedUp) (hs : (s.lane (160 + k.val)).anSent = true) :
    ∃ t : State, execAnComplete off k base s = .next t ∧
      t.fld (Pg.lan (160 + k.val)) F.LAN_AN_STATUS_AN_COMPLETE = 1 ∧
      t.fld (Pg.lan (160 + k.val)) F.LAN_AN_STATUS_b16 = base.toNat := by
  refine ⟨_, if_pos (by simp [he, h, hs]), ?complete, ?page⟩
  case complete =>
    simp (disch := decide) only [State.fld_raiseIrq, State.fld_setFld_bits, State.fld_setFld_self]
    rfl
  case page =>
    simp (disch := decide) only [State.fld_raiseIrq, State.fld_setFld_self]
    exact Nat.mod_eq_of_lt base.isLt

end

/-! ### Lanes without training (Table LAN-7) -/

/-- FIXED_UP entered or left writes TSTATE, LAN_AN_STATUS and causes. -/
theorem State.fld_laneFixed (s : State) (l p : Nat) (f : Fld) (h : BesideStatus f 6 10)
    (hf : f.off ≠ 0x020 ∧ f.off ≠ 0x084 ∧ f.off ≠ 0x240) : (s.laneFixed l).fld p f = s.fld p f := by
  obtain ⟨hirq, han, hpba⟩ := hf
  unfold State.laneFixed
  split
  · rfl
  · split
    · rw [State.fld_anStart _ _ _ _ h.1 han, State.fld_raiseIrq _ _ _ _ _ h.1 hirq hpba, State.fld_setLstate _ _ _ _ _ h]
    · split
      · rw [State.fld_setLane, State.fld_setLstate _ _ _ _ _ h]
      · rfl

/-- A lane without training that waits, with what FIXED_UP needs, enters it. -/
theorem State.laneFixed_up {s : State} {l : Nat} (hr : isRyk l = false) (h : s.lstate l = L.waitSignal)
    (hf : s.fixedReady l = true) : (s.laneFixed l).lstate l = L.fixedUp := by
  unfold State.laneFixed
  rw [if_neg (by simp [hr]), if_pos (by simp [h, hf])]
  unfold State.lstate
  rw [State.fld_anStart _ _ _ _ (by decide) (by decide), State.fld_raiseIrq _ _ _ _ _ (by decide) (by decide) (by decide)]
  exact State.lstate_setLstate _ _ (by decide)

/-- FIXED_UP entered or left leaves the Windlass. -/
theorem State.laneFixed_wdl (s : State) (l : Nat) : (s.laneFixed l).wdl = s.wdl :=
  (State.laneFixed_keeps (M := countMask) (.refl _ s) rfl).wdl rfl

/-! ### Code groups and test patterns (R164, R183) -/

theorem State.rxInverted_at (s : State) (off l : Nat) : (s.at off).rxInverted l = s.rxInverted l := by
  unfold State.rxInverted
  rw [State.inForce_at]

/-- A group taken that gives synchronisation, before its lane moves (R164). -/
def State.takeSync (s : State) (l w : Nat) : State :=
  let t := s.codeMap l (fun c => c.group false w)
  ((t.incFld (Pg.lan l) F.LAN_HDR_ERR ((t.lane l).code.bad - (s.lane l).code.bad)).setFld (Pg.lan l) F.LAN_STATUS_CODE_LOCK
    1).codeMap l (fun c => { c with run := 0, win := 0 })

/-- The group that completes three commas in a row gives synchronisation, and the lane may then be FIXED_UP. -/
theorem State.codeSync_locks {s : State} {l : Nat} {g : BitVec 10} (h : s.bit (Pg.lan l) F.LAN_STATUS_CODE_LOCK = false)
    (hg : 3 ≤ ((s.lane l).code.group false (if s.rxInverted l then ~~~g else g).toNat).run) :
    s.codeSync l [g] = (s.takeSync l (if s.rxInverted l then ~~~g else g).toNat).laneFixed l := by
  unfold State.codeSync
  rw [List.foldl_cons, List.foldl_nil]
  dsimp only
  rw [h, if_pos (by simpa using hg)]
  rfl

theorem State.codeLock_takeSync (s : State) (l w : Nat) : (s.takeSync l w).bit (Pg.lan l) F.LAN_STATUS_CODE_LOCK = true := by
  unfold State.takeSync
  exact (State.bit_congr (State.fld_codeMap _ _ _ _ _)).trans (State.bit_setFld_self _ _ true rfl (by decide))

/-- A group taken writes LAN_HDR_ERR and CODE_LOCK. -/
theorem State.fld_takeSync (s : State) (l w p : Nat) (f : Fld) (h : BesideStatus f 5 6) (hf : f.off ≠ 0x060) :
    (s.takeSync l w).fld p f = s.fld p f := by
  unfold State.takeSync
  rw [State.fld_codeMap, State.fld_setStatus _ _ _ _ _ _ _ h, State.fld_incFld_off _ _ _ _ _ _ (by decide) h.1 hf,
    State.fld_codeMap]

/-- The Priming-in lane, clocked, with signal and CDR lock, is FIXED_UP once it is synchronised. -/
theorem execCodeGroupSync_up (off : Nat) {l : LaneIx} {g : BitVec 10} {s : State} (hl : l.val = 162)
    (hc : s.wdl.lrefOk = true) (h : s.lstate l.val = L.waitSignal) (hs : s.sig l.val = true)
    (hcdr : s.bit (Pg.lan l.val) F.LAN_STATUS_CDR_LOCK = true) (hcode : s.bit (Pg.lan l.val) F.LAN_STATUS_CODE_LOCK = false)
    (hg : 3 ≤ ((s.lane l.val).code.group false (if s.rxInverted l.val then ~~~g else g).toNat).run) :
    ∃ t : State, execCodeGroupSync off l [g] s = .next t ∧ t.lstate l.val = L.fixedUp ∧
      t.bit (Pg.lan l.val) F.LAN_STATUS_CODE_LOCK = true := by
  rw [hl] at h hs hcdr hcode hg ⊢
  obtain ⟨u, hu⟩ : ∃ u, u = (s.at off).takeSync 162 (if s.rxInverted 162 then ~~~g else g).toNat := ⟨_, rfl⟩
  have hkeep : ∀ f : Fld, BesideStatus f 5 6 → f.off ≠ 0x060 → u.fld (Pg.lan 162) f = s.fld (Pg.lan 162) f := by
    intro f h5 h60
    rw [hu, State.fld_takeSync _ _ _ _ _ h5 h60, State.fld_at]
  have hlock : u.bit (Pg.lan 162) F.LAN_STATUS_CODE_LOCK = true := hu ▸ State.codeLock_takeSync _ _ _
  have hsync : (s.at off).codeSync 162 [g] = u.laneFixed 162 := by
    rw [hu, ← s.rxInverted_at off]
    exact State.codeSync_locks (by rwa [State.bit_at]) (by rwa [State.lane_at, State.rxInverted_at])
  have hready : u.fixedReady 162 = true := by
    have hsig : u.sig 162 = true := (State.bit_congr (hkeep _ (by decide) (by decide))).trans hs
    have hrecv : u.bit (Pg.lan 162) F.LAN_STATUS_CDR_LOCK = true :=
      (State.bit_congr (hkeep _ (by decide) (by decide))).trans hcdr
    simp [State.fixedReady, hsig, hrecv, hlock]
  have hfixed : (u.laneFixed 162).lstate 162 = L.fixedUp :=
    State.laneFixed_up rfl ((hkeep _ (by decide) (by decide)).trans h) hready
  have hheld : (u.laneFixed 162).bit (Pg.lan 162) F.LAN_STATUS_CODE_LOCK = true :=
    (State.bit_congr (State.fld_laneFixed _ _ _ _ (by decide) (by decide))).trans hlock
  refine ⟨(u.laneFixed 162).setFld (Pg.cfg 1) F.CFG_CHN_STATUS_b2 1, ?run, ?state, ?lock⟩
  case run =>
    unfold execCodeGroupSync
    dsimp only
    rw [hl, if_neg (by simp [State.clocked, hc]), if_neg (by decide), hsync, State.bit_at, hcode, hheld]
    rfl
  case state => exact (State.fld_setFld_page _ _ _ _ _ _ (by decide) (by decide) (by decide)).trans hfixed
  case lock =>
    exact (State.bit_congr (State.fld_setFld_page _ _ _ _ _ _ (by decide) (by decide) (by decide))).trans hheld

/-- A bit that fits the pattern after 63 in a row locks the checker. -/
theorem State.checkBit_locks {s : State} {l b : Nat} {taps : Nat × Nat}
    (h : s.bit (Pg.lan l) F.LAN_PRBS_STATUS_CHK_LOCK = false) (hg : (s.lane l).code.good = 63)
    (hb : prbsNext taps (s.lane l).code.chk = b) : (s.checkBit l taps b).fld (Pg.lan l) F.LAN_PRBS_STATUS_CHK_LOCK = 1 := by
  have hc : ((s.lane l).code.check taps false b).good = 64 := by simp [Coder.check, hb, hg]
  unfold State.checkBit
  dsimp only
  rw [h, if_neg Bool.false_ne_true, if_pos (by omega), State.fld_codeMap, State.fld_setFld_self _ _ _ _ (by decide)]
  rfl

/-- A checker with a pattern, no loopback applied, locks with the 64th bit in a row that fits. -/
theorem execPrbsLock_locks (off : Nat) {l : LaneIx} {b : Bool} {taps : Nat × Nat} {s : State} (h163 : l.val ≠ 163)
    (h162 : l.val ≠ 162) (hc : (s.at off).clocked l.val = true) (hm : (s.lane l.val).testMode / 256 % 4 = 0)
    (ht : prbsTaps ((s.lane l.val).testMode / 16 % 8) = some taps)
    (hk : s.bit (Pg.lan l.val) F.LAN_PRBS_STATUS_CHK_LOCK = false) (hg : (s.lane l.val).code.good = 63)
    (hb : prbsNext taps (s.lane l.val).code.chk =
      ((bitOf b + bitOf (s.rxInverted l.val)) % 2 + (s.lane l.val).testMode / 128) % 2) :
    ∃ t : State, execPrbsLock off l [b] s = .next t ∧ t.fld (Pg.lan l.val) F.LAN_PRBS_STATUS_CHK_LOCK = 1 := by
  refine ⟨(s.at off).checkBit l.val taps
    (((bitOf b + bitOf (s.rxInverted l.val)) % 2 + (s.lane l.val).testMode / 128) % 2), ?run, ?lock⟩
  case run =>
    unfold execPrbsLock
    simp [h163, h162, hc, hm, ht, State.rxInverted_at]
  case lock => exact State.checkBit_locks (by rwa [State.bit_at]) (by rwa [State.lane_at]) (by rwa [State.lane_at])

/-! ### A lane's self-check -/

/-- A lane of another kind than Ryuklin enters FAULT and stops (R199). -/
theorem execLaneSelfcheckFail_fails (off : Nat) {l : LaneIx} {s : State} (hr : isRyk l.val = false)
    (h : s.unit (Pg.lan l.val) ≠ uOff) : execLaneSelfcheckFail off l s =
      .next ((((s.at off).fail (Pg.lan l.val) Reason.hwError).laneStop l.val).lanesFollow l.val) := by
  have hu : (s.at off).unit (Pg.lan l.val) ≠ uOff := by rwa [State.unit, State.fld_at]
  exact thenLinked_of_next (congrArg Host.Outcome.next ((if_neg (by simp [hr])).trans (if_neg hu)))

end Sys2Proof.Machine
end

section
/-!
PROOFS. The Ryuklin reference and LREF (R152, R155, R156, R196, R197, R236): what the reference shows LOCKED and in HOLDOVER, how
candidates are taken and lost, and what they leave of the registers of lanes.
-/

namespace Sys2Proof.Machine

open Sys2Proof

/-! ### The states of the Ryuklin reference (R156, R197) -/

/-- The depth sent on links stands in RYK_REF (R668). -/
theorem State.fld_syncDepth (s : State) (p : Nat) (f : Fld) (h : f.off < 4096) (ho : f.off ≠ 0x80C) :
    s.syncDepth.fld p f = s.fld p f := State.fld_setFld_off _ _ _ _ _ _ (by decide) h ho

theorem State.fld_setOffset (s : State) (v : Int) (p : Nat) (f : Fld) (h : f.off < 4096) (ho : f.off ≠ 0x210) :
    (s.setOffset v).fld p f = s.fld p f := State.fld_setFld_off _ _ _ _ _ _ (by decide) h ho

/-- The reference LOCKED on a candidate, or on RREF. -/
theorem State.refLock_shows (s : State) {cand : Nat} (h : cand < 8) : (s.refLock cand).rstate = R.locked ∧
    (s.refLock cand).fld refPage F.REF_STATUS_ACTIVE_CAND = cand := by
  unfold State.refLock State.rstate
  refine ⟨?state, ?active⟩
  case state =>
    simp (disch := decide) only [State.fld_syncDepth, State.fld_milestone, State.fld_drawn, State.fld_setOffset,
      State.fld_setFld_bits, State.fld_setFld_self]
    rfl
  case active =>
    simp (disch := decide) only [State.fld_syncDepth, State.fld_milestone, State.fld_drawn, State.fld_setOffset,
      State.fld_setFld_self]
    exact Nat.mod_eq_of_lt h

/-- The reference in HOLDOVER follows no candidate. -/
theorem State.refHoldover_shows (s : State) :
    s.refHoldover.rstate = R.holdover ∧ s.refHoldover.fld refPage F.REF_STATUS_ACTIVE_CAND = 7 := by
  unfold State.refHoldover State.rstate
  constructor
  all_goals
    simp (disch := decide) only [State.fld_syncDepth, State.fld_raiseIrq, State.fld_incFld_off, State.fld_drawn,
      State.fld_setOffset, State.fld_setFld_bits, State.fld_setFld_self]
    rfl

/-! ### The mark of a qualified candidate (Table LAN-14) -/

section

variable (s : State) (k : Nat)

/-- The mark of a qualified candidate leaves the role, the reference's state, the active candidate. -/
theorem State.fld_setQualified (x p : Nat) (f : Fld) (h : f.off < 4096) (hf : f.off ≠ 0x208 ∨ f.lo + f.w ≤ 8) :
    (s.setFld refPage ⟨0x208, 8 + k, 1⟩ x).fld p f = s.fld p f := by
  rcases hf with ho | hb
  · exact State.fld_setFld_off s refPage ⟨0x208, 8 + k, 1⟩ x p f (by show 0x208 < 4096; decide) h ho
  · exact State.fld_setFld_bits s refPage ⟨0x208, 8 + k, 1⟩ x p f (.inl (by show f.lo + f.w ≤ 8 + k; omega))

theorem State.refRole_setQualified (x : Nat) : (s.setFld refPage ⟨0x208, 8 + k, 1⟩ x).refRole = s.refRole := by
  unfold State.refRole
  rw [State.fld_setQualified _ _ _ _ _ (by decide) (by decide)]

theorem State.rstate_setQualified (x : Nat) : (s.setFld refPage ⟨0x208, 8 + k, 1⟩ x).rstate = s.rstate :=
  State.fld_setQualified _ _ _ _ _ (by decide) (by decide)

/-- Another candidate is listed and qualified as before. -/
theorem State.candOk_setQualified_ne (x : Nat) {j : Nat} (h : j ≠ k) :
    (s.setFld refPage ⟨0x208, 8 + k, 1⟩ x).candOk j = s.candOk j := by
  have hl := State.bit_congr (State.fld_setQualified s k x refPage (F.REF_CAND_b7 j) (by show 0x204 < 4096; decide)
    (.inl (by show 0x204 ≠ 0x208; decide)))
  have hq := State.bit_congr (State.fld_setFld_bits s refPage ⟨0x208, 8 + k, 1⟩ x refPage ⟨0x208, 8 + j, 1⟩
    (by show 8 + j + 1 ≤ 8 + k ∨ 8 + k + 1 ≤ 8 + j; omega))
  unfold State.candOk
  rw [hl, hq]

/-- A listed candidate that is marked qualified may be taken. -/
theorem State.candOk_setQualified_self {s : State} {k : Nat} (hk : k < 4) (h : s.bit refPage (F.REF_CAND_b7 k) = true) :
    (s.setFld refPage ⟨0x208, 8 + k, 1⟩ 1).candOk k = true := by
  have hl := State.bit_congr (State.fld_setQualified s k 1 refPage (F.REF_CAND_b7 k) (by show 0x204 < 4096; decide)
    (.inl (by show 0x204 ≠ 0x208; decide)))
  have hq : (s.setFld refPage ⟨0x208, 8 + k, 1⟩ 1).bit refPage ⟨0x208, 8 + k, 1⟩ = true :=
    State.bit_setFld_self s refPage (f := ⟨0x208, 8 + k, 1⟩) true rfl (by show 8 + k < 32; omega)
  unfold State.candOk
  rw [hl, h, hq]
  rfl

end

/-! ### What the reference leaves of other units -/

/-- A register that the reference does not write: below its own registers on a page, no cause, and not on page GBL, where
milestones stand. -/
abbrev BesideRef (p : Nat) (f : Fld) : Prop := p ≠ Pg.gbl ∧ f.off < 0x200 ∧ f.off ≠ 0x020

/-- The reference LOCKED writes its own registers, RYK_REF and a milestone. -/
theorem State.fld_refLock (s : State) (cand p : Nat) (f : Fld) (h : BesideRef p f) : (s.refLock cand).fld p f = s.fld p f := by
  obtain ⟨hp, ho, -⟩ := h
  unfold State.refLock
  rw [State.fld_syncDepth _ _ _ (by omega) (by omega), State.fld_milestone _ _ _ _ (by omega) (by decide) hp, State.fld_drawn,
    State.fld_setOffset _ _ _ _ (by omega) (by omega),
    State.fld_setFld_off _ _ _ _ _ _ (by decide) (by omega) (by show f.off ≠ 0x208; omega),
    State.fld_setFld_off _ _ _ _ _ _ (by decide) (by omega) (by show f.off ≠ 0x208; omega), State.fld_mk]

/-- HOLDOVER entered writes the reference's own registers, a cause and RYK_REF. -/
theorem State.fld_refHoldover (s : State) (p : Nat) (f : Fld) (h : BesideRef p f) : s.refHoldover.fld p f = s.fld p f := by
  obtain ⟨-, ho, hirq⟩ := h
  unfold State.refHoldover
  rw [State.fld_syncDepth _ _ _ (by omega) (by omega), State.fld_raiseIrq _ _ _ _ _ (by omega) hirq (by omega),
    State.fld_incFld_off _ _ _ _ _ _ (by decide) (by omega) (by show f.off ≠ 0x20C; omega), State.fld_drawn,
    State.fld_setOffset _ _ _ _ (by omega) (by omega),
    State.fld_setFld_off _ _ _ _ _ _ (by decide) (by omega) (by show f.off ≠ 0x208; omega),
    State.fld_setFld_off _ _ _ _ _ _ (by decide) (by omega) (by show f.off ≠ 0x208; omega)]

/-- A candidate lost writes what the reference writes. -/
theorem State.fld_candLost (s : State) (k p : Nat) (f : Fld) (h : BesideRef p f) : (s.candLost k).fld p f = s.fld p f := by
  obtain ⟨-, ho, hirq⟩ := id h
  unfold State.candLost
  extract_lets s1
  have h1 : s1.fld p f = s.fld p f := State.fld_setQualified s k 0 p f (by omega) (.inl (by omega))
  split
  · split
    · rw [State.fld_raiseIrq _ _ _ _ _ (by omega) hirq (by omega),
        State.fld_incFld_off _ _ _ _ _ _ (by decide) (by omega) (by show f.off ≠ 0x20C; omega), State.fld_refLock _ _ _ _ h, h1]
    · rw [State.fld_refHoldover _ _ _ h, h1]
  · exact h1

/-- The candidates on a link lost write what the reference writes. -/
theorem State.fld_linkCandLost (s : State) (n p : Nat) (f : Fld) (h : BesideRef p f) :
    (s.linkCandLost n).fld p f = s.fld p f := by
  unfold State.linkCandLost
  generalize [0, 1, 2, 3] = ks
  induction ks generalizing s with
  | nil => rfl
  | cons k ks ih =>
    rw [List.foldl_cons, ih]
    split
    · exact State.fld_candLost s k p f h
    · rfl

/-! ### CDR lock (R152, R156) -/

/-- CDR lock put to a value shows after FIXED_UP has followed it. -/
theorem State.cdrLock_laneFixed (s : State) (l : Nat) (b : Bool) :
    ((s.setFld (Pg.lan l) F.LAN_STATUS_CDR_LOCK (bitOf b)).laneFixed l).bit (Pg.lan l) F.LAN_STATUS_CDR_LOCK = b :=
  (State.bit_congr (State.fld_laneFixed _ _ _ _ (by decide) (by decide))).trans (State.bit_setFld_self _ _ b rfl (by decide))

theorem State.cdrLock_cdrLost (s : State) (l : Nat) : (s.cdrLost l).bit (Pg.lan l) F.LAN_STATUS_CDR_LOCK = false := by
  have hp : Pg.lan l ≠ Pg.gbl := by unfold Pg.lan Pg.gbl; omega
  unfold State.cdrLost
  dsimp only
  split
  · exact (State.bit_congr (State.fld_linkCandLost _ _ _ _ ⟨hp, by decide⟩)).trans (s.cdrLock_laneFixed l false)
  · exact s.cdrLock_laneFixed l false

/-- A receiver within its range gains lock, or loses it; the register shows it at once. -/
theorem execCdrLock_shows (off : Nat) {l : LaneIx} {gain : Bool} {ppm : Int} {s : State}
    (h : gain = true → ppm.natAbs ≤ (if isRyk l.val then 6000 else 300) ∧ l.val ≠ 163 ∧
      (l.val ∈ lrefLanes → s.wdl.lrefOk = true)) :
    ∃ t : State, execCdrLock off l gain ppm s = .next t ∧ t.bit (Pg.lan l.val) F.LAN_STATUS_CDR_LOCK = gain := by
  cases gain with
  | false => exact ⟨_, rfl, State.cdrLock_cdrLost _ _⟩
  | true =>
    obtain ⟨hppm, hl, href⟩ := h rfl
    refine ⟨_, if_neg ?_, State.cdrLock_laneFixed _ _ true⟩
    simpa [hl, State.at_wdl] using ⟨hppm, href⟩

/-! ### Candidates (R155, R156) -/

/-- A follower without a candidate takes the first that may be taken (R156). -/
theorem State.refAcquire_takes {s : State} {k : Nat} (hk : k < 4) (hrole : s.refRole = 2) (h : s.rstate = R.acquire)
    (hok : s.candOk k = true) (hfirst : ∀ j < k, s.candOk j = false) : s.refAcquire = s.refLock k := by
  have hfind : [0, 1, 2, 3].find? s.candOk = some k := by
    show (List.range 4).find? s.candOk = some k
    rw [List.find?_range_eq_some]
    exact ⟨hok, List.mem_range.mpr hk, fun j hj => by simp [hfirst j hj]⟩
  unfold State.refAcquire
  rw [if_pos (by simp [hrole, h]), hfind]

theorem State.refRole_at (s : State) (off : Nat) : (s.at off).refRole = s.refRole := by
  unfold State.refRole
  rw [State.fld_at]

theorem State.rstate_at (s : State) (off : Nat) : (s.at off).rstate = s.rstate := s.fld_at off _ _

theorem State.candOk_at (s : State) (off k : Nat) : (s.at off).candOk k = s.candOk k := by
  unfold State.candOk
  rw [State.bit_at, State.bit_at]

theorem State.refLaneGood_at (s : State) (off n : Nat) : (s.at off).refLaneGood n = s.refLaneGood n := by
  unfold State.refLaneGood State.refLane State.unit
  simp only [State.bit_at, State.fld_at]

section

variable {s : State} (off : Nat)

/-- A candidate qualifies for a follower that has none (R156). -/
theorem execCandidateQualified_locks {k : Fin 4} (hrole : s.refRole = 2) (h : s.rstate = R.acquire)
    (hl : s.bit refPage (F.REF_CAND_b7 k.val) = true)
    (hg : s.refLaneGood (s.fld refPage (F.REF_CAND_b0 k.val)) = true)
    (hfirst : ∀ j : Fin 4, j.val < k.val → s.candOk j.val = false) :
    ∃ t : State, execCandidateQualified off k s = .next t ∧ t.rstate = R.locked ∧
      t.fld refPage F.REF_STATUS_ACTIVE_CAND = k.val := by
  refine ⟨_, congrArg Host.Outcome.next (if_pos (by simp [hl, hg, State.refLaneGood_at])), ?_⟩
  rw [State.refAcquire_takes k.isLt (by rw [State.refRole_setQualified, State.refRole_at, hrole])
    (by rw [State.rstate_setQualified, State.rstate_at, h])
    (State.candOk_setQualified_self k.isLt (by rwa [State.bit_at])) fun j hj => by
      rw [State.candOk_setQualified_ne _ _ _ (by omega), State.candOk_at]
      exact hfirst ⟨j, by omega⟩ hj]
  exact State.refLock_shows _ (by omega)

/-- A follower whose candidate is lost, with no other to take, enters HOLDOVER (R156, R197). -/
theorem State.candLost_holdover {s : State} {k : Fin 4} (hrole : s.refRole = 2) (h : s.rstate = R.locked)
    (ha : s.fld refPage F.REF_STATUS_ACTIVE_CAND = k.val) (hno : ∀ j : Fin 4, j ≠ k → s.candOk j.val = false) :
    s.candLost k.val = (s.setFld refPage ⟨0x208, 8 + k.val, 1⟩ 0).refHoldover := by
  have hother : ∀ i : Nat, (k.val + i) % 4 ≠ k.val →
      (s.setFld refPage ⟨0x208, 8 + k.val, 1⟩ 0).candOk ((k.val + i) % 4) = false := by
    intro i hi
    rw [State.candOk_setQualified_ne _ _ _ hi]
    exact hno ⟨(k.val + i) % 4, Nat.mod_lt _ (by decide)⟩ fun he => hi (congrArg Fin.val he)
  unfold State.candLost
  dsimp only
  rw [if_pos (by
    rw [State.refRole_setQualified, State.rstate_setQualified, State.fld_setQualified _ _ _ _ _ (by decide) (by decide)]
    simp [hrole, h, ha])]
  simp [hother 1 (by omega), hother 2 (by omega), hother 3 (by omega)]

/-- The loss of the only candidate (R156, R197). -/
theorem execCandidateLoss_holdover {k : Fin 4} (hrole : s.refRole = 2) (h : s.rstate = R.locked)
    (ha : s.fld refPage F.REF_STATUS_ACTIVE_CAND = k.val) (hno : ∀ j : Fin 4, j ≠ k → s.candOk j.val = false) :
    ∃ t : State, execCandidateLoss off k s = .next t ∧ t.rstate = R.holdover ∧
      t.fld refPage F.REF_STATUS_ACTIVE_CAND = 7 := by
  refine ⟨_, rfl, ?_⟩
  rw [State.candLost_holdover (by rwa [State.refRole_at]) (by rwa [State.rstate_at]) (by rwa [State.fld_at])
    fun j hj => (s.candOk_at off _).trans (hno j hj)]
  exact State.refHoldover_shows _

/-! ### RREF and LREF (R93, R196, R197, R236) -/

/-- The mask of every component but RREF's presence (bit 17). -/
def besideRref : Nat := 0x17ffffffefffffdffff

/-- A ROOT without RREF (R197). -/
theorem execRrefLoss_holdover (hrole : s.refRole = 1) (h : s.rstate = R.locked) :
    ∃ t : State, execRrefLoss off s = .next t ∧ t.rref = false ∧ t.rstate = R.holdover := by
  obtain ⟨u, hu⟩ : ∃ u, u = ({ s.at off with rref := false } : State) := ⟨_, rfl⟩
  have hr : u.refRole = 1 := by rw [hu]; exact (s.refRole_at off).trans hrole
  have hs : u.rstate = R.locked := by rw [hu]; exact (s.rstate_at off).trans h
  refine ⟨u.refHoldover, ?run, ?rref, (State.refHoldover_shows u).1⟩
  case run =>
    unfold execRrefLoss
    dsimp only
    rw [← hu, if_pos (by simp [hr, hs])]
  case rref =>
    rw [(State.refHoldover_keeps (M := besideRref) (.refl _ u) rfl).rref rfl, hu]

/-- RREF back at a ROOT in HOLDOVER (R197). -/
theorem execRrefRestore_locks (hrole : s.refRole = 1) (h : s.rstate = R.holdover) :
    ∃ t : State, execRrefRestore off s = .next t ∧ t.rref = true ∧ t.rstate = R.locked := by
  obtain ⟨u, hu⟩ : ∃ u, u = ({ s.at off with rref := true } : State) := ⟨_, rfl⟩
  have hr : u.refRole = 1 := by rw [hu]; exact (s.refRole_at off).trans hrole
  have hs : u.rstate = R.holdover := by rw [hu]; exact (s.rstate_at off).trans h
  refine ⟨u.refLock 7, ?run, ?rref, (State.refLock_shows u (by decide)).1⟩
  case run =>
    unfold execRrefRestore
    dsimp only
    rw [← hu, if_pos (by simp [hr, hs])]
  case rref =>
    rw [(State.refLock_keeps (M := besideRref) (.refl _ u) rfl).rref rfl, hu]

/-- LREF lost stops the count (R93, R236). -/
theorem execLrefLoss_stops (s : State) : ∃ t : State, execLrefLoss off s = .next t ∧ t.wdl.stopped = true ∧
    t.wdl.lrefOk = false := ⟨_, rfl, rfl, rfl⟩

/-- LREF's return shows on page BYP and gives its lanes their clock again. -/
theorem execLrefReturn_shows (s : State) : ∃ t : State, execLrefReturn off s = .next t ∧ t.wdl.lrefOk = true ∧
    t.fld Pg.byp F.BYP_STATUS_LREF_OK = 1 := by
  refine ⟨_, rfl, by rw [State.laneFixed_wdl], ?_⟩
  rw [State.fld_laneFixed _ _ _ _ (by decide) (by decide), State.fld_mk, State.fld_setFld_self _ _ _ _ (by decide)]
  rfl

end

/-! ### The statement -/

/-- Settles O4, a law of its own for each clause. -/
theorem laneEventCommandsComplete : Obligations.LaneEventCommandsComplete := by
  unfold Obligations.LaneEventCommandsComplete
  exact ⟨fun off _ _ _ _ hl hw h => ⟨_, execErrorInterval_event off hl hw h, rfl⟩,
    fun off _ invalid _ hl => ⟨_, execErrorInterval_noReceiver off invalid hl, rfl⟩,
    fun off _ _ _ hr h => execWanderSlip_recentres off hr h,
    fun off _ _ _ hl hc h hs hcdr hcode hg => execCodeGroupSync_up off hl hc h hs hcdr hcode hg,
    fun off _ _ _ _ h => execCdrLock_shows off h,
    fun off _ _ _ _ h163 h162 hc hm ht hk hg hb => execPrbsLock_locks off h163 h162 hc hm ht hk hg hb,
    fun off _ _ _ hd hr he h => execAnRestart_sends off hd hr he h,
    fun off _ _ _ _ hd hw hr h => ⟨_, execAnRestart_down off hd hw hr h, rfl⟩,
    fun off _ base _ he h hs => execAnComplete_shows off base he h hs,
    fun off _ _ hr h => ⟨_, execLaneSelfcheckFail_fails off hr h, rfl⟩,
    fun off _ _ hrole h hl hg hfirst => execCandidateQualified_locks off hrole h hl hg hfirst,
    fun off _ _ hrole h ha hno => execCandidateLoss_holdover off hrole h ha hno,
    fun off _ hrole h => execRrefLoss_holdover off hrole h,
    fun off _ hrole h => execRrefRestore_locks off hrole h,
    fun off s => execLrefLoss_stops off s,
    fun off s => execLrefReturn_shows off s⟩

end Sys2Proof.Machine
end

section
/-!
PROOFS. Channels of the optical engines (R208, R214, R238): what a channel's state that was put leaves of the other channels, what
a channel's retirement on a line engine leaves of the channels' registers, and what the heat of an engine does to its channels.
-/

namespace Sys2Proof.Machine

open Sys2Proof

/-! ### The registers of an engine's channels -/

theorem pageClass_ope (e : Nat) : pageClass (Pg.ope e) = 0xb :=
  (by decide +kernel : ∀ j < 16, pageClass (0x200 + j) = 0xb) (e % 16) (Nat.mod_lt _ (by decide))

/-- No bookkeeping of attention or of vectors stands on an engine's page. -/
theorem apart_ope (e : Nat) : Apart (Pg.ope e) := by
  unfold Apart Pg.ope Pg.flt Pg.fltAtt Pg.pci
  omega

/-- A field among the registers of the eight channels, CH_CTL to CH_LEAK (Table OPE-8). -/
abbrev ChannelField (f : Fld) : Prop := 0x100 ≤ f.off ∧ f.off < 0x200

theorem channelField_status {c : Nat} (hc : c < 8) (lo w : Nat) : ChannelField ⟨0x104 + 32 * c, lo, w⟩ :=
  ⟨Nat.le_add_right_of_le (by decide), by simp only; omega⟩

theorem channelField_events {c : Nat} (hc : c < 8) (lo w : Nat) : ChannelField ⟨0x110 + 32 * c, lo, w⟩ :=
  ⟨Nat.le_add_right_of_le (by decide), by simp only; omega⟩

/-- A field of a channel's CH_STATUS set leaves every other register. -/
theorem State.fld_setChStatus_off (s : State) (q lo w x : Nat) {c : Nat} (hc : c < 8) (p : Nat) {f : Fld} (hf : f.off < 4096)
    (h : f.off ≠ 0x104 + 32 * c) : (s.setFld q ⟨0x104 + 32 * c, lo, w⟩ x).fld p f = s.fld p f :=
  State.fld_setFld_off _ _ _ _ _ _ (by simp only; omega) hf h

/-- The state a channel was put into reads back. -/
theorem State.chState_setCh_self (s : State) (e c : Nat) {v : Nat} (h : v < 8) : (s.setCh e c v).chState e c = v :=
  (State.fld_setFld_self _ _ _ _ (by simp only; omega)).trans (Nat.mod_eq_of_lt h)

theorem State.chState_setCh_ne (s : State) (e v : Nat) {c d : Nat} (hc : c < 8) (hd : d < 8) (h : d ≠ c) :
    (s.setCh e c v).chState e d = s.chState e d :=
  State.fld_setChStatus_off s _ 0 3 v hc _ (by simp only; omega) (by simp only; omega)

/-- A channel's own state that was set reads back. -/
theorem State.chan_setChan_self (s : State) (e c : Nat) (x : Chan) : (s.setChan e c x).chan e c = x :=
  (FMap.getD_setC_const s.chans ⟨0, 0⟩ (8 * e + c) x (8 * e + c)).trans (if_pos rfl)

/-- A channel's own state depends on the channels alone. -/
theorem State.chan_congr {s t : State} (h : t.chans = s.chans) (e c : Nat) : t.chan e c = s.chan e c := by
  unfold State.chan
  rw [h]

theorem State.setCh_chans (s : State) (e c v : Nat) : (s.setCh e c v).chans = s.chans := rfl

theorem State.chState_at (s : State) (off e c : Nat) : (s.at off).chState e c = s.chState e c := s.fld_at off _ _

theorem State.chan_at (s : State) (off e c : Nat) : (s.at off).chan e c = s.chan e c :=
  State.chan_congr (s.at_chans off) e c

/-! ### Retirement on a line engine (R214, R217) -/

section

variable (s : State) (e : Nat) {f : Fld} (h : ChannelField f)
include h

theorem State.fld_syncSubRetired : (s.syncSubRetired e).fld (Pg.ope e) f = s.fld (Pg.ope e) f :=
  State.fld_setSubRetired _ _ _ _ _ ⟨by omega, apart_ope e⟩

theorem State.fld_syncLaserOk : (s.syncLaserOk e).fld (Pg.ope e) f = s.fld (Pg.ope e) f :=
  State.fld_setFld_off _ _ _ _ _ _ (by decide) (by omega) (by simp only; omega)

theorem State.fld_aprLeave (g : Nat) : (s.aprLeave e g).fld (Pg.ope e) f = s.fld (Pg.ope e) f := by
  have hset : ∀ (t : State) (o lo w : Nat), o < 0x100 → (t.setFld (Pg.ope e) ⟨o, lo, w⟩ 0).fld (Pg.ope e) f =
      t.fld (Pg.ope e) f := fun t o lo w ho =>
    State.fld_setFld_off t _ ⟨o, lo, w⟩ _ _ _ (by simp only; omega) (by omega) (by simp only; omega)
  unfold State.aprLeave
  split
  · rw [State.fld_raiseIrq _ _ _ _ _ (by omega) (by omega) (by omega), hset _ _ _ _ (by decide), hset _ _ _ _ (by decide),
      hset _ _ _ _ (by decide)]
  · rfl

omit h in
/-- Signal lost on a lane writes the pages of the lane and of its port. -/
theorem State.fld_signalLoss_ope (l : Nat) : (s.signalLoss l).fld (Pg.ope e) f = s.fld (Pg.ope e) f :=
  (State.signalLoss_keeps (M := 0x46040000009202) (.refl _ s) rfl).fld (by rw [pageClass_ope]; decide) f

end

/-- CH_STATUS of a channel that retires: RETIRED, its reason, not LOCKED. -/
def State.markRetired (s : State) (reason e c : Nat) : State :=
  ((s.setCh e c C.retired).setFld (Pg.ope e) (F.OPE_CH_STATUS_b8 c) reason).setFld (Pg.ope e) (F.OPE_CH_STATUS_LOCKED c) 0

/-- What follows the mark, on a line engine, leaves the channels' registers. -/
theorem State.fld_chRetire_line {s : State} {e c : Nat} (hl : isLineEngine e = true) (hs : s.chState e c ≠ C.retired)
    (reason : Nat) {f : Fld} (h : ChannelField f) :
    (s.chRetire reason e c).fld (Pg.ope e) f = (s.markRetired reason e c).fld (Pg.ope e) f := by
  have hirq : ∀ t : State, (t.raiseIrq (Pg.ope e) 5).fld (Pg.ope e) f = t.fld (Pg.ope e) f := fun t =>
    State.fld_raiseIrq t _ _ _ _ (by omega) (by omega) (by omega)
  unfold State.chRetire
  rw [if_neg hs]
  dsimp only
  rw [if_pos hl]
  simp only [State.fld_ite, State.fld_signalLoss_ope, State.fld_aprLeave _ _ h, State.fld_syncLaserOk _ _ h,
    State.fld_syncSubRetired _ _ h, hirq, ite_self]
  rfl

section

variable {s : State} {e c : Nat} (hl : isLineEngine e = true) (hs : s.chState e c ≠ C.retired) (hc : c < 8) (reason : Nat)
include hl hs hc

theorem State.chState_chRetire_self : (s.chRetire reason e c).chState e c = C.retired := by
  refine (State.fld_chRetire_line hl hs reason (channelField_status hc 0 3)).trans ?_
  unfold State.markRetired
  rw [State.fld_setFld_bits _ _ _ _ _ _ (by simp), State.fld_setFld_bits _ _ _ _ _ _ (by simp)]
  exact State.chState_setCh_self s e c (by decide)

theorem State.reason_chRetire (hr : reason < 256) :
    (s.chRetire reason e c).fld (Pg.ope e) (F.OPE_CH_STATUS_b8 c) = reason := by
  rw [State.fld_chRetire_line hl hs reason (channelField_status hc 8 8)]
  unfold State.markRetired
  rw [State.fld_setFld_bits _ _ _ _ _ _ (by simp), State.fld_setFld_self _ _ _ _ (by simp)]
  exact Nat.mod_eq_of_lt hr

theorem State.chState_chRetire_ne {d : Nat} (hd : d < 8) (h : d ≠ c) :
    (s.chRetire reason e c).chState e d = s.chState e d := by
  refine (State.fld_chRetire_line hl hs reason (channelField_status hd 0 3)).trans ?_
  unfold State.markRetired
  have hf : 0x104 + 32 * d < 4096 := by omega
  have hne : 0x104 + 32 * d ≠ 0x104 + 32 * c := by omega
  rw [State.fld_setChStatus_off _ _ _ _ _ hc _ hf hne, State.fld_setChStatus_off _ _ _ _ _ hc _ hf hne]
  exact State.chState_setCh_ne s e _ hc hd h

end

/-- A retirement leaves what the channels keep beside their registers. -/
theorem State.chRetire_chans (s : State) (reason e c : Nat) : (s.chRetire reason e c).chans = s.chans :=
  (State.chRetire_keeps (M := 0x10024e16000140d602) (.refl _ s) rfl).chans rfl

/-! ### LOCK_FAILURE (R208) -/

section

variable {off : Nat} {e : Engine} {c : Channel} {s : State} (h : s.chState e.val c.val = C.locking)
include h

/-- The third failure in a row: the number noted starts afresh and the channel retires. -/
theorem execLockFailure_third (hn : 2 ≤ (s.chan e.val c.val).lockFails) : execLockFailure off e c s =
    .next (((s.at off).setChan e.val c.val { s.chan e.val c.val with lockFails := 0 }).chRetire Reason.lockFail e.val c.val) := by
  unfold execLockFailure
  dsimp only
  rw [State.chState_at, State.chan_at, if_pos h, if_pos (by omega)]

/-- An earlier failure: it is noted and the channel is WARMING again. -/
theorem execLockFailure_earlier (hn : (s.chan e.val c.val).lockFails < 2) : execLockFailure off e c s =
    .next (((s.at off).setChan e.val c.val { s.chan e.val c.val with lockFails := (s.chan e.val c.val).lockFails + 1 }).setCh
      e.val c.val C.warming) := by
  unfold execLockFailure
  dsimp only
  rw [State.chState_at, State.chan_at, if_pos h, if_neg (by omega)]

end

/-- Settles O51: the retirement's law for the third failure, the state put to WARMING for an earlier one. -/
theorem thirdLockFailureRetires : Obligations.ThirdLockFailureRetires := by
  unfold Obligations.ThirdLockFailureRetires
  have hat : ∀ (s : State) (off e c : Nat) (x : Chan) (d : Nat), ((s.at off).setChan e c x).chState e d = s.chState e d :=
    fun s off e _ _ d => s.chState_at off e d
  refine ⟨fun off e c s hl _ h hn => ?third, fun off e c s _ _ h hn => ?earlier⟩
  case third =>
    have hs : ((s.at off).setChan e.val c.val { s.chan e.val c.val with lockFails := 0 }).chState e.val c.val ≠ C.retired := by
      rw [hat, h]
      decide
    refine ⟨_, execLockFailure_third h hn, State.chState_chRetire_self hl hs c.isLt _,
      State.reason_chRetire hl hs c.isLt _ (by decide), ?_, fun d hd hne => ?_⟩
    · rw [State.chan_congr (State.chRetire_chans _ _ _ _), State.chan_setChan_self]
    · rw [State.chState_chRetire_ne hl hs c.isLt _ hd hne, hat]
  case earlier =>
    refine ⟨_, execLockFailure_earlier h hn, State.chState_setCh_self _ _ _ (by decide), ?_, fun d hd hne => ?_⟩
    · rw [State.chan_congr (State.setCh_chans _ _ _ _), State.chan_setChan_self]
    · rw [State.chState_setCh_ne _ _ _ c.isLt hd hne, hat]

/-! ### An engine over temperature (R238) -/

/-- The state of a channel once its engine is too hot. -/
def heated (v : Nat) : Nat := if v = C.off ∨ v = C.retired then v else C.thermal

theorem heated_heated (v : Nat) : heated (heated v) = heated v := by
  by_cases h : v = C.off ∨ v = C.retired
  · simp only [heated, if_pos h]
  · simp only [heated, if_neg h]
    rfl

/-- A channel of an engine that is too hot: THERMAL, if it runs. -/
def State.heat (e : Nat) (s : State) (c : Nat) : State :=
  if s.chState e c = C.off || s.chState e c = C.retired then s else s.setCh e c C.thermal

section

variable (e : Nat) {c : Nat}

theorem State.heat_chans (s : State) : (State.heat e s c).chans = s.chans := by
  unfold State.heat
  split <;> rfl

theorem State.fld_heat (s : State) (hc : c < 8) (p : Nat) {f : Fld} (hf : f.off < 4096) (h : f.off ≠ 0x104 + 32 * c) :
    (State.heat e s c).fld p f = s.fld p f := by
  unfold State.heat
  split
  · rfl
  · exact State.fld_setChStatus_off s _ 0 3 _ hc p hf h

theorem State.chState_heat_self (s : State) : (State.heat e s c).chState e c = heated (s.chState e c) := by
  unfold State.heat heated
  simp only [Bool.or_eq_true, decide_eq_true_eq]
  split
  · rfl
  · exact State.chState_setCh_self s e c (by decide)

theorem State.chState_heat_ne (s : State) {d : Nat} (hc : c < 8) (hd : d < 8) (h : d ≠ c) :
    (State.heat e s c).chState e d = s.chState e d :=
  State.fld_heat e s hc _ (by simp only; omega) (by simp only; omega)

/-- Channels heated one after another leave what the channels keep beside their registers. -/
theorem State.foldl_heat_chans (l : List Nat) (s : State) : (l.foldl (State.heat e) s).chans = s.chans := by
  induction l generalizing s with
  | nil => rfl
  | cons x l ih => exact (ih _).trans (State.heat_chans e s)

/-- Channels heated one after another leave every register but their CH_STATUS. -/
theorem State.fld_foldl_heat (l : List Nat) (s : State) (hl : ∀ x ∈ l, x < 8) (p : Nat) {f : Fld} (hf : f.off < 4096)
    (h : ∀ x ∈ l, f.off ≠ 0x104 + 32 * x) : (l.foldl (State.heat e) s).fld p f = s.fld p f := by
  induction l generalizing s with
  | nil => rfl
  | cons x l ih =>
    obtain ⟨hx, hl⟩ := List.forall_mem_cons.mp hl
    obtain ⟨hfx, h⟩ := List.forall_mem_cons.mp h
    exact (ih _ hl h).trans (State.fld_heat e s hx p hf hfx)

/-- Each of the channels is heated, in any order and however often. -/
theorem State.chState_foldl_heat (l : List Nat) (s : State) (hl : ∀ x ∈ l, x < 8) (hc : c < 8) :
    (l.foldl (State.heat e) s).chState e c = if c ∈ l then heated (s.chState e c) else s.chState e c := by
  induction l generalizing s with
  | nil => rfl
  | cons x l ih =>
    obtain ⟨hx, hl⟩ := List.forall_mem_cons.mp hl
    rw [List.foldl_cons, ih _ hl]
    by_cases hcx : c = x
    · subst hcx
      rw [State.chState_heat_self, heated_heated, ite_self, if_pos List.mem_cons_self]
    · rw [State.chState_heat_ne e s hx hc hcx]
      simp only [List.mem_cons, hcx, false_or]

end

theorem lt_of_mem_channelsOf {e c : Nat} (h : c ∈ channelsOf e) : c < 8 := by
  unfold channelsOf at h
  have := List.mem_range.mp h
  split at this <;> omega

/-- Above 95 degrees each channel of the engine is heated, after the reading is shown. -/
theorem execEngineOverTemp_heats (off : Nat) (e : Engine) {temp : BitVec 16} (s : State) (h : 760 < signed 16 temp.toNat) :
    execEngineOverTemp off e temp s =
      .next ((channelsOf e.val).foldl (State.heat e.val) ((s.at off).setFld (Pg.ope e.val) F.OPE_TEMP temp.toNat)) := by
  unfold execEngineOverTemp
  dsimp only
  rw [if_pos h]
  rfl

/-- Settles O52: the heat writes CH_STATUS of the channels alone. -/
theorem overTemperatureRetiresNothing : Obligations.OverTemperatureRetiresNothing := by
  unfold Obligations.OverTemperatureRetiresNothing
  intro off e temp s h
  have hshown : ∀ f : Fld, ChannelField f → ((s.at off).setFld (Pg.ope e.val) F.OPE_TEMP temp.toNat).fld (Pg.ope e.val) f =
      s.fld (Pg.ope e.val) f := fun f hf => by
    rw [State.fld_setFld_off _ _ _ _ _ _ (by decide) (by omega) (by simp only; omega), State.fld_at]
  have hlt : ∀ x ∈ channelsOf e.val, x < 8 := fun _ => lt_of_mem_channelsOf
  refine ⟨_, execEngineOverTemp_heats off e s h, ?chans, fun c hc => ⟨?events, ?state⟩⟩
  case chans => exact (State.foldl_heat_chans _ _ _).trans (s.at_chans off)
  case events =>
    have hc8 := hlt c hc
    rw [State.fld_foldl_heat _ _ _ hlt _ (by simp only; omega) (fun x _ => by simp only; omega),
      hshown _ (channelField_events hc8 0 16)]
  case state =>
    have hc8 := hlt c hc
    have hs : ((s.at off).setFld (Pg.ope e.val) F.OPE_TEMP temp.toNat).chState e.val c = s.chState e.val c :=
      hshown _ (channelField_status hc8 0 3)
    rw [State.chState_foldl_heat _ _ _ hlt hc8, if_pos hc, hs]
    rfl

end Sys2Proof.Machine
end

section
/-!
PROOFS. The Sump's captures and S2 (R281, R287, R351): what a release leaves of the captures and what it frees, and S2's parse of
the head of its queue.
-/

namespace Sys2Proof.Machine

open Sys2Proof

/-! ### A capture past its time -/

/-- The capture `n` is lost (R351); its hold is still to be given back. -/
def State.loseCapture (s : State) (n : Nat) : State :=
  (s.pipeMap (fun p => { p with captures := p.captures.eraseIdx n })).captureLost

/-- The hold of a capture given back, where it has one (R281). -/
def State.releaseOf (s : State) (o : Option Nat) : State := o.elim s s.release

section

variable {s : State}

theorem State.release_captures (s : State) (id : Nat) : (s.release id).pipe.captures = s.pipe.captures := by
  unfold State.release
  split
  · split
    · rw [State.syncCells_pipe]
      rfl
    · rfl
  · rfl

/-- With its last holder done a frame is no longer in the pipeline. -/
theorem State.frame?_release_last {id : Nat} {f : Frame} (hf : s.frame? id = some f) (hh : f.holds ≤ 1) :
    (s.release id).frame? id = none := by
  unfold State.release
  rw [hf]
  dsimp only
  rw [if_pos hh, State.frame?, State.syncCells_pipe]
  exact (FMap.get?_erase _ _ _).trans (if_pos rfl)

theorem State.releaseOf_captures (s : State) (o : Option Nat) : (s.releaseOf o).pipe.captures = s.pipe.captures := by
  cases o with
  | none => rfl
  | some id => exact s.release_captures id

/-- A hold given back changes the pipeline and S0's registers alone. -/
theorem State.releaseOf_keeps (s : State) (o : Option Nat) : Keeps 0x200000000400002 s (s.releaseOf o) := by
  cases o with
  | none => exact .refl _ s
  | some id => exact State.release_keeps (.refl _ s) rfl

theorem State.fld_captureLost (s : State) : s.captureLost.fld Pg.smp F.SMP_CAP_LOST =
    min (s.fld Pg.smp F.SMP_CAP_LOST + 1) (2 ^ F.SMP_CAP_LOST.w - 1) := by
  unfold State.captureLost
  rw [State.fld_raiseIrq _ _ _ _ _ (by decide) (by decide) (by decide), State.fld_incFld_self _ _ _ _ (by decide)]

theorem State.irq_captureLost (s : State) : s.captureLost.fld Pg.smp ⟨0x020, 1, 1⟩ = 1 :=
  State.irq_raiseIrq _ _ _ (by decide)

theorem execCaptureDeadline_loses {off n : Nat} {c : Capture} (hc : s.pipe.captures[n]? = some c)
    (hl : c.deadline ≤ (s.at off).count) :
    execCaptureDeadline off n s = .next (((s.at off).loseCapture n).releaseOf c.frame) := by
  unfold execCaptureDeadline
  dsimp only
  rw [State.at_pipe, hc]
  dsimp only
  rw [if_pos hl]
  cases c.frame <;> rfl

/-! ### S2 -/

/-- S2 parses the head of its queue, recognises PTP, counts the flags, offers the frame at FT1 and hands it on (R287, R310). -/
theorem execParseFrame_parses {off : Nat} {i : Pipe} {id tpid : Nat} {rest : List Nat} {p : Parse} {o : Option Nat} {u : State}
    (hq : s.queue i.val 2 = id :: rest) (ht : tpid = s.inForce (Pg.stg i.val 2) F.STG_S2_TPID)
    (hp : p = parseBytes tpid (s.frame id).bytes)
    (hu : ((s.at off).takeHead i.val 2).ptpParse (s.frame id) p tpid = (o, u)) :
    execParseFrame off i s = .next ((((u.setFrame id { s.frame id with parse := { p with ptp := o } }).countFlags i.val
      p.flags).offer 0 id).handOn i.val 2 id) := by
  subst ht hp
  unfold execParseFrame
  dsimp only
  rw [State.queue_at, hq]
  dsimp only
  rw [State.frame_at, State.inForce_at, hu]

end

/-! ### The statement -/

/-- Settles O10: the release of a capture's hold leaves the Sump's page and the captures, and the parse is one path. -/
theorem captureAndParseComplete : Obligations.CaptureAndParseComplete := by
  refine ⟨?lost, ?freed, ?parsed⟩
  case lost =>
    intro off n c s hc hl
    have hfld : ∀ f, (((s.at off).loseCapture n).releaseOf c.frame).fld Pg.smp f = ((s.at off).loseCapture n).fld Pg.smp f :=
      (State.releaseOf_keeps _ _).fld (by decide)
    refine ⟨_, execCaptureDeadline_loses hc hl, ?_, ?_, ?_⟩
    · rw [hfld, State.loseCapture, State.fld_captureLost, State.fld_pipeMap, State.fld_at]
    · rw [State.releaseOf_captures, State.loseCapture, State.captureLost_pipe]
      exact congrArg (fun p : Pipeline => p.captures.eraseIdx n) (s.at_pipe off)
    · rw [hfld, State.loseCapture, State.irq_captureLost]
  case freed =>
    intro off n id c f s hc hl hid hf hh
    refine ⟨_, execCaptureDeadline_loses hc hl, ?_⟩
    rw [hid]
    refine State.frame?_release_last (f := f) ?_ hh
    rw [State.frame?, State.loseCapture, State.captureLost_pipe]
    exact (congrArg (fun p : Pipeline => FMap.get? p.frames id) (s.at_pipe off)).trans hf
  case parsed => exact fun off i id rest s u o hq hu => ⟨_, execParseFrame_parses hq rfl rfl hu, rfl⟩

end Sys2Proof.Machine
end

section
/-!
PROOFS. Stage S3 (R289 to R296, R304, R311, R312, R316, R323, R326): what finding a clock leaves, S3's answer to a lookup and to a
bucket read, idle records, annotations and the clear of the table.
-/

namespace Sys2Proof.Machine

open Sys2Proof

/-! ### What finding a clock leaves -/

theorem State.queue_updateClock (s : State) (b : Bool) (i n : Nat) : (s.updateClock b).queue i n = s.queue i n := by
  have hpipe : (s.updateClock b).pipe = s.pipe := (State.updateClock_keeps (M := 0x800) (.refl _ s) rfl).pipe rfl
  unfold State.queue
  rw [hpipe]

/-- A record's slot is read from DDR, at an address from the values in force. -/
theorem State.slotRec_congr {s t : State} (hd : t.ddr = s.ddr) (hf : t.force = s.force) (k : Nat) :
    t.slotRec k = s.slotRec k := by
  unfold State.slotRec State.slotAddr State.ftBase State.ftSize State.inForce State.regInForce
  rw [hd, hf]

/-! ### A lookup -/

/-- A frame waits on its key's pending bucket read (R291). -/
def State.joinMiss (s : State) (key id : Nat) : State :=
  s.pipeMap (fun x => { x with
    misses := x.misses.map (fun m => if m.key = key then { m with frames := m.frames ++ [id] } else m) })

/-- A frame whose record is not in the cache (R291, R293, R295, R323). -/
def State.lookupMissed (s : State) (i id key : Nat) : State :=
  if s.pipe.misses.any (fun m => m.key = key) then s.joinMiss key id
  else if s.cacheOnly then (s.tryCreate id key (keyHash key) none).leaveFlow id
  else if (s.freeWay (keyHash key)).isNone then (s.incFld (Pg.stg i 3) F.STG_FT_PIN_PIN_FULL).leaveFlow id
  else if 512 ≤ s.pipe.misses.length then (s.incFld (Pg.stg i 3) F.STG_FT_LATE_MISS_BUSY).leaveFlow id
  else (s.incFld (Pg.stg i 3) F.STG_FT_MISSES).pipeMap (fun x => { x with
    misses := x.misses ++ [⟨key, keyHash key, [id], s.count⟩] })

/-- S3's answer for a frame, by its key and the cache (R289, R291). -/
def State.lookup (s : State) (i id : Nat) : State :=
  match flowKey (s.frame id) with
  | none => s.leaveFlow id
  | some key =>
    match s.cacheFind key (keyHash key) with
    | some (n, e) => ((s.incFld (Pg.stg i 3) F.STG_FT_HITS).hit id n e).leaveFlow id
    | none => s.lookupMissed i id key

section

variable {s : State} {i id : Nat}

/-- The head of S3's queue is taken at the count found for the update; an update of P1 is noted at it. -/
theorem State.takeHead_noteP1_count (s : State) (c : Prop) [Decidable c] (i n : Nat) :
    ((if c then s.noteP1 else s).takeHead i n).count = s.count :=
  (State.takeHead_keeps (M := 0x202000000400202) ((State.noteP1_keeps (.refl _ s) rfl).ite (.refl _ s)) rfl).count rfl

theorem State.lookup_noKey (hk : flowKey (s.frame id) = none) : s.lookup i id = s.leaveFlow id := by
  unfold State.lookup
  rw [hk]

theorem State.lookup_hit {key n : Nat} {e : CacheEntry} (hk : flowKey (s.frame id) = some key)
    (hc : s.cacheFind key (keyHash key) = some (n, e)) :
    s.lookup i id = ((s.incFld (Pg.stg i 3) F.STG_FT_HITS).hit id n e).leaveFlow id := by
  unfold State.lookup
  rw [hk]
  dsimp only
  rw [hc]

theorem State.lookup_missed {key : Nat} (hk : flowKey (s.frame id) = some key)
    (hc : s.cacheFind key (keyHash key) = none) : s.lookup i id = s.lookupMissed i id key := by
  unfold State.lookup
  rw [hk]
  dsimp only
  rw [hc]

theorem State.lookupMissed_pending {key : Nat} (hm : ∃ m ∈ s.pipe.misses, m.key = key) :
    s.lookupMissed i id key = s.joinMiss key id := by
  obtain ⟨m, hm, hk⟩ := hm
  exact if_pos (List.any_eq_true.mpr ⟨m, hm, decide_eq_true hk⟩)

/-- A bucket read begins where none is pending for the key, and the key has a way and a pending-miss entry to take (R291). -/
theorem State.lookupMissed_reads {key : Nat} (hm : ∀ m ∈ s.pipe.misses, m.key ≠ key) (ho : s.cacheOnly = false)
    (hf : s.freeWay (keyHash key) ≠ none) (hl : s.pipe.misses.length < 512) :
    (s.lookupMissed i id key).pipe.misses = s.pipe.misses ++ [⟨key, keyHash key, [id], s.count⟩] := by
  have hany : ¬ s.pipe.misses.any (fun m => m.key = key) = true := by
    simpa only [List.any_eq_true, decide_eq_true_eq, not_exists, not_and] using hm
  unfold State.lookupMissed
  rw [if_neg hany, ho, if_neg Bool.false_ne_true, if_neg (by rwa [Option.isNone_iff_eq_none]), if_neg (Nat.not_le.mpr hl)]
  rfl

end

section

variable {s : State} {off : Nat} {i : Pipe} {id : Nat} {rest : List Nat}

/-- S3 answers the head of its queue where the turn has a clock for the update (R43, R291, R314 to R316). -/
theorem execFlowLookup_answers {u w : State} (hu : u = (s.at off).updateClock (i.val = 0))
    (hn : (s.at off).updateWaits (i.val = 0) = false) (hq : s.queue i.val 3 = id :: rest)
    (hw : w = (if i.val = 1 then u.noteP1 else u).takeHead i.val 3) :
    execFlowLookup off i s = .next (w.lookup i.val id) := by
  unfold execFlowLookup
  dsimp only
  rw [State.queue_updateClock, State.queue_at, hq]
  dsimp only
  rw [hn, if_neg Bool.false_ne_true, ← hu, ← hw]
  unfold State.lookup
  cases flowKey (w.frame id) with
  | none => rfl
  | some key =>
    dsimp only
    cases w.cacheFind key (keyHash key) with
    | some x => rfl
    | none =>
      unfold State.lookupMissed
      simp only [apply_ite Host.Outcome.next]
      rfl

/-- A lookup for which the turn has no clock left is not served (R43, log entry 117). -/
theorem execFlowLookup_waits (hn : (s.at off).updateWaits (i.val = 0) = true) (hq : s.queue i.val 3 ≠ []) :
    execFlowLookup off i s = .next (s.at off) := by
  obtain ⟨id, rest, hq⟩ := List.exists_cons_of_ne_nil hq
  unfold execFlowLookup
  dsimp only
  rw [State.queue_updateClock, State.queue_at, hq]
  exact if_pos hn

end

/-! ### A bucket read that returns -/

/-- A bucket's read may be answered: the turn has a clock left for the updates, and no row of the bucket is being copied or poisoned
(R43, R541). -/
structure Readable (s : State) (m : Miss) : Prop where
  clock : s.updateWaits (s.missOf m 0) = false
  busy : s.ddrBusy (s.slotAddr (8 * s.bucketOf m.hash)) 1024 = false
  poison : s.ddrPoison (s.slotAddr (8 * s.bucketOf m.hash)) 1024 = false

/-- The slot of a miss's bucket that holds its key (R290). -/
def State.slotOfMiss (s : State) (m : Miss) : Option Nat :=
  (s.slotsOf m.hash).find? (fun k => (s.slotRec k).valid && (s.slotRec k).key = m.key)

/-- The waiting frames of a returned miss are served in order. -/
def State.serveWaiting (s : State) (m : Miss) : State := m.frames.foldl (State.serveMiss m) s

/-- What the frames of a returned miss meet: the cache alone while S3 runs cache-only, else the cache with the record that the
bucket holds, if any (R291, R293, R295, R323). -/
def State.missReturned (s : State) (m : Miss) : State :=
  if s.cacheOnly then s.serveWaiting m
  else match s.slotOfMiss m with
    | none => s.serveWaiting m
    | some k => match s.install m.hash (s.slotRec k) (some k) false with
      | some (_, t) => t.serveWaiting m
      | none => s.dropMiss m.frames F.STG_FT_PIN_PIN_FULL none

section

variable {s : State} {off n : Nat} {m : Miss}

/-- A miss taken from the list, at the count found for its frames' updates, leaves the table's slots as they read. -/
theorem State.slotRec_missTaken (s : State) (b : Bool) (c : Prop) [Decidable c] (g : Pipeline → Pipeline) (k : Nat) :
    ((if c then (s.updateClock b).noteP1 else s.updateClock b).pipeMap g).slotRec k = s.slotRec k := by
  have hu : Keeps 0x400800 s (s.updateClock b) := State.updateClock_keeps (.refl _ s) rfl
  have hkeep : Keeps 0x400800 s ((if c then (s.updateClock b).noteP1 else s.updateClock b).pipeMap g) :=
    State.pipeMap_keeps ((State.noteP1_keeps hu rfl).ite hu) rfl
  exact State.slotRec_congr (hkeep.ddr rfl) (hkeep.force rfl) k

theorem State.missReturned_cacheOnly (ho : s.cacheOnly = true) : s.missReturned m = s.serveWaiting m := if_pos ho

theorem State.missReturned_absent (h : s.slotOfMiss m = none) : s.missReturned m = s.serveWaiting m := by
  unfold State.missReturned
  rw [h]
  exact ite_self _

theorem State.missReturned_found {k w : Nat} {t : State} (ho : s.cacheOnly = false) (hk : s.slotOfMiss m = some k)
    (hi : s.install m.hash (s.slotRec k) (some k) false = some (w, t)) : s.missReturned m = t.serveWaiting m := by
  unfold State.missReturned
  rw [ho, if_neg Bool.false_ne_true, hk]
  dsimp only
  rw [hi]

/-- The read of a pending miss returns: the miss leaves the list, and its frames are answered (R291, R293). -/
theorem execFlowMissReturn_answers {v w : State} (hm : s.pipe.misses[n]? = some m)
    (hv : v = (s.at off).updateClock ((s.at off).missOf m 0))
    (hw : w = (if (s.at off).missOf m 1 then v.noteP1 else v).pipeMap (fun p => { p with misses := p.misses.eraseIdx n }))
    (hr : Readable (s.at off) m) : execFlowMissReturn off n false s = .next (w.missReturned m) := by
  obtain ⟨hclock, hbusy, hpoison⟩ := hr
  unfold execFlowMissReturn
  dsimp only
  rw [State.at_pipe, hm]
  dsimp only
  rw [hbusy, hclock, hpoison, Bool.or_self, if_neg Bool.false_ne_true, if_neg Bool.false_ne_true, ← hv, ← hw]
  unfold State.missReturned State.slotOfMiss
  rw [apply_ite Host.Outcome.next]
  refine ite_congr rfl (fun _ => rfl) fun _ => ?_
  cases (w.slotsOf m.hash).find? (fun k => (w.slotRec k).valid && (w.slotRec k).key = m.key) with
  | none => rfl
  | some k =>
    dsimp only
    cases w.install m.hash (w.slotRec k) (some k) false <;> rfl

/-- Past MISS_LIMIT the waiting frames go on, and the read stays pending without them (R312). -/
theorem execMissLate_drops (hm : s.pipe.misses[n]? = some m)
    (hl : m.since + s.inForce ftPage F.STG_FT_MISS_LIMIT ≤ (s.at off).count) :
    execMissLate off n s = .next (((s.at off).pipeMap (fun p =>
      { p with misses := p.misses.set n { m with frames := [] } })).dropMiss m.frames F.STG_FT_LATE_MISS_LATE (some 9)) := by
  unfold execMissLate
  dsimp only
  rw [State.at_pipe, hm]
  dsimp only
  rw [State.inForce_at, if_pos hl]

end

/-! ### The statement of lookups -/

/-- Settles O11: a law for each case of a lookup and of a bucket read's return, in the state with the head, or the miss, taken. -/
theorem flowLookupsComplete : Obligations.FlowLookupsComplete := by
  refine ⟨?hit, ?noKey, ?reads, ?joins, ?absent, ?found, ?cacheOnly, ?waits, ?late⟩
  case hit =>
    intro off i id rest s u w key n e hu hn hq hw hk hc
    exact ⟨_, execFlowLookup_answers hu hn hq hw, State.lookup_hit hk hc⟩
  case noKey =>
    intro off i id rest s u w hu hn hq hw hk
    exact ⟨_, execFlowLookup_answers hu hn hq hw, State.lookup_noKey hk⟩
  case reads =>
    intro off i id rest s u w key hu hn hq hw hk hc hm ho hf hl
    have hcount : w.count = u.count := hw ▸ u.takeHead_noteP1_count _ _ _
    refine ⟨_, execFlowLookup_answers hu hn hq hw, ?_⟩
    rw [State.lookup_missed hk hc, State.lookupMissed_reads hm ho hf hl, hcount]
  case joins =>
    intro off i id rest s u w key hu hn hq hw hk hc hm
    refine ⟨_, execFlowLookup_answers hu hn hq hw, ?_⟩
    rw [State.lookup_missed hk hc, State.lookupMissed_pending hm]
    rfl
  case absent =>
    intro off n m s v w hm hv hw _ hfind hclock hbusy hpoison
    exact ⟨_, execFlowMissReturn_answers hm hv hw ⟨hclock, hbusy, hpoison⟩, State.missReturned_absent hfind⟩
  case found =>
    intro off n k m x s v w hm hv hw ho hfind hclock hinst hbusy hpoison
    have hrec : w.slotRec k = s.slotRec k := by
      rw [hw, hv, State.slotRec_missTaken, State.slotRec_congr (s.at_ddr off) (s.at_force off)]
    rw [← hrec] at hinst
    exact ⟨_, execFlowMissReturn_answers hm hv hw ⟨hclock, hbusy, hpoison⟩, State.missReturned_found ho hfind hinst⟩
  case cacheOnly =>
    intro off n m s v w hm hv hw ho hclock hbusy hpoison
    exact ⟨_, execFlowMissReturn_answers hm hv hw ⟨hclock, hbusy, hpoison⟩, State.missReturned_cacheOnly ho⟩
  case waits => exact fun off i s hq hn => ⟨_, execFlowLookup_waits hn hq, rfl⟩
  case late => exact fun off n m s hm hl => ⟨_, execMissLate_drops hm hl, rfl⟩

/-! ### Idle records, annotations and the clear of the table -/

section

variable {s t : State}

/-- Pins depend on the frames alone. -/
theorem State.pinned_congr (h : t.pipe.frames = s.pipe.frames) (k : Nat) : t.pinned k = s.pinned k := by
  unfold State.pinned
  rw [h]

/-- The cached record of a handle depends on the cache alone. -/
theorem State.cacheOf_congr (h : t.pipe.cache = s.pipe.cache) (k : Nat) : t.cacheOf k = s.cacheOf k := by
  unfold State.cacheOf
  rw [h]

/-- The sweeper or an annotation leaves the frames and the cache as it comes to them. -/
theorem State.reached_at_frames (s : State) (off : Nat) : (s.at off).reached.pipe.frames = s.pipe.frames := by
  show (s.at off).pipe.frames = s.pipe.frames
  rw [State.at_pipe]

theorem State.reached_at_cache (s : State) (off : Nat) : (s.at off).reached.pipe.cache = s.pipe.cache := by
  show (s.at off).pipe.cache = s.pipe.cache
  rw [State.at_pipe]

/-- A record of a cache way, idle and not pinned, ends with its streams (R296, R304). -/
theorem execRecordExpiry_ends {off n : Nat} {e : CacheEntry} (he : FMap.get? s.pipe.cache n = some e) (hslot : e.slot = none)
    (hv : e.body.valid = true) (hi : (s.at off).idle e.body = true) (hp : s.pinned (handleOf n e) = false) :
    execRecordExpiry off true n s = .next (((((s.at off).reached.endStreams (handleOf n e)).pipeMap (fun p =>
      { p with cache := FMap.erase p.cache n })).incFld ftPage F.STG_FT_EXPIRED).incFld ftPage F.STG_FT_LOSS_EVICT_LOST) := by
  have hi' : (s.at off).reached.idle e.body = true := hi
  unfold execRecordExpiry
  dsimp only
  rw [if_pos rfl, State.reached_at_cache, he]
  dsimp only
  rw [hslot, hv, hi', State.pinned_congr (s.reached_at_frames off), hp]
  rfl

theorem State.annotate_cached {i handle w : Nat} {e : CacheEntry} (hc : s.cacheOf handle = some (w, e))
    (hv : e.body.valid = true) (b : List Nat) (mask : Nat) : s.annotate i handle b mask =
      s.setCache w { e with body := { e.body with annot := maskBytes e.body.annot b mask }, dirty := true } := by
  unfold State.annotate
  rw [hc]
  exact if_pos hv

/-- With FT_INIT written S3 runs cache-only (R323, R326). -/
theorem State.cacheOnly_ftInitWritten (h : s.bit ftPage F.STG_FT_CTL_FT_INIT = true) : s.ftInitWritten.cacheOnly = true := by
  unfold State.ftInitWritten
  rw [h, Bool.true_and]
  cases ho : s.cacheOnly with
  | true => exact ho
  | false =>
    have hset : (s.setFld ftPage F.STG_FT_STATUS 1).bit ftPage F.STG_FT_STATUS = true :=
      State.bit_setFld_self s ftPage true rfl (by decide)
    exact (State.bit_congr (State.fld_raiseIrq _ _ _ _ _ (by decide) (by decide) (by decide))).trans hset

/-- The clear ends with FT_INIT at 0 and its interrupt raised (R326). -/
theorem execFtInitDone_clears {off : Nat} (h : s.bit ftPage F.STG_FT_CTL_FT_INIT = true) :
    ∃ u : State, execFtInitDone off s = .next ((u.setFld ftPage F.STG_FT_CTL_FT_INIT 0).raiseIrq ftPage 11) :=
  ⟨_, if_pos ((s.bit_at off _ _).trans h)⟩

end

/-! ### The statement of records -/

/-- Settles O12, a law of its own for each of the four commands. -/
theorem flowRecordCommandsComplete : Obligations.FlowRecordCommandsComplete := by
  refine ⟨?expiry, ?annotation, ?init, ?done⟩
  case expiry =>
    intro off n e s he hslot hv hi hp
    exact ⟨_, execRecordExpiry_ends he hslot hv hi hp, rfl, (FMap.get?_erase _ _ _).trans (if_pos rfl)⟩
  case annotation =>
    intro off i handle b mask s w e hc hv
    exact ⟨_, rfl, State.annotate_cached ((State.cacheOf_congr (s.reached_at_cache off) _).trans hc) hv _ _⟩
  case init =>
    intro off v s hpage hinit _
    exact ⟨_, congrArg Host.Outcome.next (State.onPage_answers hpage _ _), State.cacheOnly_ftInitWritten hinit⟩
  case done =>
    intro off s h
    obtain ⟨u, hu⟩ := execFtInitDone_clears h
    have hclear : (u.setFld ftPage F.STG_FT_CTL_FT_INIT 0).bit ftPage F.STG_FT_CTL_FT_INIT = false :=
      State.bit_setFld_self u ftPage false rfl (by decide)
    exact ⟨_, hu, (State.bit_congr (State.fld_raiseIrq _ _ _ _ _ (by decide) (by decide) (by decide))).trans hclear,
      State.irq_raiseIrq _ _ _ (by decide)⟩

end Sys2Proof.Machine
end

section
/-!
PROOFS. The tile network and the tiles (R410 to R413, R432, R433, R436, R446, R460, R472, R483): a probe's control register during a
restart, what leaves a tile's own part, the start of an operation and its ends, batches, checks and local-store errors.
-/

namespace Sys2Proof.Machine

open Sys2Proof

set_option Elab.async false

/-! ### A probe during a restart -/

/-- A dropped write changes no field outside page GBL. -/
theorem State.fld_unmapped_page (s : State) (bar c : Nat) {p : Nat} (f : Fld) (hp : p ≠ Pg.gbl) :
    (s.unmapped bar c true).fld p f = s.fld p f := by
  have hne : ∀ o, regKey p f.off ≠ regKey Pg.gbl o := fun o => by unfold regKey; omega
  unfold State.fld
  rw [State.reg_unmapped_ne _ _ _ _ (hne _) fun _ => hne _]

/-- PROBE_ARM where the probe's page does not answer (R143). -/
theorem execProbeArm_dropped {off c : Nat} {i : Fin 16} {s : State} (v : Word) (h : (s.at off).dropCause (Pg.tnp i.val) = some c) :
    execProbeArm off i v s = .next ((s.at off).unmapped (Pg.tnp i.val * 4096 + 0x044) c true) := by
  unfold execProbeArm State.onPage
  rw [h]

/-- Probe 0's page does not answer during a restart; its window is closed, and a write of its CTL would set ARM. -/
theorem restartingDomain_probe : (restartingDomain.at 0).dropCause (Pg.tnp 0) = some 2 ∧
    restartingDomain.fld (Pg.tnp 0) F.TNP_CTL_b31 = 0 ∧
    ((restartingDomain.at 0).write (Pg.tnp 0) 0x044 1).bit (Pg.tnp 0) F.TNP_CTL_ARM = true := by decide +kernel

/-- Refutes O19: PROBE_ARM during a restart is dropped (R143), and the probe's window stays closed. -/
theorem not_networkCommandsComplete : ¬ Obligations.NetworkCommandsComplete := by
  rintro ⟨-, -, -, -, -, probeArm⟩
  obtain ⟨hdrop, hclosed, harm⟩ := restartingDomain_probe
  obtain ⟨t, hrun, hopen⟩ := probeArm 0 0 1 restartingDomain harm
  obtain rfl := Host.Outcome.next.inj ((execProbeArm_dropped 1 hdrop).symm.trans hrun)
  have h1 : ((restartingDomain.at 0).unmapped (Pg.tnp 0 * 4096 + 0x044) 2 true).fld (Pg.tnp 0) F.TNP_CTL_b31 = 1 :=
    (congrArg (fun u : State => u.fld (Pg.tnp 0) F.TNP_CTL_b31) hopen).trans (State.fld_setFld_self _ _ _ 1 (by decide))
  rw [State.fld_unmapped_page _ _ _ _ (by decide), State.fld_at] at h1
  exact absurd (hclosed.symm.trans h1) (by decide)

/-! ### What leaves a tile's own part -/

theorem State.tile_congr {s t : State} (h : t.tiles = s.tiles) (n : Nat) : t.tile n = s.tile n := by
  unfold State.tile
  rw [h]

theorem State.tile_at (s : State) (off n : Nat) : (s.at off).tile n = s.tile n := State.tile_congr (s.at_tiles off) n

theorem State.unit_at (s : State) (off p : Nat) : (s.at off).unit p = s.unit p := s.fld_at off _ _

theorem State.edgeIn_at (s : State) (off n : Nat) : (s.at off).edgeIn n = s.edgeIn n := by
  unfold State.edgeIn
  rw [State.at_net]

theorem State.tile_raiseIrq (s : State) (p b n : Nat) : (s.raiseIrq p b).tile n = s.tile n :=
  State.tile_congr ((State.raiseIrq_keeps (M := writeMask) (.refl _ s) rfl (.all rfl)).tiles rfl) n

/-! ### The start of an operation (R411, R432) -/

section
variable {s : State} {off : Nat} {t : Fin 128}

/-- A VALID slot of an ACTIVE tile that runs nothing begins when it is triggered. -/
theorem State.trigger_starts {t slot : Nat} {batch : Option Nat} (hu : s.unit (Pg.tile t) = uActive)
    (hv : s.bit (Pg.tile t) (F.MTL_PROG_CTL_VALID slot) = true) (hop : (s.tile t).op = none) :
    s.trigger t slot batch = s.startOp t slot batch 0 := by
  unfold State.trigger
  dsimp only
  rw [if_neg (by simp [hu, hv]), hop]
  rfl

/-- START of a slot with trigger 0 triggers it, and reads 0 again. -/
theorem State.progWritten_triggers {t slot : Nat} (hs : s.bit (Pg.tile t) (F.MTL_PROG_CTL_START slot) = true)
    (hm : (s.setFld (Pg.tile t) (F.MTL_PROG_CTL_START slot) 0).trigMode t slot = 0) :
    s.progWritten t slot = (s.setFld (Pg.tile t) (F.MTL_PROG_CTL_START slot) 0).trigger t slot none := by
  unfold State.progWritten
  dsimp only
  rw [if_pos hs, if_pos hm]

theorem execProgStart_written {k : Fin 4} (v : Word) (h : (s.at off).dropCause (Pg.tile t.val) = none) :
    execProgStart off t k v s =
      .next (((s.at off).write (Pg.tile t.val) (0x10C + 16 * k.val) v).progWritten t.val k.val) :=
  congrArg Host.Outcome.next (State.onPage_answers h _ _)

/-- The BATCH packet at the head triggers its slot, for the turn whose low byte it carries. -/
theorem execBatchPacket_triggers {p : Packet} {l : List Packet} (he : s.edgeIn (posOf t.val) = p :: l)
    (hm : ((s.at off).setEdge (posOf t.val) l).trigMode t.val (p.tag % 4) = 1) :
    execBatchPacket off t s = .next (((s.at off).setEdge (posOf t.val) l).trigger t.val (p.tag % 4)
      (some ((s.at off).turn - ((s.at off).turn + 256 - p.aux % 256) % 256))) := by
  unfold execBatchPacket
  dsimp only
  rw [State.edgeIn_at, he]
  exact congrArg Host.Outcome.next (if_pos hm)

/-! ### The end of an operation (R413, R460, R472, R483, R485) -/

/-- An operation whose formats may stand ends with the record of its work. -/
theorem execCpl_ends {node : Word} {work : TileWork} {how : OpEnd} {more : Bool} {o : TileOp} {x : Tile} {f sat flush : Nat}
    (ho : (s.tile t.val).op = some o)
    (hw : tileWork t.val (s.inForce (Pg.lwl 0) F.LWL_EPOCH_ADDR) o.bank (s.tile t.val) work = some (x, f, sat, flush)) :
    execCpl off t node work how more s = .next ((((s.at off).setTile t.val x).recordOp t.val node.toNat f
      (o.spoiled.getD (endStatus how)) sat flush o).nextOp t.val (if more then some o else none)) := by
  unfold execCpl
  dsimp only
  rw [State.tile_at, ho]
  dsimp only
  rw [State.inForce_at, hw]

/-- An operation whose formats may not stand ends FORMAT, its record naming the result format it asked for. -/
theorem execCpl_format {node : Word} {work : TileWork} {how : OpEnd} {more : Bool} {o : TileOp}
    (ho : (s.tile t.val).op = some o)
    (hw : tileWork t.val (s.inForce (Pg.lwl 0) F.LWL_EPOCH_ADDR) o.bank (s.tile t.val) work = none)
    (hf : resultFmt (workFmt work) = true) :
    execCpl off t node work how more s = .next (((s.at off).drawn.recordOp t.val node.toNat (workFmt work) TStat.format 0 0
      o).nextOp t.val (if more then some o else none)) := by
  unfold execCpl
  dsimp only
  rw [State.tile_at, ho]
  dsimp only
  rw [State.inForce_at, hw]
  dsimp only
  rw [if_pos hf]

theorem execOperationTimeout_cuts {o : TileOp} (ho : (s.tile t.val).op = some o) (hb : o.start + o.bound ≤ (s.at off).count) :
    execOperationTimeout off t s = .next (((s.at off).cutOp t.val TStat.timeout o).nextOp t.val none) := by
  unfold execOperationTimeout
  dsimp only
  rw [State.tile_at, ho]
  exact if_pos hb

/-! ### Batches, checks and local-store errors (R410, R433, R446) -/

theorem execScoreClose_closes {b k : Nat} {items : List (Nat × Nat × Nat)} (hr : s.batches.run = some (b, k, items))
    (hc : (s.at off).closeAt ≤ (s.at off).count) :
    execScoreClose off s = .next ({ s.at off with batches := { s.batches with run := none } }.voidItems items) := by
  unfold execScoreClose
  dsimp only
  rw [State.at_batches, hr]
  exact if_pos hc

/-- A due check that matches ends the streak and notes its turn. -/
theorem execKnownAnswerCheck_matches (hu : s.unit (Pg.tile t.val) ∈ [uReady, uActive, uDraining])
    (hd : (s.tile t.val).checked + max 16 ((s.at off).inForce (Pg.tile t.val) F.MTL_CHECK) ≤ (s.at off).turn) :
    execKnownAnswerCheck off t true s =
      .next ((s.at off).setTile t.val { s.tile t.val with streak := 0, checked := (s.at off).turn }) := by
  have hruns : (decide (s.unit (Pg.tile t.val) = uReady) || decide (s.unit (Pg.tile t.val) = uActive) ||
      decide (s.unit (Pg.tile t.val) = uDraining)) = true := by
    simpa [or_assoc] using hu
  unfold execKnownAnswerCheck
  dsimp only
  rw [State.tile_at, State.unit_at, hruns, decide_eq_false (Nat.not_lt.mpr hd)]
  rfl

/-- An uncorrectable error cuts the operation that runs, and retires the tile. -/
theorem execLocalStoreEcc_retires {o : TileOp} {a : State} (ho : (s.tile t.val).op = some o)
    (ha : a = (((s.at off).incFld (Pg.tile t.val) F.MTL_ECC_b16).raiseIrq (Pg.tile t.val) 2).cutOp t.val TStat.storeUncorr o) :
    execLocalStoreEcc off t false s =
      .next ((a.setTile t.val { a.tile t.val with op := none }).retireTile t.val 0x81) := by
  subst ha
  have hop : ((((s.at off).incFld (Pg.tile t.val) F.MTL_ECC_b16).raiseIrq (Pg.tile t.val) 2).tile t.val).op = some o := by
    rw [State.tile_raiseIrq, State.tile_congr (State.incFld_tiles _ _ _ _), State.tile_at, ho]
  unfold execLocalStoreEcc
  dsimp only
  rw [if_neg Bool.false_ne_true, hop]

end

/-! ### The statement -/

/-- Settles O20, a law of its own for each case of the nine commands. -/
theorem tileCommandsComplete : Obligations.TileCommandsComplete := by
  refine ⟨?progStart, ?batch, ?tick, ?cpl, ?format, ?timeout, ?close, ?check, ?corrected, ?uncorrectable⟩
  case progStart =>
    rintro off t k v s w hd rfl hs hm hu hv hop
    exact ⟨_, execProgStart_written v hd, (State.progWritten_triggers hs hm).trans (State.trigger_starts hu hv hop)⟩
  case batch => exact fun off t p l s he hm => ⟨_, execBatchPacket_triggers he hm, rfl⟩
  case tick => exact fun t s hc => ⟨_, if_pos hc, rfl⟩
  case cpl => exact fun off t node work how more o x f sat flush s ho hw => ⟨_, execCpl_ends ho hw, rfl⟩
  case format => exact fun off t node work how more o s ho hw hf => ⟨_, execCpl_format ho hw hf, rfl⟩
  case timeout => exact fun off t o s ho hb => ⟨_, execOperationTimeout_cuts ho hb, rfl⟩
  case close => exact fun off b k items s hr hc => ⟨_, execScoreClose_closes hr hc, rfl⟩
  case check => exact fun off t s hu hd => ⟨_, execKnownAnswerCheck_matches hu hd, rfl⟩
  case corrected => exact fun off t s => ⟨_, rfl, rfl⟩
  case uncorrectable => exact fun off t o s a ho ha => ⟨_, execLocalStoreEcc_retires ho ha, rfl⟩

end Sys2Proof.Machine
end

section
/-!
PROOFS. The Lightwell's table space (R496, R499): what a write of LWL_TBL_DATA holds, and what it notes beside the word where a
crosstalk coefficient misses the coming boundary.
-/

namespace Sys2Proof.Machine

open Sys2Proof

set_option Elab.async false

/-! ### Words of the table space -/

section

variable {s : State}

/-- The table address that moves on is a register alone. -/
theorem State.lwStep_lwl (s : State) : s.lwStep.lwl = s.lwl := by
  unfold State.lwStep
  split
  · exact State.setFld_lwl _ _ _ _
  · rfl

/-- A writable word outside the bank in force takes what its mask lets through (R496). -/
theorem State.lwTableWrite_sets {a : Nat} (ha : s.fld lwlPage F.LWL_TBL_ADDR_b0 = a) (hb : a / 0x4000 ≠ s.lwBank)
    (hm : lwMask a ≠ 0) (v : Word) (size : Nat) :
    s.lwTableWrite v size = (s.setLwWord a (v &&& BitVec.ofNat 32 (lwMask a))).lwStep := by
  subst ha
  unfold State.lwTableWrite
  exact if_neg (by simp [hb, hm])

/-- A coefficient's first write past the commit cut-off notes the word that the coming boundary still takes (R499, R81). -/
theorem State.xtLate_setLwWord_fresh {a : Nat} (hx : isXtWord a = true) (hp : s.pastCutoff = true)
    (hl : FMap.get? s.lwl.xtLate a = none) (v : Word) :
    (s.setLwWord a v).lwl.xtLate = FMap.set s.lwl.xtLate a (FMap.getD s.lwl.table a 0) := by
  have hfresh : (isXtWord a && s.pastCutoff && (FMap.get? s.lwl.xtLate a).isNone) = true := by rw [hx, hp, hl]; rfl
  exact if_pos hfresh

/-- LWL_TABLE_ACCESS writes where the core page answers. -/
theorem execLwlTableAccess_writes {off : Nat} (h : (s.at off).dropCause lwlPage = none) (v : Word) :
    execLwlTableAccess off (some v) s = .next ((s.at off).lwTableWrite v) :=
  congrArg Host.Outcome.next (State.onPage_answers h _ _)

/-- The full-width write of a coefficient past the cut-off leaves its address among the late ones, with the word before. -/
theorem execLwlTableAccess_notesLate {off a : Nat} (hd : (s.at off).dropCause lwlPage = none)
    (ha : s.fld lwlPage F.LWL_TBL_ADDR_b0 = a) (hb : a / 0x4000 ≠ s.lwBank) (hm : lwMask a ≠ 0) (hx : isXtWord a = true)
    (hp : (s.at off).pastCutoff = true) (hl : FMap.get? s.lwl.xtLate a = none) (v : Word) :
    ∃ t : State, execLwlTableAccess off (some v) s = .next t ∧
      FMap.get? t.lwl.xtLate a = some (FMap.getD s.lwl.table a 0) := by
  have haddr : (s.at off).fld lwlPage F.LWL_TBL_ADDR_b0 = a := (s.fld_at off _ _).trans ha
  have hbank : (s.at off).lwBank = s.lwBank := s.fld_at off _ _
  have hlate : FMap.get? (s.at off).lwl.xtLate a = none := by rwa [State.at_lwl]
  refine ⟨_, execLwlTableAccess_writes hd v, ?_⟩
  rw [State.lwTableWrite_sets haddr (hbank ▸ hb) hm, State.lwStep_lwl, State.xtLate_setLwWord_fresh hx hp hlate,
    State.at_lwl, FMap.get?_set, if_pos rfl]

end

/-! ### A coefficient that misses the boundary -/

/-- A running count, and the table address at the first crosstalk coefficient. -/
def addressAtCoefficient : State :=
  State.reset.setFld lwlPage F.LWL_TBL_ADDR_b0 0x8000 |>.wdlMap (fun w => { w with stopped := false })

/-- At the turn's last blk the core page answers, and the coefficient, of neither bank, misses the coming boundary. -/
theorem addressAtCoefficient_late : (addressAtCoefficient.at 65535).dropCause lwlPage = none ∧
    addressAtCoefficient.fld lwlPage F.LWL_TBL_ADDR_b0 = 0x8000 ∧ addressAtCoefficient.lwBank = 0 ∧
    (addressAtCoefficient.at 65535).pastCutoff = true ∧ addressAtCoefficient.lwl.xtLate = [] := by decide +kernel

/-- Refutes O21: a coefficient written past the commit cut-off is held, and the word before it is noted for the coming boundary
(R499), so that more changes than the clause of LWL_TABLE_ACCESS allows. -/
theorem not_lightwellCommandsComplete : ¬ Obligations.LightwellCommandsComplete := by
  rintro ⟨-, -, -, -, -, -, -, -, -, -, -, -, tableAccess⟩
  obtain ⟨hd, ha, hbank, hcut, hnone⟩ := addressAtCoefficient_late
  have hb : 0x8000 / 0x4000 ≠ addressAtCoefficient.lwBank := by rw [hbank]; decide
  have hm : lwMask 0x8000 ≠ 0 := by decide
  obtain ⟨t, hrun, hnoted⟩ := execLwlTableAccess_notesLate hd ha hb hm (by decide) hcut (by rw [hnone]; rfl) 5
  obtain ⟨u, hclaimed, hu⟩ := tableAccess 65535 5 addressAtCoefficient hd (ha.symm ▸ hb) (ha.symm ▸ hm)
  obtain rfl := Host.Outcome.next.inj (hrun.symm.trans hclaimed)
  have hkept : t.lwl.xtLate = [] := by
    rw [hu, State.lwStep_lwl]
    exact (congrArg Lwl.xtLate (State.at_lwl _ _)).trans hnone
  rw [hkept, FMap.get?_nil] at hnoted
  exact Option.some_ne_none _ hnoted.symm

end Sys2Proof.Machine
end

section
/-!
PROOFS. The canonical form (Table REG-2, R534, R733, R751): the reset state has it, and the law `exec_runs` of each command says
that the command keeps it.
-/

namespace Sys2Proof.Machine

open Sys2Proof

/-- Settles O56: at reset every map is empty. -/
theorem resetIsCanonical : Obligations.ResetIsCanonical where
  regs := rfl
  ddr := rfl
  flash := rfl
  direct := rfl
  stores := fun _ he => absurd he List.not_mem_nil

theorem exec_keeps_canonical {i : Instr} {s t : State} (hc : s.Canonical) (h : exec i s = .next t) : t.Canonical := by
  obtain ⟨u, hu, hk⟩ := (exec_runs i s (Nat.or_self (pieceMask (mayChange i)))).run
  obtain rfl : u = t := Host.Outcome.next.inj (hu.symm.trans h)
  exact hk.canon hc

/-- The queue is no part of the canonical form. -/
theorem State.Canonical.withPending {s : State} (hc : s.Canonical) (l : List Instr) :
    ({ s with pending := l } : State).Canonical :=
  (Keeps.set_pending (M := 1) l rfl (.refl _ s)).canon hc

/-- Settles O57: a step is the command in front of the queue, or leaves the state. -/
theorem stepKeepsCanonical : Obligations.StepKeepsCanonical := by
  intro s t hc h
  cases hp : s.pending with
  | nil =>
    obtain rfl : s = t := Host.Outcome.next.inj ((step_nil hp).symm.trans h)
    exact hc
  | cons i rest => exact exec_keeps_canonical (hc.withPending rest) ((step_cons hp).symm.trans h)

end Sys2Proof.Machine
end

section
/-!
PROOFS. The memories (R524 to R563): what the count, the queues and the bookkeeping of errors leave of the Cistern's banks and of
the DDR channels, and the effect of each command of a bank and of a channel.
-/

namespace Sys2Proof.Machine

open Sys2Proof

/-! ### The memories as they are read -/

section
variable (s : State) (off : Nat)

@[simp] theorem State.bank_at (b : Nat) : (s.at off).bank b = s.bank b := by unfold State.at; split <;> rfl

@[simp] theorem State.chan5_at (c : Nat) : (s.at off).chan5 c = s.chan5 c := by unfold State.at; split <;> rfl

@[simp] theorem State.ddrUp_at : (s.at off).ddrUp = s.ddrUp := by unfold State.at; split <;> rfl

@[simp] theorem State.ddrRead_at (a n : Nat) : (s.at off).ddrRead a n = s.ddrRead a n := by unfold State.at; split <;> rfl

@[simp] theorem State.ddrPoison_at (a n : Nat) : (s.at off).ddrPoison a n = s.ddrPoison a n := by
  unfold State.at; split <;> rfl

@[simp] theorem State.ddrBusy_at (a n : Nat) : (s.at off).ddrBusy a n = s.ddrBusy a n := by unfold State.at; split <;> rfl

@[simp] theorem State.ddrGlobal_at (c l : Nat) : (s.at off).ddrGlobal c l = s.ddrGlobal c l := by
  unfold State.at; split <;> rfl

@[simp] theorem State.cstCause_at (b a n : Nat) (w : Bool) : (s.at off).cstCause b a n w = s.cstCause b a n w := by
  unfold State.at; split <;> rfl

@[simp] theorem State.directPoison_at (a n : Nat) : (s.at off).directPoison a n = s.directPoison a n := by
  unfold State.at; split <;> rfl

end

/-- A channel's own part depends on the memories alone. -/
theorem State.chan5_congr {s t : State} (h : t.memory = s.memory) (c : Nat) : t.chan5 c = s.chan5 c := by
  unfold State.chan5
  rw [h]

/-- What is done to the memories depends on the memories alone. -/
theorem State.memMap_congr (s : State) {f g : Memory → Memory} (h : f s.memory = g s.memory) : s.memMap f = s.memMap g := by
  unfold State.memMap
  rw [h]

/-- The mask of every component but the memories (bit 30). -/
def besideMemory : Nat := 0x17ffffffeffbfffffff

@[simp] theorem State.raiseIrq_memory (s : State) (p b : Nat) : (s.raiseIrq p b).memory = s.memory :=
  (State.raiseIrq_keeps (M := besideMemory) (.refl _ s) rfl (.all rfl)).memory rfl

@[simp] theorem State.lastErr_memory (s : State) (c row kind : Nat) : (s.lastErr c row kind).memory = s.memory := rfl

@[simp] theorem State.chan5_setChan5 (s : State) (c : Nat) (x : Chan5) : (s.setChan5 c x).chan5 c = x :=
  (FMap.getD_setC_const s.memory.chans Chan5.zero c x c).trans (if_pos rfl)

/-! ### A bank of the Cistern -/

section
variable {s : State} {off : Nat} {b : Fin 16} {p : Packet} {rest : List Packet}

/-- A read of direct space is answered from the bytes the bank holds (R524, R528). -/
theorem execCisternReadReq_direct (he : s.edgeIn (edgeNode 2 b.val) = p :: rest) (hu : s.unit (Pg.cst b.val) = uActive)
    (ht : p.type = 0) (ha : p.addr / 2 ^ 39 % 2 = 0) (hc : s.cstCause b.val p.addr (64 * (p.aux % 32)) false = none)
    (hf : (s.bank b.val).fills.length < 64) :
    execCisternReadReq off b s = .next ((((s.at off).setEdge (edgeNode 2 b.val) rest).countDirect b.val false).inject
      (p.replyData (Mem.bytes 0 s.memory.direct p.addr (64 * (p.aux % 32)))
        (s.directPoison p.addr (64 * (p.aux % 32))))) := by
  have hdirect : ((s.at off).setEdge (edgeNode 2 b.val) rest).memory = s.memory := s.at_memory off
  have hpoison : ((s.at off).setEdge (edgeNode 2 b.val) rest).directPoison = s.directPoison :=
    funext fun a => funext fun n => s.directPoison_at off a n
  unfold execCisternReadReq
  simp [State.edgeIn_at, State.unit_at, he, hu, ht, ha, hc, Nat.not_le.mpr hf, hdirect, hpoison, -Nat.reducePow]

/-- Where a bank holds nothing and the DDR is not up, a read of an object is answered DDR_DOWN (R524). -/
theorem State.objectRead_down {s : State} {b tag : Nat} {q : Packet} (hb : s.bank b = ⟨[], [], 0, 0⟩) (hd : s.ddrUp = false) :
    s.objectRead b tag (some q) = some (s.cstNack b q Nack.ddrDown) := by
  unfold State.objectRead State.cached
  simp [hb, hd]

theorem execCisternReadReq_objectDown (he : s.edgeIn (edgeNode 2 b.val) = p :: rest)
    (hu : s.unit (Pg.cst b.val) = uActive) (ht : p.type = 0) (ha : p.addr / 2 ^ 39 % 2 = 1)
    (hc : s.cstCause b.val p.addr (64 * (p.aux % 32)) false = none) (hb : s.bank b.val = ⟨[], [], 0, 0⟩)
    (hd : s.ddrUp = false) :
    execCisternReadReq off b s =
      .next (((s.at off).setEdge (edgeNode 2 b.val) rest).cstNack b.val p Nack.ddrDown) := by
  have hread := State.objectRead_down (s := (s.at off).setEdge (edgeNode 2 b.val) rest) (tag := objTag p.addr) (q := p)
    ((s.bank_at off b.val).trans hb) ((s.ddrUp_at off).trans hd)
  unfold execCisternReadReq
  simp [State.edgeIn_at, State.unit_at, he, hu, ht, ha, hc, hb, hread, -Nat.reducePow]

/-- The line of a fill that is not kept only answers the requests attached (R527). -/
theorem execFillReturn_answers {n : Fin 64} {tag a : Nat} {reqs : List Packet}
    (hn : (s.bank b.val).fills[n.val]? = some ⟨tag, reqs, false, a⟩) (hbusy : s.ddrBusy a 1024 = false)
    (hup : s.ddrUp = true) :
    execFillReturn off b n s = .next (reqs.foldl
      (fun (u : State) (p : Packet) => u.inject (answerFrom ⟨tag, s.ddrRead a 1024, s.ddrPoison a 1024, 0⟩ p))
      ((s.at off).setBank b.val { s.bank b.val with fills := (s.bank b.val).fills.eraseIdx n.val })) := by
  unfold execFillReturn
  simp [hn, hbusy, hup]

end

/-! ### The object table -/

section
variable {s : State} {off : Nat}

theorem execObjectTableWrite_answers (v : Word) (hd : (s.at off).dropCause (Pg.cst 0) = none) :
    execObjectTableWrite off v s = .next ((s.at off).tableWrite v) :=
  congrArg Host.Outcome.next (State.onPage_answers hd _ _)

/-- Word 0 of an entry of a weight bank that no tile uses (R532). -/
theorem State.tableWrite_word0 {s : State} {k : Nat} (v : Word) (hk : s.fld (Pg.cst 0) F.CST_TBL_ADDR_b0 = k)
    (hl : (s.fld (Pg.cst 0) F.CST_LIVE >>> (k / 4096)) % 2 = 0) (hw : s.bit (Pg.cst 0) F.CST_TBL_ADDR_WORD = false) :
    s.tableWrite v = (s.memMap (fun m =>
      { m with objects := FMap.setC m.objects k (v.toNat, (FMap.getD s.memory.objects k (0, 0)).2) (0, 0) })).invalidate
        (k / 4096) (k % 4096) := by
  unfold State.tableWrite
  simp [hk, hl, hw]

/-- The table of a weight bank in use takes no write (R532). -/
theorem State.tableWrite_live {s : State} (v : Word)
    (hl : (s.fld (Pg.cst 0) F.CST_LIVE >>> (s.fld (Pg.cst 0) F.CST_TBL_ADDR_b0 / 4096)) % 2 = 1) :
    s.tableWrite v = (s.recordFault (fullPart (Pg.cst 0) 0x04C 2) Cause.rsvdSet).raiseIrq (Pg.cst 0) 3 := by
  unfold State.tableWrite
  exact if_pos hl

end

/-! ### A DDR5 channel -/

section
variable {s : State} {off : Nat} {c : Fin 8}

/-- A read that fails its last retry poisons its line, and its row unit retires (R538). -/
theorem execDdrReadError_failed {row : BitVec 24} {line : Fin 128}
    (hbad : s.ddrGlobal c.val (8192 * row.toNat + 64 * line.val) / 64 ∉ s.memory.badDdr) :
    execDdrReadError off c row line .failed s = .next ((((((s.at off).incFld (Pg.dmc c.val) F.DMC_UE_b0).raiseIrq
      (Pg.dmc c.val) 1).lastErr c.val row.toNat 2).memMap (fun m =>
        { m with badDdr := s.ddrGlobal c.val (8192 * row.toNat + 64 * line.val) / 64 :: m.badDdr })).retireRow c.val
          row.toNat) := by
  unfold execDdrReadError State.ddrError
  dsimp only
  rw [State.ddrGlobal_at]
  refine congrArg (fun t : State => Host.Outcome.next (t.retireRow c.val row.toNat)) (State.memMap_congr _ ?_)
  simp [hbad]

/-- A patrol read without an error, in time (R539). -/
theorem execPatrolScrub_clean (ecs : Word) (hdue : (s.at off).patrolDue c.val = true)
    (ht : (s.at off).count % 65536 ≤ s.inForce (Pg.dmc 0) F.DMC_SCRUB_SCRUB_TMO) :
    execPatrolScrub off c [] ecs s = .next ((s.at off).patrolNext c.val ecs.toNat) := by
  unfold execPatrolScrub
  simp [hdue, ht]

theorem execScrubLate_leaves (ecs : Word) (hdue : (s.at off).patrolDue c.val = true)
    (ht : s.inForce (Pg.dmc 0) F.DMC_SCRUB_SCRUB_TMO ≤ (s.at off).count % 65536) :
    execScrubLate off c ecs s = .next ((((s.at off).incFld (Pg.dmc c.val) F.DMC_SCRUB_CNT_SCRUB_LATE).raiseIrq
      (Pg.dmc c.val) 4).patrolNext c.val ecs.toNat) := by
  unfold execScrubLate
  simp [hdue, ht]

/-- GO without HPPR retires the row unit that the register names (R541). -/
theorem State.retireWritten_go {w : State} {c : Nat} (hgo : w.bit (Pg.dmc c) F.DMC_RETIRE_GO = true)
    (hh : w.bit (Pg.dmc c) F.DMC_RETIRE_HPPR = false) :
    w.retireWritten c = (w.setFld (Pg.dmc c) F.DMC_RETIRE_GO 0).retireRow c (w.fld (Pg.dmc c) F.DMC_RETIRE_b0) := by
  unfold State.retireWritten
  simp [hgo, hh]

theorem execDmcRetireGo_written (v : Word) (hd : (s.at off).dropCause (Pg.dmc c.val) = none) :
    execDmcRetireGo off c v s = .next (((s.at off).write (Pg.dmc c.val) 0x054 v).retireWritten c.val) :=
  congrArg Host.Outcome.next (State.onPage_answers hd _ _)

/-- With no soft repair enabled the oldest copy ends, and its lost lines read poison (R541). -/
theorem execRowCopyDone_ends (lost : List (Fin 128)) {row : Nat} {rest : List Nat}
    (hc : (s.chan5 c.val).copying = row :: rest) (hp : s.inForce (Pg.dmc 0) F.DMC_PPR = 0) :
    execRowCopyDone off c lost s = .next (((s.at off).memMap (fun m => { m with badDdr :=
      ((lost.map (fun (l : Fin 128) => s.ddrGlobal c.val (8192 * row + 64 * l.val) / 64)).filter
        (fun l => !decide (l ∈ m.badDdr))) ++ m.badDdr })).setChan5 c.val { s.chan5 c.val with copying := rest }) := by
  unfold execRowCopyDone
  simp [hc, hp]

/-- A first parity error is counted and recorded (R562). -/
theorem execDmcFault_firstParity (hp : (s.chan5 c.val).parityAt = none) :
    execDmcFault off c true s = .next (((((s.at off).incFld (Pg.dmc c.val) F.DMC_TEMP_CA).raiseIrq (Pg.dmc c.val)
      5).setFld (Pg.dmc c.val) F.DMC_LAST_ERR_b24 3).setChan5 c.val
        { s.chan5 c.val with parityAt := some (s.at off).count }) := by
  have hchan : ((((s.at off).incFld (Pg.dmc c.val) F.DMC_TEMP_CA).raiseIrq (Pg.dmc c.val) 5).setFld (Pg.dmc c.val)
      F.DMC_LAST_ERR_b24 3).chan5 c.val = s.chan5 c.val := State.chan5_congr (by simp) _
  unfold execDmcFault
  simp [hchan, hp]

/-! ### The temperature of a channel (R563) -/

variable {temp : BitVec 16}

/-- Above 95 °C a channel at full rate goes to half rate. -/
theorem execDimmThermal_halves (ht : 95 * 8 < temp.toInt) (hh : (s.chan5 c.val).half = false) :
    execDimmThermal off c temp s = .next ((((s.at off).setFld (Pg.dmc c.val) F.DMC_TEMP_b0 temp.toNat).raiseIrq
      (Pg.dmc c.val) 6).setChan5 c.val { s.chan5 c.val with half := true }) := by
  unfold execDimmThermal
  dsimp only
  rw [State.chan5_at, hh, if_pos (by rw [decide_eq_true ht]; rfl)]

/-- Below 90 °C a channel at half rate goes back to full rate. -/
theorem execDimmThermal_restores (ht : temp.toInt < 90 * 8) (hh : (s.chan5 c.val).half = true) :
    execDimmThermal off c temp s = .next (((s.at off).setFld (Pg.dmc c.val) F.DMC_TEMP_b0 temp.toNat).setChan5 c.val
      { s.chan5 c.val with half := false }) := by
  unfold execDimmThermal
  dsimp only
  rw [State.chan5_at, if_neg (by simp [hh]), if_pos (by rw [decide_eq_true ht, hh]; rfl)]

/-- A temperature that asks for no other rate is only shown. -/
theorem execDimmThermal_shows (hhot : 95 * 8 < temp.toInt → (s.chan5 c.val).half = true)
    (hcool : temp.toInt < 90 * 8 → (s.chan5 c.val).half = false) :
    execDimmThermal off c temp s = .next ((s.at off).setFld (Pg.dmc c.val) F.DMC_TEMP_b0 temp.toNat) := by
  unfold execDimmThermal
  dsimp only
  rw [State.chan5_at, if_neg (by simpa using hhot), if_neg (by simpa using hcool)]

end

/-- The temperature shown changes nothing of the channel's own part. -/
theorem State.chan5_showTemp (s : State) (off c x : Nat) :
    ((s.at off).setFld (Pg.dmc c) F.DMC_TEMP_b0 x).chan5 c = s.chan5 c := s.chan5_at off c

/-! ### The statements -/

/-- Settles O38, by the three ranges and the rate before. -/
theorem thermalHalvesTheRate : Obligations.ThermalHalvesTheRate := by
  refine ⟨fun off c temp s ht => ?hot, fun off c temp s ht => ?cool, fun off c temp s ht => ?between⟩
  case hot =>
    cases hh : (s.chan5 c.val).half with
    | false =>
      refine ⟨_, execDimmThermal_halves ht hh, by rw [State.chan5_setChan5], fun _ => ?_⟩
      exact State.irq_raiseIrq _ _ 6 (by decide)
    | true =>
      refine ⟨_, execDimmThermal_shows (fun _ => hh) (fun h => absurd h (by omega)), ?_, fun h => absurd h (by decide)⟩
      rw [State.chan5_showTemp, hh]
  case cool =>
    cases hh : (s.chan5 c.val).half with
    | false =>
      refine ⟨_, execDimmThermal_shows (fun h => absurd h (by omega)) (fun _ => hh), ?_⟩
      rw [State.chan5_showTemp, hh]
    | true => exact ⟨_, execDimmThermal_restores ht hh, by rw [State.chan5_setChan5]⟩
  case between =>
    obtain ⟨hlow, hhigh⟩ := ht
    exact ⟨_, execDimmThermal_shows (fun h => absurd h (by omega)) (fun h => absurd h (by omega)),
      congrArg Chan5.half (State.chan5_showTemp _ _ _ _)⟩

/-- Settles O22, a law of its own for each command. -/
theorem memoryCommandsComplete : Obligations.MemoryCommandsComplete := by
  refine ⟨fun off b p rest s he hu ht ha hc hf => ⟨_, execCisternReadReq_direct he hu ht ha hc hf, rfl⟩,
    fun off b p rest s he hu ht ha hc hb hd => ⟨_, execCisternReadReq_objectDown he hu ht ha hc hb hd, rfl⟩,
    fun off b n tag a reqs s hn hbusy hup => ⟨_, execFillReturn_answers hn hbusy hup, rfl⟩,
    fun off v s hd hl hw => ?tableWord0, fun off v s hd hl => ?tableLive,
    fun off b s => ⟨_, rfl, rfl⟩, fun off c row line s => ⟨_, rfl, rfl⟩,
    fun off c row line s hbad => ⟨_, execDdrReadError_failed hbad, rfl⟩,
    fun off c ecs s hdue ht => ⟨_, execPatrolScrub_clean ecs hdue ht, rfl⟩,
    fun off c ecs s hdue ht => ⟨_, execScrubLate_leaves ecs hdue ht, rfl⟩,
    fun off c v s w hd hw hgo _ hh => ?retireGo,
    fun off c lost row rest s hc hp => ⟨_, execRowCopyDone_ends lost hc hp, rfl⟩,
    fun off c s hp => ⟨_, execDmcFault_firstParity hp, rfl⟩, fun off c s => ⟨_, rfl, rfl⟩,
    fun off c temp s ht hh => ⟨_, execDimmThermal_halves ht hh, rfl⟩⟩
  case tableWord0 =>
    have h := State.tableWrite_word0 (s := s.at off) v (s.fld_at off _ _) (by rwa [State.fld_at]) (by rwa [State.bit_at])
    rw [State.at_memory] at h
    exact ⟨_, (execObjectTableWrite_answers v hd).trans (congrArg Host.Outcome.next h), rfl⟩
  case tableLive =>
    have h := State.tableWrite_live (s := s.at off) v (by rwa [State.fld_at, State.fld_at])
    exact ⟨_, (execObjectTableWrite_answers v hd).trans (congrArg Host.Outcome.next h), rfl⟩
  case retireGo =>
    subst hw
    exact ⟨_, (execDmcRetireGo_written v hd).trans (congrArg Host.Outcome.next (State.retireWritten_go hgo hh)), rfl⟩

end Sys2Proof.Machine
end

section
/-!
PROOFS. The Pumps (R545 to R564, R613): the effect of each command of a Pump, by the descriptor that its context has in progress.
-/

namespace Sys2Proof.Machine

open Sys2Proof

@[simp] theorem State.ctx_at (s : State) (off p r : Nat) : (s.at off).ctx p r = s.ctx p r := by
  unfold State.at; split <;> rfl

section
variable {s : State} {off : Nat} {p : Fin 32}

theorem execRingDoorbell_written (r : Fin 8) (tail : BitVec 16) (hd : (s.at off).dropCause (Pg.pmp p.val) = none) :
    execRingDoorbell off p r tail s =
      .next ((s.at off).write (Pg.pmp p.val) (0x114 + 64 * r.val) (BitVec.ofNat 32 tail.toNat)) :=
  congrArg Host.Outcome.next (State.onPage_answers hd _ _)

/-- A descriptor in progress with bytes not yet issued gets its next chunk moved (R547). -/
theorem execPumpChunk_moves (host : List (BitVec 8)) {r : Nat} {d : Desc} (hr : (s.at off).nextCtx p.val = some r)
    (hd : (((s.at off).noteRound p.val r).ctx p.val r).work.find? (fun d => d.ended.isNone && d.issued < d.len) = some d) :
    execPumpChunk off p host s = .next ((((s.at off).noteRound p.val r).chunk p.val r d).1.putDesc p.val r
      (((s.at off).noteRound p.val r).chunk p.val r d).2) := by
  unfold execPumpChunk
  dsimp only
  rw [hr]
  dsimp only
  rw [hd]

variable {r : Fin 8} {d : Desc} {rest : List Desc}

/-- The oldest descriptor, done, completes with its own status (R547, R613). -/
theorem execDescriptorComplete_completes (hw : (s.ctx p.val r.val).work = d :: rest) (hd : d.done = true) :
    execDescriptorComplete off p r s = .next (((s.at off).setCtx p.val r.val
      { s.ctx p.val r.val with work := rest }).complete p.val r.val d (d.ended.getD PStat.ok) true) := by
  unfold execDescriptorComplete
  dsimp only
  rw [State.ctx_at, hw]
  exact if_pos hd

/-- A descriptor between DDR addresses is timed by DDR_TMO (R551). -/
theorem execPumpTimeout_completes (hw : (s.ctx p.val r.val).work = d :: rest) (hd : d.done = false)
    (hsrc : d.srcSpace = Space.ddr) (hdst : d.dstSpace = Space.ddr)
    (ht : s.fld (Pg.pmp p.val) F.PMP_TMO_DDR_TMO ≤ (s.at off).waited d) :
    execPumpTimeout off p r s = .next (((s.at off).setCtx p.val r.val
      { s.ctx p.val r.val with work := rest }).complete p.val r.val d PStat.timeout true) := by
  have hhost : Space.ddr ≠ Space.host := by decide
  unfold execPumpTimeout
  dsimp only
  rw [State.ctx_at, hw]
  simp [hd, hsrc, hdst, hhost, ht]

theorem execContextHalt_halts (hd : (s.at off).dropCause (Pg.pmp p.val) = none)
    (he : s.bit (Pg.pmp p.val) (F.PMP_RING_CTL_ENABLE r.val) = true) :
    execContextHalt off p r s = .next ((s.at off).haltCtx p.val r.val PStat.cancelled true) :=
  congrArg Host.Outcome.next ((State.onPage_answers hd _ _).trans (if_pos (by rwa [State.bit_at])))

end

/-- Settles O23, a law of its own for each command. -/
theorem pumpCommandsComplete : Obligations.PumpCommandsComplete :=
  ⟨fun _ _ r tail _ hd => ⟨_, execRingDoorbell_written r tail hd, rfl⟩,
    fun _ _ host _ _ _ hr hd => ⟨_, execPumpChunk_moves host hr hd, rfl⟩,
    fun _ _ _ _ _ _ hw hd => ⟨_, execDescriptorComplete_completes hw hd, rfl⟩,
    fun _ _ _ _ _ _ hw hd _ hsrc hdst ht => ⟨_, execPumpTimeout_completes hw hd hsrc hdst ht, rfl⟩,
    fun _ _ _ _ hd he => ⟨_, execContextHalt_halts hd he, rfl⟩, fun _ _ _ => ⟨_, rfl, rfl⟩⟩

end Sys2Proof.Machine
end

section
/-!
PROOFS. Transfers into DDR (R547, R624, R694, R697): what a chunk, a landed read and a collective's frame store, and that the
bookkeeping around them touches no byte of DDR, of the Cistern or of a tile.
-/

namespace Sys2Proof.Machine

open Sys2Proof

/-! ### Bytes stored into DDR alone -/

/-- `t` has the bytes `b` stored in DDR from address `a` on; every other byte of DDR, the Cistern's direct memory and the tiles
are those of `s`. -/
structure StoresDdr (a : Nat) (b : List Nat) (s t : State) : Prop where
  ddr : t.ddr = Mem.store 0 s.ddr a b
  direct : t.memory.direct = s.memory.direct
  tiles : t.tiles = s.tiles

/-- The mask of every component but DDR, the tiles and the memories (bits 23, 28 and 30). -/
def besideBytes : Nat := 0x17ffffffeffaf7fffff

/-- A store stays what it is under what comes before and after it, where that keeps the bytes. -/
theorem StoresDdr.within {a : Nat} {b : List Nat} {s u v t : State} (h : StoresDdr a b u v)
    (before : Keeps besideBytes s u) (after : Keeps besideBytes v t) : StoresDdr a b s t where
  ddr := (after.ddr rfl).trans (h.ddr.trans (congrArg (fun m => Mem.store 0 m a b) (before.ddr rfl)))
  direct := (congrArg Memory.direct (after.memory rfl)).trans (h.direct.trans (congrArg Memory.direct (before.memory rfl)))
  tiles := (after.tiles rfl).trans (h.tiles.trans (before.tiles rfl))

/-- What the stored bytes read as, and every other. -/
theorem StoresDdr.byte {a : Nat} {b : List Nat} {s t : State} (h : StoresDdr a b s t) (x : Nat) :
    Mem.byte 0 t.ddr x = if a ≤ x ∧ x < a + b.length then b.getD (x - a) 0 % 256 else Mem.byte 0 s.ddr x := by
  rw [h.ddr, Mem.byte_store]

theorem State.ddrWrite_stores (s : State) (a : Nat) (b : List Nat) : StoresDdr a b s (s.ddrWrite a b) := ⟨rfl, rfl, rfl⟩

/-- A byte of a run read from a memory. -/
theorem Mem.getD_bytes (d : BitVec 8) (m : Mem) (a n : Nat) {i : Nat} (h : i < n) :
    (Mem.bytes d m a n).getD i 0 = Mem.byte d m (a + i) := by
  simp [Mem.bytes, h]

theorem Mem.byte_lt (d : BitVec 8) (m : Mem) (a : Nat) : Mem.byte d m a < 256 := (FMap.getD m a d).isLt

theorem State.length_ddrRead (s : State) (a n : Nat) : (s.ddrRead a n).length = n := by
  simp [State.ddrRead, Mem.bytes]

/-- A run of DDR stored elsewhere in DDR reads there as at its source. -/
theorem StoresDdr.byte_ddrRead {dst src n : Nat} {s t : State} (h : StoresDdr dst (s.ddrRead src n) s t) (x : Nat) :
    Mem.byte 0 t.ddr x = if dst ≤ x ∧ x < dst + n then Mem.byte 0 s.ddr (x - dst + src) else Mem.byte 0 s.ddr x := by
  rw [h.byte, State.length_ddrRead]
  split
  · rename_i hx
    rw [State.ddrRead, Mem.getD_bytes 0 s.ddr src n (by omega), Nat.mod_eq_of_lt (Mem.byte_lt ..), Nat.add_comm src]
  · rfl

/-! ### Chunks of a Pump (R547) -/

/-- A descriptor of a transfer into DDR that Table PMP-1 allows. -/
theorem Desc.allowed {d : Desc} (hop : d.op ≤ 1) (hsrc : d.srcSpace < 4) (hdst : d.dstSpace = Space.ddr) (h0 : d.len ≠ 0)
    (hlen : d.len ≤ 2 ^ 24) :
    ¬ (3 < d.op || 3 < d.srcSpace || 3 < d.dstSpace || d.len = 0 || 2 ^ 24 < d.len) = true := by
  simp only [Bool.or_eq_true, decide_eq_true_eq, hdst, Space.ddr]
  omega

section
variable {u : State} {p r : Nat} {d : Desc}

/-- The chunk of a FILL of DDR stores the pattern. -/
theorem State.chunk_fillDdr (hop : d.op = 1) (hsrc : d.srcSpace < 4) (hdst : d.dstSpace = Space.ddr) (h0 : d.len ≠ 0)
    (hlen : d.len ≤ 2 ^ 24)
    (hw : u.rowWaits Space.ddr (d.dst + d.issued) (min 4096 (d.len - d.issued)) = false)
    (ho : u.spaceOk p r Space.ddr (d.dst + d.issued) (min 4096 (d.len - d.issued)) true = true) :
    (u.chunk p r d).1 = u.ddrWrite (d.dst + d.issued) (fillBytes d.src d.issued (min 4096 (d.len - d.issued))) := by
  have hallowed := Desc.allowed (by omega) hsrc hdst h0 hlen
  unfold State.chunk
  dsimp only
  rw [if_neg (by omega), if_neg hallowed, if_neg (by omega), if_neg (by simp [hdst, hw, hop]),
    if_neg (by simp [hdst, ho]), if_pos hop, hdst]
  rfl

/-- The chunk of a copy within DDR stores what its source holds, where no line of that is poisoned. -/
theorem State.chunk_copyDdr (hop : d.op = 0) (hsrc : d.srcSpace = Space.ddr) (hdst : d.dstSpace = Space.ddr)
    (h0 : d.len ≠ 0) (hlen : d.len ≤ 2 ^ 24)
    (hw : u.rowWaits Space.ddr (d.dst + d.issued) (min 4096 (d.len - d.issued)) = false)
    (hw' : u.rowWaits Space.ddr (d.src + d.issued) (min 4096 (d.len - d.issued)) = false)
    (ho : u.spaceOk p r Space.ddr (d.dst + d.issued) (min 4096 (d.len - d.issued)) true = true)
    (ho' : u.spaceOk p r Space.ddr (d.src + d.issued) (min 4096 (d.len - d.issued)) false = true)
    (hp : u.ddrPoison (d.src + d.issued) (min 4096 (d.len - d.issued)) = false) :
    (u.chunk p r d).1 =
      u.ddrWrite (d.dst + d.issued) (u.ddrRead (d.src + d.issued) (min 4096 (d.len - d.issued))) := by
  have hallowed := Desc.allowed (by omega) (by rw [hsrc]; decide) hdst h0 hlen
  have hread : ∀ a n, u.readSpace Space.ddr a n = (u.ddrRead a n, u.ddrPoison a n, u) := fun _ _ => rfl
  unfold State.chunk
  dsimp only
  rw [if_neg (by omega), if_neg hallowed, if_neg (by omega), if_neg (by simp [hsrc, hdst, hw, hw']),
    if_neg (by simp [hdst, ho]), if_neg (by omega), if_neg (by rw [hsrc]; decide), if_neg (by simp [hsrc, ho']), hsrc, hdst,
    hread, if_neg (by simp [hp])]
  rfl

end

section
variable {s : State} {off : Nat}

/-- Noting the round of a context keeps the bytes. -/
theorem State.noteRound_bytes (s : State) (off p r : Nat) : Keeps besideBytes s ((s.at off).noteRound p r) :=
  State.noteRound_keeps (State.at_keeps (.refl _ s) rfl) rfl

theorem execPumpChunk_stores {p : Fin 32} (host : List (BitVec 8)) {r : Nat} {d : Desc} {a : Nat} {b : List Nat}
    (hr : (s.at off).nextCtx p.val = some r)
    (hd : (((s.at off).noteRound p.val r).ctx p.val r).work.find? (fun d => d.ended.isNone && d.issued < d.len) = some d)
    (hc : (((s.at off).noteRound p.val r).chunk p.val r d).1 = ((s.at off).noteRound p.val r).ddrWrite a b) :
    ∃ t, execPumpChunk off p host s = .next t ∧ StoresDdr a b s t := by
  refine ⟨_, execPumpChunk_moves host hr hd, ?_⟩
  rw [hc]
  exact (State.ddrWrite_stores _ a b).within (s.noteRound_bytes off p.val r) (State.putDesc_keeps (.refl _ _) rfl)

/-! ### Host bytes landed (R547, R624) -/

/-- The data of a read whose descriptor stores into DDR, stored there. -/
theorem State.landData_ddr {u : State} {e : TagEntry} {d : Desc} {b : List Nat} (hd : u.tagDesc e = some d)
    (he : d.ended = none) (hs : d.dstSpace = Space.ddr) (hb : b.length = e.len) :
    u.landData e b = (u.ddrWrite (d.dst + e.off) b).putDesc e.pump e.ctx
      { d with moved := d.moved + e.len, reads := d.reads - 1, since := u.count } := by
  have hdata : (b ++ List.replicate e.len 0).take e.len = b := by rw [← hb, List.take_left]
  unfold State.landData
  simp [hd, he, hs, hdata]
  rfl

theorem execCompletionArrival_stores {tag : BitVec 10} {b : List (BitVec 8)} {e : TagEntry} {d : Desc}
    (ht : FMap.get? s.pumps.tags tag.toNat = some e) (hc : s.tagCurrent e = true)
    (hd : ((s.at off).freeEntry tag.toNat).tagDesc e = some d) (he : d.ended = none) (hs : d.dstSpace = Space.ddr)
    (hb : b.length = e.len) :
    ∃ t, execCompletionArrival off tag b s = .next t ∧ StoresDdr (d.dst + e.off) (b.map BitVec.toNat) s t := by
  have hcur : (s.at off).tagCurrent e = true := by
    unfold State.tagCurrent at hc ⊢
    rwa [State.fld_at]
  have hland := State.landData_ddr hd he hs (b := b.map BitVec.toNat) (by rw [List.length_map, hb])
  refine ⟨((s.at off).freeEntry tag.toNat).landData e (b.map BitVec.toNat), ?_, ?_⟩
  · unfold execCompletionArrival
    simp [ht, hcur]
  · rw [hland]
    exact (State.ddrWrite_stores _ _ _).within (State.freeEntry_keeps (State.at_keeps (.refl _ s) rfl) rfl)
      (State.putDesc_keeps (.refl _ _) rfl)

/-! ### A collective's chunk (R694, R697) -/

/-- The first frame of the inbox is taken where it meets the condition. -/
theorem State.takeInbox_first {s : State} {e : Nat × Option Nat × RFrame} {l : List (Nat × Option Nat × RFrame)}
    {p : RFrame → Bool} (h : s.ryk.inbox = e :: l) (hp : p e.2.2 = true) :
    s.takeInbox p = some (e, s.rykMap (fun r => { r with inbox := r.inbox.erase e })) := by
  unfold State.takeInbox
  simp [h, hp]

/-- What a plan sends reads DDR and stores nothing. -/
theorem State.sendChunks_bytes {z s : State} (h : Keeps besideBytes z s) (c : Collective) (sends : List PlanSend) :
    Keeps besideBytes z (s.sendChunks c sends) :=
  State.rykPump_keeps (Keeps.foldl _ (fun _ _ ha => State.send_keeps ha rfl) h) rfl

/-- The bytes that a frame's chunk leaves at its place, from the bytes of DDR before. -/
def Collective.chunkBytes (c : Collective) (m : Mem) (step chunk : Nat) (data : List Nat) : List Nat :=
  if c.reduces step then reduceBytes c.op c.format (Mem.bytes 0 m (c.src + 4096 * chunk) data.length) data else data

theorem State.takeChunk_stores {s : State} {m : Mem} (hm : s.ddr = m) (c : Collective) (step chunk : Nat) (data : List Nat) :
    StoresDdr (c.dst + 4096 * chunk) (c.chunkBytes m step chunk data) s (s.takeChunk c step chunk data) := by
  subst hm
  exact ⟨rfl, rfl, rfl⟩

theorem State.dutiesRun_at (s : State) (off : Nat) : (s.at off).dutiesRun = s.dutiesRun := by
  unfold State.at; split <;> rfl

theorem execCollFrame_stores {a : Nat × Option Nat} {f : RFrame} {k : Nat} {c : Collective} (sends : List PlanSend)
    (hrun : s.dutiesRun = true) (hf : f.type = 3) (hbox : s.ryk.inbox = [(a.1, a.2, f)]) (hcolls : s.cpc.colls = [(k, c)])
    (hid : c.id = beAt f.payload 0 2) (he : c.epoch = beAt f.payload 2 2)
    (hstep : max c.step (beAt f.payload 4 2 + 1) < c.steps) :
    ∃ t, execCollFrame off sends s = .next t ∧ StoresDdr (c.dst + 4096 * beAt f.payload 6 4)
      (c.chunkBytes s.ddr (beAt f.payload 4 2) (beAt f.payload 6 4) ((f.payload.drop 64).take 4096)) s t := by
  have hmine : (s.at off).cpc.colls.find? (fun e => e.2.id = beAt f.payload 0 2) = some (k, c) := by
    rw [State.at_cpc, hcolls, List.find?_singleton, if_pos (by simpa using hid)]
  have htake := State.takeInbox_first (s := s.at off) (e := (a.1, a.2, f)) (l := [])
    (p := fun f => (s.at off).dutiesRun && f.type = 3 &&
      ((s.at off).cpc.colls.find? (fun e => e.2.id = beAt f.payload 0 2)).isSome)
    (by rw [State.at_ryk, hbox]) (by rw [hmine, State.dutiesRun_at]; simp [hrun, hf])
  unfold execCollFrame
  dsimp only
  rw [htake]
  dsimp only
  rw [hmine]
  dsimp only
  rw [if_neg (by simp [he]), if_neg (by omega)]
  refine ⟨_, rfl, (State.takeChunk_stores ?_ c _ _ _).within (State.rykMap_keeps (State.at_keeps (.refl _ s) rfl) rfl)
    (State.sendChunks_bytes (State.cpcMap_keeps (.refl _ _) rfl) _ _)⟩
  exact s.at_ddr off

end

/-- Settles O46: each transfer is one store into DDR, between bookkeeping that keeps the bytes. -/
theorem transfersReachOnlyTheirBytes : Obligations.TransfersReachOnlyTheirBytes := by
  refine ⟨fun off p host r d s hr hd hform hw ho => ?fill, fun off p host r d s hr hd hform hw hw' ho ho' hp => ?copy,
    fun off tag b e d s ht hc hd he hs hb => ?land, fun off sends a f k c v s hrun hf hbox hcolls hid he hstep hv => ?coll⟩
  case fill =>
    obtain ⟨hop, hsrc, hdst, h0, hlen⟩ := hform
    obtain ⟨t, ht, hst⟩ := execPumpChunk_stores host hr hd (State.chunk_fillDdr hop hsrc hdst h0 hlen hw ho)
    exact ⟨t, ht, hst.direct, hst.tiles, hst.byte⟩
  case copy =>
    obtain ⟨hop, hsrc, hdst, h0, hlen⟩ := hform
    have hk := s.noteRound_bytes off p.val r
    have hread : ((s.at off).noteRound p.val r).ddrRead = s.ddrRead := by
      unfold State.ddrRead
      rw [hk.ddr rfl]
    have hpoison : ((s.at off).noteRound p.val r).ddrPoison = s.ddrPoison := by
      unfold State.ddrPoison
      rw [hk.memory rfl]
    have hchunk := State.chunk_copyDdr hop hsrc hdst h0 hlen hw hw' ho ho' (by rwa [hpoison])
    rw [hread] at hchunk
    obtain ⟨t, ht, hst⟩ := execPumpChunk_stores host hr hd hchunk
    exact ⟨t, ht, hst.direct, hst.tiles, hst.byte_ddrRead⟩
  case land =>
    obtain ⟨t, hrun, hst⟩ := execCompletionArrival_stores ht hc hd he hs hb
    refine ⟨t, hrun, hst.direct, hst.tiles, fun x => ?_⟩
    have hbyte : (b.map BitVec.toNat).getD (x - (d.dst + e.off)) 0 % 256 = (b.getD (x - (d.dst + e.off)) 0).toNat :=
      (congrArg (· % 256) (List.getD_map b 0 BitVec.toNat)).trans (Nat.mod_eq_of_lt (BitVec.isLt _))
    rw [hst.byte, List.length_map, hb, hbyte]
  case coll =>
    subst hv
    obtain ⟨t, ht, hst⟩ := execCollFrame_stores sends hrun hf hbox hcolls hid he hstep
    exact ⟨t, ht, hst.direct, hst.tiles, hst.byte⟩

end Sys2Proof.Machine
end

section
/-!
PROOFS. The commands of the energy ledger and of the PWR unit (R568 to R588, R598, R599): one law for each command, in the case
that its clause names.
-/

namespace Sys2Proof.Machine

open Sys2Proof

@[simp] theorem State.fld_nrgMap (s : State) (f : Energy → Energy) (p : Nat) (g : Fld) : (s.nrgMap f).fld p g = s.fld p g := rfl

/-! ### The cap and the debt (R568, R586) -/

/-- A written cap below the floor is raised to it (R568). -/
theorem State.capWritten_clamped {w : State} (h : w.fld Pg.nrg F.NRG_CAP < w.nrgFloor) :
    w.capWritten = ((((w.setFld Pg.nrg F.NRG_CAP w.nrgFloor).setFld Pg.nrg F.NRG_EFF_CAP_CLAMPED 1).incFld Pg.nrg
      F.NRG_CLAMPS).raiseIrq Pg.nrg 0).nrgMap (fun e => { e with clampWr := true }) :=
  if_pos h

/-- A debt that stays within its field is held as it is (R586). -/
theorem State.debtAdd_within {w : State} {v : Nat} (h : w.fld Pg.nrg F.NRG_DEBT + v < 2 ^ 24) :
    w.debtAdd v = w.setFld Pg.nrg F.NRG_DEBT (w.fld Pg.nrg F.NRG_DEBT + v) :=
  if_neg (by omega)

theorem execNrgCapWrite_answers {off : Nat} {s : State} (v : Word) (h : (s.at off).dropCause Pg.nrg = none) :
    execNrgCapWrite off v s = .next ((s.at off).write Pg.nrg 0x040 v).capWritten :=
  congrArg Host.Outcome.next (State.onPage_answers h _ _)

theorem execNrgDebtAdd_answers {off : Nat} {s : State} (v : Word) (h : (s.at off).dropCause Pg.nrg = none) :
    execNrgDebtAdd off v s = .next (((s.at off).write Pg.nrg 0x06C v).debtAdd (v.field 0 24)) :=
  congrArg Host.Outcome.next (State.onPage_answers h _ _)

/-! ### PMBus (R571, R572) -/

/-- The valid entries are those of the values in force. -/
theorem State.regulators_congr {s t : State} (h : t.force = s.force) : t.regulators = s.regulators := by
  unfold State.regulators State.inForce State.regInForce
  rw [h]

/-- A good first read of the entry whose turn it is, which is not the last of its cycle (R571, R572). -/
theorem execPmbusPoll_good {off : Nat} {r : Fin 8} (x : BitVec 16) (retry : Option (BitVec 16)) {s : State}
    (hen : (s.at off).inForce Pg.pwr F.PWR_PM_CTL_EN ≠ 0) (hnext : (s.at off).pollNext = some r.val)
    (hlast : (s.at off).regulators.getLast? ≠ some r.val) :
    execPmbusPoll off r (some x) retry s = .next ((((((s.at off).pmbusRead r.val 0x96).nrgMap (fun e =>
      { e with pollAt := r.val + 1 })).setFld Pg.pwr (F.PWR_REG_POUT r) (linear11 x)).setFld Pg.pwr (F.PWR_REG_ERR_b0 r)
      0).setFld Pg.pwr (F.PWR_REG_ERR_STALE r) 0) := by
  have hpolls : ¬ ((decide ((s.at off).inForce Pg.pwr F.PWR_PM_CTL_EN = 0) || decide ((s.at off).pollNext ≠ some r.val)) = true) := by
    simp [-State.inForce_at, hen, hnext]
  refine (if_neg hpolls).trans (congrArg Host.Outcome.next (if_neg ?_))
  rwa [State.regulators_congr rfl]

/-- The maximum of one entry, read when due (R571). -/
theorem execPoutMaxRead_due {off : Nat} {r : Fin 8} (x : BitVec 16) {s : State}
    (hen : (s.at off).inForce Pg.pwr F.PWR_PM_CTL_EN ≠ 0) (hdue : (s.at off).maxDue r.val = true) :
    execPoutMaxRead off [(r, x)] s = .next ((((s.at off).pmbusRead r.val 0xA7).setFld Pg.pwr (F.PWR_REG_MAX r)
      (linear11 x)).nrgMap (fun e => { e with maxTurn := some (s.at off).turn })).syncAvail := by
  have hone : [(r, x)].filter (fun e => (s.at off).maxDue e.1.val) = [(r, x)] := List.filter_cons_of_pos hdue
  refine (if_neg hen).trans ?_
  rw [hone]
  rfl

/-! ### Measurement windows (R573) -/

/-- At the boundary that ends it a window is closed once, and its charges, its energy and its turn are latched (R573). -/
theorem execMeasurementWindowClose_closes {off : Nat} {s : State} (hturn : (s.at off).turn % s.energy.period = 0)
    (hboundary : (s.at off).count % 65536 = 0) (honce : s.energy.closed ≠ (s.at off).turn)
    (hactive : s.unit Pg.pwr = uActive) :
    ∃ (f : Energy → Energy) (uj : Nat), (∀ e, (f e).closed = (s.at off).turn) ∧ (∀ e, (f e).accLu = 0) ∧
      execMeasurementWindowClose off s = .next ((((((s.at off).nrgMap f).setFld Pg.nrg F.NRG_ACCT_LO
        ((s.at off).energy.accLu / 256 % 2 ^ 32)).setFld Pg.nrg F.NRG_ACCT_TURN ((s.at off).turn % 2 ^ 32)).setFld Pg.pwr
        F.PWR_PM_ENERGY_LO (uj % 2 ^ 32)).setFld Pg.pwr F.PWR_PM_WIN_TURN ((s.at off).turn % 2 ^ 32)) := by
  have hperiod : (s.at off).turn % (s.at off).energy.period = 0 := (s.at_energy off).symm ▸ hturn
  have hopen : (s.at off).energy.closed ≠ (s.at off).turn := (s.at_energy off).symm ▸ honce
  have hunit : (s.at off).unit Pg.pwr = uActive := (s.unit_at off _).trans hactive
  unfold execMeasurementWindowClose
  dsimp only
  rw [if_neg (by simp [-State.at_energy, hperiod, hboundary, hopen, hunit])]
  exact ⟨_, _, fun _ => rfl, fun _ => rfl, rfl⟩

/-! ### Temperature (R587, R588) -/

/-- A reading of 16 bits, taken with its sign, is written back as it was. -/
theorem unsigned_signed {n : Nat} (h : n < 2 ^ 16) : unsigned 16 (signed 16 n) = n := by
  unfold unsigned signed
  split <;> omega

/-- The search for the hottest stays at 0 where none is hotter. -/
theorem hottest_of_le {f : Nat → Int} (l : List Nat) (h : ∀ k ∈ l, f k ≤ f 0) :
    l.foldl (fun b k => if f b < f k then k else b) 0 = 0 := by
  induction l with
  | nil => rfl
  | cons k l ih =>
    rw [List.foldl_cons, if_neg (not_lt.mpr (h k List.mem_cons_self))]
    exact ih fun j hj => h j (List.mem_cons_of_mem k hj)

/-- A sensor that was sampled reads its sample. -/
theorem State.tsens_sampled (s : State) (x : BitVec 16) :
    (s.setFld Pg.pwr (F.PWR_TSENS 0) x.toNat).tsens 0 = signed 16 x.toNat := by
  unfold State.tsens
  rw [State.fld_setFld_self _ _ _ _ (by decide), Nat.mod_eq_of_lt x.isLt]

/-- A sample of sensor 0 leaves the other sensors. -/
theorem State.tsens_others (s : State) (x k : Nat) (h0 : 0 < k) (h : k < 16) :
    (s.setFld Pg.pwr (F.PWR_TSENS 0) x).tsens k = s.tsens k := by
  unfold State.tsens
  rw [State.fld_setFld_off _ _ _ _ _ _ (by decide) (by show 0x200 + 4 * k < 4096; omega)
    (by show 0x200 + 4 * k ≠ 0x200 + 4 * 0; omega)]

theorem State.tsens_at (s : State) (off k : Nat) : (s.at off).tsens k = s.tsens k := by
  unfold State.tsens
  rw [State.fld_at]

/-- A sample of sensor 0 hotter than every other reading is held and shown as the maximum (R587). -/
theorem execThermalSample_hottest {off : Nat} {x : BitVec 16} {s : State}
    (h : ∀ k : Fin 16, 0 < k.val → s.tsens k.val < signed 16 x.toNat) :
    ∃ f : Energy → Energy, execThermalSample off [x] s = .next (((((s.at off).setFld Pg.pwr (F.PWR_TSENS 0) x.toNat).setFld
      Pg.pwr F.PWR_THERM_MAX_b0 x.toNat).setFld Pg.pwr F.PWR_THERM_MAX_b16 0).nrgMap f) := by
  obtain ⟨u, hu⟩ : ∃ u, u = (s.at off).setFld Pg.pwr (F.PWR_TSENS 0) x.toNat := ⟨_, rfl⟩
  have h0 : u.tsens 0 = signed 16 x.toNat := hu ▸ (s.at off).tsens_sampled x
  have hhot : (List.range 16).foldl (fun b k => if u.tsens b < u.tsens k then k else b) 0 = 0 := by
    refine hottest_of_le _ fun k hk => ?_
    rcases Nat.eq_zero_or_pos k with rfl | hpos
    · exact le_refl _
    · have hk16 := List.mem_range.mp hk
      rw [h0, hu, State.tsens_others _ _ _ hpos hk16, State.tsens_at]
      exact (h ⟨k, hk16⟩ hpos).le
  have hmax : unsigned 16 (u.tsens 0) = x.toNat := h0 ▸ unsigned_signed x.isLt
  rw [← hu]
  unfold execThermalSample
  simp only [List.take, List.zipIdx, List.foldl_cons, List.foldl_nil, ← hu, hhot, hmax]
  exact ⟨_, rfl⟩

/-- A sensor at CRIT takes the chip to its safe state (R588). -/
theorem execThermalCrit_reached {off : Nat} {k : Fin 16} {s : State}
    (h : 8 * (s.inForce Pg.pwr F.PWR_THERM_CTL_CRIT : Int) ≤ s.tsens k.val) :
    execThermalCrit off s = .next (((s.at off).raiseIrq Pg.pwr 4).safeEnter [Trig.thermalCrit] (some Pg.pwr)) := by
  refine congrArg Host.Outcome.next (if_pos (List.any_eq_true.mpr ⟨k.val, List.mem_range.mpr k.isLt, ?_⟩))
  rw [State.inForce_at, State.tsens_at]
  exact decide_eq_true h

/-! ### The statement -/

/-- Settles O24, a law of its own for each command. -/
theorem energyCommandsComplete : Obligations.EnergyCommandsComplete := by
  refine ⟨fun off v s w hd hw hfloor => ?cap, fun off v s w hd hw hsum => ?debt,
    fun off r x retry s hen hnext hlast => ⟨_, execPmbusPoll_good x retry hen hnext hlast, rfl⟩,
    fun off r x s hen hdue => ⟨_, execPoutMaxRead_due x hen hdue, rfl⟩,
    fun off s hturn hboundary honce hactive => ?window, fun off x s h => ?sample,
    fun off k s h => ⟨_, execThermalCrit_reached h, rfl⟩, fun off s => ⟨_, rfl, rfl⟩, fun off s => ⟨_, rfl, rfl⟩⟩
  case cap =>
    subst hw
    exact ⟨_, execNrgCapWrite_answers v hd, State.capWritten_clamped hfloor⟩
  case debt =>
    subst hw
    exact ⟨_, execNrgDebtAdd_answers v hd, State.debtAdd_within hsum⟩
  case window =>
    obtain ⟨f, uj, hclosed, hacc, hrun⟩ := execMeasurementWindowClose_closes hturn hboundary honce hactive
    refine ⟨_, hrun, ?charges, ?ledgerTurn, ?pwrTurn, hclosed _, hacc _⟩
    case charges =>
      rw [State.fld_setFld_page _ _ _ _ _ _ (by decide) (by decide) (by decide),
        State.fld_setFld_page _ _ _ _ _ _ (by decide) (by decide) (by decide),
        State.fld_setFld_off _ _ _ _ _ _ (by decide) (by decide) (by decide),
        State.fld_setFld_self _ _ _ _ (by decide), Nat.mod_mod, State.at_energy]
    case ledgerTurn =>
      rw [State.fld_setFld_page _ _ _ _ _ _ (by decide) (by decide) (by decide),
        State.fld_setFld_page _ _ _ _ _ _ (by decide) (by decide) (by decide),
        State.fld_setFld_self _ _ _ _ (by decide), Nat.mod_mod]
    case pwrTurn => rw [State.fld_setFld_self _ _ _ _ (by decide), Nat.mod_mod]
  case sample =>
    obtain ⟨f, hrun⟩ := execThermalSample_hottest (off := off) h
    refine ⟨_, hrun, ?held, ?hottest, ?sensor⟩
    case held =>
      rw [State.fld_nrgMap, State.fld_setFld_off _ _ _ _ _ _ (by decide) (by decide) (by decide),
        State.fld_setFld_off _ _ _ _ _ _ (by decide) (by decide) (by decide),
        State.fld_setFld_self _ _ _ _ (by decide), Nat.mod_eq_of_lt x.isLt]
    case hottest =>
      rw [State.fld_nrgMap, State.fld_setFld_bits _ _ _ _ _ _ (by decide), State.fld_setFld_self _ _ _ _ (by decide),
        Nat.mod_eq_of_lt x.isLt]
    case sensor => rw [State.fld_nrgMap, State.fld_setFld_self _ _ _ _ (by decide), Nat.zero_mod]

end Sys2Proof.Machine
end

section
/-!
PROOFS. The commands of the firmware's duties, mailbox, dumps and restarts (R569, R585, R687 to R692, R705, R707, R724, R758,
R803, R853): one law for each command, in the case that its clause names.
-/

namespace Sys2Proof.Machine

open Sys2Proof

/-! ### What the offset within the turn leaves of the firmware -/

section
variable (s : State) (off : Nat)

theorem State.fwState_at : (s.at off).fwState = s.fwState := s.fld_at off _ _

theorem State.fwRuns_at : (s.at off).fwRuns = s.fwRuns := by
  unfold State.fwRuns
  rw [State.fwState_at]

theorem State.loadState_at : (s.at off).loadState = s.loadState := s.fld_at off _ _

theorem State.agreed_at : (s.at off).agreed = s.agreed := by
  unfold State.agreed
  rw [State.fld_at, State.fld_at]

theorem State.runRegion_at : (s.at off).runRegion = s.runRegion := s.fld_at off _ _

theorem State.fwInfo_at (r : Nat) : (s.at off).fwInfo r = s.fwInfo r := by
  unfold State.fwInfo
  rw [State.at_cpc]

theorem State.fwBitmap_at : (s.at off).fwBitmap = s.fwBitmap := by
  unfold State.fwBitmap
  rw [State.runRegion_at, State.fwInfo_at]

theorem State.mbReq_at : (s.at off).mbReq = s.mbReq := by
  unfold State.mbReq
  simp only [State.reg_at]

theorem State.mbOp_at : (s.at off).mbOp = s.mbOp := by
  unfold State.mbOp
  rw [State.mbReq_at]

/-- The retired units and items are those of registers and of the DDR5 channels. -/
theorem State.retiredItems_at : (s.at off).retiredItems = s.retiredItems := by
  unfold State.at
  split <;> rfl

end

/-! ### Duties (R569, R585, R687, R803) -/

/-- A due heartbeat is recorded and kicked (R803). -/
theorem execHeartbeatKick_due {off : Nat} {w s : State} (h : (s.at off).dutyDue Duty.heartbeat 24 = some w) :
    execHeartbeatKick off s = .next w.kick := by
  unfold execHeartbeatKick
  dsimp only
  rw [h]

theorem execFloorDuty_due {off : Nat} {w s : State} (h : (s.at off).dutyDue Duty.floor 240 = some w) :
    execFloorDuty off s = .next w.floorStatic := by
  unfold execFloorDuty
  dsimp only
  rw [h]

/-- A fold over items each of which leaves the state leaves the state. -/
theorem State.foldl_leaves {f : State → Nat → State} {w : State} (l : List Nat) (h : ∀ x ∈ l, f w x = w) :
    l.foldl f w = w := by
  induction l with
  | nil => rfl
  | cons x l ih =>
    rw [List.foldl_cons, h x List.mem_cons_self]
    exact ih fun y hy => h y (List.mem_cons_of_mem x hy)

/-- Where only the mesh's temperature has moved, only its coefficients are rewritten (R499). -/
theorem execCrosstalkRefresh_mesh {off : Nat} {w s : State} (h : (s.at off).dutyDue Duty.crosstalk 2400 = some w)
    (hengines : ∀ e : Fin 16, w.tempMoved (Pg.ope e.val) F.OPE_TEMP = false)
    (hmesh : w.tempMoved (Pg.lwl 0) F.LWL_TEMP = true) : execCrosstalkRefresh off s = .next w.xtMesh := by
  have hnone : (List.range 16).foldl (fun (a : State) e =>
      if !a.absent (Pg.ope e) && a.tempMoved (Pg.ope e) F.OPE_TEMP then a.xtEngine e else a) w = w :=
    State.foldl_leaves _ fun e he => if_neg (by simp [hengines ⟨e, List.mem_range.mp he⟩])
  unfold execCrosstalkRefresh
  dsimp only
  rw [h]
  dsimp only
  rw [hnone, if_pos hmesh]

/-- A first closed window in which no entry was STALE is reconciled, late or in its time, and a shortfall goes to the debt (R585). -/
theorem execReconciliation_first {off : Nat} {s : State} (hrun : s.dutiesRun = true) (hstale : s.energy.staleClosed = false)
    (hfirst : s.cpc.recon = none) (hclosed : 0 < s.energy.closed) {w : State} (hw : w =
      (if s.energy.closed + 2 < (s.at off).turn then (s.at off).incFld (Pg.cpc 0) F.CPC_FW_RESTARTS_DUTY_LATE
        else s.at off).cpcMap (fun c => { c with
          recon := some s.energy.closed, duties := FMap.set c.duties Duty.reconcile ((s.at off).turn, 0) })) :
    execReconciliation off s = .next (if s.energy.acct < s.energy.energy then
      w.debtAdd (min (s.energy.energy - s.energy.acct) (2 ^ 24 - 1)) else w) := by
  subst hw
  unfold execReconciliation
  simp only [State.at_energy, State.at_cpc, State.dutiesRun_at, hrun, hstale, hfirst, hclosed, Bool.not_true, Bool.or_false,
    decide_true, Bool.false_eq_true, if_false]

/-! ### The mailbox (R569, R689, R690, R692) -/

/-- GO while no request waits takes the request (R689). -/
theorem State.mbGo_free {s : State} (h : (s.setFld (Pg.cpc 9) F.CPC_MB_CTL_GO 0).mbBusy = false) (seq : Nat) :
    s.mbGo seq = (((s.setFld (Pg.cpc 9) F.CPC_MB_CTL_GO 0).setFld (Pg.cpc 9) F.CPC_MB_STATUS_BUSY 1).cpcMap (fun c =>
      { c with mbSeq := seq })).mbUnknown :=
  if_neg (by rw [h]; exact Bool.false_ne_true)

theorem execMailboxGo_answers {off : Nat} {s : State} (seq : BitVec 8) (h : (s.at off).dropCause (Pg.cpc 9) = none) :
    execMailboxGo off seq s =
      .next (((s.at off).write (Pg.cpc 9) 0x040 (BitVec.ofNat 32 (seq.toNat + 256))).mbGo seq.toNat) :=
  congrArg Host.Outcome.next (State.onPage_answers h _ _)

/-- A request that waits, in a state that accepts it, with its feature agreed and its layout kept, is worked on and answered (R689,
R690). -/
theorem State.serve_works {s : State} {op : Nat} {feature : Option Nat} {any : Bool} {states : List Nat}
    {fields : List (Nat × Nat)} (work : List Nat → State → State × Nat × List Nat) (hbusy : s.mbBusy = true)
    (hawake : s.mbAwake = true) (hop : s.mbOp = op) (hstate : s.fwState ∈ states)
    (hfeature : ∀ k ∈ feature, s.agreed / 2 ^ k % 2 = 1) (hlayout : layoutOk s.mbReq fields = true) :
    s.serve op feature any states fields work =
      (work s.mbReq s).1.mbAnswer (work s.mbReq s).2.1 (work s.mbReq s).2.2 := by
  unfold State.serve
  cases feature with
  | none => simp [hbusy, hawake, hop, hstate, hlayout]
  | some k => simp [hbusy, hawake, hop, hstate, hlayout, hfeature k rfl]

section
variable {off : Nat} {s : State} (hbusy : (s.at off).mbBusy = true) (hawake : (s.at off).mbAwake = true)
include hbusy hawake

/-- A request served in its turn is worked on in the state at its offset. -/
theorem State.serve_at {op : Nat} {feature : Option Nat} {any : Bool} {states : List Nat} {fields : List (Nat × Nat)}
    (work : List Nat → State → State × Nat × List Nat) (hop : s.mbOp = op) (hstate : s.fwState ∈ states)
    (hfeature : ∀ k ∈ feature, s.agreed / 2 ^ k % 2 = 1) (hlayout : layoutOk s.mbReq fields = true) :
    (s.at off).serve op feature any states fields work =
      (work s.mbReq (s.at off)).1.mbAnswer (work s.mbReq (s.at off)).2.1 (work s.mbReq (s.at off)).2.2 := by
  have h := State.serve_works (any := any) work hbusy hawake ((s.mbOp_at off).trans hop) (by rwa [State.fwState_at])
    (by rwa [State.agreed_at]) (by rwa [State.mbReq_at])
  rwa [State.mbReq_at] at h

/-- A request of the firmware's major whose required features it has agrees on what both have (R692). -/
theorem execNegotiate_agrees (hop : s.mbOp = 0x01) (hstate : s.fwState ∈ [FW.waitDriver, FW.running, FW.held])
    (hlayout : layoutOk s.mbReq [(8, 1), (9, 1), (16, 8), (24, 8)] = true)
    (hmajor : reqAt s.mbReq 8 1 = (s.fwInfo s.runRegion).major.toNat)
    (hrequired : reqAt s.mbReq 24 8 &&& s.fwBitmap = reqAt s.mbReq 24 8) :
    execNegotiate off s = .next (((((s.at off).cpcMap (fun c =>
      { c with neg := some ⟨reqAt s.mbReq 16 8, reqAt s.mbReq 24 8, reqAt s.mbReq 8 1, reqAt s.mbReq 9 1⟩ })).setAgreed
      (reqAt s.mbReq 16 8 &&& s.fwBitmap)).setFw FW.running 0).mbAnswer MB.ok ([(s.fwInfo s.runRegion).major.toNat,
      (s.fwInfo s.runRegion).minor.toNat, 0, 0] ++ leBytes 4 (s.fwInfo s.runRegion).version.toNat ++ leBytes 8
      s.fwBitmap ++ leBytes 8 (reqAt s.mbReq 16 8 &&& s.fwBitmap))) := by
  unfold execNegotiate
  rw [State.serve_at hbusy hawake _ hop hstate (by simp) hlayout]
  simp [State.fwBitmap_at, State.runRegion_at, State.fwInfo_at, hmajor, hrequired]

/-- STATUS is answered from the registers (R690). -/
theorem execMbStatus_answers (hop : s.mbOp = 0x02) (hstate : s.fwState ∈ [FW.waitDriver, FW.running, FW.held])
    (hlayout : layoutOk s.mbReq [] = true) (hshort : s.agreed / 32 % 2 = 0) :
    execMbStatus off s = .next ((s.at off).mbAnswer MB.ok (leBytes 4 (s.reg (regKey (Pg.cpc 0) 0x040)).toNat ++
      leBytes 4 (s.reg (regKey (Pg.cpc 0) 0x044)).toNat ++ leBytes 8 s.agreed ++ leBytes 2 (s.fld (Pg.cpc 0)
      F.CPC_CLUSTER_b0) ++ leBytes 2 (s.fld (Pg.cpc 0) F.CPC_CLUSTER_b16) ++ leBytes 4 (s.reg (regKey (Pg.cpc 11)
      0x040)).toNat ++ leBytes 4 (s.fld (Pg.cpc 0) F.CPC_FW_RESTARTS_DUTY_LATE))) := by
  unfold execMbStatus
  rw [State.serve_at hbusy hawake _ hop hstate (by simp) hlayout]
  dsimp only
  rw [State.agreed_at, if_neg (by omega)]
  simp only [State.reg_at, State.fld_at]

/-- GRAPH_POWER rewrites T01 and STATIC and answers their sum (R569). -/
theorem execGraphPower_answers (hop : s.mbOp = 0x40) (hstate : s.fwState ∈ [FW.waitDriver, FW.running])
    (hlayout : layoutOk s.mbReq [(8, 2), (10, 2)] = true) {w : State} (hw : w =
      (((s.at off).cpcMap (fun c => { c with power := (reqAt s.mbReq 8 2, reqAt s.mbReq 10 2) })).setFld Pg.nrg
        F.NRG_FLOOR_T01 (min (reqAt s.mbReq 8 2 + reqAt s.mbReq 10 2) 1023)).floorStatic) :
    execGraphPower off s = .next (w.mbAnswer MB.ok (leBytes 2 (w.fld Pg.nrg F.NRG_FLOOR_STATIC + w.fld Pg.nrg
      F.NRG_FLOOR_T01))) := by
  subst hw
  unfold execGraphPower
  rw [State.serve_at hbusy hawake _ hop hstate (by simp) hlayout]

/-- LOG_READ from an index that the log holds answers as many entries as are asked for and held (R690). -/
theorem execLogRead_answers (hop : s.mbOp = 0x50) (hstate : s.fwState ∈ [FW.running]) (hagreed : s.agreed / 2 ^ 6 % 2 = 1)
    (hlayout : layoutOk s.mbReq [(8, 4), (12, 1)] = true) (h0 : 0 < reqAt s.mbReq 12 1) (h15 : reqAt s.mbReq 12 1 ≤ 15)
    (hfirst : s.cpc.logBase ≤ reqAt s.mbReq 8 4) {es : List (List Nat)} (hes : es =
      (s.cpc.log.drop (reqAt s.mbReq 8 4 - s.cpc.logBase)).take (reqAt s.mbReq 12 1)) :
    execLogRead off s = .next ((s.at off).mbAnswer MB.ok (leBytes 4 (reqAt s.mbReq 8 4) ++ [es.length, 0, 0, 0] ++
      es.flatten)) := by
  subst hes
  have hfeature : ∀ k ∈ some 6, s.agreed / 2 ^ k % 2 = 1 := fun k hk => Option.mem_some.mp hk ▸ hagreed
  have hcount : ¬ (decide (reqAt s.mbReq 12 1 = 0) || decide (15 < reqAt s.mbReq 12 1)) = true := by
    simp
    omega
  unfold execLogRead
  rw [State.serve_at hbusy hawake _ hop hstate hfeature hlayout]
  dsimp only
  rw [if_neg hcount, State.at_cpc, Nat.max_eq_left hfirst]

end

/-! ### Dumps (R705, R707) -/

/-- A running firmware told to dump writes it with cause HOST (R705). -/
theorem State.dumpNow_runs {s : State} (h : (s.setFld (Pg.cpc 10) F.CPC_DUMP_CTL 0).fwRuns = true) (complete : Bool) :
    s.dumpNow complete = (s.setFld (Pg.cpc 10) F.CPC_DUMP_CTL 0).writeDump DC.host 0xFF complete :=
  if_pos h

theorem execDumpNow_answers {off : Nat} {s : State} (complete : Bool) (h : (s.at off).dropCause (Pg.cpc 10) = none) :
    execDumpNow off complete s = .next (((s.at off).write (Pg.cpc 10) 0x04C 1).dumpNow complete) :=
  congrArg Host.Outcome.next (State.onPage_answers h _ _)

/-- A command's read reaches its page where the page answers. -/
theorem State.readPage_answers {s : State} {page : Nat} (h : s.dropCause page = none) (off : Nat) (f : State → State) :
    s.readPage page off f = f s := by
  unfold State.readPage
  rw [h]

/-- A read of DUMP_DATA with AUTO_INC moves the address on (R707). -/
theorem State.dumpRead_moves {s : State} {a : Nat} {dump : List Nat}
    (hinc : s.bit (Pg.cpc 10) F.CPC_DUMP_ADDR_AUTO_INC = true) (ha : s.fld (Pg.cpc 10) F.CPC_DUMP_ADDR_b0 = a)
    (hdump : s.cpc.dump = dump) :
    s.dumpRead = { s with rdata := [BitVec.ofNat 32 (leNat ((List.range 4).map (fun i => dump.getD (a / 4 * 4 + i) 0)))]
      }.setFld (Pg.cpc 10) F.CPC_DUMP_ADDR_b0 (a / 4 * 4 + 4) := by
  subst ha hdump
  exact if_pos hinc

theorem execDumpDataRead_answers {off : Nat} {s : State} (h : (s.at off).dropCause (Pg.cpc 10) = none) :
    execDumpDataRead off s = .next (s.at off).dumpRead :=
  congrArg Host.Outcome.next (State.readPage_answers h _ _)

/-! ### Restarts, INIT and the retirement record (R724, R758, R853) -/

/-- A watchdog expiry writes a dump and restarts a firmware that has restarted less than twice of late (R724). -/
theorem execFirmwareCrash_watchdog {off : Nat} {core : Fin 8} {complete : Bool} {s w : State} (hruns : s.fwRuns = true)
    (hw : w = (s.at off).writeDump DC.watchdog core.val complete) (hupdating : w.fwState ≠ FW.updating)
    (hfew : w.fwRestart.cpc.restarts.length < 3) : execFirmwareCrash off 1 core complete s = .next w.fwRestart := by
  subst hw
  refine (if_neg ?_).trans ((if_neg hupdating).trans (congrArg Host.Outcome.next (if_neg (Nat.not_le.mpr hfew))))
  rw [State.fwRuns_at, hruns]
  decide

/-- In INIT with the load DONE the firmware leaves INIT (R853). -/
theorem execFirmwareInitDone_leaves {off : Nat} {s : State} (hinit : s.fwState = FW.init) (hload : s.loadState = LS'.done) :
    execFirmwareInitDone off s = .next (s.at off).initDone := by
  have hstate : (s.at off).fwState = FW.init := (s.fwState_at off).trans hinit
  have hdone : (s.at off).loadState = LS'.done := (s.loadState_at off).trans hload
  unfold execFirmwareInitDone
  dsimp only
  rw [hstate, hdone, if_neg (by decide), if_pos (by decide)]

/-- A running firmware writes the retirement record where the load does not read flash (R758). -/
theorem execRetirementRecordWrite_writes {off : Nat} {s : State} (hrun : s.fwState = FW.running)
    (hreset : s.pins.mainReset = false) (hload : (s.at off).loadReads = false) :
    execRetirementRecordWrite off s = .next ((s.at off).writeRecord s.retiredItems) := by
  have hstate : (s.at off).fwState = FW.running := (s.fwState_at off).trans hrun
  unfold execRetirementRecordWrite
  dsimp only
  rw [hstate, hload, State.at_pins, hreset, State.retiredItems_at, if_neg (by decide)]

/-! ### The statement -/

/-- Settles O25, a law of its own for each command. -/
theorem firmwareCommandsComplete : Obligations.FirmwareCommandsComplete := by
  refine ⟨fun off w s h => ⟨_, execHeartbeatKick_due h, rfl⟩, fun off w s h => ⟨_, execFloorDuty_due h, rfl⟩,
    fun off w s h hengines hmesh => ⟨_, execCrosstalkRefresh_mesh h hengines hmesh, rfl⟩,
    fun off s hrun hstale hfirst hclosed hshort htime => ?shortfall,
    fun off s hrun hstale hfirst hclosed henough hlate => ?late,
    fun off seq s w hd hw hfree => ?go,
    fun off s hbusy hawake hop hstate hlayout hmajor hrequired =>
      ⟨_, execNegotiate_agrees hbusy hawake hop hstate hlayout hmajor hrequired, rfl⟩,
    fun off s hbusy hawake hop hstate hlayout hshort =>
      ⟨_, execMbStatus_answers hbusy hawake hop hstate hlayout hshort, rfl⟩,
    fun off s hbusy hawake hop hstate hlayout => ⟨_, execGraphPower_answers hbusy hawake hop hstate hlayout rfl, rfl⟩,
    fun off s hbusy hawake hop hstate hagreed hlayout h0 h15 hfirst =>
      ⟨_, execLogRead_answers hbusy hawake hop hstate hagreed hlayout h0 h15 hfirst rfl, rfl⟩,
    fun off s w hd hw hruns => ?dump, fun off s hd hinc => ?dumpRead,
    fun off core complete s w hruns hw hupdating hfew =>
      ⟨_, execFirmwareCrash_watchdog hruns hw hupdating hfew, rfl⟩,
    fun off s hinit hload => ⟨_, execFirmwareInitDone_leaves hinit hload, rfl⟩,
    fun off s hrun hreset hload => ⟨_, execRetirementRecordWrite_writes hrun hreset hload, rfl⟩⟩
  case shortfall =>
    refine ⟨_, execReconciliation_first hrun hstale hfirst hclosed rfl, ?_⟩
    rw [if_pos hshort, if_neg (by omega)]
  case late =>
    refine ⟨_, execReconciliation_first hrun hstale hfirst hclosed rfl, ?_⟩
    rw [if_neg (by omega), if_pos hlate]
  case go =>
    subst hw
    exact ⟨_, execMailboxGo_answers seq hd, State.mbGo_free hfree _⟩
  case dump =>
    subst hw
    exact ⟨_, execDumpNow_answers true hd, State.dumpNow_runs hruns true⟩
  case dumpRead =>
    exact ⟨_, execDumpDataRead_answers hd,
      State.dumpRead_moves ((s.bit_at off _ _).trans hinc) (s.fld_at off _ _) (congrArg Cpc.dump (s.at_cpc off))⟩

end Sys2Proof.Machine
end

section
/-!
PROOFS. The safe state, the resets and the test access port (spec/20, R849, R894): a law for each of their commands.
-/

namespace Sys2Proof.Machine

open Sys2Proof

variable {off : Nat} {s : State}

/-! ### SSTATE -/

theorem State.sstate_at (s : State) (off : Nat) : (s.at off).sstate = s.sstate := s.fld_at off _ _

/-- SSTATE reads back what it was put to. -/
theorem State.sstate_setSState (s : State) {v : Nat} (h : v < 8) : (s.setSState v).sstate = v := by
  refine (State.fld_setFld_page _ _ _ _ _ _ (by decide) (by decide) (by decide)).trans ?_
  exact (State.fld_setFld_self _ _ _ _ (by decide)).trans (Nat.mod_eq_of_lt h)

theorem State.sstate_raiseIrq (s : State) (p b : Nat) : (s.raiseIrq p b).sstate = s.sstate :=
  State.fld_raiseIrq _ _ _ _ _ (by decide) (by decide) (by decide)

/-! ### Entering the safe state (R804, R812, R813) -/

theorem execSafeStateEntry_enters {c : Fin 12} (hc : c.val ≠ 0) (hr : s.pins.mainReset = false) :
    execSafeStateEntry off [c] none s = .next ((s.at off).safeEnter [c.val] none) := by
  have hcodes : ([c].map Fin.val).filter (fun c => c ≠ 0) = [c.val] := by simp [hc]
  unfold execSafeStateEntry
  dsimp only
  rw [hcodes, State.at_pins, hr, if_neg (by simp), Option.map_none]

theorem execFltErr_enters (hr : s.pins.mainReset = false) :
    execFltErr off s = .next ((s.at off).safeEnter [Trig.fltErr] (some Pg.flt)) := by
  unfold execFltErr
  dsimp only
  rw [State.at_pins, hr, if_neg (by decide)]

/-! ### The reset of the main domain (R806, R812, R823) -/

/-- The mask of every component but the pins (bit 13). -/
def besidePins : Nat := 0x17ffffffeffffffdfff

/-- A reset of the main domain is seen in the pins (R849). -/
theorem State.mainReset_resetMain (s : State) (warm full : Bool) : (s.resetMain warm full).pins.mainReset = true := by
  have hheld : ((s.flushCache warm).resetHeld warm full).pins.mainReset = true := rfl
  have hreasons : (if full = true then (s.flushCache warm).resetHeld warm full
      else ((s.flushCache warm).resetHeld warm full).safeReasons warm).pins.mainReset = true := by
    split
    · exact hheld
    · exact (congrArg Pins.mainReset
        ((State.safeReasons_keeps (M := besidePins) (.refl _ _) rfl).pins rfl)).trans hheld
  unfold State.resetMain
  extract_lets pages s3 s4 s5 p
  have htaps : Keeps besidePins s4 (if warm = true then State.tapsLost s s4 else s4) :=
    (State.tapsLost_keeps (.refl _ _) rfl).ite (.refl _ _)
  have hpages : Keeps besidePins s4 s5 :=
    State.syncPages_keeps (.foldl _ (fun _ _ h => State.syncDelay_keeps h rfl) htaps) rfl
  have h5 : s5.pins.mainReset = true := (congrArg Pins.mainReset (hpages.pins rfl)).trans hreasons
  split <;> exact h5

theorem State.raiseIrq_pins (s : State) (p b : Nat) : (s.raiseIrq p b).pins = s.pins :=
  (State.raiseIrq_keeps (M := besidePins) (.refl _ s) rfl (.all rfl)).pins rfl

/-- A cold restart starts with the reset, in COLD or, where WINDOW is full, in HALTED (R806, R812). -/
theorem State.startRestart_cold (s : State) : (s.startRestart true).pins.mainReset = true ∧
    ((s.startRestart true).sstate = SState.cold ∨ (s.startRestart true).sstate = SState.halted) := by
  unfold State.startRestart
  dsimp only
  split
  · rw [State.raiseIrq_pins, State.sstate_raiseIrq]
    exact ⟨State.mainReset_resetMain s _ _, .inr (State.sstate_setSState _ (by decide))⟩
  · exact ⟨State.mainReset_resetMain s _ _, .inl (State.sstate_setSState _ (by decide))⟩

theorem execSafeResetAssert_restarts (dumped : Bool) (h : s.sstate = SState.entering)
    (hdump : s.bit (Pg.cpc 10) F.CPC_DUMP_STATUS_WRITING = false) (hcold : s.safe.cold = true) :
    ∃ w : State, execSafeResetAssert off dumped true s = .next (w.startRestart true) := by
  unfold execSafeResetAssert
  extract_lets s0 writing window s1 s2 cold s3
  have hwriting : writing = false := (s.bit_at off _ _).trans hdump
  have hs1 : s1 = s0 := by simp only [s1, hwriting]; rfl
  have hsafe : s2.safe.cold = true := by
    have hheads : s0.keepHeads.safe = s0.safe := rfl
    show s1.keepHeads.safe.cold = true
    rw [hs1, hheads, State.at_safe, hcold]
  have hc : cold = true := by simp only [cold, hsafe]; rfl
  refine ⟨s2, ?_⟩
  rw [if_neg, if_pos (by simp)]
  · simp only [s3, hc]; rfl
  · rw [hwriting, State.sstate_at, h]; simp

/-- A warm restart that has run too long is reset once more and COLD (R823). -/
theorem execWarmRestartTimeout_cold {us : Nat} (h : s.sstate = SState.warm)
    (hus : 40000 + s.fld Pg.flt F.FLT_SAFE_HOLD_US ≤ us) :
    execWarmRestartTimeout off us s = .next (((s.at off).resetMain false false).setSState SState.cold) := by
  unfold execWarmRestartTimeout
  dsimp only
  rw [State.sstate_at, State.fld_at, h, if_pos (by simpa using hus)]

/-! ### Leaving reset (R809, R848, R849) -/

theorem execMainResetRelease_releases {straps : BitVec 3} (waitUs : Word) {holdUs : Word} (islandUs : Word)
    (hhold : 100 ≤ holdUs.toNat) (hreset : s.pins.mainReset = true) (hisland : s.pins.island = true)
    (hpg : s.pins.mainPg = true) (hpin : s.pins.resetN = true) (hlref : s.wdl.lrefOk = true)
    (hstraps : straps.toNat / 4 % 2 = 0) (h : s.sstate = SState.cold) :
    ∃ t : State, execMainResetRelease off straps true waitUs holdUs islandUs s = .next t ∧
      t.pins.mainReset = false ∧ t.pins.hbLost = false := by
  unfold execMainResetRelease
  extract_lets s0 ok warm first pins s1 s2 s3 s4 s5 s6
  have hok : ok = true := by
    simp [ok, s0, State.sstate_at, hreset, hisland, hpg, hpin, hlref, hstraps, h, hhold, SState.cold, SState.halted]
  have hwarm : warm = False := by simp [warm, s0, State.sstate_at, h, SState.cold, SState.warm]
  have hkeeps : Keeps besidePins s1 s6 := by
    have h3 : Keeps besidePins s1 s3 :=
      State.setFld_keeps (State.bootCleared_keeps (State.setFld_keeps (.refl _ _) rfl (.all rfl)) rfl) rfl (.all rfl)
    have h4 : Keeps besidePins s1 s4 := .ite (State.setFld_keeps (State.setFld_keeps h3 rfl (.all rfl)) rfl (.all rfl)) h3
    have h5 : Keeps besidePins s1 s5 := State.setFld_keeps (State.setFld_keeps h4 rfl (.all rfl)) rfl (.all rfl)
    exact State.flashReset_keeps (State.startUnits_keeps h5 rfl) rfl
  have hpins : s6.pins = s1.pins := hkeeps.pins rfl
  refine ⟨s6, ?_, (congrArg Pins.mainReset hpins).trans rfl, (congrArg Pins.hbLost hpins).trans rfl⟩
  rw [hok]
  simp [hwarm]

/-- A restart is over where the load is DONE, the firmware has left INIT and no line unit is waited for (R809). -/
theorem execRestartComplete_normal (micros : Word) (h : s.sstate = SState.cold) (hreset : s.pins.mainReset = false)
    (hload : s.loadState = LS'.done) (hfw : s.fwState = FW.running) (hresume : s.safe.resume = []) :
    ∃ t : State, execRestartComplete off micros s = .next t ∧ t.sstate = SState.normal ∧
      t.fld Pg.gbl F.GBL_STATUS_LAST_RESTART = 1 ∧ t.fld Pg.flt F.FLT_SAFE_RESTART_US = micros.toNat := by
  unfold execRestartComplete
  extract_lets s0 warm fw s1 s2 s3
  have hwarm : warm = False := by simp [warm, s0, State.sstate_at, h, SState.cold, SState.warm]
  have hs1 : s1 = (s0.setSState SState.normal).setFld Pg.gbl F.GBL_STATUS_LAST_RESTART 1 := by simp [s1, hwarm]
  have hs2 : s2 = (s1.setFld Pg.flt F.FLT_SAFE_RESTART_US micros.toNat).incFld Pg.flt F.FLT_SAFE_EVT_b16 := by
    simp [s2, hwarm]
  have hframe (p : Nat) (f : Fld) (hp : p ≠ Pg.byp) (ho : f.off < 4096) (hirq : f.off ≠ 0x020) (hpba : f.off ≠ 0x240) :
      (if s3.pins.forceN = true then s3 else s3.setFld Pg.byp F.BYP_STATUS_LAST_CAUSE Engage.forcePin).fld p f =
        s2.fld p f := by
    have h3 : s3.fld p f = s2.fld p f := State.fld_raiseIrq _ _ _ _ _ ho hirq hpba
    split
    · exact h3
    · exact (State.fld_setFld_page _ _ _ _ _ _ (by decide) ho hp).trans h3
  refine ⟨_, if_neg ?_, (hframe _ _ (by decide) (by decide) (by decide) (by decide)).trans ?_,
    (hframe _ _ (by decide) (by decide) (by decide) (by decide)).trans ?_,
    (hframe _ _ (by decide) (by decide) (by decide) (by decide)).trans ?_⟩
  · simp [hwarm, fw, s0, State.sstate_at, h, hreset, State.loadState_at, hload, State.fwState_at, hfw, hresume]
  · rw [hs2, hs1, State.fld_incFld_off _ _ _ _ _ _ (by decide) (by decide) (by decide),
      State.fld_setFld_off _ _ _ _ _ _ (by decide) (by decide) (by decide),
      State.fld_setFld_page _ _ _ _ _ _ (by decide) (by decide) (by decide)]
    exact State.sstate_setSState _ (by decide)
  · rw [hs2, hs1, State.fld_incFld_page _ _ _ _ _ _ (by decide) (by decide) (by decide),
      State.fld_setFld_page _ _ _ _ _ _ (by decide) (by decide) (by decide), State.fld_setFld_self _ _ _ _ (by decide)]
    rfl
  · rw [hs2, State.fld_incFld_off _ _ _ _ _ _ (by decide) (by decide) (by decide), State.fld_setFld_self _ _ _ _ (by decide)]
    exact Nat.mod_eq_of_lt micros.isLt

/-! ### The test access port (R894) -/

theorem execTapInstruction_loads {opcode : BitVec 8} {l : Nat} (hl : tapLevel opcode.toNat = some l)
    (hlevel : l ≤ s.fld (Pg.sec 6) F.SEC_DBG_STATUS_b0) :
    execTapInstruction off opcode s = .next { s.at off with tap := (opcode.toNat, s.tap.2) } := by
  unfold execTapInstruction
  dsimp only
  rw [hl, State.fld_at, State.at_tap, if_pos (decide_eq_true hlevel)]

/-! ### The statement -/

/-- Settles O7, a law of its own for each command. -/
theorem safeStateCommandsComplete : Obligations.SafeStateCommandsComplete := by
  refine ⟨fun off c s hc hr => ⟨_, execSafeStateEntry_enters hc hr, rfl⟩, fun off s => ⟨_, rfl, rfl⟩,
    fun off s => ⟨_, rfl, rfl⟩, fun off s hr => ⟨_, execFltErr_enters hr, rfl⟩,
    fun off dumped s h hdump hcold => ?assert,
    fun off straps waitUs holdUs islandUs s hhold hreset hisland hpg hpin hlref hstraps h =>
      execMainResetRelease_releases waitUs islandUs hhold hreset hisland hpg hpin hlref hstraps h,
    fun off micros s h hreset hload hfw hresume => execRestartComplete_normal micros h hreset hload hfw hresume,
    fun off us s h hus => ⟨_, execWarmRestartTimeout_cold h hus, State.sstate_setSState _ (by decide),
      State.mainReset_resetMain _ _ _⟩,
    fun off opcode l s hl hlevel => ⟨_, execTapInstruction_loads hl hlevel, rfl⟩⟩
  case assert =>
    obtain ⟨w, hw⟩ := execSafeResetAssert_restarts (off := off) dumped h hdump hcold
    exact ⟨_, hw, State.startRestart_cold w⟩

end Sys2Proof.Machine
end

section
/-!
PROOFS. The services of the cryptographic module (Table SEC-2): what one answers that runs, and one that is refused; from it a law
for each command of the module's states, tests, roles and debug levels.
-/

namespace Sys2Proof.Machine

open Sys2Proof

/-! ### What the offset within the turn leaves -/

theorem State.mstate_at (s : State) (off : Nat) : (s.at off).mstate = s.mstate := s.fld_at off _ _

theorem State.approvedMode_at (s : State) (off : Nat) : (s.at off).approvedMode = s.approvedMode := by
  unfold State.at
  split <;> rfl

theorem State.secReq_at (s : State) (off : Nat) (who : Requester) (req : List (BitVec 8)) :
    (s.at off).secReq who req = s.secReq who req := by
  unfold State.at
  split <;> rfl

theorem State.deviceId_at (s : State) (off : Nat) : (s.at off).deviceId = s.deviceId := by
  unfold State.at
  split <;> rfl

/-! ### A service (R768 to R770, R784) -/

/-- A request that its requester has made: PF0's stands in its window. -/
def State.Asks (s : State) (who : Requester) (req : List (BitVec 8)) (opcode : Nat) : Prop :=
  who = .pf0 → s.bit (Pg.sec 0) F.SEC_RSP_BUSY = true ∧ leNat ((s.secReq who req).take 2) = opcode

theorem State.Asks.not_ignored {s : State} {who : Requester} {req : List (BitVec 8)} {opcode : Nat} (off : Nat)
    (h : s.Asks who req opcode) : ¬ (decide (who = .pf0) && (!(s.at off).bit (Pg.sec 0) F.SEC_RSP_BUSY ||
      decide (leNat (((s.at off).secReq who req).take 2) ≠ opcode))) = true := by
  rw [State.bit_at, State.secReq_at]
  intro hc
  rw [Bool.and_eq_true, decide_eq_true_eq, Bool.or_eq_true] at hc
  obtain ⟨hwho, hbad⟩ := hc
  obtain ⟨hbusy, hop⟩ := h hwho
  simp [hbusy, hop] at hbad

/-- Every requester but PF0 asks by its command alone. -/
theorem State.asks_of_ne_pf0 {s : State} {who : Requester} (h : who ≠ .pf0) (req : List (BitVec 8)) (opcode : Nat) :
    s.Asks who req opcode := fun hp => absurd hp h

section

variable {extra : List (BitVec 8)} {off : Nat} {who : Requester} {req : List (BitVec 8)} {opcode : Nat} {states : List Nat}
  {co : Bool} {run : State → Nat → List Nat → Served} {s : State}

/-- A service that the module's state and the requester's role allow answers what it gives. -/
theorem runService_answers {r : List Nat} {t : State} {st : Nat} {res : List Nat} (hr : r = s.secReq who req)
    (hask : s.Asks who req opcode) (hstate : s.mstate ∈ states) (htests : s.mstate = MS.selftest → opcode = 1)
    (hop : opcode < 0x0080) (hco : co = true → requester who ∈ s.sec.sessions)
    (hrun : run (s.at off) (requester who) r = some (t, st, res)) :
    runService extra off who req opcode states co false run s =
      .next (t.secAnswer (requester who) opcode st s.approvedMode res) := by
  have hnoTests : ¬ (decide ((s.at off).mstate = MS.selftest) && decide (opcode ≠ 1)) = true := by
    simpa [State.mstate_at] using htests
  have hin : ¬ (!states.contains (s.at off).mstate) = true := by simpa [State.mstate_at] using hstate
  have hlow : ¬ (decide (0x0080 ≤ opcode) && decide (2 ≤ requester who)) = true := by simp; omega
  have hrole : ¬ (co && !(s.at off).sec.sessions.contains (requester who)) = true := by simpa using hco
  subst hr
  unfold runService
  dsimp only
  rw [if_neg (hask.not_ignored off), if_neg hnoTests, if_neg hin, if_neg hlow, if_neg hrole, if_neg (by simp),
    State.secReq_at, hrun, State.approvedMode_at, Bool.not_false, Bool.and_true]

/-- A Crypto Officer's service without a session is refused (R768; the order of the refusals is log entry 57). -/
theorem runService_notAuthorised (hwho : who ≠ .pf0) (hstate : s.mstate = MS.operational) (hin : MS.operational ∈ states)
    (hop : opcode < 0x0080) (hco : requester who ∉ s.sec.sessions) :
    runService extra off who req opcode states true false run s =
      .next ((s.at off).secAnswer (requester who) opcode SS.notAuthorised s.approvedMode []) := by
  have hm : (s.at off).mstate = MS.operational := (s.mstate_at off).trans hstate
  unfold runService
  dsimp only
  rw [if_neg ((State.asks_of_ne_pf0 hwho req opcode).not_ignored off), if_neg (by rw [hm]; simp [MS.operational, MS.selftest]),
    if_neg (by rw [hm]; simpa using hin), if_neg (by simp; omega), if_pos (by simpa using hco), State.approvedMode_at,
    Bool.not_false, Bool.and_true]

/-- A service asked of a module in a state that does not run it, and not in SELFTEST, is refused (Table SEC-2). -/
theorem runService_notOperational (hwho : who ≠ .pf0) (hout : s.mstate ∉ states) (htests : s.mstate ≠ MS.selftest) :
    runService extra off who req opcode states co false run s =
      .next ((s.at off).secAnswer (requester who) opcode SS.notOperational s.approvedMode []) := by
  unfold runService
  dsimp only
  rw [if_neg ((State.asks_of_ne_pf0 hwho req opcode).not_ignored off), State.mstate_at, if_neg (by simp [htests]),
    if_pos (by simpa using hout), State.approvedMode_at, Bool.not_false, Bool.and_true]

/-- A request that arrives in SELFTEST is held (R784). -/
theorem runService_held {plain : Bool} (hask : s.Asks who req opcode) (htests : s.mstate = MS.selftest) (hop : opcode ≠ 1) :
    runService extra off who req opcode states co plain run s =
      .next ((s.at off).holdRequest who ⟨opcode, who, req, extra⟩) := by
  unfold runService
  dsimp only
  rw [if_neg (hask.not_ignored off), State.mstate_at, if_pos (by simp [htests, hop])]

end

/-- An answer changes neither the module's part of the state nor the keys of the line ports. -/
theorem State.secAnswer_secrets (s : State) (off who opcode status : Nat) (approved : Bool) (res : List Nat) :
    ((s.at off).secAnswer who opcode status approved res).sec = s.sec ∧
      ((s.at off).secAnswer who opcode status approved res).saks = s.saks := by
  have h : Keeps 0x2200000000202 (s.at off) ((s.at off).secAnswer who opcode status approved res) :=
    State.secAnswer_keeps (.refl _ _) rfl
  exact ⟨(h.sec rfl).trans (s.at_sec off), (h.saks rfl).trans (s.at_saks off)⟩

/-! ### Services refused -/

/-- A Crypto Officer's service, asked of an OPERATIONAL module without a session. -/
structure WithoutRole (who : Requester) (s : State) : Prop where
  notPf0 : who ≠ .pf0
  state : s.mstate = MS.operational
  role : requester who ∉ s.sec.sessions

/-- A service that runs in OPERATIONAL only, asked of a module in ERROR, CRITICAL or ZEROIZED. -/
structure OutOfOperation (who : Requester) (s : State) : Prop where
  notPf0 : who ≠ .pf0
  state : s.mstate ≠ MS.operational
  tests : s.mstate ≠ MS.selftest

/-- A command that ends in an answer alone leaves the module's part of the state and the ports' keys. -/
theorem answers_leaves_secrets {off who opcode status : Nat} {approved : Bool} {s : State} {e : Result}
    (h : e = .next ((s.at off).secAnswer who opcode status approved [])) : ∃ t : State, e = .next t ∧ t.sec = s.sec ∧
      t.saks = s.saks ∧ t = (s.at off).secAnswer who opcode status approved [] := by
  obtain ⟨hsec, hsaks⟩ := s.secAnswer_secrets off who opcode status approved []
  exact ⟨_, h, hsec, hsaks, rfl⟩

theorem WithoutRole.refused {who : Requester} {s : State} (h : WithoutRole who s) {extra : List (BitVec 8)} {off : Nat}
    {req : List (BitVec 8)} {opcode : Nat} {run : State → Nat → List Nat → Served} {e : Result}
    (he : e = runService extra off who req opcode [1] true false run s) (hop : opcode < 0x0080) :
    ∃ t : State, e = .next t ∧ t.sec = s.sec ∧ t.saks = s.saks ∧
      t = (s.at off).secAnswer (requester who) opcode SS.notAuthorised s.approvedMode [] :=
  answers_leaves_secrets (he.trans <| runService_notAuthorised h.notPf0 h.state List.mem_cons_self hop h.role)

theorem OutOfOperation.refused {who : Requester} {s : State} (h : OutOfOperation who s) {extra : List (BitVec 8)} {off : Nat}
    {req : List (BitVec 8)} {opcode : Nat} {co : Bool} {run : State → Nat → List Nat → Served} {e : Result}
    (he : e = runService extra off who req opcode [1] co false run s) :
    ∃ t : State, e = .next t ∧ t.sec = s.sec ∧ t.saks = s.saks ∧
      t = (s.at off).secAnswer (requester who) opcode SS.notOperational s.approvedMode [] :=
  answers_leaves_secrets (he.trans <| runService_notOperational h.notPf0 (fun hm => h.state (List.mem_singleton.mp hm)) h.tests)

/-- Settles O48: each command is a service, refused where its role or the module's state does not allow it. -/
theorem servicesNeedTheirRole : Obligations.ServicesNeedTheirRole :=
  ⟨fun off who req s hw hs hr =>
      WithoutRole.refused (e := execStkEstablish off who req s) ⟨hw, hs, hr⟩ rfl (by decide),
    fun off who req s hw hs hr =>
      WithoutRole.refused (e := execStkClear off who req s) ⟨hw, hs, hr⟩ rfl (by decide),
    fun off who req s hw hs hr =>
      WithoutRole.refused (e := execLogout off who req s) ⟨hw, hs, hr⟩ rfl (by decide),
    fun off who req s hw hs hr =>
      WithoutRole.refused (e := execZeroize off who req s) ⟨hw, hs, hr⟩ rfl (by decide),
    fun off who req rb s hw hs hr =>
      WithoutRole.refused (e := execProvisionIk off who req rb s) ⟨hw, hs, hr⟩ rfl (by decide),
    fun off who req rb s hw hs hr =>
      WithoutRole.refused (e := execRevoke off who req rb s) ⟨hw, hs, hr⟩ rfl (by decide),
    fun off who req s hw hs ht => OutOfOperation.refused (e := execSecRandom off who req s) ⟨hw, hs, ht⟩ rfl,
    fun off who req s hw hs ht => OutOfOperation.refused (e := execSakLoad off who req s) ⟨hw, hs, ht⟩ rfl,
    fun off who req s hw hs ht => OutOfOperation.refused (e := execSakClear off who req s) ⟨hw, hs, ht⟩ rfl⟩

end Sys2Proof.Machine
end

section
/-!
PROOFS. The module's states, tests, roles and debug levels (spec/19): a law for each of their commands.
-/

namespace Sys2Proof.Machine

open Sys2Proof

section

variable {off : Nat} {who : Requester} {req : List (BitVec 8)} {r : List Nat} {s : State}

/-- A request that has been made, by its bytes. -/
theorem State.asks_of {opcode : Nat} (hr : r = s.secReq who req)
    (h : who = .pf0 → s.bit (Pg.sec 0) F.SEC_RSP_BUSY = true ∧ leNat (r.take 2) = opcode) : s.Asks who req opcode :=
  fun hwho => hr ▸ h hwho

/-! ### Status, debug level, roles (R768, R770, R786, R788) -/

theorem execSecStatusSvc_answers (hr : r = s.secReq who req) (hask : s.Asks who req 0x0001) (h : s.mstate ≤ 4) :
    execSecStatusSvc off who req s = .next ((s.at off).secAnswer (requester who) 0x0001 SS.ok s.approvedMode
      (leBytes 4 (s.reg (regKey (Pg.sec 0) 0x040)).toNat)) := by
  have hstate : s.mstate ∈ [0, 1, 2, 3, 4] := by
    simp only [List.mem_cons, List.not_mem_nil, or_false]
    omega
  refine runService_answers hr hask hstate (fun _ => rfl) (by decide) nofun ?_
  rw [State.reg_at]

theorem execDebugLock_locks (hr : r = s.secReq who req) (hask : s.Asks who req 0x0060)
    (h : s.mstate ∈ [MS.operational, MS.error, MS.zeroized]) :
    execDebugLock off who req s =
      .next (((s.at off).setDebug 0).secAnswer (requester who) 0x0060 SS.ok s.approvedMode []) := by
  refine runService_answers hr hask h (fun ht => ?_) (by decide) nofun rfl
  rw [ht] at h
  exact absurd h (by decide)

/-- In OPERATIONAL the tests do not run. -/
theorem State.operational_not_tests {opcode : Nat} (h : s.mstate = MS.operational) : s.mstate = MS.selftest → opcode = 1 :=
  fun ht => absurd (h.symm.trans ht) (by decide)

/-- A service of an OPERATIONAL module answers what it gives. -/
theorem runService_operational {extra : List (BitVec 8)} {opcode : Nat} {co : Bool} {run : State → Nat → List Nat → Served}
    {t : State} {st : Nat} {res : List Nat} (hr : r = s.secReq who req) (hask : s.Asks who req opcode)
    (h : s.mstate = MS.operational) (hop : opcode < 0x0080) (hco : co = true → requester who ∈ s.sec.sessions)
    (hrun : run (s.at off) (requester who) r = some (t, st, res)) :
    runService extra off who req opcode [1] co false run s =
      .next (t.secAnswer (requester who) opcode st s.approvedMode res) :=
  runService_answers hr hask (List.mem_singleton.mpr h) (State.operational_not_tests h) hop hco hrun

theorem execLogout_ends (hr : r = s.secReq who req) (hask : s.Asks who req 0x0012) (h : s.mstate = MS.operational)
    (hco : requester who ∈ s.sec.sessions) :
    execLogout off who req s =
      .next (((s.at off).endSession (requester who)).secAnswer (requester who) 0x0012 SS.ok s.approvedMode []) :=
  runService_operational hr hask h (by decide) (fun _ => hco) rfl

/-- The module's part of the state after a challenge: the nonce held, the one it replaces stale (R786). -/
theorem execAuthChallenge_answers (hr : r = s.secReq who req) (hask : s.Asks who req 0x0010) (h : s.mstate = MS.operational)
    (hpurpose : r.getD 8 3 ≤ 2) (hindex : r.getD 9 2 ≤ 1) {t : State}
    (ht : t = (((((s.at off).drawn.incFld (Pg.sec 4) F.SEC_DRBG_CNT).secMap (fun y => { y with
        stale := (match FMap.get? y.nonces (requester who) with
          | some old => FMap.set y.stale (requester who) old
          | none => FMap.erase y.stale (requester who)),
        nonces := FMap.set y.nonces (requester who) ⟨(s.at off).drbgBytes 48 |>.1, r.getD 8 0, r.getD 9 0⟩ })).syncNonce).setFld
      (Pg.sec 6) F.SEC_DBG_STATUS_b8 30)) :
    execAuthChallenge off who req s = .next (t.secAnswer (requester who) 0x0010 SS.ok s.approvedMode
      (((s.at off).drbgBytes 48).1 ++ s.deviceId)) := by
  refine runService_operational hr hask h (by decide) nofun ?_
  rw [if_neg (by simp only [Bool.or_eq_true, decide_eq_true_eq]; omega), ht, ← s.deviceId_at off]
  rfl

/-- A response to the nonce held, none being stale, uses it and grants what its signatures hold for (R786). -/
theorem execAuthResponse_answers (hr : r = s.secReq who req) (hask : s.Asks who req 0x0011) (h : s.mstate = MS.operational)
    {n : Nonce} {p : SigBlock × SigBlock} (hn : (s.at off).nonceOf (requester who) = some n)
    (hstale : FMap.get? s.sec.stale (requester who) = none) (hp : sigPair (r.drop 8) = some p) {u : State}
    (hu : u = ((s.at off).secMap (fun y => { y with
      nonces := FMap.erase y.nonces (requester who), stale := FMap.erase y.stale (requester who) })).syncNonce) :
    execAuthResponse off who req s = .next (if s.authStatus n p = SS.ok then
        (u.grantAuth (requester who) n).secAnswer (requester who) 0x0011 SS.ok s.approvedMode []
      else (u.incFld (Pg.sec 6) F.SEC_DBG_UNLOCKS_b16).secAnswer (requester who) 0x0011 (s.authStatus n p) s.approvedMode []) := by
  have hauth : (s.at off).authStatus n p = s.authStatus n p := by
    unfold State.at
    split <;> rfl
  subst hu
  split
  · rename_i hok
    refine runService_operational hr hask h (by decide) nofun ?_
    dsimp only
    rw [hn, hp]
    dsimp only
    rw [hauth, if_pos hok]
  · rename_i hbad
    refine runService_operational hr hask h (by decide) nofun ?_
    dsimp only
    rw [hn, hp]
    dsimp only
    rw [hauth, if_neg hbad, State.at_sec, hstale]

/-! ### Tests, mode, zeroization (R771, R782 to R785) -/

/-- A request that its requester has made is its own. -/
theorem State.Asks.mine {opcode : Nat} (off : Nat) (h : s.Asks who req opcode) :
    (decide (who ≠ .pf0) || ((s.at off).bit (Pg.sec 0) F.SEC_RSP_BUSY &&
      decide (leNat (((s.at off).secReq who req).take 2) = opcode))) = true := by
  rw [State.bit_at, State.secReq_at]
  by_cases hwho : who = .pf0
  · obtain ⟨hbusy, hop⟩ := h hwho
    simp [hbusy, hop]
  · simp [hwho]

theorem execSelftest_starts (hask : s.Asks who req 0x0002) (h : s.mstate = MS.operational) (hpin : s.pins.zeroizeN = true) :
    execSelftest off who req s = .next ((s.at off).startTests (some (requester who, 0x0002))) := by
  unfold execSelftest
  extract_lets s0 b mine free
  have hmine : mine = true := hask.mine off
  have hfree : free = true := by simp [free, s0, State.mstate_at, h]
  rw [if_pos]
  simp [hmine, hfree, s0, hpin]

theorem execSetMode_sets (hr : r = s.secReq who req) (hask : s.Asks who req 0x0050) (h : s.mstate = MS.operational)
    (hco : requester who ∈ s.sec.sessions) (hmode : r.getD 8 2 < 2)
    (hlock : s.bit (Pg.sec 0) F.SEC_STATUS_MODE_LOCK = false) :
    execSetMode off who req s = .next ((((s.at off).zeroize).setFld (Pg.sec 0) F.SEC_STATUS_MODE (r.getD 8 2)).startTests
      (some (requester who, 0x0050))) := by
  subst hr
  unfold execSetMode
  extract_lets s0 w b mine mode
  have hmine : mine = true := hask.mine off
  have hb : b = s.secReq who req := s.secReq_at off who req
  have hm : mode = (s.secReq who req).getD 8 2 := congrArg (List.getD · 8 2) hb
  rw [if_pos, hm]
  rw [← hm] at hmode
  simp [hmine, hmode, s0, w, State.mstate_at, h, hco, hlock]

/-- KILL 0 names no kill (R782). -/
theorem execZeroize_zeroizes (hr : r = s.secReq who req) (hask : s.Asks who req 0x0051) (h : s.mstate = MS.operational)
    (hco : requester who ∈ s.sec.sessions) (hkill : r.getD 8 2 = 0) :
    execZeroize off who req s =
      .next (((s.at off).zeroize).secAnswer (requester who) 0x0051 SS.ok s.approvedMode []) := by
  refine runService_operational hr hask h (by decide) (fun _ => hco) ?_
  have hbyte : ¬ r.getD 8 0 = 1 := by
    rw [List.getD_eq_getElem?_getD] at hkill ⊢
    cases hx : r[8]? with
    | none => rw [hx] at hkill; exact absurd hkill (by decide)
    | some x => rw [hx] at hkill; simp at hkill; simp [hkill]
  dsimp only
  rw [if_neg (by omega), if_neg hbyte]

/-- A request for RANDOM that arrives while the tests run is held, its requester waiting for nothing yet (R784). -/
theorem execSecRandom_waits (hask : s.Asks who req 0x0040) (h : s.mstate = MS.selftest)
    (hheld : FMap.get? s.sec.held (requester who) = none) (hfor : s.sec.testFor.map Prod.fst ≠ some (requester who)) :
    execSecRandom off who req s = .next { s.at off with
      sec := { s.sec with held := FMap.set s.sec.held (requester who) ⟨0x0040, who, req, []⟩ } } := by
  refine (runService_held hask h (by decide)).trans (congrArg _ ?_)
  unfold State.holdRequest State.secMap
  dsimp only
  rw [State.at_sec, if_neg]
  simp [hheld, hfor]

theorem execHealthTestFail_rct (h : s.mstate = MS.operational) :
    execHealthTestFail off .rct s = .next (((((s.at off).incFld (Pg.sec 4) F.SEC_HEALTH_CNT_RCT).testBit 4 false).raiseIrq
      (Pg.sec 4) 0).secFail MS.error 5) := by
  have hm : (s.at off).mstate = MS.operational := (s.mstate_at off).trans h
  unfold execHealthTestFail
  dsimp only
  rw [hm, if_neg (by decide), if_neg (by decide)]
  rfl

theorem execDrbgReseed_reseeds (h : s.mstate = MS.operational) (hcount : 2 ^ 20 ≤ s.fld (Pg.sec 4) F.SEC_DRBG_CNT) :
    execDrbgReseed off true s = .next (((s.at off).setFld (Pg.sec 4) F.SEC_DRBG_CNT 0).testBit 6 true) := by
  unfold execDrbgReseed
  dsimp only
  rw [State.mstate_at, State.fld_at, if_neg (by simp [h]; omega), if_pos rfl]

theorem execZeroizeNLow_zeroizes {u : State} (hisland : s.pins.island = true) (hreset : s.pins.resetN = true)
    (hu : u = { s.at off with pins := { s.pins with zeroizeN := false } }) :
    execZeroizeNLow off s = .next (if s.mstate = MS.critical then u.zeroizeCsps
      else if s.mstate = MS.selftest then u.zeroize.answerHeld else u.zeroize) := by
  unfold execZeroizeNLow
  extract_lets s0 pins s1
  have hs1 : s1 = u := by simp only [s1, pins, s0, hu, State.at_pins]
  have hm : s1.mstate = s.mstate := s.mstate_at off
  rw [if_pos (by simp [s1, pins, s0, hisland, hreset]), hm, hs1]

theorem execZeroizeNHigh_raises :
    execZeroizeNHigh off s = .next { s.at off with pins := { s.pins with zeroizeN := true } } := by
  unfold execZeroizeNHigh
  dsimp only
  rw [State.at_pins]

/-! ### The end of the tests (R784, R795) -/

/-- The results and the time that a run of the tests leaves, by the tests that failed. -/
def State.testsEnded (s : State) (bad : List Nat) (micros : Word) : State :=
  (((List.range 4).foldl (fun (t : State) k => t.testBit k (!bad.contains k)) s).setFld (Pg.sec 4) F.SEC_ST_TIME
    micros.toNat).incFld (Pg.sec 4) F.SEC_ST_RUNS

theorem execSecSelftestDone_critical {micros : Word} {u : State} (h : s.mstate = MS.selftest)
    (hisland : s.pins.island = true) (hreset : s.pins.resetN = true)
    (hu : u = ((s.at off).testsEnded [1] micros).secFail MS.critical 2) :
    execSecSelftestDone off [1] micros s = .next u.answerHeld := by
  subst hu
  unfold execSecSelftestDone
  extract_lets s0 bad s1 s2
  rw [if_neg (by simp [s0, State.mstate_at, h, hisland, hreset])]
  rfl

/-- A firmware's one held request is refused (R784). -/
theorem State.answerHeld_firmware {u : State} {h : HeldReq} (hu : u.sec.held = [(1, h)]) :
    u.answerHeld = (u.secMap (fun x => { x with held := [] })).secAnswer 1 h.opcode SS.notOperational u.approvedMode [] := by
  unfold State.answerHeld
  rw [hu]
  rfl

theorem execSecSelftestDone_operational {micros : Word} {w : State} (h : s.mstate = MS.selftest)
    (hisland : s.pins.island = true) (hreset : s.pins.resetN = true) (hw : w = (s.at off).testsEnded [] micros)
    (hpin : w.pins.zeroizeN = true) :
    execSecSelftestDone off [] micros s = .next ((((((w.secMap (fun x => { x with
        pufk := some (Config.pufKey w.sec.helper),
        dkek := (if w.bit (Pg.sec 0) F.SEC_STATUS_KILLED then none
          else (Config.kwUnwrap (Config.pufKey w.sec.helper) w.sec.dkekFuse).map beNat),
        drbg := true })).setFld (Pg.sec 4) F.SEC_DRBG_CNT 0).setFld (Pg.sec 0) F.SEC_STATUS_ERR_CODE 0).setMstate
      MS.operational).endTest SS.ok).milestone 0).serveHeld := by
  subst hw
  unfold execSecSelftestDone
  extract_lets s0 bad s1 s2 k dkek s3 s4
  have hlow : (!s2.pins.zeroizeN) = false := by rw [show s2.pins.zeroizeN = true from hpin]; rfl
  rw [if_neg (by simp [s0, State.mstate_at, h, hisland, hreset]), hlow]
  rfl

end

/-! ### The statement -/

/-- Settles O30, a law of its own for each command. -/
theorem moduleStatesComplete : Obligations.ModuleStatesComplete := by
  refine ⟨fun off who req r s hr hask h => ⟨_, execSecStatusSvc_answers hr (State.asks_of hr hask) h, rfl⟩,
    fun off who req r s hr hask h hpin => ⟨_, execSelftest_starts (State.asks_of hr hask) h hpin, rfl⟩,
    fun off micros s w h hisland hreset hw hpin =>
      ⟨_, execSecSelftestDone_operational h hisland hreset hw hpin, rfl⟩,
    fun off who req r s hr hask h hheld hfor => ⟨_, execSecRandom_waits (State.asks_of hr hask) h hheld hfor, rfl⟩,
    fun off micros h s w u hm hisland hreset hw hu hheld => ?critical,
    fun off s h => ⟨_, execHealthTestFail_rct h, rfl⟩,
    fun off s h hcount => ⟨_, execDrbgReseed_reseeds h hcount, rfl⟩,
    fun off s hisland hreset => ⟨_, execZeroizeNLow_zeroizes hisland hreset rfl, rfl⟩,
    fun off s => ⟨_, execZeroizeNHigh_raises, rfl⟩,
    fun off who req r s hr hask h hco hmode hlock => ⟨_, execSetMode_sets hr (State.asks_of hr hask) h hco hmode hlock, rfl⟩,
    fun off who req r s hr hask h hco hkill => ⟨_, execZeroize_zeroizes hr (State.asks_of hr hask) h hco hkill, rfl⟩,
    fun off who req r s hr hask h => ⟨_, execDebugLock_locks hr (State.asks_of hr hask) h, rfl⟩,
    fun off who req r s hr hask h hpurpose hindex =>
      ⟨_, execAuthChallenge_answers hr (State.asks_of hr hask) h hpurpose hindex rfl, rfl⟩,
    fun off who req r n p s hr hask h hn hstale hp => ⟨_, execAuthResponse_answers hr (State.asks_of hr hask) h hn hstale hp rfl, rfl⟩,
    fun off who req r s hr hask h hco => ⟨_, execLogout_ends hr (State.asks_of hr hask) h hco, rfl⟩,
    fun off who s => ⟨_, rfl, rfl⟩, fun off who s => ⟨_, rfl, rfl⟩⟩
  case critical =>
    refine ⟨_, execSecSelftestDone_critical hm hisland hreset (u := u) ?_, State.answerHeld_firmware hheld⟩
    rw [hu, hw]
    rfl

end Sys2Proof.Machine
end

section
/-!
PROOFS. A refutation: a SAK whose request names the other cipher suite than its port's is refused (R780).
-/

namespace Sys2Proof.Machine

open Sys2Proof

/-- An OPERATIONAL module in non-approved mode; no port is set to XPN. -/
def plainKeysModule : State := (State.reset.setFld (Pg.sec 0) F.SEC_STATUS_MSTATE MS.operational).setFld (Pg.sec 0)
  F.SEC_STATUS_MODE 1

/-- A request for a plain key in receive SA 0 of port 0, for the XPN suite. -/
def xpnKeyRequest : List (BitVec 8) := (List.replicate 72 0).set 15 1

/-- The request meets the clause's conditions. -/
theorem xpnKeyRequest_meets : plainKeysModule.mstate = MS.operational ∧ plainKeysModule.approvedMode = false ∧
    saOperand (plainKeysModule.secReq .firmware xpnKeyRequest) = some (0, 0x210, 4) ∧
    72 ≤ (plainKeysModule.secReq .firmware xpnKeyRequest).length ∧
    (plainKeysModule.secReq .firmware xpnKeyRequest).getD 15 2 < 2 ∧ plainKeysModule.saIdle 0 0x210 = true := by
  decide +kernel

/-- It is answered BAD_ARG, and no load is counted. -/
theorem sakLoadPlain_otherSuite :
    (next? (exec (.sakLoadPlain 0 .firmware xpnKeyRequest) plainKeysModule)).map
      (fun t => t.fld (Pg.sec 5) F.SEC_SAK_LOADS_b0) = some 0 := by decide +kernel

/-- Refutes O31: SAK_LOAD_PLAIN refuses a key whose request names the XPN suite where the port's SAs do not use it. -/
theorem not_moduleKeysComplete : ¬ Obligations.ModuleKeysComplete := by
  rintro ⟨-, -, -, -, -, sakLoadPlain, -⟩
  obtain ⟨hstate, hmode, hsa, hlen, hsuite, hidle⟩ := xpnKeyRequest_meets
  obtain ⟨t, hrun, ht⟩ := sakLoadPlain 0 .firmware xpnKeyRequest _ 0 0x210 4 plainKeysModule rfl nofun hstate hmode hsa hlen
    hsuite hidle
  have h0 : t.fld (Pg.sec 5) F.SEC_SAK_LOADS_b0 = 0 := by
    have h := sakLoadPlain_otherSuite
    rw [hrun] at h
    exact Option.some.inj h
  have h1 : t.fld (Pg.sec 5) F.SEC_SAK_LOADS_b0 = 1 := by
    rw [ht]
    decide +kernel
  exact absurd (h0.symm.trans h1) (by decide)

end Sys2Proof.Machine
end

section
/-!
PROOFS. The flash controller (R751, R755, R757, R760, R763): how a command is taken and how one completes, and which bytes of flash
a completion changes.
-/

namespace Sys2Proof.Machine

open Sys2Proof

variable {off : Nat} {s : State}

/-! ### Commands taken (R751, R755, R757) -/

/-- A field of page FLS beside the command register. -/
theorem State.fld_flashGo0 (s : State) (p : Nat) {f : Fld} (h : f.off < 4096) (hf : f.off ≠ 0x044) :
    (s.setFld Pg.fls F.FLS_CMD_GO 0).fld p f = s.fld p f := State.fld_setFld_off _ _ _ _ _ _ (by decide) h hf

theorem State.loadReads_flashGo0 (s : State) : (s.setFld Pg.fls F.FLS_CMD_GO 0).loadReads = s.loadReads := by
  unfold State.loadReads
  rw [State.fld_flashGo0 _ _ (by decide) (by decide)]

/-- The bytes of the page buffer stand beside the command register. -/
theorem State.flashBuf_flashGo0 (s : State) {n : Nat} (h : n ≤ 256) :
    (s.setFld Pg.fls F.FLS_CMD_GO 0).flashBuf n = s.flashBuf n := by
  refine List.map_congr_left fun b hb => ?_
  have hlt := List.mem_range.mp hb
  exact State.fld_flashGo0 _ _ (show 0x100 + b / 4 * 4 < 4096 by omega) (show 0x100 + b / 4 * 4 ≠ 0x044 by omega)

/-- The bytes a command takes from the page buffer: a PROGRAM's. -/
def State.flashData (s : State) (o len : Nat) : List Nat := if o = 2 then s.flashBuf len else []

/-- The command that FLS_CMD gives, with the address, the length and the data of the page's registers. -/
def State.flashAsked (s : State) (o : Nat) : FlashOp :=
  ⟨o, s.fld Pg.fls F.FLS_ADDR, max 1 (min 256 (s.fld Pg.fls F.FLS_LEN)),
    s.flashData o (max 1 (min 256 (s.fld Pg.fls F.FLS_LEN)))⟩

/-- A command written while no load reads flash is taken (R751, R755, R757, R760). -/
theorem State.flashCmd_taken {o : Nat} {w : State} (hp : s.dropCause Pg.fls = none) (h1 : 1 ≤ o) (h3 : o ≤ 3)
    (hw : w = (s.write Pg.fls 0x044 (BitVec.ofNat 32 (o + 8))).setFld Pg.fls F.FLS_CMD_GO 0)
    (ho : (s.write Pg.fls 0x044 (BitVec.ofNat 32 (o + 8))).fld Pg.fls F.FLS_CMD_OP = o) (h : w.loadReads = false) :
    s.flashCmd o = w.giveFlash (w.flashAsked o) := by
  refine (State.onPage_answers hp _ _).trans ?_
  generalize s.write Pg.fls 0x044 (BitVec.ofNat 32 (o + 8)) = x at hw ho
  subst hw
  have hreads : ¬ x.loadReads = true := by rw [← State.loadReads_flashGo0, h]; decide
  unfold State.flashGo State.flashAsked State.flashData
  dsimp only
  rw [ho, if_neg (by simp; omega), if_neg hreads, State.flashBuf_flashGo0 _ (by omega),
    State.fld_flashGo0 _ _ (by decide) (by decide), State.fld_flashGo0 _ _ (by decide) (by decide)]

/-! ### Completion (R751, R755, R763) -/

/-- An access that ends: a READ fills the page buffer, a PROGRAM has its bytes programmed, or is reported as failed. -/
def State.accessEnded (s : State) (ok : Bool) (o : FlashOp) : State :=
  let s1 := s.flashMap (fun f => { f with op := none })
  if o.op = 1 then (List.range o.len).foldl (fun (t : State) b =>
    t.setFld Pg.fls ⟨0x100 + b / 4 * 4, 24 - 8 * (b % 4), 8⟩ (Mem.byte 0xFF s.flash.mem (o.addr + b))) s1
  else if ok then s1.flashMap (fun f => { f with mem := programBytes f.mem o.addr o.data })
  else s1.flashFail

/-- An erase that ends, with its DONE entry where the sector is not the journal's, or is reported as failed (R755, R763). -/
def State.eraseEnded (s : State) (ok : Bool) (k : Nat) : State :=
  let s1 := s.flashMap (fun f => { f with erase := none })
  if !ok then s1.flashFail
  else if k = 2 || k = 3 then s1.eraseSector k
  else (s1.eraseSector k).journal k 0xD0

/-- What follows the end of a command: interrupt 2, the next command, the status (R757). -/
def State.flashGoesOn (s : State) : State := ((s.raiseIrq Pg.fls 2).nextFlash).syncFlash

theorem execFlashOpDone_access {ok : Bool} {o : FlashOp} (h : s.flash.op = some o) :
    execFlashOpDone off ok s = .next ((s.at off).accessEnded ok o).flashGoesOn := by
  have hop : (s.at off).flash.op = some o := by rw [State.at_flash, h]
  unfold execFlashOpDone
  generalize s.at off = u at hop ⊢
  dsimp only
  rw [hop]
  rfl

theorem execFlashOpDone_erase {ok : Bool} {k : Nat} (h : s.flash.op = none) (he : s.flash.erase = some k) :
    execFlashOpDone off ok s = .next ((s.at off).eraseEnded ok k).syncIndet.flashGoesOn := by
  have hop : (s.at off).flash.op = none := by rw [State.at_flash, h]
  have herase : (s.at off).flash.erase = some k := by rw [State.at_flash, he]
  unfold execFlashOpDone
  generalize s.at off = u at hop herase ⊢
  dsimp only
  rw [hop, herase]
  rfl

/-- Settles O29, by the laws of a command taken and of a program completed; that a program only clears bits is log entry 60. -/
theorem flashCommandsComplete : Obligations.FlashCommandsComplete :=
  ⟨fun _ _ _ hp hw ho h => ⟨_, congrArg Host.Outcome.next (State.flashCmd_taken hp (by decide) (by decide) hw ho h), rfl⟩,
    fun _ _ _ hp hw ho h => ⟨_, congrArg Host.Outcome.next (State.flashCmd_taken hp (by decide) (by decide) hw ho h), rfl⟩,
    fun _ _ _ hp hw ho h => ⟨_, congrArg Host.Outcome.next (State.flashCmd_taken hp (by decide) (by decide) hw ho h), rfl⟩,
    fun _ _ _ _ _ h => ⟨_, execFlashOpDone_access h, rfl⟩,
    fun _ _ _ _ _ h => ⟨_, execFlashOpDone_access h, rfl⟩⟩

/-! ### The bytes of flash -/

/-- The mask of every component but the flash (bit 35). -/
def besideFlash : Nat := 0x17ffffffef7ffffffff

/-- With no command waiting the end of a command starts none. -/
theorem State.nextFlash_none (h : s.flash.waiting = []) : s.nextFlash = s := by
  unfold State.nextFlash
  rw [h]
  rfl

/-- What follows the end of a command leaves the flash where none waits. -/
theorem State.flashGoesOn_flash (h : s.flash.waiting = []) : s.flashGoesOn.flash = s.flash := by
  have hirq : (s.raiseIrq Pg.fls 2).flash = s.flash :=
    (State.raiseIrq_keeps (M := besideFlash) (.refl _ s) rfl (.all rfl)).flash rfl
  have hsync (u : State) : u.syncFlash.flash = u.flash := rfl
  unfold State.flashGoesOn
  rw [State.nextFlash_none (hirq ▸ h), hsync, hirq]

theorem State.flashFail_flash (s : State) : s.flashFail.flash = s.flash :=
  (State.raiseIrq_keeps (M := besideFlash) (.refl _ _) rfl (.all rfl)).flash rfl

theorem State.syncIndet_flash (s : State) : s.syncIndet.flash = s.flash :=
  (State.syncIndet_keeps (M := besideFlash) (.refl _ s) rfl).flash rfl

/-- A read, and a program reported as failed, leave the bytes of flash and the commands that wait (R763). -/
theorem State.accessEnded_leaves {ok : Bool} {o : FlashOp} (ho : o.op = 1 ∨ ok = false) :
    (s.accessEnded ok o).flash = { s.flash with op := none } := by
  unfold State.accessEnded
  extract_lets s1
  have hfill : Keeps besideFlash s1 ((List.range o.len).foldl (fun (t : State) b =>
      t.setFld Pg.fls ⟨0x100 + b / 4 * 4, 24 - 8 * (b % 4), 8⟩ (Mem.byte 0xFF s.flash.mem (o.addr + b))) s1) :=
    .foldl _ (fun _ _ h => State.setFld_keeps h rfl (.all rfl)) (.refl _ _)
  split
  · exact hfill.flash rfl
  · next hread =>
    rw [ho.resolve_left hread, if_neg (by decide)]
    exact s1.flashFail_flash

/-- The end of an access that leaves the bytes of flash (R763). -/
theorem execFlashOpDone_leaves {ok : Bool} {o : FlashOp} (h : s.flash.op = some o) (ho : o.op = 1 ∨ ok = false)
    (hw : s.flash.waiting = []) : ∃ t : State, execFlashOpDone off ok s = .next t ∧ t.flash.mem = s.flash.mem := by
  have hended := State.accessEnded_leaves (s := s.at off) ho
  rw [State.at_flash] at hended
  refine ⟨_, execFlashOpDone_access h, ?_⟩
  rw [State.flashGoesOn_flash (by rw [hended]; exact hw), hended]

/-- A program changes its own bytes only (R751). -/
theorem execFlashOpDone_programs {a n : Nat} {data : List Nat} (h : s.flash.op = some ⟨2, a, n, data⟩)
    (hw : s.flash.waiting = []) :
    ∃ t : State, execFlashOpDone off true s = .next t ∧ t.flash.mem = programBytes s.flash.mem a data := by
  have hended : ((s.at off).accessEnded true ⟨2, a, n, data⟩).flash =
      { s.flash with op := none, mem := programBytes s.flash.mem a data } := by
    rw [← State.at_flash s off]
    rfl
  refine ⟨_, execFlashOpDone_access h, ?_⟩
  rw [State.flashGoesOn_flash (by rw [hended]; exact hw), hended]

/-- An erase reported as failed leaves every byte (R763). -/
theorem execFlashOpDone_eraseFailed {k : Nat} (h : s.flash.op = none) (he : s.flash.erase = some k)
    (hw : s.flash.waiting = []) : ∃ t : State, execFlashOpDone off false s = .next t ∧ t.flash.mem = s.flash.mem := by
  have hended : ((s.at off).eraseEnded false k).syncIndet.flash = { s.flash with erase := none } := by
    rw [State.syncIndet_flash, ← State.at_flash s off]
    exact State.flashFail_flash _
  refine ⟨_, execFlashOpDone_erase h he, ?_⟩
  rw [State.flashGoesOn_flash (by rw [hended]; exact hw), hended]

/-- An entry at a place of the active journal sector that is not its last changes the bytes of its place only, and no command
that waits (R755). -/
theorem State.journal_flash {sector op : Nat} (h : s.fld Pg.fls F.FLS_JOURNAL_b16 < 4096) :
    (s.journal sector op).flash.mem = programBytes s.flash.mem (journalBase (s.fld Pg.fls F.FLS_JOURNAL_b0) +
      16 * s.fld Pg.fls F.FLS_JOURNAL_b16) (journalEntry sector op s.flash.seq) ∧
      (s.journal sector op).flash.waiting = s.flash.waiting := by
  unfold State.journal
  dsimp only
  rw [if_neg (by omega)]
  exact ⟨rfl, rfl⟩

theorem length_journalEntry (sector op seq : Nat) : (journalEntry sector op seq).length = 16 := by
  simp [journalEntry, withCrc, beBytes]

/-- A completed erase sets its sector and writes its DONE entry into the journal (R755). -/
theorem execFlashOpDone_erases {k : Nat} (h : s.flash.op = none) (he : s.flash.erase = some k) (hw : s.flash.waiting = [])
    (hk : k ≠ 2 ∧ k ≠ 3) (hj : s.fld Pg.fls F.FLS_JOURNAL_b16 < 4096) :
    ∃ t : State, execFlashOpDone off true s = .next t ∧ t.flash.mem = programBytes (s.eraseSector k).flash.mem
      (journalBase (s.fld Pg.fls F.FLS_JOURNAL_b0) + 16 * s.fld Pg.fls F.FLS_JOURNAL_b16)
      (journalEntry k 0xD0 s.flash.seq) := by
  obtain ⟨u, hu⟩ : ∃ u, u = ((s.at off).flashMap (fun f => { f with erase := none })).eraseSector k := ⟨_, rfl⟩
  have hended : (s.at off).eraseEnded true k = u.journal k 0xD0 := by
    unfold State.eraseEnded
    dsimp only
    rw [if_neg (by decide), if_neg (by simp [hk]), hu]
  have hfld (f : Fld) : u.fld Pg.fls f = s.fld Pg.fls f := by rw [hu]; exact s.fld_at off _ _
  have hflash : u.flash = { (s.eraseSector k).flash with erase := none } := by
    rw [hu]
    show ({ (s.at off).flash with erase := none, mem := Mem.clear (s.at off).flash.mem (65536 * k) 65536 } : Flash) = _
    rw [State.at_flash]
    rfl
  obtain ⟨hmem, hwaiting⟩ := State.journal_flash (s := u) (sector := k) (op := 0xD0) (by rw [hfld]; exact hj)
  refine ⟨_, execFlashOpDone_erase h he, ?_⟩
  rw [hended, State.flashGoesOn_flash, State.syncIndet_flash, hmem, hfld, hfld, hflash]
  · rfl
  · rw [State.syncIndet_flash, hwaiting, hflash]
    exact hw

/-- The journal's sectors are 2 and 3. -/
theorem journal_place {a j used : Nat} (hj : j < 2) (hu : used < 4096)
    (ha : journalBase j + 16 * used ≤ a ∧ a < journalBase j + 16 * used + 16) : a / 65536 = 2 ∨ a / 65536 = 3 := by
  unfold journalBase at ha
  omega

/-- Settles O45: a completion programs its bytes, erases its sector and programs the entry of the journal, or leaves the flash; that
a program only clears bits is log entry 60. -/
theorem flashChangesOnlyItsBytes : Obligations.FlashChangesOnlyItsBytes := by
  refine ⟨fun off a n data s h hw => ?program, fun off ok o s h ho hw => execFlashOpDone_leaves h ho hw,
    fun off k s h he hw hk hj => ?erase, fun off k s h he hw => execFlashOpDone_eraseFailed h he hw⟩
  case program =>
    obtain ⟨t, ht, hmem⟩ := execFlashOpDone_programs (off := off) h hw
    exact ⟨t, ht, fun k => hmem ▸ byte_programBytes _ _ _ _⟩
  case erase =>
    obtain ⟨t, ht, hmem⟩ := execFlashOpDone_erases (off := off) h he hw hk hj
    refine ⟨t, ht, fun a => ?_⟩
    rw [hmem, byte_programBytes, length_journalEntry, State.byte_eraseSector]
    by_cases hplace : journalBase (s.fld Pg.fls F.FLS_JOURNAL_b0) + 16 * s.fld Pg.fls F.FLS_JOURNAL_b16 ≤ a ∧
        a < journalBase (s.fld Pg.fls F.FLS_JOURNAL_b0) + 16 * s.fld Pg.fls F.FLS_JOURNAL_b16 + 16
    · have hsector := journal_place (State.fld_lt s Pg.fls F.FLS_JOURNAL_b0) hj hplace
      have hother : ¬ a / 65536 = k := by omega
      rw [if_pos hplace, if_neg hother, if_neg hother, if_pos hplace]
    · rw [if_neg hplace, if_neg hplace]

end Sys2Proof.Machine
end

section
/-!
PROOFS. The command stream of the configuration load (R733 to R738, R854): what a command does that stands next in the stream.
-/

namespace Sys2Proof.Machine

open Sys2Proof

variable {off : Nat} {s : State}

/-! ### What the offset within the turn leaves -/

theorem State.executing_at (s : State) (off : Nat) : (s.at off).executing = s.executing := by
  unfold State.at
  split <;> rfl

theorem State.unitShown_at (s : State) (off p : Nat) : (s.at off).unitShown p = s.unitShown p := by
  unfold State.at
  split <;> rfl

theorem State.chainHead_at (s : State) (off : Nat) : (s.at off).chainHead = s.chainHead := by
  unfold State.at
  split <;> rfl

/-! ### The next command of the stream (R733) -/

/-- The stream executes, and the command `b` of a section, with opcode `op`, stands next in it. -/
structure NextCmd (s : State) (x : LoadSection) (op : Nat) (b : List Nat) : Prop where
  executing : s.executing = true
  wait : s.load.wait = none
  poll : s.load.poll = none
  sect : s.load.sect = some x
  kind : x.kind ≠ Kind.firmware
  fetched : fetchCmd x = .cmd op b

/-- A section whose next command, of some length, has been taken. -/
def LoadSection.taken (x : LoadSection) (b : List Nat) : LoadSection :=
  { x with plain := x.plain.drop b.length, off := x.off + b.length }

/-- The state in which a command of the stream works: its diagnostics shown, the stream past it. -/
def State.cmdTaken (s : State) (x : LoadSection) (op : Nat) (b : List Nat) : State := (s.diag x op).setSect (x.taken b)

/-- The next command works in that state. -/
theorem NextCmd.runs {x : LoadSection} {op : Nat} {b : List Nat} (h : NextCmd s x op b) (off : Nat)
    (f : State → LoadSection → List Nat → State) :
    (s.at off).runCmd op f = f ((s.at off).cmdTaken x op b) (x.taken b) b := by
  unfold State.runCmd
  rw [State.executing_at, State.at_load, h.executing, h.wait, h.poll, if_neg (by decide), h.sect]
  dsimp only
  rw [if_neg h.kind, h.fetched]
  exact if_neg (fun hne => hne rfl)

theorem State.cmdTaken_src (s : State) (off : Nat) (x : LoadSection) (op : Nat) (b : List Nat) :
    ((s.at off).cmdTaken x op b).load.src = s.load.src := by
  show (s.at off).load.src = s.load.src
  rw [State.at_load]

end Sys2Proof.Machine
end

section
/-!
PROOFS. LOAD_MEM: the bytes it stores, and that it leaves every other (R733, R854).
-/

namespace Sys2Proof.Machine

open Sys2Proof

variable {off : Nat} {s : State}

/-- A command taken leaves every memory. -/
theorem State.cmdTaken_memories {x : LoadSection} {op : Nat} {b : List Nat} {w : State}
    (hw : w = (s.at off).cmdTaken x op b) : w.ddr = s.ddr ∧ w.memory = s.memory ∧ w.tiles = s.tiles := by
  subst hw
  exact ⟨s.at_ddr off, s.at_memory off, s.at_tiles off⟩

/-- A LOAD_MEM whose range and unit allow it ends in the state with its bytes. -/
theorem NextCmd.loads {x : LoadSection} {b : List Nat} {u w : State} (h : NextCmd s x 0x20 b)
    (hw : w = (s.at off).cmdTaken x 0x20 b)
    (hu : w.loadMem (b.getD 1 0) (b.getD 2 0) (beAt b 8 8) (sliceOf b 16 (beAt b 4 4)) = some u) :
    execLoadMem off s = .next u := by
  subst hw
  refine (congrArg Host.Outcome.next (h.runs off _)).trans ?_
  rw [hu]

/-- One whose range or unit does not allow it fails its section (R854). -/
theorem NextCmd.memRange {x : LoadSection} {b : List Nat} {w : State} (h : NextCmd s x 0x20 b)
    (hw : w = (s.at off).cmdTaken x 0x20 b)
    (hu : w.loadMem (b.getD 1 0) (b.getD 2 0) (beAt b 8 8) (sliceOf b 16 (beAt b 4 4)) = none) :
    execLoadMem off s = .next (w.sectionFail LE.memRange) := by
  subst hw
  refine (congrArg Host.Outcome.next (h.runs off _)).trans ?_
  rw [hu]

theorem State.loadMem_ddr {w : State} {node a : Nat} {b : List Nat} (hup : w.ddrUp = true) (hr : a + b.length ≤ w.ddrBytes) :
    w.loadMem 1 node a b = some (w.ddrWrite a b) := if_pos (by simp [hup, hr])

theorem State.loadMem_direct {w : State} {node a : Nat} {b : List Nat} (hr : a + b.length ≤ w.directBytes) :
    w.loadMem 2 node a b = some (w.directWrite a b) := if_pos hr

theorem State.loadMem_tile {w : State} {node a : Nat} {b : List Nat} (hn : node < 128)
    (hunit : w.unit (Pg.tile (tileAt node)) = uReady ∨ w.unit (Pg.tile (tileAt node)) = uActive)
    (hr : a + b.length ≤ storeSize (tileAt node)) : w.loadMem 3 node a b = some (w.storeTile (tileAt node) a b) :=
  if_pos (by simp [hn, hunit, hr])

theorem State.tile_setTile (s : State) (t : Nat) (x : Tile) (n : Nat) : (s.setTile t x).tile n = if n = t then x else s.tile n :=
  FMap.getD_setC_const s.tiles Tile.none t x n

/-- A store within a tile's memory puts its bytes at its address. -/
theorem State.storeTile_store {w : State} {t a : Nat} {b : List Nat} (hr : a + b.length ≤ storeSize t) (h0 : 0 < b.length) :
    ((w.storeTile t a b).tile t).store = Mem.store 0 (w.tile t).store a b := by
  unfold State.storeTile
  rw [State.tile_setTile, if_pos rfl, Nat.mod_eq_of_lt (by omega)]

theorem State.storeTile_ne {w : State} {t a n : Nat} {b : List Nat} (h : n ≠ t) : (w.storeTile t a b).tile n = w.tile n := by
  unfold State.storeTile
  rw [State.tile_setTile, if_neg h]

/-- Settles O44: a LOAD_MEM is one store into the space it names, or fails its section. -/
theorem loadsReachOnlyTheirBytes : Obligations.LoadsReachOnlyTheirBytes := by
  refine ⟨fun off b x s w he hw hp hs hk hf hwork hspace hup hr => ?ddr, fun off b x s w he hw hp hs hk hf hwork hspace hr => ?direct,
    fun off b x s w he hw hp hs hk hf hwork hspace hnode hunit hr h0 => ?tile,
    fun off b x s w he hw hp hs hk hf hwork hnone => ?range⟩
  case ddr =>
    obtain ⟨hddr, hmemory, htiles⟩ := State.cmdTaken_memories hwork
    refine ⟨w.ddrWrite _ _, NextCmd.loads ⟨he, hw, hp, hs, hk, hf⟩ hwork ?_,
      (congrArg Memory.direct hmemory : w.memory.direct = s.memory.direct), htiles,
      fun a => (Mem.byte_store 0 _ _ _ a).trans (by rw [hddr])⟩
    rw [hspace, State.loadMem_ddr hup hr]
  case direct =>
    obtain ⟨hddr, hmemory, htiles⟩ := State.cmdTaken_memories hwork
    refine ⟨w.directWrite _ _, NextCmd.loads ⟨he, hw, hp, hs, hk, hf⟩ hwork ?_, hddr, htiles,
      fun a => (Mem.byte_store 0 _ _ _ a).trans (by rw [hmemory])⟩
    rw [hspace, State.loadMem_direct hr]
  case tile =>
    obtain ⟨hddr, hmemory, htiles⟩ := State.cmdTaken_memories hwork
    refine ⟨w.storeTile (tileAt (b.getD 2 0)) (beAt b 8 8) (sliceOf b 16 (beAt b 4 4)),
      NextCmd.loads ⟨he, hw, hp, hs, hk, hf⟩ hwork ?_, hddr, congrArg Memory.direct hmemory,
      fun n hn => (State.storeTile_ne hn).trans (State.tile_congr htiles n), fun a => ?_⟩
    · rw [hspace, State.loadMem_tile hnode hunit hr]
    · rw [State.storeTile_store hr h0, Mem.byte_store, State.tile_congr htiles]
  case range =>
    exact ⟨_, NextCmd.memRange ⟨he, hw, hp, hs, hk, hf⟩ hwork hnone, rfl⟩

end Sys2Proof.Machine
end

section
/-!
PROOFS. Each command of the configuration load, of its command stream and of the Priming chain, with its effect (R732 to R750).
-/

namespace Sys2Proof.Machine

open Sys2Proof

variable {off : Nat} {s : State}

/-! ### What the offset within the turn leaves -/

theorem State.sectHead_at (s : State) (off a : Nat) : (s.at off).sectHead a = s.sectHead a := by
  unfold State.at
  split <;> rfl

theorem State.partRuns_at (s : State) (off : Nat) : (s.at off).partRuns = s.partRuns := by
  unfold State.at
  split <;> rfl

theorem State.chainOpen_at (s : State) (off : Nat) : (s.at off).chainOpen = s.chainOpen := by
  unfold State.at
  split <;> rfl

theorem State.memberTodo_own {s : State} (h : s.load.src = 1) : s.memberTodo = s := by
  unfold State.memberTodo
  rw [h]
  rfl

/-- The Priming-out lane carries as before where a field of another page is written. -/
theorem State.chainOpen_setFld (s : State) {page : Nat} {f : Fld} (x : Nat) (hf : f.off < 4096) (hp : page ≠ Pg.lan 163) :
    (s.setFld page f x).chainOpen = s.chainOpen := by
  have h : (s.setFld page f x).fld (Pg.lan 163) F.LAN_STATUS_TSTATE = s.fld (Pg.lan 163) F.LAN_STATUS_TSTATE :=
    State.fld_setFld_page s page f x _ _ hf (by decide) (Ne.symm hp)
  unfold State.chainOpen State.carries State.lstate
  rw [h]
  rfl

/-! ### The start of a load (R742) -/

/-- The controller's notes of an earlier load, cleared at the start of the next. -/
def State.loadCleared (s : State) : State :=
  s.loadMap (fun l => { l with tried := [], ended := false, buf := [], resends := 0 })

/-- The head of a chain looks for an image: the flash reset, its size shown, its journal scanned. -/
def State.searching (s : State) (size : Nat) : State :=
  (((s.loadCleared.flashReset).setFld Pg.fls F.FLS_SIZE size).setLoad LS'.scan).journalStart

theorem execColdLoad_member {sfdp : Option (BitVec 16)} (hreset : s.pins.mainReset = false) (hidle : s.loadState = LS'.idle)
    (hwarm : s.sstate ≠ SState.warm) (hhead : s.chainHead = false) :
    execColdLoad off sfdp s = .next (((s.at off).loadCleared.setLoad LS'.scan).setFld (Pg.cfg 0) F.CFG_STATUS_CFG_SLOT 2) := by
  unfold execColdLoad
  dsimp only
  rw [if_neg (by rw [State.at_pins, State.loadState_at, State.sstate_at, hreset, hidle]; simpa using hwarm)]
  exact if_neg (ne_true_of_eq_false ((State.chainHead_at s off).trans hhead))

theorem execColdLoad_head {n : BitVec 16} {d : Nat × Nat × Nat × Nat} (hreset : s.pins.mainReset = false)
    (hidle : s.loadState = LS'.idle) (hwarm : s.sstate ≠ SState.warm) (hhead : s.chainHead = true)
    (hdir : ((s.at off).searching n.toNat).directory = some d) :
    execColdLoad off (some n) s = .next (((((s.at off).searching n.toNat).setFld Pg.fls F.FLS_DIR d.2.1).setFld Pg.fls
      F.FLS_DIR_GEN d.1).nextSlot LE.noImage 0) := by
  unfold execColdLoad
  dsimp only
  rw [if_neg (by rw [State.at_pins, State.loadState_at, State.sstate_at, hreset, hidle]; simpa using hwarm)]
  refine (if_pos ((State.chainHead_at s off).trans hhead)).trans ?_
  unfold State.searching State.loadCleared at hdir
  rw [hdir]
  rfl

/-! ### Sections (R732, R774) -/

theorem execChunkVerify_chunk {fw : FwImage} {x : LoadSection} {o : OpenSection} {b : List Nat} (hsect : s.load.sect = some x)
    (hopen : FMap.get? s.sec.sections 0 = some o) (hkind : x.kind ≠ Kind.firmware)
    (hb : (s.at off).loadSource (x.addr + x.next) (min 65536 (beAt x.header 28 4 - o.cipher.length) + 48) = some b)
    (hleft : o.left ≠ 0) (hexec : s.executing = true) :
    execChunkVerify off fw s = .next (match (s.at off).openChunk 0
        (b.take (min 65536 (beAt x.header 28 4 - o.cipher.length) + 48)) with
      | (u, none) => u.sectionFail LE.chunkDigest
      | (u, some p) => u.setSect { x with
          next := x.next + min 65536 (beAt x.header 28 4 - o.cipher.length) + 48, plain := x.plain ++ p }) := by
  unfold execChunkVerify
  dsimp only
  rw [State.at_load, hsect, State.at_sec, hopen]
  dsimp only
  rw [show decide (x.kind = Kind.firmware) = false from decide_eq_false hkind, Bool.false_and, if_neg (by decide), Nat.add_zero, hb]
  dsimp only
  rw [if_neg (by rw [State.executing_at, hexec]; simpa using hleft)]
  split <;> simp_all

theorem execChunkVerify_dropped {fw : FwImage} {x : LoadSection} (hsect : s.load.sect = some x)
    (hopen : FMap.get? s.sec.sections 0 = none) (hexec : s.executing = true) :
    execChunkVerify off fw s = .next ((s.at off).sectionFail LE.authFail) := by
  unfold execChunkVerify
  dsimp only
  rw [State.at_load, hsect, State.at_sec, hopen]
  dsimp only
  rw [if_pos (by rw [State.executing_at, hexec])]

/-- The state in which the controller opens a section with header `b`: it answers the module's verdict and holds the section. -/
def State.opening (s : State) (x : State × Nat) (rest : List (Nat × Nat × Nat)) (sect : LoadSection) : State :=
  ((x.1.secAnswer 0 0x0080 x.2 s.approvedMode []).loadMap (fun l => { l with todo := rest })).setSect sect

theorem execImageOpen_controller {req : List (BitVec 8)} {i a len : Nat} {rest : List (Nat × Nat × Nat)} {b : List Nat}
    (hsrc : s.load.src = 1) (htodo : s.load.todo = (i, a, len) :: rest) (hsect : s.load.sect = none)
    (hexec : s.executing = true) (hm : s.mstate = MS.operational) (hb : s.sectHead a = some b) :
    execImageOpen off .controller req s = .next (
      let x := (s.at off).openImage 0 b
      let u := s.opening x rest ⟨i, b.getD 13 0, a, b.length, len, b.take 256, [], 0, [], false⟩
      if x.2 ≠ SS.ok then u.sectionFail LE.authFail
      else match u.headCheck b with
        | some e => u.sectionFail e
        | none => u) := by
  have hm' : (s.at off).mstate = MS.operational := (State.mstate_at s off).trans hm
  have hself : ¬ ((s.at off).mstate = MS.selftest) := by rw [hm']; decide
  unfold execImageOpen
  rw [if_pos rfl]
  dsimp only
  rw [if_neg (by simp [hself])]
  unfold State.openNext State.opening
  rw [State.memberTodo_own (by rw [State.at_load]; exact hsrc)]
  dsimp only
  rw [State.at_load, htodo, hsect]
  dsimp only
  rw [if_neg (by rw [State.executing_at, hexec]; simpa using hself), State.sectHead_at, hb]
  dsimp only
  rw [if_pos hm', State.approvedMode_at] <;> rfl

/-! ### Waits and polls (R735) -/

theorem execPollState_reached {p st n : Nat} (hpoll : s.load.poll = some (p, st, n)) (hshown : s.unitShown p = st) :
    execPollState off s = .next ((s.at off).loadMap (fun l => { l with poll := none })) := by
  unfold execPollState
  dsimp only
  rw [State.at_load, hpoll]
  dsimp only
  rw [if_pos ((State.unitShown_at s off p).trans hshown)]

theorem execPollState_waits {x : LoadSection} {b : List Nat} (h : NextCmd s x 0x03 b)
    (hother : ((s.at off).cmdTaken x 0x03 b).unitShown (beAt b 2 2) ≠ b.getD 1 0) :
    execPollState off s = .next (((s.at off).cmdTaken x 0x03 b).loadMap (fun l =>
      { l with poll := some (beAt b 2 2, b.getD 1 0, beAt b 4 2) })) := by
  unfold execPollState
  dsimp only
  rw [State.at_load, h.poll]
  exact congrArg Host.Outcome.next ((h.runs off _).trans (if_neg hother))

theorem execPollTimeout_fails {p st : Nat} (hpoll : s.load.poll = some (p, st, 0)) (hshown : s.unitShown p ≠ st) :
    execPollTimeout off s = .next ((s.at off).sectionFail LE.pollTimeout) := by
  unfold execPollTimeout
  dsimp only
  rw [State.at_load, hpoll]
  dsimp only
  rw [if_neg (by simpa [State.unitShown_at] using hshown)]

theorem execWaitTurnsExpiry_goesOn (h : s.load.wait = some 0) :
    execWaitTurnsExpiry off s = .next ((s.at off).loadMap (fun l => { l with wait := none })) := by
  unfold execWaitTurnsExpiry
  dsimp only
  rw [if_pos (by rw [State.at_load]; exact h)]

theorem execTurnBoundary_nominal {m : TurnMeasure} (hstop : s.wdl.stopped = true) (hreset : s.pins.mainReset = false) :
    execTurnBoundary m s = .next s.loadBoundary := by
  unfold execTurnBoundary
  rw [hstop, hreset]
  rfl

/-! ### The commands of the stream (R733 to R738) -/

theorem execWaitTurns_waits {x : LoadSection} {b : List Nat} (h : NextCmd s x 0x02 b) (hn : beAt b 2 2 ≠ 0) :
    execWaitTurns off s = .next (((s.at off).cmdTaken x 0x02 b).loadMap (fun l => { l with wait := some (beAt b 2 2) })) :=
  congrArg Host.Outcome.next ((h.runs off _).trans (if_neg hn))

theorem execWriteReg_full {x : LoadSection} {b : List Nat} (h : NextCmd s x 0x01 b) (hfull : x.kind = Kind.full) :
    execWriteReg off s = .next (((s.at off).cmdTaken x 0x01 b).loadWrite (x.taken b) (beAt b 2 2) (beAt b 4 2 % 4096)
      (BitVec.ofNat 32 (beAt b 8 4))) := by
  refine congrArg Host.Outcome.next ((h.runs off _).trans ?_)
  dsimp only
  rw [if_neg (by rw [show (x.taken b).kind = Kind.full from hfull]; simp [Kind.full, Kind.part])]

theorem execSetFar_holds {x : LoadSection} {b : List Nat} (h : NextCmd s x 0x10 b) (hsrc : s.load.src ≠ 2)
    (hfar : farValid (beAt b 4 4) = true) :
    execSetFar off s = .next ((((s.at off).cmdTaken x 0x10 b).setFld (Pg.cfg 3) F.CFG_DIAG_FAR (beAt b 4 4)).loadMap (fun l =>
      { l with far := beAt b 4 4 })) := by
  refine congrArg Host.Outcome.next ((h.runs off _).trans ?_)
  dsimp only
  rw [State.cmdTaken_src, if_neg hsrc, if_pos hfar]

theorem execWriteFrames_writes {x : LoadSection} {b : List Nat} (h : NextCmd s x 0x11 b) (hsrc : s.load.src ≠ 2) :
    execWriteFrames off s = .next (State.putFrames (x.taken b) (beAt b 4 4) (b.drop 8) ((s.at off).cmdTaken x 0x11 b)) := by
  refine congrArg Host.Outcome.next ((h.runs off _).trans ?_)
  rw [State.cmdTaken_src, if_neg hsrc]

theorem execRepeatFrame_writes {x : LoadSection} {b : List Nat} (h : NextCmd s x 0x12 b) (hsrc : s.load.src ≠ 2) :
    execRepeatFrame off s = .next (State.repeatFrame (x.taken b) (sliceOf b 8 516)
      ((List.range (beAt b 4 4)).map (fun i => beAt b (524 + 4 * i) 4)) ((s.at off).cmdTaken x 0x12 b)) := by
  refine congrArg Host.Outcome.next ((h.runs off _).trans ?_)
  rw [State.cmdTaken_src, if_neg hsrc]

theorem execLoadEnd_ends {decls : List TapDecl} {ureg : Bool} {tag : List Nat} {x : LoadSection} {b : List Nat}
    (h : NextCmd s x 0x3F b) (htag : (s.at off).loadSource (x.addr + x.next) 16 = some tag) :
    execLoadEnd off decls ureg s = .next (
      let c := ((s.at off).cmdTaken x 0x3F b).checkTag 0 tag
      if c.2 then (c.1.applySection (x.taken b) decls ureg).sectionDone else c.1.sectionFail LE.gcmTag) := by
  unfold execLoadEnd
  dsimp only
  rw [show (s.at off).load.sect = some x by rw [State.at_load]; exact h.sect, Option.bind_some, htag]
  exact congrArg Host.Outcome.next (h.runs off _)

/-! ### HOLD_FW, the partial reload, the warm replay (R743 to R746) -/

theorem execCfgContinue_continues (hpage : (s.at off).dropCause (Pg.cfg 0) = none) (hhold : s.loadState = LS'.holdFw) :
    execCfgContinue off s = .next ((s.at off).reapplyRecord).leaveHold := by
  refine congrArg Host.Outcome.next ((State.onPage_answers hpage _ _).trans ?_)
  exact if_pos ((State.loadState_at s off).trans hhold)

theorem execHoldFwTimeout_goesOn (hhold : s.loadState = LS'.holdFw) (hfor : s.load.holdFor = 0) :
    execHoldFwTimeout off s = .next ((((s.at off).leaveHold).setFld (Pg.cfg 0) F.CFG_STATUS_FW_LATE 1).raiseIrq (Pg.cfg 0) 3) := by
  unfold execHoldFwTimeout
  dsimp only
  rw [if_pos (by rw [State.loadState_at, State.at_load, hhold, hfor]; decide)]

theorem execPartGo_starts (hpage : (s.at off).dropCause (Pg.cfg 2) = none) (hpart : s.partRuns = false)
    (hdone : s.loadState = LS'.done) :
    execPartGo off s = .next ((((s.at off).setFld (Pg.cfg 2) F.CFG_PART_STATUS_b0 1).setFld (Pg.cfg 2)
      F.CFG_PART_STATUS_ERR 0).loadMap (fun x => { x with
        src := 3, todo := [(0, s.fld (Pg.cfg 2) F.CFG_PART_ADDR_LO + 2 ^ 32 * s.fld (Pg.cfg 2) F.CFG_PART_ADDR_HI,
          s.fld (Pg.cfg 2) F.CFG_PART_LEN)], sect := none, done := 0 })) := by
  refine congrArg Host.Outcome.next ((State.onPage_answers hpage _ _).trans ?_)
  unfold State.partGo
  dsimp only
  rw [State.partRuns_at, hpart, if_neg (by decide), State.loadState_at, hdone, if_neg (by decide)]
  simp only [State.fld_at]

theorem execWarmReplay_nothing (hreset : s.pins.mainReset = false) (hwarm : s.sstate = SState.warm) (hidle : s.loadState = LS'.idle)
    (hslot : 2 ≤ s.fld (Pg.cfg 0) F.CFG_STATUS_CFG_SLOT) :
    execWarmReplay off s = .next (((s.at off).setLoad LS'.replay).loadMap (fun x =>
      { x with src := 2, todo := [], sect := none, done := 0 })).loadDone := by
  unfold execWarmReplay
  dsimp only
  rw [if_neg (by rw [State.at_pins, State.loadState_at, State.sstate_at, hreset, hidle, hwarm]; decide), State.fld_at,
    if_neg (Nat.not_lt.2 hslot)]
  rfl

/-! ### The Priming chain (R749, R750) -/

theorem execChainFrame_forwards {hop : BitVec 8} {stream : BitVec 16} {payload : List (BitVec 8)} (hhead : s.chainHead = false)
    (hreset : s.pins.mainReset = false) (hin : s.carries 162 = true) (hout : s.chainOpen = true) (hlen : payload.length ≤ 4096)
    (h0 : hop ≠ 0) (hff : hop ≠ 0xFF) :
    execChainFrame off 2 hop stream payload true s = .next (((((s.at off).incFld (Pg.cfg 1) F.CFG_CHN_RX).setFld (Pg.cfg 1)
      F.CFG_CHN_STATUS_b16 stream.toNat).sendGroups 2 (hop.toNat - 1) stream.toNat (payload.map BitVec.toNat)).incFld (Pg.cfg 1)
        F.CFG_CHN_FWD) := by
  have hne0 : ¬ hop.toNat = 0 := fun h => h0 (BitVec.eq_of_toNat_eq h)
  have hneff : ¬ hop.toNat = 0xFF := fun h => hff (BitVec.eq_of_toNat_eq h)
  have hopen : (((s.at off).incFld (Pg.cfg 1) F.CFG_CHN_RX).setFld (Pg.cfg 1) F.CFG_CHN_STATUS_b16 stream.toNat).chainOpen = true :=
    (State.chainOpen_setFld _ _ (by decide) (by decide)).trans
      ((State.chainOpen_setFld _ _ (by decide) (by decide)).trans ((State.chainOpen_at s off).trans hout))
  unfold execChainFrame
  dsimp only
  rw [if_neg (by rw [State.chainHead_at, State.at_pins, State.carries_at, hhead, hreset, hin]; decide),
    if_neg (by simpa using hlen)]
  simp [hne0, hneff, hopen]

theorem execChainResend_sends {ms : Nat} (hhead : s.chainHead = true) (hdone : s.loadState = LS'.done)
    (hms : max 1 (s.fld (Pg.cfg 1) F.CFG_CHN_CTL_CHN_TMO) ≤ ms)
    (hleft : s.load.resends < s.fld (Pg.cfg 1) F.CFG_CHN_CTL_CHN_RESEND) :
    execChainResend off ms s = .next (((((s.at off).sendChain).incFld (Pg.cfg 1) F.CFG_CHN_ERR_b16).setFld (Pg.cfg 1)
      F.CFG_CHN_STATUS_PRM_DONE 0).loadMap (fun l => { l with resends := l.resends + 1 })) := by
  unfold execChainResend
  dsimp only
  rw [State.fld_at, State.fld_at, State.at_load, State.chainHead_at, State.loadState_at, hhead, hdone,
    if_neg (by simp only [ne_eq, not_true, decide_false, Bool.not_true, Bool.false_or, decide_eq_true_eq]; omega), if_pos hleft]

/-- Settles O28: each command of the load with its effect. -/
theorem loadCommandsComplete : Obligations.LoadCommandsComplete := by
  unfold Obligations.LoadCommandsComplete
  refine ⟨fun _ _ _ hr hi hw hh => ⟨_, execColdLoad_member hr hi hw hh, rfl⟩, ?head,
    fun _ _ _ _ _ _ hx ho hk hb hl he => ⟨_, execChunkVerify_chunk hx ho hk hb hl he, rfl⟩,
    fun _ _ _ _ hx ho he => ⟨_, execChunkVerify_dropped hx ho he, rfl⟩, ?nop, ?waitTurns,
    fun _ _ h => ⟨_, execWaitTurnsExpiry_goesOn h, rfl⟩, fun _ _ hs hr => ⟨_, execTurnBoundary_nominal hs hr, rfl⟩,
    fun _ _ _ _ _ hp hu => ⟨_, execPollState_reached hp hu, rfl⟩, ?poll,
    fun _ _ _ _ hp hu => ⟨_, execPollTimeout_fails hp hu, rfl⟩, ?writeReg, ?setFar, ?writeFrames, ?repeatFrame, ?loadMem, ?loadEnd,
    fun _ _ hp hh => ⟨_, execCfgContinue_continues hp hh, rfl⟩, fun _ _ hh hf => ⟨_, execHoldFwTimeout_goesOn hh hf, rfl⟩,
    fun _ _ hp hr hd => ⟨_, execPartGo_starts hp hr hd, rfl⟩, fun _ _ hr hw hi hs => ⟨_, execWarmReplay_nothing hr hw hi hs, rfl⟩,
    fun _ _ _ _ _ hh hr hi ho hl h0 hff => ⟨_, execChainFrame_forwards hh hr hi ho hl h0 hff, rfl⟩,
    fun _ _ _ hh hd hm hl => ⟨_, execChainResend_sends hh hd hm hl, rfl⟩,
    fun _ _ _ _ _ _ _ _ hs ht hx he hm hb => ⟨_, execImageOpen_controller hs ht hx he hm hb, rfl⟩⟩
  case head =>
    rintro off n d s w hr hi hw hh rfl hd
    exact ⟨_, execColdLoad_head hr hi hw hh hd, rfl⟩
  case nop =>
    rintro off b x _ s _ he hw hp hs hk hf rfl rfl
    exact ⟨_, congrArg Host.Outcome.next (NextCmd.runs ⟨he, hw, hp, hs, hk, hf⟩ off _), rfl⟩
  case waitTurns =>
    rintro off b x _ s _ he hw hp hs hk hf rfl rfl hn
    exact ⟨_, execWaitTurns_waits ⟨he, hw, hp, hs, hk, hf⟩ hn, rfl⟩
  case poll =>
    rintro off b x _ s _ he hw hp hs hk hf rfl rfl hn
    exact ⟨_, execPollState_waits ⟨he, hw, hp, hs, hk, hf⟩ hn, rfl⟩
  case writeReg =>
    rintro off b x _ s _ he hw hp hs hk hf rfl rfl hfull
    exact ⟨_, execWriteReg_full ⟨he, hw, hp, hs, hk, hf⟩ hfull, rfl⟩
  case setFar =>
    rintro off b x _ s _ he hw hp hs hk hf rfl rfl hsrc hfar
    exact ⟨_, execSetFar_holds ⟨he, hw, hp, hs, hk, hf⟩ hsrc hfar, rfl⟩
  case writeFrames =>
    rintro off b x _ s _ he hw hp hs hk hf rfl rfl hsrc
    exact ⟨_, execWriteFrames_writes ⟨he, hw, hp, hs, hk, hf⟩ hsrc, rfl⟩
  case repeatFrame =>
    rintro off b x _ s _ he hw hp hs hk hf rfl rfl hsrc
    exact ⟨_, execRepeatFrame_writes ⟨he, hw, hp, hs, hk, hf⟩ hsrc, rfl⟩
  case loadMem =>
    rintro off u b x _ s _ he hw hp hs hk hf rfl rfl hu
    exact ⟨_, NextCmd.loads ⟨he, hw, hp, hs, hk, hf⟩ rfl hu, rfl⟩
  case loadEnd =>
    rintro off decls ureg tag b x _ s _ he hw hp hs hk hf rfl rfl htag
    exact ⟨_, execLoadEnd_ends ⟨he, hw, hp, hs, hk, hf⟩ htag, rfl⟩

end Sys2Proof.Machine
end

section
/-!
PROOFS. The hitless update of the firmware, step by step (R708 to R716).
-/

namespace Sys2Proof.Machine

open Sys2Proof

variable {off : Nat} {s : State}

/-! ### What the offset within the turn leaves -/

theorem State.upd_at (s : State) (off : Nat) : (s.at off).upd = s.upd := s.fld_at off _ _

theorem State.updTurn_at (s : State) (off : Nat) : (s.at off).updTurn = s.updTurn := s.fld_at off _ _

theorem State.compatible_at (s : State) (off : Nat) (u : Update) (i : FwImage) : (s.at off).compatible u i = s.compatible u i := by
  unfold State.compatible
  rw [State.at_cpc]

/-! ### The host's requests (R708, R710, R716) -/

section
variable (hbusy : (s.at off).mbBusy = true) (hawake : (s.at off).mbAwake = true) (hstate : s.fwState ∈ [FW.running, FW.held])
  (hagreed : s.agreed / 2 ^ 1 % 2 = 1)
include hbusy hawake hstate hagreed

/-- A request of the update, whose feature is agreed, is worked on and answered. -/
theorem State.serve_update {op : Nat} {fields : List (Nat × Nat)} (work : List Nat → State → State × Nat × List Nat)
    (hop : s.mbOp = op) (hlayout : layoutOk s.mbReq fields = true) :
    (s.at off).serve op (some 1) true [FW.running, FW.held] fields work =
      (work s.mbReq (s.at off)).1.mbAnswer (work s.mbReq (s.at off)).2.1 (work s.mbReq (s.at off)).2.2 :=
  State.serve_at hbusy hawake work hop hstate (fun _ hk => Option.mem_some.mp hk ▸ hagreed) hlayout

theorem execUpdateStage_stages (hop : s.mbOp = 0x10) (hlayout : layoutOk s.mbReq [(8, 8), (16, 4), (20, 1)] = true)
    (h0 : 0 < reqAt s.mbReq 16 4) (hlen : reqAt s.mbReq 16 4 ≤ 2 ^ 20) (hforce : reqAt s.mbReq 20 1 < 2) (hidle : s.upd = UP.idle) :
    execUpdateStage off s = .next ((((s.at off).cpcMap (fun c => { c with
      update := some ⟨reqAt s.mbReq 8 8, reqAt s.mbReq 16 4, reqAt s.mbReq 20 1 = 1, [], ⟨0, 0, 0, 0, 0⟩, 0, 0, 0⟩ })).setUpd
        UP.staging 0).mbAnswer MB.accepted []) := by
  unfold execUpdateStage
  rw [State.serve_update hbusy hawake hstate hagreed _ hop hlayout]
  dsimp only
  rw [if_neg (by simp only [Bool.or_eq_true, decide_eq_true_eq]; omega), State.upd_at, hidle, if_neg (by decide)]

theorem execUpdateCommit_earliest (hop : s.mbOp = 0x11) (hlayout : layoutOk s.mbReq [(8, 4)] = true) (h0 : reqAt s.mbReq 8 4 = 0)
    (hstaged : s.upd = UP.staged) (hahead : 2 ≤ (s.at off).turnsTo (((s.at off).turn + 2) % 2 ^ 32)) :
    execUpdateCommit off s = .next ((((s.at off).setFld (Pg.cpc 11) F.CPC_UPD_TURN (((s.at off).turn + 2) % 2 ^ 32)).setUpd
      UP.committed 0).mbAnswer MB.ok (leBytes 4 (((s.at off).turn + 2) % 2 ^ 32))) := by
  unfold execUpdateCommit
  rw [State.serve_update hbusy hawake hstate hagreed _ hop hlayout]
  dsimp only
  rw [if_pos h0, State.upd_at, hstaged, if_neg (by decide)]
  simp only [ne_eq, not_true, decide_false, Bool.false_or, decide_eq_true_eq, if_neg (Int.not_lt.mpr hahead)]

theorem execUpdateAbort_refuses (hop : s.mbOp = 0x12) (hlayout : layoutOk s.mbReq [] = true) (hstaged : s.upd = UP.staged) :
    execUpdateAbort off s = .next (((s.at off).updEnd UP.refused 4).mbAnswer MB.ok [((s.at off).updEnd UP.refused 4).upd]) := by
  unfold execUpdateAbort
  rw [State.serve_update hbusy hawake hstate hagreed _ hop hlayout]
  dsimp only
  rw [State.upd_at, hstaged, show decide (UP.staged = UP.committed) = false from rfl, Bool.false_and, if_neg (by decide),
    if_pos (by decide)]

end

/-! ### The firmware's own steps (R709, R710, R711, R715) -/

section
variable {u : Update} (hu : s.cpc.update = some u)
include hu

theorem execUpdateStaged_stages {b : List (BitVec 8)} {i : FwImage} (hstaging : s.upd = UP.staging) (hrun : s.dutiesRun = true)
    (hfits : s.compatible u i = true) :
    execUpdateStaged off (some (b, i)) s = .next (((((s.at off).cpcMap (fun c => { c with
      update := some { u with image := b.map BitVec.toNat, info := i } })).setFld (Pg.cpc 11) F.CPC_UPD_NEW_VER
        i.version.toNat).setUpd UP.staged 0).tellHost (Pg.cpc 11) 0) := by
  unfold execUpdateStaged
  dsimp only
  rw [State.at_cpc, hu]
  dsimp only
  rw [State.upd_at, State.dutiesRun_at, hstaging, hrun, if_neg (by decide), State.compatible_at, hfits, if_neg (by decide)]

theorem execUpdateHandoff_hands (hcommitted : s.upd = UP.committed) (hturn : (s.at off).turnsTo s.updTurn ≤ 0)
    (hrun : s.fwState = FW.running) :
    execUpdateHandoff off s = .next ((((s.at off).cpcMap (fun c => { c with
      update := some { u with
        back := FW.running, backReason := s.fld (Pg.cpc 0) F.CPC_FW_STATE_b8, pausedAt := (s.at off).count },
      img := FMap.set c.img (1 - s.runRegion) u.image, info := FMap.set c.info (1 - s.runRegion) u.info })).showImage
        (1 - s.runRegion)).setFw FW.updating 0) := by
  have hwait : ¬ (decide ((s.at off).upd ≠ UP.committed) || decide (0 < (s.at off).turnsTo (s.at off).updTurn) ||
      !(decide ((s.at off).fwState = FW.running) || decide ((s.at off).fwState = FW.held))) = true := by
    rw [State.upd_at, State.updTurn_at, State.fwState_at, hcommitted, hrun]
    simpa using hturn
  unfold execUpdateHandoff
  dsimp only
  rw [State.at_cpc, hu]
  dsimp only
  rw [if_neg hwait, State.fwState_at, hrun, State.fld_at, State.runRegion_at]

theorem execUpdateAdopted_adopts (hstate : s.fwState = FW.updating) (hturn : -2 < (s.at off).turnsTo s.updTurn)
    (hforce : u.force = false) :
    execUpdateAdopted off s = .next ((((((s.at off).resumeFw u).updEnd UP.adopted 0).dropBlocks
      u.info.adopts.toNat).reagree).mbUnknown) := by
  unfold execUpdateAdopted
  dsimp only
  rw [State.at_cpc, hu]
  dsimp only
  rw [if_neg (by rw [State.fwState_at, State.updTurn_at, hstate]; simpa using hturn), hforce, if_neg (by decide)]

theorem execUpdateRollback_rollsBack {complete : Bool} (hstate : s.fwState = FW.updating)
    (hturn : (s.at off).turnsTo s.updTurn ≤ -2) :
    execUpdateRollback off complete s = .next ((((((s.at off).writeDump DC.updateFail 0xFF complete).showImage
      (1 - s.runRegion)).resumeFw u).updEnd UP.rolledBack 0).mbUnknown) := by
  unfold execUpdateRollback
  dsimp only
  rw [State.at_cpc, hu]
  dsimp only
  rw [if_neg (by rw [State.fwState_at, State.updTurn_at, hstate]; simpa using hturn), State.runRegion_at]

end

/-- Settles O26: each step of the update with its effect. -/
theorem updateCommandsComplete : Obligations.UpdateCommandsComplete := by
  unfold Obligations.UpdateCommandsComplete
  refine ⟨fun _ _ hb hk ho hs ha hl h0 hn hf hi => ⟨_, execUpdateStage_stages hb hk hs ha ho hl h0 hn hf hi, rfl⟩,
    fun _ _ _ _ _ hu hs hr hc => ⟨_, execUpdateStaged_stages hu hs hr hc, rfl⟩,
    fun _ _ hb hk ho hs ha hl h0 hu ht => ⟨_, execUpdateCommit_earliest hb hk hs ha ho hl h0 hu ht, rfl⟩,
    fun _ _ hb hk ho hs ha hl hu => ⟨_, execUpdateAbort_refuses hb hk hs ha ho hl hu, rfl⟩,
    fun _ _ _ hu hc ht hs => ⟨_, execUpdateHandoff_hands hu hc ht hs, rfl⟩,
    fun _ _ _ hu hs ht hf => ⟨_, execUpdateAdopted_adopts hu hs ht hf, rfl⟩,
    fun _ _ _ _ hu hs ht => ⟨_, execUpdateRollback_rollsBack hu hs ht, rfl⟩⟩

end Sys2Proof.Machine
end

section
/-!
PROOFS. The cluster's membership and its collectives, command by command (R694 to R704).
-/

namespace Sys2Proof.Machine

open Sys2Proof

variable {off : Nat} {s : State}

/-! ### What the offset within the turn leaves -/

theorem State.ownChip_at (s : State) (off : Nat) : (s.at off).ownChip = s.ownChip := s.fld_at off _ _

theorem State.epoch_at (s : State) (off : Nat) : (s.at off).epoch = s.epoch := s.fld_at off _ _

theorem State.routeKey_at (s : State) (off chip : Nat) : (s.at off).routeKey chip = s.routeKey chip := by
  unfold State.routeKey
  rw [State.ownChip_at]

theorem State.ringMin_at (s : State) (off : Nat) : (s.at off).ringMin = s.ringMin := by
  unfold State.ringMin
  rw [State.fld_at]

theorem State.collTmo_at (s : State) (off : Nat) : (s.at off).collTmo = s.collTmo := by
  unfold State.collTmo
  rw [State.fld_at]

theorem State.collChips_at (s : State) (off : Nat) (c : Collective) : (s.at off).collChips c = s.collChips c := by
  unfold State.collChips
  rw [State.at_cpc]

/-! ### The host's requests (R690, R694, R700, R703, R704) -/

section
variable (hbusy : (s.at off).mbBusy = true) (hawake : (s.at off).mbAwake = true) (hstate : s.fwState = FW.running)
include hbusy hawake hstate

/-- A request of the cluster, whose feature `k` is agreed, is worked on and answered by a running firmware. -/
theorem State.serve_running {op k : Nat} {fields : List (Nat × Nat)} (work : List Nat → State → State × Nat × List Nat)
    (hop : s.mbOp = op) (hagreed : s.agreed / 2 ^ k % 2 = 1) (hlayout : layoutOk s.mbReq fields = true) :
    (s.at off).serve op (some k) false [FW.running] fields work =
      (work s.mbReq (s.at off)).1.mbAnswer (work s.mbReq (s.at off)).2.1 (work s.mbReq (s.at off)).2.2 :=
  State.serve_at hbusy hawake work hop (List.mem_singleton.mpr hstate) (fun _ hk => Option.mem_some.mp hk ▸ hagreed) hlayout

theorem execChipRetire_declares (routes : List RouteWrite) (hop : s.mbOp = 0x30) (hagreed : s.agreed / 2 ^ 2 % 2 = 1)
    (hlayout : layoutOk s.mbReq [(8, 2)] = true) (hnew : reqAt s.mbReq 8 2 ∉ s.cpc.retired)
    (hother : reqAt s.mbReq 8 2 ≠ s.ownChip) :
    execChipRetire off routes s = .next (((s.at off).declare (reqAt s.mbReq 8 2) 2 s.ownChip routes).mbAnswer MB.ok
      (leBytes 2 ((s.at off).declare (reqAt s.mbReq 8 2) 2 s.ownChip routes).epoch)) := by
  unfold execChipRetire
  rw [State.serve_running hbusy hawake hstate _ hop hagreed hlayout]
  dsimp only
  rw [State.at_cpc, State.ownChip_at, if_neg hnew, if_neg hother]

theorem execChipReinstate_takesBack (routes : List RouteWrite) (hop : s.mbOp = 0x31) (hagreed : s.agreed / 2 ^ 2 % 2 = 1)
    (hlayout : layoutOk s.mbReq [(8, 2)] = true) (hold : reqAt s.mbReq 8 2 ∈ s.cpc.retired) :
    execChipReinstate off routes s = .next (((s.at off).takeBack (reqAt s.mbReq 8 2) s.ownChip routes).mbAnswer MB.ok
      (leBytes 2 ((s.at off).takeBack (reqAt s.mbReq 8 2) s.ownChip routes).epoch)) := by
  unfold execChipReinstate
  rw [State.serve_running hbusy hawake hstate _ hop hagreed hlayout]
  dsimp only
  rw [State.at_cpc, State.ownChip_at, if_pos hold]

theorem execT3RemapSet_replaces (hop : s.mbOp = 0x32) (hagreed : s.agreed / 2 ^ 3 % 2 = 1)
    (hlayout : layoutOk s.mbReq ((8, 1) :: (List.range (reqAt s.mbReq 8 1)).map (fun i => (16 + 4 * i, 4))) = true)
    (hn : reqAt s.mbReq 8 1 ≤ 16) :
    execT3RemapSet off s = .next (((s.at off).cpcMap (fun c => { c with
      alts := (List.range (reqAt s.mbReq 8 1)).map (fun i => (reqAt s.mbReq (16 + 4 * i) 2, reqAt s.mbReq (18 + 4 * i) 2)) })).mbAnswer
        MB.ok []) := by
  unfold execT3RemapSet
  rw [State.serve_running hbusy hawake hstate _ hop hagreed hlayout]
  dsimp only
  rw [if_neg (Nat.not_lt.mpr hn)]

theorem execCollCancel_cancels {e : Nat × Collective} (hop : s.mbOp = 0x21) (hagreed : s.agreed / 2 ^ 0 % 2 = 1)
    (hlayout : layoutOk s.mbReq [(8, 2)] = true) (he : s.cpc.colls.find? (fun e => e.2.id = reqAt s.mbReq 8 2) = some e) :
    execCollCancel off s = .next (((s.at off).endColl e.1 CE.cancelled).mbAnswer MB.ok []) := by
  unfold execCollCancel
  rw [State.serve_running hbusy hawake hstate _ hop hagreed hlayout]
  rw [State.at_cpc, he]

/-- The collective that a request asks for, its plan not yet made. -/
def State.askedColl (s : State) : Collective :=
  ⟨reqAt s.mbReq 8 2, reqAt s.mbReq 10 1, reqAt s.mbReq 11 1, reqAt s.mbReq 12 1, reqAt s.mbReq 14 2, reqAt s.mbReq 16 4,
    reqAt s.mbReq 24 8, reqAt s.mbReq 32 8, reqAt s.mbReq 40 1, reqAt s.mbReq 41 1, reqAt s.mbReq 48 32, s.epoch, 0, 0, 0⟩

/-- Its plan: algorithm and steps. -/
def State.askedPlan (s : State) : Nat × Nat :=
  collPlan (reqAt s.mbReq 10 1) (reqAt s.mbReq 16 4) s.ringMin (s.collChips s.askedColl)

/-- The collective that starts. -/
def State.newColl (s : State) : Collective := { s.askedColl with steps := s.askedPlan.2 }

/-- A collective taken as the first one: held, its state and its plan shown. -/
def State.collTaken (s : State) (c : Collective) (algo : Nat) : State :=
  (((((s.cpcMap (fun x => { x with colls := FMap.set x.colls 0 c })).setFld (Pg.cpc 0) (F.CPC_COLL_STATE_b0 0) 1).setFld (Pg.cpc 0)
    (F.CPC_COLL_STATE_b8 0) 0).setFld (Pg.cpc 0) (F.CPC_COLL_STATE_b16 0) c.id).setFld (Pg.cpc 0) (F.CPC_COLL_PLAN_b0 0)
      c.epoch).setFld (Pg.cpc 0) (F.CPC_COLL_PLAN_b16 0) algo

theorem execCollStart_starts (sends : List PlanSend) (hop : s.mbOp = 0x20) (hagreed : s.agreed / 2 ^ 0 % 2 = 1)
    (hlayout : layoutOk s.mbReq [(8, 2), (10, 1), (11, 1), (12, 1), (14, 2), (16, 4), (24, 8), (32, 8), (40, 1), (41, 1),
      (48, 32)] = true)
    (hfree : s.cpc.colls = []) (hkind : reqAt s.mbReq 10 1 = 0) (hsum : reqAt s.mbReq 11 1 = 0) (hint : reqAt s.mbReq 12 1 = 3)
    (hlen : reqAt s.mbReq 16 4 % 4 = 0) (hgroups : reqAt s.mbReq 40 1 ≤ reqAt s.mbReq 41 1) (hsteps : s.askedPlan.2 ≠ 0) :
    execCollStart off sends s = .next ((((s.at off).collTaken s.newColl s.askedPlan.1).sendChunks s.newColl sends).mbAnswer
      MB.accepted [0]) := by
  unfold execCollStart
  rw [State.serve_running hbusy hawake hstate _ hop hagreed hlayout]
  dsimp only
  rw [show (List.range 8).find? (fun k => (FMap.get? (s.at off).cpc.colls k).isNone) = some 0 by rw [State.at_cpc, hfree]; rfl]
  dsimp only
  rw [if_neg ?bad, State.epoch_at, State.ringMin_at, State.collChips_at]
  case bad =>
    rw [State.at_cpc, hfree, hkind, hsum, hint, hlen]
    simpa using hgroups
  unfold State.collTaken State.newColl
  unfold State.askedPlan State.askedColl at hsteps ⊢
  rw [if_neg hsteps]

end

/-! ### HELLO and the messages of the neighbours (R701, R702, R704) -/

theorem execHelloSend_due {w : State} (h : (s.at off).dutyDue Duty.hello 24 = some w) :
    execHelloSend off s = .next (w.upLinks.foldl State.sendHello w).rykPump := by
  unfold execHelloSend
  dsimp only
  rw [h]

section
variable {link : Nat} {m : List Nat} {w : State}

theorem execCtlHello_answers (h : (s.at off).takeCtl 1 = .inr (w, link, m)) (hdigest : beAt m 16 4 ≠ w.digest)
    (hepoch : beAt m 4 2 ≤ w.epoch) : execCtlHello off s = .next (w.sendMembers link) := by
  unfold execCtlHello
  rw [h]
  dsimp only
  rw [if_neg hdigest, if_neg (Nat.not_lt.mpr hepoch)]

theorem execCtlRetire_declares (routes : List RouteWrite) (h : (s.at off).takeCtl 2 = .inr (w, link, m))
    (hnew : beAt m 8 2 ∉ w.cpc.retired) :
    execCtlRetire off routes s = .next (w.declare (beAt m 8 2) (m.getD 10 0) (beAt m 12 2) routes) := by
  unfold execCtlRetire
  rw [h]
  dsimp only
  rw [if_neg hnew]

theorem execCtlReinstate_takesBack (routes : List RouteWrite) (h : (s.at off).takeCtl 3 = .inr (w, link, m))
    (hold : beAt m 8 2 ∈ w.cpc.retired) :
    execCtlReinstate off routes s = .next (w.takeBack (beAt m 8 2) (beAt m 12 2) routes) := by
  unfold execCtlReinstate
  rw [h]
  dsimp only
  rw [if_pos hold]

/-- The set of a peer that is ahead is adopted (R702). -/
theorem State.peerSet_ahead {epoch : Nat} {set : List Nat} (routes : List RouteWrite) (h : s.epoch < epoch) :
    s.peerSet epoch set routes = s.setMembers (ascending set) epoch routes :=
  if_pos h

/-- The addresses that a MEMBERS frame carries. -/
def frameMembers (m : List Nat) : List Nat := (List.range (min (beAt m 12 2) 248)).map (fun i => beAt m (16 + 2 * i) 2)

theorem execCtlMembers_adopts (routes : List RouteWrite) (h : (s.at off).takeCtl 4 = .inr (w, link, m))
    (hfirst : FMap.get? w.cpc.sets link = none) (hall : beAt m 8 2 ≤ (ascending (frameMembers m)).length)
    (hahead : w.epoch < beAt m 4 2) :
    execCtlMembers off routes s = .next ((w.cpcMap (fun c => { c with sets := FMap.erase c.sets link })).setMembers
      (ascending (ascending (frameMembers m))) (beAt m 4 2) routes) := by
  unfold execCtlMembers
  rw [h]
  dsimp only
  rw [hfirst]
  dsimp only
  rw [List.nil_append]
  exact (if_pos hall).trans (congrArg Host.Outcome.next (State.peerSet_ahead routes hahead))

end

/-! ### Chips that are lost (R700, R704) -/

theorem execPeerLost_declares {chip : BitVec 16} (routes : List RouteWrite) {t0 : Nat} (hrun : s.dutiesRun = true)
    (hsince : FMap.get? s.cpc.noRoute (s.routeKey chip.toNat) = some t0)
    (hlong : t0 + max 48 (s.fld (Pg.cpc 0) F.CPC_CLU_CFG_PEER_LOST) ≤ s.safe.ticks) (hother : chip.toNat ≠ s.ownChip)
    (hnew : chip.toNat ∉ s.cpc.retired) :
    execPeerLost off chip routes s = .next ((s.at off).declare chip.toNat 1 s.ownChip routes) := by
  unfold execPeerLost
  dsimp only
  rw [State.at_cpc, State.routeKey_at, hsince]
  dsimp only
  rw [State.fld_at, State.at_safe, State.dutiesRun_at, State.ownChip_at, if_pos (by simp [hrun, hother, hnew]; omega)]

theorem execSelfRetire_retires (routes : List RouteWrite) (hrun : s.dutiesRun = true)
    (hoften : max 1 (s.fld (Pg.cpc 0) F.CPC_CLU_CFG_SELF_RETIRE) ≤
      (s.safe.entries.filter (fun t0 => s.safe.ticks < t0 + 24000)).length) (hnew : s.ownChip ∉ s.cpc.retired) :
    execSelfRetire off routes s = .next ((s.at off).selfRetire 3 routes) := by
  unfold execSelfRetire
  dsimp only
  rw [State.fld_at, State.at_safe, State.dutiesRun_at, State.ownChip_at, State.at_cpc, hrun, decide_eq_true hoften, decide_eq_true hnew,
    if_pos (by decide)]

/-! ### Collectives in progress (R697, R698) -/

theorem execCollFrame_goesOn (sends : List PlanSend) {a : Nat × Option Nat} {f : RFrame} {k : Nat} {c : Collective}
    (hrun : s.dutiesRun = true) (hf : f.type = 3) (hbox : s.ryk.inbox = [(a.1, a.2, f)]) (hcolls : s.cpc.colls = [(k, c)])
    (hid : c.id = beAt f.payload 0 2) (hepoch : c.epoch = beAt f.payload 2 2)
    (hmore : max c.step (beAt f.payload 4 2 + 1) < c.steps) :
    execCollFrame off sends s = .next (((((s.at off).rykMap (fun r => { r with inbox := [] })).takeChunk c (beAt f.payload 4 2)
      (beAt f.payload 6 4) ((f.payload.drop 64).take 4096)).cpcMap (fun x => { x with
        colls := FMap.set x.colls k { c with step := max c.step (beAt f.payload 4 2 + 1), ran := 0 } })).sendChunks
          { c with step := max c.step (beAt f.payload 4 2 + 1), ran := 0 } sends) := by
  have hmine : (s.at off).cpc.colls.find? (fun e => e.2.id = beAt f.payload 0 2) = some (k, c) := by
    rw [State.at_cpc, hcolls, ← hid]
    simp
  have htake := State.takeInbox_first (s := s.at off) (e := (a.1, a.2, f)) (l := [])
    (p := fun f => (s.at off).dutiesRun && f.type = 3 &&
      ((s.at off).cpc.colls.find? (fun e => e.2.id = beAt f.payload 0 2)).isSome)
    (by rw [State.at_ryk, hbox]) (by rw [hmine, State.dutiesRun_at]; simp [hrun, hf])
  have hempty : (s.at off).rykMap (fun r => { r with inbox := r.inbox.erase (a.1, a.2, f) }) =
      (s.at off).rykMap (fun r => { r with inbox := [] }) := by
    unfold State.rykMap
    rw [State.at_ryk]
    dsimp only
    rw [hbox, List.erase_cons_head]
  unfold execCollFrame
  dsimp only
  rw [htake]
  dsimp only
  rw [hmine]
  dsimp only
  rw [if_neg (by simp [hepoch]), if_neg (by omega), hempty]

theorem execCollTimeout_ends {k : Fin 8} {c : Collective} (hc : FMap.get? s.cpc.colls k.val = some c) (hlong : s.collTmo ≤ c.ran) :
    execCollTimeout off k s = .next ((s.at off).endColl k.val CE.timeout) := by
  unfold execCollTimeout
  dsimp only
  rw [State.at_cpc, hc]
  dsimp only
  rw [State.collTmo_at, if_pos hlong]

/-- Settles O27: each command of the cluster with its effect. -/
theorem clusterCommandsComplete : Obligations.ClusterCommandsComplete := by
  unfold Obligations.ClusterCommandsComplete
  refine ⟨fun _ r _ hb hk ho hs ha hl hn hc => ⟨_, execChipRetire_declares hb hk hs r ho ha hl hn hc, rfl⟩,
    fun _ r _ hb hk ho hs ha hl hn => ⟨_, execChipReinstate_takesBack hb hk hs r ho ha hl hn, rfl⟩,
    fun _ _ hb hk ho hs ha hl hn => ⟨_, execT3RemapSet_replaces hb hk hs ho ha hl hn, rfl⟩,
    fun _ _ _ h => ⟨_, execHelloSend_due h, rfl⟩, fun _ _ _ _ _ h hd he => ⟨_, execCtlHello_answers h hd he, rfl⟩,
    fun _ r _ _ _ _ h hn => ⟨_, execCtlRetire_declares r h hn, rfl⟩,
    fun _ r _ _ _ _ h hn => ⟨_, execCtlReinstate_takesBack r h hn, rfl⟩,
    fun _ r _ _ _ _ h hf ha he => ⟨_, execCtlMembers_adopts r h hf ha he, rfl⟩,
    fun _ _ r _ _ hr hs hl ho hn => ⟨_, execPeerLost_declares r hr hs hl ho hn, rfl⟩,
    fun _ r _ hr ho hn => ⟨_, execSelfRetire_retires r hr ho hn, rfl⟩, ?start,
    fun _ _ _ hb hk ho hs ha hl he => ⟨_, execCollCancel_cancels hb hk hs ho ha hl he, rfl⟩,
    fun _ sends _ _ _ _ _ hr hf hb hc hi he hm => ⟨_, execCollFrame_goesOn sends hr hf hb hc hi he hm, rfl⟩,
    fun _ _ _ _ hc hl => ⟨_, execCollTimeout_ends hc hl, rfl⟩⟩
  case start =>
    rintro off sends c s _ hb hk ho hs ha hl hfree hkind hsum hint hlen hgroups hc hplan hsteps rfl
    have hasked : s.askedColl = { c with steps := 0 } := by
      rw [hc]
      simp only [State.askedColl, hkind, hsum, hint]
    have hchips : s.collChips c = s.collChips s.askedColl := by
      rw [hasked]
      rfl
    have hlength : c.len = reqAt s.mbReq 16 4 := congrArg Collective.len hc
    have hplan' : collPlan 0 c.len s.ringMin (s.collChips c) = s.askedPlan := by
      unfold State.askedPlan
      rw [hchips, hlength, hkind]
    have hnew : s.newColl = c := by
      unfold State.newColl
      rw [hasked, ← hplan', ← hplan]
    rw [hplan'] at hplan ⊢
    refine ⟨_, execCollStart_starts hb hk hs sends ho ha hl hfree hkind hsum hint hlen hgroups (hplan ▸ hsteps), ?_⟩
    rw [hnew, State.collTaken, show c.id = reqAt s.mbReq 8 2 from congrArg Collective.id hc,
      show c.epoch = s.epoch from congrArg Collective.epoch hc]

end Sys2Proof.Machine
end

section
/-!
PROOFS. The context slots, the delivery rings and the completions of the host interface (R611 to R638).
-/

namespace Sys2Proof.Machine

open Sys2Proof

variable {off : Nat} {s : State}

/-! ### What the offset within the turn leaves -/

theorem State.tagCurrent_at (s : State) (off : Nat) (e : TagEntry) : (s.at off).tagCurrent e = s.tagCurrent e := by
  unfold State.tagCurrent
  rw [State.fld_at]

theorem State.tagDesc_at (s : State) (off : Nat) (e : TagEntry) : (s.at off).tagDesc e = s.tagDesc e := by
  unfold State.tagDesc
  rw [State.ctx_at]

theorem State.freeTag_at (s : State) (off : Nat) : (s.at off).freeTag = s.freeTag := by
  unfold State.freeTag
  rw [State.fld_at, State.at_pumps]

theorem State.ctoMicros_at (s : State) (off : Nat) : (s.at off).ctoMicros = s.ctoMicros := by
  unfold State.ctoMicros
  rw [State.at_pcie]

/-! ### Delivery rings and slot messages (R616, R617, R622) -/

theorem State.freePost_open {fn t : Nat} {v : Word} (h : s.bit (Pg.pci 2) (F.PCI_FN_STAT_FENCED fn) = false) :
    s.freePost fn t v = s.applyWrite (fullPart (localPage fn (9 + t)) 0x05C) v true :=
  if_neg (ne_true_of_eq_false h)

theorem execDeliveryFreePost_posts {f : Fin 61} {k : Fin 4} {tail : BitVec 16}
    (h : s.bit (Pg.pci 2) (F.PCI_FN_STAT_FENCED (f.val + 1)) = false) :
    execDeliveryFreePost off f k tail s =
      .next ((s.at off).applyWrite (fullPart (localPage (f.val + 1) (9 + k.val)) 0x05C) (BitVec.ofNat 32 tail.toNat) true) :=
  congrArg Host.Outcome.next (State.freePost_open ((s.bit_at off _ _).trans h))

/-- A diverted primary is accepted by a ring that takes it before its deadline (R617). -/
theorem State.acceptDivert_accepts {n buf : Nat} {d : Divert} (hd : s.pipe.diverts[n]? = some d)
    (hring : s.ringAccepts d.ring = true) (hdeadline : s.count < d.deadline) (heapol : d.eapol = false) :
    s.acceptDivert n buf = (((s.pipeMap (fun p => { p with diverts := p.diverts.eraseIdx n })).deliver d.ring buf
      ((s.frame d.frame).item 0 0 (s.frame d.frame).bytes)).release d.frame) := by
  unfold State.acceptDivert
  rw [hd]
  dsimp only
  rw [hring, decide_eq_true hdeadline, if_pos (by decide), heapol]
  rfl

theorem execDeliveryAccept_divert {n : Nat} {buf : BitVec 64} {d : Divert} (hd : s.pipe.diverts[n]? = some d)
    (hring : (s.at off).ringAccepts d.ring = true) (hdeadline : (s.at off).count < d.deadline) (heapol : d.eapol = false) :
    execDeliveryAccept off .divert n buf s = .next ((((s.at off).pipeMap (fun p => { p with
      diverts := p.diverts.eraseIdx n })).deliver d.ring buf.toNat ((s.frame d.frame).item 0 0 (s.frame d.frame).bytes)).release
        d.frame) := by
  refine congrArg Host.Outcome.next ((State.acceptDivert_accepts ?_ hring hdeadline heapol).trans ?_)
  · rw [State.at_pipe, hd]
  · rw [State.frame_at]

theorem execHoldoffExpiry_context {fn : BitVec 6} {slot : Fin 12} {t0 : Nat}
    (hwaits : FMap.get? s.host.slotIrq (16 * fn.toNat + slot.val) = some (t0, true)) (hslot : slot.val < 8)
    (hended : t0 + 64 * s.fld (slotPage fn.toNat slot.val) F.LOC_CS_CFG_HOLDOFF ≤ (s.at off).count) :
    execHoldoffExpiry off fn slot s = .next (((s.at off).raiseVector fn.toNat (s.fld (slotPage fn.toNat slot.val)
      F.LOC_CS_CFG_VEC)).hostMap (fun h => { h with
        slotIrq := FMap.set h.slotIrq (16 * fn.toNat + slot.val) ((s.at off).count, false) })) := by
  unfold execHoldoffExpiry
  dsimp only
  rw [State.at_host, hwaits]
  dsimp only
  rw [if_pos hslot, if_pos hslot, State.fld_at, State.fld_at, if_pos hended]

/-- The mask of every component but the Pumps' tags and contexts (bit 31). -/
def besidePumps : Nat := 0x17ffffffeff7fffffff

theorem State.raiseIrq_pumps (s : State) (p b : Nat) : (s.raiseIrq p b).pumps = s.pumps :=
  (State.raiseIrq_keeps (M := besidePumps) (.refl _ s) rfl (.all rfl)).pumps rfl

/-! ### Completions (R623 to R625, R638) -/

section
variable {tag : BitVec 10} {e : TagEntry} (he : FMap.get? s.pumps.tags tag.toNat = some e)
include he

theorem execCompletionArrival_lands {b : List (BitVec 8)} (hcurrent : s.tagCurrent e = true) :
    execCompletionArrival off tag b s = .next (((s.at off).freeEntry tag.toNat).landData e (b.map BitVec.toNat)) := by
  unfold execCompletionArrival
  dsimp only
  rw [State.at_pumps, he]
  dsimp only
  rw [State.tagCurrent_at, hcurrent, if_pos rfl]

theorem execPoisonedTlp_ends (hcurrent : s.tagCurrent e = true) :
    execPoisonedTlp off tag true s = .next ((((((s.at off).freeEntry tag.toNat).incFld (Pg.pci 0) F.PCI_ERRS_b16).raiseIrq
      (Pg.pci 0) 4).emit .errLogged).endDesc e PStat.poison) := by
  unfold execPoisonedTlp
  dsimp only
  rw [State.at_pumps, he]
  dsimp only
  rw [State.tagCurrent_at, hcurrent, if_pos rfl]
  rfl

/-- A read that times out for the first or the second time is issued again under a free tag, or its own (R625). -/
theorem execCompletionTimeout_reissues {us : Nat} {d : Desc} (hrecovery : s.pcie.recovery = false) (hus : s.ctoMicros ≤ us)
    (howned : e.orphan = false) (hd : s.tagDesc e = some d) (hretries : e.retries < 2) :
    ∃ t : State, execCompletionTimeout off tag us s = .next t ∧
      FMap.get? t.pumps.tags (s.freeTag.getD tag.toNat) = some { e with retries := e.retries + 1 } := by
  unfold execCompletionTimeout
  dsimp only
  rw [State.at_pumps, he]
  dsimp only
  rw [State.at_pcie, hrecovery, State.ctoMicros_at, if_neg (by simpa using hus), if_neg (ne_true_of_eq_false howned), State.tagDesc_at,
    hd, State.freeTag_at]
  dsimp only
  rw [if_pos hretries]
  refine ⟨_, rfl, ?_⟩
  rw [State.raiseIrq_pumps]
  exact (FMap.get?_set _ _ _ _).trans (if_pos rfl)

end

/-- Settles O17: each command of the slots, the rings and the completions with its effect. -/
theorem hostTransferCommandsComplete : Obligations.HostTransferCommandsComplete := by
  unfold Obligations.HostTransferCommandsComplete
  exact ⟨fun _ _ _ _ _ => ⟨_, rfl, rfl⟩, fun _ _ _ _ _ _ => ⟨_, rfl, rfl⟩,
    fun _ _ _ _ _ h => ⟨_, execDeliveryFreePost_posts h, rfl⟩,
    fun _ _ _ _ _ hd hr ht he => ⟨_, execDeliveryAccept_divert hd hr ht he, rfl⟩,
    fun _ _ _ _ _ hw hs he => ⟨_, execHoldoffExpiry_context hw hs he, rfl⟩,
    fun _ _ _ _ _ he hc => ⟨_, execCompletionArrival_lands he hc, rfl⟩,
    fun _ _ _ _ _ _ he hr hu ho hd hn => execCompletionTimeout_reissues he hr hu ho hd hn,
    fun _ _ _ _ he hc => ⟨_, execPoisonedTlp_ends he hc, rfl⟩⟩

end Sys2Proof.Machine
end

section
/-!
PROOFS. A refutation: a request's timeout is RYK_T3_TMO as it is in force, not as it is written (R117, R662).
-/

namespace Sys2Proof.Machine

open Sys2Proof

/-- A request under tag 0 whose timer has run one turn. RYK_T3_TMO is written to 1 turn, which no boundary has yet brought into
force: that is still its reset value, 240 turns. -/
def shortenedTimeout : State :=
  ({ State.reset with count := 65536 }.rykMap (fun r => { r with tags := [(0, ⟨0, 0, 0, 7, 0, 0, none, 0, 0⟩)] })).setFld (Pg.ryk 0)
    F.RYK_T3_TMO 1

/-- The request meets the clause's conditions, which read the register as written. -/
theorem shortenedTimeout_meets :
    FMap.get? shortenedTimeout.ryk.tags (0 : BitVec 12).toNat = some ⟨0, 0, 0, 7, 0, 0, none, 0, 0⟩ ∧
      65536 * shortenedTimeout.fld (Pg.ryk 0) F.RYK_T3_TMO ≤ (shortenedTimeout.at 0).t3Ran ⟨0, 0, 0, 7, 0, 0, none, 0, 0⟩ := by
  decide +kernel

/-- Its time is not over: no timeout is counted. -/
theorem t3Timeout_notInForce :
    (next? (exec (.t3Timeout 0 0) shortenedTimeout)).map (fun t => t.fld (Pg.ryk 0) F.RYK_T3_LOSS_TIMEOUT) = some 0 := by
  decide +kernel

/-- Refutes O18: T3_TIMEOUT goes by RYK_T3_TMO in force, so a request outlives a shorter timeout written in this turn. -/
theorem not_ryuklinCommandsComplete : ¬ Obligations.RyuklinCommandsComplete := by
  rintro ⟨-, -, -, -, -, -, -, -, -, t3Timeout, -⟩
  obtain ⟨hheld, hran⟩ := shortenedTimeout_meets
  obtain ⟨t, hrun, ht⟩ := t3Timeout 0 0 _ _ hheld hran
  have h0 : t.fld (Pg.ryk 0) F.RYK_T3_LOSS_TIMEOUT = 0 := by
    have h := t3Timeout_notInForce
    rw [hrun] at h
    exact Option.some.inj h
  have h1 : t.fld (Pg.ryk 0) F.RYK_T3_LOSS_TIMEOUT = 1 := by
    rw [ht]
    decide +kernel
  exact absurd (h0.symm.trans h1) (by decide)

end Sys2Proof.Machine
end
